-- ==== Sys2Proof/Word.lean ====
section
/-! DEFINITION. The word types of the hub: 32-bit registers (R1) and bytes. -/

namespace Sys2Proof

/-- A register word (R1: every register is 32 bits wide). -/
abbrev Word := BitVec 32

/-- A byte of a packet, a command buffer or a capture bank (R1: little-endian order). -/
abbrev Byte := BitVec 8

end Sys2Proof
end

