-- ==== Sys2Proof/Syntax.lean ====
section
/-! DEFINITION. The commands of the hub: one constructor per row of the table of operations and events, with
the operands the row needs. Instants are in units of tau/256 of counter C (R191), channels are global numbers
(R6), `Path` is the path of a register access. -/

namespace Sys2Proof

/-- The paths by which registers are accessed and commands arrive: the host port, or MGMT packets on a lane. -/
inductive Path | host | mgmt (lane : Nat)
  deriving DecidableEq, Repr

/-- The core rails of R52, and first application of power. -/
inductive CoreRail | vddC | vddIo | first
  deriving DecidableEq, Repr

/-- The strap pins as sampled (R42). -/
structure Straps where
  twinEn : Bool
  twinSide : Bool
  bootMode : Nat
  /-- Any of FT0 to FT3 is high (R430). -/
  ft : Bool := false
  deriving DecidableEq, Repr

/-- The confirming lead detectors of R113. -/
inductive LeadDet | compliance | forceSense (k : Nat) | collapse (k : Nat)
  deriving DecidableEq, Repr

/-- What a lead test found: local channels with a pin outside the window or a source out of compliance, balls
shorted (channel of any sheaf, mask X N P), and a shorted SHss_ pin (R117, R118). -/
structure LtFind where
  opens : List Nat
  shorts : List (Nat × Nat)
  shPin : Bool
  deriving DecidableEq, Repr

/-- What the adjacent-pin test read at a pin, 0 BCN_G, 1 BCN_S, 2 BCN_D, of string m: the level it reached, and by how much the same pin of
the string before and of the one after moved, in mV (R413). -/
structure AdjRead where
  m : Nat
  pin : Nat
  level : Nat
  lo : Nat := 0
  hi : Nat := 0
  deriving DecidableEq, Repr

/-- The fields of a TIME packet (R205): instants in 2^-48 s, low 32 bits of seconds. -/
structure TimePkt where
  id : Nat
  dep : Nat
  arrId : Nat
  arr : Nat
  arrv : Bool
  stepser : Nat
  state : Nat
  hops : Nat
  bound : Nat
  frate : Nat
  crcOk : Bool
  deriving DecidableEq, Repr

/-- How a bank access through the host window fared: collision 0 none, 1 write against write, 2 host read later than an
owner's write, 3 host write later than an owner's read, 4 owner later (R376); ECC finding 0 none, 1 corrected, 2
uncorrectable (R377). -/
structure MemHit where
  kind : Nat := 0
  err : Nat := 0
  deriving DecidableEq, Repr

/-- A word that a read finds in error (R28, R377): memory 0 to 11 a bank, 12 the queue memory, byte offset, and whether the error is
uncorrectable. -/
structure MemErr where
  m : Nat
  off : Nat
  ue : Bool
  deriving DecidableEq, Repr

/-- What ECC finds in the words that a job or an image command reads (R28): whether one is uncorrectable, its byte offset from the start of
what is read, and the corrected errors, one memory 0 to 12 and byte offset each. -/
structure ReadEcc where
  ue : Bool := false
  off : Nat := 0
  corr : List (Nat × Nat) := []
  deriving DecidableEq, Repr

/-- What ECC finds in the hold store as the assembler reads it: the streams whose stook meets an uncorrectable word (R285), and how
many words were read with a corrected error (R28). -/
structure PassEcc where
  ue : List Nat := []
  corr : Nat := 0
  deriving DecidableEq, Repr

/-- A return word of a die-to-die link (R61): its lane, its number counted from training, and whether its slot belongs to the odd
sheaf of the pair. -/
structure LaneWord where
  lane : Nat
  w : Nat
  odd : Bool
  deriving DecidableEq, Repr

/-- Words of a lane that failed (R306): the numbers of the invalid ones, oldest first, and the instant of the last. -/
structure BadWords where
  bad : List Nat
  t : Nat
  deriving DecidableEq, Repr

/-- STEP sets that a lane has sent since its rate step began (R311). -/
structure StepSent where
  lane : Nat
  sent : Nat
  deriving DecidableEq, Repr

/-- The bits that a lane's checker has received, newest first (R318). -/
structure PrbsRx where
  lane : Nat
  rx : List Bool
  deriving DecidableEq, Repr

/-- What a lane's checker has found (R318): errors among the last 4096 bits, and errors and bits compared since the last tick. -/
structure PrbsLoss where
  lane : Nat
  win : Nat
  errs : Nat
  bits : Nat
  deriving DecidableEq, Repr

/-- An instruction byte of the host port and the byte that should be its inverse (R384). -/
structure InstrPair where
  op : Byte
  inv : Byte
  deriving DecidableEq, Repr

/-- What the fuses carry (R65): column repairs, and the latencies of the lanes by rate (R204). -/
structure FuseData where
  repairs : List Nat := []
  lats : List (Nat × Nat) := []
  deriving DecidableEq, Repr

/-- The sheaf of a lead test, and the channels it covers: all, or the one named (R122). -/
structure LtTarget where
  ss : Nat
  all : Bool
  cc : Nat
  deriving DecidableEq, Repr

/-- A rising edge of a pin: its instant, the low time before it and the high time after it, in tau/256 (R216). -/
structure PinEdge where
  t : Nat
  low : Nat
  high : Nat
  deriving DecidableEq, Repr

/-- The fields of a TRIG packet (R244), the instant in 2^-48 s, with ORIGIN, LANE and HOPS of its header (R324). -/
structure TrigPkt where
  line : Nat
  ttl : Nat
  id : Nat
  origin : Nat
  inst : Nat
  creator : Nat
  lane : Nat
  hops : Nat
  deriving DecidableEq, Repr

/-- A packet (R324), without its CRC, which `bad` says is a wrong one (R426). `via` is the model's own: arrival lane and credit cost of a relayed packet, until
its credit returns (R338). -/
structure Pkt where
  ty : Nat
  first : Bool := false
  last : Bool := false
  retx : Bool := false
  lseq : Nat := 0
  queue : Nat := 0
  hops : Nat := 0
  lane : Nat := 0
  origin : Nat := 0
  qpos : Nat := 0
  dest : Nat := 0
  body : List Byte := []
  via : Option (Nat × Nat) := none
  bad : Bool := false
  deriving DecidableEq, Repr

/-- Link status (R326). -/
structure LinkSt where
  ackseq : Nat
  climS : Nat
  climP : Nat
  path : Bool
  unlimS : Bool
  reason : Nat
  deriving DecidableEq, Repr

/-- The fields of a LEASE message (R353): its ORIGIN and payload; outputs as 4 ss + k, STATUS, SET, IOUT. -/
structure Lease where
  origin : Nat
  role : Nat
  side : Bool
  locked : Bool
  ready : Bool
  swapgo : Bool
  msgno : Nat
  serial : Nat
  frame : Nat
  epoch : Nat
  swapfr : Nat
  len : Nat
  guard : Nat
  outs : List (Nat × (Nat × (Nat × Nat)))
  deriving DecidableEq, Repr

/-- The instructions of the test access port (R428). -/
inductive JtagOp | bypass | idcode | sample | extest | clamp | highz | tstacc | extestPulse | extestTrain
  deriving DecidableEq, Repr

/-- What the quantiser of one channel's modulator returned in a frame: the modulator cycle of the first code, counted since
C = 0, and the codes of successive cycles (R141). -/
structure ChanIn where
  g : Nat
  k : Nat
  codes : List Nat
  deriving DecidableEq, Repr

/-- What the outside and the analogue side present at a tick. -/
structure TickIn where
  /-- Modulator outputs of the frame that ended (R17, R141). -/
  cic : List ChanIn
  /-- Sequencer copies A, B, C that agree, one bit each (R200). -/
  votes : Nat
  /-- Departure stamps of the TIME ordered sets, lane and tau/256 (R204). -/
  deps : List (Nat × Nat)
  /-- Per output 4*ss+k: mean current in uA, sense and force-sense in 160 uV over the last frame (R139). -/
  exc : List (Nat × (Nat × Nat × Int))
  /-- Progress of running offloads: plan, stored samples per channel read so far, and the words in error that the read met, each
  with its segment. -/
  off : List (Nat × (Nat × List (Nat × MemErr)))
  /-- Per lane: invalid words, lowest and latest FOM of the frame that ended (R307, R314). -/
  lanes : List (Nat × (Nat × (Nat × Nat)))
  /-- Per lane at 10.0 and 12.5 Gbaud: the DFE taps to which it has tracked (R315). -/
  dfe : List (Nat × List Nat) := []
  /-- Per lane in MODE PRBS with a locked checker: mismatches and compared bits of the frame, injected bits apart (R318). -/
  prbs : List (Nat × (Nat × Nat))
  /-- Errors that ECC found in the frame: coefficient words with an uncorrectable error, by 256 x bank + index, as they read
  (R181), words of the linearisation memory
  with one (R237), and corrected errors (R28) by sheaf of their FLT page, 16 for the LIN page. -/
  coefUe : List (Nat × Word)
  linUe : List Nat
  corr : List (Nat × Nat)
  deriving DecidableEq, Repr

/-- The table of operations and events, in its order. -/
inductive Instr
  /-- MILESTONE_TICK (R18): the voted tick is issued, with the CIC input of the frame that ended and the sequencer votes. -/
  | milestoneTick (i : TickIn)
  /-- DSP_PASS_LATE_START (R22): the held pass starts. -/
  | dspPassLateStart
  /-- DSP_PASS_END (R18): the running pass completes at the verdict cutoff; what ECC finds in the hold store, and the streams whose Winnow
  verifier finds a difference (R292). -/
  | dspPassEnd (ue : PassEcc) (wv : List Nat)
  /-- SAFE_ENTRY (R24): the SAFE condition of R23 holds. -/
  | safeEntry
  /-- SAFE_CAUSE_CLEARED (R24): 64 clean frames have passed. -/
  | safeCauseCleared
  /-- PROCESSOR_RESTART (R13): lockstep mismatch or watchdog. -/
  | processorRestart
  /-- COMPLETION_HELD_SEND (R14): a lane of a held completion's pair is available again. -/
  | completionHeldSend
  /-- D2D_TRAINED (R59): link n trained: lanes that passed (bit per lane) and measured trims in 10 ps. -/
  | d2dTrained (n : Nat) (ok : Nat) (trims : List Nat)
  /-- D2D_WORD_ERROR (R61): a return word of link n failed its check. -/
  | d2dWordError (n : Nat) (x : LaneWord)
  /-- D2D_LANE_FAIL (R61): lane of link n declared failed. -/
  | d2dLaneFail (n lane : Nat)
  /-- D2D_UNRECOVERABLE_WORD (R62): a word slot fails on two lanes at once: the sheafs of the die whose words are lost. -/
  | d2dUnrecoverableWord (n : Nat) (sheafs : List Nat)
  /-- D2D_TRIM_REMEASURE (R60): the measured forward delays of link n. -/
  | d2dTrimRemeasure (n : Nat) (trims : List Nat)
  /-- POWER_ON_RESET (R63): undervoltage of a core rail, or first power. -/
  | powerOnReset (rail : CoreRail)
  /-- POR_RELEASE (R55): the reset hold ends; strap pin levels. -/
  | porRelease (st : Straps)
  /-- BOOT_COMPLETE (R65): boot ends with its fuse and ROM checks' outcome and what the fuses carry. -/
  | bootComplete (fuseOk romOk : Bool) (f : FuseData)
  /-- XOS_LOSS (R57): no edge for 2 us (none), or XOS off by this many tenths of a percent. -/
  | xosLoss (off : Option Nat)
  /-- LANE_RAIL_LOSS (R55): VDD_L (false) or VDD_LH (true) below threshold. -/
  | laneRailLoss (lh : Bool)
  /-- LANE_RAIL_RESTORE (R55): both lane rails present again, PLL-L starts. -/
  | laneRailRestore
  /-- FIELD_DIE_RAIL_LOSS (R54): die n loses VDD_FD or VDDA. -/
  | fieldDieRailLoss (n : Nat)
  /-- FIELD_DIE_RAIL_RESTORE (R54): both rails of die n present again. -/
  | fieldDieRailRestore (n : Nat)
  /-- DIE_CHANNEL_RESTORE (R145): first tick after the restored die's buffers are ready. -/
  | dieChannelRestore (n : Nat)
  /-- LREF_LOSS (R58): LREF lost or PLL-L unlocked. -/
  | lrefLoss
  /-- PLLL_RELOCK (R58): PLL-L locks again. -/
  | plllRelock
  /-- RESET_N_ASSERT (R63): RESET_N low for this many ns so far. -/
  | resetNAssert (ns : Nat)
  /-- RESET_N_RELEASE (R42): rising edge of RESET_N; strap pin levels. -/
  | resetNRelease (st : Straps)
  /-- TRST_N_ASSERT (R63): TRST_N low. -/
  | trstNAssert
  /-- SLEEP_DRAIN_DONE (R68): the queues have drained. -/
  | sleepDrainDone
  /-- SLEEP_TIMEOUT (R69): 1000 frames without a drain. -/
  | sleepTimeout
  /-- WAKE_CHANNEL_RESTORE (R71): first tick after the required buffers are ready. -/
  | wakeChannelRestore
  /-- REGISTER_WRITE (R80): write of one register. -/
  | registerWrite (p : Path) (a : Nat) (w : Word)
  /-- PG_ERR_READ (R78): read of a page's PG_ERR (address of the page). -/
  | pgErrRead (p : Path) (a : Nat)
  /-- COUNTER_READ_CLEAR (R3): read of a read-clear register; what is counted or set in that cycle, in the register's layout. -/
  | counterReadClear (p : Path) (a inc : Nat)
  /-- LO_HALF_READ (R79): read of the low half of a 64-bit register. -/
  | loHalfRead (p : Path) (a : Nat)
  /-- PG_IRQ_CLEAR (R98): W1C write of a page's PG_IRQ, causes set by hardware in that cycle. -/
  | pgIrqClear (p : Path) (a : Nat) (w set : Word)
  /-- PG_MODE_WRITE (R84): write of PG_CTRL.MODE. -/
  | pgModeWrite (p : Path) (a : Nat) (mode : Bool)
  /-- PG_ENABLE_WRITE (R84): write of PG_CTRL.EN. -/
  | pgEnableWrite (p : Path) (a : Nat) (en : Bool)
  /-- BLOCK_SOFT_RESET (R85): write of PG_CTRL.SRST. -/
  | blockSoftReset (p : Path) (a : Nat)
  /-- CMT_OPEN (R86): CMT_CTRL.OPEN. -/
  | cmtOpen (p : Path)
  /-- CMT_CHECK (R87): CMT_CTRL.CHECK. -/
  | cmtCheck (p : Path)
  /-- CHECK_COMPLETE (R87): the check of a CHECK action ends. -/
  | checkComplete
  /-- CMT_ARM (R88): CMT_CTRL.ARM. -/
  | cmtArm (p : Path)
  /-- ARM_CHECK_COMPLETE (R87): the check of an ARM action ends. -/
  | armCheckComplete
  /-- CMT_DISARM (R87): CMT_CTRL.DISARM. -/
  | cmtDisarm (p : Path)
  /-- CMT_ABANDON (R87): CMT_CTRL.ABANDON. -/
  | cmtAbandon (p : Path)
  /-- FINAL_CHECK (R89): tick F-1. -/
  | finalCheck
  /-- COMMIT_APPLY (R90): tick F. -/
  | commitApply
  /-- SESSION_TIMEOUT (R92): the session's idle limit passes. -/
  | sessionTimeout
  /-- EVENT_PACKET_SEND (R99): EVENT packets of a newly pending page. -/
  | eventPacketSend
  /-- EVENT_REPEAT (R99): the repeat interval passes. -/
  | eventRepeat
  /-- PEAK_TRIP_UPRANGE (R108): peak comparator of channel g trips (t2: T2 trips too) at instant t. -/
  | peakTripUprange (g : Nat) (t2 : Bool) (t : Nat)
  /-- DOWNRANGE_COUNT (R109): the 256th qualifying sample of channel g has been delivered. -/
  | downrangeCount (g t : Nat)
  /-- CLIP_DETECT (R148): overload comparator of channel g, sign of the excursion, instant. -/
  | clipDetect (g : Nat) (pos : Bool) (t : Nat)
  /-- WINDOW_COMPARATOR_TRIP (R112): pins of channel g now outside the window. -/
  | windowComparatorTrip (g : Nat) (p n : Bool) (t : Nat)
  /-- WINDOW_RETURN (R114): both pins of channel g back in the window. -/
  | windowReturn (g t : Nat)
  /-- LEAD_DETECTOR_CONFIRM (R113): a confirming detector of channel g goes active. -/
  | leadDetectorConfirm (g : Nat) (d : LeadDet) (t : Nat)
  /-- LEAD_DETECTOR_INACTIVE (R115): a confirming detector of channel g goes inactive. -/
  | leadDetectorInactive (g : Nat) (d : LeadDet) (t : Nat)
  /-- LEAD_RETEST_TIMER (R115): 16 frames after a failed clearing test. -/
  | leadRetestTimer (g : Nat)
  /-- SHF_LT_OPENS (R117): SHF_LT_CMD with GO and MODE OPENS. -/
  | shfLtOpens (p : Path) (ss : Nat) (all : Bool) (cc : Nat)
  /-- SHF_LT_SHORTS (R118): SHF_LT_CMD with GO and MODE SHORTS. -/
  | shfLtShorts (p : Path) (x : LtTarget)
  /-- LT_PERIODIC_DUE (R117): the periodic OPENS test of a sheaf falls due. -/
  | ltPeriodicDue (ss : Nat)
  /-- LEAD_TEST_COMPLETE (R117): the running lead test of a sheaf ends with its findings. -/
  | leadTestComplete (ss : Nat) (f : LtFind)
  /-- MODULATOR_START (R144): first SAMP edge at or after the start tick of a sheaf. -/
  | modulatorStart (ss t : Nat)
  /-- MODULATOR_FAULT (R146): modulator of channel g stuck for 64 cycles. -/
  | modulatorFault (g t : Nat)
  /-- MODULATOR_FAULT_CLEAR (R146): 256 clean cycles after a modulator fault. -/
  | modulatorFaultClear (g : Nat)
  /-- SENSE_EXCURSION (R129): sense of output k leaves the threshold of R129 (back: it returned within 0.1 %). -/
  | senseExcursion (ss k : Nat) (back : Bool) (t : Nat)
  /-- HOLD_RETURN_SHARE (R129): 16 good LEASE frames have passed for output k. -/
  | holdReturnShare (ss k t : Nat)
  /-- EXC_ILIM_CHANGE (R126): output k enters or leaves current limiting. -/
  | excIlimChange (ss k : Nat) (on : Bool) (t : Nat)
  /-- EXC_HEADROOM_CHANGE (R126): force pin of output k enters or leaves the 0.6 V band. -/
  | excHeadroomChange (ss k : Nat) (on : Bool) (t : Nat)
  /-- EXC_LOAD_COLLAPSE (R131): load-current monitor of output k: the current held for 5 us, in uA. -/
  | excLoadCollapse (ss k i t : Nat)
  /-- EXC_RAMP_COMPLETE (R127): ramp of output k ends. -/
  | excRampComplete (ss k t : Nat)
  /-- CURRENT_SOURCE_EXCHANGE (R135): THREEW exchange instant of channel g. -/
  | currentSourceExchange (g t : Nat)
  /-- REF_READY_SET (R152): 20 ms after the enable of buffer b. -/
  | refReadySet (ss b : Nat)
  /-- REF_MONITOR_TRIP (R153): monitor of buffer b trips. -/
  | refMonitorTrip (ss b : Nat)
  /-- REF_FAULT_CLEAR (R153): monitor of buffer b untripped for 1 ms. -/
  | refFaultClear (ss b : Nat)
  /-- AUX_CONVERSION_DONE (R158): conversion of AUXn ends with a code; EXT voltages in mV measured with a SYS pass. -/
  | auxConversionDone (n code t : Nat) (ext : List Nat)
  /-- AUX_SYS_PASS_DUE (R158): SYS pass of AUXn due. -/
  | auxSysPassDue (n : Nat)
  /-- AUX_CJC_DUE (R158): CJC class of AUXn due. -/
  | auxCjcDue (n : Nat)
  /-- AUX_SLOT_GO (R161): GO write of slot i. -/
  | auxSlotGo (p : Path) (i : Nat)
  /-- AUX_SLOT_REPEAT (R161): repeat issue of slot i on the tick. -/
  | auxSlotRepeat (i : Nat)
  /-- AUX_RESULT_READ (R161): read of AUX_RESULTi. -/
  | auxResultRead (p : Path) (i : Nat)
  /-- FLT_CDATA_WRITE (R177): write of FLT_CDATA. -/
  | fltCdataWrite (p : Path) (ss : Nat) (w : Word)
  /-- FLT_CDATA_READ (R177): read of FLT_CDATA. -/
  | fltCdataRead (p : Path) (ss : Nat)
  /-- FLT_CSEAL_WRITE (R177): write of FLT_CSEAL with the CRC-32. -/
  | fltCsealWrite (p : Path) (ss : Nat) (w : Word)
  /-- BANK_SEAL_RESULT (R177): the sealing of a bank of the sheaf ends. -/
  | bankSealResult (ss : Nat)
  /-- TIME_OS_RECEIVE (R453): TIME ordered set on lane n, its character 3 and arrival stamp. -/
  | timeOsReceive (n ch3 t : Nat)
  /-- TIME_PACKET_RECEIVE (R207): TIME packet on lane n. -/
  | timePacketReceive (n : Nat) (pk : TimePkt) (t : Nat)
  /-- TIME_STAMP_DISCARD (R453): 25 us without a TIME packet on lane n. -/
  | timeStampDiscard (n : Nat)
  /-- TIMEBASE_STEP (R197): the tick on the old scale at which a pending step is made, with what the outside presents at it. -/
  | timebaseStep (i : TickIn)
  /-- TIMEBASE_LOCK (R193): 64 consecutive frames within 1 ns. -/
  | timebaseLock
  /-- TIMEBASE_UNLOCK (R193): UNLOCK_N consecutive exchanges above UNLOCK. -/
  | timebaseUnlock
  /-- HOLDOVER_ENTRY (R193): the source is lost or three frames passed without a valid exchange. -/
  | holdoverEntry (t : Nat)
  /-- HOLDOVER_BOUND_CROSS (R194): the holdover bound passes 1 ns. -/
  | holdoverBoundCross (t : Nat)
  /-- SOURCE_CHANGE (R209): a better source has qualified for 16 frames, or the source lost qualification. -/
  | sourceChange
  /-- DLY_JUMP (R207): 16 exchanges of lane n rejected only for delay. -/
  | dlyJump (n : Nat)
  /-- TMB_SNAP_GO (R192): write of TMB_SNAP.GO. -/
  | tmbSnapGo (p : Path)
  /-- ROOT_TOD_VALID (R212): write of TMB_ROOT_TOD_HI with VALID. -/
  | rootTodValid (p : Path) (w : Word)
  /-- PPS_IN_EDGE (R212): rising edge of PPS_IN. -/
  | ppsInEdge (t : Nat)
  /-- PPS_MISSING (R213): no PPS edge within 1 ms of its expected instant. -/
  | ppsMissing (t : Nat)
  /-- TMB_EVT_ARM (R214): write of TMB_EVT_ARM. -/
  | tmbEvtArm (p : Path) (w : Word)
  /-- TMB_EVT_DISARM (R214): write of TMB_EVT_DISARM. -/
  | tmbEvtDisarm (p : Path) (w : Word)
  /-- SCHEDULED_EVENT_FIRE (R214): event e reaches its instant. -/
  | scheduledEventFire (e t : Nat)
  /-- TRIG_IN_EDGE (R216): a rising edge of TRIG_IN[n]. -/
  | trigInEdge (n : Nat) (e : PinEdge)
  /-- LIN_IDATA_ACCESS (R237): read (none) or write of LIN_IDATA. -/
  | linIdataAccess (p : Path) (w : Option Word)
  /-- LIN_COPY_GO (R237): write of LIN_COPY.GO. -/
  | linCopyGo (p : Path)
  /-- LIN_COPY_DONE (R237): the page copy finishes. -/
  | linCopyDone
  /-- LIN_TSEAL_WRITE (R233): write of LIN_TSEALt with the CRC-32. -/
  | linTsealWrite (p : Path) (t : Nat) (w : Word)
  /-- TABLE_SEAL_RESULT (R233): sealing of table t ends. -/
  | tableSealResult (t : Nat)
  /-- ACQ_FORCE_GO (R240): write of ACQ_FORCE_GO with bit 0 set. -/
  | acqForceGo (p : Path) (t : Nat)
  /-- TRIG_PACKET_RECEIVE (R245): TRIG packet accepted on lane n. -/
  | trigPacketReceive (n lseq : Nat) (k : TrigPkt) (t : Nat)
  /-- CP_ARM (R248): ARM of plan j. -/
  | cpArm (p : Path) (j : Nat)
  /-- CP_DISARM (R248): DISARM of plan j. -/
  | cpDisarm (p : Path) (j : Nat)
  /-- CP_RELEASE (R248): RELEASE of plan j. -/
  | cpRelease (p : Path) (j : Nat)
  /-- CP_OFFLOAD (R252): OFFLOAD of plan j. -/
  | cpOffload (p : Path) (j : Nat)
  /-- OFFLOAD_DONE (R252): the offload of plan j admits its remaining segments; the memory errors met by each (number from 0) in the capture words it reads (R28). -/
  | offloadDone (j : Nat) (ecc : List (Nat × MemErr))
  /-- QUE_FLUSH_STOOK (R282): write of QUE_FLUSH with GO and MODE STOOK. -/
  | queFlushStook (p : Path) (q : Nat)
  /-- STOOK_FLUSH_EFFECT (R282): the producer of queue q finishes its record. -/
  | stookFlushEffect (q : Nat)
  /-- QUE_FLUSH_WORD (R283): write of QUE_FLUSH with GO and MODE WORD. -/
  | queFlushWord (p : Path) (q : Nat)
  /-- QUE_RWD_GO (R278): write of QUE_RWD.GO. -/
  | queRwdGo (p : Path)
  /-- ARC_GO (R301): write of ARC_CTRL with GO. -/
  | arcGo (p : Path) (w : Word)
  /-- ARC_CANCEL (R300): write of ARC_CTRL with CANCEL. -/
  | arcCancel (p : Path)
  /-- ARC_JOB_END (R295): the archive job ends, at the latest after this many whole blocks where it was cancelled
  or meets an uncorrectable word. -/
  | arcJobEnd (blocks : Nat) (ecc : ReadEcc)
  /-- DCMP_GO (R296): write of DCMP_CTRL with GO. -/
  | dcmpGo (p : Path) (w : Word)
  /-- DCMP_CANCEL (R300): write of DCMP_CTRL with CANCEL. -/
  | dcmpCancel (p : Path)
  /-- DCMP_JOB_END (R297): the decompressor job ends; after this many blocks where cancelled, or at an uncorrectable word. -/
  | dcmpJobEnd (blocks : Nat) (ecc : ReadEcc)
  /-- LOS_PIN_ASSERT (R309): LN_LOS[n] has been high for 0.5 us at instant t. -/
  | losPinAssert (n t : Nat)
  /-- LOS_INT_ASSERT (R309): the signal detector of lane n has found its input low for 1 us. -/
  | losIntAssert (n t : Nat)
  /-- CDR_LOL (R309): the recovered clock of lane n has been off by more than 1000 ppm for 1 us. -/
  | cdrLol (n t : Nat)
  /-- ALIGNMENT_LOSS (R306): the numbers of invalid words on lane n, oldest first; 8 of them within 64 lose alignment. -/
  | alignmentLoss (n : Nat) (x : BadWords)
  /-- LANE_ALIGN (R306): the commas of the last words on lane n, newest first: position, inverted polarity. -/
  | laneAlign (n : Nat) (commas : List (Nat × Bool))
  /-- ORDERED_SET_RECEIVE (R305): a run of equal ordered sets on lane n: place of the K28.5 from the word boundary,
the receiver's running disparity (true positive) and the four symbols of ten bits on the balls. -/
  | orderedSetReceive (n off : Nat) (rd : Bool) (syms : List Nat) (run : Nat)
  /-- LANE_UP (R307): lane n reaches UP at instant t. -/
  | laneUp (n t : Nat)
  /-- RATE_STEP_SWITCH (R311): lane n, having sent a number of STEP sets, switches its transmitter. -/
  | rateStepSwitch (x : StepSent)
  /-- RATE_STEP_TIMEOUT (R312): 2 ms after the switch lane n is not UP. -/
  | rateStepTimeout (n t : Nat)
  /-- FAILMASK_EXPIRE (R312): 3600 s have passed since rate code c of lane n failed. -/
  | failmaskExpire (n c : Nat)
  /-- LN_CLRFAIL (R312): write of LN_CTRL.CLRFAIL. -/
  | lnClrfail (p : Path) (n : Nat)
  /-- EQ_ACQUISITION_DONE (R314): acquisition of lane n ends: final FOM, FOM at each CTLE code, DFE taps. -/
  | eqAcquisitionDone (n fom : Nat) (foms dfe : List Nat)
  /-- LANE_DEGRADE (R307): DEG_N bad frames on lane n. -/
  | laneDegrade (n : Nat)
  /-- LANE_RECOVER (R307): 256 clean frames on lane n. -/
  | laneRecover (n : Nat)
  /-- LANE_DWELL_EXPIRE (R307): DWELL frames in DEGRADED on lane n. -/
  | laneDwellExpire (n t : Nat)
  /-- PRBS_CHECKER_LOCK (R318): the bits that the checker of lane n has received, newest first. -/
  | prbsCheckerLock (x : PrbsRx)
  /-- PRBS_CHECKER_UNLOCK (R318): errors among the last 4096 bits on lane n; errors and bits compared since the last tick. -/
  | prbsCheckerUnlock (x : PrbsLoss)
  /-- PRBS_INJECT (R318): write of LN_PRBS.INJECT. -/
  | prbsInject (p : Path) (n : Nat)
  /-- PRBS_CHK_ENABLE (R318): write that sets LN_PRBS.CHK_EN. -/
  | prbsChkEnable (p : Path) (n : Nat)
  /-- STOOK_PACKET_RECEIVE (R338): a STOOK packet on lane n. -/
  | stookPacketReceive (n : Nat) (pk : Pkt)
  /-- MGMT_COMMAND_RECEIVE (R341): a MGMT packet of MTYPE 1 on lane n. -/
  | mgmtCommandReceive (n : Nat) (pk : Pkt)
  /-- MGMT_REG_READ (R327): a MGMT packet of MTYPE 3 on lane n, how its bank accesses fare by word. -/
  | mgmtRegRead (n : Nat) (pk : Pkt) (hits : List (Nat × MemHit))
  /-- MGMT_REG_WRITE (R327): a MGMT packet of MTYPE 4 on lane n. -/
  | mgmtRegWrite (n : Nat) (pk : Pkt) (hits : List (Nat × MemHit))
  /-- MGMT_RESERVED_DISCARD (R327): a MGMT packet of a reserved MTYPE on lane n. -/
  | mgmtReservedDiscard (n : Nat) (pk : Pkt)
  /-- LEASE_PACKET_RECEIVE (R354): a LEASE packet whose CRC passes on lane n at instant t. -/
  | leasePacketReceive (n : Nat) (m : Lease) (t : Nat)
  /-- ACK_RECEIVE (R331): an ACK on lane n. -/
  | ackReceive (n : Nat) (k : LinkSt)
  /-- NAK_RECEIVE (R333): a NAK on lane n. -/
  | nakReceive (n : Nat) (k : LinkSt)
  /-- IDLE_PACKET_RECEIVE (R328): an IDLE packet on lane n. -/
  | idlePacketReceive (n : Nat) (k : LinkSt)
  /-- PACKET_CRC_DISCARD (R324): a packet discarded on lane n, sequenced-looking or not. -/
  | packetCrcDiscard (n : Nat) (seq : Bool)
  /-- SEQUENCED_PACKET_ACCEPT (R330): a valid sequenced packet of any type on lane n. -/
  | sequencedPacketAccept (n : Nat) (pk : Pkt) (hits : List (Nat × MemHit))
  /-- ACK_TIMER (R331): 8 us since the first unacknowledged packet of lane n. -/
  | ackTimer (n : Nat)
  /-- NAK_REPEAT (R331): LK_RTO has passed on lane n with nothing accepted. -/
  | nakRepeat (n : Nat)
  /-- RETX_TIMEOUT (R334): instant at which the oldest packet of lane n may have waited LK_RTO. -/
  | retxTimeout (n t : Nat)
  /-- KEEPALIVE_LOSS (R328): lane n has lost its keepalive. -/
  | keepaliveLoss (n t : Nat)
  /-- PACKET_TRANSMIT (R336): the packet on the wire of lane n ends and the next is chosen; the memory errors met in the queue words its record is read from (R28). -/
  | packetTransmit (n t : Nat) (ecc : List MemErr)
  /-- TOKEN_CLAIM (R355): the conditions of R355 hold at the tick; t0 of the change. -/
  | tokenClaim (t : Nat)
  /-- TOKEN_RELEASE (R356): a case of R356 holds at the tick; t0 of the change. -/
  | tokenRelease (t : Nat)
  /-- SWAP_ANNOUNCE (R359): a swap frame is 256 frames ahead, or less. -/
  | swapAnnounce
  /-- ROLE_SWAP (R361): tick F_s; t0 of the change. -/
  | roleSwap (t : Nat)
  /-- TWN_SWAP_REQ (R359): write of TWN_CTRL.SWAP_REQ. -/
  | twnSwapReq (p : Path)
  /-- TWN_RESYNC_REQ (R363): write of TWN_CTRL.RESYNC. -/
  | twnResyncReq (p : Path)
  /-- TWN_ABORT (R366): write of TWN_CTRL.ABORT. -/
  | twnAbort (p : Path)
  /-- RESYNC_PHASE_ADVANCE (R365): the awaited condition of the resync phase is met. -/
  | resyncPhaseAdvance
  /-- RESYNC_FAIL (R366): the resync attempt fails. -/
  | resyncFail
  /-- RESYNC_RETRY (R366): 1024 frames have passed since the failure. -/
  | resyncRetry
  /-- CONF_SOLO_CLEAR (R348): L ticks have passed without a SOLO message. -/
  | confSoloClear
  /-- MEM_BANK_CFG_WRITE (R371): write of MEM_BKb_CFG. -/
  | memBankCfgWrite (p : Path) (b : Nat) (w : Word)
  /-- MEM_WINDOW_READ (R375): read of MEM_HDATA_LO. -/
  | memWindowRead (p : Path) (h : MemHit)
  /-- MEM_WINDOW_WRITE (R375): writes of MEM_HDATA_LO and then MEM_HDATA_HI. -/
  | memWindowWrite (p : Path) (lo hi : Word) (h : MemHit)
  /-- SCRUB_STEP (R378): the scrubber takes the next word of every memory: the memories whose word has an error, 1 corrected, 2 uncorrectable. -/
  | scrubStep (errs : List (Nat × Nat))
  /-- MEM_REPAIR_GO (R380): write of MEM_REPAIR. -/
  | memRepairGo (p : Path) (w : Word)
  /-- MEM_TEST_GO (R381): write of MEM_TEST_CTRL. -/
  | memTestGo (p : Path) (w : Word)
  /-- MEM_TEST_DONE (R381): the self-test ends with its failing words, first failing sub-array in the bank and column. -/
  | memTestDone (fails sub col : Nat)
  /-- HOST_RD (R384): an RD transaction with its address word, and how bank accesses fare by word. -/
  | hostRd (aw : Word) (hits : List (Nat × MemHit))
  /-- HOST_WR (R384): a WR transaction with its address word and data words. -/
  | hostWr (aw : Word) (ws : List Word) (hits : List (Nat × MemHit))
  /-- HOST_RDSR (R384): an RDSR transaction. -/
  | hostRdsr
  /-- HOST_MBPUSH (R388): an MBPUSH transaction with the bytes clocked. -/
  | hostMbpush (bytes : List Byte)
  /-- HOST_MBPOP (R388): an MBPOP transaction that clocks n bytes. -/
  | hostMbpop (n : Nat)
  /-- HOST_SETGEN (R383): a SETGEN transaction with its byte. -/
  | hostSetgen (b : Byte)
  /-- HOST_RSTGEN (R383): a transaction whose instruction byte is 0xFF. -/
  | hostRstgen
  /-- HOST_UNKNOWN_INSTR (R384): a transaction with an unlisted opcode, or one whose inverse does not match. -/
  | hostUnknownInstr (x : InstrPair)
  /-- HOST_CS_ABORT (R385): HS_CS_N rises early; for a WR burst its address word and the complete data words before the end. -/
  | hostCsAbort (wr : Option (Word × List Word)) (hits : List (Nat × MemHit))
  /-- COMMAND_ACCEPT (R391): the firmware takes the oldest command of a path. -/
  | commandAccept (p : Path)
  /-- COMPLETION_DELIVER (R388): the oldest waiting completion of a path enters the outbound mailbox, or is sent. -/
  | completionDeliver (p : Path)
  /-- HUB_IDENTIFY (R395): the accepted command of a path with a tag is carried out. -/
  | hubIdentify (p : Path) (tag : Nat)
  /-- HUB_STATUS (R395): the accepted command of the path with this tag is carried out. -/
  | hubStatusCmd (p : Path) (tag : Nat)
  /-- HUB_SLEEP (R68): the accepted command of the path with this tag is carried out. -/
  | hubSleep (p : Path) (tag : Nat)
  /-- HUB_WAKE (R71): the accepted command of the path with this tag is carried out. -/
  | hubWake (p : Path) (tag : Nat)
  /-- CMD_NOP (R395): the accepted command of the path with this tag is carried out. -/
  | cmdNop (p : Path) (tag : Nat)
  /-- CMD_CANCEL (R396): the accepted command of the path with this tag is carried out. -/
  | cmdCancel (p : Path) (tag : Nat)
  /-- CFG_OPEN (R86): the accepted command of the path with this tag is carried out. -/
  | cfgOpen (p : Path) (tag : Nat)
  /-- CFG_CHECK (R87): the accepted command of the path with this tag is carried out. -/
  | cfgCheck (p : Path) (tag : Nat)
  /-- CFG_APPLY_AT (R88): the accepted command of the path with this tag is carried out. -/
  | cfgApplyAt (p : Path) (tag : Nat)
  /-- CFG_ABANDON (R87): the accepted command of the path with this tag is carried out. -/
  | cfgAbandon (p : Path) (tag : Nat)
  /-- CFG_IMAGE_LOAD (R399): the accepted command of the path with this tag is carried out; what ECC finds in the
  bank words it reads. -/
  | cfgImageLoad (p : Path) (tag : Nat) (ecc : ReadEcc)
  /-- CFG_IMAGE_SAVE (R398): the accepted command of the path with this tag is carried out; what ECC finds in the
  memory words it reads. -/
  | cfgImageSave (p : Path) (tag : Nat) (ecc : ReadEcc)
  /-- CH_SET_SENSOR (R237): the accepted command of the path with this tag is carried out. -/
  | chSetSensor (p : Path) (tag : Nat)
  /-- CH_SET_RATE (R395): the accepted command of the path with this tag is carried out. -/
  | chSetRate (p : Path) (tag : Nat)
  /-- CH_ENABLE (R395): the accepted command of the path with this tag is carried out. -/
  | chEnable (p : Path) (tag : Nat)
  /-- CH_AUTORANGE (R395): the accepted command of the path with this tag is carried out. -/
  | chAutorange (p : Path) (tag : Nat)
  /-- CH_SPOT_READ (R160): the accepted command of the path with this tag is carried out. -/
  | chSpotRead (p : Path) (tag : Nat)
  /-- CH_LEAD_TEST (R117): the accepted command of the path with this tag is carried out. -/
  | chLeadTest (p : Path) (tag : Nat)
  /-- SHF_REF_ENABLE (R154): the accepted command of the path with this tag is carried out. -/
  | shfRefEnable (p : Path) (tag : Nat)
  /-- SHF_EXC_SET (R395): the accepted command of the path with this tag is carried out. -/
  | shfExcSet (p : Path) (tag : Nat)
  /-- FLT_LOAD_BANK (R171): the accepted command of the path with this tag is carried out. -/
  | fltLoadBank (p : Path) (tag : Nat)
  /-- TIME_STATUS (R192): the accepted command of the path with this tag is carried out. -/
  | timeStatus (p : Path) (tag : Nat)
  /-- TIME_STEP (R199): the accepted command of the path with this tag is carried out. -/
  | timeStep (p : Path) (tag : Nat)
  /-- TIME_SET_ASYM (R208): the accepted command of the path with this tag is carried out. -/
  | timeSetAsym (p : Path) (tag : Nat)
  /-- TIME_SCHEDULE (R214): the accepted command of the path with this tag is carried out. -/
  | timeSchedule (p : Path) (tag : Nat)
  /-- ACQ_ARM (R248): the accepted command of the path with this tag is carried out. -/
  | acqArm (p : Path) (tag : Nat)
  /-- ACQ_DISARM (R248): the accepted command of the path with this tag is carried out. -/
  | acqDisarm (p : Path) (tag : Nat)
  /-- ACQ_FORCE (R240): the accepted command of the path with this tag is carried out. -/
  | acqForce (p : Path) (tag : Nat)
  /-- ACQ_OFFLOAD (R252): the accepted command of the path with this tag is carried out. -/
  | acqOffload (p : Path) (tag : Nat)
  /-- GLEAN_SET (R255): the accepted command of the path with this tag is carried out. -/
  | gleanSet (p : Path) (tag : Nat)
  /-- MEM_ASSIGN (R371): the accepted command of the path with this tag is carried out. -/
  | memAssign (p : Path) (tag : Nat)
  /-- MEM_READ (R375): the accepted command of the path with this tag is carried out; how its bank accesses fare by word. -/
  | memRead (p : Path) (tag : Nat) (hits : List (Nat × MemHit))
  /-- MEM_WRITE (R375): the accepted command of the path with this tag is carried out. -/
  | memWrite (p : Path) (tag : Nat) (hits : List (Nat × MemHit))
  /-- MEM_TEST (R381): the accepted command of the path with this tag is carried out. -/
  | memTest (p : Path) (tag : Nat)
  /-- LINK_STATUS (R395): the accepted command of the path with this tag is carried out. -/
  | linkStatus (p : Path) (tag : Nat)
  /-- LINK_ROUTE (R338): the accepted command of the path with this tag is carried out. -/
  | linkRoute (p : Path) (tag : Nat)
  /-- LINK_PRBS (R317): the accepted command of the path with this tag is carried out. -/
  | linkPrbs (p : Path) (tag : Nat)
  /-- LINK_PRBS_END (R395): the frames of the PRBS run on lane n have passed. -/
  | linkPrbsEnd (n : Nat)
  /-- STREAM_SET (R261): the accepted command of the path with this tag is carried out. -/
  | streamSet (p : Path) (tag : Nat)
  /-- TWIN_STATUS (R395): the accepted command of the path with this tag is carried out. -/
  | twinStatus (p : Path) (tag : Nat)
  /-- TWIN_SWAP_NOW (R359): the accepted command of the path with this tag is carried out. -/
  | twinSwapNow (p : Path) (tag : Nat)
  /-- TWIN_SET_LEASE (R368): the accepted command of the path with this tag is carried out. -/
  | twinSetLease (p : Path) (tag : Nat)
  /-- BCN_SET (R403): the accepted command of the path with this tag is carried out. -/
  | bcnSet (p : Path) (tag : Nat)
  /-- BCN_SCHEDULE (R414): the accepted command of the path with this tag is carried out. -/
  | bcnSchedule (p : Path) (tag : Nat)
  /-- BCN_DIAG (R413): the accepted command of the path with this tag is carried out. -/
  | bcnDiag (p : Path) (tag : Nat)
  /-- DIAG_COUNTERS (R395): the accepted command of the path with this tag is carried out. -/
  | diagCounters (p : Path) (tag : Nat)
  /-- DIAG_BIST (R427): the accepted command of the path with this tag is carried out. -/
  | diagBist (p : Path) (tag : Nat)
  /-- DIAG_PERTURB (R424): the accepted command of the path with this tag is carried out. -/
  | diagPerturb (p : Path) (tag : Nat)
  /-- BIST_DONE (R427): the self-test finishes with its outcome and DETAIL. -/
  | bistDone (pass : Bool) (detail : Nat)
  /-- BCN_FLASH_ON (R414): the next flash of string m falls due at instant t. -/
  | bcnFlashOn (m t : Nat)
  /-- BCN_FLASH_OFF (R414): the pulse of string m ends at instant t. -/
  | bcnFlashOff (m t : Nat)
  /-- BCN_MEASURE (R406): 1.5 us after a turn-on of string m: sense and drain voltage at the balls in uV, whether the gate stands at its limit. -/
  | bcnMeasure (m sense drain : Nat) (lim : Bool) (t : Nat)
  /-- BCN_DIAG_PULSE (R410): the slot of string m comes up at instant t. -/
  | bcnDiagPulse (m t : Nat)
  /-- BCN_OVP_TRIP (R407): BST_OVP rises above 1.20 V. -/
  | bcnOvpTrip
  /-- BCN_OVP_RELEASE (R407): BST_OVP falls below 1.10 V. -/
  | bcnOvpRelease
  /-- BCN_UNTESTED_TIMEOUT (R409): string m has had no diagnosis for its period. -/
  | bcnUntestedTimeout (m : Nat)
  /-- BCN_DIAG_CMD_GO (R413): write of BCN_DIAG_CMD with GO. -/
  | bcnDiagCmdGo (p : Path) (w : Word)
  /-- BCN_ADJ_TEST_DONE (R413): the adjacent-pin test ends; strings found adjacent, one bit each. -/
  | bcnAdjTestDone (reads : List AdjRead)
  /-- BCN_SCH_ARM (R414): write of BCN_SCHm_CTL.ARM. -/
  | bcnSchArm (p : Path) (m : Nat)
  /-- BCN_SCH_DISARM (R414): write of BCN_SCHm_CTL.DISARM. -/
  | bcnSchDisarm (p : Path) (m : Nat)
  /-- BCH_SHIFT_START (R417): 2 us after a tick. -/
  | bchShiftStart (t : Nat)
  /-- BCH_SHIFT_DONE (R418): the shift ends; the bits sampled on BCH_DI, bit 0 first. -/
  | bchShiftDone (ret : Nat)
  /-- TST_LOCK_WRITE (R423): a TSTACC write of a register of the test page at an offset: TST_LOCK, or TST_UNLK_TMO. -/
  | tstLockWrite (off : Nat) (w : Option Word)
  /-- TST_UNLOCK_EXPIRE (R423): the unlock time runs out. -/
  | tstUnlockExpire
  /-- PG_PERTURB_WRITE (R425): write of PG_PERTURB of a page (address of the page). -/
  | pgPerturbWrite (p : Path) (a : Nat) (w : Word)
  /-- PERTURB_COUNT_EXPIRE (R425): the COUNT frames of a page's perturbation run out. -/
  | perturbCountExpire (a : Nat)
  /-- JTAG_INSTRUCTION (R429): a JTAG instruction is loaded. -/
  | jtagInstruction (i : JtagOp)
  /-- CORE_RAIL_PRESENT (R53): VDD_C and VDD_IO count as present. -/
  | coreRailPresent
  /-- XOS_RESTORED (R26): XOS is present and inside its band again. -/
  | xosRestored
  /-- LANE_SIGNAL_PRESENT (R309): the detectors of lane n find a signal again. -/
  | laneSignalPresent (n : Nat)
  /-- OUTGOING_SHARE_ENTRY (R130): 50 us after a planned swap, on the outgoing holder. -/
  | outgoingShareEntry (ss k t : Nat)
  /-- TIMING_PULSE_END (R203): the pulse of a timing pin ends: 0 PPS_OUT, 1 TICK_OUT, 2 and 3 TRIG_OUT. -/
  | timingPulseEnd (pin t : Nat)
  deriving DecidableEq, Repr

end Sys2Proof
end

