-- ==== Sys2Proof/Decode.lean ====
section
/-! DEFINITION. The decoder over the rows of the table that give bits. No row does: a command of the hub is no word of
bits, so no word spells one. -/

namespace Sys2Proof

/-- The command a word of the table's bits spells: none, for no row has bits. -/
def decodeTableWord (_ _ : Nat) : Option Instr := none

end Sys2Proof
end

