-- ==== Sys2Proof/Config.lean ====
section
/-! DEFINITION. What one device fixes and the manual does not (identity, fuse contents, analogue
coefficients), and the free values: opaque constants with no body, applied to a plain counter of the
state or to the operands they depend on. Nothing can evaluate them. -/

namespace Sys2Proof.Config

/-- PG_REV: silicon and ROM firmware revision, "per device" (R77). -/
opaque pgRev : Word

/-- HUB_IDENT: the 64-bit identity from the fuses, "per device" (R100). -/
opaque ident : BitVec 64

/-- Silicon revision and vendor code of IDCODE, per device (R428). -/
opaque siliconRev : BitVec 4
opaque vendorCode : BitVec 11

/-- The FUS page words, per device: what the fuses hold (R75 names the page, R430 its use). -/
opaque fuseWord : Nat → Word

/-- A free word: a value the manual calls undefined; the index is the state's free counter. -/
opaque freeWord : Nat → BitVec 32

/-- A free choice between two outcomes the manual both allows (R57, R63). -/
opaque freeBool : Nat → Bool

/-- Bytes that a decompressor run leaves undefined beyond PRODUCED (R298). -/
opaque freeByte : Nat → BitVec 8

/-- Level of a code of the 16-level quantiser in 2^-8 LSB of the range in effect (R141 gives the number of levels, not their
values). -/
opaque quantLevel : Nat → Int

/-- Tap i, before the centre, of the halfband (false) or fifth-band filter, LSB 2^-31 (R166 gives lengths and responses, not
coefficients). -/
opaque fixedTap : Bool → Nat → Int

/-- Coefficient word k of a standard design at a rate code E2 + 16 E5 (R171: computed from a prototype in ROM). -/
opaque stdCoeff : Nat → Nat → Nat → Word

/-- CRC-32 of the ROM, as fused (R427). -/
opaque romCrc : Word

/-- Error of a linearisation result against the exact curve, in output LSB; the model bounds it by the
limit of R235 where it is used. -/
opaque evalErr : Nat → Int

/-- The word of a spill bank in which the word at a queue position lies (R280). -/
opaque spillPlace : Nat → Nat

/-- Factory trim of a channel's current source at a current code, in 2^-32 of the nominal current (R224: per device); the
model bounds it by the accuracy of R136 where it is used. -/
opaque iexcTrim : Nat → Nat → Int

/-- The archive engine's coding of a block's input at a level, with fixed codes (`true`) or dynamic ones: R294 fixes the format, the window and
how many candidates are searched, not every choice of match; the model uses it where it is such a coding of that input. -/
opaque archiveBytes : Bool → Nat → List (BitVec 8) → List (BitVec 8)

end Sys2Proof.Config
end

