-- ==== Sys2Proof/Machine/RegMap.lean ====
section
/-! DEFINITION. The page map of R75, the registers that hold what is written, with their masks and reset values, and
the address arithmetic of R76. Read-only registers that show internal state are views in RegRead.lean. -/

namespace Sys2Proof.Machine

open Sys2Proof

/-- The pages of R75. -/
inductive PageK
  | hub | clk | cmt | tmb | seq | cmd | hst | twn | bcn | aux | mem | que | cmp | acq | gln | lin | lnk | rte | tst | fus | d2d | shf | flt
  deriving DecidableEq, Repr

/-- A register, or `n` of them at a stride: the bits a write stores at once (RW), the staged bits (ST), the W1C bits,
and the reset value (R3). -/
structure RegRow where
  off : Nat
  n : Nat
  s : Nat
  rw : Nat
  st : Nat
  w1c : Nat
  rst : Nat
  deriving DecidableEq, Repr

/-- Registers of the HUB page that hold what is written. -/
def rowsHub : List RegRow := [
    ⟨0x108, 1, 4, 0x0FFFFFFF, 0, 0, 0x0FFFFFFF⟩,
    ⟨0x10C, 1, 4, 0xFFFFFFFF, 0, 0, 0xFFFFFFFF⟩,
    ⟨0x110, 1, 4, 0x0FFFFFFF, 0, 0, 0⟩,
    ⟨0x114, 1, 4, 0xFFFFFFFF, 0, 0, 0⟩,
    ⟨0x118, 1, 4, 0xFFFF, 0, 0, 0x40⟩]

/-- Registers of the CLK page that hold what is written. -/
def rowsClk : List RegRow := [
    ⟨0x048, 1, 4, 0x700, 0xF, 0, 0x10F⟩,
    ⟨0x04C, 1, 4, 0, 1, 0, 0⟩]

/-- Registers of the CMT page that hold what is written. -/
def rowsCmt : List RegRow := [
    ⟨0x048, 1, 4, 1, 0, 0, 0⟩,
    ⟨0x050, 2, 4, 0xFFFFFFFF, 0, 0, 0⟩,
    ⟨0x078, 1, 4, 0xFF, 0, 0, 0x40⟩]

/-- Registers of the TMB page that hold what is written. -/
def rowsTmb : List RegRow := [
    ⟨0x040, 1, 4, 0x330, 1, 0, 0⟩,
    ⟨0x048, 1, 4, 0xFFFFFFFF, 0, 0, 0x27100064⟩,
    ⟨0x04C, 1, 4, 0x00FFFFFF, 0, 0, 0x00041388⟩,
    ⟨0x050, 1, 4, 0, 7, 0, 2⟩,
    ⟨0x090, 1, 4, 0xFFFFFFFF, 0, 0, 0x0064000A⟩,
    ⟨0x0A0, 1, 4, 0xFFFFFFFF, 0, 0, 0⟩,
    ⟨0x0A4, 1, 4, 0xFFFF, 0, 0, 0⟩,
    ⟨0x0A8, 1, 4, 0xFFFFFF00, 0, 0, 0x1400⟩,
    ⟨0x0B0, 1, 4, 3, 0, 0, 0⟩,
    ⟨0x0C0, 1, 4, 0xFFFF0003, 0, 0, 0x0A640000⟩,
    ⟨0x100, 2, 0x20, 0, 0xF1, 0, 1⟩,
    ⟨0x104, 8, 0x20, 0xFFFFFFFF, 0, 0, 0⟩,
    ⟨0x140, 6, 0x20, 0, 0xF1, 0, 0⟩,
    ⟨0x200, 16, 0x10, 0xFFFFFF0F, 0, 0, 0⟩,
    ⟨0x204, 16, 0x10, 0xFFFFFFFF, 0, 0, 0⟩,
    ⟨0x208, 16, 0x10, 0xFFFFFFFF, 0, 0, 0⟩,
    ⟨0x20C, 16, 0x10, 0xFFFFFFFF, 0, 0, 0⟩,
    ⟨0x308, 1, 4, 0, 0, 0xFFFFFFFF, 0⟩]

/-- Registers of the SEQ page that hold what is written. -/
def rowsSeq : List RegRow := []

/-- Registers of the CMD page that hold what is written. -/
def rowsCmd : List RegRow := []

/-- Registers of the HST page that hold what is written. -/
def rowsHst : List RegRow := []

/-- Registers of the TWN page that hold what is written. -/
def rowsTwn : List RegRow := [
    ⟨0x040, 1, 4, 0, 0xFFF, 0, 0x214⟩,
    ⟨0x044, 1, 4, 0, 0xFFFFFF, 0, 0x15180⟩,
    ⟨0x048, 1, 4, 0, 0xFFFFFF, 0, 0⟩,
    ⟨0x04C, 1, 4, 0x100, 0, 0, 0x100⟩,
    ⟨0x050, 2, 4, 0xFFFFFFFF, 0, 0, 0⟩]

/-- Registers of the BCN page that hold what is written. -/
def rowsBcn : List RegRow := [
    ⟨0x040, 1, 4, 0, 0x83FFFFFF, 0, 0x012C0320⟩,
    ⟨0x044, 1, 4, 0, 0xFFFFFFFF, 0, 0⟩,
    ⟨0x048, 1, 4, 0, 0xFFFF, 0, 0x32⟩,
    ⟨0x050, 1, 4, 0, 0x03FF03FF, 0, 0⟩,
    ⟨0x054, 1, 4, 0, 0xFFFF, 0, 0⟩,
    ⟨0x058, 1, 4, 0, 0xFFFFFFFF, 0, 0x03200400⟩,
    ⟨0x05C, 1, 4, 0, 0xFFFF, 0, 0x1388⟩,
    ⟨0x070, 1, 4, 0, 0x1FFF0133, 0, 0⟩,
    ⟨0x078, 1, 4, 0x1017F, 0, 0, 0x10000⟩,
    ⟨0x100, 16, 0x10, 0, 0x3FF30FFF, 0, 0⟩,
    ⟨0x104, 16, 0x10, 0, 0xFFFF, 0, 0⟩,
    ⟨0x200, 16, 0x20, 0xFFFFFFFF, 0, 0, 0⟩,
    ⟨0x204, 16, 0x20, 0xFFFFFFFF, 0, 0, 0⟩,
    ⟨0x208, 16, 0x20, 0xFFFFFFFF, 0, 0, 0⟩,
    ⟨0x20C, 16, 0x20, 0xFFFFFFFF, 0, 0, 0⟩,
    ⟨0x210, 16, 0x20, 0xFFFFFF, 0, 0, 0⟩,
    ⟨0x214, 16, 0x20, 0xFFFFFFFF, 0, 0, 0⟩]

/-- Registers of the AUX page that hold what is written. -/
def rowsAux : List RegRow := [
    ⟨0x040, 4, 0x10, 0xFFFF, 0, 0, 0x410⟩,
    ⟨0x100, 16, 8, 0x01FFFFDF, 0, 0, 0⟩]

/-- Registers of the MEM page that hold what is written. -/
def rowsMem : List RegRow := [
    ⟨0x040, 12, 8, 0x107, 0, 0, 0⟩,
    ⟨0x0D0, 1, 4, 0x81FFFFFF, 0, 0, 0x80000000⟩,
    ⟨0x0E8, 1, 4, 0xFF, 0, 0, 0x10⟩,
    ⟨0x0F0, 1, 4, 0xF, 0, 0, 0⟩,
    ⟨0x100, 1, 4, 0x01FF07FF, 0, 0, 0⟩]

/-- Registers of the QUE page that hold what is written. -/
def rowsQue : List RegRow := [
    ⟨0x040, 1, 4, 0, 7, 0, 2⟩,
    ⟨0x048, 1, 4, 0, 0, 0xFFFFFFFF, 0⟩,
    ⟨0x04C, 1, 4, 0xFF, 0, 0, 0⟩,
    ⟨0x058, 1, 4, 0xFFFFFFFF, 0, 0, 0⟩,
    ⟨0x200, 16, 0x20, 0, 0xFFFFFFFF, 0, 0⟩,
    ⟨0x218, 16, 0x20, 0xFFFFFFFF, 0, 0, 0⟩,
    ⟨0x400, 32, 0x20, 0, 0x903FFC00, 0, 0x800⟩,
    ⟨0x404, 32, 0x20, 0, 0xFFFF, 0, 0⟩,
    ⟨0x408, 32, 0x20, 0, 0xFFFFFFFF, 0, 0⟩]

/-- Registers of the CMP page that hold what is written. -/
def rowsCmp : List RegRow := [
    ⟨0x040, 1, 4, 0, 0xFFFFFF, 0, 0x2000⟩,
    ⟨0x060, 1, 4, 0x01FFFFFF, 0, 0, 0⟩,
    ⟨0x064, 1, 4, 0x3FFFFF, 0, 0, 0⟩,
    ⟨0x068, 1, 4, 0x01FFFFFF, 0, 0, 0⟩,
    ⟨0x06C, 1, 4, 0x3FFFFF, 0, 0, 0⟩,
    ⟨0x070, 1, 4, 0xF0, 0, 0, 0x60⟩,
    ⟨0x080, 1, 4, 0x01FFFFFF, 0, 0, 0⟩,
    ⟨0x084, 1, 4, 0x3FFFFF, 0, 0, 0⟩,
    ⟨0x088, 1, 4, 0x01FFFFFF, 0, 0, 0⟩,
    ⟨0x08C, 1, 4, 0x3FFFFF, 0, 0, 0⟩,
    ⟨0x090, 1, 4, 0x30, 0, 0, 0⟩,
    ⟨0x0A0, 1, 4, 0xFFFFFFFF, 0, 0, 0⟩,
    ⟨0x0A4, 1, 4, 0xFFFFFFFF, 0, 0, 0x00200000⟩]

/-- Registers of the ACQ page that hold what is written. -/
def rowsAcq : List RegRow := [
    ⟨0x040, 16, 0x10, 0, 0x3FF1FF, 0, 0⟩,
    ⟨0x044, 16, 0x10, 0, 0xFFFFFF, 0, 0⟩,
    ⟨0x048, 16, 0x10, 0, 0xFFFFFF, 0, 0⟩,
    ⟨0x140, 1, 4, 0, 0xF3F3F3F3, 0, 0⟩,
    ⟨0x144, 1, 4, 0xFF0FFF, 0, 0, 0x00FF080F⟩,
    ⟨0x150, 3, 4, 0xFFFFFFFF, 0, 0, 0⟩,
    ⟨0x200, 8, 0x40, 0, 0x2FF, 0, 0⟩,
    ⟨0x204, 8, 0x40, 0, 0xFFFF, 0, 0⟩,
    ⟨0x208, 8, 0x40, 0, 0xFFFFFFFF, 0, 0⟩,
    ⟨0x20C, 8, 0x40, 0, 0xFF0FFFFF, 0, 0⟩,
    ⟨0x210, 8, 0x40, 0, 0xFFFFFF, 0, 0⟩,
    ⟨0x214, 8, 0x40, 0, 0xFFFFFFFF, 0, 0⟩,
    ⟨0x218, 8, 0x40, 0x3F, 0, 0, 0⟩]

/-- Registers of the GLN page that hold what is written. -/
def rowsGln : List RegRow := [
    ⟨0x040, 16, 0x10, 0, 0x1F0FFFFF, 0, 0⟩,
    ⟨0x044, 16, 0x10, 0, 0xFFFFFFFF, 0, 0⟩,
    ⟨0x048, 16, 0x10, 0, 0xFFFFFF, 0, 0x00D00000⟩]

/-- Registers of the LIN page that hold what is written. -/
def rowsLin : List RegRow := [
    ⟨0x040, 1, 4, 0, 1, 0, 0⟩,
    ⟨0x048, 1, 4, 0x1F7FF, 0, 0, 0x10000⟩,
    ⟨0x060, 4, 4, 0x1FF, 0, 0, 0⟩]

/-- Registers of the LNK page that hold what is written. -/
def rowsLnk : List RegRow := [
    ⟨0x040, 1, 4, 0, 0x7F73, 0, 0x7F30⟩,
    ⟨0x044, 1, 4, 0x8F7F, 0, 0, 0⟩,
    ⟨0x048, 1, 4, 0xFFFFFFFF, 0, 0, 0x28180804⟩,
    ⟨0x04C, 1, 4, 0xFFFF, 0, 0, 0x400⟩,
    ⟨0x05C, 1, 4, 1, 0, 0, 0⟩,
    ⟨0x060, 1, 4, 0x70F7, 0, 0, 0⟩,
    ⟨0x100, 1, 4, 0x01FF00FF, 0, 0, 0x01320040⟩]

/-- Registers of the RTE page that hold what is written. -/
def rowsRte : List RegRow := [
    ⟨0x040, 2, 0x20, 0, 0x800F17FF, 0, 1⟩,
    ⟨0x044, 4, 0x10, 0, 0xFFFF, 0, 0⟩,
    ⟨0x050, 2, 0x20, 0, 0x800F17FF, 0, 0x101⟩]

/-- Registers of the TST page that hold what is written. -/
def rowsTst : List RegRow := [
    ⟨0x048, 1, 4, 0xFFFF, 0, 0, 0xE10⟩]

/-- Registers of the FUS page that hold what is written. -/
def rowsFus : List RegRow := []

/-- Registers of the D2D page that hold what is written. -/
def rowsD2d : List RegRow := []

/-- Registers of the SHF page that hold what is written. -/
def rowsShf : List RegRow := [
    ⟨0x040, 1, 4, 0, 0x00FFFFFF, 0, 0x00100A0A⟩,
    ⟨0x044, 1, 4, 0xFF, 0, 0, 0⟩,
    ⟨0x100, 4, 0x10, 0, 0x03FFFFFF, 0, 0x00287A12⟩,
    ⟨0x104, 4, 0x10, 0, 0x00FFFFFF, 0, 0x00804000⟩,
    ⟨0x140, 1, 4, 0, 0xF03, 0, 0x600⟩,
    ⟨0x144, 1, 4, 0, 0, 0x00FFFFFF, 0⟩,
    ⟨0x200, 1, 4, 0, 0x3F, 0, 0⟩,
    ⟨0x240, 1, 4, 0, 0xFF, 0, 4⟩,
    ⟨0x400, 32, 0x20, 0, 0x7F77, 0, 0⟩,
    ⟨0x404, 32, 0x20, 0, 0xF0F, 0, 0xC⟩,
    ⟨0x408, 32, 0x20, 0, 0x177, 0, 0x100⟩,
    ⟨0x40C, 32, 0x20, 0, 7, 0, 0⟩,
    ⟨0x41C, 32, 0x20, 0, 0, 0xFF, 0⟩]

/-- Registers of the FLT page that hold what is written. -/
def rowsFlt : List RegRow := [
    ⟨0x040, 4, 0x10, 0, 0x13F, 0, 0x33⟩,
    ⟨0x044, 4, 0x10, 0, 0x73FFF, 0, 0x64⟩,
    ⟨0x0C0, 1, 4, 0xFFFFFFFF, 0, 0, 0⟩,
    ⟨0x100, 1, 4, 0x107FF, 0, 0, 0x10000⟩,
    ⟨0x108, 1, 4, 0x1F1, 0, 0, 0x100⟩]

/-- The storing registers of a page. -/
def pageRows : PageK → List RegRow
  | .hub => rowsHub
  | .clk => rowsClk
  | .cmt => rowsCmt
  | .tmb => rowsTmb
  | .seq => rowsSeq
  | .cmd => rowsCmd
  | .hst => rowsHst
  | .twn => rowsTwn
  | .bcn => rowsBcn
  | .aux => rowsAux
  | .mem => rowsMem
  | .que => rowsQue
  | .cmp => rowsCmp
  | .acq => rowsAcq
  | .gln => rowsGln
  | .lin => rowsLin
  | .lnk => rowsLnk
  | .rte => rowsRte
  | .tst => rowsTst
  | .fus => rowsFus
  | .d2d => rowsD2d
  | .shf => rowsShf
  | .flt => rowsFlt

/-- The common header (R77): PG_CTRL and PG_IRQ_EN, PG_PERTURB store through their own rules. -/
def headRows : List RegRow := [⟨0x008, 1, 4, 0, 0, 0, 1⟩, ⟨0x010, 1, 4, 0, 0, 0xFFFFFFFF, 0⟩, ⟨0x014, 1, 4, 0xFFFFFFFF, 0, 0, 0⟩]

/-- The hub-level pages in index order (R75). -/
def hubPages : List PageK :=
  [.hub, .clk, .cmt, .tmb, .seq, .cmd, .hst, .twn, .bcn, .aux, .mem, .que, .cmp, .acq, .gln, .lin]

/-- Page and instance at a byte address (R75); none where no page maps. -/
def pageAt (a : Nat) : Option (PageK × Nat) :=
  let i := a / 0x1000
  if i < 0x10 then (hubPages[i]?).map (fun k => (k, 0))
  else if i < 0x18 then some (.lnk, i - 0x10)
  else if i = 0x18 then some (.rte, 0)
  else if i = 0x19 then some (.tst, 0)
  else if i = 0x1A then some (.fus, 0)
  else if i = 0x1B then some (.d2d, 0)
  else if 0x20 ≤ i ∧ i < 0x30 then some (.shf, i - 0x20)
  else if 0x30 ≤ i ∧ i < 0x40 then some (.flt, i - 0x30)
  else none

/-- Block code of PG_ID (R75). -/
def blockCode : PageK → Nat
  | .hub => 0 | .clk => 1 | .cmt => 2 | .tmb => 3 | .seq => 4 | .cmd => 5 | .hst => 6 | .twn => 7 | .bcn => 8
  | .aux => 9 | .mem => 10 | .que => 11 | .cmp => 12 | .acq => 13 | .gln => 14 | .lin => 15 | .lnk => 16
  | .rte => 0x18 | .tst => 0x19 | .fus => 0x1A | .d2d => 0x1B | .shf => 0x20 | .flt => 0x30

/-- Byte address of a page (R75). -/
def pageBase : PageK → Nat → Nat
  | .shf, ss => 0x20000 + 0x1000 * ss
  | .flt, ss => 0x30000 + 0x1000 * ss
  | .lnk, n => 0x10000 + 0x1000 * n
  | k, _ => 0x1000 * blockCode k

/-- MODE fixed at BASIC (R75). -/
def modeFixed : PageK → Bool
  | .hub | .cmt | .seq | .cmd | .hst | .tst | .fus | .d2d => true
  | _ => false

/-- EN fixed at 1 (R75). -/
def enFixed : PageK → Bool
  | .hub | .clk | .cmt | .tmb | .seq | .cmd | .hst | .tst | .fus | .d2d => true
  | _ => false

/-- Whether a row covers an offset. -/
def RegRow.covers (r : RegRow) (o : Nat) : Bool :=
  decide (r.off ≤ o) && decide (o < r.off + r.n * r.s) && decide ((o - r.off) % r.s = 0)

/-- The rows of one offset of a page, none where nothing stores there. -/
def rowAt (k : PageK) (o : Nat) : Option RegRow :=
  if o < 0x40 then headRows.find? (·.covers o) else (pageRows k).find? (·.covers o)

/-- The row at a byte address. -/
def regRow (a : Nat) : Option RegRow :=
  match pageAt a with
  | some (k, _) => rowAt k (a % 0x1000)
  | none => none

/-- What a register holds at reset (R3). -/
def regReset (a : Nat) : Word := match regRow a with
  | some r => BitVec.ofNat 32 r.rst
  | none => 0

def rwMask (a : Nat) : Word := match regRow a with
  | some r => BitVec.ofNat 32 r.rw
  | none => 0

def stMask (a : Nat) : Word := match regRow a with
  | some r => BitVec.ofNat 32 r.st
  | none => 0

def w1cMask (a : Nat) : Word := match regRow a with
  | some r => BitVec.ofNat 32 r.w1c
  | none => 0

/-- DSP-governing copies (R82). -/
def dspGoverned (a : Nat) : Bool :=
  match pageAt a with
  | some (.flt, _) | some (.lin, _) | some (.gln, _) | some (.acq, _) => true
  | some (.shf, _) => decide (0x400 ≤ a % 0x1000)
  | _ => false

/-- Addresses of the common header. -/
def pgCtrl (k : PageK) (i : Nat) : Nat := pageBase k i + 0x08
def pgIrq (k : PageK) (i : Nat) : Nat := pageBase k i + 0x10
def pgIrqEn (k : PageK) (i : Nat) : Nat := pageBase k i + 0x14
def pgErr (k : PageK) (i : Nat) : Nat := pageBase k i + 0x18
def pgPerturb (k : PageK) (i : Nat) : Nat := pageBase k i + 0x1C

/-- Channel-block registers (R123, R140, R188) of global channel g. -/
def chReg (g o : Nat) : Nat := 0x20000 + 0x1000 * (g / 32) + 0x400 + 0x20 * (g % 32) + o
def chCfgA (g : Nat) : Nat := chReg g 0x00
def chLeadA (g : Nat) : Nat := chReg g 0x04
def chCurrA (g : Nat) : Nat := chReg g 0x08
def chFiltA (g : Nat) : Nat := chReg g 0x0C
def chEventA (g : Nat) : Nat := chReg g 0x1C

/-- A sheaf-page register and a filter-page register. -/
def shfReg (ss o : Nat) : Nat := 0x20000 + 0x1000 * ss + o
def fltReg (ss o : Nat) : Nat := 0x30000 + 0x1000 * ss + o
def lnkReg (n o : Nat) : Nat := 0x10000 + 0x1000 * n + o

end Sys2Proof.Machine
end

