-- ==== Sys2Proof/Machine/Tbl.lean ====
section
/-! DEFINITION. Sparse tables in one canonical form: a list of (key, value) pairs, keys strictly rising,
no entry equal to what an unlisted key reads as. Every register file, buffer and memory of the hub is one. -/

namespace Sys2Proof.Machine

/-- A sparse table: plain data, so that two states can be compared. -/
abbrev Tbl (α : Type) := List (Nat × α)

/-- The value at a key; `d` is what an unlisted key reads as. -/
def tget {α : Type} (d : α) : Tbl α → Nat → α
  | [], _ => d
  | (j, v) :: r, k => if j = k then v else tget d r k

/-- The table without a key. -/
def terase {α : Type} : Tbl α → Nat → Tbl α
  | [], _ => []
  | (j, v) :: r, k => if j = k then terase r k else (j, v) :: terase r k

/-- The table with a key bound to a value, the others as they were. -/
def tinsert {α : Type} : Tbl α → Nat → α → Tbl α
  | [], k, v => [(k, v)]
  | (j, w) :: r, k, v =>
    if k = j then (k, v) :: r
    else if k < j then (k, v) :: (j, w) :: r
    else (j, w) :: tinsert r k v

/-- Write a key; writing the unlisted value removes the entry. -/
def tset {α : Type} [DecidableEq α] (d : α) (t : Tbl α) (k : Nat) (v : α) : Tbl α :=
  if v = d then terase t k else tinsert t k v

/-- All keys of the table lie above `lo`, rise strictly, and no entry reads as its unlisted value. -/
def twfFrom {α : Type} [DecidableEq α] (d : Nat → α) : Option Nat → Tbl α → Bool
  | _, [] => true
  | none, (j, v) :: r => decide (v ≠ d j) && twfFrom d (some j) r
  | some lo, (j, v) :: r => decide (lo < j) && decide (v ≠ d j) && twfFrom d (some j) r

/-- The canonical form. -/
def twf {α : Type} [DecidableEq α] (d : Nat → α) (t : Tbl α) : Bool := twfFrom d none t

/-- Change one entry by a function. -/
def tmod {α : Type} [DecidableEq α] (d : α) (t : Tbl α) (k : Nat) (f : α → α) : Tbl α :=
  tset d t k (f (tget d t k))

end Sys2Proof.Machine
end

