-- ==== Sys2Proof/Machine/State.lean ====
section
/-! DEFINITION. The hub's state, as plain data. Registers that hold what is written live in one sparse file keyed by byte
address; everything the manual keeps behind read-only registers or does not show lives in typed records. -/

namespace Sys2Proof.Machine

open Sys2Proof

/-- Hub states of R100 with their codes in this order. -/
inductive HubSt | boot | unconfigured | resync | standby | active | solo | sleep | safe
  deriving DecidableEq, Repr

/-- Where the reset sequence stands (R55, R57, R63, R65). -/
inductive Phase
  /-- Power-on reset held: core rails or XOS missing, or the 10 ms running. -/
  | por
  /-- Held by RESET_N low. -/
  | pin
  /-- Boot running. -/
  | boot
  /-- Boot complete. -/
  | run
  /-- The ROM checksum failed: the processor does not start (R66). -/
  | dead
  deriving DecidableEq, Repr

/-- One field die and its link (R54 to R62). -/
structure Die where
  /-- VDD_FD and VDDA both present. -/
  rails : Bool := true
  lost : Bool := false
  /-- Powered, gates closed and link trained. -/
  up : Bool := false
  trained : Bool := false
  /-- Lanes L0, L1, L2: trained and not failed. -/
  ok0 : Bool := false
  ok1 : Bool := false
  ok2 : Bool := false
  map : Nat := 0
  lostLo : Bool := false
  lostHi : Bool := false
  /-- Current trims of the lanes in 10 ps and the measured values they move to (R60). -/
  trim : List Nat := []
  trimTo : List Nat := []
  /-- A failed lane whose words L2 takes over at the next frame boundary (R61). -/
  sub : Option Nat := none
  /-- Numbers of the failed words of each lane within the last 65,536, newest first (R61). -/
  bad : Tbl (List Nat) := []
  /-- Tick number of the last delay measurement (R60). -/
  trimAt : Nat := 0
  /-- Restored, with its buffers settling before the channels return (R54, R145). -/
  restoring : Bool := false
  deriving DecidableEq, Repr

/-- SLEEP's progress (R68 to R71). -/
inductive Sleep
  | awake
  /-- HUB_SLEEP accepted: draining since tick `tick`. -/
  | draining (tick : Nat) (path tag : Nat)
  | asleep
  /-- Waking, with or without RESTORE. -/
  | waking (restore : Bool)
  deriving DecidableEq, Repr

/-- Supplies, clocks, reset and sleep (R52 to R74). -/
structure Pwr where
  phase : Phase := .boot
  /-- The keepalive lane, chosen at SLEEP entry from KEEP (R68). -/
  keep : Nat := 0
  /-- VDD_C and VDD_IO count as present (R53). -/
  core : Bool := true
  vddl : Bool := true
  vddlh : Bool := true
  xos : Bool := true
  /-- A loss of XOS while running, reported at the next boot (R57). -/
  xosLost : Bool := false
  slowInt : Bool := false
  pllC : Bool := true
  pllD : Bool := true
  pllL : Bool := true
  resetNLow : Bool := false
  /-- Factory mode (R430). -/
  ft : Bool := false
  sleep : Sleep := .awake
  /-- Hub state before SLEEP (R71). -/
  before : HubSt := .unconfigured
  deriving DecidableEq, Repr

/-- Hub state and SAFE (R22 to R24, R100). -/
structure Hub where
  st : HubSt := .boot
  straps : Straps := { twinEn := false, twinSide := false, bootMode := 0 }
  safeCause : Nat := 0
  /-- The SAFE cause persists. -/
  safeHeld : Bool := false
  fuseFail : Bool := false
  /-- Transmit and receive latencies that the fuses hold, by line rate code, tau/256 (R204). -/
  lats : List (Nat × Nat) := []
  consec : Nat := 0
  clean : Nat := 0
  deriving DecidableEq, Repr

/-- A CIC word in a tap input store: channel, instant in tau/256, the network instant assigned on arrival (R217) in
2^-64 s, value in 2^-30 LSB, and its clip marker, which holds the sign of the last clipped cycle (R143). -/
structure StoreIn where
  g : Nat
  t : Nat
  tn : Int
  v : Int
  clip : Option Bool := none
  deriving DecidableEq, Repr

/-- The DSP pass and the tap input stores (R17, R20, R22, R23). -/
structure Dsp where
  /-- Frame of the running pass. -/
  run : Option Nat := none
  /-- CORE cycle at which a pass that a perturbation prolongs ends, once its own work is done (R426). -/
  endAt : Option Nat := none
  /-- Passes held by an overrun, oldest first. -/
  held : List Nat := []
  /-- Tick number of the next pass that starts or is held. -/
  next : Nat := 1
  /-- Input stores: frame of the pass that takes them, with its words; at most four. -/
  store : List (Nat × List StoreIn) := []
  /-- The store that fills in the present frame has room (R23). -/
  room : Bool := true
  /-- Coefficient words that the last frame read uncorrectably, as read (R181). -/
  coefBad : List (Nat × Word) := []
  deriving DecidableEq, Repr

/-- Session states of R86. -/
inductive SessSt | closed | open_ | checking | armed
  deriving DecidableEq, Repr

/-- Session owners, codes 0 to 5 in this order (R86). -/
inductive Owner | none | hostCmd | mgmtCmd | hostDirect | mgmtDirect | firmware
  deriving DecidableEq, Repr

/-- The CMT result registers (R87). -/
structure CheckRes where
  status : Nat := 0
  check : Nat := 0
  current : Bool := false
  final : Bool := false
  offender : Word := 0
  detail : Nat := 0
  limit : Nat := 0
  loads : Tbl Nat := []
  asm : Nat := 0
  budget : Nat := 0
  bkdem : Tbl Nat := []
  lkdem : Tbl Nat := []
  lkcap : Tbl Nat := []
  deriving DecidableEq, Repr

/-- The configuration session (R86 to R92, R97). -/
structure Cmt where
  st : SessSt := .closed
  owner : Owner := .none
  serial : Nat := 0
  /-- The running check was started by ARM. -/
  arming : Bool := false
  applyFrame : Nat := 0
  /-- Check 0's refusal, judged when ARM was taken: status, register address, bit (R88). -/
  pre : Option (Nat × (Nat × Nat)) := none
  /-- The final check of tick F-1 has passed. -/
  finalOk : Bool := false
  /-- Ticks since the owner's last request (R92). -/
  idle : Nat := 0
  /-- Epoch carried by the image being loaded (R97). -/
  imageEpoch : Option Nat := none
  res : CheckRes := {}
  epoch : Nat := 0
  lastApply : Nat := 0
  /-- Link needs of the last passed check (R319). -/
  need : Tbl Nat := []
  deriving DecidableEq, Repr

/-- EVENT packets (R99). -/
structure Evt where
  /-- Tick numbers of the frames in which a routed page became pending and whose packet is not sent yet. -/
  due : List Nat := []
  /-- Frame of the last EVENT packet. -/
  last : Nat := 0
  deriving DecidableEq, Repr

/-- Channel states of R120. -/
inductive ChState | off | armed | settling | run | fault
  deriving DecidableEq, Repr

/-- Lead states of R115. -/
inductive LeadSt | none | suspect | confirmed
  deriving DecidableEq, Repr

/-- Why a span of instants marks samples: the flag it sets (R102, R110, R113, R116, R131, R132). -/
inductive MarkK | lost | cal | shorts | rmov | ovrPos | ovrNeg | lead | exce (src : Nat)
  deriving DecidableEq, Repr

/-- A span of input instants (units of tau/256) that marks every sample whose filter window meets it;
`known` is the frame in which the hub learned of it, which bounds its reach by verdict hold (R19). -/
structure Mark where
  k : MarkK
  t0 : Nat
  t1 : Option Nat
  known : Nat
  deriving DecidableEq, Repr

/-- The last autorange switch of a channel: its boundary, the range before, whether it went to a wider range, its count
before, and whether its CH_EVENT bit and PG_IRQ cause were new (R111). -/
structure ArSw where
  t : Nat
  gain : Nat
  up : Bool
  cnt : Nat
  ev : Bool
  irq : Bool
  deriving DecidableEq, Repr

/-- One channel's front end (R107 to R120) beside its registers. -/
structure Chan where
  st : ChState := .off
  /-- FAULT_CAUSE of CH_STATUS. -/
  cause : Nat := 0
  /-- Gain code in effect; autorange moves it (R107). -/
  gain : Nat := 0
  /-- GAIN_NOW of CH_MON: the code at the end of the last DSP pass (R123). -/
  gainPass : Nat := 0
  /-- Qualifying samples counted toward the next narrower range (R109). -/
  arCount : Nat := 0
  upCnt : Nat := 0
  dnCnt : Nat := 0
  clipCnt : Nat := 0
  /-- X, N, P found shorted at the last SHORTS test. -/
  shortMask : Nat := 0
  cmwP : Bool := false
  cmwN : Bool := false
  lead : LeadSt := .none
  /-- LEAD_SRC: detectors that raised the lead state (bit 2 window, 1 force/sense or collapse, 0 compliance). -/
  leadSrc : Nat := 0
  /-- Confirming detectors active now, as a list of detector codes. -/
  detAct : List Nat := []
  /-- Frame at which the clearing test is issued again (R115). -/
  retestAt : Option Nat := none
  marks : List Mark := []
  /-- Settling start t_s, in tau/256 (R173). -/
  settle : Option Nat := none
  /-- The burnout current and the bias resistor are applied, and the instant of their last switch (R106). -/
  loads : Bool := false
  loadAt : Nat := 0
  /-- The last autorange switch, while a commit can still discard it (R111). -/
  arSw : List ArSw := []
  /-- Range scaling by instant, newest first: from the instant on, words are divided by 2^code (R110). -/
  shifts : List (Nat × Nat) := []
  /-- Instant of the last modulator start, and the scaled modulator outputs since then, newest first, at most 60 (R143). -/
  mod0 : Nat := 0
  cic : List Int := []
  /-- Clipped modulator cycles that no CIC word carries yet: instant, positive (R143, R148). -/
  clips : List (Nat × Bool) := []
  /-- THREEW sources exchanged (R135). -/
  swapped : Bool := false
  /-- In use when the die was lost or SLEEP entered, so restored after it (R54, R71). -/
  inUse : Bool := false
  /-- A modulator fault within 1024 frames of its restart: FAULT stays until EN is cleared and set (R146). -/
  stuck : Bool := false
  deriving DecidableEq, Repr

/-- Who started a lead test (R117). -/
inductive LtOrigin | reg | cmd | periodic
  deriving DecidableEq, Repr

/-- A running lead test of a sheaf. -/
structure LeadTest where
  shorts : Bool
  all : Bool
  ch : Nat
  origin : LtOrigin
  /-- Local channels the test covers. -/
  cover : List Nat
  aborted : Bool := false
  /-- Local channels found with a pin outside the window. -/
  opens : List Nat := []
  /-- Instant of its start: a SHORTS test marks CAL from here (R118). -/
  t0 : Nat := 0
  /-- One of its conversions has ended. -/
  begun : Bool := false
  deriving DecidableEq, Repr

/-- Driver modes of R127. -/
inductive ExcMode | off | regulate | share | hold
  deriving DecidableEq, Repr

/-- One excitation output (R124 to R132) beside its registers. Currents in uA, voltages in 160 uV steps. -/
structure Exc where
  mode : ExcMode := .off
  iout : Nat := 0
  vs : Nat := 0
  fsd : Int := 0
  /-- Current target in SHARE. -/
  target : Nat := 0
  /-- Setpoint now in use. -/
  setNow : Nat := 0
  /-- The holder's last reported SET, current and whether it regulates cleanly (R128, R129). -/
  holdSet : Nat := 0
  holdI : Nat := 0
  /-- The holder has reported a SET. -/
  heard : Bool := false
  setMis : Bool := false
  ilim : Bool := false
  headroom : Bool := false
  fsDiff : Bool := false
  collapse : Bool := false
  /-- Start of the ramp in progress. -/
  ramp : Option Nat := none
  /-- The frame of the last entry to HOLD (R360). -/
  heldAt : Option Nat := none
  /-- Start of the sense excursion in REGULATE, of ILIM and of HEADROOM, while they last (R132). -/
  exSense : Option Nat := none
  exIlim : Option Nat := none
  exHead : Option Nat := none
  /-- Frame until which the collapse monitor stays blanked (R131). -/
  blankTo : Nat := 0
  /-- Mean currents of the preceding frames, newest first, at most 16: the collapse reference (R131). -/
  hist : List Nat := []
  /-- Consecutive good LEASE frames in HOLD, with the tick number and the lease serial of the last one (R129). -/
  good : Nat := 0
  goodAt : Nat := 0
  goodSer : Nat := 0
  /-- Outgoing holder regulating with droop until its SHARE entry (R130). -/
  outgoing : Bool := false
  deriving DecidableEq, Repr

/-- What an auxiliary conversion is for (R158). -/
inductive AuxKind
  | sys (input : Nat)
  | cjc (sensor : Nat)
  | lead (ss cc pin : Nat)
  /-- The conversion at which a running SHORTS test stands (R118). -/
  | shorts (ss : Nat)
  /-- A conversion of a lead test that has ended: its result goes nowhere. -/
  | stale
  | urgent (g pin : Nat) (clearing : Bool)
  | vexc
  | slot (i : Nat)
  | spot (path tag : Nat) (input : Nat)
  deriving DecidableEq, Repr

/-- A request of an auxiliary converter and the instant of its raise. -/
structure AuxReq where
  kind : AuxKind
  raised : Nat
  deriving DecidableEq, Repr

/-- One auxiliary converter AUXn (R156 to R163). -/
structure Aux where
  urgent : List AuxReq := []
  sys : List AuxReq := []
  cjc : List AuxReq := []
  lt : List AuxReq := []
  spot : List AuxReq := []
  /-- Class served last: 0 SYS, 1 CJC, 2 LT, 3 SPOT. -/
  last : Nat := 3
  run : Option AuxReq := none
  /-- Temperature sensors 0 to 3 in 1/64 degC. -/
  temp : Tbl Int := []
  /-- Each sensor's last conversion of the CJC class: temperature and instant in tau/256 (R227, R228). -/
  cjLast : Tbl (Option (Int × Nat)) := []
  /-- Instants at which the last SYS pass and the last CJC round were due (R158). -/
  sysAt : Option Nat := none
  cjcAt : Option Nat := none
  vdda : Nat := 0
  vddfd : Nat := 0
  vexc : Nat := 0
  /-- Die dissipation at the last check, mW (SHF_VEXC.DISS). -/
  diss : Nat := 0
  intDev : Int := 0
  /-- Consecutive INT checks beyond 0.1 % (R153). -/
  intBad : Nat := 0
  ext : List Nat := []
  deriving DecidableEq, Repr

/-- A spot-read slot (R161) beside its configuration register. -/
structure Slot where
  go : Bool := false
  seq : Nat := 0
  valid : Bool := false
  fresh : Bool := false
  value : Nat := 0
  /-- Frames since the last repeat issue, and the CORE cycle of that issue (R161, R162). -/
  ticks : Nat := 0
  repAt : Option Nat := none
  /-- The CORE cycle of the last issue by GO (R162). -/
  goAt : Option Nat := none
  deriving DecidableEq, Repr

/-- One reference buffer (R151 to R153). -/
structure RefBuf where
  on : Bool := false
  ready : Bool := false
  fault : Bool := false
  /-- In use when the die was lost or SLEEP entered. -/
  inUse : Bool := false
  deriving DecidableEq, Repr

/-- A coefficient bank's descriptor (R176, R177). -/
structure CBank where
  loaded : Bool := false
  std : Nat := 0
  len16 : Nat := 0
  phase : Bool := false
  crc : Nat := 0
  /-- DC delay in 2^-16 FIR input samples. -/
  delay : Nat := 0
  deriving DecidableEq, Repr

/-- A profile's swap state (R179). -/
structure Prof where
  swapFrame : Nat := 0
  /-- Instants T_F of the swaps whose old bank still drains, in network time (2^-64 s), newest first. -/
  drains : List Int := []
  deriving DecidableEq, Repr

/-- A FIR output that awaits the resampler: its DC-corrected instant in tau/256 and in network
time (2^-64 s), and its value in 2^-8 LSB. -/
structure FirOut where
  u : Nat
  un : Int
  y : Int
  deriving DecidableEq, Repr

/-- A halfband or fifth-band stage of a tap: its inputs, newest first, and how many wait for the next output (R165). -/
structure FixStage where
  hist : List Int := []
  ph : Nat := 0
  deriving DecidableEq, Repr

/-- A channel's latest output, as the cold junctions and the beacon read it (R227, R228, R416). -/
structure LastOut where
  /-- 24-bit value, flags as produced, the curve it was produced under. -/
  v : Int
  f : Nat
  curve : Nat
  /-- The pass that produced it and the span of instants whose verdicts reach it. -/
  o : Nat
  a : Nat
  b : Nat
  /-- The verdict hold of its words (R19). -/
  h : Nat := 0
  deriving DecidableEq, Repr

/-- The tap of one channel (R165 to R184). -/
structure Tap where
  /-- The fixed stages in order, by place (R165). -/
  fixed : Tbl FixStage := []
  /-- FIR inputs, newest first, in 2^-30 LSB. -/
  hist : List Int := []
  /-- An odd FIR input is waiting for its partner (decimation by 2). -/
  half : Bool := false
  /-- FIR outputs, newest first, as many as the resampler needs. -/
  outs : List FirOut := []
  /-- Next grid index k of the output grid k/ODR (R173), none before the first. -/
  nextK : Option Nat := none
  /-- Next grid index owed to the streams and its rate code, and the index after the last output delivered since OFF and its
  rate code (R265, R270). -/
  owe : Option (Nat × Nat) := none
  gave : Option (Nat × Nat) := none
  /-- DC-blocker state in 2^-24 LSB, whether seeded, and the instant to which its SETL lasts (R183). -/
  m : Int := 0
  seeded : Bool := false
  setlTo : Nat := 0
  /-- Capture plans holding a trigger freeze on the blocker, with the trigger's network instant in 2^-64 s (R184). -/
  frz : List (Nat × Int) := []
  /-- Last valid cold-junction temperature of each source since SETTLING, keyed by CJCSRC and, for source 2, CJCCH, and whether
  outputs hold one now (R228). -/
  cjc : Tbl (Option Int) := []
  cjcHeld : Bool := false
  /-- Latest output (R227). -/
  last : Option LastOut := none
  deriving DecidableEq, Repr

/-- Timebase states of R193. -/
inductive TbSt | free | stepped | locked | holdover
  deriving DecidableEq, Repr

/-- An arrival of a TIME ordered set: its ID, the partner's departure and serial from the packet, the own
arrival stamp (2^-64 s) and the own step serial at the stamp (R453). -/
structure TArr where
  id : Nat
  dep : Nat
  peerSer : Nat
  t2 : Int
  ser : Nat
  deriving DecidableEq, Repr

/-- An own departure: ID, stamp, serial, and the arrival reported with it (R205, R206). -/
structure TDep where
  id : Nat
  t3 : Int
  ser : Nat
  pair : Option TArr := none
  deriving DecidableEq, Repr

/-- The four stamps of one exchange, in 2^-64 s (R196 keeps sixteen). -/
structure Exch where
  t1 : Int
  t2 : Int
  t3 : Int
  t4 : Int
  deriving DecidableEq, Repr

/-- Time transfer on one lane (R204 to R209). -/
structure TLane where
  /-- Arrival held for its TIME packet: character 3, stamp, serial (R453). -/
  held : Option (Nat × Int × Nat) := none
  /-- Instant of the held arrival in tau/256, for the 25 us. -/
  heldAt : Nat := 0
  arr : Option TArr := none
  deps : List TDep := []
  nValid : Nat := 0
  dlys : List Int := []
  ofss : List Int := []
  /-- Exchanges in a row that failed only the delay test, and the latest of their delays. -/
  rejDly : Nat := 0
  rejLast : Int := 0
  jumped : Bool := false
  ofs : Int := 0
  dly : Int := 0
  peerState : Nat := 0
  peerHops : Nat := 15
  peerSer : Nat := 0
  peerBound : Nat := 0xFFFFFFFF
  /-- Ticks since the last valid exchange (saturating at 4), and frames qualified (R209). -/
  age : Nat := 4
  qual : Nat := 0
  /-- The latest valid exchange of this frame and its theta (R207). -/
  now : Option (Exch × Int) := none
  /-- In FREE, the exchanges of the consecutive frames in which it has been a qualified source with a valid one, newest first, at
  most 16 (R193). -/
  freeEx : List Exch := []
  deriving DecidableEq, Repr

/-- What a pending step sets (R196, R199, R212). -/
inductive StepK
  /-- First step: the rate and the fitted line's constant, value 2^-64 s at own time zero. -/
  | fit (rho : Int) (c : Int)
  /-- Step by a difference, 2^-64 s. -/
  | delta (d : Int)
  /-- Absolute: network time `t` (2^-64 s) at counter instant `at` (tau/256), with a rate if one was measured. -/
  | abs (t : Int) (at_ : Nat) (rho : Option Int)
  deriving DecidableEq, Repr

/-- The timing root's PPS state (R212, R213). -/
structure Pps where
  todValid : Bool := false
  /-- Stamp (tau/256) of the first edge after VALID. -/
  first : Option Nat := none
  /-- Whole second the next edge carries, once running. -/
  next : Option Nat := none
  lockCnt : Nat := 0
  miss : Nat := 0
  disc : Nat := 0
  deriving DecidableEq, Repr

/-- The snapshot registers (R192). -/
structure Snap where
  c : Nat := 0
  t : Int := 0
  st : Word := 0
  deriving DecidableEq, Repr

/-- The timebase (R189 to R222). -/
structure Tmb where
  st : TbSt := .free
  /-- Base point: CORE cycle and network time in 2^-64 s; rate in 2^-48, loop integrator in 2^-80. -/
  c0 : Nat := 0
  t0 : Int := 0
  rho : Int := 0
  integ : Int := 0
  ser : Nat := 0
  stepNeeded : Bool := false
  step : Option StepK := none
  src : Option Nat := none
  /-- The last source was dropped when its lane had left UP (R193). -/
  srcGone : Bool := false
  /-- Bound the selected source last advertised, ps. -/
  srcBound : Nat := 0
  /-- Frames at whose cutoff a change into a TUNL condition became known (R194). -/
  tunlAt : List Nat := []
  lockCnt : Nat := 0
  unlockCnt : Nat := 0
  bigCnt : Nat := 0
  /-- Consecutive frames without a valid exchange from a qualified source. -/
  miss : Nat := 0
  /-- Latest phase error, 2^-64 s, and whether this frame has one. -/
  e : Int := 0
  eNew : Bool := false
  /-- Last 16 valid |e|, for E0 (R195). -/
  eHist : List Int := []
  /-- Holdover: entry instant (tau/256), E0 in ps, from LOCKED. -/
  hoAt : Nat := 0
  hoE0 : Nat := 0
  hoLocked : Bool := false
  /-- The bound has been reported beyond 1 ns (R194). -/
  hoTunl : Bool := false
  /-- HOPS has taken the value of R209 (first frame passed). -/
  hopsLive : Bool := false
  pps : Pps := {}
  snap : Snap := {}
  /-- Armed events, bit mask. -/
  evtArm : Nat := 0
  /-- Firings of each armed event so far: its next instant lies that many periods on (R214, R215). -/
  evtCnt : Tbl Nat := []
  /-- Last accepted TRIG_IN edges, tau/256. -/
  trigLast : Tbl (Option Nat) := []
  /-- Pulses of the pins PPS_OUT, TICK_OUT, TRIG_OUT[1:0], each from one instant to another (tau/256). -/
  pulse : Tbl (List (Nat × Nat)) := []
  /-- Trigger pulses still ahead of their frame: TRIG_OUT line, network instant (R243). -/
  outs : List (Nat × Int) := []
  lanes : Tbl TLane := []
  deriving DecidableEq, Repr

/-- What an accepted command that has started waits for (R395). -/
inductive Wait
  /-- Accepted, not started. -/
  | start
  /-- Accepted with a malformed buffer or a reserved opcode: BAD_PARAM in its turn (R389, R392). -/
  | bad
  | apply
  | check
  | leadTest (ss : Nat)
  | spot
  /-- SHF_REF_ENABLE waits for REF_READY of the buffers of `mask`; the epoch of its apply. -/
  | refReady (ss mask epoch : Nat)
  /-- The own session of SHF_REF_ENABLE runs; `wait` asks for REF_READY afterwards. -/
  | refApply (ss mask : Nat) (wait : Bool)
  | sleep
  | wake
  | memTest (b : Nat)
  | offload (j : Nat)
  | acqApply (j : Nat)
  /-- The plan's configuration is applied: it arms in the next DSP pass. -/
  | acqPass (j : Nat)
  | bist (t : Nat)
  /-- LINK_PRBS on lane n: 0 its first session, 1 the pattern runs up to tick `upto`, 2 it wants its second session, 3 that
  session; the status it will end with. -/
  | prbs (n ph upto st : Nat)
  | swap
  | diag
  | adj
  | seal (ss : Nat)
  | step
  | arc
  | imageSend
  deriving DecidableEq, Repr

/-- An accepted command in flight (R391): its path, tag, generation, opcode and parameter bytes. -/
structure Flight where
  path : Path
  tag : Nat
  gen : Nat
  op : Nat
  buf : List Byte
  wait : Wait := .start
  /-- TOKEN and ORIGIN of its MGMT packet (R327). -/
  tok : Nat := 0
  org : Nat := 0
  deriving DecidableEq, Repr

/-- A completion (R390). -/
structure Compl where
  path : Path
  tag : Nat
  gen : Nat
  op : Nat
  status : Nat
  result : List Byte := []
  /-- Frame index at completion. -/
  frame : Nat := 0
  dup : Bool := false
  /-- Its tag is free although it waits: a processor restart ended the command (R14, R397). -/
  freed : Bool := false
  tok : Nat := 0
  org : Nat := 0
  deriving DecidableEq, Repr

/-- The linearisation engine (R223 to R239). -/
structure Lin where
  /-- Parameter pages A (words 0 to 2047) and B (2048 to 4095), then four tables of 512 words from 4096. -/
  mem : Tbl Word := []
  loaded : Nat := 0
  sealing : Tbl (Option Nat) := []
  copying : Bool := false
  /-- Words whose read meets an uncorrectable error. -/
  ue : List Nat := []
  deriving DecidableEq, Repr

/-- A sample word kept for assembly: channel, grid index, rate code E2 + 16 E5, the word of stage 7, and the span of
instants (tau/256) whose verdicts reach it (R7, R17, R19). -/
structure Samp where
  g : Nat
  k : Nat
  rc : Nat
  v : Word
  a : Nat
  b : Nat
  deriving DecidableEq, Repr

/-- Grid indices a channel owed and did not produce (R247, R270). -/
structure Miss where
  g : Nat
  rc : Nat
  k0 : Nat
  k1 : Nat
  deriving DecidableEq, Repr

/-- A channel not OFF in a pass, with the index after its last delivered output, none where there is none (R265). -/
structure OnRec where
  g : Nat
  rc : Nat
  next : Option Nat
  deriving DecidableEq, Repr

/-- What a DSP pass produced (R17): its number, its frame index, its samples and gaps. -/
structure PassRec where
  o : Nat
  frame : Nat
  on : List OnRec := []
  samps : List Samp := []
  miss : List Miss := []
  deriving DecidableEq, Repr

/-- A stream's definition and the epoch of the apply that made it active (R261, R264). -/
structure StrDef where
  en : Bool := false
  fmt : Nat := 2
  q : Nat := 0
  p : Nat := 1
  gln : Bool := false
  shf : Nat := 0
  chm : Nat := 0
  epoch : Nat := 0
  deriving DecidableEq, Repr

/-- A stook that is open or awaits assembly: definition, first pass and frame, last pass once known, hold, step mark,
instant of tick j (2^-64 s) and step serial (R261 to R264, R274). -/
structure Stook where
  d : StrDef
  o0 : Nat
  j : Nat
  last : Option Nat := none
  h : Nat := 0
  tdisc : Bool := false
  t : Int := 0
  ser : Nat := 0
  deriving DecidableEq, Repr

/-- A stream (R261, R262). -/
structure Stream where
  cur : StrDef := {}
  next : Option StrDef := none
  opn : Option Stook := none
  wait : List Stook := []
  seq : Nat := 0
  deriving DecidableEq, Repr

/-- Results of one channel of a glean unit over a period (R255). -/
structure GAcc where
  n : Nat := 0
  nx : Nat := 0
  sum : Int := 0
  sq : Int := 0
  mn : Option Word := none
  mx : Option Word := none
  flags : Nat := 0
  late : Bool := false
  deriving DecidableEq, Repr

/-- A glean unit: whether a period is being counted, its first frame and pass, its channels, START of its last record. -/
structure GUnit where
  on : Bool := false
  start : Nat := 0
  o0 : Nat := 0
  acc : Tbl GAcc := []
  last : Nat := 0
  deriving DecidableEq, Repr

/-- A glean record waiting for its stook (R257). -/
structure GRec where
  u : Nat
  g : Nat
  rmask : Nat
  stream : Nat
  start : Nat
  o0 : Nat
  o1 : Nat
  acc : GAcc
  deriving DecidableEq, Repr

/-- A trigger unit (R241, R242). -/
structure TUnit where
  armed : Bool := true
  prev : Option Int := none
  last : Nat := 0
  deriving DecidableEq, Repr

/-- Plan states of R248, codes 0 to 4 in this order. -/
inductive PlanSt | idle | filling | ready | post | held
  deriving DecidableEq, Repr

/-- A captured word on its way to the bank: the pass that produced it and its hold, the stored number (none for a sample
dropped by halving), its plan number, its place in the channel set, and the sample (none for a missing one). -/
structure PWrite where
  o : Nat
  h : Nat
  n : Option Nat
  k : Nat
  i : Nat
  smp : Option Samp
  deriving DecidableEq, Repr

/-- A running offload: queue, options, samples read, segments made (R252). -/
structure Offl where
  q : Nat
  compress : Bool
  live : Bool
  rdn : Nat := 0
  segs : Nat := 0
  /-- The segment being written is to be discarded by a word flush: the position of its chaff record (R283). -/
  sink : Option Nat := none
  deriving DecidableEq, Repr

/-- A run of a plan's samples at one level and one rate: first plan number, level d, the stored number there, rate code, and the
grid index less the plan number (R246, R253). -/
structure LvRun where
  f : Nat
  d : Nat
  n : Nat
  rc : Nat
  off : Int
  deriving DecidableEq, Repr

/-- A capture plan (R246 to R254). It numbers the grid instants of its samples in a row; `off` is the grid index less that number,
0 until an apply changes the rate of a plan that is filling (log entry 211). -/
structure Plan where
  st : PlanSt := .idle
  off : Int := 0
  /-- Rate code of the numbers given now. -/
  rc : Nat := 0
  kFirst : Nat := 0
  /-- Next number of each channel of the set. -/
  nx : Tbl Nat := []
  /-- Runs, newest first. -/
  lv : List LvRun := []
  /-- Runs of numbers, first and last, at which a channel of the set gave no sample. -/
  miss : List (Nat × Nat) := []
  trig : Int := 0
  k0 : Nat := 0
  /-- CP_K0, as recorded at acceptance. -/
  k0Mod : Nat := 0
  /-- First number after the window. -/
  wEnd : Nat := 0
  tsrc : Nat := 0
  cause : Nat := 0
  trunc : Bool := false
  gap : Bool := false
  gapAt : Nat := 0
  slot : Nat := 0
  offl : Option Offl := none
  offdone : Bool := false
  pend : List PWrite := []
  /-- Flags of the samples taken, by number. -/
  fl : Tbl Nat := []
  deriving DecidableEq, Repr

/-- What a queue record is (R264, R272, R273, R338, R340). -/
inductive RecTag
  | stook (s seq t0 t1 : Nat) (stby : Bool)
  | seg (p segno t0 t1 : Nat)
  | relay (ue : Bool)
  | resync
  | gone
  deriving DecidableEq, Repr

/-- A committed record: position and length in 64-bit words, whether it lies in the spill bank, its bytes (R275). -/
structure Rec where
  tag : RecTag
  pos : Nat
  len : Nat
  spill : Bool := false
  bytes : List Byte := []
  /-- The spill bank that took it. -/
  bank : Nat := 0
  /-- Bits in error in one word of it, by a perturbation (R426). -/
  bad : Nat := 0
  deriving DecidableEq, Repr

/-- An entry of the chaff store (R269 to R271): whether some reader has begun to send it, and the lanes that have sent it since
their last rewind before it. -/
structure Chaff where
  stream : Nat
  cause : Nat
  scope : Nat
  g : Nat := 0xFFFF
  first : Nat
  last : Nat
  tF : Nat
  tL : Nat
  all : Bool := false
  wide : Bool := false
  stby : Bool := false
  pos : Nat
  /-- Scope 1: rate code, first grid index and the one after the last. -/
  rc : Nat := 0
  k0 : Nat := 0
  k1 : Nat := 0
  begun : Bool := false
  sent : List Nat := []
  deriving DecidableEq, Repr

/-- A reader: position of the record it is at, bytes of that record sent, acknowledged pointer, and the REASON of a
QRESYNC word it owes (R276, R281). -/
structure Rdr where
  rd : Nat := 0
  off : Nat := 0
  ack : Nat := 0
  owe : Nat := 0
  deriving DecidableEq, Repr

/-- A stream or relay queue (R275 to R285). -/
structure Queue where
  wp : Nat := 0
  wm : Nat := 0
  lde : Nat := 0
  recs : List Rec := []
  rdrs : Tbl Rdr := []
  chaff : List Chaff := []
  ovf : Option Chaff := none
  ser : Nat := 0
  flush : Bool := false
  spilling : Bool := false
  /-- Bits in error that a perturbation puts into the next word written (R426). -/
  inj : Nat := 0
  deriving DecidableEq, Repr

/-- An archive or decompressor register job with its latched registers (R301). -/
structure Job where
  src : Nat
  slen : Nat
  dst : Nat
  dlen : Nat
  par : Nat
  decl : Nat := 0
  limit : Nat := 0
  cancel : Bool := false
  deriving DecidableEq, Repr

/-- One compression engine's register side (R301, R302). -/
structure Eng where
  job : Option Job := none
  done : Bool := false
  status : Nat := 0
  blocks : Nat := 0
  ratio : Bool := false
  consumed : Nat := 0
  produced : Nat := 0
  deriving DecidableEq, Repr

/-- The capture memory block (R370 to R382): word contents by bank x 262144 + word. -/
structure Mem where
  words : Tbl Nat := []
  /-- Bits in error that a perturbation puts into the next word written in a bank, and those of words (R426). -/
  inj : Tbl Nat := []
  errs : Tbl Nat := []
  /-- RELEASED as last seen, one bit per bank, for its rising edge. -/
  rel : Nat := 0xFFF
  holdLo : Word := 0
  readHi : Word := 0
  hstat : Nat := 0
  test : Option Nat := none
  testRes : Nat := 0
  /-- Scrubber positions of memories 0 to 12. -/
  scrub : Tbl Nat := []
  /-- Repairs in effect: sub-array, spare, column, made by fuse. -/
  repair : List (Nat × Nat × Nat × Bool) := []
  deriving DecidableEq, Repr

/-- Lane states (R307). -/
inductive LaneSt | down | align | up | degraded
  deriving DecidableEq, Repr

/-- A sequenced packet sent and not acknowledged: its credit class (0 S, 1 P), cost, reading queue, start of its record,
and the end position its LAST fragment reaches (R329, R331, R333). -/
structure TxRec where
  pk : Pkt
  cost : Nat
  q : Nat
  start : Nat
  stop : Option Nat
  at_ : Nat
  /-- The REASON of the QRESYNC word it carries, and the chaff entry it carries, as `chaffKey` has it. -/
  owed : Nat := 0
  chaff : Option Chaff := none
  /-- Sent again elsewhere, or dropped: only its number and its credit are still counted here (R343). -/
  gone : Bool := false
  deriving DecidableEq, Repr

/-- The link layer of a lane (R322 to R346). -/
structure Lk where
  tx : Nat := 0
  un : List TxRec := []
  e : Nat := 0
  uS : Nat := 0
  uP : Nat := 0
  limS : Nat := 0
  limP : Nat := 0
  unlim : Bool := false
  gotIdle : Bool := false
  peerPath : Bool := false
  /-- Since the last entry to UP: units of class S accepted, units of class P freed. -/
  freeS : Nat := 0
  freeP : Nat := 0
  ctl : List Pkt := []
  trigs : List Pkt := []
  mgmt : List Pkt := []
  /-- Class P packets of a go-back, oldest first. -/
  again : List Pkt := []
  goback : Bool := false
  /-- LSEQ from which the go-back resends, and by queue the position up to which it does (R333, R344). -/
  backFrom : Nat := 0
  backQ : Tbl Nat := []
  /-- The partner has advertised PATH since the last entry to UP. -/
  pathed : Bool := false
  backs : Nat := 0
  /-- Accepted packets not acknowledged, and the expected LSEQ at the last NAK. -/
  acc : Nat := 0
  nak : Option Nat := none
  /-- Ticks without a valid IDLE packet. -/
  ka : Nat := 0
  stallS : Bool := false
  stallP : Bool := false
  stallOld : Bool := false
  /-- Credit limits as they stood when a perturbation began to withhold credit (R426). -/
  hold : Option (Nat × Nat) := none
  /-- Highest queue position sent on the lane, by queue. -/
  sentTo : Tbl Nat := []
  /-- Deficit round robin: bytes left by source (0 own queues, 1 + p port p), source served, own queue served last. -/
  defs : Tbl Nat := []
  src : Nat := 0
  lastQ : Nat := 15
  /-- The packet on the wire, and packets sent since the last that a perturbation spoilt (R426). -/
  cur : Option Pkt := none
  pert : Nat := 0
  deriving DecidableEq, Repr

/-- A serial lane (R303 to R321). -/
structure Lane where
  st : LaneSt := .down
  rate : Nat := 0
  fail : Nat := 0
  /-- Instant (tau/256) at which each bit of FAILMASK was set. -/
  failAt : Tbl Nat := []
  pmask : Nat := 0
  /-- Consecutive valid ordered sets, and how long the partner's mask has stood. -/
  sets : Nat := 0
  mask : Nat := 0
  maskRun : Nat := 0
  /-- Rate step: its target, STEP sets received in a row naming it, transmitter switched. -/
  step : Option Nat := none
  stepRx : Nat := 0
  switched : Bool := false
  /-- Instant (tau/256) at which the transmitter switched. -/
  swAt : Nat := 0
  /-- Instant (tau/256) at which the lane reached UP at a stepped rate. -/
  upAt : Option Nat := none
  rxinv : Bool := false
  lol : Bool := false
  losInt : Bool := false
  losPin : Bool := false
  caplow : Bool := false
  fom : Nat := 0
  fomMin : Nat := 0
  ctle : Nat := 0
  dfe : List Nat := [0, 0, 0, 0, 0]
  acq : Bool := false
  /-- Consecutive bad frames, clean frames, frames in DEGRADED. -/
  bad : Nat := 0
  clean : Nat := 0
  deg : Nat := 0
  /-- UP or DEGRADED at some time since the last tick (R306). -/
  seenUp : Bool := false
  prbsLock : Bool := false
  prbsBits : Nat := 0
  inject : Bool := false
  lk : Lk := {}
  deriving DecidableEq, Repr

/-- Twin coordination (R348 to R369). -/
structure Twn where
  /-- The hub holds the regulation token. -/
  token : Bool := false
  serial : Nat := 0
  /-- Highest serial accepted, and the last accepted MSGNO. -/
  maxSer : Nat := 0
  lastNo : Nat := 0
  myNo : Nat := 0
  /-- The message numbered `myNo` has left on a lane, and one with SWAPGO has since the last tick (R353, R361). -/
  out : Bool := true
  goOut : Bool := false
  /-- A MSGNO has been accepted; any partner message has. -/
  noted : Bool := false
  heard : Bool := false
  /-- Ticks since the last accepted holder message, and since any partner message; saturating. -/
  hage : Nat := 0
  page : Nat := 0
  /-- Ticks since boot was left. -/
  boot : Nat := 0
  seen : Bool := false
  prole : Nat := 0
  pready : Bool := false
  pswap : Nat := 0
  pepoch : Nat := 0
  plen : Nat := 20
  pguard : Nat := 2
  /-- ORIGIN of the partner, EPOCH of the holder's last message. -/
  porigin : Nat := 0
  hepoch : Nat := 0
  /-- Serial and MSGNO of the last accepted holder message (R353). -/
  hSer : Nat := 0
  hNo : Nat := 0
  confSide : Bool := false
  confSolo : Bool := false
  soloAge : Nat := 0
  isol : Bool := false
  /-- The hub itself left SAFE with the token, accepted a higher holder or a SOLO message: a release is due. -/
  relDue : Bool := false
  /-- Ticks since the last holder message sent. -/
  sentAge : Nat := 0
  /-- Announced swap frame (own or the holder's), and the swap added on request with its command. -/
  next : Option Nat := none
  added : Option Nat := none
  /-- The holder's timebase has stepped since the announcement (R361). -/
  stepped : Bool := false
  go : Bool := false
  goRx : Option Nat := none
  /-- Standby messages in a row with READY for the announced swap, and the frame of the latest. -/
  rdy : Nat := 0
  rdyAt : Nat := 0
  /-- Resync phase, last status, attempts, ticks without progress, ticks until a retry. -/
  ph : Nat := 0
  rst : Nat := 0
  att : Nat := 0
  idle : Nat := 0
  retry : Option Nat := none
  /-- A failure of the attempt not yet taken up; the image of the attempt is complete and checked. -/
  bad : Option Nat := none
  imgOk : Bool := false
  /-- Serial at a release: share targets stay until a holder message with a higher one (R356). -/
  frz : Option Nat := none
  deriving DecidableEq, Repr

/-- A lit string: a flash or a diagnostic pulse (of a command or not), its turn-on and turn-off in tau/256, and I_eff x RS
of its turn-on in uV (R405, R419). -/
structure BLit where
  flash : Bool
  cmd : Bool := false
  /-- Drive form of the string at the turn-on (R419). -/
  form : Nat := 1
  t0 : Nat
  t1 : Nat
  target : Nat
  /-- Its measurement is made (R406). -/
  meas : Bool := false
  deriving DecidableEq, Repr

/-- One beacon string (R403 to R416) beside its registers. -/
structure BStr where
  /-- Diagnostic state of R409. -/
  diag : Nat := 3
  /-- One finding awaits confirmation: 1 open, 2 short. -/
  suspect : Nat := 0
  /-- The gate is held low after SHORT. -/
  off : Bool := false
  /-- Last valid headroom in mV. -/
  hd : Option Nat := none
  trim : Nat := 1024
  trimLim : Bool := false
  /-- Tick number of the last diagnosis, and whether one came since the last diagnosis frame. -/
  diagAt : Nat := 0
  seen : Bool := false
  /-- A pending diagnostic pulse: tick number of its slot, times moved, and whether a command asked for it. -/
  pulse : Option (Nat × (Nat × Bool)) := none
  lit : Option BLit := none
  armed : Bool := false
  /-- Index of the next flash. -/
  idx : Nat := 0
  late : Bool := false
  deriving DecidableEq, Repr

/-- The beacon block (R403 to R421). -/
structure Bcn where
  strs : Tbl BStr := []
  /-- VSET in mV. -/
  vset : Nat := 0
  needy : Nat := 15
  shortfall : Bool := false
  ovp : Bool := false
  /-- The running diagnosis: mask, and whether it is the adjacent-pin test. -/
  test : Option (Nat × Bool) := none
  /-- Strings of the running diagnosis whose pulse was moved 16 times. -/
  moved : Nat := 0
  /-- Pattern words: buffer x 128 + index. -/
  pat : Tbl Word := []
  /-- A shift in progress: its length and bits. The bits of the previous shift. -/
  cur : Option (Nat × Nat) := none
  prev : Option (Nat × Nat) := none
  /-- Network instant of the shift that is due (R417), and the bits latched last. -/
  due : Option Int := none
  latched : Nat := 0
  mism : Nat := 0
  fault : Bool := false
  firstBad : Nat := 0
  deriving DecidableEq, Repr

/-- The JTAG port (R429): the instruction loaded, and whether boundary cells hold the pins. -/
structure Jtag where
  instr : JtagOp := .idcode
  /-- The pins stay in their Reset state (R429). -/
  held : Bool := false
  deriving DecidableEq, Repr

/-- The host port and the command processor (R383 to R391). -/
structure Hst where
  gen : Nat := 0
  np : Bool := false
  npIdx : Nat := 0
  /-- Commands in the inbound mailbox and completions in the outbound mailbox, oldest first. -/
  inbox : List (List Byte) := []
  outbox : List (List Byte) := []
  /-- MGMT commands received and not yet accepted: lane, TOKEN, ORIGIN, buffer. -/
  mbox : List (Nat × Nat × Nat × List Byte) := []
  /-- Generations by 256 x path + tag; 15 at reset. -/
  gens : Tbl Nat := []
  /-- Bytes that the last transaction returned. -/
  out : List Byte := []
  /-- Image load: bytes stored so far and bank, and whether the load is still under way (R399). -/
  img : Option (Nat × Nat) := none
  loading : Bool := false
  /-- The firmware's own memory, where a resync's container goes while no bank belongs to TWN (R365). -/
  ram : List Byte := []
  deriving DecidableEq, Repr

/-- The test page (R422 to R431). -/
structure Tst where
  /-- The last TSTACC write of TST_LOCK carried the first value. -/
  first : Bool := false
  /-- CORE cycle of the unlock, while unlocked. -/
  unlocked : Option Nat := none
  bist : Option Nat := none
  res : Nat := 0
  detail : Nat := 0
  /-- Perturbations in effect by page address: the PG_PERTURB value and the tick number from which it acts (R425). -/
  pert : Tbl (Word × Nat) := []
  /-- Pages whose PG_PERTURB has been written since the last tick. -/
  due : Tbl Bool := []
  deriving DecidableEq, Repr

/-- Reasons for which the hub stops. The manual names none: a block has no stop, and every command leads to a next
state; so no command raises a fault (nothing to call safe or unsafe). -/
inductive Fault
  deriving DecidableEq

/-- Reasons for which a command has no meaning here. -/
inductive Refusal
  /-- The command's row has no meaning yet; raised by its arm in Dispatch.lean only. Safe: the model stops. -/
  | notModelled (mnemonic : String)
  deriving DecidableEq, Repr

/-- The hub. -/
structure State where
  /-- Counter C (R5), and the frame index of the last tick (R4, R200). -/
  c : Nat := 0
  frame : Nat := 0
  /-- Ticks issued so far: timers count ticks, never frame indices (R201); passes and verdicts are numbered by it. -/
  ord : Nat := 0
  /-- Free counter of the model: index of the next opaque value. -/
  freeIdx : Nat := 0
  /-- Registers: RW fields and active copies, by byte address; unlisted ones hold their reset value. -/
  regs : Tbl Word := []
  /-- Staged copies that differ from their active copies (R80). -/
  staged : Tbl Word := []
  /-- DSP-governing copies applied at a tick whose pass has not started (R20). -/
  dspPend : Tbl Word := []
  /-- The same copies as they wait: tick number of their apply, and the copies. -/
  dspQ : List (Nat × Tbl Word) := []
  /-- Latched upper halves, by path and address (R79). -/
  hiLatch : Tbl (Option Word) := []
  /-- What the last register access or host read returned. -/
  rd : List Word := []
  pwr : Pwr := {}
  dies : Tbl Die := []
  hub : Hub := {}
  dsp : Dsp := {}
  cmt : Cmt := {}
  evt : Evt := {}
  chans : Tbl Chan := []
  taps : Tbl Tap := []
  lts : Tbl (Option LeadTest) := []
  ltWait : Tbl Bool := []
  ltRes : Tbl Word := []
  ltTicks : Tbl Nat := []
  modStart : Tbl Nat := []
  /-- Tick number that starts a channel's modulator (R144, R145). -/
  startAt : Tbl (Option Nat) := []
  /-- Tick number of a channel's last modulator restart (R146). -/
  restart : Tbl (Option Nat) := []
  excs : Tbl Exc := []
  refs : Tbl RefBuf := []
  auxs : Tbl Aux := []
  slots : Tbl Slot := []
  coef : Tbl Word := []
  cbanks : Tbl CBank := []
  profs : Tbl Prof := []
  /-- Banks being sealed, by sheaf, oldest first: bank, host CRC, descriptor at the seal (R177). -/
  sealing : Tbl (List (Nat × (Nat × Word))) := []
  tmb : Tmb := {}
  seqAgree : Nat := 7
  lin : Lin := {}
  lanes : Tbl Lane := []
  /-- Passes whose samples await assembly, oldest first (R274), and the glean records that go with them. -/
  passes : List PassRec := []
  grecs : List GRec := []
  streams : Tbl Stream := []
  queues : Tbl Queue := []
  /-- Status and DONE of the last rewind (R287). -/
  rwdSt : Nat := 0
  tunits : Tbl TUnit := []
  plans : Tbl Plan := []
  gunits : Tbl GUnit := []
  /-- The 256 most recent triples ORIGIN, LINE, ID, newest first (R245), and the next ID of each line (R244). -/
  dups : List (Nat × Nat × Nat) := []
  pubId : Tbl Nat := []
  arc : Eng := {}
  dcmp : Eng := {}
  mem : Mem := {}
  /-- PATH advertised by the enabled relay ports, one bit each, as last seen (R347). -/
  rtePath : Nat := 0
  twn : Twn := {}
  bcn : Bcn := {}
  jtag : Jtag := {}
  hst : Hst := {}
  tst : Tst := {}
  /-- Commands in flight, in order of acceptance, and completions not yet delivered, oldest first (R14, R388). -/
  flight : List Flight := []
  compl : List Compl := []
  /-- Commands waiting, first in, first out. -/
  pending : List Instr := []
  deriving DecidableEq, Repr

/-- The hub right after its first power-on reset is released (R63, R65): boot has begun, CLK_RST_CAUSE holds POWER_ON
with RAIL 2, the straps read as their pull-downs hold them (R42); every other register holds its reset value. -/
def State.reset : State := { regs := [(0x1044, 0x21)] }

end Sys2Proof.Machine
end

