-- ==== Sys2Proof/Machine/Ops.lean ====
section
/-! DEFINITION. The named operations over registers, errors, interrupts, time and completions that every family
shares (chapters 04 and 09). -/

namespace Sys2Proof.Machine

open Sys2Proof

/-! ### Status codes (R394) -/

def stOk : Nat := 0x00
def stBusy : Nat := 0x01
def stBadParam : Nat := 0x02
def stNotPermitted : Nat := 0x03
def stStaleGen : Nat := 0x04
def stBudget : Nat := 0x05
def stBandwidth : Nat := 0x06
def stRefNotReady : Nat := 0x07
def stLimit : Nat := 0x08
def stCancelled : Nat := 0x09
def stTimeout : Nat := 0x0A
def stNoResource : Nat := 0x0B
def stHwFault : Nat := 0x0C
def stNotLocked : Nat := 0x0D
def stRole : Nat := 0x0E
def stChecksum : Nat := 0x0F
def stLost : Nat := 0x10
def stOutFull : Nat := 0x11

/-! ### Clocks and free values -/

/-- The core logic runs: no whole-hub reset is held (R55, R57, R63). -/
def live (s : State) : Bool := decide (s.pwr.phase = .run) || decide (s.pwr.phase = .boot) || decide (s.pwr.phase = .dead)

/-- The links may carry packets: the control processor has not failed to start, with which the lanes send IDLE sets only (R66). -/
def linkLive (s : State) : Bool := live s && decide (s.pwr.phase ≠ .dead)

/-- Boot has completed, so the control processor serves (R65). -/
def running (s : State) : Bool := decide (s.pwr.phase = .run)

/-- Bring counter C to the CORE cycle of an instant in tau/256 (R5, R191); C never moves back and is held at zero
while power-on reset is held (R57). -/
def advance (t : Nat) (s : State) : State :=
  if s.pwr.phase = .por then s else { s with c := max s.c (t / 256) }

/-- With no command waiting the hub idles: counter C advances by one cycle, also while RESET_N holds the hub; only power-on
reset stops it (R5, R57, R63). -/
def idle (s : State) : State := if s.pwr.phase = .por then s else { s with c := s.c + 1 }

/-- Take the next free index. -/
def fresh (s : State) : Nat × State := (s.freeIdx, { s with freeIdx := s.freeIdx + 1 })

/-! ### Register file -/

/-- The active copy or RW value of a register. -/
def rg (s : State) (a : Nat) : Word := tget (regReset a) s.regs a

/-- Write the register file. -/
def setRg (a : Nat) (w : Word) (s : State) : State := { s with regs := tset (regReset a) s.regs a w }

/-- The copy a DSP pass will start with: the pending one where an apply is still waiting for its pass (R20). -/
def pendRg (s : State) (a : Nat) : Word := tget (rg s a) s.dspPend a

/-- The staged copy (R80): where no staged write differs, it equals the active copy. -/
def stg (s : State) (a : Nat) : Word := tget (pendRg s a) s.staged a

/-- Store a staged copy. -/
def setStg (a : Nat) (w : Word) (s : State) : State :=
  { s with staged := tset (pendRg s a) s.staged a (merge (pendRg s a) w (stMask a)) }

/-- A field of an active register, and of its staged copy. -/
def af (s : State) (a lo n : Nat) : Nat := fld (rg s a) lo n
def sf (s : State) (a lo n : Nat) : Nat := fld (stg s a) lo n

/-- Count events in a 32-bit read-clear saturating counter. -/
def bump (a n : Nat) (s : State) : State := setRg a (word (satAdd 32 (rg s a).toNat n)) s

/-! ### Errors and interrupts (R78, R98, R99) -/

/-- Record an error in a page's PG_ERR: the first one whole, a later one as MORE. -/
def pgError (k : PageK) (i status : Nat) (s : State) : State :=
  let a := pgErr k i
  if rg s a = 0 then setRg a (word (status <<< 24 ||| s.frame % 2 ^ 24)) s
  else setRg a (rg s a ||| 0x80000000#32) s

/-- A page is pending (R98). -/
def pagePending (s : State) (k : PageK) (i : Nat) : Bool := decide (rg s (pgIrq k i) &&& rg s (pgIrqEn k i) ≠ 0)

/-- The bit of HUB_IRQ_SUM0 or SUM1 of a page: (register, bit). -/
def sumBit : PageK → Nat → Nat × Nat
  | .shf, ss => (1, ss)
  | .flt, ss => (1, 16 + ss)
  | .lnk, n => (0, 0x10 + n)
  | .rte, _ => (0, 0x18)
  | .tst, _ => (0, 0x19)
  | .fus, _ => (0, 0x1A)
  | .d2d, _ => (0, 0x1B)
  | k, _ => (0, blockCode k)

/-- Every page with its instance, in summary order. -/
def allPages : List (PageK × Nat) :=
  hubPages.map (fun k => (k, 0)) ++ (List.range 8).map (fun n => (PageK.lnk, n)) ++
    [(.rte, 0), (.tst, 0), (.fus, 0), (.d2d, 0)] ++
    (List.range 16).map (fun n => (PageK.shf, n)) ++ (List.range 16).map (fun n => (PageK.flt, n))

/-- HUB_IRQ_SUM0 or SUM1 (R98). -/
def irqSum (s : State) (r : Nat) : Nat :=
  allPages.foldl (fun a p => if (sumBit p.1 p.2).1 = r ∧ pagePending s p.1 p.2 then a ||| 2 ^ (sumBit p.1 p.2).2 else a) 0

/-- HS_IRQ_N is low while a pending page is routed to the host (R98). -/
def hsIrqLow (s : State) : Bool := !s.jtag.held && (
  decide (irqSum s 0 &&& (rg s 0x108).toNat ≠ 0) || decide (irqSum s 1 &&& (rg s 0x10C).toNat ≠ 0))

/-- Routed summary for EVENT packets (R99). -/
def evtSum (s : State) (r : Nat) : Nat := irqSum s r &&& (rg s (if r = 0 then 0x110 else 0x114)).toNat

/-- Whether a page is routed to EVENT packets. -/
def evtRouted (s : State) (k : PageK) (i : Nat) : Bool :=
  let b := sumBit k i
  bit (rg s (if b.1 = 0 then 0x110 else 0x114)) b.2

/-- An EVENT packet of the next frame is owed. -/
def evtOwe (s : State) : State :=
  if s.evt.due.contains s.ord then s else { s with evt := { s.evt with due := s.evt.due ++ [s.ord] } }

/-- Note a page that has become pending while routed to EVENT packets. -/
def evtNote (k : PageK) (i : Nat) (was : Bool) (s : State) : State :=
  if !was && pagePending s k i && evtRouted s k i then evtOwe s else s

/-- Set bits of a page's PG_IRQ. -/
def raiseMask (k : PageK) (i m : Nat) (s : State) : State :=
  evtNote k i (pagePending s k i) (setRg (pgIrq k i) (rg s (pgIrq k i) ||| word m) s)

/-- Raise one cause. -/
def raise (k : PageK) (i b : Nat) (s : State) : State := raiseMask k i (2 ^ b) s

/-- Clear causes of PG_IRQ by a W1C write; causes that hardware sets in the same cycle stay set (R3, R98). -/
def irqClear (k : PageK) (i : Nat) (w set : Word) (s : State) : State :=
  evtNote k i (pagePending s k i) (setRg (pgIrq k i) ((rg s (pgIrq k i) &&& ~~~w) ||| set) s)

/-! ### Perturbations in effect (R425, R426) -/

/-- A perturbation of a kind acts on a page now. -/
def pertOn (s : State) (k : PageK) (i kind : Nat) : Bool := decide (fld (tget (0, 0) s.tst.pert (pageBase k i)).1 0 4 = kind)
/-- It took effect at the present tick. -/
def pertNew (s : State) (k : PageK) (i kind : Nat) : Bool := pertOn s k i kind && decide ((tget (0, 0) s.tst.pert (pageBase k i)).2 = s.ord)
/-- Its PARAM. -/
def pertArg (s : State) (k : PageK) (i : Nat) : Nat := fld (tget (0, 0) s.tst.pert (pageBase k i)).1 4 12

/-! ### Page modes (R83) -/

/-- The page is in EXPERT mode. -/
def expert (s : State) (k : PageK) (i : Nat) : Bool := !modeFixed k && bit (rg s (pgCtrl k i)) 8

/-- A direct write to the block registers of the page is accepted (R83). -/
def directOk (s : State) (k : PageK) (i : Nat) : Bool := modeFixed k || expert s k i

/-- Run a direct write on a page that accepts it; else NOT_PERMITTED (R83). -/
def direct (k : PageK) (i : Nat) (f : State → State) (s : State) : State :=
  if !running s then s
  else if directOk s k i then f s else pgError k i stNotPermitted s

/-! ### Frame rate and time (R16, R189) -/

/-- Frame rate in Hz of a RATE code (R221). -/
def rateHz (r : Nat) : Nat := if r ≤ 5 then 250 * 2 ^ r else 8000

/-- The active frame rate. -/
def frameHz (s : State) : Nat := rateHz (af s 0x3050 0 3)

/-- Ticks per second of the tau/256 count: 256 x 393.216 MHz. -/
def tauHz : Nat := 100663296000

/-- Network time in 2^-64 s at an instant in tau/256 (R189). -/
def netTime (s : State) (t : Nat) : Int :=
  s.tmb.t0 + (((t : Int) - (256 * s.tmb.c0 : Nat)) * (2 ^ 48 + s.tmb.rho) * 2 ^ 8) / 393216000

/-- Network time now, at the CORE cycle of counter C. -/
def netNow (s : State) : Int := netTime s (256 * s.c)

/-- The 96-bit instant of R4 (48-bit seconds, 48-bit fraction) of a time in 2^-64 s. -/
def inst96 (t : Int) : Nat := (t / 2 ^ 16).toNat % 2 ^ 96

/-- Instant of tick k in 2^-64 s (R16): k divided by the frame rate. -/
def tickTime (s : State) (k : Nat) : Int := ((k : Int) * 2 ^ 64) / (frameHz s : Nat)

/-- First CORE cycle at or after a network time, by R189 solved for C. -/
def cycleAt (s : State) (t : Int) : Nat :=
  let num := (t - s.tmb.t0) * 393216000
  let den := (2 ^ 48 + s.tmb.rho) * 2 ^ 16
  ((s.tmb.c0 : Int) + -((-num) / den)).toNat

/-! ### Records of one kind -/

def chan (s : State) (g : Nat) : Chan := tget {} s.chans g
def modChan (g : Nat) (f : Chan → Chan) (s : State) : State := { s with chans := tmod {} s.chans g f }
def tap (s : State) (g : Nat) : Tap := tget {} s.taps g
def modTap (g : Nat) (f : Tap → Tap) (s : State) : State := { s with taps := tmod {} s.taps g f }
def die (s : State) (n : Nat) : Die := tget {} s.dies n
def modDie (n : Nat) (f : Die → Die) (s : State) : State := { s with dies := tmod {} s.dies n f }
def exc (s : State) (o : Nat) : Exc := tget {} s.excs o
def modExc (o : Nat) (f : Exc → Exc) (s : State) : State := { s with excs := tmod {} s.excs o f }
def ref (s : State) (b : Nat) : RefBuf := tget {} s.refs b
def modRef (b : Nat) (f : RefBuf → RefBuf) (s : State) : State := { s with refs := tmod {} s.refs b f }
def aux (s : State) (n : Nat) : Aux := tget {} s.auxs n
def modAux (n : Nat) (f : Aux → Aux) (s : State) : State := { s with auxs := tmod {} s.auxs n f }
def tlane (s : State) (n : Nat) : TLane := tget {} s.tmb.lanes n
def modTlane (n : Nat) (f : TLane → TLane) (s : State) : State :=
  { s with tmb := { s.tmb with lanes := tmod {} s.tmb.lanes n f } }

/-- A field die has its rails and its gate is closed (R54, R55, R67, R68). -/
def diePowered (s : State) (n : Nat) : Bool := (die s n).rails && bit (rg s 0x1048) n && decide (s.pwr.sleep ≠ .asleep)

/-! ### Paths and latched upper halves (R79) -/

/-- Path code of a register access or command: all MGMT lanes are one path (R391). -/
def pathCode : Path → Nat
  | .host => 0
  | .mgmt _ => 1

/-- Key of a latched upper half: address of the _LO register and path. -/
def latchKey (p : Path) (a : Nat) : Nat := 2 * a + pathCode p

def setLatch (p : Path) (a : Nat) (v : Option Word) (s : State) : State :=
  { s with hiLatch := tset none s.hiLatch (latchKey p a) v }

/-! ### Completions (R14, R390, R395) -/

/-- End an in-flight command: its entry leaves, its completion waits for delivery. -/
def finish (f : Flight) (status : Nat) (result : List Byte) (s : State) : State :=
  let c : Compl := { path := f.path, tag := f.tag, gen := f.gen, op := f.op, status := status, result := result, frame := s.frame,
                     tok := f.tok, org := f.org }
  { bump 0x5024 1 (if status = stOk then s else bump 0x502C 1 s) with
      flight := s.flight.filter (fun x => !(decide (x.path = f.path) && decide (x.tag = f.tag))), compl := s.compl ++ [c] }

/-- Put an in-flight command into a waiting condition. -/
def await (f : Flight) (w : Wait) (s : State) : State :=
  { s with flight := s.flight.map (fun x => if x.path = f.path ∧ x.tag = f.tag then { x with wait := w } else x) }

/-- Complete every command that waits for an event. -/
def wakeup (w : Wait) (status : Nat) (result : List Byte) (s : State) : State :=
  (s.flight.filter (fun x => decide (x.wait = w))).foldl (fun a f => finish f status result a) s

/-- The started command waiting for an event, if any. -/
def waiter (s : State) (w : Wait) : Option Flight := s.flight.find? (fun x => decide (x.wait = w))

end Sys2Proof.Machine
end

