-- ==== Sys2Proof/Machine/AuxQueue.lean ====
section
/-! DEFINITION. The request queues of the auxiliary converters (R156 to R159): availability, issue, and the choice of the
next conversion. -/

namespace Sys2Proof.Machine

open Sys2Proof

/-- AUXn can convert: its die is enabled, powered and trained (R67, R159). -/
def auxAvail (s : State) (n : Nat) : Bool :=
  decide (n < 4) && bit (rg s 0x1048) n && (die s n).up && !(die s n).lost

/-- The class of a request: 0 SYS, 1 CJC, 2 LT, 3 SPOT, 4 urgent (R158). -/
def auxClass : AuxKind → Nat
  | .sys _ => 0
  | .cjc _ => 1
  | .lead _ _ _ => 2
  | .shorts _ => 2
  | .stale => 2
  | .slot _ => 3
  | .spot _ _ _ => 3
  | .urgent _ _ _ => 4
  | .vexc => 4

/-- The queue of a class. -/
def auxQueue (x : Aux) : Nat → List AuxReq
  | 0 => x.sys
  | 1 => x.cjc
  | 2 => x.lt
  | 3 => x.spot
  | _ => x.urgent

/-- Replace the queue of a class. -/
def auxSetQueue (x : Aux) (c : Nat) (q : List AuxReq) : Aux :=
  match c with
  | 0 => { x with sys := q }
  | 1 => { x with cjc := q }
  | 2 => { x with lt := q }
  | 3 => { x with spot := q }
  | _ => { x with urgent := q }

/-- The class served next: urgent first, else the next class with work, counted from the one served last (R158). -/
def auxPick (x : Aux) : Option Nat :=
  if x.urgent ≠ [] then some 4
  else ((List.range 4).map (fun i => (x.last + 1 + i) % 4)).find? (fun c => decide (auxQueue x c ≠ []))

/-- Start the next conversion on an idle converter. -/
def auxStart (x : Aux) : Aux :=
  if x.run.isSome then x
  else match auxPick x with
    | none => x
    | some c => match auxQueue x c with
      | [] => x
      | r :: q =>
        let y := auxSetQueue x c q
        { y with run := some r, last := if c < 4 then c else y.last }

/-- Whether an urgent request of a channel is pending (R158: a further trigger merges with it). -/
def urgentPending (x : Aux) (g : Nat) : Bool :=
  (x.urgent ++ x.run.toList).any (fun r => match r.kind with
    | .urgent h _ _ => decide (h = g)
    | _ => false)

/-- Issue a request to a converter. -/
def auxPush (n : Nat) (k : AuxKind) (s : State) : State :=
  modAux n (fun x => auxStart (auxSetQueue x (auxClass k) (auxQueue x (auxClass k) ++ [⟨k, 256 * s.c⟩]))) s

/-- Issue an urgent lead test of a pin of channel g, unless one is pending or the converter is unavailable. -/
def urgentTest (g pin : Nat) (clearing : Bool) (s : State) : State :=
  if auxAvail s (g / 128) && !urgentPending (aux s (g / 128)) g then auxPush (g / 128) (.urgent g pin clearing) s else s

/-- A class with a period of `ms` milliseconds is due: it never was, or that long ago (R158). -/
def auxDue (s : State) (last : Option Nat) (ms : Nat) : Bool := match last with
  | none => true
  | some t => decide (t * 1000 + ms * tauHz ≤ 256 * s.c * 1000)

/-- A SYS pass is still incomplete: some of its conversions wait or run (R158). -/
def sysBusy (x : Aux) : Bool := (x.sys ++ x.run.toList).any (fun r => decide (auxClass r.kind = 0))

/-- A SYS pass falls due: its inputs join their class in order, unless the pass before is still incomplete (R158). -/
def execAuxSysPassDue (n : Nat) (s : State) : Host.Outcome State Fault Refusal :=
  if running s && auxAvail s n && auxDue s (aux s n).sysAt (af s (0x9040 + 0x10 * n) 0 8) then
    let s := modAux n (fun x => { x with sysAt := some (256 * s.c) }) s
    .next (if sysBusy (aux s n) then s
      else [0x1C, 0x1D, 0x1E, 0x1F, 0x20, 0x21, 0x22, 0x23, 0x24, 0x25, 0x26].foldl (fun a i => auxPush n (.sys i) a) s)
  else .next s

end Sys2Proof.Machine
end

