-- ==== Sys2Proof/Machine/Banks.lean ====
section
/-! DEFINITION. The capture memory banks: owners, the host window, collisions, error counting, scrubbing, repair and
self-test (chapter 17). A bank word is addressed by bank x 262144 + its index. -/

namespace Sys2Proof.Machine

open Sys2Proof

def bankCfgA (b : Nat) : Nat := 0xA040 + 8 * b

/-- OWNER and SHARE of a bank (R370). -/
def bankOwner (s : State) (b : Nat) : Nat := af s (bankCfgA b) 0 3
def bankShare (s : State) (b : Nat) : Bool := bit (rg s (bankCfgA b)) 8

def ownNone : Nat := 0
def ownAcq : Nat := 1
def ownQue : Nat := 2
def ownCmp : Nat := 3
def ownHst : Nat := 4
def ownCpu : Nat := 5
def ownTwn : Nat := 6
def ownLnk : Nat := 7

def modMem (f : Mem → Mem) (s : State) : State := { s with mem := f s.mem }

/-- Set the content of a word; its error stays as it is. -/
def memSet (a v : Nat) (s : State) : State := modMem (fun m => { m with words := tset 0 m.words a (v % 2 ^ 64) }) s

/-- A bank word as a number, and its replacement, into which a perturbation may put bits in error (R426). -/
def memGet (s : State) (a : Nat) : Nat := tget 0 s.mem.words a
def memPut (a v : Nat) (s : State) : State := modMem (fun m => { m with
  errs := tset 0 m.errs a (tget 0 m.inj (a / 262144)), inj := tset 0 m.inj (a / 262144) 0 }) (memSet a v s)

/-- Zero a whole bank (R381). -/
def memZero (b : Nat) (s : State) : State :=
  modMem (fun m => { m with words := m.words.filter (fun p => !decide (p.1 / 262144 = b)),
                            errs := m.errs.filter (fun p => !decide (p.1 / 262144 = b)) }) s

/-- Bytes of a bank from a byte offset. -/
def memBytes (s : State) (b off n : Nat) : List Byte :=
  (List.range n).map (fun i => BitVec.ofNat 8 (memGet s (262144 * b + (off + i) / 8) >>> (8 * ((off + i) % 8))))

/-- Write bytes into a bank from a byte offset; a word of theirs is written once. -/
def memStore (b off : Nat) (l : List Byte) (s : State) : State :=
  (l.zipIdx).foldl (fun a p =>
    let w := 262144 * b + (off + p.2) / 8
    let sh := 8 * ((off + p.2) % 8)
    let old := memGet a w
    let v := old - ((old >>> sh) % 256) <<< sh + p.1.toNat <<< sh
    if p.2 = 0 ∨ sh = 0 then memPut w v a else memSet w v a) s

/-- An access by a unit whose owner code does not cover the bank (R373). -/
def nonOwn (s : State) : State := raise .mem 0 3 (pgError .mem 0 stNotPermitted (bump 0xA028 1 s))

/-- A unit's write of one word, refused where the bank has another owner (R370, R373). -/
def unitPut (code a v : Nat) (s : State) : State := if bankOwner s (a / 262144) = code then memPut a v s else nonOwn s

/-! ### RELEASED (R370) -/

def cpA (p o : Nat) : Nat := 0xD200 + 0x40 * p + o
def queCfgA (q : Nat) : Nat := 0xB200 + 0x20 * q

/-- Bank b lies in the active region of plan p. -/
def planHasBank (s : State) (p b : Nat) : Bool :=
  decide (af s (cpA p 0) 0 4 ≤ b) && decide (b < af s (cpA p 0) 0 4 + af s (cpA p 0) 4 4)

/-- A job's source or destination lies in the bank. -/
def jobUses (j : Option Job) (b : Nat) : Bool := match j with
  | some x => decide (x.src / 2 ^ 21 = b) || decide (x.dst / 2 ^ 21 = b)
  | none => false

/-- A firmware command in flight uses the bank (R371): CFG_IMAGE_LOAD, and CFG_IMAGE_SAVE without SEND, name it in their parameters. -/
def flightUses (f : Flight) (b : Nat) : Bool :=
  (decide (f.op = 0x104) && decide ((f.buf[9]?.map BitVec.toNat) = some b)) ||
    (decide (f.op = 0x105) && decide (f.wait ≠ .imageSend) && !(f.buf[0]?.map (fun x => x.toNat.testBit 2)).getD false &&
      decide ((f.buf[2]?.map BitVec.toNat) = some b))

/-- MEM_BKb_STAT.RELEASED. -/
def released (s : State) (b : Nat) : Bool := match bankOwner s b with
  | 1 => (List.range 8).all (fun p => !planHasBank s p b || decide ((tget ({} : Plan) s.plans p).st = .idle))
  | 2 => (List.range 16).all (fun q =>
      let w := rg s (queCfgA q)
      !(bit w 31 && bit w 22 && decide (fld w 18 4 = b)))
  | 3 => !(jobUses s.arc.job b || jobUses s.dcmp.job b)
  | 5 => !s.flight.any (fun f => flightUses f b)
  | 6 => decide (s.twn.ph = 0) || decide (3 < s.twn.ph)
  | _ => true

/-- RELEASED of every bank, one bit each. -/
def relMask (s : State) : Nat := (List.range 12).foldl (fun a b => a ||| bbit (released s b) b) 0

/-- Note the RELEASED bits, raising RELEASED when one has risen (R371, R382). -/
def memSync (s : State) : State :=
  let m := relMask s
  let rise := m &&& (0xFFF ^^^ (s.mem.rel % 4096))
  let s := modMem (fun x => { x with rel := m }) s
  if rise = 0 then s else raise .mem 0 0 s

/-! ### Handover (R371) -/

/-- A write of OWNER and SHARE: the status it leaves. -/
def bankAssign (b w : Nat) (s : State) : Nat × State :=
  let v := word w &&& 0x107#32
  if rg s (bankCfgA b) = v then (stOk, s)
  else if released s b = false ∨ s.mem.test = some b then (stBusy, pgError .mem 0 stBusy s)
  else
    let s := raise .mem 0 5 (bump 0xA034 1 (setRg (bankCfgA b) v s))
    (stOk, modMem (fun x => { x with rel := relMask s }) s)

def execMemBankCfgWrite (_ : Path) (b : Nat) (w : Word) (s : State) : Host.Outcome State Fault Refusal :=
  .next (if b < 12 then direct .mem 0 (fun x => (bankAssign b w.toNat x).2) s else s)

/-! ### Errors (R377) -/

/-- Add to one half of MEM_BKb_ECC, saturating. -/
def bankEcc (b : Nat) (ue : Bool) (s : State) : State :=
  let a := 0xA0A0 + 4 * b
  let w := rg s a
  setRg a (if ue then setFld w 16 16 (satAdd 16 (fld w 16 16) 1) else setFld w 0 16 (satAdd 16 (fld w 0 16) 1)) s

/-- Record an uncorrectable finding: memory 0 to 12 and byte offset. Bit 0 of the stored word, which the register does not show, says that one
stands there: the first word of BK00 has the number 0. -/
def ueRecord (m off : Nat) (s : State) : State :=
  let w := rg s 0xA0E4
  let s := setRg 0xA0E4 (if w = 0 then word (m <<< 25 ||| off % 2 ^ 25 / 8 * 8 ||| 1) else w ||| 0x80000000#32) s
  raise .mem 0 1 (pgError .mem 0 stHwFault s)

/-- A finding of a read: 1 one bit corrected, and written back corrected, 2 uncorrectable. One in the queue memory (12) counts in the QUE page alone; in one copy of a chaff
entry (13) the other copy serves, and the error counts and shows there as well (R285, R377). -/
def eccFound (m off err : Nat) (s : State) : State :=
  if err = 0 then s
  else
    let ue := decide (err = 2)
    let s := if m < 12 then bankEcc m ue s else s
    let s := if m < 12 then bump (if ue then 0xA024 else 0xA020) 1 s else s
    let s := if 12 ≤ m ∨ bankOwner s m = ownQue then
        bump (if ue then 0xB034 else 0xB030) 1 (if ue then raise .que 0 5 s else s) else s
    let s := if m < 12 ∧ bankOwner s m = ownCmp ∧ ue = false then bump 0xC038 1 s else s
    if ue then (if m ≤ 12 then ueRecord m off s else s)
    else modMem (fun x => { x with errs := tset 0 x.errs (262144 * m + off / 8) 0 }) s

/-- The findings of a list of reads, and the corrections of one. -/
def eccList (l : List MemErr) (s : State) : State := forL l (fun e a => eccFound e.m e.off (if e.ue then 2 else 1) a) s
def eccCorr (l : List (Nat × Nat)) (s : State) : State := forL l (fun e a => eccFound e.1 e.2 1 a) s

/-- What the read of n bytes of bank b from a byte offset finds: what ECC presents, and the words that hold an error by a perturbation,
as far as the first uncorrectable one (R426). -/
def eccRead (b off n : Nat) (ecc : ReadEcc) (s : State) : ReadEcc :=
  let l := (s.mem.errs.filter (fun e => decide (e.1 / 262144 = b))).map (fun e => (8 * (e.1 % 262144), e.2))
  let l := l.filter (fun e => decide (off / 8 * 8 ≤ e.1) && decide (e.1 < off + n))
  let bad := (l.filter (fun e => decide (e.2 = 2))).map (fun e => e.1 - off) ++ (if ecc.ue then [ecc.off] else [])
  let first := bad.foldl min (bad.headD 0)
  let one := (l.filter (fun e => decide (e.2 = 1) && (bad.isEmpty || decide (e.1 < off + first)))).map (fun e => (b, e.1))
  { ue := !bad.isEmpty, off := if bad.isEmpty then ecc.off else first, corr := ecc.corr ++ one }

/-! ### The host window (R375, R376) -/

/-- How a window access met the owner's accesses and what ECC found: collision 0 none, 1 the owner writes (host access
not later or host write), 2 host read later, 3 host write later, 4 owner later. -/
def collLog (kind bank off : Nat) (s : State) : State :=
  let w := rg s 0xA0E0
  let s := setRg 0xA0E0 (if w = 0 then word (kind <<< 28 ||| bank <<< 21 ||| off) else w ||| 0x80000000#32) s
  raise .mem 0 2 (bump 0xA02C 1 s)

def hBank (s : State) : Nat := af s 0xA0D0 21 4
def hOff (s : State) : Nat := af s 0xA0D0 0 21

/-- OFFSET moves by 8 with AINC, within the bank. -/
def hNext (s : State) : State :=
  if bit (rg s 0xA0D0) 31 then setRg 0xA0D0 (setFld (rg s 0xA0D0) 0 21 (hOff s + 8)) s else s

def setHstat (v : Nat) (s : State) : State := modMem (fun m => { m with hstat := v }) s

/-- The window may touch a bank: owner HST, or SHARE (R375). -/
def windowOk (s : State) (b : Nat) : Bool := decide (bankOwner s b = ownHst) || bankShare s b

/-- A collision is possible only on a shared bank of another owner (R376). -/
def collKind (s : State) (b kind : Nat) : Nat := if bankShare s b ∧ bankOwner s b ≠ ownHst then kind else 0

/-- One window read: value, whether it collided and was not performed, new state. -/
def windowRead (b off : Nat) (h : MemHit) (s : State) : Nat × Bool × State :=
  let k := collKind s b h.kind
  if !windowOk s b then (0, false, setHstat 2 (nonOwn s))
  else if k = 2 then
    let i := s.freeIdx
    let v := (Config.freeWord i).toNat + 2 ^ 32 * (Config.freeWord (i + 1)).toNat
    (v, true, setHstat 1 (collLog 2 b off { s with freeIdx := i + 2 }))
  else
    let s := if k = 4 then collLog 4 b off s else s
    let e := max h.err (tget 0 s.mem.errs (262144 * b + off / 8))
    (memGet s (262144 * b + off / 8), false, setHstat (if e = 2 then 4 else 0) (eccFound b off e s))

/-- One window write: whether it collided and was dropped, new state. -/
def windowWrite (b off v : Nat) (h : MemHit) (s : State) : Bool × State :=
  let k := collKind s b h.kind
  if !windowOk s b then (false, setHstat 2 (nonOwn s))
  else if k = 1 ∨ k = 3 then (true, setHstat 1 (collLog k b off s))
  else
    let s := if k = 4 then collLog 4 b off s else s
    (false, setHstat 0 (memPut (262144 * b + off / 8) v s))

/-- A read of MEM_HDATA_LO: the word's low half; the high half is latched for the path (R79, R375). In BASIC mode no access is made. An
access that collides is not performed, and OFFSET stays for its repetition (DEDUCED from R376, log entry 223). -/
def hdataRead (p : Path) (h : MemHit) (s : State) : Word × Bool × State :=
  if expert s .mem 0 = false then (0, false, s)
  else
    let r := windowRead (hBank s) (hOff s) h s
    let s := setLatch p 0xA0D4 (some (hi32 r.1)) (modMem (fun m => { m with readHi := hi32 r.1 }) r.2.2)
    (lo32 r.1, r.2.1, if r.2.1 then s else hNext s)

/-- A write of MEM_HDATA_HI performs the held write. -/
def hdataWrite (w : Word) (h : MemHit) (s : State) : Bool × State :=
  let r := windowWrite (hBank s) (hOff s) (s.mem.holdLo.toNat + 2 ^ 32 * w.toNat) h s
  (r.1, if r.1 then r.2 else hNext r.2)

def execMemWindowRead (p : Path) (h : MemHit) (s : State) : Host.Outcome State Fault Refusal :=
  if running s then
    let r := hdataRead p h s
    .next { r.2.2 with rd := [r.1] }
  else .next s

def execMemWindowWrite (_ : Path) (lo hi : Word) (h : MemHit) (s : State) : Host.Outcome State Fault Refusal :=
  .next (direct .mem 0 (fun x => (hdataWrite hi h (modMem (fun m => { m with holdLo := lo }) x)).2) s)

/-- A write of MEM_HADDR (R382). -/
def haddrWrite (w : Word) (s : State) : State :=
  if 11 < fld w 21 4 ∨ fld w 0 3 ≠ 0 then pgError .mem 0 stBadParam s else setRg 0xA0D0 (w &&& 0x81FFFFFF#32) s

/-! ### Scrubbing, repair and self-test (R378 to R381) -/

/-- Words of memory m: a bank, or the queue memory. -/
def memLen (m : Nat) : Nat := if m < 12 then 262144 else 524288

/-- One memory's next word is scrubbed; an error of one bit is written back corrected. A pass of the whole memory is complete with that of the queue memory, which has the most words (R378). -/
def scrubOne (m err : Nat) (s : State) : State :=
  let p := tget 0 s.mem.scrub m
  let a := 262144 * m + p
  let e := if m < 12 then tget 0 s.mem.errs a else 0
  let s := eccFound m (8 * p) (max err e) s
  let q := (p + 1) % memLen m
  let s := modMem (fun x => { x with scrub := tset 0 x.scrub m q }) s
  if q = 0 ∧ m = 12 then bump 0xA030 1 s else s

def execScrubStep (errs : List (Nat × Nat)) (s : State) : Host.Outcome State Fault Refusal :=
  if live s && decide (af s 0xA0E8 0 8 ≠ 0) && !decide (s.pwr.sleep = .asleep) then
    .next ((List.range 13).foldl (fun a m => scrubOne m ((errs.find? (fun e => decide (e.1 = m))).map (·.2) |>.getD 0) a) s)
  else .next s

/-- A write of MEM_REPAIR; a refused repair changes nothing (R380). -/
def repairGo (w : Word) (s : State) : State :=
  let put (a : State) : State := setRg 0xA100 (w &&& 0x01FF07FF#32) a
  let sub := fld w 16 9
  let sp := fld w 9 2
  if bit w 31 = false then put s
  else if 384 ≤ sub ∨ bankOwner s (sub / 32) ≠ ownNone ∨ s.mem.repair.any (fun r => decide (r.1 = sub) && decide (r.2.1 = sp) && r.2.2.2) then
    pgError .mem 0 stNotPermitted s
  else
    let keep := s.mem.repair.filter (fun r => !(decide (r.1 = sub) && decide (r.2.1 = sp)))
    let s := modMem (fun m => { m with repair := (sub, sp, fld w 0 9, false) :: keep }) (put s)
    let i := s.freeIdx
    let s := { s with freeIdx := i + 16384 }
    forN 8192 (fun j a => modMem (fun m => { m with errs := tset 0 m.errs (8192 * sub + j) 0 }) (memSet (8192 * sub + j)
      ((Config.freeWord (i + 2 * j)).toNat + 2 ^ 32 * (Config.freeWord (i + 2 * j + 1)).toNat) a)) s

def execMemRepairGo (_ : Path) (w : Word) (s : State) : Host.Outcome State Fault Refusal :=
  .next (direct .mem 0 (repairGo w) s)

/-- MEM_REPAIR_ST of the sub-array MEM_REPAIR selects (R379, R382). -/
def repairSt (s : State) : Nat :=
  let l := s.mem.repair.filter (fun r => decide (r.1 = af s 0xA100 16 9))
  let low := l.foldl (fun (a : Option (Nat × Nat)) r => match a with
    | some x => if r.2.1 < x.1 then some (r.2.1, r.2.2.1) else a
    | none => some (r.2.1, r.2.2.1)) none
  l.foldl (fun a r => a ||| 2 ^ (if r.2.2.2 then r.2.1 else 4 + r.2.1)) 0 ||| ((low.map (·.2)).getD 0) <<< 16

/-- A soft repair is in effect in the bank. -/
def bankRepaired (s : State) (b : Nat) : Bool := s.mem.repair.any (fun r => decide (r.1 / 32 = b) && !r.2.2.2)

/-- Start a self-test of a bank: the status (R381). -/
def memTestStart (b : Nat) (s : State) : Nat × State :=
  if s.mem.test.isSome ∨ 12 ≤ b ∨ bankOwner s b ≠ ownNone then (if 12 ≤ b then stBadParam else stBusy, s)
  else (stOk, modMem (fun m => { m with test := some b }) s)

/-- A write of MEM_TEST_CTRL. -/
def memTestWrite (w : Word) (s : State) : State :=
  let s := if s.mem.test.isNone then setRg 0xA0F0 (w &&& 0xF#32) s else s
  if bit w 8 then
    let r := memTestStart (fld w 0 4) s
    if r.1 = stOk then r.2 else pgError .mem 0 r.1 r.2
  else s

def execMemTestGo (_ : Path) (w : Word) (s : State) : Host.Outcome State Fault Refusal :=
  .next (direct .mem 0 (memTestWrite w) s)

/-- The self-test ends with its failing words, first failing sub-array and column. -/
def execMemTestDone (fails sub col : Nat) (s : State) : Host.Outcome State Fault Refusal :=
  match s.mem.test with
  | none => .next s
  | some b =>
    let res := min fails 65535 <<< 16 ||| (sub % 32) <<< 9 ||| col % 512
    let s := memZero b (modMem (fun m => { m with test := none, testRes := res }) s)
    .next (wakeup (.memTest b) stOk (leBytes 4 res) (raise .mem 0 4 s))

/-- End a running test and zero its bank (R381). -/
def memTestStop (s : State) : State := match s.mem.test with
  | some b => memZero b (modMem (fun m => { m with test := none }) s)
  | none => s

end Sys2Proof.Machine
end

