-- ==== Sys2Proof/Machine/Curves.lean ====
section
/-! DEFINITION. The functions the linearisation curves name (chapter 10): exponential and logarithm in fixed point, the
thermocouple reference functions, the Callendar-Van Dusen and the Steinhart-Hart equations. R226 names IEC 60584-1 for the
reference functions and prints no coefficient: those below are the standard's (PRESUMED, log entry 172). -/

namespace Sys2Proof.Machine

open Sys2Proof

/-! ### Exponential and logarithm -/

/-- The first n terms of e^y, from one term on, for y in 2^-128. -/
def expTerms (y : Nat) : Nat → Nat → Nat → Nat
  | 0, _, _ => 0
  | n + 1, k, term => term + expTerms y n (k + 1) (term * y / (2 ^ 128 * (k + 1)))

/-- e^(256 y) in 2^-128, for y in 2^-128 below one. -/
def exp256 (y : Nat) : Nat := (List.range 8).foldl (fun a _ => a * a / 2 ^ 128) (expTerms y 40 0 (2 ^ 128))

/-- The first n terms of the inverse hyperbolic tangent, from the term of exponent k on, in 2^-128; y2 is the square. -/
def atanhTerms (y2 : Int) : Nat → Nat → Int → Int
  | 0, _, _ => 0
  | n + 1, k, p => p / k + atanhTerms y2 n (k + 2) (p * y2 / 2 ^ 128)

/-- The natural logarithm of x / 2^128, in 2^-128, for x between 2^127 and 2^129. -/
def lnNear (x : Int) : Int :=
  let y := (x - 2 ^ 128) * 2 ^ 128 / (x + 2 ^ 128)
  2 * atanhTerms (y * y / 2 ^ 128) 45 1 y

/-- The natural logarithm of a quotient of positive numbers, in 2^-128. -/
def lnQuot (num den : Nat) : Int :=
  let k : Int := (Nat.log2 num : Int) - Nat.log2 den
  let x := num * 2 ^ (128 + Nat.log2 den) / (den * 2 ^ Nat.log2 num)
  k * lnNear (2 ^ 129) + lnNear x

/-! ### Thermocouple reference functions (R226) -/

/-- A polynomial of coefficients m / 10^p at t (2^-16 degC), in 2^-192. -/
def polyAt (l : List (Int × Nat)) (t : Int) : Int := l.foldr (fun c a => a * t / 2 ^ 16 + c.1 * 2 ^ 192 / 10 ^ c.2) 0

def tcBLo : List (Int × Nat) :=
  [(0, 0), (-24650818346, 14), (59040421171, 16), (-13257931636, 19), (15668291901, 22), (-1694452924, 24),
   (62990347094, 29)]
def tcBHi : List (Int × Nat) :=
  [(-38938168621, 10), (2857174747, 11), (-84885104785, 15), (15785280164, 17), (-16835344864, 20), (11109794013, 23),
   (-44515431033, 27), (98975640821, 31), (-93791330289, 35)]

def tcELo : List (Int × Nat) :=
  [(0, 0), (58665508708, 12), (45410977124, 15), (-77998048686, 17), (-25800160843, 18), (-59452583057, 20),
   (-93214058667, 22), (-10287605534, 23), (-80370123621, 26), (-43979497391, 28), (-16414776355, 30), (-39673619516, 33),
   (-55827328721, 36), (-34657842013, 39)]
def tcEHi : List (Int × Nat) :=
  [(0, 0), (5866550871, 11), (45032275582, 15), (28908407212, 18), (-33056896652, 20), (6502440327, 22), (-19197495504, 26),
   (-12536600497, 28), (21489217569, 31), (-14388041782, 34), (35960899481, 38)]

def tcJLo : List (Int × Nat) :=
  [(0, 0), (50381187815, 12), (3047583693, 14), (-8568106572, 17), (13228195295, 20), (-17052958337, 23), (20948090697, 26),
   (-12538395336, 29), (15631725697, 33)]
def tcJHi : List (Int × Nat) :=
  [(29645625681, 8), (-14976127786, 10), (31787103924, 13), (-31847686701, 16), (15720819004, 19), (-30691369056, 23)]

def tcKLo : List (Int × Nat) :=
  [(0, 0), (39450128025, 12), (23622373598, 15), (-32858906784, 17), (-49904828777, 19), (-67509059173, 21),
   (-57410327428, 23), (-31088872894, 25), (-10451609365, 27), (-19889266878, 30), (-16322697486, 33)]
def tcKHi : List (Int × Nat) :=
  [(-17600413686, 12), (38921204975, 12), (18558770032, 15), (-99457592874, 18), (31840945719, 20), (-56072844889, 23),
   (56075059059, 26), (-32020720003, 29), (97151147152, 33), (-12104721275, 36)]

def tcNLo : List (Int × Nat) :=
  [(0, 0), (26159105962, 12), (10957484228, 15), (-93841111554, 18), (-46412039759, 21), (-26303357716, 22),
   (-22653438003, 24), (-76089300791, 27), (-93419667835, 30)]
def tcNHi : List (Int × Nat) :=
  [(0, 0), (25929394601, 12), (1571014188, 14), (43825627237, 18), (-25261169794, 20), (64311819339, 23),
   (-10063471519, 25), (99745338992, 29), (-60863245607, 32), (20849229339, 35), (-30682196151, 39)]

def tcRLo : List (Int × Nat) :=
  [(0, 0), (528961729765, 14), (139166589782, 16), (-238855693017, 19), (356916001063, 22), (-462347666298, 25),
   (500777441034, 28), (-373105886191, 31), (157716482367, 34), (-281038625251, 38)]
def tcRMid : List (Int × Nat) :=
  [(295157925316, 11), (-252061251332, 14), (159564501865, 16), (-764085947576, 20), (205305291024, 23), (-293359668173, 27)]
def tcRHi : List (Int × Nat) :=
  [(152232118209, 9), (-268819888545, 12), (171280280471, 15), (-345895706453, 19), (-934633971046, 26)]

def tcSLo : List (Int × Nat) :=
  [(0, 0), (540313308631, 14), (12593428974, 15), (-232477968689, 19), (322028823036, 22), (-331465196389, 25),
   (255744251786, 28), (-125068871393, 31), (271443176145, 35)]
def tcSMid : List (Int × Nat) :=
  [(132900444085, 11), (334509311344, 14), (654805192818, 17), (-164856259209, 20), (129989605174, 25)]
def tcSHi : List (Int × Nat) :=
  [(146628232636, 9), (-258430516752, 12), (163693574641, 15), (-330439046987, 19), (-943223690612, 26)]

def tcTLo : List (Int × Nat) :=
  [(0, 0), (38748106364, 12), (44194434347, 15), (11844323105, 17), (20032973554, 18), (90138019559, 20), (22651156593, 21),
   (36071154205, 23), (38493939883, 25), (28213521925, 27), (14251594779, 29), (48768662286, 32), (1079553927, 33),
   (13945027062, 37), (79795153927, 41)]
def tcTHi : List (Int × Nat) :=
  [(0, 0), (38748106364, 12), (3329222788, 14), (20618243404, 17), (-21882256846, 19), (10996880928, 21),
   (-30815758772, 24), (4547913529, 26), (-27512901673, 30)]

/-- The Gaussian term of type K above 0 degC: 0.1185976 exp(-1.183432e-4 (t - 126.9686)^2) mV, in 2^-192 mV. -/
def tcKExp (t : Int) : Int :=
  let d := t * 10000 - 1269686 * 2 ^ 16
  let y := (1183432 * d * d * 2 ^ 96 / (10 ^ 18 * 256)).toNat
  1185976 * 2 ^ 192 / 10 ^ 7 * (2 ^ 256 / exp256 y) / 2 ^ 128

/-- The reference function of a type, curve 1 to 8 for B E J K N R S T, at t (2^-16 degC), in 2^-192 mV; type B is 0 below
0 degC (R226). -/
def tcMv (curve : Nat) (t : Int) : Int := match curve with
  | 1 => if t < 0 then 0 else polyAt (if t * 1000 < 630615 * 2 ^ 16 then tcBLo else tcBHi) t
  | 2 => polyAt (if t < 0 then tcELo else tcEHi) t
  | 3 => polyAt (if t < 760 * 2 ^ 16 then tcJLo else tcJHi) t
  | 4 => if t < 0 then polyAt tcKLo t else polyAt tcKHi t + tcKExp t
  | 5 => polyAt (if t < 0 then tcNLo else tcNHi) t
  | 6 => polyAt (if t * 100 < 106418 * 2 ^ 16 then tcRLo else if t * 10 < 16645 * 2 ^ 16 then tcRMid else tcRHi) t
  | 7 => polyAt (if t * 100 < 106418 * 2 ^ 16 then tcSLo else if t * 10 < 16645 * 2 ^ 16 then tcSMid else tcSHi) t
  | _ => polyAt (if t < 0 then tcTLo else tcTHi) t

/-- The same in 2^-20 microvolt. -/
def tcEmf (curve : Nat) (t : Int) : Int := tcMv curve t * 1000 / 2 ^ 172

/-- Output range of a thermocouple type in degC: B E J K N R S T (R225). -/
def tcRange : Nat → Int × Int
  | 1 => (250, 1820)
  | 2 => (-200, 1000)
  | 3 => (-210, 1200)
  | 4 => (-200, 1372)
  | 5 => (-200, 1300)
  | 6 => (-50, 1768)
  | 7 => (-50, 1768)
  | _ => (-200, 400)

/-- The greatest argument in a range at which a rising function is at most a value, by halving the interval; the function is
at most the value at `lo` and above it at `hi`. -/
def invert (f : Int → Int) (v : Int) : Nat → Int → Int → Int
  | 0, lo, _ => lo
  | n + 1, lo, hi =>
    let m := (lo + hi) / 2
    if f m ≤ v then invert f v n m hi else invert f v n lo m

/-! ### Resistance thermometers and thermistors (R229, R230) -/

/-- 10^15 * 2^60 * r(t)/r0 of the Callendar-Van Dusen equations at t = k/2^15 degC (R229). -/
def cvd (k : Int) : Int :=
  10 ^ 15 * 2 ^ 60 + 39083 * 10 ^ 8 * k * 2 ^ 45 - 5775 * 10 ^ 5 * k ^ 2 * 2 ^ 30 -
    (if k < 0 then 4183 * (k - 100 * 2 ^ 15) * k ^ 3 else 0)

/-- A + B ln R + C (ln R)^3 for A, B and C over 2^149 and ln R in 2^-128, over 2^533 (R230). -/
def steinhart (a b c l : Int) : Int := a * 2 ^ 384 + b * l * 2 ^ 256 + c * l ^ 3

end Sys2Proof.Machine
end

