-- ==== Sys2Proof/Machine/Time.lean ====
section
/-! DEFINITION. The timebase: states, exchanges, servo, source selection, timing root, scheduled events (chapter 09). -/

namespace Sys2Proof.Machine

open Sys2Proof

def lane (s : State) (n : Nat) : Lane := tget {} s.lanes n

/-- The lane carries packets: UP or DEGRADED (R307). -/
def laneUp (s : State) (n : Nat) : Bool := decide ((lane s n).st = .up) || decide ((lane s n).st = .degraded)

/-- Change the timebase record. -/
def modTmb (f : Tmb → Tmb) (s : State) : State := { s with tmb := f s.tmb }

/-- Nanoseconds and picoseconds in 2^-64 s. -/
def ns64 (n : Nat) : Int := (n : Int) * 2 ^ 64 / 1000000000
def ps64 (n : Int) : Int := n * 2 ^ 64 / 1000000000000
def toPs (t : Int) : Int := t * 1000000000000 / 2 ^ 64

/-- Microseconds in tau/256. -/
def usTau (n : Nat) : Nat := n * tauHz / 1000000

/-- Instant of the counter, in tau/256, at which network time reaches a value (R189 solved for C, R191). -/
def localAt (s : State) (t : Int) : Nat :=
  ((256 * s.tmb.c0 : Nat) + -((-((t - s.tmb.t0) * 393216000)) / ((2 ^ 48 + s.tmb.rho) * 2 ^ 8))).toNat

/-- Timing root, from the active copy of TMB_CTRL.ROOT (R212). -/
def isRoot (s : State) : Bool := bit (rg s 0x3040) 0

/-- The hub's own holdover bound in ps at an instant: E0 + A t + B t^2 / 2 (R195). -/
def holdE (s : State) (t : Nat) : Nat :=
  let d := t - s.tmb.hoAt
  s.tmb.hoE0 + 10 * af s 0x3090 0 16 * d / tauHz + af s 0x3090 16 16 * d * d / (2000 * tauHz * tauHz)

/-- The effective bound in ps (R194). -/
def effBound (s : State) (t : Nat) : Nat :=
  if s.tmb.st = .free then 2 ^ 32 - 1
  else if isRoot s then 0
  else match s.tmb.st with
    | .holdover => min (2 ^ 32 - 1) (s.tmb.srcBound + holdE s t)
    | _ => min (2 ^ 32 - 1) s.tmb.srcBound

/-- Outputs produced now carry TUNL (R194, R213). -/
def tunlNow (s : State) : Bool :=
  decide (s.tmb.st = .free) || decide (s.tmb.st = .stepped) || decide (1000 < effBound s (256 * s.c))

/-- The frame at whose verdict cutoff something that happens now becomes known: that of the running pass, of the pass that
is held, else of the next one (R19). -/
def tmbCut (s : State) : Nat := match s.dsp.run, s.dsp.held with
  | some k, _ => k
  | none, k :: _ => k
  | none, [] => s.dsp.next

/-- Change the timebase state, with its cause and the TUNL verdict of a change into FREE or STEPPED (R193, R194). -/
def tbState (st : TbSt) (s : State) : State :=
  if s.tmb.st = st then s
  else
    let v := decide (st = .free) || decide (st = .stepped)
    let k := tmbCut s
    let s := modTmb (fun x => { x with st := st, tunlAt := if v then k :: x.tunlAt else x.tunlAt, unlockCnt := 0, hoTunl := false }) s
    raise .tmb 0 0 s

/-- Advertised hop count (R209): zero for a root, the source's plus one, 15 without a source; zero until the first frame. -/
def hopsOut (s : State) : Nat :=
  if s.tmb.hopsLive = false then 0
  else if isRoot s ∧ s.tmb.st ≠ .free then 0
  else match s.tmb.src with
    | some n => min 15 ((tlane s n).peerHops + 1)
    | none => 15

/-- Advertised STATE (R205): 4 for a root out of FREE. -/
def tbCode (st : TbSt) : Nat := match st with
  | .free => 0
  | .stepped => 1
  | .locked => 2
  | .holdover => 3
def stateOut (s : State) : Nat := if isRoot s ∧ s.tmb.st ≠ .free then 4 else tbCode s.tmb.st

/-- TMB_STATE; TUNL reads its reset value until the first frame, as HOPS does (R221). -/
def tmbStateWord (s : State) : Word :=
  word (hopsOut s <<< 20 ||| (s.tmb.ser % 16) <<< 16 ||| (match s.tmb.src with | some n => n % 16 | none => 15) <<< 12 |||
    bbit s.tmb.stepNeeded 8 ||| bbit (s.tmb.hopsLive && tunlNow s) 5 ||| bbit (isRoot s) 4 ||| tbCode s.tmb.st)

/-! ### Rate (R189, R190, R198) -/

/-- Rebase the time computation at the present CORE cycle and set the rate. -/
def setRho (r : Int) (s : State) : State :=
  let t := netNow s
  modTmb (fun x => { x with c0 := s.c, t0 := t, rho := r }) s

/-- 200 ppm in 2^-48. -/
def rhoMax : Int := 56294995342

/-- 2 pi scaled by 10^18. -/
def twoPi18 : Int := 6283185307179586477

/-- Loop bandwidth in mHz (R221). -/
def bwMilli (s : State) : Int := match af s 0x3040 4 2 with
  | 0 => 100
  | 1 => 10
  | 2 => 1000
  | _ => 1

/-- Slew limit per frame in 2^-48 (R190). -/
def slewLim (s : State) : Int :=
  let ppb := if s.tmb.st = .locked then af s 0x3048 0 16 else af s 0x3048 16 16
  (ppb : Int) * 2 ^ 48 / (1000000000 * frameHz s : Nat)

/-- The loop's integrator demand and rate demand, in 2^-80 and 2^-48 (R198). -/
def loopI (s : State) : Int :=
  s.tmb.integ - (twoPi18 * bwMilli s) ^ 2 * s.tmb.e * 2 ^ 16 / (1000000 * 10 ^ 36 * (frameHz s : Int))
def loopD (s : State) : Int := loopI s / 2 ^ 32 - 2 * twoPi18 * bwMilli s * s.tmb.e / (1000 * 10 ^ 18 * 2 ^ 16)

/-- One servo update at the tick (R198): only in a frame with a valid phase error, and never in FREE or HOLDOVER (R195). -/
def servo (s : State) : State :=
  if s.tmb.st = .free ∨ s.tmb.st = .holdover ∨ s.tmb.eNew = false ∨ s.tmb.step.isSome then s
  else
    let d := loopD s
    let lo := max (s.tmb.rho - slewLim s) (-rhoMax)
    let hi := min (s.tmb.rho + slewLim s) rhoMax
    let r := min (max d lo) hi
    let i := if r = d then min (max (loopI s) (-rhoMax * 2 ^ 32)) (rhoMax * 2 ^ 32) else s.tmb.integ
    let s := modTmb (fun x => { x with integ := i }) (setRho r s)
    if rhoMax < d ∨ d < -rhoMax then raise .tmb 0 7 s else s

/-! ### Exchanges (R204 to R209) -/

/-- A difference of instants known modulo 2^32 s, signed. -/
def tdiff (a b : Int) : Int := ((a - b + 2 ^ 95) % 2 ^ 96) - 2 ^ 95

/-- Raw offset and delay of an exchange, 2^-64 s (R207). -/
def exOfs (x : Exch) : Int := (tdiff x.t2 x.t1 - tdiff x.t4 x.t3) / 2
def exDly (x : Exch) : Int := (tdiff x.t2 x.t1 + tdiff x.t4 x.t3) / 2

def mean (l : List Int) : Int := if l = [] then 0 else l.foldl (· + ·) 0 / (l.length : Int)

/-- TMB_LKn_ASYM in 2^-64 s. -/
def asym (s : State) (n : Nat) : Int := ps64 (sfld (rg s (0x3104 + 0x20 * n)) 0 32)

/-- The latencies by which the stamps of a lane are corrected, from the fuses, at its line rate: transmit, receive (R204). -/
def fuseLat (s : State) (n : Nat) : Nat × Nat := s.hub.lats.getD (lane s n).rate (0, 0)

/-- A TIME ordered set arrives: its corrected stamp is held for its packet (R204, R453). -/
def osArrive (n ch3 t : Nat) (s : State) : State :=
  let v := (ch3 % 256, netTime s (t - (fuseLat s n).2), s.tmb.ser)
  modTlane n (fun x => { x with held := some v, heldAt := t }) s

def execTimeOsReceive (n ch3 t : Nat) (s : State) : Host.Outcome State Fault Refusal :=
  if linkLive s && decide (n < 8) && laneUp s n && !decide (s.pwr.sleep = .asleep) then .next (osArrive n ch3 t (advance t s)) else .next s

/-- No packet within 25 us: the held stamp is discarded (R453). -/
def execTimeStampDiscard (n : Nat) (s : State) : Host.Outcome State Fault Refusal :=
  if live s && decide (n < 8) then .next (modTlane n (fun x => { x with held := none }) s) else .next s

/-- The held arrival is recorded under the packet's ID when it matches and the packet, at instant t, follows the set within 25 us
(R453). -/
def recordArrival (n : Nat) (pk : TimePkt) (t : Nat) (s : State) : State :=
  modTlane n (fun x =>
    let y := { x with peerState := pk.state, peerHops := pk.hops % 16, peerSer := pk.stepser % 16, peerBound := pk.bound, held := none }
    match x.held with
    | some (c, t2, ser) => if c = pk.id % 256 ∧ t ≤ x.heldAt + usTau 25 then { y with arr := some ⟨pk.id, pk.dep, pk.stepser, t2, ser⟩ } else y
    | none => y) s

/-- The exchange a packet completes (R206): none unless its ARR_ID matches an own departure that reported an arrival. -/
def exchangeOf (x : TLane) (pk : TimePkt) : Option (Exch × TArr × TDep) :=
  if pk.arrv = false then none
  else match x.deps.find? (fun d => decide (d.id = pk.arrId)) with
    | some d => match d.pair with
      | some a => some (⟨(a.dep : Int) * 2 ^ 16, a.t2, d.t3, (pk.arr : Int) * 2 ^ 16⟩, a, d)
      | none => none
    | none => none

/-- The tests of R207 but for the delay against its mean. -/
def exchSound (x : Exch) (a : TArr) (d : TDep) (pk : TimePkt) : Bool :=
  decide (a.ser = d.ser) && decide (a.peerSer = pk.stepser) && decide (0 ≤ exDly x) && decide (exDly x ≤ ns64 2000000)

/-- The last test of R207. -/
def dlyOk (x : TLane) (d : Int) : Bool := decide (x.nValid < 16) || decide (|d - mean x.dlys| ≤ ns64 2)

/-- A phase error of the selected source (R193, R199). -/
def takeError (e : Int) (s : State) : State :=
  let ok := decide (|e| ≤ ns64 1)
  let big := decide (ns64 100000 < |e|)
  let bad := decide (s.tmb.st = .locked) && decide (ps64 (af s 0x304C 0 16 : Nat) < |e|)
  let s' := modTmb (fun x => { x with
    e := e, eNew := true, eHist := (|e| :: x.eHist).take 16,
    lockCnt := if ok then x.lockCnt + 1 else 0,
    unlockCnt := if bad then x.unlockCnt + 1 else 0,
    bigCnt := if big then x.bigCnt + 1 else 0 }) s
  let s'' := if big then
      (if (s.tmb.st = .stepped ∨ s.tmb.st = .holdover) ∧ s.tmb.stepNeeded = false then
        raise .tmb 0 2 (modTmb (fun x => { x with stepNeeded := true }) s') else s')
    else modTmb (fun x => { x with stepNeeded := false }) s'
  if bit (rg s'' 0x3040) 8 ∧ 16 ≤ s''.tmb.bigCnt ∧ s''.tmb.step.isNone then
    modTmb (fun x => { x with step := some (.delta (-e)) }) s''
  else s''

/-- A partner is a qualified source but for the age of its exchange (R209). -/
def qualifies (s : State) (n : Nat) : Bool :=
  let x := tlane s n
  bit (rg s (0x3100 + 0x20 * n)) 0 && decide ((lane s n).st = .up) && decide (x.age ≤ 3) &&
    (decide (x.peerState = 2) || decide (x.peerState = 3) || decide (x.peerState = 4)) && decide (x.peerHops ≤ 14)

/-- Preference order of R209, smaller first. -/
def srcKey (s : State) (n : Nat) : Nat :=
  let x := tlane s n
  (if x.peerBound ≤ 1000 then 0 else 2 ^ 20) + x.peerHops * 2 ^ 12 + af s (0x3100 + 0x20 * n) 4 4 * 2 ^ 4 + n

/-- The best source among the lanes that pass a test. -/
def bestOf (s : State) (p : Nat → Bool) : Option Nat :=
  (List.range 8).foldl (fun a n =>
    if p n then match a with
      | none => some n
      | some m => if srcKey s n < srcKey s m then some n else a
    else a) none

/-- The best qualified source. -/
def bestSrc (s : State) : Option Nat := bestOf s (qualifies s)

/-- A change that brings in a TUNL condition is a verdict known by the present cutoff (R19, R194); `was` is the state before. -/
def tunlVerdict (was s : State) : State :=
  if !tunlNow was && tunlNow s then modTmb (fun x => { x with tunlAt := tmbCut s :: x.tunlAt }) s else s

/-- The source's advertised bound (R194). -/
def setBound (b : Nat) (s : State) : State := tunlVerdict s (modTmb (fun x => { x with srcBound := b }) s)

/-- Change the selected source (R209). -/
def setSrc (n : Option Nat) (s : State) : State :=
  let gone := match s.tmb.src with
    | some m => n.isNone && decide ((lane s m).st ≠ .up)
    | none => false
  let s := modTmb (fun x => { x with src := n, srcGone := gone }) s
  let s := match n with
    | some m => setBound (tlane s m).peerBound s
    | none => s
  bump 0x302C 1 (raise .tmb 0 3 s)

/-- The change of source that R209 calls for now, if any. -/
def srcWant (s : State) : Option (Option Nat) :=
  if isRoot s then none
  else match s.tmb.src with
    | none => match bestSrc s with
      | some m => some (some m)
      | none => none
    | some n =>
      if qualifies s n = false then some (bestSrc s)
      else match bestOf s (fun m => qualifies s m && decide (16 ≤ (tlane s m).qual)) with
        | some m => if srcKey s m < srcKey s n then some (some m) else none
        | none => none

def execSourceChange (s : State) : Host.Outcome State Fault Refusal :=
  match srcWant s with
  | some n => if live s then .next (setSrc n s) else .next s
  | none => .next s

/-- A valid exchange of the lane is taken: it is used at the next tick, if no later one of the frame replaces it (R206, R207). -/
def takeExchange (n : Nat) (x : Exch) (s : State) : State :=
  let d := exDly x
  let o := exOfs x
  let th := o - asym s n
  let s := modTlane n (fun y => { y with
    nValid := y.nValid + 1, dlys := (d :: y.dlys).take 16, ofss := (o :: y.ofss).take 1024, rejDly := 0,
    ofs := o, dly := d, age := 0, now := some (x, th) }) s
  let s := bump 0x3020 1 s
  if s.tmb.src.isNone ∧ isRoot s = false ∧ qualifies s n then setSrc (some n) s else s

/-- The latest valid exchange of the frame on the selected source's lane is used at the tick, while the source qualifies; the
first one ends HOLDOVER (R193, R206, R207). -/
def useExchange (s : State) : State := match s.tmb.src with
  | none => s
  | some n => match (tlane s n).now with
    | none => s
    | some (_, th) =>
      if isRoot s ∨ s.tmb.st = .free ∨ s.pwr.sleep = .asleep ∨ qualifies s n = false then s
      else
        let held := decide (s.tmb.st = .holdover)
        let s := takeError th s
        if held then
          tbState (if |th| ≤ ns64 1 ∧ s.tmb.hoLocked then .locked else .stepped) (modTmb (fun y => { y with lockCnt := 0 }) s)
        else s

/-- A TIME packet arrives at instant t (R207, R453). -/
def timePacket (n : Nat) (pk : TimePkt) (t : Nat) (s : State) : State :=
  if pk.crcOk = false then modTlane n (fun x => { x with held := none }) s
  else
    let s := recordArrival n pk t s
    let s := if s.tmb.src = some n then setBound pk.bound s else s
    match exchangeOf (tlane s n) pk with
    | none => s
    | some (x, a, d) =>
      if exchSound x a d pk = false then bump 0x3024 1 (modTlane n (fun y => { y with rejDly := 0 }) s)
      else if dlyOk (tlane s n) (exDly x) then takeExchange n x s
      else bump 0x3024 1 (modTlane n (fun y => { y with rejDly := y.rejDly + 1, rejLast := exDly x }) s)

def execTimePacketReceive (n : Nat) (pk : TimePkt) (t : Nat) (s : State) : Host.Outcome State Fault Refusal :=
  if linkLive s && decide (n < 8) && laneUp s n && !decide (s.pwr.sleep = .asleep) then .next (timePacket n pk t (advance t s)) else .next s

/-- The lane's delay mean restarts at the latest value (R207). -/
def execDlyJump (n : Nat) (s : State) : Host.Outcome State Fault Refusal :=
  if live s && decide (n < 8) && decide (16 ≤ (tlane s n).rejDly) then
    .next (raise .tmb 0 6 (modTlane n (fun x => { x with dlys := [x.rejLast], rejDly := 0 }) s))
  else .next s

/-! ### State events (R193 to R195) -/

/-- The lock is due with the exchange of the frame that ends: its 64th frame in a row with |e| of at most 1 ns (R193). The row may
come before the tick that uses the exchange, so that the tick's pass is already without TUNL, or after it. -/
def lockDue (s : State) : Bool := decide (s.tmb.st = .stepped) && !isRoot s && decide (64 ≤ (useExchange s).tmb.lockCnt)

/-- LOCKED ends with the exchange of the frame that ends (R193). -/
def unlockDue (s : State) : Bool :=
  let n := (useExchange s).tmb.unlockCnt
  decide (s.tmb.st = .locked) && decide (af s 0x304C 16 8 ≤ n) && decide (n ≠ 0)

def execTimebaseLock (s : State) : Host.Outcome State Fault Refusal :=
  if live s && lockDue s then .next (tbState .locked s) else .next s

def execTimebaseUnlock (s : State) : Host.Outcome State Fault Refusal :=
  if live s && unlockDue s then
    .next (modTmb (fun x => { x with lockCnt := 0 }) (tbState .stepped s))
  else .next s

/-- Exchanges that a frame holds are not used any more. -/
def dropNow (s : State) : State := modTmb (fun x => { x with lanes := x.lanes.map (fun p => (p.1, { p.2 with now := none })), eNew := false }) s

/-- HOLDOVER begins (R195): rate kept, E0 the mean error of the last 16 exchanges plus 150 ps. -/
def enterHoldover (t : Nat) (s : State) : State :=
  let e0 := (toPs (mean s.tmb.eHist)).toNat + 150
  let l := decide (s.tmb.st = .locked)
  tbState .holdover (modTmb (fun x => { x with hoAt := t, hoE0 := e0, hoLocked := l, lockCnt := 0 }) (dropNow s))

/-- The source is lost: its lane left UP with no other qualified, or three frames without a valid exchange (R193). -/
def srcLost (s : State) : Bool :=
  decide (3 ≤ s.tmb.miss) || (bestSrc s).isNone && (match s.tmb.src with
    | some n => decide ((lane s n).st ≠ .up)
    | none => s.tmb.srcGone)

def execHoldoverEntry (t : Nat) (s : State) : Host.Outcome State Fault Refusal :=
  if live s && (decide (s.tmb.st = .stepped) || decide (s.tmb.st = .locked)) && !isRoot s && srcLost s then
    .next (enterHoldover t (advance t s))
  else .next s

/-- The holdover bound passes 1 ns: a verdict of TUNL (R19, R194). -/
def execHoldoverBoundCross (t : Nat) (s : State) : Host.Outcome State Fault Refusal :=
  if live s && decide (s.tmb.st = .holdover) && decide (1000 < effBound s t) && !s.tmb.hoTunl then
    let s := advance t s
    let k := tmbCut s
    .next (modTmb (fun x => { x with hoTunl := true, tunlAt := k :: x.tunlAt }) s)
  else .next s

/-! ### The first step (R196) -/

/-- Least-squares fit of partner time against own time over the stored exchanges: rate in 2^-48 and the line's value at
own time zero, 2^-64 s. Sums are exact; the two quotients are rounded down. -/
def fitStep (l : List Exch) (asy : Int) : Int × Int :=
  let xs := l.map (fun e => e.t2 + e.t3)
  let ys := l.map (fun e => e.t1 + e.t4 + 2 * asy)
  let n : Int := l.length
  let sx := xs.foldl (· + ·) 0
  let sy := ys.foldl (· + ·) 0
  let sxx := (xs.map (fun x => x * x)).foldl (· + ·) 0
  let sxy := ((xs.zip ys).map (fun p => p.1 * p.2)).foldl (· + ·) 0
  let den := n * sxx - sx * sx
  let num := n * sxy - sx * sy
  if den = 0 ∨ n = 0 then (0, if n = 0 then 0 else (sy - sx) / (2 * n))
  else ((num - den) * 2 ^ 48 / den, (sy * den - sx * num) / (2 * n * den))

/-- The timebase a step leaves (R196, R199, R212), at the CORE cycle of counter C. -/
def stepBase (s : State) (k : StepK) : Int × Int := match k with
  | .fit rho c =>
    let x := netNow s
    (x + x * rho / 2 ^ 48 + c, rho)
  | .delta d => (netNow s + d, s.tmb.rho)
  | .abs t at_ rho =>
    let r := rho.getD s.tmb.rho
    (t + ((256 * s.c : Int) - at_) * (2 ^ 48 + r) * 2 ^ 8 / 393216000, r)

/-- The timebase part of a step (R193, R196, R197): base point, rate within 200 ppm (R190), serial, frame
renumbering, state. -/
def stepTime (k : StepK) (s : State) : State :=
  let b := stepBase s k
  let r := iclamp (-rhoMax) rhoMax b.2
  let f : Int := (frameHz s : Nat)
  let first := -((-(b.1 * f)) / 2 ^ 64) + 1
  let s := modTmb (fun x => { x with
    c0 := s.c, t0 := b.1, rho := r, integ := r * 2 ^ 32, ser := (x.ser + 1) % 16, step := none, stepNeeded := false,
    lanes := x.lanes.map (fun p => (p.1, { p.2 with freeEx := [] })), srcGone := false,
    lockCnt := 0, unlockCnt := 0, bigCnt := 0, miss := 0 }) (dropNow s)
  let s := { s with frame := (first - 1).toNat }
  bump 0x3028 1 (raise .tmb 0 1 (tbState .stepped s))

/-! ### Timing root (R212, R213) -/

/-- A write of TMB_ROOT_TOD_HI (R212, R221). -/
def todWrite (w : Word) (s : State) : State :=
  let s := setRg 0x30A4 (w &&& 0xFFFF#32) s
  if bit w 31 then modTmb (fun x => { x with pps := { x.pps with todValid := true, first := none } }) s else s

def execRootTodValid (_ : Path) (w : Word) (s : State) : Host.Outcome State Fault Refusal :=
  .next (direct .tmb 0 (todWrite w) s)

/-- TAI second of the next PPS edge. -/
def todSec (s : State) : Nat := (rg s 0x30A0).toNat + 2 ^ 32 * af s 0x30A4 0 16

/-- PPS input delay in 2^-64 s (R212): DLY in 10 ps. -/
def ppsDly (s : State) : Int := ps64 (10 * sfld (rg s 0x30A8) 16 16)

/-- The PPS record after an edge at `t`: one within 1 ms of the expected instant is the expected edge (R213). -/
def ppsCame (s : State) (t : Nat) : Pps :=
  let p := s.tmb.pps
  match p.next with
  | some n => if |netTime s t - ppsDly s - (n : Int) * 2 ^ 64| ≤ ns64 1000000 then { p with next := some (n + 1), miss := 0 } else p
  | none => p

/-- A PPS_IN edge; one beyond 1 us is discarded, and one beyond 1 ms is not the expected one either (R212, R213). -/
def ppsEdge (t : Nat) (s : State) : State :=
  let p := s.tmb.pps
  if p.todValid then match p.first with
    | none => modTmb (fun x => { x with pps := { ppsCame s t with first := some t } }) s
    | some a =>
      let d : Int := (t : Int) - a
      if |d - tauHz| * 10000 ≤ (tauHz : Int) then
        let rho := ((tauHz : Int) - d) * 2 ^ 48 / d
        let v : Int := ((todSec s : Int) + 1) * 2 ^ 64 + ppsDly s
        let q : Pps := { p with todValid := false, first := none, next := some (todSec s + 2), lockCnt := 0, miss := 0, disc := 0 }
        modTmb (fun x => { x with step := some (.abs v t (some rho)), pps := q }) s
      else modTmb (fun x => { x with pps := { ppsCame s t with first := some t } }) s
  else match p.next with
    | none => s
    | some n =>
      let e := netTime s t - ppsDly s - (n : Int) * 2 ^ 64
      if ns64 1000 < |e| then
        let came := decide (|e| ≤ ns64 1000000)
        let s := modTmb (fun x => { x with e := e, pps := { p with
          disc := p.disc + 1, lockCnt := 0, next := if came then some (n + 1) else some n, miss := if came then 0 else p.miss } }) s
        if 8 ≤ p.disc + 1 ∧ s.tmb.stepNeeded = false then raise .tmb 0 2 (modTmb (fun x => { x with stepNeeded := true }) s) else s
      else
        let lc := if |e| ≤ ns64 (af s 0x30A8 8 8) then p.lockCnt + 1 else 0
        let s := modTmb (fun x => { x with
          e := e, eNew := true, stepNeeded := false, eHist := (|e| :: x.eHist).take 16,
          pps := { p with next := some (n + 1), disc := 0, miss := 0, lockCnt := lc } }) s
        if 16 ≤ lc then tbState .locked s else s

/-- An edge of PPS_IN; while JTAG holds the pins none reaches the core (R213, R429). -/
def execPpsInEdge (t : Nat) (s : State) : Host.Outcome State Fault Refusal :=
  if live s && !s.jtag.held && isRoot s then .next (ppsEdge t (advance t s)) else .next s

/-- An expected PPS edge is missing (R213). -/
def execPpsMissing (t : Nat) (s : State) : Host.Outcome State Fault Refusal :=
  match s.tmb.pps.next with
  | some n =>
    if live s && isRoot s && decide ((n : Int) * 2 ^ 64 + ns64 1000000 ≤ netTime s t - ppsDly s) then
      let s := advance t s
      let s := modTmb (fun x => { x with pps := { x.pps with next := some (n + 1), miss := x.pps.miss + 1, lockCnt := 0 } }) s
      let s := raise .tmb 0 5 s
      .next (if 2 ≤ s.tmb.pps.miss ∧ (s.tmb.st = .stepped ∨ s.tmb.st = .locked) then enterHoldover t s else s)
    else .next s
  | none => .next s

/-! ### Snapshot and scheduled events (R192, R214, R215) -/

def takeSnap (s : State) : State := modTmb (fun x => { x with snap := ⟨s.c, netNow s, tmbStateWord s⟩ }) s

def execTmbSnapGo (_ : Path) (s : State) : Host.Outcome State Fault Refusal := .next (direct .tmb 0 takeSnap s)

def evtCfgA (e : Nat) : Nat := 0x3200 + 0x10 * e

/-- Instant of an event from its registers, 2^-64 s (R4, R214). -/
def evtBase (s : State) (e : Nat) : Int :=
  let sec : Nat := (rg s (evtCfgA e + 4)).toNat + 2 ^ 32 * fld (rg s (evtCfgA e + 8)) 0 16
  let fr : Nat := fld (rg s (evtCfgA e + 8)) 16 16 * 2 ^ 32 + (rg s (evtCfgA e + 12)).toNat
  (sec : Int) * 2 ^ 64 + (fr : Int) * 2 ^ 16

/-- Its next instant: the base plus a period of PERIOD x 125 us for each firing so far. -/
def evtAt (s : State) (e : Nat) : Int :=
  evtBase s e + ((tget 0 s.tmb.evtCnt e * fld (rg s (evtCfgA e)) 8 24 * 2 ^ 64 / 8000 : Nat) : Int)

def evtArmed (s : State) (e : Nat) : Bool := s.tmb.evtArm.testBit e

/-- Why arming an event fails (R214, R221). -/
def evtArmOk (s : State) (e : Nat) : Bool :=
  decide (fld (rg s (evtCfgA e)) 0 4 ≤ 5) && decide (netNow s + ns64 2000 ≤ evtBase s e)

/-- Clear bits of the armed mask. -/
def evtDrop (m : Nat) (s : State) : State :=
  modTmb (fun x => { x with evtArm := x.evtArm &&& (0xFFFF ^^^ (m % 65536)) }) s

/-- Arm one event (R214). One that is armed already starts again from its base instant, or is disarmed with BAD_PARAM where that is no longer
ahead (DESIGN CHOICE, log entry 216). -/
def evtArm1 (e : Nat) (s : State) : State :=
  if evtArmOk s e then
    modTmb (fun x => { x with evtArm := x.evtArm ||| 2 ^ e, evtCnt := tset 0 x.evtCnt e 0 }) s
  else pgError .tmb 0 stBadParam (evtDrop (2 ^ e) s)

/-- A write of TMB_EVT_ARM, and of TMB_EVT_DISARM. -/
def evtArmW (w : Word) (s : State) : State :=
  (List.range 16).foldl (fun a e => if bit w e then evtArm1 e a else a) s

def execTmbEvtArm (_ : Path) (w : Word) (s : State) : Host.Outcome State Fault Refusal := .next (direct .tmb 0 (evtArmW w) s)

def execTmbEvtDisarm (_ : Path) (w : Word) (s : State) : Host.Outcome State Fault Refusal :=
  .next (direct .tmb 0 (evtDrop (fld w 0 16)) s)

/-- Set FIRED or LATE of an event. -/
def evtStat (e : Nat) (late : Bool) (s : State) : State :=
  setRg 0x3308 (rg s 0x3308 ||| word (2 ^ e ||| (if late then 2 ^ (16 + e) else 0))) s

/-- After a firing or a skip: a periodic event goes on, a one-shot is disarmed (R214). -/
def evtNext (e : Nat) (s : State) : State :=
  if fld (rg s (evtCfgA e)) 8 24 = 0 then evtDrop (2 ^ e) s
  else modTmb (fun x => { x with evtCnt := tset 0 x.evtCnt e (tget 0 x.evtCnt e + 1) }) s

/-! ### Pulses on the timing pins (R203, R216) -/

/-- A pulse on a pin from one instant of the counter to another (tau/256); a pin is the OR of its pulses (R216). -/
def pulseOn (pin t0 t1 : Nat) (s : State) : State :=
  modTmb (fun x => { x with pulse := tset [] x.pulse pin (tget [] x.pulse pin ++ [(t0, t1)]) }) s

/-- Level of a timing pin at an instant of the counter. -/
def pinHigh (s : State) (pin t : Nat) : Bool := !s.jtag.held && (tget [] s.tmb.pulse pin).any (fun p => decide (p.1 ≤ t) && decide (t < p.2))

def trigOut (pin t : Nat) (s : State) : State := pulseOn (2 + pin) t (t + usTau (af s 0x30C0 24 8)) s

/-- A trigger pulse at a network instant: placed on the counter once the instant lies within the frame, so that a change of rate
or a step before it moves the pulse with the instant (R243). -/
def outAt (pin : Nat) (t : Int) (s : State) : State :=
  if t < tickTime s (s.frame + 1) then trigOut pin (if netNow s ≤ t then localAt s t else 256 * s.c) s
  else modTmb (fun x => { x with outs := x.outs ++ [(pin, t)] }) s

/-- The trigger pulses that fall in the frame that begins (R243). -/
def outTick (s : State) : State := forL s.tmb.outs (fun p a => outAt p.1 p.2 a) (modTmb (fun x => { x with outs := [] }) s)

def execTimingPulseEnd (pin t : Nat) (s : State) : Host.Outcome State Fault Refusal :=
  if live s && (tget [] s.tmb.pulse pin).any (fun p => decide (p.2 ≤ t)) then
    .next (modTmb (fun x => { x with pulse := tset [] x.pulse pin ((tget [] x.pulse pin).filter (fun p => !decide (p.2 ≤ t))) }) (advance t s))
  else .next s

/-- The whole second of network time that begins in a frame, in 2^-64 s: at its tick, or inside a frame that a step has
lengthened. -/
def frameSec (s : State) (plain : Bool) : Option Int :=
  let a := if plain then tickTime s s.frame else netNow s
  let v := -((-a) / 2 ^ 64) * 2 ^ 64
  if v < tickTime s (s.frame + 1) then some v else none

/-- PPS_OUT and TICK_OUT at the tick whose exact instant is `t`, each edge at its exact instant (R203). -/
def tickPulses (plain : Bool) (t : Nat) (s : State) : State :=
  let s := outTick s
  if s.tmb.st = .free ∧ bit (rg s 0x3040) 9 = false then s
  else
    let s := match frameSec s plain with
      | some v => if bit (rg s 0x30C0) 0 then pulseOn 0 (localAt s v) (localAt s v + usTau (1000 * af s 0x30C0 16 8)) s else s
      | none => s
    if bit (rg s 0x30C0) 1 then pulseOn 1 t (t + min (usTau 10) (tauHz / (2 * frameHz s))) s else s

/-! ### The tick's part of the timebase (R193, R201, R204, R209) -/

/-- A TIME ordered set departs on a lane (R204): its departure is kept for the exchange. -/
def osDepart (d : Nat × Nat) (s : State) : State :=
  if (lane s d.1).st = .up ∧ d.1 < 8 ∧ pertOn s .lnk d.1 4 = false then
    let late := if pertOn s .lnk d.1 3 then ps64 (10 * (pertArg s .lnk d.1 : Nat)) else 0
    let e : TDep := ⟨s.frame % 65536, netTime s (d.2 + (fuseLat s d.1).1) + late, s.tmb.ser, none⟩
    modTlane d.1 (fun x => { x with deps := (e :: x.deps).take 8 }) s
  else s

/-- The arrival a TIME packet reports with the latest departure (R205, R453): none before one was recorded since the
last own step. The departure keeps it for its exchange. -/
def osReport (n : Nat) (s : State) : State :=
  let a := match (tlane s n).arr with
    | some x => if x.ser = s.tmb.ser then some x else none
    | none => none
  modTlane n (fun x => match x.deps with
    | d :: r => { x with deps := { d with pair := a } :: r }
    | [] => x) s

/-- One lane's counters at a tick (R201, R209). -/
def laneTick (n : Nat) (s : State) : State :=
  let s := modTlane n (fun x => { x with age := min 4 (x.age + 1), now := none }) s
  let q := qualifies s n
  modTlane n (fun x => { x with qual := if q then x.qual + 1 else 0 }) s

/-- One lane's count of consecutive frames with a valid exchange while it is a qualified source (R193). -/
def freeLane1 (n : Nat) (s : State) : State :=
  modTlane n (fun x => { x with freeEx := match x.now with
    | some (e, _) => if qualifies s n then (e :: x.freeEx).take 16 else []
    | none => [] }) s

/-- Count toward the first step (R193, R196): sixteen consecutive frames with a valid exchange of one qualified source, the
preferred one where several have them. -/
def freeCount (s : State) : State :=
  if s.tmb.st ≠ .free ∨ isRoot s ∨ s.tmb.step.isSome then s
  else
    let s := forN 8 freeLane1 s
    match bestOf s (fun n => decide (16 ≤ (tlane s n).freeEx.length)) with
    | some n =>
      let r := fitStep (tlane s n).freeEx (asym s n)
      modTmb (fun y => { y with step := some (.fit r.1 r.2) }) s
    | none => s

/-- What the exchanges of the frame that ends do at its tick: the count toward the first step, the phase error, an AUTOSTEP
(R193, R196, R199). -/
def frameExchange (s : State) : State := useExchange (freeCount s)

/-- LOCKED begins or ends at the tick with the exchange of the frame that ends, so that the tick's pass knows of it (R193). -/
def lockTurn (s : State) : State :=
  if s.tmb.st = .stepped ∧ isRoot s = false ∧ s.tmb.step.isNone ∧ 64 ≤ s.tmb.lockCnt then tbState .locked s
  else if s.tmb.st = .locked ∧ isRoot s = false ∧ s.tmb.unlockCnt ≠ 0 ∧ af s 0x304C 16 8 ≤ s.tmb.unlockCnt then
    modTmb (fun x => { x with lockCnt := 0 }) (tbState .stepped s)
  else s

/-- A step is to be made at the next tick. -/
def stepDue (s : State) : Bool := (frameExchange s).tmb.step.isSome

/-- Frame counts of the timebase at a tick (R193, R201); a tick that carries a step begins them. -/
def tmbTick (plain : Bool) (s : State) : State :=
  let miss := if !plain || (List.range 8).any (fun n => (tlane s n).now.isSome && qualifies s n) then 0 else s.tmb.miss + 1
  let s := modTmb (fun x => { x with
    miss := miss, lockCnt := if x.eNew then x.lockCnt else 0, eNew := false, hopsLive := true }) s
  (List.range 8).foldl (fun a n => laneTick n a) s

end Sys2Proof.Machine
end

