-- ==== Sys2Proof/Machine/FrontEnd.lean ====
section
/-! DEFINITION. Channel states, autorange, lead detectors and lead tests (chapter 05). -/

namespace Sys2Proof.Machine

open Sys2Proof

/-- A modulator cycle in tau/256: 96 CORE cycles (R141). -/
def mcTau : Nat := 24576

/-- 10 us in tau/256, rounded down. -/
def tenUs : Nat := 1006632

/-- The first modulator-cycle boundary at or after an instant. -/
def mcAt (t : Nat) : Nat := (t + mcTau - 1) / mcTau * mcTau

/-- Set a CH_EVENT bit and raise its cause (R122). -/
def chEvent (g b : Nat) (s : State) : State :=
  raise .shf (g / 32) (if b < 4 then 0 else if b < 7 then 1 else 2)
    (setRg (chEventA g) (rg s (chEventA g) ||| word (2 ^ b)) s)

/-- Mark a span of instants on a channel. -/
def mark (g : Nat) (k : MarkK) (t0 : Nat) (t1 : Option Nat) (s : State) : State :=
  modChan g (fun x => { x with marks := x.marks ++ [⟨k, t0, t1, tmbCut s⟩] }) s

/-- End the open spans of one kind at an instant. -/
def endMarks (g : Nat) (k : MarkK) (t : Nat) (s : State) : State :=
  modChan g (fun x => { x with marks := x.marks.map (fun m => if m.k = k ∧ m.t1.isNone then { m with t1 := some t } else m) }) s

/-- End every open span of a channel that goes OFF. -/
def marksClose (g t : Nat) (s : State) : State :=
  modChan g (fun x => { x with marks := x.marks.map (fun m => if m.t1.isNone then { m with t1 := some t } else m) }) s

/-- The channel's lead detectors are on: it is neither OFF nor in FAULT (R115). -/
def chOn (s : State) (g : Nat) : Bool :=
  decide (g < 512) && !(decide ((chan s g).st = .off) || decide ((chan s g).st = .fault))

/-- The channel is in SETTLING or RUN. -/
def chActive (s : State) (g : Nat) : Bool :=
  decide (g < 512) && (decide ((chan s g).st = .settling) || decide ((chan s g).st = .run))

/-! ### Links, loads and starts (R62, R106, R144) -/

/-- A sheaf pair (0 low, 1 high) of a die has no working lane. -/
def pairLost (d : Die) (hi : Bool) : Bool := if hi then d.lostHi else d.lostLo

/-- The sheaf pair of a channel is carried: by its own lane, or by L2 in its place (R62). -/
def chCarried (s : State) (g : Nat) : Bool :=
  let d := die s (g / 128)
  d.trained && !(pairLost d (decide (2 ≤ g / 32 % 4)))

/-- The hub applies the channel's burnout current and bias: on a DUAL channel of a twin pair only with the token (R106, R350). -/
def loadsRule (s : State) (g : Nat) : Bool :=
  decide ((chan s g).st ≠ .off) && !(die s (g / 128)).lost &&
    (!bit (rg s (chCfgA g)) 10 || !s.hub.straps.twinEn || s.twn.token)

/-- The loads follow at the first modulator-cycle boundary at or after an instant. -/
def loadsSync (g t : Nat) (s : State) : State :=
  if (chan s g).loads = loadsRule s g then s
  else modChan g (fun x => { x with loads := !x.loads, loadAt := mcAt t }) s

/-- Every channel's loads follow a change of role (R106, R350). -/
def loadsAll (t : Nat) (s : State) : State := forN 512 (fun g a => loadsSync g t a) s

/-- Tick number that starts a channel's modulator, if one is set (R144, R145). -/
def startOf (s : State) (g : Nat) : Option Nat := tget none s.startAt g
def setStart (g : Nat) (f : Option Nat) (s : State) : State := { s with startAt := tset none s.startAt g f }

/-- The active start delay of a sheaf in frames. -/
def sdly (s : State) (ss : Nat) : Nat := af s (shfReg ss 0x240) 0 8

/-! ### Autorange (R107 to R111) -/

/-- The next wider gain code of an autorange set (R107). -/
def widerGain (cur : Nat) : Nat := if cur ≤ 3 then 0 else 3

/-- The next narrower gain code of an autorange set, if there is one. -/
def narrowerGain (ar cur : Nat) : Option Nat :=
  if cur = 0 then some 3 else if cur = 3 ∧ ar = 2 then some 6 else none

/-- The first modulator-cycle boundary after an instant. -/
def nextMc (t : Nat) : Nat := (t / mcTau + 1) * mcTau

/-- The range scaling of a channel at an instant (R110): the latest entry that begins by then. -/
def shiftAt (l : List (Nat × Nat)) (t : Nat) : Nat := match l.find? (fun e => decide (e.1 ≤ t)) with
  | some e => e.2
  | none => 0

/-- Under autorange the words of a range are scaled to gain 1 from an instant on (R110). -/
def shiftFrom (g code t : Nat) (s : State) : State :=
  let k := if af s (chCfgA g) 8 2 ≠ 0 then code else 0
  if shiftAt (chan s g).shifts t = k then s else modChan g (fun x => { x with shifts := (t, k) :: x.shifts }) s

/-- Switch a channel's range at an instant, with RMOV where the range changes (R110, R111). -/
def switchRange (g code t : Nat) (s : State) : State :=
  let s := shiftFrom g code t (modChan g (fun x => { x with arCount := 0 }) s)
  if (chan s g).gain = code then s else mark g .rmov t (some t) (modChan g (fun x => { x with gain := code }) s)

/-- Autorange switches the range at the next boundary: counted, reported, and remembered while a commit at that boundary can
still discard it (R108, R109, R111). -/
def arSwitch (g code t : Nat) (up : Bool) (s : State) : State :=
  let b := nextMc t
  let x := chan s g
  let w : ArSw := { t := b, gain := x.gain, up := up, cnt := if up then x.upCnt else x.dnCnt,
                    ev := !bit (rg s (chEventA g)) (if up then 4 else 5), irq := !bit (rg s (pgIrq .shf (g / 32))) 1 }
  let s := modChan g (fun y => { y with arSw := w :: y.arSw.filter (fun v => decide (v.t = b)) }) (switchRange g code b s)
  if up then bump (shfReg (g / 32) 0x28) 1 (chEvent g 4 (modChan g (fun y => { y with upCnt := min 255 (y.upCnt + 1) }) s))
  else chEvent g 5 (modChan g (fun y => { y with dnCnt := min 255 (y.dnCnt + 1) }) s)

/-- One switch is taken back: range, marks, counts and reports as before it. -/
def arUndo (g : Nat) (w : ArSw) (s : State) : State :=
  let s := modChan g (fun y => { y with
    gain := w.gain, marks := y.marks.filter (fun m => !(decide (m.k = .rmov) && decide (m.t0 = w.t))),
    shifts := y.shifts.filter (fun e => decide (e.1 ≠ w.t)),
    upCnt := if w.up ∧ w.cnt < 255 then y.upCnt - 1 else y.upCnt,
    dnCnt := if w.up = false ∧ w.cnt < 255 then y.dnCnt - 1 else y.dnCnt }) s
  let a := shfReg (g / 32) 0x28
  let s := if w.up ∧ (rg s a).toNat < 2 ^ 32 - 1 then setRg a (word ((rg s a).toNat - 1)) s else s
  let s := if w.ev then setRg (chEventA g) (setFld (rg s (chEventA g)) (if w.up then 4 else 5) 1 0) s else s
  if w.irq then setRg (pgIrq .shf (g / 32)) (setFld (rg s (pgIrq .shf (g / 32))) 1 1 0) s else s

/-- Autorange switches that fall on a boundary at which the configuration decides the range are discarded (R111). -/
def arDiscard (g t : Nat) (s : State) : State :=
  modChan g (fun y => { y with arSw := [] }) (forL ((chan s g).arSw.filter (fun w => decide (w.t = t))) (arUndo g) s)

/-- A peak comparator trips (R108, R150). -/
def execPeakTripUprange (g : Nat) (t2 : Bool) (t : Nat) (s : State) : Host.Outcome State Fault Refusal :=
  if chActive s g && decide (af s (chCfgA g) 8 2 ≠ 0) then
    let s := modChan g (fun x => { x with arCount := 0 }) (advance t s)
    let cur := (chan s g).gain
    if cur = 0 then .next s
    else .next (arSwitch g (if t2 then 0 else widerGain cur) t true s)
  else .next s

/-- The 256th qualifying sample has been delivered (R109). -/
def execDownrangeCount (g t : Nat) (s : State) : Host.Outcome State Fault Refusal :=
  match narrowerGain (af s (chCfgA g) 8 2) (chan s g).gain with
  | some code =>
    if chActive s g && decide (af s (chCfgA g) 8 2 ≠ 0) && decide (256 ≤ (chan s g).arCount) then
      .next (arSwitch g code t false (advance t s))
    else .next s
  | none => .next s

/-- A clipped modulator cycle: the CIC word that takes it carries the marker (R143, R148). -/
def execClipDetect (g : Nat) (pos : Bool) (t : Nat) (s : State) : Host.Outcome State Fault Refusal :=
  if chActive s g then
    let s := modChan g (fun x => { x with clips := x.clips ++ [(t, pos)], clipCnt := min 255 (x.clipCnt + 1) }) (advance t s)
    .next (bump (shfReg (g / 32) 0x2C) 1 (chEvent g 6 s))
  else .next s

/-! ### Lead states (R112 to R116) -/

/-- Codes of the detectors that hold a CONFIRMED state. -/
def detCode : LeadDet → Nat
  | .compliance => 0
  | .forceSense k => 1 + k
  | .collapse k => 5 + k
def detWindow : Nat := 9

/-- LEAD_SRC bit of a detector (R123). -/
def detSrc : LeadDet → Nat
  | .compliance => 1
  | _ => 2

/-- The lead state returns to NONE at an instant, with its event bit (R115, R116). -/
def leadClear (g ev t : Nat) (s : State) : State :=
  chEvent g ev (endMarks g .lead t
    (modChan g (fun x => { x with lead := .none, leadSrc := 0, detAct := [], retestAt := none }) s))

/-- The lead state becomes CONFIRMED (R115). -/
def leadConfirm (g : Nat) (s : State) : State :=
  bump (shfReg (g / 32) 0x24) 1 (chEvent g 1
    (modChan g (fun x => { x with lead := .confirmed, retestAt := none }) s))

/-- A window comparator trips; while a lead state stands it counts among its detectors again (R112, R115, R116). -/
def execWindowComparatorTrip (g : Nat) (p n : Bool) (t : Nat) (s : State) : Host.Outcome State Fault Refusal :=
  if chOn s g && bit (rg s (chLeadA g)) 2 && (p || n) then
    let s := modChan g (fun x => { x with cmwP := p, cmwN := n }) (advance t s)
    if (chan s g).lead = .none then
      let s := mark g .lead 0 none s
      let s := modChan g (fun x => { x with lead := .suspect, leadSrc := x.leadSrc ||| 4, detAct := detWindow :: x.detAct }) s
      let s := bump (shfReg (g / 32) 0x20) 1 (chEvent g 0 s)
      .next (if bit (rg s (chLeadA g)) 3 then urgentTest g (if p then 0 else 1) false s else s)
    else .next (modChan g (fun x => { x with
      leadSrc := x.leadSrc ||| 4, retestAt := none, detAct := detWindow :: x.detAct.filter (· ≠ detWindow) }) s)
  else .next s

/-- Every raising detector is inactive: issue the clearing test (R115). -/
def clearingTest (g : Nat) (s : State) : State :=
  if (chan s g).lead = .confirmed ∧ (chan s g).detAct = [] then
    urgentTest g 0 true (modChan g (fun x => { x with retestAt := none }) s)
  else s

/-- Both pins are back in the window (R114, R115). -/
def execWindowReturn (g t : Nat) (s : State) : Host.Outcome State Fault Refusal :=
  if chOn s g then
    let s := modChan g (fun x => { x with cmwP := false, cmwN := false, detAct := x.detAct.filter (· ≠ detWindow) }) (advance t s)
    if (chan s g).lead = .suspect ∧ bit (rg s (chLeadA g)) 3 = false then .next (leadClear g 2 t s)
    else .next (clearingTest g s)
  else .next s

/-- The detector belongs to the channel's configuration (R113). -/
def detApplies (s : State) (g : Nat) : LeadDet → Bool
  | .compliance => decide (af s (chCurrA g) 0 3 ≠ 0)
  | .forceSense k => decide (k < 4) && bit (rg s (chLeadA g)) (8 + k)
  | .collapse k => decide (k < 4) && bit (rg s (chLeadA g)) (8 + k)

/-- A confirming detector of a channel goes active (R113, R115, R116). -/
def detectorOn (g : Nat) (d : LeadDet) (t : Nat) (s : State) : State :=
  if chOn s g && detApplies s g d then
    let s := mark g .lead (t - tenUs) none s
    let s := if (chan s g).lead = .confirmed then modChan g (fun x => { x with retestAt := none }) s else leadConfirm g s
    modChan g (fun x => { x with leadSrc := x.leadSrc ||| detSrc d, detAct := detCode d :: x.detAct.filter (· ≠ detCode d) }) s
  else s

/-- A confirming detector of a channel goes inactive (R115). -/
def detectorOff (g : Nat) (d : LeadDet) (s : State) : State :=
  if chOn s g ∧ detCode d ∈ (chan s g).detAct then
    clearingTest g (modChan g (fun x => { x with detAct := x.detAct.filter (· ≠ detCode d) }) s)
  else s

/-- FSDIFF of an output follows its force/sense detector (R113, R139). -/
def fsDiffSet (g : Nat) (d : LeadDet) (on : Bool) (s : State) : State := match d with
  | .forceSense k => modExc (4 * (g / 32) + k) (fun e => { e with fsDiff := on }) s
  | _ => s

def execLeadDetectorConfirm (g : Nat) (d : LeadDet) (t : Nat) (s : State) : Host.Outcome State Fault Refusal :=
  if g < 512 then .next (detectorOn g d t (fsDiffSet g d true (advance t s))) else .next s

def execLeadDetectorInactive (g : Nat) (d : LeadDet) (t : Nat) (s : State) : Host.Outcome State Fault Refusal :=
  if g < 512 then .next (detectorOff g d (fsDiffSet g d false (advance t s))) else .next s

/-- 16 frames after a failed clearing test (R115). -/
def execLeadRetestTimer (g : Nat) (s : State) : Host.Outcome State Fault Refusal :=
  match (chan s g).retestAt with
  | some f => if chOn s g && decide (f ≤ s.ord) then .next (clearingTest g s) else .next s
  | none => .next s

/-- A pin code lies inside the window of R112: 19.53125 uV codes, 10 mV window steps of 512 codes. The upper edge is taken
from VDDA as the last SYS pass converted it, and from 5.00 V before the first one (DESIGN CHOICE, log entry 161). -/
def inWindow (s : State) (ss code : Nat) : Bool :=
  let vdda := let v := (aux s (ss / 4)).vdda; if v = 0 then 256000 else v
  decide (512 * af s (shfReg ss 0x40) 0 8 ≤ code) && decide (code + 512 * af s (shfReg ss 0x40) 8 8 ≤ vdda)

/-- The result of an urgent lead test (R114, R115). The clearing test converts P, then N by a second urgent request at the
queue's end (DESIGN CHOICE, log entry 162). A suspect that is confirmed after its comparators have returned has no active
detector left, so the clearing test is issued at once; so is one that a detector's end asked for while the suspect's test still
waited, which merged with it (R158). -/
def urgentResult (g pin : Nat) (clearing : Bool) (code t : Nat) (s : State) : State :=
  if !chOn s g then s
  else if !clearing then
    if (chan s g).lead = .suspect then
      if inWindow s (g / 32) code then leadClear g 2 t s else clearingTest g (leadConfirm g s)
    else clearingTest g s
  else if (chan s g).lead = .confirmed ∧ (chan s g).detAct = [] then
    if inWindow s (g / 32) code then
      if pin = 0 then urgentTest g 1 true s else leadClear g 3 t s
    else modChan g (fun x => { x with retestAt := some (s.ord + 16) }) s
  else s

/-! ### Lead tests (R117 to R119) -/

/-- SHF_LT_RES while a test runs: what was written, not DONE (R122). -/
def ltStartWord (x : LeadTest) : Word := word (bbit x.shorts 6 ||| bbit x.all 5 ||| x.ch % 32)

/-- A test is under way; SHF_LT_RES describes it unless it is periodic (R117, R122). -/
def ltBegin (ss : Nat) (x : LeadTest) (s : State) : State :=
  let s := { s with lts := tset none s.lts ss (some x) }
  if x.origin = .periodic then s else { s with ltRes := tset 0 s.ltRes ss (ltStartWord x) }

/-- SHF_LT_RES of an ended test (R122). -/
def ltResWord (s : State) (x : LeadTest) (aborted pass shPin : Bool) : Word :=
  word ((s.frame % 65536) <<< 16 ||| bbit shPin 11 ||| bbit aborted 10 ||| bbit pass 9 ||| 2 ^ 8 |||
    bbit x.shorts 6 ||| bbit x.all 5 ||| x.ch % 32)

/-- One bit per channel of a sheaf, as the SHF_MAP registers show (R122). -/
def sheafMap (ss : Nat) (f : Nat → Bool) : Nat :=
  (List.range 32).foldl (fun a c => a ||| bbit (f (32 * ss + c)) c) 0

def mapRun (s : State) (ss : Nat) : Nat := sheafMap ss (fun g => decide ((chan s g).st = .run))
def mapLead (s : State) (ss : Nat) : Nat := sheafMap ss (fun g => decide ((chan s g).lead ≠ .none))
def mapFault (s : State) (ss : Nat) : Nat := sheafMap ss (fun g => decide ((chan s g).st = .fault))
def mapShort (s : State) (ss : Nat) : Nat := sheafMap ss (fun g => decide ((chan s g).shortMask ≠ 0))

/-- A lead test ends: result, LT_DONE and the waiting command (R117, R122). -/
def ltReport (ss : Nat) (x : LeadTest) (aborted pass shPin : Bool) (s : State) : State :=
  if x.origin = .periodic then s
  else
    let w := ltResWord s x aborted pass shPin
    wakeup (.leadTest ss) stOk (leBytes 4 w.toNat ++ leBytes 4 (mapLead s ss) ++ leBytes 4 (mapShort s ss))
      (raise .shf ss 3 { s with ltRes := tset 0 s.ltRes ss w })

/-- Channels of a sheaf that an OPENS test covers now (R117). -/
def ltCover (s : State) (ss : Nat) (all : Bool) (cc : Nat) : List Nat :=
  (if all then List.range 32 else [cc % 32]).filter (fun c => chActive s (32 * ss + c))

/-- Start an OPENS test: its conversions of P and N join the LT class; with nothing to cover it ends at once (R117). -/
def startOpens (ss : Nat) (all : Bool) (cc : Nat) (o : LtOrigin) (s : State) : State :=
  let cover := ltCover s ss all cc
  let x : LeadTest := { shorts := false, all := all, ch := cc % 32, origin := o, cover := cover, t0 := 256 * s.c }
  if cover = [] then ltReport ss x (!all) all false s
  else
    let s := ltBegin ss x s
    cover.foldl (fun a c => auxPush (ss / 4) (.lead ss c 1) (auxPush (ss / 4) (.lead ss c 0) a)) s

/-- The running lead test of a sheaf. -/
def ltOf (s : State) (ss : Nat) : Option LeadTest := tget none s.lts ss

/-- A request belongs to the lead test of a sheaf. -/
def ltReq (ss : Nat) : AuxKind → Bool
  | .lead q _ _ => decide (q = ss)
  | .shorts q => decide (q = ss)
  | _ => false

/-- The span of a SHORTS test ends on every channel of the sheaf (R118). -/
def shortsEnd (ss : Nat) (s : State) : State := forN 32 (fun c a => endMarks (32 * ss + c) .shorts (256 * a.c) a) s

/-- Remove a running test, and start the periodic one that waits (R117). The result of a conversion of it that still runs
goes nowhere. -/
def ltStop (ss : Nat) (s : State) : State :=
  let s := match ltOf s ss with
    | some x => if x.shorts then shortsEnd ss s else s
    | none => s
  let s := { s with lts := tset none s.lts ss none }
  let s := modAux (ss / 4) (fun x => { x with
    lt := x.lt.filter (fun r => !ltReq ss r.kind),
    run := x.run.map (fun r => if ltReq ss r.kind then { r with kind := .stale } else r) }) s
  if tget false s.ltWait ss then startOpens ss true 0 .periodic { s with ltWait := tset false s.ltWait ss false } else s

/-- A running test ends with ABORTED (R117). -/
def ltAbort (ss : Nat) (s : State) : State := match ltOf s ss with
  | some x => ltStop ss (ltReport ss x true false false s)
  | none => s

/-- A drive of the sheaf is not OFF: an excitation output, or a current source of a channel (R119). -/
def sheafDriven (s : State) (ss : Nat) : Bool :=
  (List.range 4).any (fun k => decide ((exc s (4 * ss + k)).mode ≠ .off)) ||
  (List.range 32).any (fun c => decide ((chan s (32 * ss + c)).st ≠ .off) && decide (af s (chCurrA (32 * ss + c)) 0 3 ≠ 0))

/-- A channel of the sheaf is shared with the partner hub (R106). -/
def sheafDual (s : State) (ss : Nat) : Bool := (List.range 32).any (fun c => bit (rg s (chCfgA (32 * ss + c))) 10)

/-- Why a lead test may not start: BUSY while one runs, for SHORTS also R119's refusals. Where several hold, the first of
BUSY, NOT_PERMITTED and ROLE is reported (DESIGN CHOICE, log entry 163). -/
def ltRefusal (s : State) (ss : Nat) (shorts : Bool) : Option Nat :=
  if (ltOf s ss).isSome then some stBusy
  else if shorts && sheafDriven s ss then some stNotPermitted
  else if shorts && sheafDual s ss then some stRole
  else none

/-- Start a SHORTS test: it covers the whole sheaf whatever ALL and CH say, marks every channel of it with CAL, and its
conversions join the LT class one after another (R118, R122, R158). -/
def startShorts (ss : Nat) (all : Bool) (cc : Nat) (o : LtOrigin) (s : State) : State :=
  let x : LeadTest := { shorts := true, all := all, ch := cc % 32, origin := o, cover := List.range 32, t0 := 256 * s.c }
  auxPush (ss / 4) (.shorts ss) (forN 32 (fun c a => mark (32 * ss + c) .shorts x.t0 none a) (ltBegin ss x s))

/-- SHF_LT_CMD with MODE OPENS: shared by the direct write and the command. -/
def goOpens (ss : Nat) (all : Bool) (cc : Nat) (s : State) : State := match ltRefusal s ss false with
  | some st => pgError .shf ss st s
  | none => startOpens ss all cc .reg s

def goShorts (ss : Nat) (all : Bool) (cc : Nat) (s : State) : State := match ltRefusal s ss true with
  | some st => pgError .shf ss st s
  | none => if auxAvail s (ss / 4) then startShorts ss all cc .reg s else pgError .shf ss stNoResource s

def execShfLtOpens (_ : Path) (ss : Nat) (all : Bool) (cc : Nat) (s : State) : Host.Outcome State Fault Refusal :=
  .next (if ss < 16 then direct .shf ss (goOpens ss all cc) s else s)

def execShfLtShorts (_ : Path) (x : LtTarget) (s : State) : Host.Outcome State Fault Refusal :=
  .next (if x.ss < 16 then direct .shf x.ss (goShorts x.ss x.all x.cc) s else s)

/-- A periodic OPENS test falls due: it starts, or waits for the running one (R117). -/
def execLtPeriodicDue (ss : Nat) (s : State) : Host.Outcome State Fault Refusal :=
  if running s && decide (ss < 16) && decide (af s (shfReg ss 0x44) 0 8 ≠ 0) &&
      decide (af s (shfReg ss 0x44) 0 8 * 1024 ≤ tget 0 s.ltTicks ss) then
    let s := { s with ltTicks := tset 0 s.ltTicks ss 0 }
    .next (if (ltOf s ss).isSome then { s with ltWait := tset false s.ltWait ss true }
      else startOpens ss true 0 .periodic s)
  else .next s

/-- The findings of a SHORTS test go to the channels (R118, R123): those of the sheaf take the new result whole, and a
neighbour in another sheaf gains what was found on it, which stands until that sheaf's own SHORTS test (DESIGN CHOICE of how long,
log entry 196). -/
def ltShortsTake (ss : Nat) (f : LtFind) (s : State) : State :=
  let m (g : Nat) : Nat := f.shorts.foldl (fun acc p => if p.1 = g then acc ||| p.2 % 8 else acc) 0
  let s := forN 32 (fun c a => modChan (32 * ss + c) (fun y => { y with shortMask := m (32 * ss + c) }) a) s
  forL (f.shorts.filter (fun p => decide (p.1 / 32 ≠ ss)))
    (fun p a => modChan p.1 (fun y => { y with shortMask := y.shortMask ||| p.2 % 8 }) a) s

/-- A lead test ends with its findings (R117, R118). An OPENS test ends once its conversions are done. -/
def execLeadTestComplete (ss : Nat) (f : LtFind) (s : State) : Host.Outcome State Fault Refusal :=
  match ltOf s ss with
  | none => .next s
  | some x =>
    if x.shorts then
      .next (ltStop ss (ltReport ss x x.aborted (decide (f.shorts = []) && !f.shPin) f.shPin (ltShortsTake ss f s)))
    else if ((aux s (ss / 4)).lt ++ (aux s (ss / 4)).run.toList).any (fun r => ltReq ss r.kind) then .next s
    else .next (ltStop ss (ltReport ss x x.aborted (decide (f.opens = []) && decide (x.opens = []) && !x.aborted) false s))

/-! ### Channel states (R120) -/

/-- Drop the lead state as a channel leaves service (R115). -/
def leadDrop (g : Nat) (s : State) : State :=
  endMarks g .lead (256 * s.c)
    (modChan g (fun x => { x with lead := .none, leadSrc := 0, detAct := [], retestAt := none, cmwP := false, cmwN := false }) s)

/-- A covered channel that leaves SETTLING and RUN aborts the sheaf's OPENS test (R117). -/
def ltLeave (g : Nat) (s : State) : State := match ltOf s (g / 32) with
  | some x => if x.shorts = false ∧ g % 32 ∈ x.cover then ltAbort (g / 32) s else s
  | none => s

/-- A channel enters FAULT with a cause, and a start it was due is dropped (R54, R62, R120, R146). In FAULT already, a lane
loss replaces a removable modulator fault, and a rail loss any other cause (DESIGN CHOICE of the cause shown, log entry 197). -/
def chFault (g cause : Nat) (s : State) : State :=
  if chOn s g then
    let s := modChan g (fun x => { x with st := .fault, cause := cause, inUse := true }) (setStart g none s)
    loadsSync g (256 * s.c) (chEvent g 7 (ltLeave g (leadDrop g s)))
  else if g < 512 ∧ (chan s g).st = .fault ∧ (chan s g).stuck = false then
    let s := modChan g (fun x => { x with cause := if x.cause = 2 then 2 else cause }) (setStart g none s)
    loadsSync g (256 * s.c) s
  else s

/-- A channel goes OFF (R68, R120). -/
def chOff (g : Nat) (s : State) : State :=
  if (chan s g).st = .off then s
  else
    let s := ltLeave g (leadDrop g (modChan g (fun x => { x with st := .off, cause := 0, settle := none, arSw := [] }) s))
    let s := loadsSync g (256 * s.c) (marksClose g (256 * s.c) s)
    modTap g (fun x => { x with nextK := none, owe := none, gave := none }) s

/-- The channels a die carries (R11). -/
def dieChans (n : Nat) : List Nat := (List.range 128).map (· + 128 * n)

end Sys2Proof.Machine
end

