-- ==== Sys2Proof/Machine/Response.lean ====
section
/-! DEFINITION. Frequency responses: what R166 and R171 require of coefficients that the manual gives by their response only. Gains
are in 2^-64; frequencies are fractions n / d of a filter's input rate. The requirements stand at the points of a grid (DESIGN
CHOICE, log entry 212). -/

namespace Sys2Proof.Machine

open Sys2Proof

/-! ### Responses -/

/-- Pi in 2^-128. -/
def piQ : Int := 0x3243F6A8885A308D313198A2E03707344

/-- cos(2 pi n / d) in 2^-64, by its series. -/
def cosQ (n d : Nat) : Int :=
  let x := 2 * piQ * (n % d : Nat) / d
  ((List.range 48).foldl (fun (a : Int × Int) k =>
    (a.1 + a.2, -(a.2 * x / 2 ^ 128 * x / 2 ^ 128) / ((2 * k + 1) * (2 * k + 2) : Nat))) (0, 2 ^ 128)).1 / 2 ^ 64

/-- sin(2 pi n / d) in 2^-64. -/
def sinQ (n d : Nat) : Int := cosQ (4 * n + 3 * d) (4 * d)

/-- The sum of taps of LSB 2^-31, each with a weight in 2^-64. -/
def weigh (l : List Int) (w : Nat → Int) : Int := (l.zipIdx.foldl (fun (a : Int) p => a + p.1 * w p.2) 0) / 2 ^ 31

/-- Gain of a symmetric filter of an odd number of taps. -/
def symGain (l : List Int) (n d : Nat) : Int :=
  let c := l.length / 2
  weigh l (fun i => cosQ ((max i c - min i c) * n) d)

/-- Square of the gain of any filter. -/
def gainSq (l : List Int) (n d : Nat) : Int :=
  let re := weigh l (fun i => cosQ (i * n) d)
  let im := weigh l (fun i => sinQ (i * n) d)
  (re * re + im * im) / 2 ^ 64

/-- Group delay of any filter times the square of its gain, in taps. -/
def delaySq (l : List Int) (n d : Nat) : Int :=
  let re := weigh l (fun i => cosQ (i * n) d)
  let im := weigh l (fun i => sinQ (i * n) d)
  let dre := weigh l (fun i => i * cosQ (i * n) d)
  let dim := weigh l (fun i => i * sinQ (i * n) d)
  (re * dre + im * dim) / 2 ^ 64

/-- Gain of the CIC stage at n / d of its input rate of 4.096 MHz (R143, R166). -/
def cicGain (n d : Nat) : Int :=
  let c := ([1, 2, 4, 8].map (fun k => cosQ (k * n) (2 * d))).foldl (fun (a x : Int) => a * x / 2 ^ 64) (2 ^ 64)
  let q := c * c / 2 ^ 64
  q * q / 2 ^ 64

/-- A gain lies within `lo` to `hi` parts per 10^9 of 1; a squared gain is at least `att` times below 1. -/
def flatTo (lo hi : Int) (g : Int) : Bool := decide (2 ^ 64 * (10 ^ 9 - lo) ≤ g * 10 ^ 9) && decide (g * 10 ^ 9 ≤ 2 ^ 64 * (10 ^ 9 + hi))
def below (att : Int) (sq : Int) : Bool := decide (sq * att ≤ 2 ^ 64)

/-! ### The fixed stages (R166) -/

/-- The rate 2^e2 5^e5 of a profile, and the gain of its fixed stages at n / d of 256 kHz: h halfband stages, then q fifth-band
ones. -/
def cascade (hb fb : List Int) (e2 e5 n d : Nat) : Int :=
  let h := 10 - e2
  let a := (List.range h).foldl (fun (a : Int) i => a * symGain hb (2 ^ i * n) d / 2 ^ 64) (2 ^ 64)
  (List.range (3 - e5)).foldl (fun (a : Int) i => a * symGain fb (2 ^ h * 5 ^ i * n) d / 2 ^ 64) a

/-- The cascade of a profile is flat within 1 ppm up to 0.55 of the rate, and with the CIC stage attenuates by 130 dB every band that
would fold there; at 64 points of a band. -/
def cascadeSound (hb fb : List Int) (e2 e5 : Nat) : Bool :=
  let odr := 2 ^ e2 * 5 ^ e5
  let d := 256000 * 1280
  (List.range 65).all (fun k => flatTo 1000 1000 (cascade hb fb e2 e5 (11 * k * odr) d)) &&
    (List.range (64000 / odr)).all (fun m => (List.range 129).all (fun k =>
      let n := 2 * odr * (m + 1) * 1280 + 11 * k * odr - 704 * odr
      let g := cascade hb fb e2 e5 n d * cicGain n (16 * d) / 2 ^ 64
      decide (d < 2 * n) || below (10 ^ 13) (g * g / 2 ^ 64)))

/-- The halfband and fifth-band taps meet R166 at every rate. -/
def fixedSound (hb fb : List Int) : Bool :=
  (List.range 11).all (fun e2 => (List.range 4).all (fun e5 => (decide (e2 = 10) && decide (e5 = 3)) || cascadeSound hb fb e2 e5))

/-! ### The standard designs (R171) -/

/-- What R171 states of a design: passband edge and stopband edge in 1/100 of the rate, ripple down and up in parts per 10^9, the
attenuation as a ratio of powers, the noise bandwidth in 1/1000 of the rate. -/
structure StdSpec where
  pass : Nat
  stop : Nat
  lo : Int
  hi : Int
  att : Int
  nbw : Int
  deriving DecidableEq, Repr

def stdSpec (d : Nat) : StdSpec := match d with
  | 1 => ⟨45, 55, 1000, 1000, 3162277660168, 500⟩
  | 2 => ⟨35, 55, 5000, 5000, 10 ^ 12, 450⟩
  | 3 => ⟨45, 55, 5000, 5000, 10 ^ 12, 500⟩
  | _ => ⟨10, 60, 1149968, 1152619, 10 ^ 10, 360⟩

/-- A point of the grid: k / 1280 of the rate, as a fraction of the FIR's input rate, and the CIC stage's gain there. -/
def stdPower (l : List Int) (odr k : Nat) : Int :=
  let c := cicGain (k * odr) (1280 * 4096000)
  gainSq l k 2560 * (c * c / 2 ^ 64) / 2 ^ 64

/-- The group delay of design 3, in 1/100 of an output period, at hundredths of the rate. -/
def minphDelay : List (Nat × Int) := [(0, 1125), (10, 1142), (20, 1198), (30, 1321), (40, 1635), (45, 2190)]

/-- The taps of a design meet R171 at a rate, with the droop of the CIC stage that they correct: passband, stopband, noise bandwidth
and, of the minimum-phase design, its group delay. The square of a gain has twice the ripple. -/
def designSound (d odr : Nat) (taps : List Int) : Bool :=
  let x := stdSpec d
  (List.range 1281).all (fun k =>
    (decide (1280 * x.pass < 100 * k) || flatTo (2 * x.lo) (2 * x.hi) (stdPower taps odr k)) &&
      (decide (100 * k < 1280 * x.stop) || below x.att (gainSq taps k 2560))) &&
    (let nb := (List.range 1280).foldl (fun (a : Int) k => a + stdPower taps odr k) 0
     decide (|2000 * nb - 2 * x.nbw * 1280 * 2 ^ 64| ≤ 1280 * 2 ^ 64)) &&
    (decide (d ≠ 3) || minphDelay.all (fun p =>
      let g := gainSq taps p.1 200
      decide (2 * |50 * delaySq taps p.1 200 - p.2 * g| ≤ g)))

end Sys2Proof.Machine
end

