-- ==== Sys2Proof/Machine/Decimate.lean ====
section
/-! DEFINITION. Decimation before the profile's FIR (chapters 07 and 08): the CIC stage of a cell and the fixed halfband and
fifth-band stages of a tap. Words carry 30 fraction bits below the 24-bit LSB: 8 of the datapath, 16 that the CIC sum adds
and 6 for the range scaling, so that the CIC stage rounds nothing (R143). The manual gives neither the quantiser's levels nor
the fixed stages' coefficients, which are free (log entry 167). -/

namespace Sys2Proof.Machine

open Sys2Proof

/-- A CIC period in tau/256: 16 modulator cycles, 256 kS/s (R143). -/
def cicTau : Nat := 393216

/-- The sum of products of two lists; a missing history is zero, and a zero input adds nothing (R173). -/
def dot : List Int → List Int → Int
  | c :: cs, x :: xs => (if x = 0 then 0 else c * x) + dot cs xs
  | _, _ => 0

/-! ### The CIC stage (R110, R143) -/

def polyAdd : List Int → List Int → List Int
  | [], l => l
  | l, [] => l
  | a :: as, b :: bs => (a + b) :: polyAdd as bs

/-- The product of two polynomials, by coefficients. -/
def polyMul : List Int → List Int → List Int
  | [], _ => []
  | a :: as, l => polyAdd (l.map (fun b => a * b)) (0 :: polyMul as l)

/-- The 61 weights of the fourth-order CIC filter that decimates by 16. -/
def cicTaps : List Int :=
  let one := List.replicate 16 1
  let two := polyMul one one
  polyMul two two

/-- The sign of the last clipped cycle from one instant up to another (R143). -/
def lastClip (l : List (Nat × Bool)) (a b : Nat) : Option Bool :=
  ((l.filter (fun p => decide (a ≤ p.1) && decide (p.1 < b))).getLast?).map (·.2)

/-- One modulator output of channel g, of modulator cycle k, is scaled by the range in effect and enters the CIC stage; every
sixteenth since the modulator start completes a word, which joins the list, newest first. -/
def cicStep (s : State) (g k code : Nat) (r : Chan × List StoreIn) : Chan × List StoreIn :=
  let x := r.1
  let t := mcTau * k
  if t < x.mod0 then r
  else
    let h := (Config.quantLevel code * 2 ^ (6 - shiftAt x.shifts t) :: x.cic).take 61
    let y := { x with cic := h }
    if (k + 1 - x.mod0 / mcTau) % 16 = 0 then
      let e := t + mcTau
      ({ y with clips := x.clips.filter (fun c => decide (e ≤ c.1)) },
        ⟨g, e, netTime s e, dot cicTaps h, lastClip x.clips (e - cicTau) e⟩ :: r.2)
    else (y, r.2)

/-- The entries of a range-scaling list that instants from `t` on can still meet. -/
def shiftsKeep (l : List (Nat × Nat)) (t : Nat) : List (Nat × Nat) :=
  l.filter (fun e => decide (t < e.1)) ++ (l.find? (fun e => decide (e.1 ≤ t))).toList

/-- A frame's modulator outputs of one channel: the CIC words they complete, oldest first. -/
def cicChan (x : ChanIn) (s : State) : List StoreIn × State :=
  if chActive s x.g then
    let r := (x.codes.zipIdx).foldl (fun a p => cicStep s x.g (x.k + p.2) p.1 a) (chan s x.g, [])
    let e := mcTau * (x.k + x.codes.length)
    (r.2.reverse, modChan x.g (fun _ => { r.1 with shifts := shiftsKeep r.1.shifts e, cic := r.1.cic.take 60 }) s)
  else ([], s)

/-! ### The fixed stages (R165, R166) -/

/-- Free taps of the halfband (39) and of the fifth-band filter (49), LSB 2^-31: symmetric, with a DC gain of 1. -/
def fixFree (fifth : Bool) : List Int :=
  let l := (List.range (if fifth then 24 else 19)).map (Config.fixedTap fifth)
  l ++ [2 ^ 31 - 2 * l.foldl (· + ·) 0] ++ l.reverse

/-- The taps of a fixed stage: the free ones where the cascade they form has the response that R166 states, else the plainest of the
same length (DESIGN CHOICE, log entry 212). -/
def fixTaps (fifth : Bool) : List Int :=
  if fixedSound (fixFree false) (fixFree true) then fixFree fifth
  else (List.range (if fifth then 49 else 39)).map (fun i => if i = (if fifth then 24 else 19) then 2 ^ 31 else 0)

/-- An input of a stage: its output with every second or fifth input, rounded to the datapath's LSB. -/
def fixStep (fifth : Bool) (v : Int) (x : FixStage) : Option Int × FixStage :=
  let h := (v :: x.hist).take (if fifth then 49 else 39)
  if x.ph + 1 = (if fifth then 5 else 2) then (some (roundDiv (dot (fixTaps fifth) h) (2 ^ 31)), { hist := h, ph := 0 })
  else (none, { hist := h, ph := x.ph + 1 })

/-- A word passes the stages in order, from place i on: what reaches the FIR, and the stages after it. -/
def fixChain : List Bool → Nat → Int → Tbl FixStage → Option Int × Tbl FixStage
  | [], _, v, t => (some v, t)
  | k :: ks, i, v, t =>
    let r := fixStep k v (tget {} t i)
    match r.1 with
    | none => (none, tset {} t i r.2)
    | some y => fixChain ks (i + 1) y (tset {} t i r.2)

/-! ### The DC blocker's constant (R182) -/

/-- alpha = 1 - exp(-2 pi fc / odr) in 2^-32, fc in mHz, rounded to nearest (R182; DESIGN CHOICE of the rounding, log entry
168). -/
def dcbAlpha (fc odr : Nat) : Nat :=
  let y := 2 * 314159265358979323846 * fc * 2 ^ 128 / (100000000000000000000 * 1000 * odr * 256)
  (2 ^ 64 - 2 ^ 192 / exp256 y + 2 ^ 31) / 2 ^ 32

end Sys2Proof.Machine
end

