-- ==== Sys2Proof/Machine/Filter.lean ====
section
/-! DEFINITION. Filter profiles, coefficient banks, the FIR, the DC blocker and the resampler (chapters 08 and 09). -/

namespace Sys2Proof.Machine

open Sys2Proof

/-! ### Rates and delays (R165 to R169); durations in tau/256 of the local oscillator -/

def profCfgA (ss p : Nat) : Nat := fltReg ss (0x40 + 0x10 * p)
def profDcbA (ss p : Nat) : Nat := fltReg ss (0x44 + 0x10 * p)

/-- Output rate 2^E2 * 5^E5 in S/s of an FLT_Pp_CFG word (R166). -/
def odrOf (w : Word) : Nat := 2 ^ fld w 0 4 * 5 ^ fld w 4 2

/-- The fixed stages of an FLT_Pp_CFG word in order: h halfband, q fifth-band (R165, R166). -/
def fixKinds (w : Word) : List Bool := List.replicate (10 - fld w 0 4) false ++ List.replicate (3 - fld w 4 2) true

/-- FIR input period of an FLT_Pp_CFG word: 2^h * 5^q CIC periods. -/
def firPer (w : Word) : Nat := cicTau * 2 ^ (10 - fld w 0 4) * 5 ^ (3 - fld w 4 2)

/-- Delay and span of the fixed stages (R167, R169). -/
def fixedDelay (w : Word) : Nat :=
  32 * mcTau + (19 * (2 ^ (10 - fld w 0 4) - 1) + 6 * 2 ^ (10 - fld w 0 4) * (5 ^ (3 - fld w 4 2) - 1)) * cicTau
def fixedSpan (w : Word) : Nat :=
  61 * mcTau + (38 * (2 ^ (10 - fld w 0 4) - 1) + 12 * 2 ^ (10 - fld w 0 4) * (5 ^ (3 - fld w 4 2) - 1)) * cicTau

/-- Taps of a bank (R176). -/
def bankLen (b : CBank) : Nat := 16 * b.len16
def bankTaps (b : CBank) : Nat := if b.phase then bankLen b else 2 * bankLen b - 1

/-- d_total and the filter window W_b, W_a (R167, R169). -/
def dTotal (w : Word) (b : CBank) : Nat := fixedDelay w + firPer w * b.delay / 65536
def winA (w : Word) (b : CBank) : Nat := dTotal w b + 5 * firPer w
def winB (w : Word) (b : CBank) : Nat := fixedSpan w + (bankTaps b - 1) * firPer w + 5 * firPer w - dTotal w b

/-! ### The channel's selections -/

/-- Profile a channel selects, its FLT_Pp_CFG and its active bank. -/
def chProf (s : State) (g : Nat) : Nat := af s (chFiltA g) 0 2
def chProfW (s : State) (g : Nat) : Word := rg s (profCfgA (g / 32) (chProf s g))
def bankIx (ss p : Nat) (b : Bool) : Nat := (4 * ss + p) * 2 + (if b then 1 else 0)
def cbank (s : State) (i : Nat) : CBank := tget {} s.cbanks i
def chBankIx (s : State) (g : Nat) : Nat := bankIx (g / 32) (chProf s g) (bit (chProfW s g) 8)
def chBank (s : State) (g : Nat) : CBank := cbank s (chBankIx s g)
def chOdr (s : State) (g : Nat) : Nat := odrOf (chProfW s g)
def prof (s : State) (i : Nat) : Prof := tget {} s.profs i
def modProf (i : Nat) (f : Prof → Prof) (s : State) : State := { s with profs := tmod {} s.profs i f }

/-- FLT_Pp_USE: channels that actively select a profile (R187). -/
def profUse (s : State) (ss p : Nat) : Nat :=
  sheafMap ss (fun g => bit (rg s (chCfgA g)) 0 && decide (chProf s g = p))

/-- A coefficient of a bank, signed, LSB 2^-31 (R176). -/
def coef (s : State) (ix n : Nat) : Int := (tget (0 : Word) s.coef (256 * ix + n)).toInt

/-- A coefficient as the FIR reads it: a word with an uncorrectable error enters as it read (R181). -/
def coefRead (s : State) (ix n : Nat) : Int :=
  match s.dsp.coefBad.find? (fun p => decide (p.1 = 256 * ix + n)) with
  | some p => p.2.toInt
  | none => coef s ix n

/-- The FIR's taps in order of delay (R176): symmetric about c[255], or c[0] onward. -/
def firTaps (s : State) (ix : Nat) : List Int :=
  let b := cbank s ix
  let n := bankLen b
  if b.phase then (List.range n).map (fun i => coefRead s ix i)
  else (List.range (2 * n - 1)).map (fun i => coefRead s ix (if i < n then 256 - n + i else 254 + n - i))

/-- A grid of multiples of 1/odr: instant of index k, and the first index at or after an instant (2^-64 s). -/
def gridTime (odr k : Nat) : Int := ((k : Int) * 2 ^ 64) / (odr : Int)
def gridFirst (odr : Nat) (t : Int) : Nat := (-((-(t * (odr : Int))) / 2 ^ 64)).toNat
/-- Between two grids, exactly: the first index at or after index k of another rate, the first index after the one before k,
and the same after a step of the timebase by d. -/
def gridCeil (old new k : Nat) : Nat := ceilDiv (k * new) old
def gridOn (old new k : Nat) : Nat := if k = 0 then 0 else (k - 1) * new / old + 1
def gridStep (odr k : Nat) (d : Int) : Nat := ((((k : Int) - 1) * 2 ^ 64 + d * (odr : Int)) / 2 ^ 64 + 1).toNat

/-- Rate code of a channel, E2 + 16 E5, and the rate it stands for. -/
def rateCode (w : Word) : Nat := fld w 0 4 + 16 * fld w 4 2
def rcOdr (rc : Nat) : Nat := 2 ^ (rc % 16) * 5 ^ (rc / 16)

/-! ### Settling (R173 to R175, R454) -/

/-- The gain with which a channel enters SETTLING: 1 under autorange (R107), a switch with RMOV on a running channel (R110). -/
def settleGain (g t : Nat) (s : State) : State :=
  let code := if af s (chCfgA g) 8 2 ≠ 0 then 0 else af s (chCfgA g) 4 3
  if chActive s g then switchRange g code t s else shiftFrom g code t (modChan g (fun x => { x with gain := code, arCount := 0 }) s)

/-- A channel enters SETTLING at `t`: a fresh start zeroes the stage histories and starts a new grid; `keep` keeps them
(R454). Autorange starts in gain 1 (R107). -/
def settle (g t : Nat) (keep : Bool) (s : State) : State :=
  let s := settleGain g t s
  let s := modChan g (fun x => { x with st := .settling, cause := 0, settle := some t, inUse := false }) s
  let k := gridFirst (chOdr s g) (netTime s t)
  modTap g (fun x => if keep then { x with seeded := false, cjc := [], cjcHeld := false }
    else { x with fixed := [], hist := [], half := false, outs := [], seeded := false, nextK := some k, cjc := [], cjcHeld := false }) s

/-- A filter-selection change of a running channel (R174): zeroed histories, and the grid continues on the new rate
after its last output, or with the first instant from the modulator start where it has given none (R173). -/
def reselect (g t oldOdr : Nat) (s : State) : State :=
  let old := (tap s g).nextK
  let s := modChan g (fun x => { x with st := .settling, settle := some t }) (settleGain g t s)
  let nk := old.map (fun k => max (gridOn oldOdr (chOdr s g) k) (gridFirst (chOdr s g) (netTime s (chan s g).mod0)))
  modTap g (fun x => { x with fixed := [], hist := [], half := false, outs := [], seeded := false, nextK := nk, cjc := [], cjcHeld := false }) s

/-! ### FIR and DC blocker -/

/-- Round to the nearest multiple of 2^n, ties to even, and divide by 2^n (R182). -/
def rne (v : Int) (n : Nat) : Int :=
  let q := v / 2 ^ n
  let r := v % 2 ^ n
  if r * 2 < 2 ^ n then q else if r * 2 = 2 ^ n then (if q % 2 = 0 then q else q + 1) else q + 1

/-- The channel's filter window about an instant meets a mark. -/
def markMeets (m : Mark) (a b : Nat) : Bool :=
  decide (m.t0 ≤ b) && (match m.t1 with
    | some e => decide (a ≤ e)
    | none => true)

/-- An instant lies in a clipped span of the channel's window (R149, R182). -/
def clipped (s : State) (g u : Nat) : Bool :=
  let w := chProfW s g
  let b := chBank s g
  (chan s g).marks.any (fun m => (decide (m.k = .ovrPos) || decide (m.k = .ovrNeg)) && markMeets m (u - winB w b) (u + winA w b))

/-- A clipped window clamps by the sign of its last clipped cycle (R149): some true for positive. -/
def clipSign (s : State) (g u : Nat) : Option Bool :=
  let w := chProfW s g
  let b := chBank s g
  let ms := (chan s g).marks.filter (fun m => (decide (m.k = .ovrPos) || decide (m.k = .ovrNeg)) && markMeets m (u - winB w b) (u + winA w b))
  ms.foldl (fun a m => match a with
    | none => some m
    | some x => if x.t0 ≤ m.t0 then some m else some x) (none : Option Mark) |>.map (fun m => decide (m.k = .ovrPos))

/-- Blocker frozen for an output of network instant `un`: manually, or by a trigger freeze from its instant on (R184). -/
def dcbFrozen (s : State) (g : Nat) (un : Int) : Bool :=
  bit (rg s (fltReg (g / 32) 0xC0)) (g % 32) || (tap s g).frz.any (fun p => decide (p.2 ≤ un))

/-- SETL of the FIR output under R173 or R454: its window begins before t_s. -/
def firSettling (s : State) (g u : Nat) : Bool := match (chan s g).settle with
  | some t => decide (u < t + winB (chProfW s g) (chBank s g))
  | none => false

/-- Outputs that carry SETL after a seed: ceil(TC * ODR / (2 pi fc)), fc in mHz (R183). -/
def seedSettle (dcb : Word) (odr : Nat) : Nat :=
  ceilDiv (fld dcb 16 3 * odr * 1000 * 100000000000000000000) (2 * 314159265358979323846 * fld dcb 0 14)

/-- The blocker's 48-bit state: the manual states no result outside its range, so that value is free (DESIGN CHOICE, log entry
169). -/
def dcbFit (v : Int) (s : State) : Int × State :=
  if -(2 ^ 47) ≤ v ∧ v < 2 ^ 47 then (v, s)
  else
    let i := s.freeIdx
    (Int.bmod ((Config.freeWord i).toNat + 2 ^ 32 * (Config.freeWord (i + 1)).toNat : Nat) (2 ^ 48), { s with freeIdx := i + 2 })

/-- One FIR output, of local instant `u` and network instant `un`, passes the DC blocker (R182, R183): the value to the resampler. -/
def dcBlock (g u : Nat) (un x : Int) (s : State) : Int × State :=
  if bit (rg s (chFiltA g)) 2 = false then (x, s)
  else
    let d := rg s (profDcbA (g / 32) (chProf s g))
    if (tap s g).seeded = false then
      if firSettling s g u then (x, s)
      else
        let n := seedSettle d (chOdr s g)
        let m := dcbFit (x * 2 ^ 16) s
        (0, modTap g (fun t => { t with m := m.1, seeded := true, setlTo := u + n * 2 * firPer (chProfW s g) }) m.2)
    else
      let y := x - rne (tap s g).m 16
      if dcbFrozen s g un || clipped s g u then (y, s)
      else
        let m := dcbFit ((tap s g).m + rne ((dcbAlpha (fld d 0 14) (chOdr s g) : Int) * y) 16) s
        (y, modTap g (fun t => { t with m := m.1 }) m.2)

/-- The bank that computes a FIR output of DC-corrected instant `un`: the active one, swapped back by every swap that the output
still precedes (R179). -/
def firBank (s : State) (g : Nat) (un : Int) : Nat :=
  let w := chProfW s g
  let before := (prof s (4 * (g / 32) + chProf s g)).drains.filter (fun tf => decide (un < tf - 5 * 2 ^ 63 / (chOdr s g : Int)))
  bankIx (g / 32) (chProf s g) (if before.length % 2 = 1 then !bit w 8 else bit w 8)

/-- A FIR input, from CIC word x, arrives at the tap; every second one yields an output of 24 bits with 8 fraction bits (R165,
R176, R179). -/
def firIn (x : StoreIn) (v : Int) (s : State) : State :=
  let g := x.g
  let hist := (v :: (tap s g).hist).take 511
  if (tap s g).half = false then modTap g (fun t => { t with hist := hist, half := true }) s
  else
    let w := chProfW s g
    let d := dTotal w (chBank s g)
    let u := x.t - d
    let un := x.tn - ((d : Int) * (2 ^ 48 + s.tmb.rho) * 2 ^ 8) / 393216000
    let acc := dot (firTaps s (firBank s g un)) hist
    let r := dcBlock g u un (roundDiv acc (2 ^ 53)) (modTap g (fun t => { t with hist := hist, half := false }) s)
    modTap g (fun t => { t with outs := (⟨u, un, r.1⟩ :: t.outs).take 512 }) r.2

/-- A CIC word passes the fixed stages of its tap, then the FIR (R165). -/
def firStep (x : StoreIn) (s : State) : State :=
  let r := fixChain (fixKinds (chProfW s x.g)) 0 x.v (tap s x.g).fixed
  let s := modTap x.g (fun t => { t with fixed := r.2 }) s
  match r.1 with
  | none => s
  | some v => firIn x v s

/-! ### The resampler (R217) -/

/-- Fourth-order Lagrange interpolation through five equally spaced values at m/2^24 from the middle one, rounded to
the datapath's 2^-8 LSB. -/
def lagrange5 (a b c d e : Int) (m : Int) : Int :=
  let o : Int := 2 ^ 24
  let p2 := m + 2 * o
  let p1 := m + o
  let n1 := m - o
  let n2 := m - 2 * o
  let v := a * (p1 * m * n1 * n2) - 4 * b * (p2 * m * n1 * n2) + 6 * c * (p2 * p1 * n1 * n2)
    - 4 * d * (p2 * p1 * m * n2) + e * (p2 * p1 * m * n1)
  roundDiv v (24 * 2 ^ 96)

/-- The index of the output nearest to an instant, in a list newest first. -/
def nearest (l : List FirOut) (t : Int) : Nat :=
  (l.zipIdx.foldl (fun (a : Nat × Int) p =>
    let d := |p.1.un - t|
    if d < a.2 then (p.2, d) else a) (0, 2 ^ 200)).1

/-- The FIR outputs with five more of value zero before the oldest, `p` apart (tau/256): a history starts at zero (R173). -/
def zeroPad (l : List FirOut) (p : Nat) : List FirOut := match l.getLast? with
  | some e => l ++ (List.range 5).map (fun i =>
      (⟨e.u - (i + 1) * p, e.un - ((i + 1) * p * 2 ^ 56 / 393216000 : Nat), 0⟩ : FirOut))
  | none => []

/-- The resampled value at a grid instant, and the local instant it stands for; none while the five outputs around it
have not all been computed. `p` is the FIR output period in tau/256. -/
def resample (l : List FirOut) (p : Nat) (t : Int) : Option (Int × Nat) :=
  let l := zeroPad l p
  let j := nearest l t
  match l[j - 2]?, l[j - 1]?, l[j]?, l[j + 1]?, l[j + 2]? with
  | some n2, some n1, some z, some p1, some p2 =>
    if j < 2 then none
    else
      let m := if n1.un = z.un then 0 else (t - z.un) * 2 ^ 24 / (n1.un - z.un)
      let u := (z.u : Int) + m * ((n1.u : Int) - z.u) / 2 ^ 24
      some (lagrange5 p2.y p1.y z.y n1.y n2.y m, u.toNat)
  | some _, some _, some z, _, _ => if j < 2 then none else some (0, (z.u - ((z.un - t) * 393216000 / 2 ^ 56).toNat))
  | _, _, _, _, _ => none

/-! ### Coefficient banks (R177, R178) -/

/-- CRC-32 of IEEE 802.3, bit by bit: register, then a byte list. -/
def crcByte (c : Nat) (b : Byte) : Nat :=
  (List.range 8).foldl (fun a _ => if a % 2 = 1 then (a / 2) ^^^ 0xEDB88320 else a / 2) (c ^^^ b.toNat)
def crc32 (l : List Byte) : Nat := (l.foldl crcByte 0xFFFFFFFF) ^^^ 0xFFFFFFFF

/-- The 1028 bytes a bank's CRC covers (R177). -/
def bankBytes (s : State) (ix : Nat) (desc : Word) : List Byte :=
  (List.range 256).flatMap (fun n => leBytes 4 (tget (0 : Word) s.coef (256 * ix + n)).toNat) ++ leBytes 4 desc.toNat

/-- The bank FLT_CADDR names. -/
def caddrIx (s : State) (ss : Nat) : Nat :=
  let a := rg s (fltReg ss 0x100)
  bankIx ss (fld a 9 2) (bit a 8)

/-- Why a write of FLT_CDATA or FLT_CSEAL is refused (R178). -/
def bankRefusal (s : State) (ss p : Nat) (b : Bool) : Option Nat :=
  let act := decide (bit (rg s (profCfgA ss p)) 8 = b)
  if act && decide (profUse s ss p ≠ 0) then some stNotPermitted
  else if !act && !(prof s (4 * ss + p)).drains.isEmpty then some stNotPermitted
  else if (s.cmt.st = .checking ∨ s.cmt.st = .armed) ∧ bit (stg s (profCfgA ss p)) 8 = b then some stBusy
  else none

/-- Advance FLT_CADDR.INDEX with AINC (R177, R187). -/
def caddrNext (ss : Nat) (s : State) : State :=
  let a := rg s (fltReg ss 0x100)
  if bit a 16 then setRg (fltReg ss 0x100) (setFld a 0 8 (fld a 0 8 + 1)) s else s

/-- Store a coefficient; the bank is no longer LOADED (R177). -/
def putCoef (ix n : Nat) (w : Word) (s : State) : State :=
  { s with coef := tset 0 s.coef (256 * ix + n) w, cbanks := tmod {} s.cbanks ix (fun b => { b with loaded := false }) }

/-- A write of FLT_CDATA (R177, R178). -/
def cdataWrite (ss : Nat) (w : Word) (s : State) : State :=
  let a := rg s (fltReg ss 0x100)
  match bankRefusal s ss (fld a 9 2) (bit a 8) with
  | some st => pgError .flt ss st s
  | none => caddrNext ss (putCoef (caddrIx s ss) (fld a 0 8) w s)

/-- A read of FLT_CDATA (R177). -/
def cdataRead (ss : Nat) (s : State) : Word × State :=
  (tget (0 : Word) s.coef (256 * caddrIx s ss + af s (fltReg ss 0x100) 0 8), caddrNext ss s)

/-- A write of FLT_CSEAL starts sealing the bank at FLT_CADDR with the descriptor FLT_CDESC holds (R177, R178). -/
def csealWrite (ss : Nat) (w : Word) (s : State) : State :=
  let a := rg s (fltReg ss 0x100)
  match bankRefusal s ss (fld a 9 2) (bit a 8) with
  | some st => pgError .flt ss st s
  | none => { s with sealing := tset [] s.sealing ss (tget [] s.sealing ss ++ [(caddrIx s ss, (w.toNat, rg s (fltReg ss 0x108)))]) }

/-- Sum and first moment of a minimum-phase bank's taps (R167). -/
def tapSums (s : State) (ix len : Nat) : Int × Int :=
  (List.range len).foldl (fun (a : Int × Int) n => (a.1 + coef s ix n, a.2 + (n : Int) * coef s ix n)) (0, 0)

/-- DC delay of a bank in 2^-16 FIR input samples, none where test 3 of R177 fails. -/
def bankDelay (s : State) (ix len : Nat) (phase : Bool) : Option Nat :=
  if phase = false then some ((len - 1) * 65536)
  else
    let m := tapSums s ix len
    if m.1 = 0 then none
    else
      let num := if m.1 < 0 then -m.2 else m.2
      let den := if m.1 < 0 then -m.1 else m.1
      if num < 0 ∨ ((len : Int) - 1) * den < num then none else some (num * 65536 / den).toNat

/-- The three tests of R177 on a bank to be sealed: the status of the failing one, or the sealed bank. -/
def sealBank (s : State) (ix crc : Nat) (desc : Word) (std : Nat) : Nat × CBank :=
  let l := fld desc 4 5
  if l = 0 ∨ 16 < l then (stBadParam, {})
  else if crc32 (bankBytes s ix desc) ≠ crc then (stChecksum, {})
  else match bankDelay s ix (16 * l) (bit desc 0) with
    | none => (stBadParam, {})
    | some d => (stOk, { loaded := true, std := std, len16 := l, phase := bit desc 0, crc := crc, delay := d })

/-- Sealing of a bank ends (R177). A failing seal of a bank that is LOADED, which nothing has written since its last, leaves it as it is
(DESIGN CHOICE, log entry 215). -/
def sealResult (ss ix crc : Nat) (desc : Word) (s : State) : State :=
  let r := sealBank s ix crc desc 0
  if r.1 = stOk then bump (fltReg ss 0x24) 1 (raise .flt ss 1 { s with cbanks := tset {} s.cbanks ix r.2 })
  else raise .flt ss 2 (pgError .flt ss r.1 s)

def execFltCdataWrite (_ : Path) (ss : Nat) (w : Word) (s : State) : Host.Outcome State Fault Refusal :=
  .next (if ss < 16 then direct .flt ss (cdataWrite ss w) s else s)

def execFltCdataRead (_ : Path) (ss : Nat) (s : State) : Host.Outcome State Fault Refusal :=
  if running s && decide (ss < 16) then
    let r := cdataRead ss s
    .next { r.2 with rd := [r.1] }
  else .next s

def execFltCsealWrite (_ : Path) (ss : Nat) (w : Word) (s : State) : Host.Outcome State Fault Refusal :=
  .next (if ss < 16 then direct .flt ss (csealWrite ss w) s else s)

def execBankSealResult (ss : Nat) (s : State) : Host.Outcome State Fault Refusal :=
  match tget [] s.sealing ss with
  | (ix, crc, desc) :: l => .next (sealResult ss ix crc desc { s with sealing := tset [] s.sealing ss l })
  | [] => .next s

/-- Two banks are equivalent (R180). -/
def banksEquiv (a b : CBank) : Bool :=
  decide (a.phase = b.phase) && decide (a.len16 = b.len16) && decide (a.delay ≤ b.delay + 1) && decide (b.delay ≤ a.delay + 1)

/-- A pass that has computed the last FIR output of an old bank clears DRAIN (R179): `tn` is the network time up to which
its inputs have arrived. -/
def drainEnd (tn : Int) (s : State) : State :=
  forN 64 (fun i a =>
    if (prof a i).drains.isEmpty then a
    else
      let w := rg a (profCfgA (i / 4) (i % 4))
      let d := dTotal w (cbank a (bankIx (i / 4) (i % 4) (bit w 8)))
      modProf i (fun p => { p with drains := p.drains.filter (fun tf =>
        decide (tn < tf - 5 * 2 ^ 63 / (odrOf w : Int) + ((d : Int) * 2 ^ 56) / 393216000)) }) a) s

/-! ### A step of the timebase (R220) -/

/-- The resampler at a step of `d`: instants on the old scale move with it, and the next output is the first grid
instant of the new scale after the last one moved (R220). -/
def stepTap (d : Int) (g : Nat) (s : State) : State :=
  let x := tap s g
  if x.nextK.isNone ∧ x.owe.isNone then s
  else
    let odr := chOdr s g
    let nk := x.nextK.map (fun k => if x.owe.isSome then gridStep odr k d else gridFirst odr (gridTime odr k + d))
    let mv (e : Nat × Nat) : Nat × Nat := (gridStep (rcOdr e.2) e.1 d, e.2)
    modTap g (fun y => { y with
      outs := y.outs.map (fun f => { f with un := f.un + d }), gave := y.gave.map mv, nextK := nk, owe := y.owe.map mv }) s

/-- Stored words and draining banks move with the scale. -/
def stepScale (d : Int) (s : State) : State :=
  let s := { s with dsp := { s.dsp with store := s.dsp.store.map (fun e => (e.1, e.2.map (fun w => { w with tn := w.tn + d }))) } }
  let s := forN 64 (fun i a => if (prof a i).drains.isEmpty then a else modProf i (fun p => { p with drains := p.drains.map (· + d) }) a) s
  forN 512 (stepTap d) s

end Sys2Proof.Machine
end

