-- ==== Sys2Proof/Machine/Flags.lean ====
section
/-! DEFINITION. The sample word and every flag computation (R7 to R9, R102, R110, R116, R132, R149, R173, R194). -/

namespace Sys2Proof.Machine

open Sys2Proof

/-- Flag bits of a sample word (R7). -/
def fOvr : Nat := 0x80
def fSetl : Nat := 0x40
def fRmov : Nat := 0x20
def fLead : Nat := 0x10
def fExce : Nat := 0x08
def fTunl : Nat := 0x04
def fCal : Nat := 0x02
def fStby : Nat := 0x01

/-- The word of a 24-bit value and its flags (R7). -/
def sampleWord (v : Int) (f : Nat) : Word := iword (v * 256) ||| word (f % 256)

/-- Value bits of a word, signed; its flags. -/
def wordValue (w : Word) : Int := sfld w 8 24
def wordFlags (w : Word) : Nat := fld w 0 8

def vMax : Int := 0x7FFFFF
def vMin : Int := -0x800000

/-- Round a datapath value (2^-8 LSB) to 24 bits (R149, R223). -/
def round24 (x : Int) : Int := roundDiv x 256

/-- The clamp of R149: value and whether OVR is set. `sign` is the sign of the last clipped cycle in the window. -/
def clampSample (v : Int) (sign : Option Bool) : Int × Bool := match sign with
  | some true => (vMax, true)
  | some false => (vMin, true)
  | none => if vMax < v then (vMax, true) else if v < vMin then (vMin, true) else (v, false)

/-- Some mark of a kind meets the window. -/
def markIn (ms : List Mark) (p : MarkK → Bool) (a b : Nat) : Bool := ms.any (fun m => p m.k && markMeets m a b)

def isExce : MarkK → Bool
  | .exce _ => true
  | _ => false

/-- Flags an output carries when it is produced (R102, R110, R173, R183, R194, R350): window `a` to `b`, instant `u`. -/
def prodFlags (s : State) (g u : Nat) : Nat :=
  let w := chProfW s g
  let k := chBank s g
  let a := u - winB w k
  let b := u + winA w k
  let ms := (chan s g).marks
  let setl := (match (chan s g).settle with
    | some t => decide (a < t)
    | none => false) || (bit (rg s (chFiltA g)) 2 && decide (u ≤ (tap s g).setlTo))
  (if markIn ms (fun k => decide (k = .cal) || decide (k = .shorts)) a b then fCal else 0) ||| (if markIn ms (fun k => decide (k = .rmov)) a b then fRmov else 0) |||
    (if setl then fSetl else 0) ||| (if tunlNow s then fTunl else 0) |||
    (if s.hub.straps.twinEn ∧ s.twn.token = false then fStby else 0)

/-- Flags that verdicts known by the cutoff set in a word of frame `j` under verdict hold `h` (R19, R116, R132, R194):
each verdict reaches frames m-h to m and later ones. -/
def lateFlags (s : State) (g j h a b : Nat) : Nat :=
  let ms := (chan s g).marks.filter (fun m => decide (m.known ≤ j + h))
  (if markIn ms (fun k => decide (k = .lead)) a b then fLead else 0) ||| (if markIn ms isExce a b then fExce else 0) |||
    (if s.tmb.tunlAt.any (fun m => decide (j ≤ m) && decide (m ≤ j + h)) then fTunl else 0)

/-- The flags of a channel's latest output as they stand now: as produced, with the verdicts known since, up to the cutoff of its
words (R19, R228). -/
def lastFlags (s : State) (g : Nat) (e : LastOut) : Nat := e.f ||| lateFlags s g e.o (min (s.ord - e.o) e.h) e.a e.b

end Sys2Proof.Machine
end

