-- ==== Sys2Proof/Machine/Code8b10b.lean ====
section
/-! DEFINITION. The 8b/10b code of the lanes (R305): the sub-block tables of IEEE 802.3 clause 36, the code of a character
under a running disparity, and decoding. A symbol is a number of ten bits, bit 0 the one sent first (a), bit 9 the last (j). A running
disparity is `true` when positive. -/

namespace Sys2Proof.Machine

open Sys2Proof

/-- Sub-blocks abcdei of D.0 to D.31 at negative disparity, bit 0 is a (PRESUMED, log entry 222). -/
def code6Lo : List Nat := [0b111001, 0b101110, 0b101101, 0b100011, 0b101011, 0b100101, 0b100110, 0b000111,
  0b100111, 0b101001, 0b101010, 0b001011, 0b101100, 0b001101, 0b001110, 0b111010]
def code6Hi : List Nat := [0b110110, 0b110001, 0b110010, 0b010011, 0b110100, 0b010101, 0b010110, 0b010111,
  0b110011, 0b011001, 0b011010, 0b011011, 0b011100, 0b011101, 0b011110, 0b110101]

/-- Sub-blocks fghj of x.0 to x.7 at negative disparity, bit 0 is f. -/
def code4 : List Nat := [0b1101, 0b1001, 0b1010, 0b0011, 0b1011, 0b0101, 0b0110, 0b0111]

/-- Ones of a sub-block of n bits. -/
def ones (n v : Nat) : Nat := (List.range n).foldl (fun a i => a + (if v.testBit i then 1 else 0)) 0

/-- A sub-block at a disparity: inverted at positive disparity where it is unbalanced, or is one of the two balanced ones that
have an inverse; and the disparity after it. -/
def subBlock (n v : Nat) (inv rd : Bool) : Nat × Bool :=
  let odd := decide (2 * ones n v ≠ n)
  (if rd && (odd || inv) then 2 ^ n - 1 - v else v, if odd then !rd else rd)

/-- The code of data character b at a disparity, and the disparity after it: x.A7 stands for x.7 where five equal bits would
otherwise follow one another. -/
def encD (rd : Bool) (b : Nat) : Nat × Bool :=
  let x := b % 32
  let y := b / 32 % 8
  let six := subBlock 6 ((code6Lo ++ code6Hi).getD x 0) (decide (x = 7)) rd
  let a7 := decide (y = 7) && (if six.2 then decide (x = 11) || decide (x = 13) || decide (x = 14)
    else decide (x = 17) || decide (x = 18) || decide (x = 20))
  let four := subBlock 4 (if a7 then 0b1110 else code4.getD y 0) (decide (y = 3)) six.2
  (six.1 + 64 * four.1, four.2)

/-- K28.5 at a disparity, which it changes. -/
def encComma (rd : Bool) : Nat × Bool := (if rd then 0b1010000011 else 0b0101111100, !rd)

/-- The data character of a symbol at a disparity, and the disparity after it: none for a code violation or a disparity error. -/
def decD (rd : Bool) (sym : Nat) : Option (Nat × Bool) :=
  (List.range 256).findSome? (fun b => if (encD rd b).1 = sym then some (b, (encD rd b).2) else none)

/-- Data characters of consecutive symbols. -/
def decDs : Bool → List Nat → Option (List Nat)
  | _, [] => some []
  | rd, x :: l => match decD rd x with
    | some (b, rd) => (decDs rd l).map (fun r => b :: r)
    | none => none

/-- Symbols of consecutive data characters. -/
def encDs : Bool → List Nat → List Nat
  | _, [] => []
  | rd, b :: l => (encD rd b).1 :: encDs (encD rd b).2 l

/-- The four symbols of an ordered set whose characters 1 to 3 are given. -/
def encSet (rd : Bool) (l : List Nat) : List Nat := (encComma rd).1 :: encDs (encComma rd).2 l

/-- Characters 1 to 3 of a received ordered set: none where character 0 is no K28.5, or a character has a code violation or a
disparity error (R305). -/
def decSet (rd : Bool) (syms : List Nat) : Option (List Nat) := match syms with
  | k :: l => if k = (encComma rd).1 ∧ l.length = 3 then decDs (encComma rd).2 l else none
  | [] => none

end Sys2Proof.Machine
end

