-- ==== Sys2Proof/Machine/Excitation.lean ====
section
/-! DEFINITION. Excitation outputs: driver modes, monitors, excitation events, current sources (chapter 06). -/

namespace Sys2Proof.Machine

open Sys2Proof

/-- 20 us and 2 ms in tau/256, rounded up. -/
def twentyUs : Nat := 2013266
def twoMs : Nat := 201326592

/-- Registers of output o = 4*ss + k (R139). -/
def excCfgA (o : Nat) : Nat := shfReg (o / 4) (0x100 + 0x10 * (o % 4))
def excLoadA (o : Nat) : Nat := shfReg (o / 4) (0x104 + 0x10 * (o % 4))
def excEvtA (o : Nat) : Nat := shfReg (o / 4) 0x144

/-- Set a bit of SHF_EXC_EVT and raise its cause: group 0 MODECHG, 1 ILIM, 2 HEADROOM, 3 COLLAPSE, 4 HOLD, 5 SETMIS (R139). -/
def excEvent (o grp : Nat) (s : State) : State :=
  raise .shf (o / 4) (8 + grp) (setRg (excEvtA o) (rg s (excEvtA o) ||| word (2 ^ (4 * grp + o % 4))) s)

/-- Local channels of the sheaf that depend on output k (EXCDEP, R113). -/
def excDeps (s : State) (o : Nat) : List Nat :=
  ((List.range 32).map (· + 32 * (o / 4))).filter (fun g => bit (rg s (chLeadA g)) (8 + o % 4))

/-- An excitation event's span on the dependent channels, with the 10 us lead of R132; `cond` tells the events of one
output apart. -/
def exceMark (o cond t0 : Nat) (t1 : Option Nat) (s : State) : State :=
  (excDeps s o).foldl (fun a g => mark g (.exce (8 * (o % 4) + cond)) (t0 - tenUs) t1 a) s

/-- End an open excitation event. -/
def exceEnd (o cond t : Nat) (s : State) : State :=
  (excDeps s o).foldl (fun a g => endMarks g (.exce (8 * (o % 4) + cond)) t a) s

/-- The hub regulates under AUTO: SOLO operation, or the token is held (R127). -/
def regulates (s : State) : Bool := decide (s.hub.straps.twinEn = false) || s.twn.token

/-- The mode a request asks for in the present role (R127). -/
def excWant (s : State) (req : Nat) : ExcMode :=
  if req = 0 then .off
  else if req = 3 then .share
  else if regulates s then .regulate else .share

/-- The die of output o can drive it (R54), and the role permits it to leave OFF: the hub has been configured and is in service; a resyncing hub shares (R45, R127,
R363). -/
def rolePermits (s : State) (o : Nat) : Bool := !s.jtag.held && diePowered s (o / 16) &&
  match s.hub.st with
  | .standby | .active | .solo | .safe | .resync => true
  | _ => false

/-- The collapse monitor of an output stops reporting: it is disabled, blanked, or the output is OFF (R113, R131). -/
def collapseOff (o : Nat) (s : State) : State :=
  if (exc s o).collapse then
    forL (excDeps s o) (fun g a => detectorOff g (.collapse (o % 4)) a) (modExc o (fun e => { e with collapse := false }) s)
  else s

/-- A ramp in progress ends at an instant (R132). -/
def rampEnd (o t : Nat) (s : State) : State :=
  if (exc s o).ramp.isSome then exceEnd o 0 t (modExc o (fun e => { e with ramp := none }) s) else s

/-- Conditions that a new mode ends: the sense excursion with REGULATE, current limiting and missing headroom with OFF (R126,
R132). -/
def excQuiet (o : Nat) (m : ExcMode) (t : Nat) (s : State) : State :=
  let s := if (exc s o).exSense.isSome ∧ m ≠ .regulate then exceEnd o 3 t (modExc o (fun e => { e with exSense := none }) s) else s
  if m = .off then
    let s := if (exc s o).exIlim.isSome then exceEnd o 1 t s else s
    let s := if (exc s o).exHead.isSome then exceEnd o 2 t s else s
    modExc o (fun e => { e with ilim := false, headroom := false, exIlim := none, exHead := none }) s
  else s

/-- SETMIS: the active SET of an output in SHARE or HOLD differs from the SET that the holder last reported (R129, R139; DEDUCED of
the modes, log entry 219). -/
def setMisNow (s : State) (o : Nat) : Bool :=
  let e := exc s o
  e.heard && !s.twn.token && (decide (e.mode = .share) || decide (e.mode = .hold)) && decide (af s (excCfgA o) 0 16 ≠ e.holdSet)

/-- SETMIS follows a change of mode, SET or report, and its event is raised as it becomes 1 (R129, R139). -/
def setMisSync (o : Nat) (s : State) : State :=
  let m := setMisNow s o
  if (exc s o).setMis = m then s
  else
    let s := modExc o (fun e => { e with setMis := m }) s
    if m then excEvent o 5 s else s

/-- A driver mode change, counted and reported; entry to HOLD also counts in HOLDS (R131, R139). -/
def excMode (o : Nat) (m : ExcMode) (t : Nat) (s : State) : State :=
  let s := collapseOff o (excQuiet o m t (rampEnd o t s))
  let s := modExc o (fun e => { e with mode := m, blankTo := s.ord + 16, good := 0, heldAt := if m = .hold then some s.ord else e.heldAt }) s
  let s := setMisSync o (excEvent o 0 (bump (shfReg (o / 4) 0x30) 1 s))
  if m = .hold then
    exceMark o 4 t (some (t + twentyUs)) (excEvent o 4 (bump (shfReg (o / 4) 0x34) 1 s))
  else s

/-- An output enters HOLD at an instant, at the holder's last reported SET; where the holder has reported none the manual states no
setpoint, and a free value stands for it (R129; log entry 198). -/
def excHold (o t : Nat) (s : State) : State :=
  if (exc s o).heard then excMode o .hold t (modExc o (fun x => { x with setNow := x.holdSet }) s)
  else
    let f := fresh s
    excMode o .hold t (modExc o (fun x => { x with setNow := (Config.freeWord f.1).toNat % 65536 }) f.2)

/-- Both TWIN lanes of a twin hub are DOWN (R129). -/
def twinDown (s : State) : Bool := s.hub.straps.twinEn && decide ((lane s 4).st = .down) && decide ((lane s 5).st = .down)

/-- An output that has come into SHARE with both TWIN lanes DOWN enters HOLD (R129). -/
def shareHold (o t : Nat) (s : State) : State := if (exc s o).mode = .share ∧ twinDown s = true then excHold o t s else s

/-- A ramp starts at an instant; with RAMP a step the event is the instant itself (R127, R132). -/
def excRamp (o t : Nat) (slow : Bool) (s : State) : State :=
  let s := rampEnd o t s
  if slow then exceMark o 0 t none (modExc o (fun e => { e with ramp := some t }) (collapseOff o s))
  else exceMark o 0 t (some t) s

/-- The output ramps over EXCk_CFG.RAMP. -/
def rampCfg (s : State) (o : Nat) : Bool := decide (af s (excCfgA o) 24 2 ≠ 0)

/-- The modulator-cycle boundary on which a transition of a driver falls now (R127). -/
def excT (s : State) : Nat := mcAt (256 * s.c)

/-- The output leaves OFF, changes request, or changes setpoint (R127). -/
def excSet (o : Nat) (old new : Word) (s : State) : State :=
  let t := excT s
  let e := exc s o
  let want := excWant s (fld new 22 2)
  if fld new 22 2 = 0 then
    if e.mode = .off then s else excRamp o t (rampCfg s o) (excMode o .off t (modExc o (fun x => { x with outgoing := false }) s))
  else if e.mode = .off then
    if rolePermits s o then
      let set := if want = .share then e.holdSet else fld new 0 16
      excRamp o t (rampCfg s o) (excMode o want t (modExc o (fun x => { x with setNow := set, target := 0 }) s))
    else s
  else if fld old 22 2 ≠ fld new 22 2 ∧ e.mode ≠ .hold ∧ e.mode ≠ want then
    excRamp o t (rampCfg s o) (excMode o want t (modExc o (fun x => { x with setNow := fld new 0 16 }) s))
  else if e.mode = .regulate ∧ fld old 0 16 ≠ fld new 0 16 then
    excRamp o t (rampCfg s o) (modExc o (fun x => { x with setNow := fld new 0 16 }) s)
  else s

/-- An output's configuration becomes active (R127, R129). -/
def excApply (o : Nat) (old new : Word) (s : State) : State :=
  let t := excT s
  setMisSync o (shareHold o t (excSet o old new s))

/-- An output that is OFF takes the mode its request has in the present role (R127). -/
def excStart (o : Nat) (s : State) : State :=
  if (exc s o).mode = .off ∧ af s (excCfgA o) 22 2 ≠ 0 then excApply o (rg s (excCfgA o)) (rg s (excCfgA o)) s else s

/-- Every output of the hub takes the mode its request has in a new role (R127). -/
def excStartAll (s : State) : State := forN 64 excStart s

/-- Drivers released high-impedance at once (R45, R54, R127): no ramp, so the mode change is an instant (R132), and a fall to zero that
still runs ends. -/
def excRelease (o : Nat) (s : State) : State :=
  if (exc s o).mode = .off then rampEnd o (256 * s.c) s
  else
    let t := 256 * s.c
    exceMark o 0 t (some t) (excMode o .off t (modExc o (fun x => { x with outgoing := false }) s))

/-- SLEEP entry: every driver ramps to OFF (R68, R127). -/
def excSleep (s : State) : State :=
  (List.range 64).foldl (fun a o =>
    if (exc a o).mode = .off then a
    else excRamp o (excT a) true (excMode o .off (excT a) (modExc o (fun x => { x with outgoing := false }) a))) s

/-- The boundary t0 of a planned swap that this hub takes part in as the incoming holder, while its SWAPGO stands (R130, R360). -/
def swapIn (s : State) : Option Nat := match s.twn.next, s.twn.goRx with
  | some f, some _ => if s.twn.token then none else some (mcAt (localAt s (tickTime s f)))
  | _, _ => none

/-- A HOLD trigger at an instant; on the boundary of a planned swap the swap is carried out instead (R127, R129). -/
def holdTrip (o t : Nat) (s : State) : State :=
  if (exc s o).mode = .share ∧ swapIn s ≠ some (mcAt t) then excHold o (mcAt t) s else s

/-- HOLD of every sharing output: both TWIN lanes DOWN (R129). -/
def holdAll (s : State) : State := forN 64 (fun o a => holdTrip o (256 * a.c) a) s

/-- The hub takes the token: outputs in HOLD enter REGULATE, and those in SHARE unless they ask for SHARE (R127, R130). -/
def regulateAll (t : Nat) (s : State) : State :=
  (List.range 64).foldl (fun a o =>
    let req := af a (excCfgA o) 22 2
    let e := exc a o
    if e.mode = .off ∨ e.mode = .regulate ∨ (e.mode = .share ∧ req = 3) then setMisSync o a
    else
      let set := af a (excCfgA o) 0 16
      let a := excMode o .regulate t (modExc o (fun x => { x with setNow := set, outgoing := false }) a)
      if set ≠ e.setNow then excRamp o t (rampCfg a o) a else exceMark o 0 t (some t) a) s

/-- The outgoing holder of a planned swap keeps regulating with droop until its SHARE entry (R130). -/
def outgoingAll (s : State) : State :=
  (List.range 64).foldl (fun a o => if (exc a o).mode = .regulate then modExc o (fun x => { x with outgoing := true }) a else a) s

/-- Excitation conditions of output o that last now (R132): ramp, ILIM, HEADROOM, sense. -/
def excNow (s : State) (o c : Nat) : Bool := match c with
  | 0 => (exc s o).ramp.isSome
  | 1 => (exc s o).exIlim.isSome
  | 2 => (exc s o).exHead.isSome
  | _ => (exc s o).exSense.isSome

/-- Excitation events that are open now join or leave a channel with its EXCDEP, here as two CH_LEAD words (R132). -/
def excJoin (g : Nat) (wl wn : Word) (t : Nat) (s : State) : State :=
  forN 4 (fun k a =>
    if bit wl (8 + k) = bit wn (8 + k) then a
    else forN 4 (fun c b =>
      let m : MarkK := .exce (8 * k + c)
      if bit wl (8 + k) then endMarks g m t b
      else if excNow b (4 * (g / 32) + k) c then mark g m (t - tenUs) none b else b) a) s

/-- What marks samples at the instant at which a channel leaves OFF reaches it: a MUX setting other than NORMAL, a running SHORTS test,
open excitation events (R102, R118, R132). -/
def marksOpen (g t : Nat) (s : State) : State :=
  let s := if fld (rg s (chCfgA g)) 1 2 ≠ 0 then mark g .cal t none s else s
  let s := match ltOf s (g / 32) with
    | some x => if x.shorts then mark g .shorts t none s else s
    | none => s
  excJoin g 0 (rg s (chLeadA g)) t s

/-- Good LEASE frames in a row after one more message: a frame without one, or one of another serial, starts afresh (R129). -/
def goodNext (e : Exc) (ord ser : Nat) : Nat :=
  if e.goodSer = ser ∧ e.goodAt = ord then e.good else if e.goodSer = ser ∧ e.goodAt + 1 = ord then e.good + 1 else 1

/-- The holder's LEASE message reaches a sharing or holding output (R128, R129): its SET, mean current in uA and whether
it regulates without ILIM or HEADROOM. The share target is rounded down to whole uA (DESIGN CHOICE, log entry 164). -/
def excLease (o set i : Nat) (clean : Bool) (s : State) : State :=
  let e := exc s o
  if e.mode = .off then modExc o (fun x => { x with holdSet := set, holdI := i, heard := true }) s
  else
    let aim := af s (excLoadA o) 16 8 * (e.iout + i) / 256
    let tgt := if e.target + 1000 < aim then e.target + 1000 else if aim + 1000 < e.target then e.target - 1000 else aim
    setMisSync o (modExc o (fun x => { x with
      holdSet := set, holdI := i, heard := true,
      setNow := if x.mode = .share ∨ x.mode = .hold then set else x.setNow,
      target := if x.mode = .share then tgt else x.target,
      good := if x.mode = .hold ∧ clean then goodNext x s.ord s.twn.maxSer else 0,
      goodAt := s.ord, goodSer := s.twn.maxSer }) s)

/-- Sense leaves the threshold of R129, or returns (R129, R132). -/
def execSenseExcursion (ss k : Nat) (back : Bool) (t : Nat) (s : State) : Host.Outcome State Fault Refusal :=
  if ss < 16 ∧ k < 4 then
    let o := 4 * ss + k
    let s := advance t s
    match (exc s o).mode with
    | .off => .next s
    | .share => .next (if back then s else holdTrip o t s)
    | .hold => .next (if back then s else modExc o (fun x => { x with good := 0 }) s)
    | .regulate =>
      .next (if back then exceEnd o 3 t (modExc o (fun x => { x with exSense := none }) s)
        else if (exc s o).exSense.isSome then s
        else exceMark o 3 t none (modExc o (fun x => { x with exSense := some t }) s))
  else .next s

/-- 16 good LEASE frames have passed: the output returns to SHARE, its current falling over 2 ms (R127, R129). -/
def execHoldReturnShare (ss k t : Nat) (s : State) : Host.Outcome State Fault Refusal :=
  if ss < 16 ∧ k < 4 ∧ (exc s (4 * ss + k)).mode = .hold ∧ 16 ≤ (exc s (4 * ss + k)).good ∧ s.ord ≤ (exc s (4 * ss + k)).goodAt + 1 then
    .next (excRamp (4 * ss + k) (mcAt t) true (excMode (4 * ss + k) .share (mcAt t) (advance t s)))
  else .next s

/-- Entry to or exit from current limiting (R126, R132). -/
def execExcIlimChange (ss k : Nat) (on : Bool) (t : Nat) (s : State) : Host.Outcome State Fault Refusal :=
  let o := 4 * ss + k
  if ss < 16 ∧ k < 4 ∧ (exc s o).mode ≠ .off ∧ (exc s o).ilim ≠ on then
    let s := modExc o (fun x => { x with ilim := on, exIlim := if on then some t else none }) (advance t s)
    .next (if on then exceMark o 1 t none (excEvent o 1 (bump (shfReg ss 0x38) 1 s)) else exceEnd o 1 t s)
  else .next s

/-- The force pin enters or leaves the 0.6 V band below VEXC (R126, R132). -/
def execExcHeadroomChange (ss k : Nat) (on : Bool) (t : Nat) (s : State) : Host.Outcome State Fault Refusal :=
  let o := 4 * ss + k
  if ss < 16 ∧ k < 4 ∧ (exc s o).mode ≠ .off ∧ (exc s o).headroom ≠ on then
    let s := modExc o (fun x => { x with headroom := on, exHead := if on then some t else none }) (advance t s)
    .next (if on then exceMark o 2 t none (excEvent o 2 s) else exceEnd o 2 t s)
  else .next s

/-- The collapse monitor is blanked (R131). -/
def excBlank (s : State) (o : Nat) : Bool :=
  let e := exc s o
  e.ramp.isSome || decide (e.mode = .hold) || decide (s.ord < e.blankTo)

/-- The collapse reference: mean output current over the preceding 16 frames, uA (R131). -/
def excRef (e : Exc) : Nat := if e.hist = [] then 0 else e.hist.foldl (· + ·) 0 / e.hist.length

/-- The load-current monitor judges a current held for 5 us (R113, R131). -/
def execExcLoadCollapse (ss k i t : Nat) (s : State) : Host.Outcome State Fault Refusal :=
  let o := 4 * ss + k
  let e := exc s o
  let coll := af s (excLoadA o) 12 4
  if ss < 16 ∧ k < 4 ∧ e.mode ≠ .off ∧ coll ≠ 0 ∧ excBlank s o = false then
    let s := advance t s
    if 500 ≤ excRef e ∧ i * 16 < coll * excRef e then
      if e.collapse then .next s
      else
        let s := excEvent o 3 (bump (shfReg ss 0x3C) 1 (modExc o (fun x => { x with collapse := true }) s))
        .next ((excDeps s o).foldl (fun a g => detectorOn g (.collapse k) t a) s)
    else .next (collapseOff o s)
  else .next s

/-- A ramp ends (R127, R132). -/
def execExcRampComplete (ss k t : Nat) (s : State) : Host.Outcome State Fault Refusal :=
  let o := 4 * ss + k
  if ss < 16 ∧ k < 4 ∧ (exc s o).ramp.isSome then
    let s := advance t s
    .next (exceEnd o 0 t (modExc o (fun x => { x with ramp := none, blankTo := s.ord + 16 }) s))
  else .next s

/-- At t0 + 50 us the outgoing holder's output enters SHARE, its current moving to the target until t0 + 2 ms (R130). An output
that enters SHARE starts from the last target it had, 0 if it never shared (DESIGN CHOICE, log entry 165). -/
def execOutgoingShareEntry (ss k t : Nat) (s : State) : Host.Outcome State Fault Refusal :=
  let o := 4 * ss + k
  if ss < 16 ∧ k < 4 ∧ (exc s o).outgoing then
    .next (shareHold o (mcAt t) (excRamp o (mcAt t) true (excMode o .share (mcAt t) (modExc o (fun x => { x with outgoing := false, holdSet := x.setNow, heard := true }) (advance t s)))))
  else .next s

/-- THREEW sources A and B exchange pins (R135). -/
def execCurrentSourceExchange (g t : Nat) (s : State) : Host.Outcome State Fault Refusal :=
  if chOn s g && decide (af s (chCurrA g) 0 3 = 2) && bit (rg s (chCurrA g)) 8 then
    .next (modChan g (fun x => { x with swapped := !x.swapped }) (advance t s))
  else .next s

/-- The frame's readings of an output reach its registers and its collapse reference; in HOLD a sense beyond 0.1 % of SET starts
the count of good frames afresh (R128, R129, R131, R139). -/
def excReading (r : Nat × (Nat × Nat × Int)) (s : State) : State :=
  if r.1 < 64 then
    modExc r.1 (fun e => { e with
      iout := r.2.1, vs := r.2.2.1, fsd := r.2.2.2, fsDiff := decide (6250 < |r.2.2.2|),
      good := if e.setNow < 1000 * |(r.2.2.1 : Int) - e.setNow| then 0 else e.good, hist := (r.2.1 :: e.hist).take 16,
      blankTo := if e.ramp.isSome ∨ e.mode = .hold then s.ord + 16 else e.blankTo }) s
  else s

end Sys2Proof.Machine
end

