-- ==== Sys2Proof/Machine/Converters.lean ====
section
/-! DEFINITION. Modulator starts and faults, reference buffers, auxiliary results and spot-read slots (chapter 07). -/

namespace Sys2Proof.Machine

open Sys2Proof

/-! ### Reference buffers (R151 to R154): buffer b of sheaf ss is number 6*ss + b -/

/-- The buffer a REFSEL code selects (R103, R151). -/
def refselBuf (r : Nat) : Nat := if r < 4 then r % 2 else r - 2

/-- The buffer a channel uses. -/
def chBuf (s : State) (g : Nat) : Nat := 6 * (g / 32) + refselBuf (af s (chCfgA g) 12 3)

/-- READY bits of a sheaf (R155). -/
def refReadyBits (s : State) (ss : Nat) : Nat :=
  (List.range 6).foldl (fun a b => a ||| bbit (ref s (6 * ss + b)).ready b) 0

/-- The enables of SHF_REF_CFG become active: READY clears with its enable, a fault only when its monitor has stayed untripped
(R152, R153). A buffer of a die without power comes on once its link has trained (R145). -/
def refEnables (ss new : Nat) (s : State) : State :=
  (List.range 6).foldl (fun a b =>
    let on := new.testBit b
    modRef (6 * ss + b) (fun x =>
      if !on then { x with on := false, ready := false, inUse := false }
      else if diePowered s (ss / 4) then { x with on := true } else { x with inUse := true }) a) s

/-- Commands that wait for buffers complete once every one they named is ready (R154, R395). -/
def refWake (ss : Nat) (s : State) : State :=
  s.flight.foldl (fun a f => match f.wait with
    | .refReady q m e => if q = ss ∧ refReadyBits a ss &&& m = m then finish f stOk (leBytes 8 e ++ leBytes 4 (refReadyBits a ss)) a else a
    | _ => a) s

def execRefReadySet (ss b : Nat) (s : State) : Host.Outcome State Fault Refusal :=
  if live s && decide (ss < 16) && decide (b < 6) && (ref s (6 * ss + b)).on && !(ref s (6 * ss + b)).ready then
    .next (refWake ss (raise .shf ss 16 (modRef (6 * ss + b) (fun x => { x with ready := true }) s)))
  else .next s

/-- A buffer's monitor trips (R153). -/
def refTrip (i : Nat) (s : State) : State :=
  if (ref s i).on then raise .shf (i / 6) 17 (modRef i (fun x => { x with fault := true }) s) else s

/-- The trip condition of a buffer's monitor that the hub itself holds (R151): INT trips by its check of R153, an X buffer is watched only
while its output is not OFF and not ramping. -/
def refWatched (s : State) (ss b : Nat) : Bool :=
  if b = 0 then decide (2 ≤ (aux s (ss / 4)).intBad)
  else if b = 1 then true
  else decide ((exc s (4 * ss + (b - 2))).mode ≠ .off) && (exc s (4 * ss + (b - 2))).ramp.isNone

def execRefMonitorTrip (ss b : Nat) (s : State) : Host.Outcome State Fault Refusal :=
  if live s && decide (ss < 16) && decide (b < 6) && refWatched s ss b then .next (refTrip (6 * ss + b) s) else .next s

/-- 1 ms untripped: the fault clears, on INT only once its check against the bandgap passes again (R153). -/
def execRefFaultClear (ss b : Nat) (s : State) : Host.Outcome State Fault Refusal :=
  if live s && decide (ss < 16) && decide (b < 6) && !(decide (b = 0) && decide (2 ≤ (aux s (ss / 4)).intBad)) then .next (modRef (6 * ss + b) (fun x => { x with fault := false }) s) else .next s

/-! ### Modulators (R144 to R146) -/

/-- The first SAMP edge at or after the tick of number f (R144). -/
def startEdge (s : State) (f : Nat) : Nat := mcAt (localAt s (tickTime s (s.frame + f - s.ord)))

/-- A channel's modulator starts for the tick of number f: integrators and CIC stage are released together, and the channel
enters SETTLING (R144, R155, R175). A start at arming counts as a restart for R146 (DESIGN CHOICE, log entry 199). -/
def modGo (g f : Nat) (s : State) : State :=
  let t := startEdge s f
  let s := modChan g (fun x => { x with mod0 := t, cic := [], clips := [], shifts := [] }) (setStart g none s)
  let s := settle g t false s
  let s := { s with restart := tset none s.restart g (some f), modStart := tset 0 s.modStart (g / 32) ((s.frame + f - s.ord) % 2 ^ 32) }
  raise .shf (g / 32) 19 s

/-- A channel whose start edge has come leaves ARMED, or FAULT where the cause is removed (R120, R144, R145). -/
def modStartCh (g t : Nat) (s : State) : State := match startOf s g with
  | some f =>
    let x := chan s g
    let free := decide (x.st = .fault) && !x.stuck && chCarried s g && !(die s (g / 128)).lost
    if f ≤ s.ord ∧ startEdge s f ≤ t ∧ (x.st = .armed ∨ free) then modGo g f s else s
  | none => s

def execModulatorStart (ss t : Nat) (s : State) : Host.Outcome State Fault Refusal :=
  if live s && decide (ss < 16) then
    .next ((List.range 32).foldl (fun a c => modStartCh (32 * ss + c) t a) (advance t s))
  else .next s

/-- A modulator is stuck (R146): FAULT with cause 3, for good when it faults again within 1024 frames of its restart. -/
def execModulatorFault (g t : Nat) (s : State) : Host.Outcome State Fault Refusal :=
  if chActive s g then
    let again := match tget none s.restart g with
      | some f => decide (s.ord < f + 1024)
      | none => false
    let s := raise .shf (g / 32) 18 (chFault g 3 (advance t s))
    .next (modChan g (fun x => { x with stuck := again }) s)
  else .next s

/-- 256 clean cycles after a modulator fault: the modulator restarts SDLY frames later (R145, R146). -/
def execModulatorFaultClear (g : Nat) (s : State) : Host.Outcome State Fault Refusal :=
  if decide (g < 512) && decide ((chan s g).st = .fault) && decide ((chan s g).cause = 3) && !(chan s g).stuck then
    .next (setStart g (some (s.ord + sdly s (g / 32))) s)
  else .next s

/-! ### Spot-read slots (R161, R162) -/

def slot (s : State) (i : Nat) : Slot := tget {} s.slots i
def modSlot (i : Nat) (f : Slot → Slot) (s : State) : State := { s with slots := tmod {} s.slots i f }
def slotCfgA (i : Nat) : Nat := 0x9100 + 8 * i

/-- AUX_RESULTs (R163). -/
def slotWord (x : Slot) : Word := word (x.seq <<< 24 ||| bbit x.valid 23 ||| bbit x.fresh 22 ||| x.value % 2 ^ 18)

/-- A slot's request completes: all four fields change at once (R161). -/
def slotDone (i : Nat) (ok : Bool) (v : Nat) (s : State) : State :=
  let s := modSlot i (fun x => { x with go := false, seq := (x.seq + 1) % 256, valid := ok, fresh := true, value := if ok then v else 0 }) s
  if bit (rg s (slotCfgA i)) 24 then raise .aux 0 0 s else s

/-- A slot's request fails with a status (R157, R159, R161). -/
def slotFail (i st : Nat) (s : State) : State := slotDone i false 0 (pgError .aux 0 st s)

/-- A slot issues a request (R157, R161). BAD_PARAM goes before NO_RESOURCE, and CH above 10 with PIN 3 is refused where the input is a
lead-test bus, which alone uses the address (DESIGN CHOICES, log entry 200). -/
def slotIssue (i : Nat) (s : State) : State :=
  let w := rg s (slotCfgA i)
  let input := fld w 8 6
  if 0x26 < input ∨ (input < 4 ∧ fld w 6 2 = 3 ∧ 10 < fld w 0 5) then slotFail i stBadParam s
  else if auxAvail s (fld w 14 2) = false then slotFail i stNoResource s
  else auxPush (fld w 14 2) (.slot i) (modSlot i (fun x => { x with go := true, fresh := false }) s)

/-- GO of a slot: ignored with BUSY while a request is pending; a repeat issue of the same cycle is the same request (R162). -/
def slotGo (i : Nat) (s : State) : State :=
  if (slot s i).repAt = some s.c then s
  else if (slot s i).go then pgError .aux 0 stBusy s
  else modSlot i (fun x => { x with goAt := some s.c }) (slotIssue i s)

def execAuxSlotGo (_ : Path) (i : Nat) (s : State) : Host.Outcome State Fault Refusal :=
  .next (if i < 16 then direct .aux 0 (slotGo i) s else s)

/-- A slot whose repeat issue is due on the tick issues it; skipped while the previous request is pending (R161). -/
def slotRepeat (i : Nat) (s : State) : State :=
  let r := af s (slotCfgA i) 16 8
  if r ≠ 0 ∧ r ≤ (slot s i).ticks then
    let s := modSlot i (fun x => { x with ticks := 0 }) s
    if (slot s i).go ∨ (slot s i).goAt = some s.c then s else modSlot i (fun x => { x with repAt := some s.c }) (slotIssue i s)
  else s

/-- A repeat issue; those of lower slots that are due on the same tick go first (R162). -/
def execAuxSlotRepeat (i : Nat) (s : State) : Host.Outcome State Fault Refusal :=
  .next (if running s && decide (i < 16) then forN (i + 1) slotRepeat s else s)

/-- A read of AUX_RESULTs returns its fields and clears FRESH (R161). -/
def slotRead (i : Nat) (s : State) : Word × State := (slotWord (slot s i), modSlot i (fun x => { x with fresh := false }) s)

def execAuxResultRead (_ : Path) (i : Nat) (s : State) : Host.Outcome State Fault Refusal :=
  if running s && decide (i < 16) then
    let r := slotRead i s
    .next { r.2 with rd := [r.1] }
  else .next s

/-! ### Auxiliary results (R153, R157 to R159) -/

/-- The bandgap code's deviation in ppm: 2.5 V is code 128,000 (R153, R156). -/
def intDevOf (code : Nat) : Int := ((code : Int) - 128000) * 125 / 16

/-- The INT check of a SYS pass: two in a row beyond 0.1 % trip the monitor of the die's four sheafs (R153). -/
def intCheck (n code : Nat) (s : State) : State :=
  let dev := intDevOf code
  let bad := decide (1000 < dev) || decide (dev < -1000)
  let cnt := if bad then (aux s n).intBad + 1 else 0
  let s := modAux n (fun x => { x with intDev := dev, intBad := cnt }) s
  if 2 ≤ cnt then (List.range 4).foldl (fun a q => refTrip (6 * (4 * n + q)) a) s else s

/-- Millivolts of a code, 19.53125 uV each, rounded down (R156, R163). -/
def codeMv (code : Nat) : Nat := code * 5 / 256

/-- VEXC in mV of a code scaled by 1/4 (R157). -/
def vexcMv (code : Nat) : Nat := code * 5 / 64

/-- A SYS input's result goes to its register (R157, R158, R163). -/
def sysResult (n input code : Nat) (ext : List Nat) (s : State) : State :=
  if input = 0x1C then modAux n (fun x => { x with vexc := vexcMv code }) s
  else if input = 0x1D then modAux n (fun x => { x with vdda := 2 * code }) s
  else if input = 0x1E then modAux n (fun x => { x with vddfd := code }) s
  else if 0x20 ≤ input ∧ input < 0x24 then
    modAux n (fun x => { x with temp := tset 0 x.temp (input - 0x20) (sext 18 code) }) s
  else if input = 0x24 then intCheck n code (modAux n (fun x => { x with ext := ext }) s)
  else s

/-- Microseconds between two instants, rounded up. -/
def usBetween (t0 t1 : Nat) : Nat := ceilDiv ((t1 - t0) * 1000000) tauHz

/-- An urgent request's result: counted, with its longest wait (R158, R163). -/
def urgentCount (n raised t : Nat) (s : State) : State :=
  let a := 0x9030 + 4 * n
  setRg a (word (max (rg s a).toNat (usBetween raised t))) (bump (0x9020 + 4 * n) 1 s)

/-- A conversion of a lead test (R117). -/
def leadResult (ss cc code : Nat) (s : State) : State := match ltOf s ss with
  | some x =>
    if chActive s (32 * ss + cc) = false then ltAbort ss s
    else
      let y : LeadTest := { x with opens := if inWindow s ss code then x.opens else cc :: x.opens, begun := true }
      { s with lts := tset none s.lts ss (some y) }
  | none => s

/-- A conversion of a SHORTS test: the next one follows until the test ends (R118, R158). -/
def shortsResult (ss : Nat) (s : State) : State := match ltOf s ss with
  | some x =>
    let y : LeadTest := { x with begun := true }
    auxPush (ss / 4) (.shorts ss) { s with lts := tset none s.lts ss (some y) }
  | none => s

/-- A spot read's completion: VALUE, FMT, INPUT, RSV (R160, R395). -/
def spotResult (path tag input code : Nat) (s : State) : State :=
  match s.flight.find? (fun f => decide (f.wait = .spot) && decide (f.tag = tag) && decide ((if f.path = .host then 0 else 1) = path)) with
  | some f => finish f stOk (leBytes 4 (code % 2 ^ 18) ++ [if 0x20 ≤ input ∧ input < 0x24 then 1 else 0] ++ leBytes 1 input ++ [0, 0]) s
  | none => s

/-- Deliver a conversion's result. -/
def auxDeliver (n : Nat) (r : AuxReq) (code t : Nat) (ext : List Nat) (s : State) : State := match r.kind with
  | .sys i => sysResult n i code ext s
  | .cjc i => modAux n (fun x => { x with cjLast := tset none x.cjLast i (some (sext 18 code, 256 * s.c)) }) (sysResult n (0x20 + i) code ext s)
  | .lead ss cc _ => leadResult ss cc code s
  | .shorts ss => shortsResult ss s
  | .stale => s
  | .urgent g pin c => urgentCount n r.raised t (urgentResult g pin c code t s)
  | .vexc => urgentCount n r.raised t (modAux n (fun x => { x with vexc := vexcMv code }) s)
  | .slot i => slotDone i true code s
  | .spot p tag input => spotResult p tag input code s

/-- A conversion ends, and the next starts (R158). -/
def execAuxConversionDone (n code t : Nat) (ext : List Nat) (s : State) : Host.Outcome State Fault Refusal :=
  match (aux s n).run with
  | some r =>
    if auxAvail s n then
      let s := modAux n (fun x => { x with run := none }) (advance t s)
      .next (modAux n auxStart (auxDeliver n r code t ext s))
    else .next s
  | none => .next s

/-- A request that is pending when its converter is lost completes with NO_RESOURCE (R114, R159). -/
def auxDrop (r : AuxReq) (s : State) : State := match r.kind with
  | .slot i => slotFail i stNoResource s
  | .spot p tag _ => match s.flight.find? (fun f => decide (f.wait = .spot) && decide (f.tag = tag) && decide ((if f.path = .host then 0 else 1) = p)) with
    | some f => finish f stNoResource [] s
    | none => s
  | .lead ss _ _ => ltAbort ss (wakeup (.leadTest ss) stNoResource [] s)
  | .shorts ss => ltAbort ss (wakeup (.leadTest ss) stNoResource [] s)
  | _ => s

/-- AUXn becomes unavailable, with the die still as it was: every pending request completes with NO_RESOURCE, and a periodic
test that waits is dropped (R67, R159, R163). -/
def auxLose (n : Nat) (s : State) : State :=
  let x := aux s n
  let all := x.run.toList ++ x.urgent ++ x.sys ++ x.cjc ++ x.lt ++ x.spot
  let was := (die s n).up && !(die s n).lost
  let s := modAux n (fun y => { y with run := none, urgent := [], sys := [], cjc := [], lt := [], spot := [], intBad := 0 }) s
  let s := forN 4 (fun q a => { a with ltWait := tset false a.ltWait (4 * n + q) false }) s
  let s := forL all auxDrop s
  if was then raise .aux 0 1 s else s

end Sys2Proof.Machine
end

