-- ==== Sys2Proof/Machine/Deflate.lean ====
section
/-! DEFINITION. The DEFLATE format that R293, R294 and R298 name: reading a stream, and its stored form. PRESUMED (log entry 177): the
spec names the format and gives neither its codes nor its tables; they are those of RFC 1951. -/

namespace Sys2Proof.Machine

open Sys2Proof

/-- Bits of a byte list, bit 0 of each byte first. -/
def bitsOf (n v : Nat) : List Bool := (List.range n).map (fun i => v.testBit i)
def bytesBits (l : List Byte) : List Bool := l.flatMap (fun b => bitsOf 8 b.toNat)
def bitsNat (l : List Bool) : Nat := (l.zipIdx).foldl (fun a p => a + bbit p.1 p.2) 0

/-- The next n bits, least significant first, and the rest. -/
def takeBits (n : Nat) (l : List Bool) : Option (Nat × List Bool) := if l.length < n then none else some (bitsNat (l.take n), l.drop n)

/-! ### Huffman codes -/

/-- Symbols of a code in the order of their code words: by length, then by number. -/
def huffSyms (lens : List Nat) : List Nat :=
  (List.range 15).flatMap (fun l => (List.range lens.length).filter (fun i => decide (lens.getD i 0 = l + 1)))

/-- Code words left over at length 15, in 2^-15; none where the lengths ask for more than there are. -/
def huffLeft (lens : List Nat) : Option Nat :=
  (List.range 15).foldl (fun a l => a.bind (fun x => if 2 * x < lens.count (l + 1) then none else some (2 * x - lens.count (l + 1)))) (some 1)

/-- A usable code: complete, or a single code word of one bit. -/
def huffOk (lens : List Nat) : Bool := decide (huffLeft lens = some 0) || (decide (lens.count 1 = 1) && decide ((huffSyms lens).length = 1))

/-- Read one symbol, most significant code bit first: `first` is the first code word of the present length, `ix` the place of its
symbol. -/
def huffGo (lens syms : List Nat) : Nat → Nat → Nat → Nat → Nat → List Bool → Option (Nat × List Bool)
  | 0, _, _, _, _, _ => none
  | _, _, _, _, _, [] => none
  | f + 1, len, code, first, ix, b :: r =>
    let c := code + bbit b 0
    let n := lens.count len
    if c < first + n then some (syms.getD (ix + (c - first)) 0, r) else huffGo lens syms f (len + 1) (2 * c) (2 * (first + n)) (ix + n) r

def huffRead (lens : List Nat) (l : List Bool) : Option (Nat × List Bool) := huffGo lens (huffSyms lens) 15 1 0 0 0 l

/-- Code lengths of the fixed codes. -/
def fixedLit : List Nat := List.replicate 144 8 ++ List.replicate 112 9 ++ List.replicate 24 7 ++ List.replicate 8 8
def fixedDist : List Nat := List.replicate 30 5

/-- The next code length: its symbol, then the run that it stands for; `acc` holds the lengths read, newest first. -/
def lensRun (sym : Nat) (acc : List Nat) (l : List Bool) : Option (List Nat × List Bool) :=
  if sym < 16 then some (sym :: acc, l)
  else if sym = 16 then (match acc with
    | [] => none
    | p :: _ => (takeBits 2 l).map (fun x => (List.replicate (3 + x.1) p ++ acc, x.2)))
  else if sym = 17 then (takeBits 3 l).map (fun x => (List.replicate (3 + x.1) 0 ++ acc, x.2))
  else (takeBits 7 l).map (fun x => (List.replicate (11 + x.1) 0 ++ acc, x.2))

/-- The n code lengths of a dynamic block. -/
def lensRead (cl : List Nat) (n : Nat) : Nat → List Nat → List Bool → Option (List Nat × List Bool)
  | 0, _, _ => none
  | f + 1, acc, l =>
    if acc.length = n then some (acc.reverse, l)
    else if n < acc.length then none
    else match huffRead cl l with
      | none => none
      | some (sym, r) => match lensRun sym acc r with
        | none => none
        | some (a, r') => lensRead cl n f a r'

/-- The order in which a dynamic block gives the code lengths of its first code. -/
def clOrder : List Nat := [16, 17, 18, 0, 8, 7, 9, 6, 10, 5, 11, 4, 12, 3, 13, 2, 14, 1, 15]

/-- The two codes of a dynamic block, and the rest of the bits. -/
def dynCodes (l : List Bool) : Option (List Nat × List Nat × List Bool) := match takeBits 14 l with
  | none => none
  | some (h, l) =>
    let nl := 257 + h % 32
    let nd := 1 + h / 32 % 32
    let nc := 4 + h / 1024
    match takeBits (3 * nc) l with
    | none => none
    | some (w, l) =>
      let cl := (List.range 19).map (fun i => let p := clOrder.idxOf i; if p < nc then w / 2 ^ (3 * p) % 8 else 0)
      if 286 < nl ∨ 30 < nd ∨ huffLeft cl ≠ some 0 then none
      else match lensRead cl (nl + nd) (nl + nd + 1) [] l with
        | none => none
        | some (x, r) =>
          let lit := x.take nl
          let dist := x.drop nl
          if lit.getD 256 0 = 0 ∨ huffOk lit = false ∨ (huffOk dist = false ∧ dist.any (fun d => decide (0 < d))) then none else some (lit, dist, r)

/-! ### Blocks -/

/-- Length of symbol 257 + i: base and extra bits; distance of symbol i likewise. -/
def lenExtra (i : Nat) : Nat := if i < 8 ∨ i = 28 then 0 else i / 4 - 1
def lenBase (i : Nat) : Nat := if i = 28 then 258 else if i < 8 then 3 + i else 3 + (4 + i % 4) * 2 ^ (i / 4 - 1)
def distExtra (i : Nat) : Nat := i / 2 - 1
def distBase (i : Nat) : Nat := if i < 4 then 1 + i else 1 + (2 + i % 2) * 2 ^ (i / 2 - 1)

/-- Copy n bytes from d back; the output stands newest first. -/
def copyBack (d : Nat) : Nat → List Byte → List Byte
  | 0, o => o
  | n + 1, o => copyBack d n (o.getD (d - 1) 0 :: o)

/-- A match of symbol 257 + i: its length and its distance. -/
def readMatch (dist : List Nat) (i : Nat) (l : List Bool) : Option (Nat × Nat × List Bool) := match takeBits (lenExtra i) l with
  | none => none
  | some (e, l) => match huffRead dist l with
    | none => none
    | some (d, l) =>
      if 30 ≤ d then none else (takeBits (distExtra d) l).map (fun x => (lenBase i + e, distBase d + x.1, x.2))

/-- What decoding has come to: the bytes so far, newest first, and the bits that are left, none where the data are malformed. -/
abbrev Inflated := List Byte × Option (List Bool)

/-- The symbols of a block up to its end. -/
def inflSyms (lit dist : List Nat) : Nat → List Byte → List Bool → Inflated
  | 0, o, _ => (o, none)
  | f + 1, o, l => match huffRead lit l with
    | none => (o, none)
    | some (sym, l) =>
      if sym < 256 then inflSyms lit dist f (BitVec.ofNat 8 sym :: o) l
      else if sym = 256 then (o, some l)
      else if 286 ≤ sym then (o, none)
      else match readMatch dist (sym - 257) l with
        | none => (o, none)
        | some (n, d, l) => if o.length < d then (o, none) else inflSyms lit dist f (copyBack d n o) l

/-- A stored block. -/
def inflStored (o : List Byte) (l : List Bool) : Inflated := match takeBits 32 (l.drop (l.length % 8)) with
  | none => (o, none)
  | some (h, l) =>
    let n := h % 65536
    if h / 65536 ≠ 65535 - n then (o, none)
    else
      (((List.range (min n (l.length / 8))).map (fun i => BitVec.ofNat 8 (bitsNat ((l.drop (8 * i)).take 8)))).reverse ++ o,
        if l.length < 8 * n then none else some (l.drop (8 * n)))

/-- One block after its header bits. -/
def inflBlock (ty : Nat) (o : List Byte) (l : List Bool) : Inflated := match ty with
  | 0 => inflStored o l
  | 1 => inflSyms fixedLit fixedDist (l.length + 1) o l
  | 2 => match dynCodes l with
    | none => (o, none)
    | some (lit, dist, r) => inflSyms lit dist (r.length + 1) o r
  | _ => (o, none)

/-- Blocks up to the final one. -/
def inflRun : Nat → List Byte → List Bool → Inflated
  | 0, o, _ => (o, none)
  | f + 1, o, l => match takeBits 3 l with
    | none => (o, none)
    | some (h, r) => match inflBlock (h / 2) o r with
      | (o', none) => (o', none)
      | (o', some r') => if h % 2 = 1 then (o', some r') else inflRun f o' r'

/-- What a DEFLATE stream gives: its bytes as far as they decode, and whether the stream is whole and nothing follows it. -/
def inflPart (l : List Byte) : List Byte × Bool :=
  let r := inflRun (8 * l.length + 1) [] (bytesBits l)
  (r.1.reverse, match r.2 with
    | some b => decide (b.length < 8)
    | none => false)

/-- The input of one DEFLATE stream; none where the data are malformed or bytes follow it. -/
def inflate (l : List Byte) : Option (List Byte) := if (inflPart l).2 then some (inflPart l).1 else none

/-! ### The stored form -/

/-- Lists of at most k. -/
def chunk64 {α : Type} (k : Nat) : Nat → List α → List (List α)
  | 0, _ => []
  | _, [] => []
  | n + 1, l => l.take k :: chunk64 k n (l.drop k)

/-- Stored blocks for an input. -/
def storedBytes (l : List Byte) : List Byte :=
  let bs := chunk64 65535 (l.length + 1) l
  (bs.zipIdx).flatMap (fun b =>
    leBytes 1 (bbit (decide (b.2 + 1 = bs.length)) 0) ++ leBytes 2 b.1.length ++ leBytes 2 (65535 - b.1.length) ++ b.1)

end Sys2Proof.Machine
end

