-- ==== Sys2Proof/Machine/Compress.lean ====
section
/-! DEFINITION. The Winnow codec, the archive container, the register jobs (chapter 13). -/

namespace Sys2Proof.Machine

open Sys2Proof

/-! ### Winnow blocks (R288 to R291) -/

/-- Pack bits into bytes from bit 0 upward, padded with zeros: at most `n` bytes. -/
def packBits : Nat → List Bool → List Byte
  | 0, _ => []
  | _, [] => []
  | n + 1, l => BitVec.ofNat 8 (((l.take 8).zipIdx).foldl (fun a p => a + bbit p.1 p.2) 0) :: packBits n (l.drop 8)

/-- VALUE of a word. -/
def wVal (w : Word) : Int := sfld w 8 24

/-- Residual of sample i under an order (R290). -/
def residual (x : List Int) (p i : Nat) : Int :=
  let v (j : Nat) : Int := x.getD j 0
  match p with
  | 0 => v i
  | 1 => v i - v (i - 1)
  | _ => v i - (2 * v (i - 1) - v (i - 2))

def zigzag (e : Int) : Nat := if 0 ≤ e then (2 * e).toNat else (-2 * e - 1).toNat

/-- Zigzag residuals of samples p on. -/
def zigs (x : List Int) (p : Nat) : List Nat := (List.range (x.length - p)).map (fun i => zigzag (residual x p (p + i)))

/-- Bits of a Rice code, and the code. -/
def riceLen (k u : Nat) : Nat := if u >>> k < 32 then u >>> k + 1 + k else 59
def riceCode (k u : Nat) : List Bool :=
  if u >>> k < 32 then List.replicate (u >>> k) true ++ [false] ++ bitsOf k u else List.replicate 32 true ++ bitsOf 27 u

/-- Bit-stream length of an order and parameter. -/
def streamLen (x : List Int) (p k : Nat) : Nat := (zigs x p).foldl (fun a u => a + riceLen k u) (24 * p)

/-- The combination with the fewest bits; the lower order, then the lower K, on a tie (R291). -/
def bestCode (x : List Int) : Nat × Nat × Nat :=
  ((List.range (min 2 x.length + 1)).flatMap (fun p => (List.range 24).map (fun k => (p, k)))).foldl
    (fun a pk => let l := streamLen x pk.1 pk.2; if l < a.2.2 then (pk.1, pk.2, l) else a) (0, 0, streamLen x 0 0)

/-- One block of at most 64 words: its bytes, and whether it is RAW. -/
def winnowBlock (ws : List Word) : List Byte × Bool :=
  let n := ws.length
  let x := ws.map wVal
  let fl := ws.map (fun w => fld w 0 8)
  let const := fl.all (fun f => decide (f = fl.headD 0))
  let b := bestCode x
  let size := 1 + (if const then 1 else n) + (b.2.2 + 7) / 8
  if size < 4 * n then
    let bits := ((x.take b.1).flatMap (fun v => bitsOf 24 (v % 2 ^ 24).toNat)) ++ (zigs x b.1).flatMap (riceCode b.2.1)
    (leBytes 1 (b.2.1 <<< 3 ||| bbit const 2 ||| b.1) ++ ((if const then fl.take 1 else fl).flatMap (leBytes 1)) ++
      packBits (b.2.2 + 8) bits, false)
  else (leBytes 1 3 ++ ws.flatMap (fun w => leBytes 4 w.toNat), true)

/-- The blocks of an entry. -/
def winnowEntry (ws : List Word) : List (List Byte × Bool) := (chunk64 64 (ws.length + 1) ws).map winnowBlock

/-! ### Decoding a block (R289, R290) -/

/-- One Rice code from a bit stream: value and rest, none where the stream ends. -/
def riceRead (k : Nat) (l : List Bool) : Option (Nat × List Bool) :=
  let q := (l.takeWhile (fun b => b)).length
  if 32 ≤ q then (if (l.drop 32).length < 27 then none else some (bitsNat ((l.drop 32).take 27), l.drop 59))
  else if l.length < q + 1 + k then none
  else some (q * 2 ^ k + bitsNat ((l.drop (q + 1)).take k), l.drop (q + 1 + k))

def unzig (u : Nat) : Int := if u % 2 = 0 then (u / 2 : Nat) else -((u / 2 + 1 : Nat) : Int)

/-- Read residual codes and rebuild values; `x` is newest first. -/
def winnowVals (p k : Nat) : Nat → List Int → List Bool → Option (List Int × List Bool)
  | 0, x, l => some (x.reverse, l)
  | n + 1, x, l => match riceRead k l with
    | none => none
    | some (u, r) =>
      let pred : Int := match p with
        | 0 => 0
        | 1 => x.getD 0 0
        | _ => 2 * x.getD 0 0 - x.getD 1 0
      winnowVals p k n ((unzig u + pred) :: x) r

/-- Decode one block of n samples: its words and the bytes left; none where it is malformed. -/
def winnowDecode (n : Nat) (l : List Byte) : Option (List Word × List Byte) := match l with
  | [] => none
  | h :: r =>
    let hv := h.toNat
    let p := hv % 4
    let k := hv / 8
    let const := hv.testBit 2
    if p = 3 then
      (if hv ≠ 3 ∨ r.length < 4 * n then none
       else some ((List.range n).map (fun i => word (leNat ((r.drop (4 * i)).take 4))), r.drop (4 * n)))
    else if 24 ≤ k ∨ n < p then none
    else
      let nf := if const then 1 else n
      let bits := bytesBits (r.drop nf)
      if r.length < nf ∨ bits.length < 24 * p then none
      else
        let warm := (List.range p).map (fun i => sext 24 (bitsNat ((bits.drop (24 * i)).take 24)))
        match winnowVals p k (n - p) warm.reverse (bits.drop (24 * p)) with
        | none => none
        | some (x, rest) =>
          let used := (bits.length - rest.length + 7) / 8
          let fl (i : Nat) : Nat := ((r.getD (if const then 0 else i) 0).toNat)
          some ((x.zipIdx).map (fun q => iword (q.1 * 256) ||| word (fl q.2)), r.drop (nf + used))

/-- Decode the blocks of an entry of n samples. -/
def winnowEntryDecode : Nat → Nat → List Byte → Option (List Word × List Byte)
  | 0, _, _ => none
  | f + 1, n, l =>
    if n = 0 then some ([], l)
    else match winnowDecode (min 64 n) l with
      | none => none
      | some (w, r) => match winnowEntryDecode f (n - min 64 n) r with
        | none => none
        | some (w', r') => some (w ++ w', r')

/-! ### The archive container (R293 to R295) -/

def pad4 (l : List Byte) : List Byte := l ++ List.replicate ((4 - l.length % 4) % 4) 0
def pad8 (l : List Byte) : List Byte := l ++ List.replicate ((8 - l.length % 8) % 8) 0

def arcHead (level base : Nat) : List Byte := [0x4B, 0x41, 0x52, 0x43, 0x01] ++ leBytes 1 level ++ leBytes 2 0 ++ leBytes 8 base
def arcEnd : List Byte := leBytes 12 0

/-- A stream is one block of a type, and decodes to the input. -/
def arcSound (ty : Nat) (l d : List Byte) : Bool :=
  decide ((d.headD 0).toNat % 8 = 1 + 2 * ty) && decide (inflate d = some l)

/-- The DEFLATE stream of a block's input: the shortest of the engine's coding with dynamic codes, its coding with fixed codes and stored
blocks (R294); of equal lengths the first of these (DESIGN CHOICE, log entry 208). -/
def arcCode (level : Nat) (l : List Byte) : List Byte :=
  let c (fixed : Bool) : List (List Byte) :=
    (if arcSound (if fixed then 1 else 2) l (Config.archiveBytes fixed level l) then [Config.archiveBytes fixed level l] else [])
  let shorter (a b : List Byte) : List Byte := if b.length < a.length then b else a
  match c false ++ c true ++ [storedBytes l] with
  | [] => storedBytes l
  | a :: r => r.foldl shorter a

/-- One block record. -/
def arcBlock (level : Nat) (l : List Byte) : List Byte :=
  let d := arcCode level l
  pad4 (leBytes 4 l.length ++ leBytes 4 d.length ++ leBytes 4 (crc32 l) ++ d)

/-- Code blocks into room bytes, keeping 12 for the end record, and at most `n` blocks: bytes, input left, blocks made,
whether the region was full. -/
def arcRun (level room : Nat) : Nat → List Byte → List (List Byte) → Nat → List Byte × Nat × Bool
  | 0, out, _, k => (out, k, false)
  | _, out, [], k => (out, k, false)
  | n + 1, out, b :: r, k =>
    let x := arcBlock level b
    if room < out.length + x.length + 12 then (out, k, true) else arcRun level room n (out ++ x) r (k + 1)

/-- A whole container, without a limit. -/
def arcWhole (level base : Nat) (l : List Byte) : List Byte :=
  let bs := chunk64 65536 (l.length + 1) l
  bs.foldl (fun a b => a ++ arcBlock level b) (arcHead level base) ++ arcEnd

/-! ### Register jobs (R300 to R302) -/

def jobBank (a : Nat) : Nat := a / 2 ^ 21
def jobOff (a : Nat) : Nat := a % 2 ^ 21

/-- The parameter check of a job at GO. -/
def jobCheck (s : State) (j : Job) (ok : Bool) : Nat :=
  if !ok ∨ 12 ≤ jobBank j.src ∨ 12 ≤ jobBank j.dst ∨ j.slen = 0 ∨ j.dlen = 0 ∨ 2 ^ 21 < jobOff j.src + j.slen ∨
      2 ^ 21 < jobOff j.dst + j.dlen then stBadParam
  else if bankOwner s (jobBank j.src) ≠ ownCmp ∨ bankOwner s (jobBank j.dst) ≠ ownCmp then stNotPermitted
  else stOk

/-- A job has ended: its registers, counters and causes. -/
def jobEnd (e : Eng) (status : Nat) : Eng := { e with job := none, done := true, status := status }
def jobRaise (bit status : Nat) (s : State) : State :=
  let s := raise .cmp 0 bit s
  memSync (if status = stOk then s else raise .cmp 0 3 (bump 0xC03C 1 s))

/-- Start a job on an engine, or fail it at GO. -/
def jobStart (j : Job) (st bit : Nat) (set : Eng → State → State) (s : State) : State :=
  if st = stOk then set { job := some j } s else jobRaise bit st (set (jobEnd {} st) s)

def setArc (e : Eng) (s : State) : State := { s with arc := e }
def setDcmp (e : Eng) (s : State) : State := { s with dcmp := e }

/-- The latched registers of an archive job, and of a decompressor job. -/
def arcJob (s : State) : Job := ⟨(rg s 0xC060).toNat, (rg s 0xC064).toNat, (rg s 0xC068).toNat, (rg s 0xC06C).toNat, af s 0xC070 4 4, 0, 0, false⟩
def dcmpJob (s : State) : Job := ⟨(rg s 0xC080).toNat, (rg s 0xC084).toNat, (rg s 0xC088).toNat, (rg s 0xC08C).toNat, af s 0xC090 4 2,
  (rg s 0xC0A0).toNat, (rg s 0xC0A4).toNat, false⟩

/-- A firmware job, or an offload's, has run n blocks and ended with a status (R299, R301): the counter of its engine. -/
def fwJob (a n st : Nat) (s : State) : State :=
  let s := bump a n s
  if st = stOk then s else raise .cmp 0 3 (bump 0xC03C 1 s)

/-- Blocks of 65,536 bytes. -/
def arcCount (l : List Byte) : Nat := (l.length + 65535) / 65536

/-- A write of ARC_CTRL. -/
def arcCtrl (w : Word) (s : State) : State :=
  if s.arc.job.isSome then
    let s := if bit w 1 then { s with arc := { s.arc with job := s.arc.job.map (fun j => { j with cancel := true }) } } else s
    if bit w 0 ∨ bit w 1 = false then pgError .cmp 0 stBusy s else s
  else
    let s := setRg 0xC070 (w &&& 0xF0#32) s
    if bit w 0 then
      let j := arcJob s
      jobStart j (jobCheck s j (decide (1 ≤ j.par) && decide (j.par ≤ 9) && decide (256 ≤ j.dlen))) 0 setArc s
    else s

/-- A write of DCMP_CTRL. -/
def dcmpCtrl (w : Word) (s : State) : State :=
  if s.dcmp.job.isSome then
    let s := if bit w 1 then { s with dcmp := { s.dcmp with job := s.dcmp.job.map (fun j => { j with cancel := true }) } } else s
    if bit w 0 ∨ bit w 1 = false then pgError .cmp 0 stBusy s else s
  else
    let s := setRg 0xC090 (w &&& 0x30#32) s
    if bit w 0 then
      let j := dcmpJob s
      jobStart j (jobCheck s j (decide (j.par ≤ 1))) 1 setDcmp s
    else s

def execArcGo (_ : Path) (w : Word) (s : State) : Host.Outcome State Fault Refusal := .next (direct .cmp 0 (arcCtrl (w ||| 1#32)) s)
def execArcCancel (_ : Path) (s : State) : Host.Outcome State Fault Refusal := .next (direct .cmp 0 (arcCtrl 2#32) s)
def execDcmpGo (_ : Path) (w : Word) (s : State) : Host.Outcome State Fault Refusal := .next (direct .cmp 0 (dcmpCtrl (w ||| 1#32)) s)
def execDcmpCancel (_ : Path) (s : State) : Host.Outcome State Fault Refusal := .next (direct .cmp 0 (dcmpCtrl 2#32) s)

/-- An archive job ends (R295, R298, R300): cancelled after a number of blocks, at the block with an uncorrectable word of its source, or
with what the region takes. -/
def arcFinish (blocks : Nat) (ecc : ReadEcc) (j : Job) (s : State) : State :=
  let ecc := eccRead (jobBank j.src) (jobOff j.src) j.slen ecc s
  let s := eccCorr ecc.corr s
  let l := memBytes s (jobBank j.src) (jobOff j.src) j.slen
  let bs := chunk64 65536 (l.length + 1) l
  let ueAt := if ecc.ue then ecc.off / 65536 else bs.length
  let cut := min ueAt (if j.cancel then min blocks bs.length else bs.length)
  let r := arcRun j.par j.dlen cut (arcHead j.par (jobOff j.src)) bs 0
  let ue := !r.2.2 && decide (r.2.1 = ueAt) && decide (ueAt < bs.length)
  let st := if r.2.2 then stOutFull else if ue then stHwFault else if r.2.1 < bs.length then stCancelled else stOk
  let out := r.1 ++ arcEnd
  let s := memStore (jobBank j.dst) (jobOff j.dst) out s
  let s := if ue then eccFound (jobBank j.src) (jobOff j.src + ecc.off) 2 s else s
  let e : Eng := { job := none, done := true, status := st, blocks := min r.2.1 65535, consumed := jobOff j.src + min l.length (65536 * r.2.1), produced := out.length }
  jobRaise 0 st (bump 0xC030 r.2.1 (setArc e s))

def execArcJobEnd (blocks : Nat) (ecc : ReadEcc) (s : State) : Host.Outcome State Fault Refusal := match s.arc.job with
  | some j => if live s then .next (arcFinish blocks ecc j s) else .next s
  | none => .next s

/-- What a decompressor run yields: status, RATIO, blocks, bytes decoded and checked, bytes of source read. -/
structure DcmpOut where
  st : Nat
  ratio : Bool := false
  blocks : Nat := 0
  out : List Byte := []
  used : Nat := 0

/-- How one block record ends: none where it decoded and checked; `l` are the bytes from the record on, `n` the output before it. The
output limit and the end of the destination stop it as soon as the output reaches them (R297), malformed data and a wrong length or
CRC at the place where they show (R298). -/
def dcmpBlock (lim dlen n inLen outLen : Nat) (l : List Byte) : Option Nat :=
  let data := (l.drop 12).take outLen
  let d := inflPart data
  let m := n + d.1.length
  if min lim dlen < m then some (if lim ≤ dlen then stLimit else stOutFull)
  else if d.2 = false ∨ data.length < outLen then some (if m = lim then stLimit else stBadParam)
  else if d.1.length ≠ inLen then some stBadParam
  else if crc32 d.1 ≠ leNat ((l.drop 8).take 4) then some stChecksum
  else none

/-- An uncorrectable word, given by its byte offset in the source, lies in n bytes from a position. -/
def ueIn (ue : Option Nat) (pos n : Nat) : Bool := match ue with
  | some o => decide (pos ≤ o) && decide (o < pos + n)
  | none => false

/-- Decode container blocks (R297, R298): `lim` output limit, `dlen` destination, `stop` blocks after which a cancel takes
effect, `ue` the offset of an uncorrectable word, which is reported before a limit (DESIGN CHOICE, log entry 220). -/
def dcmpRun (lim dlen : Nat) (stop ue : Option Nat) : Nat → List Byte → Nat → Nat → List Byte → DcmpOut
  | 0, _, pos, k, out => ⟨stBadParam, false, k, out, pos⟩
  | f + 1, l, pos, k, out =>
    let inLen := leNat (l.take 4)
    let outLen := leNat ((l.drop 4).take 4)
    if ueIn ue pos 12 then ⟨stHwFault, false, k, out, pos⟩
    else if 12 ≤ l.length ∧ inLen = 0 then ⟨stOk, false, k, out, pos + 12⟩
    else if out.length = lim then ⟨stLimit, false, k, out, pos⟩
    else if l.length < 12 then ⟨stBadParam, false, k, out, pos⟩
    else if stop = some k then ⟨stCancelled, false, k, out, pos⟩
    else if 64 * (outLen + 12) < inLen then ⟨stLimit, true, k, out, pos⟩
    else if ueIn ue pos (12 + outLen) then ⟨stHwFault, false, k, out, pos⟩
    else match dcmpBlock lim dlen out.length inLen outLen l with
      | some st => ⟨st, false, k, out, pos⟩
      | none =>
        let step := 12 + outLen + (4 - outLen % 4) % 4
        dcmpRun lim dlen stop ue f (l.drop step) (pos + step) (k + 1) (out ++ (inflPart ((l.drop 12).take outLen)).1)

/-- A whole container job. -/
def dcmpContainer (l : List Byte) (lim dlen : Nat) (stop ue : Option Nat) : DcmpOut :=
  if ueIn ue 0 16 then ⟨stHwFault, false, 0, [], 0⟩
  else if l.take 5 ≠ [0x4B, 0x41, 0x52, 0x43, 0x01] ∨ l.length < 16 then ⟨stBadParam, false, 0, [], 0⟩
  else dcmpRun lim dlen stop ue (l.length + 1) (l.drop 16) 16 0 []

/-- Directory entries' sample counts of a stook. -/
def stookCounts (l : List Byte) : List Nat :=
  (List.range (leNat ((l.drop 4).take 2))).map (fun i => leNat ((l.drop (32 + 8 * i + 2)).take 2))

/-- The sample counts of an entry's blocks. -/
def winnowSizes (n : Nat) : List Nat := (List.range ((n + 63) / 64)).map (fun i => min 64 (n - 64 * i))

/-- Decode blocks of given sample counts: their words, how many decoded, and the bytes left, none where a block is malformed. -/
def winnowAll : List Nat → List Byte → List Word → Nat → List Word × Nat × Option (List Byte)
  | [], l, w, k => (w, k, some l)
  | n :: r, l, w, k => match winnowDecode n l with
    | none => (w, k, none)
    | some (x, l') => winnowAll r l' (w ++ x) (k + 1)

/-- A Winnow job: an F3 stook written as F2 (R296, R297). Blocks that leave more than the padding of the last word do not cover exactly the
samples (R298). After malformed data the output is the header, the directory and the samples of the blocks that decoded (DESIGN CHOICE,
log entry 209). -/
def dcmpWinnow (l : List Byte) (lim dlen : Nat) (ue : Option Nat) : DcmpOut :=
  let ns := stookCounts l
  let f2 := 32 + 8 * ns.length + 4 * ns.foldl (· + ·) 0
  let own := 8 * leNat ((l.drop 2).take 2)
  if l.headD 0 ≠ 0x03 ∨ l.length < own ∨ own < 32 + 8 * ns.length then ⟨stBadParam, false, 0, [], 0⟩
  else if 64 * own < f2 then ⟨stLimit, true, 0, [], 0⟩
  else if ueIn ue 0 own then ⟨stHwFault, false, 0, [], 0⟩
  else if lim < f2 then ⟨stLimit, false, 0, [], 0⟩
  else if dlen < f2 then ⟨stOutFull, false, 0, [], 0⟩
  else
    let r := winnowAll (ns.flatMap winnowSizes) ((l.take own).drop (32 + 8 * ns.length)) [] 0
    let head := [0x02] ++ (l.drop 1).take 1 ++ leBytes 2 ((f2 + 7) / 8) ++ (l.drop 4).take (28 + 8 * ns.length)
    let out := head ++ r.1.flatMap (fun x => leBytes 4 x.toNat)
    match r.2.2 with
    | some rest => if rest.length < 8 then ⟨stOk, false, r.2.1, out, own⟩ else ⟨stBadParam, false, r.2.1, out, own⟩
    | none => ⟨stBadParam, false, r.2.1, if r.2.1 = 0 then [] else out, 0⟩

/-- The stops before which nothing of a block or stook is decoded: RATIO, a cancel at a block boundary, and the size stops of a Winnow
job (R297, R300). -/
def dcmpQuiet (fmt : Nat) (o : DcmpOut) : Bool :=
  o.ratio || decide (o.st = stCancelled) || (decide (fmt = 1) && (decide (o.st = stLimit) || decide (o.st = stOutFull)))

/-- A decompressor job ends (R297, R298): after a stop other than OK, the bytes that it may have written beyond PRODUCED are free
values. -/
def dcmpFinish (blocks : Nat) (ecc : ReadEcc) (j : Job) (s : State) : State :=
  let ecc := eccRead (jobBank j.src) (jobOff j.src) j.slen ecc s
  let s := eccCorr ecc.corr s
  let ue := if ecc.ue then some ecc.off else none
  let l := memBytes s (jobBank j.src) (jobOff j.src) j.slen
  let lim := if j.decl = 0 then j.limit else min j.decl j.limit
  let o := if j.par = 0 then dcmpContainer l lim j.dlen (if j.cancel then some blocks else none) ue
    else if j.cancel ∧ blocks = 0 then ⟨stCancelled, false, 0, [], 0⟩ else dcmpWinnow l j.limit j.dlen ue
  let i := s.freeIdx
  let s := memStore (jobBank j.dst) (jobOff j.dst) o.out s
  let rest := min j.dlen lim - o.out.length
  let s := if o.st = stOk ∨ dcmpQuiet j.par o then s
    else memStore (jobBank j.dst) (jobOff j.dst + o.out.length) ((List.range rest).map (fun k => Config.freeByte (i + k)))
      { s with freeIdx := i + rest }
  let s := if o.st = stHwFault then eccFound (jobBank j.src) (jobOff j.src + ecc.off) 2 s else s
  let e : Eng := { job := none, done := true, status := o.st, blocks := min o.blocks 65535, ratio := o.ratio, consumed := o.used, produced := o.out.length }
  jobRaise 1 o.st (bump 0xC034 o.blocks (setDcmp e s))

def execDcmpJobEnd (blocks : Nat) (ecc : ReadEcc) (s : State) : Host.Outcome State Fault Refusal := match s.dcmp.job with
  | some j => if live s then .next (dcmpFinish blocks ecc j s) else .next s
  | none => .next s

/-- ARC_STATUS and DCMP_STATUS. -/
def engStatus (e : Eng) : Nat := min 65535 e.blocks <<< 16 ||| bbit e.ratio 9 ||| bbit e.done 8 ||| e.status

end Sys2Proof.Machine
end

