-- ==== Sys2Proof/Machine/Queues.lean ====
section
/-! DEFINITION. The queues: admission, spill, overflow, waymarks, chaff records, rewinds and flushes (chapter 12). -/

namespace Sys2Proof.Machine

open Sys2Proof

def queue (s : State) (q : Nat) : Queue := tget {} s.queues q
def modQueue (q : Nat) (f : Queue → Queue) (s : State) : State := { s with queues := tmod {} s.queues q f }

/-- Fields of Q_q_CFG. -/
def qEn (s : State) (q : Nat) : Bool := bit (rg s (queCfgA q)) 31
def qReads (s : State) (q n : Nat) : Bool := bit (rg s (queCfgA q)) (23 + n)
def qSpen (s : State) (q : Nat) : Bool := bit (rg s (queCfgA q)) 22
def qSpill (s : State) (q : Nat) : Nat := af s (queCfgA q) 18 4
/-- Region in words: SIZE units of 8 KiB. -/
def qWords (s : State) (q : Nat) : Nat := 1024 * af s (queCfgA q) 9 9

/-- Words in use in the region, in the spill bank: those of the records that WM has not passed (R276). -/
def qUsed (x : Queue) (spill : Bool) : Nat :=
  (x.recs.filter (fun r => decide (r.spill = spill) && decide (x.wm < r.pos + r.len))).foldl (fun a r => a + r.len) 0

/-- Q_q_STATUS.EMPTY (R287). -/
def qEmpty (x : Queue) : Bool := decide (x.wm = x.wp)

/-- The position after the records discarded under a reader that stands at p (R285). -/
def pastGone (l : List Rec) (p : Nat) : Nat := l.foldl (fun a r => if r.pos = a ∧ r.tag = .gone then r.pos + r.len else a) p

/-- STR_s_LOST of a stream. -/
def strLostA (i : Nat) : Nat := 0xB418 + 0x20 * i

/-! ### Readers -/

/-- Relay ports and their lanes (R338). -/
def portLane (p : Nat) : Nat := match p with
  | 0 => 2
  | 1 => 3
  | 2 => 6
  | _ => 7
def rteCfgA (p : Nat) : Nat := 0x18040 + 0x10 * p
def portEn (s : State) (p : Nat) : Bool := bit (rg s (rteCfgA p)) 31
def portQueue (s : State) (p : Nat) : Nat := af s (rteCfgA p) 16 4
def portUp (s : State) (p : Nat) : Nat := af s (rteCfgA p) 8 3

/-- The other lane of a pair (R14). -/
def pairLane (n : Nat) : Nat := if n % 2 = 0 then n + 1 else n - 1

/-- The lane is UP or DEGRADED and its partner advertises PATH (R308, R339). -/
def laneOpen (s : State) (n : Nat) : Bool := laneUp s n && (lane s n).lk.peerPath

/-- The lane that reads a port's relay queue now (R338). -/
def portReader (s : State) (p : Nat) : Nat :=
  let u := portUp s p
  if bit (rg s (rteCfgA p)) 12 && !laneOpen s u then pairLane u else u

/-- The relay port a queue is given over to. -/
def relayPort (s : State) (q : Nat) : Option Nat := (List.range 4).find? (fun p => portEn s p && decide (portQueue s p = q))

/-- Lane n reads queue q: by READERS, or as the reader of a relay port. -/
def reads (s : State) (q n : Nat) : Bool := qReads s q n || (match relayPort s q with
  | some p => decide (portReader s p = n)
  | none => false)

def rdr (s : State) (q n : Nat) : Rdr := tget {} (queue s q).rdrs n
/-- The reader, past the records discarded where it stands. -/
def rdrNow (s : State) (q n : Nat) : Rdr := { rdr s q n with rd := pastGone (queue s q).recs (rdr s q n).rd }
def modRdr (q n : Nat) (f : Rdr → Rdr) (s : State) : State := modQueue q (fun x => { x with rdrs := tmod {} x.rdrs n f }) s

/-- A reader whose lane is not open any more, or that the configuration removes, is inside no record and owes nothing (R277, R343). -/
def rdrStop (q n : Nat) (s : State) : State := modRdr q n (fun r => { r with off := 0, owe := 0 }) s

/-! ### Chaff records (R269 to R271) -/

/-- The 48 bytes of a chaff record. -/
def chaffBytes (c : Chaff) : List Byte :=
  leBytes 1 8 ++ leBytes 1 (c.stream % 32 ||| bbit c.stby 6) ++ leBytes 2 6 ++ leBytes 1 c.cause ++
    leBytes 1 (c.scope ||| bbit c.all 6 ||| bbit c.wide 7) ++ leBytes 2 c.g ++ leBytes 6 c.first ++ leBytes 2 0 ++
    leBytes 6 c.last ++ leBytes 2 0 ++ leBytes 12 c.tF ++ leBytes 12 c.tL

/-- A loss continues an entry's range: its stooks or segments, or for missing samples their grid indices (R270). -/
def chaffNext (e c : Chaff) : Bool :=
  if c.scope = 1 then decide (e.rc = c.rc) && decide (e.k1 = c.k0)
  else decide (e.first ≤ c.first) && decide (c.first ≤ e.last + 1)

/-- A loss joins an entry that no reader has begun to send, without a gap (R270). -/
def chaffJoins (e c : Chaff) : Bool :=
  !e.begun && !e.all && decide (e.stream = c.stream) && decide (e.scope = c.scope) && decide (e.g = c.g) &&
    decide (e.cause = c.cause) && chaffNext e c

/-- The same stream, or the same plan for scope 2 (R271). -/
def chaffAkin (e c : Chaff) : Bool :=
  !e.begun && !e.all && decide (e.stream = c.stream) && decide ((e.scope = 2) = (c.scope = 2))

/-- Where an entry stands once a loss is merged into it: at the waymark after the discard, after a WORD flush at the word after the QRESYNC
word; a loss of inputs discards nothing and leaves it (R270, R271). -/
def chaffPos (wm : Nat) (e c : Chaff) : Nat := if c.cause = 5 then e.pos else if c.cause = 3 then c.pos else wm

/-- An entry with a further loss added, and one widened by a loss without a place of its own. -/
def chaffExtend (wm : Nat) (e c : Chaff) : Chaff :=
  { e with last := max e.last c.last, tL := max e.tL c.tL, k1 := max e.k1 c.k1, stby := e.stby || c.stby, pos := chaffPos wm e c }
def chaffWiden (wm : Nat) (e c : Chaff) : Chaff :=
  { e with
    wide := true, g := if e.g = c.g then e.g else 0xFFFF, first := min e.first c.first, last := max e.last c.last,
    tF := min e.tF c.tF, tL := max e.tL c.tL, stby := e.stby || c.stby, pos := chaffPos wm e c }

/-- Change the last entry of a list that meets a test. -/
def updLast {α : Type} (p : α → Bool) (f : α → α) (l : List α) : List α :=
  (l.reverse.foldl (fun (a : List α × Bool) x => if !a.2 && p x then (f x :: a.1, true) else (x :: a.1, a.2)) ([], false)).1

/-- An ALL entry over a span of instants (R271). -/
def ovfOf (q : Nat) (c : Chaff) : Chaff := { c with stream := q, first := 0, last := 0, g := 0xFFFF, all := true, wide := true }

/-- The entry an overflow loss widens. -/
def ovfWiden (e c : Chaff) : Chaff := { e with tF := min e.tF c.tF, tL := max e.tL c.tL }

/-- Record a loss in a queue's chaff store (R270, R271). -/
def chaffAdd (q : Nat) (c : Chaff) (s : State) : State :=
  let x := queue s q
  if x.chaff.any (fun e => chaffJoins e c) then
    modQueue q (fun y => { y with chaff := updLast (fun e => chaffJoins e c) (fun e => chaffExtend x.wm e c) y.chaff }) s
  else if x.chaff.length < 32 then
    raise .que 0 3 (bump 0xB024 1 (modQueue q (fun y => { y with chaff := y.chaff ++ [c] }) s))
  else if x.chaff.any (fun e => chaffAkin e c) then
    modQueue q (fun y => { y with chaff := updLast (fun e => chaffAkin e c) (fun e => chaffWiden x.wm e c) y.chaff }) s
  else
    let s := setRg 0xB048 (rg s 0xB048 ||| word (2 ^ (16 + q))) s
    if x.chaff.any (fun e => e.all && !e.begun) then
      modQueue q (fun y => { y with chaff := updLast (fun e => e.all && !e.begun) (fun e => { ovfWiden e c with pos := chaffPos x.wm e c }) y.chaff }) s
    else match x.ovf with
      | some e => modQueue q (fun y => { y with ovf := some (ovfWiden e c) }) s
      | none => raise .que 0 3 (bump 0xB024 1 (modQueue q (fun y => { y with ovf := some (ovfOf q c) }) s))

/-- Entries that WM has passed: one that no reader has begun to send moves with it; a free place takes the overflow entry
(R271). -/
def chaffSettle (q : Nat) (s : State) : State :=
  modQueue q (fun x =>
    let l := x.chaff.map (fun e => if e.begun then e else { e with pos := max e.pos x.wm })
    match x.ovf with
    | some e => if l.length < 32 then { x with chaff := l ++ [{ e with pos := max e.pos x.wm }], ovf := none } else { x with chaff := l }
    | none => { x with chaff := l }) s

/-! ### Discards -/

/-- The chaff record of a lost queue record, none for QRESYNC words. -/
def lossOf (cause pos : Nat) (r : Rec) : Option Chaff := match r.tag with
  | .stook i sq a b st => some { stream := i, cause := cause, scope := 0, first := sq, last := sq, tF := a, tL := b, stby := st, pos := pos }
  | .seg p n a b => some { stream := p, cause := cause, scope := 2, first := n, last := n, tF := a, tL := b, pos := pos }
  | _ => none

/-- Count a discarded stook (R281). -/
def countLost (r : Rec) (s : State) : State := match r.tag with
  | .stook i _ _ _ _ => bump (strLostA i) 1 (bump 0xB028 1 s)
  | _ => s

def qPos32 (p : Nat) : Nat := p % 2 ^ 32

/-- A QRESYNC word (R272). -/
def resyncBytes (reason ser : Nat) : List Byte := [0x0F, 0, 1, 0] ++ leBytes 1 reason ++ leBytes 1 0 ++ leBytes 2 ser

/-- A reader is inside a record that is still held (R282). -/
def inside (x : Queue) (r : Rdr) : Bool := decide (0 < r.off) && x.recs.any (fun y => decide (y.pos = r.rd))

/-- The lanes that read a queue now (R277). -/
def readersUp (s : State) (q : Nat) : List Nat := (List.range 8).filter (fun n => reads s q n && laneOpen s n)

/-- Place every reader that stands before a position at it, but one inside a record still held; one that was inside a discarded
record owes a QRESYNC word. A reader whose lane is away keeps its place until it returns (R278). -/
def readersTo (q p reason : Nat) (s : State) : State :=
  forL (readersUp s q) (fun n a =>
    let r := rdr a q n
    if r.rd < p ∧ inside (queue a q) r = false then
      modRdr q n (fun r => { r with rd := p, off := 0, ack := max r.ack p, owe := if 0 < r.off then reason else r.owe }) a
    else a) s

/-- The queue leaves spill when WM has passed every record in the bank (R280). -/
def spillEnd (q : Nat) (s : State) : State :=
  if (queue s q).spilling ∧ qUsed (queue s q) true = 0 then memSync (modQueue q (fun x => { x with spilling := false }) s) else s

/-- Discard the oldest record of a queue for overflow (R281): the first one that WM has not passed. -/
def discardOldest (q : Nat) (s : State) : State :=
  match (queue s q).recs.find? (fun r => decide ((queue s q).wm < r.pos + r.len)) with
  | none => s
  | some r =>
    let p := r.pos + r.len
    let s := modQueue q (fun x => { x with recs := x.recs.filter (fun y => decide (y.pos ≠ r.pos)), wm := p, lde := p }) s
    let s := spillEnd q (readersTo q p 2 (countLost r s))
    match lossOf 1 p r with
    | some c => chaffSettle q (chaffAdd q c s)
    | none => chaffSettle q s

/-- The record fits the region, or the spill bank. -/
def fitsRegion (s : State) (q len : Nat) : Bool := decide (qUsed (queue s q) false + len ≤ qWords s q)
def fitsSpill (s : State) (q len : Nat) : Bool :=
  qSpen s q && decide (bankOwner s (qSpill s q) = ownQue) && decide (qUsed (queue s q) true + len ≤ 262144)

/-- Where a record goes now: none where neither store takes it (R280). -/
def place (s : State) (q len : Nat) : Option Bool :=
  if (queue s q).spilling then (if fitsSpill s q len then some true else if fitsRegion s q len then some false else none)
  else if fitsRegion s q len then some false
  else if fitsSpill s q len then some true else none

/-- Make room by discarding from WM (R281): at most as many records as the queue holds. -/
def makeRoom (q len : Nat) : Nat → State → State
  | 0, s => s
  | n + 1, s => if (place s q len).isSome then s else makeRoom q len n (discardOldest q s)

/-- HIWAT is reached (R287). -/
def hiwat (s : State) (q : Nat) : Bool :=
  let h := (rg s (0xB218 + 0x20 * q)).toNat
  decide (h ≠ 0) && decide (h ≤ qUsed (queue s q) false + qUsed (queue s q) true)

/-- Spilled words lie in the bank, at places that the manual does not state (DESIGN CHOICE, log entry 205). -/
def spillWrite (b pos : Nat) (bytes : List Byte) (s : State) : State :=
  forN (bytes.length / 8) (fun i a =>
    memPut (262144 * b + Config.spillPlace (pos + i) % 262144) (leNat ((bytes.drop (8 * i)).take 8)) a) s

/-- Commit a record at WP. -/
def commitRec (q : Nat) (tag : RecTag) (spill : Bool) (bytes : List Byte) (s : State) : State :=
  let was := hiwat s q
  let l := bytes.length / 8
  let b := qSpill s q
  let s := if spill then spillWrite b (queue s q).wp bytes s else s
  let s := modQueue q (fun x => { x with recs := x.recs ++ [⟨tag, x.wp, l, spill, bytes, b, x.inj⟩], wp := x.wp + l, inj := 0 }) s
  let s := bump 0xB020 1 s
  if !was && hiwat s q then raise .que 0 2 s else s

/-- A reader has begun to send the record and has not completed it. -/
def held (x : Queue) (r : Rec) : Bool := x.rdrs.any (fun p => decide (p.2.rd = r.pos) && decide (0 < p.2.off))

/-- A pending STOOK flush, a STOOK flush now: every committed record goes but those a reader is inside (R282). -/
def flushStook (q : Nat) (s : State) : State :=
  let x := queue s q
  let gone := x.recs.filter (fun r => !held x r)
  let s := modQueue q (fun y => { y with
    recs := y.recs.filter (held x), wm := y.wp, lde := y.wp, flush := false }) s
  let s := forL (readersUp s q) (fun n a => modRdr q n (fun r => if 0 < r.off then r else { r with rd := x.wp, ack := x.wp }) a) s
  let s := spillEnd q (chaffSettle q s)
  let s := gone.foldl (fun a r => match lossOf 2 (queue a q).wm r with
    | some c => chaffAdd q c (countLost r a)
    | none => a) s
  raise .que 0 4 s

/-- Admit a record whole (R275, R280, R281): `raw` is the size it reserves, in words. -/
def qAdmit (q : Nat) (tag : RecTag) (raw : Nat) (bytes : List Byte) (s : State) : State :=
  let full := (place s q raw).isNone
  let s := makeRoom q raw ((queue s q).recs.length + 1) s
  let s := if full then raise .que 0 0 (setRg 0xB048 (rg s 0xB048 ||| word (2 ^ q)) s) else s
  let s := match place s q raw with
    | some sp =>
      let s := if sp && !(queue s q).spilling then raise .que 0 1 (bump 0xB02C 1 (modQueue q (fun x => { x with spilling := true }) s)) else s
      commitRec q tag sp bytes s
    | none =>
      let r : Rec := { tag := tag, pos := (queue s q).wp, len := 0 }
      match lossOf 1 (queue s q).wm r with
      | some c => chaffAdd q c (countLost r s)
      | none => s
  if (queue s q).flush then flushStook q s else s

/-! ### Release and rewind (R277, R278) -/

/-- The record boundary at or below a position. -/
def boundary (x : Queue) (p : Nat) : Nat :=
  if x.wp ≤ p then x.wp else x.recs.foldl (fun a r => if r.pos ≤ p then max a r.pos else a) x.wm

/-- An entry without the lanes that have sent it: what stays of it from its first sending on. -/
def chaffKey (e : Chaff) : Chaff := { e with sent := [], begun := true }

/-- A lane has sent the entry in a packet that is not acknowledged. -/
def chaffOut (s : State) (q n : Nat) (e : Chaff) : Bool :=
  (lane s n).lk.un.any (fun r => decide (r.q = q) && decide (r.chaff = some (chaffKey e)))

/-- WM advances to the lowest acknowledged pointer of the readers that are UP (R277), and the entries it has passed that all of
them have sent are freed (R271). -/
def release (q : Nat) (s : State) : State :=
  if pertOn s .que 0 1 ∧ pertArg s .que 0 = q then s else
  let up := readersUp s q
  match up with
  | [] => s
  | n :: l =>
    let ack (m : Nat) : Nat := pastGone (queue s q).recs (rdr s q m).ack
    let p := l.foldl (fun a m => min a (ack m)) (ack n)
    let w := max (queue s q).wm (boundary (queue s q) p)
    let s := modQueue q (fun x => { x with
      wm := w, recs := x.recs.filter (fun r => decide (w < r.pos + r.len) || held x r),
      chaff := x.chaff.filter (fun e => decide (w ≤ e.pos) || !e.begun || !up.all (fun n => e.sent.contains n && !chaffOut s q n e)) }) s
    spillEnd q (chaffSettle q s)

/-- The full position that a 32-bit target names, nearest to WM: below 0 where it lies before the first word the queue ever held. -/
def fullPos (x : Queue) (p : Nat) : Int := (x.wm : Int) + sext 32 ((p + 2 ^ 32 - x.wm % 2 ^ 32) % 2 ^ 32)

/-- Place a reader; it sends again every chaff entry from there on (R271, R278). -/
def readerAt (q n p : Nat) (s : State) : State :=
  let s := modRdr q n (fun r => { r with rd := p, off := 0, owe := 0 }) s
  modQueue q (fun x => { x with chaff := x.chaff.map (fun e => if p ≤ e.pos then { e with sent := e.sent.filter (· ≠ n) } else e) }) s

/-- A rewind (R278): its status. -/
def rewind (q n : Nat) (p : Int) (s : State) : Nat × State :=
  let x := queue s q
  let isB := decide (p = x.wp) || x.recs.any (fun r => decide (r.pos = p))
  if x.wp < p then (stBadParam, s)
  else if x.wm ≤ p then (if isB || decide (p = x.wm) then (stOk, bump 0xB038 1 (readerAt q n p.toNat s)) else (stBadParam, s))
  else if x.lde ≤ p then (stOk, bump 0xB038 1 (readerAt q n x.wm s))
  else (stLost, raise .que 0 6 (bump 0xB03C 1 (bump 0xB038 1 (readerAt q n x.wm s))))

/-- A reader starts at WM (R276, R343). -/
def rdrStart (q n : Nat) (s : State) : State :=
  let w := (queue s q).wm
  modRdr q n (fun r => { r with ack := w }) (readerAt q n w s)

/-- A reader whose lane returns: the link layer rewinds it from the place that was acknowledged when the lane was lost, and it starts
at WM; one that stands there already needs no rewind (R278, R343). -/
def rdrReturn (q n : Nat) (s : State) : State :=
  let r := rdr s q n
  let w := (queue s q).wm
  if r = {} ∨ (r.rd = w ∧ r.off = 0 ∧ r.ack = w) then rdrStart q n s else rdrStart q n (rewind q n (if r.ack < w then r.ack else w) s).2

/-- QUE_RWD.GO for the selected reader. -/
def rwdGo (s : State) : State :=
  let q := af s 0xB04C 0 4
  let n := af s 0xB04C 4 4
  let p := fullPos (queue s q) (rg s 0xB058).toNat
  let r := if 8 ≤ n ∨ reads s q n = false then (stBadParam, s) else rewind q n p s
  let s := r.2
  { s with rwdSt := 0x100 + r.1 }

def execQueRwdGo (_ : Path) (s : State) : Host.Outcome State Fault Refusal := .next (direct .que 0 rwdGo s)

/-! ### Flushes (R282 to R284) -/

/-- The producer of the queue is writing a record now: an offload into it is running. -/
def queWriting (s : State) (q : Nat) : Bool :=
  (List.range 8).any (fun p => match (tget ({} : Plan) s.plans p).offl with
    | some o => decide (o.q = q)
    | none => false)

/-- A flush request with MODE STOOK. -/
def flushReq (q : Nat) (s : State) : State :=
  if (queue s q).flush then pgError .que 0 stBusy s
  else if queWriting s q then modQueue q (fun x => { x with flush := true }) s
  else flushStook q s

def execQueFlushStook (_ : Path) (q : Nat) (s : State) : Host.Outcome State Fault Refusal :=
  .next (if q < 16 then direct .que 0 (flushReq q) s else s)

def execStookFlushEffect (q : Nat) (s : State) : Host.Outcome State Fault Refusal :=
  if live s && (queue s q).flush then .next (flushStook q s) else .next s

/-- The rest of a segment being written into the queue goes to a sink: it is lost with the rest, after the QRESYNC word (R283). -/
def flushSink (q : Nat) (s : State) : State :=
  { s with plans := s.plans.map (fun p => (p.1, { p.2 with
      offl := p.2.offl.map (fun o => if o.q = q then { o with sink := some (queue s q).wp } else o) })) }

/-- A flush with MODE WORD (R283): unsent entries move to the new WM, the records' own chaff stands after the QRESYNC word. -/
def flushWord (q : Nat) (s : State) : State :=
  let gone := (queue s q).recs
  let s := modQueue q (fun x =>
    let w := resyncBytes 1 (x.ser + 1)
    { x with
      recs := [{ tag := .resync, pos := x.wp, len := 1, bytes := w }], wm := x.wp, lde := x.wp, wp := x.wp + 1, ser := x.ser + 1, flush := false }) s
  let s := forL (readersUp s q) (fun n a => let w := (queue a q).wm; modRdr q n (fun _ => { rd := w, ack := w }) a) s
  let s := flushSink q (spillEnd q (chaffSettle q s))
  let s := gone.foldl (fun a r => match lossOf 3 (queue a q).wp r with
    | some c => chaffAdd q c (countLost r a)
    | none => a) s
  raise .que 0 4 s

def execQueFlushWord (_ : Path) (q : Nat) (s : State) : Host.Outcome State Fault Refusal :=
  .next (if q < 16 then direct .que 0 (flushWord q) s else s)

/-- A write of QUE_FLUSH. -/
def flushWrite (w : Word) (s : State) : State :=
  if bit w 8 = false then s
  else match fld w 4 2 with
    | 0 => flushReq (fld w 0 4) s
    | 1 => flushWord (fld w 0 4) s
    | _ => pgError .que 0 stBadParam s

/-- A record found damaged in queue or spill memory is discarded for every reader, which passes over its place (R285); the finding
itself is counted where the word is read (R377). -/
def recUe (q : Nat) (r : Rec) (s : State) : State :=
  let e := r.pos + r.len
  let s := modQueue q (fun x => { x with
    recs := x.recs.map (fun y => if y.pos = r.pos then { y with tag := .gone, bytes := [] } else y), lde := e,
    rdrs := x.rdrs.map (fun p => if p.2.rd = r.pos ∧ 0 < p.2.off then (p.1, { p.2 with rd := e, off := 0, owe := 3 }) else p) }) s
  match lossOf 4 (max r.pos (queue s q).wm) r with
  | some c => chaffAdd q c (countLost r s)
  | none => countLost r s

end Sys2Proof.Machine
end

