-- ==== Sys2Proof/Machine/Capture.lean ====
section
/-! DEFINITION. Triggers, trigger lines, capture plans, offload and glean units (chapter 11). -/

namespace Sys2Proof.Machine

open Sys2Proof

/-! ### Channel sets, lanes -/

/-- Channels of a sheaf mask and a channel mask, ascending (R246, R255, R261). -/
def chset (shf chm : Nat) : List Nat := (List.range 512).filter (fun g => shf.testBit (g / 32) && chm.testBit (g % 32))

def modLane (n : Nat) (f : Lane → Lane) (s : State) : State := { s with lanes := tmod {} s.lanes n f }
def modLk (n : Nat) (f : Lk → Lk) (s : State) : State := modLane n (fun x => { x with lk := f x.lk }) s

/-- Low 32 bits of the hub's identity: ORIGIN of what it creates (R244, R324). -/
def origin : Nat := Config.ident.toNat % 2 ^ 32

/-- The TRIG payload (R326). -/
def trigBody (k : TrigPkt) : List Byte :=
  leBytes 1 (k.line % 8 ||| (k.ttl % 16) <<< 3) ++ leBytes 1 0 ++ leBytes 2 k.id ++ leBytes 4 k.origin ++ leBytes 12 k.inst

/-- The first lane of a mask that carries packets. -/
def firstUp (s : State) (mask : Nat) : Option Nat := (List.range 8).find? (fun n => mask.testBit n && laneUp s n)

/-- Queue a TRIG packet on the lanes of a mask that carry packets; a forwarded one keeps its header but for HOPS (R245, R324), and
the credit it owes goes with the first. -/
def trigSend (mask : Nat) (via : Option (Nat × Nat)) (k : TrigPkt) (s : State) : State :=
  let f := firstUp s mask
  forN 8 (fun n a => if mask.testBit n ∧ laneUp a n then
    let v := if f = some n then via else none
    let p : Pkt := { ty := 5, lane := if via.isSome then k.lane else n, origin := k.creator,
                     hops := k.hops, body := trigBody k, via := v }
    modLk n (fun x => { x with trigs := x.trigs ++ [p] }) a
    else a) s

/-! ### Plans -/

def plan (s : State) (p : Nat) : Plan := tget {} s.plans p
def modPlan (p : Nat) (f : Plan → Plan) (s : State) : State := { s with plans := tmod {} s.plans p f }

/-- The plan's channel set, region, capacity S and rate (R246). -/
def planSet (s : State) (p : Nat) : List Nat := chset (af s (cpA p 4) 0 16) (rg s (cpA p 8)).toNat
def planNbk (s : State) (p : Nat) : Nat := af s (cpA p 0) 4 4
def planCap (nbk nch : Nat) : Nat := if nch = 0 then 0 else 2 * (nbk * 2 ^ 18 / nch)
def planS (s : State) (p : Nat) : Nat := planCap (planNbk s p) (planSet s p).length
def planOdr (s : State) (p : Nat) : Nat := chOdr s ((planSet s p).headD 0)
def planRc (s : State) (p : Nat) : Nat := rateCode (chProfW s ((planSet s p).headD 0))
def planPre (s : State) (p : Nat) : Nat := af s (cpA p 0x10) 0 24
def planPost (s : State) (p : Nat) : Nat := (rg s (cpA p 0x14)).toNat

/-- The next number to be stored (R249): the least over the set. -/
def planNext (x : Plan) : Nat := match x.nx with
  | [] => x.kFirst
  | p :: r => r.foldl (fun a q => min a q.2) p.2

/-- The plan number of the first grid index at or after an instant (R249). -/
def planIdx (s : State) (p : Nat) (t : Int) : Nat := ((gridFirst (planOdr s p) t : Int) - (plan s p).off).toNat

/-- How many multiples of 2^d lie below an index. -/
def stepsUp (d : Nat) (k : Int) : Int := -((-k) / 2 ^ d)

/-- Level and stored number of a plan number: a run stores the grid indices that are multiples of 2^d (R253). -/
def levelAt (x : Plan) (k : Nat) : Nat × Nat := match x.lv.find? (fun e => decide (e.f ≤ k)) with
  | some e => (e.d, e.n + (stepsUp e.d (k + e.off) - stepsUp e.d (e.f + e.off)).toNat)
  | none => (0, 0)

/-- Stored number of the window's first sample, and stored samples of the window so far. -/
def winFirst (s : State) (p : Nat) : Nat := (levelAt (plan s p) ((plan s p).k0 - planPre s p)).2
def winStored (s : State) (p : Nat) : Nat :=
  let x : Plan := plan s p
  (levelAt x (min (planNext x) x.wEnd)).2 - winFirst s p

/-- Trigger freezes of a plan end when it leaves POST, on every channel that one holds (R184, R251). -/
def unfreeze (p : Nat) (s : State) : State :=
  forN 512 (fun g a => if (tap a g).frz.all (fun q => decide (q.1 ≠ p)) then a else modTap g (fun t => { t with frz := t.frz.filter (fun q => decide (q.1 ≠ p)) }) a) s

/-- A plan ends as HELD (R248). -/
def planHeld (p cause : Nat) (trunc : Bool) (s : State) : State :=
  let s := unfreeze p s
  let s := modPlan p (fun x => { x with st := .held, cause := cause, trunc := x.trunc || trunc, wEnd := if trunc then min x.wEnd (planNext x) else x.wEnd }) s
  let s := if trunc then raise .acq 0 3 (bump 0xD034 1 s) else s
  memSync (raise .acq 0 1 s)

/-- A plan returns to IDLE. -/
def planIdle (p cause : Nat) (s : State) : State := memSync (modPlan p (fun _ => { cause := cause }) (unfreeze p s))

/-- DISARM or SAFE entry: cause 2 or 3 (R248). -/
def planStop (p cause : Nat) (s : State) : State := match (plan s p).st with
  | .filling => planIdle p cause s
  | .ready => planIdle p cause s
  | .post => planHeld p cause true s
  | _ => s

/-- The end of the grid indices that a pass yields: instants before its tick less the window and 4 us (R218). -/
def gridLast (s : State) (g : Nat) (tick : Int) : Nat :=
  let lim := tick - ((winA (chProfW s g) (chBank s g) : Int) * 2 ^ 64 / tauHz) - ns64 4000
  gridFirst (chOdr s g) lim

/-- A channel of a plan that gives outputs: it is not OFF or in FAULT and has given one since it was armed. -/
def givesOut (s : State) (g : Nat) : Bool := chActive s g && (tap s g).gave.isSome && (tap s g).nextK.isSome

/-- First index that the next DSP pass yields: of a channel that gives outputs, its next; of another, the one after those of the last
pass that started. -/
def nextOut (s : State) (g : Nat) : Nat :=
  let idle := gridLast s g (tickTime s (s.frame - s.dsp.held.length))
  if givesOut s g then (tap s g).nextK.getD idle else idle

/-- A plan starts to fill from the first output of the next DSP pass, its stored samples counted from n (R246, R248). The channels
that give outputs decide; with none, the grid does. -/
def planFill (p n : Nat) (s : State) : State :=
  let set := planSet s p
  let src := if set.any (givesOut s) then set.filter (givesOut s) else set
  let k := src.foldl (fun a g => max a (nextOut s g)) 0
  let rc := planRc s p
  modPlan p (fun _ => { st := .filling, rc := rc, kFirst := k, lv := [⟨k, 0, n, rc, 0⟩], nx := set.foldl (fun t g => tset 0 t g k) [] }) s

/-- An apply has changed the rate of a plan's channels. DESIGN CHOICE (log entry 211): the plan goes on, its next number standing for the
first instant of the new grid after the last one stored; a window whose trigger lies ahead is counted on the new grid. -/
def planRegrid (p : Nat) (s : State) : State :=
  let x : Plan := plan s p
  let rc := planRc s p
  if x.st = .idle ∨ x.st = .held ∨ rc = x.rc then s
  else
    let onNew (k : Nat) : Int := gridOn (rcOdr x.rc) (rcOdr rc) (k + x.off).toNat
    let nx := planNext x
    let off := onNew nx - nx
    let ahead := decide (x.st = .post) && decide (nx ≤ x.k0)
    let k0 := if ahead then ((gridFirst (rcOdr rc) x.trig : Int) - off).toNat else x.k0
    let run (f d : Nat) (l : List LvRun) : List LvRun := ⟨f, d, (levelAt { x with lv := l } f).2, rc, off⟩ :: l
    let kept := x.lv.filter (fun e => decide (e.f ≤ nx))
    let lv := run nx (levelAt x nx).1 kept
    let lv := match x.lv.head? with
      | some e => if nx < e.f then run (stepsUp e.d (nx + off) * 2 ^ e.d - off).toNat e.d lv else lv
      | none => lv
    modPlan p (fun y => { y with
      rc := rc, off := off, lv := lv, k0 := k0, wEnd := if ahead then k0 + planPost s p else y.wEnd,
      nx := (planSet s p).foldl (fun t g => tset 0 t g (onNew (tget 0 x.nx g) - off).toNat) [] }) s

/-- A step of the timebase (R248): the count of stored samples goes on from the arm (R246). -/
def planStep (p : Nat) (s : State) : State := match (plan s p).st with
  | .filling => planFill p (levelAt (plan s p) (planNext (plan s p))).2 s
  | .ready => planFill p (levelAt (plan s p) (planNext (plan s p))).2 s
  | .post => planHeld p 4 true s
  | _ => s

/-- ARM: the status it leaves (R248, R372). -/
def planArm (p : Nat) (s : State) : Nat × State :=
  let x : Plan := plan s p
  if planNbk s p = 0 then (stBadParam, s)
  else if !(decide (x.st = .idle) || decide (x.st = .held)) || x.offl.isSome || decide (s.hub.st = .safe) then (stBusy, s)
  else if (List.range 12).any (fun b => planHasBank s p b && decide (bankOwner s b ≠ ownAcq)) then (stNoResource, s)
  else (stOk, memSync (planFill p 0 s))

/-- DISARM, RELEASE and OFFLOAD with their status. -/
def planDisarm (p : Nat) (s : State) : Nat × State := match (plan s p).st with
  | .idle => (stBusy, s)
  | .held => (stBusy, s)
  | _ => (stOk, planStop p 2 s)

def planRelease (p : Nat) (s : State) : Nat × State :=
  if (plan s p).st = .held ∧ (plan s p).offl.isNone then (stOk, planIdle p 0 s) else (stBusy, s)

def offlOf (s : State) (p : Nat) (live : Bool) : Offl := { q := af s (cpA p 0x18) 0 4, compress := bit (rg s (cpA p 0x18)) 4, live := live }

def planOffload (p : Nat) (s : State) : Nat × State :=
  if (plan s p).st = .held ∧ (plan s p).offl.isNone then
    (stOk, modPlan p (fun x => { x with offl := some (offlOf s p false), offdone := false }) s)
  else (stBusy, s)

/-- A plan action by register: its refusal goes to PG_ERR. -/
def planAct (f : State → Nat × State) (s : State) : State :=
  let r := f s
  if r.1 = stOk then r.2 else pgError .acq 0 r.1 r.2

/-- A write of CP_CTRL. -/
def cpCtrl (p : Nat) (w : Word) (s : State) : State := match fld w 0 4 with
  | 0 => s
  | 1 => planAct (planArm p) s
  | 2 => planAct (planDisarm p) s
  | 4 => planAct (planRelease p) s
  | 8 => planAct (planOffload p) s
  | _ => pgError .acq 0 stBadParam s

def execCpArm (_ : Path) (j : Nat) (s : State) : Host.Outcome State Fault Refusal := .next (if j < 8 then direct .acq 0 (cpCtrl j 1#32) s else s)
def execCpDisarm (_ : Path) (j : Nat) (s : State) : Host.Outcome State Fault Refusal := .next (if j < 8 then direct .acq 0 (cpCtrl j 2#32) s else s)
def execCpRelease (_ : Path) (j : Nat) (s : State) : Host.Outcome State Fault Refusal := .next (if j < 8 then direct .acq 0 (cpCtrl j 4#32) s else s)
def execCpOffload (_ : Path) (j : Nat) (s : State) : Host.Outcome State Fault Refusal := .next (if j < 8 then direct .acq 0 (cpCtrl j 8#32) s else s)

/-- CP_STATUS. -/
def planCode : PlanSt → Nat
  | .idle => 0
  | .filling => 1
  | .ready => 2
  | .post => 3
  | .held => 4
def cpStatus (s : State) (p : Nat) : Nat :=
  let x : Plan := plan s p
  x.tsrc <<< 16 ||| x.cause <<< 12 ||| bbit x.offdone 11 ||| bbit x.offl.isSome 10 ||| bbit x.gap 9 ||| bbit x.trunc 8 |||
    (levelAt x (planNext x)).1 <<< 4 ||| planCode x.st

/-! ### Acceptance (R249 to R251) -/

/-- An ignored trigger: its counter and REJECT. -/
def reject (a : Nat) (s : State) : State := raise .acq 0 4 (bump a 1 s)

/-- Start the trigger freezes of a plan (R184, R251). -/
def freeze (p : Nat) (t : Int) (s : State) : State :=
  forL (planSet s p) (fun g a =>
    if bit (rg a (chFiltA g)) 2 then
      bump (fltReg (g / 32) 0x2C) 1 (raise .flt (g / 32) 4 (modTap g (fun x => { x with frz := (p, t) :: x.frz }) a))
    else a) s

/-- The first index of a list of runs from `a` up to `b`. -/
def firstGap (l : List (Nat × Nat)) (a b : Nat) : Option Nat :=
  (l.filter (fun r => decide (a ≤ r.2) && decide (max a r.1 < b))).foldl (fun (m : Option Nat) r => some (match m with
    | some x => min x (max a r.1)
    | none => max a r.1)) none

/-- An index joins a list of runs, newest first; runs that end before `old` go. -/
def gapAdd (k old : Nat) (l : List (Nat × Nat)) : List (Nat × Nat) := match l with
  | r :: q => if r.1 ≤ k ∧ k ≤ r.2 then l else if k = r.2 + 1 then (r.1, k) :: q else (k, k) :: l.filter (fun x => decide (old ≤ x.2))
  | [] => [(k, k)]

/-- A plan judges a trigger of a source at an instant (2^-64 s). -/
def judge (p src : Nat) (t : Int) (s : State) : State :=
  let x : Plan := plan s p
  let odr := planOdr s p
  let k0 := planIdx s p t
  let pre := planPre s p
  let nx := planNext x
  match x.st with
  | .idle => s
  | .post => reject 0xD02C s
  | .held => reject 0xD02C s
  | _ =>
    if k0 < x.kFirst + pre then reject 0xD024 s
    else if k0 + planS s p < nx + pre then reject 0xD028 s
    else if nx + 64 * odr ≤ k0 then reject 0xD02C s
    else
      let live := bit (rg s (cpA p 0x18)) 5
      let gaps := firstGap x.miss (k0 - pre) (k0 + planPost s p)
      let o := if live then some (offlOf s p true) else none
      let s := modPlan p (fun y => { y with
        st := .post, trig := t, k0 := k0, k0Mod := gridFirst odr t % odr, wEnd := k0 + planPost s p, tsrc := src, slot := (levelAt x (k0 - pre)).2 % planS s p,
        gap := gaps.isSome, gapAt := (gaps.getD (k0 - pre)) - (k0 - pre), offl := o, offdone := false }) s
      let s := raise .acq 0 0 (bump 0xD020 1 s)
      if bit (rg s (cpA p 0)) 9 then freeze p t s else s

/-- Triggers that reach the plans in one cycle: each plan takes the earliest it selects, the lowest source among equals
(R250). -/
def deliver (l : List (Nat × Int)) (s : State) : State :=
  forN 8 (fun p a =>
    let c := l.filter (fun q => bit (rg a (cpA p 0xC)) q.1)
    match c.foldl (fun (m : Option (Nat × Int)) q => match m with
      | some y => if q.2 < y.2 ∨ (q.2 = y.2 ∧ q.1 < y.1) then some q else some y
      | none => some q) none with
    | some (src, t) => judge p src t a
    | none => a) s

/-! ### Sources and publishing (R240, R243) -/

def tuA (u o : Nat) : Nat := 0xD040 + 0x10 * u + o

/-- PUB, LINE and OUT of a source. -/
def srcPub (s : State) (src : Nat) : Bool × Nat × Nat :=
  if src < 16 then (bit (rg s (tuA src 0)) 19, af s (tuA src 0) 16 3, af s (tuA src 0) 20 2)
  else
    let b := 8 * (src - 16)
    (bit (rg s 0xD140) (b + 7), af s 0xD140 (b + 4) 3, af s 0xD140 b 2)

/-- Enter a triple in the duplicate table (R245). -/
def dupEnter (x : Nat × Nat × Nat) (s : State) : State := { s with dups := (x :: s.dups).take 256 }

/-- What a firing source sends: a TRIG packet where it publishes, a pulse on TRIG_OUT (R243). -/
def srcSend (src : Nat) (t : Int) (s : State) : State :=
  let p := srcPub s src
  let s := if p.1 then
      let id := tget 0 s.pubId p.2.1
      let k : TrigPkt := { line := p.2.1, ttl := af s 0xD144 8 4, id := id, origin := origin, inst := inst96 t,
                           creator := origin, lane := 0, hops := 0 }
      trigSend (af s 0xD144 0 8) none k (dupEnter (origin, p.2.1, id) { s with pubId := tset 0 s.pubId p.2.1 ((id + 1) % 65536) })
    else s
  if p.2.2 = 1 ∨ p.2.2 = 2 then
    (if netNow s + ns64 2000 ≤ t then outAt (p.2.2 - 1) t s else trigOut (p.2.2 - 1) (256 * s.c) s)
  else s

/-- Local sources fire in one cycle, each at an instant, which the format of R4 carries to 2^-48 s; a published one also reaches
the plans as its line (R240, R243, R250). -/
def srcsFireAt (l : List (Nat × Int)) (s : State) : State :=
  let l := l.map (fun q => (q.1, q.2 / 2 ^ 16 * 2 ^ 16))
  let s := deliver (l.flatMap (fun q => q :: (if (srcPub s q.1).1 then [(24 + (srcPub s q.1).2.1, q.2)] else []))) s
  forL l (fun q a => srcSend q.1 q.2 a) s
def srcsFire (l : List Nat) (t : Int) (s : State) : State := srcsFireAt (l.map (fun src => (src, t))) s

def srcFire (src : Nat) (t : Int) (s : State) : State := srcsFire [src] t s

/-- An instant in three registers laid out as TMB_EVTe_T0 to T2 (R4). -/
def instRegs (s : State) (a : Nat) : Int :=
  let sec : Nat := (rg s a).toNat + 2 ^ 32 * fld (rg s (a + 4)) 0 16
  let fr : Nat := fld (rg s (a + 4)) 16 16 * 2 ^ 32 + (rg s (a + 8)).toNat
  (sec : Int) * 2 ^ 64 + (fr : Int) * 2 ^ 16

/-- A force trigger (R240). -/
def forceGo (s : State) : State :=
  let t := instRegs s 0xD150
  srcFire 19 (if t = 0 then netNow s else t) s

def execAcqForceGo (_ : Path) (t : Nat) (s : State) : Host.Outcome State Fault Refusal :=
  .next (direct .acq 0 (fun x => forceGo (advance t x)) s)

/-- 20 ns in tau/256, rounded up. -/
def ns20 : Nat := 2014

/-- A rising edge of TRIG_IN[n]: it counts when the low time before it and the high time after it last 20 ns, ENn is set and 1 us
has passed since the last accepted edge (R216); while JTAG holds the pins none reaches the core (R429). -/
def execTrigInEdge (n : Nat) (e : PinEdge) (s : State) : Host.Outcome State Fault Refusal :=
  let far := match tget none s.tmb.trigLast n with
    | some x => decide (x + usTau 1 < e.t)
    | none => true
  if live s && !s.jtag.held && decide (n < 2) && bit (rg s 0x30B0) n && far && decide (ns20 ≤ e.low) && decide (ns20 ≤ e.high) then
    .next (srcFire (16 + n) (netTime s e.t) (modTmb (fun x => { x with trigLast := tset none x.trigLast n (some e.t) }) (advance e.t s)))
  else .next s

/-- A TRIG packet is taken: duplicate test, delivery, forwarding (R245). The instant is in 2^-48 s. Its credit returns at
once unless it is forwarded (R338). -/
def trigTake (n : Nat) (k : TrigPkt) (s : State) : State :=
  let x := (k.origin, k.line % 8, k.id)
  let give (a : State) : State := modLk n (fun y => { y with freeP := y.freeP + 1 }) a
  if s.dups.contains x || !(af s 0xD144 16 8).testBit (k.line % 8) then give (bump 0xD03C 1 s)
  else
    let s := deliver [(24 + k.line % 8, (k.inst : Int) * 2 ^ 16)] (dupEnter x s)
    if 0 < k.ttl then
      let m := af s 0xD144 0 8 &&& (255 ^^^ 2 ^ n)
      let s := bump 0xD038 1 s
      if (firstUp s m).isSome then trigSend m (some (n, 1)) { k with ttl := k.ttl - 1, hops := k.hops + 1 } s else give s
    else give s

/-! ### Trigger units (R241, R242) -/

def tunit (s : State) (u : Nat) : TUnit := tget {} s.tunits u
def modTunit (u : Nat) (f : TUnit → TUnit) (s : State) : State := { s with tunits := tmod {} s.tunits u f }

/-- The condition met, the rearm condition met (R241), for a value, the previous one, flags, A and B. -/
def tuFires (cond : Nat) (v : Int) (prev : Option Int) (fl : Nat) (a b : Int) (am : Nat) : Bool := match cond with
  | 1 => decide (a < v)
  | 2 => decide (v < a)
  | 3 => decide (a < v) || decide (v < b)
  | 4 => match prev with
    | some p => decide (a < |v - p|)
    | none => false
  | 5 => decide (fl &&& am ≠ 0)
  | _ => false
def tuRearms (cond : Nat) (v : Int) (prev : Option Int) (fl : Nat) (a b : Int) (am : Nat) : Bool := match cond with
  | 1 => decide (v < a - b)
  | 2 => decide (a + b < v)
  | 3 => decide (b ≤ v) && decide (v ≤ a)
  | 4 => match prev with
    | some p => decide (2 * |v - p| ≤ a)
    | none => false
  | 5 => decide (fl &&& am = 0)
  | _ => false

/-- A unit examines one sample word of its channel: whether it fires, and the state (R241, R242). -/
def tuSample (u : Nat) (x : Samp) (s : State) : Bool × State :=
  let w := rg s (tuA u 0)
  let cond := fld w 12 4
  let fl := wordFlags x.v
  let v := wordValue x.v
  let a := sfld (rg s (tuA u 4)) 0 24
  let b := sfld (rg s (tuA u 8)) 0 24
  let am := af s (tuA u 4) 0 8
  let y := tunit s u
  if fl.testBit 6 ∧ ¬(cond = 5 ∧ am.testBit 6) then
    (false, if cond = 4 then modTunit u (fun z => { z with prev := none }) s else s)
  else
    let s := modTunit u (fun z => { z with prev := some v }) s
    if y.armed then
      if tuFires cond v y.prev fl a b am then (true, modTunit u (fun z => { z with armed := false, last := s.frame % 2 ^ 32 }) s)
      else (false, s)
    else (false, if tuRearms cond v y.prev fl a b am then modTunit u (fun z => { z with armed := true }) s else s)

/-- The units with a condition on channel g. -/
def tuOn (s : State) (g : Nat) : List Nat :=
  (List.range 16).filter (fun u => decide (af s (tuA u 0) 12 4 ≠ 0) && decide (af s (tuA u 0) 0 9 = g))

/-- The units examine one word; those it fires fire in one cycle (R250). -/
def tuWord (x : Samp) (s : State) : State :=
  let r := (tuOn s x.g).foldl (fun (a : List Nat × State) u =>
    let q := tuSample u x a.2
    (if q.1 then a.1 ++ [u] else a.1, q.2)) ([], s)
  if r.1 = [] then r.2 else srcsFire r.1 (gridTime (rcOdr x.rc) x.k) r.2

/-- The units examine the words of a pass, in order of their instants and then of their channels (DESIGN CHOICE of the order,
log entry 175). -/
def tuPass (l : List Samp) (s : State) : State :=
  let w := l.filter (fun x => decide (tuOn s x.g ≠ []))
  forL (w.mergeSort (fun x y => decide (gridTime (rcOdr x.rc) x.k ≤ gridTime (rcOdr y.rc) y.k))) tuWord s

/-! ### Storing (R246, R247, R253, R254) -/

/-- A live plan's level changes at the start of a pass, from the level decided last, which takes effect at once or later; the
pre-trigger part stays at level 0 (R253). -/
def levelChange (p : Nat) (s : State) : State := match (plan s p).offl with
  | none => s
  | some o =>
    let x : Plan := plan s p
    if o.live = false ∨ x.st ≠ .post then s
    else
      let cap := planS s p
      let u := winStored s p - o.rdn
      let k := max (planNext x) x.k0
      let d := (x.lv.map (fun e => e.d)).headD 0
      let go (e : Nat) (b : State) : State :=
        let f := (stepsUp e (k + x.off) * 2 ^ e - x.off).toNat
        let kept := x.lv.filter (fun q => decide (q.f < f))
        let n := (levelAt { x with lv := kept } f).2
        raise .acq 0 2 (bump 0xD030 1 (modPlan p (fun y => { y with lv := ⟨f, e, n, x.rc, x.off⟩ :: kept }) b))
      if 3 * cap < 4 * u ∧ d < 4 then go (d + 1) s
      else if 4 * u < cap ∧ 0 < d then go (d - 1) s else s

/-- Store one number of a channel of a plan: `smp` none where the channel gave none. -/
def storeOne (p i g k o h : Nat) (smp : Option Samp) (s : State) : State :=
  let x : Plan := plan s p
  let on := decide (x.st = .filling) || decide (x.st = .ready) || (decide (x.st = PlanSt.post) && decide (k < x.wEnd))
  if !on then s
  else if k < x.kFirst then s
  else
    let l := levelAt x k
    let keep := decide ((k + x.off) % 2 ^ l.1 = 0)
    let full := match x.offl with
      | some y => keep && y.live && decide (l.1 = 4) && decide (x.st = PlanSt.post) && decide (winFirst s p + y.rdn + planS s p ≤ l.2)
      | none => false
    if full then raise .acq 0 3 (planHeld p 5 true s)
    else
      let w : PWrite := ⟨o, h, if keep then some l.2 else none, k, i, smp⟩
      let none_ := smp.isNone && keep
      let inWin := none_ && decide (x.st = PlanSt.post) && decide (x.k0 - planPre s p ≤ k)
      let at_ := l.2 - winFirst s p
      modPlan p (fun y => { y with
        pend := y.pend ++ [w], nx := tset 0 y.nx g (k + 1),
        miss := if none_ then gapAdd k (planNext x - planS s p) y.miss else y.miss,
        gap := y.gap || inWin,
        gapAt := if inWin then (if y.gap then min y.gapAt at_ else at_) else y.gapAt }) s

/-- FILLING becomes READY when PRE samples are stored. -/
def planReady (p : Nat) (s : State) : State :=
  let x : Plan := plan s p
  if x.st = .filling ∧ x.kFirst + planPre s p ≤ planNext x then modPlan p (fun y => { y with st := .ready }) s else s

/-- A plan takes the outputs of a pass: every number before the end `lim` that the pass reached on each channel's grid, in order of
number, then of channel. -/
def planPass (p o : Nat) (lim hold : Nat → Nat) (l : List Samp) (s : State) : State :=
  if (plan s p).st = .idle ∨ (plan s p).st = .held then s
  else
    let s := levelChange p s
    let set := planSet s p
    let off := (plan s p).off
    let lim := fun g => ((lim g : Int) - off).toNat
    let k0 := planNext (plan s p)
    let s := (List.range (set.foldl (fun m g => max m (lim g)) 0 - k0)).foldl (fun a j =>
      set.zipIdx.foldl (fun b q =>
        if k0 + j < lim q.1 ∧ tget 0 (plan b p).nx q.1 ≤ k0 + j then
          storeOne p q.2 q.1 (k0 + j) o (hold q.1) (l.find? (fun x => decide (x.g = q.1) && decide ((x.k : Int) = (k0 + j : Nat) + off))) b
        else b) a) s
    planReady p s

/-- Write the words whose hold has passed into the bank, with every late flag (R19, R247). -/
def planFlush (p o : Nat) (s : State) : State :=
  let x : Plan := plan s p
  let due := x.pend.filter (fun w => decide (w.o + w.h ≤ o))
  let nch := (planSet s p).length
  let cap := planS s p
  let base := 262144 * af s (cpA p 0) 0 4
  if due = [] then s
  else
    let s := modPlan p (fun y => { y with pend := y.pend.filter (fun w => !decide (w.o + w.h ≤ o)) }) s
    due.foldl (fun a w =>
      let v := match w.smp with
        | some m => m.v ||| word (lateFlags a m.g w.o w.h m.a m.b)
        | none => 0
      let a := modPlan p (fun y => { y with fl := tset 0 y.fl w.k (tget 0 y.fl w.k ||| wordFlags v) }) a
      match w.n with
      | none => a
      | some n =>
        let ad := base + n % cap / 2 * nch + w.i
        let old := memGet a ad
        unitPut ownAcq ad (if n % cap % 2 = 0 then old / 2 ^ 32 * 2 ^ 32 + v.toNat else old % 2 ^ 32 + v.toNat * 2 ^ 32) a) s

/-- The window is complete once its last sample has reached the bank, whatever later ones still wait (R248). -/
def planComplete (p : Nat) (s : State) : State :=
  let x : Plan := plan s p
  if x.st = .post ∧ x.wEnd ≤ planNext x ∧ x.pend.all (fun w => decide (x.wEnd ≤ w.k)) then planHeld p 1 false s else s

/-! ### Offload segments (R252, R273) -/

/-- A piece of a window: first grid index and rate code, the plan numbers it covers up to `e`, level, first stored number, count,
whether it can grow no more. -/
structure Seg where
  k : Nat
  rc : Nat
  kv : Nat
  d : Nat
  n : Nat
  c : Nat
  e : Nat
  closed : Bool
  deriving DecidableEq, Repr

/-- The pieces of a plan's window (R252): a new one at each level change, at each change of rate and after 64 KiB. A piece that a
change of level closes covers the instants up to that change. -/
def segList (s : State) (p : Nat) : List Seg :=
  let x : Plan := plan s p
  let n0 := winFirst s p
  let n1 := n0 + winStored s p
  let ks := x.k0 - planPre s p
  let cmax := max 1 (65536 / (4 * (planSet s p).length))
  let lv := x.lv.reverse
  (lv.zipIdx).flatMap (fun q =>
    let r := q.1
    let nEnd := match lv[q.2 + 1]? with
      | some y => min y.n n1
      | none => n1
    let kEnd := match lv[q.2 + 1]? with
      | some y => min y.f x.wEnd
      | none => x.wEnd
    let closed := decide (q.2 + 1 < lv.length) || decide (x.st = .held)
    let a := max r.n n0
    let cnt := nEnd - a
    (List.range ((cnt + cmax - 1) / cmax)).map (fun j =>
      let na := a + j * cmax
      let c := min cmax (cnt - j * cmax)
      let k := (stepsUp r.d (r.f + r.off) + (na - r.n : Nat)) * 2 ^ r.d
      let kv := if j = 0 then max r.f ks else (k - r.off).toNat
      ⟨k.toNat, r.rc, kv, r.d, na, c, min ((k - r.off).toNat + c * 2 ^ r.d) kEnd, decide (c = cmax) || closed⟩))

/-- A stored word of a plan's ring. -/
def ringWord (s : State) (p n i : Nat) : Word :=
  let nch := (planSet s p).length
  let v := memGet s (262144 * af s (cpA p 0) 0 4 + n % planS s p / 2 * nch + i)
  if n % planS s p % 2 = 0 then lo32 v else hi32 v

/-- The bytes of a segment. -/
def segBytes (s : State) (p segno : Nat) (last compress : Bool) (g : Seg) : List Byte :=
  let k := g.k
  let d := g.d
  let n := g.n
  let c := g.c
  let set := planSet s p
  let x : Plan := plan s p
  let odr := rcOdr g.rc
  let sec := k / odr
  let fl := (List.range (g.e - g.kv)).foldl (fun a j => a ||| tget 0 x.fl (g.kv + j)) 0
  let raw := (List.range c).flatMap (fun j => (List.range set.length).flatMap (fun i => leBytes 4 (ringWord s p (n + j) i).toNat))
  let data := pad8 (if compress then arcWhole 6 0 raw else raw)
  let rc := g.rc
  let chs := pad8 (set.flatMap (fun g => leBytes 2 g))
  let lenw := (40 + chs.length + data.length) / 8
  leBytes 1 9 ++ leBytes 1 (p ||| d <<< 3 ||| bbit compress 6 ||| bbit last 7) ++ leBytes 2 lenw ++ leBytes 2 set.length ++
    leBytes 1 fl ++ leBytes 1 rc ++ leBytes 2 segno ++ leBytes 2 0 ++ leBytes 4 c ++ leBytes 4 (k % odr) ++ leBytes 6 sec ++
    leBytes 2 0 ++ leBytes 12 (inst96 x.trig) ++ chs ++ data

/-- Admit the segments of an offload that are complete and read: `all` ends the offload; `ecc` holds the words that the read finds
in error, each with its segment (R28, R377). -/
def offlAdmit (p : Nat) (all : Bool) (ecc : List (Nat × MemErr)) (s : State) : State := match (plan s p).offl with
  | none => s
  | some o =>
    let segs := segList s p
    let ready := (segs.zipIdx.drop o.segs).takeWhile (fun q =>
      all || (q.1.closed && decide (q.1.n + q.1.c ≤ winFirst s p + o.rdn)))
    ready.foldl (fun a q =>
      let g := q.1
      let odr := rcOdr g.rc
      let t0 := inst96 (gridTime odr g.k)
      let t1 := inst96 (gridTime odr (g.k + (g.c - 1) * 2 ^ g.d))
      let a := modPlan p (fun y => { y with offl := y.offl.map (fun z => { z with segs := q.2 + 1 }) }) a
      let es := (ecc.filter (fun e => decide (e.1 = q.2))).map (fun e => e.2)
      let a := eccList es a
      let lost (cause pos : Nat) : Chaff := { stream := p, cause := cause, scope := 2, first := q.2, last := q.2, tF := t0, tL := t1, pos := pos }
      match ((plan a p).offl.bind (fun z => z.sink)) with
      | some w =>
        chaffAdd o.q (lost 3 (max w (queue a o.q).wm)) (modPlan p (fun y => { y with offl := y.offl.map (fun z => { z with sink := none }) }) a)
      | none => if es.any (fun e => e.ue) then chaffAdd o.q (lost 4 (queue a o.q).wm) a
      else
        let b := segBytes a p q.2 (decide (q.2 + 1 = segs.length) && decide ((plan a p).st = .held)) o.compress g
        qAdmit o.q (.seg p q.2 t0 t1) (b.length / 8) b (if o.compress then fwJob 0xC030 1 stOk a else a)) s

/-- Progress of an offload: stored samples of the window read so far. -/
def offlStep (x : Nat × (Nat × List (Nat × MemErr))) (s : State) : State :=
  offlAdmit x.1 false x.2.2 (modPlan x.1 (fun y => { y with offl := y.offl.map (fun z => { z with rdn := max z.rdn x.2.1 }) }) s)

def execOffloadDone (j : Nat) (ecc : List (Nat × MemErr)) (s : State) : Host.Outcome State Fault Refusal :=
  match (plan s j).offl with
  | none => .next s
  | some _ =>
    if live s && decide ((plan s j).st = .held) then
      let s := offlAdmit j true ecc s
      let n := ((plan s j).offl.map (fun z => z.segs)).getD 0
      let s := raise .acq 0 5 (modPlan j (fun y => { y with offl := none, offdone := true }) s)
      let rel := (waiter s (.offload j)).any (fun f => ((f.buf.getD 1 0).toNat).testBit 0)
      let st := leBytes 4 (cpStatus s j) ++ leBytes 2 n ++ leBytes 2 0
      .next (wakeup (.offload j) stOk st (if rel then planIdle j 0 s else s))
    else .next s

/-! ### Glean units (R255 to R257) -/

def guA (u o : Nat) : Nat := 0xE040 + 0x10 * u + o
def gunit (s : State) (u : Nat) : GUnit := tget {} s.gunits u
def modGunit (u : Nat) (f : GUnit → GUnit) (s : State) : State := { s with gunits := tmod {} s.gunits u f }
def guPeriod (s : State) (u : Nat) : Nat := af s (guA u 0) 0 16
def guSet (s : State) (u : Nat) : List Nat := chset (af s (guA u 8) 0 16) (rg s (guA u 4)).toNat

/-- Take one sample into a channel's results. -/
def gTake (excl : Nat) (w : Word) (x : GAcc) : GAcc :=
  let fl := wordFlags w
  let v := wordValue w
  let x := { x with flags := x.flags ||| fl }
  if fl &&& excl ≠ 0 then { x with nx := min 65535 (x.nx + 1) }
  else { x with
    n := x.n + 1, sum := x.sum + v, sq := x.sq + v * v,
    mn := match x.mn with
      | some m => if v < wordValue m then some w else some m
      | none => some w
    mx := match x.mx with
      | some m => if wordValue m < v then some w else some m
      | none => some w }

/-- A period lost (R257). -/
def gSkip (u : Nat) (s : State) : State :=
  if (gunit s u).on then raise .gln 0 0 (bump 0xE024 1 (modGunit u (fun x => { x with on := false, acc := [] }) s)) else s

/-- The units take the words of a pass of frame j. -/
def gleanPass (o j : Nat) (l : List Samp) (s : State) : State :=
  if s.hub.st = .safe then s
  else forN 16 (fun u a =>
    let p := guPeriod a u
    if p = 0 then a
    else
      let a := if j % p = 0 then modGunit u (fun x => { x with on := true, start := j, o0 := o, acc := [] }) a else a
      if (gunit a u).on = false then a
      else
        let set := guSet a u
        forL (l.filter (fun x => set.contains x.g)) (fun x b =>
          modGunit u (fun y => { y with acc := tmod {} y.acc x.g (gTake (af b (guA u 8) 16 8) x.v) }) b) a) s

/-- Late verdicts on samples of a period (R257). -/
def gLate (fl : Nat) (x : GAcc) : GAcc := if fl = 0 then x else { x with flags := x.flags ||| fl, late := true }

def isqrt (n : Nat) : Nat := Nat.sqrt n

/-- The bytes of a glean record (R256). -/
def gleanBytes (r : GRec) : List Byte :=
  let x := r.acc
  let res (i : Nat) : Nat := if x.n = 0 then 0 else match i with
    | 0 => ((x.sum * 256 / (x.n : Int)) % 2 ^ 32).toNat
    | 1 => (x.mn.getD 0).toNat
    | 2 => (x.mx.getD 0).toNat
    | _ => isqrt (x.sq.toNat * 65536 / x.n)
  leBytes 2 r.g ++ leBytes 1 (r.u ||| bbit x.late 7) ++ leBytes 1 r.rmask ++ leBytes 8 r.start ++ leBytes 4 x.n ++
    leBytes 1 x.flags ++ leBytes 1 0 ++ leBytes 2 x.nx ++
    ((List.range 4).filter (fun i => r.rmask.testBit i)).flatMap (fun i => leBytes 4 (res i))

end Sys2Proof.Machine
end

