-- ==== Sys2Proof/Machine/Stooks.lean ====
section
/-! DEFINITION. Streams and the stook assembler: boundaries, verdict hold, layout, gaps and late glean verdicts (chapter 12,
R261 to R268, R274, R285, R292). -/

namespace Sys2Proof.Machine

open Sys2Proof

def strA (i o : Nat) : Nat := 0xB400 + 0x20 * i + o
def strm (s : State) (i : Nat) : Stream := tget {} s.streams i
def modStrm (i : Nat) (f : Stream → Stream) (s : State) : State := { s with streams := tmod {} s.streams i f }

/-- The definition that three register words and an epoch give (R261, R287). -/
def strDefOf (c shf chm : Word) (epoch : Nat) : StrDef :=
  { en := bit c 31, fmt := fld c 10 2, q := fld c 12 4, p := fld c 16 6 + 1, gln := bit c 28, shf := fld shf 0 16, chm := chm.toNat, epoch := epoch }
def strDef (s : State) (i : Nat) : StrDef := strDefOf (rg s (strA i 0)) (rg s (strA i 4)) (rg s (strA i 8)) s.cmt.epoch

/-- The active verdict hold H. -/
def holdH (s : State) : Nat := af s 0xB040 0 3

/-! ### Sizes (R256, R268) -/

def popc (n w : Nat) : Nat := ((List.range n).filter (fun i => w.testBit i)).length

/-- Bytes of one glean record (R256). -/
def gleanLen (rmask : Nat) : Nat := 20 + 4 * popc 4 rmask

/-- Bytes of the glean records of one stook of stream i with period p, by a register reader. -/
def gleanBytesPer (r : Nat → Word) (i p : Nat) : Nat :=
  (List.range 16).foldl (fun a u =>
    let w := r (guA u 0)
    if fld w 0 16 = 0 ∨ fld w 24 5 ≠ i then a
    else a + ceilDiv p (fld w 0 16) * (chset (fld (r (guA u 8)) 0 16) (r (guA u 4)).toNat).length * gleanLen (fld w 16 4)) 0

/-- Output rate of channel g by a register reader. -/
def odrBy (r : Nat → Word) (g : Nat) : Nat := odrOf (r (profCfgA (g / 32) (fld (r (chFiltA g)) 0 2)))

/-- b_max of a stream by a register reader at a frame rate (R268); the rate is the larger of two readers. -/
def bmaxBy (r r' : Nat → Word) (f i : Nat) : Nat :=
  let d := strDefOf (r (strA i 0)) (r (strA i 4)) (r (strA i 8)) 0
  let set := chset d.shf d.chm
  let n := set.foldl (fun a g => a + ceilDiv (max (odrBy r g) (odrBy r' g) * d.p) f) 0
  let b := if d.fmt = 1 then 3 * n + ceilDiv n 8 else 4 * n
  32 + 16 * set.length + (b + 7) / 8 * 8 + (if d.gln then 8 + gleanBytesPer r i d.p else 0)

/-- STR_s_BMAX: b_max of the active definition, 0 while the stream has none. -/
def strBmax (s : State) (i : Nat) : Nat := if (strDef s i).en then bmaxBy (rg s) (stg s) (frameHz s) i else 0

/-! ### Stook boundaries (R20, R261, R263) -/

def newStook (d : StrDef) (t : Int) (s : State) : Stook :=
  { d := d, o0 := s.ord, j := s.frame, h := holdH s, t := t, ser := s.tmb.ser % 16 }

/-- The open stook ends with the present pass when the next frame is a boundary. -/
def strClose (i : Nat) (s : State) : State := match (strm s i).opn with
  | none => s
  | some k => if (s.frame + 1) % k.d.p = 0 then
      modStrm i (fun x => { x with opn := none, wait := x.wait ++ [{ k with last := some s.ord }] }) s
    else s

/-- A stream at a tick: a new definition is taken at a boundary of both, a stook opens at a boundary. -/
def strTick (i : Nat) (s : State) : State :=
  let x := strm s i
  let j := s.frame
  let at_ (d : StrDef) : Bool := !d.en || decide (j % d.p = 0)
  let s := match x.next with
    | some d => if at_ x.cur && at_ d && x.opn.isNone then modStrm i (fun y => { y with cur := d, next := none }) s else s
    | none => s
  let d := (strm s i).cur
  let s := if d.en ∧ j % d.p = 0 ∧ (strm s i).opn.isNone then
      modStrm i (fun y => { y with opn := some (newStook d (tickTime s j) s) }) s
    else s
  strClose i s

/-- A step closes every stook that ends at its tick, with TDISC; `o` is the last pass before it (R263). -/
def strStep (o i : Nat) (s : State) : State :=
  modStrm i (fun x =>
    let w := x.wait.map (fun k => if k.last = some o then { k with tdisc := true } else k)
    match x.opn with
    | some k => { x with opn := none, wait := w ++ [{ k with last := some o, tdisc := true }] }
    | none => { x with wait := w }) s

/-- The stooks of the step frame open at the step instant, whatever its index (R263). -/
def strStepOpen (t : Int) (i : Nat) (s : State) : State :=
  let x := strm s i
  let d := match x.next with
    | some n => if (!x.cur.en || decide (s.frame % x.cur.p = 0)) && (!n.en || decide (s.frame % n.p = 0)) then n else x.cur
    | none => x.cur
  let s := modStrm i (fun y => { y with cur := d, next := if x.next = some d then none else y.next }) s
  let s := if d.en then modStrm i (fun y => { y with opn := some (newStook d t s) }) s else s
  strClose i s

/-- The stook of stream i that covers pass o. -/
def stookOf (s : State) (i o : Nat) : Option Stook :=
  ((strm s i).wait ++ (strm s i).opn.toList).find? (fun k => decide (k.o0 ≤ o) && (match k.last with
    | some l => decide (o ≤ l)
    | none => true))

/-- The verdict hold of a capture word of channel g and pass o (R19). -/
def capHold (s : State) (o g : Nat) : Nat :=
  let l := (List.range 32).filterMap (fun i => match stookOf s i o with
    | some k => if k.d.shf.testBit (g / 32) ∧ k.d.chm.testBit (g % 32) then some k.h else none
    | none => none)
  match l with
  | [] => holdH s
  | h :: r => r.foldl max h

/-! ### Late glean verdicts (R257) -/

/-- Records that waited carry LATEV from now on: counted (R257, R260). -/
def gleanLatev (n : Nat) (s : State) : State := if n = 0 then s else raise .gln 0 1 (bump 0xE028 n s)
def lateRecs (s : State) : Nat := (s.grecs.filter (fun r => r.acc.late)).length

/-- Verdicts that have reached kept samples since their pass go to the periods that hold them. -/
def gleanVerdicts (s : State) : State :=
  s.passes.foldl (fun a p => p.samps.foldl (fun a x =>
    let late (i : Nat) : Nat :=
      let h := ((stookOf a i p.o).map (fun k => k.h)).getD (holdH a)
      lateFlags a x.g p.o h x.a x.b &&& (255 ^^^ wordFlags x.v)
    let a := forN 16 (fun u b =>
      let y := gunit b u
      if y.on ∧ y.o0 ≤ p.o ∧ (guSet b u).contains x.g then
        modGunit u (fun z => { z with acc := tmod {} z.acc x.g (gLate (late (af b (guA u 0) 24 5))) }) b
      else b) a
    { a with grecs := a.grecs.map (fun r =>
      if r.g = x.g ∧ r.o0 ≤ p.o ∧ p.o ≤ r.o1 then { r with acc := gLate (late r.stream) r.acc } else r) }) a) s

def gleanLate (s : State) : State :=
  let t := gleanVerdicts s
  gleanLatev (lateRecs t - lateRecs s) t

/-- The periods whose last frame is j end with the pass: their records wait for their stooks, and the last one that yields a
record shows in GU_u_LAST (R255, R257, R260). -/
def gleanEnd (o j : Nat) (s : State) : State :=
  forN 16 (fun u a =>
    let p := guPeriod a u
    if p = 0 ∨ (gunit a u).on = false ∨ (j + 1) % p ≠ 0 then a
    else
      let x := gunit a u
      let chs := (guSet a u).filter (fun g => bit (rg a (chCfgA g)) 0)
      let r := chs.map (fun g => (⟨u, g, af a (guA u 0) 16 4, af a (guA u 0) 24 5, x.start, x.o0, o, tget {} x.acc g⟩ : GRec))
      let a := gleanLatev (r.filter (fun y => y.acc.late)).length { a with grecs := a.grecs ++ r }
      bump 0xE020 r.length (modGunit u (fun y => { y with
        on := false, acc := [], last := if r = [] then y.last else x.start % 2 ^ 32 }) a)) s

/-! ### Assembly (R264 to R267) -/

/-- Runs of consecutive grid samples of one rate. -/
def runsOf : List Samp → List (List Samp)
  | [] => []
  | x :: r => match runsOf r with
    | [] => [[x]]
    | l :: ls => match l with
      | y :: _ => if y.k = x.k + 1 ∧ y.rc = x.rc then (x :: l) :: ls else [x] :: l :: ls
      | [] => [x] :: ls

/-- A directory entry: channel, rate code, first index, words. -/
def dirEntry (sec g rc : Nat) (k : Nat) (n : Nat) : List Byte :=
  leBytes 2 (g ||| (rc % 16) <<< 9 ||| (rc / 16) <<< 13) ++ leBytes 2 n ++
    leBytes 4 (((k : Int) - (sec * rcOdr rc : Nat)) % 2 ^ 32).toNat

/-- The entries of a stook: channel, rate code, first index, words with their verdicts applied. -/
def stookDir (s : State) (k : Stook) (ps : List PassRec) : List (Nat × Nat × Nat × List Word) :=
  let on := ps.flatMap (fun p => p.on)
  let gs := (chset k.d.shf k.d.chm).filter (fun g => on.any (fun r => decide (r.g = g)))
  gs.flatMap (fun g =>
    let sm := ps.flatMap (fun p => (p.samps.filter (fun x => decide (x.g = g))).map (fun x =>
      ({ x with v := x.v ||| word (lateFlags s g p.o k.h x.a x.b) } : Samp)))
    match runsOf sm with
    | [] => match on.find? (fun r => decide (r.g = g)) with
      | some r => [(g, r.rc, r.next.getD (gridFirst (rcOdr r.rc) k.t), [])]
      | none => []
    | rs => rs.map (fun l => (g, ((l.head?).map (fun x => x.rc)).getD 0, ((l.head?).map (fun x => x.k)).getD 0, l.map (fun x => x.v))))

/-- F1 data (R266). -/
def f1Data (ws : List Word) : List Byte :=
  let m := ws.map (fun w => decide (fld w 1 7 ≠ 0))
  ws.flatMap (fun w => leBytes 2 (fld w 16 16)) ++ packBits (ws.length / 8 + 1) m ++
    (ws.filter (fun w => decide (fld w 1 7 ≠ 0))).flatMap (fun w => leBytes 1 (fld w 0 8))
def f2Data (ws : List Word) : List Byte := ws.flatMap (fun w => leBytes 4 w.toNat)

/-- Winnow blocks of every entry, and whether some entry outgrows 4 N bytes (R292). -/
def f3Data (es : List (List Word)) : List (List Byte × Bool) × Bool :=
  let bs := es.map winnowEntry
  (bs.flatten, (es.zip bs).any (fun p => decide (4 * p.1.length < (p.2.flatMap (fun b => b.1)).length)))

/-- The glean section (R267). -/
def gleanSection (l : List GRec) : List Byte :=
  let l := (List.range 16).flatMap (fun u => (List.range 512).flatMap (fun g => l.filter (fun r => decide (r.u = u) && decide (r.g = g))))
  pad8 (leBytes 4 l.length ++ leBytes 4 0 ++ l.flatMap gleanBytes)

/-- The record of a stook: bytes, its F2 size in words, first and last instant, STBY. -/
structure StookOut where
  bytes : List Byte
  raw : Nat
  t0 : Nat
  t1 : Nat
  stby : Bool
  deriving Repr

/-- Pack a stook (R264 to R267): `fmt` is the format of its data, `data` the data section, unpadded. -/
def stookRecord (s : State) (i seq : Nat) (k : Stook) (es : List (Nat × Nat × Nat × List Word)) (gl : List GRec) (fmt : Nat)
    (data : List Byte) : StookOut :=
  let ws := es.flatMap (fun e => e.2.2.2)
  let any (f : Nat) : Bool := ws.any (fun w => decide (wordFlags w &&& f ≠ 0))
  let sec := (k.t / 2 ^ 64).toNat
  let tail := if k.d.gln then gleanSection gl else []
  let dir := es.flatMap (fun e => dirEntry sec e.1 e.2.1 e.2.2.1 e.2.2.2.length)
  let body := dir ++ pad8 data ++ tail
  let nfr := (k.last.getD k.o0) + 1 - k.o0
  let head := leBytes 1 fmt ++ leBytes 1 (i ||| bbit k.d.gln 5 ||| bbit (any fStby) 6 ||| bbit k.tdisc 7) ++
    leBytes 2 ((32 + body.length) / 8) ++ leBytes 2 es.length ++ leBytes 1 nfr ++
    leBytes 1 (k.h ||| tbCode s.tmb.st <<< 3 ||| bbit (any fTunl) 6) ++ leBytes 6 seq ++ leBytes 2 k.d.epoch ++ leBytes 8 k.j ++
    leBytes 6 sec ++ leBytes 1 k.ser ++ leBytes 1 0
  let ts := es.flatMap (fun e => if e.2.2.2 = [] then [] else
    [inst96 (gridTime (rcOdr e.2.1) e.2.2.1), inst96 (gridTime (rcOdr e.2.1) (e.2.2.1 + e.2.2.2.length - 1))])
  let t := inst96 k.t
  ⟨head ++ body, (32 + dir.length + (4 * ws.length + 7) / 8 * 8 + tail.length) / 8,
    ts.foldl min (ts.headD t), ts.foldl max (ts.headD t), any fStby⟩

/-- The data of a stook in its format, with the KIND it goes out as, and the counts of R292: Winnow blocks, RAW blocks,
whether it fell back for size. -/
def stookData (k : Stook) (es : List (List Word)) (wv : Bool) : Nat × List Byte × Nat × Nat × Bool :=
  if k.d.fmt = 1 then (1, f1Data es.flatten, 0, 0, false)
  else if k.d.fmt = 3 then
    let b := f3Data es
    let raws := (b.1.filter (fun p => p.2)).length
    if wv ∨ b.2 then (2, f2Data es.flatten, b.1.length, raws, b.2)
    else (3, b.1.flatMap (fun p => p.1), b.1.length, raws, false)
  else (2, f2Data es.flatten, 0, 0, false)

/-- INPUT chaff for the grid instants that channels of a stook owed and did not produce (R270). -/
def inputChaff (i seq : Nat) (k : Stook) (ps : List PassRec) (stby : Bool) (s : State) : State :=
  let ms := (ps.flatMap (fun p => p.miss)).filter (fun m => k.d.shf.testBit (m.g / 32) && k.d.chm.testBit (m.g % 32))
  ms.foldl (fun a m =>
    let c : Chaff := { stream := i, cause := 5, scope := 1, g := m.g, first := seq, last := seq, stby := stby, pos := (queue a k.d.q).wp,
                       rc := m.rc, k0 := m.k0, k1 := m.k1 + 1,
                       tF := inst96 (gridTime (rcOdr m.rc) m.k0), tL := inst96 (gridTime (rcOdr m.rc) m.k1) }
    chaffAdd k.d.q c a) s

/-- Assemble one stook after the cutoff of pass o. `ue`: a hold-store word has an uncorrectable error; `wv`: the Winnow
verifier found a difference. A stook that ends at a tick which a step is due to take carries TDISC (R263). -/
def assemble (i : Nat) (k : Stook) (ue wv : Bool) (s : State) : State :=
  let last := k.last.getD k.o0
  let k : Stook := if stepDue s ∧ last = s.ord then { k with tdisc := true } else k
  let ps := s.passes.filter (fun p => decide (k.o0 ≤ p.o) && decide (p.o ≤ last))
  let es := stookDir s k ps
  let gl := s.grecs.filter (fun r => decide (r.stream = i) && decide (k.o0 ≤ r.o1) && decide (r.o1 ≤ last))
  let seq := (strm s i).seq
  let d := stookData k (es.map (fun e => e.2.2.2)) wv
  let r := stookRecord s i seq k es gl d.1 d.2.1
  let s := modStrm i (fun x => { x with seq := (x.seq + 1) % 2 ^ 48 }) s
  let s := { s with grecs := s.grecs.filter (fun r => !(decide (r.stream = i) && decide (k.o0 ≤ r.o1) && decide (r.o1 ≤ last))) }
  let s := bump 0xC024 d.2.2.2.1 (bump 0xC020 d.2.2.1 s)
  let s := if d.2.2.2.2 then bump 0xC028 1 s else s
  let s := if wv ∧ k.d.fmt = 3 then raise .cmp 0 2 (bump 0xC02C 1 s) else s
  let tag : RecTag := .stook i seq r.t0 r.t1 r.stby
  let s := inputChaff i seq k ps r.stby s
  if ue then
    let x : Rec := { tag := tag, pos := (queue s k.d.q).wp, len := 0 }
    let s := raise .que 0 5 (bump 0xB034 1 (countLost x s))
    match lossOf 4 (queue s k.d.q).wp x with
    | some c => chaffAdd k.d.q c s
    | none => s
  else qAdmit k.d.q tag (max r.raw (r.bytes.length / 8)) r.bytes s

/-- Assemble the stooks of a stream whose hold has passed, oldest first: at most `n`. -/
def assembleDue (i o : Nat) (ue wv : Bool) : Nat → State → State
  | 0, s => s
  | n + 1, s => match (strm s i).wait with
    | [] => s
    | k :: r => if (k.last.getD k.o0) + k.h ≤ o then
        assembleDue i o false false n (assemble i k ue wv (modStrm i (fun x => { x with wait := r }) s))
      else s

/-- The assembler's work after the cutoff of pass o (R18, R19). -/
def assembleAll (o : Nat) (ue wv : List Nat) (s : State) : State :=
  forN 32 (fun i a => assembleDue i o (ue.contains i) (wv.contains i) ((strm a i).wait.length) a) s

/-- Passes that no stook and no hold needs any longer go, and glean records that no stook will take (R274). -/
def prunePasses (o : Nat) (s : State) : State :=
  let need (p : PassRec) : Bool := decide (o < p.o + 5) || (List.range 32).any (fun i => (stookOf s i p.o).isSome)
  { s with passes := s.passes.filter need, grecs := s.grecs.filter (fun r => (stookOf s r.stream r.o1).isSome) }

end Sys2Proof.Machine
end

