-- ==== Sys2Proof/Machine/Lanes.lean ====
section
/-! DEFINITION. The lane layer: rates, bring-up, loss detectors, adaptation, lane states, test patterns (chapter 14). -/

namespace Sys2Proof.Machine

open Sys2Proof

/-! ### Rates and masks (R303, R304, R310, R319) -/

/-- LN_CFG.MODE: 0 SUARN, 1 PRBS, 2 OFF. -/
def laneMode (s : State) (n : Nat) : Nat := af s (lnkReg n 0x40) 0 2
def isSuarn (s : State) (n : Nat) : Bool := decide (n < 8) && decide (laneMode s n = 0)

/-- Rates of the family that CLK_LFAM names. -/
def famMask (w : Word) : Nat := if bit w 0 then 0x57 else 0x2B

/-- The lane that stays up through SLEEP (R68). -/
def keepLane (s : State) : Nat := s.pwr.keep

def sleeping (s : State) : Bool := decide (s.pwr.sleep = .asleep)

/-- The advertised mask (R310, R316). -/
def advMask (s : State) (n : Nat) : Nat :=
  if sleeping s then 1
  else (af s (lnkReg n 0x40) 8 7 &&& famMask (rg s 0x104C) &&& (127 ^^^ (lane s n).fail)) ||| 1

/-- Highest bit of a mask. -/
def hiBit (m : Nat) : Nat := (List.range 7).foldl (fun a i => if m.testBit i then i else a) 0

/-- The highest common rate (R310). -/
def commonRate (s : State) (n : Nat) : Nat := hiBit (advMask s n &&& (lane s n).pmask)

/-- cap of R96 by rate code, Mb/s. -/
def rateCap (r : Nat) : Nat := match r with
  | 0 => 984
  | 1 => 1968
  | 2 => 2460
  | 3 => 3937
  | 4 => 4921
  | 5 => 7875
  | _ => 9843

/-- CTLE preset of a rate (R313). -/
def ctlePreset (r : Nat) : Nat := match r with
  | 0 => 0
  | 1 => 2
  | 2 => 3
  | 3 => 6
  | 4 => 8
  | 5 => 10
  | _ => 12

/-- PLL-L is locked and the lane rails are present; factory mode and boundary scan keep the lanes idle (R429, R430). -/
def lanesPowered (s : State) : Bool := linkLive s && s.pwr.pllL && s.pwr.vddl && s.pwr.vddlh && !s.pwr.ft && !s.jtag.held

/-- The receiver loads the preset of a rate (R313). -/
def presetLoad (n r : Nat) (s : State) : State :=
  modLane n (fun x => { x with ctle := ctlePreset r, dfe := [0, 0, 0, 0, 0], fom := 0, fomMin := 0, acq := decide (3 ≤ r) }) s

/-- The current rate changes: counted in STEPS, RATE raised (R311). -/
def setRate (n r : Nat) (s : State) : State :=
  if (lane s n).rate = r then s
  else raise .lnk n 1 (bump (lnkReg n 0x2C) 1 (presetLoad n r (modLane n (fun x => { x with rate := r }) s)))

/-- A state change of the lane, with cause STATE. -/
def setLaneSt (n : Nat) (st : LaneSt) (s : State) : State :=
  if (lane s n).st = st then s else raise .lnk n 0 (modLane n (fun x => { x with st := st, bad := 0, clean := 0, deg := 0 }) s)

/-! ### PATH and the relay ports (R338, R339) -/

/-- PATH advertised on the lane of a relay port. -/
def portPath (s : State) (p : Nat) : Bool :=
  let u := portUp s p
  laneOpen s u || (bit (rg s (rteCfgA p)) 12 && laneOpen s (pairLane u))

/-- The relay port a lane serves. -/
def lanePort (s : State) (n : Nat) : Option Nat := (List.range 4).find? (fun p => portEn s p && decide (portLane p = n))

/-- PATH the hub advertises on a lane. -/
def advPath (s : State) (n : Nat) : Bool := match lanePort s n with
  | some p => portPath s p
  | none => true

/-- Note the PATH of every port, raising PATH_CHG of the RTE page where one has changed. -/
def rteSync (s : State) : State :=
  let m := (List.range 4).foldl (fun a p => a ||| bbit (portEn s p && portPath s p) p) 0
  if m = s.rtePath then s else raise .rte 0 0 { s with rtePath := m }

/-- Every queue is released up to the readers that are left (R277, R343). -/
def laneRelease (s : State) : State := forN 16 (fun q a => release q a) s

/-- The place that a packet keeps in the numbering once it is not resent here. -/
def txGone (r : TxRec) : TxRec := { r with pk := { r.pk with via := none, body := [] }, gone := true }

/-- MGMT packets of a lane that are unacknowledged or unsent go to the other uplink of the pair, if that carries them;
else they are held (R343). Only uplinks have such a partner. -/
def mgmtMove (n : Nat) (s : State) : State :=
  let k := (lane s n).lk
  let l := (k.un.filter (fun r => decide (r.pk.ty = 2) && !r.gone)).map (fun r => r.pk) ++ k.again.filter (fun p => decide (p.ty = 2)) ++ k.mgmt
  let m := pairLane n
  let dst := if (n < 2 ∨ n = 6 ∨ n = 7) ∧ laneOpen s m then m else n
  let s := modLk n (fun x => { x with
    mgmt := [], again := x.again.filter (fun p => decide (p.ty ≠ 2)), un := x.un.map (fun r => if r.pk.ty = 2 then txGone r else r) }) s
  modLk dst (fun x => { x with mgmt := l ++ x.mgmt }) s

/-- Credit owed to a lane for relayed packets is void once it leaves UP (R329: limits count from the entry to UP). -/
def viaDrop (n : Nat) (s : State) : State :=
  let f (p : Pkt) : Pkt := if (p.via.map (fun v => v.1)) = some n then { p with via := none } else p
  forN 8 (fun m a => modLk m (fun x => { x with
    mgmt := x.mgmt.map f, trigs := x.trigs.map f, again := x.again.map f, un := x.un.map (fun r => { r with pk := f r.pk }) }) a) s

/-- Credit of a relayed packet returns to its arrival lane (R329, R338). -/
def viaFree (p : Pkt) (s : State) : State := match p.via with
  | some (n, c) => modLk n (fun x => { x with freeP := x.freeP + c }) s
  | none => s

/-- MGMT commands of a lane that wait for the firmware free no credit once the lane has left UP (R329): their lane number is
kept above 8. -/
def mboxVoid (n : Nat) (s : State) : State :=
  { s with hst := { s.hst with mbox := s.hst.mbox.map (fun e => if e.1 = n then (n + 8, e.2) else e) } }

/-- TRIG packets of a lane that are sent and unacknowledged are dropped, and what they owe is freed (R343). -/
def trigDrop (n : Nat) (s : State) : State :=
  let k := (lane s n).lk
  let gone := (k.un.filter (fun r => decide (r.pk.ty = 5) && !r.gone)).map (fun r => r.pk) ++ k.again.filter (fun p => decide (p.ty = 5))
  let s := forL gone viaFree s
  modLk n (fun x => { x with
    again := x.again.filter (fun p => decide (p.ty ≠ 5)), un := x.un.map (fun r => if r.pk.ty = 5 then txGone r else r) }) s

/-- The readers of a lane that is not open any more hold nothing back. -/
def readersStop (n : Nat) (s : State) : State := forN 16 (fun q a => if (rdr a q n).off ≠ 0 ∨ (rdr a q n).owe ≠ 0 then rdrStop q n a else a) s

/-- A relay queue with XOVER is read by the other lane of the pair from now on, as its own uplink has closed: that reader starts at
WM (R276, R338). -/
def xoverStart (n : Nat) (s : State) : State :=
  forN 4 (fun p a => if portEn a p && decide (portUp a p = n) && bit (rg a (rteCfgA p)) 12 && laneOpen a (pairLane n) then
    rdrReturn (portQueue a p) (pairLane n) a else a) s

/-- MGMT packets that the other uplink of the pair holds, as neither was open, go on this one (R343). -/
def mgmtHeld (n : Nat) (s : State) : State :=
  let m := pairLane n
  if (n < 2 ∨ n = 6 ∨ n = 7) ∧ laneOpen s n ∧ laneOpen s m = false then
    let l := (lane s m).lk.mgmt
    modLk n (fun x => { x with mgmt := l ++ x.mgmt }) (modLk m (fun x => { x with mgmt := [] }) s)
  else s

/-- The link layer loses the lane (R343): a go-back is abandoned, TRIG packets are dropped, MGMT packets move, readers
hold nothing back. -/
def linkDown (n : Nat) (s : State) : State :=
  let k := (lane s n).lk
  let s := forL (((k.un.map (fun r => r.pk)) ++ k.again ++ k.trigs).filter (fun p => decide (p.ty = 5))) viaFree s
  let s := mboxVoid n (viaDrop n s)
  let s := mgmtMove n s
  let s := modLk n (fun x => { mgmt := x.mgmt, sentTo := x.sentTo }) s
  rteSync (laneRelease (if k.peerPath then xoverStart n (readersStop n s) else readersStop n s))

/-- The link layer at the entry to UP (R329, R330, R339, R343). -/
def linkUp (n : Nat) (s : State) : State :=
  let s := modLk n (fun x => { mgmt := x.mgmt, sentTo := x.sentTo }) s
  let s := modTlane n (fun x => { x with arr := none, held := none }) s
  forN 16 (fun q a => if reads a q n then rdrReturn q n a else a) s

/-- The partner's PATH (R339, R343). With the first one after the entry to UP the readers begin to send; with a later one they return. -/
def peerPathSet (n : Nat) (v : Bool) (s : State) : State :=
  if (lane s n).lk.peerPath = v then s
  else
    let old := s
    let s := raise .lnk n 10 (modLk n (fun x => { x with peerPath := v }) s)
    let s := if v then
        let first := !(lane s n).lk.pathed
        let s := modLk n (fun x => { x with pathed := true }) s
        let s := forN 16 (fun q a => if reads a q n then (if first && reads old q n then rdrStart q n a else rdrReturn q n a) else a) s
        mgmtHeld n (forN 16 (fun q a => if reads old q (pairLane n) && !reads a q (pairLane n) then rdrStop q (pairLane n) a else a) s)
      else laneRelease (xoverStart n (readersStop n (mgmtMove n (trigDrop n s))))
    rteSync s

/-! ### Going DOWN (R307, R309, R312) -/

/-- A rate goes into FAILMASK (R307, R312). -/
def failSet (n r : Nat) (s : State) : State :=
  modLane n (fun x => { x with fail := x.fail ||| 2 ^ r, failAt := tset 0 x.failAt r (256 * s.c) }) s

/-- A rate fails: excluded, STEP_FAIL (R312). -/
def rateFail (n r : Nat) (s : State) : State := raise .lnk n 4 (failSet n r s)

/-- The holder without a TWIN lane shows ISOL at once (R357). -/
def isolSync (s : State) : State :=
  if !laneUp s 4 && !laneUp s 5 && s.twn.token then { s with twn := { s.twn with isol := true } } else s

/-- A lane enters DOWN and goes to a rate, the base rate where it restarts bring-up; a lane that was UP at a stepped rate for less
than 1 s falls back (R307, R311, R312). With the last TWIN lane DOWN, the outputs in SHARE enter HOLD (R129). -/
def laneDownTo (r n : Nat) (s : State) : State :=
  let x := lane s n
  if x.st = .down then s
  else
    let was := decide (x.st = .up) || decide (x.st = .degraded)
    let early : Bool := match x.upAt with
      | some t => decide (x.st = .up) && decide (x.rate ≠ 0) && decide (256 * s.c < t + tauHz)
      | none => false
    let s := setLaneSt n .down s
    let s := if was then raise .lnk n 3 (bump (lnkReg n 0x24) 1 s) else s
    let s := if early then rateFail n x.rate s else s
    let s := modLane n (fun y => { y with sets := 0, maskRun := 0, step := none, stepRx := 0, switched := false, upAt := none, acq := false, caplow := false }) s
    let s := setRate n r (modLane n (fun y => { y with seenUp := y.seenUp || was }) s)
    let s := if was then linkDown n s else s
    if (n = 4 ∨ n = 5) ∧ (lane s (pairLane n)).st = .down then holdAll (isolSync s) else isolSync s

/-- A lane in SUARN enters DOWN and restarts bring-up from the base rate. -/
def laneDown (n : Nat) (s : State) : State := laneDownTo 0 n s

/-- A detector fires: its bit is set, and a lane in SUARN goes DOWN. -/
def laneLose (n t : Nat) (f : Lane → Lane) (s : State) : State :=
  if decide (n < 8) && live s then
    let a := modLane n f (advance t s)
    if isSuarn s n then laneDown n a else a
  else s

def execLosPinAssert (n t : Nat) (s : State) : Host.Outcome State Fault Refusal :=
  .next (if decide (n < 8) && live s then
      let s := modLane n (fun x => { x with losPin := true }) s
      if bit (rg s (lnkReg n 0x40)) 4 then laneLose n t (fun x => x) s else s
    else s)

def execLosIntAssert (n t : Nat) (s : State) : Host.Outcome State Fault Refusal :=
  .next (if (lane s n).rate ≤ 2 then laneLose n t (fun x => { x with losInt := true }) s else s)

def execCdrLol (n t : Nat) (s : State) : Host.Outcome State Fault Refusal :=
  .next (if (lane s n).rate ≤ 2 then laneLose n t (fun x => { x with lol := true }) s else s)

/-- Alignment is lost when 8 invalid words fall within any 64 consecutive ones; the words are numbered, oldest first (R306). -/
def alignLost : List Nat → Bool
  | [] => false
  | a :: l => (match (a :: l).drop 7 with
    | b :: _ => decide (b < a + 64)
    | [] => false) || alignLost l

def execAlignmentLoss (n : Nat) (x : BadWords) (s : State) : Host.Outcome State Fault Refusal :=
  .next (if alignLost x.bad then laneLose n x.t (fun y => y) s else s)

/-! ### Bring-up and rate steps (R306, R307, R310 to R312) -/

/-- UP or DEGRADED with another highest common rate: ALIGN, with a rate step (R307). -/
def rateCheck (n : Nat) (s : State) : State :=
  if laneUp s n ∧ commonRate s n ≠ (lane s n).rate then
    let t := commonRate s n
    let s := isolSync (linkDown n (setLaneSt n .align s))
    modLane n (fun x => { x with seenUp := true, step := some t, stepRx := 0, switched := false, sets := 0, maskRun := 0, upAt := none }) s
  else s

/-- A detector holds the lane DOWN: the pin where LOSPIN counts it, the internal detectors at 3.125 Gbaud and below (R309). -/
def laneHeld (s : State) (n : Nat) : Bool :=
  let x := lane s n
  (x.losPin && bit (rg s (lnkReg n 0x40)) 4) || (decide (x.rate ≤ 2) && (x.losInt || x.lol))

/-- The partner's signal returns: the detectors' bits clear (R309). -/
def execLaneSignalPresent (n : Nat) (s : State) : Host.Outcome State Fault Refusal :=
  .next (if decide (n < 8) && live s then modLane n (fun x => { x with losPin := false, losInt := false, lol := false }) s else s)

/-- The place and polarity of the commas that align a receiver: K28.5 at the same position in 8 consecutive words, all of one
polarity (R306). Each entry is a word's comma, newest first: its position, and whether it came inverted. -/
def alignedAt (l : List (Nat × Bool)) : Option (Nat × Bool) := match l with
  | [] => none
  | a :: _ => if (l.take 8).length = 8 ∧ (l.take 8).all (fun b => decide (b = a)) then some a else none

/-- The receiver aligns: from DOWN, or again after its transmitter switched. -/
def execLaneAlign (n : Nat) (commas : List (Nat × Bool)) (s : State) : Host.Outcome State Fault Refusal :=
  match alignedAt commas with
  | none => .next s
  | some (_, inv) => .next (if isSuarn s n && lanesPowered s && (decide ((lane s n).st = .down) || decide ((lane s n).st = .align)) &&
      (!sleeping s || decide (n = keepLane s)) && !laneHeld s n then
    setLaneSt n .align (modLane n (fun x => { x with rxinv := inv, sets := 0, maskRun := 0 }) s)
  else s)

/-- Ordered sets received in ALIGN, UP or DEGRADED: the partner's mask, STEP sets naming the target (R310, R311). A step under way
completes or falls back before a further one follows (R316). -/
def osTake (n mask : Nat) (step : Option Nat) (run : Nat) (s : State) : State :=
  let s := modLane n (fun x => { x with
    sets := min 1024 (x.sets + run),
    maskRun := if x.mask = mask then min 64 (x.maskRun + run) else min 64 run, mask := mask,
    stepRx := match step, x.step with
      | some a, some b => if a = b then min 64 (x.stepRx + run) else 0
      | _, _ => 0 }) s
  let x := lane s n
  if x.sets = 1024 ∧ x.maskRun = 64 then
    let s := modLane n (fun y => { y with pmask := y.mask % 128 }) s
    if x.st = .align ∧ x.step.isNone ∧ commonRate s n ≠ x.rate then
      modLane n (fun y => { y with step := some (commonRate s n), stepRx := 0, switched := false, sets := 0, maskRun := 0 }) s
    else rateCheck n s
  else s

/-- Characters 1 to 3 of an ordered set that the link layer defines: the mask it carries, and the target where it is a STEP set (R322). -/
def setMeaning (l : List Nat) : Option (Nat × Option Nat) := match l with
  | [ty, mask, c3] =>
    if 128 ≤ mask then none
    else if ty = 1 then (if c3 = 0 then some (mask, none) else none)
    else if ty = 2 then some (mask, none)
    else if ty = 3 then (if c3 ≤ 6 then some (mask, some c3) else none)
    else none
  | _ => none

/-- What an ordered set says as the lane receives it, none where it is not valid (R305): `off` is the place of its K28.5 from the aligned
word boundary, `rd` the receiver's running disparity before it, and the symbols are those on the balls, which an inverted receiver
inverts (R306). -/
def setRead (s : State) (n off : Nat) (rd : Bool) (syms : List Nat) : Option (Nat × Option Nat) :=
  if off ≠ 0 then none
  else match decSet rd (if (lane s n).rxinv then syms.map (fun x => 1023 - x) else syms) with
    | some l => setMeaning l
    | none => none

/-- Ordered sets arrive, `run` of them alike in a row. -/
def execOrderedSetReceive (n off : Nat) (rd : Bool) (syms : List Nat) (run : Nat) (s : State) : Host.Outcome State Fault Refusal :=
  .next (if isSuarn s n && live s && decide ((lane s n).st ≠ .down) then
    (match setRead s n off rd syms with
      | some (mask, step) => osTake n mask step run s
      | none => modLane n (fun x => { x with sets := 0, maskRun := 0, stepRx := 0 }) s)
  else s)

/-- FOM is sufficient for UP at the rate (R307). -/
def fomUp (s : State) (n : Nat) : Bool :=
  decide ((lane s n).rate < 3) || decide (af s (lnkReg n 0x48) 24 8 ≤ (lane s n).fom)

/-- CAPLOW when the lane's cap is below the need of the last passed check (R319). -/
def capCheck (n : Nat) (s : State) : State :=
  let low := decide (rateCap (lane s n).rate < tget 0 s.cmt.need n)
  let was := (lane s n).caplow
  let s := modLane n (fun x => { x with caplow := low }) s
  if low && !was then raise .lnk n 5 s else s

def execLaneUp (n t : Nat) (s : State) : Host.Outcome State Fault Refusal :=
  let x := lane s n
  .next (if isSuarn s n && lanesPowered s && decide (x.st = .align) && decide (x.sets = 1024) && decide (x.maskRun = 64) &&
      ((x.step.isNone && decide (commonRate s n = x.rate)) || x.switched) && fomUp s n && !x.acq then
    let s := setLaneSt n .up (advance t s)
    let s := modLane n (fun y => { y with step := none, stepRx := 0, switched := false, upAt := if y.rate = 0 then none else some t }) s
    rateCheck n (capCheck n (linkUp n s))
  else s)

/-- `x.sent` STEP sets naming the target have been sent since the step began (R311). -/
def execRateStepSwitch (x : StepSent) (s : State) : Host.Outcome State Fault Refusal :=
  let n := x.lane
  match (lane s n).step with
  | some r =>
    .next (if isSuarn s n && linkLive s && !(lane s n).switched && decide (64 ≤ x.sent) && decide ((lane s n).stepRx = 64) then
      setRate n r (modLane n (fun y => { y with switched := true, swAt := 256 * s.c, sets := 0, maskRun := 0, stepRx := 0 }) s)
    else s)
  | none => .next s

def execRateStepTimeout (n t : Nat) (s : State) : Host.Outcome State Fault Refusal :=
  match (lane s n).step with
  | some r =>
    .next (if isSuarn s n && live s && (lane s n).switched && !laneUp s n && decide ((lane s n).swAt + usTau 2000 ≤ t) then laneDown n (rateFail n r (advance t s)) else s)
  | none => .next s

def execFailmaskExpire (n c : Nat) (s : State) : Host.Outcome State Fault Refusal :=
  .next (if decide (n < 8) && live s && decide (tget 0 (lane s n).failAt c + 3600 * tauHz ≤ 256 * s.c) then
    rateCheck n (modLane n (fun x => { x with fail := x.fail &&& (127 ^^^ 2 ^ c) }) s)
  else s)

/-! ### Register writes (R312, R315, R317, R318, R321) -/

/-- A write of LN_CTRL: FREEZE, CLRFAIL. -/
def lnCtrl (n : Nat) (w : Word) (s : State) : State :=
  let s := setRg (lnkReg n 0x5C) (w &&& 1#32) s
  if bit w 8 then rateCheck n (modLane n (fun x => { x with fail := 0, failAt := [] }) s) else s

def execLnClrfail (_ : Path) (n : Nat) (s : State) : Host.Outcome State Fault Refusal :=
  .next (if n < 8 then direct .lnk n (lnCtrl n (rg s (lnkReg n 0x5C) ||| 0x100#32)) s else s)

/-- Add to the PRBS counts of a locked checker (R318). -/
def prbsCount (n errs bits : Nat) (s : State) : State :=
  let z := decide (rg s (lnkReg n 0x64) = 0)
  let s := bump (lnkReg n 0x64) errs (modLane n (fun x => { x with prbsBits := (x.prbsBits + bits) % 2 ^ 64 }) s)
  if z ∧ 0 < errs then raise .lnk n 6 s else s

/-- The rate of test pattern operation: RATE where the family has it; a lane keeps its rate under another code, of which the manual
says only that the check refuses it (R317, R320; DESIGN CHOICE, log entry 202). -/
def prbsRate (s : State) (n : Nat) : Nat :=
  let r := fld (rg s (lnkReg n 0x60)) 12 3
  if (famMask (rg s 0x104C)).testBit r then r else (lane s n).rate

def prbsOn (s : State) (n : Nat) : Bool := decide (n < 8) && decide (laneMode s n = 1)

/-- An injected bit is sent: with LOOP the hub's own locked checker counts it once. -/
def injectSend (n : Nat) (s : State) : State :=
  let w := rg s (lnkReg n 0x60)
  if prbsOn s n && bit w 4 && (lane s n).inject then
    let s := modLane n (fun x => { x with inject := false }) s
    if bit w 7 && bit w 5 && (lane s n).prbsLock then prbsCount n 1 1 s else s
  else s

/-- A write of LN_PRBS. -/
def prbsWrite (n : Nat) (w : Word) (s : State) : State :=
  let old := rg s (lnkReg n 0x60)
  let s := setRg (lnkReg n 0x60) (w &&& 0x70F7#32) s
  let s := if bit w 5 && !bit old 5 then
      setRg (lnkReg n 0x64) 0 (modLane n (fun x => { x with prbsLock := false, prbsBits := 0 }) s)
    else s
  let s := if bit w 5 then s else modLane n (fun x => { x with prbsLock := false }) s
  let s := if bit w 8 then modLane n (fun x => { x with inject := true }) s else s
  if prbsOn s n then
    let r := prbsRate s n
    let s := setRate n r s
    if bit w 5 && !bit old 5 && decide (3 ≤ r) then modLane n (fun x => { x with acq := true }) s else s
  else s

def execPrbsInject (_ : Path) (n : Nat) (s : State) : Host.Outcome State Fault Refusal :=
  .next (if n < 8 then direct .lnk n (prbsWrite n (rg s (lnkReg n 0x60) ||| 0x100#32)) s else s)

def execPrbsChkEnable (_ : Path) (n : Nat) (s : State) : Host.Outcome State Fault Refusal :=
  .next (if n < 8 then direct .lnk n (prbsWrite n (rg s (lnkReg n 0x60) ||| 0x20#32)) s else s)

/-- The two delays of a pattern's polynomial (R317). -/
def prbsTaps (pat : Nat) : Nat × Nat := match pat with
  | 0 => (7, 6)
  | 1 => (9, 5)
  | 2 => (15, 14)
  | 3 => (23, 18)
  | _ => (31, 28)

/-- The bit that follows a run of a lane's bits, newest first, in the pattern and inversion of LN_PRBS: INV inverts every bit, and so
keeps the run (R317). -/
def prbsNext (s : State) (n : Nat) (l : List Bool) : Bool :=
  let w := rg s (lnkReg n 0x60)
  let at_ (d : Nat) : Bool := xor (bit w 6) (l.getD (d - 1) false)
  xor (bit w 6) (xor (at_ (prbsTaps (fld w 0 3)).1) (at_ (prbsTaps (fld w 0 3)).2))

/-- Bits that the checker needs before it can predict one. -/
def prbsLen (s : State) (n : Nat) : Nat := (prbsTaps (fld (rg s (lnkReg n 0x60)) 0 3)).1

/-- The last k bits of a run, newest first, were each predicted from the bits before them. -/
def prbsPredicts (s : State) (n : Nat) : Nat → List Bool → Bool
  | 0, _ => true
  | k + 1, l => match l with
    | b :: r => decide (prbsLen s n ≤ r.length) && decide (b = prbsNext s n r) && prbsPredicts s n k r
    | [] => false

/-- The received bits, newest first, end in 64 that the checker has predicted (R318). -/
def execPrbsCheckerLock (x : PrbsRx) (s : State) : Host.Outcome State Fault Refusal :=
  let n := x.lane
  .next (if prbsOn s n && live s && bit (rg s (lnkReg n 0x60)) 5 && prbsPredicts s n 64 x.rx then
    modLane n (fun y => { y with prbsLock := true }) s else s)

/-- `x.win` errors in the last 4096 bits; `x.errs` of `x.bits` compared since the last tick are counted, as the checker was locked (R318). -/
def execPrbsCheckerUnlock (x : PrbsLoss) (s : State) : Host.Outcome State Fault Refusal :=
  let n := x.lane
  .next (if prbsOn s n && live s && (lane s n).prbsLock && decide (256 < x.win) then
    modLane n (fun y => { y with prbsLock := false }) (prbsCount n x.errs x.bits s) else s)

/-- LN_CFG becomes active (R307, R310, R316, R317). -/
def lnCfgApply (n : Nat) (old new : Word) (s : State) : State :=
  if fld old 0 2 ≠ fld new 0 2 then
    let r := if fld new 0 2 = 1 then prbsRate s n else 0
    setRate n r (modLane n (fun x => { x with prbsLock := false }) (laneDownTo r n s))
  else if fld new 0 2 = 0 ∧ bit new 4 ∧ bit old 4 = false ∧ (lane s n).losPin then laneDown n s
  else rateCheck n s

/-- CLK_LFAM changes: every lane goes DOWN and PLL-L relocks (R304). -/
def famApply (s : State) : State :=
  let s := forN 8 laneDown s
  { s with pwr := { s.pwr with pllL := false } }

/-! ### Adaptation and degradation (R307, R314, R315) -/

/-- The CTLE code of the highest FOM among the 16, the lowest code on a tie (R314). -/
def bestCtle (foms : List Nat) : Nat :=
  (List.range 16).foldl (fun a c => if foms.getD a 0 < foms.getD c 0 then c else a) 0

/-- Acquisition ends: the FOM at each CTLE code in order of codes, the taps to which the DFE converged again, and the FOM with them. With
FREEZE the CTLE and the taps stay, which a rate switch has set to the preset (R313 to R315). -/
def execEqAcquisitionDone (n fom : Nat) (foms dfe : List Nat) (s : State) : Host.Outcome State Fault Refusal :=
  let x := lane s n
  let train := isSuarn s n || (prbsOn s n && bit (rg s (lnkReg n 0x60)) 5)
  .next (if live s && x.acq && train && decide (3 ≤ x.rate) then
    let frz := bit (rg s (lnkReg n 0x5C)) 0
    modLane n (fun y => { y with
      acq := false, fom := fom % 256, fomMin := fom % 256,
      ctle := if frz then y.ctle else bestCtle foms,
      dfe := if frz then y.dfe else if y.rate < 5 then [0, 0, 0, 0, 0] else (dfe ++ [0, 0, 0, 0, 0]).take 5 }) s
  else s)

def execLaneDegrade (n : Nat) (s : State) : Host.Outcome State Fault Refusal :=
  .next (if isSuarn s n && live s && decide ((lane s n).st = .up) && decide (af s (lnkReg n 0x48) 8 8 ≤ (lane s n).bad) &&
      decide ((lane s n).bad ≠ 0) then
    raise .lnk n 2 (bump (lnkReg n 0x28) 1 (setLaneSt n .degraded s))
  else s)

def execLaneRecover (n : Nat) (s : State) : Host.Outcome State Fault Refusal :=
  .next (if isSuarn s n && live s && decide ((lane s n).st = .degraded) && decide (256 ≤ (lane s n).clean) && fomUp s n then
    setLaneSt n .up (modTlane n (fun x => { x with arr := none }) s)
  else s)

def execLaneDwellExpire (n t : Nat) (s : State) : Host.Outcome State Fault Refusal :=
  .next (if isSuarn s n && live s && decide ((lane s n).st = .degraded) && bit (rg s (lnkReg n 0x40)) 5 &&
      decide (af s (lnkReg n 0x4C) 0 16 ≤ (lane s n).deg) then
    laneDown n (failSet n (lane s n).rate (advance t s))
  else s)

/-- The DFE taps to which the receiver has tracked, unless it is frozen (R315). -/
def laneTrack (n : Nat) (dfe : List Nat) (s : State) : State :=
  if laneUp s n && decide (5 ≤ (lane s n).rate) && !bit (rg s (lnkReg n 0x5C)) 0 then
    modLane n (fun x => { x with dfe := (dfe ++ [0, 0, 0, 0, 0]).take 5 }) s
  else s

/-- A frame's invalid words in UP or DEGRADED, counted also where the lane has left these states since; lowest and latest FOM (R306, R307). -/
def laneFrame (n inv fom now : Nat) (s : State) : State :=
  let s := if laneUp s n || (lane s n).seenUp then bump (lnkReg n 0x20) inv (modLane n (fun y => { y with seenUp := false }) s) else s
  if laneUp s n = false then s
  else
    let x := lane s n
    let hi := decide (3 ≤ x.rate)
    let bad := decide (af s (lnkReg n 0x48) 0 8 ≤ inv) || (hi && decide (fom < af s (lnkReg n 0x48) 16 8))
    let clean := decide (inv = 0) && (!hi || decide (af s (lnkReg n 0x48) 24 8 ≤ now))
    modLane n (fun y => { y with
      bad := if y.st = .up ∧ bad then y.bad + 1 else 0,
      clean := if y.st = .degraded ∧ clean then y.clean + 1 else 0,
      deg := if y.st = .degraded then y.deg + 1 else 0,
      fomMin := if hi then fom % 256 else 0, fom := if hi then now % 256 else 0 }) s

/-- LN_STATUS (R321). -/
def lnStatus (s : State) (n : Nat) : Nat :=
  let x := lane s n
  let st := match x.st with
    | .down => 0
    | .align => 1
    | .up => 2
    | .degraded => 3
  x.fail <<< 24 ||| x.pmask <<< 16 ||| bbit x.caplow 13 ||| bbit x.prbsLock 12 ||| bbit x.rxinv 11 |||
    bbit (x.lol && decide (x.rate ≤ 2)) 10 ||| bbit (x.losInt && decide (x.rate ≤ 2)) 9 ||| bbit x.losPin 8 ||| bbit x.step.isSome 7 ||| x.rate <<< 4 ||| st

/-- LN_FOM and LN_DFE. -/
def lnFom (s : State) (n : Nat) : Nat :=
  let x := lane s n
  (x.ctle % 16) <<< 16 ||| (if x.rate < 3 then 0 else x.fomMin <<< 8 ||| x.fom)
def lnDfe (s : State) (n : Nat) : Nat := ((lane s n).dfe.zipIdx).foldl (fun a p => a ||| (p.1 % 64) <<< (6 * p.2)) 0

end Sys2Proof.Machine
end

