-- ==== Sys2Proof/Machine/Link.lean ====
section
/-! DEFINITION. The Suarn link layer: packets, acknowledgement, credits, go-back, transmit order, relay of STOOK packets
(chapter 15). -/

namespace Sys2Proof.Machine

open Sys2Proof

/-! ### Packets (R324, R326, R338) -/

/-- Credit units of a packet (R329), and its class: 0 S, 1 P, none for the uncredited types (R325). -/
def pktCost (p : Pkt) : Nat := (24 + p.body.length + 63) / 64
def pktClass (ty : Nat) : Option Nat := match ty with
  | 1 => some 0
  | 2 => some 1
  | 5 => some 1
  | _ => none

/-- The 20 bytes of a header. -/
def pktHead (p : Pkt) : List Byte :=
  leBytes 1 0xFB ++ leBytes 1 (p.ty % 16 ||| bbit p.first 4 ||| bbit p.last 5 ||| bbit p.retx 6) ++ leBytes 2 p.body.length ++
    leBytes 2 p.lseq ++ leBytes 1 (p.queue % 16 ||| (p.hops % 16) <<< 4) ++ leBytes 1 (p.lane % 8) ++ leBytes 4 p.origin ++
    leBytes 4 p.qpos ++ leBytes 4 p.dest

/-- The packet on the wire: header, payload, and the CRC-32 of bytes 1 to 19 + LEN (R324). -/
def pktWire (p : Pkt) : List Byte :=
  let b := pktHead p ++ p.body
  b ++ leBytes 4 ((crc32 (b.drop 1)) ^^^ bbit p.bad 0)

/-- The record that a relayed packet becomes, and the packet in it. -/
def relayRec (p : Pkt) : List Byte :=
  let b := pad8 (pktHead p ++ p.body)
  leBytes 2 0x0A ++ leBytes 2 (b.length / 8 + 1) ++ leBytes 4 0 ++ b
def byteAt (l : List Byte) (i : Nat) : Nat := (l.getD i 0).toNat
def leAt (l : List Byte) (i n : Nat) : Nat := leNat ((l.drop i).take n)
def relayPkt (l : List Byte) : Pkt :=
  let h := l.drop 8
  { ty := 1, first := (byteAt h 1).testBit 4, last := (byteAt h 1).testBit 5, queue := byteAt h 6 % 16, hops := byteAt h 6 / 16 + 1,
    lane := byteAt h 7 % 8, origin := leAt h 8 4, qpos := leAt h 12 4, dest := leAt h 16 4, body := (h.drop 20).take (leAt h 2 2) }

/-- The chaff record that replaces a destroyed relay record (R340). -/
def relayChaff (l : List Byte) : List Byte :=
  let h := l.drop 8
  leBytes 2 8 ++ leBytes 2 6 ++ leBytes 2 0x304 ++ leBytes 2 0xFFFF ++ leBytes 4 (leAt h 8 4) ++ leBytes 1 (byteAt h 6 % 16) ++ leBytes 3 0 ++
    leBytes 4 (leAt h 12 4) ++ leBytes 2 (leAt h 2 2 / 8) ++ leBytes 2 0 ++ leBytes 24 0

/-! ### Credit the hub gives (R329, R338) -/

/-- Free words of a relay queue that any packet's record can use. -/
def relayFree (s : State) (q : Nat) : Nat :=
  let part (cap use : Nat) : Nat := cap - use - 260
  let r := part (qWords s q) (qUsed (queue s q) false)
  let sp := if qSpen s q ∧ bankOwner s (qSpill s q) = ownQue then part 262144 (qUsed (queue s q) true) else 0
  r + sp

/-- CLIM_S and CLIM_P advertised on a lane. A record never takes more than 9 words a unit. -/
def climS (s : State) (n : Nat) : Nat := match lanePort s n with
  | some p => ((lane s n).lk.freeS + relayFree s (portQueue s p) / 9) % 65536
  | none => (lane s n).lk.freeS % 65536
def climP (s : State) (n : Nat) : Nat := (128 + (lane s n).lk.freeP) % 65536

/-- The link status of a lane, as bytes. -/
def statusBytes (s : State) (n reason : Nat) : List Byte :=
  let lim := (lane s n).lk.hold.getD (climS s n, climP s n)
  leBytes 2 ((lane s n).lk.e + 65535) ++ leBytes 2 lim.1 ++ leBytes 2 lim.2 ++
    leBytes 1 (bbit (advPath s n) 0 ||| bbit (lanePort s n).isNone 1) ++ leBytes 1 reason

/-! ### Control packets (R328, R331) -/

def ctlSend (n : Nat) (p : Pkt) (s : State) : State :=
  if laneUp s n then modLk n (fun x => { x with ctl := x.ctl ++ [{ p with lane := n, origin := origin }] }) s else s
def sendAck (n : Nat) (s : State) : State := modLk n (fun x => { x with acc := 0 }) (ctlSend n { ty := 6 } s)
/-- A NAK for the expected LSEQ; none for an LSEQ that has had one. -/
def sendNak (n reason : Nat) (s : State) : State :=
  let k := (lane s n).lk
  if reason ≠ 3 ∧ k.nak = some k.e then s
  else modLk n (fun x => { x with nak := some x.e }) (ctlSend n { ty := 7, body := leBytes 1 reason } s)
def sendIdle (n : Nat) (s : State) : State := ctlSend n { ty := 8 } s

def execAckTimer (n : Nat) (s : State) : Host.Outcome State Fault Refusal :=
  .next (if linkLive s && decide (n < 8) && decide (0 < (lane s n).lk.acc) then sendAck n s else s)

def execNakRepeat (n : Nat) (s : State) : Host.Outcome State Fault Refusal :=
  .next (if linkLive s && decide (n < 8) && decide ((lane s n).lk.nak = some (lane s n).lk.e) then sendNak n 3 s else s)

def execPacketCrcDiscard (n : Nat) (seq : Bool) (s : State) : Host.Outcome State Fault Refusal :=
  .next (if linkLive s && decide (n < 8) && laneUp s n then
    let s := bump (lnkReg n 0x30) 1 s
    if seq then sendNak n 1 s else s
  else s)

/-! ### Receiving (R330, R331) -/

/-- A packet is discarded for its type or place: UNROUTED. -/
def unrouted (n : Nat) (s : State) : State := raise .lnk n 11 (bump (lnkReg n 0x3C) 1 s)

/-- A valid sequenced packet: accepted, gap, duplicate, or out of window (R330). -/
def seqRx (n lseq : Nat) (f : State → State) (s : State) : State :=
  let k := (lane s n).lk
  let d := (lseq + 65536 - k.e % 65536) % 65536
  if d = 0 then
    let s := f (modLk n (fun x => { x with e := (x.e + 1) % 65536, acc := x.acc + 1, nak := none }) s)
    if af s (lnkReg n 0x100) 0 8 ≤ (lane s n).lk.acc then sendAck n s else s
  else if d < 4096 then sendNak n 2 s
  else if 61440 ≤ d then sendAck n s
  else bump (lnkReg n 0x30) 1 s

/-- LEN is in range: a multiple of 4, at most 2048 (R324). -/
def lenOk (p : Pkt) : Bool := decide (p.body.length ≤ 2048) && decide (p.body.length % 4 = 0)

/-- A packet whose LEN is out of range is discarded and counted in CRC_ERRS (R324). -/
def lenBad (n : Nat) (s : State) : State := bump (lnkReg n 0x30) 1 s

/-- The lane can receive packets. -/
def rxOk (s : State) (n : Nat) : Bool := linkLive s && decide (n < 8) && laneUp s n

/-- An accepted STOOK packet: to the relay queue, or discarded; its credit is counted (R329, R338). -/
def stookTake (n : Nat) (p : Pkt) (s : State) : State :=
  let s := modLk n (fun x => { x with freeS := x.freeS + pktCost p }) s
  match lanePort s n with
  | some i =>
    let b := relayRec p
    bump 0x18020 1 (qAdmit (portQueue s i) (.relay false) (b.length / 8) b s)
  | none => unrouted n s

def execStookPacketReceive (n : Nat) (pk : Pkt) (s : State) : Host.Outcome State Fault Refusal :=
  .next (if rxOk s n && decide (pk.ty = 1) then (if lenOk pk then seqRx n pk.lseq (stookTake n pk) s else lenBad n s) else s)

def execTrigPacketReceive (n lseq : Nat) (k : TrigPkt) (t : Nat) (s : State) : Host.Outcome State Fault Refusal :=
  .next (if rxOk s n then seqRx n lseq (trigTake n k) (advance t s) else s)

/-- The TRIG fields of a packet (R326). -/
def trigOf (p : Pkt) : TrigPkt :=
  let b := p.body
  { line := byteAt b 0 % 8, ttl := byteAt b 0 / 8 % 16, id := leAt b 2 2, origin := leAt b 4 4, inst := leAt b 8 12,
    creator := p.origin, lane := p.lane, hops := p.hops }

/-! ### Link status received (R328 to R331, R339) -/

/-- The last chunk of an image that this hub sends has been acknowledged: its CFG_IMAGE_SAVE ends (R398). -/
def imageAcked (p : Pkt) (s : State) : State :=
  if p.ty = 2 ∧ p.origin = origin ∧ byteAt p.body 0 = 1 ∧ leAt p.body 8 2 = 0x104 ∧ byteAt p.body 24 % 2 = 1 then
    (s.flight.filter (fun f => decide (f.wait = .imageSend) && decide (256 * f.gen + f.tag = leAt p.body 4 4))).foldl
      (fun a f => finish f stOk f.buf a) s
  else s

/-- Packets up to an LSEQ are acknowledged: pointers move, queues are released (R331). -/
def ackTo (n a : Nat) (s : State) : State :=
  let k := (lane s n).lk
  let done := k.un.takeWhile (fun r => decide ((a + 65536 - r.pk.lseq % 65536) % 65536 < 32768))
  if done = [] then s
  else
    let s := modLk n (fun x => { x with un := x.un.drop done.length, backs := 0 }) s
    let s := forL done (fun r b => viaFree r.pk (match r.stop with
      | some e => modRdr r.q n (fun y => { y with ack := max y.ack e }) b
      | none => b)) s
    let s := forL done (fun r b => if r.gone then b else imageAcked r.pk b) s
    forN 16 (fun q b => if done.any (fun r => decide (r.q = q) && r.stop.isSome) then release q b else b) s

/-- Credit limits and PATH of a link status. -/
def statusTake (n : Nat) (k : LinkSt) (s : State) : State :=
  peerPathSet n k.path (modLk n (fun x => { x with limS := k.climS % 65536, limP := k.climP % 65536, unlim := k.unlimS }) s)

def statusRx (n : Nat) (k : LinkSt) (s : State) : State := statusTake n k (ackTo n (k.ackseq % 65536) s)

/-! ### Go-back (R333, R334) -/

/-- Position up to which a queue has been sent on the lane. -/
def sentTo (s : State) (n q : Nat) : Nat := tget 0 (lane s n).lk.sentTo q

/-- A queue's reader goes back to the first record of the packets that were sent from the LSEQ on; a QRESYNC word and the chaff records
among them are sent again too (R333). -/
def backReader (n q : Nat) (l : List TxRec) (s : State) : State := match l with
  | [] => s
  | r :: _ =>
    let c := (rdrNow s q n).rd + (rdr s q n).off / 8
    let s := modLk n (fun x => { x with backQ := tset 0 x.backQ q (max (tget 0 x.backQ q) c) }) s
    let s := (rewind q n r.start s).2
    let s := modQueue q (fun x => { x with chaff := x.chaff.map (fun e =>
      if l.any (fun t => decide (t.chaff = some (chaffKey e))) then { e with sent := e.sent.filter (· ≠ n) } else e) }) s
    match l.find? (fun t => decide (t.owed ≠ 0)) with
    | some t => modRdr q n (fun y => { y with owe := t.owed }) s
    | none => s

/-- A go-back from LSEQ a. -/
def goBack (n a : Nat) (s : State) : State :=
  let k := (lane s n).lk
  let keep := k.un.takeWhile (fun r => decide (r.pk.lseq ≠ a))
  let sel := k.un.drop keep.length
  if sel = [] then s
  else
    let cost (c : Nat) : Nat := (sel.filter (fun r => decide (pktClass r.pk.ty = some c))).foldl (fun x r => x + r.cost) 0
    let redo := (sel.filter (fun r => decide (pktClass r.pk.ty = some 1) && !r.gone)).map (fun r => { r.pk with retx := true })
    let s := modLk n (fun x => { x with
      un := keep, tx := a, uS := (x.uS + 65536 - cost 0 % 65536) % 65536, uP := (x.uP + 65536 - cost 1 % 65536) % 65536,
      again := redo ++ x.again, backFrom := a, goback := true, backs := x.backs + 1 }) s
    let s := raise .lnk n 8 (bump (lnkReg n 0x34) 1 s)
    forN 16 (fun q b => backReader n q (sel.filter (fun r => decide (r.pk.ty = 1) && decide (r.q = q))) b) s

/-- LK_RTO in tau/256 (R334). -/
def rtoTau (s : State) (n : Nat) : Nat :=
  let x := tlane s n
  if x.nValid = 0 then usTau 2000 else (2 * x.dly * (tauHz : Int) / 2 ^ 64).toNat + usTau (af s (lnkReg n 0x100) 16 8)

def execAckReceive (n : Nat) (k : LinkSt) (s : State) : Host.Outcome State Fault Refusal :=
  .next (if rxOk s n then statusRx n k s else s)

/-- Where a NAK for LSEQ a starts: during a go-back at the lower of the two LSEQs, as far as it is not acknowledged meanwhile
(R344; DEDUCED, log entry 193). -/
def backStart (s : State) (n a : Nat) : Nat :=
  let k := (lane s n).lk
  if k.goback then
    let b := if (a + 65536 - k.backFrom % 65536) % 65536 < 32768 then k.backFrom else a
    if k.un.any (fun r => decide (r.pk.lseq = b)) then b else (k.un.head?.map (fun r => r.pk.lseq)).getD b
  else a

def execNakReceive (n : Nat) (k : LinkSt) (s : State) : Host.Outcome State Fault Refusal :=
  .next (if rxOk s n then
    let s := statusRx n k s
    goBack n (backStart s n ((k.ackseq + 1) % 65536)) s
  else s)

def execIdlePacketReceive (n : Nat) (k : LinkSt) (s : State) : Host.Outcome State Fault Refusal :=
  .next (if rxOk s n then statusRx n k (modLk n (fun x => { x with ka := 0, gotIdle := true }) s) else s)

def execRetxTimeout (n t : Nat) (s : State) : Host.Outcome State Fault Refusal :=
  match (lane s n).lk.un with
  | [] => .next s
  | r :: _ => .next (if rxOk s n && decide (r.at_ + rtoTau s n ≤ t) then goBack n r.pk.lseq (advance t s) else s)

def execKeepaliveLoss (n t : Nat) (s : State) : Host.Outcome State Fault Refusal :=
  .next (if rxOk s n && (decide (3 ≤ (lane s n).lk.ka) || decide (64 ≤ (lane s n).lk.backs)) then
    laneDown n (raise .lnk n 9 (advance t s))
  else s)

/-! ### What a queue's reader sends next (R271, R276, R281, R336, R340) -/

/-- The chaff entry a reader sends now. -/
def chaffDue (s : State) (q n : Nat) : Option Chaff :=
  (queue s q).chaff.find? (fun e => !e.sent.contains n && decide (e.pos ≤ (rdrNow s q n).rd))

def recAt (s : State) (q p : Nat) : Option Rec := (queue s q).recs.find? (fun r => decide (r.pos = p))

/-- A record lies in a bank that has been handed over (R373). -/
def recLost (s : State) (c : Rec) : Bool := c.spill && decide (bankOwner s c.bank ≠ ownQue)

/-- A record's bytes as they are read: zeros from a bank of another owner (R373). -/
def recBytes (s : State) (c : Rec) : List Byte := if recLost s c then List.replicate c.bytes.length 0 else c.bytes

/-- The reader has something to send. -/
def qHas (s : State) (n q : Nat) : Bool :=
  let r := rdrNow s q n
  decide (r.owe ≠ 0) || (decide (r.off = 0) && (chaffDue s q n).isSome) || (recAt s q r.rd).isSome

/-- A STOOK packet on its way: the packet, the start of its record, the end its LAST fragment reaches. -/
structure StookTx where
  pk : Pkt
  start : Nat
  stop : Option Nat
  owed : Nat := 0
  chaff : Option Chaff := none
  deriving Repr

/-- One STOOK packet of a queue for a lane, taken from the reader. -/
def qTake (n q : Nat) (s : State) : Option StookTx × State :=
  let r := rdrNow s q n
  let own (first last : Bool) (pos : Nat) (b : List Byte) : Pkt :=
    { ty := 1, first := first, last := last, queue := q, lane := n, origin := origin, qpos := pos % 2 ^ 32, body := b }
  if r.owe ≠ 0 then
    let sr := ((queue s q).ser + 1) % 65536
    let s := modRdr q n (fun x => { x with owe := 0, off := 0 }) (modQueue q (fun x => { x with ser := sr }) s)
    (some { pk := own true true r.rd (resyncBytes r.owe sr), start := r.rd, stop := none, owed := r.owe }, s)
  else match (if r.off = 0 then chaffDue s q n else none) with
    | some e =>
      let s := modQueue q (fun x => { x with chaff := x.chaff.map (fun y => if y = e then { y with begun := true, sent := n :: y.sent } else y) }) s
      (some { pk := own true true r.rd (chaffBytes e), start := r.rd, stop := none, chaff := some (chaffKey e) }, s)
    | none => match recAt s q r.rd with
      | none => (none, s)
      | some c =>
        let e := c.pos + c.len
        let fin (a : State) : State := modRdr q n (fun x => { x with rd := max e (queue a q).wm, off := 0 }) a
        match c.tag with
        | .relay false => (some { pk := relayPkt (recBytes s c), start := c.pos, stop := some e }, fin s)
        | _ =>
          let b := ((recBytes s c).drop r.off).take 2048
          let last := decide (c.bytes.length ≤ r.off + 2048)
          (some { pk := own (decide (r.off = 0)) last (c.pos + r.off / 8) b, start := c.pos, stop := if last then some e else none },
            if last then fin s else modRdr q n (fun x => { x with rd := c.pos, off := r.off + 2048 }) s)

/-- The record a reader is about to send meets an uncorrectable word (R285, R340). -/
def qUe (n q : Nat) (s : State) : State := match recAt s q (rdrNow s q n).rd with
  | none => s
  | some c =>
    match c.tag with
    | .relay false =>
      let f (x : Rec) : Rec := if x.pos = c.pos then { x with tag := .relay true, bytes := relayChaff x.bytes } else x
      raise .rte 0 2 (bump 0x1802C 1 (modQueue q (fun x => { x with recs := x.recs.map f }) s))
    | _ => recUe q c s

/-! ### Transmit order (R329, R336) -/

/-- Credit allows a packet of a cost. -/
def credOk (k : Lk) (cls cost : Nat) : Bool :=
  k.gotIdle && (if cls = 0 then k.unlim || decide (sext 16 ((k.uS + cost + 65536 - k.limS % 65536) % 65536) ≤ 0)
    else decide (sext 16 ((k.uP + cost + 65536 - k.limP % 65536) % 65536) ≤ 0))

/-- Class P packets not acknowledged, those of a go-back that wait to be sent again among them (R346). -/
def outstP (k : Lk) : Nat := (k.un.filter (fun r => decide (pktClass r.pk.ty = some 1))).length + k.again.length

/-- A sequenced packet of class P may go now; one that is sent again is among those outstanding already. -/
def pOk (k : Lk) (p : Pkt) (back : Bool) : Bool :=
  decide (k.un.length < 4095) && decide (outstP k < (if back then 33 else 32)) && credOk k 1 (pktCost p)

/-- Put a packet on the wire; a perturbation spoils the CRC of every PARAM-th one (R426). -/
def wire (n : Nat) (p : Pkt) (s : State) : State :=
  if pertOn s .lnk n 2 then
    modLk n (fun x =>
      let k := x.pert + 1
      let bad := decide (pertArg s .lnk n ≤ k)
      { x with cur := some { p with bad := bad }, pert := if bad then 0 else k }) s
  else modLk n (fun x => { x with cur := some p }) s

/-- Number a sequenced packet and send it. -/
def seqTx (n t q : Nat) (x : StookTx) (s : State) : State :=
  let k := (lane s n).lk
  let p : Pkt := { x.pk with lseq := k.tx }
  let r : TxRec := { pk := p, cost := pktCost p, q := q, start := x.start, stop := x.stop, at_ := t, owed := x.owed, chaff := x.chaff }
  let c := pktCost p
  let cls := (pktClass p.ty).getD 1
  let s := modLk n (fun x => { x with
    tx := (x.tx + 1) % 65536, un := x.un ++ [r],
    uS := if cls = 0 then (x.uS + c) % 65536 else x.uS, uP := if cls = 1 then (x.uP + c) % 65536 else x.uP }) s
  wire n p s

/-- Queues of a source: 0 the hub's own, 1 + p the queue of relay port p (R336). -/
def srcQueues (s : State) (n src : Nat) : List Nat :=
  if src = 0 then
    let l := (lane s n).lk.lastQ
    let qs := ((List.range 16).map (fun i => (l + 1 + i) % 16)).filter (fun q => qReads s q n && (relayPort s q).isNone)
    match qs.find? (fun q => decide (0 < (rdr s q n).off)) with
    | some q => [q]
    | none => qs
  else if portEn s (src - 1) ∧ portReader s (src - 1) = n then [portQueue s (src - 1)] else []

def srcPick (s : State) (n src : Nat) : Option Nat := (srcQueues s n src).find? (fun q => qHas s n q)

/-- A queue rewound by a go-back that has not caught up yet (order 4). -/
def backQueue (s : State) (n : Nat) : Option Nat :=
  if (lane s n).lk.goback then (List.range 16).find? (fun q => reads s q n && qHas s n q &&
    (let p := (rdrNow s q n).rd + (rdr s q n).off / 8
     let e := tget 0 (lane s n).lk.backQ q
     decide (p < e) || (decide (p = e) && decide (0 < e) && decide ((rdr s q n).off = 0) &&
       (decide ((rdr s q n).owe ≠ 0) || (chaffDue s q n).isSome)))) else none

/-- A go-back is over once nothing of it is left to be sent again. -/
def backDone (n : Nat) (s : State) : State :=
  if (lane s n).lk.goback && (lane s n).lk.again.isEmpty && (backQueue s n).isNone then
    modLk n (fun x => { x with goback := false, backQ := [] }) s
  else s

/-- WEIGHT x 2048 bytes of a source. -/
def srcGrant (s : State) (src : Nat) : Nat := 2048 * (if src = 0 then 1 else af s (rteCfgA (src - 1)) 0 8)

/-- Payload size of the packet a queue would send. -/
def qSize (s : State) (n q : Nat) : Nat := match (qTake n q s).1 with
  | some x => x.pk.body.length
  | none => 0

/-- Deficit round robin over the five sources (R336): the source served next, with its bytes renewed when it is taken up.
Its payload bytes count; at most `m` turns. -/
def drr (n : Nat) : Nat → State → Option (Nat × Nat) × State
  | 0, s => (none, s)
  | m + 1, s =>
    let k := (lane s n).lk
    let next (a : State) : State :=
      let e := (k.src + 1) % 5
      modLk n (fun x => { x with src := e, defs := tset 0 x.defs e (tget 0 x.defs e + (if (srcPick a n e).isSome then srcGrant a e else 0)) }) a
    match srcPick s n k.src with
    | none => drr n m (next (modLk n (fun x => { x with defs := tset 0 x.defs x.src 0 }) s))
    | some q =>
      if qSize s n q ≤ tget 0 k.defs k.src then (some (k.src, q), s) else drr n m (next s)

/-- Words in error that a reader's next record holds by a perturbation, as its first packet is read (R426). -/
def pertErrs (n q : Nat) (s : State) : List MemErr := match recAt s q (rdrNow s q n).rd with
  | some c =>
    if (rdrNow s q n).off = 0 ∧ (rdrNow s q n).owe = 0 then
      (if c.bad = 0 then [] else [⟨12, 0, decide (c.bad = 2)⟩]) ++
        (if c.spill then
          (List.range c.len).filterMap (fun i =>
            let a := Config.spillPlace (c.pos + i) % 262144
            let e := tget 0 s.mem.errs (262144 * c.bank + a)
            if e = 0 then none else some ⟨c.bank, 8 * a, decide (e = 2)⟩)
        else [])
    else []
  | none => []

/-- Send one STOOK packet of a queue, if credit and the window allow; `ecc` are the words that its read finds in error (R28,
R285). -/
def stookTx (n t q : Nat) (ecc : List MemErr) (s : State) : State :=
  let ecc := ecc ++ pertErrs n q s
  let s := eccList ecc s
  let s := if ecc.any (fun e => e.ue && decide (e.m ≤ 12)) then qUe n q s else s
  let s := if ((recAt s q (rdrNow s q n).rd).map (recLost s)).getD false then nonOwn s else s
  let r := qTake n q s
  match r.1 with
  | none => s
  | some x =>
    let k := (lane s n).lk
    if credOk k 0 (pktCost x.pk) = false then modLk n (fun y => { y with cur := none, stallS := true }) s
    else if 4095 ≤ k.un.length then modLk n (fun y => { y with cur := none }) s
    else
      let c := (rdrNow s q n).rd + (rdr s q n).off / 8
      let old := decide (c < sentTo s n q)
      let e := (rdr r.2 q n).rd + (rdr r.2 q n).off / 8
      let s := modLk n (fun y => { y with
        stallS := false, sentTo := tset 0 y.sentTo q (max (tget 0 y.sentTo q) e),
        lastQ := if (relayPort r.2 q).isNone then q else y.lastQ }) r.2
      let s := if old then bump (lnkReg n 0x38) 1 s else s
      seqTx n t q { x with pk := { x.pk with retx := old } } s

/-- Order 5. -/
def stookTurn (n t : Nat) (ecc : List MemErr) (s : State) : State :=
  if (List.range 5).all (fun e => (srcPick s n e).isNone) then modLk n (fun x => { x with cur := none, stallS := false }) s
  else
    let r := drr n 16 s
    match r.1 with
    | none => modLk n (fun x => { x with cur := none }) s
    | some (e, q) =>
      let z := qSize r.2 n q
      let before := (lane r.2 n).lk.tx
      let s := stookTx n t q ecc r.2
      if (lane s n).lk.tx = before then s else modLk n (fun x => { x with defs := tset 0 x.defs e (tget 0 x.defs e - z) }) s

/-- Orders 4 and 5, while the partner advertises PATH. -/
def stookOrder (n t : Nat) (ecc : List MemErr) (s : State) : State :=
  if (lane s n).lk.peerPath then match backQueue s n with
    | some q => stookTx n t q ecc s
    | none => stookTurn n t ecc s
  else s

/-- A class P packet at the head of a list goes, or waits for credit. -/
def pTurn (n t : Nat) (p : Pkt) (back : Bool) (drop : Lk → Lk) (s : State) : State :=
  if pOk (lane s n).lk p back then
    let own := decide (p.origin = origin)
    seqTx n t 0 { pk := if own then { p with lane := n } else p, start := 0, stop := none } (modLk n (fun x => { drop x with stallP := false }) s)
  else s

/-- The TIME packet that follows the latest TIME ordered set (R205, R326). -/
def timeBody (s : State) (n : Nat) : List Byte := match (tlane s n).deps with
  | [] => leBytes 32 0
  | d :: _ =>
    let i80 (t : Int) : Nat := ((t / 2 ^ 16) % 2 ^ 80).toNat
    let a := match d.pair with
      | some x => leBytes 2 x.id ++ leBytes 10 (i80 d.t3) ++ leBytes 10 (i80 x.t2)
      | none => leBytes 2 0 ++ leBytes 10 (i80 d.t3) ++ leBytes 10 0
    leBytes 2 d.id ++ a ++ leBytes 4 (effBound s (256 * s.c)) ++
      leBytes 1 (s.tmb.ser % 16 ||| stateOut s <<< 4 ||| bbit d.pair.isSome 7) ++
      leBytes 1 (hopsOut s % 16 ||| af s 0x3050 0 3 <<< 4) ++ leBytes 2 0

/-- The packet in progress ends and the next is chosen (R336). A TIME packet is formed here, so that it reports an arrival
stamped since the tick (R206); none is sent under perturbation 4 of the lane (R426). -/
def transmit (n t : Nat) (ecc : List MemErr) (s : State) : State :=
  let k := (lane s n).lk
  let ctl := k.ctl.filter (fun p => !(decide (p.ty = 3) && pertOn s .lnk n 4))
  let s := modLk n (fun x => { x with cur := none, ctl := ctl }) s
  match ctl with
  | p :: r =>
    let s := if p.ty = 3 then osReport n s else s
    let st := decide (p.ty = 6) || decide (p.ty = 7) || decide (p.ty = 8)
    let p : Pkt := if st then { p with body := statusBytes s n (byteAt p.body 0) } else if p.ty = 3 then { p with body := timeBody s n } else p
    let s := if p.ty = 4 then { s with twn := { s.twn with out := true, goOut := s.twn.goOut || s.twn.go } } else s
    wire n p (modLk n (fun x => { x with ctl := r, acc := if st then 0 else x.acc }) s)
  | [] =>
    let canM := (lane s n).lk.peerPath
    let back : List (Pkt × Bool × (Lk → Lk)) := (k.again.head?.map (fun p => (p, true, fun (x : Lk) => { x with again := x.again.drop 1 }))).toList
    let trig (p : Pkt × Bool × (Lk → Lk)) : Bool := decide (p.1.ty = 5)
    let heads : List (Pkt × Bool × (Lk → Lk)) :=
      back.filter trig ++ (k.trigs.head?.map (fun p => (p, false, fun (x : Lk) => { x with trigs := x.trigs.drop 1 }))).toList ++
      back.filter (fun p => !trig p) ++
      (if canM then (k.mgmt.head?.map (fun p => (p, false, fun (x : Lk) => { x with mgmt := x.mgmt.drop 1 }))).toList else [])
    match heads with
    | (p, b, f) :: _ =>
      if pOk k p b then pTurn n t p b f s
      else
        stookOrder n t ecc (modLk n (fun x => { x with stallP := !credOk k 1 (pktCost p) }) s)
    | [] => stookOrder n t ecc s

def execPacketTransmit (n t : Nat) (ecc : List MemErr) (s : State) : Host.Outcome State Fault Refusal :=
  .next (if rxOk s n then backDone n (transmit n t ecc (advance t s)) else s)

/-! ### The link's part of a tick (R205, R328, R346) -/

/-- Keepalive, stalls, and the packets every frame sends. -/
def linkTick (n : Nat) (sentOs : Bool) (s : State) : State :=
  if laneUp s n = false then s
  else
    let lim := if pertOn s .lnk n 1 then some ((lane s n).lk.hold.getD (climS s n, climP s n)) else none
    let s := modLk n (fun x => { x with ka := x.ka + 1, hold := lim }) s
    let k := (lane s n).lk
    let st := k.stallS || k.stallP
    let s := modLk n (fun x => { x with stallOld := st }) s
    let s := if st && k.stallOld then raise .lnk n 12 s else s
    let s := if sentOs then
        ctlSend n { ty := 3 } s
      else s
    if pertOn s .lnk n 5 then s else sendIdle n s

/-- LK_TXSEQ, LK_RXSEQ, LK_CRED, LK_STATUS, LK_RTO, RTE_Pp_STATUS (R346, R347). LK_RTO reads its reset value until the first tick (DESIGN
CHOICE, log entry 207). -/
def lkTxseq (s : State) (n : Nat) : Nat :=
  let k := (lane s n).lk
  (match k.un with
    | r :: _ => r.pk.lseq
    | [] => k.tx) <<< 16 ||| k.tx
def lkStatus (s : State) (n : Nat) : Nat :=
  let k := (lane s n).lk
  outstP k <<< 8 ||| bbit k.goback 4 ||| bbit k.stallP 3 ||| bbit k.stallS 2 |||
    bbit (laneUp s n && advPath s n) 1 ||| bbit k.peerPath 0
def lkRto (s : State) (n : Nat) : Nat := if s.ord = 0 then 0 else min 65535 (rtoTau s n * 1000000 / tauHz)
def rteStatus (s : State) (p : Nat) : Nat :=
  bbit (portEn s p && portPath s p) 0 ||| bbit (portEn s p && decide (portReader s p ≠ portUp s p)) 1 |||
    bbit (portEn s p && decide (relayFree s (portQueue s p) < 9)) 2

end Sys2Proof.Machine
end

