-- ==== Sys2Proof/Machine/Twin.lean ====
section
/-! DEFINITION. Twin operation: LEASE messages, the regulation token, role swaps (chapter 16). -/

namespace Sys2Proof.Machine

open Sys2Proof

def modTwn (f : Twn → Twn) (s : State) : State := { s with twn := f s.twn }
def setHub (x : HubSt) (s : State) : State := { s with hub := { s.hub with st := x } }

/-- Strapped as one of a pair. -/
def isTwin (s : State) : Bool := s.hub.straps.twinEn

def leaseLen (s : State) : Nat := af s 0x7040 0 8
def leaseGuard (s : State) : Nat := af s 0x7040 8 4

/-- A TWIN lane carries packets. -/
def twinUp (s : State) : Bool := laneUp s 4 || laneUp s 5

/-! ### What the hub reports (R348, R353, R360) -/

/-- Output o is shared (R353). -/
def sharedOut (s : State) (o : Nat) : Bool :=
  decide (af s (excCfgA o) 22 2 ≠ 0) && (List.range 32).any (fun c =>
    let g := 32 * (o / 4) + c
    bit (rg s (chCfgA g)) 0 && bit (rg s (chCfgA g)) 10 && bit (rg s (chLeadA g)) (8 + o % 4))

def excModeCode : ExcMode → Nat
  | .off => 0
  | .regulate => 1
  | .share => 2
  | .hold => 3

def leaseOut (s : State) (o : Nat) : List Byte :=
  let e := exc s o
  leBytes 1 (o / 4 ||| (o % 4) <<< 4) ++ leBytes 1 (excModeCode e.mode ||| bbit e.ilim 3 ||| bbit e.headroom 4 ||| bbit e.ramp.isSome 5) ++
    leBytes 2 (af s (excCfgA o) 0 16) ++ leBytes 2 (min e.iout 65535) ++ leBytes 2 0

/-- The timebase is LOCKED with TUNL clear. -/
def lockedClear (s : State) : Bool := decide (s.tmb.st = .locked) && !tunlNow s

/-- LEN or GUARD differ from the partner's (R360, R367). -/
def tmrMis (s : State) : Bool := s.twn.noted && (decide (s.twn.plen ≠ leaseLen s) || decide (s.twn.pguard ≠ leaseGuard s))

/-- Ready to take the token at a swap (R360). -/
def twnReady (s : State) : Bool :=
  isTwin s && !s.twn.token && decide (s.hub.st = .standby) && lockedClear s && decide (s.twn.hepoch ≤ s.cmt.epoch) &&
    (List.range 64).all (fun o => !sharedOut s o || (decide ((exc s o).mode = .share) && (exc s o).ramp.isNone &&
      (match (exc s o).heldAt with
        | some k => decide (k + 1024 ≤ s.ord)
        | none => true))) &&
    (List.range 512).all (fun g => !(bit (rg s (chCfgA g)) 0 && decide ((chan s g).st = .settling))) &&
    !tmrMis s

/-- ROLE of the hub's messages, none while it sends none. -/
def leaseRole (s : State) : Option Nat :=
  if sleeping s ∨ s.hub.st = .boot ∨ pertOn s .twn 0 1 then none
  else if isTwin s = false then some 4
  else match s.hub.st with
    | .active => some 1
    | .standby => some 2
    | .resync => some 3
    | .safe => if s.twn.token then none else some 5
    | _ => none

/-- The payload of the hub's LEASE message (R348, R353). -/
def leaseBody (s : State) (role : Nat) : List Byte :=
  let x := s.twn
  let solo := decide (role = 4)
  let outs := if solo then [] else (List.range 64).filter (fun o => sharedOut s o)
  let serial := if solo then 0 else if x.token then x.serial else x.maxSer
  let fr := if solo then 0 else if x.token then x.next.getD 0 else if twnReady s then x.next.getD 0 else 0
  let sb := decide (role = 2)
  leBytes 1 (role ||| bbit s.hub.straps.twinSide 3 ||| bbit (lockedClear s) 4 ||| bbit (sb && twnReady s) 5 |||
      bbit (decide (role = 1) && x.go) 6) ++
    leBytes 1 outs.length ++ leBytes 2 x.myNo ++ leBytes 4 serial ++ leBytes 8 (s.frame + 1) ++ leBytes 8 s.cmt.epoch ++ leBytes 8 fr ++
    leBytes 4 (if sb then x.hSer else 0) ++ leBytes 2 (if sb then x.hNo else 0) ++ leBytes 1 (leaseLen s) ++
    leBytes 1 (leaseGuard s) ++ leBytes 8 0 ++ outs.flatMap (leaseOut s)

/-- Put the frame's LEASE message in the queues of the TWIN lanes, in place of one not yet sent; a message takes a new MSGNO once the last
one has left (R353). -/
def leaseQueue (s : State) : State :=
  let drop (a : State) : State := forL [4, 5] (fun n b => modLk n (fun x => { x with ctl := x.ctl.filter (fun p => !decide (p.ty = 4)) }) b) a
  let s := drop s
  match leaseRole s with
  | none => s
  | some r =>
    let s := if s.twn.out then modTwn (fun x => { x with myNo := (x.myNo + 1) % 65536, out := false }) s else s
    let b := leaseBody s r
    let s := forL [4, 5] (fun n a => ctlSend n { ty := 4, body := b } a) s
    if r = 1 ∧ twinUp s then modTwn (fun x => { x with sentAge := 0 }) s else s

/-- SWAPGO of the message sent in frame F_s - 1 (R361). -/
def swapGoNow (s : State) : Bool :=
  s.twn.token && decide (s.hub.st = .active) && (match s.twn.next with
    | some f => decide (s.frame + 1 = f) && decide (s.tmb.st = .locked) && !s.twn.stepped && decide (16 ≤ s.twn.rdy) && decide (f ≤ s.twn.rdyAt + 2)
    | none => false)

/-! ### Receiving (R348, R354) -/

def conflict (s : State) : State := raise .twn 0 4 s

/-- Any accepted message: age, PROLE, readiness, epoch, timers. -/
def partnerNote (m : Lease) (s : State) : State :=
  let s := if s.twn.prole = m.role then s else raise .twn 0 7 s
  modTwn (fun x => { x with heard := true, page := 0, prole := m.role, pready := m.ready, pepoch := m.epoch, porigin := m.origin }) s

/-- The holder's report of one shared output (R128, R129, R356). -/
def leaseReport (frozen : Bool) (e : Nat × (Nat × (Nat × Nat))) (s : State) : State :=
  let st := e.2.1
  let clean := decide (st % 8 = 1) && !st.testBit 3 && !st.testBit 4
  let old := (exc s e.1).target
  if e.1 < 64 then
    let s := excLease e.1 e.2.2.1 e.2.2.2 clean s
    if frozen then modExc e.1 (fun x => { x with target := old }) s else s
  else s

/-- A holder message. -/
def holderNote (m : Lease) (s : State) : State :=
  let frozen := match s.twn.frz with
    | some a => decide (m.serial ≤ a)
    | none => false
  let s := forL m.outs (leaseReport frozen) s
  modTwn (fun x => { x with
    seen := true, hage := 0, hepoch := m.epoch, hSer := m.serial, hNo := m.msgno % 65536, frz := if frozen then x.frz else none,
    next := if x.token then x.next else if m.swapfr = 0 then none else some m.swapfr,
    goRx := if m.swapgo ∧ m.swapfr ≠ 0 then some m.swapfr else x.goRx,
    relDue := x.relDue || (x.token && (decide (x.serial < m.serial) || (decide (x.serial = m.serial) && s.hub.straps.twinSide))) }) s

/-- A standby message: its readiness for the announced swap (R361). -/
def standbyNote (m : Lease) (s : State) : State :=
  let ok := m.ready && decide (m.swapfr ≠ 0) && decide (s.twn.next = some m.swapfr)
  modTwn (fun x => { x with rdy := if ok then x.rdy + 1 else 0, rdyAt := s.frame }) s

/-- A holder message of an epoch higher than the hub's own has been accepted (R363). -/
def resyncWanted (s : State) : Bool := isTwin s && s.twn.seen && decide (s.cmt.epoch < s.twn.hepoch)

/-- A LEASE message that passes its CRC on a TWIN lane (R354). -/
def leaseTake (m : Lease) (s : State) : State :=
  if isTwin s = false then s
  else if m.role = 4 then
    let s := conflict (partnerNote m s)
    modTwn (fun x => { x with confSolo := true, soloAge := 0, relDue := x.relDue || x.token }) s
  else if m.side = s.hub.straps.twinSide then conflict (modTwn (fun x => { x with confSide := true }) s)
  else if m.role = 0 ∨ 5 < m.role then s
  else if m.serial < s.twn.maxSer then bump 0x7034 1 s
  else
    let d := (m.msgno + 65536 - s.twn.lastNo) % 65536
    if m.serial = s.twn.maxSer ∧ s.twn.noted ∧ (d = 0 ∨ 32767 < d) then s
    else
      let s := partnerNote m s
      let s := modTwn (fun x => { x with
        maxSer := m.serial, lastNo := m.msgno % 65536, noted := true, plen := m.len, pguard := m.guard }) s
      if m.role = 1 then holderNote m s else if m.role = 2 then standbyNote m s else s

/-! ### Token (R355, R356) -/

/-- The token is given up: STANDBY or SAFE, outputs move to SHARE from their own t0 (R350, R356, R361). -/
def tokenDrop (t : Nat) (s : State) : State :=
  let s := loadsAll t <| modTwn (fun x => { x with
    token := false, maxSer := max x.maxSer x.serial, relDue := false, go := false, isol := false, rdy := 0 }) s
  let s := if s.hub.st = .active then setHub .standby s else s
  let s := outgoingAll (advance t s)
  (List.range 64).foldl (fun a o => if (exc a o).outgoing then modExc o (fun x => { x with target := x.iout }) a else a) s

/-- The token is taken: ACTIVE, HOLD and SHARE outputs regulate, OFF outputs start (R355, R361). -/
def tokenTake (t : Nat) (s : State) : State :=
  let s := modTwn (fun x => { x with token := true, serial := x.maxSer + 1, goRx := none, next := none, frz := none, isol := !twinUp s }) s
  excStartAll (regulateAll (mcAt t) (loadsAll t (advance t (setHub .active s))))

/-- The conditions of R355: none, or whether the claim is an expiry. -/
def claimOk (s : State) : Option Bool :=
  let x := s.twn
  if isTwin s = false ∨ s.hub.st ≠ .standby ∨ x.token ∨ bit (rg s 0x704C) 8 = false ∨ x.confSide ∨ x.confSolo then none
  else if x.seen then (if leaseLen s ≤ x.hage then some true else none)
  else if (if s.hub.straps.twinSide then 3 * leaseLen s else leaseLen s) + leaseGuard s ≤ x.boot then some false
  else none

/-- A token claim, where R355 allows one. -/
def tokenClaim (t : Nat) (s : State) : State :=
  match claimOk s with
  | none => s
  | some exp =>
    let s := raise .twn 0 0 (bump 0x7020 1 (tokenTake t s))
    let s := if exp then raise .twn 0 1 (bump 0x7030 1 s) else s
    leaseQueue s

/-- The cases of R356. -/
def releaseDue (s : State) : Bool :=
  s.twn.token && (s.twn.relDue || (decide (s.hub.st = .safe) && decide (leaseLen s ≤ s.twn.sentAge + leaseGuard s)))

/-- An added swap is withdrawn when its holder releases before F_s (R359). -/
def swapWithdraw (s : State) : State := match s.twn.added with
  | none => modTwn (fun x => { x with next := none }) s
  | some _ => wakeup .swap stRole [] (modTwn (fun x => { x with added := none, next := none }) s)

/-- A release, where R356 asks for one. -/
def tokenRelease (t : Nat) (s : State) : State :=
  if releaseDue s then
    let s := modTwn (fun x => { x with frz := some x.serial }) s
    leaseQueue (raise .twn 0 0 (bump 0x7024 1 (swapWithdraw (tokenDrop t s))))
  else s

/-! ### Role swaps (R359, R361) -/

/-- The next scheduled swap frame at or after the present tick, none without a schedule. -/
def swapFrame (s : State) : Option Nat :=
  let per := af s 0x7044 0 24
  let f := frameHz s
  if per = 0 then none
  else
    let sec := ceilDiv (s.frame + 1) f
    let ph := af s 0x7048 0 24 % per
    some ((sec + (ph + per - sec % per) % per) * f)

/-- The swap to announce now, if any: an added one or the scheduled one, the earlier first; it replaces a later one. -/
def announceNow (s : State) : Option Nat :=
  let due (f : Option Nat) : Option Nat := match f with
    | some x => if x ≤ s.frame + 256 ∧ s.frame < x then some x else none
    | none => none
  match due s.twn.added, due (swapFrame s) with
  | some a, some b => some (min a b)
  | some a, none => some a
  | none, b => b

/-- A swap frame comes before the one announced, or none is announced. -/
def swapSooner (s : State) (f : Nat) : Bool := match s.twn.next with
  | some g => decide (f < g)
  | none => true

def announce (s : State) : State := match announceNow s with
  | some f => if swapSooner s f then modTwn (fun x => { x with next := some f, rdy := 0, stepped := false }) s else s
  | none => s

/-- The frame's message formed again while it has not left, so that an announcement goes with it (R359). -/
def leaseRenew (s : State) : State := if s.twn.out then s else leaseQueue s

def execSwapAnnounce (s : State) : Host.Outcome State Fault Refusal :=
  .next (if s.twn.token ∧ s.hub.st = .active then leaseRenew (announce s) else s)

/-- A request to add a swap at a frame (0: 256 ahead): its status. -/
def swapAdd (at_ : Nat) (s : State) : Nat × State :=
  let f := if at_ = 0 then s.frame + 256 else at_
  if s.twn.token = false then (stRole, s)
  else if s.twn.added.isSome then (stBusy, s)
  else if f < s.frame + 64 then (stBadParam, s)
  else
    let s := modTwn (fun x => { x with added := some f }) s
    (stOk, if f ≤ s.frame + 256 then leaseRenew (announce s) else s)

/-- TWN_SWAP_AT. -/
def swapAt (s : State) : Nat := (rg s 0x7050).toNat + 2 ^ 32 * (rg s 0x7054).toNat

def swapReqReg (s : State) : State :=
  let r := swapAdd (swapAt s) s
  if r.1 = stOk then r.2 else pgError .twn 0 r.1 r.2

def execTwnSwapReq (_ : Path) (s : State) : Host.Outcome State Fault Refusal := .next (direct .twn 0 swapReqReg s)

/-- A swap is skipped (R361); an added one ends with TIMEOUT. -/
def swapSkip (f : Nat) (s : State) : State :=
  let s := raise .twn 0 3 (bump 0x702C 1 s)
  let add := decide (s.twn.added = some f)
  let s := modTwn (fun x => { x with next := none, goRx := none, go := false, added := if add then none else x.added }) s
  if add then wakeup .swap stTimeout [] s else s

def swapCount (s : State) : State := raise .twn 0 2 (bump 0x7028 1 s)

/-- Tick F_s: the outgoing hub, which has sent SWAPGO, or the incoming hub, or a skip (R361). -/
def roleSwap (t : Nat) (s : State) : State :=
  match s.twn.next with
  | none => s
  | some f =>
    if s.frame < f ∨ isTwin s = false then s
    else if s.twn.token then
      if s.twn.goOut then
        let add := decide (s.twn.added = some f)
        let s := tokenDrop t s
        let s := modTwn (fun x => { x with seen := true, hage := 0, next := none, added := if add then none else x.added }) s
        let s := if add then wakeup .swap stOk (leBytes 4 s.twn.serial) s else swapWithdraw s
        leaseQueue (swapCount s)
      else swapSkip f s
    else if s.twn.goRx = some f ∧ s.hub.st = .standby then
      leaseQueue (swapCount (tokenTake t s))
    else swapSkip f s

/-- The counts of a tick (R353, R355, R357, R369). -/
def twnCount (s : State) : State :=
  let x := s.twn
  let s := if x.seen ∧ x.token = false ∧ 1 ≤ x.hage ∧ x.hage ≤ leaseLen s then bump 0x703C 1 s else s
  let s := if x.heard ∧ x.prole ≠ 0 ∧ leaseLen s ≤ x.page + 1 then raise .twn 0 7 (modTwn (fun y => { y with prole := 0 }) s) else s
  modTwn (fun y => { y with
    hage := if y.seen then min 65535 (y.hage + 1) else 0, page := if y.heard then min 65535 (y.page + 1) else 0, boot := y.boot + 1,
    soloAge := y.soloAge + 1, sentAge := y.sentAge + 1, isol := y.token && !twinUp s }) s

/-- The twin logic at a tick, ahead of the tick's pass: counts, a swap of this frame, a release or a claim, the announcement that is
due, and the frame's message (R353, R355, R356, R358, R359, R361). -/
def twnTick (t : Nat) (s : State) : State :=
  let s := tokenClaim t (tokenRelease t (roleSwap t (twnCount s)))
  let s := if s.twn.token ∧ s.hub.st = .active then announce s else s
  let go := swapGoNow s
  leaseQueue (modTwn (fun y => { y with go := go, goOut := false }) s)

def execConfSoloClear (s : State) : Host.Outcome State Fault Refusal :=
  .next (if s.twn.confSolo ∧ leaseLen s ≤ s.twn.soloAge then modTwn (fun x => { x with confSolo := false }) s else s)

/-! ### Views (R369) -/

def twnStatus (s : State) : Nat :=
  let x := s.twn
  let partner := x.heard && decide (x.page < leaseLen s)
  let conf := x.next.isSome && (!x.token || decide (16 ≤ x.rdy))
  x.ph <<< 16 ||| x.prole <<< 13 ||| bbit (tmrMis s) 11 ||| bbit x.isol 10 ||| bbit x.confSolo 9 ||| bbit x.confSide 8 ||| bbit conf 5 |||
    bbit x.pready 4 ||| bbit (twnReady s) 3 ||| bbit partner 2 ||| bbit (x.token || (x.seen && decide (x.hage < leaseLen s))) 1 |||
    bbit x.token 0
def twnSerial (s : State) : Nat := if s.twn.token then s.twn.serial else s.twn.maxSer
def twnAge (s : State) : Nat := s.twn.page <<< 16 ||| s.twn.hage
def twnRsyncSt (s : State) : Nat := min 255 s.twn.att <<< 8 ||| s.twn.rst
def twnCtrlWord (s : State) : Nat := (rg s 0x704C).toNat ||| bbit (s.twn.added.isSome && decide (s.twn.next ≠ s.twn.added)) 2

end Sys2Proof.Machine
end

