-- ==== Sys2Proof/Machine/Beacon.lean ====
section
/-! DEFINITION. Beacon drive: strings, boost stage, diagnosis, flash schedules, closed-loop intensity and the tile chain
(chapter 19). -/

namespace Sys2Proof.Machine

open Sys2Proof

def bstr (s : State) (m : Nat) : BStr := tget {} s.bcn.strs m
def modBcn (f : Bcn → Bcn) (s : State) : State := { s with bcn := f s.bcn }
def modBstr (m : Nat) (f : BStr → BStr) (s : State) : State := modBcn (fun x => { x with strs := tmod {} x.strs m f }) s

def bstrCfgA (m : Nat) : Nat := 0x8100 + 0x10 * m
def bschA (m o : Nat) : Nat := 0x8200 + 0x20 * m + o

/-- The beacon block works: the hub has booted and is not in SLEEP (R45, R419). -/
def bcnAwake (s : State) : Bool := running s && decide (s.hub.st ≠ .sleep) && !s.jtag.held

/-- A drive form drives now: ON always, FOLLOW under the token or in SOLO operation (R403). -/
def formDrives (s : State) (form : Nat) : Bool :=
  bcnAwake s && (decide (form = 2) || (decide (form = 1) && regulates s))

/-- String m is driven. -/
def strDriven (s : State) (m : Nat) : Bool := formDrives s (af s (bstrCfgA m) 16 2)

/-- The tile chain is driven. -/
def chainDriven (s : State) : Bool := formDrives s (af s 0x8070 0 2)

/-- The boost is enabled and driven: its outputs follow the token like FOLLOW (R45, R407, R408). -/
def boostOn (s : State) : Bool := bit (rg s 0x8040) 31 && formDrives s 1

/-- Nominal sense voltage of string m in uV: CURRENT in mA x TRIM / 1024 x RS in mOhm (R405). -/
def senseTarget (s : State) (m : Nat) : Nat :=
  af s (bstrCfgA m) 0 12 * (bstr s m).trim * af s 0x8054 0 16 / 1024

/-- Excluded from the boost choice: open or short (R408, R411, R412). -/
def bExcl (x : BStr) : Bool := decide (x.diag = 1) || decide (x.diag = 2) || x.off

/-- DIAG changes; entry to UNTESTED from another state is reported (R409). -/
def diagSet (m d : Nat) (s : State) : State :=
  let was := (bstr s m).diag
  let s := modBstr m (fun x => { x with diag := d }) s
  if d = 3 ∧ was ≠ 3 then raise .bcn 0 2 s else s

/-- The string is not driven any more: its gate falls, a flash counts in SKIPPED (R403, R419). -/
def strDark (m : Nat) (s : State) : State :=
  match (bstr s m).lit with
  | some l =>
    let s := modBstr m (fun x => { x with lit := none }) s
    if l.flash then bump 0x8024 1 s else s
  | none => s

/-- A lit string stays lit: its drive form at the turn-on still drives, whatever an apply has made of it (R419). -/
def litDriven (s : State) (m : Nat) : Bool := ((bstr s m).lit).any (fun l => formDrives s l.form)

/-- The drive forms follow the role (R350, R403): strings that are driven no longer go dark, the chain forgets its
previous shift. -/
def bcnRole (s : State) : State :=
  let s := forN 16 (fun m a => if litDriven a m then a else strDark m a) s
  if chainDriven s then s else modBcn (fun x => { x with cur := none, prev := none, due := none }) s

/-! ### The token's rows: the drive forms follow the role at once (R350, R403) -/

def execTokenClaim (t : Nat) (s : State) : Host.Outcome State Fault Refusal := .next (bcnRole (tokenClaim t s))
def execTokenRelease (t : Nat) (s : State) : Host.Outcome State Fault Refusal := .next (bcnRole (tokenRelease t s))
def execRoleSwap (t : Nat) (s : State) : Host.Outcome State Fault Refusal := .next (bcnRole (roleSwap t s))

/-! ### Schedules (R414, R415, R215) -/

/-- Instant of the next flash of a schedule, 2^-64 s. -/
def flashAt (s : State) (m : Nat) : Int :=
  instRegs s (bschA m 0) + (((bstr s m).idx * (rg s (bschA m 0x0C)).toNat * 2 ^ 64 / 1000000 : Nat) : Int)

/-- Why a schedule is refused (R414). -/
def schOk (s : State) (t : Int) (per wid cnt : Nat) : Bool :=
  decide (netNow s + ns64 2000 ≤ t) && decide (wid ≠ 0) &&
    (if per = 0 then decide (cnt = 1) else decide (wid * 10 + 500 ≤ per * 1000))

/-- Arm the schedule in the registers of a string: its status. -/
def schArm (m : Nat) (s : State) : Nat × State :=
  if schOk s (instRegs s (bschA m 0)) (rg s (bschA m 0x0C)).toNat (af s (bschA m 0x10) 0 24) (rg s (bschA m 0x14)).toNat then
    (stOk, modBstr m (fun x => { x with armed := true, idx := 0, late := false }) s)
  else (stBadParam, modBstr m (fun x => { x with armed := false }) s)

def schDisarm (m : Nat) (s : State) : State := modBstr m (fun x => { x with armed := false }) s

/-- A write of BCN_SCHm_CTL. -/
def schCtl (m : Nat) (w : Word) (s : State) : State :=
  let s := if bit w 1 then schDisarm m s else s
  if bit w 0 then
    let r := schArm m s
    if r.1 = stOk then r.2 else pgError .bcn 0 r.1 r.2
  else s

def execBcnSchArm (_ : Path) (m : Nat) (s : State) : Host.Outcome State Fault Refusal :=
  .next (if m < 16 then direct .bcn 0 (schCtl m 1) s else s)

def execBcnSchDisarm (_ : Path) (m : Nat) (s : State) : Host.Outcome State Fault Refusal :=
  .next (if m < 16 then direct .bcn 0 (schCtl m 2) s else s)

/-- One flash of the schedule is used: COUNT shows the flashes that remain, the last one disarms (R414). -/
def flashUsed (m : Nat) (s : State) : State :=
  let c := (rg s (bschA m 0x14)).toNat
  let once := decide ((rg s (bschA m 0x0C)).toNat = 0)
  let s := modBstr m (fun x => { x with idx := x.idx + 1 }) s
  let s := if c = 0 then s else setRg (bschA m 0x14) (word (c - 1)) s
  if c = 1 ∨ once then schDisarm m s else s

/-- The next flash fires at an instant, or is skipped where the string is not driven or is held off (R414). -/
def flashFire (m t : Nat) (s : State) : State :=
  let w := af s (bschA m 0x10) 0 24
  let s :=
    if strDriven s m && !(bstr s m).off then
      let l : BLit := { flash := true, form := af s (bstrCfgA m) 16 2, t0 := t, t1 := t + w * tauHz / 100000000, target := senseTarget s m }
      bump 0x8020 1 (modBstr m (fun x => { x with lit := some l }) s)
    else bump 0x8024 1 s
  flashUsed m s

/-- A late flash is counted and reported (R414). -/
def flashLate (m : Nat) (s : State) : State :=
  raise .bcn 0 6 (bump 0x803C 1 (modBstr m (fun x => { x with late := true }) s))

def execBcnFlashOn (m t : Nat) (s : State) : Host.Outcome State Fault Refusal :=
  if live s && decide (m < 16) && (bstr s m).armed && decide (flashAt s m ≤ netTime s t) then
    let s := advance t s
    .next (flashFire m t (if s.hub.st = .sleep then flashLate m s else s))
  else .next s

/-- Flashes that a forward step jumped over fire on the step cycle with LATE; the schedule goes on from its next
instant (R215). -/
def flashStep (s : State) : State :=
  forN 16 (fun m a =>
    if (bstr a m).armed && decide (flashAt a m < netNow a) then
      let per := (rg a (bschA m 0x0C)).toNat
      let gone := if per = 0 then 0 else ((netNow a - flashAt a m) * 1000000 / ((per * 2 ^ 64 : Nat) : Int)).toNat
      let c := (rg a (bschA m 0x14)).toNat
      let gone := if c = 0 then gone else min gone (c - 1)
      let a := modBstr m (fun x => { x with idx := x.idx + gone }) a
      let a := if c = 0 then a else setRg (bschA m 0x14) (word (c - gone)) a
      flashLate m (flashFire m (256 * a.c) a)
    else a) s

/-! ### Diagnosis (R409 to R413) -/

/-- The boost or some string is driven (R413). -/
def bcnDriving (s : State) : Bool := boostOn s || (List.range 16).any (strDriven s)

/-- Result bytes of a diagnosis: one state per string. -/
def diagBytes (s : State) : List Byte := (List.range 16).map (fun m => BitVec.ofNat 8 (bstr s m).diag)

/-- A diagnosis ends: DIAG_DONE, and the waiting command completes. -/
def testEnd (s : State) : State :=
  wakeup .diag stOk (diagBytes s) (raise .bcn 0 7 (modBcn (fun x => { x with test := none }) s))

/-- A MODE 0 diagnosis ends once each of its strings has had its pulse moved 16 times, or has a state and no pulse outstanding
(R413). -/
def testCheck (s : State) : State :=
  match s.bcn.test with
  | some (mask, false) =>
    if (List.range 16).all (fun m => !mask.testBit m || s.bcn.moved.testBit m ||
        (decide ((bstr s m).pulse = none) && (bstr s m).lit.all (fun l => l.flash) && decide ((bstr s m).diag ≠ 3))) then testEnd s else s
  | _ => s

/-- Ask for a diagnostic pulse in the slot of the next frame. -/
def pulseAsk (cmd : Bool) (m : Nat) (s : State) : State :=
  modBstr m (fun x => { x with pulse := some (s.ord + 1, 0, cmd) }) s

/-- Start a diagnosis (R413, R419): its status. -/
def testStart (mask : Nat) (adj : Bool) (s : State) : Nat × State :=
  if s.bcn.test.isSome then (stBusy, s)
  else if adj && bcnDriving s then (stNotPermitted, s)
  else
    let s := modBcn (fun x => { x with test := some (mask % 65536, adj), moved := 0 }) s
    (stOk, if adj then s else forN 16 (fun m a => if mask.testBit m then pulseAsk true m a else a) s)

/-- A write of BCN_DIAG_CMD. -/
def diagCmd (w : Word) (s : State) : State :=
  if bit w 24 then
    let r := testStart (fld w 0 16) (bit w 16) s
    if r.1 = stOk then (if fld w 0 16 = 0 ∧ bit w 16 = false then testCheck r.2 else r.2) else pgError .bcn 0 r.1 r.2
  else s

def execBcnDiagCmdGo (_ : Path) (w : Word) (s : State) : Host.Outcome State Fault Refusal := .next (direct .bcn 0 (diagCmd w) s)

/-- A reading of the adjacent-pin test speaks against its pin: below 0.3 V, or a neighbour moved by 50 mV. In the ball map the beacon
pins next to one are the same pins of the strings before and after (R36, R413). -/
def adjFails (r : AdjRead) : Bool :=
  decide (r.level < 300) || (decide (0 < r.m) && decide (50 ≤ r.lo)) || (decide (r.m < 15) && decide (50 ≤ r.hi))

def execBcnAdjTestDone (reads : List AdjRead) (s : State) : Host.Outcome State Fault Refusal :=
  match s.bcn.test with
  | some (mask, true) =>
    .next (if running s then
      testEnd (forN 16 (fun m a => if mask.testBit m && reads.any (fun r => decide (r.m = m) && adjFails r) then diagSet m 4 a else a) s)
    else s)
  | _ => .next s

/-- The pulse of a string moves to the next frame, at most 16 times (R410). -/
def pulseMove (m moves : Nat) (cmd : Bool) (s : State) : State :=
  let s := modBstr m (fun x => { x with pulse := if moves < 16 then some (s.ord + 1, moves + 1, cmd) else none }) s
  if 15 ≤ moves ∧ cmd then modBcn (fun x => { x with moved := x.moved ||| 2 ^ m }) s else s

/-- 1.5 us in tau/256, rounded down as a flash's end is, and 2 us (R406, R410). -/
def tOpenDet : Nat := 150994
def tPulse : Nat := 201327

/-- How a scheduled flash meets a pulse of the string that would run from t: none, or whether it lasts long enough to serve
as the diagnosis (R410). -/
def flashMeets (s : State) (m t : Nat) : Option Bool :=
  let x := bstr s m
  match x.lit with
  | some l => some (decide (l.t0 + tOpenDet ≤ l.t1))
  | none =>
    if x.armed && !x.off && decide (flashAt s m < netTime s (t + tPulse)) then
      some (decide (150 ≤ af s (bschA m 0x10) 0 24))
    else none

/-- The slot of a string comes up (R410). -/
def slotPulse (m t : Nat) (s : State) : State :=
  match (bstr s m).pulse with
  | none => s
  | some (due, moves, cmd) =>
    if s.ord < due then s
    else if strDriven s m = false ∨ ((bstr s m).off ∧ cmd = false) then testCheck (pulseMove m moves cmd s)
    else
      match flashMeets s m t with
      | some true => testCheck (modBstr m (fun x => { x with pulse := none }) s)
      | some false => testCheck (pulseMove m moves cmd s)
      | none =>
        let l : BLit := { flash := false, cmd := cmd, form := af s (bstrCfgA m) 16 2, t0 := t, t1 := t + tPulse, target := senseTarget s m }
        bump 0x8028 1 (modBstr m (fun x => { x with pulse := none, lit := some l }) s)

/-- Network instant of the slot of string m in the present frame: tick + DSLOT + 4 us x m. -/
def slotAt (s : State) (m : Nat) : Int := tickTime s s.frame + ns64 ((af s 0x8058 16 16 + 4 * m) * 1000)

def execBcnDiagPulse (m t : Nat) (s : State) : Host.Outcome State Fault Refusal :=
  if bcnAwake s && decide (m < 16) && decide (slotAt s m ≤ netTime s t) then .next (slotPulse m t (advance t s))
  else .next s

def execBcnFlashOff (m t : Nat) (s : State) : Host.Outcome State Fault Refusal :=
  match (bstr s m).lit with
  | some l =>
    if live s && decide (l.t1 ≤ t) then .next (testCheck (modBstr m (fun x => { x with lit := none }) (advance t s)))
    else .next s
  | none => .next s

/-- The string has had a diagnosis (R410). -/
def diagNote (m : Nat) (s : State) : State := modBstr m (fun x => { x with diagAt := s.ord, seen := true }) s

/-- A first finding awaits the repeat pulse; a second one confirms (R411, R412). -/
def finding (m kind : Nat) (cmd : Bool) (s : State) : State :=
  let x := bstr s m
  if x.suspect = kind then
    let s := modBstr m (fun y => { y with suspect := 0, off := y.off || decide (kind = 2) }) s
    if x.diag = kind then s
    else raise .bcn 0 (kind - 1) (bump (if kind = 1 then 0x802C else 0x8030) 1 (diagSet m kind s))
  else pulseAsk cmd m (modBstr m (fun y => { y with suspect := kind }) s)

/-- A measurement 1.5 us after a turn-on (R406, R411, R412). -/
def measure (m sense drain : Nat) (lim : Bool) (l : BLit) (s : State) : State :=
  let tgt := l.target
  if lim && decide (4 * sense < tgt) then finding m 1 l.cmd (diagNote m s)
  else if 9 * tgt ≤ 10 * sense ∧ 10 * sense ≤ 11 * tgt then
    let hd := drain * af s 0x8050 16 10 / 16 / 1000
    let s := diagNote m (modBstr m (fun x => { x with hd := some hd }) s)
    if af s 0x805C 0 16 < hd then
      let s := finding m 2 l.cmd s
      if (bstr s m).off then modBstr m (fun x => { x with lit := none }) s else s
    else diagSet m 0 (modBstr m (fun x => { x with suspect := 0, off := x.off && !l.cmd }) s)
  else s

def execBcnMeasure (m sense drain : Nat) (lim : Bool) (t : Nat) (s : State) : Host.Outcome State Fault Refusal :=
  match (bstr s m).lit with
  | some l =>
    if bcnAwake s && decide (m < 16) && !l.meas && decide (l.t0 + tOpenDet ≤ l.t1) && decide (l.t0 + tOpenDet ≤ t + 256) && decide (t ≤ l.t1) then
      .next (testCheck (measure m sense drain lim l (modBstr m (fun x => { x with lit := some { l with meas := true } }) (advance t s))))
    else .next s
  | none => .next s

/-- Frames without a diagnosis after which a string falls back to UNTESTED (R409). -/
def diagLimit (s : State) : Nat := if af s 0x8058 0 16 = 0 then 1024 else af s 0x8058 0 16

def execBcnUntestedTimeout (m : Nat) (s : State) : Host.Outcome State Fault Refusal :=
  .next (if bcnAwake s && decide (m < 16) && decide ((bstr s m).diagAt + diagLimit s < s.ord) then diagSet m 3 s else s)

/-! ### Boost and intensity at the tick (R407, R408, R416) -/

def execBcnOvpTrip (s : State) : Host.Outcome State Fault Refusal :=
  .next (if boostOn s && !s.bcn.ovp then raise .bcn 0 3 (bump 0x8034 1 (modBcn (fun x => { x with ovp := true }) s)) else s)

def execBcnOvpRelease (s : State) : Host.Outcome State Fault Refusal :=
  .next (if live s then modBcn (fun x => { x with ovp := false }) s else s)

/-- The neediest string: lowest headroom, lowest number in a tie (R408). -/
def neediest (s : State) : Option (Nat × Nat) :=
  (List.range 16).foldl (fun (a : Option (Nat × Nat)) m =>
    if strDriven s m && !bExcl (bstr s m) then
      let h := (bstr s m).hd.getD 0
      match a with
      | some (_, h0) => if h < h0 then some (m, h) else a
      | none => some (m, h)
    else a) none

/-- VSET at a tick (R408). -/
def boostTick (s : State) : State :=
  if boostOn s then
    match neediest s with
    | none => modBcn (fun x => { x with needy := 15 }) s
    | some (m, h) =>
      let htgt : Int := af s 0x8040 0 16
      let step : Int := af s 0x8048 0 16
      let lo : Int := 10 * af s 0x8044 0 16
      let hi : Int := 10 * af s 0x8044 16 16
      let v := iclamp lo hi ((s.bcn.vset : Int) + iclamp (-step) step (htgt - h))
      modBcn (fun x => { x with vset := v.toNat, needy := m, shortfall := decide (v = hi) && decide ((h : Int) < htgt) }) s
  else modBcn (fun x => { x with needy := 15, shortfall := false }) s

/-- The voltage to which BST_FB is regulated, in uV: VSET x 16 / FBR (R407). -/
def bstTarget (s : State) : Nat := s.bcn.vset * 1000 * 16 / af s 0x8050 0 10

/-- Upper bound of TRIM: 200 mV of sense voltage at most (R416). -/
def trimMax (s : State) (m : Nat) : Nat :=
  let d := af s (bstrCfgA m) 0 12 * af s 0x8054 0 16
  if d = 0 then 1536 else min 1536 (1024 * 200000 / d)

/-- TRIM of a string at a tick (R416). With TARGET 0 the manual states no step: it is a free value. -/
def trimTick (m : Nat) (s : State) : State :=
  let w := rg s (bstrCfgA m)
  if bit w 29 = false then modBstr m (fun x => { x with trim := 1024, trimLim := false }) s
  else
    let g := fld w 20 9
    let hi := trimMax s m
    let lim (a : State) : State :=
      let at_ := decide ((bstr a m).trim = 512) || decide ((bstr a m).trim = hi)
      let a := modBstr m (fun x => { x with trimLim := at_ }) a
      if at_ then raise .bcn 0 5 a else a
    match (tap s g).last with
    | some e =>
      if (chan s g).st ≠ .run ∨ lastFlags s g e &&& (fOvr ||| fSetl ||| fLead ||| fCal) ≠ 0 then lim s
      else
        let y : Int := e.v / 256
        let tg := sfld (rg s (bstrCfgA m + 4)) 0 16
        let f := fresh s
        let s := if tg = 0 then f.2 else s
        let d : Int := if tg = 0 then ((Config.freeWord f.1).toNat % 17 : Nat) - 8
          else iclamp (-8) 8 (roundDiv (256 * (tg - y) * (if tg < 0 then -1 else 1)) tg.natAbs)
        lim (modBstr m (fun x => { x with trim := (iclamp 512 hi ((x.trim : Int) + d)).toNat }) s)
    | none => lim s

/-- Diagnostic pulses of the frames k with k mod DPERIOD = 0 (R410). -/
def diagTick (s : State) : State :=
  let p := af s 0x8058 0 16
  if p ≠ 0 ∧ s.frame % p = 0 then
    forN 16 (fun m a =>
      let x := bstr a m
      let a := if strDriven a m && !x.seen && !x.off && x.pulse.isNone then
        modBstr m (fun y => { y with pulse := some (a.ord, 0, false) }) a else a
      modBstr m (fun y => { y with seen := false }) a) s
  else s

/-! ### Tile chain (R417, R418) -/

/-- The pattern bits of a buffer. -/
def patBits (s : State) (buf n : Nat) : Nat :=
  (List.range ((n + 31) / 32)).foldl (fun a i => a + (tget 0 s.bcn.pat (128 * buf + i)).toNat * 2 ^ (32 * i)) 0 % 2 ^ n

def chainLen (s : State) : Nat := af s 0x8070 16 13

/-- BCH_LT at a tick (R417): withheld, and counted, while a shift still runs or a perturbation still holds it back (R419). The next
shift is due 2 us after the tick, unless one is outstanding. -/
def chainTick (s : State) : State :=
  if chainDriven s then
    let delay := 2000 + (if pertOn s .bcn 0 1 then 1000 * pertArg s .bcn 0 else 0)
    let s := if s.bcn.cur.isSome || s.bcn.due.isSome then bump 0x8038 1 s
      else modBcn (fun x => { x with latched := (x.prev.getD (0, 0)).2 }) s
    if s.bcn.due.isSome then s else modBcn (fun x => { x with due := some (tickTime s s.frame + ns64 delay) }) s
  else s

def execBchShiftStart (t : Nat) (s : State) : Host.Outcome State Fault Refusal :=
  .next (if chainDriven s && s.bcn.cur.isNone && (s.bcn.due.any (fun d => decide (d ≤ netTime s t))) then
    let n := chainLen s
    modBcn (fun x => { x with cur := some (n, patBits s (af s 0x8070 8 1) n), due := none }) (advance t s)
  else s)

/-- First bit at which two numbers differ below n. -/
def firstDiff (a b n : Nat) : Option Nat := (List.range n).find? (fun i => a.testBit i ≠ b.testBit i)

def execBchShiftDone (ret : Nat) (s : State) : Host.Outcome State Fault Refusal :=
  match s.bcn.cur with
  | none => .next s
  | some (n, bits) =>
    .next (if live s then
      let was := s.bcn.prev
      let s := modBcn (fun x => { x with cur := none, prev := some (n, bits) }) s
      match was with
      | none => s
      | some (pn, pb) =>
        match firstDiff ret pb (min n pn) with
        | none => modBcn (fun x => { x with mism := 0 }) s
        | some i =>
          let c := min 7 (s.bcn.mism + 1)
          raise .bcn 0 4 (bump 0x8038 1 (modBcn (fun x => { x with mism := c, firstBad := i, fault := x.fault || decide (4 ≤ c) }) s))
    else s)

/-- BCH_EN is high: driven, and no FAULT (R403, R418). -/
def bchEnable (s : State) : Bool := chainDriven s && !s.bcn.fault

/-- The word and buffer that BCH_TADDR names, and its advance under AINC. -/
def taddrIx (s : State) : Nat := 128 * af s 0x8078 8 1 + af s 0x8078 0 7
def taddrNext (s : State) : State :=
  if bit (rg s 0x8078) 16 then setRg 0x8078 (setFld (rg s 0x8078) 0 7 (af s 0x8078 0 7 + 1)) s else s

/-- A write and a read of BCH_TDATA (R417). -/
def tdataWrite (w : Word) (s : State) : State :=
  if af s 0x8078 8 1 = af s 0x8070 8 1 then pgError .bcn 0 stNotPermitted s
  else taddrNext (modBcn (fun x => { x with pat := tset 0 x.pat (taddrIx s) w }) s)
def tdataRead (s : State) : Word × State := (tget 0 s.bcn.pat (taddrIx s), taddrNext s)

/-! ### Commit effects and views (R409, R412, R418, R421) -/

/-- An apply changed BCN_Sm_CFG. -/
def bstrApply (m : Nat) (s : State) : State :=
  diagSet m 3 (modBstr m (fun x => { x with off := false, suspect := 0 }) s)

/-- The boost's EN became active: VSET starts at VMIN (R408). -/
def boostStart (s : State) : State := modBcn (fun x => { x with vset := 10 * af s 0x8044 0 16, shortfall := false, needy := 15 }) s

/-- An apply changed BCH_CFG (R418). -/
def chainApply (s : State) : State := modBcn (fun x => { x with fault := false, mism := 0 }) s

/-- The beacon's work at a tick, in the order boost, intensity, pulses, latch. -/
def bcnTick (s : State) : State :=
  if bcnAwake s then chainTick (diagTick (forN 16 trimTick (boostTick s))) else s

/-- SLEEP entry: every string, the boost and the chain stop (R419). -/
def bcnSleep (s : State) : State := modBcn (fun x => { x with cur := none, prev := none, due := none }) (forN 16 strDark s)

def bstStatus (s : State) : Nat :=
  (s.bcn.vset / 10) % 65536 + (s.bcn.needy % 16) * 2 ^ 16 + bbit s.bcn.shortfall 20 + bbit s.bcn.ovp 21
def bchStatus (s : State) : Nat :=
  af s 0x8070 8 1 + bbit s.bcn.fault 1 + (s.bcn.mism % 8) * 4 + (s.bcn.firstBad % 4096) * 2 ^ 16
def bstrStatus (s : State) (m : Nat) : Nat :=
  let x := bstr s m
  x.diag + bbit (strDriven s m) 4 + bbit (decide (x.suspect ≠ 0)) 5 + bbit x.trimLim 6 + bbit (bExcl x) 7
def bstrMon (s : State) (m : Nat) : Nat := ((bstr s m).hd.getD 0) % 65536 + (bstr s m).trim * 2 ^ 16
def schCtlWord (s : State) (m : Nat) : Nat := bbit (bstr s m).armed 0 + bbit (bstr s m).late 8

/-- The block is idle under R84 (R421). -/
def bcnIdle (s : State) : Bool :=
  (List.range 16).all (fun m => decide (af s (bstrCfgA m) 16 2 = 0)) && decide (af s 0x8070 0 2 = 0) &&
    !bit (rg s 0x8040) 31 && s.bcn.test.isNone

end Sys2Proof.Machine
end

