-- ==== Sys2Proof/Machine/Linear.lean ====
section
/-! DEFINITION. The linearisation engine: curves, cold junctions, user tables, parameter pages (chapter 10). -/

namespace Sys2Proof.Machine

open Sys2Proof

/-- An IEEE 754 single as significand and power of two; none for infinities and NaN (R225). -/
def f32 (w : Word) : Option (Int × Int) :=
  let e := fld w 23 8
  let m : Int := if e = 0 then (fld w 0 23 : Nat) else ((fld w 0 23 + 2 ^ 23 : Nat) : Int)
  let m := if bit w 31 then -m else m
  if e = 255 then none else some (m, (if e = 0 then 1 else (e : Int)) - 150)

/-- A value scaled by an integer, rounded down. -/
def f32Scale (w : Word) (k : Int) : Int := match f32 w with
  | some (m, e) => if 0 ≤ e then m * 2 ^ e.toNat * k else m * k / 2 ^ (-e).toNat
  | none => 0

/-- A single as a quotient over 2^149. -/
def f32Num (w : Word) : Int := match f32 w with
  | some (m, e) => m * 2 ^ (e + 149).toNat
  | none => 0

/-! ### Records (R236) -/

def linGet (s : State) (i : Nat) : Word := tget 0 s.lin.mem i
def linPage (s : State) : Nat := af s 0xF040 0 1
/-- Word i of channel g's record in a page. -/
def recIn (s : State) (page g i : Nat) : Word := linGet s (2048 * page + 4 * g + i)
def recW (s : State) (g i : Nat) : Word := recIn s (linPage s) g i
def chCurve (s : State) (g : Nat) : Nat := fld (recW s g 0) 0 6

/-! ### Cold junctions (R227, R228): temperatures in 2^-16 degC -/

def cjInRange (t : Int) : Bool := decide (-50 * 65536 ≤ t) && decide (t ≤ 125 * 65536)

/-- What a channel's latest output gives, in 2^-16 degC, none under a curve that reports no temperature (R227). -/
def lastTemp (e : LastOut) : Option Int :=
  if (16 ≤ e.curve ∧ e.curve ≤ 18) ∨ e.curve = 24 then some (e.v * 2) else none

/-- The value read from a channel's source at the start of a pass, none when invalid, with the flags it passes on (R228). -/
def cjRead (s : State) (g : Nat) : Option Int × Nat :=
  let w := recW s g 0
  let ok (t : Int) : Option Int := if cjInRange t then some t else none
  match fld w 6 2 with
  | 0 => (some 0, 0)
  | 3 => (ok (f32Scale (recW s g 3) 65536), 0)
  | 1 =>
    let n := g / 128
    match tget none (aux s n).cjLast (g / 32 % 4) with
    | some (t, at_) =>
      let old := decide (4 * af s (0x9040 + 0x10 * n) 8 8 * tauHz < (256 * s.c - at_) * 1000)
      (if auxAvail s n && !old then ok (t * 1024) else none, 0)
    | none => (none, 0)
  | _ =>
    let c := fld w 8 9
    match (tap s c).last with
    | some e =>
      let f := lastFlags s c e
      (if chActive s c && decide (f &&& (fOvr ||| fLead) = 0) then (lastTemp e).bind ok else none, f &&& (fSetl ||| fLead))
    | none => (none, 0)

/-- A record's cold-junction source: CJCSRC, and CJCCH where that names the source (R226, R227). -/
def cjKey (s : State) (g : Nat) : Nat :=
  let k := fld (recW s g 0) 6 2
  if k = 2 then k + 4 * fld (recW s g 0) 8 9 else k

/-- The last valid value of the channel's present source since it entered SETTLING (R228). -/
def cjLastOk (s : State) (g : Nat) : Option Int := tget none (tap s g).cjc (cjKey s g)

/-- Curves 1 to 8. -/
def isTc (s : State) (g : Nat) : Bool := decide (0 < chCurve s g) && decide (chCurve s g ≤ 8)

/-- A pass reads a channel's source: a valid value is kept for the passes whose reading is invalid (R227, R228). -/
def cjKeep (g : Nat) (r : Option Int × Nat) (s : State) : State := match r.1 with
  | some t => if isTc s g then modTap g (fun x => { x with cjc := tset none x.cjc (cjKey s g) (some t) }) s else s
  | none => s

/-- The cold-junction temperature of one output and its added flags; a held value counts, and CJC_LOST is raised when the
channel goes from valid to held (R228). -/
def cjUse (g : Nat) (r : Option Int × Nat) (s : State) : Int × Nat × State :=
  let held := (tap s g).cjcHeld
  match r.1 with
  | some t => (t, r.2, if held then modTap g (fun x => { x with cjcHeld := false }) s else s)
  | none =>
    let last := cjLastOk s g
    let s := bump 0xF024 1 (modTap g (fun x => { x with cjcHeld := true }) s)
    (last.getD 0, r.2 ||| (if last.isNone then fSetl else 0), if !held && last.isSome then raise .lin 0 2 s else s)

/-! ### Curves (R224, R225, R229 to R232) -/

/-- What a curve gives: a value, or the end toward which it runs out of range (true for the upper end). -/
inductive LinOut | val (v : Int) | out (hi : Bool)
  deriving DecidableEq, Repr

def rangeOut (v lo hi : Int) : LinOut := if v < lo then .out false else if hi < v then .out true else .val v

/-- Gain exponent that R224 divides by: zero under autorange. -/
def linGain (s : State) (g : Nat) : Nat := if af s (chCfgA g) 8 2 ≠ 0 then 0 else af s (chCfgA g) 4 3

/-- Current of a CH_CURR.IEXC code in uA (R134). -/
def iexcUa (c : Nat) : Nat := match c with
  | 0 => 10
  | 1 => 20
  | 2 => 50
  | 3 => 100
  | 4 => 200
  | 5 => 250
  | 6 => 500
  | _ => 1000

/-- Current of a channel's source with its factory trim, in 2^-32 uA; the trim is free within the accuracy of R136 (R224). -/
def iexcNow (s : State) (g : Nat) : Nat :=
  let c := af s (chCurrA g) 4 3
  iexcUa c * ((2 ^ 32 : Nat) + iclamp (-858993) 858993 (Config.iexcTrim g c)).toNat

/-- An evaluation error within the bound of R235, free within it. -/
def evalErr (i : Nat) (bound : Int) : Int := iclamp (-bound) bound (Config.evalErr i)

/-- Curves 1 to 8 (R226): x in 2^-8 LSB, cold junction in 2^-16 degC, result in 2^-12 degC. The inversion is exact to 2^-16
degC, and the evaluation error with it and the rounding stays within the 0.005 degC of R235. -/
def thermocouple (curve n : Nat) (k0 : Word) (x tcj : Int) (i : Nat) : LinOut :=
  let e := x * 2500000 / 2 ^ (n + 11) + f32Scale k0 (1000000 * 2 ^ 20) + tcEmf curve tcj
  let lo := (tcRange curve).1
  let hi := (tcRange curve).2
  if e < tcEmf curve (lo * 65536) then .out false
  else if tcEmf curve (hi * 65536) < e then .out true
  else rangeOut (roundDiv (invert (tcEmf curve) e 28 (lo * 65536) (hi * 65536 + 1)) 16 + evalErr i 19) (lo * 4096) (hi * 4096)

/-- Resistance as a quotient (R224): numerator and positive denominator; the current in 2^-32 uA. -/
def resistance (n cur : Nat) (k0 : Word) (x : Int) : Int × Nat :=
  (x * 2500000 * 2 ^ 181 - f32Num k0 * (2 ^ (n + 31) * cur : Nat), 2 ^ (n + 31) * cur * 2 ^ 149)

/-- Curves 16 to 18 (R229): R0 is K1, or the nominal value where K1 is zero. The result falls as R rises where R0 is
negative. -/
def rtd (curve n cur : Nat) (k0 k1 : Word) (x : Int) (i : Nat) : LinOut :=
  let r := resistance n cur k0 x
  let nom : Int := if curve = 16 then 100 else if curve = 17 then 500 else 1000
  let r0 : Int := if f32Num k1 = 0 then nom * 2 ^ 149 else f32Num k1
  if r0 < 0 then .out (decide (r.1 ≤ 0))
  else if r.1 ≤ 0 then .out false
  else
    let v := r.1 * 2 ^ 149 * (10 ^ 15 * 2 ^ 60)
    let f (k : Int) : Int := cvd k * (r0 * r.2)
    let lo : Int := -200 * 2 ^ 16
    let hi : Int := 2 ^ 24
    let g (k : Int) : Int := f (k / 2) + (f (k / 2 + 1) - f (k / 2)) * (k % 2) / 2
    if v < g lo then .out false
    else if g hi ≤ v then .out true
    else rangeOut (roundDiv (invert g v 25 lo hi) 2 + evalErr i 31) (-200 * 2 ^ 15) (2 ^ 23 - 1)

/-- The result of a thermistor falls as R rises: B is positive, or zero with C positive (R234). -/
def thermFalls (k1 k2 : Word) : Bool := decide (0 < f32Num k1) || (decide (f32Num k1 = 0) && decide (0 < f32Num k2))

/-- Curve 24 (R230), with the K0 term of R224. Below R = 0 the result has run out the way it moves as R falls; where the
denominator reaches zero it has run out upward. R235 bounds the error from 10 ohm to 10 Mohm and states none elsewhere.
DESIGN CHOICE: the same bound for every R (log entry 210). -/
def thermistor (n cur : Nat) (k0 k1 k2 : Word) (x : Int) (i : Nat) : LinOut :=
  let r := resistance n cur k0 x
  if r.1 ≤ 0 then .out (thermFalls k1 k2)
  else
    let d := steinhart (f32Num k0) (f32Num k1) (f32Num k2) (lnQuot r.1.toNat r.2)
    if d ≤ 0 then .out true
    else
      let v := roundDiv (20 * 2 ^ 548 - 5463 * 2 ^ 15 * d) (20 * d.toNat)
      rangeOut (v + evalErr i 32) (-(2 ^ 23)) (2 ^ 23 - 1)

/-- Curves 32 to 34 (R231): strain in 0.01 microstrain; the ratio is over 2^(n+31+149). The evaluation error is added in
2^-16 LSB, so that with the rounding it stays within 0.01 microstrain and 1 ppm (R235). -/
def strain (curve n : Nat) (k0 k1 : Word) (x : Int) (i : Nat) : LinOut :=
  let one : Int := 2 ^ (n + 31) * 2 ^ 149
  let r : Int := x * 2 ^ 149 - f32Num k1 * 2 ^ (n + 31)
  let gf := f32Num k0
  if gf ≤ 0 then .out true
  else
    let fin (num den : Int) : LinOut :=
      let v := roundDiv (num * 100000000 * 2 ^ 165) den.toNat
      rangeOut (roundDiv (v + evalErr i (2 ^ 15 - 1 + |v| / 1000000)) 65536) (-8388607) 8388607
    if curve = 32 then (if one ≤ 2 * r then .out true else fin (4 * r) (gf * (one - 2 * r)))
    else if curve = 33 then fin (2 * r) (gf * one) else fin r (gf * one)

/-- Word i of table t; number of its points. -/
def tblWord (s : State) (t i : Nat) : Int := (linGet s (4096 + 512 * t + i)).toInt
def tblN (s : State) (t : Nat) : Nat := af s (0xF060 + 4 * t) 0 9

/-- The point at which the interval of a table around x starts. -/
def tblSeg (s : State) (t : Nat) (x : Int) : Nat :=
  ((List.range (tblN s t - 1)).filter (fun i => decide (tblWord s t (2 * i) ≤ x))).length - 1

/-- A table's last interval falls, so that beyond its end the result moves down (R234). -/
def tblFalls (s : State) (t : Nat) : Bool :=
  decide (tblWord s t (2 * tblN s t - 1) < tblWord s t (2 * tblN s t - 3))

/-- Interpolation in a user table (R232): x in 2^-8 LSB. -/
def userTable (s : State) (t : Nat) (x : Int) : LinOut :=
  let n := tblN s t
  if n < 2 then .out false
  else if x < tblWord s t 0 then .out false
  else if tblWord s t (2 * (n - 1)) < x then .out (!tblFalls s t)
  else
    let j := tblSeg s t x
    let x0 := tblWord s t (2 * j)
    let x1 := tblWord s t (2 * j + 2)
    let y0 := tblWord s t (2 * j + 1)
    let y1 := tblWord s t (2 * j + 3)
    rangeOut (roundDiv (y0 * (x1 - x0) + (x - x0) * (y1 - y0)) (256 * (x1 - x0).toNat)) vMin vMax

/-- The curve of a channel applied to a datapath value. -/
def curveOut (s : State) (g : Nat) (x tcj : Int) : LinOut :=
  let c := chCurve s g
  let n := linGain s g
  let cur := iexcNow s g
  let i := s.freeIdx
  if c = 0 then .val (round24 x)
  else if c ≤ 8 then thermocouple c n (recW s g 1) x tcj i
  else if 16 ≤ c ∧ c ≤ 18 then rtd c n cur (recW s g 1) (recW s g 2) x i
  else if c = 24 then thermistor n cur (recW s g 1) (recW s g 2) (recW s g 3) x i
  else if 32 ≤ c ∧ c ≤ 34 then strain c n (recW s g 1) (recW s g 2) x i
  else if 48 ≤ c ∧ c ≤ 51 then userTable s (c - 48) x
  else .val (round24 x)

/-- The end an over-range input of a sign is clamped to: the one the curve moves toward (R234). Below the first point of a
table that is the lower end whatever the table does. -/
def ovrEnd (s : State) (g : Nat) (pos : Bool) : Bool :=
  let c := chCurve s g
  if c = 24 then xor pos (thermFalls (recW s g 2) (recW s g 3))
  else if 16 ≤ c ∧ c ≤ 18 then xor pos (decide (f32Num (recW s g 2) < 0))
  else if 48 ≤ c ∧ c ≤ 51 then pos && !tblFalls s (c - 48)
  else pos

/-- The words the engine reads for an input: the record, and of a table its first and last x and the interval around the
input (R237; DESIGN CHOICE, log entry 174). -/
def linReads (s : State) (g : Nat) (x : Int) : List Nat :=
  let c := chCurve s g
  let t := c - 48
  (List.range 4).map (fun i => 2048 * linPage s + 4 * g + i) ++
    (if 48 ≤ c ∧ c ≤ 51 then [0, 2 * tblN s t - 2, 2 * tblSeg s t x, 2 * tblSeg s t x + 1, 2 * tblSeg s t x + 2, 2 * tblSeg s t x + 3].map
      (fun i => 4096 + 512 * t + i) else [])

/-- A word the engine reads for the channel meets an uncorrectable error (R237). -/
def paramUe (s : State) (g : Nat) (x : Int) : Bool := !s.lin.ue.isEmpty && (linReads s g x).any (fun i => s.lin.ue.contains i)

/-- The engine's work on one resampled value: 24-bit value, added flags, new state (R223, R228, R234, R237). `cj` is the
cold-junction reading of the pass, `u` the local instant of the output. -/
def linearise (g u : Nat) (x : Int) (cj : Option Int × Nat) (s : State) : Int × Nat × State :=
  let c := clampSample (round24 x) (clipSign s g u)
  if paramUe s g x then (vMin, fOvr, bump 0xF020 1 (raise .lin 0 3 (pgError .lin 0 stHwFault s)))
  else if chCurve s g = 0 then (c.1, if c.2 then fOvr else 0, s)
  else
    let k := if isTc s g then cjUse g cj s else (0, 0, s)
    let s := k.2.2
    if c.2 then (if ovrEnd s g (decide (0 ≤ c.1)) then vMax else vMin, fOvr ||| k.2.1, s)
    else
      let s' := { s with freeIdx := s.freeIdx + 1 }
      match curveOut s g x k.1 with
      | .val v => (v, k.2.1, s')
      | .out hi => (if hi then vMax else vMin, fOvr ||| k.2.1, bump 0xF020 1 s')

/-- LIN_CJC_STAT (R239): lowest channel that uses a held value. -/
def cjcStat (s : State) : Nat :=
  match (List.range 512).find? (fun g => (tap s g).cjcHeld && chActive s g && isTc s g) with
  | some g => 0x8000 + g
  | none => 0

/-! ### Loading records and tables (R233, R237) -/

/-- A record of either page selects table t. -/
def tblUsed (s : State) (t : Nat) : Bool :=
  s.lin.mem.any (fun p => decide (p.1 < 4096) && decide (p.1 % 4 = 0) && decide (fld p.2 0 6 = 48 + t))

/-- Memory index LIN_IADDR names; none for the reserved space. -/
def iaddrIx (a : Word) : Option Nat := match fld a 12 2 with
  | 0 => some (fld a 0 11)
  | 1 => some (2048 + fld a 0 11)
  | 2 => some (4096 + 512 * fld a 14 2 + fld a 0 9)
  | _ => none

/-- INDEX after an access with AINC, wrapping within the space (R239). -/
def iaddrNext (s : State) : State :=
  let a := rg s 0xF048
  if bit a 16 then
    setRg 0xF048 (if fld a 12 2 = 2 then setFld a 0 11 ((fld a 0 9 + 1) % 512) else setFld a 0 11 (fld a 0 11 + 1)) s
  else s

/-- A session in CHECKING or ARMED would switch the page (R237). -/
def pageHeld (s : State) : Bool :=
  (decide (s.cmt.st = .checking) || decide (s.cmt.st = .armed)) && decide (sf s 0xF040 0 1 ≠ linPage s)

/-- Why a write at a memory index is refused (R233, R237). -/
def linRefusal (s : State) (ix : Nat) : Option Nat :=
  if 4096 ≤ ix then (if tblUsed s ((ix - 4096) / 512) then some stNotPermitted else none)
  else if ix / 2048 = linPage s then some stNotPermitted
  else if pageHeld s then some stBusy
  else none

/-- Store a parameter or table word; a write to a table clears its LOADED (R233), and the reserved bits of a record's word 0
read as zero (R2, R236). -/
def linPut (ix : Nat) (w : Word) (s : State) : State :=
  let w := if ix < 4096 ∧ ix % 4 = 0 then w &&& 0x1FFFF else w
  let l := if 4096 ≤ ix then s.lin.loaded &&& (15 ^^^ 2 ^ ((ix - 4096) / 512)) else s.lin.loaded
  { s with lin := { s.lin with mem := tset 0 s.lin.mem ix w, loaded := l, ue := s.lin.ue.filter (· ≠ ix) } }

/-- A write of LIN_IDATA. -/
def idataWrite (w : Word) (s : State) : State :=
  if s.lin.copying then pgError .lin 0 stBusy s
  else match iaddrIx (rg s 0xF048) with
    | none => pgError .lin 0 stBadParam s
    | some ix => match linRefusal s ix with
      | some st => pgError .lin 0 st s
      | none => iaddrNext (linPut ix w s)

/-- A read of LIN_IDATA. -/
def idataRead (s : State) : Word × State :=
  if s.lin.copying then (0, pgError .lin 0 stBusy s)
  else match iaddrIx (rg s 0xF048) with
    | none => (0, s)
    | some ix => (linGet s ix, iaddrNext s)

def execLinIdataAccess (_ : Path) (w : Option Word) (s : State) : Host.Outcome State Fault Refusal := match w with
  | some v => .next (direct .lin 0 (idataWrite v) s)
  | none => if running s then
      let r := idataRead s
      .next { r.2 with rd := [r.1] } else .next s

/-- LIN_COPY.GO (R237). -/
def copyGo (s : State) : State :=
  if s.lin.copying || pageHeld s then pgError .lin 0 stBusy s else { s with lin := { s.lin with copying := true } }

def execLinCopyGo (_ : Path) (s : State) : Host.Outcome State Fault Refusal := .next (direct .lin 0 copyGo s)

/-- The memory with the active page copied into the other. -/
def copyPage (pg : Nat) (m : Tbl Word) : Tbl Word :=
  let act := m.filter (fun p => decide (p.1 < 4096) && decide (p.1 / 2048 = pg))
  let cp := act.map (fun p => (p.1 % 2048 + 2048 * (1 - pg), p.2))
  let tab := m.filter (fun p => decide (4096 ≤ p.1))
  if pg = 0 then act ++ cp ++ tab else cp ++ act ++ tab

def execLinCopyDone (s : State) : Host.Outcome State Fault Refusal :=
  if s.lin.copying then
    .next (raise .lin 0 4 { s with lin := { s.lin with copying := false, mem := copyPage (linPage s) s.lin.mem } })
  else .next s

/-- The bytes a table's CRC covers (R233). -/
def tblBytes (s : State) (t : Nat) : List Byte :=
  (List.range (2 * tblN s t)).flatMap (fun i => leBytes 4 (linGet s (4096 + 512 * t + i)).toNat) ++ leBytes 4 (rg s (0xF060 + 4 * t)).toNat

/-- The x values ascend strictly (R232). -/
def tblAscends (s : State) (t : Nat) : Bool :=
  (List.range (tblN s t - 1)).all (fun i => decide (tblWord s t (2 * i) < tblWord s t (2 * i + 2)))

/-- A write of LIN_TSEALt (R233). -/
def tsealWrite (t : Nat) (w : Word) (s : State) : State :=
  if tblUsed s t then pgError .lin 0 stNotPermitted s
  else { s with lin := { s.lin with sealing := tset none s.lin.sealing t (some w.toNat) } }

def execLinTsealWrite (_ : Path) (t : Nat) (w : Word) (s : State) : Host.Outcome State Fault Refusal :=
  .next (if t < 4 then direct .lin 0 (tsealWrite t w) s else s)

/-- Status of sealing a table (R233, R239). -/
def tblSeal (s : State) (t crc : Nat) : Nat :=
  if tblN s t < 2 ∨ 256 < tblN s t then stBadParam
  else if crc32 (tblBytes s t) ≠ crc then stChecksum
  else if tblAscends s t then stOk else stBadParam

def execTableSealResult (t : Nat) (s : State) : Host.Outcome State Fault Refusal :=
  match tget none s.lin.sealing t with
  | none => .next s
  | some crc =>
    let st := tblSeal s t crc
    let s := { s with lin := { s.lin with sealing := tset none s.lin.sealing t none } }
    .next (if st = stOk then raise .lin 0 0 { s with lin := { s.lin with loaded := s.lin.loaded ||| 2 ^ t } }
      else raise .lin 0 1 (pgError .lin 0 st s))

/-- The sensors of die n that some active record of an enabled channel names (R158, R227). -/
def cjcSensors (s : State) (n : Nat) : List Nat :=
  (List.range 4).filter (fun q => (List.range 32).any (fun c =>
    let g := 128 * n + 32 * q + c
    bit (rg s (chCfgA g)) 0 && decide (fld (recW s g 0) 6 2 = 1)))

/-- The CJC class falls due: every assigned sensor joins it (R158). -/
def execAuxCjcDue (n : Nat) (s : State) : Host.Outcome State Fault Refusal :=
  if running s && auxAvail s n && auxDue s (aux s n).cjcAt (af s (0x9040 + 0x10 * n) 8 8) then
    .next ((cjcSensors s n).foldl (fun a q => auxPush n (.cjc q) a) (modAux n (fun x => { x with cjcAt := some (256 * s.c) }) s))
  else .next s

end Sys2Proof.Machine
end

