-- ==== Sys2Proof/Machine/Check.lean ====
section
/-! DEFINITION. The consistency check of R93: the refusals of every chapter over the staged copies, the budget of R94, the
banks of R95 and the lanes of R96. -/

namespace Sys2Proof.Machine

open Sys2Proof

/-- A refused setting: register address, lowest bit of the field, status, and the quantity with its limit. -/
structure Viol where
  a : Nat
  b : Nat
  st : Nat
  d : Nat := 0
  l : Nat := 0
  deriving DecidableEq, Repr

def viol (c : Bool) (a b st : Nat) : List Viol := if c then [{ a := a, b := b, st := st }] else []

/-- BAD_PARAM at a field. -/
def vBad (c : Bool) (a b : Nat) : List Viol := viol c a b stBadParam

/-- The offender of a step: lowest address, then lowest bit (R93). -/
def vFirst : List Viol → Option Viol
  | [] => none
  | v :: r => match vFirst r with
    | none => some v
    | some w => if w.a < v.a ∨ (w.a = v.a ∧ w.b < v.b) then some w else some v

def overN (n : Nat) (f : Nat → List Viol) : List Viol := (List.range n).flatMap f

/-! ### Readings of the staged configuration -/

def sOn (s : State) (g : Nat) : Bool := decide (sf s (chCfgA g) 0 1 = 1)
def sRefsel (s : State) (g : Nat) : Nat := sf s (chCfgA g) 12 3
def sHz (s : State) : Nat := rateHz (sf s 0x3050 0 3)
def sReq (s : State) (o : Nat) : Nat := sf s (excCfgA o) 22 2
def sExccfg (s : State) (ss : Nat) : Word := stg s (shfReg ss 0x140)
def sLift (s : State) (ss : Nat) : Bool := bit (sExccfg s ss) 0
def sKelv (s : State) (ss : Nat) : Bool := bit (sExccfg s ss) 1
def sProfW (s : State) (g : Nat) : Word := stg s (profCfgA (g / 32) (sf s (chFiltA g) 0 2))
def sOdr (s : State) (g : Nat) : Nat := odrOf (sProfW s g)
def sRec (s : State) (g i : Nat) : Word := recIn s (sf s 0xF040 0 1) g i
def sCurve (s : State) (g : Nat) : Nat := fld (sRec s g 0) 0 6
def sPlanSet (s : State) (p : Nat) : List Nat := chset (sf s (cpA p 4) 0 16) (stg s (cpA p 8)).toNat
def sPlanNbk (s : State) (p : Nat) : Nat := sf s (cpA p 0) 4 4
def sPlanLive (s : State) (p : Nat) : Bool := bit (rg s (cpA p 0x18)) 5
def sGlnSet (s : State) (u : Nat) : List Nat := chset (sf s (guA u 8) 0 16) (stg s (guA u 4)).toNat
def sStr (s : State) (i : Nat) : StrDef := strDefOf (stg s (strA i 0)) (stg s (strA i 4)) (stg s (strA i 8)) 0
def sQ (s : State) (q : Nat) : Word := stg s (queCfgA q)
def sBmax (s : State) (i : Nat) : Nat := bmaxBy (stg s) (rg s) (sHz s) i
def sPort (s : State) (p : Nat) : Word := stg s (rteCfgA p)
def sLnMode (s : State) (n : Nat) : Nat := sf s (lnkReg n 0x40) 0 2
def sFdEn (s : State) (n : Nat) : Bool := bit (stg s 0x1048) n

/-! ### Check 1: FIELD -/

/-- Front end, excitation and current sources of one channel (R121, R137). -/
def c1Chan (s : State) (g : Nat) : List Viol :=
  let ss := g / 32
  let w := stg s (chCfgA g)
  let cur := stg s (chCurrA g)
  let mode := fld cur 0 3
  let rs := fld w 12 3
  let dual := bit w 10
  vBad (decide (fld w 8 2 = 3)) (chCfgA g) 8 ++
  vBad (decide (fld w 8 2 ≠ 0) && decide (fld w 1 2 ≠ 0)) (chCfgA g) 1 ++
  vBad (decide (fld w 8 2 ≠ 0) && decide (fld w 4 3 ≠ 0)) (chCfgA g) 4 ++
  vBad (decide (rs = 2) || decide (rs = 3)) (chCfgA g) 12 ++
  vBad (dual && !isTwin s) (chCfgA g) 10 ++
  overN 4 (fun k => vBad (bit w 0 && bit (stg s (chLeadA g)) (8 + k) && decide (sReq s (4 * ss + k) = 0)) (chLeadA g) (8 + k)) ++
  vBad (decide (4 ≤ mode)) (chCurrA g) 0 ++
  vBad (decide (mode ≠ 0) && !sLift s ss) (chCurrA g) 0 ++
  vBad (decide (mode ≠ 0) && dual) (chCfgA g) 10 ++
  vBad (decide (4 ≤ rs) && !bit (stg s (chLeadA g)) (8 + (rs - 4))) (chCfgA g) 12 ++
  vBad (dual && decide (4 ≤ rs) && !sKelv s ss) (chCfgA g) 10 ++
  vBad (decide (rs = 1) && sKelv s ss) (chCfgA g) 12 ++
  vBad (bit w 0 && decide (mode = 2) && bit cur 8 && decide (4096000 < 4 * sOdr s g * 2 ^ (fld (sExccfg s ss) 8 4 + 1))) (chCurrA g) 8

/-- One sheaf: window, excitation, start delay, references, profiles (R121, R137, R147, R154, R186). -/
def c1Sheaf (s : State) (ss : Nat) : List Viol :=
  let win := stg s (shfReg ss 0x40)
  let swp := fld (sExccfg s ss) 8 4
  let sd := sf s (shfReg ss 0x240) 0 8
  vBad (decide (fld win 0 8 < 4)) (shfReg ss 0x40) 0 ++
  vBad (decide (fld win 8 8 < 4)) (shfReg ss 0x40) 8 ++
  vBad (decide (200 < fld win 0 8 + fld win 8 8)) (shfReg ss 0x40) 0 ++
  vBad (decide (fld win 16 8 = 0)) (shfReg ss 0x40) 16 ++
  overN 4 (fun k =>
    let a := excCfgA (4 * ss + k)
    let w := stg s a
    vBad (decide (fld w 0 16 < 3125) || decide (62500 < fld w 0 16)) a 0 ++
    vBad (decide (fld w 16 6 = 0) && decide (fld w 22 2 ≠ 0)) a 16 ++
    vBad (decide (fld w 16 6 * 100 < sf s (excLoadA (4 * ss + k)) 0 12)) (excLoadA (4 * ss + k)) 0) ++
  vBad (decide (swp < 2) || decide (12 < swp)) (shfReg ss 0x140) 8 ++
  vBad (sLift s ss && (List.range 32).any (fun c => bit (stg s (chCfgA (32 * ss + c))) 10)) (shfReg ss 0x140) 0 ++
  vBad (bit (stg s (shfReg ss 0x200)) 1 && sKelv s ss) (shfReg ss 0x200) 1 ++
  vBad (decide (sd = 0) || decide (2000 * sd < sHz s)) (shfReg ss 0x240) 0 ++
  overN 4 (fun p =>
    let w := stg s (profCfgA ss p)
    let fc := sf s (profDcbA ss p) 0 14
    vBad (decide (10 < fld w 0 4)) (profCfgA ss p) 0 ++
    vBad (decide (fld w 0 4 = 10) && decide (fld w 4 2 = 3)) (profCfgA ss p) 0 ++
    vBad (decide (fc = 0) || decide (10000 < fc) || decide (odrOf w * 50 < fc)) (profDcbA ss p) 0)

/-- A K word is a finite number; it is zero. -/
def kFinite (w : Word) : Bool := (f32 w).isSome
def kZero (w : Word) : Bool := decide (w = 0)

/-- The record of an enabled channel (R225, R238). The offender is LIN_CTRL, whose PAGE selects the record. -/
def c1Lin (s : State) (g : Nat) : List Viol :=
  if sOn s g then
    let c := sCurve s g
    let w := sRec s g 0
    let src := fld w 6 2
    let cc := fld w 8 9
    let rs := sRefsel s g
    let tc := decide (1 ≤ c) && decide (c ≤ 8)
    let rtd := decide (16 ≤ c) && decide (c ≤ 18)
    let th := decide (c = 24)
    let br := decide (32 ≤ c) && decide (c ≤ 34)
    let tb := decide (48 ≤ c) && decide (c ≤ 51)
    let k0 := sRec s g 1
    let k1 := sRec s g 2
    let k2 := sRec s g 3
    let okK := if tc then kFinite k0 && kZero k1 && kFinite k2
      else if rtd then kFinite k0 && kFinite k1 && kZero k2
      else if th then kFinite k0 && kFinite k1 && kFinite k2
      else if br then kFinite k0 && kFinite k1 && kZero k2
      else if tb then kZero k0 && kZero k1 && kZero k2
      else kFinite k0 && kFinite k1 && kFinite k2
    let gfOk := decide (2 ^ 148 ≤ f32Num k0) && decide (f32Num k0 ≤ 10 * 2 ^ 149)
    let src2 := decide (src = 2)
    let cw := sCurve s cc
    vBad (!(decide (c = 0) || tc || rtd || th || br || tb)) 0xF040 0 ++
    vBad (!okK) 0xF040 0 ++
    vBad (br && !gfOk) 0xF040 0 ++
    vBad (tc && decide (rs ≠ 0)) 0xF040 0 ++
    vBad ((rtd || th) && (decide (sf s (chCurrA g) 0 3 = 0) || decide (rs ≠ 0))) 0xF040 0 ++
    vBad (br && decide (rs < 4)) 0xF040 0 ++
    vBad (src2 && (decide (cc = g) || !sOn s cc || !((decide (16 ≤ cw) && decide (cw ≤ 18)) || decide (cw = 24)))) 0xF040 0
  else []

/-- Trigger units, capture plans and glean units (R258). -/
def c1Acq (s : State) : List Viol :=
  overN 16 (fun u =>
    let w := stg s (tuA u 0)
    vBad (decide (6 ≤ fld w 12 4)) (tuA u 0) 12 ++
    vBad (decide (fld w 20 2 = 3)) (tuA u 0) 20 ++
    vBad (decide (fld w 12 4 ≠ 0) && !sOn s (fld w 0 9)) (tuA u 0) 0) ++
  overN 4 (fun b => vBad (decide (sf s 0xD140 (8 * b) 2 = 3)) 0xD140 (8 * b)) ++
  overN 8 (fun p =>
    let nbk := sPlanNbk s p
    let set := sPlanSet s p
    let cap := planCap nbk set.length
    let pre := sf s (cpA p 0x10) 0 24
    let post := (stg s (cpA p 0x14)).toNat
    let live := sPlanLive s p
    (if nbk = 0 then [] else
      vBad (decide (set = [])) (cpA p 4) 0 ++
      vBad (!set.all (sOn s)) (cpA p 4) 0 ++
      vBad (!set.all (fun g => decide (sOdr s g = sOdr s (set.headD 0)))) (cpA p 4) 0 ++
      vBad (decide (12 < sf s (cpA p 0) 0 4 + nbk)) (cpA p 0) 0 ++
      vBad (decide (post = 0)) (cpA p 0x14) 0 ++
      vBad (!live && decide (cap < pre + post)) (cpA p 0x10) 0 ++
      vBad (live && decide (cap / 2 < pre)) (cpA p 0x10) 0) ++
    (if (plan s p).st = .idle then [] else
      [0, 4, 8, 0xC, 0x10, 0x14].flatMap (fun o => vBad (decide (stg s (cpA p o) ≠ pendRg s (cpA p o))) (cpA p o) 0))) ++
  overN 16 (fun u =>
    let w := stg s (guA u 0)
    if fld w 0 16 = 0 then [] else
      vBad (decide (fld w 16 4 = 0)) (guA u 0) 0 ++
      vBad (decide (sGlnSet s u = [])) (guA u 0) 0 ++
      vBad (!(sStr s (fld w 24 5)).gln) (guA u 0) 0)

/-- Two queue regions overlap. -/
def qOverlap (s : State) (q r : Nat) : Bool :=
  let x := sQ s q
  let y := sQ s r
  bit x 31 && bit y 31 && decide (fld x 0 9 < fld y 0 9 + fld y 9 9) && decide (fld y 0 9 < fld x 0 9 + fld x 9 9)

/-- Streams and queues (R286, R320). -/
def c1Que (s : State) : List Viol :=
  vBad (decide (4 < sf s 0xB040 0 3)) 0xB040 0 ++
  overN 16 (fun q =>
    let w := sQ s q
    let old := pendRg s (queCfgA q)
    let big := (List.range 32).foldl (fun a i => if (sStr s i).en ∧ (sStr s i).q = q then max a (sBmax s i) else a) 0
    let busy := !qEmpty (queue s q) || (List.range 32).any (fun i => (strDef s i).en && decide ((strDef s i).q = q))
    (if bit w 31 then
      vBad (decide (384 < fld w 0 9 + fld w 9 9)) (queCfgA q) 0 ++
      vBad ((List.range 16).any (fun r => decide (r ≠ q) && qOverlap s q r)) (queCfgA q) 0 ++
      vBad (decide (fld w 9 9 = 0) || decide (fld w 9 9 * 8192 < 2 * big)) (queCfgA q) 9
     else []) ++
    vBad (busy && decide (fld w 0 9 ≠ fld old 0 9)) (queCfgA q) 0 ++
    vBad (busy && decide (fld w 9 9 ≠ fld old 9 9)) (queCfgA q) 9 ++
    vBad (busy && decide (fld w 18 4 ≠ fld old 18 4)) (queCfgA q) 18 ++
    overN 8 (fun n => vBad (bit w (23 + n) && decide (sLnMode s n ≠ 0)) (queCfgA q) (23 + n))) ++
  overN 32 (fun i =>
    let d := sStr s i
    vBad (decide (d.fmt = 0)) (strA i 0) 10 ++
    (if d.en then
      vBad (decide (chset d.shf d.chm = [])) (strA i 0) 31 ++
      vBad (!bit (sQ s d.q) 31) (strA i 0) 12 ++
      vBad (decide (65536 < sBmax s i)) (strA i 0) 16
     else []))

/-- Lanes, relay ports, twin and timebase (R320, R345, R368). -/
def c1Link (s : State) : List Viol :=
  let fam := famMask (stg s 0x104C)
  vBad (decide (5 < sf s 0x3050 0 3)) 0x3050 0 ++
  overN 8 (fun n =>
    let w := stg s (lnkReg n 0x40)
    let pr := rg s (lnkReg n 0x60)
    vBad (decide (fld w 0 2 = 3)) (lnkReg n 0x40) 0 ++
    vBad (!bit w 8) (lnkReg n 0x40) 8 ++
    vBad (decide (fld w 0 2 = 1) && !fam.testBit (fld pr 12 3)) (lnkReg n 0x60) 12 ++
    vBad (decide (fld w 0 2 = 1) && decide (5 ≤ fld pr 0 3)) (lnkReg n 0x60) 0 ++
    vBad (decide (sf s (0x3100 + 0x20 * n) 0 1 = 1) && decide (fld w 0 2 ≠ 0)) (0x3100 + 0x20 * n) 0) ++
  overN 4 (fun p =>
    let w := sPort s p
    let up := fld w 8 3
    let q := fld w 16 4
    vBad (decide (fld w 0 8 = 0)) (rteCfgA p) 0 ++
    vBad (!(decide (up ≤ 1) || decide (6 ≤ up))) (rteCfgA p) 8 ++
    (if bit w 31 then
      let others := (List.range 4).filter (fun r => decide (r ≠ p) && bit (sPort s r) 31)
      vBad (others.any (fun r => decide (fld (sPort s r) 8 3 = portLane p))) (rteCfgA p) 8 ++
      vBad (others.any (fun r => decide (fld (sPort s r) 16 4 = q))) (rteCfgA p) 16 ++
      vBad (!bit (sQ s q) 31 || decide (fld (sQ s q) 9 9 < 8) || decide (fld (sQ s q) 23 8 ≠ 0) ||
        (List.range 32).any (fun i => (sStr s i).en && decide ((sStr s i).q = q))) (rteCfgA p) 16
     else [])) ++
  vBad (decide (sf s 0x7040 0 8 < 4)) 0x7040 0 ++
  vBad (decide (sf s 0x7040 8 4 = 0)) 0x7040 8 ++
  vBad (decide (sf s 0x7040 0 8 < 4 * sf s 0x7040 8 4)) 0x7040 0 ++
  vBad (decide (1 ≤ sf s 0x7044 0 24) && decide (sf s 0x7044 0 24 ≤ 59)) 0x7044 0 ++
  vBad (decide (sf s 0x7044 0 24 ≠ 0) && decide (sf s 0x7044 0 24 ≤ sf s 0x7048 0 24)) 0x7048 0

/-- BCH_CK in kHz by CKDIV (R421). -/
def bchKhz (d : Nat) : Nat := match d with
  | 0 => 24576
  | 1 => 12288
  | 2 => 6144
  | _ => 1536

/-- Beacon (R420). FBR, DR and NBITS at their reset value 0 count as out of range only while a part in use needs them: the boost, a
string not OFF, the chain (log entry 56). -/
def c1Bcn (s : State) : List Viol :=
  let use := (List.range 16).any (fun m => decide (sf s (bstrCfgA m) 16 2 ≠ 0))
  let en := decide (sf s 0x8040 31 1 = 1)
  let fbr := sf s 0x8050 0 10
  let rs := sf s 0x8054 0 16
  let per := 1000000000 / sHz s
  let ch := stg s 0x8070
  let nb := fld ch 16 13
  vBad (decide (sf s 0x8040 16 10 < 50) || decide (500 < sf s 0x8040 16 10)) 0x8040 16 ++
  vBad (decide (sf s 0x8044 16 16 < sf s 0x8044 0 16)) 0x8044 0 ++
  vBad (decide (120 * fbr < sf s 0x8044 16 16 * 16)) 0x8044 16 ++
  vBad ((en || decide (fbr ≠ 0)) && decide (fbr < 16)) 0x8050 0 ++
  vBad ((use || decide (sf s 0x8050 16 10 ≠ 0)) && decide (sf s 0x8050 16 10 < 16)) 0x8050 16 ++
  vBad (use && decide (rs = 0)) 0x8054 0 ++
  vBad (decide (per < (sf s 0x8058 16 16 + 64) * 1000)) 0x8058 16 ++
  vBad (decide (fld ch 0 2 = 3)) 0x8070 0 ++
  vBad ((decide (fld ch 0 2 ≠ 0) && decide (nb = 0)) || decide (4096 < nb) ||
    decide (per < 3000 + ceilDiv (nb * 1000000) (bchKhz (fld ch 4 2)))) 0x8070 16 ++
  overN 16 (fun m =>
    let w := stg s (bstrCfgA m)
    vBad (decide (fld w 16 2 = 3)) (bstrCfgA m) 16 ++
    vBad (bit w 29 && !sOn s (fld w 20 9)) (bstrCfgA m) 20 ++
    vBad (decide (200000 < fld w 0 12 * rs)) (bstrCfgA m) 0)

def check1 (s : State) : List Viol :=
  c1Link s ++ c1Bcn s ++ c1Que s ++ c1Acq s ++ overN 512 (c1Lin s) ++ overN 16 (c1Sheaf s) ++ overN 512 (c1Chan s)

/-! ### Checks 2 to 6 -/

/-- The hold store's sum (R286). -/
def holdSum (s : State) : Nat :=
  (List.range 32).foldl (fun a i =>
    let d := sStr s i
    if d.en then a + sBmax s i * (ceilDiv (sf s 0xB040 0 3 + 1) d.p + 1) else a) 0

/-- Anything of a die is in use (R67). -/
def dieBusy (s : State) (n : Nat) : Bool :=
  (List.range 128).any (fun c => decide ((chan s (128 * n + c)).st ≠ .off)) ||
    (List.range 24).any (fun b => (ref s (24 * n + b)).on) ||
    (List.range 16).any (fun k => decide ((exc s (16 * n + k)).mode ≠ .off))

/-- Enabled channels under FUSE_FAIL (R66). -/
def c2Fuse (s : State) : List Viol := if s.hub.fuseFail then overN 512 (fun g => viol (sOn s g) (chCfgA g) 0 stHwFault) else []

/-- Claims on a bank: the register that names it, for every plan and every spilling queue (R374). -/
def bankClaims (s : State) (b : Nat) : List (Nat × Nat) :=
  ((List.range 16).filter (fun q => bit (sQ s q) 22 && decide (fld (sQ s q) 18 4 = b))).map (fun q => (queCfgA q, 18)) ++
    ((List.range 8).filter (fun p => decide (sf s (cpA p 0) 0 4 ≤ b) && decide (b < sf s (cpA p 0) 0 4 + sPlanNbk s p))).map (fun p => (cpA p 0, 0))

def check2 (s : State) : List Viol :=
  overN 4 (fun n => vBad (bit (rg s 0x1048) n && !sFdEn s n && dieBusy s n) 0x1048 n) ++
  overN 512 (fun g => vBad (sOn s g && !sFdEn s (g / 128)) (chCfgA g) 0) ++
  c2Fuse s ++
  overN 12 (fun b =>
    let c := bankClaims s b
    (if 2 ≤ c.length then c.flatMap (fun x => viol true x.1 x.2 stNoResource) else []) ++
    c.flatMap (fun x => viol (decide (bankOwner s b ≠ (if x.1 < 0xD000 then ownQue else ownAcq))) x.1 x.2 stNoResource)) ++
  overN 16 (fun q => viol (bit (sQ s q) 22 && decide (12 ≤ fld (sQ s q) 18 4)) (queCfgA q) 18 stNoResource) ++
  overN 512 (fun g => viol (sOn s g && decide (fld (sRec s g 0) 6 2 = 1) &&
    !sFdEn s (g / 128)) 0xF040 0 stNoResource) ++
  (if 1048576 < holdSum s then [{ a := 0xB040, b := 0, st := stNoResource, d := holdSum s, l := 1048576 }] else [])

/-- Coefficient banks and tables in use (R186, R238). -/
def check3 (s : State) : List Viol :=
  overN 16 (fun ss => overN 4 (fun p =>
    if (List.range 32).any (fun c => sOn s (32 * ss + c) && decide (sf s (chFiltA (32 * ss + c)) 0 2 = p)) then
      let ix := bankIx ss p (bit (stg s (profCfgA ss p)) 8)
      let b := cbank s ix
      viol (!(b.loaded && decide (crc32 (bankBytes s ix (word (b.len16 * 16 + (if b.phase then 1 else 0)))) = b.crc)))
        (profCfgA ss p) 8 stChecksum
    else [])) ++
  overN 512 (fun g => viol (sOn s g && decide (48 ≤ sCurve s g) && decide (sCurve s g ≤ 51) &&
    !s.lin.loaded.testBit (sCurve s g - 48)) 0xF040 0 stChecksum)

/-- Reference buffers of the channels that will run (R74, R154). -/
def check4 (s : State) : List Viol :=
  overN 512 (fun g =>
    let b := refselBuf (sRefsel s g)
    viol (sOn s g && !(bit (stg s (shfReg (g / 32) 0x200)) b && (ref s (6 * (g / 32) + b)).ready)) (chCfgA g) 12 stRefNotReady)

/-- Dissipation of a die in 10^-8 mW (R138). -/
def dissOf (s : State) (n : Nat) : Int :=
  let v : Int := (aux s n).vexc * 1000
  let outs := (List.range 16).foldl (fun (a : Int) k =>
    let o := 16 * n + k
    let w := stg s (excCfgA o)
    if fld w 22 2 = 0 then a
    else
      let li := sf s (excLoadA o) 0 12
      let i : Int := if li = 0 then (fld w 16 6 * 100 : Nat) else li
      a + (v - (fld w 0 16 * 160 + (if sLift s (o / 4) then 500000 else 0) : Nat)) * i) 0
  (List.range 128).foldl (fun (a : Int) c =>
    let g := 128 * n + c
    let cur := stg s (chCurrA g)
    if sOn s g ∧ fld cur 0 3 ≠ 0 then a + ((if fld cur 0 3 = 2 then 2 else 1) * 5 * iexcUa (fld cur 4 3) * 100000 : Nat) else a) outs

/-- The estimate in mW, rounded up, as CMT_DETAIL and SHF_VEXC.DISS show it (DESIGN CHOICE of the rounding, log entry 217). -/
def dissMw (s : State) (n : Nat) : Nat := ((dissOf s n + 99999999) / 100000000).toNat

/-- Excitation limits (R137, R138). The setpoint row counts an output whose REQ is not OFF (DEDUCED, log entry 166); a measured
VEXC above 13.0 V is refused whatever the outputs do. -/
def check5 (s : State) : List Viol :=
  let lim (a b d l : Nat) : Viol := { a := a, b := b, st := stLimit, d := d, l := l }
  overN 64 (fun o =>
    let w := stg s (excCfgA o)
    let vx := (aux s (o / 16)).vexc
    let top := fld w 0 16 * 160 + (if sLift s (o / 4) then 500000 else 0)
    (if 40 < fld w 16 6 then [lim (excCfgA o) 16 (fld w 16 6 * 1000) 40000] else []) ++
    (if fld w 22 2 ≠ 0 ∧ vx * 1000 < top + 1000000 then [lim (excCfgA o) 0 (ceilDiv top 1000) (vx - 1000)] else []) ++
    (if 13000 < vx then [lim (excCfgA o) 0 vx 13000] else [])) ++
  overN 16 (fun ss =>
    let on := (List.range 4).filter (fun k => decide (sReq s (4 * ss + k) ≠ 0))
    let sum := on.foldl (fun a k => a + sf s (excCfgA (4 * ss + k)) 16 6) 0
    if 100 < sum then [lim (excCfgA (4 * ss + on.headD 0)) 16 (sum * 1000) 100000] else []) ++
  overN 4 (fun n => if 160000000000 < dissOf s n then [lim (excCfgA (16 * n)) 0 (dissMw s n) 1600] else [])

/-- Roles (R127, R320, R351, R420). -/
def check6 (s : State) : List Viol :=
  overN 64 (fun o =>
    viol ((decide (sReq s o = 2) && isTwin s && !s.twn.token) || (decide (sReq s o = 3) && !isTwin s)) (excCfgA o) 22 stRole) ++
  overN 16 (fun m => viol (isTwin s && decide (sf s (bstrCfgA m) 16 2 = 2)) (bstrCfgA m) 16 stRole) ++
  viol (isTwin s && decide (sf s 0x8070 0 2 = 2)) 0x8070 0 stRole ++
  viol (isTwin s && decide (sLnMode s 4 ≠ 0) && decide (sLnMode s 5 ≠ 0)) (lnkReg 4 0x40) 0 stRole

/-! ### Check 7: BUDGET (R94) -/

/-- The 85 % budget of R16 by frame rate. -/
def b85 (f : Nat) : Nat := match f with
  | 250 => 1336934
  | 500 => 668467
  | 1000 => 334233
  | 2000 => 167116
  | 4000 => 83558
  | _ => 41779

def cLin (c : Nat) : Nat :=
  if c = 0 then 0
  else if c ≤ 8 then 20
  else if c ≤ 18 then 12
  else if c = 24 then 28
  else if c ≤ 34 then 8
  else 10

/-- Capture plans and reductions that take a channel. -/
def nTap (s : State) (g : Nat) : Nat :=
  ((List.range 8).filter (fun p => decide (sPlanNbk s p ≠ 0) && (sPlanSet s p).contains g)).length +
    ((List.range 16).filter (fun u => decide (sf s (guA u 0) 0 16 ≠ 0) && (sGlnSet s u).contains g)).length

def loadCh (s : State) (g : Nat) : Nat :=
  if sOn s g then
    2 * (256000 / sHz s) + ceilDiv (sOdr s g) (sHz s) * (64 + 4 + 12 + cLin (sCurve s g) + 2 * nTap s g)
  else 0

def loadSs (s : State) (ss : Nat) : Nat := (List.range 32).foldl (fun a c => a + loadCh s (32 * ss + c)) 2048

/-- The assembler's work in a frame in which every stream closes a stook: its sample words, and the 32-bit words of its glean
records (R94, R257). -/
def asmLoad (s : State) : Nat :=
  (List.range 32).foldl (fun a i =>
    let d := sStr s i
    if d.en then
      let n := ((chset d.shf d.chm).filter (sOn s)).foldl (fun b g => b + ceilDiv (sOdr s g * d.p) (sHz s)) 0
      a + 256 + (if d.fmt = 3 then 4 else 1) * (n + (if d.gln then gleanBytesPer (stg s) i d.p / 4 else 0))
    else a) 0

/-- The sheaf with the highest load, the lowest in a tie. -/
def topLoad (l : List Nat) : Nat × Nat :=
  (l.foldl (fun (a : (Nat × Nat) × Nat) x => (if a.1.2 < x then (a.2, x) else a.1, a.2 + 1)) ((0, 0), 0)).1

def check7 (s : State) (loads : List Nat) (asm : Nat) : List Viol :=
  let t := topLoad loads
  let b := b85 (sHz s)
  if b < t.2 + asm then [{ a := shfReg t.1 0, b := 0, st := stBudget, d := t.2 + asm, l := b }] else []

/-! ### Check 8: BANDWIDTH (R95, R96) -/

/-- A common multiple of the periods of the enabled streams. -/
def perLcm (s : State) : Nat := (List.range 32).foldl (fun a i => if (sStr s i).en then Nat.lcm a (sStr s i).p else a) 1

/-- A queue's input in 64-bit words per frame, times the common multiple, at raw size. -/
def qInput (s : State) (q : Nat) : Nat :=
  (List.range 32).foldl (fun a i => if (sStr s i).en ∧ (sStr s i).q = q then a + sBmax s i * (perLcm s / (sStr s i).p) else a) 0 +
    (List.range 4).foldl (fun a p =>
      if bit (sPort s p) 31 ∧ fld (sPort s p) 16 4 = q then a + sf s (rteCfgA p + 4) 0 16 * 125000 * perLcm s / sHz s else a) 0

/-- Accesses of a bank per frame (R95). -/
def bankDem (s : State) (b : Nat) : Nat :=
  let f := sHz s
  let acq := (List.range 8).foldl (fun a p =>
    if sPlanNbk s p ≠ 0 ∧ sf s (cpA p 0) 0 4 ≤ b ∧ b < sf s (cpA p 0) 0 4 + sPlanNbk s p then
      a + (sPlanSet s p).foldl (fun x g => x + ceilDiv (ceilDiv (sOdr s g) f) 2) 0 * (if sPlanLive s p then 2 else 1)
    else a) 0
  let spill := (List.range 16).foldl (fun a q =>
    if bit (sQ s q) 31 ∧ bit (sQ s q) 22 ∧ fld (sQ s q) 18 4 = b then a + 2 * qInput s q else a) 0
  acq + ceilDiv spill (8 * perLcm s) + (if bankOwner s b = ownCmp then sf s 0xC040 0 24 else 0) +
    (if bankShare s b then 50000000 / f else 0)

/-- The lane is in use: an enabled queue or an enabled relay port names it. -/
def laneUsed (s : State) (n : Nat) : Bool :=
  (List.range 16).any (fun q => bit (sQ s q) 31 && bit (sQ s q) (23 + n)) ||
    (List.range 4).any (fun p => bit (sPort s p) 31 && decide (fld (sPort s p) 8 3 = n))

/-- ceil(need) of a lane (R96). -/
def laneNeed (s : State) (n : Nat) : Nat :=
  if laneUsed s n then
    let m := perLcm s
    let own := (List.range 32).foldl (fun a i =>
      let d := sStr s i
      if d.en ∧ bit (sQ s d.q) 31 ∧ bit (sQ s d.q) (23 + n) then
        a + 8 * sHz s * (sBmax s i + 24 * ceilDiv (sBmax s i) 2048) * (m / d.p) else a) 0
    let rel := (List.range 4).foldl (fun a p =>
      if bit (sPort s p) 31 ∧ fld (sPort s p) 8 3 = n then a + sf s (rteCfgA p + 4) 0 16 else a) 0
    ceilDiv (102 * (own + rel * m * 1000000)) (100000000 * m) + 4
  else 0

/-- floor(cap) of a lane (R96, R319). A lane that is not in use reads 0 here and in `laneNeed` (DESIGN CHOICE, log entry
160). -/
def laneCap (s : State) (n : Nat) : Nat :=
  if laneUsed s n then
    if laneUp s n then rateCap (lane s n).rate
    else rateCap (hiBit ((sf s (lnkReg n 0x40) 8 7 &&& famMask (stg s 0x104C) &&& (127 ^^^ (lane s n).fail)) ||| 1))
  else 0

def check8 (s : State) : List Viol :=
  overN 12 (fun b =>
    let d := bankDem s b
    let l := b85 (sHz s)
    if l < d then [{ a := bankCfgA b, b := 0, st := stBandwidth, d := d, l := l }] else []) ++
  overN 8 (fun n =>
    let d := laneNeed s n
    let l := laneCap s n
    if l < d then [{ a := lnkReg n 0, b := 0, st := stBandwidth, d := d, l := l }] else [])

/-! ### Check 0 and the whole check (R88, R89, R93) -/

/-- CMT_APPLY_FRAME, 0 for the current frame plus 2. -/
def applyFrame (s : State) : Nat :=
  let f := (rg s 0x2050).toNat + 2 ^ 32 * (rg s 0x2054).toNat
  if f = 0 then s.frame + 2 else f

/-- NEED_LOCK and SAFE, the rules of check 0 that can change with time. -/
def check0Late (s : State) : List Viol :=
  if bit (rg s 0x2048) 0 ∧ s.tmb.st ≠ .locked then viol true 0x2048 0 stNotLocked
  else viol (decide (s.hub.st = .safe) && s.hub.safeHeld) 0x0040 8 stNotPermitted

/-- Check 0 in the order of R88, for an apply frame. -/
def check0 (s : State) (f : Nat) : List Viol :=
  if f < s.frame + 2 ∨ s.frame + 2 ^ 31 ≤ f then vBad true 0x2050 0
  else if sf s 0x3050 0 3 ≠ fld (pendRg s 0x3050) 0 3 ∧ f * sHz s % rateHz (fld (pendRg s 0x3050) 0 3) ≠ 0 then vBad true 0x3050 0
  else check0Late s

/-- The first failing step of a list of steps. -/
def firstFail : List (Nat × (Unit → List Viol)) → Option (Nat × Viol)
  | [] => none
  | (n, f) :: r => match vFirst (f ()) with
    | some v => some (n, v)
    | none => firstFail r

/-- Checks 1 to 8 over the staged copies. -/
def checkSteps (s : State) (loads : List Nat) (asm : Nat) : List (Nat × (Unit → List Viol)) :=
  [(1, fun _ => check1 s), (2, fun _ => check2 s), (3, fun _ => check3 s), (4, fun _ => check4 s), (5, fun _ => check5 s),
    (6, fun _ => check6 s), (7, fun _ => check7 s loads asm), (8, fun _ => check8 s)]

/-- Write a failing or passing result into the CMT registers; FINAL for the final check. -/
def resultSet (r : Option (Nat × Viol)) (final : Bool) (x : CheckRes) : CheckRes := match r with
  | none => { x with status := 0, check := 0xFF, current := true, final := final, offender := 0, detail := 0, limit := 0 }
  | some (n, v) => { x with status := v.st, check := n, current := true, final := final,
                            offender := word (v.b * 2 ^ 24 + v.a), detail := v.d, limit := v.l }

/-- The result registers of a check with check 0 judged beforehand: all of them take their new values at its end, whichever
step failed (R87, R93). -/
def checkRun (pre : List Viol) (s : State) : State :=
  let loads := (List.range 16).map (loadSs s)
  let asm := asmLoad s
  let r : Option (Nat × Viol) := match vFirst pre with
    | some _ => pre.head?.map (fun v => (0, v))
    | none => firstFail (checkSteps s loads asm)
  let tab (n : Nat) (f : Nat → Nat) : Tbl Nat := forN n (fun i t => tset 0 t i (f i)) []
  let x := { resultSet r false s.cmt.res with
    loads := tab 16 (fun i => loads.getD i 0), asm := asm, budget := b85 (sHz s),
    bkdem := tab 12 (bankDem s), lkdem := tab 8 (laneNeed s), lkcap := tab 8 (laneCap s) }
  let s := forN 4 (fun n a => modAux n (fun y => { y with diss := dissMw a n }) a) s
  let c := s.cmt
  { s with cmt := { c with res := x, need := if r = none then x.lkdem else c.need } }

/-- The final check of tick F-1: NEED_LOCK and SAFE, fuses, references, token role (R89). -/
def finalRun (s : State) : Option (Nat × Viol) :=
  firstFail [(0, fun _ => check0Late s), (2, fun _ => c2Fuse s), (4, fun _ => check4 s), (6, fun _ => check6 s)]

end Sys2Proof.Machine
end

