-- ==== Sys2Proof/Machine/Power.lean ====
section
/-! DEFINITION. Supplies, clocks, die-to-die links, reset, boot, SLEEP and wake (chapter 03), and SAFE and the processor
restart (chapter 01). -/

namespace Sys2Proof.Machine

open Sys2Proof

def modPwr (f : Pwr → Pwr) (s : State) : State := { s with pwr := f s.pwr }

/-! ### Whole-hub reset (R57, R63) -/

/-- The instructions that take every pin from the core (R429). -/
def jtagTakes : JtagOp → Bool
  | .extest | .clamp | .highz | .extestPulse | .extestTrain => true
  | _ => false


/-- The hub after a whole-hub reset: everything at its reset value but what comes from outside (rails, clocks, pins), the
cause, and counter C where the source keeps it. -/
def wholeReset (cause : Nat) (keepC : Bool) (p : Pwr) (s : State) : State :=
  { c := if keepC then s.c else 0,
    freeIdx := s.freeIdx,
    regs := tset (regReset 0x1044) [] 0x1044 (word cause),
    rd := s.rd,
    pwr := p,
    dies := s.dies.foldl (fun t e => tset {} t e.1 { rails := e.2.rails }) [],
    lanes := s.lanes.foldl (fun t e => tset {} t e.1 { losPin := e.2.losPin }) [],
    jtag := { s.jtag with held := jtagTakes s.jtag.instr },
    pending := s.pending }

/-- Supplies, clocks and pins as they stand, with everything else of Pwr at reset. -/
def pwrOutside (ph : Phase) (p : Pwr) : Pwr :=
  { phase := ph, core := p.core, vddl := p.vddl, vddlh := p.vddlh, xos := p.xos, slowInt := p.slowInt, pllL := p.vddl && p.vddlh,
    resetNLow := p.resetNLow, ft := p.ft }

def execPowerOnReset (rail : CoreRail) (s : State) : Host.Outcome State Fault Refusal :=
  let r := match rail with
    | .vddC => 0x01
    | .vddIo => 0x11
    | .first => 0x21
  .next (wholeReset r false { pwrOutside .por s.pwr with core := false } s)

/-- XOS off by this many tenths of a percent, or absent, counts as lost: below 4.5 % never, above 15.5 % always, between them
a free outcome (R57). -/
def xosLostIs (off : Option Nat) (s : State) : Bool × State := match off with
  | none => (true, s)
  | some d =>
    if d ≤ 45 then (false, s)
    else if 155 < d then (true, s)
    else
      let f := fresh s
      (Config.freeBool f.1, f.2)

def execXosLoss (off : Option Nat) (s : State) : Host.Outcome State Fault Refusal :=
  let r := xosLostIs off s
  .next (if r.1 then
    if s.pwr.phase = .por then modPwr (fun p => { p with xos := false, slowInt := true }) r.2
    else wholeReset 0xF2 false { pwrOutside .por s.pwr with xos := false, slowInt := true } r.2
  else r.2)

def execXosRestored (s : State) : Host.Outcome State Fault Refusal :=
  .next (modPwr (fun p => { p with xos := true, slowInt := false }) s)

def execCoreRailPresent (s : State) : Host.Outcome State Fault Refusal := .next (modPwr (fun p => { p with core := true }) s)

/-- Boot begins: straps sampled, PLLs start (R42, R65). -/
def bootStart (st : Straps) (s : State) : State :=
  { s with pwr := { s.pwr with phase := .boot, pllC := true, pllD := true, pllL := s.pwr.vddl && s.pwr.vddlh },
           hub := { s.hub with straps := { st with bootMode := st.bootMode % 4 } } }

/-- The reset hold ends 10 ms after rails and XOS are good; a low RESET_N keeps the hub in reset (R55, R57, R63). -/
def execPorRelease (st : Straps) (s : State) : Host.Outcome State Fault Refusal :=
  .next (if s.pwr.phase = .por ∧ s.pwr.core ∧ s.pwr.xos then
    let s := modPwr (fun p => { p with ft := st.ft }) s
    if s.pwr.resetNLow then modPwr (fun p => { p with phase := .pin }) s else bootStart st s
  else s)

/-- A RESET_N low of this many ns counts as a reset: below 0.3 us never, from 0.5 us always, between them a free outcome (R63). -/
def resetNIs (ns : Nat) (s : State) : Bool × State :=
  if ns < 300 then (false, s)
  else if 500 ≤ ns then (true, s)
  else
    let f := fresh s
    (Config.freeBool f.1, f.2)

def execResetNAssert (ns : Nat) (s : State) : Host.Outcome State Fault Refusal :=
  let r := resetNIs ns s
  .next (if r.1 then
    if s.pwr.phase = .por then modPwr (fun p => { p with resetNLow := true }) r.2
    else if s.pwr.phase = .pin then modPwr (fun p => { p with resetNLow := true }) r.2
    else wholeReset 0xF4 true { pwrOutside .pin s.pwr with resetNLow := true } r.2
  else r.2)

def execResetNRelease (st : Straps) (s : State) : Host.Outcome State Fault Refusal :=
  let s := modPwr (fun p => { p with resetNLow := false }) s
  .next (if s.pwr.phase = .pin then bootStart st s else s)

/-- A column repair that the fuses carry, as a MEM_REPAIR word (R379). -/
def fuseRepair (w : Nat) : Nat × Nat × Nat × Bool := (w / 2 ^ 16 % 512, w / 2 ^ 9 % 4, w % 512, true)

/-! ### Lane supplies (R55, R58) -/

/-- PLL-L stops: every lane goes DOWN. -/
def lanesDark (s : State) : State := forN 8 laneDown (modPwr (fun p => { p with pllL := false }) s)

/-- VDD_LH or VDD_L falls below its threshold (R55, R64). -/
def execLaneRailLoss (lh : Bool) (s : State) : Host.Outcome State Fault Refusal :=
  let had := if lh then s.pwr.vddlh else s.pwr.vddl
  let s := modPwr (fun p => if lh then { p with vddlh := false } else { p with vddl := false }) s
  .next (if live s && had then raise .clk 0 2 (bump 0x1024 1 (lanesDark s)) else modPwr (fun p => { p with pllL := false }) s)

def execLaneRailRestore (s : State) : Host.Outcome State Fault Refusal :=
  .next (modPwr (fun p => { p with vddl := true, vddlh := true }) s)

def execLrefLoss (s : State) : Host.Outcome State Fault Refusal :=
  .next (if live s && s.pwr.pllL then raise .clk 0 3 (bump 0x1028 1 (lanesDark s)) else modPwr (fun p => { p with pllL := false }) s)

def execPlllRelock (s : State) : Host.Outcome State Fault Refusal :=
  .next (if s.pwr.vddl && s.pwr.vddlh then modPwr (fun p => { p with pllL := true }) s else s)

/-! ### Field dies and their links (R54, R59 to R62, R67) -/

/-- Channels of a sheaf pair of a die. -/
def pairChans (n : Nat) (hi : Bool) : List Nat := (List.range 64).map (fun c => 128 * n + (if hi then 64 else 0) + c)

/-- A sheaf pair has no working lane any more (R12, R62). -/
def pairLose (n : Nat) (hi : Bool) (s : State) : State :=
  if pairLost (die s n) hi then s
  else
    let s := modDie n (fun d => if hi then { d with lostHi := true } else { d with lostLo := true }) s
    raise .d2d 0 2 (forL (pairChans n hi) (fun g a => chFault g 1 a) s)

/-- A die without power: its converter, link, buffers and outputs stop. -/
def dieOff (n : Nat) (s : State) : State :=
  let s := auxLose n s
  let s := modDie n (fun d => { d with up := false, trained := false, ok0 := false, ok1 := false, ok2 := false, map := 0 }) s
  let s := modDie n (fun d => { d with lostLo := false, lostHi := false, trim := [], trimTo := [], sub := none, bad := [], restoring := false }) s
  let s := forN 24 (fun b a => modRef (24 * n + b) (fun r => { r with inUse := r.inUse || r.on, on := false, ready := false }) a) s
  let s := forN 16 (fun k a => excRelease (16 * n + k) a) s
  forN 4 (fun q a => ltAbort (4 * n + q) a) s

def execFieldDieRailLoss (n : Nat) (s : State) : Host.Outcome State Fault Refusal :=
  .next (if 4 ≤ n then s
  else if live s = false ∨ (die s n).rails = false then modDie n (fun d => { d with rails := false }) s
  else
    let s := modDie n (fun d => { d with rails := false, lost := true }) (auxLose n s)
    let s := forL (dieChans n) (fun g a => chFault g 2 a) s
    raise .clk 0 0 (bump 0x1020 1 (dieOff n s)))

def execFieldDieRailRestore (n : Nat) (s : State) : Host.Outcome State Fault Refusal :=
  .next (if n < 4 then modDie n (fun d => { d with rails := true }) s else s)

/-- MAP, LOST_LO and LOST_HI of the lanes that trained (R59, R62): L2 stands in for L0 first. -/
def mapOf (ok : Nat) : Nat × Bool × Bool := match ok % 8 with
  | 7 => (0, false, false)
  | 6 => (1, false, false)
  | 5 => (2, false, false)
  | 4 => (1, false, true)
  | 3 => (3, false, false)
  | 2 => (3, true, false)
  | 1 => (3, false, true)
  | _ => (3, true, true)

/-- Buffers of the die that were in use are enabled again once the link has trained (R71, R145). -/
def buffersBack (n : Nat) (s : State) : State :=
  forN 24 (fun b a => modRef (24 * n + b) (fun r => { r with on := r.on || r.inUse, inUse := false }) a) s

/-- A channel whose fault was the lost lane restarts SDLY after the present tick (R120, R145). -/
def chRetrain (g : Nat) (s : State) : State :=
  if (chan s g).st = .fault ∧ (chan s g).cause = 1 ∧ chCarried s g then setStart g (some (s.ord + sdly s (g / 32))) s else s

/-- The training of a link that carries no words ends: with no lane trained no word flows, both sheaf pairs are lost, and the converter becomes unavailable
(R59, R62, R163). -/
def execD2dTrained (n ok : Nat) (trims : List Nat) (s : State) : Host.Outcome State Fault Refusal :=
  .next (if 4 ≤ n ∨ live s = false ∨ (die s n).rails = false ∨ (die s n).trained ∨ bit (rg s 0x1048) n = false ∨ s.pwr.sleep = .asleep then s
  else
    let m := mapOf ok
    let tr := trims.map (fun t => min t 250)
    let on := decide (ok % 8 ≠ 0)
    let was := (die s n).up && !(die s n).lost
    let s := if on then s else auxLose n s
    let s := modDie n (fun d => { d with up := on, trained := on, ok0 := ok.testBit 0, ok1 := ok.testBit 1, ok2 := ok.testBit 2 }) s
    let s := modDie n (fun d => { d with map := m.1, lostLo := m.2.1, lostHi := m.2.2, trim := tr, trimTo := tr, trimAt := s.ord }) s
    let s := modDie n (fun d => { d with sub := none, bad := [], restoring := on && d.lost }) s
    let s := if m.2.1 || m.2.2 then raise .d2d 0 2 s else s
    let s := if ok % 8 = 3 then raise .d2d 0 1 s else s
    let s := forL (pairChans n false) (fun g a => if m.2.1 then chFault g 1 a else a) s
    let s := forL (pairChans n true) (fun g a => if m.2.2 then chFault g 1 a else a) s
    let s := forL (dieChans n) chRetrain s
    if on then buffersBack n s else if !was && decide (s.pwr.phase = .boot) then raise .aux 0 1 s else s)

/-- Every buffer that the channels of a list use is ready (R71, R145). -/
def buffersReady (s : State) (l : List Nat) : Bool :=
  l.all (fun g => !(chan s g).inUse || (ref s (chBuf s g)).ready)

/-- A channel is put in FAULT from OFF or FAULT; it still counts as in use. -/
def chHeld (g cause : Nat) (s : State) : State :=
  let s := if (chan s g).st = .fault then s else chEvent g 7 s
  loadsSync g (256 * s.c) (modChan g (fun x => { x with st := .fault, cause := cause, inUse := true }) s)

/-- A channel in use returns to SETTLING with its history discarded, its modulator started for the present tick; a lost die, a
lost lane or a modulator fault that holds keep it in FAULT (R72, R145, R146, R175). Marks that are open now reach a channel that was
OFF. -/
def chReturn (g : Nat) (s : State) : State :=
  if (chan s g).inUse then
    let s := if (chan s g).st = .off then marksOpen g (256 * s.c) s else s
    if (chan s g).stuck then chHeld g 3 s
    else if (die s (g / 128)).lost then chHeld g 2 s
    else if chCarried s g then loadsSync g (256 * s.c) (modGo g s.ord (modChan g (fun x => { x with inUse := false }) s))
    else chHeld g 1 s
  else s

/-- The die's channels return as on a wake with RESTORE = 1, and its drivers as the role permits (R54, R71; log entry 201). -/
def execDieChannelRestore (n : Nat) (s : State) : Host.Outcome State Fault Refusal :=
  .next (if 4 ≤ n ∨ running s = false ∨ (die s n).restoring = false ∨ buffersReady s ((dieChans n).filter (fun g => decide ((chan s g).cause = 2))) = false then s
  else
    let s := modDie n (fun d => { d with lost := false, restoring := false }) s
    let s := forL (dieChans n) (fun g a => if (chan a g).st = .fault ∧ (chan a g).cause = 2 then chReturn g a else a) s
    raise .clk 0 1 (forN 16 (fun k a => excStart (16 * n + k) a) s))

/-- A word slot is lost for these sheafs of the die, those whose pair the link still carries (R62): one count. The CIC word
ends at the present cycle. -/
def slotLost (n : Nat) (sheafs : List Nat) (s : State) : State :=
  let l := sheafs.filter (fun x => !pairLost (die s n) (decide (2 ≤ x % 4)))
  if (die s n).trained = false ∨ l = [] then s
  else
    let s := raise .d2d 0 3 (bump (0x1B030 + 4 * n) 1 s)
    forL l (fun x b => forN 32 (fun c a => mark (32 * (4 * n + x % 4) + c) .lost (256 * a.c - cicTau) (some (256 * a.c)) a) b) s

def execD2dUnrecoverableWord (n : Nat) (sheafs : List Nat) (s : State) : Host.Outcome State Fault Refusal :=
  .next (if n < 4 ∧ live s then slotLost n sheafs s else s)

/-- Lane L0, L1 or L2 of a link: trained and not failed. -/
def laneOk (d : Die) (lane : Nat) : Bool := if lane = 0 then d.ok0 else if lane = 1 then d.ok1 else d.ok2

/-- A lane of a link fails (R12, R61, R62). -/
def d2dFail (n lane : Nat) (s : State) : State :=
  let d := die s n
  if laneOk d lane = false then s
  else
    let s := modDie n (fun x => if lane = 0 then { x with ok0 := false } else if lane = 1 then { x with ok1 := false } else { x with ok2 := false }) s
    match d.sub with
    | some x =>
      if lane = 2 then modDie n (fun y => { y with sub := none, map := 3 }) (pairLose n (decide (x = 1)) s)
      else pairLose n (decide (lane = 1)) s
    | none =>
      if lane = 2 then
        if d.map = 0 then raise .d2d 0 1 (modDie n (fun y => { y with map := 3 }) s)
        else pairLose n (decide (d.map = 2)) (modDie n (fun y => { y with map := 3 }) s)
      else if d.map = 0 ∧ d.ok2 then modDie n (fun y => { y with sub := some lane }) s
      else if d.map = lane + 1 then s
      else pairLose n (decide (lane = 1)) s

def execD2dLaneFail (n lane : Nat) (s : State) : Host.Outcome State Fault Refusal :=
  .next (if 4 ≤ n ∨ live s = false ∨ (die s n).trained = false ∨ 2 < lane then s else d2dFail n lane s)

/-- What becomes of word slot `odd` when its word on a lane fails: rebuilt from the other lanes while L2 carries their parity,
which it does up to the boundary at which it takes over a failed lane; else lost (R61, R62). A lane declared failed counts
as failing in every slot up to that boundary, and a slot belongs to sheafs of the same place in both pairs (DEDUCED, log
entry 154). -/
def wordLost (n lane : Nat) (odd : Bool) (s : State) : State :=
  let d := die s n
  let sh (l : Nat) : Nat := 2 * l + (if odd then 1 else 0)
  if lane = 2 then (if d.map = 1 then slotLost n [sh 0] s else if d.map = 2 then slotLost n [sh 1] s else s)
  else if d.map = lane + 1 then s
  else if d.map = 0 ∧ d.ok2 then
    if laneOk d (1 - lane) then bump (0x1B020 + 4 * n) 1 s else slotLost n [sh 0, sh 1] s
  else slotLost n [sh lane] s

/-- Failed words of a lane within the last 65,536, with one more (R61). -/
def failedWords (d : Die) (lane w : Nat) : List Nat := (w :: (tget [] d.bad lane).filter (fun v => decide (w < v + 65536))).take 8

/-- A return word fails its check; the eighth within 65,536 words declares the lane failed (R61). -/
def execD2dWordError (n : Nat) (x : LaneWord) (s : State) : Host.Outcome State Fault Refusal :=
  .next (if 4 ≤ n ∨ live s = false ∨ (die s n).trained = false ∨ 2 < x.lane then s
  else
    let l := failedWords (die s n) x.lane x.w
    let s := wordLost n x.lane x.odd (modDie n (fun d => { d with bad := tset [] d.bad x.lane l }) s)
    if 8 ≤ l.length then d2dFail n x.lane s else s)

/-- The delays are measured again 2^20 frames after the last measurement (R60). -/
def execD2dTrimRemeasure (n : Nat) (trims : List Nat) (s : State) : Host.Outcome State Fault Refusal :=
  .next (if n < 4 ∧ live s ∧ (die s n).trained ∧ (die s n).trimAt + 2 ^ 20 ≤ s.ord then
    modDie n (fun d => { d with trimTo := trims.map (fun t => min t 250), trimAt := s.ord }) s else s)

/-- One step of a trim toward its measured value. -/
def trimStep (a b : Nat) : Nat := if a < b then a + 1 else if b < a then a - 1 else a

/-- The return words of a perturbed lane fail, which fails the lane at the eighth (R61, R426). -/
def pertD2d (s : State) : State :=
  let n := pertArg s .d2d 0 / 4
  let l := pertArg s .d2d 0 % 4
  if pertOn s .d2d 0 1 ∧ n < 4 ∧ (die s n).trained ∧ laneOk (die s n) l then
    d2dFail n l (forN 8 (fun i a => wordLost n l (decide (i % 2 = 1)) a) s)
  else s

/-- The links at a tick: a failed lane's words move to L2, trims move by one step (R60, R61). -/
def d2dTick (s : State) : State :=
  forN 4 (fun n a =>
    let a := modDie n (fun d => { d with trim := List.zipWith trimStep d.trim d.trimTo }) a
    match (die a n).sub with
    | some x => raise .d2d 0 0 (modDie n (fun d => { d with map := x + 1, sub := none }) a)
    | none => a) s

/-- D2D_LSTATn. -/
def lstat (s : State) (n : Nat) : Nat :=
  let d := die s n
  bbit d.ok0 0 + bbit d.ok1 1 + bbit d.ok2 2 + bbit d.trained 4 + d.map * 64 + bbit d.lostLo 8 + bbit d.lostHi 9 + (d.trim.headD 0) * 2 ^ 16

/-- CLK_STATUS, live from the end of boot (R64). -/
def clkStatus (s : State) : Nat :=
  if running s then
    let each (f : Die → Bool) (b : Nat) : Nat := (List.range 4).foldl (fun a n => a + bbit (f (die s n)) (b + n)) 0
    each (fun d => d.rails) 0 + each (fun d => d.lost) 4 + each (fun d => d.up) 8 + bbit s.pwr.vddl 12 + bbit s.pwr.vddlh 13 +
      bbit s.pwr.pllC 16 + bbit s.pwr.pllD 17 + bbit s.pwr.pllL 18 + bbit s.pwr.slowInt 19
  else 0

/-- An FD_EN bit becomes active (R67). -/
def fdApply (old new : Word) (s : State) : State :=
  forN 4 (fun n a => if bit old n && !bit new n then dieOff n a else a) s

/-! ### SLEEP and wake (R68 to R74) -/

/-- Every queue is empty and acknowledged, and no stook waits (R68). -/
def drained (s : State) : Bool :=
  (List.range 16).all (fun q => qEmpty (queue s q) && (queue s q).chaff.isEmpty) &&
    (List.range 32).all (fun i => (strm s i).wait.isEmpty && (strm s i).opn.isNone)

/-- Channels leave service as the last pass of SLEEP entry ends; those in use are remembered (R68, R71). -/
def sleepChannels (s : State) : State :=
  forN 512 (fun g a =>
    let on := decide ((chan a g).st ≠ .off)
    modChan g (fun x => { x with inUse := on }) (setStart g none (chOff g a))) s

/-- The keepalive lane that KEEP names now (R68). -/
def keepPick (s : State) : Nat := match af s 0x1048 8 2 with
  | 0 => 0
  | 1 => if (lane s 0).st = .down then 1 else 0
  | 2 => 1
  | _ => 6

/-- The queues have drained: the hub enters SLEEP; the keepalive lane, which now advertises code 0 alone, steps down (R68, R316). -/
def sleepEnter (s : State) : State :=
  let k := keepPick s
  let s := if s.tmb.st = .stepped ∨ s.tmb.st = .locked then enterHoldover (256 * s.c) s else s
  let s := forN 4 dieOff s
  let s := bcnSleep (forN 8 (fun n a => if n = k then a else laneDown n a) s)
  let s := { s with pwr := { s.pwr with sleep := .asleep, keep := k, pllD := false, before := s.hub.st },
                    hub := { s.hub with st := .sleep } }
  wakeup .sleep stOk [] (rateCheck k s)

def execSleepDrainDone (s : State) : Host.Outcome State Fault Refusal :=
  .next (match s.pwr.sleep with
  | .draining k _ _ => if running s ∧ k ≠ 0 ∧ s.dsp.run.isNone ∧ drained s then sleepEnter s else s
  | _ => s)

/-- A wake without RESTORE finds or leaves every channel, buffer and driver OFF (R69); a channel whose last pass still runs follows at its
end. -/
def wakeForget (s : State) : State :=
  let s := forN 512 (fun g a => if (chan a g).st = .off then modChan g (fun x => { x with inUse := false }) a else a) s
  forN 96 (fun b a => modRef b (fun r => { r with on := false, ready := false, inUse := false }) a) s

/-- The hub takes up service again from where it stands; the keepalive lane advertises its full mask again (R69, R71, R316). -/
def wakeStart (restore : Bool) (s : State) : State :=
  let kept := if restore then s else wakeForget s
  match s.pwr.sleep with
  | .asleep => rateCheck s.pwr.keep (modPwr (fun p => { p with sleep := .waking restore, pllD := true }) kept)
  | .draining _ _ _ => modPwr (fun p => { p with sleep := .waking restore, before := s.hub.st }) kept
  | _ => s

def execSleepTimeout (s : State) : Host.Outcome State Fault Refusal :=
  .next (match s.pwr.sleep with
  | .draining k _ _ =>
    if running s ∧ k ≠ 0 ∧ k + 1000 ≤ s.ord ∧ drained s = false then wakeup .sleep stTimeout [] (wakeStart true s) else s
  | _ => s)

/-- The training of every die with FD_EN and rails has ended: it trained, or no lane did (R62). -/
def linksBack (s : State) : Bool :=
  (List.range 4).all (fun n => let d := die s n
    !bit (rg s 0x1048) n || !d.rails || d.trained || (d.lostLo && d.lostHi))

/-- The channels whose return a wake waits for: those of dies whose link carries words; no other die holds them up (R54). -/
def wakeChans (s : State) : List Nat := (List.range 512).filter (fun g => chCarried s g && !(die s (g / 128)).lost)

/-- The first tick after every buffer that these channels need is ready. The hub state before SLEEP returns; the manual says
so for RESTORE = 1, and with RESTORE = 0 the model does the same (DESIGN CHOICE, log entry 153). -/
def execWakeChannelRestore (s : State) : Host.Outcome State Fault Refusal :=
  .next (match s.pwr.sleep with
  | .waking r =>
    if running s ∧ linksBack s ∧ s.dsp.run.isNone ∧ s.dsp.held = [] ∧ buffersReady s (wakeChans s) then
      let st := if s.hub.st = .sleep then (if s.hub.straps.twinEn then .standby else s.pwr.before) else s.hub.st
      let s := { s with pwr := { s.pwr with sleep := .awake }, hub := { s.hub with st := st } }
      let s := if r then excStartAll (forN 512 chReturn s) else s
      wakeup .wake stOk [] s
    else s
  | _ => s)

/-! ### SAFE and the control processor (R13, R22 to R24) -/

/-- The hub enters SAFE with a cause (R24); a holder's message that waits to leave is not sent (R353, R356). -/
def safeEnter (cause : Nat) (s : State) : State :=
  let s := raise .hub 0 0 (bump 0x0024 1 { s with hub := { s.hub with st := .safe, safeCause := cause, safeHeld := true, clean := 0 } })
  forN 16 gSkip (forN 8 (fun p a => planStop p 3 a) (if s.twn.token then leaseQueue s else s))

/-- The cause of R23 that holds now, 0 where none does. -/
def safeDue (s : State) : Nat :=
  if s.hub.st = .safe ∨ running s = false ∨ s.hub.st = .sleep then 0
  else if 16 ≤ s.hub.consec then 1
  else match s.dsp.run with
    | some o => if o + 2 ≤ s.ord then 2 else 0
    | none => 0

def execSafeEntry (s : State) : Host.Outcome State Fault Refusal := .next (if safeDue s = 0 then s else safeEnter (safeDue s) s)

def execSafeCauseCleared (s : State) : Host.Outcome State Fault Refusal :=
  .next (if running s ∧ s.hub.st = .safe ∧ 64 ≤ s.hub.clean then { s with hub := { s.hub with safeHeld := false } } else s)

/-- The hub leaves SAFE at the tick of a commit apply (R24): a twin hub with the token owes a release (R356). -/
def safeExit (s : State) : State :=
  if s.hub.st = .safe ∧ s.hub.safeHeld = false then
    let s := raise .hub 0 1 (setHub (if s.hub.straps.twinEn then .standby else .solo) s)
    modTwn (fun x => { x with relDue := x.relDue || x.token }) s
  else s

end Sys2Proof.Machine
end

