-- ==== Sys2Proof/Machine/Commit.lean ====
section
/-! DEFINITION. The configuration session: open, check, arm, final check, apply, abandon (chapter 04). -/

namespace Sys2Proof.Machine

open Sys2Proof

def modCmt (f : Cmt → Cmt) (s : State) : State := { s with cmt := f s.cmt }

/-- The session owner of a path (R86). -/
def ownerDirect : Path → Owner
  | .host => .hostDirect
  | .mgmt _ => .mgmtDirect
def ownerCmd : Path → Owner
  | .host => .hostCmd
  | .mgmt _ => .mgmtCmd

def ownerCode : Owner → Nat
  | .none => 0
  | .hostCmd => 1
  | .mgmtCmd => 2
  | .hostDirect => 3
  | .mgmtDirect => 4
  | .firmware => 5

def sessCode : SessSt → Nat
  | .closed => 0
  | .open_ => 1
  | .checking => 2
  | .armed => 3

/-! ### Views -/

def cmtSession (s : State) : Nat := s.cmt.serial % 65536 * 2 ^ 16 + ownerCode s.cmt.owner * 2 ^ 8 + sessCode s.cmt.st
def cmtResult (s : State) : Nat :=
  let r := s.cmt.res
  r.status % 256 + r.check % 256 * 2 ^ 8 + bbit r.current 16 + bbit r.final 17

/-- RESULT, OFFENDER, DETAIL, LIMIT of a completion (R395). -/
def resultBytes (s : State) : List Byte :=
  leBytes 4 (cmtResult s) ++ leBytes 4 s.cmt.res.offender.toNat ++ leBytes 4 s.cmt.res.detail ++ leBytes 4 s.cmt.res.limit

/-- The RESULT of CFG_APPLY_AT, carried with every status (R395). -/
def applyBytes (s : State) : List Byte := leBytes 8 s.cmt.epoch ++ leBytes 8 s.cmt.lastApply ++ resultBytes s

/-! ### Open, abandon (R86, R87, R92) -/

/-- Open a session for an owner: the status it leaves. -/
def sessionOpen (o : Owner) (s : State) : Nat × State :=
  if s.hub.st = .resync ∧ o ≠ .firmware then (stRole, s)
  else if s.cmt.st ≠ .closed then (stBusy, s)
  else
    let s := modCmt (fun c => { c with st := .open_, owner := o, serial := (c.serial + 1) % 65536, arming := false, finalOk := false }) s
    (stOk, modCmt (fun c => { c with pre := none, idle := 0, imageEpoch := none }) { s with staged := [] })

/-- Commands that wait for the apply of an abandoned session (R90, R395). -/
def applyLost (s : State) : State :=
  s.flight.foldl (fun a f => match f.wait with
    | .apply => finish f stCancelled (applyBytes a) a
    | .acqApply _ => finish f stCancelled [] a
    | .check => finish f stCancelled [] a
    | .refApply _ _ _ => finish f stCancelled [] a
    | .prbs _ 0 _ _ => finish f stCancelled [] a
    | .prbs n 3 u e => await f (.prbs n 2 u e) a
    | _ => a) s

/-- Close the session with every staged copy back at its active value. -/
def sessionDrop (s : State) : State :=
  let s := modCmt (fun c => { c with st := .closed, owner := .none, arming := false, finalOk := false }) s
  modCmt (fun c => { c with pre := none, imageEpoch := none, idle := 0 }) { s with staged := [] }

/-- ABANDON. -/
def sessionAbandon (s : State) : State := raise .cmt 0 3 (applyLost (sessionDrop s))

/-- The owner's request renews the session's idle time (R92). -/
def sessionTouch (s : State) : State := modCmt (fun c => { c with idle := 0 }) s

/-- The RESULT of a command that ends before its row gives one: CFG_APPLY_AT carries its RESULT with every status (R395). -/
def endBytes (op : Nat) (s : State) : List Byte := if op = 0x0102 then applyBytes s else []

/-- Tick F-1 of an armed session has come. -/
def cmtLate (s : State) : Bool := decide (s.cmt.st = .armed) && decide (s.cmt.applyFrame ≤ s.frame + 1)

/-! ### The actions (R87) -/

/-- Die n has an excitation output that is not OFF, now or as staged (R159). -/
def excUsed (s : State) (n : Nat) : Bool :=
  (List.range 16).any (fun k => decide ((exc s (16 * n + k)).mode ≠ .off) || decide (sReq s (16 * n + k) ≠ 0))

def isVexc (r : AuxReq) : Bool := match r.kind with
  | .vexc => true
  | _ => false

/-- A VEXC conversion for a commit check waits or runs on die n. -/
def vexcBusy (s : State) (n : Nat) : Bool := ((aux s n).urgent ++ (aux s n).run.toList).any isVexc

/-- The check issues an urgent VEXC conversion on each field die with an output not OFF; at an unavailable converter the
request completes at once, with NO_RESOURCE (R158, R159). -/
def vexcIssue (s : State) : State :=
  forN 4 (fun n a => if excUsed a n && auxAvail a n && !vexcBusy a n then auxPush n .vexc a else a) s

/-- CHECK, or ARM with its check 0 (R88). -/
def checkStart (arm : Bool) (s : State) : State :=
  let s := vexcIssue s
  let f := applyFrame s
  let p := if arm then (check0 s f).head?.map (fun v => (v.st, (v.a, v.b))) else none
  modCmt (fun c => { c with st := .checking, arming := arm, applyFrame := if arm then f else c.applyFrame, pre := p }) s

/-- CMT_CTRL.CHECK or ARM by an owner. R87 names no status for an owner's action in a state that does not accept it: BUSY here,
in `sessionDisarm` and in `sessionAbandonBy` (DESIGN CHOICE, log entry 157). -/
def sessionCheck (o : Owner) (arm : Bool) (s : State) : Nat × State :=
  if s.cmt.owner ≠ o then (stNotPermitted, s)
  else if s.cmt.st ≠ .open_ then (stBusy, sessionTouch s)
  else (stOk, checkStart arm (sessionTouch s))

/-- ARM of a session of the firmware: the current frame plus 2, without NEED_LOCK (R393). -/
def ownArm (s : State) : State := checkStart true (setRg 0x2048 0 (setRg 0x2050 0 (setRg 0x2054 0 (sessionTouch s))))

def sessionDisarm (o : Owner) (s : State) : Nat × State :=
  if s.cmt.owner ≠ o then (stNotPermitted, s)
  else if s.cmt.st ≠ .armed ∨ cmtLate s then (stBusy, sessionTouch s)
  else (stOk, modCmt (fun c => { c with st := .open_, finalOk := false }) (sessionTouch s))

def sessionAbandonBy (o : Owner) (s : State) : Nat × State :=
  if s.cmt.owner ≠ o then (stNotPermitted, s)
  else if s.cmt.st = .checking ∨ cmtLate s then (stBusy, sessionTouch s)
  else (stOk, sessionAbandon s)

/-- An action whose refusal goes to the CMT page's PG_ERR. -/
def cmtAct (f : State → Nat × State) (s : State) : State :=
  let r := f s
  if r.1 = stOk then r.2 else pgError .cmt 0 r.1 r.2

/-- A write of CMT_CTRL (R87). -/
def cmtCtrl (p : Path) (w : Word) (s : State) : State :=
  let o := ownerDirect p
  match fld w 0 5 with
  | 0 => s
  | 1 => cmtAct (sessionOpen o) s
  | 2 => cmtAct (sessionCheck o false) s
  | 4 => cmtAct (sessionCheck o true) s
  | 8 => cmtAct (sessionDisarm o) s
  | 16 => cmtAct (sessionAbandonBy o) s
  | _ => pgError .cmt 0 stBadParam s

def execCmtOpen (p : Path) (s : State) : Host.Outcome State Fault Refusal := .next (direct .cmt 0 (cmtCtrl p 1#32) s)
def execCmtCheck (p : Path) (s : State) : Host.Outcome State Fault Refusal := .next (direct .cmt 0 (cmtCtrl p 2#32) s)
def execCmtArm (p : Path) (s : State) : Host.Outcome State Fault Refusal := .next (direct .cmt 0 (cmtCtrl p 4#32) s)
def execCmtDisarm (p : Path) (s : State) : Host.Outcome State Fault Refusal := .next (direct .cmt 0 (cmtCtrl p 8#32) s)
def execCmtAbandon (p : Path) (s : State) : Host.Outcome State Fault Refusal := .next (direct .cmt 0 (cmtCtrl p 16#32) s)

/-! ### The ends of a check (R87 to R89, R393) -/

/-- An ARM that failed, or an armed session that was cancelled, with its status: CFG_APPLY_AT ends; a command with a session
of its own abandons it and ends, or tries its second session again. -/
def applyFailed (st : Nat) (s : State) : State :=
  s.flight.foldl (fun a f => match f.wait with
    | .apply => finish f st (applyBytes a) a
    | .refApply _ _ _ => sessionAbandon (finish f st [] a)
    | .prbs _ 0 _ _ => sessionAbandon (finish f st [] a)
    | .prbs n 3 u e => sessionAbandon (await f (.prbs n 2 u e) a)
    | _ => a) (if s.hub.st = .resync ∧ s.cmt.owner = .firmware then { s with twn := { s.twn with bad := some st } } else s)

/-- The measured VEXC that a check waits for is there (R159). -/
def vexcIn (s : State) : Bool := (List.range 4).all (fun n => !vexcBusy s n)

def execCheckComplete (s : State) : Host.Outcome State Fault Refusal :=
  .next (if running s ∧ s.cmt.st = .checking ∧ s.cmt.arming = false ∧ vexcIn s then
    let s := checkRun [] s
    let s := raise .cmt 0 0 (modCmt (fun c => { c with st := .open_ }) s)
    let top := (s.cmt.res.loads.foldl (fun a p => max a p.2) 0) + s.cmt.res.asm
    wakeup .check s.cmt.res.status
      (if s.cmt.res.status = stOk then resultBytes s ++ leBytes 4 top ++ leBytes 4 s.cmt.res.budget else []) s
  else s)

/-- Check 0 as it stands when the check of an ARM ends: what it found then, or that tick F-1 has passed meanwhile. -/
def armPre (s : State) : List Viol := match s.cmt.pre with
  | some (st, (a, b)) => viol true a b st
  | none => vBad (decide (s.cmt.applyFrame ≤ s.frame + 1)) 0x2050 0

def execArmCheckComplete (s : State) : Host.Outcome State Fault Refusal :=
  .next (if running s ∧ s.cmt.st = .checking ∧ s.cmt.arming ∧ vexcIn s then
    let s := checkRun (armPre s) s
    if s.cmt.res.status = stOk then modCmt (fun c => { c with st := .armed, arming := false, finalOk := false, pre := none }) s
    else applyFailed s.cmt.res.status (modCmt (fun c => { c with st := .open_, arming := false, pre := none }) s)
  else s)

/-- An armed session is cancelled (R89, R91). Its frames spent ARMED count toward the idle limit of R92 (DESIGN CHOICE, log
entry 159). -/
def armCancel (st : Nat) (s : State) : State :=
  applyFailed st (raise .cmt 0 2 (modCmt (fun c => { c with st := .open_, finalOk := false }) s))

/-- The final check on the cycle of tick F-1 (R89). -/
def finalCheck (s : State) : State :=
  if s.cmt.st = .armed ∧ s.cmt.finalOk = false ∧ s.frame + 1 = s.cmt.applyFrame then
    match finalRun s with
    | none => modCmt (fun c => { c with finalOk := true }) s
    | some r => armCancel r.2.st (modCmt (fun c => { c with res := resultSet (some r) true c.res }) s)
  else s

def execFinalCheck (s : State) : Host.Outcome State Fault Refusal := .next (if running s then finalCheck s else s)

/-! ### The apply at tick F (R20, R82, R90, R97) -/

/-- Readers that the new configuration adds start at WM; what a removed one held is released (R277, R343). -/
def readersApply (old s : State) : State :=
  forN 16 (fun q a =>
    let a := forN 8 (fun n b => if reads b q n && !reads old q n then rdrStart q n b else b) a
    if (List.range 8).any (fun n => reads old q n && !reads a q n) then release q a else a) s

/-- TMB_CTRL.ROOT changed: the PPS state begins anew, a root has no source, and a bound that comes back into effect is a verdict
(R19, R194, R212). -/
def rootApply (root : Bool) (old : Word) (s : State) : State :=
  let t := modTmb (fun x => { x with pps := {} }) s
  if root then (if t.tmb.src.isSome then setSrc none t else t) else tunlVerdict (setRg 0x3040 old t) t

/-- What a staged register that is not DSP-governing does as it becomes active. -/
def hookReg (a : Nat) (old new : Word) (s : State) : State := match pageAt a with
  | some (.clk, _) => if a = 0x1048 then fdApply old new s else famApply s
  | some (.tmb, _) =>
    if a = 0x3040 then (if bit old 0 = bit new 0 then s else rootApply (bit new 0) old s)
    else if a = 0x3050 then { s with frame := s.frame * rateHz (fld new 0 3) / rateHz (fld old 0 3) }
    else s
  | some (.bcn, _) =>
    if a = 0x8040 then (if bit new 31 && !bit old 31 then boostStart s else s)
    else if a = 0x8070 then chainApply (if chainDriven s then s else modBcn (fun x => { x with prev := none }) s)
    else if 0x8100 ≤ a ∧ a < 0x8200 ∧ a % 16 = 0 then bstrApply ((a - 0x8100) / 16) s
    else s
  | some (.lnk, n) => if a % 0x1000 = 0x40 then lnCfgApply n old new s else s
  | some (.shf, ss) =>
    if a % 0x1000 = 0x200 then refEnables ss new.toNat s
    else if 0x100 ≤ a % 0x1000 ∧ a % 0x1000 < 0x140 ∧ a % 16 = 0 then excApply (4 * ss + (a % 0x1000 - 0x100) / 16) old new s
    else if 0x100 ≤ a % 0x1000 ∧ a % 0x1000 < 0x140 ∧ a % 16 = 4 ∧ fld new 12 4 = 0 then collapseOff (4 * ss + (a % 0x1000 - 0x100) / 16) s
    else s
  | _ => s

/-- Streams whose registers changed take the new definition at their next common boundary (R20). -/
def streamsApply (ch : Tbl Word) (s : State) : State :=
  forN 32 (fun i a =>
    if ch.any (fun p => decide (strA i 0 ≤ p.1) && decide (p.1 ≤ strA i 8)) then modStrm i (fun x => { x with next := some (strDef a i) }) a else a) s

/-- Commands whose apply has come (R395). -/
def applyWakes (s : State) : State :=
  s.flight.foldl (fun a f => match f.wait with
    | .apply => finish f stOk (applyBytes a) a
    | .acqApply j => await f (.acqPass j) a
    | .refApply ss m w =>
      if w && !decide (refReadyBits a ss &&& m = m) then await f (.refReady ss m a.cmt.epoch) a
      else finish f stOk (leBytes 8 a.cmt.epoch ++ leBytes 4 (refReadyBits a ss)) a
    | .prbs n 0 u e => await f (.prbs n 1 (a.ord + u) e) a
    | .prbs _ 3 _ e => finish f e f.buf a
    | _ => a) s

/-- Every staged copy becomes active: at once, or with the pass of this tick (R82, R90). -/
def commitApply (s : State) : State :=
  if s.cmt.st = .armed ∧ s.cmt.finalOk ∧ s.frame = s.cmt.applyFrame then
    let old := s
    let ch := s.staged.filter (fun p => !dspGoverned p.1)
    let dsp := s.staged.filter (fun p => dspGoverned p.1)
    let s := if s.hub.st = .unconfigured then setHub .solo s else safeExit s
    let f := s.cmt.applyFrame
    let ep := max (s.cmt.epoch + 1) (s.cmt.imageEpoch.getD 0)
    let s := sessionDrop (modCmt (fun c => { c with epoch := ep, lastApply := f }) s)
    let s := forL ch (fun p a => setRg p.1 (merge (rg a p.1) p.2 (stMask p.1)) a) s
    let s := forL dsp (fun p a => { a with dspPend := tset (rg a p.1) a.dspPend p.1 p.2 }) s
    let s := if dsp = [] then s else { s with dspQ := s.dspQ ++ [(s.ord, dsp)] }
    let s := forL ch (fun p a => hookReg p.1 (rg old p.1) (rg a p.1) a) s
    let s := rteSync (readersApply old (streamsApply ch s))
    applyWakes (raise .cmt 0 1 (memSync s))
  else s

def execCommitApply (s : State) : Host.Outcome State Fault Refusal := .next (if running s then commitApply s else s)

/-! ### Session timeout (R92) -/

/-- The idle limit has passed. -/
def sessionOverdue (s : State) : Bool :=
  (decide (s.cmt.st = .open_) || decide (s.cmt.st = .checking)) && decide (af s 0x2078 0 8 ≠ 0) &&
    decide (af s 0x2078 0 8 * 1024 ≤ s.cmt.idle)

def execSessionTimeout (s : State) : Host.Outcome State Fault Refusal :=
  .next (if running s ∧ sessionOverdue s then pgError .cmt 0 stTimeout (sessionAbandon s) else s)

/-- A step of the timebase cancels an armed session (R91). -/
def stepCancel (s : State) : State := if s.cmt.st = .armed then armCancel stNotLocked s else s

/-! ### Staged writes (R80, R81) -/

/-- Store a staged value for an owner whose page mode allows it: the status it leaves. A write that the page's mode refuses, a
read and a write of an RW field do not renew the idle time of R92 (DESIGN CHOICE, log entry 158). -/
def stageWrite (o : Owner) (modeOk : Bool) (a : Nat) (w : Word) (s : State) : Nat × State :=
  if modeOk = false ∨ s.cmt.st = .closed then (stNotPermitted, s)
  else if s.cmt.st ≠ .open_ then (stBusy, if s.cmt.owner = o then sessionTouch s else s)
  else if s.cmt.owner ≠ o then (stNotPermitted, s)
  else (stOk, modCmt (fun c => { c with idle := 0, res := { c.res with current := false } }) (setStg a w s))

end Sys2Proof.Machine
end

