-- ==== Sys2Proof/Machine/Test.lean ====
section
/-! DEFINITION. The test lock, perturbations, built-in self-tests and the JTAG port (chapter 20). -/

namespace Sys2Proof.Machine

open Sys2Proof

def modTst (f : Tst → Tst) (s : State) : State := { s with tst := f s.tst }

/-! ### The lock (R422 to R424) -/

def unlocked (s : State) : Bool := s.tst.unlocked.isSome

/-- The hub locks: every PG_PERTURB is set to zero, and no perturbation acts any more. -/
def tstLock (s : State) : State :=
  let s := modTst (fun x => { x with first := false, pert := [], due := [] }) s
  let s := forL allPages (fun p a => setRg (pgPerturb p.1 p.2) 0 a) s
  if unlocked s then raise .tst 0 1 (modTst (fun x => { x with unlocked := none }) s) else s

/-- A TSTACC write of TST_LOCK. -/
def lockWrite (w : Word) (s : State) : State :=
  if w = 0x7E57#32 then modTst (fun x => { x with first := true }) s
  else if w = 0x81A8#32 ∧ s.tst.first then
    raise .tst 0 0 (bump 0x19020 1 (modTst (fun x => { x with first := false, unlocked := some s.c }) s))
  else if w = 0 then tstLock s
  else modTst (fun x => { x with first := false }) s

/-- A TSTACC write of TST_UNLK_TMO. -/
def tmoWrite (w : Word) (s : State) : State :=
  let s := modTst (fun x => { x with first := false }) s
  if fld w 0 16 = 0 then pgError .tst 0 stBadParam s else setRg 0x19048 (w &&& 0xFFFF#32) s

/-- CORE cycles of unlock time that are left. -/
def unlockLeft (s : State) : Nat := match s.tst.unlocked with
  | some c0 => c0 + af s 0x19048 0 16 * 393216000 - s.c
  | none => 0

def execTstUnlockExpire (s : State) : Host.Outcome State Fault Refusal :=
  .next (if running s ∧ unlocked s ∧ unlockLeft s = 0 then tstLock s else s)

/-! ### Perturbations (R424 to R426) -/

/-- KIND and PARAM that a page has. -/
def pertKnown (k : PageK) (kind p : Nat) : Bool :=
  decide (kind = 0) || (match k with
    | .hub => decide (kind = 1) && decide (1 ≤ p)
    | .seq => (decide (kind = 1) && decide (p ≤ 2)) || (decide (kind = 2) && decide (p = 0))
    | .d2d => decide (kind = 1) && decide (p < 16) && decide (p % 4 ≠ 3)
    | .que => decide (1 ≤ kind) && decide (kind ≤ 3) && decide (p < 16)
    | .mem => decide (2 ≤ kind) && decide (kind ≤ 3) && decide (p < 12)
    | .lnk => (decide (kind = 1 ∨ kind = 4 ∨ kind = 5) && decide (p = 0)) || (decide (kind = 2 ∨ kind = 3) && decide (1 ≤ p))
    | .twn => decide (kind = 1) && decide (p = 0)
    | .bcn => decide (kind = 1) && decide (1 ≤ p)
    | .clk => decide (kind = 1) && decide (p = 0)
    | _ => false)

/-- A write of a page's PG_PERTURB: the status it leaves. -/
def perturbWrite (k : PageK) (i : Nat) (w : Word) (s : State) : Nat × State :=
  if unlocked s = false then (stNotPermitted, s)
  else if pertKnown k (fld w 0 4) (fld w 4 12) = false then (stBadParam, s)
  else (stOk, modTst (fun x => { x with due := tset false x.due (pageBase k i) true }) (setRg (pgPerturb k i) (w &&& 0x00FFFFFF#32) s))

/-- The same write by a direct path, its refusal recorded in the page. -/
def perturbReg (k : PageK) (i : Nat) (w : Word) (s : State) : State :=
  let r := perturbWrite k i w s
  if r.1 = stOk then r.2 else pgError k i r.1 r.2

def execPgPerturbWrite (_ : Path) (a : Nat) (w : Word) (s : State) : Host.Outcome State Fault Refusal :=
  .next (match pageAt a with
    | some (k, i) => if running s then perturbReg k i w s else s
    | none => s)

/-- A perturbation's COUNT frames have run out. -/
def pertOver (s : State) (a : Nat) : Bool :=
  let e := tget (0, 0) s.tst.pert a
  decide (fld e.1 16 8 ≠ 0) && decide (e.2 + fld e.1 16 8 ≤ s.ord)

/-- It ends, and the register clears unless a new write waits. -/
def pertEnd (a : Nat) (s : State) : State :=
  if pertOver s a then
    let s := if tget false s.tst.due a then s else setRg (a + 0x1C) 0 s
    modTst (fun x => { x with pert := tset (0, 0) x.pert a (0, 0) }) s
  else s

def execPerturbCountExpire (a : Nat) (s : State) : Host.Outcome State Fault Refusal := .next (if running s then pertEnd a s else s)

/-- Perturbations at a tick: those whose frames are over end, new writes take effect, and the frame counts (R425). -/
def pertTick (s : State) : State :=
  let s := forL s.tst.pert (fun e a => pertEnd e.1 a) s
  let s := forL s.tst.due (fun e a =>
    modTst (fun x => { x with pert := tset (0, 0) x.pert e.1 (if rg a (e.1 + 0x1C) = 0 then (0, 0) else (rg a (e.1 + 0x1C), a.ord)) }) a) s
  let s := modTst (fun x => { x with due := [] }) s
  if s.tst.pert.any (fun e => decide (fld e.2.1 0 4 ≠ 0)) then bump 0x19024 1 s else s

/-! ### Built-in self-tests (R427) -/

/-- Start a self-test: the status. -/
def bistStart (t : Nat) (s : State) : Nat × State :=
  if s.tst.bist.isSome then (stBusy, s) else (stOk, modTst (fun x => { x with bist := some t }) s)

/-- Byte n of the DETAIL of self-test 3: the worse error of an available converter, else 0xFF. -/
def bistByte (s : State) (detail n : Nat) : Nat := if auxAvail s n then detail / 256 ^ n % 256 else 255

/-- DETAIL of a self-test, and whether it passes: the ROM's CRC is the fused one, every available converter lies within 16 LSB, or the
injected fault was caught as `ok` says (R427). -/
def bistResult (s : State) (t : Nat) (ok : Bool) (detail : Nat) : Nat × Bool := match t with
  | 0 => (detail % 2 ^ 32, decide (detail % 2 ^ 32 = Config.romCrc.toNat))
  | 3 => (((List.range 4).map (fun n => bistByte s detail n * 256 ^ n)).foldl (· + ·) 0,
      (List.range 4).all (fun n => !auxAvail s n || decide (bistByte s detail n ≤ 16)))
  | _ => (detail % 2 ^ 32, ok)

def execBistDone (ok : Bool) (detail : Nat) (s : State) : Host.Outcome State Fault Refusal :=
  .next (match s.tst.bist with
    | none => s
    | some t =>
      let (detail, pass) := bistResult s t ok detail
      let s := modTst (fun x => { x with bist := none, res := t % 4 + 256 + bbit pass 9, detail := detail }) s
      let s := bump 0x19028 1 (if pass then s else bump 0x1902C 1 s)
      wakeup (.bist t) stOk (leBytes 4 (bbit pass 0) ++ leBytes 4 detail) (raise .tst 0 2 s))

/-- TST_STATUS (R431). -/
def tstStatus (s : State) : Nat :=
  bbit (unlocked s) 0 + bbit (allPages.any (fun p => decide (rg s (pgPerturb p.1 p.2) ≠ 0))) 1 + ceilDiv (unlockLeft s) 393216000 % 65536 * 2 ^ 16

/-! ### JTAG (R63, R429) -/

/-- Every pin goes to its Reset state (R45): the lanes idle, drivers and beacon outputs off. -/
def pinsTaken (s : State) : State :=
  let s := { s with jtag := { s.jtag with held := true } }
  bcnSleep (forN 64 excRelease (forN 8 laneDown s))

def execJtagInstruction (i : JtagOp) (s : State) : Host.Outcome State Fault Refusal :=
  let s := { s with jtag := { s.jtag with instr := i } }
  .next (if jtagTakes i then pinsTaken s else s)

/-- The word that the instruction IDCODE shifts out (R428). -/
def idcode : Word := Config.siliconRev ++ 0xA512#16 ++ Config.vendorCode ++ 1#1

def execTrstNAssert (s : State) : Host.Outcome State Fault Refusal := .next { s with jtag := { s.jtag with instr := .idcode } }

end Sys2Proof.Machine
end

