-- ==== Sys2Proof/Machine/Resync.lean ====
section
/-! DEFINITION. MGMT packets that the hub makes (R327), and how RESYNC begins and ends (R363 to R366). The steps of its
phases are in Image.lean. -/

namespace Sys2Proof.Machine

open Sys2Proof

/-! ### Sending MGMT packets (R14, R327, R341) -/

/-- A MGMT packet of this hub. -/
def mgmtPkt (mtype status count token dest : Nat) (body : List Byte) : Pkt :=
  { ty := 2, dest := dest, origin := origin,
    body := pad4 (leBytes 1 mtype ++ leBytes 1 status ++ leBytes 2 count ++ leBytes 4 token ++ body) }

/-- Queue a MGMT packet on a lane. -/
def mgmtPut (n : Nat) (p : Pkt) (s : State) : State := modLk n (fun x => { x with mgmt := x.mgmt ++ [p] }) s

/-- The lane of a reply to a packet of lane n: the lane itself, or the other of its pair where only that is available (R14). -/
def replyLane (s : State) (n : Nat) : Nat := if laneOpen s n then n else if laneOpen s (pairLane n) then pairLane n else n

/-- A reply leaves with DEST 0. -/
def mgmtReply (n : Nat) (mtype status count token : Nat) (body : List Byte) (s : State) : State :=
  mgmtPut (replyLane s n) (mgmtPkt mtype status count token 0 body) s

/-- A TWIN lane that carries packets. -/
def twinLane (s : State) : Nat := if laneUp s 4 then 4 else 5

/-- CFG_IMAGE_SAVE with COMPRESS and SEND at level 6, as the resync sends it (R365, R395). -/
def saveRequest : List Byte :=
  leBytes 2 0x0105 ++ leBytes 1 0 ++ leBytes 1 0 ++ leBytes 2 4 ++ leBytes 2 0 ++ leBytes 1 6 ++ leBytes 1 6 ++ leBytes 2 0

/-! ### The attempt (R363, R365, R366) -/

/-- Phase 1: the firmware opens its session and asks the partner for its image; where another session exists, it waits. -/
def resyncOpen (s : State) : State :=
  let r := sessionOpen .firmware s
  if r.1 = stOk then mgmtPut (twinLane s) (mgmtPkt 1 0 0 0 s.twn.porigin saveRequest) (modTwn (fun x => { x with idle := 0 }) r.2) else s

def resyncStart (s : State) : State :=
  let s := { s with hst := { s.hst with img := none, loading := false } }
  memSync <| resyncOpen (modTwn (fun x => { x with ph := 1, att := x.att + 1, idle := 0, retry := none, bad := none, imgOk := false }) s)

/-- The hub enters RESYNC. -/
def resyncEnter (s : State) : State := resyncStart (setHub .resync s)

/-- TWN_CTRL.RESYNC: from STANDBY of a twin hub (R363). -/
def resyncReq (s : State) : State :=
  if isTwin s ∧ s.hub.st = .standby then resyncEnter s else s

def execTwnResyncReq (_ : Path) (s : State) : Host.Outcome State Fault Refusal := .next (direct .twn 0 resyncReq s)

/-- The session of the attempt is abandoned. -/
def resyncDrop (s : State) : State := if s.cmt.owner = .firmware then sessionAbandon s else s

/-- TWN_CTRL.ABORT (R366). -/
def resyncAbort (s : State) : State :=
  if s.hub.st = .resync then
    memSync (setHub .standby (modTwn (fun x => { x with ph := 0, idle := 0, retry := none, bad := none, imgOk := false }) (resyncDrop s)))
  else s

def execTwnAbort (_ : Path) (s : State) : Host.Outcome State Fault Refusal := .next (direct .twn 0 resyncAbort s)

/-- The attempt has failed with a status: a failure noted, or 1024 frames of phases 1 to 5 without progress. -/
def resyncFailed (s : State) : Option Nat :=
  if s.hub.st ≠ .resync ∨ s.twn.ph = 0 then none
  else match s.twn.bad with
    | some st => some st
    | none => if s.twn.ph ≤ 5 ∧ 1024 ≤ s.twn.idle then some stTimeout else none

def execResyncFail (s : State) : Host.Outcome State Fault Refusal :=
  .next (match resyncFailed s with
    | some st =>
      let s := raise .twn 0 6 (resyncDrop s)
      memSync <| modTwn (fun x => { x with rst := st, ph := 0, idle := 0, retry := some 1024, bad := none, imgOk := false }) s
    | none => s)

def execResyncRetry (s : State) : Host.Outcome State Fault Refusal :=
  .next (if running s ∧ s.hub.st = .resync ∧ s.twn.retry = some 0 then resyncStart s else s)

/-- A processor restart abandons the attempt, which restarts at phase 1 (R366). -/
def resyncRestart (s : State) : State := if s.hub.st = .resync ∧ s.twn.ph ≠ 0 then resyncStart (if s.cmt.st = .armed then s else resyncDrop s) else s

/-- The attempt's frame counts at a tick. Phases 1 and 2 wait while no partner message arrives. -/
def resyncTick (s : State) : State :=
  if s.hub.st = .resync then
    let count := decide (s.twn.ph ≠ 0) && (decide (3 ≤ s.twn.ph) || (s.twn.heard && decide (s.twn.page < leaseLen s)))
    modTwn (fun x => { x with idle := if count then x.idle + 1 else x.idle, retry := x.retry.map (fun n => n - 1) }) s
  else s

/-- Boot ends (R65, R66); a twin hub that has heard of a higher epoch resyncs (R363). Ticks then run on local time from the counter. -/
def execBootComplete (fuseOk romOk : Bool) (f : FuseData) (s : State) : Host.Outcome State Fault Refusal :=
  .next (if s.pwr.phase = .boot then
    if romOk = false then modPwr (fun p => { p with phase := .dead }) s
    else
      let s := { s with
        pwr := { s.pwr with phase := .run },
        hub := { s.hub with
          st := if s.hub.straps.twinEn then .standby else .unconfigured,
          fuseFail := !fuseOk,
          lats := if fuseOk then f.lats else [] },
        frame := (netNow s * (frameHz s : Nat) / 2 ^ 64).toNat }
      let s := if fuseOk then modMem (fun m => { m with repair := f.repairs.map fuseRepair }) s else raise .hub 0 4 s
      let s := if s.hub.straps.bootMode = 3 then raise .hub 0 3 s else s
      if resyncWanted s then resyncEnter s else s
  else s)

/-- A LEASE packet on a TWIN lane (R354); RESYNC begins from STANDBY with CONFIG_EPOCH 0 at the first holder message of a higher epoch (R363). -/
def leaseRx (n : Nat) (m : Lease) (t : Nat) (s : State) : State :=
  if n ≠ 4 ∧ n ≠ 5 then unrouted n s
  else
    let was := resyncWanted s
    let s := bcnRole (leaseTake m (advance t s))
    if s.hub.st = .standby ∧ s.cmt.epoch = 0 ∧ was = false ∧ resyncWanted s then resyncEnter s else s

def execLeasePacketReceive (n : Nat) (m : Lease) (t : Nat) (s : State) : Host.Outcome State Fault Refusal :=
  .next (if rxOk s n then leaseRx n m t s else s)

/-- A write of TWN_CTRL (R369). -/
def twnCtrl (w : Word) (s : State) : State :=
  let s := setRg 0x704C (w &&& 0x100#32) s
  let s := if bit w 0 then resyncReq s else s
  let s := if bit w 1 then resyncAbort s else s
  if bit w 2 then swapReqReg s else s

end Sys2Proof.Machine
end

