-- ==== Sys2Proof/Machine/RegRead.lean ====
section
/-! DEFINITION. What every readable register shows, and what a read does (R76 to R80): read-only views, read-clear
registers, latched halves and indirect data. -/

namespace Sys2Proof.Machine

open Sys2Proof

/-- Index of an offset in `n` registers at a stride. -/
def rowIx (o base stride n : Nat) : Option Nat :=
  if base ≤ o ∧ (o - base) % stride = 0 ∧ (o - base) / stride < n then some ((o - base) / stride) else none

/-- The first view of a list that exists. -/
def firstOf : List (Option Word) → Option Word
  | [] => none
  | some w :: _ => some w
  | none :: r => firstOf r

/-- A view of one register, and of `n` registers at a stride. -/
def vAt (o a : Nat) (v : Unit → Nat) : Option Word := if o = a then some (word (v ())) else none
def vRow (o base stride n : Nat) (v : Nat → Nat) : Option Word := (rowIx o base stride n).map (fun i => word (v i))
/-- A 64-bit view over two registers. -/
def vPair (o a : Nat) (v : Unit → Nat) : Option Word :=
  if o = a then some (lo32 (v ())) else if o = a + 4 then some (hi32 (v ())) else none

/-- A number that saturates at 32 bits, and a signed one. -/
def sat32 (n : Nat) : Nat := min n 0xFFFFFFFF
def satS32 (v : Int) : Nat := (iword (iclamp (-0x80000000) 0x7FFFFFFF v)).toNat

/-- HUB_STATUS.STATE (R100). -/
def hubCode : HubSt → Nat
  | .boot => 0
  | .unconfigured => 1
  | .resync => 2
  | .standby => 3
  | .active => 4
  | .solo => 5
  | .sleep => 6
  | .safe => 7

def hubStatus (s : State) : Nat :=
  let h := s.hub
  hubCode h.st ||| h.safeCause <<< 4 ||| bbit h.safeHeld 8 ||| bbit (decide (h.straps.bootMode = 3)) 9 ||| bbit h.fuseFail 10 |||
    bbit h.straps.twinEn 20 ||| bbit h.straps.twinSide 21 ||| h.straps.bootMode <<< 22

def viewHub (s : State) (o : Nat) : Option Word := firstOf [
  vAt o 0x40 (fun _ => hubStatus s),
  vAt o 0x44 (fun _ => min 65535 s.hub.clean <<< 16 ||| min 65535 s.hub.consec),
  vPair o 0x48 (fun _ => Config.ident.toNat),
  vAt o 0x100 (fun _ => irqSum s 0),
  vAt o 0x104 (fun _ => irqSum s 1)]

def viewClk (s : State) (o : Nat) : Option Word := vAt o 0x40 (fun _ => clkStatus s)

def viewCmt (s : State) (o : Nat) : Option Word :=
  let r := s.cmt.res
  firstOf [
    vAt o 0x44 (fun _ => cmtSession s),
    vAt o 0x58 (fun _ => cmtResult s),
    vAt o 0x5C (fun _ => r.offender.toNat),
    vAt o 0x60 (fun _ => sat32 r.detail),
    vAt o 0x64 (fun _ => sat32 r.limit),
    vPair o 0x68 (fun _ => s.cmt.epoch),
    vPair o 0x70 (fun _ => s.cmt.lastApply),
    vRow o 0x80 4 16 (fun i => sat32 (tget 0 r.loads i)),
    vAt o 0xC0 (fun _ => sat32 r.asm),
    vAt o 0xC4 (fun _ => r.budget),
    vRow o 0xD0 4 12 (fun i => sat32 (tget 0 r.bkdem i)),
    vRow o 0x100 4 8 (fun i => sat32 (tget 0 r.lkdem i)),
    vRow o 0x120 4 8 (fun i => sat32 (tget 0 r.lkcap i))]

/-- The three words of an instant (R4, R221): seconds [31:0], then seconds [47:32] below fraction [47:32], then fraction [31:0]. -/
def t0Word (t : Int) : Nat := inst96 t / 2 ^ 48 % 2 ^ 32
def t1Word (t : Int) : Nat := inst96 t / 2 ^ 80 ||| (inst96 t / 2 ^ 32 % 2 ^ 16) <<< 16
def t2Word (t : Int) : Nat := inst96 t % 2 ^ 32

def viewTmb (s : State) (o : Nat) : Option Word :=
  let m := s.tmb
  firstOf [
    vAt o 0x44 (fun _ => (tmbStateWord s).toNat),
    vPair o 0x64 (fun _ => m.snap.c),
    vAt o 0x6C (fun _ => t0Word m.snap.t),
    vAt o 0x70 (fun _ => t1Word m.snap.t),
    vAt o 0x74 (fun _ => t2Word m.snap.t),
    vAt o 0x78 (fun _ => m.snap.st.toNat),
    vPair o 0x80 (fun _ => (BitVec.ofInt 64 m.rho).toNat),
    vAt o 0x88 (fun _ => satS32 (toPs m.e)),
    vAt o 0x8C (fun _ => if s.tmb.hopsLive then sat32 (effBound s (256 * s.c)) else 0),
    vAt o 0xA4 (fun _ => (rg s 0x30A4).toNat ||| bbit m.pps.todValid 31),
    vRow o 0x108 0x20 8 (fun n => satS32 (toPs (tlane s n).ofs)),
    vRow o 0x10C 0x20 8 (fun n => satS32 (toPs (tlane s n).dly)),
    vRow o 0x110 0x20 8 (fun n => satS32 (toPs (mean (tlane s n).ofss))),
    vRow o 0x114 0x20 8 (fun n => let x := tlane s n; x.peerState % 8 ||| (x.peerHops % 16) <<< 20 ||| (x.peerSer % 256) <<< 24),
    vAt o 0x300 (fun _ => m.evtArm)]

def viewSeq (s : State) (o : Nat) : Option Word := firstOf [vAt o 0x40 (fun _ => s.seqAgree), vPair o 0x48 (fun _ => s.frame)]

/-- Commands in flight of a path: a command whose completion waits is still in flight, unless a restart freed its tag
(R14, R388, R397). -/
def inflight (s : State) (pc : Nat) : Nat :=
  (s.flight.filter (fun f => decide (pathCode f.path = pc))).length +
    (s.compl.filter (fun c => decide (pathCode c.path = pc) && !c.freed && !c.dup)).length

/-- Generation of a tag. -/
def tagGen (s : State) (pc tag : Nat) : Nat := tget 15 s.hst.gens (256 * pc + tag)

/-- Eight generations, four bits each. -/
def gensWord (s : State) (pc i : Nat) : Nat :=
  (List.range 8).foldl (fun a j => a ||| (tagGen s pc (8 * i + j) % 16) <<< (4 * j)) 0

def viewCmd (s : State) (o : Nat) : Option Word := firstOf [
  vAt o 0x40 (fun _ => inflight s 0 % 512 ||| (inflight s 1 % 512) <<< 16),
  vAt o 0x44 (fun _ => s.hst.inbox.length % 65536),
  vRow o 0x100 4 32 (gensWord s 0),
  vRow o 0x180 4 32 (gensWord s 1)]

/-- The host port is a control path, the MGMT path is one (R42, R387); factory mode and boundary scan leave neither. -/
def hostPath (s : State) : Bool := running s && !s.pwr.ft && !s.jtag.held && decide (s.hub.straps.bootMode ≠ 2)
def mgmtPath (s : State) : Bool := running s && !s.pwr.ft && !s.jtag.held && decide (s.hub.straps.bootMode ≠ 1)

/-- Size of a mailbox, and bytes a list of buffers takes. -/
def mboxSize : Nat := 16384
def mboxUsed (l : List (List Byte)) : Nat := l.foldl (fun a b => a + b.length) 0

/-- HST_STATUS (R401). -/
def hstStatus (s : State) : Nat :=
  let h := s.hst
  h.gen ||| bbit (hostPath s) 2 ||| bbit (hsIrqLow s) 3 ||| bbit h.np 9 ||| (h.npIdx % 64) <<< 10 |||
    (if running s then min 255 ((mboxSize - mboxUsed h.inbox) / 64) else 0) <<< 16 ||| min 255 h.outbox.length <<< 24

def viewHst (s : State) (o : Nat) : Option Word := vAt o 0x40 (fun _ => hstStatus s)

def viewTwn (s : State) (o : Nat) : Option Word := firstOf [
  vAt o 0x4C (fun _ => twnCtrlWord s),
  vAt o 0x58 (fun _ => twnStatus s),
  vAt o 0x5C (fun _ => twnSerial s),
  vPair o 0x60 (fun _ => s.twn.pepoch),
  vPair o 0x68 (fun _ => s.twn.next.getD 0),
  vAt o 0x70 (fun _ => twnAge s),
  vAt o 0x74 (fun _ => twnRsyncSt s)]

def viewBcn (s : State) (o : Nat) : Option Word := firstOf [
  vAt o 0x4C (fun _ => bstStatus s),
  vAt o 0x74 (fun _ => bchStatus s),
  vAt o 0x7C (fun _ => (tdataRead s).1.toNat),
  vRow o 0x108 0x10 16 (bstrStatus s),
  vRow o 0x10C 0x10 16 (bstrMon s),
  vRow o 0x218 0x20 16 (schCtlWord s)]

/-- Input code of a conversion (R157). -/
def auxInput (s : State) : AuxKind → Nat
  | .sys i => i
  | .cjc q => 0x20 + q
  | .lead ss _ _ => ss % 4
  | .shorts ss => ss % 4
  | .stale => 0
  | .urgent g _ _ => g / 32 % 4
  | .vexc => 0x1C
  | .slot i => af s (slotCfgA i) 8 6
  | .spot _ _ i => i

/-- AUXn_STATUS: a converter shows as unavailable once boot has ended; before, STATE reads its reset value (R163). -/
def auxStatus (s : State) (n : Nat) : Nat :=
  let x : Aux := aux s n
  min 255 x.urgent.length <<< 24 ||| min 255 (x.sys.length + x.cjc.length + x.lt.length + x.spot.length) <<< 16 |||
    (match x.run with
      | some r => auxInput s r.kind
      | none => 0) <<< 8 ||| (if running s && !auxAvail s n then 2 else if x.run.isSome then 1 else 0)

/-- Two 16-bit halves. -/
def halves (lo hi : Int) : Nat := (lo % 65536).toNat ||| (hi % 65536).toNat <<< 16

def viewAux (s : State) (o : Nat) : Option Word := firstOf [
  vRow o 0x44 0x10 4 (auxStatus s),
  vRow o 0x100 8 16 (fun i => (rg s (slotCfgA i)).toNat ||| bbit (slot s i).go 31),
  vRow o 0x104 8 16 (fun i => (slotWord (slot s i)).toNat),
  vRow o 0x180 0x10 4 (fun n => halves (tget 0 (aux s n).temp 0) (tget 0 (aux s n).temp 1)),
  vRow o 0x184 0x10 4 (fun n => halves (tget 0 (aux s n).temp 2) (tget 0 (aux s n).temp 3)),
  vRow o 0x188 0x10 4 (fun n => halves (codeMv (aux s n).vdda) (codeMv (aux s n).vddfd))]

def viewMem (s : State) (o : Nat) : Option Word := firstOf [
  vRow o 0x44 8 12 (fun b => bbit (released s b) 0 ||| bbit (decide (s.mem.test = some b)) 1 ||| bbit (bankRepaired s b) 2),
  vAt o 0xD4 (fun _ => s.mem.holdLo.toNat),
  vAt o 0xD8 (fun _ => s.mem.readHi.toNat),
  vAt o 0xDC (fun _ => s.mem.hstat),
  vAt o 0xE4 (fun _ => (rg s 0xA0E4 &&& 0x9FFFFFF8#32).toNat),
  vAt o 0xF0 (fun _ => (rg s 0xA0F0).toNat ||| bbit s.mem.test.isSome 8),
  vAt o 0xF4 (fun _ => s.mem.testRes),
  vAt o 0x104 (fun _ => repairSt s)]

/-- Words of a queue not released yet. -/
def qHeld (x : Queue) : Nat := qUsed x false + qUsed x true

/-- Q_q_STATUS (R287). -/
def qStatus (s : State) (q : Nat) : Nat :=
  let x := queue s q
  bbit (qEmpty x) 0 ||| bbit x.spilling 1 ||| bbit (hiwat s q) 2 ||| bbit (bit (rg s 0xB048) q) 3 ||| bbit x.flush 4 |||
    bbit (bit (rg s 0xB048) (16 + q)) 5

def viewQue (s : State) (o : Nat) : Option Word :=
  let r : Rdr := rdr s (af s 0xB04C 0 4) (af s 0xB04C 4 4)
  firstOf [
    vAt o 0x50 (fun _ => qPos32 (r.rd + r.off / 8)),
    vAt o 0x54 (fun _ => qPos32 r.ack),
    vAt o 0x60 (fun _ => s.rwdSt),
    vRow o 0x204 0x20 16 (fun q => qPos32 (queue s q).wp),
    vRow o 0x208 0x20 16 (fun q => qPos32 (queue s q).wm),
    vRow o 0x20C 0x20 16 (fun q => qPos32 (queue s q).lde),
    vRow o 0x210 0x20 16 (qStatus s),
    vRow o 0x214 0x20 16 (fun q => qHeld (queue s q)),
    vRow o 0x21C 0x20 16 (fun q => let x := queue s q; x.ser % 65536 ||| (x.chaff.length + x.ovf.toList.length) <<< 16),
    vRow o 0x40C 0x20 32 (strBmax s),
    vRow o 0x410 0x20 32 (fun i => (strm s i).seq % 2 ^ 32),
    vRow o 0x414 0x20 32 (fun i => (strm s i).seq / 2 ^ 32 % 2 ^ 32)]

/-- GO and CANCEL of a running job. -/
def jobBits (e : Eng) : Nat := match e.job with
  | some j => 1 ||| bbit j.cancel 1
  | none => 0

def viewCmp (s : State) (o : Nat) : Option Word := firstOf [
  vAt o 0x70 (fun _ => (rg s 0xC070).toNat ||| jobBits s.arc),
  vAt o 0x74 (fun _ => engStatus s.arc),
  vAt o 0x78 (fun _ => s.arc.consumed),
  vAt o 0x7C (fun _ => s.arc.produced),
  vAt o 0x90 (fun _ => (rg s 0xC090).toNat ||| jobBits s.dcmp),
  vAt o 0x94 (fun _ => engStatus s.dcmp),
  vAt o 0x98 (fun _ => s.dcmp.consumed),
  vAt o 0x9C (fun _ => s.dcmp.produced)]

def viewAcq (s : State) (o : Nat) : Option Word :=
  let pl (base : Nat) (v : Nat → Nat) : Option Word := vRow o (0x200 + base) 0x40 8 v
  firstOf [
    vRow o 0x4C 0x10 16 (fun u => (tunit s u).last % 2 ^ 32),
    pl 0x1C (fun _ => 0),
    pl 0x20 (cpStatus s),
    pl 0x24 (fun p => t0Word (plan s p).trig),
    pl 0x28 (fun p => t1Word (plan s p).trig),
    pl 0x2C (fun p => t2Word (plan s p).trig),
    pl 0x30 (fun p => (plan s p).k0Mod),
    pl 0x34 (fun p => (plan s p).slot % 2 ^ 32),
    pl 0x38 (planS s),
    pl 0x3C (fun p => (plan s p).gapAt % 2 ^ 32)]

def viewGln (s : State) (o : Nat) : Option Word := vRow o 0x4C 0x10 16 (fun u => (gunit s u).last % 2 ^ 32)

def viewLin (s : State) (o : Nat) : Option Word := firstOf [
  vAt o 0x44 (fun _ => linPage s ||| bbit s.lin.copying 1 ||| (s.lin.loaded % 16) <<< 4),
  vAt o 0x4C (fun _ => (idataRead s).1.toNat),
  vAt o 0x54 (fun _ => cjcStat s),
  vRow o 0x60 4 4 (fun t => (rg s (0xF060 + 4 * t)).toNat ||| bbit (s.lin.loaded.testBit t) 31)]

def viewLnk (s : State) (n o : Nat) : Option Word :=
  let k := (lane s n).lk
  firstOf [
    vAt o 0x50 (fun _ => lnStatus s n),
    vAt o 0x54 (fun _ => lnFom s n),
    vAt o 0x58 (fun _ => lnDfe s n),
    vAt o 0x60 (fun _ => (rg s (lnkReg n 0x60)).toNat ||| bbit (lane s n).inject 8),
    vPair o 0x68 (fun _ => (lane s n).prbsBits),
    vAt o 0x104 (fun _ => lkTxseq s n),
    vAt o 0x108 (fun _ => k.e),
    vAt o 0x10C (fun _ => k.limS % 65536 ||| (k.limP % 65536) <<< 16),
    vAt o 0x110 (fun _ => lkStatus s n),
    vAt o 0x114 (fun _ => lkRto s n)]

def viewRte (s : State) (o : Nat) : Option Word := vRow o 0x48 0x10 4 (rteStatus s)

def viewTst (s : State) (o : Nat) : Option Word := firstOf [
  vAt o 0x44 (fun _ => tstStatus s),
  vAt o 0x4C (fun _ => s.tst.res),
  vAt o 0x50 (fun _ => s.tst.detail)]

/-- The fuses' contents are the device's own. -/
def viewFus (o : Nat) : Option Word := if 0x40 ≤ o ∧ o < 0x800 then some (Config.fuseWord (o / 4)) else none

def viewD2d (s : State) (o : Nat) : Option Word := vRow o 0x40 4 4 (lstat s)

/-- Numbers of channel and lead states in their registers (R123). -/
def chCode : ChState → Nat
  | .off => 0
  | .armed => 1
  | .settling => 2
  | .run => 3
  | .fault => 4
def leadCode : LeadSt → Nat
  | .none => 0
  | .suspect => 1
  | .confirmed => 2

/-- CH_STATUS and CH_MON. -/
def chStatus (s : State) (g : Nat) : Nat :=
  let x : Chan := chan s g
  x.cause <<< 20 ||| (x.shortMask % 8) <<< 12 ||| bbit x.cmwN 11 ||| bbit x.cmwP 10 ||| (x.leadSrc % 8) <<< 7 ||| leadCode x.lead <<< 5 |||
    chCode x.st
def chMon (s : State) (g : Nat) : Nat :=
  let x : Chan := chan s g
  min 255 x.clipCnt <<< 24 ||| min 255 x.dnCnt <<< 16 ||| min 255 x.upCnt <<< 8 ||| x.gainPass % 8

/-- EXCk_STATUS and EXCk_VMON (R139). -/
def excModeNo : ExcMode → Nat
  | .off => 0
  | .regulate => 1
  | .share => 2
  | .hold => 3
def excStatus (s : State) (o : Nat) : Nat :=
  let e : Exc := exc s o
  min 65535 e.iout <<< 16 ||| bbit e.setMis 9 ||| bbit (excBlank s o) 8 ||| bbit e.fsDiff 7 ||| bbit e.collapse 6 ||| bbit e.headroom 5 |||
    bbit e.ilim 4 ||| bbit e.ramp.isSome 3 ||| excModeNo e.mode
def excVmon (s : State) (o : Nat) : Nat := halves (exc s o).vs (exc s o).fsd

/-- SHF_REF_STATUS (R155): a bit of every buffer of a sheaf. -/
def refBits (s : State) (ss : Nat) (f : RefBuf → Bool) : Nat :=
  (List.range 6).foldl (fun a b => a ||| bbit (f (ref s (6 * ss + b))) b) 0

def viewShf (s : State) (ss o : Nat) : Option Word :=
  let x : Aux := aux s (ss / 4)
  firstOf [
    vAt o 0x4C (fun _ => (tget 0 s.ltRes ss).toNat),
    vAt o 0x50 (fun _ => mapRun s ss),
    vAt o 0x54 (fun _ => mapLead s ss),
    vAt o 0x58 (fun _ => mapFault s ss),
    vAt o 0x5C (fun _ => mapShort s ss),
    vRow o 0x108 0x10 4 (fun k => excStatus s (4 * ss + k)),
    vRow o 0x10C 0x10 4 (fun k => excVmon s (4 * ss + k)),
    vAt o 0x148 (fun _ => halves x.vexc x.diss),
    vAt o 0x204 (fun _ => refReadyBits s ss ||| refBits s ss (·.on) <<< 8 ||| refBits s ss (·.fault) <<< 16),
    vAt o 0x208 (fun _ => halves x.intDev (if bit (rg s (shfReg ss 0x200)) 1 then x.ext.getD (ss % 4) 0 else 0)),
    vAt o 0x244 (fun _ => tget 0 s.modStart ss % 2 ^ 32),
    vRow o 0x40C 0x20 32 (fun c => let g := 32 * ss + c; (stg s (chFiltA g)).toNat ||| fld (chProfW s g) 0 4 <<< 8 ||| fld (chProfW s g) 4 2 <<< 12),
    vRow o 0x414 0x20 32 (fun c => chMon s (32 * ss + c)),
    vRow o 0x418 0x20 32 (fun c => chStatus s (32 * ss + c))]

/-- FLT_DESC of a bank (R187). -/
def bankDesc (b : CBank) : Nat := bbit b.loaded 0 ||| bbit b.phase 1 ||| (b.len16 % 32) <<< 4 ||| (b.std % 256) <<< 16

def viewFlt (s : State) (ss o : Nat) : Option Word := firstOf [
  vRow o 0x48 0x10 4 (fun p => bbit (bit (rg s (profCfgA ss p)) 8) 0 ||| bbit (!(prof s (4 * ss + p)).drains.isEmpty) 1 |||
    ((prof s (4 * ss + p)).swapFrame % 65536) <<< 16),
  vRow o 0x4C 0x10 4 (profUse s ss),
  vRow o 0x80 0x10 4 (fun p => bankDesc (cbank s (bankIx ss p false))),
  vRow o 0x84 0x10 4 (fun p => (cbank s (bankIx ss p false)).delay),
  vRow o 0x88 0x10 4 (fun p => bankDesc (cbank s (bankIx ss p true))),
  vRow o 0x8C 0x10 4 (fun p => (cbank s (bankIx ss p true)).delay),
  vAt o 0xC4 (fun _ => sheafMap ss (fun g => dcbFrozen s g (netNow s))),
  vAt o 0x104 (fun _ => (cdataRead ss s).1.toNat)]

/-- The block's own views at offsets 0x040 to 0x7FF. -/
def viewPage (s : State) (k : PageK) (i o : Nat) : Option Word := match k with
  | .hub => viewHub s o
  | .clk => viewClk s o
  | .cmt => viewCmt s o
  | .tmb => viewTmb s o
  | .seq => viewSeq s o
  | .cmd => viewCmd s o
  | .hst => viewHst s o
  | .twn => viewTwn s o
  | .bcn => viewBcn s o
  | .aux => viewAux s o
  | .mem => viewMem s o
  | .que => viewQue s o
  | .cmp => viewCmp s o
  | .acq => viewAcq s o
  | .gln => viewGln s o
  | .lin => viewLin s o
  | .lnk => viewLnk s i o
  | .rte => viewRte s o
  | .tst => viewTst s o
  | .fus => viewFus o
  | .d2d => viewD2d s o
  | .shf => viewShf s i o
  | .flt => viewFlt s i o

/-- EN and MODE of a page (R75, R77). -/
def pageEn (s : State) (k : PageK) (i : Nat) : Bool := enFixed k || bit (rg s (pgCtrl k i)) 0

/-- PG_ID: block code, instance and layout version (R75, R77). -/
def pgId (k : PageK) (i : Nat) : Nat :=
  (match k with
    | .lnk => 0x10
    | k => blockCode k) <<< 16 ||| i <<< 8 ||| 1

/-- The header's views at offsets below 0x020. -/
def viewHead (s : State) (k : PageK) (i o : Nat) : Option Word := firstOf [
  vAt o 0x00 (fun _ => pgId k i),
  vAt o 0x04 (fun _ => Config.pgRev.toNat),
  vAt o 0x08 (fun _ => bbit (pageEn s k i) 0 ||| bbit (expert s k i) 8),
  vAt o 0x0C (fun _ => bbit (pageEn s k i) 0 ||| bbit (expert s k i) 2 ||| bbit (decide (rg s (pgErr k i) ≠ 0)) 3 ||| bbit (pagePending s k i) 4)]

/-- The word a register shows, without the effects of a read: a view, the active copy at 0x800 and above, else what is
stored, with the staged copy of its ST fields (R80). -/
def readVal (s : State) (a : Nat) : Word := match pageAt a with
  | none => 0
  | some (k, i) =>
    let o := a % 0x1000
    if o < 0x40 then (viewHead s k i o).getD (rg s a)
    else if 0x800 ≤ o then (if 0x840 ≤ o then rg s (a - 0x800) &&& stMask (a - 0x800) else 0)
    else (viewPage s k i o).getD (merge (rg s a) (stg s a) (stMask a))

/-! ### Effects of a read -/

/-- The _LO half of a 64-bit quantity (R79). -/
def isLo (a : Nat) : Bool := match pageAt a with
  | some (.hub, _) => decide (a % 0x1000 = 0x48)
  | some (.cmt, _) => [0x50, 0x68, 0x70].contains (a % 0x1000)
  | some (.tmb, _) => [0x64, 0x80, 0xA0].contains (a % 0x1000)
  | some (.seq, _) => decide (a % 0x1000 = 0x48)
  | some (.twn, _) => [0x50, 0x60, 0x68].contains (a % 0x1000)
  | some (.que, _) => (rowIx (a % 0x1000) 0x410 0x20 32).isSome
  | some (.lnk, _) => decide (a % 0x1000 = 0x68)
  | some (.mem, _) => decide (a % 0x1000 = 0xD4)
  | _ => false

/-- Registers that a read clears whole: PG_ERR, the counters, and the RC registers of the block chapters. -/
def isRc (a : Nat) : Bool :=
  let o := a % 0x1000
  decide (o = 0x18) || (decide (0x20 ≤ o) && decide (o < 0x40)) || (match pageAt a with
    | some (.clk, _) => decide (o = 0x44)
    | some (.mem, _) => (rowIx o 0xA0 4 12).isSome || decide (o = 0xE0) || decide (o = 0xE4)
    | some (.que, _) => (rowIx o 0x418 0x20 32).isSome
    | some (.lnk, _) => decide (o = 0x64)
    | _ => false)

/-- One register read by a path: the word, whether a window access collided and was not performed, new state. -/
def readReg (p : Path) (a : Nat) (h : MemHit) (s : State) : Word × Bool × State := match pageAt a with
  | none => (0, false, s)
  | some (k, i) =>
    let o := a % 0x1000
    let v := readVal s a
    if a % 4 ≠ 0 then (0, false, s)
    else if k = .mem ∧ o = 0xD4 then hdataRead p h s
    else if isLo a then (v, false, setLatch p a (some (readVal s (a + 4))) s)
    else if 4 ≤ o ∧ isLo (a - 4) then ((tget none s.hiLatch (latchKey p (a - 4))).getD v, false, setLatch p (a - 4) none s)
    else if isRc a then (v, false, setRg a 0 s)
    else match k with
      | .aux => match rowIx o 0x104 8 16 with
        | some j => let r := slotRead j s; (r.1, false, r.2)
        | none => (v, false, s)
      | .bcn => if o = 0x7C then (let r := tdataRead s; (r.1, false, r.2)) else (v, false, s)
      | .lin => if o = 0x4C then (let r := idataRead s; (r.1, false, r.2)) else (v, false, s)
      | .flt => if o = 0x104 then (let r := cdataRead i s; (r.1, false, r.2)) else (v, false, s)
      | .shf => match rowIx o 0x414 0x20 32 with
        | some c => (v, false, modChan (32 * i + c) (fun x => { x with upCnt := 0, dnCnt := 0, clipCnt := 0 }) s)
        | none => (v, false, s)
      | _ => (v, false, s)

/-- Registers answer while the hub has booted and no reset or boundary scan holds it. -/
def regsOn (s : State) : Bool := running s

/-- A read as a command of its own. -/
def readCmd (p : Path) (a : Nat) (s : State) : State :=
  if regsOn s then (let r := readReg p a {} s; { r.2.2 with rd := [r.1] }) else s

/-- PG_ERR of the page at an address is read and clears (R78). -/
def execPgErrRead (p : Path) (a : Nat) (s : State) : Host.Outcome State Fault Refusal :=
  .next (match pageAt a with
    | some (k, i) => readCmd p (pgErr k i) s
    | none => s)

/-- CH_MON, whose three counters a read clears, and its channel. -/
def chMonAt (a : Nat) : Option Nat := match pageAt a with
  | some (.shf, ss) => (rowIx (a % 0x1000) 0x414 0x20 32).map (fun c => 32 * ss + c)
  | _ => none

/-- What hardware counts or sets in the cycle of the clearing read (R3), in the layout of the register: two 16-bit counts for
MEM_BKb_ECC, the fields it sets for a register that holds a first finding or a cause, else one 32-bit count. -/
def rcRefill (a inc : Nat) (s : State) : State := match pageAt a with
  | some (.mem, _) =>
    if (rowIx (a % 0x1000) 0xA0 4 12).isSome then setRg a (word (min 65535 (inc / 65536) <<< 16 ||| inc % 65536)) s
    else if 0x40 ≤ a % 0x1000 then setRg a (word inc) s
    else bump a inc s
  | some (.clk, _) => if a % 0x1000 = 0x44 then setRg a (word inc) s else bump a inc s
  | _ => bump a inc s

/-- A read-clear register is read; what is counted or set in that cycle stays (R3). -/
def execCounterReadClear (p : Path) (a inc : Nat) (s : State) : Host.Outcome State Fault Refusal :=
  .next (if regsOn s && (pageAt a).isSome && decide (0x20 ≤ a % 0x1000) then
    if isRc a then rcRefill a inc (readCmd p a s)
    else match chMonAt a with
      | some g => modChan g (fun x => { x with upCnt := inc / 2 ^ 8 % 256, dnCnt := inc / 2 ^ 16 % 256, clipCnt := inc / 2 ^ 24 % 256 }) (readCmd p a s)
      | none => s
  else s)

/-- The _LO half of a 64-bit register is read (R79). -/
def execLoHalfRead (p : Path) (a : Nat) (s : State) : Host.Outcome State Fault Refusal :=
  .next (if isLo a then readCmd p a s else s)

end Sys2Proof.Machine
end

