-- ==== Sys2Proof/Machine/RegWrite.lean ====
section
/-! DEFINITION. What a write of any register does by a direct path (R76 to R85): the common header, the block's own
action registers, RW and W1C fields, and staged fields under the session's rules. -/

namespace Sys2Proof.Machine

open Sys2Proof

/-! ### Idle and soft reset (R84, R85) -/

/-- Every function of the block is idle, as its chapter defines it. -/
def pageIdle (s : State) (k : PageK) (i : Nat) : Bool := match k with
  | .twn => !isTwin s
  | .bcn => bcnIdle s
  | .aux => (List.range 16).all (fun j => !(slot s j).go)
  | .mem => (List.range 12).all (fun b => decide (bankOwner s b = ownNone)) && s.mem.test.isNone
  | .que => (List.range 32).all (fun j => !bit (rg s (strA j 0)) 31) &&
      (List.range 16).all (fun q => qEmpty (queue s q))
  | .cmp => s.arc.job.isNone && s.dcmp.job.isNone
  | .acq => (List.range 8).all (fun p => (decide ((plan s p).st = .idle) || decide ((plan s p).st = .held)) && (plan s p).offl.isNone)
  | .gln => (List.range 16).all (fun u => decide (guPeriod s u = 0))
  | .lin => (List.range 512).all (fun g => !bit (rg s (chCfgA g)) 0 || decide (chCurve s g = 0))
  | .lnk => decide ((lane s i).st = .down) && decide (laneMode s i = 2)
  | .rte => (List.range 4).all (fun p => !portEn s p)
  | .shf => (List.range 32).all (fun c => decide ((chan s (32 * i + c)).st = .off)) &&
      (List.range 4).all (fun j => decide ((exc s (4 * i + j)).mode = .off))
  | .flt => (List.range 32).all (fun c => decide ((chan s (32 * i + c)).st = .off))
  | _ => true

/-- The block is idle as far as a soft reset asks: one of the MEM page ends a running self-test (R381), so the test does not stand in its way
(DEDUCED, log entry 206). -/
def srstIdle (s : State) (k : PageK) (i : Nat) : Bool := match k with
  | .mem => (List.range 12).all (fun b => decide (bankOwner s b = ownNone))
  | k => pageIdle s k i

/-- A table without the keys of a page. -/
def pageErase {α : Type} (base : Nat) (t : Tbl α) : Tbl α := t.filter (fun e => e.1 < base || base + 0x1000 ≤ e.1)

/-- Network time read as a frame index at the active frame rate (R16). -/
def frameNow (s : State) : Nat := (netNow s * (frameHz s : Int) / 2 ^ 64).toNat

/-- What a block does besides as its registers return to reset (R85). -/
def resetBlock (k : PageK) (i : Nat) (old : State) (s : State) : State := match k with
  | .tmb =>
    let s := { s with tmb := { ser := old.tmb.ser, tunlAt := tmbCut old :: old.tmb.tunlAt } }
    stepScale (netNow s - netNow old) { s with frame := frameNow s }
  | .twn => { s with twn := {} }
  | .bcn => { s with bcn := {} }
  | .aux => { s with slots := [] }
  | .mem => memSync (modMem (fun m => { m with holdLo := 0, readHi := 0 }) (memTestStop s))
  | .acq => { s with plans := [], tunits := [] }
  | .gln => { s with gunits := [] }
  | .lnk => lnCfgApply i (rg old (lnkReg i 0x40)) (rg s (lnkReg i 0x40)) (modLane i (fun x => { x with prbsBits := 0 }) s)
  | .rte => rteSync s
  | .shf => refEnables i 0 (forN 32 (fun c a => modChan (32 * i + c) (fun x => { x with upCnt := 0, dnCnt := 0, clipCnt := 0 }) a) s)
  | _ => s

/-- A block soft reset: RW fields, active and staged copies, counters, PG_IRQ and PG_ERR return to reset; MODE stays. The
manual does not say how long a soft reset lasts: it is complete within the write, so SRST and IN_RESET never read 1
(DESIGN CHOICE, log entry 155). -/
def softReset (k : PageK) (i : Nat) (s : State) : State :=
  let b := pageBase k i
  let mode := rg s (pgCtrl k i) &&& 0x100#32
  let t := { s with regs := pageErase b s.regs, staged := pageErase b s.staged, dspPend := pageErase b s.dspPend,
                    dspQ := s.dspQ.map (fun e => (e.1, pageErase b e.2)),
                    tst := { s.tst with pert := pageErase b s.tst.pert, due := pageErase b s.tst.due } }
  resetBlock k i s (setRg (pgCtrl k i) (mode ||| 1#32) t)

/-! ### PG_CTRL (R84) -/

/-- A refused write of PG_CTRL. The manual says that EN and SRST are writable only in EXPERT mode, not what such a write records
on a page in BASIC mode: NOT_PERMITTED; and it does not say whether one refused field refuses the others of the same write:
each field is taken or refused by itself (DESIGN CHOICE, log entry 156). -/
def ctrlRefuse (k : PageK) (i : Nat) (s : State) : State := pgError k i stNotPermitted s

/-- The MODE field. -/
def writeMode (k : PageK) (i : Nat) (m : Bool) (s : State) : State :=
  if modeFixed k ∨ expert s k i = m then s
  else if s.cmt.st ≠ .closed then ctrlRefuse k i s
  else setRg (pgCtrl k i) (setFld (rg s (pgCtrl k i)) 8 1 (if m then 1 else 0)) s

/-- The EN field; `ex` is the mode the write found. -/
def writeEn (k : PageK) (i : Nat) (ex en : Bool) (s : State) : State :=
  if enFixed k ∨ pageEn s k i = en then s
  else if ex = false ∨ (en = false ∧ pageIdle s k i = false) then ctrlRefuse k i s
  else setRg (pgCtrl k i) (setFld (rg s (pgCtrl k i)) 0 1 (if en then 1 else 0)) s

/-- The SRST bit; `ex` is the mode the write found. -/
def writeSrst (k : PageK) (i : Nat) (ex : Bool) (s : State) : State :=
  if s.cmt.st ≠ .closed then ctrlRefuse k i s
  else if enFixed k ∧ k ≠ .tmb then s
  else if ex = false ∨ srstIdle s k i = false then ctrlRefuse k i s
  else softReset k i s

/-- A write of PG_CTRL whole. -/
def writeCtrl (k : PageK) (i : Nat) (w : Word) (s : State) : State :=
  let ex := expert s k i
  let s := writeEn k i ex (bit w 0) (writeMode k i (bit w 8) s)
  if bit w 1 then writeSrst k i ex s else s

/-! ### The interrupt routes (R98, R99) -/

/-- A change of enables or routes may make a routed page pending. -/
def routeSync (f : State → State) (s : State) : State :=
  let t := f s
  if evtSum t 0 ||| evtSum s 0 = evtSum s 0 ∧ evtSum t 1 ||| evtSum s 1 = evtSum s 1 then t else evtOwe t

/-- A write of an offset below 0x040: counters and read-only registers ignore it. -/
def writeHead (k : PageK) (i o : Nat) (w : Word) (s : State) : State :=
  if o = 0x08 then writeCtrl k i w s
  else if o = 0x10 then irqClear k i w 0 s
  else if o = 0x14 then evtNote k i (pagePending s k i) (setRg (pgIrqEn k i) w s)
  else if o = 0x1C then perturbReg k i w s
  else s

/-! ### The fields of a storing register (R80, R81) -/

/-- RW fields at once, W1C fields cleared, ST fields under the session's rules. -/
def writePlain (p : Path) (k : PageK) (i a : Nat) (w : Word) (s : State) : State :=
  let s := if rwMask a = 0 then s else setRg a (merge (rg s a) w (rwMask a)) s
  let s := if w1cMask a = 0 then s else setRg a (rg s a &&& ~~~(w &&& w1cMask a)) s
  if stMask a = 0 then s
  else
    let r := stageWrite (ownerDirect p) (expert s k i) a w s
    if r.1 = stOk then r.2 else pgError k i r.1 r.2

/-! ### The blocks' own action registers -/

/-- A write of a register that a running unit holds: discarded with BUSY. -/
def writeHeld (held : Bool) (k : PageK) (f : State → State) (s : State) : State := if held then pgError k 0 stBusy s else f s

/-- A write of AUX_SLOTs_CFG: discarded with BUSY while a request is pending; GO in the cycle of a repeat issue asks for the same request
(R161, R162). -/
def slotCfgWrite (j : Nat) (w : Word) (s : State) : State :=
  if bit w 31 && decide ((slot s j).repAt = some s.c) then s
  else if (slot s j).go then pgError .aux 0 stBusy s
  else
    let s := modSlot j (fun x => { x with ticks := 0 }) (setRg (slotCfgA j) (w &&& 0x01FFFFDF#32) s)
    if bit w 31 then slotGo j s else s

/-- A write of SHF_LT_CMD (R122). -/
def ltCmd (ss : Nat) (w : Word) (s : State) : State :=
  if (ltOf s ss).isSome then pgError .shf ss stBusy s
  else if bit w 8 = false then s
  else match fld w 6 2 with
    | 0 => goOpens ss (bit w 5) (fld w 0 5) s
    | 1 => goShorts ss (bit w 5) (fld w 0 5) s
    | _ => pgError .shf ss stBadParam s

/-- A write of AUXn_CFG: out of range it is discarded with BAD_PARAM (R163). -/
def auxCfgWrite (a : Nat) (w : Word) (s : State) : State :=
  if fld w 8 8 = 0 ∨ fld w 0 8 = 0 ∨ 64 < fld w 0 8 then pgError .aux 0 stBadParam s else setRg a (w &&& 0xFFFF#32) s

/-- A write of a block register; answers whether a window access collided and was dropped. Every write from 0x040 on the TST page is
discarded and records NOT_PERMITTED, a read-only word included (R83, R422; DEDUCED, log entry 214). -/
def writeBlock (p : Path) (k : PageK) (i a : Nat) (w : Word) (h : MemHit) (s : State) : Bool × State :=
  let o := a % 0x1000
  let plain := writePlain p k i a w
  match k with
  | .hub => (false, routeSync plain s)
  | .cmt => (false, if o = 0x40 then cmtCtrl p w s else plain s)
  | .tmb =>
    (false,
      if o = 0x60 then (if bit w 0 then takeSnap s else s)
      else if o = 0xA4 then todWrite w s
      else if o = 0x300 then evtArmW w s
      else if o = 0x304 then evtDrop (w.toNat % 65536) s
      else if 0x200 ≤ o ∧ o < 0x300 then writeHeld (evtArmed s ((o - 0x200) / 0x10)) .tmb plain s
      else plain s)
  | .twn => (false, if o = 0x4C then twnCtrl w s else plain s)
  | .bcn =>
    (false,
      if o = 0x60 then diagCmd w s
      else if o = 0x7C then tdataWrite w s
      else match rowIx o 0x218 0x20 16 with
        | some m => schCtl m w s
        | none => if 0x200 ≤ o ∧ o < 0x400 then writeHeld (bstr s ((o - 0x200) / 0x20)).armed .bcn plain s else plain s)
  | .aux =>
    (false, match rowIx o 0x40 0x10 4, rowIx o 0x100 8 16 with
      | some _, _ => auxCfgWrite a w s
      | _, some j => slotCfgWrite j w s
      | _, _ => plain s)
  | .mem => match rowIx o 0x40 8 12 with
    | some b => (false, (bankAssign b w.toNat s).2)
    | none =>
      if o = 0xD8 then hdataWrite w h s
      else
        (false,
          if o = 0xD0 then haddrWrite w s
          else if o = 0xD4 then modMem (fun m => { m with holdLo := w }) s
          else if o = 0xF0 then memTestWrite w s
          else if o = 0x100 then repairGo w s
          else plain s)
  | .que => (false, if o = 0x44 then flushWrite w s else if o = 0x5C then (if bit w 0 then rwdGo s else s) else plain s)
  | .cmp =>
    (false,
      if o = 0x70 then arcCtrl w s
      else if o = 0x90 then dcmpCtrl w s
      else if (rowIx o 0x60 4 4).isSome then writeHeld s.arc.job.isSome .cmp plain s
      else if (rowIx o 0x80 4 4).isSome || (rowIx o 0xA0 4 2).isSome then writeHeld s.dcmp.job.isSome .cmp plain s
      else plain s)
  | .acq =>
    (false,
      if o = 0x15C then (if bit w 0 then forceGo s else s)
      else match rowIx o 0x218 0x40 8, rowIx o 0x21C 0x40 8 with
        | some j, _ => writeHeld (plan s j).offl.isSome .acq plain s
        | _, some j => cpCtrl j w s
        | _, _ => plain s)
  | .lin =>
    (false,
      if o = 0x4C then idataWrite w s
      else if o = 0x50 then (if bit w 0 then copyGo s else s)
      else match rowIx o 0x60 4 4, rowIx o 0x70 4 4 with
        | some t, _ => if tblUsed s t then pgError .lin 0 stNotPermitted s else plain s  -- LIN_TDESCt of a table in use (R233)
        | _, some t => tsealWrite t w s
        | _, _ => plain s)
  | .lnk => (false, if o = 0x5C then lnCtrl i w s else if o = 0x60 then prbsWrite i w s else plain s)
  | .shf => (false, if o = 0x48 then ltCmd i w s else plain s)
  | .flt => (false, if o = 0x104 then cdataWrite i w s else if o = 0x10C then csealWrite i w s else plain s)
  -- R422 discards it under R83, whose NOT_PERMITTED it records, read-only words included (DEDUCED, log entry 214)
  | .tst => (false, pgError .tst 0 stNotPermitted s)
  | .fus => (false, s)
  | _ => (false, plain s)

/-- One register write by a path: whether a window access collided and was dropped, and the state. Writes of unmapped
addresses, of read-only words and of the active copies are ignored. -/
def writeReg (p : Path) (a : Nat) (w : Word) (h : MemHit) (s : State) : Bool × State := match pageAt a with
  | none => (false, s)
  | some (k, i) =>
    let o := a % 0x1000
    if a % 4 ≠ 0 ∨ 0x800 ≤ o then (false, s)
    else if o < 0x40 then (false, writeHead k i o w s)
    else if directOk s k i = false then (false, pgError k i stNotPermitted s)
    else writeBlock p k i a w h s

/-! ### The rows -/

/-- The path serves register accesses now (R42, R387, R430). -/
def pathOn (s : State) : Path → Bool
  | .host => hostPath s
  | .mgmt _ => mgmtPath s

def execRegisterWrite (p : Path) (a : Nat) (w : Word) (s : State) : Host.Outcome State Fault Refusal :=
  .next (if pathOn s p then (writeReg p a w {} s).2 else s)

/-- A page action on PG_CTRL or PG_IRQ of the page at an address. -/
def pageCmd (p : Path) (a : Nat) (f : PageK → Nat → State → State) (s : State) : State := match pageAt a with
  | some (k, i) => if pathOn s p then f k i s else s
  | none => s

/-- A TSTACC write of the TST page (R422, R423): any but one of TST_LOCK breaks the unlock sequence. The page's MODE and EN are fixed, so of
PG_CTRL only a refused SRST shows (R75, R84, R85). -/
def tstaccWrite (off : Nat) (w : Word) (s : State) : State :=
  if off = 0x40 then lockWrite w s
  else if off = 0x48 then tmoWrite w s
  else
    let s := modTst (fun x => { x with first := false }) s
    if off = 0x10 then irqClear .tst 0 w 0 s
    else if off = 0x14 then evtNote .tst 0 (pagePending s .tst 0) (setRg (pgIrqEn .tst 0) w s)
    else if off = 0x1C then perturbReg .tst 0 w s
    else if off = 0x08 ∧ bit w 1 ∧ s.cmt.st ≠ .closed then ctrlRefuse .tst 0 s
    else s

/-- A TSTACC read: read-clear counters clear. -/
def tstaccRead (off : Nat) (s : State) : State :=
  let a := 0x19000 + off
  let s' : State := { s with rd := [if off % 4 = 0 then readVal s a else 0] }
  if off % 4 = 0 ∧ isRc a then setRg a 0 s' else s'

/-- A TSTACC access of the TST page: a write, or a read (R422). -/
def execTstLockWrite (off : Nat) (w : Option Word) (s : State) : Host.Outcome State Fault Refusal :=
  .next (if running s ∧ s.jtag.instr = .tstacc ∧ off < 0x1000 then
    match w with
    | some w => tstaccWrite off w s
    | none => tstaccRead off s
  else s)

def execPgIrqClear (p : Path) (a : Nat) (w set : Word) (s : State) : Host.Outcome State Fault Refusal :=
  .next (pageCmd p a (fun k i => irqClear k i w set) s)

def execPgModeWrite (p : Path) (a : Nat) (mode : Bool) (s : State) : Host.Outcome State Fault Refusal :=
  .next (pageCmd p a (fun k i => writeMode k i mode) s)

def execPgEnableWrite (p : Path) (a : Nat) (en : Bool) (s : State) : Host.Outcome State Fault Refusal :=
  .next (pageCmd p a (fun k i s => writeEn k i (expert s k i) en s) s)

def execBlockSoftReset (p : Path) (a : Nat) (s : State) : Host.Outcome State Fault Refusal :=
  .next (pageCmd p a (fun k i s => writeSrst k i (expert s k i) s) s)

end Sys2Proof.Machine
end

