-- ==== Sys2Proof/Machine/HostPort.lean ====
section
/-! DEFINITION. Host-port transactions (R383 to R388): one row is one whole transaction. -/

namespace Sys2Proof.Machine

open Sys2Proof

/-- The host port can accept transactions (R45, R65, R385): from the end of boot, in factory mode too, which leaves it out of the
control paths (DEDUCED, log entry 213). -/
def hostUp (s : State) : Bool := running s && !s.jtag.held

def modHst (f : Hst → Hst) (s : State) : State := { s with hst := f s.hst }

/-- A transaction that was performed, with the bytes it returned; and one that was not, with NPIDX (R386, R401). -/
def hostDone (out : List Byte) (s : State) : State := modHst (fun h => { h with np := false, npIdx := 0, out := out }) s
def hostNp (i : Nat) (out : List Byte) (s : State) : State :=
  raise .hst 0 1 (bump 0x6020 1 (modHst (fun h => { h with np := true, npIdx := i % 64, out := out }) s))

/-- A transaction other than RDSR, SETGEN and RSTGEN: not performed where the host port is no control path (R387). -/
def hostTx (f : State → State) (s : State) : State :=
  if hostUp s = false then s else if hostPath s then f s else hostNp 0 [] s

/-- Words of a burst and its first address, none where it is not performed at all (R384). -/
def burstOf (aw : Word) : Option (Nat × Nat) :=
  let n := fld aw 24 6 + 1
  let a := fld aw 0 18
  if a % 4 ≠ 0 ∨ 0x1000 < a % 0x1000 + 4 * n then none else some (n, a)

/-- How the bank access of word i fares. -/
def hitAt (hits : List (Nat × MemHit)) (i : Nat) : MemHit := ((hits.find? (fun h => decide (h.1 = i))).map (·.2)).getD {}

/-- Read n registers from an address on: the words read before a collision, and the state. -/
def readBurst (p : Path) (a : Nat) (hits : List (Nat × MemHit)) : Nat → Nat → State → List Word × State
  | 0, _, s => ([], s)
  | n + 1, i, s =>
    let r := readReg p (a + 4 * i) (hitAt hits i) s
    if r.2.1 then ([], r.2.2)
    else
      let q := readBurst p a hits n (i + 1) r.2.2
      (r.1 :: q.1, q.2)

/-- Write words from an address on: how many were performed, and the state. -/
def writeBurst (p : Path) (a : Nat) (hits : List (Nat × MemHit)) : List Word → Nat → State → Nat × State
  | [], i, s => (i, s)
  | w :: ws, i, s =>
    let r := writeReg p (a + 4 * i) w (hitAt hits i) s
    if r.1 then (i, r.2) else writeBurst p a hits ws (i + 1) r.2

/-- Free words in place of data that is undefined. -/
def freeWords (n : Nat) (s : State) : List Word × State :=
  ((List.range n).map (fun i => Config.freeWord (s.freeIdx + i)), { s with freeIdx := s.freeIdx + n })

/-- The bytes of words, least significant first (R1). -/
def wordBytes (ws : List Word) : List Byte := ws.flatMap (fun w => leBytes 4 w.toNat)

/-- An RD transaction: from NPIDX on the data is undefined (R386). -/
def hostRead (aw : Word) (hits : List (Nat × MemHit)) (s : State) : State := match burstOf aw with
  | none => hostNp 0 [] s
  | some (n, a) =>
    let r := readBurst .host a hits n 0 s
    let k := r.1.length
    let f := freeWords (n - k) r.2
    let ws := r.1 ++ f.1
    let s : State := { f.2 with rd := ws }
    if k = n then hostDone (wordBytes ws) s else hostNp k (wordBytes ws) s

def execHostRd (aw : Word) (hits : List (Nat × MemHit)) (s : State) : Host.Outcome State Fault Refusal :=
  .next (hostTx (hostRead aw hits) s)

/-- A WR transaction: the complete words are performed up to a collision or the end. -/
def hostWrite (aw : Word) (ws : List Word) (whole : Bool) (hits : List (Nat × MemHit)) (s : State) : State := match burstOf aw with
  | none => hostNp 0 [] s
  | some (n, a) =>
    let r := writeBurst .host a hits (ws.take n) 0 s
    if whole && decide (r.1 = n) then hostDone [] r.2 else hostNp r.1 [] r.2

def execHostWr (aw : Word) (ws : List Word) (hits : List (Nat × MemHit)) (s : State) : Host.Outcome State Fault Refusal :=
  .next (hostTx (hostWrite aw ws true hits) s)

/-- A WR burst cut off: the complete words before the end are performed, but nothing of one that was clocked whole and whose access
HS_BUSY_N still held (R385, R386). -/
def hostCut (aw : Word) (ws : List Word) (hits : List (Nat × MemHit)) (s : State) : State :=
  if fld aw 24 6 + 1 ≤ ws.length then hostNp 0 [] s else hostWrite aw ws false hits s

/-- HS_CS_N rises early: nothing is performed but the complete words of a WR burst (R386). -/
def execHostCsAbort (wr : Option (Word × List Word)) (hits : List (Nat × MemHit)) (s : State) : Host.Outcome State Fault Refusal :=
  .next (hostTx (match wr with
    | some (aw, ws) => hostCut aw ws hits
    | none => hostNp 0 []) s)

/-- RDSR returns HST_STATUS in every boot mode (R387). -/
def execHostRdsr (s : State) : Host.Outcome State Fault Refusal :=
  .next (if hostUp s then
    let v := word (hstStatus s)
    hostDone (wordBytes [v]) { s with rd := [v] }
  else s)

/-- The generation changes at the HS_CS_N rise (R383). -/
def genSet (g : Nat) (s : State) : State :=
  if s.hst.gen = g then s else bump 0x602C 1 (modHst (fun h => { h with gen := g }) s)

/-- SETGEN: a byte with GEN 3 or an upper bit is ignored (R384). -/
def execHostSetgen (b : Byte) (s : State) : Host.Outcome State Fault Refusal :=
  .next (if hostUp s then hostDone [] (if b.toNat < 3 then genSet b.toNat s else s) else s)

/-- RSTGEN works in every generation (R383). -/
def execHostRstgen (s : State) : Host.Outcome State Fault Refusal :=
  .next (if hostUp s then hostDone [] (genSet 0 s) else s)

/-- The instruction codes of R384. -/
def instrCodes : List Nat := [0x0B, 0x02, 0x05, 0x12, 0x13, 0x71, 0xFF]

/-- The hub performs the instruction: it is listed and, in octal DDR, followed by its inverse (R383). -/
def instrKnown (s : State) (op inv : Byte) : Bool :=
  instrCodes.contains op.toNat && (decide (s.hst.gen ≠ 2) || decide (inv = ~~~op))

/-- An instruction that R384 does not list, or whose inverse fails, is not performed. All ones are RSTGEN, without an inverse; any other
that is performed has its own row. -/
def execHostUnknownInstr (x : InstrPair) (s : State) : Host.Outcome State Fault Refusal :=
  .next (if hostUp s then
    if x.op = 0xFF#8 then hostDone [] (genSet 0 s) else if instrKnown s x.op x.inv then s else hostNp 0 [] s
  else s)

/-! ### Mailboxes (R388) -/

/-- MBPUSH: exactly 8 + PLEN bytes, entered whole or not at all. -/
def mbPush (b : List Byte) (s : State) : State :=
  if b.length < 8 ∨ b.length ≠ 8 + leAt b 4 2 ∨ mboxSize < mboxUsed s.hst.inbox + b.length then hostNp 0 [] s
  else hostDone [] (bump 0x6024 1 (modHst (fun h => { h with inbox := h.inbox ++ [b] }) s))

def execHostMbpush (bytes : List Byte) (s : State) : Host.Outcome State Fault Refusal := .next (hostTx (mbPush bytes) s)

/-- MBPOP: the oldest completion goes once all its bytes are clocked; an empty mailbox gives zeros. -/
def mbPop (n : Nat) (s : State) : State := match s.hst.outbox with
  | [] => hostDone (List.replicate n 0) s
  | c :: r =>
    let out := c.take n ++ List.replicate (n - c.length) 0
    if n < c.length then hostNp 0 out s
    else hostDone out (bump 0x6028 1 (modHst (fun h => { h with outbox := r }) s))

def execHostMbpop (n : Nat) (s : State) : Host.Outcome State Fault Refusal := .next (hostTx (mbPop n) s)

end Sys2Proof.Machine
end

