-- ==== Sys2Proof/Machine/Image.lean ====
section
/-! DEFINITION. Configuration images: building, storing, checking and staging them (R398, R399), and the phases of RESYNC
that use them (R364, R365). -/

namespace Sys2Proof.Machine

open Sys2Proof

/-! ### Building an image (R364, R398) -/

/-- RW registers that an image carries. -/
def imgRw (k : PageK) (o : Nat) : Bool := match k with
  | .aux => (rowIx o 0x40 0x10 4).isSome
  | .tmb => [0x48, 0x4C, 0x90, 0xB0, 0xC0].contains o
  | .shf => decide (o = 0x44)
  | .mem => (rowIx o 0x40 8 12).isSome || decide (o = 0xE8)
  | .que => (rowIx o 0x218 0x20 16).isSome
  | .acq => decide (o = 0x144)
  | .lnk => decide (o = 0x100) || decide (o = 0x48) || decide (o = 0x4C)
  | .hub => decide (0x108 ≤ o) && decide (o < 0x11C)
  | _ => false

/-- Settings of one hub's own wiring. -/
def imgWiring (k : PageK) (o : Nat) : Bool := match k with
  | .lnk | .rte | .hub => true
  | .tmb => decide (o = 0x40) || (decide (0x100 ≤ o) && decide (o < 0x200))
  | .clk => decide (o = 0x4C)
  | _ => false

/-- Offset o of a page belongs to an image, with WIRING set or clear. -/
def imgHas (wiring : Bool) (k : PageK) (i o : Nat) : Bool :=
  (decide (stMask (pageBase k i + o) ≠ 0) || imgRw k o) && (wiring || !imgWiring k o)

/-- The register entries in ascending address order. -/
def imgRegs (s : State) (wiring : Bool) : List (Nat × Word) :=
  (List.range 64).flatMap (fun pg => match pageAt (0x1000 * pg) with
    | some (k, i) => ((List.range 496).filter (fun j => imgHas wiring k i (0x40 + 4 * j))).map (fun j =>
        let a := pageBase k i + 0x40 + 4 * j
        (a, rg s a &&& (if stMask a = 0 then rwMask a else stMask a)))
    | none => [])

/-- One section. -/
def imgSection (ty : Nat) (body : List Byte) : List Byte := leBytes 2 ty ++ leBytes 2 0 ++ leBytes 4 body.length ++ body

/-- Body of a section 2: bank index ix = 8 SS + 2 PROF + BANK. -/
def imgBankBody (s : State) (ix : Nat) : List Byte :=
  leBytes 1 (ix / 8) ++ leBytes 1 (ix / 2 % 4) ++ leBytes 1 (ix % 2) ++ leBytes 1 0 ++ leBytes 4 (bankDesc (cbank s ix)) ++
    leBytes 4 (cbank s ix).crc ++ (List.range 256).flatMap (fun n => leBytes 4 (tget (0 : Word) s.coef (256 * ix + n)).toNat)

/-- Body of a section 4. -/
def imgTblBody (s : State) (t : Nat) : List Byte :=
  leBytes 1 t ++ leBytes 3 0 ++ leBytes 4 (tblN s t) ++ leBytes 4 (crc32 (tblBytes s t)) ++
    (List.range (2 * tblN s t)).flatMap (fun i => leBytes 4 (linGet s (4096 + 512 * t + i)).toNat)

/-- The sections of an image. -/
def imgSections (s : State) (wiring : Bool) : List Byte :=
  imgSection 1 ((imgRegs s wiring).flatMap (fun e => leBytes 4 e.1 ++ leBytes 4 e.2.toNat)) ++
    ((List.range 128).filter (fun ix => (cbank s ix).loaded)).flatMap (fun ix => imgSection 2 (imgBankBody s ix)) ++
    imgSection 3 ((List.range 2048).flatMap (fun i => leBytes 4 (linGet s (2048 * linPage s + i)).toNat)) ++
    ((List.range 4).filter (fun t => s.lin.loaded.testBit t)).flatMap (fun t => imgSection 4 (imgTblBody s t))

/-- MAGIC. -/
def imgMagic : List Byte := [0x4B, 0x49, 0x4D, 0x47]

/-- The image of the active configuration. -/
def imageBytes (s : State) (wiring : Bool) : List Byte :=
  let b := imgSections s wiring
  imgMagic ++ leBytes 1 1 ++ leBytes 1 (bbit wiring 0) ++ leBytes 2 0 ++ leBytes 8 s.cmt.epoch ++ leBytes 4 Config.pgRev.toNat ++
    leBytes 4 (32 + b.length) ++ leBytes 4 (crc32 b) ++ leBytes 4 0 ++ b

/-! ### Reading an image (R399) -/

/-- The sections of an image body: type and body of each, none where they do not fill it. -/
def imgSplit : Nat → List Byte → Option (List (Nat × List Byte))
  | 0, _ => none
  | f + 1, l =>
    if l = [] then some []
    else
      let n := leAt l 4 4
      if l.length < 8 + n ∨ leAt l 0 2 = 0 ∨ 4 < leAt l 0 2 then none
      else (imgSplit f (l.drop (8 + n))).map (fun r => (leAt l 0 2, (l.drop 8).take n) :: r)

/-- The header's checks: the status they leave, and the sections. -/
def imgParse (l : List Byte) : Nat × List (Nat × List Byte) :=
  let n := leAt l 20 4
  if l.take 4 ≠ imgMagic ∨ byteAt l 4 ≠ 1 ∨ n < 32 ∨ l.length < n ∨ 2 ^ 20 < n then (stBadParam, [])
  else if crc32 ((l.take n).drop 32) ≠ leAt l 24 4 then (stChecksum, [])
  else match imgSplit (n + 1) ((l.take n).drop 32) with
    | some x => (stOk, x)
    | none => (stBadParam, [])

/-- The register entries of a body, in ascending order. -/
def imgPairs (l : List Byte) : Tbl Word :=
  (List.range (l.length / 8)).foldl (fun t i => tinsert t (leAt l (8 * i) 4) (word (leAt l (8 * i + 4) 4))) []

/-- Register entries of a whole image. -/
def imgEntries (secs : List (Nat × List Byte)) : Tbl Word :=
  secs.foldl (fun t e => if e.1 = 1 then (imgPairs e.2).foldl (fun u p => tinsert u p.1 p.2) t else t) []

/-! ### Loading banks, pages and tables -/

/-- What a step of a load leaves: its status, the address it was refused at, the state. -/
abbrev ImgStep := Nat × Nat × State

/-- Coefficients written into a bank and sealed (R171, R177): the status. -/
def bankFill (ss ix : Nat) (ws : List Word) (desc crc std : Nat) (s : State) : Nat × State :=
  let s := (ws.zipIdx).foldl (fun a p => putCoef ix p.2 p.1 a) s
  let r := sealBank s ix crc (word desc) std
  if r.1 = stOk then (stOk, bump (fltReg ss 0x24) 1 (raise .flt ss 1 { s with cbanks := tset {} s.cbanks ix r.2 }))
  else (r.1, raise .flt ss 2 (pgError .flt ss r.1 s))

/-- FLT_CDESC of a descriptor as FLT_DESC shows it. -/
def descSeal (d : Nat) : Nat := (d / 2) % 2 + (d / 16 % 32) * 16

/-- Section 2. -/
def imgBank (l : List Byte) (s : State) : ImgStep :=
  let ss := byteAt l 0
  let p := byteAt l 1
  let ix := bankIx ss p (decide (byteAt l 2 = 1))
  let crc := leAt l 8 4
  let a := fltReg ss 0x104
  if l.length ≠ 1036 ∨ 16 ≤ ss ∨ 4 ≤ p ∨ 2 ≤ byteAt l 2 then (stBadParam, a, s)
  else if expert s .flt ss then (stNotPermitted, a, s)
  else match bankRefusal s ss p (decide (byteAt l 2 = 1)) with
    | some _ => if (cbank s ix).loaded ∧ (cbank s ix).crc = crc then (stOk, 0, s) else (stNotPermitted, a, s)
    | none =>
      let r := bankFill ss ix ((List.range 256).map (fun n => word (leAt l (12 + 4 * n) 4))) (descSeal (leAt l 4 4)) crc (leAt l 6 1) s
      (r.1, a, r.2)

/-- Words written from a memory index on. -/
def linFill (base : Nat) (ws : List Word) (s : State) : State := (ws.zipIdx).foldl (fun a p => linPut (base + p.2) p.1 a) s

/-- Section 4. -/
def imgTbl (l : List Byte) (s : State) : ImgStep :=
  let t := byteAt l 0
  let n := leAt l 4 4
  let crc := leAt l 8 4
  if l.length ≠ 12 + 8 * n ∨ 4 ≤ t ∨ n < 2 ∨ 256 < n then (stBadParam, 0xF04C, s)
  else if expert s .lin 0 then (stNotPermitted, 0xF04C, s)
  else if tblUsed s t then
    (if s.lin.loaded.testBit t ∧ crc32 (tblBytes s t) = crc then (stOk, 0, s) else (stNotPermitted, 0xF04C, s))
  else
    let s := linFill (4096 + 512 * t) ((List.range (2 * n)).map (fun i => word (leAt l (12 + 4 * i) 4))) (setRg (0xF060 + 4 * t) (word n) s)
    let st := tblSeal s t crc
    if st = stOk then (stOk, 0, raise .lin 0 0 { s with lin := { s.lin with loaded := s.lin.loaded ||| 2 ^ t } })
    else (st, 0xF04C, raise .lin 0 1 (pgError .lin 0 st s))

/-- Section 3 goes into the inactive page, unless the active one holds it already: the page to be staged. -/
def imgPage (l : List Byte) (s : State) : Option Nat × ImgStep :=
  let ws := (List.range 2048).map (fun i => word (leAt l (4 * i) 4))
  let act := linPage s
  if l.length ≠ 8192 then (none, (stBadParam, 0xF04C, s))
  else if expert s .lin 0 then (none, (stNotPermitted, 0xF04C, s))
  else if (ws.zipIdx).all (fun p => decide (linGet s (2048 * act + p.2) = p.1)) then (some act, (stOk, 0, s))
  else if s.lin.copying || pageHeld s then (none, (stBusy, 0xF04C, s))
  else (some (1 - act), (stOk, 0, linFill (2048 * (1 - act)) ws s))

/-- The sections other than registers, in order, up to the first refusal; with the page to be staged. -/
def imgBanks (secs : List (Nat × List Byte)) (s : State) : Option Nat × ImgStep :=
  secs.foldl (fun r e =>
    if r.2.1 ≠ stOk then r
    else match e.1 with
      | 2 => (r.1, imgBank e.2 r.2.2.2)
      | 3 => imgPage e.2 r.2.2.2
      | 4 => (r.1, imgTbl e.2 r.2.2.2)
      | _ => r) (none, (stOk, 0, s))

/-! ### Staging the registers -/

/-- An RW register of an image is written. -/
def imgPut (k : PageK) (a : Nat) (w : Word) (s : State) : Nat × State := match k, rowIx (a % 0x1000) 0x40 8 12 with
  | .mem, some b => bankAssign b w.toNat s
  | .aux, _ => if fld w 8 8 = 0 ∨ fld w 0 8 = 0 ∨ 64 < fld w 0 8 then (stBadParam, s) else (stOk, setRg a (merge (rg s a) w (rwMask a)) s)
  | .hub, _ => (stOk, routeSync (setRg a (merge (rg s a) w (rwMask a))) s)
  | _, _ => (stOk, setRg a (merge (rg s a) w (rwMask a)) s)

/-- One entry: staged for the session's owner, or written. -/
def imgEntry (o : Owner) (a : Nat) (w : Word) (s : State) : Nat × State := match pageAt a with
  | none => (stBadParam, s)
  | some (k, i) =>
    if expert s k i then (stNotPermitted, s)
    else if stMask a ≠ 0 then stageWrite o true a w s
    else if imgRw k (a % 0x1000) then imgPut k a w s
    else (stBadParam, s)

/-- The entries up to the first refusal: entries done, status, address, state. -/
def imgApply (o : Owner) (es : Tbl Word) (s : State) : Nat × ImgStep :=
  es.foldl (fun r e =>
    if r.2.1 ≠ stOk then r
    else
      let x := imgEntry o e.1 e.2 r.2.2.2
      if x.1 = stOk then (r.1 + 1, (stOk, 0, x.2)) else (r.1, (x.1, e.1, x.2))) (0, (stOk, 0, s))

/-- Entries with LIN_CTRL.PAGE naming the page that section 3 went into. -/
def imgPaged (pg : Option Nat) (es : Tbl Word) : Tbl Word := match pg with
  | some p => tinsert es 0xF040 (word p)
  | none => es

/-- A whole image is taken for an owner: status, RESULT of the completion, state. -/
def imageTake (o : Owner) (l : List Byte) (s : State) : Nat × List Byte × State :=
  let p := imgParse l
  if p.1 ≠ stOk then (p.1, [], s)
  else
    let b := imgBanks p.2 s
    let res (n a : Nat) : List Byte := leBytes 8 (leAt l 8 8) ++ leBytes 4 n ++ leBytes 4 a
    if b.2.1 ≠ stOk then (b.2.1, res 0 b.2.2.1, b.2.2.2)
    else
      let r := imgApply o (imgPaged b.1 (imgEntries p.2)) b.2.2.2
      (r.2.1, res r.1 r.2.2.1, modCmt (fun c => { c with imageEpoch := some (leAt l 8 8) }) r.2.2.2)

/-! ### Where an image lies while it loads (R365, R399): 12 for the firmware's own memory -/

def ramBank : Nat := 12

/-- The bank that BANK names: 0xFF in RESYNC is the TWN bank, or the firmware's memory where no bank belongs to TWN. -/
def imgBankNo (s : State) (b : Nat) : Nat :=
  if b = 0xFF ∧ s.hub.st = .resync then ((List.range 12).find? (fun i => decide (bankOwner s i = ownTwn))).getD ramBank else b

/-- The firmware may use it. -/
def imgBankOk (s : State) (b : Nat) : Bool :=
  decide (b = ramBank) || decide (bankOwner s b = ownCpu) || (decide (s.hub.st = .resync) && decide (bankOwner s b = ownTwn))

/-- Bytes from an offset of it, zero where it has been handed over meanwhile (R373), and its bytes from an offset replaced. -/
def imgRead (s : State) (b off n : Nat) : List Byte :=
  if b = ramBank then (List.range n).map (fun i => s.hst.ram.getD (off + i) 0)
  else if imgBankOk s b then memBytes s b off n else List.replicate n 0
def imgStore (b off : Nat) (l : List Byte) (s : State) : State :=
  if b = ramBank then
    let r := s.hst.ram
    { s with hst := { s.hst with ram := (r ++ List.replicate (off - r.length) 0).take off ++ l ++ r.drop (off + l.length) } }
  else memStore b off l s

/-! ### The phases of RESYNC (R365) -/

/-- The image in place after a load. -/
def resyncImage (s : State) : List (Nat × List Byte) := match s.hst.img with
  | some (n, b) => (imgParse (imgRead s b 0 n)).2
  | none => []

/-- CH_CFG of a channel. -/
def isChCfg (a : Nat) : Bool := match pageAt a with
  | some (.shf, _) => (rowIx (a % 0x1000) 0x400 0x20 32).isSome
  | _ => false

/-- EXCk_CFG of an output. -/
def isExcCfg (a : Nat) : Bool := match pageAt a with
  | some (.shf, _) => (rowIx (a % 0x1000) 0x100 0x10 4).isSome
  | _ => false

/-- REQ REGULATE becomes AUTO (R364). -/
def reqAuto (w : Word) : Word := if fld w 22 2 = 2 then setFld w 22 2 1 else w

/-- The staged copies as the first apply takes them: no channel enables; REQ REGULATE as AUTO. -/
def stageFirst (s : State) : State :=
  let s := forN 512 (fun g a => setStg (chCfgA g) (setFld (stg a (chCfgA g)) 0 1 0) a) s
  forN 64 (fun o a => setStg (excCfgA o) (reqAuto (stg a (excCfgA o))) a) s

/-- The enables of the image staged for the second apply. -/
def stageSecond (s : State) : State :=
  forL ((imgEntries (resyncImage s)).filter (fun e => isChCfg e.1)) (fun e a => setStg e.1 e.2 a) s

/-- Every buffer that the image's channels use is ready. -/
def imageRefs (s : State) : Bool :=
  ((imgEntries (resyncImage s)).filter (fun e => isChCfg e.1 && bit e.2 0)).all (fun e =>
    (ref s (6 * ((e.1 - 0x20000) / 0x1000) + refselBuf (fld e.2 12 3))).ready)

/-- The firmware goes on to a phase. -/
def resyncTo (ph : Nat) (s : State) : State := modTwn (fun x => { x with ph := ph, idle := 0 }) s

/-- The hub is STANDBY again. -/
def resyncDone (s : State) : State :=
  raise .twn 0 5 (bump 0x7038 1 (setHub .standby (modTwn (fun x => { x with ph := 0, idle := 0, rst := 0, imgOk := false }) s)))

/-- The awaited condition of the phase is met. -/
def resyncAdvance (s : State) : State := match s.twn.ph with
  | 1 =>
    if s.cmt.owner ≠ .firmware then resyncOpen s
    else if s.hst.img.isSome then resyncTo 2 s else s
  | 2 =>
    if s.twn.imgOk ∧ s.cmt.owner = .firmware ∧ s.cmt.st = .open_ then
      resyncTo 3 (ownArm (stageFirst (modCmt (fun c => { c with imageEpoch := none }) s)))
    else s
  | 3 => if s.cmt.st = .closed then resyncTo 4 s else s
  | 4 =>
    let s := if (s.hst.img.map (fun x => imgBankOk s x.2)).getD true then s else nonOwn s
    if imageRefs s then
      let r := sessionOpen .firmware s
      let ep := (s.hst.img.map (fun x => leAt (imgRead s x.2 0 16) 8 8))
      if r.1 = stOk then resyncTo 5 (ownArm (stageSecond (modCmt (fun c => { c with imageEpoch := ep }) r.2))) else s
    else s
  | 5 => if s.cmt.st = .closed then resyncTo 6 s else s
  | 6 => if s.tmb.st = .locked then resyncTo 7 s else s
  | 7 =>
    if (List.range 512).all (fun g => !(bit (rg s (chCfgA g)) 0 && decide ((chan s g).st = .settling))) then resyncDone s else s
  | _ => s

def execResyncPhaseAdvance (s : State) : Host.Outcome State Fault Refusal :=
  .next (if running s ∧ s.hub.st = .resync ∧ s.twn.bad.isNone then memSync (resyncAdvance s) else s)

end Sys2Proof.Machine
end

