-- ==== Sys2Proof/Machine/Onapen.lean ====
section
/-! DEFINITION. The command processor: acceptance, completions, refusals common to all commands, restart (R13, R14, R389 to
R393, R397). -/

namespace Sys2Proof.Machine

open Sys2Proof

/-! ### Acceptance (R389, R391) -/

/-- Opcodes of R395. -/
def opcodes : List Nat :=
  [0x0000, 0x0001, 0x0002, 0x0003, 0x0004, 0x0005] ++ [0x0100, 0x0101, 0x0102, 0x0103, 0x0104, 0x0105] ++
    [0x0200, 0x0201, 0x0202, 0x0203, 0x0204, 0x0205, 0x0206, 0x0207, 0x0208] ++ [0x0300, 0x0301, 0x0302, 0x0303] ++
    [0x0400, 0x0401, 0x0402, 0x0403, 0x0404] ++ [0x0500, 0x0501, 0x0502, 0x0503] ++ [0x0600, 0x0601, 0x0602, 0x0603] ++
    [0x0700, 0x0701, 0x0702] ++ [0x0800, 0x0801, 0x0802] ++ [0x0900, 0x0901, 0x0902]

/-- Generation of the command in flight with a tag of a path, none where the tag is free. -/
def tagInFlight (s : State) (pc tag : Nat) : Option Nat :=
  match s.flight.find? (fun f => decide (pathCode f.path = pc) && decide (f.tag = tag)) with
  | some f => some f.gen
  | none => (s.compl.find? (fun c => decide (pathCode c.path = pc) && decide (c.tag = tag) && !c.freed && !c.dup)).map (·.gen)

/-- The completion of a command whose tag is already in flight (R391); taking it is its acceptance. -/
def dupCompl (p : Path) (b : List Byte) (gen tok org : Nat) (s : State) : State :=
  let c : Compl := { path := p, tag := byteAt b 2, gen := gen, op := leAt b 0 2, status := stBusy, frame := s.frame, dup := true,
                     tok := tok, org := org }
  raise .cmd 0 1 (bump 0x5030 1 (bump 0x502C 1 (bump 0x5024 1 { bump 0x5020 1 s with compl := s.compl ++ [c] })))

/-- Malformed commands whose turn has come end with BAD_PARAM: no command accepted before them waits to start (R392). -/
def badDone (s : State) : State :=
  forL ((s.flight.takeWhile (fun f => decide (f.wait ≠ .start))).filter (fun f => decide (f.wait = .bad)))
    (fun f a => finish f stBadParam (endBytes f.op a) a) s

/-- A command is accepted: in flight with the next generation of its tag; a malformed buffer or a reserved opcode ends it
with BAD_PARAM once the earlier commands have started (R391, R392; DEDUCED, log entry 221). -/
def accept (p : Path) (b : List Byte) (tok org : Nat) (s : State) : State :=
  let pc := pathCode p
  let tag := byteAt b 2
  let plen := leAt b 4 2
  match tagInFlight s pc tag with
  | some g => dupCompl p b g tok org s
  | none =>
    let g := (tagGen s pc tag + 1) % 16
    let f : Flight := { path := p, tag := tag, gen := g, op := leAt b 0 2, buf := (b.drop 8).take plen, tok := tok, org := org }
    let bad := decide (2040 < b.length) || decide (plen % 4 ≠ 0) || decide (b.length < 8 + plen) || !opcodes.contains f.op
    let s := modHst (fun h => { h with gens := tset 15 h.gens (256 * pc + tag) g }) (bump 0x5020 1 s)
    if bad then badDone { s with flight := s.flight ++ [{ f with wait := .bad }] } else { s with flight := s.flight ++ [f] }

/-- The firmware has room for another command (R391). -/
def flightRoom (s : State) : Bool := decide (inflight s 0 + inflight s 1 < 256)

/-- The oldest command of the inbound mailbox is taken; free space that rises to 2048 bytes raises INFREE. -/
def acceptHost (s : State) : State := match s.hst.inbox with
  | [] => s
  | b :: r =>
    let t := modHst (fun h => { h with inbox := r }) s
    let low := decide (mboxSize < mboxUsed s.hst.inbox + 2048) && decide (mboxUsed r + 2048 ≤ mboxSize)
    accept .host b 0 0 (if low then raise .hst 0 2 t else t)

/-- The oldest MGMT command is taken; its class P space is freed (R329). -/
def acceptMgmt (s : State) : State := match s.hst.mbox with
  | [] => s
  | (n, tok, org, b) :: r =>
    let s := modHst (fun h => { h with mbox := r }) s
    let s := if n < 8 then modLk n (fun x => { x with freeP := x.freeP + (32 + b.length + 63) / 64 }) s else s
    accept (.mgmt (n % 8)) b tok org s

def execCommandAccept (p : Path) (s : State) : Host.Outcome State Fault Refusal :=
  .next (if running s && flightRoom s then
    match p with
    | .host => acceptHost s
    | .mgmt _ => acceptMgmt s
  else s)

/-! ### Delivery of completions (R14, R388, R390) -/

/-- The bytes of a completion. -/
def complBytes (c : Compl) : List Byte :=
  leBytes 2 c.op ++ leBytes 1 c.tag ++ leBytes 1 (c.gen % 16 + bbit c.dup 4) ++ leBytes 1 c.status ++ leBytes 1 0 ++
    leBytes 2 c.result.length ++ leBytes 8 c.frame ++ c.result

/-- A completion enters the outbound mailbox where it fits. -/
def deliverHost (s : State) : State := match s.compl.find? (fun c => decide (pathCode c.path = 0)) with
  | none => s
  | some c =>
    let b := complBytes c
    if mboxSize < mboxUsed s.hst.outbox + b.length then s
    else
      let empty := s.hst.outbox.isEmpty
      let s := modHst (fun h => { h with outbox := h.outbox ++ [b] }) { s with compl := s.compl.erase c }
      if empty then raise .hst 0 0 s else s

/-- Lane of a MGMT path, and of a completion. -/
def pathLane : Path → Nat
  | .host => 0
  | .mgmt n => n
def complLane (c : Compl) : Nat := pathLane c.path

/-- A lane of the pair takes it (R14). -/
def complOpen (s : State) (c : Compl) : Bool :=
  decide (pathCode c.path = 1) && (laneOpen s (complLane c) || laneOpen s (pairLane (complLane c)))

/-- It is sent as a MGMT packet. -/
def complSend (c : Compl) (s : State) : State :=
  mgmtReply (complLane c) 2 c.status 0 c.tok (complBytes c) { s with compl := s.compl.erase c }

def deliverMgmt (s : State) : State := match s.compl.find? (complOpen s) with
  | some c => complSend c s
  | none => s

/-- A completion is delivered, once the malformed commands whose turn has come have theirs. -/
def execCompletionDeliver (p : Path) (s : State) : Host.Outcome State Fault Refusal :=
  .next (if running s then
    match p with
    | .host => deliverHost (badDone s)
    | .mgmt _ => deliverMgmt (badDone s)
  else s)

/-- Every held completion whose pair has a lane again is sent. -/
def execCompletionHeldSend (s : State) : Host.Outcome State Fault Refusal :=
  .next (if running s then (s.compl.filter (complOpen s)).foldl (fun a c => complSend c a) s else s)

/-! ### Restart (R13, R14, R397) -/

/-- A completion of a command in flight becomes HW_FAULT, its tag free; `r` is the RESULT of CFG_APPLY_AT (R395). -/
def complFault (frame : Nat) (r : List Byte) (c : Compl) : Compl :=
  if c.freed || c.dup then c
  else { c with status := stHwFault, result := if c.op = 0x0102 then r else [], frame := frame, freed := true }

/-- Completions that were to report OK and now report a failure. -/
def complFalls (s : State) : Nat := (s.compl.filter (fun c => !c.freed && !c.dup && decide (c.status = stOk))).length

/-- A session that is not ARMED is abandoned, whoever owns it (R13, R92); an attempt to resync starts again. -/
def restartSession (s : State) : State :=
  let s := if s.cmt.st = .open_ ∨ s.cmt.st = .checking then sessionAbandon s else s
  if s.hub.st = .resync then resyncRestart s else s

def restart (s : State) : State :=
  let s := bump 0x502C (complFalls s) s
  let s := s.flight.foldl (fun a f => finish f stHwFault (endBytes f.op a) a) s
  let s := restartSession { s with compl := s.compl.map (complFault s.frame (applyBytes s)) }
  let s := modHst (fun h => { h with img := if s.hub.st = .resync then h.img else none }) s
  memSync (raise .cmd 0 0 (bump 0x5034 1 s))

def execProcessorRestart (s : State) : Host.Outcome State Fault Refusal := .next (if running s then restart s else s)

/-! ### Common refusals (R392, R393) -/

/-- The next command in order of acceptance, where it is the one a row names. -/
def nextCmd (s : State) (p : Path) (tag op : Nat) : Option Flight :=
  match s.flight.find? (fun f => decide (f.wait = .start) || decide (f.wait = .bad)) with
  | some f => if f.wait = .start ∧ pathCode f.path = pathCode p ∧ f.tag = tag ∧ f.op = op then some f else none
  | none => none

/-- A command's row: its meaning over its flight, once the length of its parameters is right. -/
def command (op : Nat) (len : Nat → Bool) (f : Flight → State → State) (p : Path) (tag : Nat) (s : State) :
    Host.Outcome State Fault Refusal :=
  .next (if running s then
    match nextCmd s p tag op with
    | some x => if len x.buf.length then f x s else finish x stBadParam (endBytes x.op s) s
    | none => s
  else s)

/-- A length. -/
def isLen (n m : Nat) : Bool := decide (m = n)

/-- End a command with the status and state of an operation. -/
def ends (f : Flight) (res : State → List Byte) (r : Nat × State) : State :=
  finish f r.1 (if r.1 = stOk then res r.2 else []) r.2

/-- A page is in EXPERT mode. -/
def anyExpert (s : State) (pages : List (PageK × Nat)) : Bool := pages.any (fun p => expert s p.1 p.2)

/-- What refuses a command that needs a session (R393): none where its path's session is OPEN. -/
def sessRefusal (s : State) (o : Owner) : Option Nat :=
  if s.cmt.st = .closed ∨ s.cmt.owner ≠ o then some stNotPermitted
  else if s.cmt.st ≠ .open_ then some stBusy
  else none

/-- A request of the session's owner. -/
def ownerTouch (o : Owner) (s : State) : State := if s.cmt.owner = o then sessionTouch s else s

/-- The refusals 1 to 3 of R393 of a command that needs a session. -/
def sessGate (f : Flight) (bad : Bool) (pages : List (PageK × Nat)) (s : State) : Option Nat :=
  if bad then some stBadParam else if anyExpert s pages then some stNotPermitted else sessRefusal s (ownerCmd f.path)

/-- Stage copies of the open session. -/
def stageAll (o : Owner) (l : List (Nat × Word)) (s : State) : State := forL l (fun e a => (stageWrite o true e.1 e.2 a).2) s

/-- A command that stages copies: refused, or done at once. -/
def stages (f : Flight) (bad : Bool) (pages : List (PageK × Nat)) (l : State → List (Nat × Word)) (s : State) : State :=
  let o := ownerCmd f.path
  match sessGate f bad pages s with
  | some st => finish f st [] (ownerTouch o s)
  | none => finish f stOk [] (stageAll o (l s) s)

/-- A staged copy with fields replaced: place, width, value. -/
def stgSet (s : State) (a : Nat) (fs : List (Nat × (Nat × Nat))) : Nat × Word :=
  (a, fs.foldl (fun w e => setFld w e.1 e.2.1 e.2.2) (stg s a))

/-- A parameter: n bytes from byte i. -/
def par (f : Flight) (i n : Nat) : Nat := leAt f.buf i n

end Sys2Proof.Machine
end

