-- ==== Sys2Proof/Machine/CmdHub.lean ====
section
/-! DEFINITION. Onapen commands of the hub and of the configuration (R395, R396, R398, R399). -/

namespace Sys2Proof.Machine

open Sys2Proof

/-! ### Hub -/

def b8 (b : Bool) : List Byte := leBytes 1 (bbit b 0)

/-- HUB_IDENTIFY. -/
def identify (f : Flight) (s : State) : State :=
  let x := s.hub.straps
  finish f stOk (leBytes 8 Config.ident.toNat ++ leBytes 4 Config.pgRev.toNat ++
    leBytes 1 (bbit x.twinEn 0 + bbit x.twinSide 1 + x.bootMode % 4 * 4) ++ b8 (!s.hub.fuseFail) ++ leBytes 2 0) s

def execHubIdentify (p : Path) (tag : Nat) (s : State) : Host.Outcome State Fault Refusal :=
  command 0x0000 (isLen 0) identify p tag s

/-- HUB_STATUS. -/
def statusCmd (f : Flight) (s : State) : State :=
  finish f stOk (leBytes 1 (hubCode s.hub.st) ++ leBytes 1 s.hub.safeCause ++ leBytes 1 (tbCode s.tmb.st) ++ b8 s.twn.token ++
    leBytes 8 s.cmt.epoch ++ leBytes 4 (irqSum s 0) ++ leBytes 4 (irqSum s 1)) s

def execHubStatusCmd (p : Path) (tag : Nat) (s : State) : Host.Outcome State Fault Refusal :=
  command 0x0001 (isLen 0) statusCmd p tag s

/-- A downstream lane carries relayed traffic (R68). -/
def relaying (s : State) : Bool := (List.range 4).any (fun p => portEn s p && laneUp s (portLane p))

/-- What refuses HUB_SLEEP, in the order of R68; an entry or a sleep already in progress is BUSY. -/
def sleepRefusal (s : State) : Option Nat :=
  if relaying s then some stNotPermitted
  else if s.twn.token then some stRole
  else if s.cmt.st ≠ .closed ∨ s.pwr.sleep ≠ .awake then some stBusy
  else none

/-- HUB_SLEEP: the entry begins at the next tick (R68). -/
def sleepCmd (f : Flight) (s : State) : State :=
  match sleepRefusal s with
  | some st => finish f st [] s
  | none => await f .sleep (modPwr (fun p => { p with sleep := .draining 0 (pathCode f.path) f.tag }) s)

def execHubSleep (p : Path) (tag : Nat) (s : State) : Host.Outcome State Fault Refusal :=
  command 0x0002 (isLen 0) sleepCmd p tag s

/-- A wake request: an entry in progress is aborted and HUB_SLEEP ends (R69, R71); `how` names a wait of the waker. -/
def wakeReq (restore : Bool) (s : State) : State := match s.pwr.sleep with
  | .draining k _ _ =>
    let s := wakeup .sleep stCancelled [] s
    if k = 0 then modPwr (fun p => { p with sleep := .awake }) s else wakeStart restore s
  | .asleep => wakeStart restore s
  | _ => s

/-- HUB_WAKE (R69, R71). -/
def wakeCmd (f : Flight) (s : State) : State :=
  let r := par f 0 1
  if 1 < r ∧ r ≠ 0xFF then finish f stBadParam [] s
  else if s.pwr.sleep = .awake then finish f stOk [] s
  else
    let s := wakeReq (if r = 0xFF then bit (rg s 0x1048) 10 else decide (r = 1)) s
    if s.pwr.sleep = .awake then finish f stOk [] s else await f .wake s

def execHubWake (p : Path) (tag : Nat) (s : State) : Host.Outcome State Fault Refusal :=
  command 0x0003 (isLen 4) wakeCmd p tag s

def execCmdNop (p : Path) (tag : Nat) (s : State) : Host.Outcome State Fault Refusal :=
  command 0x0004 (isLen 0) (fun f s => finish f stOk [] s) p tag s

/-! ### CMD_CANCEL (R396) -/

/-- A spot read whose conversion has not begun leaves its converter's queue. -/
def spotWithdraw (x : Flight) (s : State) : Option State :=
  let mine (r : AuxReq) : Bool := match r.kind with
    | .spot p t _ => decide (p = pathCode x.path) && decide (t = x.tag)
    | _ => false
  match (List.range 4).find? (fun n => (aux s n).spot.any mine) with
  | some n => some (modAux n (fun a => { a with spot := a.spot.filter (fun r => !mine r) }) s)
  | none => none

/-- A lead test of the sheaf whose first conversion has not begun is withdrawn. -/
def ltWithdraw (ss : Nat) (s : State) : Option State :=
  let mine (r : AuxReq) : Bool := ltReq ss r.kind
  match ltOf s ss with
  | some t =>
    let x : Aux := aux s (ss / 4)
    let all := (x.lt.filter mine).length
    if t.origin = .cmd ∧ t.begun = false ∧ all = (if t.shorts then 1 else 2 * t.cover.length) ∧ (x.run.map mine).getD false = false then
      some (ltStop ss (modAux (ss / 4) (fun a => { a with lt := a.lt.filter (fun r => !mine r) }) s))
    else none
  | none => none

/-- An apply that has not reached tick F-1 returns its session to OPEN. -/
def applyWithdraw (s : State) : Option State :=
  if s.cmt.st = .armed ∧ cmtLate s = false ∨ s.cmt.st = .checking ∧ s.frame + 1 < s.cmt.applyFrame then
    some (modCmt (fun c => { c with st := .open_, arming := false, finalOk := false, pre := none }) s)
  else none

/-- The run of LINK_PRBS so far: ERR, BITS, LOCK. -/
def prbsBytes (s : State) (n : Nat) : List Byte :=
  leBytes 4 (rg s (lnkReg n 0x64)).toNat ++ leBytes 8 (lane s n).prbsBits ++ b8 (lane s n).prbsLock ++ leBytes 3 0

/-- The PRBS pattern of lane n ends: a session of its own applies SUARN again, or waits for one. -/
def prbsStop (x : Flight) (n upto st : Nat) (s : State) : State :=
  let s := { s with flight := s.flight.map (fun y => if y.path = x.path ∧ y.tag = x.tag then { y with buf := prbsBytes s n } else y) }
  let o := ownerCmd x.path
  let r := sessionOpen o s
  if r.1 = stOk then await x (.prbs n 3 upto st) (ownArm (stageAll o [stgSet r.2 (lnkReg n 0x40) [(0, 2, 0)]] r.2))
  else await x (.prbs n 2 upto st) s

/-- An added swap whose announcement has not begun is withdrawn (R359). -/
def swapCancel (s : State) : Option State := match s.twn.added with
  | some f => if s.frame + 256 < f then
      some (modTwn (fun x => { x with added := none, next := if x.next = some f then none else x.next }) s) else none
  | none => none

/-- What cancelling a command does: none where it is past its stated point; the target's completion is in the state. -/
def cancelled (x : Flight) (s : State) : Option State := match x.wait with
  | .apply => (applyWithdraw s).map (fun t => finish x stCancelled (applyBytes t) t)
  | .spot => (spotWithdraw x s).map (finish x stCancelled [])
  | .leadTest ss => (ltWithdraw ss s).map (finish x stCancelled [])
  | .sleep => some (let t := wakeReq true s; t)
  | .acqApply _ => some (finish x stCancelled [] s)
  | .swap => (swapCancel s).map (finish x stCancelled [])
  | .prbs n 1 u _ => some (prbsStop x n u stCancelled s)
  | _ => none

def cancelCmd (f : Flight) (s : State) : State :=
  match s.flight.find? (fun x => decide (pathCode x.path = pathCode f.path) && decide (x.tag = par f 0 1) && decide (x.gen = par f 1 1)) with
  | none => match s.compl.find? (fun c => decide (pathCode c.path = pathCode f.path) && decide (c.tag = par f 0 1) &&
        decide (c.gen = par f 1 1) && !c.freed && !c.dup) with
    | some _ => finish f stBusy [] s
    | none => finish f stStaleGen [] s
  | some x => match cancelled x s with
    | some t => finish f stOk [] (bump 0x5028 1 t)
    | none => finish f stBusy [] s

def execCmdCancel (p : Path) (tag : Nat) (s : State) : Host.Outcome State Fault Refusal :=
  command 0x0005 (isLen 4) (fun f s => if 15 < par f 1 1 then finish f stBadParam [] s else cancelCmd f s) p tag s

/-! ### Sessions (R86 to R88) -/

def execCfgOpen (p : Path) (tag : Nat) (s : State) : Host.Outcome State Fault Refusal :=
  command 0x0100 (isLen 0) (fun f s => ends f (fun t => leBytes 2 t.cmt.serial ++ leBytes 1 (ownerCode t.cmt.owner) ++ leBytes 1 0)
    (sessionOpen (ownerCmd f.path) s)) p tag s

def checkCmd (f : Flight) (s : State) : State :=
  let o := ownerCmd f.path
  match sessRefusal s o with
  | some st => finish f st [] (ownerTouch o s)
  | none => await f .check (sessionCheck o false s).2

def execCfgCheck (p : Path) (tag : Nat) (s : State) : Host.Outcome State Fault Refusal :=
  command 0x0101 (isLen 0) checkCmd p tag s

/-- CFG_APPLY_AT: its RESULT comes with every status. -/
def applyCmd (f : Flight) (s : State) : State :=
  let o := ownerCmd f.path
  if 1 < par f 8 1 then finish f stBadParam (applyBytes s) s
  else match sessRefusal s o with
    | some st => finish f st (applyBytes s) (ownerTouch o s)
    | none =>
      let s := setRg 0x2050 (word (par f 0 4)) (setRg 0x2054 (word (par f 4 4)) (setRg 0x2048 (word (par f 8 1)) s))
      await f .apply (sessionCheck o true s).2

def execCfgApplyAt (p : Path) (tag : Nat) (s : State) : Host.Outcome State Fault Refusal :=
  command 0x0102 (isLen 12) applyCmd p tag s

def execCfgAbandon (p : Path) (tag : Nat) (s : State) : Host.Outcome State Fault Refusal :=
  command 0x0103 (isLen 0) (fun f s => ends f (fun _ => []) (sessionAbandonBy (ownerCmd f.path) s)) p tag s

/-! ### CFG_IMAGE_LOAD (R399) -/

/-- The session a load needs: the firmware's in RESYNC, the path's otherwise. -/
def loadOwner (s : State) (f : Flight) : Owner := if s.hub.st = .resync then .firmware else ownerCmd f.path

/-- The load ends with a status: it restarts at OFFSET 0, and an attempt to resync that transfers its image has failed. -/
def loadFail (f : Flight) (st : Nat) (res : List Byte) (s : State) : State :=
  if s.hub.st = .resync ∧ 2 < s.twn.ph then finish f st res s
  else
    let s := modHst (fun h => { h with img := none, loading := false }) s
    finish f st res (if s.hub.st = .resync then modTwn (fun x => { x with bad := some st }) s else s)

/-- The bytes of the destination beyond what a failed decompression produced are free values (R298). -/
def loadRest (b n : Nat) (s : State) : State :=
  if b = ramBank then s
  else imgStore b n ((List.range (2 ^ 20 - n)).map (fun i => Config.freeByte (s.freeIdx + i))) { s with freeIdx := s.freeIdx + 2 ^ 20 }

/-- The last chunk is in place: the image is decompressed or moved to offset 0, checked and staged. -/
def loadLast (f : Flight) (b tot : Nat) (compressed : Bool) (ecc : ReadEcc) (s : State) : State :=
  let ecc := eccRead b (2 ^ 20) tot ecc s
  let s := eccCorr ecc.corr s
  let raw := imgRead s b (2 ^ 20) tot
  let d : DcmpOut := if compressed then dcmpContainer raw (2 ^ 20) (2 ^ 20) none none else ⟨stOk, false, 0, raw, tot⟩
  if ecc.ue then
    let s := if compressed then fwJob 0xC034 0 stHwFault s else s
    loadFail f stHwFault [] (if b = ramBank then s else eccFound b (2 ^ 20 + ecc.off) 2 s)
  else
    let s := imgStore b 0 d.out (if compressed then fwJob 0xC034 d.blocks d.st s else s)
    if d.st ≠ stOk then loadFail f d.st [] (loadRest b d.out.length s)
    else
      let r := imageTake (loadOwner s f) d.out s
      if r.1 ≠ stOk then loadFail f r.1 r.2.1 r.2.2
      else
        let s := modHst (fun h => { h with img := some (d.out.length, b), loading := false }) r.2.2
        finish f stOk r.2.1 (if s.hub.st = .resync then modTwn (fun x => { x with imgOk := true, idle := 0 }) s else s)

/-- One chunk. -/
def loadCmd (ecc : ReadEcc) (f : Flight) (s : State) : State :=
  let off := par f 0 4
  let tot := par f 4 4
  let fl := par f 8 1
  let b := imgBankNo s (par f 9 1)
  let data := (f.buf.drop 12).take (tot - off)
  let o := loadOwner s f
  let follows := if s.hst.loading then decide (s.hst.img = some (off, b)) else decide (off = 0)
  let last := decide (fl % 2 = 1)
  if 3 < fl ∨ tot = 0 ∨ 2 ^ 20 < tot ∨ (12 ≤ par f 9 1 ∧ ¬ (par f 9 1 = 0xFF ∧ s.hub.st = .resync)) then loadFail f stBadParam [] s
  else match sessRefusal s o with
    | some st => loadFail f st [] (ownerTouch o s)
    | none =>
      let s := ownerTouch o s
      if imgBankOk s b = false then loadFail f stNotPermitted [] s
      else if follows = false ∨ (last ∧ off + data.length ≠ tot) then loadFail f stBadParam [] s
      else
        let s := modHst (fun h => { h with img := some (off + data.length, b), loading := true }) (imgStore b (2 ^ 20 + off) data s)
        if last then loadLast f b tot (decide (fl / 2 % 2 = 1)) ecc s
        else finish f stOk [] (if s.hub.st = .resync then modTwn (fun x => { x with idle := 0 }) s else s)

def execCfgImageLoad (p : Path) (tag : Nat) (ecc : ReadEcc) (s : State) : Host.Outcome State Fault Refusal :=
  command 0x0104 (fun n => decide (12 ≤ n) && decide (n ≤ 2012)) (fun f s => memSync (loadCmd ecc f (memSync s))) p tag s

/-! ### CFG_IMAGE_SAVE (R365, R398) -/

/-- The chunks of an image as CFG_IMAGE_LOAD commands of at most 2000 bytes. -/
def saveChunks (l : List Byte) (compress : Bool) : List (List Byte) :=
  ((chunk64 2000 (l.length + 1) l).zipIdx).map (fun c =>
    let last := decide (2000 * c.2 + c.1.length = l.length)
    leBytes 2 0x0104 ++ leBytes 1 (c.2 % 256) ++ leBytes 1 0 ++ leBytes 2 (12 + c.1.length) ++ leBytes 2 0 ++ leBytes 4 (2000 * c.2) ++
      leBytes 4 l.length ++ leBytes 1 (bbit last 0 + bbit compress 1) ++ leBytes 1 0xFF ++ leBytes 2 0 ++ c.1)

/-- The chunks queued for the requester. -/
def saveSend (f : Flight) (l : List Byte) (compress : Bool) (s : State) : State :=
  forL (saveChunks l compress) (fun b a =>
    mgmtPut (replyLane a (pathLane f.path)) (mgmtPkt 1 0 0 (256 * f.gen + f.tag) f.org b) a) s

def saveCmd (ecc : ReadEcc) (f : Flight) (s : State) : State :=
  let fl := par f 0 1
  let lev := par f 1 1
  let b := par f 2 1
  let send := decide (fl / 4 % 2 = 1)
  let compress := decide (fl / 2 % 2 = 1)
  if 7 < fl ∨ (compress ∧ (lev < 1 ∨ 9 < lev)) ∨ (send = false ∧ 12 ≤ b) then finish f stBadParam [] s
  else if (send ∧ pathCode f.path = 0) ∨ (send = false ∧ bankOwner s b ≠ ownCpu) then finish f stNotPermitted [] s
  else if ecc.ue then finish f stHwFault [] s
  else
    let s := eccCorr ecc.corr s
    let img := imageBytes s (decide (fl % 2 = 1))
    let out := if compress then arcWhole lev 0 img else img
    let s := if compress then fwJob 0xC030 (arcCount img) stOk s else s
    let res := leBytes 4 img.length ++ (img.drop 24).take 4 ++ leBytes 8 s.cmt.epoch
    if send then
      let s := { s with flight := s.flight.map (fun y => if y.path = f.path ∧ y.tag = f.tag then { y with buf := res } else y) }
      await f .imageSend (saveSend f out compress s)
    else finish f stOk res (memStore b 0 out s)

def execCfgImageSave (p : Path) (tag : Nat) (ecc : ReadEcc) (s : State) : Host.Outcome State Fault Refusal :=
  command 0x0105 (isLen 4) (fun f s => memSync (saveCmd ecc f (memSync s))) p tag s

end Sys2Proof.Machine
end

