-- ==== Sys2Proof/Machine/CmdChan.lean ====
section
/-! DEFINITION. Onapen commands of channels and sheafs (R395). -/

namespace Sys2Proof.Machine

open Sys2Proof

/-! ### CH_SET_SENSOR (R237) -/

/-- The curves of R225. -/
def curveOk (c : Nat) : Bool :=
  decide (c ≤ 8) || decide (16 ≤ c ∧ c ≤ 18) || decide (c = 24) || decide (32 ≤ c ∧ c ≤ 34) || decide (48 ≤ c ∧ c ≤ 51)

/-- A register parameter with a reserved bit set. -/
def rsvBits (a : Nat) (v : Nat) : Bool := decide (word v &&& ~~~(stMask a) ≠ 0)

def sensorBad (f : Flight) : Bool :=
  let g := par f 0 2
  let cfg := word (par f 20 4)
  decide (511 < g) || !curveOk (par f 2 1) || decide (3 < par f 3 1) || decide (511 < par f 4 2) || rsvBits (chCfgA g) (par f 20 4) ||
    rsvBits (chLeadA g) (par f 24 4) || rsvBits (chCurrA g) (par f 28 4) || decide (fld cfg 8 2 = 3) || decide (fld cfg 12 3 = 2) ||
    decide (fld cfg 12 3 = 3)

/-- The page that takes a channel's new record: where no other page is staged yet, the active page is copied into the other,
which is staged. -/
def recordPage (o : Owner) (s : State) : Nat × State :=
  let act := linPage s
  let stgd := sf s 0xF040 0 1
  if stgd ≠ act then (stgd, s)
  else
    let s := raise .lin 0 4 { s with lin := { s.lin with mem := copyPage act s.lin.mem } }
    (1 - act, stageAll o [stgSet s 0xF040 [(0, 1, 1 - act)]] s)

def sensorCmd (f : Flight) (s : State) : State :=
  let g := par f 0 2
  let o := ownerCmd f.path
  match sessGate f (sensorBad f) [(.shf, g / 32), (.lin, 0)] s with
  | some st => finish f st [] (ownerTouch o s)
  | none =>
    if s.lin.copying then finish f stBusy [] (ownerTouch o s)
    else
      let en := sf s (chCfgA g) 0 1
      let r := recordPage o s
      let w0 := word (par f 2 1 + par f 3 1 * 2 ^ 6 + par f 4 2 * 2 ^ 8)
      let s := linFill (2048 * r.1 + 4 * g) [w0, word (par f 8 4), word (par f 12 4), word (par f 16 4)] r.2
      finish f stOk [] (stageAll o [(chCfgA g, setFld (word (par f 20 4)) 0 1 en), (chLeadA g, word (par f 24 4)),
        (chCurrA g, word (par f 28 4))] s)

def execChSetSensor (p : Path) (tag : Nat) (s : State) : Host.Outcome State Fault Refusal :=
  command 0x0200 (isLen 32) sensorCmd p tag s

/-! ### CH_SET_RATE, CH_ENABLE, CH_AUTORANGE -/

def rateCmd (f : Flight) (s : State) : State :=
  let g := par f 0 2
  let p := par f 2 1
  let set := decide (par f 3 1 / 2 % 2 = 1)
  let bad := decide (511 < g) || decide (3 < p) || decide (3 < par f 3 1) || decide (10 < par f 4 1) || decide (3 < par f 5 1) ||
    decide (par f 4 1 = 10 ∧ par f 5 1 = 3) || decide (7 < par f 6 1) || decide (10000 < par f 8 2) || (set && decide (par f 8 2 = 0))
  stages f bad ((.shf, g / 32) :: (if set then [(.flt, g / 32)] else [])) (fun s =>
    stgSet s (chFiltA g) [(0, 2, p), (2, 1, par f 3 1)] ::
      (if set then [stgSet s (profCfgA (g / 32) p) [(0, 4, par f 4 1), (4, 2, par f 5 1)],
                    stgSet s (profDcbA (g / 32) p) [(16, 3, par f 6 1), (0, 14, par f 8 2)]] else [])) s

def execChSetRate (p : Path) (tag : Nat) (s : State) : Host.Outcome State Fault Refusal :=
  command 0x0201 (isLen 12) rateCmd p tag s

def enableCmd (f : Flight) (s : State) : State :=
  let ss := par f 0 1
  let on := par f 4 4
  let off := par f 8 4
  stages f (decide (15 < ss) || decide (on &&& off ≠ 0)) [(.shf, ss)] (fun s =>
    ((List.range 32).filter (fun c => (on ||| off).testBit c)).map (fun c =>
      stgSet s (chCfgA (32 * ss + c)) [(0, 1, bbit (on.testBit c) 0)])) s

def execChEnable (p : Path) (tag : Nat) (s : State) : Host.Outcome State Fault Refusal :=
  command 0x0202 (isLen 12) enableCmd p tag s

def autorangeCmd (f : Flight) (s : State) : State :=
  let g := par f 0 2
  let ar := par f 2 1
  stages f (decide (511 < g) || decide (2 < ar)) [(.shf, g / 32)] (fun s =>
    [stgSet s (chCfgA g) ((8, 2, ar) :: (if ar = 0 then [] else [(4, 3, 0)]))]) s

def execChAutorange (p : Path) (tag : Nat) (s : State) : Host.Outcome State Fault Refusal :=
  command 0x0203 (isLen 4) autorangeCmd p tag s

/-! ### CH_SPOT_READ, CH_LEAD_TEST (R117, R119, R159, R160) -/

def spotCmd (f : Flight) (s : State) : State :=
  let g := par f 0 2
  let inp := par f 3 1
  if 511 < g ∨ 2 < par f 2 1 ∨ (0x26 < inp ∧ inp ≠ 0xFF) then finish f stBadParam [] s
  else if expert s .shf (g / 32) then finish f stNotPermitted [] s
  else if auxAvail s (g / 128) = false then finish f stNoResource [] s
  else auxPush (g / 128) (.spot (pathCode f.path) f.tag (if inp = 0xFF then g / 32 % 4 else inp)) (await f .spot s)

def execChSpotRead (p : Path) (tag : Nat) (s : State) : Host.Outcome State Fault Refusal :=
  command 0x0204 (isLen 4) spotCmd p tag s

def leadTestCmd (f : Flight) (s : State) : State :=
  let ss := par f 0 1
  let shorts := decide (par f 1 1 = 1)
  if 15 < ss ∨ 1 < par f 1 1 ∨ 1 < par f 2 1 ∨ 31 < par f 3 1 then finish f stBadParam [] s
  else if expert s .shf ss then finish f stNotPermitted [] s
  else match ltRefusal s ss shorts with
    | some st => finish f st [] s
    | none =>
      if auxAvail s (ss / 4) = false then finish f stNoResource [] s
      else
        let s := await f (.leadTest ss) s
        if shorts then startShorts ss (decide (par f 2 1 = 1)) (par f 3 1) .cmd s else startOpens ss (decide (par f 2 1 = 1)) (par f 3 1) .cmd s

def execChLeadTest (p : Path) (tag : Nat) (s : State) : Host.Outcome State Fault Refusal :=
  command 0x0205 (isLen 4) leadTestCmd p tag s

/-! ### SHF_REF_ENABLE (R154, R393) -/

/-- A session of a command's own: opened, staged and armed at the current frame plus 2, or refused. -/
def ownSession (f : Flight) (w : Wait) (l : State → List (Nat × Word)) (s : State) : State :=
  let o := ownerCmd f.path
  let r := sessionOpen o s
  if r.1 = stOk then await f w (ownArm (stageAll o (l r.2) r.2)) else finish f r.1 [] s

def refCmd (f : Flight) (s : State) : State :=
  let ss := par f 0 1
  let en := par f 1 1
  if 15 < ss ∨ 0x3F < en ∨ 1 < par f 2 1 then finish f stBadParam [] s
  else if expert s .shf ss then finish f stNotPermitted [] s
  else ownSession f (.refApply ss en (decide (par f 2 1 = 1))) (fun s => [stgSet s (shfReg ss 0x200) [(0, 6, en)]]) s

def execShfRefEnable (p : Path) (tag : Nat) (s : State) : Host.Outcome State Fault Refusal :=
  command 0x0206 (isLen 4) refCmd p tag s

/-! ### SHF_EXC_SET -/

def excCmd (f : Flight) (s : State) : State :=
  let ss := par f 0 1
  let o := 4 * ss + par f 1 1
  let fl := par f 2 1
  let bad := decide (15 < ss) || decide (3 < par f 1 1) || decide (3 < fl) || decide (3 < par f 3 1) || decide (63 < par f 6 1) ||
    decide (3 < par f 7 1) || decide (0xFFF < par f 8 2) || decide (15 < par f 10 1) || decide (1 < par f 12 1) ||
    decide (1 < par f 13 1) || decide (15 < par f 14 1)
  stages f bad [(.shf, ss)] (fun s =>
    (if fl % 2 = 1 then
      [stgSet s (excCfgA o) [(24, 2, par f 7 1), (22, 2, par f 3 1), (16, 6, par f 6 1), (0, 16, par f 4 2)],
       stgSet s (excLoadA o) [(16, 8, par f 11 1), (12, 4, par f 10 1), (0, 12, par f 8 2)]] else []) ++
    (if fl / 2 % 2 = 1 then
      [stgSet s (shfReg ss 0x140) [(8, 4, par f 14 1), (1, 1, par f 13 1), (0, 1, par f 12 1)]] else [])) s

def execShfExcSet (p : Path) (tag : Nat) (s : State) : Host.Outcome State Fault Refusal :=
  command 0x0207 (isLen 16) excCmd p tag s

/-! ### FLT_LOAD_BANK (R171, R177, R178) -/

/-- Phase, LEN16 and DC delay of a standard design. -/
def stdDesign (d : Nat) : Bool × Nat × Nat := match d with
  | 1 => (false, 16, 255 * 65536)
  | 2 => (false, 4, 63 * 65536)
  | 3 => (true, 16, 45 * 32768)
  | _ => (false, 1, 15 * 65536)

/-- A bank's coefficients meet what the manual says of a standard design at a rate: a DC gain of 1 within 2^-24, for the
minimum-phase one the delay it tabulates, 22.5 inputs to one decimal, and the response (R171). -/
def stdSound (d rc : Nat) (l : List Word) : Bool :=
  let x := stdDesign d
  let len := 16 * x.2.1
  let c (i : Nat) : Int := (l.getD i 0).toInt
  let used : List Nat := (List.range len).map (fun i => if x.1 then i else 256 - len + i)
  let sum := used.foldl (fun (a : Int) (i : Nat) => a + (if x.1 || i = 255 then c i else 2 * c i)) 0
  let mom := used.foldl (fun (a : Int) (i : Nat) => a + (i : Int) * c i) 0
  let taps := used.map c ++ (if x.1 then [] else (used.map c).reverse.drop 1)
  decide (|sum - 2 ^ 31| ≤ 128) && (!x.1 || decide (|100 * mom - 2250 * sum| ≤ 5 * sum)) && designSound d (rcOdr rc) taps

/-- Coefficients of the plainest filter with that gain and delay: two equal taps. -/
def stdPlain (d : Nat) : List Word := (List.range 256).map (fun i =>
  if (stdDesign d).1 then (if i = 22 ∨ i = 23 then 0x40000000 else 0) else if i = 254 then 0x40000000 else 0)

/-- The coefficients of a standard design at a rate: free within what the manual states of them, and a plain set in place of ones that
do not have it (DESIGN CHOICE, log entry 170). -/
def stdWords (d rc : Nat) : List Word :=
  let l := (List.range 256).map (Config.stdCoeff d rc)
  if stdSound d rc l then l else stdPlain d

/-- A standard design at the profile's staged rate is written into a bank and sealed; its delay is that of its coefficients. -/
def stdFill (ss p ix d : Nat) (s : State) : State :=
  let x := stdDesign d
  let desc := word (bbit x.1 0 + x.2.1 * 16)
  let rc := rateCode (stg s (profCfgA ss p))
  let s := forL ((stdWords d rc).zipIdx) (fun p a => putCoef ix p.2 p.1 a) s
  let dly := (bankDelay s ix (16 * x.2.1) x.1).getD x.2.2
  let b : CBank := { loaded := true, std := d, len16 := x.2.1, phase := x.1, crc := crc32 (bankBytes s ix desc), delay := dly }
  bump (fltReg ss 0x24) 1 (raise .flt ss 1 { s with cbanks := tset {} s.cbanks ix b })

def loadBank (f : Flight) (s : State) : State :=
  let ss := par f 0 1
  let p := par f 1 1
  let b := decide (par f 2 1 = 1)
  let src := par f 3 1
  let ix := bankIx ss p b
  let bad := decide (15 < ss) || decide (3 < p) || decide (1 < par f 2 1) || decide (4 < src) ||
    (decide (src = 0) && (decide (par f 4 1 = 0) || decide (16 < par f 4 1) || decide (1 < par f 5 1))) ||
    decide (f.buf.length ≠ (if src = 0 then 1036 else 12))
  if bad then finish f stBadParam [] s
  else if expert s .flt ss then finish f stNotPermitted [] s
  else match bankRefusal s ss p b with
    | some st => finish f st [] s
    | none =>
      if (tget [] s.sealing ss) ≠ [] then finish f stBusy [] s
      else
        let desc := if src = 0 then par f 5 1 + par f 4 1 * 16 else bbit (stdDesign src).1 0 + (stdDesign src).2.1 * 16
        let s := setRg (fltReg ss 0x108) (word desc) (setRg (fltReg ss 0x100) (word (2 ^ 16 + p * 2 ^ 9 + bbit b 8)) s)
        let r := if src = 0 then
            bankFill ss ix ((List.range 256).map (fun n => word (leAt f.buf (12 + 4 * n) 4))) desc (par f 8 4) 0 s
          else (stOk, stdFill ss p ix src s)
        ends f (fun t => leBytes 4 (bankDesc (cbank t ix)) ++ leBytes 4 (cbank t ix).delay) r

def execFltLoadBank (p : Path) (tag : Nat) (s : State) : Host.Outcome State Fault Refusal :=
  command 0x0208 (fun n => decide (n = 12) || decide (n = 1036)) loadBank p tag s

end Sys2Proof.Machine
end

