-- ==== Sys2Proof/Machine/CmdTime.lean ====
section
/-! DEFINITION. Onapen commands of time, capture and memory (R395). -/

namespace Sys2Proof.Machine

open Sys2Proof

/-! ### Time (R192, R199, R208, R214) -/

/-- TIME_STATUS takes the snapshot and returns it. -/
def timeStatusCmd (f : Flight) (s : State) : State :=
  let s := takeSnap s
  let x := s.tmb
  finish f stOk (leBytes 8 x.snap.c ++ leBytes 12 (inst96 x.snap.t) ++ leBytes 4 x.snap.st.toNat ++
    leBytes 8 (BitVec.ofInt 64 x.rho).toNat ++ leBytes 4 (satS32 (toPs x.e)) ++ leBytes 4 (sat32 (effBound s (256 * s.c)))) s

def execTimeStatus (p : Path) (tag : Nat) (s : State) : Host.Outcome State Fault Refusal :=
  command 0x0300 (isLen 0) timeStatusCmd p tag s

/-- An instant parameter of twelve bytes from byte i, in 2^-64 s. -/
def parInst (f : Flight) (i : Nat) : Int := ((par f i 12 * 2 ^ 16 : Nat) : Int)

/-- What TIME_STEP asks for: none where R199 permits no such step. -/
def stepAsked (f : Flight) (s : State) : Option State :=
  let sec := par f 4 12 / 2 ^ 48
  if par f 0 1 = 0 then
    if s.tmb.stepNeeded then some (modTmb (fun x => { x with step := some (.delta (-x.e)) }) s) else none
  else if isRoot s then some (todWrite (word (sec / 2 ^ 32 + 2 ^ 31)) (setRg 0x30A0 (word sec) s))
  else if (bestSrc s).isNone then some (modTmb (fun x => { x with step := some (.abs (parInst f 4) (256 * s.c) none) }) s)
  else none

def timeStepCmd (f : Flight) (s : State) : State :=
  if 1 < par f 0 1 then finish f stBadParam [] s
  else if expert s .tmb 0 then finish f stNotPermitted [] s
  else match stepAsked f s with
    | some t => await f .step t
    | none => finish f stNotPermitted [] s

def execTimeStep (p : Path) (tag : Nat) (s : State) : Host.Outcome State Fault Refusal :=
  command 0x0301 (isLen 16) timeStepCmd p tag s

def asymCmd (f : Flight) (s : State) : State :=
  let n := par f 0 1
  if 7 < n then finish f stBadParam [] s
  else if expert s .tmb 0 then finish f stNotPermitted [] s
  else finish f stOk [] (setRg (0x3104 + 0x20 * n) (word (par f 4 4)) s)

def execTimeSetAsym (p : Path) (tag : Nat) (s : State) : Host.Outcome State Fault Refusal :=
  command 0x0302 (isLen 8) asymCmd p tag s

/-- Configure an event and arm it. -/
def scheduleEvt (e act per : Nat) (t : Int) (s : State) : State :=
  let a := evtCfgA e
  evtArm1 e (setRg (a + 12) (word (t2Word t)) (setRg (a + 8) (word (t1Word t)) (setRg (a + 4) (word (t0Word t)) (setRg a (word (act + per * 2 ^ 8)) s))))

def scheduleCmd (f : Flight) (s : State) : State :=
  let e := par f 0 1
  let act := par f 1 1
  let per := par f 4 4
  if 15 < e ∨ (5 < act ∧ act ≠ 0xFF) ∨ 2 ^ 24 ≤ per then finish f stBadParam [] s
  else if expert s .tmb 0 then finish f stNotPermitted [] s
  else if act = 0xFF then finish f stOk [] (evtDrop (2 ^ e) s)
  else if evtArmed s e then finish f stBusy [] s
  else
    let s := scheduleEvt e act per (parInst f 8) s
    finish f (if evtArmed s e then stOk else stBadParam) [] s

def execTimeSchedule (p : Path) (tag : Nat) (s : State) : Host.Outcome State Fault Refusal :=
  command 0x0303 (isLen 20) scheduleCmd p tag s

/-! ### Capture (R240, R248, R252, R255) -/

/-- ARM; a bank of the region that ACQ does not own is also recorded in PG_ERR (R372). -/
def cpArmNow (j : Nat) (s : State) : Nat × State :=
  let r := planArm j s
  if r.1 = stNoResource then (r.1, pgError .acq 0 stNoResource r.2) else r

/-- The status word of a plan, as ACQ_ARM and ACQ_DISARM return it. -/
def cpBytes (j : Nat) (s : State) : List Byte := leBytes 4 (cpStatus s j)

/-- The plan's staged registers from ACQ_ARM's parameters. -/
def cpStage (f : Flight) (j : Nat) : List (Nat × Word) :=
  (List.range 6).map (fun i => (cpA j (4 * i), word (par f (4 + 4 * i) 4)))

def armConfig (f : Flight) (j : Nat) (s : State) : State :=
  let o := ownerCmd f.path
  let l := cpStage f j
  let bad := l.any (fun e => decide (e.2 &&& ~~~(stMask e.1) ≠ 0)) || decide (0x3F < par f 28 4)
  match sessGate f bad [(.acq, 0)] s with
  | some st => finish f st [] (ownerTouch o s)
  | none =>
    if (plan s j).offl.isSome then finish f stBusy [] (ownerTouch o s)
    else await f (.acqApply j) (stageAll o l (setRg (cpA j 0x18) (word (par f 28 4)) s))

def acqArmCmd (f : Flight) (s : State) : State :=
  let j := par f 0 1
  let cfg := decide (par f 1 1 = 1)
  if 7 < j ∨ 1 < par f 1 1 ∨ f.buf.length ≠ (if cfg then 32 else 4) then finish f stBadParam [] s
  else if cfg then armConfig f j s
  else if expert s .acq 0 then finish f stNotPermitted [] s
  else ends f (cpBytes j) (cpArmNow j s)

def execAcqArm (p : Path) (tag : Nat) (s : State) : Host.Outcome State Fault Refusal :=
  command 0x0400 (fun n => decide (n = 4) || decide (n = 32)) acqArmCmd p tag s

/-- The plan that a command waits for arms in the first DSP pass after its apply. -/
def acqWake (s : State) : State :=
  s.flight.foldl (fun a f => match f.wait with
    | .acqPass j => ends f (cpBytes j) (cpArmNow j a)
    | _ => a) s

def acqDisarmCmd (f : Flight) (s : State) : State :=
  let j := par f 0 1
  if 7 < j then finish f stBadParam [] s
  else if expert s .acq 0 then finish f stNotPermitted [] s
  else ends f (cpBytes j) (planDisarm j s)

def execAcqDisarm (p : Path) (tag : Nat) (s : State) : Host.Outcome State Fault Refusal :=
  command 0x0401 (isLen 4) acqDisarmCmd p tag s

def forceCmd (f : Flight) (s : State) : State :=
  let t := parInst f 0
  if expert s .acq 0 then finish f stNotPermitted [] s
  else finish f stOk [] (forceGo (setRg 0xD158 (word (t2Word t)) (setRg 0xD154 (word (t1Word t)) (setRg 0xD150 (word (t0Word t)) s))))

def execAcqForce (p : Path) (tag : Nat) (s : State) : Host.Outcome State Fault Refusal :=
  command 0x0402 (isLen 12) forceCmd p tag s

def offloadCmd (f : Flight) (s : State) : State :=
  let j := par f 0 1
  if 7 < j ∨ 1 < par f 1 1 then finish f stBadParam [] s
  else if expert s .acq 0 then finish f stNotPermitted [] s
  else
    let r := planOffload j s
    if r.1 = stOk then await f (.offload j) r.2 else finish f r.1 [] r.2

def execAcqOffload (p : Path) (tag : Nat) (s : State) : Host.Outcome State Fault Refusal :=
  command 0x0403 (isLen 4) offloadCmd p tag s

def gleanCmd (f : Flight) (s : State) : State :=
  let u := par f 0 1
  stages f (decide (15 < u) || decide (31 < par f 1 1) || decide (15 < par f 2 1)) [(.gln, 0)] (fun _ =>
    [(guA u 0, word (par f 4 2 + par f 2 1 * 2 ^ 16 + par f 1 1 * 2 ^ 24)), (guA u 4, word (par f 8 4)),
     (guA u 8, word (par f 6 2 + par f 3 1 * 2 ^ 16))]) s

def execGleanSet (p : Path) (tag : Nat) (s : State) : Host.Outcome State Fault Refusal :=
  command 0x0404 (isLen 12) gleanCmd p tag s

/-! ### Memory (R371, R375 to R377, R381) -/

def assignCmd (f : Flight) (s : State) : State :=
  let b := par f 0 1
  if 11 < b ∨ 7 < par f 1 1 ∨ 1 < par f 2 1 then finish f stBadParam [] s
  else if expert s .mem 0 then finish f stNotPermitted [] s
  else ends f (fun _ => []) (bankAssign b (par f 1 1 + par f 2 1 * 2 ^ 8) s)

def execMemAssign (p : Path) (tag : Nat) (s : State) : Host.Outcome State Fault Refusal :=
  command 0x0500 (isLen 4) assignCmd p tag s

/-- A command of the path may touch the bank: through the window for the host, as LNK for MGMT (R370, R395). -/
def bankOpen (p : Path) (b : Nat) (s : State) : Bool := match p with
  | .host => windowOk s b
  | .mgmt _ => decide (bankOwner s b = ownLnk)

/-- Word i of a transfer, its offset within the bank. -/
def xferOff (f : Flight) (i : Nat) : Nat := (par f 4 4 + 8 * i) % 2 ^ 21

/-- Words of a transfer from word i on: those read before a collision, whether one collided, whether one was uncorrectable. -/
def readWords (f : Flight) (hits : List (Nat × MemHit)) : Nat → Nat → State → List Nat × Bool × Bool × State
  | 0, _, s => ([], false, false, s)
  | n + 1, i, s =>
    let b := par f 0 1
    let h := hitAt hits i
    let a := 262144 * b + xferOff f i / 8
    let e := max h.err (tget 0 s.mem.errs a)
    let r := match f.path with
      | .host => windowRead b (xferOff f i) h s
      | .mgmt _ => (memGet s a, false, eccFound b (xferOff f i) e s)
    if r.2.1 then ([], true, false, r.2.2)
    else
      let q := readWords f hits n (i + 1) r.2.2
      (r.1 :: q.1, q.2.1, q.2.2.1 || decide (e = 2), q.2.2.2)

/-- Words written before a collision. -/
def writeWords (f : Flight) (hits : List (Nat × MemHit)) : Nat → Nat → State → Bool × State
  | 0, _, s => (false, s)
  | n + 1, i, s =>
    let b := par f 0 1
    let v := par f (12 + 8 * i) 8
    let r := match f.path with
      | .host => windowWrite b (xferOff f i) v (hitAt hits i) s
      | .mgmt _ => (false, memPut (262144 * b + xferOff f i / 8) v s)
    if r.1 then (true, r.2) else writeWords f hits n (i + 1) r.2

/-- MEM_HSTAT belongs to the window registers alone. -/
def keepHstat (old : State) (s : State) : State := setHstat old.mem.hstat s

/-- Parameters of MEM_READ and MEM_WRITE outside their ranges. -/
def xferBad (f : Flight) (limit : Nat) : Bool :=
  decide (11 < par f 0 1) || decide (par f 4 4 % 8 ≠ 0) || decide (2 ^ 21 ≤ par f 4 4) || decide (par f 8 4 % 8 ≠ 0) || decide (limit < par f 8 4)

def memReadCmd (hits : List (Nat × MemHit)) (f : Flight) (s : State) : State :=
  let b := par f 0 1
  if xferBad f 2016 then finish f stBadParam [] s
  else if bankOpen f.path b s = false then finish f stNotPermitted [] (nonOwn s)
  else
    let r := readWords f hits (par f 8 4 / 8) 0 s
    finish f (if r.2.1 then stBusy else if r.2.2.1 then stHwFault else stOk) (r.1.flatMap (leBytes 8)) (keepHstat s r.2.2.2)

def execMemRead (p : Path) (tag : Nat) (hits : List (Nat × MemHit)) (s : State) : Host.Outcome State Fault Refusal :=
  command 0x0501 (isLen 12) (memReadCmd hits) p tag s

def memWriteCmd (hits : List (Nat × MemHit)) (f : Flight) (s : State) : State :=
  let b := par f 0 1
  if xferBad f 2008 ∨ f.buf.length ≠ 12 + par f 8 4 then finish f stBadParam [] s
  else if bankOpen f.path b s = false then finish f stNotPermitted [] (nonOwn s)
  else
    let r := writeWords f hits (par f 8 4 / 8) 0 s
    finish f (if r.1 then stBusy else stOk) [] (keepHstat s r.2)

def execMemWrite (p : Path) (tag : Nat) (hits : List (Nat × MemHit)) (s : State) : Host.Outcome State Fault Refusal :=
  command 0x0502 (fun n => decide (12 ≤ n)) (memWriteCmd hits) p tag s

def memTestCmd (f : Flight) (s : State) : State :=
  let b := par f 0 1
  if 11 < b then finish f stBadParam [] s
  else if expert s .mem 0 then finish f stNotPermitted [] s
  else
    let r := memTestStart b s
    if r.1 = stOk then await f (.memTest b) (setRg 0xA0F0 (word b) r.2) else finish f r.1 [] r.2

def execMemTest (p : Path) (tag : Nat) (s : State) : Host.Outcome State Fault Refusal :=
  command 0x0503 (isLen 4) memTestCmd p tag s

end Sys2Proof.Machine
end

