-- ==== Sys2Proof/Machine/CmdLink.lean ====
section
/-! DEFINITION. Onapen commands of links, streams, the twin, the beacon and diagnostics (R395). -/

namespace Sys2Proof.Machine

open Sys2Proof

/-- The eight counters of a page, read and so cleared. -/
def counters (p : Path) (base : Nat) (s : State) : List Byte × State :=
  forN 8 (fun i a =>
    let r := readReg p (base + 0x20 + 4 * i) {} a.2
    (a.1 ++ leBytes 4 r.1.toNat, r.2.2)) ([], s)

/-! ### Links (R317, R338) -/

def linkStatusCmd (f : Flight) (s : State) : State :=
  let n := par f 0 1
  if 7 < n then finish f stBadParam [] s
  else
    let reg (o : Nat) : List Byte := leBytes 4 (readVal s (lnkReg n o)).toNat
    let r := counters f.path (lnkReg n 0) s
    finish f stOk (reg 0x50 ++ reg 0x54 ++ reg 0x110 ++ reg 0x104 ++ reg 0x108 ++ r.1) r.2

def execLinkStatus (p : Path) (tag : Nat) (s : State) : Host.Outcome State Fault Refusal :=
  command 0x0600 (isLen 4) linkStatusCmd p tag s

def routeCmd (f : Flight) (s : State) : State :=
  let p := par f 0 1
  let fl := par f 1 1
  let q := par f 2 1
  let bad := decide (3 < p) || decide (7 < fl) || decide (15 < q) || decide (7 < par f 3 1) || decide (11 < par f 5 1) ||
    decide (511 < par f 8 2) || decide (511 < par f 10 2)
  stages f bad [(.rte, 0), (.que, 0)] (fun s =>
    [stgSet s (rteCfgA p) [(31, 1, fl % 2), (16, 4, q), (12, 1, fl / 2 % 2), (8, 3, par f 3 1), (0, 8, par f 4 1)],
     (rteCfgA p + 4, word (par f 6 2)),
     stgSet s (queCfgA q) [(31, 1, fl % 2), (23, 8, 0), (22, 1, fl / 4 % 2), (18, 4, par f 5 1), (9, 9, par f 10 2), (0, 9, par f 8 2)]]) s

def execLinkRoute (p : Path) (tag : Nat) (s : State) : Host.Outcome State Fault Refusal :=
  command 0x0601 (isLen 12) routeCmd p tag s

/-- LINK_PRBS: LN_PRBS is written and a session of the command's own applies MODE PRBS. -/
def prbsCmd (f : Flight) (s : State) : State :=
  let n := par f 0 1
  let fl := par f 3 1
  let o := ownerCmd f.path
  let w := word (par f 1 1 + fl % 4 * 2 ^ 4 + fl / 8 % 2 * 2 ^ 6 + fl / 4 % 2 * 2 ^ 7 + par f 2 1 * 2 ^ 12)
  if 7 < n ∨ 4 < par f 1 1 ∨ 6 < par f 2 1 ∨ 15 < fl ∨ par f 4 4 = 0 then finish f stBadParam [] s
  else if expert s .lnk n then finish f stNotPermitted [] s
  else
    let r := sessionOpen o s
    if r.1 ≠ stOk then finish f r.1 [] s
    else await f (.prbs n 0 (par f 4 4) stOk) (ownArm (stageAll o [stgSet r.2 (lnkReg n 0x40) [(0, 2, 1)]] (prbsWrite n w r.2)))

def execLinkPrbs (p : Path) (tag : Nat) (s : State) : Host.Outcome State Fault Refusal :=
  command 0x0602 (isLen 8) prbsCmd p tag s

/-- The PRBS run whose frames have passed, or one that still wants its second session. -/
def prbsDue (s : State) (n : Nat) : Option (Flight × Nat × Nat) :=
  s.flight.findSome? (fun f => match f.wait with
    | .prbs m ph u e => if m = n ∧ ((ph = 1 ∧ u ≤ s.ord) ∨ ph = 2) then some (f, u, e) else none
    | _ => none)

/-- The result as it stood when the pattern ended. -/
def prbsEnd (n : Nat) (s : State) : State := match prbsDue s n with
  | some (f, u, e) => match f.wait with
    | .prbs _ 2 _ _ =>
      let o := ownerCmd f.path
      let r := sessionOpen o s
      if r.1 = stOk then await f (.prbs n 3 u e) (ownArm (stageAll o [stgSet r.2 (lnkReg n 0x40) [(0, 2, 0)]] r.2)) else s
    | _ => prbsStop f n u e s
  | none => s

def execLinkPrbsEnd (n : Nat) (s : State) : Host.Outcome State Fault Refusal := .next (if running s then prbsEnd n s else s)

/-! ### Streams (R261, R274) -/

def streamCmd (f : Flight) (s : State) : State :=
  let i := par f 0 1
  let q := par f 2 1
  let fl := par f 4 1
  let b (k : Nat) : Nat := fl / 2 ^ k % 2
  let bad := decide (31 < i) || decide (par f 1 1 = 0) || decide (3 < par f 1 1) || decide (15 < q) || decide (par f 3 1 = 0) ||
    decide (64 < par f 3 1) || decide (63 < fl) || decide (11 < par f 6 1) || decide (4 < par f 7 1) || decide (511 < par f 10 2) ||
    decide (511 < par f 12 2)
  stages f bad [(.que, 0)] (fun s =>
    [stgSet s (strA i 0) [(31, 1, b 0), (28, 1, b 1), (16, 6, par f 3 1 - 1), (12, 4, q), (10, 2, par f 1 1)],
     (strA i 4, word (par f 8 2)), (strA i 8, word (par f 16 4))] ++
    (if b 2 = 1 then
      [stgSet s (queCfgA q) [(31, 1, b 3), (23, 8, par f 5 1), (22, 1, b 4), (18, 4, par f 6 1), (9, 9, par f 12 2), (0, 9, par f 10 2)]]
     else []) ++
    (if b 5 = 1 then [stgSet s 0xB040 [(0, 3, par f 7 1)]] else [])) s

def execStreamSet (p : Path) (tag : Nat) (s : State) : Host.Outcome State Fault Refusal :=
  command 0x0603 (isLen 20) streamCmd p tag s

/-! ### Twin (R359, R368, R369) -/

def twinStatusCmd (f : Flight) (s : State) : State :=
  finish f stOk (leBytes 4 (twnStatus s) ++ leBytes 4 (twnSerial s) ++ leBytes 8 s.twn.pepoch ++ leBytes 8 (s.twn.next.getD 0) ++
    leBytes 4 (twnAge s) ++ leBytes 4 (twnRsyncSt s)) s

def execTwinStatus (p : Path) (tag : Nat) (s : State) : Host.Outcome State Fault Refusal :=
  command 0x0700 (isLen 0) twinStatusCmd p tag s

def swapCmd (f : Flight) (s : State) : State :=
  if expert s .twn 0 then finish f stNotPermitted [] s
  else
    let s := setRg 0x7054 (word (par f 4 4)) (setRg 0x7050 (word (par f 0 4)) s)
    let r := swapAdd (par f 0 8) s
    if r.1 = stOk then await f .swap r.2 else finish f r.1 [] r.2

def execTwinSwapNow (p : Path) (tag : Nat) (s : State) : Host.Outcome State Fault Refusal :=
  command 0x0701 (isLen 8) swapCmd p tag s

def leaseCmd (f : Flight) (s : State) : State :=
  stages f (decide (15 < par f 1 1) || decide (2 ^ 24 ≤ par f 4 4) || decide (2 ^ 24 ≤ par f 8 4)) [(.twn, 0)] (fun s =>
    [stgSet s 0x7040 [(0, 8, par f 0 1), (8, 4, par f 1 1)], stgSet s 0x7044 [(0, 24, par f 4 4)], stgSet s 0x7048 [(0, 24, par f 8 4)]]) s

def execTwinSetLease (p : Path) (tag : Nat) (s : State) : Host.Outcome State Fault Refusal :=
  command 0x0702 (isLen 12) leaseCmd p tag s

/-! ### Beacon (R403, R413, R414) -/

/-- BCN_SET: MODE ON is refused with ROLE on a hub strapped as one of a pair (R403). -/
def bcnSetCmd (f : Flight) (s : State) : State :=
  let m := par f 0 1
  let md := par f 1 1
  let pd := par f 2 2
  let bad := decide (15 < m) || decide (2 < md) || (decide (511 < pd) && decide (pd ≠ 0xFFFF)) || decide (0xFFF < par f 4 2)
  match sessGate f bad [(.bcn, 0)] s with
  | some st => finish f st [] (ownerTouch (ownerCmd f.path) s)
  | none =>
    if md = 2 ∧ isTwin s then finish f stRole [] (ownerTouch (ownerCmd f.path) s)
    else
      let on := bbit (decide (pd ≠ 0xFFFF)) 0
      stages f false [] (fun s =>
        [stgSet s (bstrCfgA m) [(29, 1, on), (20, 9, on * pd), (16, 2, md), (0, 12, par f 4 2)], (bstrCfgA m + 4, word (par f 6 2))]) s

def execBcnSet (p : Path) (tag : Nat) (s : State) : Host.Outcome State Fault Refusal :=
  command 0x0800 (isLen 8) bcnSetCmd p tag s

/-- The schedule of one string is written and armed. -/
def schWrite (f : Flight) (m : Nat) (s : State) : State :=
  let t := parInst f 4
  let s := setRg (bschA m 8) (word (t2Word t)) (setRg (bschA m 4) (word (t1Word t)) (setRg (bschA m 0) (word (t0Word t)) s))
  (schArm m (setRg (bschA m 0x14) (word (par f 24 4)) (setRg (bschA m 0x10) (word (par f 20 4))
    (setRg (bschA m 0x0C) (word (par f 16 4)) s)))).2

def bcnScheduleCmd (f : Flight) (s : State) : State :=
  let mask := par f 0 2
  if 2 ^ 24 ≤ par f 20 4 ∨ schOk s (parInst f 4) (par f 16 4) (par f 20 4) (par f 24 4) = false then finish f stBadParam [] s
  else if expert s .bcn 0 then finish f stNotPermitted [] s
  else if (List.range 16).any (fun m => mask.testBit m && (bstr s m).armed) then finish f stBusy [] s
  else finish f stOk [] (forN 16 (fun m a => if mask.testBit m then schWrite f m a else a) s)

def execBcnSchedule (p : Path) (tag : Nat) (s : State) : Host.Outcome State Fault Refusal :=
  command 0x0801 (isLen 28) bcnScheduleCmd p tag s

def bcnDiagCmd (f : Flight) (s : State) : State :=
  let adj := decide (par f 2 1 = 1)
  if 1 < par f 2 1 then finish f stBadParam [] s
  else if expert s .bcn 0 then finish f stNotPermitted [] s
  else
    let r := testStart (par f 0 2) adj s
    if r.1 ≠ stOk then finish f r.1 [] r.2
    else
      let s := await f .diag r.2
      if par f 0 2 = 0 ∧ adj = false then testCheck s else s

def execBcnDiag (p : Path) (tag : Nat) (s : State) : Host.Outcome State Fault Refusal :=
  command 0x0802 (isLen 4) bcnDiagCmd p tag s

/-! ### Diagnostics (R424, R427) -/

/-- The page that an address is the base of. -/
def pageOfBase (a : Nat) : Option (PageK × Nat) := if a % 0x1000 = 0 then pageAt a else none

def countersCmd (f : Flight) (s : State) : State := match pageOfBase (par f 0 4) with
  | some _ =>
    let r := counters f.path (par f 0 4) s
    finish f stOk r.1 r.2
  | none => finish f stBadParam [] s

def execDiagCounters (p : Path) (tag : Nat) (s : State) : Host.Outcome State Fault Refusal :=
  command 0x0900 (isLen 4) countersCmd p tag s

def bistCmd (f : Flight) (s : State) : State :=
  let t := par f 0 1
  if 3 < t then finish f stBadParam [] s
  else
    let r := bistStart t s
    if r.1 = stOk then await f (.bist t) r.2 else finish f r.1 [] r.2

def execDiagBist (p : Path) (tag : Nat) (s : State) : Host.Outcome State Fault Refusal :=
  command 0x0901 (isLen 4) bistCmd p tag s

def perturbCmd (f : Flight) (s : State) : State := match pageOfBase (par f 0 4) with
  | some (k, i) => ends f (fun _ => []) (perturbWrite k i (word (par f 4 4)) s)
  | none => finish f stBadParam [] s

def execDiagPerturb (p : Path) (tag : Nat) (s : State) : Host.Outcome State Fault Refusal :=
  command 0x0902 (isLen 8) perturbCmd p tag s

end Sys2Proof.Machine
end

