-- ==== Sys2Proof/Machine/Mgmt.lean ====
section
/-! DEFINITION. MGMT packets received, forwarded and executed, and EVENT packets (R99, R327, R341). -/

namespace Sys2Proof.Machine

open Sys2Proof

/-! ### The wrapper (R327) -/

def mType (p : Pkt) : Nat := byteAt p.body 0
def mCount (p : Pkt) : Nat := leAt p.body 2 2
def mToken (p : Pkt) : Nat := leAt p.body 4 4
def mAddr (p : Pkt) : Nat := leAt p.body 8 4

/-- The packet's class P space is freed (R329). -/
def mFree (n : Nat) (p : Pkt) (s : State) : State := modLk n (fun x => { x with freeP := x.freeP + pktCost p }) s

/-! ### Executed here -/

/-- COUNT, ADDR or the span of a register access is out of range. -/
def regBad (p : Pkt) (write : Bool) : Bool :=
  let c := mCount p
  decide (c = 0) || decide (509 < c) || decide (mAddr p % 4 ≠ 0) || decide (0x1000 < mAddr p % 0x1000 + 4 * c) ||
    (write && decide (p.body.length < 12 + 4 * c))

/-- The reply to a register access. -/
def regReply (n : Nat) (p : Pkt) (st count : Nat) (data : List Byte) (s : State) : State :=
  mgmtReply n 5 st count (mToken p) (leBytes 4 (mAddr p) ++ data) s

/-- Bank accesses by MGMT meet no collision: only the host port's do (R376). -/
def mgmtHits (hits : List (Nat × MemHit)) : List (Nat × MemHit) := hits.map (fun h => (h.1, { h.2 with kind := 0 }))

def mgmtRead (n : Nat) (p : Pkt) (hits : List (Nat × MemHit)) (s : State) : State :=
  if regBad p false then regReply n p stBadParam 0 [] s
  else
    let r := readBurst (.mgmt n) (mAddr p) (mgmtHits hits) (mCount p) 0 s
    regReply n p stOk (mCount p) (wordBytes r.1) { r.2 with rd := r.1 }

def mgmtWrite (n : Nat) (p : Pkt) (hits : List (Nat × MemHit)) (s : State) : State :=
  if regBad p true then regReply n p stBadParam 0 [] s
  else
    let ws := (List.range (mCount p)).map (fun i => word (leAt p.body (12 + 4 * i) 4))
    regReply n p stOk (mCount p) [] (writeBurst (.mgmt n) (mAddr p) (mgmtHits hits) ws 0 s).2

/-- A command buffer waits for the firmware in the lane's class P buffer (R388). -/
def mgmtCommand (n : Nat) (p : Pkt) (s : State) : State :=
  modHst (fun h => { h with mbox := h.mbox ++ [(n, mToken p, p.origin, p.body.drop 8)] }) s

/-- A completion: only that of the CFG_IMAGE_SAVE which a resync asked for acts, and only by its failure (R365, R366). -/
def mgmtCompl (p : Pkt) (s : State) : State :=
  if s.hub.st = .resync ∧ 1 ≤ s.twn.ph ∧ s.twn.ph ≤ 2 ∧ leAt p.body 8 2 = 0x0105 ∧ byteAt p.body 12 ≠ 0 then
    modTwn (fun x => { x with bad := some (byteAt p.body 12) }) s
  else s

/-- An UNREACHABLE reply to a packet (R327, R341). -/
def unreach (n : Nat) (p : Pkt) (st : Nat) (s : State) : State :=
  raise .rte 0 1 (bump 0x18028 1 (mgmtReply n 7 st 0 (mToken p) (leBytes 4 p.dest) s))

/-- A packet for this hub; all but a command free their space at once. -/
def mgmtExec (n : Nat) (p : Pkt) (hits : List (Nat × MemHit)) (s : State) : State :=
  if mgmtPath s = false ∨ bit (rg s (lnkReg n 0x100)) 24 = false then mFree n p (unreach n p 2 s)
  else match mType p with
    | 1 => mgmtCommand n p s
    | 2 => mFree n p (mgmtCompl p s)
    | 3 => mFree n p (mgmtRead n p hits s)
    | 4 => mFree n p (mgmtWrite n p hits s)
    | 5 => mFree n p s
    | 6 => mFree n p s
    | 7 => mFree n p s
    | _ => mFree n p (unrouted n s)

/-! ### Forwarding (R341) -/

/-- Enabled relay ports whose lane carries packets. -/
def portsUp (s : State) : List Nat := (List.range 4).filter (fun i => portEn s i && laneUp s (portLane i))

/-- The ports a downstream packet goes on: those fed by the arrival lane, or else every other one. -/
def fwdPorts (s : State) (n : Nat) : List Nat :=
  let l := (portsUp s).filter (fun i => decide (portUp s i = n))
  if l = [] then portsUp s else l

/-- Queue copies on lanes, HOPS incremented; the first copy carries the credit that the arrival lane is owed (R338). -/
def mgmtCopies (n : Nat) (p : Pkt) : List Nat → Bool → State → State
  | [], _, s => s
  | m :: r, owe, s =>
    mgmtCopies n p r false (mgmtPut m { p with hops := p.hops + 1, retx := false, via := if owe then some (n, pktCost p) else none } s)

/-- A packet travels downstream; `here` where it was executed too, which already settled its credit. -/
def mgmtDown (n : Nat) (p : Pkt) (here : Bool) (s : State) : State :=
  let free (a : State) : State := if here then a else mFree n p a
  if (List.range 4).all (fun i => !portEn s i) then free s
  else if 15 ≤ p.hops then free (unreach n p 3 s)
  else match fwdPorts s n with
    | [] => free (unreach n p 1 s)
    | l => bump 0x18024 1 (mgmtCopies n p (l.map portLane) (!here) s)

/-- A packet from a relay port travels upstream. -/
def mgmtUp (n i : Nat) (p : Pkt) (s : State) : State :=
  if 15 ≤ p.hops then mFree n p (unreach n p 3 s) else mgmtCopies n p [portReader s i] true s

/-- An accepted MGMT packet. -/
def mgmtTake (n : Nat) (p : Pkt) (hits : List (Nat × MemHit)) (s : State) : State := match lanePort s n with
  | some i => mgmtUp n i p s
  | none =>
    if p.dest = 0 ∨ p.dest = origin then mgmtExec n p hits s
    else if p.dest = 0xFFFFFFFF then mgmtDown n p true (mgmtExec n p hits s)
    else mgmtDown n p false s

/-- A valid MGMT packet of one kind on lane n. -/
def mgmtRx (n : Nat) (pk : Pkt) (kind : Nat → Bool) (hits : List (Nat × MemHit)) (s : State) : State :=
  if rxOk s n && decide (pk.ty = 2) && kind (mType pk) then (if lenOk pk then seqRx n pk.lseq (mgmtTake n pk hits) s else lenBad n s) else s

def execMgmtCommandReceive (n : Nat) (pk : Pkt) (s : State) : Host.Outcome State Fault Refusal :=
  .next (mgmtRx n pk (fun m => decide (m = 1)) [] s)

def execMgmtRegRead (n : Nat) (pk : Pkt) (hits : List (Nat × MemHit)) (s : State) : Host.Outcome State Fault Refusal :=
  .next (mgmtRx n pk (fun m => decide (m = 3)) hits s)

def execMgmtRegWrite (n : Nat) (pk : Pkt) (hits : List (Nat × MemHit)) (s : State) : Host.Outcome State Fault Refusal :=
  .next (mgmtRx n pk (fun m => decide (m = 4)) hits s)

def execMgmtReservedDiscard (n : Nat) (pk : Pkt) (s : State) : Host.Outcome State Fault Refusal :=
  .next (mgmtRx n pk (fun m => decide (m = 0 ∨ 7 < m)) [] s)

/-- Any valid sequenced packet: STOOK, MGMT or TRIG (R325, R330); one of a reserved TYPE is discarded and counted (R324). -/
def execSequencedPacketAccept (n : Nat) (pk : Pkt) (hits : List (Nat × MemHit)) (s : State) : Host.Outcome State Fault Refusal :=
  .next (if rxOk s n then
    if lenOk pk = false then lenBad n s else
    match pk.ty with
    | 1 => seqRx n pk.lseq (stookTake n pk) s
    | 2 => seqRx n pk.lseq (mgmtTake n pk hits) s
    | 5 => seqRx n pk.lseq (trigTake n (trigOf pk)) s
    | ty => if ty = 0 ∨ 8 < ty then bump (lnkReg n 0x30) 1 s else s
  else s)

/-! ### EVENT packets (R99) -/

/-- The EVENT packet on every uplink that is UP. -/
def eventSend (s : State) : State :=
  let b := leBytes 4 (evtSum s 0) ++ leBytes 4 (evtSum s 1) ++ leBytes 8 s.frame
  let s := forL [0, 1] (fun n a => if laneUp a n then mgmtPut n (mgmtPkt 6 0 0 0 0 b) a else a) s
  { s with evt := { due := s.evt.due.filter (fun k => decide (s.ord ≤ k)), last := s.ord } }

/-- A routed page has become pending in an earlier frame. -/
def eventDue (s : State) : Bool := s.evt.due.any (fun k => decide (k < s.ord)) && decide (s.evt.last ≠ s.ord)

/-- The repeat interval has passed with a routed page still pending. -/
def eventAgain (s : State) : Bool :=
  !eventDue s && decide (s.evt.last ≠ s.ord) && (decide (evtSum s 0 ≠ 0) || decide (evtSum s 1 ≠ 0)) && decide (s.evt.last + max 1 (af s 0x118 0 16) ≤ s.ord)

def execEventPacketSend (s : State) : Host.Outcome State Fault Refusal := .next (if running s && eventDue s then eventSend s else s)

def execEventRepeat (s : State) : Host.Outcome State Fault Refusal := .next (if running s && eventAgain s then eventSend s else s)

end Sys2Proof.Machine
end

