-- ==== Sys2Proof/Machine/Frame.lean ====
section
/-! DEFINITION. The frame: the voted tick, the activation of DSP-governing copies, the DSP pass, its end, the step of the
timebase and scheduled events (R16 to R24, R82, R173 to R184, R197, R200, R214 to R220). -/

namespace Sys2Proof.Machine

open Sys2Proof

def modDsp (f : Dsp → Dsp) (s : State) : State := { s with dsp := f s.dsp }

/-- Frame index of a pass. -/
def passFrame (s : State) (o : Nat) : Nat := match s.passes.find? (fun p => decide (p.o = o)) with
  | some p => p.frame
  | none => s.frame

/-! ### Activation of DSP-governing copies (R20, R82) -/

/-- The copies that applies up to tick number o left become active; later ones stay pending. -/
def dspCopies (o : Nat) (s : State) : State :=
  let due := s.dspQ.filter (fun e => decide (e.1 ≤ o))
  let s := { s with dspQ := s.dspQ.filter (fun e => !decide (e.1 ≤ o)) }
  let s := forL due (fun e a => forL e.2 (fun p b => setRg p.1 (merge (rg b p.1) p.2 (stMask p.1)) b) a) s
  { s with dspPend := s.dspQ.foldl (fun t e => e.2.foldl (fun u p => tset (rg s p.1) u p.1 p.2) t) [] }

/-- Instant of the first CIC word of a channel at or after an instant (R143, R144). -/
def wordAt (s : State) (g t : Nat) : Nat :=
  let m := (chan s g).mod0
  m + (t - m + cicTau - 1) / cicTau * cicTau

/-- Words of a pass's store. -/
def passWords (s : State) (o : Nat) : List StoreIn := match s.dsp.store.find? (fun e => decide (e.1 = o)) with
  | some e => e.2
  | none => []

/-- Instant of the first CIC word of a channel that pass o, of frame j, processes: from its store, and where that holds none, the first
word that reaches the hub die in frame j-1, 4 us after its instant (R17, R174, R218). -/
def firstWord (s : State) (o j g : Nat) : Nat := match (passWords s o).find? (fun w => decide (w.g = g)) with
  | some w => w.t
  | none => wordAt s g (localAt s (tickTime s (j - 1)) - usTau 4)

/-- The active bank of profile i = 4*ss + p, and its configuration word. -/
def profWord (s : State) (i : Nat) : Word := rg s (profCfgA (i / 4) (i % 4))
def profBank (s : State) (i : Nat) : CBank := cbank s (bankIx (i / 4) (i % 4) (bit (profWord s i) 8))

/-- The BANK of a profile has changed (R179). -/
def swapped (old s : State) (i : Nat) : Bool := decide (bit (profWord old i) 8 ≠ bit (profWord s i) 8)

/-- The swap is between banks that are equivalent (R180). -/
def swapEquiv (old s : State) (i : Nat) : Bool := banksEquiv (profBank old i) (profBank s i)

/-- A swap becomes active in the pass of frame j: the old bank drains where the FIR still has to use it (R179, R180). -/
def swapProf (old : State) (j i : Nat) (s : State) : State :=
  if swapped old s i then
    let d (l : List Int) : List Int := if swapEquiv old s i then tickTime s j :: l else []
    bump (fltReg (i / 4) 0x20) 1 (raise .flt (i / 4) 0 (modProf i (fun p => { p with swapFrame := j % 65536, drains := d p.drains }) s))
  else s

/-- A detector code of a channel's lead state still belongs to its configuration (R113). -/
def codeApplies (s : State) (g c : Nat) : Bool :=
  if c = detWindow then bit (rg s (chLeadA g)) 2
  else if c = 0 then detApplies s g .compliance
  else bit (rg s (chLeadA g)) (8 + (c - 1) % 4)

/-- CH_LEAD or CH_CURR of a running channel changed: detectors that no longer apply go inactive, and excitation events
follow EXCDEP. -/
def leadApply (old : State) (g t : Nat) (s : State) : State :=
  let wl := rg old (chLeadA g)
  let wn := rg s (chLeadA g)
  if wl = wn ∧ rg old (chCurrA g) = rg s (chCurrA g) then s
  else
    let x := chan s g
    let keep := x.detAct.filter (fun c => codeApplies s g c)
    let s := modChan g (fun y => { y with detAct := keep, swapped := y.swapped && decide (af s (chCurrA g) 0 3 = 2) && bit (rg s (chCurrA g)) 8,
                                          cmwP := y.cmwP && bit wn 2, cmwN := y.cmwN && bit wn 2 }) s
    let s := if keep = x.detAct then s
      else if x.lead = .suspect ∧ bit wn 3 = false then leadClear g 2 t s
      else clearingTest g s
    excJoin g wl wn t s

/-- The channel arms (R120, R144): its sheaf's start delay begins with the tick `o` of the activating pass, or it is in FAULT
where its die or lane is lost. Marks that are open now reach it. -/
def chArm (o g : Nat) (s : State) : State :=
  if s.hub.fuseFail then s
  else
    let gain := if af s (chCfgA g) 8 2 ≠ 0 then 0 else af s (chCfgA g) 4 3
    let s := modChan g (fun x => { x with
      st := .armed, cause := 0, gain := gain, arCount := 0, inUse := false, stuck := false, swapped := false }) s
    let s := setStart g (some (o + sdly s (g / 32))) s
    let s := loadsSync g (256 * s.c) (marksOpen g (256 * s.c) s)
    if (die s (g / 128)).lost then chFault g 2 s
    else if chCarried s g then s else chFault g 1 s

/-- The channel's EN becomes active as 0. -/
def chDisable (g : Nat) (s : State) : State :=
  modChan g (fun x => { x with inUse := false, stuck := false }) (setStart g none (chOff g s))

/-- The range follows a committed change of GAIN or AR; an autorange switch of the same boundary is discarded (R111). -/
def gainApply (g : Nat) (w0 w1 : Word) (t : Nat) (s : State) : State :=
  let ar := fld w1 8 2
  if fld w0 8 2 ≠ ar ∨ (ar = 0 ∧ fld w0 4 3 ≠ fld w1 4 3) then
    switchRange g (if ar ≠ 0 then 0 else fld w1 4 3) (mcAt t) (arDiscard g (mcAt t) s)
  else s

/-- CAL of a change of MUX (R102). -/
def muxApply (g : Nat) (w0 w1 : Word) (t : Nat) (s : State) : State :=
  if fld w0 1 2 = 0 ∧ fld w1 1 2 ≠ 0 then mark g .cal (mcAt t) none s
  else if fld w0 1 2 ≠ 0 ∧ fld w1 1 2 = 0 then endMarks g .cal (mcAt t) s
  else s

/-- The filter selection of a channel changed: none, or its t_s (R174, R180). -/
def filtChange (old s : State) (o j g : Nat) : Option Nat :=
  let i := 4 * (g / 32) + chProf s g
  let first := firstWord s o j g
  let sel := decide (chProf old g ≠ chProf s g) || decide (chOdr old g ≠ chOdr s g)
  let swp := swapped old s i && !swapEquiv old s i
  if swp then some (max (localAt s (tickTime s j)) (if sel then first else 0))
  else if sel then some first else none

/-- What a channel owes follows a change of its rate. -/
def oweRate (old : State) (g : Nat) (s : State) : State :=
  let rc := rateCode (chProfW s g)
  if rc = rateCode (chProfW old g) then s
  else modTap g (fun x => { x with owe := x.owe.map (fun e => (gridOn (rcOdr e.2) (rcOdr rc) e.1, rc)) }) s

/-- The changes of a running channel (R111, R174, R183, R454). -/
def chChange (old : State) (o j g t : Nat) (s : State) : State :=
  let w0 := rg old (chCfgA g)
  let w1 := rg s (chCfgA g)
  let front := decide (fld w0 1 2 ≠ fld w1 1 2) || decide (fld w0 11 4 ≠ fld w1 11 4)
  let s := gainApply g w0 w1 t s
  if chActive s g = false then s
  else
    let s := if front then settle g (mcAt t) true s else s
    let s := match filtChange old s o j g with
      | some f => reselect g (if front then max f (mcAt t) else f) (chOdr old g) s
      | none => s
    let dcb := !bit (rg old (chFiltA g)) 2 && bit (rg s (chFiltA g)) 2
    if dcb then modTap g (fun x => { x with seeded := false }) s else s

/-- The new configuration of a channel at the start of the pass of frame j (R82, R120). -/
def chApply (old : State) (o j g : Nat) (s : State) : State :=
  let t := 256 * s.c
  let e0 := bit (rg old (chCfgA g)) 0
  let e1 := bit (rg s (chCfgA g)) 0
  if !e1 then (if e0 then chDisable g s else s)
  else if !e0 then chArm o g s
  else
    let s := loadsSync g t (muxApply g (rg old (chCfgA g)) (rg s (chCfgA g)) t s)
    leadApply old g t (chChange old o j g t (oweRate old g s))

/-- Some register of a list changed. -/
def changed (old s : State) (l : List Nat) : Bool := l.any (fun a => decide (rg old a ≠ rg s a))

/-- An apply changes the ST fields of a plan, of a glean unit, of a trigger unit (R242, R248, R257). -/
def planApply (old : State) (p : Nat) (s : State) : State :=
  if changed old s ([0, 4, 8, 0xC, 0x10, 0x14, 0x18].map (cpA p)) && decide ((plan s p).st ≠ .idle) then
    wakeup (.offload p) stCancelled [] (planIdle p 6 s)
  else s
def gleanApply (old : State) (u : Nat) (s : State) : State := if changed old s ([0, 4, 8].map (guA u)) then gSkip u s else s
def tunitApply (old : State) (u : Nat) (s : State) : State :=
  if changed old s ([0, 4, 8].map (tuA u)) then modTunit u (fun x => { x with armed := true, prev := none }) s else s

/-- DSP-governing copies become active as the pass of tick number o starts (R20). -/
def dspActivate (o : Nat) (s : State) : State :=
  if s.dspQ.any (fun e => decide (e.1 ≤ o)) then
    let old := s
    let j := passFrame s o
    let s := dspCopies o s
    let s := forN 64 (fun i a => swapProf old j i a) s
    let s := forN 512 (fun g a => chApply old o j g a) s
    memSync (forN 16 (fun u a => tunitApply old u (gleanApply old u a)) (forN 8 (fun p a => planRegrid p (planApply old p a)) s))
  else s

/-! ### The DSP pass (R17, R165 to R184, R217, R218, R223) -/

/-- Count a sample toward the next narrower range (R109): its value in 2^-8 LSB before linearisation. -/
def countDown (g : Nat) (y : Int) (s : State) : State :=
  let ar := af s (chCfgA g) 8 2
  match narrowerGain ar (chan s g).gain with
  | some c =>
    if ar = 0 ∨ 256 ≤ (chan s g).arCount then s
    else modChan g (fun x => { x with arCount := if |y| < 2 ^ (27 - c) then x.arCount + 1 else 0 }) s
  | none => s

/-- One output of a channel at grid index k: its sample, none where its CIC words were lost. -/
def emit1 (o g k u : Nat) (y : Int) (cj : Option Int × Nat) (s : State) : Option Samp × State :=
  let w := chProfW s g
  let a := u - winB w (chBank s g)
  let b := u + winA w (chBank s g)
  let rc := rateCode w
  let s := modTap g (fun x => { x with nextK := some (k + 1), owe := some (k + 1, rc) }) s
  if markIn (chan s g).marks (fun m => decide (m = .lost)) a b then (none, s)
  else
    let r := linearise g u y cj s
    let pf := prodFlags r.2.2 g u
    let fl := pf ||| r.2.1 ||| lateFlags r.2.2 g o 0 a b
    let s := modTap g (fun x => { x with last := some ⟨r.1, fl, chCurve s g, o, a, b, capHold s o g⟩, gave := some (k + 1, rc) }) r.2.2
    let s := countDown g y s
    let s := if pf &&& fSetl = 0 ∧ (chan s g).st = .settling then modChan g (fun x => { x with st := .run }) s else s
    (some ⟨g, k, rc, sampleWord r.1 fl, a, b⟩, s)

/-- What a pass has made so far: samples and gaps, newest first, and the state. -/
abbrev PassAcc := List Samp × List Miss × State

/-- Outputs of a channel from index k up to the pass's limit, while their FIR outputs are there. -/
def emitRun (o g lim : Nat) (cj : Option Int × Nat) : Nat → Nat → PassAcc → PassAcc
  | 0, _, r => r
  | n + 1, k, (l, m, s) =>
    match resample (tap s g).outs (2 * firPer (chProfW s g)) (gridTime (chOdr s g) k) with
    | none => (l, m, s)
    | some (y, u) =>
      let e := emit1 o g k u y cj s
      emitRun o g lim cj n (k + 1) (match e.1 with
        | some x => (x :: l, m, e.2)
        | none => (l, ⟨g, rateCode (chProfW s g), k, k⟩ :: m, e.2))

/-- Indices a restarted channel owed before its new grid (R270). -/
def gapUp (g k : Nat) (r : PassAcc) : PassAcc :=
  let s := r.2.2
  match (tap s g).owe with
  | some (ko, rc) =>
    let e := gridCeil (chOdr s g) (rcOdr rc) k
    if ko < e then (r.1, ⟨g, rc, ko, e - 1⟩ :: r.2.1, modTap g (fun x => { x with owe := some (k, rateCode (chProfW s g)) }) s) else r
  | none => r

/-- The clip markers that a pass's words carry: each spans its whole word (R143, R149). -/
def clipMarks (ws : List StoreIn) (s : State) : State :=
  forL ws (fun x a => match x.clip with
    | some pos => mark x.g (if pos then .ovrPos else .ovrNeg) (x.t - cicTau) (some x.t) a
    | none => a) s

/-- One channel in a pass: its CIC words, then its outputs; a channel in FAULT owes every grid index. -/
def chanPass (o : Nat) (tick : Int) (ws : List StoreIn) (cj : Option Int × Nat) (g : Nat) (r : PassAcc) : PassAcc :=
  let s := r.2.2
  if chActive s g then
    let w := ws.filter (fun x => decide (x.g = g))
    let s := forL w firStep (clipMarks w s)
    match (tap s g).nextK with
    | some k =>
      let lim := gridLast s g tick
      let q := emitRun o g lim cj (lim - k) k (gapUp g k (r.1, r.2.1, s))
      (q.1, q.2.1, modTap g (fun x => { x with outs := x.outs.take 64 }) q.2.2)
    | none => (r.1, r.2.1, s)
  else if (chan s g).st = .fault then match (tap s g).owe with
    | some (ko, rc) =>
      let lim := gridLast s g tick
      if ko < lim then (r.1, ⟨g, rc, ko, lim - 1⟩ :: r.2.1, modTap g (fun x => { x with owe := some (lim, rc) }) s) else r
    | none => r
  else r

/-- The index at which a pass ended on a channel. -/
def passEnd (s : State) (tick : Int) (g : Nat) : Nat :=
  if chActive s g then (match (tap s g).nextK with
    | some k => min k (gridLast s g tick)
    | none => 0) else gridLast s g tick

/-- A channel not OFF as a pass starts, with the index after its last delivered output. -/
def onRec (s : State) (g : Nat) : OnRec := ⟨g, rateCode (chProfW s g), (tap s g).gave.map (fun e => gridOn (rcOdr e.2) (chOdr s g) e.1)⟩

/-- DSP pass o starts: copies become active, the filters, resampler and linearisation run, and the taps take the words. -/
def passStart (o : Nat) (s : State) : State :=
  let s := modDsp (fun d => { d with run := some o, held := d.held.filter (fun k => decide (k ≠ o)) }) s
  let s := acqWake (dspActivate o s)
  let j := passFrame s o
  let tick := min (tickTime s j) (netNow s)
  let ws := passWords s o
  let gs := (List.range 512).filter (fun g => decide ((chan s g).st ≠ .off))
  let on := gs.map (onRec s)
  let cj := gs.map (fun g => (g, cjRead s g))
  let s := forL cj (fun p a => cjKeep p.1 p.2 a) s
  let r := cj.foldl (fun a p => chanPass o tick ws p.2 p.1 a) (([] : List Samp), ([] : List Miss), s)
  let l := r.1.reverse
  let s := r.2.2
  let s := { s with passes := s.passes.map (fun p => if p.o = o then { p with on := on, samps := l, miss := r.2.1.reverse } else p) }
  let s := forN 8 (fun p a => planPass p o (passEnd a tick) (capHold a o) l a) s
  gleanPass o j l (tuPass l s)

/-- The hub is in service: awake, or at or before the last pass of a SLEEP entry (R68, R71). -/
def inService (s : State) : Bool := match s.pwr.sleep with
  | .awake => true
  | .draining k _ _ => decide (k = 0) || decide (s.ord ≤ k)
  | _ => false

/-- Frames have passes: not in SLEEP, and not before the channels return (R71). -/
def hasPass (s : State) : Bool := match s.pwr.sleep with
  | .awake => true
  | .draining _ _ _ => true
  | _ => false

/-! ### The end of a pass (R18, R19) -/

/-- GAIN_NOW takes the code at the end of the pass (R123). -/
def gainPass (s : State) : State :=
  forN 512 (fun g a => if (chan a g).gainPass = (chan a g).gain then a else modChan g (fun x => { x with gainPass := x.gain }) a) s

/-- 400 s in tau/256: longer than any sample waits for its window and its stook. -/
def markLife : Nat := 400 * tauHz

/-- Spans that no sample's window can meet any more, and timebase verdicts past every hold, go. -/
def pruneMarks (s : State) : State :=
  let old (m : Mark) : Bool := match m.t1 with
    | some e => decide (e + markLife < 256 * s.c)
    | none => false
  let s := forN 512 (fun g a => if (chan a g).marks.any old then modChan g (fun x => { x with marks := x.marks.filter (fun m => !old m) }) a else a) s
  modTmb (fun x => { x with tunlAt := x.tunlAt.filter (fun m => decide (s.ord < m + 200)) }) s

/-- The last pass of a SLEEP entry, which may have been given up for a wake before the pass ended (R68, R69). -/
def sleepPass (o : Nat) (s : State) : State := match s.pwr.sleep with
  | .draining k _ _ => if k = o then sleepChannels s else s
  | .waking r =>
    if s.dsp.held = [] then (if r then sleepChannels s else wakeForget (sleepChannels s)) else s
  | _ => s

/-- DSP pass o ends: the verdict cutoff, assembly, and what ends with the pass; `corr` words of the hold store were read with a
corrected error (R28). -/
def passDone (o : Nat) (ue wv : List Nat) (corr : Nat) (s : State) : State :=
  let j := passFrame s o
  let s := if corr = 0 then s else bump 0xB030 corr s
  let s := assembleAll o ue wv (gleanEnd o j (gleanLate s))
  let s := forN 8 (fun p a => planComplete p (planFlush p o a)) s
  let s := sleepPass o (gainPass (drainEnd (tickTime s j) s))
  let s := pruneMarks (prunePasses o s)
  modDsp (fun d => { d with run := none, endAt := none, store := d.store.filter (fun e => decide (e.1 ≠ o)) }) s

/-- The work of pass o is done: it ends, or a perturbation gives it PARAM x 256 more CORE cycles, after which it ends (R426). -/
def passEnds (o : Nat) (ue : PassEcc) (wv : List Nat) (s : State) : State := match s.dsp.endAt with
  | some e => if e ≤ s.c then passDone o ue.ue wv ue.corr s else s
  | none =>
    if pertOn s .hub 0 1 then modDsp (fun d => { d with endAt := some (s.c + 256 * pertArg s .hub 0) }) s
    else passDone o ue.ue wv ue.corr s

def execDspPassEnd (ue : PassEcc) (wv : List Nat) (s : State) : Host.Outcome State Fault Refusal :=
  match s.dsp.run with
  | some o => .next (if running s then passEnds o ue wv s else s)
  | none => .next s

/-- All the work of the frame before is complete: a held pass starts (R22). -/
def lateStart (s : State) : State := match s.dsp.run, s.dsp.held with
  | none, o :: _ => passStart o s
  | _, _ => s

def execDspPassLateStart (s : State) : Host.Outcome State Fault Refusal := .next (if running s then lateStart s else s)

/-! ### The voted tick (R16, R200) -/

/-- Copies of the tick sequencer that agree, with the perturbations of R426. -/
def voteMask (i : TickIn) (s : State) : Nat :=
  let m := i.votes % 8
  if pertOn s .seq 0 2 then 0
  else if pertOn s .seq 0 1 then m &&& (7 ^^^ 2 ^ pertArg s .seq 0) else m

/-- The vote: a copy is outvoted, or no two agree and the tick is late by up to 4 CORE cycles, a free number of them. -/
def voteTick (i : TickIn) (s : State) : State :=
  let m := voteMask i s
  if 2 ≤ popc 3 m then
    forN 3 (fun c a => if m.testBit c then a else raise .seq 0 0 (bump (0x4020 + 4 * c) 1 a)) { s with seqAgree := m }
  else
    let f := fresh s
    raise .seq 0 1 (bump 0x402C 1 { f.2 with seqAgree := 0, c := f.2.c + (Config.freeWord f.1).toNat % 5 })

/-- The CIC words of the frame that ended, with the network instants of their arrival (R143, R217). -/
def cicWords (i : TickIn) (s : State) : List StoreIn × State :=
  i.cic.foldl (fun a x =>
    let r := cicChan x a.2
    (a.1 ++ r.1, r.2)) (([] : List StoreIn), s)

/-- The frame that ended filled the store of pass o, or its words are lost where no store was free for it; whether one is free
for the frame that begins is decided now (R23). A frame without a pass keeps no words (R70). -/
def storeFill (o from_ : Nat) (ws : List StoreIn) (s : State) : State :=
  if hasPass s = false then modDsp (fun d => { d with store := [], room := true }) s
  else
    let s := if s.dsp.room then modDsp (fun d => { d with store := d.store ++ [(o, ws)] }) s
      else forN 512 (fun g a => if chActive a g then mark g .lost from_ (some (256 * a.c)) a else a) (bump 0x0028 1 s)
    modDsp (fun d => { d with room := decide (d.store.length < 4) }) s

/-- The work of the frame before is still running (R22). -/
def passLate (s : State) : Bool := s.dsp.run.isSome || !s.dsp.held.isEmpty

/-- Overrun frames at a tick; the cause is raised at the first of a run (R22, R24, R100). -/
def overrunTick (s : State) : State :=
  if passLate s then
    let first := decide (s.hub.consec = 0)
    let s := bump 0x0020 1 { s with hub := { s.hub with consec := s.hub.consec + 1, clean := 0 } }
    if first then raise .hub 0 2 s else s
  else { s with hub := { s.hub with consec := 0, clean := s.hub.clean + 1 } }

/-- The pass of the present tick starts, or is held (R20, R22). -/
def passTurn (s : State) : State :=
  let s := modDsp (fun d => { d with next := s.ord + 1 }) s
  if hasPass s then
    let s := { s with passes := s.passes ++ [{ o := s.ord, frame := s.frame }] }
    if passLate s then modDsp (fun d => { d with held := d.held ++ [s.ord] }) s else passStart s.ord s
  else s

/-- ECC findings of the frame (R28, R181, R237). -/
def eccTick (i : TickIn) (s : State) : State :=
  let s := forL i.coefUe (fun e a => if e.1 < 32768 then raise .flt (e.1 / 2048) 3 (pgError .flt (e.1 / 2048) stHwFault a) else a) s
  let s := modDsp (fun d => { d with coefBad := i.coefUe }) s
  let s := forL i.corr (fun e a =>
    if e.1 < 16 then bump (fltReg e.1 0x28) e.2 a else if e.1 = 16 then bump 0xF028 e.2 a else a) s
  { s with lin := { s.lin with ue := i.linUe } }

/-- The lanes' frame (R307, R314, R318). -/
def lanesTick (i : TickIn) (s : State) : State :=
  let s := forL i.lanes (fun e a => if e.1 < 8 then laneFrame e.1 e.2.1 e.2.2.1 e.2.2.2 a else a) s
  let s := forL i.dfe (fun e a => if e.1 < 8 then laneTrack e.1 e.2 a else a) s
  let s := forL i.prbs (fun e a => if prbsOn a e.1 && (lane a e.1).prbsLock then prbsCount e.1 e.2.1 e.2.2 a else a) s
  forN 8 injectSend s

/-- TIME ordered sets and the frame's packets (R204, R205, R328); a step tick sends no ordered set. -/
def linksTick (i : TickIn) (sets : Bool) (s : State) : State :=
  let ok (a : State) (n : Nat) : Bool := sets && !sleeping a && decide ((lane a n).st = .up) && !pertOn a .lnk n 4 && i.deps.any (fun d => decide (d.1 = n))
  let s := if sets && !sleeping s then forL i.deps osDepart s else s
  forN 8 (fun n a => linkTick n (ok a n) a) s

/-- Frames counted by slots, periodic lead tests and the session (R92, R117, R161, R201). -/
def countTick (s : State) : State :=
  let s := forN 16 (fun i a => if af a (slotCfgA i) 16 8 = 0 then a else modSlot i (fun x => { x with ticks := x.ticks + 1 }) a) s
  let s := forN 16 (fun ss a =>
    { a with ltTicks := tset 0 a.ltTicks ss (if af a (shfReg ss 0x44) 0 8 = 0 then 0 else tget 0 a.ltTicks ss + 1) }) s
  if s.cmt.st = .closed then s else modCmt (fun c => { c with idle := c.idle + 1 }) s

/-- SLEEP entry begins at the first tick after the acceptance (R68). -/
def sleepTick (s : State) : State := match s.pwr.sleep with
  | .draining 0 p t => excSleep (modPwr (fun x => { x with sleep := .draining s.ord p t }) s)
  | _ => s

/-- SAFE is entered at the tick that completes its cause, ahead of a claim or a swap of the same cycle (R23, R367). -/
def safeTurn (s : State) : State := if safeDue s = 0 then s else safeEnter (safeDue s) s

/-- Perturbations that act once, at the tick at which they take effect: a lockstep mismatch restarts the processor, an error waits for
the next word of a queue or a bank (R426). -/
def pertOnce (s : State) : State :=
  let s := if pertNew s .clk 0 1 then restart s else s
  let bits (k : PageK) : Nat := if pertNew s k 0 2 then 1 else if pertNew s k 0 3 then 2 else 0
  let s := if bits .que = 0 then s else modQueue (pertArg s .que 0) (fun x => { x with inj := bits .que }) s
  if bits .mem = 0 then s else modMem (fun x => { x with inj := tset 0 x.inj (pertArg s .mem 0) (bits .mem) }) s

/-- The work of a tick after the time has come and the copies are active: the tick's exact instant and the last one's; `open_` opens and
closes the stooks. What is due at the tick comes before its pass (DESIGN CHOICE, log entry 218). -/
def tickWork (i : TickIn) (sets : Bool) (at_ from_ : Nat) (ws : List StoreIn) (open_ : Nat → State → State) (s : State) : State :=
  let s := safeTurn (storeFill s.ord from_ ws (overrunTick (pertOnce s)))
  let s := sleepTick (eccTick i (forL i.exc excReading s))
  let s := forN 32 (fun n a => if inService a then open_ n a else strClose n a) s
  let s := linksTick i sets (tmbTick sets (servo s))
  let s := resyncTick (twnTick at_ (pertD2d (d2dTick s)))
  let s := bcnTick (bcnRole s)
  let s := tickPulses sets at_ (countTick (lanesTick i s))
  passTurn (forL i.off offlStep s)

/-- The instant of the next tick on the present scale becomes now (R16). -/
def tickCycle (s : State) : State := { s with c := max s.c (cycleAt s (tickTime s (s.frame + 1))) }

/-- An ordinary tick. -/
def tickPlain (i : TickIn) (s : State) : State :=
  let from_ := min (256 * s.c) (localAt s (tickTime s s.frame))
  let at_ := localAt s (tickTime s (s.frame + 1))
  let r := cicWords i s
  let ws := r.1
  let s := tickCycle r.2
  let s := voteTick i (pertTick { s with frame := s.frame + 1, ord := s.ord + 1 })
  let s := commitApply (finalCheck s)
  tickWork i true at_ from_ ws strTick s

/-! ### A step of the timebase (R196, R197, R215, R220) -/

/-- What an event other than a trigger source does when it fires, at a local instant (R214, R215). -/
def evtAction (e : Nat) (t : Nat) (s : State) : State := match af s (evtCfgA e) 0 4 with
  | 1 => trigOut 0 t s
  | 2 => trigOut 1 t s
  | 4 => raise .tmb 0 4 s
  | 5 => wakeReq (bit (rg s 0x1048) 10) s
  | _ => s

/-- Event e fires: in SLEEP only a wake event does, another is skipped with LATE (R215). One that is a trigger source is left to
the triggers of its cycle. -/
def evtOne (e : Nat) (late : Bool) (t : Nat) (s : State) : List (Nat × Int) × State :=
  if sleeping s && decide (af s (evtCfgA e) 0 4 ≠ 5) then ([], evtNext e (setRg 0x3308 (rg s 0x3308 ||| word (2 ^ (16 + e))) s))
  else
    let at_ := evtAt s e
    let s := evtStat e late (evtNext e s)
    if af s (evtCfgA e) 0 4 = 3 then ([(18, at_)], s) else ([], evtAction e t s)

def evtFire (e : Nat) (late : Bool) (t : Nat) (s : State) : State :=
  let r := evtOne e late t s
  srcsFireAt r.1 r.2

/-- Events whose instants a forward step jumped over fire on the step cycle with LATE, their triggers as those of one cycle (R214,
R250); a periodic one goes on from its next instant. -/
def evtStep (s : State) : State :=
  let r := (List.range 16).foldl (fun (q : List (Nat × Int) × State) e =>
    let a := q.2
    if evtArmed a e && decide (evtAt a e < netNow a) then
      let per := fld (rg a (evtCfgA e)) 8 24
      let gone := if per = 0 then 0 else ((netNow a - evtAt a e) * 8000 / ((per * 2 ^ 64 : Nat) : Int)).toNat
      let a := modTmb (fun x => { x with evtCnt := tset 0 x.evtCnt e (tget 0 x.evtCnt e + gone) }) a
      let x := evtOne e true (256 * a.c) a
      (q.1 ++ x.1, x.2)
    else q) ([], s)
  srcsFireAt r.1 r.2

/-- The tick that carries a step: no ordered set departs, the step frame takes its index from the new scale. -/
def tickStep (i : TickIn) (k : StepK) (s : State) : State :=
  let from_ := min (256 * s.c) (localAt s (tickTime s s.frame))
  let inst := localAt s (tickTime s (s.frame + 1))
  let r := cicWords i s
  let ws := r.1
  let s := tickCycle r.2
  let s := forN 32 (strStep s.ord) s
  let t0 := netNow s
  let s := stepTime k s
  let d := netNow s - t0
  let s := stepCancel { s with ord := s.ord + 1 }
  let s := stepScale d s
  let ws := ws.map (fun w => { w with tn := w.tn + d })
  let s := forN 16 gSkip (forN 8 planStep s)
  let s := flashStep (evtStep (modTwn (fun x => { x with goRx := none, stepped := x.token && x.next.isSome }) s))
  let s := wakeup .step stOk (leBytes 1 (s.tmb.ser % 16) ++ leBytes 3 0) s
  let at_ := netNow s
  tickWork i false inst from_ ws (strStepOpen at_) (voteTick i (pertTick s))

/-- The tick: what the frame's exchanges complete is done on it, a step or the lock (R193, R196). -/
def tick (i : TickIn) (s : State) : State :=
  let s := lockTurn (frameExchange s)
  match s.tmb.step with
  | some k => tickStep i k s
  | none => tickPlain i s

def execMilestoneTick (i : TickIn) (s : State) : Host.Outcome State Fault Refusal := .next (if running s then tick i s else s)

def execTimebaseStep (i : TickIn) (s : State) : Host.Outcome State Fault Refusal :=
  .next (if running s && stepDue s then tick i s else s)

/-- A scheduled event at its instant (R214). -/
def eventFire (e t : Nat) (s : State) : State :=
  let at_ := localAt s (evtAt s e)
  evtFire e false at_ (advance t s)

def execScheduledEventFire (e t : Nat) (s : State) : Host.Outcome State Fault Refusal :=
  .next (if running s && decide (e < 16) && evtArmed s e && decide (evtAt s e ≤ netTime s t) then eventFire e t s else s)

end Sys2Proof.Machine
end

