-- ==== Sys2Proof/Machine/Dispatch.lean ====
section
/-! DEFINITION. One arm per command. -/

namespace Sys2Proof.Machine

open Sys2Proof

/-- The effect of a command on everything but the queue. -/
def exec (i : Instr) (s : State) : Host.Outcome State Fault Refusal :=
  match i with
  | .milestoneTick x => Sys2Proof.Machine.execMilestoneTick x s
  | .dspPassLateStart => Sys2Proof.Machine.execDspPassLateStart s
  | .dspPassEnd ue wv => Sys2Proof.Machine.execDspPassEnd ue wv s
  | .safeEntry => Sys2Proof.Machine.execSafeEntry s
  | .safeCauseCleared => Sys2Proof.Machine.execSafeCauseCleared s
  | .processorRestart => Sys2Proof.Machine.execProcessorRestart s
  | .completionHeldSend => Sys2Proof.Machine.execCompletionHeldSend s
  | .d2dTrained n ok trims => Sys2Proof.Machine.execD2dTrained n ok trims s
  | .d2dWordError n x => Sys2Proof.Machine.execD2dWordError n x s
  | .d2dLaneFail n lane => Sys2Proof.Machine.execD2dLaneFail n lane s
  | .d2dUnrecoverableWord n sheafs => Sys2Proof.Machine.execD2dUnrecoverableWord n sheafs s
  | .d2dTrimRemeasure n trims => Sys2Proof.Machine.execD2dTrimRemeasure n trims s
  | .powerOnReset rail => Sys2Proof.Machine.execPowerOnReset rail s
  | .porRelease st => Sys2Proof.Machine.execPorRelease st s
  | .bootComplete fuseOk romOk f => Sys2Proof.Machine.execBootComplete fuseOk romOk f s
  | .xosLoss off => Sys2Proof.Machine.execXosLoss off s
  | .laneRailLoss lh => Sys2Proof.Machine.execLaneRailLoss lh s
  | .laneRailRestore => Sys2Proof.Machine.execLaneRailRestore s
  | .fieldDieRailLoss n => Sys2Proof.Machine.execFieldDieRailLoss n s
  | .fieldDieRailRestore n => Sys2Proof.Machine.execFieldDieRailRestore n s
  | .dieChannelRestore n => Sys2Proof.Machine.execDieChannelRestore n s
  | .lrefLoss => Sys2Proof.Machine.execLrefLoss s
  | .plllRelock => Sys2Proof.Machine.execPlllRelock s
  | .resetNAssert ns => Sys2Proof.Machine.execResetNAssert ns s
  | .resetNRelease st => Sys2Proof.Machine.execResetNRelease st s
  | .trstNAssert => Sys2Proof.Machine.execTrstNAssert s
  | .sleepDrainDone => Sys2Proof.Machine.execSleepDrainDone s
  | .sleepTimeout => Sys2Proof.Machine.execSleepTimeout s
  | .wakeChannelRestore => Sys2Proof.Machine.execWakeChannelRestore s
  | .registerWrite p a w => Sys2Proof.Machine.execRegisterWrite p a w s
  | .pgErrRead p a => Sys2Proof.Machine.execPgErrRead p a s
  | .counterReadClear p a inc => Sys2Proof.Machine.execCounterReadClear p a inc s
  | .loHalfRead p a => Sys2Proof.Machine.execLoHalfRead p a s
  | .pgIrqClear p a w set => Sys2Proof.Machine.execPgIrqClear p a w set s
  | .pgModeWrite p a mode => Sys2Proof.Machine.execPgModeWrite p a mode s
  | .pgEnableWrite p a en => Sys2Proof.Machine.execPgEnableWrite p a en s
  | .blockSoftReset p a => Sys2Proof.Machine.execBlockSoftReset p a s
  | .cmtOpen p => Sys2Proof.Machine.execCmtOpen p s
  | .cmtCheck p => Sys2Proof.Machine.execCmtCheck p s
  | .checkComplete => Sys2Proof.Machine.execCheckComplete s
  | .cmtArm p => Sys2Proof.Machine.execCmtArm p s
  | .armCheckComplete => Sys2Proof.Machine.execArmCheckComplete s
  | .cmtDisarm p => Sys2Proof.Machine.execCmtDisarm p s
  | .cmtAbandon p => Sys2Proof.Machine.execCmtAbandon p s
  | .finalCheck => Sys2Proof.Machine.execFinalCheck s
  | .commitApply => Sys2Proof.Machine.execCommitApply s
  | .sessionTimeout => Sys2Proof.Machine.execSessionTimeout s
  | .eventPacketSend => Sys2Proof.Machine.execEventPacketSend s
  | .eventRepeat => Sys2Proof.Machine.execEventRepeat s
  | .peakTripUprange g t2 t => Sys2Proof.Machine.execPeakTripUprange g t2 t s
  | .downrangeCount g t => Sys2Proof.Machine.execDownrangeCount g t s
  | .clipDetect g pos t => Sys2Proof.Machine.execClipDetect g pos t s
  | .windowComparatorTrip g p n t => Sys2Proof.Machine.execWindowComparatorTrip g p n t s
  | .windowReturn g t => Sys2Proof.Machine.execWindowReturn g t s
  | .leadDetectorConfirm g d t => Sys2Proof.Machine.execLeadDetectorConfirm g d t s
  | .leadDetectorInactive g d t => Sys2Proof.Machine.execLeadDetectorInactive g d t s
  | .leadRetestTimer g => Sys2Proof.Machine.execLeadRetestTimer g s
  | .shfLtOpens p ss all cc => Sys2Proof.Machine.execShfLtOpens p ss all cc s
  | .shfLtShorts p x => Sys2Proof.Machine.execShfLtShorts p x s
  | .ltPeriodicDue ss => Sys2Proof.Machine.execLtPeriodicDue ss s
  | .leadTestComplete ss f => Sys2Proof.Machine.execLeadTestComplete ss f s
  | .modulatorStart ss t => Sys2Proof.Machine.execModulatorStart ss t s
  | .modulatorFault g t => Sys2Proof.Machine.execModulatorFault g t s
  | .modulatorFaultClear g => Sys2Proof.Machine.execModulatorFaultClear g s
  | .senseExcursion ss k back t => Sys2Proof.Machine.execSenseExcursion ss k back t s
  | .holdReturnShare ss k t => Sys2Proof.Machine.execHoldReturnShare ss k t s
  | .excIlimChange ss k on t => Sys2Proof.Machine.execExcIlimChange ss k on t s
  | .excHeadroomChange ss k on t => Sys2Proof.Machine.execExcHeadroomChange ss k on t s
  | .excLoadCollapse ss k x t => Sys2Proof.Machine.execExcLoadCollapse ss k x t s
  | .excRampComplete ss k t => Sys2Proof.Machine.execExcRampComplete ss k t s
  | .currentSourceExchange g t => Sys2Proof.Machine.execCurrentSourceExchange g t s
  | .refReadySet ss b => Sys2Proof.Machine.execRefReadySet ss b s
  | .refMonitorTrip ss b => Sys2Proof.Machine.execRefMonitorTrip ss b s
  | .refFaultClear ss b => Sys2Proof.Machine.execRefFaultClear ss b s
  | .auxConversionDone n code t ext => Sys2Proof.Machine.execAuxConversionDone n code t ext s
  | .auxSysPassDue n => Sys2Proof.Machine.execAuxSysPassDue n s
  | .auxCjcDue n => Sys2Proof.Machine.execAuxCjcDue n s
  | .auxSlotGo p x => Sys2Proof.Machine.execAuxSlotGo p x s
  | .auxSlotRepeat x => Sys2Proof.Machine.execAuxSlotRepeat x s
  | .auxResultRead p x => Sys2Proof.Machine.execAuxResultRead p x s
  | .fltCdataWrite p ss w => Sys2Proof.Machine.execFltCdataWrite p ss w s
  | .fltCdataRead p ss => Sys2Proof.Machine.execFltCdataRead p ss s
  | .fltCsealWrite p ss w => Sys2Proof.Machine.execFltCsealWrite p ss w s
  | .bankSealResult ss => Sys2Proof.Machine.execBankSealResult ss s
  | .timeOsReceive n ch3 t => Sys2Proof.Machine.execTimeOsReceive n ch3 t s
  | .timePacketReceive n pk t => Sys2Proof.Machine.execTimePacketReceive n pk t s
  | .timeStampDiscard n => Sys2Proof.Machine.execTimeStampDiscard n s
  | .timebaseStep x => Sys2Proof.Machine.execTimebaseStep x s
  | .timebaseLock => Sys2Proof.Machine.execTimebaseLock s
  | .timebaseUnlock => Sys2Proof.Machine.execTimebaseUnlock s
  | .holdoverEntry t => Sys2Proof.Machine.execHoldoverEntry t s
  | .holdoverBoundCross t => Sys2Proof.Machine.execHoldoverBoundCross t s
  | .sourceChange => Sys2Proof.Machine.execSourceChange s
  | .dlyJump n => Sys2Proof.Machine.execDlyJump n s
  | .tmbSnapGo p => Sys2Proof.Machine.execTmbSnapGo p s
  | .rootTodValid p w => Sys2Proof.Machine.execRootTodValid p w s
  | .ppsInEdge t => Sys2Proof.Machine.execPpsInEdge t s
  | .ppsMissing t => Sys2Proof.Machine.execPpsMissing t s
  | .tmbEvtArm p w => Sys2Proof.Machine.execTmbEvtArm p w s
  | .tmbEvtDisarm p w => Sys2Proof.Machine.execTmbEvtDisarm p w s
  | .scheduledEventFire e t => Sys2Proof.Machine.execScheduledEventFire e t s
  | .trigInEdge n e => Sys2Proof.Machine.execTrigInEdge n e s
  | .linIdataAccess p w => Sys2Proof.Machine.execLinIdataAccess p w s
  | .linCopyGo p => Sys2Proof.Machine.execLinCopyGo p s
  | .linCopyDone => Sys2Proof.Machine.execLinCopyDone s
  | .linTsealWrite p t w => Sys2Proof.Machine.execLinTsealWrite p t w s
  | .tableSealResult t => Sys2Proof.Machine.execTableSealResult t s
  | .acqForceGo p t => Sys2Proof.Machine.execAcqForceGo p t s
  | .trigPacketReceive n lseq k t => Sys2Proof.Machine.execTrigPacketReceive n lseq k t s
  | .cpArm p j => Sys2Proof.Machine.execCpArm p j s
  | .cpDisarm p j => Sys2Proof.Machine.execCpDisarm p j s
  | .cpRelease p j => Sys2Proof.Machine.execCpRelease p j s
  | .cpOffload p j => Sys2Proof.Machine.execCpOffload p j s
  | .offloadDone j ecc => Sys2Proof.Machine.execOffloadDone j ecc s
  | .queFlushStook p q => Sys2Proof.Machine.execQueFlushStook p q s
  | .stookFlushEffect q => Sys2Proof.Machine.execStookFlushEffect q s
  | .queFlushWord p q => Sys2Proof.Machine.execQueFlushWord p q s
  | .queRwdGo p => Sys2Proof.Machine.execQueRwdGo p s
  | .arcGo p w => Sys2Proof.Machine.execArcGo p w s
  | .arcCancel p => Sys2Proof.Machine.execArcCancel p s
  | .arcJobEnd blocks ecc => Sys2Proof.Machine.execArcJobEnd blocks ecc s
  | .dcmpGo p w => Sys2Proof.Machine.execDcmpGo p w s
  | .dcmpCancel p => Sys2Proof.Machine.execDcmpCancel p s
  | .dcmpJobEnd blocks ecc => Sys2Proof.Machine.execDcmpJobEnd blocks ecc s
  | .losPinAssert n t => Sys2Proof.Machine.execLosPinAssert n t s
  | .losIntAssert n t => Sys2Proof.Machine.execLosIntAssert n t s
  | .cdrLol n t => Sys2Proof.Machine.execCdrLol n t s
  | .alignmentLoss n x => Sys2Proof.Machine.execAlignmentLoss n x s
  | .laneAlign n commas => Sys2Proof.Machine.execLaneAlign n commas s
  | .orderedSetReceive n off rd syms run => Sys2Proof.Machine.execOrderedSetReceive n off rd syms run s
  | .laneUp n t => Sys2Proof.Machine.execLaneUp n t s
  | .rateStepSwitch x => Sys2Proof.Machine.execRateStepSwitch x s
  | .rateStepTimeout n t => Sys2Proof.Machine.execRateStepTimeout n t s
  | .failmaskExpire n c => Sys2Proof.Machine.execFailmaskExpire n c s
  | .lnClrfail p n => Sys2Proof.Machine.execLnClrfail p n s
  | .eqAcquisitionDone n fom foms dfe => Sys2Proof.Machine.execEqAcquisitionDone n fom foms dfe s
  | .laneDegrade n => Sys2Proof.Machine.execLaneDegrade n s
  | .laneRecover n => Sys2Proof.Machine.execLaneRecover n s
  | .laneDwellExpire n t => Sys2Proof.Machine.execLaneDwellExpire n t s
  | .prbsCheckerLock x => Sys2Proof.Machine.execPrbsCheckerLock x s
  | .prbsCheckerUnlock x => Sys2Proof.Machine.execPrbsCheckerUnlock x s
  | .prbsInject p n => Sys2Proof.Machine.execPrbsInject p n s
  | .prbsChkEnable p n => Sys2Proof.Machine.execPrbsChkEnable p n s
  | .stookPacketReceive n pk => Sys2Proof.Machine.execStookPacketReceive n pk s
  | .mgmtCommandReceive n pk => Sys2Proof.Machine.execMgmtCommandReceive n pk s
  | .mgmtRegRead n pk hits => Sys2Proof.Machine.execMgmtRegRead n pk hits s
  | .mgmtRegWrite n pk hits => Sys2Proof.Machine.execMgmtRegWrite n pk hits s
  | .mgmtReservedDiscard n pk => Sys2Proof.Machine.execMgmtReservedDiscard n pk s
  | .leasePacketReceive n m t => Sys2Proof.Machine.execLeasePacketReceive n m t s
  | .ackReceive n k => Sys2Proof.Machine.execAckReceive n k s
  | .nakReceive n k => Sys2Proof.Machine.execNakReceive n k s
  | .idlePacketReceive n k => Sys2Proof.Machine.execIdlePacketReceive n k s
  | .packetCrcDiscard n seq => Sys2Proof.Machine.execPacketCrcDiscard n seq s
  | .sequencedPacketAccept n pk hits => Sys2Proof.Machine.execSequencedPacketAccept n pk hits s
  | .ackTimer n => Sys2Proof.Machine.execAckTimer n s
  | .nakRepeat n => Sys2Proof.Machine.execNakRepeat n s
  | .retxTimeout n t => Sys2Proof.Machine.execRetxTimeout n t s
  | .keepaliveLoss n t => Sys2Proof.Machine.execKeepaliveLoss n t s
  | .packetTransmit n t ecc => Sys2Proof.Machine.execPacketTransmit n t ecc s
  | .tokenClaim t => Sys2Proof.Machine.execTokenClaim t s
  | .tokenRelease t => Sys2Proof.Machine.execTokenRelease t s
  | .swapAnnounce => Sys2Proof.Machine.execSwapAnnounce s
  | .roleSwap t => Sys2Proof.Machine.execRoleSwap t s
  | .twnSwapReq p => Sys2Proof.Machine.execTwnSwapReq p s
  | .twnResyncReq p => Sys2Proof.Machine.execTwnResyncReq p s
  | .twnAbort p => Sys2Proof.Machine.execTwnAbort p s
  | .resyncPhaseAdvance => Sys2Proof.Machine.execResyncPhaseAdvance s
  | .resyncFail => Sys2Proof.Machine.execResyncFail s
  | .resyncRetry => Sys2Proof.Machine.execResyncRetry s
  | .confSoloClear => Sys2Proof.Machine.execConfSoloClear s
  | .memBankCfgWrite p b w => Sys2Proof.Machine.execMemBankCfgWrite p b w s
  | .memWindowRead p h => Sys2Proof.Machine.execMemWindowRead p h s
  | .memWindowWrite p lo hi h => Sys2Proof.Machine.execMemWindowWrite p lo hi h s
  | .scrubStep errs => Sys2Proof.Machine.execScrubStep errs s
  | .memRepairGo p w => Sys2Proof.Machine.execMemRepairGo p w s
  | .memTestGo p w => Sys2Proof.Machine.execMemTestGo p w s
  | .memTestDone fails sub col => Sys2Proof.Machine.execMemTestDone fails sub col s
  | .hostRd aw hits => Sys2Proof.Machine.execHostRd aw hits s
  | .hostWr aw ws hits => Sys2Proof.Machine.execHostWr aw ws hits s
  | .hostRdsr => Sys2Proof.Machine.execHostRdsr s
  | .hostMbpush bytes => Sys2Proof.Machine.execHostMbpush bytes s
  | .hostMbpop n => Sys2Proof.Machine.execHostMbpop n s
  | .hostSetgen b => Sys2Proof.Machine.execHostSetgen b s
  | .hostRstgen => Sys2Proof.Machine.execHostRstgen s
  | .hostUnknownInstr x => Sys2Proof.Machine.execHostUnknownInstr x s
  | .hostCsAbort wr hits => Sys2Proof.Machine.execHostCsAbort wr hits s
  | .commandAccept p => Sys2Proof.Machine.execCommandAccept p s
  | .completionDeliver p => Sys2Proof.Machine.execCompletionDeliver p s
  | .hubIdentify p tag => Sys2Proof.Machine.execHubIdentify p tag s
  | .hubStatusCmd p tag => Sys2Proof.Machine.execHubStatusCmd p tag s
  | .hubSleep p tag => Sys2Proof.Machine.execHubSleep p tag s
  | .hubWake p tag => Sys2Proof.Machine.execHubWake p tag s
  | .cmdNop p tag => Sys2Proof.Machine.execCmdNop p tag s
  | .cmdCancel p tag => Sys2Proof.Machine.execCmdCancel p tag s
  | .cfgOpen p tag => Sys2Proof.Machine.execCfgOpen p tag s
  | .cfgCheck p tag => Sys2Proof.Machine.execCfgCheck p tag s
  | .cfgApplyAt p tag => Sys2Proof.Machine.execCfgApplyAt p tag s
  | .cfgAbandon p tag => Sys2Proof.Machine.execCfgAbandon p tag s
  | .cfgImageLoad p tag ecc => Sys2Proof.Machine.execCfgImageLoad p tag ecc s
  | .cfgImageSave p tag ecc => Sys2Proof.Machine.execCfgImageSave p tag ecc s
  | .chSetSensor p tag => Sys2Proof.Machine.execChSetSensor p tag s
  | .chSetRate p tag => Sys2Proof.Machine.execChSetRate p tag s
  | .chEnable p tag => Sys2Proof.Machine.execChEnable p tag s
  | .chAutorange p tag => Sys2Proof.Machine.execChAutorange p tag s
  | .chSpotRead p tag => Sys2Proof.Machine.execChSpotRead p tag s
  | .chLeadTest p tag => Sys2Proof.Machine.execChLeadTest p tag s
  | .shfRefEnable p tag => Sys2Proof.Machine.execShfRefEnable p tag s
  | .shfExcSet p tag => Sys2Proof.Machine.execShfExcSet p tag s
  | .fltLoadBank p tag => Sys2Proof.Machine.execFltLoadBank p tag s
  | .timeStatus p tag => Sys2Proof.Machine.execTimeStatus p tag s
  | .timeStep p tag => Sys2Proof.Machine.execTimeStep p tag s
  | .timeSetAsym p tag => Sys2Proof.Machine.execTimeSetAsym p tag s
  | .timeSchedule p tag => Sys2Proof.Machine.execTimeSchedule p tag s
  | .acqArm p tag => Sys2Proof.Machine.execAcqArm p tag s
  | .acqDisarm p tag => Sys2Proof.Machine.execAcqDisarm p tag s
  | .acqForce p tag => Sys2Proof.Machine.execAcqForce p tag s
  | .acqOffload p tag => Sys2Proof.Machine.execAcqOffload p tag s
  | .gleanSet p tag => Sys2Proof.Machine.execGleanSet p tag s
  | .memAssign p tag => Sys2Proof.Machine.execMemAssign p tag s
  | .memRead p tag hits => Sys2Proof.Machine.execMemRead p tag hits s
  | .memWrite p tag hits => Sys2Proof.Machine.execMemWrite p tag hits s
  | .memTest p tag => Sys2Proof.Machine.execMemTest p tag s
  | .linkStatus p tag => Sys2Proof.Machine.execLinkStatus p tag s
  | .linkRoute p tag => Sys2Proof.Machine.execLinkRoute p tag s
  | .linkPrbs p tag => Sys2Proof.Machine.execLinkPrbs p tag s
  | .linkPrbsEnd n => Sys2Proof.Machine.execLinkPrbsEnd n s
  | .streamSet p tag => Sys2Proof.Machine.execStreamSet p tag s
  | .twinStatus p tag => Sys2Proof.Machine.execTwinStatus p tag s
  | .twinSwapNow p tag => Sys2Proof.Machine.execTwinSwapNow p tag s
  | .twinSetLease p tag => Sys2Proof.Machine.execTwinSetLease p tag s
  | .bcnSet p tag => Sys2Proof.Machine.execBcnSet p tag s
  | .bcnSchedule p tag => Sys2Proof.Machine.execBcnSchedule p tag s
  | .bcnDiag p tag => Sys2Proof.Machine.execBcnDiag p tag s
  | .diagCounters p tag => Sys2Proof.Machine.execDiagCounters p tag s
  | .diagBist p tag => Sys2Proof.Machine.execDiagBist p tag s
  | .diagPerturb p tag => Sys2Proof.Machine.execDiagPerturb p tag s
  | .bistDone pass detail => Sys2Proof.Machine.execBistDone pass detail s
  | .bcnFlashOn m t => Sys2Proof.Machine.execBcnFlashOn m t s
  | .bcnFlashOff m t => Sys2Proof.Machine.execBcnFlashOff m t s
  | .bcnMeasure m sense drain lim t => Sys2Proof.Machine.execBcnMeasure m sense drain lim t s
  | .bcnDiagPulse m t => Sys2Proof.Machine.execBcnDiagPulse m t s
  | .bcnOvpTrip => Sys2Proof.Machine.execBcnOvpTrip s
  | .bcnOvpRelease => Sys2Proof.Machine.execBcnOvpRelease s
  | .bcnUntestedTimeout m => Sys2Proof.Machine.execBcnUntestedTimeout m s
  | .bcnDiagCmdGo p w => Sys2Proof.Machine.execBcnDiagCmdGo p w s
  | .bcnAdjTestDone reads => Sys2Proof.Machine.execBcnAdjTestDone reads s
  | .bcnSchArm p m => Sys2Proof.Machine.execBcnSchArm p m s
  | .bcnSchDisarm p m => Sys2Proof.Machine.execBcnSchDisarm p m s
  | .bchShiftStart t => Sys2Proof.Machine.execBchShiftStart t s
  | .bchShiftDone ret => Sys2Proof.Machine.execBchShiftDone ret s
  | .tstLockWrite off w => Sys2Proof.Machine.execTstLockWrite off w s
  | .tstUnlockExpire => Sys2Proof.Machine.execTstUnlockExpire s
  | .pgPerturbWrite p a w => Sys2Proof.Machine.execPgPerturbWrite p a w s
  | .perturbCountExpire a => Sys2Proof.Machine.execPerturbCountExpire a s
  | .jtagInstruction x => Sys2Proof.Machine.execJtagInstruction x s
  | .coreRailPresent => Sys2Proof.Machine.execCoreRailPresent s
  | .xosRestored => Sys2Proof.Machine.execXosRestored s
  | .laneSignalPresent n => Sys2Proof.Machine.execLaneSignalPresent n s
  | .outgoingShareEntry ss k t => Sys2Proof.Machine.execOutgoingShareEntry ss k t s
  | .timingPulseEnd pin t => Sys2Proof.Machine.execTimingPulseEnd pin t s

end Sys2Proof.Machine
end

