-- ==== Sys2Proof/Machine/Parts.lean ====
section
/-! DEFINITION. Which parts of the hub each command may change, one line per row: the frame of every command at once. -/

namespace Sys2Proof.Machine

open Sys2Proof

/-- The parts of the state, one per field; `words` are the words of the capture memory within `mem`. -/
inductive Part
  | c | frame | ord | freeIdx | regs | staged | dspPend | dspQ | hiLatch | rd | pwr | dies | hub | dsp | cmt | evt |
  chans | taps | lts | ltWait | ltRes | ltTicks | modStart | startAt | restart | excs | refs | auxs | slots | coef |
  cbanks | profs | sealing | tmb | seqAgree | lin | lanes | passes | grecs | streams | queues | rwdSt | tunits | plans |
  gunits | dups | pubId | arc | dcmp | mem | rtePath | twn | bcn | jtag | hst | tst | flight | compl | words
  deriving DecidableEq, Repr

/-- `t` differs from `s` in the given parts only; the queue of waiting commands is none of them. -/
structure OnlyParts (l : List Part) (s t : State) : Prop where
  c : .c ∈ l ∨ t.c = s.c
  frame : .frame ∈ l ∨ t.frame = s.frame
  ord : .ord ∈ l ∨ t.ord = s.ord
  freeIdx : .freeIdx ∈ l ∨ t.freeIdx = s.freeIdx
  regs : .regs ∈ l ∨ t.regs = s.regs
  staged : .staged ∈ l ∨ t.staged = s.staged
  dspPend : .dspPend ∈ l ∨ t.dspPend = s.dspPend
  dspQ : .dspQ ∈ l ∨ t.dspQ = s.dspQ
  hiLatch : .hiLatch ∈ l ∨ t.hiLatch = s.hiLatch
  rd : .rd ∈ l ∨ t.rd = s.rd
  pwr : .pwr ∈ l ∨ t.pwr = s.pwr
  dies : .dies ∈ l ∨ t.dies = s.dies
  hub : .hub ∈ l ∨ t.hub = s.hub
  dsp : .dsp ∈ l ∨ t.dsp = s.dsp
  cmt : .cmt ∈ l ∨ t.cmt = s.cmt
  evt : .evt ∈ l ∨ t.evt = s.evt
  chans : .chans ∈ l ∨ t.chans = s.chans
  taps : .taps ∈ l ∨ t.taps = s.taps
  lts : .lts ∈ l ∨ t.lts = s.lts
  ltWait : .ltWait ∈ l ∨ t.ltWait = s.ltWait
  ltRes : .ltRes ∈ l ∨ t.ltRes = s.ltRes
  ltTicks : .ltTicks ∈ l ∨ t.ltTicks = s.ltTicks
  modStart : .modStart ∈ l ∨ t.modStart = s.modStart
  startAt : .startAt ∈ l ∨ t.startAt = s.startAt
  restart : .restart ∈ l ∨ t.restart = s.restart
  excs : .excs ∈ l ∨ t.excs = s.excs
  refs : .refs ∈ l ∨ t.refs = s.refs
  auxs : .auxs ∈ l ∨ t.auxs = s.auxs
  slots : .slots ∈ l ∨ t.slots = s.slots
  coef : .coef ∈ l ∨ t.coef = s.coef
  cbanks : .cbanks ∈ l ∨ t.cbanks = s.cbanks
  profs : .profs ∈ l ∨ t.profs = s.profs
  sealing : .sealing ∈ l ∨ t.sealing = s.sealing
  tmb : .tmb ∈ l ∨ t.tmb = s.tmb
  seqAgree : .seqAgree ∈ l ∨ t.seqAgree = s.seqAgree
  lin : .lin ∈ l ∨ t.lin = s.lin
  lanes : .lanes ∈ l ∨ t.lanes = s.lanes
  passes : .passes ∈ l ∨ t.passes = s.passes
  grecs : .grecs ∈ l ∨ t.grecs = s.grecs
  streams : .streams ∈ l ∨ t.streams = s.streams
  queues : .queues ∈ l ∨ t.queues = s.queues
  rwdSt : .rwdSt ∈ l ∨ t.rwdSt = s.rwdSt
  tunits : .tunits ∈ l ∨ t.tunits = s.tunits
  plans : .plans ∈ l ∨ t.plans = s.plans
  gunits : .gunits ∈ l ∨ t.gunits = s.gunits
  dups : .dups ∈ l ∨ t.dups = s.dups
  pubId : .pubId ∈ l ∨ t.pubId = s.pubId
  arc : .arc ∈ l ∨ t.arc = s.arc
  dcmp : .dcmp ∈ l ∨ t.dcmp = s.dcmp
  mem : .mem ∈ l ∨ t.mem = s.mem
  rtePath : .rtePath ∈ l ∨ t.rtePath = s.rtePath
  twn : .twn ∈ l ∨ t.twn = s.twn
  bcn : .bcn ∈ l ∨ t.bcn = s.bcn
  jtag : .jtag ∈ l ∨ t.jtag = s.jtag
  hst : .hst ∈ l ∨ t.hst = s.hst
  tst : .tst ∈ l ∨ t.tst = s.tst
  flight : .flight ∈ l ∨ t.flight = s.flight
  compl : .compl ∈ l ∨ t.compl = s.compl
  words : .words ∈ l ∨ t.mem.words = s.mem.words
  pending : t.pending = s.pending

/-- A whole-hub reset. -/
def partsReset : List Part :=
  [.c, .frame, .ord, .regs, .staged, .dspPend, .dspQ, .hiLatch, .pwr, .dies, .hub, .dsp, .cmt, .evt, .chans, .taps,
   .lts, .ltWait, .ltRes, .ltTicks, .modStart, .startAt, .restart, .excs, .refs, .auxs, .slots, .coef, .cbanks,
   .profs, .sealing, .tmb, .seqAgree, .lin, .lanes, .passes, .grecs, .streams, .queues, .rwdSt, .tunits, .plans,
   .gunits, .dups, .pubId, .arc, .dcmp, .mem, .rtePath, .twn, .bcn, .jtag, .hst, .tst, .flight, .compl, .words]

/-- A reset whose outcome may be free. -/
def partsResetFree : List Part :=
  [.c, .frame, .ord, .freeIdx, .regs, .staged, .dspPend, .dspQ, .hiLatch, .pwr, .dies, .hub, .dsp, .cmt, .evt,
   .chans, .taps, .lts, .ltWait, .ltRes, .ltTicks, .modStart, .startAt, .restart, .excs, .refs, .auxs, .slots,
   .coef, .cbanks, .profs, .sealing, .tmb, .seqAgree, .lin, .lanes, .passes, .grecs, .streams, .queues, .rwdSt,
   .tunits, .plans, .gunits, .dups, .pubId, .arc, .dcmp, .mem, .rtePath, .twn, .bcn, .jtag, .hst, .tst, .flight,
   .compl, .words]

/-- A MGMT packet, which may carry any register access or command. -/
def partsMgmt : List Part :=
  [.frame, .freeIdx, .regs, .staged, .dspPend, .dspQ, .hiLatch, .rd, .hub, .dsp, .cmt, .evt, .chans, .taps, .lts,
   .ltRes, .excs, .refs, .auxs, .slots, .coef, .cbanks, .profs, .sealing, .tmb, .lin, .lanes, .queues, .rwdSt,
   .tunits, .plans, .gunits, .dups, .pubId, .arc, .dcmp, .mem, .rtePath, .twn, .bcn, .hst, .tst, .flight, .compl,
   .words]

/-- A direct write of any register, alone or in a burst. -/
def partsWrite : List Part :=
  [.frame, .freeIdx, .regs, .staged, .dspPend, .dspQ, .hub, .dsp, .cmt, .evt, .chans, .taps, .lts, .ltRes, .excs,
   .refs, .auxs, .slots, .coef, .cbanks, .profs, .sealing, .tmb, .lin, .lanes, .queues, .rwdSt, .tunits, .plans,
   .gunits, .dups, .pubId, .arc, .dcmp, .mem, .rtePath, .twn, .bcn, .hst, .tst, .flight, .compl, .words]

/-- The voted tick. -/
def partsTick : List Part :=
  [.c, .frame, .ord, .freeIdx, .regs, .staged, .dspPend, .dspQ, .pwr, .dies, .hub, .dsp, .cmt, .evt, .chans, .taps,
   .lts, .ltWait, .ltRes, .ltTicks, .startAt, .excs, .refs, .auxs, .slots, .profs, .tmb, .seqAgree, .lin, .lanes,
   .passes, .streams, .queues, .tunits, .plans, .gunits, .dups, .pubId, .mem, .rtePath, .twn, .bcn, .hst, .tst,
   .flight, .compl, .words]

/-- The loss of a lane. -/
def partsLaneLoss : List Part :=
  [.c, .freeIdx, .regs, .evt, .chans, .excs, .auxs, .lanes, .queues, .mem, .rtePath, .twn, .hst]

/-- A read of any register. -/
def partsRead : List Part :=
  [.freeIdx, .regs, .hiLatch, .rd, .evt, .chans, .slots, .mem]

/-- A command that stages copies. -/
def partsStage : List Part :=
  [.regs, .staged, .cmt, .flight, .compl]

/-- An action of the session. -/
def partsSession : List Part :=
  [.regs, .staged, .cmt, .evt, .auxs, .flight, .compl]

/-- A command that only ends. -/
def partsCommand : List Part :=
  [.regs, .flight, .compl]

/-- The parts that a command may change. -/
def mayChange : Instr → List Part
  | .milestoneTick _ => partsTick
  | .dspPassLateStart => [.freeIdx, .regs, .dspPend, .dspQ, .dsp, .evt, .chans, .taps, .lts, .ltWait, .ltRes, .startAt, .auxs, .profs, .tmb, .lanes, .passes, .tunits, .plans, .gunits, .dups, .pubId, .mem, .flight, .compl]
  | .dspPassEnd _ _ => [.regs, .dsp, .evt, .chans, .taps, .lts, .ltWait, .ltRes, .startAt, .refs, .auxs, .profs, .tmb, .passes, .grecs, .streams, .queues, .plans, .gunits, .mem, .flight, .compl, .words]
  | .safeEntry => [.regs, .hub, .evt, .taps, .lanes, .plans, .gunits, .mem, .twn]
  | .safeCauseCleared => [.hub]
  | .processorRestart => [.regs, .staged, .cmt, .evt, .lanes, .mem, .twn, .hst, .flight, .compl]
  | .completionHeldSend => [.lanes, .compl]
  | .d2dTrained _ _ _ => [.regs, .dies, .evt, .chans, .lts, .ltWait, .ltRes, .startAt, .refs, .auxs, .slots, .flight, .compl]
  | .d2dWordError _ _ => [.regs, .dies, .evt, .chans, .lts, .ltWait, .ltRes, .startAt, .auxs, .flight, .compl]
  | .d2dLaneFail _ _ => [.regs, .dies, .evt, .chans, .lts, .ltWait, .ltRes, .startAt, .auxs, .flight, .compl]
  | .d2dUnrecoverableWord _ _ => [.regs, .evt, .chans]
  | .d2dTrimRemeasure _ _ => [.dies]
  | .powerOnReset _ => partsReset
  | .porRelease _ => [.pwr, .hub]
  | .bootComplete _ _ _ => [.frame, .regs, .staged, .pwr, .hub, .cmt, .evt, .lanes, .mem, .twn, .hst]
  | .xosLoss _ => partsResetFree
  | .laneRailLoss _ => [.freeIdx, .regs, .pwr, .evt, .chans, .excs, .auxs, .lanes, .queues, .mem, .rtePath, .twn, .hst]
  | .laneRailRestore => [.pwr]
  | .fieldDieRailLoss _ => [.regs, .dies, .evt, .chans, .lts, .ltWait, .ltRes, .startAt, .excs, .refs, .auxs, .slots, .flight, .compl]
  | .fieldDieRailRestore _ => [.dies]
  | .dieChannelRestore _ => [.freeIdx, .regs, .dies, .evt, .chans, .taps, .modStart, .startAt, .restart, .excs, .auxs]
  | .lrefLoss => [.freeIdx, .regs, .pwr, .evt, .chans, .excs, .auxs, .lanes, .queues, .mem, .rtePath, .twn, .hst]
  | .plllRelock => [.pwr]
  | .resetNAssert _ => partsResetFree
  | .resetNRelease _ => [.pwr, .hub]
  | .trstNAssert => [.jtag]
  | .sleepDrainDone => [.freeIdx, .regs, .pwr, .dies, .hub, .evt, .chans, .lts, .ltWait, .ltRes, .excs, .refs, .auxs, .slots, .tmb, .lanes, .queues, .mem, .rtePath, .twn, .bcn, .hst, .flight, .compl]
  | .sleepTimeout => [.regs, .pwr, .evt, .chans, .refs, .lanes, .queues, .mem, .rtePath, .twn, .hst, .flight, .compl]
  | .wakeChannelRestore => [.freeIdx, .regs, .pwr, .hub, .evt, .chans, .taps, .modStart, .startAt, .restart, .excs, .auxs, .flight, .compl]
  | .registerWrite _ _ _ => partsWrite
  | .pgErrRead _ _ => partsRead
  | .counterReadClear _ _ _ => partsRead
  | .loHalfRead _ _ => partsRead
  | .pgIrqClear _ _ _ _ => [.regs, .evt]
  | .pgModeWrite _ _ _ => [.regs]
  | .pgEnableWrite _ _ _ => [.regs]
  | .blockSoftReset _ _ => [.frame, .freeIdx, .regs, .staged, .dspPend, .dspQ, .dsp, .evt, .chans, .taps, .excs, .refs, .auxs, .slots, .profs, .tmb, .lanes, .queues, .tunits, .plans, .gunits, .mem, .rtePath, .twn, .bcn, .hst, .tst, .words]
  | .cmtOpen _ => partsSession
  | .cmtCheck _ => partsSession
  | .checkComplete => [.regs, .cmt, .evt, .auxs, .flight, .compl]
  | .cmtArm _ => partsSession
  | .armCheckComplete => [.regs, .staged, .cmt, .evt, .auxs, .twn, .flight, .compl]
  | .cmtDisarm _ => partsSession
  | .cmtAbandon _ => partsSession
  | .finalCheck => [.regs, .staged, .cmt, .evt, .twn, .flight, .compl]
  | .commitApply => [.frame, .freeIdx, .regs, .staged, .dspPend, .dspQ, .pwr, .dies, .hub, .cmt, .evt, .chans, .lts, .ltWait, .ltRes, .excs, .refs, .auxs, .slots, .tmb, .lanes, .streams, .queues, .mem, .rtePath, .twn, .bcn, .hst, .flight, .compl]
  | .sessionTimeout => [.regs, .staged, .cmt, .evt, .flight, .compl]
  | .eventPacketSend => [.evt, .lanes]
  | .eventRepeat => [.evt, .lanes]
  | .peakTripUprange _ _ _ => [.c, .regs, .evt, .chans]
  | .downrangeCount _ _ => [.c, .regs, .evt, .chans]
  | .clipDetect _ _ _ => [.c, .regs, .evt, .chans]
  | .windowComparatorTrip _ _ _ _ => [.c, .regs, .evt, .chans, .auxs]
  | .windowReturn _ _ => [.c, .regs, .evt, .chans, .auxs]
  | .leadDetectorConfirm _ _ _ => [.c, .regs, .evt, .chans, .excs]
  | .leadDetectorInactive _ _ _ => [.c, .chans, .excs, .auxs]
  | .leadRetestTimer _ => [.chans, .auxs]
  | .shfLtOpens _ _ _ _ => [.regs, .evt, .lts, .ltRes, .auxs, .flight, .compl]
  | .shfLtShorts _ _ => [.regs, .chans, .lts, .ltRes, .auxs]
  | .ltPeriodicDue _ => [.regs, .evt, .lts, .ltWait, .ltRes, .ltTicks, .auxs, .flight, .compl]
  | .leadTestComplete _ _ => [.regs, .evt, .chans, .lts, .ltWait, .ltRes, .auxs, .flight, .compl]
  | .modulatorStart _ _ => [.c, .regs, .evt, .chans, .taps, .modStart, .startAt, .restart]
  | .modulatorFault _ _ => [.c, .regs, .evt, .chans, .lts, .ltWait, .ltRes, .startAt, .auxs, .flight, .compl]
  | .modulatorFaultClear _ => [.startAt]
  | .senseExcursion _ _ _ _ => [.c, .freeIdx, .regs, .evt, .chans, .excs, .auxs]
  | .holdReturnShare _ _ _ => [.c, .regs, .evt, .chans, .excs, .auxs]
  | .excIlimChange _ _ _ _ => [.c, .regs, .evt, .chans, .excs]
  | .excHeadroomChange _ _ _ _ => [.c, .regs, .evt, .chans, .excs]
  | .excLoadCollapse _ _ _ _ => [.c, .regs, .evt, .chans, .excs, .auxs]
  | .excRampComplete _ _ _ => [.c, .chans, .excs]
  | .currentSourceExchange _ _ => [.c, .chans]
  | .refReadySet _ _ => [.regs, .evt, .refs, .flight, .compl]
  | .refMonitorTrip _ _ => [.regs, .evt, .refs]
  | .refFaultClear _ _ => [.refs]
  | .auxConversionDone _ _ _ _ => [.c, .regs, .evt, .chans, .lts, .ltWait, .ltRes, .refs, .auxs, .slots, .flight, .compl]
  | .auxSysPassDue _ => [.auxs]
  | .auxCjcDue _ => [.auxs]
  | .auxSlotGo _ _ => [.regs, .evt, .auxs, .slots]
  | .auxSlotRepeat _ => [.regs, .evt, .auxs, .slots]
  | .auxResultRead _ _ => [.rd, .slots]
  | .fltCdataWrite _ _ _ => [.regs, .coef, .cbanks]
  | .fltCdataRead _ _ => [.regs, .rd]
  | .fltCsealWrite _ _ _ => [.regs, .sealing]
  | .bankSealResult _ => [.regs, .evt, .cbanks, .sealing]
  | .timeOsReceive _ _ _ => [.c, .tmb]
  | .timePacketReceive _ _ _ => [.c, .regs, .evt, .tmb]
  | .timeStampDiscard _ => [.tmb]
  | .timebaseStep _ => partsTick
  | .timebaseLock => [.regs, .evt, .tmb]
  | .timebaseUnlock => [.regs, .evt, .tmb]
  | .holdoverEntry _ => [.c, .regs, .evt, .tmb]
  | .holdoverBoundCross _ => [.c, .tmb]
  | .sourceChange => [.regs, .evt, .tmb]
  | .dlyJump _ => [.regs, .evt, .tmb]
  | .tmbSnapGo _ => [.regs, .tmb]
  | .rootTodValid _ _ => [.regs, .tmb]
  | .ppsInEdge _ => [.c, .regs, .evt, .tmb]
  | .ppsMissing _ => [.c, .regs, .evt, .tmb]
  | .tmbEvtArm _ _ => [.regs, .tmb]
  | .tmbEvtDisarm _ _ => [.regs, .tmb]
  | .scheduledEventFire _ _ => [.c, .regs, .pwr, .evt, .chans, .taps, .refs, .tmb, .lanes, .queues, .plans, .dups, .pubId, .mem, .rtePath, .twn, .hst, .flight, .compl]
  | .trigInEdge _ _ => [.c, .regs, .evt, .taps, .tmb, .lanes, .plans, .dups, .pubId]
  | .linIdataAccess _ _ => [.regs, .rd, .lin]
  | .linCopyGo _ => [.regs, .lin]
  | .linCopyDone => [.regs, .evt, .lin]
  | .linTsealWrite _ _ _ => [.regs, .lin]
  | .tableSealResult _ => [.regs, .evt, .lin]
  | .acqForceGo _ _ => [.c, .regs, .evt, .taps, .tmb, .lanes, .plans, .dups, .pubId]
  | .trigPacketReceive _ _ _ _ => [.c, .regs, .evt, .taps, .lanes, .plans, .dups]
  | .cpArm _ _ => [.regs, .evt, .taps, .plans, .mem]
  | .cpDisarm _ _ => [.regs, .evt, .taps, .plans, .mem]
  | .cpRelease _ _ => [.regs, .evt, .taps, .plans, .mem]
  | .cpOffload _ _ => [.regs, .evt, .taps, .plans, .mem]
  | .offloadDone _ _ => [.regs, .evt, .taps, .queues, .plans, .mem, .flight, .compl, .words]
  | .queFlushStook _ _ => [.regs, .evt, .queues, .mem]
  | .stookFlushEffect _ => [.regs, .evt, .queues, .mem]
  | .queFlushWord _ _ => [.regs, .evt, .queues, .plans, .mem]
  | .queRwdGo _ => [.regs, .evt, .queues, .rwdSt]
  | .arcGo _ _ => [.regs, .evt, .arc, .mem]
  | .arcCancel _ => [.regs, .evt, .arc, .mem]
  | .arcJobEnd _ _ => [.regs, .evt, .arc, .mem, .words]
  | .dcmpGo _ _ => [.regs, .evt, .dcmp, .mem]
  | .dcmpCancel _ => [.regs, .evt, .dcmp, .mem]
  | .dcmpJobEnd _ _ => [.freeIdx, .regs, .evt, .dcmp, .mem, .words]
  | .losPinAssert _ _ => partsLaneLoss
  | .losIntAssert _ _ => partsLaneLoss
  | .cdrLol _ _ => partsLaneLoss
  | .alignmentLoss _ _ => partsLaneLoss
  | .laneAlign _ _ => [.regs, .evt, .lanes]
  | .orderedSetReceive _ _ _ _ _ => [.regs, .evt, .lanes, .queues, .mem, .rtePath, .twn, .hst]
  | .laneUp _ _ => [.c, .regs, .evt, .tmb, .lanes, .queues, .mem, .rtePath, .twn, .hst]
  | .rateStepSwitch _ => [.regs, .evt, .lanes]
  | .rateStepTimeout _ _ => partsLaneLoss
  | .failmaskExpire _ _ => [.regs, .evt, .lanes, .queues, .mem, .rtePath, .twn, .hst]
  | .lnClrfail _ _ => [.regs, .evt, .lanes, .queues, .mem, .rtePath, .twn, .hst]
  | .eqAcquisitionDone _ _ _ _ => [.lanes]
  | .laneDegrade _ => [.regs, .evt, .lanes]
  | .laneRecover _ => [.regs, .evt, .tmb, .lanes]
  | .laneDwellExpire _ _ => partsLaneLoss
  | .prbsCheckerLock _ => [.lanes]
  | .prbsCheckerUnlock _ => [.regs, .evt, .lanes]
  | .prbsInject _ _ => [.regs, .evt, .lanes]
  | .prbsChkEnable _ _ => [.regs, .evt, .lanes]
  | .stookPacketReceive _ _ => [.regs, .evt, .lanes, .queues, .mem, .words]
  | .mgmtCommandReceive _ _ => partsMgmt
  | .mgmtRegRead _ _ _ => partsMgmt
  | .mgmtRegWrite _ _ _ => partsMgmt
  | .mgmtReservedDiscard _ _ => partsMgmt
  | .leasePacketReceive _ _ _ => [.c, .regs, .staged, .hub, .cmt, .evt, .excs, .lanes, .mem, .twn, .bcn, .hst]
  | .ackReceive _ _ => [.regs, .evt, .lanes, .queues, .mem, .rtePath, .flight, .compl]
  | .nakReceive _ _ => [.regs, .evt, .lanes, .queues, .mem, .rtePath, .flight, .compl]
  | .idlePacketReceive _ _ => [.regs, .evt, .lanes, .queues, .mem, .rtePath, .flight, .compl]
  | .packetCrcDiscard _ _ => [.regs, .lanes]
  | .sequencedPacketAccept _ _ _ => partsMgmt
  | .ackTimer _ => [.lanes]
  | .nakRepeat _ => [.lanes]
  | .retxTimeout _ _ => [.c, .regs, .evt, .lanes, .queues]
  | .keepaliveLoss _ _ => partsLaneLoss
  | .packetTransmit _ _ _ => [.c, .regs, .evt, .tmb, .lanes, .queues, .mem, .twn]
  | .tokenClaim _ => [.c, .freeIdx, .regs, .hub, .evt, .chans, .excs, .auxs, .lanes, .twn, .bcn]
  | .tokenRelease _ => [.c, .regs, .hub, .evt, .chans, .excs, .lanes, .twn, .bcn, .flight, .compl]
  | .swapAnnounce => [.lanes, .twn]
  | .roleSwap _ => [.c, .freeIdx, .regs, .hub, .evt, .chans, .excs, .auxs, .lanes, .twn, .bcn, .flight, .compl]
  | .twnSwapReq _ => [.regs, .lanes, .twn]
  | .twnResyncReq _ => [.regs, .staged, .hub, .cmt, .evt, .lanes, .mem, .twn, .hst]
  | .twnAbort _ => [.regs, .staged, .hub, .cmt, .evt, .mem, .twn, .flight, .compl]
  | .resyncPhaseAdvance => [.regs, .staged, .hub, .cmt, .evt, .auxs, .lanes, .mem, .twn]
  | .resyncFail => [.regs, .staged, .cmt, .evt, .mem, .twn, .flight, .compl]
  | .resyncRetry => [.regs, .staged, .cmt, .evt, .lanes, .mem, .twn, .hst]
  | .confSoloClear => [.twn]
  | .memBankCfgWrite _ _ _ => [.regs, .evt, .mem]
  | .memWindowRead _ _ => [.freeIdx, .regs, .hiLatch, .rd, .evt, .mem]
  | .memWindowWrite _ _ _ _ => [.regs, .evt, .mem, .words]
  | .scrubStep _ => [.regs, .evt, .mem]
  | .memRepairGo _ _ => [.freeIdx, .regs, .mem, .words]
  | .memTestGo _ _ => [.regs, .mem]
  | .memTestDone _ _ _ => [.regs, .evt, .mem, .flight, .compl, .words]
  | .hostRd _ _ => [.freeIdx, .regs, .hiLatch, .rd, .evt, .chans, .slots, .mem, .hst]
  | .hostWr _ _ _ => partsWrite
  | .hostRdsr => [.rd, .hst]
  | .hostMbpush _ => [.regs, .evt, .hst]
  | .hostMbpop _ => [.regs, .evt, .hst]
  | .hostSetgen _ => [.regs, .hst]
  | .hostRstgen => [.regs, .hst]
  | .hostUnknownInstr _ => [.regs, .evt, .hst]
  | .hostCsAbort _ _ => partsWrite
  | .commandAccept _ => [.regs, .evt, .lanes, .hst, .flight, .compl]
  | .completionDeliver _ => [.regs, .evt, .lanes, .hst, .flight, .compl]
  | .hubIdentify _ _ => partsCommand
  | .hubStatusCmd _ _ => partsCommand
  | .hubSleep _ _ => [.regs, .pwr, .flight, .compl]
  | .hubWake _ _ => [.regs, .pwr, .evt, .chans, .refs, .lanes, .queues, .mem, .rtePath, .twn, .hst, .flight, .compl]
  | .cmdNop _ _ => partsCommand
  | .cmdCancel _ _ => [.regs, .staged, .pwr, .cmt, .evt, .chans, .lts, .ltWait, .ltRes, .refs, .auxs, .lanes, .queues, .mem, .rtePath, .twn, .hst, .flight, .compl]
  | .cfgOpen _ _ => partsStage
  | .cfgCheck _ _ => [.regs, .cmt, .auxs, .flight, .compl]
  | .cfgApplyAt _ _ => [.regs, .cmt, .auxs, .flight, .compl]
  | .cfgAbandon _ _ => [.regs, .staged, .cmt, .evt, .flight, .compl]
  | .cfgImageLoad _ _ _ => [.freeIdx, .regs, .staged, .cmt, .evt, .coef, .cbanks, .lin, .mem, .twn, .hst, .flight, .compl, .words]
  | .cfgImageSave _ _ _ => [.regs, .evt, .lanes, .mem, .flight, .compl, .words]
  | .chSetSensor _ _ => [.regs, .staged, .cmt, .evt, .lin, .flight, .compl]
  | .chSetRate _ _ => partsStage
  | .chEnable _ _ => partsStage
  | .chAutorange _ _ => partsStage
  | .chSpotRead _ _ => [.regs, .auxs, .flight, .compl]
  | .chLeadTest _ _ => [.regs, .evt, .chans, .lts, .ltRes, .auxs, .flight, .compl]
  | .shfRefEnable _ _ => [.regs, .staged, .cmt, .auxs, .flight, .compl]
  | .shfExcSet _ _ => partsStage
  | .fltLoadBank _ _ => [.regs, .evt, .coef, .cbanks, .flight, .compl]
  | .timeStatus _ _ => [.regs, .tmb, .flight, .compl]
  | .timeStep _ _ => [.regs, .tmb, .flight, .compl]
  | .timeSetAsym _ _ => partsCommand
  | .timeSchedule _ _ => [.regs, .tmb, .flight, .compl]
  | .acqArm _ _ => [.regs, .staged, .cmt, .evt, .plans, .mem, .flight, .compl]
  | .acqDisarm _ _ => [.regs, .evt, .taps, .plans, .mem, .flight, .compl]
  | .acqForce _ _ => [.regs, .evt, .taps, .tmb, .lanes, .plans, .dups, .pubId, .flight, .compl]
  | .acqOffload _ _ => [.regs, .plans, .flight, .compl]
  | .gleanSet _ _ => partsStage
  | .memAssign _ _ => [.regs, .evt, .mem, .flight, .compl]
  | .memRead _ _ _ => [.freeIdx, .regs, .evt, .mem, .flight, .compl]
  | .memWrite _ _ _ => [.regs, .evt, .mem, .flight, .compl, .words]
  | .memTest _ _ => [.regs, .mem, .flight, .compl]
  | .linkStatus _ _ => [.freeIdx, .regs, .hiLatch, .evt, .chans, .slots, .mem, .flight, .compl]
  | .linkRoute _ _ => partsStage
  | .linkPrbs _ _ => [.regs, .staged, .cmt, .evt, .auxs, .lanes, .flight, .compl]
  | .linkPrbsEnd _ => [.regs, .staged, .cmt, .auxs, .flight]
  | .streamSet _ _ => partsStage
  | .twinStatus _ _ => partsCommand
  | .twinSwapNow _ _ => [.regs, .lanes, .twn, .flight, .compl]
  | .twinSetLease _ _ => partsStage
  | .bcnSet _ _ => partsStage
  | .bcnSchedule _ _ => [.regs, .bcn, .flight, .compl]
  | .bcnDiag _ _ => [.regs, .evt, .bcn, .flight, .compl]
  | .diagCounters _ _ => [.freeIdx, .regs, .hiLatch, .evt, .chans, .slots, .mem, .flight, .compl]
  | .diagBist _ _ => [.regs, .tst, .flight, .compl]
  | .diagPerturb _ _ => [.regs, .tst, .flight, .compl]
  | .bistDone _ _ => [.regs, .evt, .tst, .flight, .compl]
  | .bcnFlashOn _ _ => [.c, .regs, .evt, .bcn]
  | .bcnFlashOff _ _ => [.c, .regs, .evt, .bcn, .flight, .compl]
  | .bcnMeasure _ _ _ _ _ => [.c, .regs, .evt, .bcn, .flight, .compl]
  | .bcnDiagPulse _ _ => [.c, .regs, .evt, .bcn, .flight, .compl]
  | .bcnOvpTrip => [.regs, .evt, .bcn]
  | .bcnOvpRelease => [.bcn]
  | .bcnUntestedTimeout _ => [.regs, .evt, .bcn]
  | .bcnDiagCmdGo _ _ => [.regs, .evt, .bcn, .flight, .compl]
  | .bcnAdjTestDone _ => [.regs, .evt, .bcn, .flight, .compl]
  | .bcnSchArm _ _ => [.regs, .bcn]
  | .bcnSchDisarm _ _ => [.regs, .bcn]
  | .bchShiftStart _ => [.c, .bcn]
  | .bchShiftDone _ => [.regs, .evt, .bcn]
  | .tstLockWrite _ _ => [.regs, .rd, .evt, .tst]
  | .tstUnlockExpire => [.regs, .evt, .tst]
  | .pgPerturbWrite _ _ _ => [.regs, .tst]
  | .perturbCountExpire _ => [.regs, .tst]
  | .jtagInstruction _ => [.freeIdx, .regs, .evt, .chans, .excs, .auxs, .lanes, .queues, .mem, .rtePath, .twn, .bcn, .jtag, .hst]
  | .coreRailPresent => [.pwr]
  | .xosRestored => [.pwr]
  | .laneSignalPresent _ => [.lanes]
  | .outgoingShareEntry _ _ _ => [.c, .freeIdx, .regs, .evt, .chans, .excs, .auxs]
  | .timingPulseEnd _ _ => [.c, .tmb]

end Sys2Proof.Machine
end

