-- ==== Sys2Proof/Machine/Pins.lean ====
section
/-! DEFINITION. The output pins as a reading of the state (R40, R41, R44, R45). A host transaction is one command, so the phase
of the transaction, and likewise the shift state of the test access port, are arguments. -/

namespace Sys2Proof.Machine

open Sys2Proof

/-- What a pin shows. -/
inductive PinSt | highZ | low | high | released | driven | eIdle | idleSets | termination | receiving
  deriving DecidableEq, Repr

/-- Where a host-port transaction stands (R385): none, clocking in, the hub at work on the access, read data going out. -/
inductive HsPhase | none | clockIn | access | dataOut
  deriving DecidableEq, Repr

/-- The pins are powered (R44, R53). -/
def powered (s : State) : Bool := s.pwr.core

/-- The pins stand at the Reset column of R45: until the control processor starts, which the model has at the end of boot (DESIGN CHOICE, log
entry 204), and while JTAG holds them there (R429). -/
def pinsReset (s : State) : Bool := !running s || s.jtag.held

def level (b : Bool) : PinSt := if b then .high else .low

/-- A pin whose Reset and Idle levels are low. -/
def lowPin (s : State) (b : Bool) : PinSt := if !powered s then .highZ else level (!pinsReset s && b)

/-! ### The host port (R40, R385) -/

/-- The generation sends read data on HS_DQ line i. -/
def dqOut (gen i : Nat) : Bool := match gen with
  | 0 => decide (i = 1)
  | 1 => decide (i < 4)
  | _ => decide (i < 8)

/-- The generation takes instruction, address and data on HS_DQ line i. -/
def dqIn (gen i : Nat) : Bool := match gen with
  | 0 => decide (i = 0)
  | 1 => decide (i < 4)
  | _ => decide (i < 8)

/-- The port serves a read now: powered, out of reset, and its data going out. -/
def hsReading (s : State) (ph : HsPhase) : Bool := powered s && !pinsReset s && decide (ph = .dataOut)

def hsDq (s : State) (ph : HsPhase) (i : Nat) : PinSt := if hsReading s ph && dqOut s.hst.gen i then .driven else .highZ

/-- HS_DQS accompanies read data in octal DDR only. -/
def hsDqs (s : State) (ph : HsPhase) : PinSt := if hsReading s ph && decide (2 ≤ s.hst.gen) then .driven else .highZ

/-- HS_BUSY_N: low until the end of boot, and while the hub cannot complete the current access. -/
def hsBusyN (s : State) (ph : HsPhase) : PinSt := if !powered s then .highZ else level (hostUp s && decide (ph ≠ .access))

def hsIrqN (s : State) : PinSt := if !powered s then .highZ else if !pinsReset s && hsIrqLow s then .low else .released

/-- TDO is driven only in Shift-DR and Shift-IR. -/
def tdo (s : State) (shift : Bool) : PinSt := if powered s && running s && shift then .driven else .highZ

/-! ### Lanes (R45, R55, R68, R318) -/

/-- The lane's transmitter can run: rails, PLL-L, not in factory mode, and in SLEEP the keepalive lane alone. -/
def txOn (s : State) (n : Nat) : Bool :=
  powered s && s.pwr.pllL && !s.pwr.ft && !s.jtag.held && (decide (s.pwr.phase ≠ .por) && decide (s.pwr.phase ≠ .pin)) &&
    (!sleeping s || decide (s.pwr.keep = n))

/-- The TX balls of a lane. In boot they carry IDLE sets from the time the PLLs have locked, as R65 has it, where R45 keeps them in electrical
idle until the control processor starts (DESIGN CHOICE, log entry 203). -/
def lnTx (s : State) (n : Nat) : PinSt :=
  if !powered s then .highZ
  else if !txOn s n then .eIdle
  else match af s (lnkReg n 0x40) 0 2 with
    | 0 => if laneUp s n then .driven else .idleSets
    | 1 => if bit (rg s (lnkReg n 0x60)) 4 then .driven else .eIdle
    | _ => .eIdle

/-- AMP, PRE and POST of a rate's preset (R313). -/
def txPreset (r : Nat) : Nat × Nat × Nat := match r with
  | 3 => (10, 0, 2)
  | 4 => (10, 1, 3)
  | 5 => (12, 1, 4)
  | 6 => (12, 2, 5)
  | _ => (10, 0, 0)

/-- AMP, PRE and POST in effect: the preset of the rate, or LN_TX with MAN (R313, R321). -/
def laneTx (s : State) (n : Nat) : Nat × Nat × Nat :=
  let a := lnkReg n 0x44
  if bit (rg s a) 15 then (af s a 0 4, af s a 4 3, af s a 8 4) else txPreset (lane s n).rate

/-- Transmit swing in mV, differential peak to peak. -/
def txSwing (s : State) (n : Nat) : Nat := 400 + 40 * (laneTx s n).1

/-- The bit that the generator sends after a run of its bits, newest first: the pattern's, inverted once where INJECT is pending (R317,
R318). -/
def prbsSent (s : State) (n : Nat) (l : List Bool) : Bool := xor (prbsNext s n l) (lane s n).inject

/-- The bit on the TX balls for a bit of the transmitter: TXINV inverts it (R306, R321). -/
def txBall (s : State) (n : Nat) (b : Bool) : Bool := xor (bit (rg s (lnkReg n 0x40)) 6) b

/-- Characters 1 to 3 of the ordered set that the lane sends to fill: STEP naming the target until its transmitter has switched, else
IDLE; and of the frame's TIME set (R310, R311, R322). -/
def osFill (s : State) (n : Nat) : List Nat := match (lane s n).step with
  | some t => if (lane s n).switched then [1, advMask s n, 0] else [3, advMask s n, t]
  | none => [1, advMask s n, 0]
def osTime (s : State) (n id : Nat) : List Nat := [2, advMask s n, id % 256]

/-- Words of packets with the ordered sets among them: one before a word that would be the 64th without any. `k` more words may
pass now; `none` stands for the set (R322, R323). -/
def withSets {α : Type} : Nat → List α → List (Option α)
  | _, [] => []
  | 0, w :: l => none :: some w :: withSets 62 l
  | k + 1, w :: l => some w :: withSets k l

/-- Four characters make a word (R305). -/
def inWords (l : List Byte) : List (List Byte) := (List.range (l.length / 4)).map (fun i => (l.drop (4 * i)).take 4)

/-- The words of a packet on a lane on which `k` words may still pass without an ordered set (R323, R324). -/
def packetWords (k : Nat) (p : Pkt) : List (Option (List Byte)) := withSets k (inWords (pktWire p))

def lnRx (s : State) : PinSt := if !powered s then .highZ else if pinsReset s then .termination else .receiving

/-! ### Channels, excitation, timing and beacon -/

/-- Pins P, N and X of a channel; those of a die without its rails stand as unpowered (R44, R54, R55). -/
def chPins (s : State) (g : Nat) : PinSt := if powered s && !pinsReset s && diePowered s (g / 128) && decide ((chan s g).st ≠ .off) then .receiving else .highZ

/-- Force and sense pins of an output; those of a die without its rails stand as unpowered (R44, R54, R55). -/
def excPins (s : State) (o : Nat) : PinSt := if powered s && !pinsReset s && diePowered s (o / 16) && decide ((exc s o).mode ≠ .off) then .driven else .highZ

/-- PPS_OUT, TICK_OUT and TRIG_OUT at an instant of the counter. -/
def timingPin (s : State) (pin t : Nat) : PinSt := lowPin s (pinHigh s pin t)

/-- BST_GD and the gates: low unless driven; BST_GD also during overvoltage (R407). A flash that an apply has met completes (R419). -/
def bstGd (s : State) : PinSt := if powered s && !pinsReset s && boostOn s && !s.bcn.ovp then .driven else lowPin s false
def bcnG (s : State) (m : Nat) : PinSt := if powered s && !pinsReset s && (strDriven s m || litDriven s m) then .driven else lowPin s false
def bchEn (s : State) : PinSt := lowPin s (bchEnable s)
def bchOut (s : State) : PinSt := if powered s && !pinsReset s && chainDriven s then .driven else lowPin s false

end Sys2Proof.Machine
end

