-- ==== Sys2Proof/Safety.lean ====
section
/-! DEFINITION. The terms in which the claims are stated: the invariant of the stores, what a whole-hub reset and the loss of a lane leave,
and how a command of the command set starts, ends, waits and stages. -/

namespace Sys2Proof.Machine

open Sys2Proof

/-- The capture memory in canonical form, each entry a 64-bit word (R370). -/
def memOk (t : Tbl Nat) : Bool := twf (fun _ => 0) t && t.all (fun e => decide (e.2 < 2 ^ 64))

/-- The register file in canonical form: it lists only what differs from the reset values. -/
def regsOk (t : Tbl Word) : Bool := twf regReset t

/-- The invariant of the stores. -/
def State.Inv (s : State) : Prop := regsOk s.regs = true ∧ memOk s.mem.words = true

/-- Every register but the given ones reads as before. -/
def SameRegs (l : List Nat) (s t : State) : Prop := ∀ a, a ∉ l → rg t a = rg s a

/-- What a whole-hub reset leaves, whatever its source (R57, R63): every register but CLK_RST_CAUSE, the session, the
channels, drivers, converters, timebase, streams, queues, plans, banks, twin, beacon and command state at reset. -/
structure AtReset (s t : State) : Prop where
  regs : ∀ a, a ≠ 0x1044 → rg t a = regReset a
  staged : t.staged = []
  hub : t.hub = {}
  cmt : t.cmt = {}
  chans : t.chans = [] ∧ t.taps = [] ∧ t.lts = [] ∧ t.startAt = []
  drives : t.excs = [] ∧ t.refs = [] ∧ t.auxs = [] ∧ t.slots = []
  dsp : t.dsp = {} ∧ t.dspPend = [] ∧ t.dspQ = []
  coef : t.coef = [] ∧ t.cbanks = [] ∧ t.profs = [] ∧ t.lin = {}
  tmb : t.tmb = {} ∧ t.frame = 0 ∧ t.ord = 0
  links : ∀ n, (die t n).trained = false ∧ (lane t n).st = .down
  data : t.passes = [] ∧ t.grecs = [] ∧ t.streams = [] ∧ t.queues = [] ∧ t.tunits = [] ∧ t.plans = [] ∧ t.gunits = []
  engines : t.arc = {} ∧ t.dcmp = {} ∧ t.mem = {}
  twin : t.twn = {} ∧ t.bcn = {} ∧ t.tst = {}
  cmds : t.hst = {} ∧ t.flight = [] ∧ t.compl = []
  queue : t.pending = s.pending

/-- What losing a lane leaves (R307, R309): the lane is DOWN, what was open on it holds no unacknowledged packet and is back at
the base rate, the other lanes stand, and only the units that follow a lane have changed. -/
structure LaneLost (n : Nat) (s t : State) : Prop where
  down : (lane t n).st = .down
  fresh : (lane s n).st ≠ .down → (lane t n).rate = 0
  empty : laneUp s n = true → (lane t n).lk.un = []
  others : ∀ m, m ≠ n → (lane t m).st = (lane s m).st ∧ (lane t m).rate = (lane s m).rate
  frame : t = { s with
    c := t.c, regs := t.regs, evt := t.evt, chans := t.chans, excs := t.excs, auxs := t.auxs, lanes := t.lanes, queues := t.queues, mem := t.mem,
    rtePath := t.rtePath, twn := t.twn, hst := t.hst }
  words : t.mem.words = s.mem.words

/-- A packet with the LSEQ that lane n expects is accepted; what it says has not acted yet (R330). -/
def lseqTaken (n : Nat) (s : State) : State := modLk n (fun x => { x with e := (x.e + 1) % 65536, acc := x.acc + 1, nak := none }) s

/-- An accepted register write of lane n has written its words in order (R327). -/
def wordsWritten (n : Nat) (pk : Pkt) (hits : List (Nat × MemHit)) (s : State) : State :=
  (writeBurst (.mgmt n) (mAddr pk) (mgmtHits hits) ((List.range (mCount pk)).map (fun i => word (leAt pk.body (12 + 4 * i) 4))) 0
    (lseqTaken n s)).2

/-- The instant of a force trigger with zero registers, given at instant t, in R4's format (R243). -/
def forceAt (t : Nat) (s : State) : Int := netNow (advance t s) / 2 ^ 16 * 2 ^ 16

/-- The command of flight f is the next of its processor: boot has completed and it is the first accepted command that has not
started (R392). -/
structure IsNext (p : Path) (tag op : Nat) (f : Flight) (s : State) : Prop where
  run : running s = true
  next : nextCmd s p tag op = some f

/-- The session is OPEN for commands of the path of flight f (R393). -/
structure OwnOpen (f : Flight) (s : State) : Prop where
  st : s.cmt.st = .open_
  owner : s.cmt.owner = ownerCmd f.path

/-- A command has ended (R390, R391): its flight is gone, its completion stands last. -/
structure Ended (f : Flight) (st : Nat) (res : List Byte) (s t : State) : Prop where
  flight : t.flight = s.flight.filter (fun x => !(decide (x.path = f.path) && decide (x.tag = f.tag)))
  compl : t.compl = s.compl ++ [{ path := f.path, tag := f.tag, gen := f.gen, op := f.op, status := st, result := res, frame := s.frame, tok := f.tok, org := f.org }]

/-- A command has started and waits (R395): its flight alone has changed. -/
structure Waits (f : Flight) (w : Wait) (s t : State) : Prop where
  flight : t.flight = s.flight.map (fun x => if x.path = f.path ∧ x.tag = f.tag then { x with wait := w } else x)
  compl : t.compl = s.compl

/-- Every command that waited for an event has ended with its status and result (R391, R395), one whose tag another command in flight
bears apart; no command waits for it any more, and every earlier completion stands. -/
structure Woken (w : Wait) (st : Nat) (res : List Byte) (s t : State) : Prop where
  ended : ∀ f ∈ s.flight, f.wait = w → (∀ x ∈ s.flight, x.path = f.path → x.tag = f.tag → x = f) →
    { path := f.path, tag := f.tag, gen := f.gen, op := f.op, status := st, result := res, frame := s.frame, tok := f.tok, org := f.org } ∈ t.compl
  left : ∀ f ∈ t.flight, f ∈ s.flight ∧ f.wait ≠ w
  kept : ∀ c ∈ s.compl, c ∈ t.compl

/-- No command is in flight: each that was has a completion with HW_FAULT, its tag is free, and what had completed before and is not yet
freed reports HW_FAULT too (R14, R391, R397). -/
structure AllFailed (s t : State) : Prop where
  none : t.flight = []
  each : ∀ f ∈ s.flight, ∃ c ∈ t.compl, c.path = f.path ∧ c.tag = f.tag ∧ c.gen = f.gen ∧ c.op = f.op ∧ c.status = stHwFault
  freed : ∀ c ∈ t.compl, c.dup = false → c.freed = true ∧ (c ∈ s.compl ∨ c.status = stHwFault)

/-- A command that staged the given copies and ended (R80, R393): these staged copies hold what it wrote in their ST fields, every
other one stands, no active copy has changed, and the session is still open for its owner. -/
structure StagedBy (l : List (Nat × Word)) (f : Flight) (s t : State) : Prop where
  ended : Ended f stOk [] s t
  frame : t = { s with regs := t.regs, staged := t.staged, cmt := t.cmt, flight := t.flight, compl := t.compl }
  regs : SameRegs [0x5024] s t
  taken : ∀ e ∈ l, stg t e.1 = merge (pendRg s e.1) e.2 (stMask e.1)
  others : ∀ a, a ≠ 0x5024 → (∀ e ∈ l, e.1 ≠ a) → stg t a = stg s a
  still : OwnOpen f t

end Sys2Proof.Machine
end

