-- ==== Sys2Proof/Certificates/Slice0/Obligations.lean ====
section
/-! DEFINITION. The statements about the hub: the machine as a whole first, then family by family of the command table. A clause
about one command names the state it needs, and concludes that the command runs and what it leaves. -/

open Sys2Proof Sys2Proof.Machine

/-- A step runs the command at the front of the queue on the hub with the queue's rest; with an empty queue the hub idles: one
CORE cycle of counter C passes, RESET_N held low included, and none while power-on reset is held (R5, R57, R63; that an idle
step is one cycle is the model's choice, log entry 3). -/
def Obligations.StepRunsTheFrontCommand : Prop :=
  (∀ (i : Instr) (rest : List Instr) (s : State), step { s with pending := i :: rest } = exec i { s with pending := rest }) ∧
  (∀ s : State, s.pending = [] → s.pwr.phase ≠ .por → step s = .next { s with c := s.c + 1 }) ∧
  (∀ s : State, s.pending = [] → s.pwr.phase = .por → step s = .next s)

/-- The state after the first power-on reset and boot's start (R57, R63, R65): no session, epoch 0, counter C and frame index
0, every channel OFF, every lane DOWN, no token, the hub locked, CLK_RST_CAUSE at POR with the first ramp, no command waiting.
The values of registers for which the manual gives none are the model's (log entries 1 and 2). -/
def Obligations.ResetState : Prop :=
  AtReset State.reset State.reset ∧ State.reset.c = 0 ∧ State.reset.pending = [] ∧ rg State.reset 0x1044 = 0x21#32 ∧
    State.reset.pwr.phase = .boot ∧ State.reset.hub.st = .boot ∧ State.reset.pwr.sleep = .awake ∧ State.reset.jtag.instr = .idcode

/-- The invariant of the stores holds after reset: both sparse stores are in canonical form and every word of the capture
memory has 64 bits (R370; the canonical form is the model's). -/
def Obligations.InvariantAtReset : Prop :=
  State.reset.Inv

/-- Every step keeps the invariant of the stores: whatever command runs, the register file and the capture memory stay in
canonical form, and every word of the capture memory stays a 64-bit word (R370; the canonical form is the model's). -/
def Obligations.StepKeepsInvariant : Prop :=
  ∀ s t : State, s.Inv → step s = .next t → t.Inv

/-- The hub never stops: every step, in every state, answers a next state, and takes exactly the front command off the queue.
-/
def Obligations.EveryStepAnswers : Prop :=
  ∀ s : State, ∃ t, step s = .next t ∧ t.pending = s.pending.tail

/-- The frame of every command: what a command's row does not name stays as it was, field by field, the words of the capture
memory apart from the rest of the memory block. -/
def Obligations.FrameOfEveryCommand : Prop :=
  ∀ (i : Instr) (s t : State), exec i s = .next t → OnlyParts (mayChange i) s t

/-- Register access (R76): a read of an address no page maps, or of offsets 0x800 to 0x83F of a page, returns zero and has no
effect; a write there, and any at offsets 0x800 and above, has none and reports no error; only aligned words are accessed. -/
def Obligations.UnmappedAccess : Prop :=
  (∀ (p : Path) (a : Nat) (h : MemHit) (s : State), (pageAt a = none ∨ 0x800 ≤ a % 0x1000 ∧ a % 0x1000 < 0x840) →
    readReg p a h s = (0, false, s)) ∧
  (∀ (aw : Word) (a : Nat) (s : State), hostUp s = true → hostPath s = true → burstOf aw = some (1, a) →
    (pageAt a = none ∨ 0x800 ≤ a % 0x1000 ∧ a % 0x1000 < 0x840) →
    exec (.hostRd aw []) s = .next { s with rd := [0], hst := { s.hst with np := false, npIdx := 0, out := wordBytes [0] } }) ∧
  (∀ (p : Path) (a : Nat) (w : Word) (s : State), (pageAt a = none ∨ 0x800 ≤ a % 0x1000) → exec (.registerWrite p a w) s = .next s) ∧
  (∀ (aw w : Word) (a : Nat) (s : State), hostUp s = true → hostPath s = true → burstOf aw = some (1, a) →
    (pageAt a = none ∨ 0x800 ≤ a % 0x1000) →
    exec (.hostWr aw [w] []) s = .next { s with hst := { s.hst with np := false, npIdx := 0, out := [] } }) ∧
  (∀ (p : Path) (a : Nat) (h : MemHit) (w : Word) (s : State), a % 4 ≠ 0 →
    readReg p a h s = (0, false, s) ∧ exec (.registerWrite p a w) s = .next s)

/-- PG_ERR (R78): the first error of a page is recorded whole; while the register is not zero another sets MORE and nothing
else; a read returns the register and clears it; an error in the cycle of that read is the first one recorded after the clear.
-/
def Obligations.FirstErrorKept : Prop :=
  (∀ (k : PageK) (i st : Nat) (s : State), rg s (pgErr k i) = 0 →
    pgError k i st s = setRg (pgErr k i) (word (st * 2 ^ 24 ||| s.frame % 2 ^ 24)) s) ∧
  (∀ (k : PageK) (i st : Nat) (s : State), rg s (pgErr k i) ≠ 0 →
    pgError k i st s = setRg (pgErr k i) (rg s (pgErr k i) ||| 0x80000000#32) s) ∧
  (∀ (p : Path) (a i : Nat) (k : PageK) (s : State), running s = true → pageAt a = some (k, i) →
    ∃ t, exec (.pgErrRead p a) s = .next t ∧ t.rd = [rg s (pgErr k i)] ∧ rg t (pgErr k i) = 0 ∧ SameRegs [pgErr k i] s t) ∧
  (∀ (p : Path) (a i st : Nat) (k : PageK) (s : State), running s = true → pageAt a = some (k, i) →
    ∃ t, exec (.pgErrRead p a) s = .next t ∧ t.rd = [rg s (pgErr k i)] ∧
      rg (pgError k i st t) (pgErr k i) = word (st * 2 ^ 24 ||| s.frame % 2 ^ 24))

/-- Perturbations and the lock (R424): locked, every write of a PG_PERTURB is discarded with NOT_PERMITTED and DIAG_PERTURB
ends with it; unlocked, a write by any path stores it whatever the page's MODE, and DIAG_PERTURB does too. -/
def Obligations.PerturbLock : Prop :=
  (∀ (p : Path) (a i : Nat) (k : PageK) (w : Word) (s : State), pathOn s p = true → pageAt a = some (k, i) → a % 0x1000 = 0x1C →
    s.tst.unlocked = none → exec (.registerWrite p a w) s = .next (pgError k i stNotPermitted s)) ∧
  (∀ (p : Path) (a i : Nat) (k : PageK) (w : Word) (s : State), running s = true → pageAt a = some (k, i) →
    s.tst.unlocked = none → exec (.pgPerturbWrite p a w) s = .next (pgError k i stNotPermitted s)) ∧
  (∀ (p : Path) (tag i : Nat) (k : PageK) (f : Flight) (s : State), IsNext p tag 0x0902 f s → f.buf.length = 8 →
    pageOfBase (par f 0 4) = some (k, i) → s.tst.unlocked = none →
    ∃ t, exec (.diagPerturb p tag) s = .next t ∧ t.tst = s.tst ∧ SameRegs [0x5024, 0x502C] s t ∧ Ended f stNotPermitted [] s t) ∧
  (∀ (p : Path) (a i : Nat) (k : PageK) (w : Word) (s : State), pathOn s p = true → pageAt a = some (k, i) → a % 0x1000 = 0x1C →
    s.tst.unlocked.isSome = true → pertKnown k (fld w 0 4) (fld w 4 12) = true →
    ∃ t, exec (.registerWrite p a w) s = .next t ∧ t = { s with regs := t.regs, tst := { s.tst with due := t.tst.due } } ∧
      rg t (pgPerturb k i) = w &&& 0x00FFFFFF#32 ∧ tget false t.tst.due (pageBase k i) = true ∧ SameRegs [pgPerturb k i] s t) ∧
  (∀ (p : Path) (tag i : Nat) (k : PageK) (f : Flight) (s : State), IsNext p tag 0x0902 f s → f.buf.length = 8 →
    pageOfBase (par f 0 4) = some (k, i) → s.tst.unlocked.isSome = true →
    pertKnown k (fld (word (par f 4 4)) 0 4) (fld (word (par f 4 4)) 4 12) = true →
    ∃ t, exec (.diagPerturb p tag) s = .next t ∧ rg t (pgPerturb k i) = word (par f 4 4) &&& 0x00FFFFFF#32 ∧ Ended f stOk [] s t)

/-- Register writes (R76, R80, R83): a direct write stores the RW fields at once and changes no other register; an ST field is
taken into the staged copy alone, while the writer's session is open; a page in BASIC mode refuses the write with
NOT_PERMITTED; unmapped words and the active copies ignore it. -/
def Obligations.RegisterWrites : Prop :=
  (∀ (p : Path) (a i : Nat) (k : PageK) (w : Word) (s : State), pathOn s p = true → pageAt a = some (k, i) →
    a ∈ [0x2048, 0x2050, 0x2054, 0x2078, 0x3048, 0x304C, 0x3090, 0x30A0, 0x30A8, 0x30B0, 0x3104, 0x31E4] → directOk s k i = true →
    ∃ t, exec (.registerWrite p a w) s = .next t ∧ t = { s with regs := t.regs } ∧ SameRegs [a] s t ∧
      rg t a = merge (rg s a) w (rwMask a)) ∧
  (∀ (p : Path) (a : Nat) (w : Word) (s : State), pathOn s p = true → a % 4 = 0 → 0x40 ≤ a → a < 0x800 →
    ∃ t, exec (.registerWrite p a w) s = .next t ∧ t = { s with regs := t.regs, evt := t.evt } ∧ SameRegs [a] s t ∧
      rg t a = merge (rg s a) w (rwMask a)) ∧
  (∀ (p : Path) (a i : Nat) (k : PageK) (w : Word) (s : State), pathOn s p = true → pageAt a = some (k, i) → a % 4 = 0 →
    0x40 ≤ a % 0x1000 → a % 0x1000 < 0x800 → k ∈ [.clk, .rte, .gln] → expert s k i = true → rwMask a = 0 → w1cMask a = 0 →
    stMask a ≠ 0 → s.cmt.st = .open_ → s.cmt.owner = ownerDirect p →
    ∃ t, exec (.registerWrite p a w) s = .next t ∧ t = { s with staged := t.staged, cmt := t.cmt } ∧
      stg t a = merge (pendRg s a) w (stMask a) ∧ (∀ b, b ≠ a → stg t b = stg s b) ∧
      t.cmt = { s.cmt with idle := 0, res := { s.cmt.res with current := false } }) ∧
  (∀ (p : Path) (a i : Nat) (k : PageK) (w : Word) (s : State), pathOn s p = true → pageAt a = some (k, i) → a % 4 = 0 →
    0x40 ≤ a % 0x1000 → a % 0x1000 < 0x800 → modeFixed k = false → expert s k i = false →
    ∃ t, exec (.registerWrite p a w) s = .next t ∧ t = { s with regs := t.regs } ∧ SameRegs [pgErr k i] s t ∧
      (rg s (pgErr k i) = 0 → rg t (pgErr k i) = word (stNotPermitted <<< 24 ||| s.frame % 2 ^ 24)) ∧
      (rg s (pgErr k i) ≠ 0 → rg t (pgErr k i) = rg s (pgErr k i) ||| 0x80000000#32)) ∧
  (∀ (p : Path) (a : Nat) (w : Word) (s : State), pageAt a = none ∨ 0x800 ≤ a % 0x1000 → exec (.registerWrite p a w) s = .next s)

/-- Reads with an effect (R3, R78, R79): PG_ERR and the read-clear counters answer what they hold and clear, with the events
of that cycle kept, those above the counter block and CH_MON's three counters too; the low half of a 64-bit quantity latches
the high half that the path's next read answers, and MEM_HDATA_LO makes its window access with it (R375). -/
def Obligations.ReadEffects : Prop :=
  (∀ (p : Path) (a i : Nat) (k : PageK) (s : State), running s = true → pageAt a = some (k, i) →
    ∃ t, exec (.pgErrRead p a) s = .next t ∧ t = { s with regs := t.regs, rd := [rg s (pgErr k i)] } ∧ rg t (pgErr k i) = 0 ∧
      SameRegs [pgErr k i] s t) ∧
  (∀ (p : Path) (a inc : Nat) (s : State), running s = true → (pageAt a).isSome = true → a % 4 = 0 → 0x20 ≤ a % 0x1000 →
    a % 0x1000 < 0x40 →
    ∃ t, exec (.counterReadClear p a inc) s = .next t ∧ t = { s with regs := t.regs, rd := [rg s a] } ∧
      rg t a = word (min inc (2 ^ 32 - 1)) ∧ SameRegs [a] s t) ∧
  (∀ (p : Path) (a inc i : Nat) (k : PageK) (s : State), running s = true → pageAt a = some (k, i) → k ∈ [.lnk, .que] → isRc a = true →
    a % 4 = 0 → 0x40 ≤ a % 0x1000 →
    ∃ t, exec (.counterReadClear p a inc) s = .next t ∧ t = { s with regs := t.regs, rd := [readVal s a] } ∧
      rg t a = word (min inc (2 ^ 32 - 1)) ∧ SameRegs [a] s t) ∧
  (∀ (p : Path) (a inc g : Nat) (s : State), running s = true → chMonAt a = some g → a % 4 = 0 →
    ∃ t, exec (.counterReadClear p a inc) s = .next t ∧ t = { s with chans := t.chans, rd := [readVal s a] } ∧
      chan t g = { chan s g with upCnt := inc / 2 ^ 8 % 256, dnCnt := inc / 2 ^ 16 % 256, clipCnt := inc / 2 ^ 24 % 256 } ∧
      ∀ h, h ≠ g → chan t h = chan s h) ∧
  (∀ (p : Path) (a : Nat) (s : State), running s = true → isLo a = true → a % 4 = 0 → a ≠ 0xA0D4 →
    ∃ t, exec (.loHalfRead p a) s = .next t ∧ t = { s with hiLatch := t.hiLatch, rd := [readVal s a] } ∧
      (readReg p (a + 4) {} t).1 = readVal s (a + 4)) ∧
  (∀ (p : Path) (s : State), running s = true → exec (.loHalfRead p 0xA0D4) s = exec (.memWindowRead p {}) s)

/-- The common header (R84, R85, R98): PG_IRQ clears the causes written with 1 but those set in the same cycle; MODE follows a
write while no session is open; EN follows one on a page in EXPERT mode that is idle; a soft reset brings every register of
the page back to reset, CH_MON's counters of a sheaf page too, keeps MODE, and leaves every other page alone. What log entries
155 and 156 name in this is the model's choice or reading. -/
def Obligations.PageHeader : Prop :=
  (∀ (p : Path) (a i : Nat) (k : PageK) (w x : Word) (s : State), pathOn s p = true → pageAt a = some (k, i) →
    ∃ t, exec (.pgIrqClear p a w x) s = .next t ∧ t = { s with regs := t.regs, evt := t.evt } ∧ (x = 0 → t.evt = s.evt) ∧ SameRegs [pgIrq k i] s t ∧
      rg t (pgIrq k i) = (rg s (pgIrq k i) &&& ~~~w) ||| x) ∧
  (∀ (p : Path) (a i : Nat) (k : PageK) (m : Bool) (s : State), pathOn s p = true → pageAt a = some (k, i) → modeFixed k = false →
    s.cmt.st = .closed →
    ∃ t, exec (.pgModeWrite p a m) s = .next t ∧ t = { s with regs := t.regs } ∧ SameRegs [pgCtrl k i] s t ∧ expert t k i = m ∧
      bit (rg t (pgCtrl k i)) 0 = bit (rg s (pgCtrl k i)) 0) ∧
  (∀ (p : Path) (a i : Nat) (k : PageK) (m : Bool) (s : State), pathOn s p = true → pageAt a = some (k, i) → modeFixed k = false →
    s.cmt.st ≠ .closed → expert s k i ≠ m → exec (.pgModeWrite p a m) s = .next (pgError k i stNotPermitted s)) ∧
  (∀ (p : Path) (a i : Nat) (k : PageK) (en : Bool) (s : State), pathOn s p = true → pageAt a = some (k, i) → enFixed k = false →
    expert s k i = true → (en = true ∨ pageIdle s k i = true) →
    ∃ t, exec (.pgEnableWrite p a en) s = .next t ∧ t = { s with regs := t.regs } ∧ SameRegs [pgCtrl k i] s t ∧
      pageEn t k i = en ∧ expert t k i = true) ∧
  (∀ (p : Path) (a i : Nat) (k : PageK) (en : Bool) (s : State), pathOn s p = true → pageAt a = some (k, i) → enFixed k = false →
    expert s k i = false → pageEn s k i ≠ en → exec (.pgEnableWrite p a en) s = .next (pgError k i stNotPermitted s)) ∧
  (∀ (p : Path) (a i : Nat) (k : PageK) (s : State), pathOn s p = true → pageAt a = some (k, i) → s.cmt.st = .closed →
    expert s k i = true → pageIdle s k i = true → k ∈ [.tmb, .twn, .bcn, .aux, .acq, .gln, .que, .cmp, .lin, .flt] →
    ∃ t, exec (.blockSoftReset p a) s = .next t ∧
      t = { s with frame := t.frame, regs := t.regs, staged := t.staged, dspPend := t.dspPend, dspQ := t.dspQ, dsp := t.dsp, taps := t.taps, profs := t.profs, slots := t.slots, tmb := t.tmb, tunits := t.tunits, plans := t.plans, gunits := t.gunits, twn := t.twn, bcn := t.bcn, tst := t.tst } ∧
      (∀ b, b / 0x1000 ≠ pageBase k i / 0x1000 → rg t b = rg s b) ∧
      (∀ b, b / 0x1000 = pageBase k i / 0x1000 → b ≠ pgCtrl k i → rg t b = regReset b ∧ stg t b = regReset b) ∧
      rg t (pgCtrl k i) = (rg s (pgCtrl k i) &&& 0x100#32) ||| 1#32) ∧
  (∀ (p : Path) (a i : Nat) (k : PageK) (s : State), pathOn s p = true → pageAt a = some (k, i) → s.cmt.st ≠ .closed →
    exec (.blockSoftReset p a) s = .next (pgError k i stNotPermitted s)) ∧
  (∀ (p : Path) (a i : Nat) (s : State), pathOn s p = true → pageAt a = some (.shf, i) → s.cmt.st = .closed → expert s .shf i = true →
    pageIdle s .shf i = true →
    ∃ t, exec (.blockSoftReset p a) s = .next t ∧ ∀ c, c < 32 →
      (chan t (32 * i + c)).upCnt = 0 ∧ (chan t (32 * i + c)).dnCnt = 0 ∧ (chan t (32 * i + c)).clipCnt = 0)

/-- The session's own actions (R86, R87, R159): OPEN starts a session with the next serial and no staged copy; CHECK and ARM
of its owner start their checks, with an urgent VEXC conversion on each die with a used output and a converter; DISARM returns
an armed session to OPEN before tick F-1; ABANDON closes it and drops every staged copy; another path is refused with
NOT_PERMITTED, OPEN over a session with BUSY. What log entry 157 names in this is the model's choice or reading. -/
def Obligations.SessionActions : Prop :=
  (∀ (p : Path) (s : State), running s = true → s.cmt.st = .closed → s.hub.st ≠ .resync →
    exec (.cmtOpen p) s = .next { s with staged := [], cmt := { s.cmt with st := .open_, owner := ownerDirect p, serial := (s.cmt.serial + 1) % 65536, arming := false, finalOk := false, pre := none, idle := 0, imageEpoch := none } }) ∧
  (∀ (p : Path) (s : State), running s = true → s.cmt.st ≠ .closed → s.hub.st ≠ .resync →
    exec (.cmtOpen p) s = .next (pgError .cmt 0 stBusy s)) ∧
  (∀ (p : Path) (s : State), running s = true → s.cmt.st = .open_ → s.cmt.owner = ownerDirect p →
    exec (.cmtCheck p) s = .next { vexcIssue s with cmt := { s.cmt with st := .checking, arming := false, pre := none, idle := 0 } }) ∧
  (∀ (n : Nat) (s : State), n < 4 → excUsed s n = true → auxAvail s n = true → vexcBusy (vexcIssue s) n = true) ∧
  (∀ (n : Nat) (s : State), n < 4 → auxAvail s n = false → aux (vexcIssue s) n = aux s n) ∧
  (∀ (p : Path) (s : State), running s = true → s.cmt.owner ≠ ownerDirect p →
    exec (.cmtCheck p) s = .next (pgError .cmt 0 stNotPermitted s) ∧ exec (.cmtArm p) s = .next (pgError .cmt 0 stNotPermitted s) ∧
      exec (.cmtDisarm p) s = .next (pgError .cmt 0 stNotPermitted s) ∧ exec (.cmtAbandon p) s = .next (pgError .cmt 0 stNotPermitted s)) ∧
  (∀ (p : Path) (s : State), running s = true → s.cmt.st = .open_ → s.cmt.owner = ownerDirect p →
    ∃ t, exec (.cmtArm p) s = .next t ∧ t = { vexcIssue s with cmt := t.cmt } ∧ t.cmt.st = .checking ∧ t.cmt.arming = true ∧
      t.cmt.applyFrame = applyFrame s ∧ t.cmt.owner = s.cmt.owner ∧ t.cmt.idle = 0) ∧
  (∀ (p : Path) (s : State), running s = true → s.cmt.st = .armed → s.cmt.owner = ownerDirect p → s.frame + 1 < s.cmt.applyFrame →
    exec (.cmtDisarm p) s = .next { s with cmt := { s.cmt with st := .open_, finalOk := false, idle := 0 } }) ∧
  (∀ (p : Path) (s : State), running s = true → s.cmt.st = .armed → s.cmt.owner = ownerDirect p → s.cmt.applyFrame ≤ s.frame + 1 →
    exec (.cmtDisarm p) s = .next (pgError .cmt 0 stBusy { s with cmt := { s.cmt with idle := 0 } })) ∧
  (∀ (p : Path) (s : State), running s = true → s.cmt.owner = ownerDirect p →
    (s.cmt.st = .open_ ∨ s.cmt.st = .armed ∧ s.frame + 1 < s.cmt.applyFrame) →
    ∃ t, exec (.cmtAbandon p) s = .next t ∧
      t = { s with regs := t.regs, staged := [], cmt := t.cmt, evt := t.evt, flight := t.flight, compl := t.compl } ∧
      t.cmt.st = .closed ∧ t.cmt.owner = .none ∧ t.cmt.epoch = s.cmt.epoch ∧ bit (rg t 0x2010) 3 = true ∧
      SameRegs [0x2010, 0x5024, 0x502C] s t ∧ (s.flight = [] → t.flight = [] ∧ t.compl = s.compl ∧ SameRegs [0x2010] s t))

/-- The ends of a check (R87 to R89, R159): once the measured VEXC is in, CHECK leaves its result with the session OPEN, every
load register new, and until then it goes on; ARM leaves it ARMED where every check passed and OPEN where one failed; the
final check on tick F-1 keeps the session or cancels the apply; an idle session times out. The apply (R20, R82, R90, R97): at
tick F the session closes with the next epoch, an unconfigured hub becomes SOLO, a staged TWN register becomes active at once,
and a DSP-governing one goes with the pass of that tick. What log entries 75 and 188 name in this is the model's choice or
reading. -/
def Obligations.ChecksAndApplies : Prop :=
  (∀ s : State, running s = true → s.cmt.st = .checking → s.cmt.arming = false → vexcIn s = true →
    ∃ t, exec .checkComplete s = .next t ∧
      t = { s with regs := t.regs, cmt := t.cmt, evt := t.evt, auxs := t.auxs, flight := t.flight, compl := t.compl } ∧
      t.cmt.st = .open_ ∧ t.cmt.owner = s.cmt.owner ∧ t.cmt.res.status = (checkRun [] s).cmt.res.status ∧
      bit (rg t 0x2010) 0 = true ∧ (∀ f ∈ t.flight, f.wait ≠ .check) ∧
      t.cmt.res.asm = (checkRun [] s).cmt.res.asm ∧ t.cmt.res.budget = b85 (sHz s) ∧
      (∀ b, b < 12 → tget 0 t.cmt.res.bkdem b = bankDem s b) ∧
      (∀ n, n < 8 → tget 0 t.cmt.res.lkdem n = laneNeed s n ∧ tget 0 t.cmt.res.lkcap n = laneCap s n)) ∧
  (∀ s : State, vexcIn s = false → exec .checkComplete s = .next s ∧ exec .armCheckComplete s = .next s) ∧
  (∀ s : State, running s = true → s.cmt.st = .checking → s.cmt.arming = true → vexcIn s = true →
    (checkRun (armPre s) s).cmt.res.status = stOk →
    ∃ t, exec .armCheckComplete s = .next t ∧ t = { s with cmt := t.cmt, auxs := t.auxs } ∧ t.cmt.st = .armed ∧
      t.cmt.arming = false ∧ t.cmt.finalOk = false ∧ t.cmt.applyFrame = s.cmt.applyFrame) ∧
  (∀ s : State, running s = true → s.cmt.st = .checking → s.cmt.arming = true → vexcIn s = true → s.flight = [] → s.hub.st ≠ .resync →
    (checkRun (armPre s) s).cmt.res.status ≠ stOk →
    ∃ t, exec .armCheckComplete s = .next t ∧ t = { s with cmt := t.cmt, auxs := t.auxs } ∧ t.cmt.st = .open_ ∧ t.cmt.arming = false) ∧
  (∀ s : State, running s = true → s.cmt.st = .armed → s.cmt.finalOk = false → s.frame + 1 = s.cmt.applyFrame → finalRun s = none →
    exec .finalCheck s = .next { s with cmt := { s.cmt with finalOk := true } }) ∧
  (∀ (n : Nat) (v : Viol) (s : State), running s = true → s.cmt.st = .armed → s.cmt.finalOk = false →
    s.frame + 1 = s.cmt.applyFrame → finalRun s = some (n, v) → s.flight = [] → s.hub.st ≠ .resync →
    ∃ t, exec .finalCheck s = .next t ∧ t = { s with regs := t.regs, cmt := t.cmt, evt := t.evt } ∧ t.cmt.st = .open_ ∧
      t.cmt.res.final = true ∧ t.cmt.res.status = v.st ∧ bit (rg t 0x2010) 2 = true ∧ SameRegs [0x2010] s t) ∧
  (∀ s : State, running s = true → (s.cmt.st = .open_ ∨ s.cmt.st = .checking) → af s 0x2078 0 8 ≠ 0 →
    af s 0x2078 0 8 * 1024 ≤ s.cmt.idle →
    ∃ t, exec .sessionTimeout s = .next t ∧
      t = { s with regs := t.regs, staged := [], cmt := t.cmt, evt := t.evt, flight := t.flight, compl := t.compl } ∧
      t.cmt.st = .closed ∧ t.cmt.owner = .none ∧ bit (rg t 0x2010) 3 = true ∧
      (rg s 0x2018 = 0 → rg t 0x2018 = word (stTimeout <<< 24 ||| s.frame % 2 ^ 24))) ∧
  (∀ s : State, running s = true → s.cmt.st = .armed → s.cmt.finalOk = true → s.frame = s.cmt.applyFrame → s.cmt.imageEpoch = none →
    s.flight = [] → s.staged = [] →
    ∃ t, exec .commitApply s = .next t ∧
      t = { s with regs := t.regs, hub := t.hub, cmt := t.cmt, evt := t.evt, lanes := t.lanes, queues := t.queues, mem := t.mem, rtePath := t.rtePath, twn := t.twn, hst := t.hst } ∧
      t.cmt.st = .closed ∧ t.cmt.owner = .none ∧ t.cmt.epoch = s.cmt.epoch + 1 ∧ t.cmt.lastApply = s.cmt.applyFrame ∧
      t.mem.words = s.mem.words ∧ bit (rg t 0x2010) 1 = true ∧ (s.hub.st = .unconfigured → t.hub = { s.hub with st := .solo })) ∧
  (∀ (a : Nat) (w : Word) (s : State), running s = true → s.cmt.st = .armed → s.cmt.finalOk = true → s.frame = s.cmt.applyFrame →
    s.flight = [] → s.staged = [(a, w)] → pageAt a = some (.twn, 0) → stMask a ≠ 0 →
    ∃ t, exec .commitApply s = .next t ∧ rg t a = merge (rg s a) w (stMask a) ∧ t.staged = [] ∧ t.dspQ = s.dspQ ∧ t.dspPend = s.dspPend ∧
      t.cmt.st = .closed) ∧
  (∀ (a : Nat) (w : Word) (s : State), running s = true → s.cmt.st = .armed → s.cmt.finalOk = true → s.frame = s.cmt.applyFrame →
    s.flight = [] → s.staged = [(a, w)] → dspGoverned a = true →
    ∃ t, exec .commitApply s = .next t ∧ t.dspQ = s.dspQ ++ [(s.ord, [(a, w)])] ∧ t.staged = [] ∧ t.cmt.st = .closed)

/-- The voted tick (R16, R17, R22, R200): without a step due and without an armed session, a tick raises the frame index by
one, counter C never falls, the copies that agree are shown, and the frame's DSP pass starts; where the pass before still runs
it is held and the overrun counted. The DSP pass (R17, R22, R28, R426): a held pass starts as soon as the one before has
ended; the end of a pass frees its store, and counts the hold-store words it read with a corrected error; a perturbation of
the HUB page (R426) gives the pass its PARAM x 256 more CORE cycles. What log entry 131 names in this is the model's choice or
reading. -/
def Obligations.TicksAndPasses : Prop :=
  (∀ (i : TickIn) (s : State), running s = true → stepDue s = false → s.cmt.st ≠ .armed →
    ∃ t, exec (.milestoneTick i) s = .next t ∧ t.frame = s.frame + 1 ∧ t.ord = s.ord + 1 ∧ s.c ≤ t.c ∧ t.mem.words = s.mem.words ∧
      t.pending = s.pending) ∧
  (∀ (i : TickIn) (s : State), running s = true → stepDue s = false → s.cmt.st ≠ .armed → s.tst.pert = [] →
    s.tst.due = [] → 2 ≤ popc 3 (i.votes % 8) → ∃ t, exec (.milestoneTick i) s = .next t ∧ t.seqAgree = i.votes % 8) ∧
  (∀ (i : TickIn) (s : State), running s = true → stepDue s = false → s.cmt.st ≠ .armed → s.pwr.sleep = .awake →
    s.dsp.run = none → s.dsp.held = [] →
    ∃ t, exec (.milestoneTick i) s = .next t ∧ t.dsp.run = some (s.ord + 1) ∧ t.dsp.held = [] ∧ t.hub.consec = 0) ∧
  (∀ (i : TickIn) (s : State), running s = true → stepDue s = false → s.cmt.st ≠ .armed → s.pwr.sleep = .awake →
    passLate s = true →
    ∃ t, exec (.milestoneTick i) s = .next t ∧ t.dsp.run = s.dsp.run ∧ t.dsp.held = s.dsp.held ++ [s.ord + 1] ∧
      t.hub.consec = s.hub.consec + 1) ∧
  (∀ (o : Nat) (l : List Nat) (s : State), running s = true → s.dsp.run = none → s.dsp.held = o :: l →
    ∃ t, exec .dspPassLateStart s = .next t ∧ t.dsp.run = some o ∧ t.dsp.held = l.filter (fun k => decide (k ≠ o)) ∧
      t.dsp.store = s.dsp.store ∧
      t = { s with freeIdx := t.freeIdx, regs := t.regs, dspPend := t.dspPend, dspQ := t.dspQ, dsp := t.dsp, evt := t.evt, chans := t.chans, taps := t.taps, lts := t.lts, ltWait := t.ltWait, ltRes := t.ltRes, startAt := t.startAt, auxs := t.auxs, profs := t.profs, tmb := t.tmb, lanes := t.lanes, passes := t.passes, tunits := t.tunits, plans := t.plans, gunits := t.gunits, dups := t.dups, pubId := t.pubId, mem := t.mem, flight := t.flight, compl := t.compl }) ∧
  (∀ (o : Nat) (ecc : PassEcc) (wv : List Nat) (s : State), running s = true → s.dsp.run = some o →
    (∀ e ∈ s.dsp.endAt, e ≤ s.c) → (s.dsp.endAt = none → pertOn s .hub 0 1 = false) →
    ∃ t, exec (.dspPassEnd ecc wv) s = .next t ∧ t.dsp.run = none ∧ t.dsp.held = s.dsp.held ∧
      t.dsp.store = s.dsp.store.filter (fun e => decide (e.1 ≠ o)) ∧
      t = { s with regs := t.regs, dsp := t.dsp, evt := t.evt, chans := t.chans, taps := t.taps, lts := t.lts, ltWait := t.ltWait, ltRes := t.ltRes, startAt := t.startAt, auxs := t.auxs, profs := t.profs, tmb := t.tmb, passes := t.passes, grecs := t.grecs, streams := t.streams, queues := t.queues, plans := t.plans, gunits := t.gunits, mem := t.mem, flight := t.flight, compl := t.compl } ∧
      rg t 0xB030 = word (satAdd 32 (rg s 0xB030).toNat ecc.corr)) ∧
  (∀ (o : Nat) (ecc : PassEcc) (wv : List Nat) (s : State), running s = true → s.dsp.run = some o → s.dsp.endAt = none →
    pertOn s .hub 0 1 = true →
    exec (.dspPassEnd ecc wv) s = .next { s with dsp := { s.dsp with endAt := some (s.c + 256 * pertArg s .hub 0) } })

/-- A loss of a core rail, a loss of XOS and a RESET_N low of 0.5 us or more reset the whole hub, the first two with counter
C, the last without it; CLK_RST_CAUSE names the source; a glitch below 0.3 us and an XOS inside its band do nothing (R57,
R63). The values registers hold where the manual gives none are the model's (log entries 1 and 2). The output pins (R40, R45):
without power every pin is high-Z; after a recognised RESET_N low each stands at its Reset state; read data leaves on DQ1 in
single SPI, on DQ3 to DQ0 in quad and on all of HS_DQ with HS_DQS in octal, and only while it goes out; HS_BUSY_N is low
during an access; TDO is driven in the shift states alone; HS_IRQ_N falls for a pending interrupt. -/
def Obligations.WholeHubReset : Prop :=
  (∀ (r : CoreRail) (s : State), ∃ t, exec (.powerOnReset r) s = .next t ∧ AtReset s t ∧ t.c = 0 ∧ t.pwr.phase = .por ∧
    t.pwr.core = false ∧ rg t 0x1044 = (match r with | .vddC => 0x01#32 | .vddIo => 0x11#32 | .first => 0x21#32)) ∧
  (∀ (o : Option Nat) (s : State), (∀ d ∈ o, 155 < d) → s.pwr.phase ≠ .por → ∃ t, exec (.xosLoss o) s = .next t ∧ AtReset s t ∧
    t.c = 0 ∧ t.pwr.phase = .por ∧ t.pwr.xos = false ∧ t.pwr.slowInt = true ∧ rg t 0x1044 = 0xF2#32) ∧
  (∀ (ns : Nat) (s : State), 500 ≤ ns → s.pwr.phase ≠ .por → s.pwr.phase ≠ .pin → ∃ t, exec (.resetNAssert ns) s = .next t ∧
    AtReset s t ∧ t.c = s.c ∧ t.pwr.phase = .pin ∧ t.pwr.resetNLow = true ∧ rg t 0x1044 = 0xF4#32) ∧
  (∀ (ns : Nat) (s : State), ns < 300 → exec (.resetNAssert ns) s = .next s) ∧
  (∀ (d : Nat) (s : State), d ≤ 45 → exec (.xosLoss (some d)) s = .next s) ∧
  (∀ (ph : HsPhase) (sh : Bool) (i t : Nat) (s : State), s.pwr.core = false →
    chPins s i = .highZ ∧ excPins s i = .highZ ∧ lnTx s i = .highZ ∧ lnRx s = .highZ ∧ timingPin s i t = .highZ ∧ hsDq s ph i = .highZ ∧
      hsDqs s ph = .highZ ∧ hsBusyN s ph = .highZ ∧ hsIrqN s = .highZ ∧ tdo s sh = .highZ ∧ bstGd s = .highZ ∧ bcnG s i = .highZ ∧
      bchEn s = .highZ ∧ bchOut s = .highZ) ∧
  (∀ (ns i x : Nat) (ph : HsPhase) (s : State), 500 ≤ ns → s.pwr.core = true → s.pwr.phase ≠ .por → s.pwr.phase ≠ .pin →
    ∃ t, exec (.resetNAssert ns) s = .next t ∧ chPins t i = .highZ ∧ excPins t i = .highZ ∧ lnTx t i = .eIdle ∧ lnRx t = .termination ∧
      timingPin t i x = .low ∧ hsDq t ph i = .highZ ∧ hsDqs t ph = .highZ ∧ hsBusyN t ph = .low ∧ hsIrqN t = .released ∧
      bstGd t = .low ∧ bcnG t i = .low ∧ bchEn t = .low ∧ bchOut t = .low) ∧
  (∀ (i : Nat) (s : State), s.pwr.core = true → running s = true → s.jtag.held = false → s.pwr.ft = false →
    (s.hst.gen = 0 → (hsDq s .dataOut i = .driven ↔ i = 1) ∧ hsDqs s .dataOut = .highZ) ∧
      (s.hst.gen = 1 → (hsDq s .dataOut i = .driven ↔ i < 4) ∧ hsDqs s .dataOut = .highZ) ∧
      (s.hst.gen = 2 → (hsDq s .dataOut i = .driven ↔ i < 8) ∧ hsDqs s .dataOut = .driven) ∧
      hsBusyN s .access = .low ∧ hsBusyN s .none = .high ∧ hsDq s .clockIn i = .highZ ∧ tdo s true = .driven ∧ tdo s false = .highZ ∧
      (hsIrqN s = .low ↔ hsIrqLow s = true))

/-- From reset to service (R42, R55, R65): the release of the reset samples the straps and starts boot; boot ends in RUN with
the hub state of the straps; a failed ROM checksum leaves the processor dead, failed fuses are marked. The boundary-scan port
(R63, R428, R429): its instructions are taken, one that takes the pins holds them and leaves the words of the capture memory,
and TRST_N touches the port alone. -/
def Obligations.BootSequence : Prop :=
  (∀ s : State, exec .coreRailPresent s = .next { s with pwr := { s.pwr with core := true } }) ∧
  (∀ s : State, exec .xosRestored s = .next { s with pwr := { s.pwr with xos := true, slowInt := false } }) ∧
  (∀ (st : Straps) (s : State), s.pwr.phase = .por → s.pwr.core = true → s.pwr.xos = true → s.pwr.resetNLow = false →
    ∃ t, exec (.porRelease st) s = .next t ∧ t = { s with pwr := t.pwr, hub := t.hub } ∧ t.pwr.phase = .boot ∧ t.pwr.ft = st.ft ∧
      t.hub = { s.hub with straps := { st with bootMode := st.bootMode % 4 } }) ∧
  (∀ (st : Straps) (s : State), s.pwr.phase = .por → s.pwr.core = true → s.pwr.xos = true → s.pwr.resetNLow = true →
    ∃ t, exec (.porRelease st) s = .next t ∧ t = { s with pwr := t.pwr } ∧ t.pwr.phase = .pin) ∧
  (∀ (st : Straps) (s : State), s.pwr.phase = .pin →
    ∃ t, exec (.resetNRelease st) s = .next t ∧ t = { s with pwr := t.pwr, hub := t.hub } ∧ t.pwr.phase = .boot ∧
      t.pwr.resetNLow = false ∧ t.hub = { s.hub with straps := { st with bootMode := st.bootMode % 4 } }) ∧
  (∀ (fuse : Bool) (f : FuseData) (s : State), s.pwr.phase = .boot → s.twn.seen = false →
    ∃ t, exec (.bootComplete fuse true f) s = .next t ∧ t.pwr.phase = .run ∧
      t.hub = { s.hub with st := if s.hub.straps.twinEn then .standby else .unconfigured, fuseFail := !fuse, lats := if fuse then f.lats else [] } ∧
      (fuse = true → t.mem = { s.mem with repair := f.repairs.map fuseRepair }) ∧ (fuse = false → t.mem = s.mem) ∧
      t = { s with pwr := t.pwr, hub := t.hub, frame := t.frame, mem := t.mem, regs := t.regs, evt := t.evt } ∧
      (fuse = true → s.hub.straps.bootMode ≠ 3 → t.regs = s.regs)) ∧
  (∀ (fuse : Bool) (f : FuseData) (s : State), s.pwr.phase = .boot →
    exec (.bootComplete fuse false f) s = .next { s with pwr := { s.pwr with phase := .dead } }) ∧
  (∀ (i : JtagOp) (s : State), jtagTakes i = false → exec (.jtagInstruction i) s = .next { s with jtag := { s.jtag with instr := i } }) ∧
  (∀ (i : JtagOp) (s : State), jtagTakes i = true → ∃ t, exec (.jtagInstruction i) s = .next t ∧ t.jtag = ⟨i, true⟩ ∧ t.mem.words = s.mem.words) ∧
  (∀ s : State, exec .trstNAssert s = .next { s with jtag := { s.jtag with instr := .idcode } })

/-- Losing a lane rail, or the lanes' reference, stops PLL-L and takes every lane DOWN; their return restarts it (R55, R58).
Field dies (R54, R62, R67, R144 to R146): a die whose rails fail loses its link, buffers and channels, which go to FAULT with
cause 2; with rails and buffers back, its channels start at the SAMP edge of the present tick and settle, but a channel with a
stuck modulator stays in FAULT; no other die changes. -/
def Obligations.RailLosses : Prop :=
  (∀ (lh : Bool) (s : State), live s = true → (if lh then s.pwr.vddlh else s.pwr.vddl) = true → ∃ t, exec (.laneRailLoss lh) s = .next t ∧ t.pwr.pllL = false ∧
    (if lh then t.pwr.vddlh = false else t.pwr.vddl = false) ∧ (∀ n, n < 8 → (lane t n).st = .down) ∧ bit (rg t 0x1010) 2 = true ∧
    t.mem.words = s.mem.words) ∧
  (∀ s : State, live s = true → s.pwr.pllL = true → ∃ t, exec .lrefLoss s = .next t ∧ t.pwr = { s.pwr with pllL := false } ∧
    (∀ n, n < 8 → (lane t n).st = .down) ∧ bit (rg t 0x1010) 3 = true ∧ t.mem.words = s.mem.words) ∧
  (∀ s : State, exec .laneRailRestore s = .next { s with pwr := { s.pwr with vddl := true, vddlh := true } }) ∧
  (∀ s : State, s.pwr.vddl = true → s.pwr.vddlh = true → exec .plllRelock s = .next { s with pwr := { s.pwr with pllL := true } }) ∧
  (∀ (n : Nat) (s : State), n < 4 → live s = true → (die s n).rails = true →
    ∃ t, exec (.fieldDieRailLoss n) s = .next t ∧
      t = { s with regs := t.regs, dies := t.dies, evt := t.evt, chans := t.chans, lts := t.lts, ltWait := t.ltWait, ltRes := t.ltRes, startAt := t.startAt, excs := t.excs, refs := t.refs, auxs := t.auxs, slots := t.slots, twn := t.twn, flight := t.flight, compl := t.compl } ∧
      (die t n).rails = false ∧ (die t n).lost = true ∧ (die t n).up = false ∧ (die t n).trained = false ∧
      (∀ m, m ≠ n → die t m = die s m) ∧ (∀ g ∈ dieChans n, chOn s g = true → (chan t g).st = .fault ∧ (chan t g).cause = 2) ∧
      (∀ g, g ∉ dieChans n → (chan t g).st = (chan s g).st) ∧ (∀ k, k < 16 → (exc t (16 * n + k)).mode = .off) ∧
      bit (rg t 0x1010) 0 = true) ∧
  (∀ (n : Nat) (s : State), n < 4 → ∃ t, exec (.fieldDieRailRestore n) s = .next t ∧ t = { s with dies := t.dies } ∧
    die t n = { die s n with rails := true } ∧ ∀ m, m ≠ n → die t m = die s m) ∧
  (∀ (n : Nat) (s : State), n < 4 → running s = true → (die s n).restoring = true →
    buffersReady s ((dieChans n).filter (fun g => decide ((chan s g).cause = 2))) = true →
    ∃ t, exec (.dieChannelRestore n) s = .next t ∧
      t = { s with freeIdx := t.freeIdx, regs := t.regs, dies := t.dies, evt := t.evt, chans := t.chans, taps := t.taps, modStart := t.modStart, startAt := t.startAt, restart := t.restart, excs := t.excs, auxs := t.auxs } ∧
      die t n = { die s n with lost := false, restoring := false } ∧ (∀ m, m ≠ n → die t m = die s m) ∧
      (∀ g ∈ dieChans n, (chan s g).st = .fault → (chan s g).cause = 2 → (chan s g).inUse = true → (chan s g).stuck = false →
        chCarried s g = true → (chan t g).st = .settling ∧ (chan t g).mod0 = startEdge s s.ord ∧ (tap t g).hist = [] ∧ (tap t g).outs = [] ∧
        tget none t.restart g = some s.ord) ∧
      (∀ g ∈ dieChans n, (chan s g).st = .fault → (chan s g).stuck = true → (chan t g).st = .fault) ∧
      (∀ g, g ∉ dieChans n → chan t g = chan s g ∧ tap t g = tap s g) ∧ SameRegs ([0x1010] ++ (List.range 4).map (fun q => pgIrq .shf (4 * n + q))) s t ∧ bit (rg t 0x1010) 1 = true)

/-- The die-to-die links (R12, R59 to R62): training leaves the map of the lanes that trained, and with none both sheaf pairs
are lost; a word error is rebuilt and counted while the spare carries the parity, on a failed lane too up to its tick, else it
costs one slot; the eighth within 65,536 words declares the lane failed; a failed lane moves to the spare, and with no spare
left its channels go to FAULT with cause 1; trims are measured again after 2^20 frames and approached, never jumped to. What
log entry 154 names in this is the model's choice or reading. -/
def Obligations.DieLinks : Prop :=
  (∀ (n ok : Nat) (tr : List Nat) (s : State), n < 4 → live s = true → (die s n).rails = true → bit (rg s 0x1048) n = true →
    (die s n).trained = false → s.pwr.sleep ≠ .asleep → ok % 8 ≠ 0 →
    ∃ t, exec (.d2dTrained n ok tr) s = .next t ∧
      t = { s with regs := t.regs, dies := t.dies, evt := t.evt, chans := t.chans, lts := t.lts, ltWait := t.ltWait, ltRes := t.ltRes, startAt := t.startAt, refs := t.refs, auxs := t.auxs, slots := t.slots, flight := t.flight, compl := t.compl } ∧
      (die t n).trained = true ∧ (die t n).up = true ∧ (die t n).map = (mapOf ok).1 ∧ (die t n).lostLo = (mapOf ok).2.1 ∧
      (die t n).lostHi = (mapOf ok).2.2 ∧ (die t n).trim = tr.map (fun x => min x 250) ∧ (die t n).trimAt = s.ord ∧ (∀ m, m ≠ n → die t m = die s m) ∧
      (ok % 8 = 7 → t.regs = s.regs ∧ t.chans = s.chans)) ∧
  (∀ (n ok : Nat) (tr : List Nat) (s : State), n < 4 → live s = true → (die s n).rails = true → bit (rg s 0x1048) n = true →
    (die s n).trained = false → s.pwr.sleep ≠ .asleep → ok % 8 = 0 →
    ∃ t, exec (.d2dTrained n ok tr) s = .next t ∧
      t = { s with regs := t.regs, dies := t.dies, evt := t.evt, chans := t.chans, lts := t.lts, ltWait := t.ltWait, ltRes := t.ltRes, startAt := t.startAt, auxs := t.auxs, slots := t.slots, flight := t.flight, compl := t.compl } ∧
      (die t n).trained = false ∧ (die t n).lostLo = true ∧ (die t n).lostHi = true ∧ bit (rg t 0x1B010) 2 = true ∧
      (∀ g ∈ dieChans n, chOn s g = true → (chan t g).st = .fault ∧ (chan t g).cause = 1) ∧ (∀ m, m ≠ n → die t m = die s m)) ∧
  (∀ (n : Nat) (x : LaneWord) (s : State), n < 4 → live s = true → (die s n).trained = true → x.lane < 2 → (die s n).map = 0 →
    laneOk (die s n) (1 - x.lane) = true → (die s n).ok2 = true → (failedWords (die s n) x.lane x.w).length < 8 →
    ∃ t, exec (.d2dWordError n x) s = .next t ∧ t = { s with regs := t.regs, dies := t.dies } ∧ SameRegs [0x1B020 + 4 * n] s t ∧
      rg t (0x1B020 + 4 * n) = word (satAdd 32 (rg s (0x1B020 + 4 * n)).toNat 1) ∧ (∀ m, m ≠ n → die t m = die s m) ∧
      die t n = { die s n with bad := tset [] (die s n).bad x.lane (failedWords (die s n) x.lane x.w) }) ∧
  (∀ (n : Nat) (x : LaneWord) (s : State), n < 4 → live s = true → (die s n).trained = true → x.lane < 2 → (die s n).map = 0 →
    (die s n).ok0 = true → (die s n).ok1 = true → (die s n).ok2 = true → (die s n).sub = none →
    (failedWords (die s n) x.lane x.w).length = 8 →
    ∃ t, exec (.d2dWordError n x) s = .next t ∧ t = { s with regs := t.regs, dies := t.dies } ∧ SameRegs [0x1B020 + 4 * n] s t ∧
      laneOk (die t n) x.lane = false ∧ (die t n).sub = some x.lane ∧ (∀ m, m ≠ n → die t m = die s m)) ∧
  (∀ (n : Nat) (x : LaneWord) (s : State), n < 4 → live s = true → (die s n).trained = true → x.lane < 2 → (die s n).map = 3 →
    pairLost (die s n) (decide (x.lane = 1)) = false → (failedWords (die s n) x.lane x.w).length < 8 →
    ∃ t, exec (.d2dWordError n x) s = .next t ∧ t = { s with regs := t.regs, dies := t.dies, evt := t.evt, chans := t.chans } ∧
      SameRegs [0x1B030 + 4 * n, 0x1B010] s t ∧ rg t (0x1B030 + 4 * n) = word (satAdd 32 (rg s (0x1B030 + 4 * n)).toNat 1) ∧
      (∀ g, g / 32 ≠ 4 * n + 2 * x.lane + (if x.odd then 1 else 0) → chan t g = chan s g) ∧ bit (rg t 0x1B010) 3 = true) ∧
  (∀ (n : Nat) (l : List Nat) (s : State), n < 4 → live s = true → (die s n).trained = true →
    (∃ x ∈ l, pairLost (die s n) (decide (2 ≤ x % 4)) = false) →
    ∃ t, exec (.d2dUnrecoverableWord n l) s = .next t ∧ t = { s with regs := t.regs, evt := t.evt, chans := t.chans } ∧
      SameRegs [0x1B030 + 4 * n, 0x1B010] s t ∧ rg t (0x1B030 + 4 * n) = word (satAdd 32 (rg s (0x1B030 + 4 * n)).toNat 1) ∧
      bit (rg t 0x1B010) 3 = true ∧ (∀ g, (∀ x ∈ l, g / 32 ≠ 4 * n + x % 4) → chan t g = chan s g)) ∧
  (∀ (n l : Nat) (s : State), n < 4 → live s = true → (die s n).trained = true → l < 2 → (die s n).sub = none → (die s n).map = 0 →
    (die s n).ok2 = true → (if l = 0 then (die s n).ok0 else (die s n).ok1) = true →
    ∃ t, exec (.d2dLaneFail n l) s = .next t ∧ t = { s with dies := t.dies } ∧ (∀ m, m ≠ n → die t m = die s m) ∧
      die t n = (if l = 0 then { die s n with ok0 := false, sub := some 0 } else { die s n with ok1 := false, sub := some 1 })) ∧
  (∀ (n : Nat) (s : State), n < 4 → live s = true → (die s n).trained = true → (die s n).sub = none → (die s n).map = 0 →
    (die s n).ok2 = true →
    ∃ t, exec (.d2dLaneFail n 2) s = .next t ∧ t = { s with regs := t.regs, dies := t.dies, evt := t.evt } ∧
      die t n = { die s n with ok2 := false, map := 3 } ∧ (∀ m, m ≠ n → die t m = die s m) ∧ SameRegs [0x1B010] s t ∧
      bit (rg t 0x1B010) 1 = true) ∧
  (∀ (n l : Nat) (s : State), n < 4 → live s = true → (die s n).trained = true → l < 2 → (die s n).sub = none → (die s n).map = 3 →
    (if l = 0 then (die s n).ok0 else (die s n).ok1) = true → pairLost (die s n) (decide (l = 1)) = false →
    ∃ t, exec (.d2dLaneFail n l) s = .next t ∧ pairLost (die t n) (decide (l = 1)) = true ∧
      t = { s with regs := t.regs, dies := t.dies, evt := t.evt, chans := t.chans, lts := t.lts, ltWait := t.ltWait, ltRes := t.ltRes, startAt := t.startAt, auxs := t.auxs, flight := t.flight, compl := t.compl } ∧
      (∀ m, m ≠ n → die t m = die s m) ∧ bit (rg t 0x1B010) 2 = true ∧
      (∀ g ∈ pairChans n (decide (l = 1)), chOn s g = true → (chan t g).st = .fault ∧ (chan t g).cause = 1) ∧
      (∀ g, g ∉ pairChans n (decide (l = 1)) → (chan t g).st = (chan s g).st)) ∧
  (∀ (n : Nat) (tr : List Nat) (s : State), n < 4 → live s = true → (die s n).trained = true → (die s n).trimAt + 2 ^ 20 ≤ s.ord →
    ∃ t, exec (.d2dTrimRemeasure n tr) s = .next t ∧ t = { s with dies := t.dies } ∧ (∀ m, m ≠ n → die t m = die s m) ∧
      die t n = { die s n with trimTo := tr.map (fun x => min x 250), trimAt := s.ord }) ∧
  (∀ (n : Nat) (tr : List Nat) (s : State), s.ord < (die s n).trimAt + 2 ^ 20 → exec (.d2dTrimRemeasure n tr) s = .next s)

/-- SLEEP entry and wake (R68, R69, R71, R145): the drained hub enters SLEEP, where PLL-D, the links of the dies, the
reference buffers and the drivers are off, a timebase that followed its source is in HOLDOVER at its rate, every lane but the
one that KEEP names is DOWN, and HUB_SLEEP ends with OK; an entry that takes 1000 frames is given up, to wake with RESTORE
from where it stands, and HUB_SLEEP ends with TIMEOUT; the end of a wake returns the hub state, STANDBY on a hub of a twin
pair, and ends HUB_WAKE with OK; with RESTORE the channels that were in use are in SETTLING from the present tick, one whose
link lane is lost in FAULT, and no other channel changes. SAFE and the control processor (R13, R14, R23, R24, R391): each
cause of R23, 16 overruns in a row or a pass still running at its second tick after, brings the hub to SAFE, which names it,
stops every capture plan and raises the SAFE interrupt; 64 clean frames clear the held cause; a restart ends every command in
flight with HW_FAULT, abandons a session that is not armed and keeps an armed one; in RESYNC too, where the attempt then
begins again from phase 1. What log entries 62 and 153 name in this is the model's choice or reading. -/
def Obligations.SleepSafeAndRestart : Prop :=
  (∀ (k p q : Nat) (s : State), s.pwr.sleep = .draining k p q → running s = true → k ≠ 0 → s.dsp.run = none → drained s = true →
    ∃ t, exec .sleepDrainDone s = .next t ∧
      t = { s with freeIdx := t.freeIdx, regs := t.regs, pwr := t.pwr, dies := t.dies, hub := t.hub, evt := t.evt, chans := t.chans, lts := t.lts, ltWait := t.ltWait, ltRes := t.ltRes, excs := t.excs, refs := t.refs, auxs := t.auxs, slots := t.slots, tmb := t.tmb, lanes := t.lanes, queues := t.queues, mem := t.mem, rtePath := t.rtePath, twn := t.twn, bcn := t.bcn, hst := t.hst, flight := t.flight, compl := t.compl } ∧
      t.pwr = { s.pwr with sleep := .asleep, keep := keepPick s, pllD := false, before := s.hub.st } ∧
      t.hub = { s.hub with st := .sleep } ∧ t.mem.words = s.mem.words ∧
      (∀ n, n < 4 → (die t n).trained = false ∧ (die t n).up = false) ∧ (∀ n, n < 8 → n ≠ keepPick s → (lane t n).st = .down) ∧
      (∀ b, b < 96 → (ref t b).on = false) ∧ (∀ o, o < 64 → (exc t o).mode = .off) ∧
      ((s.tmb.st = .stepped ∨ s.tmb.st = .locked) → t.tmb.st = .holdover ∧ t.tmb.rho = s.tmb.rho) ∧ Woken .sleep stOk [] s t) ∧
  (∀ (k p q : Nat) (s : State), s.pwr.sleep = .draining k p q → running s = true → k ≠ 0 → k + 1000 ≤ s.ord → drained s = false →
    ∃ t, exec .sleepTimeout s = .next t ∧ t = { s with regs := t.regs, pwr := t.pwr, flight := t.flight, compl := t.compl } ∧
      t.pwr = { s.pwr with sleep := .waking true, before := s.hub.st } ∧ Woken .sleep stTimeout [] s t ∧
      SameRegs [0x5024, 0x502C] s t) ∧
  (∀ s : State, s.pwr.sleep = .waking false → running s = true → linksBack s = true → s.dsp.run = none → s.dsp.held = [] →
    buffersReady s (wakeChans s) = true →
    ∃ t, exec .wakeChannelRestore s = .next t ∧
      t = { s with regs := t.regs, pwr := { s.pwr with sleep := .awake }, hub := t.hub, flight := t.flight, compl := t.compl } ∧
      t.hub = { s.hub with st := if s.hub.st = .sleep then (if s.hub.straps.twinEn then .standby else s.pwr.before) else s.hub.st } ∧
      Woken .wake stOk [] s t ∧ SameRegs [0x5024] s t) ∧
  (∀ s : State, s.pwr.sleep = .waking true → running s = true → linksBack s = true → s.dsp.run = none → s.dsp.held = [] →
    buffersReady s (wakeChans s) = true →
    ∃ t, exec .wakeChannelRestore s = .next t ∧
      t = { s with freeIdx := t.freeIdx, regs := t.regs, pwr := { s.pwr with sleep := .awake }, hub := t.hub, evt := t.evt, chans := t.chans, taps := t.taps, modStart := t.modStart, startAt := t.startAt, restart := t.restart, excs := t.excs, auxs := t.auxs, flight := t.flight, compl := t.compl } ∧
      t.hub = { s.hub with st := if s.hub.st = .sleep then (if s.hub.straps.twinEn then .standby else s.pwr.before) else s.hub.st } ∧
      (∀ g, g < 512 → (chan s g).inUse = true → (chan s g).stuck = false → (die s (g / 128)).lost = false → chCarried s g = true →
        (chan t g).st = .settling ∧ (chan t g).mod0 = startEdge s s.ord) ∧
      (∀ g, g < 512 → (chan s g).inUse = true → chCarried s g = false → (chan t g).st = .fault) ∧
      (∀ g, (chan s g).inUse = false → (chan t g).st = (chan s g).st) ∧ Woken .wake stOk [] s t) ∧
  (∀ s : State, safeDue s ≠ 0 →
    ∃ t, exec .safeEntry s = .next t ∧
      t = { s with regs := t.regs, hub := t.hub, evt := t.evt, taps := t.taps, lanes := t.lanes, plans := t.plans, gunits := t.gunits, mem := t.mem, twn := t.twn } ∧
      t.hub = { s.hub with st := .safe, safeCause := safeDue s, safeHeld := true, clean := 0 } ∧ t.mem.words = s.mem.words ∧
      (∀ j, j < 8 → ((plan s j).st = .filling ∨ (plan s j).st = .ready → (plan t j).st = .idle ∧ (plan t j).cause = 3) ∧
        ((plan s j).st = .post → (plan t j).st = .held ∧ (plan t j).cause = 3)) ∧
      (s.twn.token = false → t.lanes = s.lanes ∧ t.twn = s.twn) ∧
      rg t 0x24 = word (satAdd 32 (rg s 0x24).toNat 1) ∧ bit (rg t 0x10) 0 = true) ∧
  (∀ s : State, safeDue s = 0 → exec .safeEntry s = .next s) ∧
  (∀ s : State, running s = true → s.hub.st ≠ .safe → s.hub.st ≠ .sleep → 16 ≤ s.hub.consec → safeDue s = 1) ∧
  (∀ (o : Nat) (s : State), running s = true → s.hub.st ≠ .safe → s.hub.st ≠ .sleep → s.hub.consec < 16 → s.dsp.run = some o →
    o + 2 ≤ s.ord → safeDue s = 2) ∧
  (∀ s : State, running s = true → s.hub.st = .safe → 64 ≤ s.hub.clean →
    exec .safeCauseCleared s = .next { s with hub := { s.hub with safeHeld := false } }) ∧
  (∀ s : State, running s = true → s.hub.st ≠ .resync → (s.cmt.st = .closed ∨ s.cmt.st = .armed) →
    ∃ t, exec .processorRestart s = .next t ∧
      t = { s with regs := t.regs, evt := t.evt, mem := t.mem, hst := t.hst, flight := t.flight, compl := t.compl } ∧
      t.mem.words = s.mem.words ∧ AllFailed s t ∧ rg t 0x5034 = word (satAdd 32 (rg s 0x5034).toNat 1) ∧ bit (rg t 0x5010) 0 = true) ∧
  (∀ s : State, running s = true → s.hub.st ≠ .resync → (s.cmt.st = .open_ ∨ s.cmt.st = .checking) →
    ∃ t, exec .processorRestart s = .next t ∧ t.cmt.st = .closed ∧ t.cmt.owner = .none ∧ t.staged = [] ∧
      t = { s with regs := t.regs, staged := t.staged, cmt := t.cmt, evt := t.evt, mem := t.mem, hst := t.hst, flight := t.flight, compl := t.compl } ∧
      t.mem.words = s.mem.words ∧ AllFailed s t ∧ rg t 0x5034 = word (satAdd 32 (rg s 0x5034).toNat 1) ∧ bit (rg t 0x5010) 0 = true) ∧
  (∀ s : State, running s = true → s.hub.st = .resync → s.twn.ph = 0 → (s.cmt.st = .open_ ∨ s.cmt.st = .checking) →
    ∃ t, exec .processorRestart s = .next t ∧ t.cmt.st = .closed ∧ t.staged = [] ∧ t.twn = s.twn ∧ AllFailed s t) ∧
  (∀ s : State, running s = true → s.hub.st = .resync → s.twn.ph ≠ 0 → (s.cmt.st = .open_ ∨ s.cmt.st = .checking) →
    ∃ t, exec .processorRestart s = .next t ∧ t.cmt.st = .open_ ∧ t.cmt.owner = .firmware ∧ t.staged = [] ∧ t.twn.ph = 1 ∧
      t.twn.att = s.twn.att + 1 ∧ AllFailed s t) ∧
  (∀ s : State, running s = true → s.hub.st = .resync → s.cmt.st = .armed →
    ∃ t, exec .processorRestart s = .next t ∧ t.cmt = s.cmt ∧ t.staged = s.staged ∧ AllFailed s t ∧
      (s.twn.ph ≠ 0 → t.twn.ph = 1 ∧ t.twn.att = s.twn.att + 1))

/-- Autorange and overload (R108 to R110, R148, R149): a peak trip widens the range and starts the count anew; 256 qualifying
samples narrow it; in gain 1 a trip only starts the count anew, and a channel not active or without autorange takes none; a
clipped cycle is counted, and its CIC word will carry the marker. Nothing but the channel's own record, its event bits, its
sheaf's counters and counter C changes. Channels that leave and enter service: a stuck modulator puts its channel into FAULT
with cause 3 and marks a second fault within 1024 frames as final; 256 clean cycles set the restart SDLY frames ahead; a start
puts an armed channel, or one whose fault is removed, into SETTLING from the first SAMP edge at or after its tick (R120, R144
to R146). What log entries 118 and 190 name in this is the model's choice or reading. -/
def Obligations.FrontEndEvents : Prop :=
  (∀ (g t : Nat) (b : Bool) (s : State), chActive s g = true → af s (chCfgA g) 8 2 ≠ 0 → (chan s g).gain ≠ 0 →
    ∃ u, exec (.peakTripUprange g b t) s = .next u ∧ u = { s with c := u.c, chans := u.chans, regs := u.regs, evt := u.evt } ∧
      (chan u g).gain = (if b then 0 else widerGain (chan s g).gain) ∧ (chan u g).arCount = 0 ∧
      (chan u g).upCnt = min 255 ((chan s g).upCnt + 1) ∧ (chan u g).st = (chan s g).st ∧ (∀ h, h ≠ g → chan u h = chan s h) ∧
      rg u (shfReg (g / 32) 0x28) = word (satAdd 32 (rg s (shfReg (g / 32) 0x28)).toNat 1) ∧
      rg u (chEventA g) = rg s (chEventA g) ||| 0x10#32 ∧
      SameRegs [shfReg (g / 32) 0x28, chEventA g, pgIrq .shf (g / 32)] s u) ∧
  (∀ (g t : Nat) (b : Bool) (s : State), (chActive s g = false ∨ af s (chCfgA g) 8 2 = 0) → exec (.peakTripUprange g b t) s = .next s) ∧
  (∀ (g t : Nat) (b : Bool) (s : State), chActive s g = true → af s (chCfgA g) 8 2 ≠ 0 → (chan s g).gain = 0 →
    ∃ u, exec (.peakTripUprange g b t) s = .next u ∧ u = { s with c := u.c, chans := u.chans } ∧
      chan u g = { chan s g with arCount := 0 } ∧ (∀ h, h ≠ g → chan u h = chan s h)) ∧
  (∀ (g t code : Nat) (s : State), chActive s g = true → af s (chCfgA g) 8 2 ≠ 0 → 256 ≤ (chan s g).arCount →
    narrowerGain (af s (chCfgA g) 8 2) (chan s g).gain = some code →
    ∃ u, exec (.downrangeCount g t) s = .next u ∧ u = { s with c := u.c, chans := u.chans, regs := u.regs, evt := u.evt } ∧
      (chan u g).gain = code ∧ (chan u g).arCount = 0 ∧ (chan u g).dnCnt = min 255 ((chan s g).dnCnt + 1) ∧
      (∀ h, h ≠ g → chan u h = chan s h) ∧ rg u (chEventA g) = rg s (chEventA g) ||| 0x20#32 ∧
      SameRegs [chEventA g, pgIrq .shf (g / 32)] s u) ∧
  (∀ (g t : Nat) (pos : Bool) (s : State), chActive s g = true →
    ∃ u, exec (.clipDetect g pos t) s = .next u ∧ u = { s with c := u.c, chans := u.chans, regs := u.regs, evt := u.evt } ∧
      (chan u g).clipCnt = min 255 ((chan s g).clipCnt + 1) ∧
      (chan u g).clips = (chan s g).clips ++ [(t, pos)] ∧ (chan u g).st = (chan s g).st ∧
      (∀ h, h ≠ g → chan u h = chan s h) ∧
      rg u (shfReg (g / 32) 0x2C) = word (satAdd 32 (rg s (shfReg (g / 32) 0x2C)).toNat 1) ∧
      rg u (chEventA g) = rg s (chEventA g) ||| 0x40#32 ∧
      SameRegs [shfReg (g / 32) 0x2C, chEventA g, pgIrq .shf (g / 32)] s u) ∧
  (∀ (g t : Nat) (s : State), chActive s g = true →
    ∃ u, exec (.modulatorFault g t) s = .next u ∧ (chan u g).st = .fault ∧ (chan u g).cause = 3 ∧
      (chan u g).stuck = (match tget none s.restart g with | some f => decide (s.ord < f + 1024) | none => false) ∧
      startOf u g = none ∧ (chan u g).lead = .none ∧ u.mem = s.mem ∧ u.restart = s.restart) ∧
  (∀ (g : Nat) (s : State), g < 512 → (chan s g).st = .fault → (chan s g).cause = 3 → (chan s g).stuck = false →
    exec (.modulatorFaultClear g) s = .next (setStart g (some (s.ord + sdly s (g / 32))) s)) ∧
  (∀ (ss t g f : Nat) (s : State), live s = true → ss < 16 → g / 32 = ss → startOf s g = some f → f ≤ s.ord → startEdge s f ≤ t →
    ((chan s g).st = .armed ∨ ((chan s g).st = .fault ∧ (chan s g).stuck = false ∧ chCarried s g = true ∧ (die s (g / 128)).lost = false)) →
    ∃ u, exec (.modulatorStart ss t) s = .next u ∧ (chan u g).st = .settling ∧ (chan u g).cause = 0 ∧ (chan u g).settle = some (startEdge s f) ∧
      (chan u g).mod0 = startEdge s f ∧ startOf u g = none ∧ tget none u.restart g = some f ∧ u.mem = s.mem)

/-- The lead states (R112 to R116): a window trip makes the channel SUSPECT, or joins the detectors of a lead state that
stands; the return without CONFIRM clears SUSPECT, and else leaves the state; a confirming detector makes it CONFIRMED and
holds it while it is active; a detector that goes inactive leaves the list; the retest timer is spent when its test is issued.
Lead tests (R117 to R119, R122): an OPENS test covers the active channels it names and is recorded with them, one with nothing
to cover ends at once; a SHORTS test covers the whole sheaf, opens a CAL span on every channel of it, and is refused while the
sheaf is driven, shared, or without its converter; SHF_LT_RES describes the test that was started; a periodic test waits for a
running one; a test that ends leaves the sheaf without one, unless a periodic one waited. What log entries 14, 162 and 163
name in this is the model's choice or reading. -/
def Obligations.LeadStatesAndTests : Prop :=
  (∀ (g t : Nat) (p n : Bool) (s : State), chOn s g = true → bit (rg s (chLeadA g)) 2 = true → (p || n) = true →
    (chan s g).lead = .none →
    ∃ u, exec (.windowComparatorTrip g p n t) s = .next u ∧
      u = { s with c := u.c, chans := u.chans, regs := u.regs, evt := u.evt, auxs := u.auxs } ∧
      (bit (rg s (chLeadA g)) 3 = false → u.auxs = s.auxs) ∧
      (chan u g).lead = .suspect ∧ (chan u g).cmwP = p ∧ (chan u g).cmwN = n ∧ (chan u g).leadSrc = (chan s g).leadSrc ||| 4 ∧
      (chan u g).detAct = detWindow :: (chan s g).detAct ∧ (∀ h, h ≠ g → chan u h = chan s h) ∧
      rg u (shfReg (g / 32) 0x20) = word (satAdd 32 (rg s (shfReg (g / 32) 0x20)).toNat 1) ∧
      rg u (chEventA g) = rg s (chEventA g) ||| 1#32 ∧
      SameRegs [shfReg (g / 32) 0x20, chEventA g, pgIrq .shf (g / 32)] s u) ∧
  (∀ (g t : Nat) (p n : Bool) (s : State), (chOn s g = false ∨ bit (rg s (chLeadA g)) 2 = false ∨ (p || n) = false) →
    exec (.windowComparatorTrip g p n t) s = .next s) ∧
  (∀ (g t : Nat) (p n : Bool) (s : State), chOn s g = true → bit (rg s (chLeadA g)) 2 = true → (p || n) = true → (chan s g).lead ≠ .none →
    ∃ u, exec (.windowComparatorTrip g p n t) s = .next u ∧ u = { s with c := u.c, chans := u.chans } ∧
      (chan u g).lead = (chan s g).lead ∧ detWindow ∈ (chan u g).detAct ∧ (chan u g).leadSrc = (chan s g).leadSrc ||| 4 ∧
      (chan u g).cmwP = p ∧ (chan u g).cmwN = n ∧ (chan u g).retestAt = none ∧ (∀ h, h ≠ g → chan u h = chan s h)) ∧
  (∀ (g t : Nat) (s : State), chOn s g = true → ((chan s g).lead ≠ .suspect ∨ bit (rg s (chLeadA g)) 3 = true) →
    ∃ u, exec (.windowReturn g t) s = .next u ∧ u = { s with c := u.c, chans := u.chans, auxs := u.auxs } ∧
      (chan u g).lead = (chan s g).lead ∧ (chan u g).cmwP = false ∧ (chan u g).cmwN = false ∧ detWindow ∉ (chan u g).detAct ∧
      (∀ h, h ≠ g → chan u h = chan s h)) ∧
  (∀ (g t : Nat) (s : State), chOn s g = true → (chan s g).lead = .suspect → bit (rg s (chLeadA g)) 3 = false →
    ∃ u, exec (.windowReturn g t) s = .next u ∧ u = { s with c := u.c, chans := u.chans, regs := u.regs, evt := u.evt } ∧
      (chan u g).lead = .none ∧ (chan u g).leadSrc = 0 ∧ (chan u g).cmwP = false ∧ (chan u g).cmwN = false ∧
      (∀ h, h ≠ g → chan u h = chan s h) ∧ rg u (chEventA g) = rg s (chEventA g) ||| 4#32 ∧
      SameRegs [chEventA g, pgIrq .shf (g / 32)] s u) ∧
  (∀ (g t : Nat) (d : LeadDet) (s : State), chOn s g = true → detApplies s g d = true →
    ∃ u, exec (.leadDetectorConfirm g d t) s = .next u ∧
      u = { s with c := u.c, chans := u.chans, regs := u.regs, evt := u.evt, excs := u.excs } ∧
      (chan u g).lead = .confirmed ∧ detCode d ∈ (chan u g).detAct ∧ (chan u g).leadSrc = (chan s g).leadSrc ||| detSrc d ∧
      (chan u g).retestAt = none ∧ (∀ h, h ≠ g → chan u h = chan s h) ∧
      ((chan s g).lead ≠ .confirmed → rg u (chEventA g) = rg s (chEventA g) ||| 2#32) ∧
      ((chan s g).lead = .confirmed → u.regs = s.regs) ∧
      SameRegs [shfReg (g / 32) 0x24, chEventA g, pgIrq .shf (g / 32)] s u) ∧
  (∀ (g t : Nat) (d : LeadDet) (s : State), chOn s g = true →
    ∃ u, exec (.leadDetectorInactive g d t) s = .next u ∧
      u = { s with c := u.c, chans := u.chans, auxs := u.auxs, excs := u.excs } ∧
      detCode d ∉ (chan u g).detAct ∧ (chan u g).lead = (chan s g).lead ∧ (∀ h, h ≠ g → chan u h = chan s h)) ∧
  (∀ (g f : Nat) (s : State), chOn s g = true → (chan s g).retestAt = some f → f ≤ s.ord → (chan s g).lead = .confirmed →
    (chan s g).detAct = [] →
    ∃ u, exec (.leadRetestTimer g) s = .next u ∧ u = { s with chans := u.chans, auxs := u.auxs } ∧ (chan u g).retestAt = none ∧
      (chan u g).lead = .confirmed ∧ (∀ h, h ≠ g → chan u h = chan s h)) ∧
  (∀ (p : Path) (ss cc : Nat) (all : Bool) (s : State), ss < 16 → running s = true → directOk s .shf ss = true → ltOf s ss = none →
    ltCover s ss all cc ≠ [] →
    ∃ u, exec (.shfLtOpens p ss all cc) s = .next u ∧ u = { s with lts := u.lts, ltRes := u.ltRes, auxs := u.auxs } ∧
      ltOf u ss = some { shorts := false, all := all, ch := cc % 32, origin := .reg, cover := ltCover s ss all cc, t0 := 256 * s.c } ∧
      tget 0 u.ltRes ss = word (bbit all 5 ||| cc % 32) ∧ (∀ q, q ≠ ss → tget 0 u.ltRes q = tget 0 s.ltRes q) ∧
      (∀ q, q ≠ ss → ltOf u q = ltOf s q)) ∧
  (∀ (p : Path) (ss cc : Nat) (all : Bool) (s : State), ss < 16 → running s = true → directOk s .shf ss = true → ltOf s ss = none →
    ltCover s ss all cc = [] →
    ∃ u, exec (.shfLtOpens p ss all cc) s = .next u ∧
      u = { s with regs := u.regs, evt := u.evt, ltRes := u.ltRes, flight := u.flight, compl := u.compl } ∧
      tget 0 u.ltRes ss = word ((s.frame % 65536) <<< 16 ||| bbit (!all) 10 ||| bbit all 9 ||| 2 ^ 8 ||| bbit all 5 ||| cc % 32) ∧
      (∀ q, q ≠ ss → tget 0 u.ltRes q = tget 0 s.ltRes q) ∧ bit (rg u (pgIrq .shf ss)) 3 = true ∧
      SameRegs [0x5024, pgIrq .shf ss] s u) ∧
  (∀ (p : Path) (x : LtTarget) (s : State), x.ss < 16 → running s = true → directOk s .shf x.ss = true → ltOf s x.ss = none →
    sheafDriven s x.ss = false → sheafDual s x.ss = false → auxAvail s (x.ss / 4) = true →
    ∃ u, exec (.shfLtShorts p x) s = .next u ∧ u = { s with lts := u.lts, ltRes := u.ltRes, chans := u.chans, auxs := u.auxs } ∧
      ltOf u x.ss = some { shorts := true, all := x.all, ch := x.cc % 32, origin := .reg, cover := List.range 32, t0 := 256 * s.c } ∧
      (∀ q, q ≠ x.ss → ltOf u q = ltOf s q) ∧ tget 0 u.ltRes x.ss = word (2 ^ 6 ||| bbit x.all 5 ||| x.cc % 32) ∧
      (∀ g, g / 32 = x.ss → chan u g = { chan s g with marks := (chan s g).marks ++ [⟨.shorts, 256 * s.c, none, tmbCut s⟩] }) ∧
      (∀ g, g / 32 ≠ x.ss → chan u g = chan s g)) ∧
  (∀ (p : Path) (x : LtTarget) (s : State), x.ss < 16 → running s = true → directOk s .shf x.ss = true → ltOf s x.ss = none →
    sheafDriven s x.ss = false → sheafDual s x.ss = false → auxAvail s (x.ss / 4) = false →
    exec (.shfLtShorts p x) s = .next (pgError .shf x.ss stNoResource s)) ∧
  (∀ (p : Path) (x : LtTarget) (s : State), x.ss < 16 → running s = true → directOk s .shf x.ss = true → ltOf s x.ss = none →
    sheafDriven s x.ss = true → exec (.shfLtShorts p x) s = .next (pgError .shf x.ss stNotPermitted s)) ∧
  (∀ (p : Path) (x : LtTarget) (s : State), x.ss < 16 → running s = true → directOk s .shf x.ss = true → ltOf s x.ss = none →
    sheafDriven s x.ss = false → sheafDual s x.ss = true → exec (.shfLtShorts p x) s = .next (pgError .shf x.ss stRole s)) ∧
  (∀ (p : Path) (ss cc : Nat) (all : Bool) (s : State), ss < 16 → running s = true → directOk s .shf ss = true →
    (ltOf s ss).isSome = true → exec (.shfLtOpens p ss all cc) s = .next (pgError .shf ss stBusy s)) ∧
  (∀ (ss : Nat) (s : State), ss < 16 → running s = true → af s (shfReg ss 0x44) 0 8 ≠ 0 →
    af s (shfReg ss 0x44) 0 8 * 1024 ≤ tget 0 s.ltTicks ss → (ltOf s ss).isSome = true →
    exec (.ltPeriodicDue ss) s = .next { s with ltTicks := tset 0 s.ltTicks ss 0, ltWait := tset false s.ltWait ss true }) ∧
  (∀ (ss : Nat) (s : State), ss < 16 → running s = true → af s (shfReg ss 0x44) 0 8 ≠ 0 →
    af s (shfReg ss 0x44) 0 8 * 1024 ≤ tget 0 s.ltTicks ss → ltOf s ss = none → ltCover s ss true 0 ≠ [] →
    ∃ u, exec (.ltPeriodicDue ss) s = .next u ∧ u = { s with lts := u.lts, auxs := u.auxs, ltTicks := tset 0 s.ltTicks ss 0 } ∧
      ∃ x, ltOf u ss = some x ∧ x.origin = .periodic ∧ x.cover = ltCover s ss true 0) ∧
  (∀ (ss : Nat) (f : LtFind) (x : LeadTest) (s : State), ltOf s ss = some x → x.shorts = true → tget false s.ltWait ss = false →
    ∃ u, exec (.leadTestComplete ss f) s = .next u ∧ ltOf u ss = none ∧
      (x.origin = .reg → tget 0 u.ltRes ss = ltResWord s x x.aborted (decide (f.shorts = []) && !f.shPin) f.shPin) ∧
      (x.origin = .periodic → u.regs = s.regs ∧ u.ltRes = s.ltRes) ∧ (∀ q, q ≠ ss → ltOf u q = ltOf s q) ∧ u.mem = s.mem) ∧
  (∀ (ss : Nat) (f : LtFind) (x : LeadTest) (s : State), ltOf s ss = some x → x.shorts = false → tget false s.ltWait ss = false →
    x.origin = .reg → (∀ r ∈ (aux s (ss / 4)).lt ++ (aux s (ss / 4)).run.toList, ltReq ss r.kind = false) →
    ∃ u, exec (.leadTestComplete ss f) s = .next u ∧ ltOf u ss = none ∧
      tget 0 u.ltRes ss = ltResWord s x x.aborted (decide (f.opens = []) && decide (x.opens = []) && !x.aborted) false ∧
      (∀ q, q ≠ ss → ltOf u q = ltOf s q) ∧ u.mem = s.mem)

/-- Excitation outputs (R126, R127, R129 to R132, R135): a sense excursion moves a sharing output to HOLD at the holder's last
reported SET (a free value where it has reported none, log entry 198), moves no output on the boundary of a swap that this hub
takes part in, and none that is OFF; sixteen good frames bring it back to SHARE over a ramp; current limiting and headroom are
recorded with their instants and end; a collapse is counted; a ramp that ends blanks the collapse monitor for 16 frames; at
the planned instant the outgoing holder shares; the THREEW sources exchange. No other output changes. What log entry 165 names
in this is the model's choice or reading. -/
def Obligations.ExcitationEvents : Prop :=
  (∀ (ss k t : Nat) (s : State), ss < 16 → k < 4 → (exc s (4 * ss + k)).mode = .share → (exc s (4 * ss + k)).heard = true →
    swapIn (advance t s) ≠ some (mcAt t) →
    ∃ u, exec (.senseExcursion ss k false t) s = .next u ∧
      u = { s with c := u.c, regs := u.regs, evt := u.evt, excs := u.excs, chans := u.chans, auxs := u.auxs } ∧
      (exc u (4 * ss + k)).mode = .hold ∧ (exc u (4 * ss + k)).setNow = (exc s (4 * ss + k)).holdSet ∧
      (exc u (4 * ss + k)).heldAt = some s.ord ∧
      (∀ q, q ≠ 4 * ss + k → exc u q = exc s q) ∧
      rg u (shfReg ss 0x34) = word (satAdd 32 (rg s (shfReg ss 0x34)).toNat 1) ∧
      SameRegs [shfReg ss 0x30, shfReg ss 0x34, shfReg ss 0x144, pgIrq .shf ss] s u) ∧
  (∀ (ss k t : Nat) (s : State), ss < 16 → k < 4 → (exc s (4 * ss + k)).mode = .share → (exc s (4 * ss + k)).heard = false →
    swapIn (advance t s) ≠ some (mcAt t) →
    ∃ u, exec (.senseExcursion ss k false t) s = .next u ∧
      u = { s with c := u.c, freeIdx := s.freeIdx + 1, regs := u.regs, evt := u.evt, excs := u.excs, chans := u.chans, auxs := u.auxs } ∧
      (exc u (4 * ss + k)).mode = .hold ∧ (exc u (4 * ss + k)).setNow = (Config.freeWord s.freeIdx).toNat % 65536 ∧
      (∀ q, q ≠ 4 * ss + k → exc u q = exc s q)) ∧
  (∀ (ss k t : Nat) (s : State), ss < 16 → k < 4 → (exc s (4 * ss + k)).mode = .share → swapIn (advance t s) = some (mcAt t) →
    exec (.senseExcursion ss k false t) s = .next (advance t s)) ∧
  (∀ (ss k t : Nat) (b : Bool) (s : State), (exc s (4 * ss + k)).mode = .off → ss < 16 → k < 4 →
    exec (.senseExcursion ss k b t) s = .next (advance t s)) ∧
  (∀ (ss k t : Nat) (s : State), ss < 16 → k < 4 → (exc s (4 * ss + k)).mode = .hold →
    ∃ u, exec (.senseExcursion ss k false t) s = .next u ∧ u = { s with c := u.c, excs := u.excs } ∧
      exc u (4 * ss + k) = { exc s (4 * ss + k) with good := 0 } ∧ (∀ q, q ≠ 4 * ss + k → exc u q = exc s q)) ∧
  (∀ (ss k t : Nat) (s : State), ss < 16 → k < 4 → (exc s (4 * ss + k)).mode = .regulate →
    ∃ u v, exec (.senseExcursion ss k false t) s = .next u ∧ exec (.senseExcursion ss k true t) s = .next v ∧
      u = { s with c := u.c, excs := u.excs, chans := u.chans } ∧ v = { s with c := v.c, excs := v.excs, chans := v.chans } ∧
      (exc u (4 * ss + k)).exSense = some ((exc s (4 * ss + k)).exSense.getD t) ∧ (exc v (4 * ss + k)).exSense = none ∧
      (exc u (4 * ss + k)).mode = .regulate ∧ (exc v (4 * ss + k)).mode = .regulate ∧
      (∀ q, q ≠ 4 * ss + k → exc u q = exc s q ∧ exc v q = exc s q)) ∧
  (∀ (ss k t : Nat) (s : State), ss < 16 → k < 4 → ((exc s (4 * ss + k)).mode = .share ∨ (exc s (4 * ss + k)).mode = .hold) →
    exec (.senseExcursion ss k true t) s = .next (advance t s)) ∧
  (∀ (ss k t : Nat) (s : State), ss < 16 → k < 4 → (exc s (4 * ss + k)).mode = .hold → 16 ≤ (exc s (4 * ss + k)).good →
    s.ord ≤ (exc s (4 * ss + k)).goodAt + 1 →
    ∃ u, exec (.holdReturnShare ss k t) s = .next u ∧
      u = { s with c := u.c, regs := u.regs, evt := u.evt, excs := u.excs, chans := u.chans, auxs := u.auxs } ∧
      (exc u (4 * ss + k)).mode = .share ∧ (exc u (4 * ss + k)).ramp = some (mcAt t) ∧
      (∀ q, q ≠ 4 * ss + k → exc u q = exc s q) ∧
      SameRegs [shfReg ss 0x30, shfReg ss 0x144, pgIrq .shf ss] s u) ∧
  (∀ (ss k t : Nat) (s : State), ss < 16 → k < 4 → (exc s (4 * ss + k)).mode ≠ .off → (exc s (4 * ss + k)).ilim = false →
    ∃ u, exec (.excIlimChange ss k true t) s = .next u ∧
      u = { s with c := u.c, regs := u.regs, evt := u.evt, excs := u.excs, chans := u.chans } ∧
      exc u (4 * ss + k) = { exc s (4 * ss + k) with ilim := true, exIlim := some t } ∧
      (∀ q, q ≠ 4 * ss + k → exc u q = exc s q) ∧
      rg u (shfReg ss 0x38) = word (satAdd 32 (rg s (shfReg ss 0x38)).toNat 1) ∧
      SameRegs [shfReg ss 0x38, shfReg ss 0x144, pgIrq .shf ss] s u) ∧
  (∀ (ss k t : Nat) (s : State), ss < 16 → k < 4 → (exc s (4 * ss + k)).mode ≠ .off → (exc s (4 * ss + k)).ilim = true →
    ∃ u, exec (.excIlimChange ss k false t) s = .next u ∧ u = { s with c := u.c, excs := u.excs, chans := u.chans } ∧
      exc u (4 * ss + k) = { exc s (4 * ss + k) with ilim := false, exIlim := none } ∧ (∀ q, q ≠ 4 * ss + k → exc u q = exc s q)) ∧
  (∀ (ss k t : Nat) (s : State), ss < 16 → k < 4 → (exc s (4 * ss + k)).mode ≠ .off → (exc s (4 * ss + k)).headroom = false →
    ∃ u, exec (.excHeadroomChange ss k true t) s = .next u ∧
      u = { s with c := u.c, regs := u.regs, evt := u.evt, excs := u.excs, chans := u.chans } ∧
      exc u (4 * ss + k) = { exc s (4 * ss + k) with headroom := true, exHead := some t } ∧
      (∀ q, q ≠ 4 * ss + k → exc u q = exc s q) ∧ SameRegs [shfReg ss 0x144, pgIrq .shf ss] s u) ∧
  (∀ (ss k t : Nat) (s : State), ss < 16 → k < 4 → (exc s (4 * ss + k)).mode ≠ .off → (exc s (4 * ss + k)).headroom = true →
    ∃ u, exec (.excHeadroomChange ss k false t) s = .next u ∧
      u = { s with c := u.c, excs := u.excs, chans := u.chans } ∧
      exc u (4 * ss + k) = { exc s (4 * ss + k) with headroom := false, exHead := none } ∧
      (∀ q, q ≠ 4 * ss + k → exc u q = exc s q)) ∧
  (∀ (ss k i t : Nat) (s : State), ss < 16 → k < 4 → (exc s (4 * ss + k)).mode ≠ .off → af s (excLoadA (4 * ss + k)) 12 4 ≠ 0 →
    excBlank s (4 * ss + k) = false → 500 ≤ excRef (exc s (4 * ss + k)) →
    i * 16 < af s (excLoadA (4 * ss + k)) 12 4 * excRef (exc s (4 * ss + k)) → (exc s (4 * ss + k)).collapse = false →
    ∃ u, exec (.excLoadCollapse ss k i t) s = .next u ∧
      u = { s with c := u.c, regs := u.regs, evt := u.evt, excs := u.excs, chans := u.chans } ∧
      exc u (4 * ss + k) = { exc s (4 * ss + k) with collapse := true } ∧
      (∀ q, q ≠ 4 * ss + k → exc u q = exc s q) ∧
      rg u (shfReg ss 0x3C) = word (satAdd 32 (rg s (shfReg ss 0x3C)).toNat 1)) ∧
  (∀ (ss k i t : Nat) (s : State), ss < 16 → k < 4 → (exc s (4 * ss + k)).mode ≠ .off → af s (excLoadA (4 * ss + k)) 12 4 ≠ 0 →
    excBlank s (4 * ss + k) = false → af s (excLoadA (4 * ss + k)) 12 4 * excRef (exc s (4 * ss + k)) ≤ i * 16 →
    (exc s (4 * ss + k)).collapse = true →
    ∃ u, exec (.excLoadCollapse ss k i t) s = .next u ∧ u = { s with c := u.c, excs := u.excs, chans := u.chans, auxs := u.auxs } ∧
      exc u (4 * ss + k) = { exc s (4 * ss + k) with collapse := false } ∧ (∀ q, q ≠ 4 * ss + k → exc u q = exc s q)) ∧
  (∀ (ss k t : Nat) (s : State), ss < 16 → k < 4 → (exc s (4 * ss + k)).ramp.isSome = true →
    ∃ u, exec (.excRampComplete ss k t) s = .next u ∧ u = { s with c := u.c, excs := u.excs, chans := u.chans } ∧
      exc u (4 * ss + k) = { exc s (4 * ss + k) with ramp := none, blankTo := s.ord + 16 } ∧
      (∀ q, q ≠ 4 * ss + k → exc u q = exc s q)) ∧
  (∀ (ss k t : Nat) (s : State), ss < 16 → k < 4 → (exc s (4 * ss + k)).outgoing = true → twinDown s = false →
    ∃ u, exec (.outgoingShareEntry ss k t) s = .next u ∧
      u = { s with c := u.c, regs := u.regs, evt := u.evt, excs := u.excs, chans := u.chans, auxs := u.auxs } ∧
      (exc u (4 * ss + k)).mode = .share ∧ (exc u (4 * ss + k)).outgoing = false ∧ (exc u (4 * ss + k)).ramp = some (mcAt t) ∧
      (exc u (4 * ss + k)).holdSet = (exc s (4 * ss + k)).setNow ∧
      (∀ q, q ≠ 4 * ss + k → exc u q = exc s q) ∧
      SameRegs [shfReg ss 0x30, shfReg ss 0x144, pgIrq .shf ss] s u) ∧
  (∀ (g t : Nat) (s : State), chOn s g = true → af s (chCurrA g) 0 3 = 2 → bit (rg s (chCurrA g)) 8 = true →
    ∃ u, exec (.currentSourceExchange g t) s = .next u ∧ u = { s with c := u.c, chans := u.chans } ∧
      chan u g = { chan s g with swapped := !(chan s g).swapped } ∧ (∀ h, h ≠ g → chan u h = chan s h))

/-- Reference buffers (R151 to R155): a buffer that is on becomes ready once and says so in its sheaf's interrupts; a watched
buffer that is on and trips is recorded as faulty, and its fault bit falls when the fault clears, for INT only while its check
against the bandgap passes. Auxiliary conversions and spot-read slots (R156 to R163): GO on an idle slot queues one request
and clears FRESH; GO on a pending slot is refused with BUSY; a repeat is skipped while the previous request is pending; a read
of the result returns it and clears FRESH; a conversion's result changes the four fields of its slot at once, sets its SYS
register, or ends the spot read that waits for it; a SYS pass that is due queues requests on its own converter only, and none
while the pass before it is incomplete; the repeats of lower slots on one tick go first. What log entry 92 names in this is
the model's choice or reading. -/
def Obligations.ReferencesAndConverters : Prop :=
  (∀ (ss b : Nat) (s : State), live s = true → ss < 16 → b < 6 → (ref s (6 * ss + b)).on = true →
    (ref s (6 * ss + b)).ready = false →
    ∃ u, exec (.refReadySet ss b) s = .next u ∧
      u = { s with regs := u.regs, evt := u.evt, refs := u.refs, flight := u.flight, compl := u.compl } ∧
      (ref u (6 * ss + b)).ready = true ∧ bit (rg u (pgIrq .shf ss)) 16 = true ∧
      (∀ q, q ≠ 6 * ss + b → ref u q = ref s q) ∧
      SameRegs [0x5024, 0x502C, pgIrq .shf ss] s u) ∧
  (∀ (ss b : Nat) (s : State), live s = true → ss < 16 → b < 6 → refWatched s ss b = true → (ref s (6 * ss + b)).on = true →
    ∃ u, exec (.refMonitorTrip ss b) s = .next u ∧ u = { s with regs := u.regs, evt := u.evt, refs := u.refs } ∧
      ref u (6 * ss + b) = { ref s (6 * ss + b) with fault := true } ∧ (∀ q, q ≠ 6 * ss + b → ref u q = ref s q) ∧
      rg u (pgIrq .shf ss) = rg s (pgIrq .shf ss) ||| 0x20000#32 ∧ SameRegs [pgIrq .shf ss] s u) ∧
  (∀ (ss b : Nat) (s : State), live s = true → ss < 16 → b < 6 → (b ≠ 0 ∨ (aux s (ss / 4)).intBad < 2) →
    ∃ u, exec (.refFaultClear ss b) s = .next u ∧ u = { s with refs := u.refs } ∧
      ref u (6 * ss + b) = { ref s (6 * ss + b) with fault := false } ∧ (∀ q, q ≠ 6 * ss + b → ref u q = ref s q)) ∧
  (∀ (ss : Nat) (s : State), 2 ≤ (aux s (ss / 4)).intBad → exec (.refFaultClear ss 0) s = .next s) ∧
  (∀ (p : Path) (i : Nat) (s : State), i < 16 → running s = true → directOk s .aux 0 = true → (slot s i).go = false →
    af s (slotCfgA i) 8 6 ≤ 0x26 → 4 ≤ af s (slotCfgA i) 8 6 → auxAvail s (af s (slotCfgA i) 14 2) = true →
    ∃ u, exec (.auxSlotGo p i) s = .next u ∧ u = { s with slots := u.slots, auxs := u.auxs } ∧
      slot u i = { slot s i with go := true, fresh := false, goAt := some s.c } ∧ (∀ q, q ≠ i → slot u q = slot s q) ∧
      (∀ n, n ≠ af s (slotCfgA i) 14 2 → aux u n = aux s n) ∧
      ∃ r ∈ (aux u (af s (slotCfgA i) 14 2)).run.toList ++ (aux u (af s (slotCfgA i) 14 2)).spot, r.kind = .slot i) ∧
  (∀ (p : Path) (i : Nat) (s : State), i < 16 → running s = true → directOk s .aux 0 = true → (slot s i).go = true →
    (slot s i).repAt ≠ some s.c → exec (.auxSlotGo p i) s = .next (pgError .aux 0 stBusy s)) ∧
  (∀ (p : Path) (i : Nat) (s : State), i < 16 → running s = true → directOk s .aux 0 = true → (slot s i).go = true →
    (slot s i).repAt = some s.c → exec (.auxSlotGo p i) s = .next s) ∧
  (∀ (p : Path) (i : Nat) (s : State), i < 16 → running s = true → directOk s .aux 0 = false →
    exec (.auxSlotGo p i) s = .next (pgError .aux 0 stNotPermitted s)) ∧
  (∀ (i : Nat) (s : State), i < 16 → running s = true → af s (slotCfgA i) 16 8 ≠ 0 → af s (slotCfgA i) 16 8 ≤ (slot s i).ticks →
    (slot s i).go = true → (∀ j, j < i → af s (slotCfgA j) 16 8 = 0 ∨ (slot s j).ticks < af s (slotCfgA j) 16 8) →
    ∃ u, exec (.auxSlotRepeat i) s = .next u ∧ u = { s with slots := u.slots } ∧
      slot u i = { slot s i with ticks := 0 } ∧ (∀ q, q ≠ i → slot u q = slot s q)) ∧
  (∀ (i : Nat) (s : State), i < 16 → running s = true → af s (slotCfgA i) 16 8 ≠ 0 → af s (slotCfgA i) 16 8 ≤ (slot s i).ticks →
    (slot s i).go = false → 4 ≤ af s (slotCfgA i) 8 6 → af s (slotCfgA i) 8 6 ≤ 0x26 → auxAvail s (af s (slotCfgA i) 14 2) = true →
    (∀ j, j < i → af s (slotCfgA j) 16 8 = 0 ∨ (slot s j).ticks < af s (slotCfgA j) 16 8) →
    ∃ u, exec (.auxSlotRepeat i) s = .next u ∧ u = { s with slots := u.slots, auxs := u.auxs } ∧
      slot u i = { slot s i with ticks := 0, go := true, fresh := false, repAt := some s.c } ∧ (∀ q, q ≠ i → slot u q = slot s q)) ∧
  (∀ (i : Nat) (s : State), i + 1 < 16 → running s = true →
    ∃ u, exec (.auxSlotRepeat i) s = .next u ∧ exec (.auxSlotRepeat (i + 1)) s = .next (slotRepeat (i + 1) u)) ∧
  (∀ (p : Path) (i : Nat) (s : State), i < 16 → running s = true →
    ∃ u, exec (.auxResultRead p i) s = .next u ∧ u = { s with slots := u.slots, rd := [slotWord (slot s i)] } ∧
      slot u i = { slot s i with fresh := false } ∧ (∀ q, q ≠ i → slot u q = slot s q)) ∧
  (∀ (n code t i : Nat) (ext : List Nat) (r : AuxReq) (s : State), (aux s n).run = some r → r.kind = .slot i →
    auxAvail s n = true →
    ∃ u, exec (.auxConversionDone n code t ext) s = .next u ∧
      u = { s with c := u.c, regs := u.regs, evt := u.evt, slots := u.slots, auxs := u.auxs } ∧
      slot u i = { slot s i with go := false, seq := ((slot s i).seq + 1) % 256, valid := true, fresh := true, value := code } ∧
      (∀ q, q ≠ i → slot u q = slot s q) ∧ (∀ m, m ≠ n → aux u m = aux s m) ∧
      (bit (rg s (slotCfgA i)) 24 = true → rg u (pgIrq .aux 0) = rg s (pgIrq .aux 0) ||| 1#32) ∧
      (bit (rg s (slotCfgA i)) 24 = false → u.regs = s.regs)) ∧
  (∀ (n code t i : Nat) (ext : List Nat) (r : AuxReq) (s : State), (aux s n).run = some r → r.kind = .sys i → auxAvail s n = true → i ≠ 0x24 →
    ∃ u, exec (.auxConversionDone n code t ext) s = .next u ∧ u = { s with c := u.c, auxs := u.auxs } ∧ (∀ m, m ≠ n → aux u m = aux s m) ∧
      (aux u n).vexc = (if i = 0x1C then vexcMv code else (aux s n).vexc) ∧ (aux u n).vdda = (if i = 0x1D then 2 * code else (aux s n).vdda) ∧
      (aux u n).vddfd = (if i = 0x1E then code else (aux s n).vddfd) ∧
      (∀ q, q < 4 → tget 0 (aux u n).temp q = if i = 0x20 + q then sext 18 code else tget 0 (aux s n).temp q)) ∧
  (∀ (n code t path tag i : Nat) (ext : List Nat) (r : AuxReq) (f : Flight) (s : State), (aux s n).run = some r → r.kind = .spot path tag i →
    auxAvail s n = true → f ∈ s.flight → f.wait = .spot → f.tag = tag → pathCode f.path = path →
    (∀ x ∈ s.flight, x.wait = .spot → x.tag = tag → pathCode x.path = path → x = f) →
    ∃ u, exec (.auxConversionDone n code t ext) s = .next u ∧
      u = { s with c := u.c, regs := u.regs, auxs := u.auxs, flight := u.flight, compl := u.compl } ∧ SameRegs [0x5024] s u ∧
      Ended f stOk (leBytes 4 (code % 2 ^ 18) ++ [if 0x20 ≤ i ∧ i < 0x24 then 1 else 0] ++ leBytes 1 i ++ [0, 0]) s u) ∧
  (∀ (n code t : Nat) (ext : List Nat) (r : AuxReq) (s : State), (aux s n).run = some r → r.kind = .vexc → auxAvail s n = true →
    ∃ u, exec (.auxConversionDone n code t ext) s = .next u ∧ u = { s with c := u.c, regs := u.regs, auxs := u.auxs } ∧
      (aux u n).vexc = vexcMv code ∧ (∀ m, m ≠ n → aux u m = aux s m) ∧
      rg u (0x9020 + 4 * n) = word (satAdd 32 (rg s (0x9020 + 4 * n)).toNat 1) ∧ SameRegs [0x9020 + 4 * n, 0x9030 + 4 * n] s u) ∧
  (∀ (n code t : Nat) (ext : List Nat) (s : State), ((aux s n).run = none ∨ auxAvail s n = false) → exec (.auxConversionDone n code t ext) s = .next s) ∧
  (∀ (n : Nat) (s : State), running s = true → auxAvail s n = true → auxDue s (aux s n).sysAt (af s (0x9040 + 0x10 * n) 0 8) = true →
    sysBusy (aux s n) = true → exec (.auxSysPassDue n) s = .next (modAux n (fun x => { x with sysAt := some (256 * s.c) }) s)) ∧
  (∀ (n : Nat) (s : State), running s = true → auxAvail s n = true → auxDue s (aux s n).sysAt (af s (0x9040 + 0x10 * n) 0 8) = true →
    sysBusy (aux s n) = false →
    ∃ u, exec (.auxSysPassDue n) s = .next u ∧ u = { s with auxs := u.auxs } ∧ (∀ m, m ≠ n → aux u m = aux s m) ∧
      (aux u n).sysAt = some (256 * s.c) ∧
      ∀ i, (0x1C ≤ i ∧ i ≤ 0x26) → ∃ r ∈ (aux u n).run.toList ++ (aux u n).sys, r = ⟨.sys i, 256 * s.c⟩)

/-- Coefficient memory (R176 to R178): a write stores the word at FLT_CADDR, clears the bank's LOADED and advances INDEX only
with AINC; a read returns the word and changes nothing of the memory; both refusals of R178 leave the memory alone; a seal
waits its turn with the descriptor it was written with; it takes the bank's length, phase and delay when the CRC is right, and
leaves it unsealed with an error when not. -/
def Obligations.FilterBanks : Prop :=
  (∀ (p : Path) (ss : Nat) (w : Word) (s : State), ss < 16 → running s = true → directOk s .flt ss = true →
    bankRefusal s ss (af s (fltReg ss 0x100) 9 2) (bit (rg s (fltReg ss 0x100)) 8) = none →
    ∃ u, exec (.fltCdataWrite p ss w) s = .next u ∧ u = { s with regs := u.regs, coef := u.coef, cbanks := u.cbanks } ∧
      (∀ i, tget (0 : Word) u.coef i = if i = 256 * caddrIx s ss + af s (fltReg ss 0x100) 0 8 then w else tget 0 s.coef i) ∧
      tget {} u.cbanks (caddrIx s ss) = { (tget {} s.cbanks (caddrIx s ss) : CBank) with loaded := false } ∧
      (∀ i, i ≠ caddrIx s ss → tget {} u.cbanks i = tget {} s.cbanks i) ∧
      rg u (fltReg ss 0x100) = (if bit (rg s (fltReg ss 0x100)) 16 then
        setFld (rg s (fltReg ss 0x100)) 0 8 (af s (fltReg ss 0x100) 0 8 + 1) else rg s (fltReg ss 0x100)) ∧
      SameRegs [fltReg ss 0x100] s u) ∧
  (∀ (p : Path) (ss st : Nat) (w : Word) (s : State), ss < 16 → running s = true → directOk s .flt ss = true →
    bankRefusal s ss (af s (fltReg ss 0x100) 9 2) (bit (rg s (fltReg ss 0x100)) 8) = some st →
    exec (.fltCdataWrite p ss w) s = .next (pgError .flt ss st s) ∧ exec (.fltCsealWrite p ss w) s = .next (pgError .flt ss st s)) ∧
  (∀ (p : Path) (ss : Nat) (s : State), ss < 16 → running s = true →
    ∃ u, exec (.fltCdataRead p ss) s = .next u ∧ u = { s with regs := u.regs, rd := u.rd } ∧
      u.rd = [tget (0 : Word) s.coef (256 * caddrIx s ss + af s (fltReg ss 0x100) 0 8)] ∧ SameRegs [fltReg ss 0x100] s u) ∧
  (∀ (p : Path) (ss : Nat) (w : Word) (s : State), ss < 16 → running s = true → directOk s .flt ss = true →
    bankRefusal s ss (af s (fltReg ss 0x100) 9 2) (bit (rg s (fltReg ss 0x100)) 8) = none →
    exec (.fltCsealWrite p ss w) s = .next { s with sealing := tset [] s.sealing ss (tget [] s.sealing ss ++ [(caddrIx s ss, (w.toNat, rg s (fltReg ss 0x108)))]) }) ∧
  (∀ (ss ix crc d : Nat) (k : Word) (l : List (Nat × (Nat × Word))) (s : State), tget [] s.sealing ss = (ix, crc, k) :: l →
    1 ≤ fld k 4 5 → fld k 4 5 ≤ 16 → crc32 (bankBytes s ix k) = crc → bankDelay s ix (16 * fld k 4 5) (bit k 0) = some d →
    ∃ u, exec (.bankSealResult ss) s = .next u ∧
      u = { s with regs := u.regs, evt := u.evt, cbanks := u.cbanks, sealing := tset [] s.sealing ss l } ∧
      tget {} u.cbanks ix = ({ loaded := true, std := 0, len16 := fld k 4 5, phase := bit k 0, crc := crc, delay := d } : CBank) ∧ (∀ i, i ≠ ix → tget {} u.cbanks i = tget {} s.cbanks i) ∧
      SameRegs [fltReg ss 0x24, pgIrq .flt ss] s u) ∧
  (∀ (ss ix crc : Nat) (k : Word) (l : List (Nat × (Nat × Word))) (s : State), tget [] s.sealing ss = (ix, crc, k) :: l →
    1 ≤ fld k 4 5 → fld k 4 5 ≤ 16 → crc32 (bankBytes s ix k) ≠ crc →
    ∃ u, exec (.bankSealResult ss) s = .next u ∧
      u = { s with regs := u.regs, evt := u.evt, sealing := tset [] s.sealing ss l } ∧
      (rg s (pgErr .flt ss) = 0 → rg u (pgErr .flt ss) = word (0x0F * 2 ^ 24 ||| s.frame % 2 ^ 24)) ∧
      SameRegs [pgErr .flt ss, pgIrq .flt ss] s u)

/-- Linearisation memory (R233, R237, R239): a write of LIN_IDATA stores one word, without the reserved bits of a record's
word 0, unless it is refused; a read returns one; the page copy runs from GO to its end and leaves the active page alone; a
table is loaded only by a seal whose CRC and order are right; the CJC pass that is due queues one request per sensor in use.
-/
def Obligations.LinearisationMemory : Prop :=
  (∀ (p : Path) (w : Word) (ix : Nat) (s : State), running s = true → directOk s .lin 0 = true → s.lin.copying = false →
    iaddrIx (rg s 0xF048) = some ix → linRefusal s ix = none →
    ∃ u, exec (.linIdataAccess p (some w)) s = .next u ∧ u = { s with regs := u.regs, lin := u.lin } ∧
      (∀ i, linGet u i = if i = ix then (if ix < 4096 ∧ ix % 4 = 0 then w &&& 0x1FFFF#32 else w) else linGet s i) ∧ u.lin.sealing = s.lin.sealing ∧ u.lin.copying = false ∧
      (ix < 4096 → u.lin.loaded = s.lin.loaded) ∧ SameRegs [0xF048] s u) ∧
  (∀ (p : Path) (w : Word) (ix st : Nat) (s : State), running s = true → directOk s .lin 0 = true → s.lin.copying = false →
    iaddrIx (rg s 0xF048) = some ix → linRefusal s ix = some st →
    exec (.linIdataAccess p (some w)) s = .next (pgError .lin 0 st s)) ∧
  (∀ (p : Path) (ix : Nat) (s : State), running s = true → s.lin.copying = false → iaddrIx (rg s 0xF048) = some ix →
    ∃ u, exec (.linIdataAccess p none) s = .next u ∧ u = { s with regs := u.regs, rd := [linGet s ix] } ∧ SameRegs [0xF048] s u) ∧
  (∀ (p : Path) (s : State), running s = true → directOk s .lin 0 = true → s.lin.copying = false → pageHeld s = false →
    exec (.linCopyGo p) s = .next { s with lin := { s.lin with copying := true } }) ∧
  (∀ (s : State), s.lin.copying = true →
    ∃ u, exec .linCopyDone s = .next u ∧ u = { s with regs := u.regs, evt := u.evt, lin := u.lin } ∧ u.lin.copying = false ∧
      (∀ i, i < 2048 → linGet u (2048 * (1 - linPage s) + i) = linGet s (2048 * linPage s + i)) ∧
      (∀ i, i / 2048 ≠ 1 - linPage s ∨ 4096 ≤ i → linGet u i = linGet s i) ∧
      rg u (pgIrq .lin 0) = rg s (pgIrq .lin 0) ||| 0x10#32 ∧ SameRegs [pgIrq .lin 0] s u) ∧
  (∀ (p : Path) (t : Nat) (w : Word) (s : State), t < 4 → running s = true → directOk s .lin 0 = true → tblUsed s t = false →
    exec (.linTsealWrite p t w) s = .next { s with lin := { s.lin with sealing := tset none s.lin.sealing t (some w.toNat) } }) ∧
  (∀ (t crc : Nat) (s : State), tget none s.lin.sealing t = some crc → tblSeal s t crc = 0 →
    ∃ u, exec (.tableSealResult t) s = .next u ∧ u = { s with regs := u.regs, evt := u.evt, lin := { s.lin with sealing := tset none s.lin.sealing t none, loaded := s.lin.loaded ||| 2 ^ t } } ∧
      rg u (pgIrq .lin 0) = rg s (pgIrq .lin 0) ||| 1#32 ∧ SameRegs [pgIrq .lin 0] s u) ∧
  (∀ (t crc : Nat) (s : State), tget none s.lin.sealing t = some crc → tblSeal s t crc ≠ 0 →
    ∃ u, exec (.tableSealResult t) s = .next u ∧ u = { s with regs := u.regs, evt := u.evt, lin := { s.lin with sealing := tset none s.lin.sealing t none } } ∧
      rg u (pgIrq .lin 0) = rg s (pgIrq .lin 0) ||| 2#32 ∧ SameRegs [pgIrq .lin 0, pgErr .lin 0] s u) ∧
  (∀ (n : Nat) (s : State), running s = true → auxAvail s n = true → auxDue s (aux s n).cjcAt (af s (0x9040 + 0x10 * n) 8 8) = true →
    ∃ u, exec (.auxCjcDue n) s = .next u ∧ u = { s with auxs := u.auxs } ∧ (aux u n).cjcAt = some (256 * s.c) ∧ (∀ m, m ≠ n → aux u m = aux s m) ∧
      ∀ q ∈ cjcSensors s n, ∃ r ∈ (aux u n).run.toList ++ (aux u n).cjc, r = ⟨.cjc q, 256 * s.c⟩)

/-- Time transfer (R73, R204 to R209, R453): an ordered set's arrival is held, corrected by its lane's latency, for its packet
and dropped after 25 us; a packet of bad CRC drops it and nothing else; a sound packet without an exchange only records, one
later than 25 us not even that, and the source's brings its bound; an exchange is valid, or is rejected and counted; in SLEEP
a packet is not taken; sixteen rejections restart the delay mean at the latest value; the source changes to what R209 wants,
or to none. -/
def Obligations.TimeTransfer : Prop :=
  (∀ (n ch3 t : Nat) (s : State), linkLive s = true → n < 8 → laneUp s n = true → s.pwr.sleep ≠ .asleep →
    ∃ u, exec (.timeOsReceive n ch3 t) s = .next u ∧ u = { s with c := u.c, tmb := { s.tmb with lanes := u.tmb.lanes } } ∧
      tlane u n = { tlane s n with held := some (ch3 % 256, netTime s (t - (fuseLat s n).2), s.tmb.ser), heldAt := t } ∧
      (∀ m, m ≠ n → tlane u m = tlane s m)) ∧
  (∀ (n : Nat) (s : State), live s = true → n < 8 →
    ∃ u, exec (.timeStampDiscard n) s = .next u ∧ u = { s with tmb := { s.tmb with lanes := u.tmb.lanes } } ∧
      tlane u n = { tlane s n with held := none } ∧ (∀ m, m ≠ n → tlane u m = tlane s m)) ∧
  (∀ (n t : Nat) (pk : TimePkt) (s : State), linkLive s = true → n < 8 → laneUp s n = true → s.pwr.sleep ≠ .asleep → pk.crcOk = false →
    ∃ u, exec (.timePacketReceive n pk t) s = .next u ∧ u = { s with c := u.c, tmb := { s.tmb with lanes := u.tmb.lanes } } ∧
      tlane u n = { tlane s n with held := none } ∧ (∀ m, m ≠ n → tlane u m = tlane s m)) ∧
  (∀ (n t ser : Nat) (t2 : Int) (pk : TimePkt) (s : State), linkLive s = true → n < 8 → laneUp s n = true → s.pwr.sleep ≠ .asleep →
    pk.crcOk = true → exchangeOf (tlane s n) pk = none → s.tmb.src ≠ some n → (tlane s n).held = some (pk.id % 256, t2, ser) →
    ∃ u, exec (.timePacketReceive n pk t) s = .next u ∧ u = { s with c := u.c, tmb := { s.tmb with lanes := u.tmb.lanes } } ∧
      tlane u n = { tlane s n with peerState := pk.state, peerHops := pk.hops % 16, peerSer := pk.stepser % 16, peerBound := pk.bound, held := none, arr := if t ≤ (tlane s n).heldAt + usTau 25 then some ⟨pk.id, pk.dep, pk.stepser, t2, ser⟩ else (tlane s n).arr } ∧ (∀ m, m ≠ n → tlane u m = tlane s m)) ∧
  (∀ (n t : Nat) (pk : TimePkt) (s : State), linkLive s = true → n < 8 → laneUp s n = true → s.pwr.sleep ≠ .asleep →
    pk.crcOk = true → exchangeOf (tlane s n) pk = none → s.tmb.src = some n →
    ∃ u, exec (.timePacketReceive n pk t) s = .next u ∧
      u = { s with c := u.c, tmb := { s.tmb with lanes := u.tmb.lanes, srcBound := pk.bound, tunlAt := u.tmb.tunlAt } } ∧
      (tlane u n).held = none ∧ (∀ m, m ≠ n → tlane u m = tlane s m) ∧
      (s.tmb.st = .free → u.tmb.tunlAt = s.tmb.tunlAt)) ∧
  (∀ (n t : Nat) (pk : TimePkt) (x : Exch) (a : TArr) (d : TDep) (s : State), linkLive s = true → n < 8 → laneUp s n = true → s.pwr.sleep ≠ .asleep →
    pk.crcOk = true → exchangeOf (tlane s n) pk = some (x, a, d) → exchSound x a d pk = false →
    ∃ u, exec (.timePacketReceive n pk t) s = .next u ∧
      u = { s with c := u.c, regs := u.regs, tmb := { s.tmb with lanes := u.tmb.lanes, srcBound := u.tmb.srcBound, tunlAt := u.tmb.tunlAt } } ∧
      (tlane u n).rejDly = 0 ∧ (tlane u n).nValid = (tlane s n).nValid ∧ (tlane u n).now = (tlane s n).now ∧ (∀ m, m ≠ n → tlane u m = tlane s m) ∧
      rg u 0x3024 = word (satAdd 32 (rg s 0x3024).toNat 1) ∧ SameRegs [0x3024] s u) ∧
  (∀ (n t : Nat) (pk : TimePkt) (x : Exch) (a : TArr) (d : TDep) (s : State), linkLive s = true → n < 8 → laneUp s n = true → s.pwr.sleep ≠ .asleep →
    pk.crcOk = true → exchangeOf (tlane s n) pk = some (x, a, d) → exchSound x a d pk = true → dlyOk (tlane s n) (exDly x) = false →
    ∃ u, exec (.timePacketReceive n pk t) s = .next u ∧
      u = { s with c := u.c, regs := u.regs, tmb := { s.tmb with lanes := u.tmb.lanes, srcBound := u.tmb.srcBound, tunlAt := u.tmb.tunlAt } } ∧
      (tlane u n).rejDly = (tlane s n).rejDly + 1 ∧ (tlane u n).rejLast = exDly x ∧ (tlane u n).nValid = (tlane s n).nValid ∧
      (tlane u n).now = (tlane s n).now ∧ (∀ m, m ≠ n → tlane u m = tlane s m) ∧
      rg u 0x3024 = word (satAdd 32 (rg s 0x3024).toNat 1) ∧ SameRegs [0x3024] s u) ∧
  (∀ (n t : Nat) (pk : TimePkt) (x : Exch) (a : TArr) (d : TDep) (s : State), linkLive s = true → n < 8 → laneUp s n = true → s.pwr.sleep ≠ .asleep →
    pk.crcOk = true → exchangeOf (tlane s n) pk = some (x, a, d) → exchSound x a d pk = true → dlyOk (tlane s n) (exDly x) = true → s.tmb.src ≠ none →
    ∃ u, exec (.timePacketReceive n pk t) s = .next u ∧
      u = { s with c := u.c, regs := u.regs, tmb := { s.tmb with lanes := u.tmb.lanes, srcBound := u.tmb.srcBound, tunlAt := u.tmb.tunlAt } } ∧
      (tlane u n).now = some (x, exOfs x - asym s n) ∧ (tlane u n).ofs = exOfs x ∧ (tlane u n).dly = exDly x ∧
      (tlane u n).nValid = (tlane s n).nValid + 1 ∧ (tlane u n).rejDly = 0 ∧ (tlane u n).age = 0 ∧ (∀ m, m ≠ n → tlane u m = tlane s m) ∧
      rg u 0x3020 = word (satAdd 32 (rg s 0x3020).toNat 1) ∧ SameRegs [0x3020] s u) ∧
  (∀ (n t : Nat) (pk : TimePkt) (s : State), s.pwr.sleep = .asleep → exec (.timePacketReceive n pk t) s = .next s) ∧
  (∀ (n : Nat) (s : State), live s = true → n < 8 → 16 ≤ (tlane s n).rejDly →
    ∃ u, exec (.dlyJump n) s = .next u ∧
      u = { s with regs := u.regs, evt := u.evt, tmb := { s.tmb with lanes := u.tmb.lanes } } ∧
      tlane u n = { tlane s n with dlys := [(tlane s n).rejLast], rejDly := 0 } ∧ (∀ m, m ≠ n → tlane u m = tlane s m) ∧
      rg u (pgIrq .tmb 0) = rg s (pgIrq .tmb 0) ||| 0x40#32 ∧ SameRegs [pgIrq .tmb 0] s u) ∧
  (∀ (m : Nat) (s : State), live s = true → srcWant s = some (some m) →
    ∃ u, exec .sourceChange s = .next u ∧
      u = { s with regs := u.regs, evt := u.evt, tmb := { s.tmb with src := some m, srcGone := false, srcBound := (tlane s m).peerBound, tunlAt := u.tmb.tunlAt } } ∧
      rg u 0x302C = word (satAdd 32 (rg s 0x302C).toNat 1) ∧ SameRegs [0x302C, pgIrq .tmb 0] s u) ∧
  (∀ (s : State), live s = true → srcWant s = some none →
    ∃ u, exec .sourceChange s = .next u ∧ u = { s with regs := u.regs, evt := u.evt, tmb := { s.tmb with src := none, srcGone := u.tmb.srcGone } } ∧
      rg u 0x302C = word (satAdd 32 (rg s 0x302C).toNat 1) ∧ SameRegs [0x302C, pgIrq .tmb 0] s u) ∧
  (∀ (s : State), srcWant s = none → exec .sourceChange s = .next s)

/-- Timebase states (R193 to R195): with the exchange of the frame that ends, 64 good ones lock, the configured run of bad
ones unlocks, the loss of the source enters HOLDOVER with the rate kept, and crossing 1 ns in HOLDOVER is one verdict. A step
of the timebase (R193, R196, R197): the next tick makes it, with the next serial, the state STEPPED and the step interrupt,
counted; no step remains asked for and no session ARMED. The timing root (R212, R213): a write of TMB_ROOT_TOD_HI with bit 31
awaits the second's edge; the first edge is kept, and one a second later steps the timebase; from then on an edge within 1 us
of its second measures the error, another is discarded, eight of them ask for a step; a missing edge is counted, interrupts,
and the next second is expected; a second one enters HOLDOVER; a hub that is no root takes no edge. -/
def Obligations.TimebaseAndRoot : Prop :=
  (∀ s : State, live s = true → s.tmb.st = .stepped → 64 ≤ (useExchange s).tmb.lockCnt → isRoot s = false →
    ∃ u, exec .timebaseLock s = .next u ∧
      u = { s with regs := u.regs, evt := u.evt, tmb := { s.tmb with st := .locked, unlockCnt := 0, hoTunl := false } } ∧
      rg u (pgIrq .tmb 0) = rg s (pgIrq .tmb 0) ||| 1#32 ∧ SameRegs [pgIrq .tmb 0] s u) ∧
  (∀ s : State, live s = true → s.tmb.st = .locked → af s 0x304C 16 8 ≤ (useExchange s).tmb.unlockCnt →
    (useExchange s).tmb.unlockCnt ≠ 0 →
    ∃ u, exec .timebaseUnlock s = .next u ∧
      u = { s with regs := u.regs, evt := u.evt, tmb := { s.tmb with st := .stepped, lockCnt := 0, unlockCnt := 0, hoTunl := false, tunlAt := tmbCut s :: s.tmb.tunlAt } } ∧
      SameRegs [pgIrq .tmb 0] s u) ∧
  (∀ (t : Nat) (s : State), live s = true → (s.tmb.st = .stepped ∨ s.tmb.st = .locked) → isRoot s = false → srcLost s = true →
    ∃ u, exec (.holdoverEntry t) s = .next u ∧ u = { s with c := u.c, regs := u.regs, evt := u.evt, tmb := u.tmb } ∧
      u.tmb.st = .holdover ∧ u.tmb.rho = s.tmb.rho ∧ u.tmb.t0 = s.tmb.t0 ∧ u.tmb.c0 = s.tmb.c0 ∧ u.tmb.hoAt = t ∧
      u.tmb.hoE0 = (toPs (mean s.tmb.eHist)).toNat + 150 ∧ u.tmb.hoLocked = decide (s.tmb.st = .locked) ∧
      SameRegs [pgIrq .tmb 0] s u) ∧
  (∀ (t : Nat) (s : State), live s = true → s.tmb.st = .holdover → 1000 < effBound s t → s.tmb.hoTunl = false →
    ∃ u, exec (.holdoverBoundCross t) s = .next u ∧
      u = { s with c := u.c, tmb := { s.tmb with hoTunl := true, tunlAt := tmbCut s :: s.tmb.tunlAt } }) ∧
  (∀ (i : TickIn) (s : State), running s = true → stepDue s = true → s.tmb.ser < 16 →
    ∃ t, exec (.timebaseStep i) s = .next t ∧ t.tmb.ser = (s.tmb.ser + 1) % 16 ∧ t.tmb.step = none ∧ t.tmb.st = .stepped ∧
      bit (rg t 0x3010) 1 = true ∧ rg t 0x3028 = word (satAdd 32 (rg s 0x3028).toNat 1) ∧ t.cmt.st ≠ .armed ∧
      t.ord = s.ord + 1 ∧ t.mem.words = s.mem.words ∧ t.pending = s.pending) ∧
  (∀ (i : TickIn) (s : State), stepDue s = false → exec (.timebaseStep i) s = .next s) ∧
  (∀ (p : Path) (w : Word) (s : State), running s = true → directOk s .tmb 0 = true →
    ∃ u, exec (.rootTodValid p w) s = .next u ∧ u = { s with regs := u.regs, tmb := u.tmb } ∧
      rg u 0x30A4 = w &&& 0xFFFF#32 ∧ SameRegs [0x30A4] s u ∧
      u.tmb = (if bit w 31 then { s.tmb with pps := { s.tmb.pps with todValid := true, first := none } } else s.tmb)) ∧
  (∀ (t : Nat) (s : State), live s = true → s.jtag.held = false → isRoot s = true → s.tmb.pps.todValid = true → s.tmb.pps.first = none →
    ∃ u, exec (.ppsInEdge t) s = .next u ∧
      u = { s with c := u.c, tmb := { s.tmb with pps := { s.tmb.pps with first := some t } } }) ∧
  (∀ (t a : Nat) (s : State), live s = true → s.jtag.held = false → isRoot s = true → s.tmb.pps.todValid = true → s.tmb.pps.first = some a →
    |((t : Int) - a) - (tauHz : Int)| * 10000 ≤ (tauHz : Int) →
    ∃ u, exec (.ppsInEdge t) s = .next u ∧ u = { s with c := u.c, tmb := u.tmb } ∧
      u.tmb.step = some (.abs (((todSec s : Int) + 1) * 2 ^ 64 + ppsDly s) t
        (some (((tauHz : Int) - ((t : Int) - a)) * 2 ^ 48 / ((t : Int) - a)))) ∧ u.tmb.pps.todValid = false ∧
      u.tmb.pps.next = some (todSec s + 2) ∧ u.tmb.st = s.tmb.st) ∧
  (∀ (t a : Nat) (s : State), live s = true → s.jtag.held = false → isRoot s = true → s.tmb.pps.todValid = true → s.tmb.pps.first = some a →
    (tauHz : Int) < |((t : Int) - a) - (tauHz : Int)| * 10000 → s.tmb.pps.next = none →
    ∃ u, exec (.ppsInEdge t) s = .next u ∧
      u = { s with c := u.c, tmb := { s.tmb with pps := { s.tmb.pps with first := some t } } }) ∧
  (∀ (t n : Nat) (s : State), live s = true → s.jtag.held = false → isRoot s = true → s.tmb.pps.todValid = false → s.tmb.pps.next = some n →
    |netTime s t - ppsDly s - (n : Int) * 2 ^ 64| ≤ ns64 1000 →
    ∃ u, exec (.ppsInEdge t) s = .next u ∧ u = { s with c := u.c, regs := u.regs, evt := u.evt, tmb := u.tmb } ∧
      u.tmb.e = netTime s t - ppsDly s - (n : Int) * 2 ^ 64 ∧ u.tmb.eNew = true ∧ u.tmb.stepNeeded = false ∧ u.tmb.pps.next = some (n + 1) ∧
      u.tmb.pps.miss = 0 ∧ u.tmb.pps.disc = 0 ∧ u.tmb.step = s.tmb.step ∧ SameRegs [pgIrq .tmb 0] s u) ∧
  (∀ (t n : Nat) (s : State), live s = true → s.jtag.held = false → isRoot s = true → s.tmb.pps.todValid = false → s.tmb.pps.next = some n →
    ns64 1000 < |netTime s t - ppsDly s - (n : Int) * 2 ^ 64| →
    ∃ u, exec (.ppsInEdge t) s = .next u ∧ u = { s with c := u.c, regs := u.regs, evt := u.evt, tmb := u.tmb } ∧
      u.tmb.e = netTime s t - ppsDly s - (n : Int) * 2 ^ 64 ∧ u.tmb.eNew = s.tmb.eNew ∧ u.tmb.pps.disc = s.tmb.pps.disc + 1 ∧ u.tmb.pps.lockCnt = 0 ∧
      (8 ≤ s.tmb.pps.disc + 1 → u.tmb.stepNeeded = true) ∧ u.tmb.st = s.tmb.st ∧ SameRegs [pgIrq .tmb 0] s u) ∧
  (∀ (t : Nat) (s : State), (live s = false ∨ s.jtag.held = true ∨ isRoot s = false) → exec (.ppsInEdge t) s = .next s) ∧
  (∀ (t n : Nat) (s : State), live s = true → isRoot s = true → s.tmb.pps.next = some n →
    (n : Int) * 2 ^ 64 + ns64 1000000 ≤ netTime s t - ppsDly s → 1 ≤ s.tmb.pps.miss → (s.tmb.st = .stepped ∨ s.tmb.st = .locked) →
    ∃ u, exec (.ppsMissing t) s = .next u ∧ u = { s with c := u.c, regs := u.regs, evt := u.evt, tmb := u.tmb } ∧ u.tmb.st = .holdover ∧
      u.tmb.hoAt = t ∧ u.tmb.rho = s.tmb.rho ∧ u.tmb.pps.next = some (n + 1) ∧ SameRegs [pgIrq .tmb 0] s u) ∧
  (∀ (t n : Nat) (s : State), live s = true → isRoot s = true → s.tmb.pps.next = some n →
    (n : Int) * 2 ^ 64 + ns64 1000000 ≤ netTime s t - ppsDly s → s.tmb.pps.miss = 0 →
    ∃ u, exec (.ppsMissing t) s = .next u ∧ u = { s with c := u.c, regs := u.regs, evt := u.evt, tmb := { s.tmb with pps := { s.tmb.pps with next := some (n + 1), miss := 1, lockCnt := 0 } } } ∧
      rg u (pgIrq .tmb 0) = rg s (pgIrq .tmb 0) ||| 0x20#32 ∧ SameRegs [pgIrq .tmb 0] s u)

/-- Snapshots, scheduled events and pulses (R192, R214 to R216): a snapshot takes counter, time and state together; arming one
sound event arms it from its first firing; disarming clears the named bits; an event in the past or of a reserved kind is
refused; a pulse whose end has come leaves its pin. Scheduled events (R214, R215): an armed event whose instant has come fires
and sets FIRED, whatever its ACTION, ACTION 4 with its interrupt; a one-shot event is disarmed, a periodic one stays armed for
its next instant; in SLEEP an event that does not wake is skipped with LATE. What log entry 145 names in this is the model's
choice or reading. -/
def Obligations.TimedEvents : Prop :=
  (∀ (p : Path) (s : State), running s = true → directOk s .tmb 0 = true →
    exec (.tmbSnapGo p) s = .next { s with tmb := { s.tmb with snap := ⟨s.c, netNow s, tmbStateWord s⟩ } }) ∧
  (∀ (p : Path) (e : Nat) (s : State), e < 16 → running s = true → directOk s .tmb 0 = true → evtArmOk s e = true →
    exec (.tmbEvtArm p (word (2 ^ e))) s =
      .next { s with tmb := { s.tmb with evtArm := s.tmb.evtArm ||| 2 ^ e, evtCnt := tset 0 s.tmb.evtCnt e 0 } }) ∧
  (∀ (p : Path) (e : Nat) (s : State), e < 16 → running s = true → directOk s .tmb 0 = true → evtArmOk s e = false →
    ∃ u, exec (.tmbEvtArm p (word (2 ^ e))) s = .next u ∧
      u = { s with regs := u.regs, tmb := { s.tmb with evtArm := s.tmb.evtArm &&& (0xFFFF ^^^ 2 ^ e) } } ∧
      (rg s (pgErr .tmb 0) = 0 → rg u (pgErr .tmb 0) = word (2 * 2 ^ 24 ||| s.frame % 2 ^ 24)) ∧ SameRegs [pgErr .tmb 0] s u) ∧
  (∀ (p : Path) (w : Word) (s : State), running s = true → directOk s .tmb 0 = true →
    ∃ u, exec (.tmbEvtArm p w) s = .next u ∧
      u = { s with regs := u.regs, tmb := { s.tmb with evtArm := u.tmb.evtArm, evtCnt := u.tmb.evtCnt } } ∧ SameRegs [pgErr .tmb 0] s u ∧
      ∀ e, e < 16 → evtArmed u e = (if bit w e then evtArmOk s e else evtArmed s e)) ∧
  (∀ (p : Path) (w : Word) (s : State), running s = true → directOk s .tmb 0 = true →
    exec (.tmbEvtDisarm p w) s = .next { s with tmb := { s.tmb with evtArm := s.tmb.evtArm &&& (0xFFFF ^^^ fld w 0 16) } }) ∧
  (∀ (pin t a b : Nat) (s : State), live s = true → tget [] s.tmb.pulse pin = [(a, b)] → b ≤ t →
    ∃ u, exec (.timingPulseEnd pin t) s = .next u ∧ u = { s with c := u.c, tmb := { s.tmb with pulse := u.tmb.pulse } } ∧
      tget [] u.tmb.pulse pin = [] ∧ (∀ q, q ≠ pin → tget [] u.tmb.pulse q = tget [] s.tmb.pulse q)) ∧
  (∀ (e t : Nat) (s : State), running s = true → e < 16 → evtArmed s e = true → evtAt s e ≤ netTime s t → sleeping s = false →
    af s (evtCfgA e) 0 4 = 4 →
    ∃ u, exec (.scheduledEventFire e t) s = .next u ∧ u = { s with c := u.c, regs := u.regs, evt := u.evt, tmb := u.tmb } ∧
      bit (rg u 0x3308) e = true ∧ bit (rg u 0x3010) 4 = true ∧ SameRegs [0x3308, 0x3010] s u ∧
      u.tmb = { s.tmb with evtArm := u.tmb.evtArm, evtCnt := u.tmb.evtCnt } ∧
      (fld (rg s (evtCfgA e)) 8 24 = 0 → evtArmed u e = false ∧ u.tmb.evtCnt = s.tmb.evtCnt) ∧
      (fld (rg s (evtCfgA e)) 8 24 ≠ 0 → u.tmb.evtArm = s.tmb.evtArm ∧ tget 0 u.tmb.evtCnt e = tget 0 s.tmb.evtCnt e + 1)) ∧
  (∀ (e t : Nat) (s : State), running s = true → e < 16 → evtArmed s e = true → evtAt s e ≤ netTime s t → sleeping s = false →
    ∃ u, exec (.scheduledEventFire e t) s = .next u ∧ bit (rg u 0x3308) e = true ∧ u.mem.words = s.mem.words ∧ u.frame = s.frame ∧
      (fld (rg s (evtCfgA e)) 8 24 = 0 → evtArmed u e = false) ∧
      (fld (rg s (evtCfgA e)) 8 24 ≠ 0 → evtArmed u e = true ∧ tget 0 u.tmb.evtCnt e = tget 0 s.tmb.evtCnt e + 1) ∧
      (∀ k, k < 16 → k ≠ e → evtArmed u k = evtArmed s k)) ∧
  (∀ (e t : Nat) (s : State), running s = true → e < 16 → evtArmed s e = true → evtAt s e ≤ netTime s t → sleeping s = true →
    af s (evtCfgA e) 0 4 ≠ 5 →
    ∃ u, exec (.scheduledEventFire e t) s = .next u ∧ u = { s with c := u.c, regs := u.regs, tmb := u.tmb } ∧
      rg u 0x3308 = rg s 0x3308 ||| word (2 ^ (16 + e)) ∧ SameRegs [0x3308] s u ∧
      u.tmb = { s.tmb with evtArm := u.tmb.evtArm, evtCnt := u.tmb.evtCnt })

/-- Trigger sources (R216, R240, R243, R249 to R251): a force trigger with the instant registers at zero fires now; the one
plan that selects it and has its window in store goes to POST with that instant, its first index and CP_K0; an edge of TRIG_IN
whose low and high times last 20 ns (2014 units of tau/256) is noted with its instant, one within 1 us of the last, with a
shorter low or high time, or on an input that is not enabled does nothing; a trigger whose window begins before the first
index in store is counted in the early misses and the plan stays. TRIG packets taken (R245, R326, R330): a duplicate is
counted and its credit returned, and no plan sees it. What log entries 22 and 48 name in this is the model's choice or
reading. -/
def Obligations.TriggersAndPlans : Prop :=
  (∀ (p : Path) (t j : Nat) (s : State), running s = true → directOk s .acq 0 = true → instRegs s 0xD150 = 0 → j < 8 →
    bit (rg s (cpA j 0xC)) 19 = true → (∀ q, q < 8 → q ≠ j → bit (rg s (cpA q 0xC)) 19 = false) → (srcPub s 19).1 = false →
    ((plan s j).st = .filling ∨ (plan s j).st = .ready) →
    (plan s j).kFirst + planPre s j ≤ planIdx s j (forceAt t s) →
    planNext (plan s j) + planPre s j ≤ planIdx s j (forceAt t s) + planS s j →
    planIdx s j (forceAt t s) < planNext (plan s j) + 64 * planOdr s j →
    ∃ u, exec (.acqForceGo p t) s = .next u ∧
      u = { s with c := u.c, regs := u.regs, evt := u.evt, taps := u.taps, plans := u.plans, tmb := { s.tmb with pulse := u.tmb.pulse } } ∧
      (plan u j).st = .post ∧ (plan u j).trig = forceAt t s ∧ (plan u j).tsrc = 19 ∧
      (plan u j).k0 = planIdx s j (forceAt t s) ∧
      (plan u j).k0Mod = gridFirst (planOdr s j) (forceAt t s) % planOdr s j ∧
      (plan u j).wEnd = planIdx s j (forceAt t s) + planPost s j ∧
      (∀ q, q ≠ j → plan u q = plan s q) ∧ rg u 0xD020 = word (satAdd 32 (rg s 0xD020).toNat 1)) ∧
  (∀ (p : Path) (t j : Nat) (s : State), running s = true → directOk s .acq 0 = true → instRegs s 0xD150 = 0 → j < 8 →
    bit (rg s (cpA j 0xC)) 19 = true → (∀ q, q < 8 → q ≠ j → bit (rg s (cpA q 0xC)) 19 = false) → (srcPub s 19).1 = false →
    (plan s j).st = .ready →
    planIdx s j (forceAt t s) < (plan s j).kFirst + planPre s j →
    ∃ u, exec (.acqForceGo p t) s = .next u ∧
      u = { s with c := u.c, regs := u.regs, evt := u.evt, tmb := { s.tmb with pulse := u.tmb.pulse } } ∧
      rg u 0xD024 = word (satAdd 32 (rg s 0xD024).toNat 1) ∧ SameRegs [0xD024, pgIrq .acq 0] s u) ∧
  (∀ (n : Nat) (e : PinEdge) (s : State), live s = true → s.jtag.held = false → n < 2 → bit (rg s 0x30B0) n = true → tget none s.tmb.trigLast n = none →
    2014 ≤ e.low → 2014 ≤ e.high →
    ∃ u, exec (.trigInEdge n e) s = .next u ∧
      u = { s with c := u.c, regs := u.regs, evt := u.evt, taps := u.taps, plans := u.plans, lanes := u.lanes, dups := u.dups, pubId := u.pubId, tmb := { s.tmb with trigLast := u.tmb.trigLast, pulse := u.tmb.pulse, outs := u.tmb.outs } } ∧
      tget none u.tmb.trigLast n = some e.t ∧ (∀ m, m ≠ n → tget none u.tmb.trigLast m = tget none s.tmb.trigLast m)) ∧
  (∀ (n x : Nat) (e : PinEdge) (s : State), tget none s.tmb.trigLast n = some x → e.t ≤ x + usTau 1 →
    exec (.trigInEdge n e) s = .next s) ∧
  (∀ (n : Nat) (e : PinEdge) (s : State), (e.low < 2014 ∨ e.high < 2014 ∨ 2 ≤ n ∨ bit (rg s 0x30B0) n = false ∨ s.jtag.held = true ∨ live s = false) →
    exec (.trigInEdge n e) s = .next s) ∧
  (∀ (n t : Nat) (k : TrigPkt) (s : State), rxOk s n = true → (lane s n).lk.e < 65536 →
    (k.origin, k.line % 8, k.id) ∈ s.dups → (lane s n).lk.acc + 1 < af s (lnkReg n 0x100) 0 8 →
    ∃ u, exec (.trigPacketReceive n (lane s n).lk.e k t) s = .next u ∧
      u = { s with c := u.c, regs := u.regs, lanes := u.lanes } ∧
      lane u n = { lane s n with lk := { (lane s n).lk with e := ((lane s n).lk.e + 1) % 65536, acc := (lane s n).lk.acc + 1, nak := none, freeP := (lane s n).lk.freeP + 1 } } ∧
      (∀ m, m ≠ n → lane u m = lane s m) ∧ rg u 0xD03C = word (satAdd 32 (rg s 0xD03C).toNat 1) ∧ SameRegs [0xD03C] s u) ∧
  (∀ (n t : Nat) (k : TrigPkt) (s : State), rxOk s n = true → (lane s n).lk.e < 65536 →
    (k.origin, k.line % 8, k.id) ∉ s.dups → (af s 0xD144 16 8).testBit (k.line % 8) = true →
    ∃ u, exec (.trigPacketReceive n (lane s n).lk.e k t) s = .next u ∧
      u = { s with c := u.c, regs := u.regs, evt := u.evt, taps := u.taps, lanes := u.lanes, plans := u.plans, dups := ((k.origin, k.line % 8, k.id) :: s.dups).take 256 } ∧
      (lane u n).lk.e = ((lane s n).lk.e + 1) % 65536 ∧ (∀ m, (lane u m).st = (lane s m).st ∧ (lane u m).lk.un = (lane s m).lk.un))

/-- Capture plans (R248, R252, R372): ARM fills from the next pass when the region's banks are ACQ's, and is refused with BUSY
while a plan runs, with NO_RESOURCE for another's bank and with BAD_PARAM without a region; DISARM drops a plan before its
trigger and truncates one after it; RELEASE and OFFLOAD act on a HELD plan only; an offload that ends leaves its own queue and
plan changed. Only RELEASED bits change in the memory block, and the records of the errors that an offload's reads find. What
log entry 24 names in this is the model's choice or reading. -/
def Obligations.CapturePlans : Prop :=
  (∀ (p : Path) (j : Nat) (s : State), j < 8 → running s = true → directOk s .acq 0 = true → planNbk s j ≠ 0 →
    ((plan s j).st = .idle ∨ (plan s j).st = .held) → (plan s j).offl = none → s.hub.st ≠ .safe →
    (∀ b, b < 12 → planHasBank s j b = true → bankOwner s b = ownAcq) →
    ∃ u, exec (.cpArm p j) s = .next u ∧
      u = { s with regs := u.regs, evt := u.evt, plans := u.plans, mem := { s.mem with rel := u.mem.rel } } ∧
      (plan u j).st = .filling ∧ (plan u j).cause = 0 ∧ (∀ q, q ≠ j → plan u q = plan s q) ∧ SameRegs [pgIrq .mem 0] s u) ∧
  (∀ (p : Path) (j : Nat) (s : State), j < 8 → running s = true → directOk s .acq 0 = true → planNbk s j ≠ 0 →
    ((plan s j).st = .filling ∨ (plan s j).st = .ready ∨ (plan s j).st = .post) →
    exec (.cpArm p j) s = .next (pgError .acq 0 stBusy s)) ∧
  (∀ (p : Path) (j b : Nat) (s : State), j < 8 → running s = true → directOk s .acq 0 = true → planNbk s j ≠ 0 →
    ((plan s j).st = .idle ∨ (plan s j).st = .held) → (plan s j).offl = none → s.hub.st ≠ .safe → b < 12 → planHasBank s j b = true →
    bankOwner s b ≠ ownAcq → exec (.cpArm p j) s = .next (pgError .acq 0 stNoResource s)) ∧
  (∀ (p : Path) (j : Nat) (s : State), j < 8 → running s = true → directOk s .acq 0 = true → planNbk s j = 0 →
    exec (.cpArm p j) s = .next (pgError .acq 0 stBadParam s)) ∧
  (∀ (p : Path) (j : Nat) (s : State), j < 8 → running s = true → directOk s .acq 0 = true → ((plan s j).st = .idle ∨ (plan s j).st = .held) →
    exec (.cpDisarm p j) s = .next (pgError .acq 0 stBusy s)) ∧
  (∀ (p : Path) (j : Nat) (s : State), j < 8 → running s = true → directOk s .acq 0 = true →
    ((plan s j).st = .filling ∨ (plan s j).st = .ready) →
    ∃ u, exec (.cpDisarm p j) s = .next u ∧
      u = { s with regs := u.regs, evt := u.evt, taps := u.taps, plans := u.plans, mem := { s.mem with rel := u.mem.rel } } ∧
      plan u j = { cause := 2 } ∧ (∀ q, q ≠ j → plan u q = plan s q) ∧ SameRegs [pgIrq .mem 0] s u) ∧
  (∀ (p : Path) (j : Nat) (s : State), j < 8 → running s = true → directOk s .acq 0 = true → (plan s j).st = .post →
    ∃ u, exec (.cpDisarm p j) s = .next u ∧
      u = { s with regs := u.regs, evt := u.evt, taps := u.taps, plans := u.plans, mem := { s.mem with rel := u.mem.rel } } ∧
      (plan u j).st = .held ∧ (plan u j).cause = 2 ∧ (plan u j).trunc = true ∧ (plan u j).trig = (plan s j).trig ∧
      (∀ q, q ≠ j → plan u q = plan s q) ∧ rg u 0xD034 = word (satAdd 32 (rg s 0xD034).toNat 1) ∧
      SameRegs [0xD034, pgIrq .acq 0, pgIrq .mem 0] s u) ∧
  (∀ (p : Path) (j : Nat) (s : State), j < 8 → running s = true → directOk s .acq 0 = true → (plan s j).st = .held →
    (plan s j).offl = none →
    ∃ u, exec (.cpRelease p j) s = .next u ∧
      u = { s with regs := u.regs, evt := u.evt, taps := u.taps, plans := u.plans, mem := { s.mem with rel := u.mem.rel } } ∧
      plan u j = {} ∧ (∀ q, q ≠ j → plan u q = plan s q) ∧ SameRegs [pgIrq .mem 0] s u) ∧
  (∀ (p : Path) (j : Nat) (s : State), j < 8 → running s = true → directOk s .acq 0 = true → (plan s j).st = .held →
    (plan s j).offl = none →
    ∃ u, exec (.cpOffload p j) s = .next u ∧ u = { s with plans := u.plans } ∧
      plan u j = { plan s j with offl := some { q := af s (cpA j 0x18) 0 4, compress := bit (rg s (cpA j 0x18)) 4, live := false }, offdone := false } ∧
      (∀ q, q ≠ j → plan u q = plan s q)) ∧
  (∀ (p : Path) (j : Nat) (s : State), j < 8 → running s = true → directOk s .acq 0 = true → (plan s j).st ≠ .held →
    exec (.cpRelease p j) s = .next (pgError .acq 0 stBusy s) ∧ exec (.cpOffload p j) s = .next (pgError .acq 0 stBusy s)) ∧
  (∀ (j : Nat) (ecc : List (Nat × MemErr)) (o : Offl) (s : State), live s = true → (plan s j).st = .held → (plan s j).offl = some o →
    waiter s (.offload j) = none →
    ∃ u, exec (.offloadDone j ecc) s = .next u ∧
      u = { s with regs := u.regs, evt := u.evt, plans := u.plans, queues := u.queues, freeIdx := u.freeIdx, mem := u.mem } ∧
      u.mem.words = s.mem.words ∧ (ecc = [] → u.mem = { s.mem with rel := u.mem.rel }) ∧ (plan u j).st = .held ∧ (plan u j).offl = none ∧ (plan u j).offdone = true ∧ (∀ q, q ≠ j → plan u q = plan s q) ∧
      (∀ q, q ≠ o.q → queue u q = queue s q))

/-- The capture memory's owners and host window (R370, R371, R373, R375): a released bank changes hands with a new word; a
bank in use is refused; a window read returns the word's low half and latches the high half; a window write stores exactly the
word at OFFSET; an access that collides is not performed, and OFFSET stays (log entry 223); a word's ECC finding is counted;
without the right to the bank a read gives zero and nothing is stored; in BASIC mode a read gives zero. Scrubbing, repair and
self-test (R378 to R381): a scrub step moves every memory's scrubber by one word and changes no word; a soft repair makes the
words of its sub-array free values and changes no other; a self-test runs on a bank without owner and leaves that bank zero
and every other as it was. What log entry 33 names in this is the model's choice or reading. -/
def Obligations.CaptureMemory : Prop :=
  (∀ (p : Path) (b : Nat) (w : Word) (s : State), b < 12 → running s = true → directOk s .mem 0 = true →
    rg s (bankCfgA b) ≠ w &&& 0x107#32 → released s b = true → s.mem.test ≠ some b →
    ∃ u, exec (.memBankCfgWrite p b w) s = .next u ∧
      u = { s with regs := u.regs, evt := u.evt, mem := { s.mem with rel := u.mem.rel } } ∧
      rg u (bankCfgA b) = w &&& 0x107#32 ∧ rg u 0xA034 = word (satAdd 32 (rg s 0xA034).toNat 1) ∧
      SameRegs [bankCfgA b, 0xA034, pgIrq .mem 0] s u) ∧
  (∀ (p : Path) (b : Nat) (w : Word) (s : State), b < 12 → running s = true → directOk s .mem 0 = true →
    rg s (bankCfgA b) ≠ w &&& 0x107#32 → released s b = false →
    exec (.memBankCfgWrite p b w) s = .next (pgError .mem 0 stBusy s)) ∧
  (∀ (p : Path) (k : Nat) (s : State), running s = true → expert s .mem 0 = true → windowOk s (hBank s) = true →
    collKind s (hBank s) k = 0 → tget 0 s.mem.errs (262144 * hBank s + hOff s / 8) = 0 →
    ∃ u, exec (.memWindowRead p ⟨k, 0⟩) s = .next u ∧
      u = { s with regs := u.regs, hiLatch := u.hiLatch, rd := [lo32 (memGet s (262144 * hBank s + hOff s / 8))], mem := { s.mem with hstat := 0, readHi := hi32 (memGet s (262144 * hBank s + hOff s / 8)) } } ∧
      rg u 0xA0D0 = (if bit (rg s 0xA0D0) 31 then setFld (rg s 0xA0D0) 0 21 (hOff s + 8) else rg s 0xA0D0) ∧
      (readReg p 0xA0D8 ⟨k, 0⟩ u).1 = hi32 (memGet s (262144 * hBank s + hOff s / 8)) ∧
      SameRegs [0xA0D0] s u) ∧
  (∀ (p : Path) (k e : Nat) (s : State), running s = true → expert s .mem 0 = true → windowOk s (hBank s) = true → (e = 1 ∨ e = 2) →
    collKind s (hBank s) k = 0 → hBank s < 12 → tget 0 s.mem.errs (262144 * hBank s + hOff s / 8) ≤ e →
    ∃ u, exec (.memWindowRead p ⟨k, e⟩) s = .next u ∧ u.rd = [lo32 (memGet s (262144 * hBank s + hOff s / 8))] ∧ u.mem.words = s.mem.words ∧
      (e = 1 → u.mem.hstat = 0 ∧ rg u 0xA020 = word (satAdd 32 (rg s 0xA020).toNat 1) ∧ tget 0 u.mem.errs (262144 * hBank s + hOff s / 8) = 0) ∧
      (e = 2 → u.mem.hstat = 4 ∧ rg u 0xA024 = word (satAdd 32 (rg s 0xA024).toNat 1) ∧ bit (rg u 0xA010) 1 = true)) ∧
  (∀ (p : Path) (h : MemHit) (s : State), running s = true → expert s .mem 0 = true → windowOk s (hBank s) = true →
    collKind s (hBank s) h.kind = 2 →
    ∃ u, exec (.memWindowRead p h) s = .next u ∧ u.mem.words = s.mem.words ∧ u.mem.hstat = 1 ∧ bit (rg u 0xA010) 2 = true ∧
      u.freeIdx = s.freeIdx + 2 ∧ u.rd = [Config.freeWord s.freeIdx] ∧ rg u 0xA0D0 = rg s 0xA0D0) ∧
  (∀ (p : Path) (h : MemHit) (s : State), running s = true → expert s .mem 0 = true → windowOk s (hBank s) = false →
    ∃ u, exec (.memWindowRead p h) s = .next u ∧ u.rd = [0] ∧ u.mem.words = s.mem.words ∧ u.mem.hstat = 2 ∧
      rg u 0xA028 = word (satAdd 32 (rg s 0xA028).toNat 1)) ∧
  (∀ (p : Path) (h : MemHit) (s : State), running s = true → expert s .mem 0 = false → exec (.memWindowRead p h) s = .next { s with rd := [0] }) ∧
  (∀ (p : Path) (h : MemHit) (lo hi : Word) (s : State), running s = true → directOk s .mem 0 = true → windowOk s (hBank s) = true →
    (collKind s (hBank s) h.kind = 1 ∨ collKind s (hBank s) h.kind = 3) →
    ∃ u, exec (.memWindowWrite p lo hi h) s = .next u ∧ u = { s with regs := u.regs, evt := u.evt, mem := { s.mem with hstat := 1, holdLo := lo } } ∧
      bit (rg u 0xA010) 2 = true ∧ rg u 0xA0D0 = rg s 0xA0D0) ∧
  (∀ (p : Path) (k : Nat) (lo hi : Word) (s : State), running s = true → directOk s .mem 0 = true → windowOk s (hBank s) = true →
    collKind s (hBank s) k = 0 →
    ∃ u, exec (.memWindowWrite p lo hi ⟨k, 0⟩) s = .next u ∧
      u = { s with regs := u.regs, mem := { s.mem with hstat := 0, holdLo := lo, words := u.mem.words, errs := u.mem.errs, inj := u.mem.inj } } ∧
      (∀ a, memGet u a = if a = 262144 * hBank s + hOff s / 8 then lo.toNat + 2 ^ 32 * hi.toNat else memGet s a) ∧
      SameRegs [0xA0D0] s u) ∧
  (∀ (p : Path) (h : MemHit) (lo hi : Word) (s : State), running s = true → directOk s .mem 0 = true →
    windowOk s (hBank s) = false →
    ∃ u, exec (.memWindowWrite p lo hi h) s = .next u ∧
      u = { s with regs := u.regs, evt := u.evt, mem := { s.mem with hstat := 2, holdLo := lo } } ∧
      rg u 0xA028 = word (satAdd 32 (rg s 0xA028).toNat 1) ∧ SameRegs [0xA028, 0xA0D0, pgErr .mem 0, pgIrq .mem 0] s u) ∧
  (∀ s : State, live s = true → af s 0xA0E8 0 8 ≠ 0 → s.pwr.sleep ≠ .asleep →
    (∀ m, m < 12 → tget 0 s.mem.errs (262144 * m + tget 0 s.mem.scrub m) = 0) →
    ∃ u, exec (.scrubStep []) s = .next u ∧ u = { s with regs := u.regs, mem := { s.mem with scrub := u.mem.scrub } } ∧
      (∀ m, m < 13 → tget 0 u.mem.scrub m = (tget 0 s.mem.scrub m + 1) % memLen m) ∧ SameRegs [0xA030] s u) ∧
  (∀ (errs : List (Nat × Nat)) (s : State), ∃ u, exec (.scrubStep errs) s = .next u ∧ u.mem.words = s.mem.words ∧
    u = { s with regs := u.regs, evt := u.evt, mem := u.mem }) ∧
  (∀ (p : Path) (w : Word) (s : State), running s = true → directOk s .mem 0 = true → bit w 31 = true → fld w 16 9 < 384 →
    bankOwner s (fld w 16 9 / 32) = ownNone →
    (∀ r ∈ s.mem.repair, r.1 = fld w 16 9 → r.2.1 = fld w 9 2 → r.2.2.2 = false) →
    ∃ u, exec (.memRepairGo p w) s = .next u ∧
      u = { s with regs := u.regs, freeIdx := s.freeIdx + 16384, mem := { s.mem with repair := u.mem.repair, words := u.mem.words, errs := u.mem.errs } } ∧
      (∀ e ∈ u.mem.errs, e ∈ s.mem.errs) ∧ (fld w 16 9, fld w 9 2, fld w 0 9, false) ∈ u.mem.repair ∧
      (∀ i, i < 8192 → memGet u (8192 * fld w 16 9 + i) =
        (Config.freeWord (s.freeIdx + 2 * i)).toNat + 2 ^ 32 * (Config.freeWord (s.freeIdx + 2 * i + 1)).toNat) ∧
      (∀ a, a / 8192 ≠ fld w 16 9 → memGet u a = memGet s a) ∧ SameRegs [0xA100] s u) ∧
  (∀ (p : Path) (w : Word) (s : State), running s = true → directOk s .mem 0 = true → bit w 8 = true → fld w 0 4 < 12 →
    s.mem.test = none → bankOwner s (fld w 0 4) = ownNone →
    ∃ u, exec (.memTestGo p w) s = .next u ∧ u = { s with regs := u.regs, mem := { s.mem with test := some (fld w 0 4) } } ∧
      SameRegs [0xA0F0] s u) ∧
  (∀ (p : Path) (w : Word) (s : State), running s = true → directOk s .mem 0 = true → bit w 8 = true → s.mem.test.isSome = true →
    fld w 0 4 < 12 → exec (.memTestGo p w) s = .next (pgError .mem 0 stBusy s)) ∧
  (∀ (fails sub col b : Nat) (s : State), s.mem.test = some b →
    ∃ u, exec (.memTestDone fails sub col) s = .next u ∧
      u = { s with regs := u.regs, evt := u.evt, flight := u.flight, compl := u.compl, mem := { s.mem with test := none, testRes := u.mem.testRes, words := u.mem.words, errs := u.mem.errs } } ∧
      (∀ a, memGet u a = if a / 262144 = b then 0 else memGet s a) ∧
      SameRegs [0x5024, 0x502C, pgIrq .mem 0] s u)

/-- Queues (R277, R278, R282 to R284): a rewind to a held record boundary places that reader there; a target past WP is
refused; a flush waits only while a producer writes; a flush with MODE WORD leaves one QRESYNC record and every reader before
it. No other queue changes. What log entry 30 names in this is the model's choice or reading. -/
def Obligations.QueueControl : Prop :=
  (∀ (p : Path) (s : State), running s = true → directOk s .que 0 = true → af s 0xB04C 4 4 < 8 →
    reads s (af s 0xB04C 0 4) (af s 0xB04C 4 4) = true →
    fullPos (queue s (af s 0xB04C 0 4)) (rg s 0xB058).toNat ≤ ((queue s (af s 0xB04C 0 4)).wp : Int) →
    ((queue s (af s 0xB04C 0 4)).wm : Int) ≤ fullPos (queue s (af s 0xB04C 0 4)) (rg s 0xB058).toNat →
    (∃ r ∈ (queue s (af s 0xB04C 0 4)).recs, (r.pos : Int) = fullPos (queue s (af s 0xB04C 0 4)) (rg s 0xB058).toNat) →
    ∃ u, exec (.queRwdGo p) s = .next u ∧ u = { s with regs := u.regs, queues := u.queues, rwdSt := 0x100 } ∧
      ((rdr u (af s 0xB04C 0 4) (af s 0xB04C 4 4)).rd : Int) = fullPos (queue s (af s 0xB04C 0 4)) (rg s 0xB058).toNat ∧
      (queue u (af s 0xB04C 0 4)).recs = (queue s (af s 0xB04C 0 4)).recs ∧
      (∀ n, n ≠ af s 0xB04C 4 4 → rdr u (af s 0xB04C 0 4) n = rdr s (af s 0xB04C 0 4) n) ∧
      (∀ q, q ≠ af s 0xB04C 0 4 → queue u q = queue s q) ∧ SameRegs [0xB038] s u) ∧
  (∀ (p : Path) (s : State), running s = true → directOk s .que 0 = true →
    ((queue s (af s 0xB04C 0 4)).wp : Int) < fullPos (queue s (af s 0xB04C 0 4)) (rg s 0xB058).toNat →
    exec (.queRwdGo p) s = .next { s with rwdSt := 0x102 }) ∧
  (∀ (p : Path) (s : State), running s = true → directOk s .que 0 = true → af s 0xB04C 4 4 < 8 →
    reads s (af s 0xB04C 0 4) (af s 0xB04C 4 4) = true → (queue s (af s 0xB04C 0 4)).wm ≤ (queue s (af s 0xB04C 0 4)).wp →
    fullPos (queue s (af s 0xB04C 0 4)) (rg s 0xB058).toNat < ((queue s (af s 0xB04C 0 4)).wm : Int) →
    ∃ u, exec (.queRwdGo p) s = .next u ∧
      u = { s with regs := u.regs, evt := u.evt, queues := u.queues, rwdSt := 0x100 + if ((queue s (af s 0xB04C 0 4)).lde : Int) ≤ fullPos (queue s (af s 0xB04C 0 4)) (rg s 0xB058).toNat then stOk else stLost } ∧
      (rdr u (af s 0xB04C 0 4) (af s 0xB04C 4 4)).rd = (queue s (af s 0xB04C 0 4)).wm ∧
      (∀ n, n ≠ af s 0xB04C 4 4 → rdr u (af s 0xB04C 0 4) n = rdr s (af s 0xB04C 0 4) n) ∧
      (∀ q, q ≠ af s 0xB04C 0 4 → queue u q = queue s q) ∧ SameRegs [0xB038, 0xB03C, pgIrq .que 0] s u) ∧
  (∀ (p : Path) (q : Nat) (s : State), q < 16 → running s = true → directOk s .que 0 = true → (queue s q).flush = false →
    queWriting s q = true →
    ∃ u, exec (.queFlushStook p q) s = .next u ∧ u = { s with queues := u.queues } ∧
      queue u q = { queue s q with flush := true } ∧ (∀ r, r ≠ q → queue u r = queue s r)) ∧
  (∀ (p : Path) (q : Nat) (s : State), q < 16 → running s = true → directOk s .que 0 = true → (queue s q).flush = true →
    exec (.queFlushStook p q) s = .next (pgError .que 0 stBusy s)) ∧
  (∀ (p : Path) (q : Nat) (s : State), q < 16 → running s = true → directOk s .que 0 = true → (queue s q).flush = false →
    queWriting s q = false →
    ∃ u, exec (.queFlushStook p q) s = .next u ∧
      u = { s with regs := u.regs, evt := u.evt, queues := u.queues, mem := { s.mem with rel := u.mem.rel } } ∧
      (queue u q).wm = (queue s q).wp ∧ (queue u q).wp = (queue s q).wp ∧ (queue u q).flush = false ∧
      (∀ r, r ≠ q → queue u r = queue s r) ∧ bit (rg u (pgIrq .que 0)) 4 = true) ∧
  (∀ (q : Nat) (s : State), live s = true → (queue s q).flush = true →
    ∃ u, exec (.stookFlushEffect q) s = .next u ∧
      u = { s with regs := u.regs, evt := u.evt, queues := u.queues, mem := { s.mem with rel := u.mem.rel } } ∧
      (queue u q).wm = (queue s q).wp ∧ (queue u q).flush = false ∧ (∀ r, r ≠ q → queue u r = queue s r)) ∧
  (∀ (p : Path) (q : Nat) (s : State), q < 16 → running s = true → directOk s .que 0 = true →
    ∃ u, exec (.queFlushWord p q) s = .next u ∧
      u = { s with regs := u.regs, evt := u.evt, queues := u.queues, plans := u.plans, mem := { s.mem with rel := u.mem.rel } } ∧
      (∀ j, plan u j = { plan s j with offl := (plan s j).offl.map (fun o => if o.q = q then { o with sink := some ((queue s q).wp + 1) } else o) }) ∧
      (queue u q).recs = [⟨.resync, (queue s q).wp, 1, false, resyncBytes 1 ((queue s q).ser + 1), 0, 0⟩] ∧
      (queue u q).wm = (queue s q).wp ∧ (queue u q).wp = (queue s q).wp + 1 ∧ (queue u q).ser = (queue s q).ser + 1 ∧
      (∀ n ∈ readersUp s q, (rdr u q n).rd = (queue s q).wp) ∧
      (∀ r, r ≠ q → queue u r = queue s r) ∧ bit (rg u (pgIrq .que 0)) 4 = true)

/-- Compression jobs (R295, R297, R298, R300 to R302): GO with sound registers latches one job, GO during a job is BUSY,
CANCEL marks the running job; a job that ends leaves the engine idle and done, and stores only inside its destination. What
log entries 104 and 130 name in this is the model's choice or reading. -/
def Obligations.CompressionJobs : Prop :=
  (∀ (p : Path) (w : Word) (s : State), running s = true → directOk s .cmp 0 = true → s.arc.job = none →
    jobCheck (setRg 0xC070 (w &&& 0xF0#32) s) (arcJob (setRg 0xC070 (w &&& 0xF0#32) s)) true = 0 →
    1 ≤ fld w 4 4 → fld w 4 4 ≤ 9 → 256 ≤ (rg s 0xC06C).toNat →
    exec (.arcGo p w) s = .next { setRg 0xC070 (w &&& 0xF0#32) s with arc := { job := some (arcJob (setRg 0xC070 (w &&& 0xF0#32) s)) } }) ∧
  (∀ (p : Path) (w : Word) (s : State), running s = true → directOk s .cmp 0 = true → s.dcmp.job = none → fld w 4 2 ≤ 1 →
    jobCheck (setRg 0xC090 (w &&& 0x30#32) s) (dcmpJob (setRg 0xC090 (w &&& 0x30#32) s)) true = 0 →
    exec (.dcmpGo p w) s = .next { setRg 0xC090 (w &&& 0x30#32) s with dcmp := { job := some (dcmpJob (setRg 0xC090 (w &&& 0x30#32) s)) } }) ∧
  (∀ (p : Path) (w : Word) (j : Job) (s : State), running s = true → directOk s .cmp 0 = true → s.arc.job = some j → bit w 1 = false →
    exec (.arcGo p w) s = .next (pgError .cmp 0 stBusy s)) ∧
  (∀ (p : Path) (w : Word) (j : Job) (s : State), running s = true → directOk s .cmp 0 = true → s.dcmp.job = some j → bit w 1 = false →
    exec (.dcmpGo p w) s = .next (pgError .cmp 0 stBusy s)) ∧
  (∀ (p : Path) (j : Job) (s : State), running s = true → directOk s .cmp 0 = true → s.arc.job = some j →
    exec (.arcCancel p) s = .next { s with arc := { s.arc with job := some { j with cancel := true } } }) ∧
  (∀ (p : Path) (j : Job) (s : State), running s = true → directOk s .cmp 0 = true → s.dcmp.job = some j →
    exec (.dcmpCancel p) s = .next { s with dcmp := { s.dcmp with job := some { j with cancel := true } } }) ∧
  (∀ (blocks : Nat) (ecc : ReadEcc) (j : Job) (s : State), live s = true → s.arc.job = some j → 28 ≤ j.dlen →
    ∃ u, exec (.arcJobEnd blocks ecc) s = .next u ∧ u = { s with regs := u.regs, evt := u.evt, arc := u.arc, mem := u.mem } ∧
      u.arc.job = none ∧ u.arc.done = true ∧ bit (rg u (pgIrq .cmp 0)) 0 = true ∧
      (∀ a, a < 262144 * jobBank j.dst + jobOff j.dst / 8 ∨ 262144 * jobBank j.dst + (jobOff j.dst + j.dlen + 7) / 8 ≤ a →
        memGet u a = memGet s a)) ∧
  (∀ (blocks : Nat) (ecc : ReadEcc) (j : Job) (s : State), live s = true → s.dcmp.job = some j →
    ∃ u, exec (.dcmpJobEnd blocks ecc) s = .next u ∧
      u = { s with regs := u.regs, evt := u.evt, freeIdx := u.freeIdx, dcmp := u.dcmp, mem := u.mem } ∧
      u.dcmp.job = none ∧ u.dcmp.done = true ∧ bit (rg u (pgIrq .cmp 0)) 1 = true ∧
      (∀ a, a < 262144 * jobBank j.dst + jobOff j.dst / 8 ∨ 262144 * jobBank j.dst + (jobOff j.dst + j.dlen + 7) / 8 ≤ a →
        memGet u a = memGet s a))

/-- What takes a lane DOWN (R306, R307, R309, R312, R334): each detector, 8 invalid words among 64 consecutive ones, a rate
step that times out, a degraded lane whose dwell ends, and a lost keepalive. The lane restarts from the base rate, an open
link holds nothing unacknowledged, the other lanes keep state and rate, and no word of the capture memory changes. What log
entries 12 and 180 name in this is the model's choice or reading. -/
def Obligations.LaneLosses : Prop :=
  (∀ (n t : Nat) (s : State), isSuarn s n = true → live s = true → bit (rg s (lnkReg n 0x40)) 4 = true →
    ∃ u, exec (.losPinAssert n t) s = .next u ∧ LaneLost n s u ∧ (lane u n).losPin = true) ∧
  (∀ (n t : Nat) (s : State), n < 8 → live s = true → bit (rg s (lnkReg n 0x40)) 4 = false →
    ∃ u, exec (.losPinAssert n t) s = .next u ∧ u = { s with lanes := u.lanes } ∧
      lane u n = { lane s n with losPin := true } ∧ (∀ m, m ≠ n → lane u m = lane s m)) ∧
  (∀ (n t : Nat) (s : State), isSuarn s n = true → live s = true → (lane s n).rate ≤ 2 →
    ∃ u, exec (.losIntAssert n t) s = .next u ∧ LaneLost n s u ∧ (lane u n).losInt = true) ∧
  (∀ (n t : Nat) (s : State), isSuarn s n = true → live s = true → (lane s n).rate ≤ 2 →
    ∃ u, exec (.cdrLol n t) s = .next u ∧ LaneLost n s u ∧ (lane u n).lol = true) ∧
  (∀ (n t : Nat) (s : State), n < 8 → isSuarn s n = false → live s = true → (lane s n).rate ≤ 2 →
    ∃ u v, exec (.losIntAssert n t) s = .next u ∧ u = { s with c := u.c, lanes := u.lanes } ∧
      lane u n = { lane s n with losInt := true } ∧ (∀ m, m ≠ n → lane u m = lane s m) ∧
      exec (.cdrLol n t) s = .next v ∧ v = { s with c := v.c, lanes := v.lanes } ∧
      lane v n = { lane s n with lol := true } ∧ (∀ m, m ≠ n → lane v m = lane s m)) ∧
  (∀ (n t : Nat) (s : State), 2 < (lane s n).rate →
    exec (.losIntAssert n t) s = .next s ∧ exec (.cdrLol n t) s = .next s) ∧
  (∀ (n t : Nat) (bad : List Nat) (s : State), isSuarn s n = true → live s = true → alignLost bad = true →
    ∃ u, exec (.alignmentLoss n ⟨bad, t⟩) s = .next u ∧ LaneLost n s u) ∧
  (∀ (n t : Nat) (bad : List Nat) (s : State), alignLost bad = false → exec (.alignmentLoss n ⟨bad, t⟩) s = .next s) ∧
  (∀ (n t r : Nat) (s : State), isSuarn s n = true → live s = true → (lane s n).step = some r → (lane s n).switched = true →
    (lane s n).st = .align → (lane s n).swAt + usTau 2000 ≤ t →
    ∃ u, exec (.rateStepTimeout n t) s = .next u ∧ LaneLost n s u ∧ (lane u n).step = none ∧
      (lane u n).fail = (lane s n).fail ||| 2 ^ r) ∧
  (∀ (n t : Nat) (s : State), isSuarn s n = true → live s = true → (lane s n).st = .degraded →
    bit (rg s (lnkReg n 0x40)) 5 = true → af s (lnkReg n 0x4C) 0 16 ≤ (lane s n).deg →
    ∃ u, exec (.laneDwellExpire n t) s = .next u ∧ LaneLost n s u ∧
      (lane u n).fail = (lane s n).fail ||| 2 ^ (lane s n).rate) ∧
  (∀ (n t : Nat) (s : State), linkLive s = true → n < 8 → laneUp s n = true → 3 ≤ (lane s n).lk.ka →
    ∃ u, exec (.keepaliveLoss n t) s = .next u ∧ LaneLost n s u)

/-- Lane bring-up (R305 to R307, R310, R311, R317): the comma at one place in 8 consecutive words aligns a lane, in the
polarity it came in, and starts the count of ordered sets; an invalid set ends the run, a valid one counts and brings the
partner's mask; a lane with 1024 sets and a mask that stood for 64 at the common rate goes UP with an empty link, at another
rate it begins a step there; a rate step switches the transmitter when 64 STEP sets have come and 64 are sent. -/
def Obligations.LaneBringUp : Prop :=
  (∀ (n : Nat) (s : State), n < 8 → live s = true →
    ∃ u, exec (.laneSignalPresent n) s = .next u ∧ u = { s with lanes := u.lanes } ∧
      lane u n = { lane s n with losPin := false, losInt := false, lol := false } ∧ (∀ m, m ≠ n → lane u m = lane s m)) ∧
  (∀ (n at_ : Nat) (inv : Bool) (commas : List (Nat × Bool)) (s : State), isSuarn s n = true → lanesPowered s = true →
    (lane s n).st = .down → sleeping s = false → laneHeld s n = false → alignedAt commas = some (at_, inv) →
    ∃ u, exec (.laneAlign n commas) s = .next u ∧ u = { s with regs := u.regs, evt := u.evt, lanes := u.lanes } ∧
      (lane u n).st = .align ∧ (lane u n).rxinv = inv ∧ (lane u n).sets = 0 ∧ (∀ m, m ≠ n → lane u m = lane s m) ∧
      rg u (pgIrq .lnk n) = rg s (pgIrq .lnk n) ||| 1#32 ∧ SameRegs [pgIrq .lnk n] s u) ∧
  (∀ (n : Nat) (commas : List (Nat × Bool)) (s : State), laneHeld s n = true ∨ alignedAt commas = none →
    exec (.laneAlign n commas) s = .next s) ∧
  (∀ (n off run : Nat) (rd : Bool) (syms : List Nat) (s : State), isSuarn s n = true → live s = true → (lane s n).st ≠ .down →
    setRead s n off rd syms = none →
    ∃ u, exec (.orderedSetReceive n off rd syms run) s = .next u ∧ u = { s with lanes := u.lanes } ∧
      lane u n = { lane s n with sets := 0, maskRun := 0, stepRx := 0 } ∧ (∀ m, m ≠ n → lane u m = lane s m)) ∧
  (∀ (n off mask run : Nat) (rd : Bool) (syms : List Nat) (step : Option Nat) (s : State), isSuarn s n = true → live s = true →
    (lane s n).st ≠ .down → setRead s n off rd syms = some (mask, step) → (lane s n).sets + run < 1024 →
    ∃ u, exec (.orderedSetReceive n off rd syms run) s = .next u ∧ u = { s with lanes := u.lanes } ∧
      (lane u n).sets = (lane s n).sets + run ∧ (lane u n).mask = mask ∧ (lane u n).st = (lane s n).st ∧
      (lane u n).rate = (lane s n).rate ∧ (∀ m, m ≠ n → lane u m = lane s m)) ∧
  (∀ (n t : Nat) (s : State), isSuarn s n = true → lanesPowered s = true → (lane s n).st = .align → (lane s n).sets = 1024 →
    (lane s n).maskRun = 64 → commonRate s n = (lane s n).rate → ((lane s n).step = none ∨ (lane s n).switched = true) →
    fomUp s n = true → (lane s n).acq = false →
    ∃ u, exec (.laneUp n t) s = .next u ∧
      u = { s with c := u.c, regs := u.regs, evt := u.evt, tmb := { s.tmb with lanes := u.tmb.lanes }, lanes := u.lanes, queues := u.queues } ∧
      (lane u n).st = .up ∧ (lane u n).rate = (lane s n).rate ∧ (lane u n).lk = { mgmt := (lane s n).lk.mgmt } ∧
      (∀ m, m ≠ n → lane u m = lane s m) ∧ (∀ m, m ≠ n → tlane u m = tlane s m) ∧ SameRegs [pgIrq .lnk n] s u) ∧
  (∀ (n t : Nat) (s : State), isSuarn s n = true → lanesPowered s = true → (lane s n).st = .align → (lane s n).sets = 1024 →
    (lane s n).maskRun = 64 → commonRate s n ≠ (lane s n).rate → (lane s n).switched = true → fomUp s n = true →
    (lane s n).acq = false →
    ∃ u, exec (.laneUp n t) s = .next u ∧
      u = { s with c := u.c, regs := u.regs, evt := u.evt, tmb := { s.tmb with lanes := u.tmb.lanes }, lanes := u.lanes, queues := u.queues, mem := u.mem, rtePath := u.rtePath, twn := u.twn, hst := u.hst } ∧
      (lane u n).st = .align ∧ (lane u n).rate = (lane s n).rate ∧ (lane u n).step = some (commonRate s n) ∧
      (lane u n).switched = false ∧ u.mem.words = s.mem.words ∧
      (∀ m, m ≠ n → (lane u m).st = (lane s m).st ∧ (lane u m).rate = (lane s m).rate)) ∧
  (∀ (n r sent : Nat) (s : State), isSuarn s n = true → linkLive s = true → (lane s n).step = some r →
    (lane s n).switched = false → (lane s n).stepRx = 64 → 64 ≤ sent →
    ∃ u, exec (.rateStepSwitch ⟨n, sent⟩) s = .next u ∧ u = { s with regs := u.regs, evt := u.evt, lanes := u.lanes } ∧
      (lane u n).rate = r ∧ (lane u n).switched = true ∧ (lane u n).sets = 0 ∧ (∀ m, m ≠ n → lane u m = lane s m) ∧
      SameRegs [lnkReg n 0x2C, pgIrq .lnk n] s u)

/-- Lane quality and failed rates (R307, R312 to R315): an expired entry leaves the fail mask, CLRFAIL empties it; an
acquisition that ends leaves FOM and, unless frozen, the CTLE code of the highest FOM, the lowest on a tie; a lane that was
bad long enough degrades and one that was clean long enough recovers, without the arrival it had recorded (R308). Test
patterns on a lane (R317, R318): INJECT arms one bit; enabling the checker zeroes its counts and drops its lock; the enabled
checker locks when the last 64 bits were each predicted, not otherwise; a locked one unlocks after more than 256 errors in
4096 bits, with the errors and bits of its last stretch counted, and at no fewer. What log entry 41 names in this is the
model's choice or reading. -/
def Obligations.LaneQualityAndPatterns : Prop :=
  (∀ (n c : Nat) (s : State), n < 8 → live s = true → tget 0 (lane s n).failAt c + 3600 * tauHz ≤ 256 * s.c →
    ∃ u, exec (.failmaskExpire n c) s = .next u ∧ (lane u n).fail = (lane s n).fail &&& (127 ^^^ 2 ^ c) ∧
      u = { s with regs := u.regs, evt := u.evt, lanes := u.lanes, queues := u.queues, mem := u.mem, rtePath := u.rtePath, twn := u.twn, hst := u.hst } ∧
      (∀ m, m ≠ n → (lane u m).st = (lane s m).st ∧ (lane u m).rate = (lane s m).rate) ∧
      u.mem.words = s.mem.words ∧ (laneUp s n = false → u = { s with lanes := u.lanes })) ∧
  (∀ (p : Path) (n : Nat) (s : State), n < 8 → running s = true → directOk s .lnk n = true →
    ∃ u, exec (.lnClrfail p n) s = .next u ∧ (lane u n).fail = 0 ∧ u.mem.words = s.mem.words ∧
      u = { s with regs := u.regs, evt := u.evt, lanes := u.lanes, queues := u.queues, mem := u.mem, rtePath := u.rtePath, twn := u.twn, hst := u.hst }) ∧
  (∀ (n fom : Nat) (foms dfe : List Nat) (s : State), live s = true → isSuarn s n = true → (lane s n).acq = true →
    3 ≤ (lane s n).rate →
    ∃ u, exec (.eqAcquisitionDone n fom foms dfe) s = .next u ∧ u = { s with lanes := u.lanes } ∧
      (lane u n).acq = false ∧ (lane u n).fom = fom % 256 ∧ (lane u n).fomMin = fom % 256 ∧
      (lane u n).ctle = (if bit (rg s (lnkReg n 0x5C)) 0 then (lane s n).ctle else bestCtle foms) ∧
      (lane u n).st = (lane s n).st ∧ (∀ m, m ≠ n → lane u m = lane s m)) ∧
  (∀ (n : Nat) (s : State), isSuarn s n = true → live s = true → (lane s n).st = .up →
    af s (lnkReg n 0x48) 8 8 ≤ (lane s n).bad → (lane s n).bad ≠ 0 →
    ∃ u, exec (.laneDegrade n) s = .next u ∧ u = { s with regs := u.regs, evt := u.evt, lanes := u.lanes } ∧
      lane u n = { lane s n with st := .degraded, bad := 0, clean := 0, deg := 0 } ∧ (∀ m, m ≠ n → lane u m = lane s m) ∧
      rg u (lnkReg n 0x28) = word (satAdd 32 (rg s (lnkReg n 0x28)).toNat 1) ∧
      rg u (pgIrq .lnk n) = rg s (pgIrq .lnk n) ||| 5#32 ∧ SameRegs [lnkReg n 0x28, pgIrq .lnk n] s u) ∧
  (∀ (n : Nat) (s : State), isSuarn s n = true → live s = true → (lane s n).st = .degraded → 256 ≤ (lane s n).clean →
    fomUp s n = true →
    ∃ u, exec (.laneRecover n) s = .next u ∧
      u = { s with regs := u.regs, evt := u.evt, tmb := { s.tmb with lanes := u.tmb.lanes }, lanes := u.lanes } ∧
      tlane u n = { tlane s n with arr := none } ∧ (∀ m, m ≠ n → tlane u m = tlane s m) ∧
      lane u n = { lane s n with st := .up, bad := 0, clean := 0, deg := 0 } ∧ (∀ m, m ≠ n → lane u m = lane s m) ∧
      SameRegs [pgIrq .lnk n] s u) ∧
  (∀ (p : Path) (n : Nat) (s : State), n < 8 → running s = true → directOk s .lnk n = true →
    ∃ u, exec (.prbsInject p n) s = .next u ∧ u = { s with regs := u.regs, evt := u.evt, lanes := u.lanes } ∧
      (lane u n).inject = true ∧ (lane u n).st = (lane s n).st ∧ (∀ m, m ≠ n → lane u m = lane s m)) ∧
  (∀ (p : Path) (n : Nat) (s : State), n < 8 → running s = true → directOk s .lnk n = true →
    bit (rg s (lnkReg n 0x60)) 5 = false →
    ∃ u, exec (.prbsChkEnable p n) s = .next u ∧ u = { s with regs := u.regs, evt := u.evt, lanes := u.lanes } ∧
      rg u (lnkReg n 0x64) = 0 ∧ (lane u n).prbsBits = 0 ∧ (lane u n).prbsLock = false ∧
      bit (rg u (lnkReg n 0x60)) 5 = true ∧ (∀ m, m ≠ n → lane u m = lane s m)) ∧
  (∀ (n : Nat) (rx : List Bool) (s : State), prbsOn s n = true → live s = true → bit (rg s (lnkReg n 0x60)) 5 = true →
    prbsPredicts s n 64 rx = true →
    ∃ u, exec (.prbsCheckerLock ⟨n, rx⟩) s = .next u ∧ u = { s with lanes := u.lanes } ∧
      lane u n = { lane s n with prbsLock := true } ∧ (∀ m, m ≠ n → lane u m = lane s m)) ∧
  (∀ (n : Nat) (rx : List Bool) (s : State), bit (rg s (lnkReg n 0x60)) 5 = false ∨ prbsPredicts s n 64 rx = false →
    exec (.prbsCheckerLock ⟨n, rx⟩) s = .next s) ∧
  (∀ (n win errs bits : Nat) (s : State), prbsOn s n = true → live s = true → (lane s n).prbsLock = true → 256 < win →
    ∃ u, exec (.prbsCheckerUnlock ⟨n, win, errs, bits⟩) s = .next u ∧ u = { s with regs := u.regs, evt := u.evt, lanes := u.lanes } ∧
      lane u n = { lane s n with prbsLock := false, prbsBits := ((lane s n).prbsBits + bits) % 2 ^ 64 } ∧
      (∀ m, m ≠ n → lane u m = lane s m) ∧ rg u (lnkReg n 0x64) = word (satAdd 32 (rg s (lnkReg n 0x64)).toNat errs) ∧
      SameRegs [lnkReg n 0x64, pgIrq .lnk n] s u) ∧
  (∀ (n win errs bits : Nat) (s : State), win ≤ 256 → exec (.prbsCheckerUnlock ⟨n, win, errs, bits⟩) s = .next s)

/-- Acknowledgement and errors on a link (R328 to R331): the ACK timer queues one ACK with nothing left to acknowledge; a
repeat asks again for the expected LSEQ; a CRC error is counted and, of a sequenced packet, asked for once; the expected
packet is counted and waits for its acknowledgement; one already accepted is only acknowledged again; a gap is not accepted; a
packet whose LEN is out of range (R324) is discarded and counted. -/
def Obligations.LinkAcknowledgement : Prop :=
  (∀ (n : Nat) (s : State), linkLive s = true → n < 8 → laneUp s n = true → 0 < (lane s n).lk.acc →
    ∃ u, exec (.ackTimer n) s = .next u ∧ u = { s with lanes := u.lanes } ∧
      lane u n = { lane s n with lk := { (lane s n).lk with acc := 0, ctl := (lane s n).lk.ctl ++ [{ ty := 6, lane := n, origin := origin }] } } ∧
      (∀ m, m ≠ n → lane u m = lane s m)) ∧
  (∀ (n : Nat) (s : State), linkLive s = true → n < 8 → laneUp s n = true → (lane s n).lk.nak = some (lane s n).lk.e →
    ∃ u, exec (.nakRepeat n) s = .next u ∧ u = { s with lanes := u.lanes } ∧
      lane u n = { lane s n with lk := { (lane s n).lk with ctl := (lane s n).lk.ctl ++ [{ ty := 7, lane := n, origin := origin, body := [3] }] } } ∧
      (∀ m, m ≠ n → lane u m = lane s m)) ∧
  (∀ (n : Nat) (s : State), linkLive s = true → n < 8 → laneUp s n = true →
    exec (.packetCrcDiscard n false) s = .next (bump (lnkReg n 0x30) 1 s)) ∧
  (∀ (n : Nat) (s : State), linkLive s = true → n < 8 → laneUp s n = true → (lane s n).lk.nak ≠ some (lane s n).lk.e →
    ∃ u, exec (.packetCrcDiscard n true) s = .next u ∧ u = { s with regs := u.regs, lanes := u.lanes } ∧
      (lane u n).lk.nak = some (lane s n).lk.e ∧ (lane u n).lk.e = (lane s n).lk.e ∧ (lane u n).lk.acc = (lane s n).lk.acc ∧
      (∀ m, m ≠ n → lane u m = lane s m) ∧ rg u (lnkReg n 0x30) = word (satAdd 32 (rg s (lnkReg n 0x30)).toNat 1) ∧
      SameRegs [lnkReg n 0x30] s u) ∧
  (∀ (n : Nat) (pk : Pkt) (s : State), rxOk s n = true → pk.ty = 1 → (lane s n).lk.e < 65536 → pk.lseq = (lane s n).lk.e →
    lenOk pk = true → lanePort s n = none → (lane s n).lk.acc + 1 < af s (lnkReg n 0x100) 0 8 →
    ∃ u, exec (.stookPacketReceive n pk) s = .next u ∧ u = { s with regs := u.regs, evt := u.evt, lanes := u.lanes } ∧
      lane u n = { lane s n with lk := { (lane s n).lk with e := ((lane s n).lk.e + 1) % 65536, acc := (lane s n).lk.acc + 1, nak := none, freeS := (lane s n).lk.freeS + pktCost pk } } ∧
      (∀ m, m ≠ n → lane u m = lane s m) ∧ rg u (lnkReg n 0x3C) = word (satAdd 32 (rg s (lnkReg n 0x3C)).toNat 1) ∧
      SameRegs [lnkReg n 0x3C, pgIrq .lnk n] s u) ∧
  (∀ (n i : Nat) (pk : Pkt) (s : State), rxOk s n = true → pk.ty = 1 → (lane s n).lk.e < 65536 → pk.lseq = (lane s n).lk.e →
    lenOk pk = true → lanePort s n = some i →
    ∃ u, exec (.stookPacketReceive n pk) s = .next u ∧
      u = { s with regs := u.regs, evt := u.evt, lanes := u.lanes, queues := u.queues, mem := { s.mem with rel := u.mem.rel } } ∧
      (lane u n).lk.e = ((lane s n).lk.e + 1) % 65536 ∧ (lane u n).lk.freeS = (lane s n).lk.freeS + pktCost pk ∧
      (∀ m, m ≠ n → lane u m = lane s m) ∧ (∀ q, q ≠ portQueue s i → queue u q = queue s q)) ∧
  (∀ (n : Nat) (pk : Pkt) (s : State), rxOk s n = true → pk.ty = 1 → lenOk pk = true →
    61440 ≤ (pk.lseq + 65536 - (lane s n).lk.e % 65536) % 65536 →
    ∃ u, exec (.stookPacketReceive n pk) s = .next u ∧ u = { s with lanes := u.lanes } ∧
      (lane u n).lk.e = (lane s n).lk.e ∧ (lane u n).lk.acc = 0 ∧ (lane u n).lk.freeS = (lane s n).lk.freeS ∧
      (∀ m, m ≠ n → lane u m = lane s m)) ∧
  (∀ (n : Nat) (pk : Pkt) (s : State), rxOk s n = true → pk.ty = 1 → lenOk pk = true →
    (pk.lseq + 65536 - (lane s n).lk.e % 65536) % 65536 ≠ 0 → (pk.lseq + 65536 - (lane s n).lk.e % 65536) % 65536 < 4096 →
    ∃ u, exec (.stookPacketReceive n pk) s = .next u ∧ u = { s with lanes := u.lanes } ∧
      (lane u n).lk.e = (lane s n).lk.e ∧ (lane u n).lk.nak = some (lane s n).lk.e ∧ (∀ m, m ≠ n → lane u m = lane s m)) ∧
  (∀ (n : Nat) (pk : Pkt) (s : State), rxOk s n = true → pk.ty = 1 → lenOk pk = false →
    exec (.stookPacketReceive n pk) s = .next (bump (lnkReg n 0x30) 1 s))

/-- Link status received (R328 to R331, R333, R334, R339): limits and PATH are taken; packets up to ACKSEQ leave the list of
the unacknowledged; a NAK and a timeout go back to the packet they name; an IDLE packet rests the keepalive. The transmit
order's first two places (R336): a waiting control packet goes before all else and carries the link status of that moment, a
TIME packet (R206) the departure and the arrival known by then; a perturbed lane (R426) spoils the CRC of every PARAM-th
packet; with nothing to send and no PATH the wire is idle. What log entry 193 names in this is the model's choice or reading.
-/
def Obligations.LinkStatusAndTransmit : Prop :=
  (∀ (n : Nat) (k : LinkSt) (s : State), rxOk s n = true → (lane s n).lk.un = [] → k.path = (lane s n).lk.peerPath →
    ∃ u, exec (.ackReceive n k) s = .next u ∧ u = { s with lanes := u.lanes } ∧
      lane u n = { lane s n with lk := { (lane s n).lk with limS := k.climS % 65536, limP := k.climP % 65536, unlim := k.unlimS } } ∧
      (∀ m, m ≠ n → lane u m = lane s m)) ∧
  (∀ (n : Nat) (k : LinkSt) (s : State), rxOk s n = true → k.path = (lane s n).lk.peerPath →
    ∃ u, exec (.ackReceive n k) s = .next u ∧
      (lane u n).lk.un = (lane s n).lk.un.dropWhile (fun r => decide ((k.ackseq % 65536 + 65536 - r.pk.lseq % 65536) % 65536 < 32768)) ∧ (lane u n).st = (lane s n).st ∧
      (lane u n).lk.tx = (lane s n).lk.tx ∧ u.mem.words = s.mem.words ∧
      u = { s with regs := u.regs, evt := u.evt, lanes := u.lanes, queues := u.queues, mem := u.mem, rtePath := u.rtePath, flight := u.flight, compl := u.compl }) ∧
  (∀ (n : Nat) (k : LinkSt) (s : State), rxOk s n = true → (lane s n).lk.un = [] → k.path ≠ (lane s n).lk.peerPath →
    ∃ u, exec (.ackReceive n k) s = .next u ∧ (lane u n).lk.peerPath = k.path ∧ (lane u n).lk.limS = k.climS % 65536 ∧
      (lane u n).lk.limP = k.climP % 65536 ∧ (lane u n).lk.unlim = k.unlimS ∧ (lane u n).st = (lane s n).st ∧
      bit (rg u (pgIrq .lnk n)) 10 = true ∧ u.mem.words = s.mem.words ∧
      u = { s with regs := u.regs, evt := u.evt, lanes := u.lanes, queues := u.queues, mem := u.mem, rtePath := u.rtePath, flight := u.flight, compl := u.compl }) ∧
  (∀ (n : Nat) (k : LinkSt) (s : State), rxOk s n = true → (lane s n).lk.un = [] → k.path = (lane s n).lk.peerPath →
    ∃ u, exec (.idlePacketReceive n k) s = .next u ∧ u = { s with lanes := u.lanes } ∧
      lane u n = { lane s n with lk := { (lane s n).lk with ka := 0, gotIdle := true, limS := k.climS % 65536, limP := k.climP % 65536, unlim := k.unlimS } } ∧
      (∀ m, m ≠ n → lane u m = lane s m)) ∧
  (∀ (n : Nat) (k : LinkSt) (r : TxRec) (l : List TxRec) (s : State), rxOk s n = true →
    (lane s n).lk.un.dropWhile (fun x => decide ((k.ackseq % 65536 + 65536 - x.pk.lseq % 65536) % 65536 < 32768)) = r :: l →
    k.path = (lane s n).lk.peerPath → r.pk.lseq = (k.ackseq + 1) % 65536 →
    ((lane s n).lk.goback = false ∨ ∀ x ∈ l, x.pk.lseq ≠ (lane s n).lk.backFrom) →
    ∃ u, exec (.nakReceive n k) s = .next u ∧ (lane u n).lk.un = [] ∧ (lane u n).lk.tx = r.pk.lseq ∧
      (lane u n).lk.goback = true ∧ (lane u n).lk.backs = (if (lane s n).lk.un = r :: l then (lane s n).lk.backs else 0) + 1 ∧ (lane u n).st = (lane s n).st ∧
      rg u (lnkReg n 0x34) = word (satAdd 32 (rg s (lnkReg n 0x34)).toNat 1) ∧
      u.mem.words = s.mem.words ∧
      u = { s with regs := u.regs, evt := u.evt, lanes := u.lanes, queues := u.queues, mem := u.mem, flight := u.flight, compl := u.compl }) ∧
  (∀ (n t : Nat) (r : TxRec) (l : List TxRec) (s : State), rxOk s n = true → (lane s n).lk.un = r :: l → r.at_ + rtoTau s n ≤ t →
    ∃ u, exec (.retxTimeout n t) s = .next u ∧ (lane u n).lk.un = [] ∧ (lane u n).lk.tx = r.pk.lseq ∧
      (lane u n).lk.goback = true ∧ (lane u n).st = (lane s n).st ∧
      rg u (lnkReg n 0x34) = word (satAdd 32 (rg s (lnkReg n 0x34)).toNat 1) ∧
      u = { s with c := u.c, regs := u.regs, evt := u.evt, lanes := u.lanes, queues := u.queues }) ∧
  (∀ (n t : Nat) (r : TxRec) (l : List TxRec) (s : State), (lane s n).lk.un = r :: l → t < r.at_ + rtoTau s n →
    exec (.retxTimeout n t) s = .next s) ∧
  (∀ (n t : Nat) (ecc : List MemErr) (p : Pkt) (r : List Pkt) (s : State), rxOk s n = true → (lane s n).lk.ctl = p :: r →
    (p.ty = 6 ∨ p.ty = 7 ∨ p.ty = 8) → pertOn s .lnk n 2 = false → pertOn s .lnk n 4 = false →
    ∃ u, exec (.packetTransmit n t ecc) s = .next u ∧ u = { s with c := u.c, lanes := u.lanes } ∧
      (lane u n).lk.ctl = r ∧ (lane u n).lk.acc = 0 ∧ (lane u n).lk.cur = some { p with body := statusBytes s n (byteAt p.body 0) } ∧
      (lane u n).lk.tx = (lane s n).lk.tx ∧ (lane u n).lk.un = (lane s n).lk.un ∧ (∀ m, m ≠ n → lane u m = lane s m)) ∧
  (∀ (n t : Nat) (ecc : List MemErr) (p : Pkt) (r : List Pkt) (s : State), rxOk s n = true → (lane s n).lk.ctl = p :: r → p.ty = 3 →
    pertOn s .lnk n 2 = false → pertOn s .lnk n 4 = false →
    ∃ u, exec (.packetTransmit n t ecc) s = .next u ∧
      u = { s with c := u.c, lanes := u.lanes, tmb := { s.tmb with lanes := u.tmb.lanes } } ∧
      (lane u n).lk.cur = some { p with body := timeBody u n } ∧ (lane u n).lk.ctl = r ∧ (∀ m, m ≠ n → lane u m = lane s m) ∧
      (∀ m, m ≠ n → tlane u m = tlane s m)) ∧
  (∀ (n t : Nat) (ecc : List MemErr) (p : Pkt) (r : List Pkt) (s : State), rxOk s n = true → (lane s n).lk.ctl = p :: r →
    p.ty = 4 → pertOn s .lnk n 2 = false → pertOn s .lnk n 4 = false →
    ∃ u, exec (.packetTransmit n t ecc) s = .next u ∧
      u = { s with c := u.c, lanes := u.lanes, twn := { s.twn with out := true, goOut := s.twn.goOut || s.twn.go } } ∧
      (lane u n).lk.cur = some p ∧ (lane u n).lk.ctl = r ∧ (lane u n).lk.acc = (lane s n).lk.acc ∧ (∀ m, m ≠ n → lane u m = lane s m)) ∧
  (∀ (n t : Nat) (ecc : List MemErr) (p : Pkt) (r : List Pkt) (s : State), rxOk s n = true → (lane s n).lk.ctl = p :: r →
    p.ty ≠ 3 → p.ty ≠ 4 → p.ty ≠ 6 → p.ty ≠ 7 → p.ty ≠ 8 → pertOn s .lnk n 2 = true →
    ∃ u, exec (.packetTransmit n t ecc) s = .next u ∧ u = { s with c := u.c, lanes := u.lanes } ∧
      (lane u n).lk.cur = some { p with bad := decide (pertArg s .lnk n ≤ (lane s n).lk.pert + 1) } ∧ (lane u n).lk.ctl = r ∧
      (∀ m, m ≠ n → lane u m = lane s m)) ∧
  (∀ (n t : Nat) (ecc : List MemErr) (p : Pkt) (r : List Pkt) (s : State), rxOk s n = true → (lane s n).lk.ctl = p :: r →
    p.ty ≠ 3 → p.ty ≠ 4 → p.ty ≠ 6 → p.ty ≠ 7 → p.ty ≠ 8 → pertOn s .lnk n 2 = false → pertOn s .lnk n 4 = false →
    ∃ u, exec (.packetTransmit n t ecc) s = .next u ∧ u = { s with c := u.c, lanes := u.lanes } ∧
      (lane u n).lk.cur = some p ∧ (lane u n).lk.ctl = r ∧ (lane u n).lk.acc = (lane s n).lk.acc ∧ (∀ m, m ≠ n → lane u m = lane s m)) ∧
  (∀ (n t : Nat) (ecc : List MemErr) (s : State), rxOk s n = true → (lane s n).lk.ctl = [] → (lane s n).lk.again = [] →
    (lane s n).lk.trigs = [] → (lane s n).lk.peerPath = false →
    ∃ u, exec (.packetTransmit n t ecc) s = .next u ∧ u = { s with c := u.c, lanes := u.lanes } ∧
      lane u n = { lane s n with lk := { (lane s n).lk with cur := none } } ∧ (∀ m, m ≠ n → lane u m = lane s m))

/-- MGMT packets at their destination (R99, R327, R329, R330): a command waits for the firmware; a register read has the
effect of its reads and answers with a reply and the words; a register write has the effect of its writes and answers with a
reply; a reserved MTYPE is counted as unrouted. EVENT packets (R99): one is queued on each uplink that carries packets, in a
later frame than the page became pending in, and again after the repeat interval while a routed page stays pending. What log
entries 54 and 128 name in this is the model's choice or reading. -/
def Obligations.ManagementTraffic : Prop :=
  (∀ (n : Nat) (pk : Pkt) (s : State), rxOk s n = true → pk.ty = 2 → lenOk pk = true → mType pk = 1 → (lane s n).lk.e < 65536 →
    pk.lseq = (lane s n).lk.e → lanePort s n = none → (pk.dest = 0 ∨ pk.dest = origin) → mgmtPath s = true →
    bit (rg s (lnkReg n 0x100)) 24 = true →
    ∃ u, exec (.mgmtCommandReceive n pk) s = .next u ∧ u = { s with lanes := u.lanes, hst := u.hst } ∧
      u.hst = { s.hst with mbox := s.hst.mbox ++ [(n, mToken pk, pk.origin, pk.body.drop 8)] } ∧
      (lane u n).lk.e = ((lane s n).lk.e + 1) % 65536 ∧ (lane u n).lk.freeP = (lane s n).lk.freeP ∧ (∀ m, m ≠ n → lane u m = lane s m)) ∧
  (∀ (n : Nat) (pk : Pkt) (s : State), rxOk s n = true → pk.ty = 2 → lenOk pk = true → mType pk = 3 → (lane s n).lk.e < 65536 →
    pk.lseq = (lane s n).lk.e → lanePort s n = none → pk.dest = 0 → mgmtPath s = true →
    bit (rg s (lnkReg n 0x100)) 24 = true → mAddr pk = 0x3040 → mCount pk = 1 →
    ∃ u, exec (.mgmtRegRead n pk []) s = .next u ∧ u = { s with lanes := u.lanes, rd := [rg s 0x3040] } ∧
      (lane u n).lk.e = ((lane s n).lk.e + 1) % 65536 ∧ (lane u n).lk.freeP = (lane s n).lk.freeP + pktCost pk ∧
      ∃ p ∈ (lane u (replyLane s n)).lk.mgmt, p.body = leBytes 1 5 ++ leBytes 1 0 ++ leBytes 2 1 ++ leBytes 4 (mToken pk) ++ leBytes 4 0x3040 ++ leBytes 4 (rg s 0x3040).toNat) ∧
  (∀ (n : Nat) (pk : Pkt) (hits : List (Nat × MemHit)) (s : State), rxOk s n = true → pk.ty = 2 → lenOk pk = true → mType pk = 3 →
    (lane s n).lk.e < 65536 → pk.lseq = (lane s n).lk.e → lanePort s n = none → pk.dest = 0 → mgmtPath s = true →
    bit (rg s (lnkReg n 0x100)) 24 = true → regBad pk false = false →
    ∃ u, exec (.mgmtRegRead n pk hits) s = .next u ∧
      u.rd = (readBurst (.mgmt n) (mAddr pk) (mgmtHits hits) (mCount pk) 0 (lseqTaken n s)).1 ∧
      u = { (readBurst (.mgmt n) (mAddr pk) (mgmtHits hits) (mCount pk) 0 (lseqTaken n s)).2 with lanes := u.lanes, rd := u.rd } ∧
      (∀ m, (lane u m).st = (lane s m).st ∧ (lane u m).lk.un = (lane s m).lk.un) ∧
      ∃ p ∈ (lane u (replyLane s n)).lk.mgmt, p.body = leBytes 1 5 ++ leBytes 1 0 ++ leBytes 2 (mCount pk) ++ leBytes 4 (mToken pk) ++ leBytes 4 (mAddr pk) ++ wordBytes u.rd) ∧
  (∀ (n : Nat) (pk : Pkt) (hits : List (Nat × MemHit)) (s : State), rxOk s n = true → pk.ty = 2 → lenOk pk = true → mType pk = 4 →
    (lane s n).lk.e < 65536 → pk.lseq = (lane s n).lk.e → lanePort s n = none → pk.dest = 0 → mgmtPath s = true →
    bit (rg s (lnkReg n 0x100)) 24 = true → regBad pk true = false →
    ∃ u, exec (.mgmtRegWrite n pk hits) s = .next u ∧
      u = { wordsWritten n pk hits s with lanes := u.lanes } ∧
      ∃ p ∈ (lane u (replyLane (wordsWritten n pk hits s) n)).lk.mgmt, p.body = leBytes 1 5 ++ leBytes 1 0 ++ leBytes 2 (mCount pk) ++ leBytes 4 (mToken pk) ++ leBytes 4 (mAddr pk)) ∧
  (∀ (n : Nat) (pk : Pkt) (s : State), rxOk s n = true → pk.ty = 2 → lenOk pk = true → mType pk = 4 → (lane s n).lk.e < 65536 →
    pk.lseq = (lane s n).lk.e → lanePort s n = none → pk.dest = 0 → mgmtPath s = true →
    bit (rg s (lnkReg n 0x100)) 24 = true → mAddr pk = 0x108 → mCount pk = 1 → 16 ≤ pk.body.length →
    ∃ u, exec (.mgmtRegWrite n pk []) s = .next u ∧ u = { s with regs := u.regs, lanes := u.lanes } ∧
      SameRegs [0x108] s u ∧ (lane u n).lk.e = ((lane s n).lk.e + 1) % 65536 ∧
      ∃ p ∈ (lane u (replyLane s n)).lk.mgmt, p.body = leBytes 1 5 ++ leBytes 1 0 ++ leBytes 2 1 ++ leBytes 4 (mToken pk) ++ leBytes 4 0x108) ∧
  (∀ (n : Nat) (pk : Pkt) (s : State), rxOk s n = true → pk.ty = 2 → lenOk pk = true → (mType pk = 0 ∨ 7 < mType pk) → (lane s n).lk.e < 65536 →
    pk.lseq = (lane s n).lk.e → lanePort s n = none → pk.dest = 0 → mgmtPath s = true →
    bit (rg s (lnkReg n 0x100)) 24 = true → (lane s n).lk.acc + 1 < af s (lnkReg n 0x100) 0 8 →
    ∃ u, exec (.mgmtReservedDiscard n pk) s = .next u ∧ u = { s with regs := u.regs, evt := u.evt, lanes := u.lanes } ∧
      rg u (lnkReg n 0x3C) = word (satAdd 32 (rg s (lnkReg n 0x3C)).toNat 1) ∧ SameRegs [lnkReg n 0x3C, pgIrq .lnk n] s u ∧
      (lane u n).lk.e = ((lane s n).lk.e + 1) % 65536 ∧ (lane u n).lk.freeP = (lane s n).lk.freeP + pktCost pk ∧ (∀ m, m ≠ n → lane u m = lane s m)) ∧
  (∀ (n : Nat) (pk : Pkt) (hits : List (Nat × MemHit)) (s : State), rxOk s n = true → lenOk pk = true →
    (pk.ty = 1 → exec (.sequencedPacketAccept n pk hits) s = exec (.stookPacketReceive n pk) s) ∧
    (pk.ty = 2 → mType pk = 3 → exec (.sequencedPacketAccept n pk hits) s = exec (.mgmtRegRead n pk hits) s) ∧
    (pk.ty = 2 → mType pk = 4 → exec (.sequencedPacketAccept n pk hits) s = exec (.mgmtRegWrite n pk hits) s) ∧
    (pk.ty = 3 → exec (.sequencedPacketAccept n pk hits) s = .next s) ∧
    (pk.ty = 0 ∨ 8 < pk.ty → exec (.sequencedPacketAccept n pk hits) s = .next (bump (lnkReg n 0x30) 1 s))) ∧
  (∀ (n : Nat) (pk : Pkt) (s : State), rxOk s n = true → pk.ty = 2 → lenOk pk = true → (lane s n).lk.e < 65536 → pk.lseq = (lane s n).lk.e →
    lanePort s n = none → pk.dest = 0 → mType pk = 6 → mgmtPath s = true → bit (rg s (lnkReg n 0x100)) 24 = true →
    (lane s n).lk.acc + 1 < af s (lnkReg n 0x100) 0 8 →
    ∃ u, exec (.sequencedPacketAccept n pk []) s = .next u ∧ u = { s with lanes := u.lanes } ∧
      lane u n = { lane s n with lk := { (lane s n).lk with e := ((lane s n).lk.e + 1) % 65536, acc := (lane s n).lk.acc + 1, nak := none, freeP := (lane s n).lk.freeP + pktCost pk } }) ∧
  (∀ (k : Nat) (s : State), running s = true → k ∈ s.evt.due → k < s.ord → s.evt.last ≠ s.ord →
    ∃ u, exec .eventPacketSend s = .next u ∧
      u = { s with evt := { due := s.evt.due.filter (fun k => decide (s.ord ≤ k)), last := s.ord }, lanes := u.lanes } ∧
      (∀ m, lane u m = if m < 2 ∧ laneUp s m = true then
        { lane s m with lk := { (lane s m).lk with mgmt := (lane s m).lk.mgmt ++ [mgmtPkt 6 0 0 0 0 (leBytes 4 (evtSum s 0) ++ leBytes 4 (evtSum s 1) ++ leBytes 8 s.frame)] } }
        else lane s m)) ∧
  (∀ s : State, (∀ k ∈ s.evt.due, s.ord ≤ k) → exec .eventPacketSend s = .next s) ∧
  (∀ s : State, running s = true → (∀ k ∈ s.evt.due, s.ord ≤ k) → (evtSum s 0 ≠ 0 ∨ evtSum s 1 ≠ 0) →
    s.evt.last + max 1 (af s 0x118 0 16) ≤ s.ord →
    ∃ u, exec .eventRepeat s = .next u ∧ u = { s with evt := { due := s.evt.due, last := s.ord }, lanes := u.lanes } ∧
      (∀ m, lane u m = if m < 2 ∧ laneUp s m = true then
        { lane s m with lk := { (lane s m).lk with mgmt := (lane s m).lk.mgmt ++ [mgmtPkt 6 0 0 0 0 (leBytes 4 (evtSum s 0) ++ leBytes 4 (evtSum s 1) ++ leBytes 8 s.frame)] } }
        else lane s m)) ∧
  (∀ s : State, evtSum s 0 = 0 → evtSum s 1 = 0 → exec .eventRepeat s = .next s)

/-- The regulation token (R355, R356, R361): a hub that may claim takes the token with the next serial and becomes ACTIVE; one
that may not keeps its role; a release gives the token up and returns to STANDBY; at the swap frame the outgoing hub drops the
token, the incoming one takes it, and a hub without SWAPGO counts a skip. The capture memory, the channels' state machines and
the timebase do not change. What log entries 50, 51 and 52 name in this is the model's choice or reading. -/
def Obligations.RegulationToken : Prop :=
  (∀ (t : Nat) (e : Bool) (s : State), claimOk s = some e →
    ∃ u, exec (.tokenClaim t) s = .next u ∧
      u = { s with c := u.c, freeIdx := u.freeIdx, regs := u.regs, hub := { s.hub with st := .active }, evt := u.evt, chans := u.chans, excs := u.excs, auxs := u.auxs, lanes := u.lanes, twn := u.twn, bcn := u.bcn } ∧
      u.twn.token = true ∧ u.twn.serial = s.twn.maxSer + 1 ∧ u.twn.maxSer = s.twn.maxSer ∧
      rg u 0x7020 = word (satAdd 32 (rg s 0x7020).toNat 1) ∧ bit (rg u (pgIrq .twn 0)) 0 = true ∧
      (e = false → rg u 0x7030 = rg s 0x7030) ∧ (∀ g, (chan u g).st = (chan s g).st)) ∧
  (∀ (t : Nat) (s : State), claimOk s = none → ∃ u, exec (.tokenClaim t) s = .next u ∧ u.twn = s.twn ∧ u.hub = s.hub ∧
    u = { s with regs := u.regs, bcn := u.bcn }) ∧
  (∀ (t : Nat) (s : State), releaseDue s = true →
    ∃ u, exec (.tokenRelease t) s = .next u ∧
      u = { s with c := u.c, regs := u.regs, hub := { s.hub with st := if s.hub.st = .active then .standby else s.hub.st }, evt := u.evt, chans := u.chans, excs := u.excs, lanes := u.lanes, twn := u.twn, bcn := u.bcn, flight := u.flight, compl := u.compl } ∧
      u.twn.token = false ∧ u.twn.frz = some s.twn.serial ∧ u.twn.maxSer = max s.twn.maxSer s.twn.serial ∧ u.twn.next = none ∧
      rg u 0x7024 = word (satAdd 32 (rg s 0x7024).toNat 1) ∧
      (∀ g, (chan u g).st = (chan s g).st)) ∧
  (∀ (t f : Nat) (s : State), s.twn.next = some f → f ≤ s.frame → isTwin s = true → s.twn.token = true → s.twn.goOut = true →
    ∃ u, exec (.roleSwap t) s = .next u ∧ u.twn.token = false ∧ u.twn.next = none ∧ u.twn.seen = true ∧
      u.hub = { s.hub with st := if s.hub.st = .active then .standby else s.hub.st } ∧
      rg u 0x7028 = word (satAdd 32 (rg s 0x7028).toNat 1) ∧
      (∀ g, (chan u g).st = (chan s g).st) ∧
      u = { s with c := u.c, regs := u.regs, hub := u.hub, evt := u.evt, chans := u.chans, excs := u.excs, lanes := u.lanes, twn := u.twn, bcn := u.bcn, flight := u.flight, compl := u.compl }) ∧
  (∀ (t f : Nat) (s : State), s.twn.next = some f → f ≤ s.frame → isTwin s = true → s.twn.token = false → s.twn.goRx = some f →
    s.hub.st = .standby →
    ∃ u, exec (.roleSwap t) s = .next u ∧ u.twn.token = true ∧ u.twn.serial = s.twn.maxSer + 1 ∧ u.twn.next = none ∧
      u.hub = { s.hub with st := .active } ∧ rg u 0x7028 = word (satAdd 32 (rg s 0x7028).toNat 1) ∧
      (∀ g, (chan u g).st = (chan s g).st) ∧
      u = { s with c := u.c, freeIdx := u.freeIdx, regs := u.regs, hub := u.hub, evt := u.evt, chans := u.chans, excs := u.excs, auxs := u.auxs, lanes := u.lanes, twn := u.twn, bcn := u.bcn }) ∧
  (∀ (t f : Nat) (s : State), s.twn.next = some f → f ≤ s.frame → isTwin s = true → s.twn.token = true → s.twn.goOut = false →
    ∃ u, exec (.roleSwap t) s = .next u ∧ u.twn.token = true ∧ u.twn.next = none ∧ u.hub = s.hub ∧
      rg u 0x702C = word (satAdd 32 (rg s 0x702C).toNat 1) ∧
      u = { s with regs := u.regs, evt := u.evt, twn := u.twn, bcn := u.bcn, flight := u.flight, compl := u.compl })

/-- Swaps, LEASE messages and the solo conflict (R354, R359): the holder announces the swap that is near; a requested swap is
noted, a second one refused with BUSY, one of a hub without the token with ROLE; a message with an older serial is only
counted; one from a solo partner raises a conflict; the holder's message is taken with its serial and number; the conflict
ends after the lease. What log entries 185 and 186 name in this is the model's choice or reading. -/
def Obligations.LeaseMessages : Prop :=
  (∀ (f : Nat) (s : State), s.twn.token = true → s.hub.st = .active → announceNow s = some f → swapSooner s f = true →
    ∃ u, exec .swapAnnounce s = .next u ∧ u = { s with twn := u.twn, lanes := u.lanes } ∧ u.twn.next = some f ∧ u.twn.rdy = 0 ∧
      u.twn.stepped = false ∧ u.twn.token = true ∧ u.twn.serial = s.twn.serial ∧ u.twn.myNo = s.twn.myNo ∧
      (∀ m, (lane u m).st = (lane s m).st ∧ (lane u m).lk.un = (lane s m).lk.un) ∧
      (s.twn.out = true → u.lanes = s.lanes)) ∧
  (∀ (p : Path) (s : State), running s = true → directOk s .twn 0 = true → s.twn.token = true → s.twn.added = none →
    s.frame + 256 < swapAt s →
    exec (.twnSwapReq p) s = .next { s with twn := { s.twn with added := some (swapAt s) } }) ∧
  (∀ (p : Path) (s : State), running s = true → directOk s .twn 0 = true → s.twn.token = true → s.twn.added.isSome = true →
    exec (.twnSwapReq p) s = .next (pgError .twn 0 stBusy s)) ∧
  (∀ (p : Path) (s : State), running s = true → directOk s .twn 0 = true → s.twn.token = false →
    exec (.twnSwapReq p) s = .next (pgError .twn 0 stRole s)) ∧
  (∀ (n t : Nat) (m : Lease) (s : State), rxOk s n = true → n ≠ 4 → n ≠ 5 →
    exec (.leasePacketReceive n m t) s = .next (unrouted n s)) ∧
  (∀ (n t : Nat) (m : Lease) (s : State), rxOk s n = true → (n = 4 ∨ n = 5) → isTwin s = true → m.role = 1 →
    m.side ≠ s.hub.straps.twinSide → m.serial < s.twn.maxSer → (s.hub.st ≠ .standby ∨ s.cmt.epoch ≠ 0) →
    ∃ u, exec (.leasePacketReceive n m t) s = .next u ∧ u = { s with c := u.c, regs := u.regs, bcn := u.bcn } ∧
      rg u 0x7034 = word (satAdd 32 (rg s 0x7034).toNat 1)) ∧
  (∀ (n t : Nat) (m : Lease) (s : State), rxOk s n = true → (n = 4 ∨ n = 5) → isTwin s = true → m.role = 4 →
    (s.hub.st ≠ .standby ∨ s.cmt.epoch ≠ 0) →
    ∃ u, exec (.leasePacketReceive n m t) s = .next u ∧
      u = { s with c := u.c, regs := u.regs, evt := u.evt, twn := u.twn, bcn := u.bcn } ∧
      u.twn.confSolo = true ∧ u.twn.soloAge = 0 ∧ u.twn.heard = true ∧ u.twn.prole = 4 ∧
      u.twn.relDue = (s.twn.relDue || s.twn.token) ∧ bit (rg u (pgIrq .twn 0)) 4 = true) ∧
  (∀ (n t : Nat) (m : Lease) (s : State), rxOk s n = true → (n = 4 ∨ n = 5) → isTwin s = true → m.role = 1 →
    m.side ≠ s.hub.straps.twinSide → s.twn.maxSer < m.serial → s.twn.token = false → m.outs = [] →
    (s.hub.st ≠ .standby ∨ s.cmt.epoch ≠ 0) →
    ∃ u, exec (.leasePacketReceive n m t) s = .next u ∧
      u = { s with c := u.c, regs := u.regs, evt := u.evt, twn := u.twn, bcn := u.bcn } ∧
      u.twn.maxSer = m.serial ∧ u.twn.lastNo = m.msgno % 65536 ∧ u.twn.seen = true ∧ u.twn.hage = 0 ∧ u.twn.page = 0 ∧
      u.twn.hepoch = m.epoch ∧ u.twn.next = (if m.swapfr = 0 then none else some m.swapfr) ∧ u.twn.token = false) ∧
  (∀ s : State, s.twn.confSolo = true → leaseLen s ≤ s.twn.soloAge →
    exec .confSoloClear s = .next { s with twn := { s.twn with confSolo := false } })

/-- Resync (R363 to R366): a standby hub that is asked to enters RESYNC, opens the firmware's session and asks its partner for
the image; ABORT abandons the session and returns to STANDBY; phases 3, 6 and 7 end when their condition holds and wait while
it does not, the last one counted and followed by STANDBY; a failure is recorded with its status, abandons the session and is
tried again when 1024 frames have run down. What log entries 88 and 100 name in this is the model's choice or reading. -/
def Obligations.Resynchronisation : Prop :=
  (∀ (p : Path) (s : State), running s = true → directOk s .twn 0 = true → isTwin s = true → s.hub.st = .standby →
    s.cmt.st = .closed →
    ∃ u, exec (.twnResyncReq p) s = .next u ∧
      u = { s with regs := u.regs, evt := u.evt, mem := { s.mem with rel := u.mem.rel }, staged := [], hub := { s.hub with st := .resync }, cmt := u.cmt, lanes := u.lanes, twn := u.twn, hst := { s.hst with img := none, loading := false } } ∧
      u.cmt.owner = .firmware ∧ u.cmt.st = .open_ ∧ u.cmt.serial = (s.cmt.serial + 1) % 65536 ∧
      u.twn.ph = 1 ∧ u.twn.att = s.twn.att + 1 ∧
      (lane u (twinLane s)).lk.mgmt = (lane s (twinLane s)).lk.mgmt ++ [mgmtPkt 1 0 0 0 s.twn.porigin saveRequest] ∧
      (∀ m, m ≠ twinLane s → lane u m = lane s m) ∧ SameRegs [pgIrq .mem 0] s u) ∧
  (∀ (p : Path) (s : State), running s = true → directOk s .twn 0 = true → s.hub.st = .resync → s.cmt.owner ≠ .firmware →
    ∃ u, exec (.twnAbort p) s = .next u ∧
      u = { s with regs := u.regs, evt := u.evt, mem := { s.mem with rel := u.mem.rel }, hub := { s.hub with st := .standby }, twn := { s.twn with ph := 0, idle := 0, retry := none, bad := none, imgOk := false } } ∧
      SameRegs [pgIrq .mem 0] s u) ∧
  (∀ (p : Path) (s : State), running s = true → directOk s .twn 0 = true → s.hub.st = .resync → s.cmt.owner = .firmware →
    ∃ u, exec (.twnAbort p) s = .next u ∧ u.cmt.st = .closed ∧ u.cmt.owner = .none ∧ u.staged = [] ∧
      u = { s with regs := u.regs, evt := u.evt, staged := [], cmt := u.cmt, mem := { s.mem with rel := u.mem.rel }, flight := u.flight, compl := u.compl, hub := { s.hub with st := .standby }, twn := { s.twn with ph := 0, idle := 0, retry := none, bad := none, imgOk := false } }) ∧
  (∀ (p : Path) (s : State), running s = true → directOk s .twn 0 = true → s.hub.st ≠ .resync → exec (.twnAbort p) s = .next s) ∧
  (∀ s : State, running s = true → s.hub.st = .resync → s.twn.bad = none → s.twn.ph = 3 → s.cmt.st = .closed →
    ∃ u, exec .resyncPhaseAdvance s = .next u ∧
      u = { s with regs := u.regs, evt := u.evt, mem := { s.mem with rel := u.mem.rel }, twn := { s.twn with ph := 4, idle := 0 } } ∧
      SameRegs [pgIrq .mem 0] s u) ∧
  (∀ s : State, running s = true → s.hub.st = .resync → s.twn.bad = none → s.twn.ph = 6 → s.tmb.st = .locked →
    ∃ u, exec .resyncPhaseAdvance s = .next u ∧
      u = { s with regs := u.regs, evt := u.evt, mem := { s.mem with rel := u.mem.rel }, twn := { s.twn with ph := 7, idle := 0 } } ∧
      SameRegs [pgIrq .mem 0] s u) ∧
  (∀ s : State, running s = true → s.hub.st = .resync → s.twn.bad = none →
    ((s.twn.ph = 3 ∧ s.cmt.st ≠ .closed) ∨ (s.twn.ph = 6 ∧ s.tmb.st ≠ .locked) ∨
      (s.twn.ph = 7 ∧ ¬ ∀ g, g < 512 → bit (rg s (chCfgA g)) 0 = true → (chan s g).st ≠ .settling)) →
    ∃ u, exec .resyncPhaseAdvance s = .next u ∧ u = { s with regs := u.regs, evt := u.evt, mem := { s.mem with rel := u.mem.rel } } ∧
      SameRegs [pgIrq .mem 0] s u) ∧
  (∀ s : State, running s = true → s.hub.st = .resync → s.twn.bad = none → s.twn.ph = 7 →
    (∀ g, g < 512 → bit (rg s (chCfgA g)) 0 = true → (chan s g).st ≠ .settling) →
    ∃ u, exec .resyncPhaseAdvance s = .next u ∧
      u = { s with regs := u.regs, evt := u.evt, mem := { s.mem with rel := u.mem.rel }, hub := { s.hub with st := .standby }, twn := { s.twn with ph := 0, idle := 0, rst := 0, imgOk := false } } ∧
      rg u 0x7038 = word (satAdd 32 (rg s 0x7038).toNat 1) ∧ SameRegs [0x7038, pgIrq .twn 0, pgIrq .mem 0] s u) ∧
  (∀ (st : Nat) (s : State), s.hub.st = .resync → s.twn.ph ≠ 0 → s.twn.bad = some st → s.cmt.owner ≠ .firmware →
    ∃ u, exec .resyncFail s = .next u ∧
      u = { s with regs := u.regs, evt := u.evt, mem := { s.mem with rel := u.mem.rel }, twn := { s.twn with rst := st, ph := 0, idle := 0, retry := some 1024, bad := none, imgOk := false } } ∧
      rg u (pgIrq .twn 0) = rg s (pgIrq .twn 0) ||| 0x40#32 ∧ SameRegs [pgIrq .twn 0, pgIrq .mem 0] s u) ∧
  (∀ (st : Nat) (s : State), s.hub.st = .resync → s.twn.ph ≠ 0 → s.twn.bad = some st → s.cmt.owner = .firmware →
    ∃ u, exec .resyncFail s = .next u ∧ u.cmt.st = .closed ∧ u.cmt.owner = .none ∧ u.staged = [] ∧
      u.twn = { s.twn with rst := st, ph := 0, idle := 0, retry := some 1024, bad := none, imgOk := false } ∧
      u = { s with regs := u.regs, evt := u.evt, staged := [], cmt := u.cmt, mem := { s.mem with rel := u.mem.rel }, twn := u.twn, flight := u.flight, compl := u.compl }) ∧
  (∀ s : State, running s = true → s.hub.st = .resync → s.twn.retry = some 0 → s.cmt.st = .closed →
    ∃ u, exec .resyncRetry s = .next u ∧
      u = { s with regs := u.regs, evt := u.evt, mem := { s.mem with rel := u.mem.rel }, staged := [], cmt := u.cmt, lanes := u.lanes, twn := u.twn, hst := { s.hst with img := none, loading := false } } ∧
      u.twn.ph = 1 ∧ u.twn.att = s.twn.att + 1 ∧ u.twn.retry = none ∧ u.cmt.owner = .firmware) ∧
  (∀ s : State, s.twn.retry ≠ some 0 → exec .resyncRetry s = .next s)

/-- Beacon schedules and flashes (R414): a sound schedule arms from its first flash and an unsound one is refused and
disarmed; a flash that fires lights its string for WIDTH and uses one of COUNT, one whose string is not driven is skipped; its
end puts the string out. No other string changes. What log entry 63 names in this is the model's choice or reading. -/
def Obligations.BeaconFlashes : Prop :=
  (∀ (p : Path) (m : Nat) (s : State), m < 16 → running s = true → directOk s .bcn 0 = true →
    schOk s (instRegs s (bschA m 0)) (rg s (bschA m 0x0C)).toNat (af s (bschA m 0x10) 0 24) (rg s (bschA m 0x14)).toNat = true →
    ∃ u, exec (.bcnSchArm p m) s = .next u ∧ u = { s with bcn := { s.bcn with strs := u.bcn.strs } } ∧
      bstr u m = { bstr s m with armed := true, idx := 0, late := false } ∧ (∀ k, k ≠ m → bstr u k = bstr s k)) ∧
  (∀ (p : Path) (m : Nat) (s : State), m < 16 → running s = true → directOk s .bcn 0 = true →
    schOk s (instRegs s (bschA m 0)) (rg s (bschA m 0x0C)).toNat (af s (bschA m 0x10) 0 24) (rg s (bschA m 0x14)).toNat = false →
    ∃ u, exec (.bcnSchArm p m) s = .next u ∧ u = { s with regs := u.regs, bcn := { s.bcn with strs := u.bcn.strs } } ∧
      (bstr u m).armed = false ∧ (rg s (pgErr .bcn 0) = 0 → rg u (pgErr .bcn 0) = word (2 * 2 ^ 24 ||| s.frame % 2 ^ 24)) ∧
      SameRegs [pgErr .bcn 0] s u) ∧
  (∀ (p : Path) (m : Nat) (s : State), m < 16 → running s = true → directOk s .bcn 0 = true →
    ∃ u, exec (.bcnSchDisarm p m) s = .next u ∧ u = { s with bcn := { s.bcn with strs := u.bcn.strs } } ∧
      bstr u m = { bstr s m with armed := false } ∧ (∀ k, k ≠ m → bstr u k = bstr s k)) ∧
  (∀ (m t : Nat) (s : State), live s = true → m < 16 → (bstr s m).armed = true → flashAt s m ≤ netTime s t →
    strDriven s m = true → (bstr s m).off = false → 2 ≤ (rg s (bschA m 0x14)).toNat → (rg s (bschA m 0x0C)).toNat ≠ 0 →
    ∃ u, exec (.bcnFlashOn m t) s = .next u ∧ u = { s with c := u.c, regs := u.regs, bcn := { s.bcn with strs := u.bcn.strs } } ∧
      bstr u m = { bstr s m with idx := (bstr s m).idx + 1, lit := some { flash := true, form := af s (bstrCfgA m) 16 2, t0 := t, t1 := t + af s (bschA m 0x10) 0 24 * tauHz / 100000000, target := senseTarget s m } } ∧
      rg u (bschA m 0x14) = word ((rg s (bschA m 0x14)).toNat - 1) ∧ rg u 0x8020 = word (satAdd 32 (rg s 0x8020).toNat 1) ∧
      (∀ k, k ≠ m → bstr u k = bstr s k) ∧ SameRegs [bschA m 0x14, 0x8020] s u) ∧
  (∀ (m t : Nat) (s : State), live s = true → m < 16 → (bstr s m).armed = true → flashAt s m ≤ netTime s t →
    strDriven s m = false → s.hub.st ≠ .sleep →
    ∃ u, exec (.bcnFlashOn m t) s = .next u ∧ u = { s with c := u.c, regs := u.regs, bcn := { s.bcn with strs := u.bcn.strs } } ∧
      (bstr u m).lit = (bstr s m).lit ∧ (bstr u m).idx = (bstr s m).idx + 1 ∧
      rg u 0x8024 = word (satAdd 32 (rg s 0x8024).toNat 1) ∧ (∀ k, k ≠ m → bstr u k = bstr s k) ∧
      SameRegs [bschA m 0x14, 0x8024] s u) ∧
  (∀ (m t : Nat) (l : BLit) (s : State), live s = true → (bstr s m).lit = some l → l.t1 ≤ t → s.bcn.test = none →
    ∃ u, exec (.bcnFlashOff m t) s = .next u ∧ u = { s with c := u.c, bcn := { s.bcn with strs := u.bcn.strs } } ∧
      bstr u m = { bstr s m with lit := none } ∧ (∀ k, k ≠ m → bstr u k = bstr s k))

/-- Beacon diagnosis (R406, R409 to R413): a pulse is asked for on every string of the mask; a diagnosis while one runs is
refused; the pulse lights a driven string in its slot and moves on an undriven one; a string in its range is good, a first
finding waits for a repeat and a second confirms; the adjacent-pin test marks its strings and ends; an old diagnosis lapses.
The boost's overvoltage trip and the tile chain (R407, R417, R418): a trip is counted once and stands until its release; a
shift takes the pattern of the selected buffer; a shift whose returned bits match clears the mismatches, one that differs is
counted, names the first bit and with the fourth in a row is a fault. What log entry 64 names in this is the model's choice or
reading. -/
def Obligations.BeaconDiagnosisAndChain : Prop :=
  (∀ (p : Path) (w : Word) (s : State), running s = true → directOk s .bcn 0 = true → bit w 24 = true → bit w 16 = false →
    fld w 0 16 ≠ 0 → s.bcn.test = none →
    ∃ u, exec (.bcnDiagCmdGo p w) s = .next u ∧ u = { s with bcn := u.bcn } ∧ u.bcn.test = some (fld w 0 16, false) ∧
      (∀ m, m < 16 → bstr u m = if (fld w 0 16).testBit m then { bstr s m with pulse := some (s.ord + 1, 0, true) } else bstr s m)) ∧
  (∀ (p : Path) (w : Word) (s : State), running s = true → directOk s .bcn 0 = true → bit w 24 = true →
    s.bcn.test.isSome = true → exec (.bcnDiagCmdGo p w) s = .next (pgError .bcn 0 stBusy s)) ∧
  (∀ (mask : Nat) (reads : List AdjRead) (s : State), running s = true → s.bcn.test = some (mask, true) →
    ∃ u, exec (.bcnAdjTestDone reads) s = .next u ∧
      u = { s with regs := u.regs, evt := u.evt, bcn := u.bcn, flight := u.flight, compl := u.compl } ∧ u.bcn.test = none ∧
      (∀ m, m < 16 → bstr u m = if mask.testBit m && reads.any (fun r => decide (r.m = m) && adjFails r) then { bstr s m with diag := 4 } else bstr s m) ∧
      bit (rg u (pgIrq .bcn 0)) 7 = true) ∧
  (∀ (m t due moves : Nat) (cmd : Bool) (s : State), bcnAwake s = true → m < 16 → slotAt s m ≤ netTime s t →
    (bstr s m).pulse = some (due, moves, cmd) → due ≤ s.ord → strDriven s m = true → (bstr s m).off = false →
    flashMeets s m t = none →
    ∃ u, exec (.bcnDiagPulse m t) s = .next u ∧ u = { s with c := u.c, regs := u.regs, bcn := { s.bcn with strs := u.bcn.strs } } ∧
      bstr u m = { bstr s m with pulse := none, lit := some { flash := false, cmd := cmd, form := af s (bstrCfgA m) 16 2, t0 := t, t1 := t + tPulse, target := senseTarget s m } } ∧
      (∀ k, k ≠ m → bstr u k = bstr s k) ∧ rg u 0x8028 = word (satAdd 32 (rg s 0x8028).toNat 1) ∧ SameRegs [0x8028] s u) ∧
  (∀ (m t due moves : Nat) (cmd : Bool) (s : State), bcnAwake s = true → m < 16 → slotAt s m ≤ netTime s t →
    (bstr s m).pulse = some (due, moves, cmd) → due ≤ s.ord → strDriven s m = false → moves < 15 → s.bcn.test = none →
    ∃ u, exec (.bcnDiagPulse m t) s = .next u ∧ u = { s with c := u.c, bcn := { s.bcn with strs := u.bcn.strs } } ∧
      bstr u m = { bstr s m with pulse := some (s.ord + 1, moves + 1, cmd) } ∧ (∀ k, k ≠ m → bstr u k = bstr s k)) ∧
  (∀ (m sense drain t : Nat) (lim : Bool) (l : BLit) (s : State), bcnAwake s = true → m < 16 → (bstr s m).lit = some l →
    l.meas = false → l.t0 + tOpenDet ≤ l.t1 → l.t0 + tOpenDet ≤ t + 256 → t ≤ l.t1 → 9 * l.target ≤ 10 * sense → 10 * sense ≤ 11 * l.target →
    l.target ≠ 0 → drain * af s 0x8050 16 10 / 16 / 1000 ≤ af s 0x805C 0 16 → s.bcn.test = none →
    ∃ u, exec (.bcnMeasure m sense drain lim t) s = .next u ∧ u = { s with c := u.c, bcn := { s.bcn with strs := u.bcn.strs } } ∧
      (bstr u m).diag = 0 ∧ (bstr u m).hd = some (drain * af s 0x8050 16 10 / 16 / 1000) ∧ (bstr u m).suspect = 0 ∧
      (bstr u m).diagAt = s.ord ∧ (∀ k, k ≠ m → bstr u k = bstr s k)) ∧
  (∀ (m sense drain t : Nat) (l : BLit) (s : State), bcnAwake s = true → m < 16 → (bstr s m).lit = some l →
    l.meas = false → l.t0 + tOpenDet ≤ l.t1 → l.t0 + tOpenDet ≤ t + 256 → t ≤ l.t1 → 4 * sense < l.target → (bstr s m).suspect ≠ 1 →
    s.bcn.test = none →
    ∃ u, exec (.bcnMeasure m sense drain true t) s = .next u ∧ u = { s with c := u.c, bcn := { s.bcn with strs := u.bcn.strs } } ∧
      (bstr u m).diag = (bstr s m).diag ∧ (bstr u m).suspect = 1 ∧ (bstr u m).pulse = some (s.ord + 1, 0, l.cmd) ∧
      (∀ k, k ≠ m → bstr u k = bstr s k)) ∧
  (∀ (m sense drain t : Nat) (l : BLit) (s : State), bcnAwake s = true → m < 16 → (bstr s m).lit = some l →
    l.meas = false → l.t0 + tOpenDet ≤ l.t1 → l.t0 + tOpenDet ≤ t + 256 → t ≤ l.t1 → 4 * sense < l.target → (bstr s m).suspect = 1 →
    (bstr s m).diag ≠ 1 → s.bcn.test = none →
    ∃ u, exec (.bcnMeasure m sense drain true t) s = .next u ∧
      u = { s with c := u.c, regs := u.regs, evt := u.evt, bcn := { s.bcn with strs := u.bcn.strs } } ∧
      (bstr u m).diag = 1 ∧ (bstr u m).suspect = 0 ∧ rg u 0x802C = word (satAdd 32 (rg s 0x802C).toNat 1) ∧
      SameRegs [0x802C, pgIrq .bcn 0] s u) ∧
  (∀ (m : Nat) (s : State), bcnAwake s = true → m < 16 → (bstr s m).diagAt + diagLimit s < s.ord → (bstr s m).diag ≠ 3 →
    ∃ u, exec (.bcnUntestedTimeout m) s = .next u ∧ u = { s with regs := u.regs, evt := u.evt, bcn := { s.bcn with strs := u.bcn.strs } } ∧
      bstr u m = { bstr s m with diag := 3 } ∧ (∀ k, k ≠ m → bstr u k = bstr s k) ∧
      rg u (pgIrq .bcn 0) = rg s (pgIrq .bcn 0) ||| 4#32 ∧ SameRegs [pgIrq .bcn 0] s u) ∧
  (∀ s : State, boostOn s = true → s.bcn.ovp = false →
    ∃ u, exec .bcnOvpTrip s = .next u ∧ u = { s with regs := u.regs, evt := u.evt, bcn := { s.bcn with ovp := true } } ∧
      rg u 0x8034 = word (satAdd 32 (rg s 0x8034).toNat 1) ∧ rg u (pgIrq .bcn 0) = rg s (pgIrq .bcn 0) ||| 8#32 ∧
      SameRegs [0x8034, pgIrq .bcn 0] s u) ∧
  (∀ s : State, s.bcn.ovp = true → exec .bcnOvpTrip s = .next s) ∧
  (∀ s : State, live s = true → exec .bcnOvpRelease s = .next { s with bcn := { s.bcn with ovp := false } }) ∧
  (∀ (t : Nat) (d : Int) (s : State), chainDriven s = true → s.bcn.cur = none → s.bcn.due = some d → d ≤ netTime s t →
    ∃ u, exec (.bchShiftStart t) s = .next u ∧
      u = { s with c := u.c, bcn := { s.bcn with cur := some (chainLen s, patBits s (af s 0x8070 8 1) (chainLen s)), due := none } }) ∧
  (∀ (n bits ret : Nat) (s : State), live s = true → s.bcn.cur = some (n, bits) → s.bcn.prev = none →
    exec (.bchShiftDone ret) s = .next { s with bcn := { s.bcn with cur := none, prev := some (n, bits) } }) ∧
  (∀ (n bits pn pb ret : Nat) (s : State), live s = true → s.bcn.cur = some (n, bits) → s.bcn.prev = some (pn, pb) →
    firstDiff ret pb (min n pn) = none →
    exec (.bchShiftDone ret) s = .next { s with bcn := { s.bcn with cur := none, prev := some (n, bits), mism := 0 } }) ∧
  (∀ (n bits pn pb ret i : Nat) (s : State), live s = true → s.bcn.cur = some (n, bits) → s.bcn.prev = some (pn, pb) →
    firstDiff ret pb (min n pn) = some i →
    ∃ u, exec (.bchShiftDone ret) s = .next u ∧
      u = { s with regs := u.regs, evt := u.evt, bcn := { s.bcn with cur := none, prev := some (n, bits), mism := min 7 (s.bcn.mism + 1), firstBad := i, fault := s.bcn.fault || decide (4 ≤ min 7 (s.bcn.mism + 1)) } } ∧
      rg u 0x8038 = word (satAdd 32 (rg s 0x8038).toNat 1) ∧
      rg u (pgIrq .bcn 0) = rg s (pgIrq .bcn 0) ||| 0x10#32 ∧ SameRegs [0x8038, pgIrq .bcn 0] s u)

/-- The test lock, perturbations and self-tests (R422 to R427): the two values in order unlock, the second without the first
directly before it does not, and any other write of TST_LOCK in between breaks the order; zero locks, and so does the end of
the unlock time, and both clear every PG_PERTURB; TSTACC reads and writes the TST page, and without that instruction nothing
happens; a perturbation is stored only while unlocked, and its frames end it; a self-test ends with its result, counted, a
failure too. What log entries 76, 78 and 79 name in this is the model's choice or reading. -/
def Obligations.TestPort : Prop :=
  (∀ s : State, running s = true → s.jtag.instr = .tstacc →
    exec (.tstLockWrite 0x40 (some 0x7E57#32)) s = .next { s with tst := { s.tst with first := true } }) ∧
  (∀ s : State, running s = true → s.jtag.instr = .tstacc → s.tst.first = true →
    ∃ u, exec (.tstLockWrite 0x40 (some 0x81A8#32)) s = .next u ∧
      u = { s with regs := u.regs, evt := u.evt, tst := { s.tst with first := false, unlocked := some s.c } } ∧
      rg u 0x19020 = word (satAdd 32 (rg s 0x19020).toNat 1) ∧ SameRegs [0x19020, pgIrq .tst 0] s u) ∧
  (∀ s : State, running s = true → s.jtag.instr = .tstacc → s.tst.first = false →
    exec (.tstLockWrite 0x40 (some 0x81A8#32)) s = .next s) ∧
  (∀ (w : Word) (s : State), running s = true → s.jtag.instr = .tstacc → w ≠ 0x7E57#32 → w ≠ 0x81A8#32 → w ≠ 0 →
    exec (.tstLockWrite 0x40 (some w)) s = .next { s with tst := { s.tst with first := false } }) ∧
  (∀ s : State, running s = true → s.jtag.instr = .tstacc → s.tst.unlocked.isSome = true →
    ∃ u, exec (.tstLockWrite 0x40 (some 0)) s = .next u ∧
      u = { s with regs := u.regs, evt := u.evt, tst := { s.tst with first := false, pert := [], due := [], unlocked := none } } ∧
      (∀ p ∈ allPages, rg u (pgPerturb p.1 p.2) = 0) ∧ bit (rg u (pgIrq .tst 0)) 1 = true ∧
      (∀ a, (∀ p ∈ allPages, a ≠ pgPerturb p.1 p.2) → a ≠ pgIrq .tst 0 → rg u a = rg s a)) ∧
  (∀ (w : Word) (s : State), running s = true → s.jtag.instr = .tstacc →
    ∃ u, exec (.tstLockWrite 0x14 (some w)) s = .next u ∧
      u = { s with regs := u.regs, evt := u.evt, tst := { s.tst with first := false } } ∧ rg u 0x19014 = w ∧ SameRegs [0x19014] s u) ∧
  (∀ (off : Nat) (s : State), running s = true → s.jtag.instr = .tstacc → off < 0x1000 → off % 4 = 0 →
    ∃ u, exec (.tstLockWrite off none) s = .next u ∧ u = { s with regs := u.regs, rd := [readVal s (0x19000 + off)] } ∧
      (isRc (0x19000 + off) = true → rg u (0x19000 + off) = 0) ∧ (isRc (0x19000 + off) = false → u.regs = s.regs) ∧
      SameRegs [0x19000 + off] s u) ∧
  (∀ (off : Nat) (w : Option Word) (s : State), s.jtag.instr ≠ .tstacc → exec (.tstLockWrite off w) s = .next s) ∧
  (∀ s : State, running s = true → s.tst.unlocked.isSome = true → unlockLeft s = 0 →
    ∃ u, exec .tstUnlockExpire s = .next u ∧
      u = { s with regs := u.regs, evt := u.evt, tst := { s.tst with first := false, pert := [], due := [], unlocked := none } } ∧
      (∀ p ∈ allPages, rg u (pgPerturb p.1 p.2) = 0) ∧ bit (rg u (pgIrq .tst 0)) 1 = true ∧
      (∀ a, (∀ p ∈ allPages, a ≠ pgPerturb p.1 p.2) → a ≠ pgIrq .tst 0 → rg u a = rg s a)) ∧
  (∀ (p : Path) (a i : Nat) (k : PageK) (w : Word) (s : State), running s = true → pageAt a = some (k, i) → s.tst.unlocked = none →
    exec (.pgPerturbWrite p a w) s = .next (pgError k i stNotPermitted s)) ∧
  (∀ (p : Path) (a i : Nat) (k : PageK) (w : Word) (s : State), running s = true → pageAt a = some (k, i) →
    s.tst.unlocked.isSome = true → pertKnown k (fld w 0 4) (fld w 4 12) = true →
    ∃ u, exec (.pgPerturbWrite p a w) s = .next u ∧ u = { s with regs := u.regs, tst := { s.tst with due := u.tst.due } } ∧
      rg u (pgPerturb k i) = w &&& 0x00FFFFFF#32 ∧ tget false u.tst.due (pageBase k i) = true ∧ SameRegs [pgPerturb k i] s u) ∧
  (∀ (a : Nat) (s : State), running s = true → pertOver s a = true → tget false s.tst.due a = false →
    ∃ u, exec (.perturbCountExpire a) s = .next u ∧ u = { s with regs := u.regs, tst := { s.tst with pert := u.tst.pert } } ∧
      tget (0, 0) u.tst.pert a = (0, 0) ∧ rg u (a + 0x1C) = 0 ∧ SameRegs [a + 0x1C] s u) ∧
  (∀ (t detail d : Nat) (ok pass : Bool) (s : State), s.tst.bist = some t → bistResult s t ok detail = (d, pass) →
    ∃ u, exec (.bistDone ok detail) s = .next u ∧
      u = { s with regs := u.regs, evt := u.evt, tst := { s.tst with bist := none, res := t % 4 + 256 + bbit pass 9, detail := d }, flight := u.flight, compl := u.compl } ∧
      rg u 0x19028 = word (satAdd 32 (rg s 0x19028).toNat 1) ∧ (pass = true → rg u 0x1902C = rg s 0x1902C) ∧
      (pass = false → rg u 0x1902C = word (satAdd 32 (rg s 0x1902C).toNat 1)) ∧ bit (rg u 0x19010) 2 = true ∧
      Woken (.bist t) stOk (leBytes 4 (bbit pass 0) ++ leBytes 4 d) s u)

/-- Register transactions on the host port (R384 to R387): a read of one word without a read effect answers it and changes no
register; a write stores one in the HUB page; a read or write burst that R384 does not allow, or that comes while the port is
no control path, is not performed and sets NP; RDSR answers HST_STATUS; a chip select that rises early ends in NP with the
index of the first word that was not performed: of a read none is, of a write the complete words before it are, and none of a
write that was clocked whole while its access still held HS_BUSY_N. Generations, mailboxes and unknown instructions on the
host port (R383, R384, R388): SETGEN and RSTGEN set the generation and count a change, and GEN 3 or an upper bit is ignored;
MBPUSH enters a whole command or nothing; MBPOP takes the oldest completion out once all its bytes are read, and gives zeros
from an empty mailbox; an instruction that is not listed, or in octal DDR one whose second byte is not its inverse, is not
performed and sets NP, and all ones reset the generation. What log entries 102, 103 and 106 name in this is the model's choice
or reading. -/
def Obligations.HostPortTransactions : Prop :=
  (∀ (aw : Word) (a : Nat) (s : State), hostUp s = true → hostPath s = true → burstOf aw = some (1, a) → a < 0x10000 →
    isLo a = false → isLo (a - 4) = false → isRc a = false →
    (a / 0x1000) ∉ [8, 9, 0xA, 0xF] →
    exec (.hostRd aw []) s = .next { s with rd := [readVal s a], hst := { s.hst with np := false, npIdx := 0, out := wordBytes [readVal s a] } }) ∧
  (∀ (aw w : Word) (a : Nat) (s : State), hostUp s = true → hostPath s = true → burstOf aw = some (1, a) → 0x40 ≤ a → a < 0x800 →
    ∃ t, exec (.hostWr aw [w] []) s = .next t ∧
      t = { s with regs := t.regs, evt := t.evt, hst := { s.hst with np := false, npIdx := 0, out := [] } } ∧ SameRegs [a] s t ∧
      rg t a = merge (rg s a) w (rwMask a)) ∧
  (∀ (aw : Word) (hits : List (Nat × MemHit)) (s : State), hostUp s = true → (hostPath s = false ∨ burstOf aw = none) →
    ∃ t, exec (.hostRd aw hits) s = .next t ∧ t = { s with regs := t.regs, evt := t.evt, hst := { s.hst with np := true, npIdx := 0, out := [] } } ∧
      rg t 0x6020 = word (satAdd 32 (rg s 0x6020).toNat 1) ∧ bit (rg t 0x6010) 1 = true ∧ SameRegs [0x6020, 0x6010] s t) ∧
  (∀ (aw : Word) (ws : List Word) (hits : List (Nat × MemHit)) (s : State), hostUp s = true → (hostPath s = false ∨ burstOf aw = none) →
    ∃ t, exec (.hostWr aw ws hits) s = .next t ∧ t = { s with regs := t.regs, evt := t.evt, hst := { s.hst with np := true, npIdx := 0, out := [] } } ∧
      SameRegs [0x6020, 0x6010] s t) ∧
  (∀ s : State, hostUp s = true → exec .hostRdsr s = .next { s with rd := [word (hstStatus s)], hst := { s.hst with np := false, npIdx := 0, out := wordBytes [word (hstStatus s)] } }) ∧
  (∀ (hits : List (Nat × MemHit)) (s : State), hostUp s = true →
    ∃ t, exec (.hostCsAbort none hits) s = .next t ∧ t = { s with regs := t.regs, evt := t.evt, hst := { s.hst with np := true, npIdx := 0, out := [] } } ∧
      SameRegs [0x6020, 0x6010] s t) ∧
  (∀ (aw w : Word) (n a : Nat) (s : State), hostUp s = true → hostPath s = true → burstOf aw = some (n, a) → 2 ≤ n → 0x40 ≤ a → a < 0x800 →
    ∃ t, exec (.hostCsAbort (some (aw, [w])) []) s = .next t ∧
      t = { s with regs := t.regs, evt := t.evt, hst := { s.hst with np := true, npIdx := 1, out := [] } } ∧
      rg t a = merge (rg s a) w (rwMask a) ∧ SameRegs [a, 0x6020, 0x6010] s t) ∧
  (∀ (aw : Word) (ws : List Word) (hits : List (Nat × MemHit)) (s : State), hostUp s = true → fld aw 24 6 + 1 ≤ ws.length →
    ∃ t, exec (.hostCsAbort (some (aw, ws)) hits) s = .next t ∧
      t = { s with regs := t.regs, evt := t.evt, hst := { s.hst with np := true, npIdx := 0, out := [] } } ∧ SameRegs [0x6020, 0x6010] s t) ∧
  (∀ (b : Byte) (s : State), hostUp s = true → b.toNat < 3 → s.hst.gen ≠ b.toNat →
    ∃ t, exec (.hostSetgen b) s = .next t ∧ t = { s with regs := t.regs, hst := { s.hst with gen := b.toNat, np := false, npIdx := 0, out := [] } } ∧
      rg t 0x602C = word (satAdd 32 (rg s 0x602C).toNat 1) ∧ SameRegs [0x602C] s t) ∧
  (∀ (b : Byte) (s : State), hostUp s = true → 3 ≤ b.toNat →
    exec (.hostSetgen b) s = .next { s with hst := { s.hst with np := false, npIdx := 0, out := [] } }) ∧
  (∀ s : State, hostUp s = true → ∃ t, exec .hostRstgen s = .next t ∧
    t = { s with regs := t.regs, hst := { s.hst with gen := 0, np := false, npIdx := 0, out := [] } } ∧ SameRegs [0x602C] s t ∧
    (s.hst.gen = 0 → t.regs = s.regs)) ∧
  (∀ (b inv : Byte) (s : State), hostUp s = true → b ≠ 0xFF#8 → instrKnown s b inv = false → ∃ t, exec (.hostUnknownInstr ⟨b, inv⟩) s = .next t ∧
    t = { s with regs := t.regs, evt := t.evt, hst := { s.hst with np := true, npIdx := 0, out := [] } } ∧
    rg t 0x6020 = word (satAdd 32 (rg s 0x6020).toNat 1) ∧ bit (rg t 0x6010) 1 = true ∧ SameRegs [0x6020, 0x6010] s t) ∧
  (∀ (b inv : Byte) (s : State), b ≠ 0xFF#8 → instrKnown s b inv = true → exec (.hostUnknownInstr ⟨b, inv⟩) s = .next s) ∧
  (∀ (inv : Byte) (s : State), exec (.hostUnknownInstr ⟨0xFF#8, inv⟩) s = exec .hostRstgen s) ∧
  (∀ (b inv : Byte) (s : State), (instrKnown s b inv = true ↔
    b.toNat ∈ instrCodes ∧ (s.hst.gen = 2 → inv = ~~~b))) ∧
  (∀ (b : List Byte) (s : State), hostUp s = true → hostPath s = true → 8 ≤ b.length → b.length = 8 + leAt b 4 2 →
    mboxUsed s.hst.inbox + b.length ≤ mboxSize →
    ∃ t, exec (.hostMbpush b) s = .next t ∧ t = { s with regs := t.regs, hst := { s.hst with np := false, npIdx := 0, out := [], inbox := s.hst.inbox ++ [b] } } ∧
      rg t 0x6024 = word (satAdd 32 (rg s 0x6024).toNat 1) ∧ SameRegs [0x6024] s t) ∧
  (∀ (b : List Byte) (s : State), hostUp s = true → hostPath s = true → mboxSize < mboxUsed s.hst.inbox + b.length →
    ∃ t, exec (.hostMbpush b) s = .next t ∧ t = { s with regs := t.regs, evt := t.evt, hst := { s.hst with np := true, npIdx := 0, out := [] } } ∧
      SameRegs [0x6020, 0x6010] s t) ∧
  (∀ (n : Nat) (c : List Byte) (r : List (List Byte)) (s : State), hostUp s = true → hostPath s = true → s.hst.outbox = c :: r → c.length ≤ n →
    ∃ t, exec (.hostMbpop n) s = .next t ∧
      t = { s with regs := t.regs, hst := { s.hst with np := false, npIdx := 0, out := c ++ List.replicate (n - c.length) 0, outbox := r } } ∧
      rg t 0x6028 = word (satAdd 32 (rg s 0x6028).toNat 1) ∧ SameRegs [0x6028] s t) ∧
  (∀ (n : Nat) (c : List Byte) (r : List (List Byte)) (s : State), hostUp s = true → hostPath s = true → s.hst.outbox = c :: r → n < c.length →
    ∃ t, exec (.hostMbpop n) s = .next t ∧
      t = { s with regs := t.regs, evt := t.evt, hst := { s.hst with np := true, npIdx := 0, out := c.take n } } ∧ SameRegs [0x6020, 0x6010] s t) ∧
  (∀ (n : Nat) (s : State), hostUp s = true → hostPath s = true → s.hst.outbox = [] →
    exec (.hostMbpop n) s = .next { s with hst := { s.hst with np := false, npIdx := 0, out := List.replicate n 0 } })

/-- Acceptance and delivery (R14, R388 to R392): the oldest command of a path is taken with the next generation of its tag,
and a MGMT command's space is freed; one whose tag is in flight is counted as accepted and ends at once with BUSY and that
generation, disturbing nothing; a malformed one or one of a reserved opcode ends with BAD_PARAM where no command accepted
before it waits to start, and else in its turn; a host completion goes to the outbound mailbox where it fits and stays where
it does not; a MGMT completion leaves as a packet on the lane its command came by, or on the other lane of that pair, is held
while neither is available, and every held one is sent once one is. -/
def Obligations.CommandFlow : Prop :=
  (∀ (b : List Byte) (r : List (List Byte)) (s : State), running s = true → flightRoom s = true → s.hst.inbox = b :: r →
    tagInFlight s 0 (byteAt b 2) = none → b.length ≤ 2040 → leAt b 4 2 % 4 = 0 → 8 + leAt b 4 2 ≤ b.length → opcodes.contains (leAt b 0 2) = true →
    ∃ t, exec (.commandAccept .host) s = .next t ∧ t = { s with regs := t.regs, evt := t.evt, hst := t.hst, flight := t.flight } ∧
      t.flight = s.flight ++ [{ path := .host, tag := byteAt b 2, gen := (tagGen s 0 (byteAt b 2) + 1) % 16, op := leAt b 0 2, buf := (b.drop 8).take (leAt b 4 2) }] ∧
      tagGen t 0 (byteAt b 2) = (tagGen s 0 (byteAt b 2) + 1) % 16 ∧
      t.hst.inbox = r ∧ t.hst.outbox = s.hst.outbox ∧ rg t 0x5020 = word (satAdd 32 (rg s 0x5020).toNat 1) ∧ SameRegs [0x5020, 0x6010] s t) ∧
  (∀ (b : List Byte) (r : List (List Byte)) (g : Nat) (s : State), running s = true → flightRoom s = true → s.hst.inbox = b :: r →
    tagInFlight s 0 (byteAt b 2) = some g →
    ∃ t, exec (.commandAccept .host) s = .next t ∧ t = { s with regs := t.regs, evt := t.evt, hst := { s.hst with inbox := r }, compl := t.compl } ∧
      t.compl = s.compl ++ [{ path := .host, tag := byteAt b 2, gen := g, op := leAt b 0 2, status := stBusy, frame := s.frame, dup := true }] ∧
      rg t 0x5020 = word (satAdd 32 (rg s 0x5020).toNat 1) ∧ rg t 0x5030 = word (satAdd 32 (rg s 0x5030).toNat 1) ∧
      bit (rg t 0x5010) 1 = true) ∧
  (∀ (b : List Byte) (r : List (List Byte)) (s : State), running s = true → flightRoom s = true → s.hst.inbox = b :: r →
    tagInFlight s 0 (byteAt b 2) = none → (∀ f ∈ s.flight, f.wait ≠ .start) →
    (2040 < b.length ∨ leAt b 4 2 % 4 ≠ 0 ∨ b.length < 8 + leAt b 4 2 ∨ opcodes.contains (leAt b 0 2) = false) →
    ∃ t, exec (.commandAccept .host) s = .next t ∧ t = { s with regs := t.regs, evt := t.evt, hst := t.hst, flight := t.flight, compl := t.compl } ∧
      t.hst.inbox = r ∧ (∀ f ∈ t.flight, f ∈ s.flight) ∧
      ∃ c ∈ t.compl, c.path = .host ∧ c.tag = byteAt b 2 ∧ c.op = leAt b 0 2 ∧ c.status = stBadParam) ∧
  (∀ (b : List Byte) (r : List (List Byte)) (f : Flight) (l : List Flight) (s : State), running s = true → flightRoom s = true →
    s.hst.inbox = b :: r → tagInFlight s 0 (byteAt b 2) = none → s.flight = f :: l → f.wait = .start →
    opcodes.contains (leAt b 0 2) = false →
    ∃ t, exec (.commandAccept .host) s = .next t ∧ t = { s with regs := t.regs, evt := t.evt, hst := t.hst, flight := t.flight } ∧
      t.flight = s.flight ++ [{ path := .host, tag := byteAt b 2, gen := (tagGen s 0 (byteAt b 2) + 1) % 16, op := leAt b 0 2, buf := (b.drop 8).take (leAt b 4 2), wait := .bad }] ∧
      t.hst.inbox = r) ∧
  (∀ (m n tok org : Nat) (b : List Byte) (r : List (Nat × Nat × Nat × List Byte)) (s : State), running s = true → flightRoom s = true →
    s.hst.mbox = (n, tok, org, b) :: r → n < 8 → tagInFlight s 1 (byteAt b 2) = none → b.length ≤ 2040 → leAt b 4 2 % 4 = 0 → 8 + leAt b 4 2 ≤ b.length →
    opcodes.contains (leAt b 0 2) = true →
    ∃ t, exec (.commandAccept (.mgmt m)) s = .next t ∧ t = { s with regs := t.regs, hst := t.hst, lanes := t.lanes, flight := t.flight } ∧
      t.flight = s.flight ++ [{ path := .mgmt n, tag := byteAt b 2, gen := (tagGen s 1 (byteAt b 2) + 1) % 16, op := leAt b 0 2, buf := (b.drop 8).take (leAt b 4 2), tok := tok, org := org }] ∧
      tagGen t 1 (byteAt b 2) = (tagGen s 1 (byteAt b 2) + 1) % 16 ∧ rg t 0x5020 = word (satAdd 32 (rg s 0x5020).toNat 1) ∧
      t.hst.mbox = r ∧ (lane t n).lk.freeP = (lane s n).lk.freeP + (32 + b.length + 63) / 64 ∧ (∀ q, q ≠ n → lane t q = lane s q)) ∧
  (∀ (c : Compl) (s : State), running s = true → (badDone s).compl.find? (fun x => decide (pathCode x.path = 0)) = some c →
    mboxUsed s.hst.outbox + (complBytes c).length ≤ mboxSize →
    ∃ t, exec (.completionDeliver .host) s = .next t ∧
      t = { badDone s with regs := t.regs, evt := t.evt, hst := { s.hst with outbox := s.hst.outbox ++ [complBytes c] }, compl := (badDone s).compl.erase c } ∧
      SameRegs [0x6010] (badDone s) t ∧ (s.hst.outbox = [] → bit (rg t 0x6010) 0 = true) ∧ (s.hst.outbox ≠ [] → t.regs = (badDone s).regs)) ∧
  (∀ (c : Compl) (s : State), running s = true → (badDone s).compl.find? (fun x => decide (pathCode x.path = 0)) = some c →
    mboxSize < mboxUsed s.hst.outbox + (complBytes c).length → exec (.completionDeliver .host) s = .next (badDone s)) ∧
  (∀ (m : Nat) (c : Compl) (s : State), running s = true → (badDone s).compl.find? (complOpen (badDone s)) = some c →
    ∃ t, exec (.completionDeliver (.mgmt m)) s = .next t ∧
      t = { badDone s with lanes := t.lanes, compl := (badDone s).compl.erase c } ∧
      lane t (replyLane s (complLane c)) = { lane s (replyLane s (complLane c)) with lk := { (lane s (replyLane s (complLane c))).lk with mgmt := (lane s (replyLane s (complLane c))).lk.mgmt ++ [mgmtPkt 2 c.status 0 c.tok 0 (complBytes c)] } } ∧
      laneOpen s (replyLane s (complLane c)) = true ∧ (replyLane s (complLane c) = complLane c ∨ replyLane s (complLane c) = pairLane (complLane c)) ∧
      (∀ q, q ≠ replyLane s (complLane c) → lane t q = lane s q)) ∧
  (∀ (m : Nat) (s : State), running s = true → (∀ c ∈ (badDone s).compl, complOpen (badDone s) c = false) →
    exec (.completionDeliver (.mgmt m)) s = .next (badDone s)) ∧
  (∀ s : State, (∀ f ∈ s.flight, f.wait ≠ .bad) → badDone s = s) ∧
  (∀ s : State, running s = true → ∃ t, exec .completionHeldSend s = .next t ∧
    t = { s with lanes := t.lanes, compl := s.compl.filter (fun c => !complOpen s c) } ∧
    (∀ c ∈ s.compl, complOpen s c = true → mgmtPkt 2 c.status 0 c.tok 0 (complBytes c) ∈ (lane t (replyLane s (complLane c))).lk.mgmt) ∧
    (∀ n, lane t n = { lane s n with lk := { (lane s n).lk with mgmt := (lane t n).lk.mgmt } }))

/-- The hub's own commands (R393, R395): a command ends with the status and the result of its row, its flight gone and one
completion behind the others; a wrong length of parameters ends with BAD_PARAM; a command that is not the next one waits. What
log entry 147 names in this is the model's choice or reading. -/
def Obligations.HubCommands : Prop :=
  (∀ (p : Path) (tag : Nat) (f : Flight) (s : State), IsNext p tag 0x0000 f s → f.buf = [] →
    ∃ t, exec (.hubIdentify p tag) s = .next t ∧ t = { s with regs := t.regs, flight := t.flight, compl := t.compl } ∧ SameRegs [0x5024] s t ∧
      Ended f stOk (leBytes 8 Config.ident.toNat ++ leBytes 4 Config.pgRev.toNat ++
        leBytes 1 (bbit s.hub.straps.twinEn 0 + bbit s.hub.straps.twinSide 1 + s.hub.straps.bootMode % 4 * 4) ++
        leBytes 1 (bbit (!s.hub.fuseFail) 0) ++ leBytes 2 0) s t) ∧
  (∀ (p : Path) (tag : Nat) (f : Flight) (s : State), IsNext p tag 0x0001 f s → f.buf = [] →
    ∃ t, exec (.hubStatusCmd p tag) s = .next t ∧ t = { s with regs := t.regs, flight := t.flight, compl := t.compl } ∧ SameRegs [0x5024] s t ∧
      Ended f stOk (leBytes 1 (hubCode s.hub.st) ++ leBytes 1 s.hub.safeCause ++ leBytes 1 (tbCode s.tmb.st) ++ leBytes 1 (bbit s.twn.token 0) ++
        leBytes 8 s.cmt.epoch ++ leBytes 4 (irqSum s 0) ++ leBytes 4 (irqSum s 1)) s t) ∧
  (∀ (p : Path) (tag : Nat) (f : Flight) (s : State), IsNext p tag 0x0004 f s → f.buf = [] →
    ∃ t, exec (.cmdNop p tag) s = .next t ∧ t = { s with regs := t.regs, flight := t.flight, compl := t.compl } ∧ SameRegs [0x5024] s t ∧
      rg t 0x5024 = word (satAdd 32 (rg s 0x5024).toNat 1) ∧ Ended f stOk [] s t) ∧
  (∀ (p : Path) (tag : Nat) (f : Flight) (s : State), IsNext p tag 0x0004 f s → f.buf ≠ [] →
    ∃ t, exec (.cmdNop p tag) s = .next t ∧ t = { s with regs := t.regs, flight := t.flight, compl := t.compl } ∧
      SameRegs [0x5024, 0x502C] s t ∧ rg t 0x502C = word (satAdd 32 (rg s 0x502C).toNat 1) ∧ Ended f stBadParam [] s t) ∧
  (∀ (p : Path) (tag : Nat) (f : Flight) (s : State), IsNext p tag 0x0000 f s → f.buf ≠ [] →
    ∃ t, exec (.hubIdentify p tag) s = .next t ∧ t = { s with regs := t.regs, flight := t.flight, compl := t.compl } ∧ Ended f stBadParam [] s t) ∧
  (∀ (p : Path) (tag : Nat) (f : Flight) (s : State), IsNext p tag 0x0001 f s → f.buf ≠ [] →
    ∃ t, exec (.hubStatusCmd p tag) s = .next t ∧ t = { s with regs := t.regs, flight := t.flight, compl := t.compl } ∧ Ended f stBadParam [] s t) ∧
  (∀ (p : Path) (tag : Nat) (s : State),
    (nextCmd s p tag 0x0000 = none → exec (.hubIdentify p tag) s = .next s) ∧ (nextCmd s p tag 0x0001 = none → exec (.hubStatusCmd p tag) s = .next s) ∧
    (nextCmd s p tag 0x0004 = none → exec (.cmdNop p tag) s = .next s))

/-- SLEEP, wake and cancel by command (R68, R69, R71, R396): HUB_SLEEP waits for the hub to be in SLEEP, or is refused while
traffic is relayed, while the hub holds the token or a session is open; HUB_WAKE of an awake hub ends at once, of a sleeping
one it waits, with RESTORE 0 for no channel or buffer that SLEEP has turned off; CMD_CANCEL of a tag that is not in flight
with that generation ends with STALE_GEN, of a waiting swap it withdraws the swap and ends that command with CANCELLED. What
log entries 62, 111 and 112 name in this is the model's choice or reading. -/
def Obligations.SleepWakeCancel : Prop :=
  (∀ (p : Path) (tag : Nat) (f : Flight) (s : State), IsNext p tag 0x0002 f s → f.buf = [] → relaying s = false → s.twn.token = false →
    s.cmt.st = .closed → s.pwr.sleep = .awake →
    ∃ t, exec (.hubSleep p tag) s = .next t ∧ t = { s with pwr := { s.pwr with sleep := .draining 0 (pathCode f.path) f.tag }, flight := t.flight } ∧
      Waits f .sleep s t) ∧
  (∀ (p : Path) (tag : Nat) (f : Flight) (s : State), IsNext p tag 0x0002 f s → f.buf = [] →
    (relaying s = true ∨ s.twn.token = true ∨ s.cmt.st ≠ .closed ∨ s.pwr.sleep ≠ .awake) →
    ∃ t, exec (.hubSleep p tag) s = .next t ∧ t = { s with regs := t.regs, flight := t.flight, compl := t.compl } ∧
      Ended f (if relaying s then stNotPermitted else if s.twn.token then stRole else stBusy) [] s t) ∧
  (∀ (p : Path) (tag : Nat) (f : Flight) (s : State), IsNext p tag 0x0003 f s → f.buf.length = 4 → par f 0 1 ≤ 1 → s.pwr.sleep = .awake →
    ∃ t, exec (.hubWake p tag) s = .next t ∧ t = { s with regs := t.regs, flight := t.flight, compl := t.compl } ∧ SameRegs [0x5024] s t ∧
      Ended f stOk [] s t) ∧
  (∀ (p : Path) (tag : Nat) (f : Flight) (s : State), IsNext p tag 0x0003 f s → f.buf.length = 4 → par f 0 1 = 1 → s.pwr.sleep = .asleep →
    ∃ t, exec (.hubWake p tag) s = .next t ∧ t = { s with pwr := { s.pwr with sleep := .waking true, pllD := true }, flight := t.flight } ∧
      Waits f .wake s t) ∧
  (∀ (p : Path) (tag : Nat) (f : Flight) (s : State), IsNext p tag 0x0003 f s → f.buf.length = 4 → par f 0 1 = 0 → s.pwr.sleep = .asleep →
    ∃ t, exec (.hubWake p tag) s = .next t ∧
      t = { s with pwr := { s.pwr with sleep := .waking false, pllD := true }, chans := t.chans, refs := t.refs, flight := t.flight } ∧
      Waits f .wake s t ∧ (∀ g, g < 512 → (chan s g).st = .off → (chan t g).inUse = false) ∧ (∀ b, b < 96 → (ref t b).inUse = false)) ∧
  (∀ (p : Path) (tag : Nat) (f : Flight) (s : State), IsNext p tag 0x0005 f s → f.buf.length = 4 → par f 1 1 ≤ 15 →
    (∀ x ∈ s.flight, pathCode x.path = pathCode f.path → x.tag = par f 0 1 → x.gen ≠ par f 1 1) →
    (∀ c ∈ s.compl, pathCode c.path = pathCode f.path → c.tag = par f 0 1 → c.gen ≠ par f 1 1) →
    ∃ t, exec (.cmdCancel p tag) s = .next t ∧ t = { s with regs := t.regs, flight := t.flight, compl := t.compl } ∧
      SameRegs [0x5024, 0x502C] s t ∧ Ended f stStaleGen [] s t) ∧
  (∀ (p : Path) (tag n : Nat) (f x : Flight) (s : State), IsNext p tag 0x0005 f s → f.buf.length = 4 → par f 1 1 ≤ 15 →
    s.flight.find? (fun x => decide (pathCode x.path = pathCode f.path) && decide (x.tag = par f 0 1) && decide (x.gen = par f 1 1)) = some x →
    x.wait = .swap → s.twn.added = some n → s.frame + 256 < n →
    ∃ t, exec (.cmdCancel p tag) s = .next t ∧ t = { s with regs := t.regs, twn := t.twn, flight := t.flight, compl := t.compl } ∧
      t.twn = { s.twn with added := none, next := if s.twn.next = some n then none else s.twn.next } ∧
      rg t 0x5028 = word (satAdd 32 (rg s 0x5028).toNat 1) ∧ 
      Ended f stOk [] { s with
        flight := s.flight.filter (fun y => !(decide (y.path = x.path) && decide (y.tag = x.tag))),
        compl := s.compl ++ [{ path := x.path, tag := x.tag, gen := x.gen, op := x.op, status := stCancelled, result := [], frame := s.frame, tok := x.tok, org := x.org }] } t)

/-- Sessions by command (R86, R87, R90, R395): CFG_OPEN opens a session for the commands of its path; CFG_CHECK and
CFG_APPLY_AT of its owner start their checks and wait; CFG_ABANDON closes it; without a session of the path a command ends
with NOT_PERMITTED. -/
def Obligations.SessionCommands : Prop :=
  (∀ (p : Path) (tag : Nat) (f : Flight) (s : State), IsNext p tag 0x0100 f s → f.buf = [] → s.cmt.st = .closed → s.hub.st ≠ .resync →
    ∃ t, exec (.cfgOpen p tag) s = .next t ∧ t = { s with regs := t.regs, staged := [], cmt := t.cmt, flight := t.flight, compl := t.compl } ∧
      t.cmt.st = .open_ ∧ t.cmt.owner = ownerCmd f.path ∧ t.cmt.serial = (s.cmt.serial + 1) % 65536 ∧
      Ended f stOk (leBytes 2 t.cmt.serial ++ leBytes 1 (ownerCode (ownerCmd f.path)) ++ leBytes 1 0) s t) ∧
  (∀ (p : Path) (tag : Nat) (f : Flight) (s : State), IsNext p tag 0x0100 f s → f.buf = [] → s.cmt.st ≠ .closed → s.hub.st ≠ .resync →
    ∃ t, exec (.cfgOpen p tag) s = .next t ∧ t = { s with regs := t.regs, flight := t.flight, compl := t.compl } ∧ Ended f stBusy [] s t) ∧
  (∀ (p : Path) (tag : Nat) (f : Flight) (s : State), IsNext p tag 0x0101 f s → f.buf = [] → OwnOpen f s →
    ∃ t, exec (.cfgCheck p tag) s = .next t ∧ t = { s with cmt := t.cmt, auxs := (vexcIssue s).auxs, flight := t.flight } ∧
      t.cmt = { s.cmt with st := .checking, arming := false, pre := none, idle := 0 } ∧ Waits f .check s t) ∧
  (∀ (p : Path) (tag : Nat) (f : Flight) (s : State), IsNext p tag 0x0101 f s → f.buf = [] → (s.cmt.st = .closed ∨ s.cmt.owner ≠ ownerCmd f.path) →
    ∃ t, exec (.cfgCheck p tag) s = .next t ∧ t = { s with regs := t.regs, flight := t.flight, compl := t.compl } ∧ Ended f stNotPermitted [] s t) ∧
  (∀ (p : Path) (tag : Nat) (f : Flight) (s : State), IsNext p tag 0x0102 f s → f.buf.length = 12 → par f 8 1 ≤ 1 →
    (s.cmt.st = .closed ∨ s.cmt.owner ≠ ownerCmd f.path) →
    ∃ t, exec (.cfgApplyAt p tag) s = .next t ∧ t = { s with regs := t.regs, flight := t.flight, compl := t.compl } ∧
      Ended f stNotPermitted (applyBytes s) s t) ∧
  (∀ (p : Path) (tag : Nat) (f : Flight) (s : State), IsNext p tag 0x0103 f s → f.buf = [] → s.cmt.owner ≠ ownerCmd f.path →
    ∃ t, exec (.cfgAbandon p tag) s = .next t ∧ t = { s with regs := t.regs, flight := t.flight, compl := t.compl } ∧ Ended f stNotPermitted [] s t) ∧
  (∀ (p : Path) (tag : Nat) (f : Flight) (s : State), IsNext p tag 0x0102 f s → f.buf.length = 12 → par f 8 1 ≤ 1 → OwnOpen f s →
    ∃ t, exec (.cfgApplyAt p tag) s = .next t ∧ t = { s with regs := t.regs, cmt := t.cmt, auxs := t.auxs, flight := t.flight } ∧
      t.cmt.st = .checking ∧ t.cmt.arming = true ∧ t.cmt.owner = s.cmt.owner ∧ rg t 0x2050 = word (par f 0 4) ∧ rg t 0x2054 = word (par f 4 4) ∧
      rg t 0x2048 = word (par f 8 1) ∧ SameRegs [0x2050, 0x2054, 0x2048] s t ∧ Waits f .apply s t ∧
      t.cmt.applyFrame = (if (word (par f 0 4)).toNat + 2 ^ 32 * (word (par f 4 4)).toNat = 0 then s.frame + 2
        else (word (par f 0 4)).toNat + 2 ^ 32 * (word (par f 4 4)).toNat)) ∧
  (∀ (p : Path) (tag : Nat) (f : Flight) (s : State), IsNext p tag 0x0102 f s → f.buf.length = 12 → 1 < par f 8 1 →
    ∃ t, exec (.cfgApplyAt p tag) s = .next t ∧ t = { s with regs := t.regs, flight := t.flight, compl := t.compl } ∧
      Ended f stBadParam (applyBytes s) s t) ∧
  (∀ (p : Path) (tag : Nat) (f : Flight) (s : State), IsNext p tag 0x0103 f s → f.buf = [] → OwnOpen f s → (∀ x ∈ s.flight, x.wait = .start) →
    ∃ t, exec (.cfgAbandon p tag) s = .next t ∧
      t = { s with regs := t.regs, staged := [], cmt := t.cmt, evt := t.evt, flight := t.flight, compl := t.compl } ∧ t.cmt.st = .closed ∧
      t.cmt.owner = .none ∧ bit (rg t 0x2010) 3 = true ∧ Ended f stOk [] s t)

/-- Images by command (R398, R399): a chunk that is not the last is stored behind the others in the image's bank and ends with
OK; one with bad parameters ends with BAD_PARAM, a last one whose image holds an uncorrectable word with HW_FAULT, and both
restart the load; CFG_IMAGE_SAVE to a bank of the CPU stores the image, or its container, and answers its length and checksum;
with SEND the host is refused, and a MGMT path waits for the chunks it is sent. What log entries 96 and 98 name in this is the
model's choice or reading. -/
def Obligations.ImageCommands : Prop :=
  (∀ (p : Path) (tag : Nat) (f : Flight) (s : State), IsNext p tag 0x0104 f s → 12 ≤ f.buf.length → f.buf.length ≤ 2012 →
    (par f 8 1 = 0 ∨ par f 8 1 = 2) → par f 9 1 < 12 → par f 0 4 + (f.buf.length - 12) ≤ par f 4 4 → 0 < par f 4 4 → par f 4 4 ≤ 2 ^ 20 →
    imgBankOk s (par f 9 1) = true → s.hub.st ≠ .resync →
    (s.hst.loading = false ∧ par f 0 4 = 0 ∨ s.hst.loading = true ∧ s.hst.img = some (par f 0 4, par f 9 1)) → OwnOpen f s →
    ∃ t, exec (.cfgImageLoad p tag {}) s = .next t ∧
      t = { s with regs := t.regs, evt := t.evt, cmt := { s.cmt with idle := 0 }, mem := t.mem, hst := { s.hst with img := some (par f 0 4 + (f.buf.length - 12), par f 9 1), loading := true }, flight := t.flight, compl := t.compl } ∧
      SameRegs [0x5024, pgIrq .mem 0] s t ∧ Ended f stOk [] s t ∧ 
      memBytes t (par f 9 1) (2 ^ 20 + par f 0 4) (f.buf.length - 12) = f.buf.drop 12 ∧
      (∀ a, a < 262144 * par f 9 1 + (2 ^ 20 + par f 0 4) / 8 ∨ 262144 * par f 9 1 + (2 ^ 20 + par f 0 4 + (f.buf.length - 12) + 7) / 8 ≤ a →
        memGet t a = memGet s a)) ∧
  (∀ (p : Path) (tag : Nat) (ecc : ReadEcc) (f : Flight) (s : State), IsNext p tag 0x0104 f s → 12 ≤ f.buf.length → f.buf.length ≤ 2012 →
    (par f 8 1 = 1 ∨ par f 8 1 = 3) → par f 9 1 < 12 → par f 0 4 + (f.buf.length - 12) = par f 4 4 → 0 < par f 4 4 → par f 4 4 ≤ 2 ^ 20 →
    imgBankOk s (par f 9 1) = true → s.hub.st ≠ .resync →
    (s.hst.loading = false ∧ par f 0 4 = 0 ∨ s.hst.loading = true ∧ s.hst.img = some (par f 0 4, par f 9 1)) → OwnOpen f s → ecc.ue = true →
    ∃ t, exec (.cfgImageLoad p tag ecc) s = .next t ∧ t.hst = { s.hst with img := none, loading := false } ∧ bit (rg t 0xA010) 1 = true ∧
      t.staged = s.staged ∧ Ended f stHwFault [] s t) ∧
  (∀ (p : Path) (tag : Nat) (ecc : ReadEcc) (f : Flight) (s : State), IsNext p tag 0x0104 f s → 12 ≤ f.buf.length → f.buf.length ≤ 2012 →
    3 < par f 8 1 → s.hub.st ≠ .resync →
    ∃ t, exec (.cfgImageLoad p tag ecc) s = .next t ∧
      t = { s with regs := t.regs, evt := t.evt, mem := { s.mem with rel := t.mem.rel }, hst := { s.hst with img := none, loading := false }, flight := t.flight, compl := t.compl } ∧ Ended f stBadParam [] s t) ∧
  (∀ (p : Path) (tag : Nat) (f : Flight) (s : State), IsNext p tag 0x0105 f s → f.buf.length = 4 → par f 0 1 ≤ 1 → par f 2 1 < 12 →
    bankOwner s (par f 2 1) = ownCpu →
    ∃ t, exec (.cfgImageSave p tag {}) s = .next t ∧
      t = { s with regs := t.regs, evt := t.evt, mem := t.mem, flight := t.flight, compl := t.compl } ∧
      SameRegs [0x5024, pgIrq .mem 0] s t ∧
      Ended f stOk (leBytes 4 (imageBytes s (decide (par f 0 1 = 1))).length ++ ((imageBytes s (decide (par f 0 1 = 1))).drop 24).take 4 ++
        leBytes 8 s.cmt.epoch) s t ∧
      memBytes t (par f 2 1) 0 (imageBytes s (decide (par f 0 1 = 1))).length = imageBytes s (decide (par f 0 1 = 1)) ∧
      (∀ a, a < 262144 * par f 2 1 ∨ 262144 * par f 2 1 + ((imageBytes s (decide (par f 0 1 = 1))).length + 7) / 8 ≤ a → memGet t a = memGet s a)) ∧
  (∀ (p : Path) (tag : Nat) (f : Flight) (s : State), IsNext p tag 0x0105 f s → f.buf.length = 4 → (par f 0 1 = 2 ∨ par f 0 1 = 3) →
    1 ≤ par f 1 1 → par f 1 1 ≤ 9 → par f 2 1 < 12 → bankOwner s (par f 2 1) = ownCpu →
    ∃ t, exec (.cfgImageSave p tag {}) s = .next t ∧
      t = { s with regs := t.regs, evt := t.evt, mem := t.mem, flight := t.flight, compl := t.compl } ∧
      SameRegs [0x5024, 0xC030, pgIrq .mem 0] s t ∧
      Ended f stOk (leBytes 4 (imageBytes s (decide (par f 0 1 = 3))).length ++ ((imageBytes s (decide (par f 0 1 = 3))).drop 24).take 4 ++
        leBytes 8 s.cmt.epoch) s t ∧
      memBytes t (par f 2 1) 0 (arcWhole (par f 1 1) 0 (imageBytes s (decide (par f 0 1 = 3)))).length =
        arcWhole (par f 1 1) 0 (imageBytes s (decide (par f 0 1 = 3)))) ∧
  (∀ (p : Path) (tag : Nat) (ecc : ReadEcc) (f : Flight) (s : State), IsNext p tag 0x0105 f s → f.buf.length = 4 → 4 ≤ par f 0 1 → par f 0 1 ≤ 7 →
    (par f 0 1 / 2 % 2 = 1 → 1 ≤ par f 1 1 ∧ par f 1 1 ≤ 9) → f.path = .host →
    ∃ t, exec (.cfgImageSave p tag ecc) s = .next t ∧
      t = { s with regs := t.regs, evt := t.evt, mem := { s.mem with rel := t.mem.rel }, flight := t.flight, compl := t.compl } ∧
      SameRegs [0x5024, 0x502C, pgIrq .mem 0] s t ∧ Ended f stNotPermitted [] s t) ∧
  (∀ (p : Path) (tag n : Nat) (f : Flight) (s : State), IsNext p tag 0x0105 f s → f.buf.length = 4 → (par f 0 1 = 4 ∨ par f 0 1 = 5) → f.path = .mgmt n →
    ∃ t, exec (.cfgImageSave p tag {}) s = .next t ∧
      t = { s with regs := t.regs, evt := t.evt, mem := { s.mem with rel := t.mem.rel }, lanes := t.lanes, flight := t.flight } ∧
      SameRegs [pgIrq .mem 0] s t ∧
      t.flight = s.flight.map (fun x => if x.path = f.path ∧ x.tag = f.tag then
        { x with buf := leBytes 4 (imageBytes s (decide (par f 0 1 = 5))).length ++ ((imageBytes s (decide (par f 0 1 = 5))).drop 24).take 4 ++
          leBytes 8 s.cmt.epoch, wait := .imageSend } else x)) ∧
  (∀ (p : Path) (tag : Nat) (ecc : ReadEcc) (f : Flight) (s : State), IsNext p tag 0x0105 f s → f.buf.length = 4 → 7 < par f 0 1 →
    ∃ t, exec (.cfgImageSave p tag ecc) s = .next t ∧
      t = { s with regs := t.regs, evt := t.evt, mem := { s.mem with rel := t.mem.rel }, flight := t.flight, compl := t.compl } ∧
      SameRegs [0x5024, 0x502C, pgIrq .mem 0] s t ∧ Ended f stBadParam [] s t)

/-- Commands that stage a channel or a sheaf (R80, R393, R395): with the session of their path open and no page in EXPERT
mode, they stage exactly the registers of their row and end; an index out of range ends each with BAD_PARAM, and with sound
parameters a page in EXPERT mode or a missing session with NOT_PERMITTED; nothing is staged then. -/
def Obligations.ChannelStaging : Prop :=
  (∀ (p : Path) (tag : Nat) (f : Flight) (s : State), IsNext p tag 0x0201 f s → f.buf.length = 12 → OwnOpen f s → par f 0 2 < 512 →
    par f 2 1 ≤ 3 → par f 3 1 ≤ 3 → par f 4 1 ≤ 10 → par f 5 1 ≤ 3 → (par f 4 1 < 10 ∨ par f 5 1 < 3) → par f 6 1 ≤ 7 → par f 8 2 ≤ 10000 → (2 ≤ par f 3 1 → par f 8 2 ≠ 0) →
    expert s .shf (par f 0 2 / 32) = false → (2 ≤ par f 3 1 → expert s .flt (par f 0 2 / 32) = false) →
    ∃ t, exec (.chSetRate p tag) s = .next t ∧
      StagedBy ((chFiltA (par f 0 2), setFld (setFld (stg s (chFiltA (par f 0 2))) 0 2 (par f 2 1)) 2 1 (par f 3 1)) ::
        (if par f 3 1 / 2 % 2 = 1 then
          [(profCfgA (par f 0 2 / 32) (par f 2 1), setFld (setFld (stg s (profCfgA (par f 0 2 / 32) (par f 2 1))) 0 4 (par f 4 1)) 4 2 (par f 5 1)),
           (profDcbA (par f 0 2 / 32) (par f 2 1), setFld (setFld (stg s (profDcbA (par f 0 2 / 32) (par f 2 1))) 16 3 (par f 6 1)) 0 14 (par f 8 2))]
        else [])) f s t) ∧
  (∀ (p : Path) (tag : Nat) (f : Flight) (s : State), IsNext p tag 0x0202 f s → f.buf.length = 12 → OwnOpen f s → par f 0 1 ≤ 15 →
    par f 4 4 &&& par f 8 4 = 0 → expert s .shf (par f 0 1) = false →
    ∃ t, exec (.chEnable p tag) s = .next t ∧
      StagedBy (((List.range 32).filter (fun c => (par f 4 4 ||| par f 8 4).testBit c)).map (fun c =>
        (chCfgA (32 * par f 0 1 + c), setFld (stg s (chCfgA (32 * par f 0 1 + c))) 0 1 (bbit ((par f 4 4).testBit c) 0)))) f s t) ∧
  (∀ (p : Path) (tag : Nat) (f : Flight) (s : State), IsNext p tag 0x0203 f s → f.buf.length = 4 → OwnOpen f s → par f 0 2 < 512 →
    par f 2 1 ≤ 2 → expert s .shf (par f 0 2 / 32) = false →
    ∃ t, exec (.chAutorange p tag) s = .next t ∧
      StagedBy [(chCfgA (par f 0 2), if par f 2 1 = 0 then setFld (stg s (chCfgA (par f 0 2))) 8 2 0
        else setFld (setFld (stg s (chCfgA (par f 0 2))) 8 2 (par f 2 1)) 4 3 0)] f s t) ∧
  (∀ (p : Path) (tag : Nat) (f : Flight) (s : State), IsNext p tag 0x0207 f s → f.buf.length = 16 → OwnOpen f s → par f 0 1 ≤ 15 →
    par f 1 1 ≤ 3 → par f 2 1 ≤ 3 → par f 3 1 ≤ 3 → par f 6 1 ≤ 63 → par f 7 1 ≤ 3 → par f 8 2 ≤ 0xFFF → par f 10 1 ≤ 15 →
    par f 12 1 ≤ 1 → par f 13 1 ≤ 1 → par f 14 1 ≤ 15 → expert s .shf (par f 0 1) = false →
    ∃ t, exec (.shfExcSet p tag) s = .next t ∧
      StagedBy ((if par f 2 1 % 2 = 1 then
          [(excCfgA (4 * par f 0 1 + par f 1 1), setFld (setFld (setFld (setFld (stg s (excCfgA (4 * par f 0 1 + par f 1 1))) 24 2 (par f 7 1))
              22 2 (par f 3 1)) 16 6 (par f 6 1)) 0 16 (par f 4 2)),
           (excLoadA (4 * par f 0 1 + par f 1 1), setFld (setFld (setFld (stg s (excLoadA (4 * par f 0 1 + par f 1 1))) 16 8 (par f 11 1))
              12 4 (par f 10 1)) 0 12 (par f 8 2))] else []) ++
        (if par f 2 1 / 2 % 2 = 1 then
          [(shfReg (par f 0 1) 0x140, setFld (setFld (setFld (stg s (shfReg (par f 0 1) 0x140)) 8 4 (par f 14 1)) 1 1 (par f 13 1)) 0 1 (par f 12 1))]
        else [])) f s t) ∧
  (∀ (p : Path) (tag : Nat) (f : Flight) (s : State), IsNext p tag 0x0201 f s → f.buf.length = 12 → 511 < par f 0 2 →
    ∃ t, exec (.chSetRate p tag) s = .next t ∧ t = { s with regs := t.regs, cmt := { s.cmt with idle := t.cmt.idle }, flight := t.flight, compl := t.compl } ∧ Ended f stBadParam [] s t) ∧
  (∀ (p : Path) (tag : Nat) (f : Flight) (s : State), IsNext p tag 0x0201 f s → f.buf.length = 12 → par f 0 2 < 512 → par f 2 1 ≤ 3 → par f 3 1 ≤ 3 →
    par f 4 1 ≤ 10 → par f 5 1 ≤ 3 → (par f 4 1 < 10 ∨ par f 5 1 < 3) → par f 6 1 ≤ 7 → par f 8 2 ≤ 10000 → (2 ≤ par f 3 1 → par f 8 2 ≠ 0) →
    (expert s .shf (par f 0 2 / 32) = true ∨ 2 ≤ par f 3 1 ∧ expert s .flt (par f 0 2 / 32) = true) →
    ∃ t, exec (.chSetRate p tag) s = .next t ∧ t = { s with regs := t.regs, cmt := { s.cmt with idle := t.cmt.idle }, flight := t.flight, compl := t.compl } ∧ Ended f stNotPermitted [] s t) ∧
  (∀ (p : Path) (tag : Nat) (f : Flight) (s : State), IsNext p tag 0x0201 f s → f.buf.length = 12 → par f 0 2 < 512 → par f 2 1 ≤ 3 → par f 3 1 ≤ 3 →
    par f 4 1 ≤ 10 → par f 5 1 ≤ 3 → (par f 4 1 < 10 ∨ par f 5 1 < 3) → par f 6 1 ≤ 7 → par f 8 2 ≤ 10000 → (2 ≤ par f 3 1 → par f 8 2 ≠ 0) →
    s.cmt.st = .closed →
    ∃ t, exec (.chSetRate p tag) s = .next t ∧ t = { s with regs := t.regs, cmt := { s.cmt with idle := t.cmt.idle }, flight := t.flight, compl := t.compl } ∧ Ended f stNotPermitted [] s t) ∧
  (∀ (p : Path) (tag : Nat) (f : Flight) (s : State), IsNext p tag 0x0202 f s → f.buf.length = 12 → 15 < par f 0 1 →
    ∃ t, exec (.chEnable p tag) s = .next t ∧ t = { s with regs := t.regs, cmt := { s.cmt with idle := t.cmt.idle }, flight := t.flight, compl := t.compl } ∧ Ended f stBadParam [] s t) ∧
  (∀ (p : Path) (tag : Nat) (f : Flight) (s : State), IsNext p tag 0x0202 f s → f.buf.length = 12 → par f 0 1 ≤ 15 → par f 4 4 &&& par f 8 4 = 0 →
    expert s .shf (par f 0 1) = true →
    ∃ t, exec (.chEnable p tag) s = .next t ∧ t = { s with regs := t.regs, cmt := { s.cmt with idle := t.cmt.idle }, flight := t.flight, compl := t.compl } ∧ Ended f stNotPermitted [] s t) ∧
  (∀ (p : Path) (tag : Nat) (f : Flight) (s : State), IsNext p tag 0x0202 f s → f.buf.length = 12 → par f 0 1 ≤ 15 → par f 4 4 &&& par f 8 4 = 0 →
    s.cmt.st = .closed →
    ∃ t, exec (.chEnable p tag) s = .next t ∧ t = { s with regs := t.regs, cmt := { s.cmt with idle := t.cmt.idle }, flight := t.flight, compl := t.compl } ∧ Ended f stNotPermitted [] s t) ∧
  (∀ (p : Path) (tag : Nat) (f : Flight) (s : State), IsNext p tag 0x0203 f s → f.buf.length = 4 → 511 < par f 0 2 →
    ∃ t, exec (.chAutorange p tag) s = .next t ∧ t = { s with regs := t.regs, cmt := { s.cmt with idle := t.cmt.idle }, flight := t.flight, compl := t.compl } ∧ Ended f stBadParam [] s t) ∧
  (∀ (p : Path) (tag : Nat) (f : Flight) (s : State), IsNext p tag 0x0203 f s → f.buf.length = 4 → par f 0 2 < 512 → par f 2 1 ≤ 2 →
    expert s .shf (par f 0 2 / 32) = true →
    ∃ t, exec (.chAutorange p tag) s = .next t ∧ t = { s with regs := t.regs, cmt := { s.cmt with idle := t.cmt.idle }, flight := t.flight, compl := t.compl } ∧ Ended f stNotPermitted [] s t) ∧
  (∀ (p : Path) (tag : Nat) (f : Flight) (s : State), IsNext p tag 0x0203 f s → f.buf.length = 4 → par f 0 2 < 512 → par f 2 1 ≤ 2 →
    s.cmt.st = .closed →
    ∃ t, exec (.chAutorange p tag) s = .next t ∧ t = { s with regs := t.regs, cmt := { s.cmt with idle := t.cmt.idle }, flight := t.flight, compl := t.compl } ∧ Ended f stNotPermitted [] s t) ∧
  (∀ (p : Path) (tag : Nat) (f : Flight) (s : State), IsNext p tag 0x0207 f s → f.buf.length = 16 → 15 < par f 0 1 →
    ∃ t, exec (.shfExcSet p tag) s = .next t ∧ t = { s with regs := t.regs, cmt := { s.cmt with idle := t.cmt.idle }, flight := t.flight, compl := t.compl } ∧ Ended f stBadParam [] s t) ∧
  (∀ (p : Path) (tag : Nat) (f : Flight) (s : State), IsNext p tag 0x0207 f s → f.buf.length = 16 → par f 0 1 ≤ 15 → par f 1 1 ≤ 3 → par f 2 1 ≤ 3 → par f 3 1 ≤ 3 → par f 6 1 ≤ 63 →
    par f 7 1 ≤ 3 → par f 8 2 ≤ 0xFFF → par f 10 1 ≤ 15 → par f 12 1 ≤ 1 → par f 13 1 ≤ 1 → par f 14 1 ≤ 15 →
    expert s .shf (par f 0 1) = true →
    ∃ t, exec (.shfExcSet p tag) s = .next t ∧ t = { s with regs := t.regs, cmt := { s.cmt with idle := t.cmt.idle }, flight := t.flight, compl := t.compl } ∧ Ended f stNotPermitted [] s t) ∧
  (∀ (p : Path) (tag : Nat) (f : Flight) (s : State), IsNext p tag 0x0207 f s → f.buf.length = 16 → par f 0 1 ≤ 15 → par f 1 1 ≤ 3 → par f 2 1 ≤ 3 → par f 3 1 ≤ 3 → par f 6 1 ≤ 63 →
    par f 7 1 ≤ 3 → par f 8 2 ≤ 0xFFF → par f 10 1 ≤ 15 → par f 12 1 ≤ 1 → par f 13 1 ≤ 1 → par f 14 1 ≤ 15 →
    s.cmt.st = .closed →
    ∃ t, exec (.shfExcSet p tag) s = .next t ∧ t = { s with regs := t.regs, cmt := { s.cmt with idle := t.cmt.idle }, flight := t.flight, compl := t.compl } ∧ Ended f stNotPermitted [] s t)

/-- A sensor's record, and reads and tests of a channel by command (R117, R119, R159, R160, R237, R395): CH_SET_SENSOR writes
the record into the page that is not active and stages that page with the channel's registers; a spot read joins its
converter's queue, a lead test starts on its sheaf, and both wait; an absent converter refuses them with NO_RESOURCE.
Reference buffers and filter banks by command (R154, R171, R177, R393, R395): SHF_REF_ENABLE opens, stages and arms a session
of its own and waits for its apply; where a session is open it ends with BUSY; FLT_LOAD_BANK with a standard design or host
data fills the bank, seals it and counts it, ends with CHECKSUM where the CRC differs, and is refused with BUSY while a seal
runs. What log entries 14, 114, 116 and 170 name in this is the model's choice or reading. -/
def Obligations.SensorAndFilterCommands : Prop :=
  (∀ (p : Path) (tag : Nat) (f : Flight) (s : State), IsNext p tag 0x0200 f s → f.buf.length = 32 → OwnOpen f s → sensorBad f = false →
    expert s .shf (par f 0 2 / 32) = false → expert s .lin 0 = false → s.lin.copying = false → sf s 0xF040 0 1 ≠ linPage s →
    ∃ t, exec (.chSetSensor p tag) s = .next t ∧
      t = { s with regs := t.regs, staged := t.staged, cmt := t.cmt, lin := { s.lin with mem := t.lin.mem, ue := t.lin.ue }, flight := t.flight, compl := t.compl } ∧
      Ended f stOk [] s t ∧ OwnOpen f t ∧ SameRegs [0x5024] s t ∧
      recIn t (sf s 0xF040 0 1) (par f 0 2) 0 = word (par f 2 1 + par f 3 1 * 2 ^ 6 + par f 4 2 * 2 ^ 8) ∧
      recIn t (sf s 0xF040 0 1) (par f 0 2) 1 = word (par f 8 4) ∧ recIn t (sf s 0xF040 0 1) (par f 0 2) 2 = word (par f 12 4) ∧
      recIn t (sf s 0xF040 0 1) (par f 0 2) 3 = word (par f 16 4) ∧ (∀ g i, g < 512 → i < 4 → recIn t (linPage s) g i = recIn s (linPage s) g i) ∧
      stg t (chLeadA (par f 0 2)) = merge (pendRg s (chLeadA (par f 0 2))) (word (par f 24 4)) (stMask (chLeadA (par f 0 2))) ∧
      stg t (chCurrA (par f 0 2)) = merge (pendRg s (chCurrA (par f 0 2))) (word (par f 28 4)) (stMask (chCurrA (par f 0 2)))) ∧
  (∀ (p : Path) (tag : Nat) (f : Flight) (s : State), IsNext p tag 0x0204 f s → f.buf.length = 4 → par f 0 2 < 512 → par f 2 1 ≤ 2 →
    (par f 3 1 ≤ 0x26 ∨ par f 3 1 = 0xFF) → expert s .shf (par f 0 2 / 32) = false → auxAvail s (par f 0 2 / 128) = true →
    ∃ t, exec (.chSpotRead p tag) s = .next t ∧ t = { s with auxs := t.auxs, flight := t.flight } ∧ Waits f .spot s t ∧
      (∀ n, n ≠ par f 0 2 / 128 → aux t n = aux s n) ∧
      ((aux s (par f 0 2 / 128)).run.isSome = true →
        (aux t (par f 0 2 / 128)).spot = (aux s (par f 0 2 / 128)).spot ++
          [⟨.spot (pathCode f.path) f.tag (if par f 3 1 = 0xFF then par f 0 2 / 32 % 4 else par f 3 1), 256 * s.c⟩])) ∧
  (∀ (p : Path) (tag : Nat) (f : Flight) (s : State), IsNext p tag 0x0204 f s → f.buf.length = 4 → par f 0 2 < 512 → par f 2 1 ≤ 2 →
    (par f 3 1 ≤ 0x26 ∨ par f 3 1 = 0xFF) → expert s .shf (par f 0 2 / 32) = false → auxAvail s (par f 0 2 / 128) = false →
    ∃ t, exec (.chSpotRead p tag) s = .next t ∧ t = { s with regs := t.regs, flight := t.flight, compl := t.compl } ∧ Ended f stNoResource [] s t) ∧
  (∀ (p : Path) (tag : Nat) (f : Flight) (s : State), IsNext p tag 0x0205 f s → f.buf.length = 4 → par f 0 1 ≤ 15 → par f 1 1 = 1 →
    par f 2 1 ≤ 1 → par f 3 1 ≤ 31 → expert s .shf (par f 0 1) = false → ltOf s (par f 0 1) = none → sheafDriven s (par f 0 1) = false →
    sheafDual s (par f 0 1) = false → auxAvail s (par f 0 1 / 4) = true →
    ∃ t, exec (.chLeadTest p tag) s = .next t ∧ t = { s with chans := t.chans, lts := t.lts, ltRes := t.ltRes, auxs := t.auxs, flight := t.flight } ∧
      Waits f (.leadTest (par f 0 1)) s t ∧ (∃ x, ltOf t (par f 0 1) = some x ∧ x.shorts = true ∧ x.origin = .cmd ∧ x.ch = par f 3 1) ∧
      tget 0 t.ltRes (par f 0 1) = word (2 ^ 6 ||| bbit (decide (par f 2 1 = 1)) 5 ||| par f 3 1 % 32) ∧
      (∀ ss, ss ≠ par f 0 1 → ltOf t ss = ltOf s ss) ∧ (∀ g, g / 32 ≠ par f 0 1 → chan t g = chan s g)) ∧
  (∀ (p : Path) (tag : Nat) (f : Flight) (s : State), IsNext p tag 0x0205 f s → f.buf.length = 4 → par f 0 1 ≤ 15 → par f 1 1 = 0 →
    par f 2 1 ≤ 1 → par f 3 1 ≤ 31 → expert s .shf (par f 0 1) = false → ltOf s (par f 0 1) = none → auxAvail s (par f 0 1 / 4) = true →
    ltCover s (par f 0 1) (decide (par f 2 1 = 1)) (par f 3 1) ≠ [] →
    ∃ t, exec (.chLeadTest p tag) s = .next t ∧ t = { s with lts := t.lts, ltRes := t.ltRes, auxs := t.auxs, flight := t.flight } ∧
      Waits f (.leadTest (par f 0 1)) s t ∧ (∃ x, ltOf t (par f 0 1) = some x ∧ x.shorts = false ∧ x.origin = .cmd ∧
        x.cover = ltCover s (par f 0 1) (decide (par f 2 1 = 1)) (par f 3 1)) ∧
      tget 0 t.ltRes (par f 0 1) = word (bbit (decide (par f 2 1 = 1)) 5 ||| par f 3 1 % 32) ∧ (∀ ss, ss ≠ par f 0 1 → ltOf t ss = ltOf s ss)) ∧
  (∀ (p : Path) (tag : Nat) (f : Flight) (s : State), IsNext p tag 0x0205 f s → f.buf.length = 4 → par f 0 1 ≤ 15 → par f 1 1 = 1 →
    par f 2 1 ≤ 1 → par f 3 1 ≤ 31 → expert s .shf (par f 0 1) = false → ltOf s (par f 0 1) = none → sheafDriven s (par f 0 1) = true →
    ∃ t, exec (.chLeadTest p tag) s = .next t ∧ t.lts = s.lts ∧ Ended f stNotPermitted [] s t) ∧
  (∀ (p : Path) (tag : Nat) (f : Flight) (s : State), IsNext p tag 0x0205 f s → f.buf.length = 4 → par f 0 1 ≤ 15 → par f 1 1 ≤ 1 →
    par f 2 1 ≤ 1 → par f 3 1 ≤ 31 → expert s .shf (par f 0 1) = false → ltOf s (par f 0 1) = none → sheafDriven s (par f 0 1) = false →
    sheafDual s (par f 0 1) = false → auxAvail s (par f 0 1 / 4) = false →
    ∃ t, exec (.chLeadTest p tag) s = .next t ∧ t = { s with regs := t.regs, flight := t.flight, compl := t.compl } ∧ Ended f stNoResource [] s t) ∧
  (∀ (p : Path) (tag : Nat) (f : Flight) (s : State), IsNext p tag 0x0206 f s → f.buf.length = 4 → par f 0 1 ≤ 15 → par f 1 1 ≤ 0x3F →
    par f 2 1 ≤ 1 → expert s .shf (par f 0 1) = false → s.cmt.st = .closed → s.hub.st ≠ .resync →
    ∃ t, exec (.shfRefEnable p tag) s = .next t ∧ t = { s with regs := t.regs, staged := t.staged, cmt := t.cmt, flight := t.flight } ∧
      t.cmt.st = .checking ∧ t.cmt.arming = true ∧ t.cmt.applyFrame = s.frame + 2 ∧ t.cmt.owner = ownerCmd f.path ∧
      SameRegs [0x2048, 0x2050, 0x2054] s t ∧ Waits f (.refApply (par f 0 1) (par f 1 1) (decide (par f 2 1 = 1))) s t ∧
      stg t (shfReg (par f 0 1) 0x200) = merge (pendRg s (shfReg (par f 0 1) 0x200))
        (setFld (pendRg s (shfReg (par f 0 1) 0x200)) 0 6 (par f 1 1)) (stMask (shfReg (par f 0 1) 0x200))) ∧
  (∀ (p : Path) (tag : Nat) (f : Flight) (s : State), IsNext p tag 0x0206 f s → f.buf.length = 4 → par f 0 1 ≤ 15 → par f 1 1 ≤ 0x3F →
    par f 2 1 ≤ 1 → expert s .shf (par f 0 1) = false → s.cmt.st ≠ .closed → s.hub.st ≠ .resync →
    ∃ t, exec (.shfRefEnable p tag) s = .next t ∧ t.staged = s.staged ∧ t.cmt = s.cmt ∧ Ended f stBusy [] s t) ∧
  (∀ (p : Path) (tag : Nat) (f : Flight) (s : State), IsNext p tag 0x0208 f s → f.buf.length = 12 → par f 0 1 ≤ 15 → par f 1 1 ≤ 3 →
    par f 2 1 ≤ 1 → 1 ≤ par f 3 1 → par f 3 1 ≤ 4 → expert s .flt (par f 0 1) = false →
    bankRefusal s (par f 0 1) (par f 1 1) (decide (par f 2 1 = 1)) = none → tget [] s.sealing (par f 0 1) = [] →
    ∃ t, exec (.fltLoadBank p tag) s = .next t ∧
      t = { s with regs := t.regs, evt := t.evt, coef := t.coef, cbanks := t.cbanks, flight := t.flight, compl := t.compl } ∧
      (cbank t (bankIx (par f 0 1) (par f 1 1) (decide (par f 2 1 = 1)))).loaded = true ∧
      (cbank t (bankIx (par f 0 1) (par f 1 1) (decide (par f 2 1 = 1)))).std = par f 3 1 ∧
      (cbank t (bankIx (par f 0 1) (par f 1 1) (decide (par f 2 1 = 1)))).phase = decide (par f 3 1 = 3) ∧
      (cbank t (bankIx (par f 0 1) (par f 1 1) (decide (par f 2 1 = 1)))).len16 =
        (if par f 3 1 = 2 then 4 else if par f 3 1 = 4 then 1 else 16) ∧
      (par f 3 1 ≠ 3 → (cbank t (bankIx (par f 0 1) (par f 1 1) (decide (par f 2 1 = 1)))).delay =
        (16 * (cbank t (bankIx (par f 0 1) (par f 1 1) (decide (par f 2 1 = 1)))).len16 - 1) * 65536) ∧
      Ended f stOk (leBytes 4 (bankDesc (cbank t (bankIx (par f 0 1) (par f 1 1) (decide (par f 2 1 = 1))))) ++
        leBytes 4 (cbank t (bankIx (par f 0 1) (par f 1 1) (decide (par f 2 1 = 1)))).delay) s t ∧
      (∀ i, i ≠ bankIx (par f 0 1) (par f 1 1) (decide (par f 2 1 = 1)) → cbank t i = cbank s i) ∧
      rg t (fltReg (par f 0 1) 0x24) = word (satAdd 32 (rg s (fltReg (par f 0 1) 0x24)).toNat 1) ∧
      bit (rg t (pgIrq .flt (par f 0 1))) 1 = true) ∧
  (∀ (p : Path) (tag : Nat) (f : Flight) (s : State), IsNext p tag 0x0208 f s → f.buf.length = 1036 → par f 0 1 ≤ 15 → par f 1 1 ≤ 3 →
    par f 2 1 ≤ 1 → par f 3 1 = 0 → 1 ≤ par f 4 1 → par f 4 1 ≤ 16 → par f 5 1 ≤ 1 → expert s .flt (par f 0 1) = false →
    bankRefusal s (par f 0 1) (par f 1 1) (decide (par f 2 1 = 1)) = none → tget [] s.sealing (par f 0 1) = [] →
    ∃ t, exec (.fltLoadBank p tag) s = .next t ∧
      t = { s with regs := t.regs, evt := t.evt, coef := t.coef, cbanks := t.cbanks, flight := t.flight, compl := t.compl } ∧
      (∀ n, n < 256 → tget 0 t.coef (256 * bankIx (par f 0 1) (par f 1 1) (decide (par f 2 1 = 1)) + n) = word (leAt f.buf (12 + 4 * n) 4)) ∧
      (∀ i, i ≠ bankIx (par f 0 1) (par f 1 1) (decide (par f 2 1 = 1)) → cbank t i = cbank s i) ∧
      (if crc32 (bankBytes t (bankIx (par f 0 1) (par f 1 1) (decide (par f 2 1 = 1))) (word (par f 5 1 + par f 4 1 * 16))) ≠ par f 8 4 then
        Ended f stChecksum [] s t ∧ (cbank t (bankIx (par f 0 1) (par f 1 1) (decide (par f 2 1 = 1)))).loaded = false
      else par f 5 1 = 0 →
        Ended f stOk (leBytes 4 (bankDesc (cbank t (bankIx (par f 0 1) (par f 1 1) (decide (par f 2 1 = 1))))) ++
          leBytes 4 ((16 * par f 4 1 - 1) * 65536)) s t ∧
        cbank t (bankIx (par f 0 1) (par f 1 1) (decide (par f 2 1 = 1))) =
          { loaded := true, std := 0, len16 := par f 4 1, phase := false, crc := par f 8 4, delay := (16 * par f 4 1 - 1) * 65536 })) ∧
  (∀ (p : Path) (tag : Nat) (f : Flight) (s : State), IsNext p tag 0x0208 f s → f.buf.length = 12 → par f 0 1 ≤ 15 → par f 1 1 ≤ 3 →
    par f 2 1 ≤ 1 → 1 ≤ par f 3 1 → par f 3 1 ≤ 4 → expert s .flt (par f 0 1) = false → bankRefusal s (par f 0 1) (par f 1 1) (decide (par f 2 1 = 1)) = none →
    tget [] s.sealing (par f 0 1) ≠ [] →
    ∃ t, exec (.fltLoadBank p tag) s = .next t ∧ t.coef = s.coef ∧ t.cbanks = s.cbanks ∧ Ended f stBusy [] s t)

/-- Banks by command (R370, R371, R375 to R377, R381, R395): MEM_ASSIGN hands a released bank over; MEM_READ and MEM_WRITE
move words of a bank the path may touch, up to the first word that collides, report an uncorrectable one, and count a refusal
once; MEM_TEST of an unowned bank starts the test and waits. What log entry 123 names in this is the model's choice or
reading. -/
def Obligations.BankCommands : Prop :=
  (∀ (p : Path) (tag : Nat) (f : Flight) (s : State), IsNext p tag 0x0500 f s → f.buf.length = 4 → par f 0 1 ≤ 11 → par f 1 1 ≤ 7 → par f 2 1 ≤ 1 →
    expert s .mem 0 = false → released s (par f 0 1) = true → s.mem.test ≠ some (par f 0 1) →
    (bankOwner s (par f 0 1) ≠ par f 1 1 ∨ bankShare s (par f 0 1) ≠ decide (par f 2 1 = 1)) →
    ∃ t, exec (.memAssign p tag) s = .next t ∧ t = { s with regs := t.regs, evt := t.evt, mem := t.mem, flight := t.flight, compl := t.compl } ∧
      bankOwner t (par f 0 1) = par f 1 1 ∧ bankShare t (par f 0 1) = decide (par f 2 1 = 1) ∧ (∀ b, b < 12 → b ≠ par f 0 1 → bankOwner t b = bankOwner s b) ∧ t.mem.words = s.mem.words ∧
      rg t 0xA034 = word (satAdd 32 (rg s 0xA034).toNat 1) ∧ bit (rg t 0xA010) 5 = true ∧ Ended f stOk [] s t) ∧
  (∀ (p : Path) (tag : Nat) (f : Flight) (s : State), IsNext p tag 0x0500 f s → f.buf.length = 4 → par f 0 1 ≤ 11 → par f 1 1 ≤ 7 → par f 2 1 ≤ 1 →
    expert s .mem 0 = false → released s (par f 0 1) = false →
    (bankOwner s (par f 0 1) ≠ par f 1 1 ∨ bankShare s (par f 0 1) ≠ decide (par f 2 1 = 1)) →
    ∃ t, exec (.memAssign p tag) s = .next t ∧ rg t (bankCfgA (par f 0 1)) = rg s (bankCfgA (par f 0 1)) ∧ bankOwner t (par f 0 1) = bankOwner s (par f 0 1) ∧ Ended f stBusy [] s t) ∧
  (∀ (p : Path) (tag : Nat) (f : Flight) (s : State), IsNext p tag 0x0501 f s → f.buf.length = 12 → xferBad f 2016 = false → bankOpen f.path (par f 0 1) s = true →
    (∀ i, i < par f 8 4 / 8 → tget 0 s.mem.errs (262144 * par f 0 1 + xferOff f i / 8) = 0) →
    ∃ t, exec (.memRead p tag []) s = .next t ∧ t = { s with regs := t.regs, flight := t.flight, compl := t.compl } ∧ SameRegs [0x5024] s t ∧
      Ended f stOk ((List.range (par f 8 4 / 8)).flatMap (fun i => leBytes 8 (memGet s (262144 * par f 0 1 + (par f 4 4 + 8 * i) % 2 ^ 21 / 8)))) s t) ∧
  (∀ (p : Path) (tag n : Nat) (h : List (Nat × MemHit)) (f : Flight) (s : State), IsNext p tag 0x0501 f s → f.buf.length = 12 → f.path = .host →
    xferBad f 2016 = false → windowOk s (par f 0 1) = true → n < par f 8 4 / 8 → collKind s (par f 0 1) (hitAt h n).kind = 2 →
    (∀ i, i < n → collKind s (par f 0 1) (hitAt h i).kind ≠ 2) →
    ∃ t, exec (.memRead p tag h) s = .next t ∧ t.mem.words = s.mem.words ∧ t.mem.hstat = s.mem.hstat ∧ bit (rg t 0xA010) 2 = true ∧
      Ended f stBusy ((List.range n).flatMap (fun i => leBytes 8 (memGet s (262144 * par f 0 1 + xferOff f i / 8)))) s t) ∧
  (∀ (p : Path) (tag n : Nat) (h : List (Nat × MemHit)) (f : Flight) (s : State), IsNext p tag 0x0501 f s → f.buf.length = 12 → xferBad f 2016 = false →
    bankOpen f.path (par f 0 1) s = true → (∀ i, i < par f 8 4 / 8 → (hitAt h i).kind = 0 ∧ (hitAt h i).err ≤ 2) → n < par f 8 4 / 8 → (hitAt h n).err = 2 →
    ∃ t, exec (.memRead p tag h) s = .next t ∧ t.mem.words = s.mem.words ∧ bit (rg t 0xA010) 1 = true ∧
      Ended f stHwFault ((List.range (par f 8 4 / 8)).flatMap (fun i => leBytes 8 (memGet s (262144 * par f 0 1 + xferOff f i / 8)))) s t) ∧
  (∀ (p : Path) (tag : Nat) (h : List (Nat × MemHit)) (f : Flight) (s : State), IsNext p tag 0x0501 f s → f.buf.length = 12 → xferBad f 2016 = false →
    bankOpen f.path (par f 0 1) s = false →
    ∃ t, exec (.memRead p tag h) s = .next t ∧ t = { s with regs := t.regs, evt := t.evt, flight := t.flight, compl := t.compl } ∧
      rg t 0xA028 = word (satAdd 32 (rg s 0xA028).toNat 1) ∧ Ended f stNotPermitted [] s t) ∧
  (∀ (p : Path) (tag : Nat) (f : Flight) (s : State), IsNext p tag 0x0502 f s → 12 ≤ f.buf.length → f.buf.length = 12 + par f 8 4 →
    xferBad f 2008 = false → bankOpen f.path (par f 0 1) s = true →
    ∃ t, exec (.memWrite p tag []) s = .next t ∧
      t = { s with regs := t.regs, mem := { s.mem with words := t.mem.words, errs := t.mem.errs, inj := t.mem.inj }, flight := t.flight, compl := t.compl } ∧
      (∀ i, i < par f 8 4 / 8 → memGet t (262144 * par f 0 1 + xferOff f i / 8) = par f (12 + 8 * i) 8) ∧
      (∀ a, (∀ i, i < par f 8 4 / 8 → a ≠ 262144 * par f 0 1 + xferOff f i / 8) → memGet t a = memGet s a) ∧ SameRegs [0x5024] s t ∧ Ended f stOk [] s t) ∧
  (∀ (p : Path) (tag n : Nat) (h : List (Nat × MemHit)) (f : Flight) (s : State), IsNext p tag 0x0502 f s → 12 ≤ f.buf.length →
    f.buf.length = 12 + par f 8 4 → f.path = .host → xferBad f 2008 = false → windowOk s (par f 0 1) = true → n < par f 8 4 / 8 →
    (collKind s (par f 0 1) (hitAt h n).kind = 1 ∨ collKind s (par f 0 1) (hitAt h n).kind = 3) →
    (∀ i, i < n → collKind s (par f 0 1) (hitAt h i).kind = 0) →
    ∃ t, exec (.memWrite p tag h) s = .next t ∧ t.mem.hstat = s.mem.hstat ∧ bit (rg t 0xA010) 2 = true ∧
      (∀ i, i < n → memGet t (262144 * par f 0 1 + xferOff f i / 8) = par f (12 + 8 * i) 8) ∧
      (∀ a, (∀ i, i < n → a ≠ 262144 * par f 0 1 + xferOff f i / 8) → memGet t a = memGet s a) ∧ Ended f stBusy [] s t) ∧
  (∀ (p : Path) (tag : Nat) (h : List (Nat × MemHit)) (f : Flight) (s : State), IsNext p tag 0x0502 f s → 12 ≤ f.buf.length → f.buf.length = 12 + par f 8 4 →
    xferBad f 2008 = false → bankOpen f.path (par f 0 1) s = false →
    ∃ t, exec (.memWrite p tag h) s = .next t ∧ t = { s with regs := t.regs, evt := t.evt, flight := t.flight, compl := t.compl } ∧
      rg t 0xA028 = word (satAdd 32 (rg s 0xA028).toNat 1) ∧ Ended f stNotPermitted [] s t) ∧
  (∀ (p : Path) (tag : Nat) (f : Flight) (s : State), IsNext p tag 0x0503 f s → f.buf.length = 4 → par f 0 1 ≤ 11 → expert s .mem 0 = false →
    s.mem.test = none → bankOwner s (par f 0 1) = ownNone →
    ∃ t, exec (.memTest p tag) s = .next t ∧ t = { s with regs := t.regs, mem := { s.mem with test := some (par f 0 1) }, flight := t.flight } ∧
      rg t 0xA0F0 = word (par f 0 1) ∧ SameRegs [0xA0F0] s t ∧ Waits f (.memTest (par f 0 1)) s t) ∧
  (∀ (p : Path) (tag : Nat) (f : Flight) (s : State), IsNext p tag 0x0503 f s → f.buf.length = 4 → par f 0 1 ≤ 11 → expert s .mem 0 = false →
    bankOwner s (par f 0 1) ≠ ownNone →
    ∃ t, exec (.memTest p tag) s = .next t ∧ t.mem = s.mem ∧ Ended f stBusy [] s t)

/-- Time by command (R192, R199, R208, R214, R395): TIME_STATUS takes the snapshot and answers it; TIME_STEP adopts the
measured error where a step is needed, or an absolute time on a timing root, from its next second, and on a hub without a
qualified source, and waits; else it is refused; TIME_SET_ASYM writes one lane's asymmetry; TIME_SCHEDULE writes and arms an
event at least 2 us ahead, or drops one; an armed event ends it with BUSY, an instant too near with BAD_PARAM. What log
entries 119, 120 and 121 name in this is the model's choice or reading. -/
def Obligations.TimeCommands : Prop :=
  (∀ (p : Path) (tag : Nat) (f : Flight) (s : State), IsNext p tag 0x0300 f s → f.buf = [] →
    ∃ t, exec (.timeStatus p tag) s = .next t ∧
      t = { s with regs := t.regs, tmb := { s.tmb with snap := ⟨s.c, netNow s, tmbStateWord s⟩ }, flight := t.flight, compl := t.compl } ∧ SameRegs [0x5024] s t ∧
      Ended f stOk (leBytes 8 s.c ++ leBytes 12 (inst96 (netNow s)) ++ leBytes 4 (tmbStateWord s).toNat ++
        leBytes 8 (BitVec.ofInt 64 s.tmb.rho).toNat ++ leBytes 4 (satS32 (toPs s.tmb.e)) ++ leBytes 4 (sat32 (effBound s (256 * s.c)))) s t) ∧
  (∀ (p : Path) (tag : Nat) (f : Flight) (s : State), IsNext p tag 0x0301 f s → f.buf.length = 16 → par f 0 1 = 0 → expert s .tmb 0 = false →
    s.tmb.stepNeeded = true →
    ∃ t, exec (.timeStep p tag) s = .next t ∧ t = { s with tmb := { s.tmb with step := some (.delta (-s.tmb.e)) }, flight := t.flight } ∧ Waits f .step s t) ∧
  (∀ (p : Path) (tag : Nat) (f : Flight) (s : State), IsNext p tag 0x0301 f s → f.buf.length = 16 → par f 0 1 = 1 → expert s .tmb 0 = false →
    isRoot s = false → bestSrc s = none →
    ∃ t, exec (.timeStep p tag) s = .next t ∧ Waits f .step s t ∧
      t = { s with tmb := { s.tmb with step := some (.abs ((par f 4 12 * 2 ^ 16 : Nat) : Int) (256 * s.c) none) }, flight := t.flight }) ∧
  (∀ (p : Path) (tag : Nat) (f : Flight) (s : State), IsNext p tag 0x0301 f s → f.buf.length = 16 → par f 0 1 = 0 → expert s .tmb 0 = false →
    s.tmb.stepNeeded = false →
    ∃ t, exec (.timeStep p tag) s = .next t ∧ t.tmb = s.tmb ∧ Ended f stNotPermitted [] s t) ∧
  (∀ (p : Path) (tag : Nat) (f : Flight) (s : State), IsNext p tag 0x0301 f s → f.buf.length = 16 → par f 0 1 = 1 → expert s .tmb 0 = false →
    isRoot s = false → (bestSrc s).isSome = true →
    ∃ t, exec (.timeStep p tag) s = .next t ∧ t.tmb = s.tmb ∧ Ended f stNotPermitted [] s t) ∧
  (∀ (p : Path) (tag : Nat) (f : Flight) (s : State), IsNext p tag 0x0301 f s → f.buf.length = 16 → par f 0 1 = 1 → expert s .tmb 0 = false →
    isRoot s = true →
    ∃ t, exec (.timeStep p tag) s = .next t ∧ Waits f .step s t ∧ SameRegs [0x30A0, 0x30A4] s t ∧ rg t 0x30A0 = word (par f 4 12 / 2 ^ 48) ∧
      t = { s with regs := t.regs, tmb := { s.tmb with pps := { s.tmb.pps with todValid := true, first := none } }, flight := t.flight }) ∧
  (∀ (p : Path) (tag : Nat) (f : Flight) (s : State), IsNext p tag 0x0302 f s → f.buf.length = 8 → par f 0 1 ≤ 7 → expert s .tmb 0 = false →
    ∃ t, exec (.timeSetAsym p tag) s = .next t ∧ t = { s with regs := t.regs, flight := t.flight, compl := t.compl } ∧
      rg t (0x3104 + 0x20 * par f 0 1) = word (par f 4 4) ∧ SameRegs [0x3104 + 0x20 * par f 0 1, 0x5024] s t ∧ Ended f stOk [] s t) ∧
  (∀ (p : Path) (tag : Nat) (f : Flight) (s : State), IsNext p tag 0x0303 f s → f.buf.length = 20 → par f 0 1 ≤ 15 → par f 1 1 ≤ 5 → par f 4 4 < 2 ^ 24 →
    expert s .tmb 0 = false → evtArmed s (par f 0 1) = false → netNow s + ns64 2000 ≤ ((par f 8 12 * 2 ^ 16 : Nat) : Int) →
    ∃ t, exec (.timeSchedule p tag) s = .next t ∧ t = { s with regs := t.regs, tmb := t.tmb, flight := t.flight, compl := t.compl } ∧
      evtArmed t (par f 0 1) = true ∧ evtBase t (par f 0 1) = ((par f 8 12 * 2 ^ 16 : Nat) : Int) ∧ af t (evtCfgA (par f 0 1)) 0 4 = par f 1 1 ∧
      af t (evtCfgA (par f 0 1)) 8 24 = par f 4 4 ∧ (∀ e, e ≠ par f 0 1 → evtArmed t e = evtArmed s e) ∧ Ended f stOk [] s t) ∧
  (∀ (p : Path) (tag : Nat) (f : Flight) (s : State), IsNext p tag 0x0303 f s → f.buf.length = 20 → par f 0 1 ≤ 15 → par f 1 1 = 0xFF → par f 4 4 < 2 ^ 24 →
    expert s .tmb 0 = false →
    ∃ t, exec (.timeSchedule p tag) s = .next t ∧ evtArmed t (par f 0 1) = false ∧ SameRegs [0x5024] s t ∧ Ended f stOk [] s t) ∧
  (∀ (p : Path) (tag : Nat) (f : Flight) (s : State), IsNext p tag 0x0303 f s → f.buf.length = 20 → par f 0 1 ≤ 15 → par f 1 1 ≤ 5 → par f 4 4 < 2 ^ 24 →
    expert s .tmb 0 = false → evtArmed s (par f 0 1) = true →
    ∃ t, exec (.timeSchedule p tag) s = .next t ∧ t = { s with regs := t.regs, flight := t.flight, compl := t.compl } ∧
      SameRegs [0x5024, 0x502C] s t ∧ Ended f stBusy [] s t) ∧
  (∀ (p : Path) (tag : Nat) (f : Flight) (s : State), IsNext p tag 0x0303 f s → f.buf.length = 20 → par f 0 1 ≤ 15 → par f 1 1 ≤ 5 → par f 4 4 < 2 ^ 24 →
    expert s .tmb 0 = false → evtArmed s (par f 0 1) = false → ((par f 8 12 * 2 ^ 16 : Nat) : Int) < netNow s + ns64 2000 →
    ∃ t, exec (.timeSchedule p tag) s = .next t ∧ t = { s with regs := t.regs, tmb := t.tmb, flight := t.flight, compl := t.compl } ∧
      (∀ e, evtArmed t e = evtArmed s e) ∧ Ended f stBadParam [] s t)

/-- Capture by command (R240, R248, R252, R255, R395): ACQ_ARM fills an idle plan whose banks belong to ACQ and answers its
status, is refused with BUSY while it runs, and with a configuration stages it and waits for the apply; ACQ_DISARM stops a
filling or ready plan and holds one that has its trigger; ACQ_OFFLOAD of a held plan starts and waits; ACQ_FORCE writes the
instant and fires with it the plans that select the source and hold the window; GLEAN_SET stages one unit. What log entries
24, 121 and 122 name in this is the model's choice or reading. -/
def Obligations.CaptureCommands : Prop :=
  (∀ (p : Path) (tag : Nat) (f : Flight) (s : State), IsNext p tag 0x0400 f s → f.buf.length = 4 → par f 0 1 ≤ 7 → par f 1 1 = 0 →
    expert s .acq 0 = false → planNbk s (par f 0 1) ≠ 0 → (plan s (par f 0 1)).st = .idle → (plan s (par f 0 1)).offl = none → s.hub.st ≠ .safe →
    (∀ b, b < 12 → planHasBank s (par f 0 1) b = true → bankOwner s b = ownAcq) →
    ∃ t, exec (.acqArm p tag) s = .next t ∧
      t = { s with regs := t.regs, evt := t.evt, plans := t.plans, mem := t.mem, flight := t.flight, compl := t.compl } ∧
      (plan t (par f 0 1)).st = .filling ∧ (∀ j, j ≠ par f 0 1 → plan t j = plan s j) ∧ t.mem.words = s.mem.words ∧
      Ended f stOk (leBytes 4 (cpStatus t (par f 0 1))) s t) ∧
  (∀ (p : Path) (tag : Nat) (f : Flight) (s : State), IsNext p tag 0x0400 f s → f.buf.length = 4 → par f 0 1 ≤ 7 → par f 1 1 = 0 →
    expert s .acq 0 = false → planNbk s (par f 0 1) ≠ 0 → (plan s (par f 0 1)).st = .filling →
    ∃ t, exec (.acqArm p tag) s = .next t ∧ t.plans = s.plans ∧ Ended f stBusy [] s t) ∧
  (∀ (p : Path) (tag : Nat) (f : Flight) (s : State), IsNext p tag 0x0400 f s → f.buf.length = 32 → par f 0 1 ≤ 7 → par f 1 1 = 1 → OwnOpen f s →
    (∀ e ∈ cpStage f (par f 0 1), e.2 &&& ~~~(stMask e.1) = 0) → par f 28 4 ≤ 0x3F → expert s .acq 0 = false →
    (plan s (par f 0 1)).offl = none →
    ∃ t, exec (.acqArm p tag) s = .next t ∧ t = { s with regs := t.regs, staged := t.staged, cmt := t.cmt, flight := t.flight } ∧
      (∀ e ∈ cpStage f (par f 0 1), stg t e.1 = merge (pendRg s e.1) e.2 (stMask e.1)) ∧
      rg t (cpA (par f 0 1) 0x18) = word (par f 28 4) ∧ SameRegs [cpA (par f 0 1) 0x18] s t ∧ Waits f (.acqApply (par f 0 1)) s t) ∧
  (∀ (p : Path) (tag : Nat) (f : Flight) (s : State), IsNext p tag 0x0401 f s → f.buf.length = 4 → par f 0 1 ≤ 7 → expert s .acq 0 = false →
    ((plan s (par f 0 1)).st = .filling ∨ (plan s (par f 0 1)).st = .ready) →
    ∃ t, exec (.acqDisarm p tag) s = .next t ∧
      t = { s with regs := t.regs, evt := t.evt, taps := t.taps, plans := t.plans, mem := t.mem, flight := t.flight, compl := t.compl } ∧
      plan t (par f 0 1) = { cause := 2 } ∧ (∀ j, j ≠ par f 0 1 → plan t j = plan s j) ∧ t.mem.words = s.mem.words ∧
      Ended f stOk (leBytes 4 (cpStatus t (par f 0 1))) s t) ∧
  (∀ (p : Path) (tag : Nat) (f : Flight) (s : State), IsNext p tag 0x0401 f s → f.buf.length = 4 → par f 0 1 ≤ 7 → expert s .acq 0 = false →
    (plan s (par f 0 1)).st = .post →
    ∃ t, exec (.acqDisarm p tag) s = .next t ∧
      t = { s with regs := t.regs, evt := t.evt, taps := t.taps, plans := t.plans, mem := t.mem, flight := t.flight, compl := t.compl } ∧
      (plan t (par f 0 1)).st = .held ∧ (plan t (par f 0 1)).cause = 2 ∧ (plan t (par f 0 1)).trunc = true ∧
      (∀ j, j ≠ par f 0 1 → plan t j = plan s j) ∧ t.mem.words = s.mem.words ∧ Ended f stOk (leBytes 4 (cpStatus t (par f 0 1))) s t) ∧
  (∀ (p : Path) (tag : Nat) (f : Flight) (s : State), IsNext p tag 0x0401 f s → f.buf.length = 4 → par f 0 1 ≤ 7 → expert s .acq 0 = false →
    ((plan s (par f 0 1)).st = .idle ∨ (plan s (par f 0 1)).st = .held) →
    ∃ t, exec (.acqDisarm p tag) s = .next t ∧ t.plans = s.plans ∧ Ended f stBusy [] s t) ∧
  (∀ (p : Path) (tag : Nat) (f : Flight) (s : State), IsNext p tag 0x0402 f s → f.buf.length = 12 → expert s .acq 0 = false →
    ∃ t, exec (.acqForce p tag) s = .next t ∧
      t = { s with c := t.c, regs := t.regs, evt := t.evt, taps := t.taps, tmb := t.tmb, lanes := t.lanes, plans := t.plans, dups := t.dups, pubId := t.pubId, flight := t.flight, compl := t.compl } ∧
      rg t 0xD150 = word (t0Word (parInst f 0)) ∧ rg t 0xD154 = word (t1Word (parInst f 0)) ∧ rg t 0xD158 = word (t2Word (parInst f 0)) ∧
      Ended f stOk [] s t) ∧
  (∀ (p : Path) (tag j : Nat) (f : Flight) (s : State), IsNext p tag 0x0402 f s → f.buf.length = 12 → expert s .acq 0 = false → parInst f 0 ≠ 0 →
    j < 8 → bit (rg s (cpA j 0xC)) 19 = true → (srcPub s 19).1 = false → ((plan s j).st = .filling ∨ (plan s j).st = .ready) →
    (plan s j).kFirst + planPre s j ≤ planIdx s j (parInst f 0) →
    planNext (plan s j) + planPre s j ≤ planIdx s j (parInst f 0) + planS s j →
    planIdx s j (parInst f 0) < planNext (plan s j) + 64 * planOdr s j →
    ∃ t, exec (.acqForce p tag) s = .next t ∧ (plan t j).st = .post ∧ (plan t j).trig = parInst f 0 ∧ (plan t j).tsrc = 19) ∧
  (∀ (p : Path) (tag : Nat) (f : Flight) (s : State), IsNext p tag 0x0403 f s → f.buf.length = 4 → par f 0 1 ≤ 7 → par f 1 1 ≤ 1 →
    expert s .acq 0 = false → (plan s (par f 0 1)).st = .held → (plan s (par f 0 1)).offl = none →
    ∃ t, exec (.acqOffload p tag) s = .next t ∧ t = { s with plans := t.plans, flight := t.flight } ∧ Waits f (.offload (par f 0 1)) s t ∧
      plan t (par f 0 1) = { plan s (par f 0 1) with offl := some { q := af s (cpA (par f 0 1) 0x18) 0 4, compress := bit (rg s (cpA (par f 0 1) 0x18)) 4, live := false }, offdone := false } ∧
      (∀ j, j ≠ par f 0 1 → plan t j = plan s j)) ∧
  (∀ (p : Path) (tag : Nat) (f : Flight) (s : State), IsNext p tag 0x0403 f s → f.buf.length = 4 → par f 0 1 ≤ 7 → par f 1 1 ≤ 1 →
    expert s .acq 0 = false → (plan s (par f 0 1)).st ≠ .held →
    ∃ t, exec (.acqOffload p tag) s = .next t ∧ t.plans = s.plans ∧ Ended f stBusy [] s t) ∧
  (∀ (p : Path) (tag : Nat) (f : Flight) (s : State), IsNext p tag 0x0404 f s → f.buf.length = 12 → OwnOpen f s → par f 0 1 ≤ 15 → par f 1 1 ≤ 31 →
    par f 2 1 ≤ 15 → expert s .gln 0 = false →
    ∃ t, exec (.gleanSet p tag) s = .next t ∧
      StagedBy [(guA (par f 0 1) 0, word (par f 4 2 + par f 2 1 * 2 ^ 16 + par f 1 1 * 2 ^ 24)), (guA (par f 0 1) 4, word (par f 8 4)),
        (guA (par f 0 1) 8, word (par f 6 2 + par f 3 1 * 2 ^ 16))] f s t)

/-- Links and streams by command (R261, R317, R338, R395): LINK_ROUTE and STREAM_SET stage exactly their registers;
LINK_STATUS answers and clears the lane's counters; LINK_PRBS opens, stages and arms a session of its own and waits; the end
of the pattern opens the session that restores the lane. What log entry 124 names in this is the model's choice or reading. -/
def Obligations.LinkCommands : Prop :=
  (∀ (p : Path) (tag : Nat) (f : Flight) (s : State), IsNext p tag 0x0600 f s → f.buf.length = 4 → par f 0 1 ≤ 7 →
    ∃ t, exec (.linkStatus p tag) s = .next t ∧ t = { s with regs := t.regs, flight := t.flight, compl := t.compl } ∧
      Ended f stOk ([0x50, 0x54, 0x110, 0x104, 0x108].flatMap (fun o => leBytes 4 (readVal s (lnkReg (par f 0 1) o)).toNat) ++
        (List.range 8).flatMap (fun j => leBytes 4 (rg s (0x10020 + 0x1000 * par f 0 1 + 4 * j)).toNat)) s t ∧
      (∀ i, i < 8 → rg t (0x10020 + 0x1000 * par f 0 1 + 4 * i) = 0) ∧
      (∀ a, (∀ i, i < 8 → a ≠ 0x10020 + 0x1000 * par f 0 1 + 4 * i) → a ≠ 0x5024 → rg t a = rg s a)) ∧
  (∀ (p : Path) (tag : Nat) (f : Flight) (s : State), IsNext p tag 0x0600 f s → f.buf.length = 4 → 7 < par f 0 1 →
    ∃ t, exec (.linkStatus p tag) s = .next t ∧ SameRegs [0x5024, 0x502C] s t ∧ Ended f stBadParam [] s t) ∧
  (∀ (p : Path) (tag : Nat) (f : Flight) (s : State), IsNext p tag 0x0601 f s → f.buf.length = 12 → OwnOpen f s → par f 0 1 ≤ 3 → par f 1 1 ≤ 7 →
    par f 2 1 ≤ 15 → par f 3 1 ≤ 7 → par f 5 1 ≤ 11 → par f 8 2 ≤ 511 → par f 10 2 ≤ 511 → expert s .rte 0 = false → expert s .que 0 = false →
    ∃ t, exec (.linkRoute p tag) s = .next t ∧
      StagedBy [(rteCfgA (par f 0 1), setFld (setFld (setFld (setFld (setFld (stg s (rteCfgA (par f 0 1))) 31 1 (par f 1 1 % 2)) 16 4 (par f 2 1)) 12 1 (par f 1 1 / 2 % 2)) 8 3 (par f 3 1)) 0 8 (par f 4 1)),
        (rteCfgA (par f 0 1) + 4, word (par f 6 2)),
        (queCfgA (par f 2 1), setFld (setFld (setFld (setFld (setFld (setFld (stg s (queCfgA (par f 2 1))) 31 1 (par f 1 1 % 2)) 23 8 0) 22 1 (par f 1 1 / 4 % 2)) 18 4 (par f 5 1)) 9 9 (par f 10 2)) 0 9 (par f 8 2))] f s t) ∧
  (∀ (p : Path) (tag : Nat) (f : Flight) (s : State), IsNext p tag 0x0602 f s → f.buf.length = 8 → par f 0 1 ≤ 7 → par f 1 1 ≤ 4 → par f 2 1 ≤ 6 →
    par f 3 1 ≤ 15 → par f 4 4 ≠ 0 → expert s .lnk (par f 0 1) = false → s.cmt.st = .closed → s.hub.st ≠ .resync →
    ∃ t, exec (.linkPrbs p tag) s = .next t ∧
      t = { s with regs := t.regs, staged := t.staged, cmt := t.cmt, evt := t.evt, lanes := t.lanes, flight := t.flight } ∧
      t.cmt.st = .checking ∧ t.cmt.arming = true ∧ t.cmt.owner = ownerCmd f.path ∧ Waits f (.prbs (par f 0 1) 0 (par f 4 4) stOk) s t ∧
      fld (stg t (lnkReg (par f 0 1) 0x40)) 0 2 = 1 ∧ (∀ a, a ≠ lnkReg (par f 0 1) 0x40 → stg t a = stg { s with staged := [], regs := t.regs } a)) ∧
  (∀ (p : Path) (tag : Nat) (f : Flight) (s : State), IsNext p tag 0x0602 f s → f.buf.length = 8 → par f 0 1 ≤ 7 → par f 1 1 ≤ 4 → par f 2 1 ≤ 6 →
    par f 3 1 ≤ 15 → par f 4 4 ≠ 0 → expert s .lnk (par f 0 1) = false → s.cmt.st ≠ .closed → s.hub.st ≠ .resync →
    ∃ t, exec (.linkPrbs p tag) s = .next t ∧ t.lanes = s.lanes ∧ t.staged = s.staged ∧ Ended f stBusy [] s t) ∧
  (∀ (n u e : Nat) (f : Flight) (s : State), running s = true → prbsDue s n = some (f, u, e) → f.wait = .prbs n 1 u e → s.cmt.st = .closed → s.hub.st ≠ .resync →
    ∃ t, exec (.linkPrbsEnd n) s = .next t ∧ t = { s with regs := t.regs, staged := t.staged, cmt := t.cmt, flight := t.flight } ∧
      t.cmt.st = .checking ∧ t.cmt.arming = true ∧ t.cmt.owner = ownerCmd f.path ∧ SameRegs [0x2048, 0x2050, 0x2054] s t ∧
      (∀ x ∈ t.flight, x.path = f.path → x.tag = f.tag → x.wait = .prbs n 3 u e)) ∧
  (∀ (p : Path) (tag : Nat) (f : Flight) (s : State), IsNext p tag 0x0603 f s → f.buf.length = 20 → OwnOpen f s → par f 0 1 ≤ 31 → 1 ≤ par f 1 1 →
    par f 1 1 ≤ 3 → par f 2 1 ≤ 15 → 1 ≤ par f 3 1 → par f 3 1 ≤ 64 → par f 4 1 ≤ 63 → par f 6 1 ≤ 11 → par f 7 1 ≤ 4 → par f 10 2 ≤ 511 →
    par f 12 2 ≤ 511 → expert s .que 0 = false →
    ∃ t, exec (.streamSet p tag) s = .next t ∧
      StagedBy ([(strA (par f 0 1) 0, setFld (setFld (setFld (setFld (setFld (stg s (strA (par f 0 1) 0)) 31 1 (par f 4 1 % 2)) 28 1 (par f 4 1 / 2 % 2)) 16 6 (par f 3 1 - 1)) 12 4 (par f 2 1)) 10 2 (par f 1 1)),
        (strA (par f 0 1) 4, word (par f 8 2)), (strA (par f 0 1) 8, word (par f 16 4))] ++
        (if par f 4 1 / 4 % 2 = 1 then
          [(queCfgA (par f 2 1), setFld (setFld (setFld (setFld (setFld (setFld (stg s (queCfgA (par f 2 1))) 31 1 (par f 4 1 / 8 % 2))
            23 8 (par f 5 1)) 22 1 (par f 4 1 / 16 % 2)) 18 4 (par f 6 1)) 9 9 (par f 12 2)) 0 9 (par f 10 2))] else []) ++
        (if par f 4 1 / 32 % 2 = 1 then [(0xB040, setFld (stg s 0xB040) 0 3 (par f 7 1))] else [])) f s t)

/-- Twin and beacon by command (R355, R359, R368, R369, R403, R413, R414, R395): TWIN_STATUS answers the twin's registers;
TWIN_SWAP_NOW of the token's holder adds a swap at least 64 frames ahead and waits, of another hub it ends with ROLE;
TWIN_SET_LEASE and BCN_SET stage exactly their registers; BCN_SCHEDULE writes and arms the strings of its mask and no other,
and where one is armed already or R414 refuses it changes none; BCN_DIAG starts a diagnosis of open and shorted strings, or of
adjacent pins where no string is driven, and waits; one of no string ends at once. What log entry 124 names in this is the
model's choice or reading. -/
def Obligations.TwinAndBeaconCommands : Prop :=
  (∀ (p : Path) (tag : Nat) (f : Flight) (s : State), IsNext p tag 0x0700 f s → f.buf = [] →
    ∃ t, exec (.twinStatus p tag) s = .next t ∧ t = { s with regs := t.regs, flight := t.flight, compl := t.compl } ∧ SameRegs [0x5024] s t ∧
      Ended f stOk (leBytes 4 (twnStatus s) ++ leBytes 4 (twnSerial s) ++ leBytes 8 s.twn.pepoch ++ leBytes 8 (s.twn.next.getD 0) ++
        leBytes 4 (twnAge s) ++ leBytes 4 (twnRsyncSt s)) s t) ∧
  (∀ (p : Path) (tag : Nat) (f : Flight) (s : State), IsNext p tag 0x0701 f s → f.buf.length = 8 → expert s .twn 0 = false → s.twn.token = true →
    s.twn.added = none → s.frame + 256 < par f 0 8 →
    ∃ t, exec (.twinSwapNow p tag) s = .next t ∧ t = { s with regs := t.regs, twn := { s.twn with added := some (par f 0 8) }, flight := t.flight } ∧
      SameRegs [0x7050, 0x7054] s t ∧ Waits f .swap s t) ∧
  (∀ (p : Path) (tag : Nat) (f : Flight) (s : State), IsNext p tag 0x0701 f s → f.buf.length = 8 → expert s .twn 0 = false → s.twn.token = true →
    s.twn.added = none → (par f 0 8 = 0 ∨ s.frame + 64 ≤ par f 0 8) →
    ∃ t, exec (.twinSwapNow p tag) s = .next t ∧ t = { s with regs := t.regs, lanes := t.lanes, twn := t.twn, flight := t.flight } ∧
      t.twn.added = some (if par f 0 8 = 0 then s.frame + 256 else par f 0 8) ∧ t.twn.token = true ∧ t.twn.serial = s.twn.serial ∧
      SameRegs [0x7050, 0x7054] s t ∧ Waits f .swap s t) ∧
  (∀ (p : Path) (tag : Nat) (f : Flight) (s : State), IsNext p tag 0x0701 f s → f.buf.length = 8 → expert s .twn 0 = false → s.twn.token = false →
    ∃ t, exec (.twinSwapNow p tag) s = .next t ∧ t.twn = s.twn ∧ Ended f stRole [] s t) ∧
  (∀ (p : Path) (tag : Nat) (f : Flight) (s : State), IsNext p tag 0x0701 f s → f.buf.length = 8 → expert s .twn 0 = false → s.twn.token = true →
    s.twn.added ≠ none →
    ∃ t, exec (.twinSwapNow p tag) s = .next t ∧ t.twn = s.twn ∧ Ended f stBusy [] s t) ∧
  (∀ (p : Path) (tag : Nat) (f : Flight) (s : State), IsNext p tag 0x0701 f s → f.buf.length = 8 → expert s .twn 0 = false → s.twn.token = true →
    s.twn.added = none → par f 0 8 ≠ 0 → par f 0 8 < s.frame + 64 →
    ∃ t, exec (.twinSwapNow p tag) s = .next t ∧ t.twn = s.twn ∧ Ended f stBadParam [] s t) ∧
  (∀ (p : Path) (tag : Nat) (f : Flight) (s : State), IsNext p tag 0x0702 f s → f.buf.length = 12 → OwnOpen f s → par f 1 1 ≤ 15 → par f 4 4 < 2 ^ 24 →
    par f 8 4 < 2 ^ 24 → expert s .twn 0 = false →
    ∃ t, exec (.twinSetLease p tag) s = .next t ∧
      StagedBy [(0x7040, setFld (setFld (stg s 0x7040) 0 8 (par f 0 1)) 8 4 (par f 1 1)), (0x7044, setFld (stg s 0x7044) 0 24 (par f 4 4)),
        (0x7048, setFld (stg s 0x7048) 0 24 (par f 8 4))] f s t) ∧
  (∀ (p : Path) (tag : Nat) (f : Flight) (s : State), IsNext p tag 0x0800 f s → f.buf.length = 8 → OwnOpen f s → par f 0 1 ≤ 15 → (par f 1 1 ≤ 1 ∨ par f 1 1 = 2 ∧ isTwin s = false) →
    (par f 2 2 ≤ 511 ∨ par f 2 2 = 0xFFFF) → par f 4 2 ≤ 4095 → expert s .bcn 0 = false →
    ∃ t, exec (.bcnSet p tag) s = .next t ∧
      StagedBy [(bstrCfgA (par f 0 1), setFld (setFld (setFld (setFld (stg s (bstrCfgA (par f 0 1))) 29 1 (bbit (decide (par f 2 2 ≠ 0xFFFF)) 0))
          20 9 (bbit (decide (par f 2 2 ≠ 0xFFFF)) 0 * par f 2 2)) 16 2 (par f 1 1)) 0 12 (par f 4 2)),
        (bstrCfgA (par f 0 1) + 4, word (par f 6 2))] f s t) ∧
  (∀ (p : Path) (tag : Nat) (f : Flight) (s : State), IsNext p tag 0x0800 f s → f.buf.length = 8 → OwnOpen f s → par f 0 1 ≤ 15 → par f 1 1 = 2 →
    (par f 2 2 ≤ 511 ∨ par f 2 2 = 0xFFFF) → par f 4 2 ≤ 4095 → expert s .bcn 0 = false → isTwin s = true →
    ∃ t, exec (.bcnSet p tag) s = .next t ∧ t.staged = s.staged ∧ Ended f stRole [] s t) ∧
  (∀ (p : Path) (tag : Nat) (f : Flight) (s : State), IsNext p tag 0x0801 f s → f.buf.length = 28 → par f 20 4 < 2 ^ 24 → expert s .bcn 0 = false →
    schOk s (parInst f 4) (par f 16 4) (par f 20 4) (par f 24 4) = true →
    (∀ m, m < 16 → (par f 0 2).testBit m = true → (bstr s m).armed = false) →
    ∃ t, exec (.bcnSchedule p tag) s = .next t ∧ t = { s with regs := t.regs, bcn := t.bcn, flight := t.flight, compl := t.compl } ∧
      (∀ m, m < 16 → (par f 0 2).testBit m = true → (bstr t m).armed = true ∧ (bstr t m).idx = 0 ∧ rg t (bschA m 0x0C) = word (par f 16 4) ∧
        rg t (bschA m 0x10) = word (par f 20 4) ∧ rg t (bschA m 0x14) = word (par f 24 4)) ∧
      (∀ m, m < 16 → (par f 0 2).testBit m = false → bstr t m = bstr s m) ∧ Ended f stOk [] s t) ∧
  (∀ (p : Path) (tag m : Nat) (f : Flight) (s : State), IsNext p tag 0x0801 f s → f.buf.length = 28 → par f 20 4 < 2 ^ 24 → expert s .bcn 0 = false →
    schOk s (parInst f 4) (par f 16 4) (par f 20 4) (par f 24 4) = true → m < 16 → (par f 0 2).testBit m = true → (bstr s m).armed = true →
    ∃ t, exec (.bcnSchedule p tag) s = .next t ∧ t.bcn = s.bcn ∧ Ended f stBusy [] s t) ∧
  (∀ (p : Path) (tag : Nat) (f : Flight) (s : State), IsNext p tag 0x0801 f s → f.buf.length = 28 → par f 20 4 < 2 ^ 24 → expert s .bcn 0 = false →
    schOk s (parInst f 4) (par f 16 4) (par f 20 4) (par f 24 4) = false →
    ∃ t, exec (.bcnSchedule p tag) s = .next t ∧ t.bcn = s.bcn ∧ Ended f stBadParam [] s t) ∧
  (∀ (p : Path) (tag : Nat) (f : Flight) (s : State), IsNext p tag 0x0802 f s → f.buf.length = 4 → par f 2 1 = 0 → par f 0 2 ≠ 0 → expert s .bcn 0 = false →
    s.bcn.test = none →
    ∃ t, exec (.bcnDiag p tag) s = .next t ∧ t = { s with bcn := t.bcn, flight := t.flight } ∧ t.bcn.test = some (par f 0 2 % 65536, false) ∧
      (∀ m, m < 16 → (par f 0 2).testBit m = true → (bstr t m).pulse = some (s.ord + 1, 0, true)) ∧
      (∀ m, m < 16 → (par f 0 2).testBit m = false → bstr t m = bstr s m) ∧ Waits f .diag s t) ∧
  (∀ (p : Path) (tag : Nat) (f : Flight) (s : State), IsNext p tag 0x0802 f s → f.buf.length = 4 → par f 2 1 ≤ 1 → expert s .bcn 0 = false →
    s.bcn.test ≠ none →
    ∃ t, exec (.bcnDiag p tag) s = .next t ∧ t.bcn = s.bcn ∧ Ended f stBusy [] s t) ∧
  (∀ (p : Path) (tag : Nat) (f : Flight) (s : State), IsNext p tag 0x0802 f s → f.buf.length = 4 → par f 2 1 = 1 → expert s .bcn 0 = false →
    s.bcn.test = none → bcnDriving s = false →
    ∃ t, exec (.bcnDiag p tag) s = .next t ∧ t = { s with bcn := { s.bcn with test := some (par f 0 2 % 65536, true), moved := 0 }, flight := t.flight } ∧
      Waits f .diag s t) ∧
  (∀ (p : Path) (tag : Nat) (f : Flight) (s : State), IsNext p tag 0x0802 f s → f.buf.length = 4 → par f 2 1 = 1 → expert s .bcn 0 = false →
    s.bcn.test = none → bcnDriving s = true →
    ∃ t, exec (.bcnDiag p tag) s = .next t ∧ t.bcn = s.bcn ∧ Ended f stNotPermitted [] s t) ∧
  (∀ (p : Path) (tag : Nat) (f : Flight) (s : State), IsNext p tag 0x0802 f s → f.buf.length = 4 → par f 2 1 = 0 → par f 0 2 = 0 → expert s .bcn 0 = false →
    s.bcn.test = none → (∀ x ∈ s.flight, x.path = f.path → x.tag = f.tag → x = f) →
    ∃ t, exec (.bcnDiag p tag) s = .next t ∧ t.bcn.test = none ∧ bit (rg t 0x8010) 7 = true ∧ (∀ m, m < 16 → bstr t m = bstr s m) ∧
      (∃ c ∈ t.compl, c.path = f.path ∧ c.tag = f.tag ∧ c.gen = f.gen ∧ c.op = f.op ∧ c.status = stOk))

/-- Diagnostics by command (R424, R425, R427, R395): DIAG_COUNTERS of a page answers its eight counters and clears them;
DIAG_BIST starts a self-test and waits, or ends with BUSY; DIAG_PERTURB needs the unlocked hub and a kind the page knows, and
takes effect at the next tick. What log entry 78 names in this is the model's choice or reading. -/
def Obligations.DiagnosticCommands : Prop :=
  (∀ (p : Path) (tag i : Nat) (k : PageK) (f : Flight) (s : State), IsNext p tag 0x0900 f s → f.buf.length = 4 → pageOfBase (par f 0 4) = some (k, i) →
    ∃ t, exec (.diagCounters p tag) s = .next t ∧ (∀ j, j < 8 → par f 0 4 + 0x20 + 4 * j ≠ 0x5024 → rg t (par f 0 4 + 0x20 + 4 * j) = 0) ∧
      (∀ a, (∀ j, j < 8 → a ≠ par f 0 4 + 0x20 + 4 * j) → a ≠ 0x5024 → rg t a = rg s a) ∧
      t = { s with regs := t.regs, flight := t.flight, compl := t.compl } ∧
      Ended f stOk ((List.range 8).flatMap (fun j => leBytes 4 (rg s (par f 0 4 + 0x20 + 4 * j)).toNat)) s t) ∧
  (∀ (p : Path) (tag : Nat) (f : Flight) (s : State), IsNext p tag 0x0900 f s → f.buf.length = 4 → pageOfBase (par f 0 4) = none →
    ∃ t, exec (.diagCounters p tag) s = .next t ∧ SameRegs [0x5024, 0x502C] s t ∧ Ended f stBadParam [] s t) ∧
  (∀ (p : Path) (tag : Nat) (f : Flight) (s : State), IsNext p tag 0x0901 f s → f.buf.length = 4 → par f 0 1 ≤ 3 → s.tst.bist = none →
    ∃ t, exec (.diagBist p tag) s = .next t ∧ t = { s with tst := { s.tst with bist := some (par f 0 1) }, flight := t.flight } ∧ Waits f (.bist (par f 0 1)) s t) ∧
  (∀ (p : Path) (tag : Nat) (f : Flight) (s : State), IsNext p tag 0x0901 f s → f.buf.length = 4 → par f 0 1 ≤ 3 → s.tst.bist ≠ none →
    ∃ t, exec (.diagBist p tag) s = .next t ∧ t.tst = s.tst ∧ Ended f stBusy [] s t) ∧
  (∀ (p : Path) (tag i : Nat) (k : PageK) (f : Flight) (s : State), IsNext p tag 0x0902 f s → f.buf.length = 8 → pageOfBase (par f 0 4) = some (k, i) →
    unlocked s = true → pertKnown k (fld (word (par f 4 4)) 0 4) (fld (word (par f 4 4)) 4 12) = true →
    ∃ t, exec (.diagPerturb p tag) s = .next t ∧ t = { s with regs := t.regs, tst := { s.tst with due := t.tst.due }, flight := t.flight, compl := t.compl } ∧
      rg t (pgPerturb k i) = word (par f 4 4) &&& 0x00FFFFFF#32 ∧ tget false t.tst.due (pageBase k i) = true ∧
      SameRegs [pgPerturb k i, 0x5024] s t ∧ Ended f stOk [] s t) ∧
  (∀ (p : Path) (tag i : Nat) (k : PageK) (f : Flight) (s : State), IsNext p tag 0x0902 f s → f.buf.length = 8 → pageOfBase (par f 0 4) = some (k, i) →
    unlocked s = false →
    ∃ t, exec (.diagPerturb p tag) s = .next t ∧ t.tst = s.tst ∧ SameRegs [0x5024, 0x502C] s t ∧ Ended f stNotPermitted [] s t)
end

