-- ==== Sys2Proof/Laws/Tbl.lean ====
section
/-! SUPPORT. Laws of the sparse tables: a read after a write, and the canonical form that every write keeps. -/

namespace Sys2Proof.Machine

variable {α : Type}

@[simp] theorem tget_nil (d : α) (k : Nat) : tget d [] k = d := rfl

theorem tget_tinsert_self (d : α) (t : Tbl α) (k : Nat) (v : α) : tget d (tinsert t k v) k = v := by
  induction t with
  | nil => simp [tinsert, tget]
  | cons e r ih =>
    obtain ⟨j, w⟩ := e
    unfold tinsert
    split
    · simp [tget]
    · split
      · simp [tget]
      · rename_i h _
        simp [tget, Ne.symm h, ih]

theorem tget_tinsert_ne (d : α) (t : Tbl α) {k j : Nat} (v : α) (h : j ≠ k) : tget d (tinsert t k v) j = tget d t j := by
  induction t with
  | nil => simp [tinsert, tget, Ne.symm h]
  | cons e r ih =>
    obtain ⟨i, w⟩ := e
    unfold tinsert
    split
    · rename_i hk
      subst hk
      simp [tget, Ne.symm h]
    · split
      · simp [tget, Ne.symm h]
      · simp only [tget, ih]

theorem tget_terase_self (d : α) (t : Tbl α) (k : Nat) : tget d (terase t k) k = d := by
  induction t with
  | nil => rfl
  | cons e r ih =>
    obtain ⟨j, w⟩ := e
    unfold terase
    split
    · exact ih
    · rename_i h
      simp [tget, h, ih]

theorem tget_terase_ne (d : α) (t : Tbl α) {k j : Nat} (h : j ≠ k) : tget d (terase t k) j = tget d t j := by
  induction t with
  | nil => rfl
  | cons e r ih =>
    obtain ⟨i, w⟩ := e
    unfold terase
    split
    · rename_i hi
      subst hi
      simp [tget, Ne.symm h, ih]
    · simp only [tget, ih]

theorem mem_terase {t : Tbl α} {k : Nat} {e : Nat × α} (h : e ∈ terase t k) : e ∈ t := by
  induction t with
  | nil => exact h
  | cons x r ih =>
    obtain ⟨j, w⟩ := x
    unfold terase at h
    split at h
    · exact List.mem_cons_of_mem _ (ih h)
    · rcases List.mem_cons.1 h with h | h
      · exact h ▸ List.mem_cons_self
      · exact List.mem_cons_of_mem _ (ih h)

theorem mem_tinsert {t : Tbl α} {k : Nat} {v : α} {e : Nat × α} (h : e ∈ tinsert t k v) : e ∈ t ∨ e = (k, v) := by
  induction t with
  | nil => simpa [tinsert] using h
  | cons x r ih =>
    obtain ⟨j, w⟩ := x
    unfold tinsert at h
    split at h
    · rcases List.mem_cons.1 h with h | h
      · exact .inr h
      · exact .inl (List.mem_cons_of_mem _ h)
    · split at h
      · rcases List.mem_cons.1 h with h | h
        · exact .inr h
        · exact .inl h
      · rcases List.mem_cons.1 h with h | h
        · exact .inl (h ▸ List.mem_cons_self)
        · exact (ih h).imp (List.mem_cons_of_mem _) id

variable [DecidableEq α]

/-- A key reads as what was last written to it. -/
@[simp] theorem tget_tset_self (d : α) (t : Tbl α) (k : Nat) (v : α) : tget d (tset d t k v) k = v := by
  unfold tset
  split
  · rename_i h
    rw [tget_terase_self, h]
  · exact tget_tinsert_self d t k v

/-- A write leaves every other key alone, whatever its unlisted value. -/
theorem tget_tset_ne' (d e : α) (t : Tbl α) {k j : Nat} (v : α) (h : j ≠ k) : tget e (tset d t k v) j = tget e t j := by
  unfold tset
  split
  · exact tget_terase_ne e t h
  · exact tget_tinsert_ne e t v h

@[simp] theorem tget_tset_ne (d : α) (t : Tbl α) {k j : Nat} (v : α) (h : j ≠ k) : tget d (tset d t k v) j = tget d t j :=
  tget_tset_ne' d d t v h

theorem tget_tset (d : α) (t : Tbl α) (k j : Nat) (v : α) : tget d (tset d t k v) j = if j = k then v else tget d t j := by
  split
  · rename_i h
    subst h
    exact tget_tset_self d t j v
  · rename_i h
    exact tget_tset_ne d t v h

@[simp] theorem tget_tmod_self (d : α) (t : Tbl α) (k : Nat) (f : α → α) : tget d (tmod d t k f) k = f (tget d t k) :=
  tget_tset_self d t k _

@[simp] theorem tget_tmod_ne (d : α) (t : Tbl α) {k j : Nat} (f : α → α) (h : j ≠ k) : tget d (tmod d t k f) j = tget d t j :=
  tget_tset_ne d t _ h

/-! ### The canonical form -/

theorem twfFrom_cons (d : Nat → α) (lo : Option Nat) (j : Nat) (v : α) (r : Tbl α) :
    twfFrom d lo ((j, v) :: r) = true ↔ (∀ l ∈ lo, l < j) ∧ v ≠ d j ∧ twfFrom d (some j) r = true := by
  cases lo <;> simp [twfFrom, and_assoc]

theorem twfFrom_weaken (d : Nat → α) {lo lo' : Option Nat} {t : Tbl α} (h : ∀ l ∈ lo', ∃ m ∈ lo, l ≤ m)
    (ht : twfFrom d lo t = true) : twfFrom d lo' t = true := by
  cases t with
  | nil => cases lo' <;> rfl
  | cons e r =>
    obtain ⟨j, v⟩ := e
    rw [twfFrom_cons] at ht ⊢
    refine ⟨fun l hl => ?_, ht.2⟩
    obtain ⟨m, hm, hle⟩ := h l hl
    exact lt_of_le_of_lt hle (ht.1 m hm)

theorem twfFrom_tail (d : Nat → α) {lo : Option Nat} {j : Nat} {v : α} {r : Tbl α} (h : twfFrom d lo ((j, v) :: r) = true) :
    twfFrom d lo r = true := by
  rw [twfFrom_cons] at h
  refine twfFrom_weaken d (fun l hl => ⟨j, rfl, le_of_lt (h.1 l hl)⟩) h.2.2

theorem twfFrom_terase (d : Nat → α) (lo : Option Nat) (t : Tbl α) (k : Nat) (h : twfFrom d lo t = true) :
    twfFrom d lo (terase t k) = true := by
  induction t generalizing lo with
  | nil => exact h
  | cons e r ih =>
    obtain ⟨j, w⟩ := e
    unfold terase
    split
    · exact ih lo (twfFrom_tail d h)
    · rw [twfFrom_cons] at h ⊢
      exact ⟨h.1, h.2.1, ih _ h.2.2⟩

theorem twfFrom_tinsert (d : Nat → α) (lo : Option Nat) (t : Tbl α) (k : Nat) (v : α) (hlo : ∀ l ∈ lo, l < k) (hv : v ≠ d k)
    (h : twfFrom d lo t = true) : twfFrom d lo (tinsert t k v) = true := by
  induction t generalizing lo with
  | nil => exact (twfFrom_cons d lo k v []).2 ⟨hlo, hv, rfl⟩
  | cons e r ih =>
    obtain ⟨j, w⟩ := e
    unfold tinsert
    have h' := (twfFrom_cons d lo j w r).1 h
    split
    · rename_i hk
      subst hk
      exact (twfFrom_cons d lo k v r).2 ⟨hlo, hv, h'.2.2⟩
    · split
      · rename_i hlt
        refine (twfFrom_cons d lo k v _).2 ⟨hlo, hv, (twfFrom_cons d _ j w r).2 ⟨fun l hl => ?_, h'.2⟩⟩
        cases hl
        exact hlt
      · rename_i hne hlt
        refine (twfFrom_cons d lo j w _).2 ⟨h'.1, h'.2.1, ih (some j) (fun l hl => ?_) h'.2.2⟩
        cases hl
        omega

/-- A write keeps the canonical form. -/
theorem twf_tset (d : Nat → α) (t : Tbl α) (k : Nat) (v : α) (h : twf d t = true) : twf d (tset (d k) t k v) = true := by
  unfold tset
  split
  · exact twfFrom_terase d none t k h
  · rename_i hv
    exact twfFrom_tinsert d none t k v (by simp) hv h

/-- Dropping entries keeps the canonical form. -/
theorem twf_filter (d : Nat → α) (t : Tbl α) (p : Nat × α → Bool) (h : twf d t = true) : twf d (t.filter p) = true := by
  unfold twf at *
  generalize none = lo at h
  induction t generalizing lo with
  | nil => exact h
  | cons e r ih =>
    obtain ⟨j, w⟩ := e
    rw [List.filter_cons]
    split
    · rw [twfFrom_cons] at h ⊢
      exact ⟨h.1, h.2.1, ih _ h.2.2⟩
    · exact ih _ (twfFrom_tail d h)

theorem tget_below (d : Nat → α) {lo : Option Nat} {t : Tbl α} {k : Nat} (h : twfFrom d lo t = true) (hk : ∃ l ∈ lo, k ≤ l)
    (e : α) : tget e t k = e := by
  induction t generalizing lo with
  | nil => rfl
  | cons x r ih =>
    obtain ⟨j, w⟩ := x
    rw [twfFrom_cons] at h
    obtain ⟨l, hl, hle⟩ := hk
    have hj := h.1 l hl
    rw [tget, if_neg (by omega)]
    exact ih h.2.2 ⟨j, rfl, by omega⟩

/-- Two canonical tables that read alike are the same data. -/
theorem twf_ext (d : Nat → α) {t u : Tbl α} (ht : twf d t = true) (hu : twf d u = true)
    (h : ∀ k, tget (d k) t k = tget (d k) u k) : t = u := by
  unfold twf at ht hu
  generalize none = lo at ht hu
  induction t generalizing u lo with
  | nil =>
    cases u with
    | nil => rfl
    | cons e r =>
      obtain ⟨j, w⟩ := e
      have := h j
      rw [twfFrom_cons] at hu
      simp [tget] at this
      exact absurd this.symm hu.2.1
  | cons e r ih =>
    obtain ⟨j, w⟩ := e
    cases u with
    | nil =>
      have := h j
      rw [twfFrom_cons] at ht
      simp [tget] at this
      exact absurd this ht.2.1
    | cons f q =>
      obtain ⟨i, v⟩ := f
      have ht' := (twfFrom_cons d lo j w r).1 ht
      have hu' := (twfFrom_cons d lo i v q).1 hu
      have key : j = i := by
        rcases Nat.lt_trichotomy j i with hlt | heq | hgt
        · have := h j
          rw [tget, if_pos rfl, tget, if_neg (by omega), tget_below d hu'.2.2 ⟨i, rfl, by omega⟩] at this
          exact absurd this ht'.2.1
        · exact heq
        · have := h i
          rw [tget, if_neg (by omega), tget_below d ht'.2.2 ⟨j, rfl, by omega⟩, tget, if_pos rfl] at this
          exact absurd this.symm hu'.2.1
      subst key
      have hw : w = v := by
        have := h j
        simpa [tget] using this
      subst hw
      congr 1
      refine ih (fun k => ?_) (some j) ht'.2.2 hu'.2.2
      by_cases hk : k ≤ j
      · rw [tget_below d ht'.2.2 ⟨j, rfl, hk⟩, tget_below d hu'.2.2 ⟨j, rfl, hk⟩]
      · have := h k
        rwa [tget, if_neg (by omega), tget, if_neg (by omega)] at this

end Sys2Proof.Machine
end

