-- ==== Sys2Proof/Laws/Footprint.lean ====
section
/-! SUPPORT. Footprints: `Same m s t` says that `t` differs from `s` only in the fields whose bit is set in `m`, that no
waiting command was taken or added, and that the stores kept their canonical form. -/

namespace Sys2Proof.Machine

open Sys2Proof

/-- `t` comes from `s` by changes of the fields in the mask only. -/
structure Same (m : Nat) (s t : State) : Prop where
  c : m.testBit 0 = true ∨ t.c = s.c
  frame : m.testBit 1 = true ∨ t.frame = s.frame
  ord : m.testBit 2 = true ∨ t.ord = s.ord
  freeIdx : m.testBit 3 = true ∨ t.freeIdx = s.freeIdx
  regs : m.testBit 4 = true ∨ t.regs = s.regs
  staged : m.testBit 5 = true ∨ t.staged = s.staged
  dspPend : m.testBit 6 = true ∨ t.dspPend = s.dspPend
  dspQ : m.testBit 7 = true ∨ t.dspQ = s.dspQ
  hiLatch : m.testBit 8 = true ∨ t.hiLatch = s.hiLatch
  rd : m.testBit 9 = true ∨ t.rd = s.rd
  pwr : m.testBit 10 = true ∨ t.pwr = s.pwr
  dies : m.testBit 11 = true ∨ t.dies = s.dies
  hub : m.testBit 12 = true ∨ t.hub = s.hub
  dsp : m.testBit 13 = true ∨ t.dsp = s.dsp
  cmt : m.testBit 14 = true ∨ t.cmt = s.cmt
  evt : m.testBit 15 = true ∨ t.evt = s.evt
  chans : m.testBit 16 = true ∨ t.chans = s.chans
  taps : m.testBit 17 = true ∨ t.taps = s.taps
  lts : m.testBit 18 = true ∨ t.lts = s.lts
  ltWait : m.testBit 19 = true ∨ t.ltWait = s.ltWait
  ltRes : m.testBit 20 = true ∨ t.ltRes = s.ltRes
  ltTicks : m.testBit 21 = true ∨ t.ltTicks = s.ltTicks
  modStart : m.testBit 22 = true ∨ t.modStart = s.modStart
  startAt : m.testBit 23 = true ∨ t.startAt = s.startAt
  restart : m.testBit 24 = true ∨ t.restart = s.restart
  excs : m.testBit 25 = true ∨ t.excs = s.excs
  refs : m.testBit 26 = true ∨ t.refs = s.refs
  auxs : m.testBit 27 = true ∨ t.auxs = s.auxs
  slots : m.testBit 28 = true ∨ t.slots = s.slots
  coef : m.testBit 29 = true ∨ t.coef = s.coef
  cbanks : m.testBit 30 = true ∨ t.cbanks = s.cbanks
  profs : m.testBit 31 = true ∨ t.profs = s.profs
  sealing : m.testBit 32 = true ∨ t.sealing = s.sealing
  tmb : m.testBit 33 = true ∨ t.tmb = s.tmb
  seqAgree : m.testBit 34 = true ∨ t.seqAgree = s.seqAgree
  lin : m.testBit 35 = true ∨ t.lin = s.lin
  lanes : m.testBit 36 = true ∨ t.lanes = s.lanes
  passes : m.testBit 37 = true ∨ t.passes = s.passes
  grecs : m.testBit 38 = true ∨ t.grecs = s.grecs
  streams : m.testBit 39 = true ∨ t.streams = s.streams
  queues : m.testBit 40 = true ∨ t.queues = s.queues
  rwdSt : m.testBit 41 = true ∨ t.rwdSt = s.rwdSt
  tunits : m.testBit 42 = true ∨ t.tunits = s.tunits
  plans : m.testBit 43 = true ∨ t.plans = s.plans
  gunits : m.testBit 44 = true ∨ t.gunits = s.gunits
  dups : m.testBit 45 = true ∨ t.dups = s.dups
  pubId : m.testBit 46 = true ∨ t.pubId = s.pubId
  arc : m.testBit 47 = true ∨ t.arc = s.arc
  dcmp : m.testBit 48 = true ∨ t.dcmp = s.dcmp
  mem : m.testBit 49 = true ∨ t.mem = s.mem
  rtePath : m.testBit 50 = true ∨ t.rtePath = s.rtePath
  twn : m.testBit 51 = true ∨ t.twn = s.twn
  bcn : m.testBit 52 = true ∨ t.bcn = s.bcn
  jtag : m.testBit 53 = true ∨ t.jtag = s.jtag
  hst : m.testBit 54 = true ∨ t.hst = s.hst
  tst : m.testBit 55 = true ∨ t.tst = s.tst
  flight : m.testBit 56 = true ∨ t.flight = s.flight
  compl : m.testBit 57 = true ∨ t.compl = s.compl
  words : m.testBit 58 = true ∨ t.mem.words = s.mem.words
  pending : t.pending = s.pending
  regsKeep : regsOk s.regs = true → regsOk t.regs = true
  memKeep : memOk s.mem.words = true → memOk t.mem.words = true

/-- The same of every next state of an outcome, and of every state an option holds. -/
structure SameO (m : Nat) (s : State) (o : Host.Outcome State Fault Refusal) : Prop where
  get : ∀ t, o = .next t → Same m s t
structure SameP (m : Nat) (s : State) (o : Option State) : Prop where
  get : ∀ t, o = some t → Same m s t

theorem Same.refl (m : Nat) (s : State) : Same m s s :=
  ⟨.inr rfl, .inr rfl, .inr rfl, .inr rfl, .inr rfl, .inr rfl, .inr rfl, .inr rfl, .inr rfl, .inr rfl, .inr rfl, .inr rfl, .inr rfl, .inr rfl, .inr rfl, .inr rfl, .inr rfl, .inr rfl, .inr rfl, .inr rfl, .inr rfl, .inr rfl, .inr rfl, .inr rfl, .inr rfl, .inr rfl, .inr rfl, .inr rfl, .inr rfl, .inr rfl, .inr rfl, .inr rfl, .inr rfl, .inr rfl, .inr rfl, .inr rfl, .inr rfl, .inr rfl, .inr rfl, .inr rfl, .inr rfl, .inr rfl, .inr rfl, .inr rfl, .inr rfl, .inr rfl, .inr rfl, .inr rfl, .inr rfl, .inr rfl, .inr rfl, .inr rfl, .inr rfl, .inr rfl, .inr rfl, .inr rfl, .inr rfl, .inr rfl, .inr rfl, rfl, id, id⟩

theorem testBit_up {k m i : Nat} (h : k ||| m = m) (hk : k.testBit i = true) : m.testBit i = true := by
  rw [← h, Nat.testBit_or, hk, Bool.true_or]

theorem foot_up {α : Type} {k m i : Nat} {a b c : α} (h : k ||| m = m) (h1 : k.testBit i = true ∨ c = b)
    (h2 : m.testBit i = true ∨ b = a) : m.testBit i = true ∨ c = a := by
  rcases h1 with h1 | h1
  · exact .inl (testBit_up h h1)
  · exact h2.imp id (fun e => h1.trans e)

theorem orUp {k n m : Nat} (h : k ||| n = n) (hm : n ||| m = m) : k ||| m = m := by
  rw [← hm, ← Nat.or_assoc, h]

theorem Same.step {k m : Nat} {s x t : State} (h : Same k x t) (hk : k ||| m = m) (g : Same m s x) : Same m s t :=
  ⟨foot_up hk h.c g.c, foot_up hk h.frame g.frame, foot_up hk h.ord g.ord, foot_up hk h.freeIdx g.freeIdx, foot_up hk h.regs g.regs, foot_up hk h.staged g.staged, foot_up hk h.dspPend g.dspPend, foot_up hk h.dspQ g.dspQ, foot_up hk h.hiLatch g.hiLatch, foot_up hk h.rd g.rd, foot_up hk h.pwr g.pwr, foot_up hk h.dies g.dies, foot_up hk h.hub g.hub, foot_up hk h.dsp g.dsp, foot_up hk h.cmt g.cmt, foot_up hk h.evt g.evt, foot_up hk h.chans g.chans, foot_up hk h.taps g.taps, foot_up hk h.lts g.lts, foot_up hk h.ltWait g.ltWait, foot_up hk h.ltRes g.ltRes, foot_up hk h.ltTicks g.ltTicks, foot_up hk h.modStart g.modStart, foot_up hk h.startAt g.startAt, foot_up hk h.restart g.restart, foot_up hk h.excs g.excs, foot_up hk h.refs g.refs, foot_up hk h.auxs g.auxs, foot_up hk h.slots g.slots, foot_up hk h.coef g.coef, foot_up hk h.cbanks g.cbanks, foot_up hk h.profs g.profs, foot_up hk h.sealing g.sealing, foot_up hk h.tmb g.tmb, foot_up hk h.seqAgree g.seqAgree, foot_up hk h.lin g.lin, foot_up hk h.lanes g.lanes, foot_up hk h.passes g.passes, foot_up hk h.grecs g.grecs, foot_up hk h.streams g.streams, foot_up hk h.queues g.queues, foot_up hk h.rwdSt g.rwdSt, foot_up hk h.tunits g.tunits, foot_up hk h.plans g.plans, foot_up hk h.gunits g.gunits, foot_up hk h.dups g.dups, foot_up hk h.pubId g.pubId, foot_up hk h.arc g.arc, foot_up hk h.dcmp g.dcmp, foot_up hk h.mem g.mem, foot_up hk h.rtePath g.rtePath, foot_up hk h.twn g.twn, foot_up hk h.bcn g.bcn, foot_up hk h.jtag g.jtag, foot_up hk h.hst g.hst, foot_up hk h.tst g.tst, foot_up hk h.flight g.flight, foot_up hk h.compl g.compl, foot_up hk h.words g.words,
    h.pending.trans g.pending, fun a => h.regsKeep (g.regsKeep a), fun a => h.memKeep (g.memKeep a)⟩

theorem Same.trans {m : Nat} {s x t : State} (h : Same m x t) (g : Same m s x) : Same m s t := h.step (Nat.or_self m) g

theorem Same.mono {k m : Nat} {s t : State} (h : Same k s t) (hk : k ||| m = m) : Same m s t := h.step hk (Same.refl m s)

/-- The field that a footprint leaves open, or the one before. -/
def pick {α : Type} (m i : Nat) (a b : α) : α := if m.testBit i then a else b

theorem pick_eq {α : Type} {m i : Nat} {a b : α} (h : m.testBit i = true ∨ a = b) : a = pick m i a b := by
  unfold pick
  split
  · rfl
  · rename_i n
    exact h.resolve_left n

/-- A footprint as an equation: with a numeral for `m` the right side is `s` with the named fields of `t`, by `rfl`. -/
theorem Same.eq {m : Nat} {s t : State} (h : Same m s t) : t = { c := pick m 0 t.c s.c, frame := pick m 1 t.frame s.frame, ord := pick m 2 t.ord s.ord, freeIdx := pick m 3 t.freeIdx s.freeIdx, regs := pick m 4 t.regs s.regs, staged := pick m 5 t.staged s.staged, dspPend := pick m 6 t.dspPend s.dspPend, dspQ := pick m 7 t.dspQ s.dspQ, hiLatch := pick m 8 t.hiLatch s.hiLatch, rd := pick m 9 t.rd s.rd, pwr := pick m 10 t.pwr s.pwr, dies := pick m 11 t.dies s.dies, hub := pick m 12 t.hub s.hub, dsp := pick m 13 t.dsp s.dsp, cmt := pick m 14 t.cmt s.cmt, evt := pick m 15 t.evt s.evt, chans := pick m 16 t.chans s.chans, taps := pick m 17 t.taps s.taps, lts := pick m 18 t.lts s.lts, ltWait := pick m 19 t.ltWait s.ltWait, ltRes := pick m 20 t.ltRes s.ltRes, ltTicks := pick m 21 t.ltTicks s.ltTicks, modStart := pick m 22 t.modStart s.modStart, startAt := pick m 23 t.startAt s.startAt, restart := pick m 24 t.restart s.restart, excs := pick m 25 t.excs s.excs, refs := pick m 26 t.refs s.refs, auxs := pick m 27 t.auxs s.auxs, slots := pick m 28 t.slots s.slots, coef := pick m 29 t.coef s.coef, cbanks := pick m 30 t.cbanks s.cbanks, profs := pick m 31 t.profs s.profs, sealing := pick m 32 t.sealing s.sealing, tmb := pick m 33 t.tmb s.tmb, seqAgree := pick m 34 t.seqAgree s.seqAgree, lin := pick m 35 t.lin s.lin, lanes := pick m 36 t.lanes s.lanes, passes := pick m 37 t.passes s.passes, grecs := pick m 38 t.grecs s.grecs, streams := pick m 39 t.streams s.streams, queues := pick m 40 t.queues s.queues, rwdSt := pick m 41 t.rwdSt s.rwdSt, tunits := pick m 42 t.tunits s.tunits, plans := pick m 43 t.plans s.plans, gunits := pick m 44 t.gunits s.gunits, dups := pick m 45 t.dups s.dups, pubId := pick m 46 t.pubId s.pubId, arc := pick m 47 t.arc s.arc, dcmp := pick m 48 t.dcmp s.dcmp, mem := pick m 49 t.mem s.mem, rtePath := pick m 50 t.rtePath s.rtePath, twn := pick m 51 t.twn s.twn, bcn := pick m 52 t.bcn s.bcn, jtag := pick m 53 t.jtag s.jtag, hst := pick m 54 t.hst s.hst, tst := pick m 55 t.tst s.tst, flight := pick m 56 t.flight s.flight, compl := pick m 57 t.compl s.compl, pending := s.pending } := by
  obtain ⟨h0, h1, h2, h3, h4, h5, h6, h7, h8, h9, h10, h11, h12, h13, h14, h15, h16, h17, h18, h19, h20, h21, h22, h23, h24, h25, h26, h27, h28, h29, h30, h31, h32, h33, h34, h35, h36, h37, h38, h39, h40, h41, h42, h43, h44, h45, h46, h47, h48, h49, h50, h51, h52, h53, h54, h55, h56, h57, _, hp, _, _⟩ := h
  refine Eq.trans (b := State.mk t.c t.frame t.ord t.freeIdx t.regs t.staged t.dspPend t.dspQ t.hiLatch t.rd t.pwr t.dies t.hub t.dsp t.cmt t.evt t.chans t.taps t.lts t.ltWait t.ltRes t.ltTicks t.modStart t.startAt t.restart t.excs t.refs t.auxs t.slots t.coef t.cbanks t.profs t.sealing t.tmb t.seqAgree t.lin t.lanes t.passes t.grecs t.streams t.queues t.rwdSt t.tunits t.plans t.gunits t.dups t.pubId t.arc t.dcmp t.mem t.rtePath t.twn t.bcn t.jtag t.hst t.tst t.flight t.compl t.pending) rfl ?_
  rw [← hp, ← pick_eq h0, ← pick_eq h1, ← pick_eq h2, ← pick_eq h3, ← pick_eq h4, ← pick_eq h5, ← pick_eq h6, ← pick_eq h7, ← pick_eq h8, ← pick_eq h9, ← pick_eq h10, ← pick_eq h11, ← pick_eq h12, ← pick_eq h13, ← pick_eq h14, ← pick_eq h15, ← pick_eq h16, ← pick_eq h17, ← pick_eq h18, ← pick_eq h19, ← pick_eq h20, ← pick_eq h21, ← pick_eq h22, ← pick_eq h23, ← pick_eq h24, ← pick_eq h25, ← pick_eq h26, ← pick_eq h27, ← pick_eq h28, ← pick_eq h29, ← pick_eq h30, ← pick_eq h31, ← pick_eq h32, ← pick_eq h33, ← pick_eq h34, ← pick_eq h35, ← pick_eq h36, ← pick_eq h37, ← pick_eq h38, ← pick_eq h39, ← pick_eq h40, ← pick_eq h41, ← pick_eq h42, ← pick_eq h43, ← pick_eq h44, ← pick_eq h45, ← pick_eq h46, ← pick_eq h47, ← pick_eq h48, ← pick_eq h49, ← pick_eq h50, ← pick_eq h51, ← pick_eq h52, ← pick_eq h53, ← pick_eq h54, ← pick_eq h55, ← pick_eq h56, ← pick_eq h57]

theorem Same.ite {m : Nat} {s a b : State} {c : Prop} [Decidable c] (ha : Same m s a) (hb : Same m s b) :
    Same m s (if c then a else b) := by split <;> assumption

theorem Same.dite {m : Nat} {s : State} {c : Prop} [Decidable c] {a : c → State} {b : ¬c → State} (ha : ∀ h, Same m s (a h))
    (hb : ∀ h, Same m s (b h)) : Same m s (if h : c then a h else b h) := by
  split
  · exact ha _
  · exact hb _

theorem Same.iteSnd {α : Type} {m : Nat} {s : State} {a b : α × State} {c : Prop} [Decidable c] (ha : Same m s a.2)
    (hb : Same m s b.2) : Same m s (if c then a else b).2 := by split <;> assumption

theorem Same.iteSnd2 {α β : Type} {m : Nat} {s : State} {a b : α × β × State} {c : Prop} [Decidable c] (ha : Same m s a.2.2)
    (hb : Same m s b.2.2) : Same m s (if c then a else b).2.2 := by split <;> assumption

theorem Same.iteSnd3 {α β γ : Type} {m : Nat} {s : State} {a b : α × β × γ × State} {c : Prop} [Decidable c]
    (ha : Same m s a.2.2.2) (hb : Same m s b.2.2.2) : Same m s (if c then a else b).2.2.2 := by split <;> assumption

theorem Same.foldl {α : Type} {m : Nat} {s : State} {f : State → α → State} {l : List α} {x : State} (hx : Same m s x)
    (hf : ∀ y a, Same m y (f y a)) : Same m s (l.foldl f x) := by
  induction l generalizing x with
  | nil => exact hx
  | cons a l ih => exact ih ((hf x a).trans hx)

/-- A fold whose accumulator carries the state behind a projection. -/
theorem Same.foldlOn {α β : Type} (p : β → State) {m : Nat} {s : State} {f : β → α → β} {l : List α} {x : β}
    (hx : Same m s (p x)) (hf : ∀ y a, Same m (p y) (p (f y a))) : Same m s (p (l.foldl f x)) := by
  induction l generalizing x with
  | nil => exact hx
  | cons a l ih => exact ih ((hf x a).trans hx)

theorem Same.foldlSnd2 {α β γ : Type} {m : Nat} {s : State} {f : β × γ × State → α → β × γ × State} {l : List α}
    {x : β × γ × State} (hx : Same m s x.2.2) (hf : ∀ y a, Same m y.2.2 (f y a).2.2) : Same m s (l.foldl f x).2.2 :=
  Same.foldlOn (fun p : β × γ × State => p.2.2) hx hf

theorem Same.foldlSnd3 {α β γ δ : Type} {m : Nat} {s : State} {f : β × γ × δ × State → α → β × γ × δ × State} {l : List α}
    {x : β × γ × δ × State} (hx : Same m s x.2.2.2) (hf : ∀ y a, Same m y.2.2.2 (f y a).2.2.2) : Same m s (l.foldl f x).2.2.2 :=
  Same.foldlOn (fun p : β × γ × δ × State => p.2.2.2) hx hf

theorem Same.forN {m n : Nat} {s x : State} {f : Nat → State → State} (hx : Same m s x) (hf : ∀ i y, Same m y (f i y)) :
    Same m s (Machine.forN n f x) := Same.foldl hx (fun y i => hf i y)

/-- The same with an accumulator that carries the state behind a projection. -/
theorem Same.forNOn {β : Type} (p : β → State) {m n : Nat} {s : State} {f : Nat → β → β} {x : β} (hx : Same m s (p x))
    (hf : ∀ i y, Same m (p y) (p (f i y))) : Same m s (p (Machine.forN n f x)) := Same.foldlOn p hx (fun y i => hf i y)

theorem Same.forL {α : Type} {m : Nat} {s x : State} {f : α → State → State} {l : List α} (hx : Same m s x)
    (hf : ∀ a y, Same m y (f a y)) : Same m s (Machine.forL l f x) := Same.foldl hx (fun y a => hf a y)

theorem Same.when {m : Nat} {c : Bool} {s x : State} {f : State → State} (hx : Same m s x) (hf : ∀ y, Same m y (f y)) :
    Same m s (Machine.when c f x) := by
  unfold Machine.when
  split
  · exact (hf x).trans hx
  · exact hx

theorem Same.ofPair {α : Type} {m : Nat} {s t : State} {r : α × State} {a : α} (e : r = (a, t)) (h : Same m s r.2) : Same m s t := by
  rw [e] at h
  exact h

theorem Same.ofSome {m : Nat} {s t : State} {o : Option State} (e : o = some t) (h : SameP m s o) : Same m s t := h.get t e

theorem Same.cut {m : Nat} {s x t : State} (h : Same m s x) (k : Same m s x → Same m s t) : Same m s t := k h

theorem SameO.cut {m : Nat} {s x : State} {o : Host.Outcome State Fault Refusal} (h : Same m s x) (k : Same m s x → SameO m s o) :
    SameO m s o := k h

theorem SameP.cut {m : Nat} {s x : State} {o : Option State} (h : Same m s x) (k : Same m s x → SameP m s o) : SameP m s o := k h

theorem Same.cutP {m : Nat} {s t : State} {x : Option State} (h : SameP m s x) (k : SameP m s x → Same m s t) : Same m s t := k h

theorem Same.pair {α : Type} {m : Nat} {s t : State} {a : α} (h : Same m s t) : Same m s (a, t).2 := h

theorem Same.pair2 {α β : Type} {m : Nat} {s : State} {a : α} {x : β × State} (h : Same m s x.2) : Same m s (a, x).2.2 := h

theorem Same.pair3 {α β γ : Type} {m : Nat} {s : State} {a : α} {x : β × γ × State} (h : Same m s x.2.2) :
    Same m s (a, x).2.2.2 := h

theorem Same.getD {m : Nat} {s d : State} {o : Option State} (ho : SameP m s o) (hd : Same m s d) : Same m s (o.getD d) := by
  cases o with
  | none => exact hd
  | some t => exact ho.get t rfl

theorem SameO.next {m : Nat} {s t : State} (h : Same m s t) : SameO m s (.next t) := by
  refine ⟨fun u e => ?_⟩
  cases e
  exact h

theorem SameO.ite {m : Nat} {s : State} {c : Prop} [Decidable c] {a b : Host.Outcome State Fault Refusal} (ha : SameO m s a)
    (hb : SameO m s b) : SameO m s (if c then a else b) := by split <;> assumption

theorem SameO.trans {m : Nat} {s x : State} {o : Host.Outcome State Fault Refusal} (h : SameO m x o) (g : Same m s x) : SameO m s o :=
  ⟨fun t e => (h.get t e).trans g⟩

theorem SameO.step {k m : Nat} {s x : State} {o : Host.Outcome State Fault Refusal} (h : SameO k x o) (hk : k ||| m = m)
    (g : Same m s x) : SameO m s o := ⟨fun t e => (h.get t e).step hk g⟩

theorem SameP.some {m : Nat} {s t : State} (h : Same m s t) : SameP m s (.some t) := by
  refine ⟨fun u e => ?_⟩
  cases e
  exact h

theorem SameP.none {m : Nat} {s : State} : SameP m s .none := by
  refine ⟨fun u e => ?_⟩
  cases e

theorem SameP.ite {m : Nat} {s : State} {c : Prop} [Decidable c] {a b : Option State} (ha : SameP m s a)
    (hb : SameP m s b) : SameP m s (if c then a else b) := by split <;> assumption

theorem SameP.map {α : Type} {m : Nat} {s : State} {o : Option α} {f : α → State} (h : ∀ a, o = .some a → Same m s (f a)) :
    SameP m s (o.map f) := by
  refine ⟨fun u e => ?_⟩
  obtain ⟨a, ha, rfl⟩ := Option.map_eq_some_iff.1 e
  exact h a ha

theorem SameP.step {k m : Nat} {s x : State} {o : Option State} (h : SameP k x o) (hk : k ||| m = m)
    (g : Same m s x) : SameP m s o := ⟨fun t e => (h.get t e).step hk g⟩

/-! ### Updates of one or a few fields -/

theorem upd_arc (s : State) (v0 : _) :
    Same 140737488355328 s { s with arc := v0 } :=
  ⟨.inr rfl, .inr rfl, .inr rfl, .inr rfl, .inr rfl, .inr rfl, .inr rfl, .inr rfl, .inr rfl, .inr rfl, .inr rfl, .inr rfl, .inr rfl, .inr rfl, .inr rfl, .inr rfl, .inr rfl, .inr rfl, .inr rfl, .inr rfl, .inr rfl, .inr rfl, .inr rfl, .inr rfl, .inr rfl, .inr rfl, .inr rfl, .inr rfl, .inr rfl, .inr rfl, .inr rfl, .inr rfl, .inr rfl, .inr rfl, .inr rfl, .inr rfl, .inr rfl, .inr rfl, .inr rfl, .inr rfl, .inr rfl, .inr rfl, .inr rfl, .inr rfl, .inr rfl, .inr rfl, .inr rfl, .inl rfl, .inr rfl, .inr rfl, .inr rfl, .inr rfl, .inr rfl, .inr rfl, .inr rfl, .inr rfl, .inr rfl, .inr rfl, .inr rfl, rfl, id, id⟩

theorem upd_auxs (s : State) (v0 : _) :
    Same 134217728 s { s with auxs := v0 } :=
  ⟨.inr rfl, .inr rfl, .inr rfl, .inr rfl, .inr rfl, .inr rfl, .inr rfl, .inr rfl, .inr rfl, .inr rfl, .inr rfl, .inr rfl, .inr rfl, .inr rfl, .inr rfl, .inr rfl, .inr rfl, .inr rfl, .inr rfl, .inr rfl, .inr rfl, .inr rfl, .inr rfl, .inr rfl, .inr rfl, .inr rfl, .inr rfl, .inl rfl, .inr rfl, .inr rfl, .inr rfl, .inr rfl, .inr rfl, .inr rfl, .inr rfl, .inr rfl, .inr rfl, .inr rfl, .inr rfl, .inr rfl, .inr rfl, .inr rfl, .inr rfl, .inr rfl, .inr rfl, .inr rfl, .inr rfl, .inr rfl, .inr rfl, .inr rfl, .inr rfl, .inr rfl, .inr rfl, .inr rfl, .inr rfl, .inr rfl, .inr rfl, .inr rfl, .inr rfl, rfl, id, id⟩

theorem upd_bcn (s : State) (v0 : _) :
    Same 4503599627370496 s { s with bcn := v0 } :=
  ⟨.inr rfl, .inr rfl, .inr rfl, .inr rfl, .inr rfl, .inr rfl, .inr rfl, .inr rfl, .inr rfl, .inr rfl, .inr rfl, .inr rfl, .inr rfl, .inr rfl, .inr rfl, .inr rfl, .inr rfl, .inr rfl, .inr rfl, .inr rfl, .inr rfl, .inr rfl, .inr rfl, .inr rfl, .inr rfl, .inr rfl, .inr rfl, .inr rfl, .inr rfl, .inr rfl, .inr rfl, .inr rfl, .inr rfl, .inr rfl, .inr rfl, .inr rfl, .inr rfl, .inr rfl, .inr rfl, .inr rfl, .inr rfl, .inr rfl, .inr rfl, .inr rfl, .inr rfl, .inr rfl, .inr rfl, .inr rfl, .inr rfl, .inr rfl, .inr rfl, .inr rfl, .inl rfl, .inr rfl, .inr rfl, .inr rfl, .inr rfl, .inr rfl, .inr rfl, rfl, id, id⟩

theorem upd_c (s : State) (v0 : _) :
    Same 1 s { s with c := v0 } :=
  ⟨.inl rfl, .inr rfl, .inr rfl, .inr rfl, .inr rfl, .inr rfl, .inr rfl, .inr rfl, .inr rfl, .inr rfl, .inr rfl, .inr rfl, .inr rfl, .inr rfl, .inr rfl, .inr rfl, .inr rfl, .inr rfl, .inr rfl, .inr rfl, .inr rfl, .inr rfl, .inr rfl, .inr rfl, .inr rfl, .inr rfl, .inr rfl, .inr rfl, .inr rfl, .inr rfl, .inr rfl, .inr rfl, .inr rfl, .inr rfl, .inr rfl, .inr rfl, .inr rfl, .inr rfl, .inr rfl, .inr rfl, .inr rfl, .inr rfl, .inr rfl, .inr rfl, .inr rfl, .inr rfl, .inr rfl, .inr rfl, .inr rfl, .inr rfl, .inr rfl, .inr rfl, .inr rfl, .inr rfl, .inr rfl, .inr rfl, .inr rfl, .inr rfl, .inr rfl, rfl, id, id⟩

theorem upd_c_seqAgree (s : State) (v0 : _) (v1 : _) :
    Same 17179869185 s { s with c := v0, seqAgree := v1 } :=
  ⟨.inl rfl, .inr rfl, .inr rfl, .inr rfl, .inr rfl, .inr rfl, .inr rfl, .inr rfl, .inr rfl, .inr rfl, .inr rfl, .inr rfl, .inr rfl, .inr rfl, .inr rfl, .inr rfl, .inr rfl, .inr rfl, .inr rfl, .inr rfl, .inr rfl, .inr rfl, .inr rfl, .inr rfl, .inr rfl, .inr rfl, .inr rfl, .inr rfl, .inr rfl, .inr rfl, .inr rfl, .inr rfl, .inr rfl, .inr rfl, .inl rfl, .inr rfl, .inr rfl, .inr rfl, .inr rfl, .inr rfl, .inr rfl, .inr rfl, .inr rfl, .inr rfl, .inr rfl, .inr rfl, .inr rfl, .inr rfl, .inr rfl, .inr rfl, .inr rfl, .inr rfl, .inr rfl, .inr rfl, .inr rfl, .inr rfl, .inr rfl, .inr rfl, .inr rfl, rfl, id, id⟩

theorem upd_cbanks (s : State) (v0 : _) :
    Same 1073741824 s { s with cbanks := v0 } :=
  ⟨.inr rfl, .inr rfl, .inr rfl, .inr rfl, .inr rfl, .inr rfl, .inr rfl, .inr rfl, .inr rfl, .inr rfl, .inr rfl, .inr rfl, .inr rfl, .inr rfl, .inr rfl, .inr rfl, .inr rfl, .inr rfl, .inr rfl, .inr rfl, .inr rfl, .inr rfl, .inr rfl, .inr rfl, .inr rfl, .inr rfl, .inr rfl, .inr rfl, .inr rfl, .inr rfl, .inl rfl, .inr rfl, .inr rfl, .inr rfl, .inr rfl, .inr rfl, .inr rfl, .inr rfl, .inr rfl, .inr rfl, .inr rfl, .inr rfl, .inr rfl, .inr rfl, .inr rfl, .inr rfl, .inr rfl, .inr rfl, .inr rfl, .inr rfl, .inr rfl, .inr rfl, .inr rfl, .inr rfl, .inr rfl, .inr rfl, .inr rfl, .inr rfl, .inr rfl, rfl, id, id⟩

theorem upd_chans (s : State) (v0 : _) :
    Same 65536 s { s with chans := v0 } :=
  ⟨.inr rfl, .inr rfl, .inr rfl, .inr rfl, .inr rfl, .inr rfl, .inr rfl, .inr rfl, .inr rfl, .inr rfl, .inr rfl, .inr rfl, .inr rfl, .inr rfl, .inr rfl, .inr rfl, .inl rfl, .inr rfl, .inr rfl, .inr rfl, .inr rfl, .inr rfl, .inr rfl, .inr rfl, .inr rfl, .inr rfl, .inr rfl, .inr rfl, .inr rfl, .inr rfl, .inr rfl, .inr rfl, .inr rfl, .inr rfl, .inr rfl, .inr rfl, .inr rfl, .inr rfl, .inr rfl, .inr rfl, .inr rfl, .inr rfl, .inr rfl, .inr rfl, .inr rfl, .inr rfl, .inr rfl, .inr rfl, .inr rfl, .inr rfl, .inr rfl, .inr rfl, .inr rfl, .inr rfl, .inr rfl, .inr rfl, .inr rfl, .inr rfl, .inr rfl, rfl, id, id⟩

theorem upd_cmt (s : State) (v0 : _) :
    Same 16384 s { s with cmt := v0 } :=
  ⟨.inr rfl, .inr rfl, .inr rfl, .inr rfl, .inr rfl, .inr rfl, .inr rfl, .inr rfl, .inr rfl, .inr rfl, .inr rfl, .inr rfl, .inr rfl, .inr rfl, .inl rfl, .inr rfl, .inr rfl, .inr rfl, .inr rfl, .inr rfl, .inr rfl, .inr rfl, .inr rfl, .inr rfl, .inr rfl, .inr rfl, .inr rfl, .inr rfl, .inr rfl, .inr rfl, .inr rfl, .inr rfl, .inr rfl, .inr rfl, .inr rfl, .inr rfl, .inr rfl, .inr rfl, .inr rfl, .inr rfl, .inr rfl, .inr rfl, .inr rfl, .inr rfl, .inr rfl, .inr rfl, .inr rfl, .inr rfl, .inr rfl, .inr rfl, .inr rfl, .inr rfl, .inr rfl, .inr rfl, .inr rfl, .inr rfl, .inr rfl, .inr rfl, .inr rfl, rfl, id, id⟩

theorem upd_coef_cbanks (s : State) (v0 : _) (v1 : _) :
    Same 1610612736 s { s with coef := v0, cbanks := v1 } :=
  ⟨.inr rfl, .inr rfl, .inr rfl, .inr rfl, .inr rfl, .inr rfl, .inr rfl, .inr rfl, .inr rfl, .inr rfl, .inr rfl, .inr rfl, .inr rfl, .inr rfl, .inr rfl, .inr rfl, .inr rfl, .inr rfl, .inr rfl, .inr rfl, .inr rfl, .inr rfl, .inr rfl, .inr rfl, .inr rfl, .inr rfl, .inr rfl, .inr rfl, .inr rfl, .inl rfl, .inl rfl, .inr rfl, .inr rfl, .inr rfl, .inr rfl, .inr rfl, .inr rfl, .inr rfl, .inr rfl, .inr rfl, .inr rfl, .inr rfl, .inr rfl, .inr rfl, .inr rfl, .inr rfl, .inr rfl, .inr rfl, .inr rfl, .inr rfl, .inr rfl, .inr rfl, .inr rfl, .inr rfl, .inr rfl, .inr rfl, .inr rfl, .inr rfl, .inr rfl, rfl, id, id⟩

theorem upd_compl (s : State) (v0 : _) :
    Same 144115188075855872 s { s with compl := v0 } :=
  ⟨.inr rfl, .inr rfl, .inr rfl, .inr rfl, .inr rfl, .inr rfl, .inr rfl, .inr rfl, .inr rfl, .inr rfl, .inr rfl, .inr rfl, .inr rfl, .inr rfl, .inr rfl, .inr rfl, .inr rfl, .inr rfl, .inr rfl, .inr rfl, .inr rfl, .inr rfl, .inr rfl, .inr rfl, .inr rfl, .inr rfl, .inr rfl, .inr rfl, .inr rfl, .inr rfl, .inr rfl, .inr rfl, .inr rfl, .inr rfl, .inr rfl, .inr rfl, .inr rfl, .inr rfl, .inr rfl, .inr rfl, .inr rfl, .inr rfl, .inr rfl, .inr rfl, .inr rfl, .inr rfl, .inr rfl, .inr rfl, .inr rfl, .inr rfl, .inr rfl, .inr rfl, .inr rfl, .inr rfl, .inr rfl, .inr rfl, .inr rfl, .inl rfl, .inr rfl, rfl, id, id⟩

theorem upd_dcmp (s : State) (v0 : _) :
    Same 281474976710656 s { s with dcmp := v0 } :=
  ⟨.inr rfl, .inr rfl, .inr rfl, .inr rfl, .inr rfl, .inr rfl, .inr rfl, .inr rfl, .inr rfl, .inr rfl, .inr rfl, .inr rfl, .inr rfl, .inr rfl, .inr rfl, .inr rfl, .inr rfl, .inr rfl, .inr rfl, .inr rfl, .inr rfl, .inr rfl, .inr rfl, .inr rfl, .inr rfl, .inr rfl, .inr rfl, .inr rfl, .inr rfl, .inr rfl, .inr rfl, .inr rfl, .inr rfl, .inr rfl, .inr rfl, .inr rfl, .inr rfl, .inr rfl, .inr rfl, .inr rfl, .inr rfl, .inr rfl, .inr rfl, .inr rfl, .inr rfl, .inr rfl, .inr rfl, .inr rfl, .inl rfl, .inr rfl, .inr rfl, .inr rfl, .inr rfl, .inr rfl, .inr rfl, .inr rfl, .inr rfl, .inr rfl, .inr rfl, rfl, id, id⟩

theorem upd_dies (s : State) (v0 : _) :
    Same 2048 s { s with dies := v0 } :=
  ⟨.inr rfl, .inr rfl, .inr rfl, .inr rfl, .inr rfl, .inr rfl, .inr rfl, .inr rfl, .inr rfl, .inr rfl, .inr rfl, .inl rfl, .inr rfl, .inr rfl, .inr rfl, .inr rfl, .inr rfl, .inr rfl, .inr rfl, .inr rfl, .inr rfl, .inr rfl, .inr rfl, .inr rfl, .inr rfl, .inr rfl, .inr rfl, .inr rfl, .inr rfl, .inr rfl, .inr rfl, .inr rfl, .inr rfl, .inr rfl, .inr rfl, .inr rfl, .inr rfl, .inr rfl, .inr rfl, .inr rfl, .inr rfl, .inr rfl, .inr rfl, .inr rfl, .inr rfl, .inr rfl, .inr rfl, .inr rfl, .inr rfl, .inr rfl, .inr rfl, .inr rfl, .inr rfl, .inr rfl, .inr rfl, .inr rfl, .inr rfl, .inr rfl, .inr rfl, rfl, id, id⟩

theorem upd_dsp (s : State) (v0 : _) :
    Same 8192 s { s with dsp := v0 } :=
  ⟨.inr rfl, .inr rfl, .inr rfl, .inr rfl, .inr rfl, .inr rfl, .inr rfl, .inr rfl, .inr rfl, .inr rfl, .inr rfl, .inr rfl, .inr rfl, .inl rfl, .inr rfl, .inr rfl, .inr rfl, .inr rfl, .inr rfl, .inr rfl, .inr rfl, .inr rfl, .inr rfl, .inr rfl, .inr rfl, .inr rfl, .inr rfl, .inr rfl, .inr rfl, .inr rfl, .inr rfl, .inr rfl, .inr rfl, .inr rfl, .inr rfl, .inr rfl, .inr rfl, .inr rfl, .inr rfl, .inr rfl, .inr rfl, .inr rfl, .inr rfl, .inr rfl, .inr rfl, .inr rfl, .inr rfl, .inr rfl, .inr rfl, .inr rfl, .inr rfl, .inr rfl, .inr rfl, .inr rfl, .inr rfl, .inr rfl, .inr rfl, .inr rfl, .inr rfl, rfl, id, id⟩

theorem upd_dspPend (s : State) (v0 : _) :
    Same 64 s { s with dspPend := v0 } :=
  ⟨.inr rfl, .inr rfl, .inr rfl, .inr rfl, .inr rfl, .inr rfl, .inl rfl, .inr rfl, .inr rfl, .inr rfl, .inr rfl, .inr rfl, .inr rfl, .inr rfl, .inr rfl, .inr rfl, .inr rfl, .inr rfl, .inr rfl, .inr rfl, .inr rfl, .inr rfl, .inr rfl, .inr rfl, .inr rfl, .inr rfl, .inr rfl, .inr rfl, .inr rfl, .inr rfl, .inr rfl, .inr rfl, .inr rfl, .inr rfl, .inr rfl, .inr rfl, .inr rfl, .inr rfl, .inr rfl, .inr rfl, .inr rfl, .inr rfl, .inr rfl, .inr rfl, .inr rfl, .inr rfl, .inr rfl, .inr rfl, .inr rfl, .inr rfl, .inr rfl, .inr rfl, .inr rfl, .inr rfl, .inr rfl, .inr rfl, .inr rfl, .inr rfl, .inr rfl, rfl, id, id⟩

theorem upd_dspQ (s : State) (v0 : _) :
    Same 128 s { s with dspQ := v0 } :=
  ⟨.inr rfl, .inr rfl, .inr rfl, .inr rfl, .inr rfl, .inr rfl, .inr rfl, .inl rfl, .inr rfl, .inr rfl, .inr rfl, .inr rfl, .inr rfl, .inr rfl, .inr rfl, .inr rfl, .inr rfl, .inr rfl, .inr rfl, .inr rfl, .inr rfl, .inr rfl, .inr rfl, .inr rfl, .inr rfl, .inr rfl, .inr rfl, .inr rfl, .inr rfl, .inr rfl, .inr rfl, .inr rfl, .inr rfl, .inr rfl, .inr rfl, .inr rfl, .inr rfl, .inr rfl, .inr rfl, .inr rfl, .inr rfl, .inr rfl, .inr rfl, .inr rfl, .inr rfl, .inr rfl, .inr rfl, .inr rfl, .inr rfl, .inr rfl, .inr rfl, .inr rfl, .inr rfl, .inr rfl, .inr rfl, .inr rfl, .inr rfl, .inr rfl, .inr rfl, rfl, id, id⟩

theorem upd_dups (s : State) (v0 : _) :
    Same 35184372088832 s { s with dups := v0 } :=
  ⟨.inr rfl, .inr rfl, .inr rfl, .inr rfl, .inr rfl, .inr rfl, .inr rfl, .inr rfl, .inr rfl, .inr rfl, .inr rfl, .inr rfl, .inr rfl, .inr rfl, .inr rfl, .inr rfl, .inr rfl, .inr rfl, .inr rfl, .inr rfl, .inr rfl, .inr rfl, .inr rfl, .inr rfl, .inr rfl, .inr rfl, .inr rfl, .inr rfl, .inr rfl, .inr rfl, .inr rfl, .inr rfl, .inr rfl, .inr rfl, .inr rfl, .inr rfl, .inr rfl, .inr rfl, .inr rfl, .inr rfl, .inr rfl, .inr rfl, .inr rfl, .inr rfl, .inr rfl, .inl rfl, .inr rfl, .inr rfl, .inr rfl, .inr rfl, .inr rfl, .inr rfl, .inr rfl, .inr rfl, .inr rfl, .inr rfl, .inr rfl, .inr rfl, .inr rfl, rfl, id, id⟩

theorem upd_evt (s : State) (v0 : _) :
    Same 32768 s { s with evt := v0 } :=
  ⟨.inr rfl, .inr rfl, .inr rfl, .inr rfl, .inr rfl, .inr rfl, .inr rfl, .inr rfl, .inr rfl, .inr rfl, .inr rfl, .inr rfl, .inr rfl, .inr rfl, .inr rfl, .inl rfl, .inr rfl, .inr rfl, .inr rfl, .inr rfl, .inr rfl, .inr rfl, .inr rfl, .inr rfl, .inr rfl, .inr rfl, .inr rfl, .inr rfl, .inr rfl, .inr rfl, .inr rfl, .inr rfl, .inr rfl, .inr rfl, .inr rfl, .inr rfl, .inr rfl, .inr rfl, .inr rfl, .inr rfl, .inr rfl, .inr rfl, .inr rfl, .inr rfl, .inr rfl, .inr rfl, .inr rfl, .inr rfl, .inr rfl, .inr rfl, .inr rfl, .inr rfl, .inr rfl, .inr rfl, .inr rfl, .inr rfl, .inr rfl, .inr rfl, .inr rfl, rfl, id, id⟩

theorem upd_excs (s : State) (v0 : _) :
    Same 33554432 s { s with excs := v0 } :=
  ⟨.inr rfl, .inr rfl, .inr rfl, .inr rfl, .inr rfl, .inr rfl, .inr rfl, .inr rfl, .inr rfl, .inr rfl, .inr rfl, .inr rfl, .inr rfl, .inr rfl, .inr rfl, .inr rfl, .inr rfl, .inr rfl, .inr rfl, .inr rfl, .inr rfl, .inr rfl, .inr rfl, .inr rfl, .inr rfl, .inl rfl, .inr rfl, .inr rfl, .inr rfl, .inr rfl, .inr rfl, .inr rfl, .inr rfl, .inr rfl, .inr rfl, .inr rfl, .inr rfl, .inr rfl, .inr rfl, .inr rfl, .inr rfl, .inr rfl, .inr rfl, .inr rfl, .inr rfl, .inr rfl, .inr rfl, .inr rfl, .inr rfl, .inr rfl, .inr rfl, .inr rfl, .inr rfl, .inr rfl, .inr rfl, .inr rfl, .inr rfl, .inr rfl, .inr rfl, rfl, id, id⟩

theorem upd_flight (s : State) (v0 : _) :
    Same 72057594037927936 s { s with flight := v0 } :=
  ⟨.inr rfl, .inr rfl, .inr rfl, .inr rfl, .inr rfl, .inr rfl, .inr rfl, .inr rfl, .inr rfl, .inr rfl, .inr rfl, .inr rfl, .inr rfl, .inr rfl, .inr rfl, .inr rfl, .inr rfl, .inr rfl, .inr rfl, .inr rfl, .inr rfl, .inr rfl, .inr rfl, .inr rfl, .inr rfl, .inr rfl, .inr rfl, .inr rfl, .inr rfl, .inr rfl, .inr rfl, .inr rfl, .inr rfl, .inr rfl, .inr rfl, .inr rfl, .inr rfl, .inr rfl, .inr rfl, .inr rfl, .inr rfl, .inr rfl, .inr rfl, .inr rfl, .inr rfl, .inr rfl, .inr rfl, .inr rfl, .inr rfl, .inr rfl, .inr rfl, .inr rfl, .inr rfl, .inr rfl, .inr rfl, .inr rfl, .inl rfl, .inr rfl, .inr rfl, rfl, id, id⟩

theorem upd_flight_compl (s : State) (v0 : _) (v1 : _) :
    Same 216172782113783808 s { s with flight := v0, compl := v1 } :=
  ⟨.inr rfl, .inr rfl, .inr rfl, .inr rfl, .inr rfl, .inr rfl, .inr rfl, .inr rfl, .inr rfl, .inr rfl, .inr rfl, .inr rfl, .inr rfl, .inr rfl, .inr rfl, .inr rfl, .inr rfl, .inr rfl, .inr rfl, .inr rfl, .inr rfl, .inr rfl, .inr rfl, .inr rfl, .inr rfl, .inr rfl, .inr rfl, .inr rfl, .inr rfl, .inr rfl, .inr rfl, .inr rfl, .inr rfl, .inr rfl, .inr rfl, .inr rfl, .inr rfl, .inr rfl, .inr rfl, .inr rfl, .inr rfl, .inr rfl, .inr rfl, .inr rfl, .inr rfl, .inr rfl, .inr rfl, .inr rfl, .inr rfl, .inr rfl, .inr rfl, .inr rfl, .inr rfl, .inr rfl, .inr rfl, .inr rfl, .inl rfl, .inl rfl, .inr rfl, rfl, id, id⟩

theorem upd_frame (s : State) (v0 : _) :
    Same 2 s { s with frame := v0 } :=
  ⟨.inr rfl, .inl rfl, .inr rfl, .inr rfl, .inr rfl, .inr rfl, .inr rfl, .inr rfl, .inr rfl, .inr rfl, .inr rfl, .inr rfl, .inr rfl, .inr rfl, .inr rfl, .inr rfl, .inr rfl, .inr rfl, .inr rfl, .inr rfl, .inr rfl, .inr rfl, .inr rfl, .inr rfl, .inr rfl, .inr rfl, .inr rfl, .inr rfl, .inr rfl, .inr rfl, .inr rfl, .inr rfl, .inr rfl, .inr rfl, .inr rfl, .inr rfl, .inr rfl, .inr rfl, .inr rfl, .inr rfl, .inr rfl, .inr rfl, .inr rfl, .inr rfl, .inr rfl, .inr rfl, .inr rfl, .inr rfl, .inr rfl, .inr rfl, .inr rfl, .inr rfl, .inr rfl, .inr rfl, .inr rfl, .inr rfl, .inr rfl, .inr rfl, .inr rfl, rfl, id, id⟩

theorem upd_frame_ord (s : State) (v0 : _) (v1 : _) :
    Same 6 s { s with frame := v0, ord := v1 } :=
  ⟨.inr rfl, .inl rfl, .inl rfl, .inr rfl, .inr rfl, .inr rfl, .inr rfl, .inr rfl, .inr rfl, .inr rfl, .inr rfl, .inr rfl, .inr rfl, .inr rfl, .inr rfl, .inr rfl, .inr rfl, .inr rfl, .inr rfl, .inr rfl, .inr rfl, .inr rfl, .inr rfl, .inr rfl, .inr rfl, .inr rfl, .inr rfl, .inr rfl, .inr rfl, .inr rfl, .inr rfl, .inr rfl, .inr rfl, .inr rfl, .inr rfl, .inr rfl, .inr rfl, .inr rfl, .inr rfl, .inr rfl, .inr rfl, .inr rfl, .inr rfl, .inr rfl, .inr rfl, .inr rfl, .inr rfl, .inr rfl, .inr rfl, .inr rfl, .inr rfl, .inr rfl, .inr rfl, .inr rfl, .inr rfl, .inr rfl, .inr rfl, .inr rfl, .inr rfl, rfl, id, id⟩

theorem upd_frame_pwr_hub (s : State) (v0 : _) (v1 : _) (v2 : _) :
    Same 5122 s { s with frame := v0, pwr := v1, hub := v2 } :=
  ⟨.inr rfl, .inl rfl, .inr rfl, .inr rfl, .inr rfl, .inr rfl, .inr rfl, .inr rfl, .inr rfl, .inr rfl, .inl rfl, .inr rfl, .inl rfl, .inr rfl, .inr rfl, .inr rfl, .inr rfl, .inr rfl, .inr rfl, .inr rfl, .inr rfl, .inr rfl, .inr rfl, .inr rfl, .inr rfl, .inr rfl, .inr rfl, .inr rfl, .inr rfl, .inr rfl, .inr rfl, .inr rfl, .inr rfl, .inr rfl, .inr rfl, .inr rfl, .inr rfl, .inr rfl, .inr rfl, .inr rfl, .inr rfl, .inr rfl, .inr rfl, .inr rfl, .inr rfl, .inr rfl, .inr rfl, .inr rfl, .inr rfl, .inr rfl, .inr rfl, .inr rfl, .inr rfl, .inr rfl, .inr rfl, .inr rfl, .inr rfl, .inr rfl, .inr rfl, rfl, id, id⟩

theorem upd_freeIdx (s : State) (v0 : _) :
    Same 8 s { s with freeIdx := v0 } :=
  ⟨.inr rfl, .inr rfl, .inr rfl, .inl rfl, .inr rfl, .inr rfl, .inr rfl, .inr rfl, .inr rfl, .inr rfl, .inr rfl, .inr rfl, .inr rfl, .inr rfl, .inr rfl, .inr rfl, .inr rfl, .inr rfl, .inr rfl, .inr rfl, .inr rfl, .inr rfl, .inr rfl, .inr rfl, .inr rfl, .inr rfl, .inr rfl, .inr rfl, .inr rfl, .inr rfl, .inr rfl, .inr rfl, .inr rfl, .inr rfl, .inr rfl, .inr rfl, .inr rfl, .inr rfl, .inr rfl, .inr rfl, .inr rfl, .inr rfl, .inr rfl, .inr rfl, .inr rfl, .inr rfl, .inr rfl, .inr rfl, .inr rfl, .inr rfl, .inr rfl, .inr rfl, .inr rfl, .inr rfl, .inr rfl, .inr rfl, .inr rfl, .inr rfl, .inr rfl, rfl, id, id⟩

theorem upd_grecs (s : State) (v0 : _) :
    Same 274877906944 s { s with grecs := v0 } :=
  ⟨.inr rfl, .inr rfl, .inr rfl, .inr rfl, .inr rfl, .inr rfl, .inr rfl, .inr rfl, .inr rfl, .inr rfl, .inr rfl, .inr rfl, .inr rfl, .inr rfl, .inr rfl, .inr rfl, .inr rfl, .inr rfl, .inr rfl, .inr rfl, .inr rfl, .inr rfl, .inr rfl, .inr rfl, .inr rfl, .inr rfl, .inr rfl, .inr rfl, .inr rfl, .inr rfl, .inr rfl, .inr rfl, .inr rfl, .inr rfl, .inr rfl, .inr rfl, .inr rfl, .inr rfl, .inl rfl, .inr rfl, .inr rfl, .inr rfl, .inr rfl, .inr rfl, .inr rfl, .inr rfl, .inr rfl, .inr rfl, .inr rfl, .inr rfl, .inr rfl, .inr rfl, .inr rfl, .inr rfl, .inr rfl, .inr rfl, .inr rfl, .inr rfl, .inr rfl, rfl, id, id⟩

theorem upd_gunits (s : State) (v0 : _) :
    Same 17592186044416 s { s with gunits := v0 } :=
  ⟨.inr rfl, .inr rfl, .inr rfl, .inr rfl, .inr rfl, .inr rfl, .inr rfl, .inr rfl, .inr rfl, .inr rfl, .inr rfl, .inr rfl, .inr rfl, .inr rfl, .inr rfl, .inr rfl, .inr rfl, .inr rfl, .inr rfl, .inr rfl, .inr rfl, .inr rfl, .inr rfl, .inr rfl, .inr rfl, .inr rfl, .inr rfl, .inr rfl, .inr rfl, .inr rfl, .inr rfl, .inr rfl, .inr rfl, .inr rfl, .inr rfl, .inr rfl, .inr rfl, .inr rfl, .inr rfl, .inr rfl, .inr rfl, .inr rfl, .inr rfl, .inr rfl, .inl rfl, .inr rfl, .inr rfl, .inr rfl, .inr rfl, .inr rfl, .inr rfl, .inr rfl, .inr rfl, .inr rfl, .inr rfl, .inr rfl, .inr rfl, .inr rfl, .inr rfl, rfl, id, id⟩

theorem upd_hiLatch (s : State) (v0 : _) :
    Same 256 s { s with hiLatch := v0 } :=
  ⟨.inr rfl, .inr rfl, .inr rfl, .inr rfl, .inr rfl, .inr rfl, .inr rfl, .inr rfl, .inl rfl, .inr rfl, .inr rfl, .inr rfl, .inr rfl, .inr rfl, .inr rfl, .inr rfl, .inr rfl, .inr rfl, .inr rfl, .inr rfl, .inr rfl, .inr rfl, .inr rfl, .inr rfl, .inr rfl, .inr rfl, .inr rfl, .inr rfl, .inr rfl, .inr rfl, .inr rfl, .inr rfl, .inr rfl, .inr rfl, .inr rfl, .inr rfl, .inr rfl, .inr rfl, .inr rfl, .inr rfl, .inr rfl, .inr rfl, .inr rfl, .inr rfl, .inr rfl, .inr rfl, .inr rfl, .inr rfl, .inr rfl, .inr rfl, .inr rfl, .inr rfl, .inr rfl, .inr rfl, .inr rfl, .inr rfl, .inr rfl, .inr rfl, .inr rfl, rfl, id, id⟩

theorem upd_hst (s : State) (v0 : _) :
    Same 18014398509481984 s { s with hst := v0 } :=
  ⟨.inr rfl, .inr rfl, .inr rfl, .inr rfl, .inr rfl, .inr rfl, .inr rfl, .inr rfl, .inr rfl, .inr rfl, .inr rfl, .inr rfl, .inr rfl, .inr rfl, .inr rfl, .inr rfl, .inr rfl, .inr rfl, .inr rfl, .inr rfl, .inr rfl, .inr rfl, .inr rfl, .inr rfl, .inr rfl, .inr rfl, .inr rfl, .inr rfl, .inr rfl, .inr rfl, .inr rfl, .inr rfl, .inr rfl, .inr rfl, .inr rfl, .inr rfl, .inr rfl, .inr rfl, .inr rfl, .inr rfl, .inr rfl, .inr rfl, .inr rfl, .inr rfl, .inr rfl, .inr rfl, .inr rfl, .inr rfl, .inr rfl, .inr rfl, .inr rfl, .inr rfl, .inr rfl, .inr rfl, .inl rfl, .inr rfl, .inr rfl, .inr rfl, .inr rfl, rfl, id, id⟩

theorem upd_hub (s : State) (v0 : _) :
    Same 4096 s { s with hub := v0 } :=
  ⟨.inr rfl, .inr rfl, .inr rfl, .inr rfl, .inr rfl, .inr rfl, .inr rfl, .inr rfl, .inr rfl, .inr rfl, .inr rfl, .inr rfl, .inl rfl, .inr rfl, .inr rfl, .inr rfl, .inr rfl, .inr rfl, .inr rfl, .inr rfl, .inr rfl, .inr rfl, .inr rfl, .inr rfl, .inr rfl, .inr rfl, .inr rfl, .inr rfl, .inr rfl, .inr rfl, .inr rfl, .inr rfl, .inr rfl, .inr rfl, .inr rfl, .inr rfl, .inr rfl, .inr rfl, .inr rfl, .inr rfl, .inr rfl, .inr rfl, .inr rfl, .inr rfl, .inr rfl, .inr rfl, .inr rfl, .inr rfl, .inr rfl, .inr rfl, .inr rfl, .inr rfl, .inr rfl, .inr rfl, .inr rfl, .inr rfl, .inr rfl, .inr rfl, .inr rfl, rfl, id, id⟩

theorem upd_jtag (s : State) (v0 : _) :
    Same 9007199254740992 s { s with jtag := v0 } :=
  ⟨.inr rfl, .inr rfl, .inr rfl, .inr rfl, .inr rfl, .inr rfl, .inr rfl, .inr rfl, .inr rfl, .inr rfl, .inr rfl, .inr rfl, .inr rfl, .inr rfl, .inr rfl, .inr rfl, .inr rfl, .inr rfl, .inr rfl, .inr rfl, .inr rfl, .inr rfl, .inr rfl, .inr rfl, .inr rfl, .inr rfl, .inr rfl, .inr rfl, .inr rfl, .inr rfl, .inr rfl, .inr rfl, .inr rfl, .inr rfl, .inr rfl, .inr rfl, .inr rfl, .inr rfl, .inr rfl, .inr rfl, .inr rfl, .inr rfl, .inr rfl, .inr rfl, .inr rfl, .inr rfl, .inr rfl, .inr rfl, .inr rfl, .inr rfl, .inr rfl, .inr rfl, .inr rfl, .inl rfl, .inr rfl, .inr rfl, .inr rfl, .inr rfl, .inr rfl, rfl, id, id⟩

theorem upd_lanes (s : State) (v0 : _) :
    Same 68719476736 s { s with lanes := v0 } :=
  ⟨.inr rfl, .inr rfl, .inr rfl, .inr rfl, .inr rfl, .inr rfl, .inr rfl, .inr rfl, .inr rfl, .inr rfl, .inr rfl, .inr rfl, .inr rfl, .inr rfl, .inr rfl, .inr rfl, .inr rfl, .inr rfl, .inr rfl, .inr rfl, .inr rfl, .inr rfl, .inr rfl, .inr rfl, .inr rfl, .inr rfl, .inr rfl, .inr rfl, .inr rfl, .inr rfl, .inr rfl, .inr rfl, .inr rfl, .inr rfl, .inr rfl, .inr rfl, .inl rfl, .inr rfl, .inr rfl, .inr rfl, .inr rfl, .inr rfl, .inr rfl, .inr rfl, .inr rfl, .inr rfl, .inr rfl, .inr rfl, .inr rfl, .inr rfl, .inr rfl, .inr rfl, .inr rfl, .inr rfl, .inr rfl, .inr rfl, .inr rfl, .inr rfl, .inr rfl, rfl, id, id⟩

theorem upd_lin (s : State) (v0 : _) :
    Same 34359738368 s { s with lin := v0 } :=
  ⟨.inr rfl, .inr rfl, .inr rfl, .inr rfl, .inr rfl, .inr rfl, .inr rfl, .inr rfl, .inr rfl, .inr rfl, .inr rfl, .inr rfl, .inr rfl, .inr rfl, .inr rfl, .inr rfl, .inr rfl, .inr rfl, .inr rfl, .inr rfl, .inr rfl, .inr rfl, .inr rfl, .inr rfl, .inr rfl, .inr rfl, .inr rfl, .inr rfl, .inr rfl, .inr rfl, .inr rfl, .inr rfl, .inr rfl, .inr rfl, .inr rfl, .inl rfl, .inr rfl, .inr rfl, .inr rfl, .inr rfl, .inr rfl, .inr rfl, .inr rfl, .inr rfl, .inr rfl, .inr rfl, .inr rfl, .inr rfl, .inr rfl, .inr rfl, .inr rfl, .inr rfl, .inr rfl, .inr rfl, .inr rfl, .inr rfl, .inr rfl, .inr rfl, .inr rfl, rfl, id, id⟩

theorem upd_ltRes (s : State) (v0 : _) :
    Same 1048576 s { s with ltRes := v0 } :=
  ⟨.inr rfl, .inr rfl, .inr rfl, .inr rfl, .inr rfl, .inr rfl, .inr rfl, .inr rfl, .inr rfl, .inr rfl, .inr rfl, .inr rfl, .inr rfl, .inr rfl, .inr rfl, .inr rfl, .inr rfl, .inr rfl, .inr rfl, .inr rfl, .inl rfl, .inr rfl, .inr rfl, .inr rfl, .inr rfl, .inr rfl, .inr rfl, .inr rfl, .inr rfl, .inr rfl, .inr rfl, .inr rfl, .inr rfl, .inr rfl, .inr rfl, .inr rfl, .inr rfl, .inr rfl, .inr rfl, .inr rfl, .inr rfl, .inr rfl, .inr rfl, .inr rfl, .inr rfl, .inr rfl, .inr rfl, .inr rfl, .inr rfl, .inr rfl, .inr rfl, .inr rfl, .inr rfl, .inr rfl, .inr rfl, .inr rfl, .inr rfl, .inr rfl, .inr rfl, rfl, id, id⟩

theorem upd_ltTicks (s : State) (v0 : _) :
    Same 2097152 s { s with ltTicks := v0 } :=
  ⟨.inr rfl, .inr rfl, .inr rfl, .inr rfl, .inr rfl, .inr rfl, .inr rfl, .inr rfl, .inr rfl, .inr rfl, .inr rfl, .inr rfl, .inr rfl, .inr rfl, .inr rfl, .inr rfl, .inr rfl, .inr rfl, .inr rfl, .inr rfl, .inr rfl, .inl rfl, .inr rfl, .inr rfl, .inr rfl, .inr rfl, .inr rfl, .inr rfl, .inr rfl, .inr rfl, .inr rfl, .inr rfl, .inr rfl, .inr rfl, .inr rfl, .inr rfl, .inr rfl, .inr rfl, .inr rfl, .inr rfl, .inr rfl, .inr rfl, .inr rfl, .inr rfl, .inr rfl, .inr rfl, .inr rfl, .inr rfl, .inr rfl, .inr rfl, .inr rfl, .inr rfl, .inr rfl, .inr rfl, .inr rfl, .inr rfl, .inr rfl, .inr rfl, .inr rfl, rfl, id, id⟩

theorem upd_ltWait (s : State) (v0 : _) :
    Same 524288 s { s with ltWait := v0 } :=
  ⟨.inr rfl, .inr rfl, .inr rfl, .inr rfl, .inr rfl, .inr rfl, .inr rfl, .inr rfl, .inr rfl, .inr rfl, .inr rfl, .inr rfl, .inr rfl, .inr rfl, .inr rfl, .inr rfl, .inr rfl, .inr rfl, .inr rfl, .inl rfl, .inr rfl, .inr rfl, .inr rfl, .inr rfl, .inr rfl, .inr rfl, .inr rfl, .inr rfl, .inr rfl, .inr rfl, .inr rfl, .inr rfl, .inr rfl, .inr rfl, .inr rfl, .inr rfl, .inr rfl, .inr rfl, .inr rfl, .inr rfl, .inr rfl, .inr rfl, .inr rfl, .inr rfl, .inr rfl, .inr rfl, .inr rfl, .inr rfl, .inr rfl, .inr rfl, .inr rfl, .inr rfl, .inr rfl, .inr rfl, .inr rfl, .inr rfl, .inr rfl, .inr rfl, .inr rfl, rfl, id, id⟩

theorem upd_lts (s : State) (v0 : _) :
    Same 262144 s { s with lts := v0 } :=
  ⟨.inr rfl, .inr rfl, .inr rfl, .inr rfl, .inr rfl, .inr rfl, .inr rfl, .inr rfl, .inr rfl, .inr rfl, .inr rfl, .inr rfl, .inr rfl, .inr rfl, .inr rfl, .inr rfl, .inr rfl, .inr rfl, .inl rfl, .inr rfl, .inr rfl, .inr rfl, .inr rfl, .inr rfl, .inr rfl, .inr rfl, .inr rfl, .inr rfl, .inr rfl, .inr rfl, .inr rfl, .inr rfl, .inr rfl, .inr rfl, .inr rfl, .inr rfl, .inr rfl, .inr rfl, .inr rfl, .inr rfl, .inr rfl, .inr rfl, .inr rfl, .inr rfl, .inr rfl, .inr rfl, .inr rfl, .inr rfl, .inr rfl, .inr rfl, .inr rfl, .inr rfl, .inr rfl, .inr rfl, .inr rfl, .inr rfl, .inr rfl, .inr rfl, .inr rfl, rfl, id, id⟩

theorem upd_modStart_restart (s : State) (v0 : _) (v1 : _) :
    Same 20971520 s { s with modStart := v0, restart := v1 } :=
  ⟨.inr rfl, .inr rfl, .inr rfl, .inr rfl, .inr rfl, .inr rfl, .inr rfl, .inr rfl, .inr rfl, .inr rfl, .inr rfl, .inr rfl, .inr rfl, .inr rfl, .inr rfl, .inr rfl, .inr rfl, .inr rfl, .inr rfl, .inr rfl, .inr rfl, .inr rfl, .inl rfl, .inr rfl, .inl rfl, .inr rfl, .inr rfl, .inr rfl, .inr rfl, .inr rfl, .inr rfl, .inr rfl, .inr rfl, .inr rfl, .inr rfl, .inr rfl, .inr rfl, .inr rfl, .inr rfl, .inr rfl, .inr rfl, .inr rfl, .inr rfl, .inr rfl, .inr rfl, .inr rfl, .inr rfl, .inr rfl, .inr rfl, .inr rfl, .inr rfl, .inr rfl, .inr rfl, .inr rfl, .inr rfl, .inr rfl, .inr rfl, .inr rfl, .inr rfl, rfl, id, id⟩

theorem upd_ord (s : State) (v0 : _) :
    Same 4 s { s with ord := v0 } :=
  ⟨.inr rfl, .inr rfl, .inl rfl, .inr rfl, .inr rfl, .inr rfl, .inr rfl, .inr rfl, .inr rfl, .inr rfl, .inr rfl, .inr rfl, .inr rfl, .inr rfl, .inr rfl, .inr rfl, .inr rfl, .inr rfl, .inr rfl, .inr rfl, .inr rfl, .inr rfl, .inr rfl, .inr rfl, .inr rfl, .inr rfl, .inr rfl, .inr rfl, .inr rfl, .inr rfl, .inr rfl, .inr rfl, .inr rfl, .inr rfl, .inr rfl, .inr rfl, .inr rfl, .inr rfl, .inr rfl, .inr rfl, .inr rfl, .inr rfl, .inr rfl, .inr rfl, .inr rfl, .inr rfl, .inr rfl, .inr rfl, .inr rfl, .inr rfl, .inr rfl, .inr rfl, .inr rfl, .inr rfl, .inr rfl, .inr rfl, .inr rfl, .inr rfl, .inr rfl, rfl, id, id⟩

theorem upd_passes (s : State) (v0 : _) :
    Same 137438953472 s { s with passes := v0 } :=
  ⟨.inr rfl, .inr rfl, .inr rfl, .inr rfl, .inr rfl, .inr rfl, .inr rfl, .inr rfl, .inr rfl, .inr rfl, .inr rfl, .inr rfl, .inr rfl, .inr rfl, .inr rfl, .inr rfl, .inr rfl, .inr rfl, .inr rfl, .inr rfl, .inr rfl, .inr rfl, .inr rfl, .inr rfl, .inr rfl, .inr rfl, .inr rfl, .inr rfl, .inr rfl, .inr rfl, .inr rfl, .inr rfl, .inr rfl, .inr rfl, .inr rfl, .inr rfl, .inr rfl, .inl rfl, .inr rfl, .inr rfl, .inr rfl, .inr rfl, .inr rfl, .inr rfl, .inr rfl, .inr rfl, .inr rfl, .inr rfl, .inr rfl, .inr rfl, .inr rfl, .inr rfl, .inr rfl, .inr rfl, .inr rfl, .inr rfl, .inr rfl, .inr rfl, .inr rfl, rfl, id, id⟩

theorem upd_passes_grecs (s : State) (v0 : _) (v1 : _) :
    Same 412316860416 s { s with passes := v0, grecs := v1 } :=
  ⟨.inr rfl, .inr rfl, .inr rfl, .inr rfl, .inr rfl, .inr rfl, .inr rfl, .inr rfl, .inr rfl, .inr rfl, .inr rfl, .inr rfl, .inr rfl, .inr rfl, .inr rfl, .inr rfl, .inr rfl, .inr rfl, .inr rfl, .inr rfl, .inr rfl, .inr rfl, .inr rfl, .inr rfl, .inr rfl, .inr rfl, .inr rfl, .inr rfl, .inr rfl, .inr rfl, .inr rfl, .inr rfl, .inr rfl, .inr rfl, .inr rfl, .inr rfl, .inr rfl, .inl rfl, .inl rfl, .inr rfl, .inr rfl, .inr rfl, .inr rfl, .inr rfl, .inr rfl, .inr rfl, .inr rfl, .inr rfl, .inr rfl, .inr rfl, .inr rfl, .inr rfl, .inr rfl, .inr rfl, .inr rfl, .inr rfl, .inr rfl, .inr rfl, .inr rfl, rfl, id, id⟩

theorem upd_plans (s : State) (v0 : _) :
    Same 8796093022208 s { s with plans := v0 } :=
  ⟨.inr rfl, .inr rfl, .inr rfl, .inr rfl, .inr rfl, .inr rfl, .inr rfl, .inr rfl, .inr rfl, .inr rfl, .inr rfl, .inr rfl, .inr rfl, .inr rfl, .inr rfl, .inr rfl, .inr rfl, .inr rfl, .inr rfl, .inr rfl, .inr rfl, .inr rfl, .inr rfl, .inr rfl, .inr rfl, .inr rfl, .inr rfl, .inr rfl, .inr rfl, .inr rfl, .inr rfl, .inr rfl, .inr rfl, .inr rfl, .inr rfl, .inr rfl, .inr rfl, .inr rfl, .inr rfl, .inr rfl, .inr rfl, .inr rfl, .inr rfl, .inl rfl, .inr rfl, .inr rfl, .inr rfl, .inr rfl, .inr rfl, .inr rfl, .inr rfl, .inr rfl, .inr rfl, .inr rfl, .inr rfl, .inr rfl, .inr rfl, .inr rfl, .inr rfl, rfl, id, id⟩

theorem upd_profs (s : State) (v0 : _) :
    Same 2147483648 s { s with profs := v0 } :=
  ⟨.inr rfl, .inr rfl, .inr rfl, .inr rfl, .inr rfl, .inr rfl, .inr rfl, .inr rfl, .inr rfl, .inr rfl, .inr rfl, .inr rfl, .inr rfl, .inr rfl, .inr rfl, .inr rfl, .inr rfl, .inr rfl, .inr rfl, .inr rfl, .inr rfl, .inr rfl, .inr rfl, .inr rfl, .inr rfl, .inr rfl, .inr rfl, .inr rfl, .inr rfl, .inr rfl, .inr rfl, .inl rfl, .inr rfl, .inr rfl, .inr rfl, .inr rfl, .inr rfl, .inr rfl, .inr rfl, .inr rfl, .inr rfl, .inr rfl, .inr rfl, .inr rfl, .inr rfl, .inr rfl, .inr rfl, .inr rfl, .inr rfl, .inr rfl, .inr rfl, .inr rfl, .inr rfl, .inr rfl, .inr rfl, .inr rfl, .inr rfl, .inr rfl, .inr rfl, rfl, id, id⟩

theorem upd_pubId (s : State) (v0 : _) :
    Same 70368744177664 s { s with pubId := v0 } :=
  ⟨.inr rfl, .inr rfl, .inr rfl, .inr rfl, .inr rfl, .inr rfl, .inr rfl, .inr rfl, .inr rfl, .inr rfl, .inr rfl, .inr rfl, .inr rfl, .inr rfl, .inr rfl, .inr rfl, .inr rfl, .inr rfl, .inr rfl, .inr rfl, .inr rfl, .inr rfl, .inr rfl, .inr rfl, .inr rfl, .inr rfl, .inr rfl, .inr rfl, .inr rfl, .inr rfl, .inr rfl, .inr rfl, .inr rfl, .inr rfl, .inr rfl, .inr rfl, .inr rfl, .inr rfl, .inr rfl, .inr rfl, .inr rfl, .inr rfl, .inr rfl, .inr rfl, .inr rfl, .inr rfl, .inl rfl, .inr rfl, .inr rfl, .inr rfl, .inr rfl, .inr rfl, .inr rfl, .inr rfl, .inr rfl, .inr rfl, .inr rfl, .inr rfl, .inr rfl, rfl, id, id⟩

theorem upd_pwr (s : State) (v0 : _) :
    Same 1024 s { s with pwr := v0 } :=
  ⟨.inr rfl, .inr rfl, .inr rfl, .inr rfl, .inr rfl, .inr rfl, .inr rfl, .inr rfl, .inr rfl, .inr rfl, .inl rfl, .inr rfl, .inr rfl, .inr rfl, .inr rfl, .inr rfl, .inr rfl, .inr rfl, .inr rfl, .inr rfl, .inr rfl, .inr rfl, .inr rfl, .inr rfl, .inr rfl, .inr rfl, .inr rfl, .inr rfl, .inr rfl, .inr rfl, .inr rfl, .inr rfl, .inr rfl, .inr rfl, .inr rfl, .inr rfl, .inr rfl, .inr rfl, .inr rfl, .inr rfl, .inr rfl, .inr rfl, .inr rfl, .inr rfl, .inr rfl, .inr rfl, .inr rfl, .inr rfl, .inr rfl, .inr rfl, .inr rfl, .inr rfl, .inr rfl, .inr rfl, .inr rfl, .inr rfl, .inr rfl, .inr rfl, .inr rfl, rfl, id, id⟩

theorem upd_pwr_hub (s : State) (v0 : _) (v1 : _) :
    Same 5120 s { s with pwr := v0, hub := v1 } :=
  ⟨.inr rfl, .inr rfl, .inr rfl, .inr rfl, .inr rfl, .inr rfl, .inr rfl, .inr rfl, .inr rfl, .inr rfl, .inl rfl, .inr rfl, .inl rfl, .inr rfl, .inr rfl, .inr rfl, .inr rfl, .inr rfl, .inr rfl, .inr rfl, .inr rfl, .inr rfl, .inr rfl, .inr rfl, .inr rfl, .inr rfl, .inr rfl, .inr rfl, .inr rfl, .inr rfl, .inr rfl, .inr rfl, .inr rfl, .inr rfl, .inr rfl, .inr rfl, .inr rfl, .inr rfl, .inr rfl, .inr rfl, .inr rfl, .inr rfl, .inr rfl, .inr rfl, .inr rfl, .inr rfl, .inr rfl, .inr rfl, .inr rfl, .inr rfl, .inr rfl, .inr rfl, .inr rfl, .inr rfl, .inr rfl, .inr rfl, .inr rfl, .inr rfl, .inr rfl, rfl, id, id⟩

theorem upd_queues (s : State) (v0 : _) :
    Same 1099511627776 s { s with queues := v0 } :=
  ⟨.inr rfl, .inr rfl, .inr rfl, .inr rfl, .inr rfl, .inr rfl, .inr rfl, .inr rfl, .inr rfl, .inr rfl, .inr rfl, .inr rfl, .inr rfl, .inr rfl, .inr rfl, .inr rfl, .inr rfl, .inr rfl, .inr rfl, .inr rfl, .inr rfl, .inr rfl, .inr rfl, .inr rfl, .inr rfl, .inr rfl, .inr rfl, .inr rfl, .inr rfl, .inr rfl, .inr rfl, .inr rfl, .inr rfl, .inr rfl, .inr rfl, .inr rfl, .inr rfl, .inr rfl, .inr rfl, .inr rfl, .inl rfl, .inr rfl, .inr rfl, .inr rfl, .inr rfl, .inr rfl, .inr rfl, .inr rfl, .inr rfl, .inr rfl, .inr rfl, .inr rfl, .inr rfl, .inr rfl, .inr rfl, .inr rfl, .inr rfl, .inr rfl, .inr rfl, rfl, id, id⟩

theorem upd_rd (s : State) (v0 : _) :
    Same 512 s { s with rd := v0 } :=
  ⟨.inr rfl, .inr rfl, .inr rfl, .inr rfl, .inr rfl, .inr rfl, .inr rfl, .inr rfl, .inr rfl, .inl rfl, .inr rfl, .inr rfl, .inr rfl, .inr rfl, .inr rfl, .inr rfl, .inr rfl, .inr rfl, .inr rfl, .inr rfl, .inr rfl, .inr rfl, .inr rfl, .inr rfl, .inr rfl, .inr rfl, .inr rfl, .inr rfl, .inr rfl, .inr rfl, .inr rfl, .inr rfl, .inr rfl, .inr rfl, .inr rfl, .inr rfl, .inr rfl, .inr rfl, .inr rfl, .inr rfl, .inr rfl, .inr rfl, .inr rfl, .inr rfl, .inr rfl, .inr rfl, .inr rfl, .inr rfl, .inr rfl, .inr rfl, .inr rfl, .inr rfl, .inr rfl, .inr rfl, .inr rfl, .inr rfl, .inr rfl, .inr rfl, .inr rfl, rfl, id, id⟩

theorem upd_refs (s : State) (v0 : _) :
    Same 67108864 s { s with refs := v0 } :=
  ⟨.inr rfl, .inr rfl, .inr rfl, .inr rfl, .inr rfl, .inr rfl, .inr rfl, .inr rfl, .inr rfl, .inr rfl, .inr rfl, .inr rfl, .inr rfl, .inr rfl, .inr rfl, .inr rfl, .inr rfl, .inr rfl, .inr rfl, .inr rfl, .inr rfl, .inr rfl, .inr rfl, .inr rfl, .inr rfl, .inr rfl, .inl rfl, .inr rfl, .inr rfl, .inr rfl, .inr rfl, .inr rfl, .inr rfl, .inr rfl, .inr rfl, .inr rfl, .inr rfl, .inr rfl, .inr rfl, .inr rfl, .inr rfl, .inr rfl, .inr rfl, .inr rfl, .inr rfl, .inr rfl, .inr rfl, .inr rfl, .inr rfl, .inr rfl, .inr rfl, .inr rfl, .inr rfl, .inr rfl, .inr rfl, .inr rfl, .inr rfl, .inr rfl, .inr rfl, rfl, id, id⟩

theorem upd_regs_staged_dspPend_dspQ_tst (s : State) {v0 v1 v2 v3 v4 : _} (h : regsOk s.regs = true → regsOk v0 = true) :
    Same 36028797018964208 s { s with regs := v0, staged := v1, dspPend := v2, dspQ := v3, tst := v4 } :=
  ⟨.inr rfl, .inr rfl, .inr rfl, .inr rfl, .inl rfl, .inl rfl, .inl rfl, .inl rfl, .inr rfl, .inr rfl, .inr rfl, .inr rfl, .inr rfl, .inr rfl, .inr rfl, .inr rfl, .inr rfl, .inr rfl, .inr rfl, .inr rfl, .inr rfl, .inr rfl, .inr rfl, .inr rfl, .inr rfl, .inr rfl, .inr rfl, .inr rfl, .inr rfl, .inr rfl, .inr rfl, .inr rfl, .inr rfl, .inr rfl, .inr rfl, .inr rfl, .inr rfl, .inr rfl, .inr rfl, .inr rfl, .inr rfl, .inr rfl, .inr rfl, .inr rfl, .inr rfl, .inr rfl, .inr rfl, .inr rfl, .inr rfl, .inr rfl, .inr rfl, .inr rfl, .inr rfl, .inr rfl, .inr rfl, .inl rfl, .inr rfl, .inr rfl, .inr rfl, rfl, h, id⟩

theorem upd_rtePath (s : State) (v0 : _) :
    Same 1125899906842624 s { s with rtePath := v0 } :=
  ⟨.inr rfl, .inr rfl, .inr rfl, .inr rfl, .inr rfl, .inr rfl, .inr rfl, .inr rfl, .inr rfl, .inr rfl, .inr rfl, .inr rfl, .inr rfl, .inr rfl, .inr rfl, .inr rfl, .inr rfl, .inr rfl, .inr rfl, .inr rfl, .inr rfl, .inr rfl, .inr rfl, .inr rfl, .inr rfl, .inr rfl, .inr rfl, .inr rfl, .inr rfl, .inr rfl, .inr rfl, .inr rfl, .inr rfl, .inr rfl, .inr rfl, .inr rfl, .inr rfl, .inr rfl, .inr rfl, .inr rfl, .inr rfl, .inr rfl, .inr rfl, .inr rfl, .inr rfl, .inr rfl, .inr rfl, .inr rfl, .inr rfl, .inr rfl, .inl rfl, .inr rfl, .inr rfl, .inr rfl, .inr rfl, .inr rfl, .inr rfl, .inr rfl, .inr rfl, rfl, id, id⟩

theorem upd_rwdSt (s : State) (v0 : _) :
    Same 2199023255552 s { s with rwdSt := v0 } :=
  ⟨.inr rfl, .inr rfl, .inr rfl, .inr rfl, .inr rfl, .inr rfl, .inr rfl, .inr rfl, .inr rfl, .inr rfl, .inr rfl, .inr rfl, .inr rfl, .inr rfl, .inr rfl, .inr rfl, .inr rfl, .inr rfl, .inr rfl, .inr rfl, .inr rfl, .inr rfl, .inr rfl, .inr rfl, .inr rfl, .inr rfl, .inr rfl, .inr rfl, .inr rfl, .inr rfl, .inr rfl, .inr rfl, .inr rfl, .inr rfl, .inr rfl, .inr rfl, .inr rfl, .inr rfl, .inr rfl, .inr rfl, .inr rfl, .inl rfl, .inr rfl, .inr rfl, .inr rfl, .inr rfl, .inr rfl, .inr rfl, .inr rfl, .inr rfl, .inr rfl, .inr rfl, .inr rfl, .inr rfl, .inr rfl, .inr rfl, .inr rfl, .inr rfl, .inr rfl, rfl, id, id⟩

theorem upd_sealing (s : State) (v0 : _) :
    Same 4294967296 s { s with sealing := v0 } :=
  ⟨.inr rfl, .inr rfl, .inr rfl, .inr rfl, .inr rfl, .inr rfl, .inr rfl, .inr rfl, .inr rfl, .inr rfl, .inr rfl, .inr rfl, .inr rfl, .inr rfl, .inr rfl, .inr rfl, .inr rfl, .inr rfl, .inr rfl, .inr rfl, .inr rfl, .inr rfl, .inr rfl, .inr rfl, .inr rfl, .inr rfl, .inr rfl, .inr rfl, .inr rfl, .inr rfl, .inr rfl, .inr rfl, .inl rfl, .inr rfl, .inr rfl, .inr rfl, .inr rfl, .inr rfl, .inr rfl, .inr rfl, .inr rfl, .inr rfl, .inr rfl, .inr rfl, .inr rfl, .inr rfl, .inr rfl, .inr rfl, .inr rfl, .inr rfl, .inr rfl, .inr rfl, .inr rfl, .inr rfl, .inr rfl, .inr rfl, .inr rfl, .inr rfl, .inr rfl, rfl, id, id⟩

theorem upd_seqAgree (s : State) (v0 : _) :
    Same 17179869184 s { s with seqAgree := v0 } :=
  ⟨.inr rfl, .inr rfl, .inr rfl, .inr rfl, .inr rfl, .inr rfl, .inr rfl, .inr rfl, .inr rfl, .inr rfl, .inr rfl, .inr rfl, .inr rfl, .inr rfl, .inr rfl, .inr rfl, .inr rfl, .inr rfl, .inr rfl, .inr rfl, .inr rfl, .inr rfl, .inr rfl, .inr rfl, .inr rfl, .inr rfl, .inr rfl, .inr rfl, .inr rfl, .inr rfl, .inr rfl, .inr rfl, .inr rfl, .inr rfl, .inl rfl, .inr rfl, .inr rfl, .inr rfl, .inr rfl, .inr rfl, .inr rfl, .inr rfl, .inr rfl, .inr rfl, .inr rfl, .inr rfl, .inr rfl, .inr rfl, .inr rfl, .inr rfl, .inr rfl, .inr rfl, .inr rfl, .inr rfl, .inr rfl, .inr rfl, .inr rfl, .inr rfl, .inr rfl, rfl, id, id⟩

theorem upd_slots (s : State) (v0 : _) :
    Same 268435456 s { s with slots := v0 } :=
  ⟨.inr rfl, .inr rfl, .inr rfl, .inr rfl, .inr rfl, .inr rfl, .inr rfl, .inr rfl, .inr rfl, .inr rfl, .inr rfl, .inr rfl, .inr rfl, .inr rfl, .inr rfl, .inr rfl, .inr rfl, .inr rfl, .inr rfl, .inr rfl, .inr rfl, .inr rfl, .inr rfl, .inr rfl, .inr rfl, .inr rfl, .inr rfl, .inr rfl, .inl rfl, .inr rfl, .inr rfl, .inr rfl, .inr rfl, .inr rfl, .inr rfl, .inr rfl, .inr rfl, .inr rfl, .inr rfl, .inr rfl, .inr rfl, .inr rfl, .inr rfl, .inr rfl, .inr rfl, .inr rfl, .inr rfl, .inr rfl, .inr rfl, .inr rfl, .inr rfl, .inr rfl, .inr rfl, .inr rfl, .inr rfl, .inr rfl, .inr rfl, .inr rfl, .inr rfl, rfl, id, id⟩

theorem upd_staged (s : State) (v0 : _) :
    Same 32 s { s with staged := v0 } :=
  ⟨.inr rfl, .inr rfl, .inr rfl, .inr rfl, .inr rfl, .inl rfl, .inr rfl, .inr rfl, .inr rfl, .inr rfl, .inr rfl, .inr rfl, .inr rfl, .inr rfl, .inr rfl, .inr rfl, .inr rfl, .inr rfl, .inr rfl, .inr rfl, .inr rfl, .inr rfl, .inr rfl, .inr rfl, .inr rfl, .inr rfl, .inr rfl, .inr rfl, .inr rfl, .inr rfl, .inr rfl, .inr rfl, .inr rfl, .inr rfl, .inr rfl, .inr rfl, .inr rfl, .inr rfl, .inr rfl, .inr rfl, .inr rfl, .inr rfl, .inr rfl, .inr rfl, .inr rfl, .inr rfl, .inr rfl, .inr rfl, .inr rfl, .inr rfl, .inr rfl, .inr rfl, .inr rfl, .inr rfl, .inr rfl, .inr rfl, .inr rfl, .inr rfl, .inr rfl, rfl, id, id⟩

theorem upd_startAt (s : State) (v0 : _) :
    Same 8388608 s { s with startAt := v0 } :=
  ⟨.inr rfl, .inr rfl, .inr rfl, .inr rfl, .inr rfl, .inr rfl, .inr rfl, .inr rfl, .inr rfl, .inr rfl, .inr rfl, .inr rfl, .inr rfl, .inr rfl, .inr rfl, .inr rfl, .inr rfl, .inr rfl, .inr rfl, .inr rfl, .inr rfl, .inr rfl, .inr rfl, .inl rfl, .inr rfl, .inr rfl, .inr rfl, .inr rfl, .inr rfl, .inr rfl, .inr rfl, .inr rfl, .inr rfl, .inr rfl, .inr rfl, .inr rfl, .inr rfl, .inr rfl, .inr rfl, .inr rfl, .inr rfl, .inr rfl, .inr rfl, .inr rfl, .inr rfl, .inr rfl, .inr rfl, .inr rfl, .inr rfl, .inr rfl, .inr rfl, .inr rfl, .inr rfl, .inr rfl, .inr rfl, .inr rfl, .inr rfl, .inr rfl, .inr rfl, rfl, id, id⟩

theorem upd_streams (s : State) (v0 : _) :
    Same 549755813888 s { s with streams := v0 } :=
  ⟨.inr rfl, .inr rfl, .inr rfl, .inr rfl, .inr rfl, .inr rfl, .inr rfl, .inr rfl, .inr rfl, .inr rfl, .inr rfl, .inr rfl, .inr rfl, .inr rfl, .inr rfl, .inr rfl, .inr rfl, .inr rfl, .inr rfl, .inr rfl, .inr rfl, .inr rfl, .inr rfl, .inr rfl, .inr rfl, .inr rfl, .inr rfl, .inr rfl, .inr rfl, .inr rfl, .inr rfl, .inr rfl, .inr rfl, .inr rfl, .inr rfl, .inr rfl, .inr rfl, .inr rfl, .inr rfl, .inl rfl, .inr rfl, .inr rfl, .inr rfl, .inr rfl, .inr rfl, .inr rfl, .inr rfl, .inr rfl, .inr rfl, .inr rfl, .inr rfl, .inr rfl, .inr rfl, .inr rfl, .inr rfl, .inr rfl, .inr rfl, .inr rfl, .inr rfl, rfl, id, id⟩

theorem upd_taps (s : State) (v0 : _) :
    Same 131072 s { s with taps := v0 } :=
  ⟨.inr rfl, .inr rfl, .inr rfl, .inr rfl, .inr rfl, .inr rfl, .inr rfl, .inr rfl, .inr rfl, .inr rfl, .inr rfl, .inr rfl, .inr rfl, .inr rfl, .inr rfl, .inr rfl, .inr rfl, .inl rfl, .inr rfl, .inr rfl, .inr rfl, .inr rfl, .inr rfl, .inr rfl, .inr rfl, .inr rfl, .inr rfl, .inr rfl, .inr rfl, .inr rfl, .inr rfl, .inr rfl, .inr rfl, .inr rfl, .inr rfl, .inr rfl, .inr rfl, .inr rfl, .inr rfl, .inr rfl, .inr rfl, .inr rfl, .inr rfl, .inr rfl, .inr rfl, .inr rfl, .inr rfl, .inr rfl, .inr rfl, .inr rfl, .inr rfl, .inr rfl, .inr rfl, .inr rfl, .inr rfl, .inr rfl, .inr rfl, .inr rfl, .inr rfl, rfl, id, id⟩

theorem upd_tmb (s : State) (v0 : _) :
    Same 8589934592 s { s with tmb := v0 } :=
  ⟨.inr rfl, .inr rfl, .inr rfl, .inr rfl, .inr rfl, .inr rfl, .inr rfl, .inr rfl, .inr rfl, .inr rfl, .inr rfl, .inr rfl, .inr rfl, .inr rfl, .inr rfl, .inr rfl, .inr rfl, .inr rfl, .inr rfl, .inr rfl, .inr rfl, .inr rfl, .inr rfl, .inr rfl, .inr rfl, .inr rfl, .inr rfl, .inr rfl, .inr rfl, .inr rfl, .inr rfl, .inr rfl, .inr rfl, .inl rfl, .inr rfl, .inr rfl, .inr rfl, .inr rfl, .inr rfl, .inr rfl, .inr rfl, .inr rfl, .inr rfl, .inr rfl, .inr rfl, .inr rfl, .inr rfl, .inr rfl, .inr rfl, .inr rfl, .inr rfl, .inr rfl, .inr rfl, .inr rfl, .inr rfl, .inr rfl, .inr rfl, .inr rfl, .inr rfl, rfl, id, id⟩

theorem upd_tst (s : State) (v0 : _) :
    Same 36028797018963968 s { s with tst := v0 } :=
  ⟨.inr rfl, .inr rfl, .inr rfl, .inr rfl, .inr rfl, .inr rfl, .inr rfl, .inr rfl, .inr rfl, .inr rfl, .inr rfl, .inr rfl, .inr rfl, .inr rfl, .inr rfl, .inr rfl, .inr rfl, .inr rfl, .inr rfl, .inr rfl, .inr rfl, .inr rfl, .inr rfl, .inr rfl, .inr rfl, .inr rfl, .inr rfl, .inr rfl, .inr rfl, .inr rfl, .inr rfl, .inr rfl, .inr rfl, .inr rfl, .inr rfl, .inr rfl, .inr rfl, .inr rfl, .inr rfl, .inr rfl, .inr rfl, .inr rfl, .inr rfl, .inr rfl, .inr rfl, .inr rfl, .inr rfl, .inr rfl, .inr rfl, .inr rfl, .inr rfl, .inr rfl, .inr rfl, .inr rfl, .inr rfl, .inl rfl, .inr rfl, .inr rfl, .inr rfl, rfl, id, id⟩

theorem upd_tunits (s : State) (v0 : _) :
    Same 4398046511104 s { s with tunits := v0 } :=
  ⟨.inr rfl, .inr rfl, .inr rfl, .inr rfl, .inr rfl, .inr rfl, .inr rfl, .inr rfl, .inr rfl, .inr rfl, .inr rfl, .inr rfl, .inr rfl, .inr rfl, .inr rfl, .inr rfl, .inr rfl, .inr rfl, .inr rfl, .inr rfl, .inr rfl, .inr rfl, .inr rfl, .inr rfl, .inr rfl, .inr rfl, .inr rfl, .inr rfl, .inr rfl, .inr rfl, .inr rfl, .inr rfl, .inr rfl, .inr rfl, .inr rfl, .inr rfl, .inr rfl, .inr rfl, .inr rfl, .inr rfl, .inr rfl, .inr rfl, .inl rfl, .inr rfl, .inr rfl, .inr rfl, .inr rfl, .inr rfl, .inr rfl, .inr rfl, .inr rfl, .inr rfl, .inr rfl, .inr rfl, .inr rfl, .inr rfl, .inr rfl, .inr rfl, .inr rfl, rfl, id, id⟩

theorem upd_tunits_plans (s : State) (v0 : _) (v1 : _) :
    Same 13194139533312 s { s with tunits := v0, plans := v1 } :=
  ⟨.inr rfl, .inr rfl, .inr rfl, .inr rfl, .inr rfl, .inr rfl, .inr rfl, .inr rfl, .inr rfl, .inr rfl, .inr rfl, .inr rfl, .inr rfl, .inr rfl, .inr rfl, .inr rfl, .inr rfl, .inr rfl, .inr rfl, .inr rfl, .inr rfl, .inr rfl, .inr rfl, .inr rfl, .inr rfl, .inr rfl, .inr rfl, .inr rfl, .inr rfl, .inr rfl, .inr rfl, .inr rfl, .inr rfl, .inr rfl, .inr rfl, .inr rfl, .inr rfl, .inr rfl, .inr rfl, .inr rfl, .inr rfl, .inr rfl, .inl rfl, .inl rfl, .inr rfl, .inr rfl, .inr rfl, .inr rfl, .inr rfl, .inr rfl, .inr rfl, .inr rfl, .inr rfl, .inr rfl, .inr rfl, .inr rfl, .inr rfl, .inr rfl, .inr rfl, rfl, id, id⟩

theorem upd_twn (s : State) (v0 : _) :
    Same 2251799813685248 s { s with twn := v0 } :=
  ⟨.inr rfl, .inr rfl, .inr rfl, .inr rfl, .inr rfl, .inr rfl, .inr rfl, .inr rfl, .inr rfl, .inr rfl, .inr rfl, .inr rfl, .inr rfl, .inr rfl, .inr rfl, .inr rfl, .inr rfl, .inr rfl, .inr rfl, .inr rfl, .inr rfl, .inr rfl, .inr rfl, .inr rfl, .inr rfl, .inr rfl, .inr rfl, .inr rfl, .inr rfl, .inr rfl, .inr rfl, .inr rfl, .inr rfl, .inr rfl, .inr rfl, .inr rfl, .inr rfl, .inr rfl, .inr rfl, .inr rfl, .inr rfl, .inr rfl, .inr rfl, .inr rfl, .inr rfl, .inr rfl, .inr rfl, .inr rfl, .inr rfl, .inr rfl, .inr rfl, .inl rfl, .inr rfl, .inr rfl, .inr rfl, .inr rfl, .inr rfl, .inr rfl, .inr rfl, rfl, id, id⟩

end Sys2Proof.Machine
end

