-- ==== Sys2Proof/Laws/FootOps.lean ====
section
/-! SUPPORT. Footprints of the operations and meanings of Machine/Ops.lean: each lemma says once which fields of the
state the function can change. -/

namespace Sys2Proof.Machine

open Sys2Proof

theorem same_setRg (a : Nat) (w : Word) (s : State) : Same 16 s (setRg a w s) :=
  ⟨.inr rfl, .inr rfl, .inr rfl, .inr rfl, .inl rfl, .inr rfl, .inr rfl, .inr rfl, .inr rfl, .inr rfl, .inr rfl, .inr rfl, .inr rfl, .inr rfl, .inr rfl, .inr rfl, .inr rfl, .inr rfl, .inr rfl, .inr rfl, .inr rfl, .inr rfl, .inr rfl, .inr rfl, .inr rfl, .inr rfl, .inr rfl, .inr rfl, .inr rfl, .inr rfl, .inr rfl, .inr rfl, .inr rfl, .inr rfl, .inr rfl, .inr rfl, .inr rfl, .inr rfl, .inr rfl, .inr rfl, .inr rfl, .inr rfl, .inr rfl, .inr rfl, .inr rfl, .inr rfl, .inr rfl, .inr rfl, .inr rfl, .inr rfl, .inr rfl, .inr rfl, .inr rfl, .inr rfl, .inr rfl, .inr rfl, .inr rfl, .inr rfl, .inr rfl, rfl, twf_tset regReset s.regs a w, id⟩

theorem same_bump (a1 : _) (a2 : _) (s : State) : Same 16 s (bump a1 a2 s) := by
  unfold bump
  exact Same.step (same_setRg ..) rfl (Same.refl _ _)

theorem same_finish (a1 : _) (a2 : _) (a3 : _) (s : State) : Same 216172782113783824 s (finish a1 a2 a3 s) := by
  unfold finish
  extract_lets +onlyGivenNames x1
  clear_value x1
  extract_lets +onlyGivenNames x2
  refine Same.cut (x := x2) ?_ (fun h2 => ?_)
  · unfold x2
    exact Same.step (same_bump ..) rfl (Same.ite (Same.refl _ _) (Same.step (same_bump ..) rfl (Same.refl _ _)))
  clear_value x2
  exact Same.step (upd_flight_compl ..) rfl (by assumption)

theorem same_evtOwe (s : State) : Same 32768 s (evtOwe s) := by
  unfold evtOwe
  exact Same.ite (Same.refl _ _) (Same.step (upd_evt ..) rfl (Same.refl _ _))

theorem same_evtNote (a1 : _) (a2 : _) (a3 : _) (s : State) : Same 32768 s (evtNote a1 a2 a3 s) := by
  unfold evtNote
  exact Same.ite (Same.step (same_evtOwe ..) rfl (Same.refl _ _)) (Same.refl _ _)

theorem same_raiseMask (a1 : _) (a2 : _) (a3 : _) (s : State) : Same 32784 s (raiseMask a1 a2 a3 s) := by
  unfold raiseMask
  exact Same.step (same_evtNote ..) rfl (Same.step (same_setRg ..) rfl (Same.refl _ _))

theorem same_raise (a1 : _) (a2 : _) (a3 : _) (s : State) : Same 32784 s (raise a1 a2 a3 s) := by
  unfold raise
  exact Same.step (same_raiseMask ..) rfl (Same.refl _ _)

theorem same_await (a1 : _) (a2 : _) (s : State) : Same 72057594037927936 s (await a1 a2 s) := by
  unfold await
  exact Same.step (upd_flight ..) rfl (Same.refl _ _)

theorem same_setStg (a1 : _) (a2 : _) (s : State) : Same 32 s (setStg a1 a2 s) := by
  unfold setStg
  exact Same.step (upd_staged ..) rfl (Same.refl _ _)

theorem same_pgError (a1 : _) (a2 : _) (a3 : _) (s : State) : Same 16 s (pgError a1 a2 a3 s) := by
  unfold pgError
  extract_lets +onlyGivenNames x1
  clear_value x1
  exact Same.ite (Same.step (same_setRg ..) rfl (Same.refl _ _)) (Same.step (same_setRg ..) rfl (Same.refl _ _))

theorem same_modTap (a1 : _) (a2 : _) (s : State) : Same 131072 s (modTap a1 a2 s) := by
  unfold modTap
  exact Same.step (upd_taps ..) rfl (Same.refl _ _)

theorem same_advance (a1 : _) (s : State) : Same 1 s (advance a1 s) := by
  unfold advance
  exact Same.ite (Same.refl _ _) (Same.step (upd_c ..) rfl (Same.refl _ _))

theorem same_modAux (a1 : _) (a2 : _) (s : State) : Same 134217728 s (modAux a1 a2 s) := by
  unfold modAux
  exact Same.step (upd_auxs ..) rfl (Same.refl _ _)

theorem same_modChan (a1 : _) (a2 : _) (s : State) : Same 65536 s (modChan a1 a2 s) := by
  unfold modChan
  exact Same.step (upd_chans ..) rfl (Same.refl _ _)

theorem same_wakeup (a1 : _) (a2 : _) (a3 : _) (s : State) : Same 216172782113783824 s (wakeup a1 a2 a3 s) := by
  unfold wakeup
  exact Same.foldl (Same.refl _ _) (fun _ _ => Same.step (same_finish ..) rfl (Same.refl _ _))

theorem same_modRef (a1 : _) (a2 : _) (s : State) : Same 67108864 s (modRef a1 a2 s) := by
  unfold modRef
  exact Same.step (upd_refs ..) rfl (Same.refl _ _)

theorem same_fresh (s : State) : Same 8 s (fresh s).2 := by
  unfold fresh
  exact Same.pair (Same.step (upd_freeIdx ..) rfl (Same.refl _ _))

theorem same_modExc (a1 : _) (a2 : _) (s : State) : Same 33554432 s (modExc a1 a2 s) := by
  unfold modExc
  exact Same.step (upd_excs ..) rfl (Same.refl _ _)

theorem same_modDie (a1 : _) (a2 : _) (s : State) : Same 2048 s (modDie a1 a2 s) := by
  unfold modDie
  exact Same.step (upd_dies ..) rfl (Same.refl _ _)

theorem same_setLatch (a1 : _) (a2 : _) (a3 : _) (s : State) : Same 256 s (setLatch a1 a2 a3 s) := by
  unfold setLatch
  exact Same.step (upd_hiLatch ..) rfl (Same.refl _ _)

theorem same_direct {m : Nat} {s x : State} {k : PageK} {i : Nat} {f : State → State} (hm : 16 ||| m = m) (hx : Same m s x)
    (hf : ∀ y, Same m y (f y)) : Same m s (direct k i f x) := by
  unfold direct
  exact Same.ite hx (Same.ite ((hf _).trans hx) (Same.step (same_pgError ..) (orUp (k := 16) rfl hm) hx))

theorem same_modTlane (a1 : _) (a2 : _) (s : State) : Same 8589934592 s (modTlane a1 a2 s) := by
  unfold modTlane
  exact Same.step (upd_tmb ..) rfl (Same.refl _ _)

theorem same_irqClear (a1 : _) (a2 : _) (a3 : _) (a4 : _) (s : State) : Same 32784 s (irqClear a1 a2 a3 a4 s) := by
  unfold irqClear
  exact Same.step (same_evtNote ..) rfl (Same.step (same_setRg ..) rfl (Same.refl _ _))

theorem same_idle (s : State) : Same 1 s (idle s) := by
  unfold idle
  exact Same.ite (Same.refl _ _) (Same.step (upd_c ..) rfl (Same.refl _ _))

end Sys2Proof.Machine
end

