-- ==== Sys2Proof/Laws/FootAuxQueue.lean ====
section
/-! SUPPORT. Footprints of the operations and meanings of Machine/AuxQueue.lean: each lemma says once which fields of the
state the function can change. -/

namespace Sys2Proof.Machine

open Sys2Proof

theorem same_auxPush (a1 : _) (a2 : _) (s : State) : Same 134217728 s (auxPush a1 a2 s) := by
  unfold auxPush
  exact Same.step (same_modAux ..) rfl (Same.refl _ _)

theorem same_urgentTest (a1 : _) (a2 : _) (a3 : _) (s : State) : Same 134217728 s (urgentTest a1 a2 a3 s) := by
  unfold urgentTest
  exact Same.ite (Same.step (same_auxPush ..) rfl (Same.refl _ _)) (Same.refl _ _)

theorem same_execAuxSysPassDue (a1 : _) (s : State) : SameO 134217728 s (execAuxSysPassDue a1 s) := by
  unfold execAuxSysPassDue
  refine SameO.ite ?_ (SameO.next (Same.refl _ _))
  extract_lets +onlyGivenNames x1
  refine SameO.cut (x := x1) ?_ (fun h1 => ?_)
  · unfold x1
    exact Same.step (same_modAux ..) rfl (Same.refl _ _)
  clear_value x1
  exact SameO.next (Same.ite (by assumption) (Same.foldl (by assumption) (fun _ _ => Same.step (same_auxPush ..) rfl (Same.refl _ _))))

end Sys2Proof.Machine
end

