-- ==== Sys2Proof/Laws/FootBanks.lean ====
section
/-! SUPPORT. Footprints of the operations and meanings of Machine/Banks.lean: each lemma says once which fields of the
state the function can change. -/

namespace Sys2Proof.Machine

open Sys2Proof

theorem same_modMem {m : Nat} {s x : State} {f : Mem → Mem} (hm : 562949953421312 ||| m = m)
    (hf : ∀ y : Mem, (f y).words = y.words) (hx : Same m s x) : Same m s (modMem f x) :=
  Same.step (k := 562949953421312) (x := x) ⟨.inr rfl, .inr rfl, .inr rfl, .inr rfl, .inr rfl, .inr rfl, .inr rfl, .inr rfl, .inr rfl, .inr rfl, .inr rfl, .inr rfl, .inr rfl, .inr rfl, .inr rfl, .inr rfl, .inr rfl, .inr rfl, .inr rfl, .inr rfl, .inr rfl, .inr rfl, .inr rfl, .inr rfl, .inr rfl, .inr rfl, .inr rfl, .inr rfl, .inr rfl, .inr rfl, .inr rfl, .inr rfl, .inr rfl, .inr rfl, .inr rfl, .inr rfl, .inr rfl, .inr rfl, .inr rfl, .inr rfl, .inr rfl, .inr rfl, .inr rfl, .inr rfl, .inr rfl, .inr rfl, .inr rfl, .inr rfl, .inr rfl, .inl rfl, .inr rfl, .inr rfl, .inr rfl, .inr rfl, .inr rfl, .inr rfl, .inr rfl, .inr rfl, .inr (hf x.mem), rfl, id, fun h => (hf x.mem).symm ▸ h⟩ hm hx

theorem same_memSync (s : State) : Same 562949953454096 s (memSync s) := by
  unfold memSync
  extract_lets +onlyGivenNames x1
  clear_value x1
  extract_lets +onlyGivenNames x2
  clear_value x2
  extract_lets +onlyGivenNames x3
  refine Same.cut (x := x3) ?_ (fun h3 => ?_)
  · unfold x3
    exact same_modMem rfl (fun _ => rfl) (Same.refl _ _)
  clear_value x3
  exact Same.ite (by assumption) (Same.step (same_raise ..) rfl (by assumption))

theorem same_bankEcc (a1 : _) (a2 : _) (s : State) : Same 16 s (bankEcc a1 a2 s) := by
  unfold bankEcc
  extract_lets +onlyGivenNames x1
  clear_value x1
  extract_lets +onlyGivenNames x2
  clear_value x2
  exact Same.step (same_setRg ..) rfl (Same.refl _ _)

theorem same_ueRecord (a1 : _) (a2 : _) (s : State) : Same 32784 s (ueRecord a1 a2 s) := by
  unfold ueRecord
  extract_lets +onlyGivenNames x1
  clear_value x1
  extract_lets +onlyGivenNames x2
  refine Same.cut (x := x2) ?_ (fun h2 => ?_)
  · unfold x2
    exact Same.step (same_setRg ..) rfl (Same.refl _ _)
  clear_value x2
  exact Same.step (same_raise ..) rfl (Same.step (same_pgError ..) rfl (by assumption))

theorem same_eccFound (a1 : _) (a2 : _) (a3 : _) (s : State) : Same 562949953454096 s (eccFound a1 a2 a3 s) := by
  unfold eccFound
  refine Same.ite (Same.refl _ _) ?_
  extract_lets +onlyGivenNames x1
  clear_value x1
  extract_lets +onlyGivenNames x2
  refine Same.cut (x := x2) ?_ (fun h2 => ?_)
  · unfold x2
    exact Same.ite (Same.step (same_bankEcc ..) rfl (Same.refl _ _)) (Same.refl _ _)
  clear_value x2
  extract_lets +onlyGivenNames x3
  refine Same.cut (x := x3) ?_ (fun h3 => ?_)
  · unfold x3
    exact Same.ite (Same.step (same_bump ..) rfl (by assumption)) (by assumption)
  clear_value x3
  extract_lets +onlyGivenNames x4
  refine Same.cut (x := x4) ?_ (fun h4 => ?_)
  · unfold x4
    exact Same.ite (Same.step (same_bump ..) rfl (Same.ite (Same.step (same_raise ..) rfl (by assumption)) (by assumption))) (by assumption)
  clear_value x4
  extract_lets +onlyGivenNames x5
  refine Same.cut (x := x5) ?_ (fun h5 => ?_)
  · unfold x5
    exact Same.ite (Same.step (same_bump ..) rfl (by assumption)) (by assumption)
  clear_value x5
  exact Same.ite (Same.ite (Same.step (same_ueRecord ..) rfl (by assumption)) (by assumption)) (same_modMem rfl (fun _ => rfl) (by assumption))

theorem same_eccCorr (a1 : _) (s : State) : Same 562949953454096 s (eccCorr a1 s) := by
  unfold eccCorr
  exact Same.forL (Same.refl _ _) (fun _ _ => Same.step (same_eccFound ..) rfl (Same.refl _ _))

theorem memOk_tset (t : Tbl Nat) (a v : Nat) (h : memOk t = true) (hv : v < 2 ^ 64) : memOk (tset 0 t a v) = true := by
  unfold memOk at *
  rw [Bool.and_eq_true] at *
  refine ⟨twf_tset (fun _ => 0) t a v h.1, ?_⟩
  have ha := h.2
  rw [List.all_eq_true] at *
  intro e he
  have key : e ∈ t ∨ e = (a, v) := by
    unfold tset at he
    split at he
    · exact .inl (mem_terase he)
    · exact mem_tinsert he
  rcases key with hk | hk
  · exact ha e hk
  · subst hk
    simpa using hv

theorem same_memSet (a v : Nat) (s : State) : Same 288793326105133056 s (memSet a v s) := by
  exact ⟨.inr rfl, .inr rfl, .inr rfl, .inr rfl, .inr rfl, .inr rfl, .inr rfl, .inr rfl, .inr rfl, .inr rfl, .inr rfl, .inr rfl, .inr rfl, .inr rfl, .inr rfl, .inr rfl, .inr rfl, .inr rfl, .inr rfl, .inr rfl, .inr rfl, .inr rfl, .inr rfl, .inr rfl, .inr rfl, .inr rfl, .inr rfl, .inr rfl, .inr rfl, .inr rfl, .inr rfl, .inr rfl, .inr rfl, .inr rfl, .inr rfl, .inr rfl, .inr rfl, .inr rfl, .inr rfl, .inr rfl, .inr rfl, .inr rfl, .inr rfl, .inr rfl, .inr rfl, .inr rfl, .inr rfl, .inr rfl, .inr rfl, .inl rfl, .inr rfl, .inr rfl, .inr rfl, .inr rfl, .inr rfl, .inr rfl, .inr rfl, .inr rfl, .inl rfl, rfl, id, fun h => memOk_tset s.mem.words a _ h (Nat.mod_lt _ (by decide))⟩

theorem same_memPut (a1 : _) (a2 : _) (s : State) : Same 288793326105133056 s (memPut a1 a2 s) := by
  unfold memPut
  exact same_modMem rfl (fun _ => rfl) (Same.step (same_memSet ..) rfl (Same.refl _ _))

theorem same_memStore (a1 : _) (a2 : _) (a3 : _) (s : State) : Same 288793326105133056 s (memStore a1 a2 a3 s) := by
  unfold memStore
  refine Same.foldl (Same.refl _ _) (fun _ _ => ?_)
  extract_lets +onlyGivenNames x1
  clear_value x1
  extract_lets +onlyGivenNames x2
  extract_lets +onlyGivenNames x3
  clear_value x3
  extract_lets +onlyGivenNames x4
  clear_value x4
  exact Same.ite (Same.step (same_memPut ..) rfl (Same.refl _ _)) (Same.step (same_memSet ..) rfl (Same.refl _ _))

theorem same_bankAssign (a1 : _) (a2 : _) (s : State) : Same 562949953454096 s (bankAssign a1 a2 s).2 := by
  unfold bankAssign
  extract_lets +onlyGivenNames x1
  clear_value x1
  refine Same.iteSnd (Same.pair (Same.refl _ _)) ?_
  refine Same.iteSnd (Same.pair (Same.step (same_pgError ..) rfl (Same.refl _ _))) ?_
  extract_lets +onlyGivenNames x2
  refine Same.cut (x := x2) ?_ (fun h2 => ?_)
  · unfold x2
    exact Same.step (same_raise ..) rfl (Same.step (same_bump ..) rfl (Same.step (same_setRg ..) rfl (Same.refl _ _)))
  clear_value x2
  exact Same.pair (same_modMem rfl (fun _ => rfl) (by assumption))

theorem same_collLog (a1 : _) (a2 : _) (a3 : _) (s : State) : Same 32784 s (collLog a1 a2 a3 s) := by
  unfold collLog
  extract_lets +onlyGivenNames x1
  clear_value x1
  extract_lets +onlyGivenNames x2
  refine Same.cut (x := x2) ?_ (fun h2 => ?_)
  · unfold x2
    exact Same.step (same_setRg ..) rfl (Same.refl _ _)
  clear_value x2
  exact Same.step (same_raise ..) rfl (Same.step (same_bump ..) rfl (by assumption))

theorem same_hNext (s : State) : Same 16 s (hNext s) := by
  unfold hNext
  exact Same.ite (Same.step (same_setRg ..) rfl (Same.refl _ _)) (Same.refl _ _)

theorem same_nonOwn (s : State) : Same 32784 s (nonOwn s) := by
  unfold nonOwn
  exact Same.step (same_raise ..) rfl (Same.step (same_pgError ..) rfl (Same.step (same_bump ..) rfl (Same.refl _ _)))

theorem same_setHstat (a1 : _) (s : State) : Same 562949953421312 s (setHstat a1 s) := by
  unfold setHstat
  exact same_modMem rfl (fun _ => rfl) (Same.refl _ _)

theorem same_windowRead (a1 : _) (a2 : _) (a3 : _) (s : State) : Same 562949953454104 s (windowRead a1 a2 a3 s).2.2 := by
  unfold windowRead
  extract_lets +onlyGivenNames x1
  clear_value x1
  refine Same.iteSnd2 (Same.pair2 (Same.pair (Same.step (same_setHstat ..) rfl (Same.step (same_nonOwn ..) rfl (Same.refl _ _))))) ?_
  refine Same.iteSnd2 ?_ ?_
  · extract_lets +onlyGivenNames x2
    clear_value x2
    extract_lets +onlyGivenNames x3
    clear_value x3
    exact Same.pair2 (Same.pair (Same.step (same_setHstat ..) rfl (Same.step (same_collLog ..) rfl (Same.step (upd_freeIdx ..) rfl (Same.refl _ _)))))
  · extract_lets +onlyGivenNames x4
    refine Same.cut (x := x4) ?_ (fun h4 => ?_)
    · unfold x4
      exact Same.ite (Same.step (same_collLog ..) rfl (Same.refl _ _)) (Same.refl _ _)
    clear_value x4
    extract_lets +onlyGivenNames x5
    clear_value x5
    exact Same.pair2 (Same.pair (Same.step (same_setHstat ..) rfl (Same.step (same_eccFound ..) rfl (by assumption))))

theorem same_hdataRead (a1 : _) (a2 : _) (s : State) : Same 562949953454360 s (hdataRead a1 a2 s).2.2 := by
  unfold hdataRead
  refine Same.iteSnd2 (Same.pair2 (Same.pair (Same.refl _ _))) ?_
  extract_lets +onlyGivenNames x1
  refine Same.cut (x := x1.2.2) ?_ (fun h1 => ?_)
  · unfold x1
    exact Same.step (same_windowRead ..) rfl (Same.refl _ _)
  clear_value x1
  extract_lets +onlyGivenNames x2
  refine Same.cut (x := x2) ?_ (fun h2 => ?_)
  · unfold x2
    exact Same.step (same_setLatch ..) rfl (same_modMem rfl (fun _ => rfl) (by assumption))
  clear_value x2
  exact Same.pair2 (Same.pair (Same.ite (by assumption) (Same.step (same_hNext ..) rfl (by assumption))))

theorem same_eccList (a1 : _) (s : State) : Same 562949953454096 s (eccList a1 s) := by
  unfold eccList
  exact Same.forL (Same.refl _ _) (fun _ _ => Same.step (same_eccFound ..) rfl (Same.refl _ _))

theorem memOk_filter (t : Tbl Nat) (p : Nat × Nat → Bool) (h : memOk t = true) : memOk (t.filter p) = true := by
  unfold memOk at *
  rw [Bool.and_eq_true] at *
  refine ⟨twf_filter (fun _ => 0) t p h.1, ?_⟩
  have ha := h.2
  rw [List.all_eq_true] at *
  exact fun e he => ha e (List.mem_of_mem_filter he)

theorem same_memZero (b : Nat) (s : State) : Same 288793326105133056 s (memZero b s) := by
  exact ⟨.inr rfl, .inr rfl, .inr rfl, .inr rfl, .inr rfl, .inr rfl, .inr rfl, .inr rfl, .inr rfl, .inr rfl, .inr rfl, .inr rfl, .inr rfl, .inr rfl, .inr rfl, .inr rfl, .inr rfl, .inr rfl, .inr rfl, .inr rfl, .inr rfl, .inr rfl, .inr rfl, .inr rfl, .inr rfl, .inr rfl, .inr rfl, .inr rfl, .inr rfl, .inr rfl, .inr rfl, .inr rfl, .inr rfl, .inr rfl, .inr rfl, .inr rfl, .inr rfl, .inr rfl, .inr rfl, .inr rfl, .inr rfl, .inr rfl, .inr rfl, .inr rfl, .inr rfl, .inr rfl, .inr rfl, .inr rfl, .inr rfl, .inl rfl, .inr rfl, .inr rfl, .inr rfl, .inr rfl, .inr rfl, .inr rfl, .inr rfl, .inr rfl, .inl rfl, rfl, id, memOk_filter s.mem.words _⟩

theorem same_memTestStop (s : State) : Same 288793326105133056 s (memTestStop s) := by
  unfold memTestStop
  split
  · exact Same.step (same_memZero ..) rfl (same_modMem rfl (fun _ => rfl) (Same.refl _ _))
  · exact Same.refl _ _

theorem same_unitPut (a1 : _) (a2 : _) (a3 : _) (s : State) : Same 288793326105165840 s (unitPut a1 a2 a3 s) := by
  unfold unitPut
  exact Same.ite (Same.step (same_memPut ..) rfl (Same.refl _ _)) (Same.step (same_nonOwn ..) rfl (Same.refl _ _))

theorem same_haddrWrite (a1 : _) (s : State) : Same 16 s (haddrWrite a1 s) := by
  unfold haddrWrite
  exact Same.ite (Same.step (same_pgError ..) rfl (Same.refl _ _)) (Same.step (same_setRg ..) rfl (Same.refl _ _))

theorem same_windowWrite (a1 : _) (a2 : _) (a3 : _) (a4 : _) (s : State) : Same 288793326105165840 s (windowWrite a1 a2 a3 a4 s).2 := by
  unfold windowWrite
  extract_lets +onlyGivenNames x1
  clear_value x1
  refine Same.iteSnd (Same.pair (Same.step (same_setHstat ..) rfl (Same.step (same_nonOwn ..) rfl (Same.refl _ _)))) ?_
  refine Same.iteSnd (Same.pair (Same.step (same_setHstat ..) rfl (Same.step (same_collLog ..) rfl (Same.refl _ _)))) ?_
  extract_lets +onlyGivenNames x2
  refine Same.cut (x := x2) ?_ (fun h2 => ?_)
  · unfold x2
    exact Same.ite (Same.step (same_collLog ..) rfl (Same.refl _ _)) (Same.refl _ _)
  clear_value x2
  exact Same.pair (Same.step (same_setHstat ..) rfl (Same.step (same_memPut ..) rfl (by assumption)))

theorem same_hdataWrite (a1 : _) (a2 : _) (s : State) : Same 288793326105165840 s (hdataWrite a1 a2 s).2 := by
  unfold hdataWrite
  extract_lets +onlyGivenNames x1
  refine Same.cut (x := x1.2) ?_ (fun h1 => ?_)
  · unfold x1
    exact Same.step (same_windowWrite ..) rfl (Same.refl _ _)
  clear_value x1
  exact Same.pair (Same.ite (by assumption) (Same.step (same_hNext ..) rfl (by assumption)))

theorem same_memTestStart (a1 : _) (s : State) : Same 562949953421312 s (memTestStart a1 s).2 := by
  unfold memTestStart
  exact Same.iteSnd (Same.pair (Same.refl _ _)) (Same.pair (same_modMem rfl (fun _ => rfl) (Same.refl _ _)))

theorem same_memTestWrite (a1 : _) (s : State) : Same 562949953421328 s (memTestWrite a1 s) := by
  unfold memTestWrite
  extract_lets +onlyGivenNames x1
  refine Same.cut (x := x1) ?_ (fun h1 => ?_)
  · unfold x1
    exact Same.ite (Same.step (same_setRg ..) rfl (Same.refl _ _)) (Same.refl _ _)
  clear_value x1
  refine Same.ite ?_ (by assumption)
  extract_lets +onlyGivenNames x2
  refine Same.cut (x := x2.2) ?_ (fun h2 => ?_)
  · unfold x2
    exact Same.step (same_memTestStart ..) rfl (by assumption)
  clear_value x2
  exact Same.ite (by assumption) (Same.step (same_pgError ..) rfl (by assumption))

theorem same_repairGo (a1 : _) (s : State) : Same 288793326105133080 s (repairGo a1 s) := by
  unfold repairGo
  extract_lets +onlyGivenNames x1
  extract_lets +onlyGivenNames x2
  clear_value x2
  extract_lets +onlyGivenNames x3
  clear_value x3
  refine Same.ite ?_ ?_
  · unfold x1
    beta_reduce
    exact Same.step (same_setRg ..) rfl (Same.refl _ _)
  · refine Same.ite (Same.step (same_pgError ..) rfl (Same.refl _ _)) ?_
    extract_lets +onlyGivenNames x4
    clear_value x4
    extract_lets +onlyGivenNames x5
    refine Same.cut (x := x5) ?_ (fun h5 => ?_)
    · unfold x5
      refine same_modMem rfl (fun _ => rfl) ?_
      unfold x1
      beta_reduce
      exact Same.step (same_setRg ..) rfl (Same.refl _ _)
    clear_value x5
    extract_lets +onlyGivenNames x6
    clear_value x6
    extract_lets +onlyGivenNames x7
    refine Same.cut (x := x7) ?_ (fun h7 => ?_)
    · unfold x7
      exact Same.step (upd_freeIdx ..) rfl (by assumption)
    clear_value x7
    exact Same.forN (by assumption) (fun _ _ => same_modMem rfl (fun _ => rfl) (Same.step (same_memSet ..) rfl (Same.refl _ _)))

theorem same_execMemBankCfgWrite (a1 : _) (a2 : _) (a3 : _) (s : State) : SameO 562949953454096 s (execMemBankCfgWrite a1 a2 a3 s) := by
  unfold execMemBankCfgWrite
  exact SameO.next (Same.ite (same_direct rfl (Same.refl _ _) (fun _ => Same.step (same_bankAssign ..) rfl (Same.refl _ _))) (Same.refl _ _))

theorem same_execMemRepairGo (a1 : _) (a2 : _) (s : State) : SameO 288793326105133080 s (execMemRepairGo a1 a2 s) := by
  unfold execMemRepairGo
  exact SameO.next (same_direct rfl (Same.refl _ _) (fun _ => Same.step (same_repairGo ..) rfl (Same.refl _ _)))

theorem same_execMemTestDone (a1 : _) (a2 : _) (a3 : _) (s : State) : SameO 504966108218949648 s (execMemTestDone a1 a2 a3 s) := by
  unfold execMemTestDone
  split
  · exact SameO.next (Same.refl _ _)
  · extract_lets +onlyGivenNames x1
    clear_value x1
    extract_lets +onlyGivenNames x2
    refine SameO.cut (x := x2) ?_ (fun h2 => ?_)
    · unfold x2
      exact Same.step (same_memZero ..) rfl (same_modMem rfl (fun _ => rfl) (Same.refl _ _))
    clear_value x2
    exact SameO.next (Same.step (same_wakeup ..) rfl (Same.step (same_raise ..) rfl (by assumption)))

theorem same_execMemTestGo (a1 : _) (a2 : _) (s : State) : SameO 562949953421328 s (execMemTestGo a1 a2 s) := by
  unfold execMemTestGo
  exact SameO.next (same_direct rfl (Same.refl _ _) (fun _ => Same.step (same_memTestWrite ..) rfl (Same.refl _ _)))

theorem same_execMemWindowRead (a1 : _) (a2 : _) (s : State) : SameO 562949953454872 s (execMemWindowRead a1 a2 s) := by
  unfold execMemWindowRead
  refine SameO.ite ?_ (SameO.next (Same.refl _ _))
  extract_lets +onlyGivenNames x1
  refine SameO.cut (x := x1.2.2) ?_ (fun h1 => ?_)
  · unfold x1
    exact Same.step (same_hdataRead ..) rfl (Same.refl _ _)
  clear_value x1
  refine SameO.next ?_
  extract_lets +onlyGivenNames x2
  refine Same.cut (x := x2) ?_ (fun h2 => ?_)
  · unfold x2
    exact (by assumption)
  clear_value x2
  exact Same.step (upd_rd ..) rfl (by assumption)

theorem same_execMemWindowWrite (a1 : _) (a2 : _) (a3 : _) (a4 : _) (s : State) : SameO 288793326105165840 s (execMemWindowWrite a1 a2 a3 a4 s) := by
  unfold execMemWindowWrite
  exact SameO.next (same_direct rfl (Same.refl _ _) (fun _ => Same.step (same_hdataWrite ..) rfl (same_modMem rfl (fun _ => rfl) (Same.refl _ _))))

theorem same_scrubOne (a1 : _) (a2 : _) (s : State) : Same 562949953454096 s (scrubOne a1 a2 s) := by
  unfold scrubOne
  extract_lets +onlyGivenNames x1
  clear_value x1
  extract_lets +onlyGivenNames x2
  clear_value x2
  extract_lets +onlyGivenNames x3
  clear_value x3
  extract_lets +onlyGivenNames x4
  refine Same.cut (x := x4) ?_ (fun h4 => ?_)
  · unfold x4
    exact Same.step (same_eccFound ..) rfl (Same.refl _ _)
  clear_value x4
  extract_lets +onlyGivenNames x5
  clear_value x5
  extract_lets +onlyGivenNames x6
  refine Same.cut (x := x6) ?_ (fun h6 => ?_)
  · unfold x6
    exact same_modMem rfl (fun _ => rfl) (by assumption)
  clear_value x6
  exact Same.ite (Same.step (same_bump ..) rfl (by assumption)) (by assumption)

theorem same_execScrubStep (a1 : _) (s : State) : SameO 562949953454096 s (execScrubStep a1 s) := by
  unfold execScrubStep
  exact SameO.ite (SameO.next (Same.foldl (Same.refl _ _) (fun _ _ => Same.step (same_scrubOne ..) rfl (Same.refl _ _)))) (SameO.next (Same.refl _ _))

end Sys2Proof.Machine
end

