-- ==== Sys2Proof/Laws/FootTime.lean ====
section
/-! SUPPORT. Footprints of the operations and meanings of Machine/Time.lean: each lemma says once which fields of the
state the function can change. -/

namespace Sys2Proof.Machine

open Sys2Proof

theorem same_modTmb (a1 : _) (s : State) : Same 8589934592 s (modTmb a1 s) := by
  unfold modTmb
  exact Same.step (upd_tmb ..) rfl (Same.refl _ _)

theorem same_tunlVerdict (a1 : State) (s : State) : Same 8589934592 s (tunlVerdict a1 s) := by
  unfold tunlVerdict
  exact Same.ite (Same.step (same_modTmb ..) rfl (Same.refl _ _)) (Same.refl _ _)

theorem same_setBound (a1 : _) (s : State) : Same 8589934592 s (setBound a1 s) := by
  unfold setBound
  exact Same.step (same_tunlVerdict ..) rfl (Same.step (same_modTmb ..) rfl (Same.refl _ _))

theorem same_setSrc (a1 : _) (s : State) : Same 8589967376 s (setSrc a1 s) := by
  unfold setSrc
  extract_lets +onlyGivenNames x1
  clear_value x1
  extract_lets +onlyGivenNames x2
  refine Same.cut (x := x2) ?_ (fun h2 => ?_)
  · unfold x2
    exact Same.step (same_modTmb ..) rfl (Same.refl _ _)
  clear_value x2
  extract_lets +onlyGivenNames x3
  refine Same.cut (x := x3) ?_ (fun h3 => ?_)
  · unfold x3
    split
    · exact Same.step (same_setBound ..) rfl (by assumption)
    · exact (by assumption)
  clear_value x3
  exact Same.step (same_bump ..) rfl (Same.step (same_raise ..) rfl (by assumption))

theorem same_dropNow (s : State) : Same 8589934592 s (dropNow s) := by
  unfold dropNow
  exact Same.step (same_modTmb ..) rfl (Same.refl _ _)

theorem same_tbState (a1 : _) (s : State) : Same 8589967376 s (tbState a1 s) := by
  unfold tbState
  refine Same.ite (Same.refl _ _) ?_
  extract_lets +onlyGivenNames x1
  clear_value x1
  extract_lets +onlyGivenNames x2
  clear_value x2
  extract_lets +onlyGivenNames x3
  refine Same.cut (x := x3) ?_ (fun h3 => ?_)
  · unfold x3
    exact Same.step (same_modTmb ..) rfl (Same.refl _ _)
  clear_value x3
  exact Same.step (same_raise ..) rfl (by assumption)

theorem same_enterHoldover (a1 : _) (s : State) : Same 8589967376 s (enterHoldover a1 s) := by
  unfold enterHoldover
  extract_lets +onlyGivenNames x1
  clear_value x1
  extract_lets +onlyGivenNames x2
  clear_value x2
  exact Same.step (same_tbState ..) rfl (Same.step (same_modTmb ..) rfl (Same.step (same_dropNow ..) rfl (Same.refl _ _)))

theorem same_pulseOn (a1 : _) (a2 : _) (a3 : _) (s : State) : Same 8589934592 s (pulseOn a1 a2 a3 s) := by
  unfold pulseOn
  exact Same.step (same_modTmb ..) rfl (Same.refl _ _)

theorem same_trigOut (a1 : _) (a2 : _) (s : State) : Same 8589934592 s (trigOut a1 a2 s) := by
  unfold trigOut
  exact Same.step (same_pulseOn ..) rfl (Same.refl _ _)

theorem same_evtDrop (a1 : _) (s : State) : Same 8589934592 s (evtDrop a1 s) := by
  unfold evtDrop
  exact Same.step (same_modTmb ..) rfl (Same.refl _ _)

theorem same_evtNext (a1 : _) (s : State) : Same 8589934592 s (evtNext a1 s) := by
  unfold evtNext
  exact Same.ite (Same.step (same_evtDrop ..) rfl (Same.refl _ _)) (Same.step (same_modTmb ..) rfl (Same.refl _ _))

theorem same_evtStat (a1 : _) (a2 : _) (s : State) : Same 16 s (evtStat a1 a2 s) := by
  unfold evtStat
  exact Same.step (same_setRg ..) rfl (Same.refl _ _)

theorem same_outAt (a1 : _) (a2 : _) (s : State) : Same 8589934592 s (outAt a1 a2 s) := by
  unfold outAt
  exact Same.ite (Same.step (same_trigOut ..) rfl (Same.refl _ _)) (Same.step (same_modTmb ..) rfl (Same.refl _ _))

theorem same_evtArm1 (a1 : _) (s : State) : Same 8589934608 s (evtArm1 a1 s) := by
  unfold evtArm1
  exact Same.ite (Same.step (same_modTmb ..) rfl (Same.refl _ _)) (Same.step (same_pgError ..) rfl (Same.step (same_evtDrop ..) rfl (Same.refl _ _)))

theorem same_evtArmW (a1 : _) (s : State) : Same 8589934608 s (evtArmW a1 s) := by
  unfold evtArmW
  exact Same.foldl (Same.refl _ _) (fun _ _ => Same.ite (Same.step (same_evtArm1 ..) rfl (Same.refl _ _)) (Same.refl _ _))

theorem same_execDlyJump (a1 : _) (s : State) : SameO 8589967376 s (execDlyJump a1 s) := by
  unfold execDlyJump
  exact SameO.ite (SameO.next (Same.step (same_raise ..) rfl (Same.step (same_modTlane ..) rfl (Same.refl _ _)))) (SameO.next (Same.refl _ _))

theorem same_execHoldoverBoundCross (a1 : _) (s : State) : SameO 8589934593 s (execHoldoverBoundCross a1 s) := by
  unfold execHoldoverBoundCross
  refine SameO.ite ?_ (SameO.next (Same.refl _ _))
  extract_lets +onlyGivenNames x1
  refine SameO.cut (x := x1) ?_ (fun h1 => ?_)
  · unfold x1
    exact Same.step (same_advance ..) rfl (Same.refl _ _)
  clear_value x1
  extract_lets +onlyGivenNames x2
  clear_value x2
  exact SameO.next (Same.step (same_modTmb ..) rfl (by assumption))

theorem same_execHoldoverEntry (a1 : _) (s : State) : SameO 8589967377 s (execHoldoverEntry a1 s) := by
  unfold execHoldoverEntry
  exact SameO.ite (SameO.next (Same.step (same_enterHoldover ..) rfl (Same.step (same_advance ..) rfl (Same.refl _ _)))) (SameO.next (Same.refl _ _))

theorem same_takeSnap (s : State) : Same 8589934592 s (takeSnap s) := by
  unfold takeSnap
  exact Same.step (same_modTmb ..) rfl (Same.refl _ _)

theorem same_todWrite (a1 : _) (s : State) : Same 8589934608 s (todWrite a1 s) := by
  unfold todWrite
  extract_lets +onlyGivenNames x1
  refine Same.cut (x := x1) ?_ (fun h1 => ?_)
  · unfold x1
    exact Same.step (same_setRg ..) rfl (Same.refl _ _)
  clear_value x1
  exact Same.ite (Same.step (same_modTmb ..) rfl (by assumption)) (by assumption)

theorem same_freeLane1 (a1 : _) (s : State) : Same 8589934592 s (freeLane1 a1 s) := by
  unfold freeLane1
  exact Same.step (same_modTlane ..) rfl (Same.refl _ _)

theorem same_freeCount (s : State) : Same 8589934592 s (freeCount s) := by
  unfold freeCount
  refine Same.ite (Same.refl _ _) ?_
  extract_lets +onlyGivenNames x1
  refine Same.cut (x := x1) ?_ (fun h1 => ?_)
  · unfold x1
    exact Same.forN (Same.refl _ _) (fun _ _ => Same.step (same_freeLane1 ..) rfl (Same.refl _ _))
  clear_value x1
  split
  · extract_lets +onlyGivenNames x2
    clear_value x2
    exact Same.step (same_modTmb ..) rfl (by assumption)
  · exact (by assumption)

theorem same_takeError (a1 : _) (s : State) : Same 8589967376 s (takeError a1 s) := by
  unfold takeError
  extract_lets +onlyGivenNames x1
  clear_value x1
  extract_lets +onlyGivenNames x2
  clear_value x2
  extract_lets +onlyGivenNames x3
  clear_value x3
  extract_lets +onlyGivenNames x4
  refine Same.cut (x := x4) ?_ (fun h4 => ?_)
  · unfold x4
    exact Same.step (same_modTmb ..) rfl (Same.refl _ _)
  clear_value x4
  extract_lets +onlyGivenNames x5
  refine Same.cut (x := x5) ?_ (fun h5 => ?_)
  · unfold x5
    exact Same.ite (Same.ite (Same.step (same_raise ..) rfl (Same.step (same_modTmb ..) rfl (by assumption))) (by assumption)) (Same.step (same_modTmb ..) rfl (by assumption))
  clear_value x5
  exact Same.ite (Same.step (same_modTmb ..) rfl (by assumption)) (by assumption)

theorem same_useExchange (s : State) : Same 8589967376 s (useExchange s) := by
  unfold useExchange
  split
  · exact Same.refl _ _
  · split
    · exact Same.refl _ _
    · refine Same.ite (Same.refl _ _) ?_
      extract_lets +onlyGivenNames x1
      clear_value x1
      extract_lets +onlyGivenNames x2
      refine Same.cut (x := x2) ?_ (fun h2 => ?_)
      · unfold x2
        exact Same.step (same_takeError ..) rfl (Same.refl _ _)
      clear_value x2
      exact Same.ite (Same.step (same_tbState ..) rfl (Same.step (same_modTmb ..) rfl (by assumption))) (by assumption)

theorem same_frameExchange (s : State) : Same 8589967376 s (frameExchange s) := by
  unfold frameExchange
  exact Same.step (same_useExchange ..) rfl (Same.step (same_freeCount ..) rfl (Same.refl _ _))

theorem same_lockTurn (s : State) : Same 8589967376 s (lockTurn s) := by
  unfold lockTurn
  exact Same.ite (Same.step (same_tbState ..) rfl (Same.refl _ _)) (Same.ite (Same.step (same_modTmb ..) rfl (Same.step (same_tbState ..) rfl (Same.refl _ _))) (Same.refl _ _))

theorem same_osDepart (a1 : _) (s : State) : Same 8589934592 s (osDepart a1 s) := by
  unfold osDepart
  refine Same.ite ?_ (Same.refl _ _)
  extract_lets +onlyGivenNames x1
  clear_value x1
  extract_lets +onlyGivenNames x2
  clear_value x2
  exact Same.step (same_modTlane ..) rfl (Same.refl _ _)

theorem same_setRho (a1 : _) (s : State) : Same 8589934592 s (setRho a1 s) := by
  unfold setRho
  extract_lets +onlyGivenNames x1
  clear_value x1
  exact Same.step (same_modTmb ..) rfl (Same.refl _ _)

theorem same_servo (s : State) : Same 8589967376 s (servo s) := by
  unfold servo
  refine Same.ite (Same.refl _ _) ?_
  extract_lets +onlyGivenNames x1
  clear_value x1
  extract_lets +onlyGivenNames x2
  clear_value x2
  extract_lets +onlyGivenNames x3
  clear_value x3
  extract_lets +onlyGivenNames x4
  clear_value x4
  extract_lets +onlyGivenNames x5
  clear_value x5
  extract_lets +onlyGivenNames x6
  refine Same.cut (x := x6) ?_ (fun h6 => ?_)
  · unfold x6
    exact Same.step (same_modTmb ..) rfl (Same.step (same_setRho ..) rfl (Same.refl _ _))
  clear_value x6
  exact Same.ite (Same.step (same_raise ..) rfl (by assumption)) (by assumption)

theorem same_outTick (s : State) : Same 8589934592 s (outTick s) := by
  unfold outTick
  exact Same.forL (Same.step (same_modTmb ..) rfl (Same.refl _ _)) (fun _ _ => Same.step (same_outAt ..) rfl (Same.refl _ _))

theorem same_tickPulses (a1 : _) (a2 : _) (s : State) : Same 8589934592 s (tickPulses a1 a2 s) := by
  unfold tickPulses
  extract_lets +onlyGivenNames x1
  refine Same.cut (x := x1) ?_ (fun h1 => ?_)
  · unfold x1
    exact Same.step (same_outTick ..) rfl (Same.refl _ _)
  clear_value x1
  refine Same.ite (by assumption) ?_
  extract_lets +onlyGivenNames x2
  refine Same.cut (x := x2) ?_ (fun h2 => ?_)
  · unfold x2
    split
    · exact Same.ite (Same.step (same_pulseOn ..) rfl (by assumption)) (by assumption)
    · exact (by assumption)
  clear_value x2
  exact Same.ite (Same.step (same_pulseOn ..) rfl (by assumption)) (by assumption)

theorem same_laneTick (a1 : _) (s : State) : Same 8589934592 s (laneTick a1 s) := by
  unfold laneTick
  extract_lets +onlyGivenNames x1
  refine Same.cut (x := x1) ?_ (fun h1 => ?_)
  · unfold x1
    exact Same.step (same_modTlane ..) rfl (Same.refl _ _)
  clear_value x1
  extract_lets +onlyGivenNames x2
  clear_value x2
  exact Same.step (same_modTlane ..) rfl (by assumption)

theorem same_tmbTick (a1 : _) (s : State) : Same 8589934592 s (tmbTick a1 s) := by
  unfold tmbTick
  extract_lets +onlyGivenNames x1
  clear_value x1
  extract_lets +onlyGivenNames x2
  refine Same.cut (x := x2) ?_ (fun h2 => ?_)
  · unfold x2
    exact Same.step (same_modTmb ..) rfl (Same.refl _ _)
  clear_value x2
  exact Same.foldl (by assumption) (fun _ _ => Same.step (same_laneTick ..) rfl (Same.refl _ _))

theorem same_stepTime (a1 : _) (s : State) : Same 8589967378 s (stepTime a1 s) := by
  unfold stepTime
  extract_lets +onlyGivenNames x1
  clear_value x1
  extract_lets +onlyGivenNames x2
  clear_value x2
  extract_lets +onlyGivenNames x3
  clear_value x3
  extract_lets +onlyGivenNames x4
  clear_value x4
  extract_lets +onlyGivenNames x5
  refine Same.cut (x := x5) ?_ (fun h5 => ?_)
  · unfold x5
    exact Same.step (same_modTmb ..) rfl (Same.step (same_dropNow ..) rfl (Same.refl _ _))
  clear_value x5
  extract_lets +onlyGivenNames x6
  refine Same.cut (x := x6) ?_ (fun h6 => ?_)
  · unfold x6
    exact Same.step (upd_frame ..) rfl (by assumption)
  clear_value x6
  exact Same.step (same_bump ..) rfl (Same.step (same_raise ..) rfl (Same.step (same_tbState ..) rfl (by assumption)))

theorem same_osReport (a1 : _) (s : State) : Same 8589934592 s (osReport a1 s) := by
  unfold osReport
  extract_lets +onlyGivenNames x1
  clear_value x1
  exact Same.step (same_modTlane ..) rfl (Same.refl _ _)

theorem same_ppsEdge (a1 : _) (s : State) : Same 8589967376 s (ppsEdge a1 s) := by
  unfold ppsEdge
  extract_lets +onlyGivenNames x1
  clear_value x1
  refine Same.ite ?_ ?_
  · split
    · exact Same.step (same_modTmb ..) rfl (Same.refl _ _)
    · extract_lets +onlyGivenNames x2
      clear_value x2
      refine Same.ite ?_ (Same.step (same_modTmb ..) rfl (Same.refl _ _))
      extract_lets +onlyGivenNames x3
      clear_value x3
      extract_lets +onlyGivenNames x4
      clear_value x4
      extract_lets +onlyGivenNames x5
      clear_value x5
      exact Same.step (same_modTmb ..) rfl (Same.refl _ _)
  · split
    · exact Same.refl _ _
    · extract_lets +onlyGivenNames x6
      clear_value x6
      refine Same.ite ?_ ?_
      · extract_lets +onlyGivenNames x7
        clear_value x7
        extract_lets +onlyGivenNames x8
        refine Same.cut (x := x8) ?_ (fun h8 => ?_)
        · unfold x8
          exact Same.step (same_modTmb ..) rfl (Same.refl _ _)
        clear_value x8
        exact Same.ite (Same.step (same_raise ..) rfl (Same.step (same_modTmb ..) rfl (by assumption))) (by assumption)
      · extract_lets +onlyGivenNames x9
        clear_value x9
        extract_lets +onlyGivenNames x10
        refine Same.cut (x := x10) ?_ (fun h10 => ?_)
        · unfold x10
          exact Same.step (same_modTmb ..) rfl (Same.refl _ _)
        clear_value x10
        exact Same.ite (Same.step (same_tbState ..) rfl (by assumption)) (by assumption)

theorem same_execPpsInEdge (a1 : _) (s : State) : SameO 8589967377 s (execPpsInEdge a1 s) := by
  unfold execPpsInEdge
  exact SameO.ite (SameO.next (Same.step (same_ppsEdge ..) rfl (Same.step (same_advance ..) rfl (Same.refl _ _)))) (SameO.next (Same.refl _ _))

theorem same_execPpsMissing (a1 : _) (s : State) : SameO 8589967377 s (execPpsMissing a1 s) := by
  unfold execPpsMissing
  split
  · refine SameO.ite ?_ (SameO.next (Same.refl _ _))
    extract_lets +onlyGivenNames x1
    refine SameO.cut (x := x1) ?_ (fun h1 => ?_)
    · unfold x1
      exact Same.step (same_advance ..) rfl (Same.refl _ _)
    clear_value x1
    extract_lets +onlyGivenNames x2
    refine SameO.cut (x := x2) ?_ (fun h2 => ?_)
    · unfold x2
      exact Same.step (same_modTmb ..) rfl (by assumption)
    clear_value x2
    extract_lets +onlyGivenNames x3
    refine SameO.cut (x := x3) ?_ (fun h3 => ?_)
    · unfold x3
      exact Same.step (same_raise ..) rfl (by assumption)
    clear_value x3
    exact SameO.next (Same.ite (Same.step (same_enterHoldover ..) rfl (by assumption)) (by assumption))
  · exact SameO.next (Same.refl _ _)

theorem same_execRootTodValid (a1 : _) (a2 : _) (s : State) : SameO 8589934608 s (execRootTodValid a1 a2 s) := by
  unfold execRootTodValid
  exact SameO.next (same_direct rfl (Same.refl _ _) (fun _ => Same.step (same_todWrite ..) rfl (Same.refl _ _)))

theorem same_execSourceChange (s : State) : SameO 8589967376 s (execSourceChange s) := by
  unfold execSourceChange
  split
  · exact SameO.ite (SameO.next (Same.step (same_setSrc ..) rfl (Same.refl _ _))) (SameO.next (Same.refl _ _))
  · exact SameO.next (Same.refl _ _)

theorem same_osArrive (a1 : _) (a2 : _) (a3 : _) (s : State) : Same 8589934592 s (osArrive a1 a2 a3 s) := by
  unfold osArrive
  extract_lets +onlyGivenNames x1
  clear_value x1
  exact Same.step (same_modTlane ..) rfl (Same.refl _ _)

theorem same_execTimeOsReceive (a1 : _) (a2 : _) (a3 : _) (s : State) : SameO 8589934593 s (execTimeOsReceive a1 a2 a3 s) := by
  unfold execTimeOsReceive
  exact SameO.ite (SameO.next (Same.step (same_osArrive ..) rfl (Same.step (same_advance ..) rfl (Same.refl _ _)))) (SameO.next (Same.refl _ _))

theorem same_recordArrival (a1 : _) (a2 : _) (a3 : _) (s : State) : Same 8589934592 s (recordArrival a1 a2 a3 s) := by
  unfold recordArrival
  exact Same.step (same_modTlane ..) rfl (Same.refl _ _)

theorem same_takeExchange (a1 : _) (a2 : _) (s : State) : Same 8589967376 s (takeExchange a1 a2 s) := by
  unfold takeExchange
  extract_lets +onlyGivenNames x1
  clear_value x1
  extract_lets +onlyGivenNames x2
  clear_value x2
  extract_lets +onlyGivenNames x3
  clear_value x3
  extract_lets +onlyGivenNames x4
  refine Same.cut (x := x4) ?_ (fun h4 => ?_)
  · unfold x4
    exact Same.step (same_modTlane ..) rfl (Same.refl _ _)
  clear_value x4
  extract_lets +onlyGivenNames x5
  refine Same.cut (x := x5) ?_ (fun h5 => ?_)
  · unfold x5
    exact Same.step (same_bump ..) rfl (by assumption)
  clear_value x5
  exact Same.ite (Same.step (same_setSrc ..) rfl (by assumption)) (by assumption)

theorem same_timePacket (a1 : _) (a2 : _) (a3 : _) (s : State) : Same 8589967376 s (timePacket a1 a2 a3 s) := by
  unfold timePacket
  refine Same.ite (Same.step (same_modTlane ..) rfl (Same.refl _ _)) ?_
  extract_lets +onlyGivenNames x1
  refine Same.cut (x := x1) ?_ (fun h1 => ?_)
  · unfold x1
    exact Same.step (same_recordArrival ..) rfl (Same.refl _ _)
  clear_value x1
  extract_lets +onlyGivenNames x2
  refine Same.cut (x := x2) ?_ (fun h2 => ?_)
  · unfold x2
    exact Same.ite (Same.step (same_setBound ..) rfl (by assumption)) (by assumption)
  clear_value x2
  split
  · exact (by assumption)
  · exact Same.ite (Same.step (same_bump ..) rfl (Same.step (same_modTlane ..) rfl (by assumption))) (Same.ite (Same.step (same_takeExchange ..) rfl (by assumption)) (Same.step (same_bump ..) rfl (Same.step (same_modTlane ..) rfl (by assumption))))

theorem same_execTimePacketReceive (a1 : _) (a2 : _) (a3 : _) (s : State) : SameO 8589967377 s (execTimePacketReceive a1 a2 a3 s) := by
  unfold execTimePacketReceive
  exact SameO.ite (SameO.next (Same.step (same_timePacket ..) rfl (Same.step (same_advance ..) rfl (Same.refl _ _)))) (SameO.next (Same.refl _ _))

theorem same_execTimeStampDiscard (a1 : _) (s : State) : SameO 8589934592 s (execTimeStampDiscard a1 s) := by
  unfold execTimeStampDiscard
  exact SameO.ite (SameO.next (Same.step (same_modTlane ..) rfl (Same.refl _ _))) (SameO.next (Same.refl _ _))

theorem same_execTimebaseLock (s : State) : SameO 8589967376 s (execTimebaseLock s) := by
  unfold execTimebaseLock
  exact SameO.ite (SameO.next (Same.step (same_tbState ..) rfl (Same.refl _ _))) (SameO.next (Same.refl _ _))

theorem same_execTimebaseUnlock (s : State) : SameO 8589967376 s (execTimebaseUnlock s) := by
  unfold execTimebaseUnlock
  exact SameO.ite (SameO.next (Same.step (same_modTmb ..) rfl (Same.step (same_tbState ..) rfl (Same.refl _ _)))) (SameO.next (Same.refl _ _))

theorem same_execTimingPulseEnd (a1 : _) (a2 : _) (s : State) : SameO 8589934593 s (execTimingPulseEnd a1 a2 s) := by
  unfold execTimingPulseEnd
  exact SameO.ite (SameO.next (Same.step (same_modTmb ..) rfl (Same.step (same_advance ..) rfl (Same.refl _ _)))) (SameO.next (Same.refl _ _))

theorem same_execTmbEvtArm (a1 : _) (a2 : _) (s : State) : SameO 8589934608 s (execTmbEvtArm a1 a2 s) := by
  unfold execTmbEvtArm
  exact SameO.next (same_direct rfl (Same.refl _ _) (fun _ => Same.step (same_evtArmW ..) rfl (Same.refl _ _)))

theorem same_execTmbEvtDisarm (a1 : _) (a2 : _) (s : State) : SameO 8589934608 s (execTmbEvtDisarm a1 a2 s) := by
  unfold execTmbEvtDisarm
  exact SameO.next (same_direct rfl (Same.refl _ _) (fun _ => Same.step (same_evtDrop ..) rfl (Same.refl _ _)))

theorem same_execTmbSnapGo (a1 : _) (s : State) : SameO 8589934608 s (execTmbSnapGo a1 s) := by
  unfold execTmbSnapGo
  exact SameO.next (same_direct rfl (Same.refl _ _) (fun _ => Same.step (same_takeSnap ..) rfl (Same.refl _ _)))

end Sys2Proof.Machine
end

