-- ==== Sys2Proof/Laws/FootFrontEnd.lean ====
section
/-! SUPPORT. Footprints of the operations and meanings of Machine/FrontEnd.lean: each lemma says once which fields of the
state the function can change. -/

namespace Sys2Proof.Machine

open Sys2Proof

theorem same_arUndo (a1 : _) (a2 : _) (s : State) : Same 65552 s (arUndo a1 a2 s) := by
  unfold arUndo
  extract_lets +onlyGivenNames x1
  refine Same.cut (x := x1) ?_ (fun h1 => ?_)
  · unfold x1
    exact Same.step (same_modChan ..) rfl (Same.refl _ _)
  clear_value x1
  extract_lets +onlyGivenNames x2
  clear_value x2
  extract_lets +onlyGivenNames x3
  refine Same.cut (x := x3) ?_ (fun h3 => ?_)
  · unfold x3
    exact Same.ite (Same.step (same_setRg ..) rfl (by assumption)) (by assumption)
  clear_value x3
  extract_lets +onlyGivenNames x4
  refine Same.cut (x := x4) ?_ (fun h4 => ?_)
  · unfold x4
    exact Same.ite (Same.step (same_setRg ..) rfl (by assumption)) (by assumption)
  clear_value x4
  exact Same.ite (Same.step (same_setRg ..) rfl (by assumption)) (by assumption)

theorem same_arDiscard (a1 : _) (a2 : _) (s : State) : Same 65552 s (arDiscard a1 a2 s) := by
  unfold arDiscard
  exact Same.step (same_modChan ..) rfl (Same.forL (Same.refl _ _) (fun _ _ => Same.step (same_arUndo ..) rfl (Same.refl _ _)))

theorem same_chEvent (a1 : _) (a2 : _) (s : State) : Same 32784 s (chEvent a1 a2 s) := by
  unfold chEvent
  exact Same.step (same_raise ..) rfl (Same.step (same_setRg ..) rfl (Same.refl _ _))

theorem same_mark (a1 : _) (a2 : _) (a3 : _) (a4 : _) (s : State) : Same 65536 s (mark a1 a2 a3 a4 s) := by
  unfold mark
  exact Same.step (same_modChan ..) rfl (Same.refl _ _)

theorem same_shiftFrom (a1 : _) (a2 : _) (a3 : _) (s : State) : Same 65536 s (shiftFrom a1 a2 a3 s) := by
  unfold shiftFrom
  extract_lets +onlyGivenNames x1
  clear_value x1
  exact Same.ite (Same.refl _ _) (Same.step (same_modChan ..) rfl (Same.refl _ _))

theorem same_switchRange (a1 : _) (a2 : _) (a3 : _) (s : State) : Same 65536 s (switchRange a1 a2 a3 s) := by
  unfold switchRange
  extract_lets +onlyGivenNames x1
  refine Same.cut (x := x1) ?_ (fun h1 => ?_)
  · unfold x1
    exact Same.step (same_shiftFrom ..) rfl (Same.step (same_modChan ..) rfl (Same.refl _ _))
  clear_value x1
  exact Same.ite (by assumption) (Same.step (same_mark ..) rfl (Same.step (same_modChan ..) rfl (by assumption)))

theorem same_arSwitch (a1 : _) (a2 : _) (a3 : _) (a4 : _) (s : State) : Same 98320 s (arSwitch a1 a2 a3 a4 s) := by
  unfold arSwitch
  extract_lets +onlyGivenNames x1
  clear_value x1
  extract_lets +onlyGivenNames x2
  clear_value x2
  extract_lets +onlyGivenNames x3
  clear_value x3
  extract_lets +onlyGivenNames x4
  refine Same.cut (x := x4) ?_ (fun h4 => ?_)
  · unfold x4
    exact Same.step (same_modChan ..) rfl (Same.step (same_switchRange ..) rfl (Same.refl _ _))
  clear_value x4
  exact Same.ite (Same.step (same_bump ..) rfl (Same.step (same_chEvent ..) rfl (Same.step (same_modChan ..) rfl (by assumption)))) (Same.step (same_chEvent ..) rfl (Same.step (same_modChan ..) rfl (by assumption)))

theorem same_ltReport (a1 : _) (a2 : _) (a3 : _) (a4 : _) (a5 : _) (s : State) : Same 216172782114865168 s (ltReport a1 a2 a3 a4 a5 s) := by
  unfold ltReport
  refine Same.ite (Same.refl _ _) ?_
  extract_lets +onlyGivenNames x1
  clear_value x1
  exact Same.step (same_wakeup ..) rfl (Same.step (same_raise ..) rfl (Same.step (upd_ltRes ..) rfl (Same.refl _ _)))

theorem same_endMarks (a1 : _) (a2 : _) (a3 : _) (s : State) : Same 65536 s (endMarks a1 a2 a3 s) := by
  unfold endMarks
  exact Same.step (same_modChan ..) rfl (Same.refl _ _)

theorem same_shortsEnd (a1 : _) (s : State) : Same 65536 s (shortsEnd a1 s) := by
  unfold shortsEnd
  exact Same.forN (Same.refl _ _) (fun _ _ => Same.step (same_endMarks ..) rfl (Same.refl _ _))

theorem same_ltBegin (a1 : _) (a2 : _) (s : State) : Same 1310720 s (ltBegin a1 a2 s) := by
  unfold ltBegin
  extract_lets +onlyGivenNames x1
  refine Same.cut (x := x1) ?_ (fun h1 => ?_)
  · unfold x1
    exact Same.step (upd_lts ..) rfl (Same.refl _ _)
  clear_value x1
  exact Same.ite (by assumption) (Same.step (upd_ltRes ..) rfl (by assumption))

theorem same_startOpens (a1 : _) (a2 : _) (a3 : _) (a4 : _) (s : State) : Same 216172782249345040 s (startOpens a1 a2 a3 a4 s) := by
  unfold startOpens
  extract_lets +onlyGivenNames x1
  clear_value x1
  extract_lets +onlyGivenNames x2
  clear_value x2
  refine Same.ite (Same.step (same_ltReport ..) rfl (Same.refl _ _)) ?_
  extract_lets +onlyGivenNames x3
  refine Same.cut (x := x3) ?_ (fun h3 => ?_)
  · unfold x3
    exact Same.step (same_ltBegin ..) rfl (Same.refl _ _)
  clear_value x3
  exact Same.foldl (by assumption) (fun _ _ => Same.step (same_auxPush ..) rfl (Same.step (same_auxPush ..) rfl (Same.refl _ _)))

theorem same_ltStop (a1 : _) (s : State) : Same 216172782249934864 s (ltStop a1 s) := by
  unfold ltStop
  extract_lets +onlyGivenNames x1
  refine Same.cut (x := x1) ?_ (fun h1 => ?_)
  · unfold x1
    split
    · exact Same.ite (Same.step (same_shortsEnd ..) rfl (Same.refl _ _)) (Same.refl _ _)
    · exact Same.refl _ _
  clear_value x1
  extract_lets +onlyGivenNames x2
  refine Same.cut (x := x2) ?_ (fun h2 => ?_)
  · unfold x2
    exact Same.step (upd_lts ..) rfl (by assumption)
  clear_value x2
  extract_lets +onlyGivenNames x3
  refine Same.cut (x := x3) ?_ (fun h3 => ?_)
  · unfold x3
    exact Same.step (same_modAux ..) rfl (by assumption)
  clear_value x3
  exact Same.ite (Same.step (same_startOpens ..) rfl (Same.step (upd_ltWait ..) rfl (by assumption))) (by assumption)

theorem same_ltAbort (a1 : _) (s : State) : Same 216172782249934864 s (ltAbort a1 s) := by
  unfold ltAbort
  split
  · exact Same.step (same_ltStop ..) rfl (Same.step (same_ltReport ..) rfl (Same.refl _ _))
  · exact Same.refl _ _

theorem same_clearingTest (a1 : _) (s : State) : Same 134283264 s (clearingTest a1 s) := by
  unfold clearingTest
  exact Same.ite (Same.step (same_urgentTest ..) rfl (Same.step (same_modChan ..) rfl (Same.refl _ _))) (Same.refl _ _)

theorem same_leadClear (a1 : _) (a2 : _) (a3 : _) (s : State) : Same 98320 s (leadClear a1 a2 a3 s) := by
  unfold leadClear
  exact Same.step (same_chEvent ..) rfl (Same.step (same_endMarks ..) rfl (Same.step (same_modChan ..) rfl (Same.refl _ _)))

theorem same_leadConfirm (a1 : _) (s : State) : Same 98320 s (leadConfirm a1 s) := by
  unfold leadConfirm
  exact Same.step (same_bump ..) rfl (Same.step (same_chEvent ..) rfl (Same.step (same_modChan ..) rfl (Same.refl _ _)))

theorem same_urgentResult (a1 : _) (a2 : _) (a3 : _) (a4 : _) (a5 : _) (s : State) : Same 134316048 s (urgentResult a1 a2 a3 a4 a5 s) := by
  unfold urgentResult
  exact Same.ite (Same.refl _ _) (Same.ite (Same.ite (Same.ite (Same.step (same_leadClear ..) rfl (Same.refl _ _)) (Same.step (same_clearingTest ..) rfl (Same.step (same_leadConfirm ..) rfl (Same.refl _ _)))) (Same.step (same_clearingTest ..) rfl (Same.refl _ _))) (Same.ite (Same.ite (Same.ite (Same.step (same_urgentTest ..) rfl (Same.refl _ _)) (Same.step (same_leadClear ..) rfl (Same.refl _ _))) (Same.step (same_modChan ..) rfl (Same.refl _ _))) (Same.refl _ _)))

theorem same_leadDrop (a1 : _) (s : State) : Same 65536 s (leadDrop a1 s) := by
  unfold leadDrop
  exact Same.step (same_endMarks ..) rfl (Same.step (same_modChan ..) rfl (Same.refl _ _))

theorem same_loadsSync (a1 : _) (a2 : _) (s : State) : Same 65536 s (loadsSync a1 a2 s) := by
  unfold loadsSync
  exact Same.ite (Same.refl _ _) (Same.step (same_modChan ..) rfl (Same.refl _ _))

theorem same_ltLeave (a1 : _) (s : State) : Same 216172782249934864 s (ltLeave a1 s) := by
  unfold ltLeave
  split
  · exact Same.ite (Same.step (same_ltAbort ..) rfl (Same.refl _ _)) (Same.refl _ _)
  · exact Same.refl _ _

theorem same_setStart (a1 : _) (a2 : _) (s : State) : Same 8388608 s (setStart a1 a2 s) := by
  unfold setStart
  exact Same.step (upd_startAt ..) rfl (Same.refl _ _)

theorem same_chFault (a1 : _) (a2 : _) (s : State) : Same 216172782258323472 s (chFault a1 a2 s) := by
  unfold chFault
  refine Same.ite ?_ ?_
  · extract_lets +onlyGivenNames x1
    refine Same.cut (x := x1) ?_ (fun h1 => ?_)
    · unfold x1
      exact Same.step (same_modChan ..) rfl (Same.step (same_setStart ..) rfl (Same.refl _ _))
    clear_value x1
    exact Same.step (same_loadsSync ..) rfl (Same.step (same_chEvent ..) rfl (Same.step (same_ltLeave ..) rfl (Same.step (same_leadDrop ..) rfl (by assumption))))
  · refine Same.ite ?_ (Same.refl _ _)
    extract_lets +onlyGivenNames x2
    refine Same.cut (x := x2) ?_ (fun h2 => ?_)
    · unfold x2
      exact Same.step (same_modChan ..) rfl (Same.step (same_setStart ..) rfl (Same.refl _ _))
    clear_value x2
    exact Same.step (same_loadsSync ..) rfl (by assumption)

theorem same_marksClose (a1 : _) (a2 : _) (s : State) : Same 65536 s (marksClose a1 a2 s) := by
  unfold marksClose
  exact Same.step (same_modChan ..) rfl (Same.refl _ _)

theorem same_chOff (a1 : _) (s : State) : Same 216172782250065936 s (chOff a1 s) := by
  unfold chOff
  refine Same.ite (Same.refl _ _) ?_
  extract_lets +onlyGivenNames x1
  refine Same.cut (x := x1) ?_ (fun h1 => ?_)
  · unfold x1
    exact Same.step (same_ltLeave ..) rfl (Same.step (same_leadDrop ..) rfl (Same.step (same_modChan ..) rfl (Same.refl _ _)))
  clear_value x1
  extract_lets +onlyGivenNames x2
  refine Same.cut (x := x2) ?_ (fun h2 => ?_)
  · unfold x2
    exact Same.step (same_loadsSync ..) rfl (Same.step (same_marksClose ..) rfl (by assumption))
  clear_value x2
  exact Same.step (same_modTap ..) rfl (by assumption)

theorem same_detectorOff (a1 : _) (a2 : _) (s : State) : Same 134283264 s (detectorOff a1 a2 s) := by
  unfold detectorOff
  exact Same.ite (Same.step (same_clearingTest ..) rfl (Same.step (same_modChan ..) rfl (Same.refl _ _))) (Same.refl _ _)

theorem same_detectorOn (a1 : _) (a2 : _) (a3 : _) (s : State) : Same 98320 s (detectorOn a1 a2 a3 s) := by
  unfold detectorOn
  refine Same.ite ?_ (Same.refl _ _)
  extract_lets +onlyGivenNames x1
  refine Same.cut (x := x1) ?_ (fun h1 => ?_)
  · unfold x1
    exact Same.step (same_mark ..) rfl (Same.refl _ _)
  clear_value x1
  extract_lets +onlyGivenNames x2
  refine Same.cut (x := x2) ?_ (fun h2 => ?_)
  · unfold x2
    exact Same.ite (Same.step (same_modChan ..) rfl (by assumption)) (Same.step (same_leadConfirm ..) rfl (by assumption))
  clear_value x2
  exact Same.step (same_modChan ..) rfl (by assumption)

theorem same_startShorts (a1 : _) (a2 : _) (a3 : _) (a4 : _) (s : State) : Same 135593984 s (startShorts a1 a2 a3 a4 s) := by
  unfold startShorts
  extract_lets +onlyGivenNames x1
  clear_value x1
  exact Same.step (same_auxPush ..) rfl (Same.forN (Same.step (same_ltBegin ..) rfl (Same.refl _ _)) (fun _ _ => Same.step (same_mark ..) rfl (Same.refl _ _)))

theorem same_execClipDetect (a1 : _) (a2 : _) (a3 : _) (s : State) : SameO 98321 s (execClipDetect a1 a2 a3 s) := by
  unfold execClipDetect
  refine SameO.ite ?_ (SameO.next (Same.refl _ _))
  extract_lets +onlyGivenNames x1
  refine SameO.cut (x := x1) ?_ (fun h1 => ?_)
  · unfold x1
    exact Same.step (same_modChan ..) rfl (Same.step (same_advance ..) rfl (Same.refl _ _))
  clear_value x1
  exact SameO.next (Same.step (same_bump ..) rfl (Same.step (same_chEvent ..) rfl (by assumption)))

theorem same_execDownrangeCount (a1 : _) (a2 : _) (s : State) : SameO 98321 s (execDownrangeCount a1 a2 s) := by
  unfold execDownrangeCount
  split
  · exact SameO.ite (SameO.next (Same.step (same_arSwitch ..) rfl (Same.step (same_advance ..) rfl (Same.refl _ _)))) (SameO.next (Same.refl _ _))
  · exact SameO.next (Same.refl _ _)

theorem same_goOpens (a1 : _) (a2 : _) (a3 : _) (s : State) : Same 216172782249345040 s (goOpens a1 a2 a3 s) := by
  unfold goOpens
  split
  · exact Same.step (same_pgError ..) rfl (Same.refl _ _)
  · exact Same.step (same_startOpens ..) rfl (Same.refl _ _)

theorem same_goShorts (a1 : _) (a2 : _) (a3 : _) (s : State) : Same 135594000 s (goShorts a1 a2 a3 s) := by
  unfold goShorts
  split
  · exact Same.step (same_pgError ..) rfl (Same.refl _ _)
  · exact Same.ite (Same.step (same_startShorts ..) rfl (Same.refl _ _)) (Same.step (same_pgError ..) rfl (Same.refl _ _))

theorem same_fsDiffSet (a1 : _) (a2 : _) (a3 : _) (s : State) : Same 33554432 s (fsDiffSet a1 a2 a3 s) := by
  unfold fsDiffSet
  split
  · exact Same.step (same_modExc ..) rfl (Same.refl _ _)
  · exact Same.refl _ _

theorem same_execLeadDetectorConfirm (a1 : _) (a2 : _) (a3 : _) (s : State) : SameO 33652753 s (execLeadDetectorConfirm a1 a2 a3 s) := by
  unfold execLeadDetectorConfirm
  exact SameO.ite (SameO.next (Same.step (same_detectorOn ..) rfl (Same.step (same_fsDiffSet ..) rfl (Same.step (same_advance ..) rfl (Same.refl _ _))))) (SameO.next (Same.refl _ _))

theorem same_execLeadDetectorInactive (a1 : _) (a2 : _) (a3 : _) (s : State) : SameO 167837697 s (execLeadDetectorInactive a1 a2 a3 s) := by
  unfold execLeadDetectorInactive
  exact SameO.ite (SameO.next (Same.step (same_detectorOff ..) rfl (Same.step (same_fsDiffSet ..) rfl (Same.step (same_advance ..) rfl (Same.refl _ _))))) (SameO.next (Same.refl _ _))

theorem same_execLeadRetestTimer (a1 : _) (s : State) : SameO 134283264 s (execLeadRetestTimer a1 s) := by
  unfold execLeadRetestTimer
  split
  · exact SameO.ite (SameO.next (Same.step (same_clearingTest ..) rfl (Same.refl _ _))) (SameO.next (Same.refl _ _))
  · exact SameO.next (Same.refl _ _)

theorem same_ltShortsTake (a1 : _) (a2 : _) (s : State) : Same 65536 s (ltShortsTake a1 a2 s) := by
  unfold ltShortsTake
  extract_lets +onlyGivenNames x1
  extract_lets +onlyGivenNames x2
  refine Same.cut (x := x2) ?_ (fun h2 => ?_)
  · unfold x2
    exact Same.forN (Same.refl _ _) (fun _ _ => Same.step (same_modChan ..) rfl (Same.refl _ _))
  clear_value x2
  exact Same.forL (by assumption) (fun _ _ => Same.step (same_modChan ..) rfl (Same.refl _ _))

theorem same_execLeadTestComplete (a1 : _) (a2 : _) (s : State) : SameO 216172782249934864 s (execLeadTestComplete a1 a2 s) := by
  unfold execLeadTestComplete
  split
  · exact SameO.next (Same.refl _ _)
  · exact SameO.ite (SameO.next (Same.step (same_ltStop ..) rfl (Same.step (same_ltReport ..) rfl (Same.step (same_ltShortsTake ..) rfl (Same.refl _ _))))) (SameO.ite (SameO.next (Same.refl _ _)) (SameO.next (Same.step (same_ltStop ..) rfl (Same.step (same_ltReport ..) rfl (Same.refl _ _)))))

theorem same_execLtPeriodicDue (a1 : _) (s : State) : SameO 216172782251966480 s (execLtPeriodicDue a1 s) := by
  unfold execLtPeriodicDue
  refine SameO.ite ?_ (SameO.next (Same.refl _ _))
  extract_lets +onlyGivenNames x1
  refine SameO.cut (x := x1) ?_ (fun h1 => ?_)
  · unfold x1
    exact Same.step (upd_ltTicks ..) rfl (Same.refl _ _)
  clear_value x1
  exact SameO.next (Same.ite (Same.step (upd_ltWait ..) rfl (by assumption)) (Same.step (same_startOpens ..) rfl (by assumption)))

theorem same_loadsAll (a1 : _) (s : State) : Same 65536 s (loadsAll a1 s) := by
  unfold loadsAll
  exact Same.forN (Same.refl _ _) (fun _ _ => Same.step (same_loadsSync ..) rfl (Same.refl _ _))

theorem same_execPeakTripUprange (a1 : _) (a2 : _) (a3 : _) (s : State) : SameO 98321 s (execPeakTripUprange a1 a2 a3 s) := by
  unfold execPeakTripUprange
  refine SameO.ite ?_ (SameO.next (Same.refl _ _))
  extract_lets +onlyGivenNames x1
  refine SameO.cut (x := x1) ?_ (fun h1 => ?_)
  · unfold x1
    exact Same.step (same_modChan ..) rfl (Same.step (same_advance ..) rfl (Same.refl _ _))
  clear_value x1
  extract_lets +onlyGivenNames x2
  clear_value x2
  exact SameO.ite (SameO.next (by assumption)) (SameO.next (Same.step (same_arSwitch ..) rfl (by assumption)))

theorem same_execShfLtOpens (a1 : _) (a2 : _) (a3 : _) (a4 : _) (s : State) : SameO 216172782249345040 s (execShfLtOpens a1 a2 a3 a4 s) := by
  unfold execShfLtOpens
  exact SameO.next (Same.ite (same_direct rfl (Same.refl _ _) (fun _ => Same.step (same_goOpens ..) rfl (Same.refl _ _))) (Same.refl _ _))

theorem same_execShfLtShorts (a1 : _) (a2 : _) (s : State) : SameO 135594000 s (execShfLtShorts a1 a2 s) := by
  unfold execShfLtShorts
  exact SameO.next (Same.ite (same_direct rfl (Same.refl _ _) (fun _ => Same.step (same_goShorts ..) rfl (Same.refl _ _))) (Same.refl _ _))

theorem same_execWindowComparatorTrip (a1 : _) (a2 : _) (a3 : _) (a4 : _) (s : State) : SameO 134316049 s (execWindowComparatorTrip a1 a2 a3 a4 s) := by
  unfold execWindowComparatorTrip
  refine SameO.ite ?_ (SameO.next (Same.refl _ _))
  extract_lets +onlyGivenNames x1
  refine SameO.cut (x := x1) ?_ (fun h1 => ?_)
  · unfold x1
    exact Same.step (same_modChan ..) rfl (Same.step (same_advance ..) rfl (Same.refl _ _))
  clear_value x1
  refine SameO.ite ?_ (SameO.next (Same.step (same_modChan ..) rfl (by assumption)))
  extract_lets +onlyGivenNames x2
  refine SameO.cut (x := x2) ?_ (fun h2 => ?_)
  · unfold x2
    exact Same.step (same_mark ..) rfl (by assumption)
  clear_value x2
  extract_lets +onlyGivenNames x3
  refine SameO.cut (x := x3) ?_ (fun h3 => ?_)
  · unfold x3
    exact Same.step (same_modChan ..) rfl (by assumption)
  clear_value x3
  extract_lets +onlyGivenNames x4
  refine SameO.cut (x := x4) ?_ (fun h4 => ?_)
  · unfold x4
    exact Same.step (same_bump ..) rfl (Same.step (same_chEvent ..) rfl (by assumption))
  clear_value x4
  exact SameO.next (Same.ite (Same.step (same_urgentTest ..) rfl (by assumption)) (by assumption))

theorem same_execWindowReturn (a1 : _) (a2 : _) (s : State) : SameO 134316049 s (execWindowReturn a1 a2 s) := by
  unfold execWindowReturn
  refine SameO.ite ?_ (SameO.next (Same.refl _ _))
  extract_lets +onlyGivenNames x1
  refine SameO.cut (x := x1) ?_ (fun h1 => ?_)
  · unfold x1
    exact Same.step (same_modChan ..) rfl (Same.step (same_advance ..) rfl (Same.refl _ _))
  clear_value x1
  exact SameO.ite (SameO.next (Same.step (same_leadClear ..) rfl (by assumption))) (SameO.next (Same.step (same_clearingTest ..) rfl (by assumption)))

end Sys2Proof.Machine
end

