-- ==== Sys2Proof/Laws/FootDecimate.lean ====
section
/-! SUPPORT. Footprints of the operations and meanings of Machine/Decimate.lean: each lemma says once which fields of the
state the function can change. -/

namespace Sys2Proof.Machine

open Sys2Proof

theorem same_cicChan (a1 : _) (s : State) : Same 65536 s (cicChan a1 s).2 := by
  unfold cicChan
  refine Same.iteSnd ?_ (Same.pair (Same.refl _ _))
  extract_lets +onlyGivenNames x1
  clear_value x1
  extract_lets +onlyGivenNames x2
  clear_value x2
  exact Same.pair (Same.step (same_modChan ..) rfl (Same.refl _ _))

end Sys2Proof.Machine
end

