-- ==== Sys2Proof/Laws/FootFilter.lean ====
section
/-! SUPPORT. Footprints of the operations and meanings of Machine/Filter.lean: each lemma says once which fields of the
state the function can change. -/

namespace Sys2Proof.Machine

open Sys2Proof

theorem same_putCoef (a1 : _) (a2 : _) (a3 : _) (s : State) : Same 1610612736 s (putCoef a1 a2 a3 s) := by
  unfold putCoef
  exact Same.step (upd_coef_cbanks ..) rfl (Same.refl _ _)

theorem same_caddrNext (a1 : _) (s : State) : Same 16 s (caddrNext a1 s) := by
  unfold caddrNext
  extract_lets +onlyGivenNames x1
  clear_value x1
  exact Same.ite (Same.step (same_setRg ..) rfl (Same.refl _ _)) (Same.refl _ _)

theorem same_cdataRead (a1 : _) (s : State) : Same 16 s (cdataRead a1 s).2 := by
  unfold cdataRead
  exact Same.pair (Same.step (same_caddrNext ..) rfl (Same.refl _ _))

theorem same_cdataWrite (a1 : _) (a2 : _) (s : State) : Same 1610612752 s (cdataWrite a1 a2 s) := by
  unfold cdataWrite
  extract_lets +onlyGivenNames x1
  clear_value x1
  split
  · exact Same.step (same_pgError ..) rfl (Same.refl _ _)
  · exact Same.step (same_caddrNext ..) rfl (Same.step (same_putCoef ..) rfl (Same.refl _ _))

theorem same_settleGain (a1 : _) (a2 : _) (s : State) : Same 65536 s (settleGain a1 a2 s) := by
  unfold settleGain
  extract_lets +onlyGivenNames x1
  clear_value x1
  exact Same.ite (Same.step (same_switchRange ..) rfl (Same.refl _ _)) (Same.step (same_shiftFrom ..) rfl (Same.step (same_modChan ..) rfl (Same.refl _ _)))

theorem same_reselect (a1 : _) (a2 : _) (a3 : _) (s : State) : Same 196608 s (reselect a1 a2 a3 s) := by
  unfold reselect
  extract_lets +onlyGivenNames x1
  clear_value x1
  extract_lets +onlyGivenNames x2
  refine Same.cut (x := x2) ?_ (fun h2 => ?_)
  · unfold x2
    exact Same.step (same_modChan ..) rfl (Same.step (same_settleGain ..) rfl (Same.refl _ _))
  clear_value x2
  extract_lets +onlyGivenNames x3
  clear_value x3
  exact Same.step (same_modTap ..) rfl (by assumption)

theorem same_settle (a1 : _) (a2 : _) (a3 : _) (s : State) : Same 196608 s (settle a1 a2 a3 s) := by
  unfold settle
  extract_lets +onlyGivenNames x1
  refine Same.cut (x := x1) ?_ (fun h1 => ?_)
  · unfold x1
    exact Same.step (same_settleGain ..) rfl (Same.refl _ _)
  clear_value x1
  extract_lets +onlyGivenNames x2
  refine Same.cut (x := x2) ?_ (fun h2 => ?_)
  · unfold x2
    exact Same.step (same_modChan ..) rfl (by assumption)
  clear_value x2
  extract_lets +onlyGivenNames x3
  clear_value x3
  exact Same.step (same_modTap ..) rfl (by assumption)

theorem same_dcbFit (a1 : _) (s : State) : Same 8 s (dcbFit a1 s).2 := by
  unfold dcbFit
  refine Same.iteSnd (Same.pair (Same.refl _ _)) ?_
  extract_lets +onlyGivenNames x1
  clear_value x1
  exact Same.pair (Same.step (upd_freeIdx ..) rfl (Same.refl _ _))

theorem same_dcBlock (a1 : _) (a2 : _) (a3 : _) (a4 : _) (s : State) : Same 131080 s (dcBlock a1 a2 a3 a4 s).2 := by
  unfold dcBlock
  refine Same.iteSnd (Same.pair (Same.refl _ _)) ?_
  extract_lets +onlyGivenNames x1
  clear_value x1
  refine Same.iteSnd ?_ ?_
  · refine Same.iteSnd (Same.pair (Same.refl _ _)) ?_
    extract_lets +onlyGivenNames x2
    clear_value x2
    extract_lets +onlyGivenNames x3
    refine Same.cut (x := x3.2) ?_ (fun h3 => ?_)
    · unfold x3
      exact Same.step (same_dcbFit ..) rfl (Same.refl _ _)
    clear_value x3
    exact Same.pair (Same.step (same_modTap ..) rfl (by assumption))
  · extract_lets +onlyGivenNames x4
    clear_value x4
    refine Same.iteSnd (Same.pair (Same.refl _ _)) ?_
    extract_lets +onlyGivenNames x5
    refine Same.cut (x := x5.2) ?_ (fun h5 => ?_)
    · unfold x5
      exact Same.step (same_dcbFit ..) rfl (Same.refl _ _)
    clear_value x5
    exact Same.pair (Same.step (same_modTap ..) rfl (by assumption))

theorem same_firIn (a1 : _) (a2 : _) (s : State) : Same 131080 s (firIn a1 a2 s) := by
  unfold firIn
  extract_lets +onlyGivenNames x1
  clear_value x1
  extract_lets +onlyGivenNames x2
  clear_value x2
  refine Same.ite (Same.step (same_modTap ..) rfl (Same.refl _ _)) ?_
  extract_lets +onlyGivenNames x3
  clear_value x3
  extract_lets +onlyGivenNames x4
  clear_value x4
  extract_lets +onlyGivenNames x5
  clear_value x5
  extract_lets +onlyGivenNames x6
  clear_value x6
  extract_lets +onlyGivenNames x7
  clear_value x7
  extract_lets +onlyGivenNames x8
  refine Same.cut (x := x8.2) ?_ (fun h8 => ?_)
  · unfold x8
    exact Same.step (same_dcBlock ..) rfl (Same.step (same_modTap ..) rfl (Same.refl _ _))
  clear_value x8
  exact Same.step (same_modTap ..) rfl (by assumption)

theorem same_firStep (a1 : _) (s : State) : Same 131080 s (firStep a1 s) := by
  unfold firStep
  extract_lets +onlyGivenNames x1
  clear_value x1
  extract_lets +onlyGivenNames x2
  refine Same.cut (x := x2) ?_ (fun h2 => ?_)
  · unfold x2
    exact Same.step (same_modTap ..) rfl (Same.refl _ _)
  clear_value x2
  split
  · exact (by assumption)
  · exact Same.step (same_firIn ..) rfl (by assumption)

theorem same_csealWrite (a1 : _) (a2 : _) (s : State) : Same 4294967312 s (csealWrite a1 a2 s) := by
  unfold csealWrite
  extract_lets +onlyGivenNames x1
  clear_value x1
  split
  · exact Same.step (same_pgError ..) rfl (Same.refl _ _)
  · exact Same.step (upd_sealing ..) rfl (Same.refl _ _)

theorem same_modProf (a1 : _) (a2 : _) (s : State) : Same 2147483648 s (modProf a1 a2 s) := by
  unfold modProf
  exact Same.step (upd_profs ..) rfl (Same.refl _ _)

theorem same_drainEnd (a1 : _) (s : State) : Same 2147483648 s (drainEnd a1 s) := by
  unfold drainEnd
  refine Same.forN (Same.refl _ _) (fun _ _ => ?_)
  refine Same.ite (Same.refl _ _) ?_
  extract_lets +onlyGivenNames x1
  clear_value x1
  extract_lets +onlyGivenNames x2
  clear_value x2
  exact Same.step (same_modProf ..) rfl (Same.refl _ _)

theorem same_sealResult (a1 : _) (a2 : _) (a3 : _) (a4 : _) (s : State) : Same 1073774608 s (sealResult a1 a2 a3 a4 s) := by
  unfold sealResult
  extract_lets +onlyGivenNames x1
  clear_value x1
  exact Same.ite (Same.step (same_bump ..) rfl (Same.step (same_raise ..) rfl (Same.step (upd_cbanks ..) rfl (Same.refl _ _)))) (Same.step (same_raise ..) rfl (Same.step (same_pgError ..) rfl (Same.refl _ _)))

theorem same_execBankSealResult (a1 : _) (s : State) : SameO 5368741904 s (execBankSealResult a1 s) := by
  unfold execBankSealResult
  split
  · exact SameO.next (Same.step (same_sealResult ..) rfl (Same.step (upd_sealing ..) rfl (Same.refl _ _)))
  · exact SameO.next (Same.refl _ _)

theorem same_stepTap (a1 : _) (a2 : _) (s : State) : Same 131072 s (stepTap a1 a2 s) := by
  unfold stepTap
  extract_lets +onlyGivenNames x1
  clear_value x1
  refine Same.ite (Same.refl _ _) ?_
  extract_lets +onlyGivenNames x2
  clear_value x2
  extract_lets +onlyGivenNames x3
  clear_value x3
  extract_lets +onlyGivenNames x4
  exact Same.step (same_modTap ..) rfl (Same.refl _ _)

theorem same_stepScale (a1 : _) (s : State) : Same 2147622912 s (stepScale a1 s) := by
  unfold stepScale
  extract_lets +onlyGivenNames x1
  clear_value x1
  extract_lets +onlyGivenNames x2
  refine Same.cut (x := x2) ?_ (fun h2 => ?_)
  · unfold x2
    exact Same.step (upd_dsp ..) rfl (Same.refl _ _)
  clear_value x2
  extract_lets +onlyGivenNames x3
  refine Same.cut (x := x3) ?_ (fun h3 => ?_)
  · unfold x3
    exact Same.forN (by assumption) (fun _ _ => Same.ite (Same.refl _ _) (Same.step (same_modProf ..) rfl (Same.refl _ _)))
  clear_value x3
  exact Same.forN (by assumption) (fun _ _ => Same.step (same_stepTap ..) rfl (Same.refl _ _))

theorem same_execFltCdataRead (a1 : _) (a2 : _) (s : State) : SameO 528 s (execFltCdataRead a1 a2 s) := by
  unfold execFltCdataRead
  refine SameO.ite ?_ (SameO.next (Same.refl _ _))
  extract_lets +onlyGivenNames x1
  refine SameO.cut (x := x1.2) ?_ (fun h1 => ?_)
  · unfold x1
    exact Same.step (same_cdataRead ..) rfl (Same.refl _ _)
  clear_value x1
  refine SameO.next ?_
  extract_lets +onlyGivenNames x2
  refine Same.cut (x := x2) ?_ (fun h2 => ?_)
  · unfold x2
    exact (by assumption)
  clear_value x2
  exact Same.step (upd_rd ..) rfl (by assumption)

theorem same_execFltCdataWrite (a1 : _) (a2 : _) (a3 : _) (s : State) : SameO 1610612752 s (execFltCdataWrite a1 a2 a3 s) := by
  unfold execFltCdataWrite
  exact SameO.next (Same.ite (same_direct rfl (Same.refl _ _) (fun _ => Same.step (same_cdataWrite ..) rfl (Same.refl _ _))) (Same.refl _ _))

theorem same_execFltCsealWrite (a1 : _) (a2 : _) (a3 : _) (s : State) : SameO 4294967312 s (execFltCsealWrite a1 a2 a3 s) := by
  unfold execFltCsealWrite
  exact SameO.next (Same.ite (same_direct rfl (Same.refl _ _) (fun _ => Same.step (same_csealWrite ..) rfl (Same.refl _ _))) (Same.refl _ _))

end Sys2Proof.Machine
end

