-- ==== Sys2Proof/Laws/FootExcitation.lean ====
section
/-! SUPPORT. Footprints of the operations and meanings of Machine/Excitation.lean: each lemma says once which fields of the
state the function can change. -/

namespace Sys2Proof.Machine

open Sys2Proof

theorem same_excJoin (a1 : _) (a2 : _) (a3 : _) (a4 : _) (s : State) : Same 65536 s (excJoin a1 a2 a3 a4 s) := by
  unfold excJoin
  refine Same.forN (Same.refl _ _) (fun _ _ => ?_)
  refine Same.ite (Same.refl _ _) ?_
  refine Same.forN (Same.refl _ _) (fun _ _ => ?_)
  extract_lets +onlyGivenNames x1
  clear_value x1
  exact Same.ite (Same.step (same_endMarks ..) rfl (Same.refl _ _)) (Same.ite (Same.step (same_mark ..) rfl (Same.refl _ _)) (Same.refl _ _))

theorem same_marksOpen (a1 : _) (a2 : _) (s : State) : Same 65536 s (marksOpen a1 a2 s) := by
  unfold marksOpen
  extract_lets +onlyGivenNames x1
  refine Same.cut (x := x1) ?_ (fun h1 => ?_)
  · unfold x1
    exact Same.ite (Same.step (same_mark ..) rfl (Same.refl _ _)) (Same.refl _ _)
  clear_value x1
  extract_lets +onlyGivenNames x2
  refine Same.cut (x := x2) ?_ (fun h2 => ?_)
  · unfold x2
    split
    · exact Same.ite (Same.step (same_mark ..) rfl (by assumption)) (by assumption)
    · exact (by assumption)
  clear_value x2
  exact Same.step (same_excJoin ..) rfl (by assumption)

theorem same_collapseOff (a1 : _) (s : State) : Same 167837696 s (collapseOff a1 s) := by
  unfold collapseOff
  exact Same.ite (Same.forL (Same.step (same_modExc ..) rfl (Same.refl _ _)) (fun _ _ => Same.step (same_detectorOff ..) rfl (Same.refl _ _))) (Same.refl _ _)

theorem same_excEvent (a1 : _) (a2 : _) (s : State) : Same 32784 s (excEvent a1 a2 s) := by
  unfold excEvent
  exact Same.step (same_raise ..) rfl (Same.step (same_setRg ..) rfl (Same.refl _ _))

theorem same_exceEnd (a1 : _) (a2 : _) (a3 : _) (s : State) : Same 65536 s (exceEnd a1 a2 a3 s) := by
  unfold exceEnd
  exact Same.foldl (Same.refl _ _) (fun _ _ => Same.step (same_endMarks ..) rfl (Same.refl _ _))

theorem same_excQuiet (a1 : _) (a2 : _) (a3 : _) (s : State) : Same 33619968 s (excQuiet a1 a2 a3 s) := by
  unfold excQuiet
  extract_lets +onlyGivenNames x1
  refine Same.cut (x := x1) ?_ (fun h1 => ?_)
  · unfold x1
    exact Same.ite (Same.step (same_exceEnd ..) rfl (Same.step (same_modExc ..) rfl (Same.refl _ _))) (Same.refl _ _)
  clear_value x1
  refine Same.ite ?_ (by assumption)
  extract_lets +onlyGivenNames x2
  refine Same.cut (x := x2) ?_ (fun h2 => ?_)
  · unfold x2
    exact Same.ite (Same.step (same_exceEnd ..) rfl (by assumption)) (by assumption)
  clear_value x2
  extract_lets +onlyGivenNames x3
  refine Same.cut (x := x3) ?_ (fun h3 => ?_)
  · unfold x3
    exact Same.ite (Same.step (same_exceEnd ..) rfl (by assumption)) (by assumption)
  clear_value x3
  exact Same.step (same_modExc ..) rfl (by assumption)

theorem same_exceMark (a1 : _) (a2 : _) (a3 : _) (a4 : _) (s : State) : Same 65536 s (exceMark a1 a2 a3 a4 s) := by
  unfold exceMark
  exact Same.foldl (Same.refl _ _) (fun _ _ => Same.step (same_mark ..) rfl (Same.refl _ _))

theorem same_rampEnd (a1 : _) (a2 : _) (s : State) : Same 33619968 s (rampEnd a1 a2 s) := by
  unfold rampEnd
  exact Same.ite (Same.step (same_exceEnd ..) rfl (Same.step (same_modExc ..) rfl (Same.refl _ _))) (Same.refl _ _)

theorem same_setMisSync (a1 : _) (s : State) : Same 33587216 s (setMisSync a1 s) := by
  unfold setMisSync
  extract_lets +onlyGivenNames x1
  clear_value x1
  refine Same.ite (Same.refl _ _) ?_
  extract_lets +onlyGivenNames x2
  refine Same.cut (x := x2) ?_ (fun h2 => ?_)
  · unfold x2
    exact Same.step (same_modExc ..) rfl (Same.refl _ _)
  clear_value x2
  exact Same.ite (Same.step (same_excEvent ..) rfl (by assumption)) (by assumption)

theorem same_excMode (a1 : _) (a2 : _) (a3 : _) (s : State) : Same 167870480 s (excMode a1 a2 a3 s) := by
  unfold excMode
  extract_lets +onlyGivenNames x1
  refine Same.cut (x := x1) ?_ (fun h1 => ?_)
  · unfold x1
    exact Same.step (same_collapseOff ..) rfl (Same.step (same_excQuiet ..) rfl (Same.step (same_rampEnd ..) rfl (Same.refl _ _)))
  clear_value x1
  extract_lets +onlyGivenNames x2
  refine Same.cut (x := x2) ?_ (fun h2 => ?_)
  · unfold x2
    exact Same.step (same_modExc ..) rfl (by assumption)
  clear_value x2
  extract_lets +onlyGivenNames x3
  refine Same.cut (x := x3) ?_ (fun h3 => ?_)
  · unfold x3
    exact Same.step (same_setMisSync ..) rfl (Same.step (same_excEvent ..) rfl (Same.step (same_bump ..) rfl (by assumption)))
  clear_value x3
  exact Same.ite (Same.step (same_exceMark ..) rfl (Same.step (same_excEvent ..) rfl (Same.step (same_bump ..) rfl (by assumption)))) (by assumption)

theorem same_excRamp (a1 : _) (a2 : _) (a3 : _) (s : State) : Same 167837696 s (excRamp a1 a2 a3 s) := by
  unfold excRamp
  extract_lets +onlyGivenNames x1
  refine Same.cut (x := x1) ?_ (fun h1 => ?_)
  · unfold x1
    exact Same.step (same_rampEnd ..) rfl (Same.refl _ _)
  clear_value x1
  exact Same.ite (Same.step (same_exceMark ..) rfl (Same.step (same_modExc ..) rfl (Same.step (same_collapseOff ..) rfl (by assumption)))) (Same.step (same_exceMark ..) rfl (by assumption))

theorem same_excSet (a1 : _) (a2 : _) (a3 : _) (s : State) : Same 167870480 s (excSet a1 a2 a3 s) := by
  unfold excSet
  extract_lets +onlyGivenNames x1
  clear_value x1
  extract_lets +onlyGivenNames x2
  clear_value x2
  extract_lets +onlyGivenNames x3
  clear_value x3
  refine Same.ite (Same.ite (Same.refl _ _) (Same.step (same_excRamp ..) rfl (Same.step (same_excMode ..) rfl (Same.step (same_modExc ..) rfl (Same.refl _ _))))) ?_
  refine Same.ite ?_ (Same.ite (Same.step (same_excRamp ..) rfl (Same.step (same_excMode ..) rfl (Same.step (same_modExc ..) rfl (Same.refl _ _)))) (Same.ite (Same.step (same_excRamp ..) rfl (Same.step (same_modExc ..) rfl (Same.refl _ _))) (Same.refl _ _)))
  refine Same.ite ?_ (Same.refl _ _)
  extract_lets +onlyGivenNames x4
  clear_value x4
  exact Same.step (same_excRamp ..) rfl (Same.step (same_excMode ..) rfl (Same.step (same_modExc ..) rfl (Same.refl _ _)))

theorem same_excHold (a1 : _) (a2 : _) (s : State) : Same 167870488 s (excHold a1 a2 s) := by
  unfold excHold
  refine Same.ite (Same.step (same_excMode ..) rfl (Same.step (same_modExc ..) rfl (Same.refl _ _))) ?_
  extract_lets +onlyGivenNames x1
  refine Same.cut (x := x1.2) ?_ (fun h1 => ?_)
  · unfold x1
    exact Same.step (same_fresh ..) rfl (Same.refl _ _)
  clear_value x1
  exact Same.step (same_excMode ..) rfl (Same.step (same_modExc ..) rfl (by assumption))

theorem same_shareHold (a1 : _) (a2 : _) (s : State) : Same 167870488 s (shareHold a1 a2 s) := by
  unfold shareHold
  exact Same.ite (Same.step (same_excHold ..) rfl (Same.refl _ _)) (Same.refl _ _)

theorem same_excApply (a1 : _) (a2 : _) (a3 : _) (s : State) : Same 167870488 s (excApply a1 a2 a3 s) := by
  unfold excApply
  extract_lets +onlyGivenNames x1
  clear_value x1
  exact Same.step (same_setMisSync ..) rfl (Same.step (same_shareHold ..) rfl (Same.step (same_excSet ..) rfl (Same.refl _ _)))

theorem same_holdTrip (a1 : _) (a2 : _) (s : State) : Same 167870488 s (holdTrip a1 a2 s) := by
  unfold holdTrip
  exact Same.ite (Same.step (same_excHold ..) rfl (Same.refl _ _)) (Same.refl _ _)

theorem same_holdAll (s : State) : Same 167870488 s (holdAll s) := by
  unfold holdAll
  exact Same.forN (Same.refl _ _) (fun _ _ => Same.step (same_holdTrip ..) rfl (Same.refl _ _))

theorem same_excRelease (a1 : _) (s : State) : Same 167870480 s (excRelease a1 s) := by
  unfold excRelease
  refine Same.ite (Same.step (same_rampEnd ..) rfl (Same.refl _ _)) ?_
  extract_lets +onlyGivenNames x1
  clear_value x1
  exact Same.step (same_exceMark ..) rfl (Same.step (same_excMode ..) rfl (Same.step (same_modExc ..) rfl (Same.refl _ _)))

theorem same_excLease (a1 : _) (a2 : _) (a3 : _) (a4 : _) (s : State) : Same 33587216 s (excLease a1 a2 a3 a4 s) := by
  unfold excLease
  extract_lets +onlyGivenNames x1
  clear_value x1
  refine Same.ite (Same.step (same_modExc ..) rfl (Same.refl _ _)) ?_
  extract_lets +onlyGivenNames x2
  clear_value x2
  extract_lets +onlyGivenNames x3
  clear_value x3
  exact Same.step (same_setMisSync ..) rfl (Same.step (same_modExc ..) rfl (Same.refl _ _))

theorem same_excReading (a1 : _) (s : State) : Same 33554432 s (excReading a1 s) := by
  unfold excReading
  exact Same.ite (Same.step (same_modExc ..) rfl (Same.refl _ _)) (Same.refl _ _)

theorem same_excSleep (s : State) : Same 167870480 s (excSleep s) := by
  unfold excSleep
  exact Same.foldl (Same.refl _ _) (fun _ _ => Same.ite (Same.refl _ _) (Same.step (same_excRamp ..) rfl (Same.step (same_excMode ..) rfl (Same.step (same_modExc ..) rfl (Same.refl _ _)))))

theorem same_excStart (a1 : _) (s : State) : Same 167870488 s (excStart a1 s) := by
  unfold excStart
  exact Same.ite (Same.step (same_excApply ..) rfl (Same.refl _ _)) (Same.refl _ _)

theorem same_excStartAll (s : State) : Same 167870488 s (excStartAll s) := by
  unfold excStartAll
  exact Same.forN (Same.refl _ _) (fun _ _ => Same.step (same_excStart ..) rfl (Same.refl _ _))

theorem same_execCurrentSourceExchange (a1 : _) (a2 : _) (s : State) : SameO 65537 s (execCurrentSourceExchange a1 a2 s) := by
  unfold execCurrentSourceExchange
  exact SameO.ite (SameO.next (Same.step (same_modChan ..) rfl (Same.step (same_advance ..) rfl (Same.refl _ _)))) (SameO.next (Same.refl _ _))

theorem same_execExcHeadroomChange (a1 : _) (a2 : _) (a3 : _) (a4 : _) (s : State) : SameO 33652753 s (execExcHeadroomChange a1 a2 a3 a4 s) := by
  unfold execExcHeadroomChange
  extract_lets +onlyGivenNames x1
  clear_value x1
  refine SameO.ite ?_ (SameO.next (Same.refl _ _))
  extract_lets +onlyGivenNames x2
  refine SameO.cut (x := x2) ?_ (fun h2 => ?_)
  · unfold x2
    exact Same.step (same_modExc ..) rfl (Same.step (same_advance ..) rfl (Same.refl _ _))
  clear_value x2
  exact SameO.next (Same.ite (Same.step (same_exceMark ..) rfl (Same.step (same_excEvent ..) rfl (by assumption))) (Same.step (same_exceEnd ..) rfl (by assumption)))

theorem same_execExcIlimChange (a1 : _) (a2 : _) (a3 : _) (a4 : _) (s : State) : SameO 33652753 s (execExcIlimChange a1 a2 a3 a4 s) := by
  unfold execExcIlimChange
  extract_lets +onlyGivenNames x1
  clear_value x1
  refine SameO.ite ?_ (SameO.next (Same.refl _ _))
  extract_lets +onlyGivenNames x2
  refine SameO.cut (x := x2) ?_ (fun h2 => ?_)
  · unfold x2
    exact Same.step (same_modExc ..) rfl (Same.step (same_advance ..) rfl (Same.refl _ _))
  clear_value x2
  exact SameO.next (Same.ite (Same.step (same_exceMark ..) rfl (Same.step (same_excEvent ..) rfl (Same.step (same_bump ..) rfl (by assumption)))) (Same.step (same_exceEnd ..) rfl (by assumption)))

theorem same_execExcLoadCollapse (a1 : _) (a2 : _) (a3 : _) (a4 : _) (s : State) : SameO 167870481 s (execExcLoadCollapse a1 a2 a3 a4 s) := by
  unfold execExcLoadCollapse
  extract_lets +onlyGivenNames x1
  clear_value x1
  extract_lets +onlyGivenNames x2
  clear_value x2
  extract_lets +onlyGivenNames x3
  clear_value x3
  refine SameO.ite ?_ (SameO.next (Same.refl _ _))
  extract_lets +onlyGivenNames x4
  refine SameO.cut (x := x4) ?_ (fun h4 => ?_)
  · unfold x4
    exact Same.step (same_advance ..) rfl (Same.refl _ _)
  clear_value x4
  refine SameO.ite ?_ (SameO.next (Same.step (same_collapseOff ..) rfl (by assumption)))
  refine SameO.ite (SameO.next (by assumption)) ?_
  extract_lets +onlyGivenNames x5
  refine SameO.cut (x := x5) ?_ (fun h5 => ?_)
  · unfold x5
    exact Same.step (same_excEvent ..) rfl (Same.step (same_bump ..) rfl (Same.step (same_modExc ..) rfl (by assumption)))
  clear_value x5
  exact SameO.next (Same.foldl (by assumption) (fun _ _ => Same.step (same_detectorOn ..) rfl (Same.refl _ _)))

theorem same_execExcRampComplete (a1 : _) (a2 : _) (a3 : _) (s : State) : SameO 33619969 s (execExcRampComplete a1 a2 a3 s) := by
  unfold execExcRampComplete
  extract_lets +onlyGivenNames x1
  clear_value x1
  refine SameO.ite ?_ (SameO.next (Same.refl _ _))
  extract_lets +onlyGivenNames x2
  refine SameO.cut (x := x2) ?_ (fun h2 => ?_)
  · unfold x2
    exact Same.step (same_advance ..) rfl (Same.refl _ _)
  clear_value x2
  exact SameO.next (Same.step (same_exceEnd ..) rfl (Same.step (same_modExc ..) rfl (by assumption)))

theorem same_execHoldReturnShare (a1 : _) (a2 : _) (a3 : _) (s : State) : SameO 167870481 s (execHoldReturnShare a1 a2 a3 s) := by
  unfold execHoldReturnShare
  exact SameO.ite (SameO.next (Same.step (same_excRamp ..) rfl (Same.step (same_excMode ..) rfl (Same.step (same_advance ..) rfl (Same.refl _ _))))) (SameO.next (Same.refl _ _))

theorem same_outgoingAll (s : State) : Same 33554432 s (outgoingAll s) := by
  unfold outgoingAll
  exact Same.foldl (Same.refl _ _) (fun _ _ => Same.ite (Same.step (same_modExc ..) rfl (Same.refl _ _)) (Same.refl _ _))

theorem same_regulateAll (a1 : _) (s : State) : Same 167870480 s (regulateAll a1 s) := by
  unfold regulateAll
  refine Same.foldl (Same.refl _ _) (fun _ _ => ?_)
  extract_lets +onlyGivenNames x1
  clear_value x1
  extract_lets +onlyGivenNames x2
  clear_value x2
  refine Same.ite (Same.step (same_setMisSync ..) rfl (Same.refl _ _)) ?_
  extract_lets +onlyGivenNames x3
  clear_value x3
  extract_lets +onlyGivenNames x4
  refine Same.cut (x := x4) ?_ (fun h4 => ?_)
  · unfold x4
    exact Same.step (same_excMode ..) rfl (Same.step (same_modExc ..) rfl (Same.refl _ _))
  clear_value x4
  exact Same.ite (Same.step (same_excRamp ..) rfl (by assumption)) (Same.step (same_exceMark ..) rfl (by assumption))

theorem same_execOutgoingShareEntry (a1 : _) (a2 : _) (a3 : _) (s : State) : SameO 167870489 s (execOutgoingShareEntry a1 a2 a3 s) := by
  unfold execOutgoingShareEntry
  extract_lets +onlyGivenNames x1
  clear_value x1
  exact SameO.ite (SameO.next (Same.step (same_shareHold ..) rfl (Same.step (same_excRamp ..) rfl (Same.step (same_excMode ..) rfl (Same.step (same_modExc ..) rfl (Same.step (same_advance ..) rfl (Same.refl _ _))))))) (SameO.next (Same.refl _ _))

theorem same_execSenseExcursion (a1 : _) (a2 : _) (a3 : _) (a4 : _) (s : State) : SameO 167870489 s (execSenseExcursion a1 a2 a3 a4 s) := by
  unfold execSenseExcursion
  refine SameO.ite ?_ (SameO.next (Same.refl _ _))
  extract_lets +onlyGivenNames x1
  clear_value x1
  extract_lets +onlyGivenNames x2
  refine SameO.cut (x := x2) ?_ (fun h2 => ?_)
  · unfold x2
    exact Same.step (same_advance ..) rfl (Same.refl _ _)
  clear_value x2
  split
  · exact SameO.next (by assumption)
  · exact SameO.next (Same.ite (by assumption) (Same.step (same_holdTrip ..) rfl (by assumption)))
  · exact SameO.next (Same.ite (by assumption) (Same.step (same_modExc ..) rfl (by assumption)))
  · exact SameO.next (Same.ite (Same.step (same_exceEnd ..) rfl (Same.step (same_modExc ..) rfl (by assumption))) (Same.ite (by assumption) (Same.step (same_exceMark ..) rfl (Same.step (same_modExc ..) rfl (by assumption)))))

end Sys2Proof.Machine
end

