-- ==== Sys2Proof/Laws/FootConverters.lean ====
section
/-! SUPPORT. Footprints of the operations and meanings of Machine/Converters.lean: each lemma says once which fields of the
state the function can change. -/

namespace Sys2Proof.Machine

open Sys2Proof

theorem same_leadResult (a1 : _) (a2 : _) (a3 : _) (s : State) : Same 216172782249934864 s (leadResult a1 a2 a3 s) := by
  unfold leadResult
  split
  · refine Same.ite (Same.step (same_ltAbort ..) rfl (Same.refl _ _)) ?_
    extract_lets +onlyGivenNames x1
    clear_value x1
    exact Same.step (upd_lts ..) rfl (Same.refl _ _)
  · exact Same.refl _ _

theorem same_shortsResult (a1 : _) (s : State) : Same 134479872 s (shortsResult a1 s) := by
  unfold shortsResult
  split
  · extract_lets +onlyGivenNames x1
    clear_value x1
    exact Same.step (same_auxPush ..) rfl (Same.step (upd_lts ..) rfl (Same.refl _ _))
  · exact Same.refl _ _

theorem same_modSlot (a1 : _) (a2 : _) (s : State) : Same 268435456 s (modSlot a1 a2 s) := by
  unfold modSlot
  exact Same.step (upd_slots ..) rfl (Same.refl _ _)

theorem same_slotDone (a1 : _) (a2 : _) (a3 : _) (s : State) : Same 268468240 s (slotDone a1 a2 a3 s) := by
  unfold slotDone
  extract_lets +onlyGivenNames x1
  refine Same.cut (x := x1) ?_ (fun h1 => ?_)
  · unfold x1
    exact Same.step (same_modSlot ..) rfl (Same.refl _ _)
  clear_value x1
  exact Same.ite (Same.step (same_raise ..) rfl (by assumption)) (by assumption)

theorem same_spotResult (a1 : _) (a2 : _) (a3 : _) (a4 : _) (s : State) : Same 216172782113783824 s (spotResult a1 a2 a3 a4 s) := by
  unfold spotResult
  split
  · exact Same.step (same_finish ..) rfl (Same.refl _ _)
  · exact Same.refl _ _

theorem same_refTrip (a1 : _) (s : State) : Same 67141648 s (refTrip a1 s) := by
  unfold refTrip
  exact Same.ite (Same.step (same_raise ..) rfl (Same.step (same_modRef ..) rfl (Same.refl _ _))) (Same.refl _ _)

theorem same_intCheck (a1 : _) (a2 : _) (s : State) : Same 201359376 s (intCheck a1 a2 s) := by
  unfold intCheck
  extract_lets +onlyGivenNames x1
  clear_value x1
  extract_lets +onlyGivenNames x2
  clear_value x2
  extract_lets +onlyGivenNames x3
  clear_value x3
  extract_lets +onlyGivenNames x4
  refine Same.cut (x := x4) ?_ (fun h4 => ?_)
  · unfold x4
    exact Same.step (same_modAux ..) rfl (Same.refl _ _)
  clear_value x4
  exact Same.ite (Same.foldl (by assumption) (fun _ _ => Same.step (same_refTrip ..) rfl (Same.refl _ _))) (by assumption)

theorem same_sysResult (a1 : _) (a2 : _) (a3 : _) (a4 : _) (s : State) : Same 201359376 s (sysResult a1 a2 a3 a4 s) := by
  unfold sysResult
  exact Same.ite (Same.step (same_modAux ..) rfl (Same.refl _ _)) (Same.ite (Same.step (same_modAux ..) rfl (Same.refl _ _)) (Same.ite (Same.step (same_modAux ..) rfl (Same.refl _ _)) (Same.ite (Same.step (same_modAux ..) rfl (Same.refl _ _)) (Same.ite (Same.step (same_intCheck ..) rfl (Same.step (same_modAux ..) rfl (Same.refl _ _))) (Same.refl _ _)))))

theorem same_urgentCount (a1 : _) (a2 : _) (a3 : _) (s : State) : Same 16 s (urgentCount a1 a2 a3 s) := by
  unfold urgentCount
  extract_lets +onlyGivenNames x1
  clear_value x1
  exact Same.step (same_setRg ..) rfl (Same.step (same_bump ..) rfl (Same.refl _ _))

theorem same_auxDeliver (a1 : _) (a2 : _) (a3 : _) (a4 : _) (a5 : _) (s : State) : Same 216172782585479184 s (auxDeliver a1 a2 a3 a4 a5 s) := by
  unfold auxDeliver
  split
  · exact Same.step (same_sysResult ..) rfl (Same.refl _ _)
  · exact Same.step (same_modAux ..) rfl (Same.step (same_sysResult ..) rfl (Same.refl _ _))
  · exact Same.step (same_leadResult ..) rfl (Same.refl _ _)
  · exact Same.step (same_shortsResult ..) rfl (Same.refl _ _)
  · exact Same.refl _ _
  · exact Same.step (same_urgentCount ..) rfl (Same.step (same_urgentResult ..) rfl (Same.refl _ _))
  · exact Same.step (same_urgentCount ..) rfl (Same.step (same_modAux ..) rfl (Same.refl _ _))
  · exact Same.step (same_slotDone ..) rfl (Same.refl _ _)
  · exact Same.step (same_spotResult ..) rfl (Same.refl _ _)

theorem same_slotFail (a1 : _) (a2 : _) (s : State) : Same 268468240 s (slotFail a1 a2 s) := by
  unfold slotFail
  exact Same.step (same_slotDone ..) rfl (Same.step (same_pgError ..) rfl (Same.refl _ _))

theorem same_auxDrop (a1 : _) (s : State) : Same 216172782518370320 s (auxDrop a1 s) := by
  unfold auxDrop
  split
  · exact Same.step (same_slotFail ..) rfl (Same.refl _ _)
  · split
    · exact Same.step (same_finish ..) rfl (Same.refl _ _)
    · exact Same.refl _ _
  · exact Same.step (same_ltAbort ..) rfl (Same.step (same_wakeup ..) rfl (Same.refl _ _))
  · exact Same.step (same_ltAbort ..) rfl (Same.step (same_wakeup ..) rfl (Same.refl _ _))
  · exact Same.refl _ _

theorem same_auxLose (a1 : _) (s : State) : Same 216172782518370320 s (auxLose a1 s) := by
  unfold auxLose
  extract_lets +onlyGivenNames x1
  clear_value x1
  extract_lets +onlyGivenNames x2
  clear_value x2
  extract_lets +onlyGivenNames x3
  clear_value x3
  extract_lets +onlyGivenNames x4
  refine Same.cut (x := x4) ?_ (fun h4 => ?_)
  · unfold x4
    exact Same.step (same_modAux ..) rfl (Same.refl _ _)
  clear_value x4
  extract_lets +onlyGivenNames x5
  refine Same.cut (x := x5) ?_ (fun h5 => ?_)
  · unfold x5
    exact Same.forN (by assumption) (fun _ _ => Same.step (upd_ltWait ..) rfl (Same.refl _ _))
  clear_value x5
  extract_lets +onlyGivenNames x6
  refine Same.cut (x := x6) ?_ (fun h6 => ?_)
  · unfold x6
    exact Same.forL (by assumption) (fun _ _ => Same.step (same_auxDrop ..) rfl (Same.refl _ _))
  clear_value x6
  exact Same.ite (Same.step (same_raise ..) rfl (by assumption)) (by assumption)

theorem same_modGo (a1 : _) (a2 : _) (s : State) : Same 29589520 s (modGo a1 a2 s) := by
  unfold modGo
  extract_lets +onlyGivenNames x1
  clear_value x1
  extract_lets +onlyGivenNames x2
  refine Same.cut (x := x2) ?_ (fun h2 => ?_)
  · unfold x2
    exact Same.step (same_modChan ..) rfl (Same.step (same_setStart ..) rfl (Same.refl _ _))
  clear_value x2
  extract_lets +onlyGivenNames x3
  refine Same.cut (x := x3) ?_ (fun h3 => ?_)
  · unfold x3
    exact Same.step (same_settle ..) rfl (by assumption)
  clear_value x3
  extract_lets +onlyGivenNames x4
  refine Same.cut (x := x4) ?_ (fun h4 => ?_)
  · unfold x4
    exact Same.step (upd_modStart_restart ..) rfl (by assumption)
  clear_value x4
  exact Same.step (same_raise ..) rfl (by assumption)

theorem same_refEnables (a1 : _) (a2 : _) (s : State) : Same 67108864 s (refEnables a1 a2 s) := by
  unfold refEnables
  refine Same.foldl (Same.refl _ _) (fun _ _ => ?_)
  extract_lets +onlyGivenNames x1
  clear_value x1
  exact Same.step (same_modRef ..) rfl (Same.refl _ _)

theorem same_slotRead (a1 : _) (s : State) : Same 268435456 s (slotRead a1 s).2 := by
  unfold slotRead
  exact Same.pair (Same.step (same_modSlot ..) rfl (Same.refl _ _))

theorem same_execAuxConversionDone (a1 : _) (a2 : _) (a3 : _) (a4 : _) (s : State) : SameO 216172782585479185 s (execAuxConversionDone a1 a2 a3 a4 s) := by
  unfold execAuxConversionDone
  split
  · refine SameO.ite ?_ (SameO.next (Same.refl _ _))
    extract_lets +onlyGivenNames x1
    refine SameO.cut (x := x1) ?_ (fun h1 => ?_)
    · unfold x1
      exact Same.step (same_modAux ..) rfl (Same.step (same_advance ..) rfl (Same.refl _ _))
    clear_value x1
    exact SameO.next (Same.step (same_modAux ..) rfl (Same.step (same_auxDeliver ..) rfl (by assumption)))
  · exact SameO.next (Same.refl _ _)

theorem same_execAuxResultRead (a1 : _) (a2 : _) (s : State) : SameO 268435968 s (execAuxResultRead a1 a2 s) := by
  unfold execAuxResultRead
  refine SameO.ite ?_ (SameO.next (Same.refl _ _))
  extract_lets +onlyGivenNames x1
  refine SameO.cut (x := x1.2) ?_ (fun h1 => ?_)
  · unfold x1
    exact Same.step (same_slotRead ..) rfl (Same.refl _ _)
  clear_value x1
  refine SameO.next ?_
  extract_lets +onlyGivenNames x2
  refine Same.cut (x := x2) ?_ (fun h2 => ?_)
  · unfold x2
    exact (by assumption)
  clear_value x2
  exact Same.step (upd_rd ..) rfl (by assumption)

theorem same_slotIssue (a1 : _) (s : State) : Same 402685968 s (slotIssue a1 s) := by
  unfold slotIssue
  extract_lets +onlyGivenNames x1
  clear_value x1
  extract_lets +onlyGivenNames x2
  clear_value x2
  exact Same.ite (Same.step (same_slotFail ..) rfl (Same.refl _ _)) (Same.ite (Same.step (same_slotFail ..) rfl (Same.refl _ _)) (Same.step (same_auxPush ..) rfl (Same.step (same_modSlot ..) rfl (Same.refl _ _))))

theorem same_slotGo (a1 : _) (s : State) : Same 402685968 s (slotGo a1 s) := by
  unfold slotGo
  exact Same.ite (Same.refl _ _) (Same.ite (Same.step (same_pgError ..) rfl (Same.refl _ _)) (Same.step (same_modSlot ..) rfl (Same.step (same_slotIssue ..) rfl (Same.refl _ _))))

theorem same_execAuxSlotGo (a1 : _) (a2 : _) (s : State) : SameO 402685968 s (execAuxSlotGo a1 a2 s) := by
  unfold execAuxSlotGo
  exact SameO.next (Same.ite (same_direct rfl (Same.refl _ _) (fun _ => Same.step (same_slotGo ..) rfl (Same.refl _ _))) (Same.refl _ _))

theorem same_slotRepeat (a1 : _) (s : State) : Same 402685968 s (slotRepeat a1 s) := by
  unfold slotRepeat
  extract_lets +onlyGivenNames x1
  clear_value x1
  refine Same.ite ?_ (Same.refl _ _)
  extract_lets +onlyGivenNames x2
  refine Same.cut (x := x2) ?_ (fun h2 => ?_)
  · unfold x2
    exact Same.step (same_modSlot ..) rfl (Same.refl _ _)
  clear_value x2
  exact Same.ite (by assumption) (Same.step (same_modSlot ..) rfl (Same.step (same_slotIssue ..) rfl (by assumption)))

theorem same_execAuxSlotRepeat (a1 : _) (s : State) : SameO 402685968 s (execAuxSlotRepeat a1 s) := by
  unfold execAuxSlotRepeat
  exact SameO.next (Same.ite (Same.forN (Same.refl _ _) (fun _ _ => Same.step (same_slotRepeat ..) rfl (Same.refl _ _))) (Same.refl _ _))

theorem same_execModulatorFault (a1 : _) (a2 : _) (s : State) : SameO 216172782258323473 s (execModulatorFault a1 a2 s) := by
  unfold execModulatorFault
  refine SameO.ite ?_ (SameO.next (Same.refl _ _))
  extract_lets +onlyGivenNames x1
  clear_value x1
  extract_lets +onlyGivenNames x2
  refine SameO.cut (x := x2) ?_ (fun h2 => ?_)
  · unfold x2
    exact Same.step (same_raise ..) rfl (Same.step (same_chFault ..) rfl (Same.step (same_advance ..) rfl (Same.refl _ _)))
  clear_value x2
  exact SameO.next (Same.step (same_modChan ..) rfl (by assumption))

theorem same_execModulatorFaultClear (a1 : _) (s : State) : SameO 8388608 s (execModulatorFaultClear a1 s) := by
  unfold execModulatorFaultClear
  exact SameO.ite (SameO.next (Same.step (same_setStart ..) rfl (Same.refl _ _))) (SameO.next (Same.refl _ _))

theorem same_modStartCh (a1 : _) (a2 : _) (s : State) : Same 29589520 s (modStartCh a1 a2 s) := by
  unfold modStartCh
  split
  · extract_lets +onlyGivenNames x1
    clear_value x1
    extract_lets +onlyGivenNames x2
    clear_value x2
    exact Same.ite (Same.step (same_modGo ..) rfl (Same.refl _ _)) (Same.refl _ _)
  · exact Same.refl _ _

theorem same_execModulatorStart (a1 : _) (a2 : _) (s : State) : SameO 29589521 s (execModulatorStart a1 a2 s) := by
  unfold execModulatorStart
  exact SameO.ite (SameO.next (Same.foldl (Same.step (same_advance ..) rfl (Same.refl _ _)) (fun _ _ => Same.step (same_modStartCh ..) rfl (Same.refl _ _)))) (SameO.next (Same.refl _ _))

theorem same_execRefFaultClear (a1 : _) (a2 : _) (s : State) : SameO 67108864 s (execRefFaultClear a1 a2 s) := by
  unfold execRefFaultClear
  exact SameO.ite (SameO.next (Same.step (same_modRef ..) rfl (Same.refl _ _))) (SameO.next (Same.refl _ _))

theorem same_execRefMonitorTrip (a1 : _) (a2 : _) (s : State) : SameO 67141648 s (execRefMonitorTrip a1 a2 s) := by
  unfold execRefMonitorTrip
  exact SameO.ite (SameO.next (Same.step (same_refTrip ..) rfl (Same.refl _ _))) (SameO.next (Same.refl _ _))

theorem same_refWake (a1 : _) (s : State) : Same 216172782113783824 s (refWake a1 s) := by
  unfold refWake
  refine Same.foldl (Same.refl _ _) (fun _ _ => ?_)
  split
  · exact Same.ite (Same.step (same_finish ..) rfl (Same.refl _ _)) (Same.refl _ _)
  · exact Same.refl _ _

theorem same_execRefReadySet (a1 : _) (a2 : _) (s : State) : SameO 216172782180925456 s (execRefReadySet a1 a2 s) := by
  unfold execRefReadySet
  exact SameO.ite (SameO.next (Same.step (same_refWake ..) rfl (Same.step (same_raise ..) rfl (Same.step (same_modRef ..) rfl (Same.refl _ _))))) (SameO.next (Same.refl _ _))

end Sys2Proof.Machine
end

