-- ==== Sys2Proof/Laws/FootCompress.lean ====
section
/-! SUPPORT. Footprints of the operations and meanings of Machine/Compress.lean: each lemma says once which fields of the
state the function can change. -/

namespace Sys2Proof.Machine

open Sys2Proof

theorem same_jobRaise (a1 : _) (a2 : _) (s : State) : Same 562949953454096 s (jobRaise a1 a2 s) := by
  unfold jobRaise
  extract_lets +onlyGivenNames x1
  refine Same.cut (x := x1) ?_ (fun h1 => ?_)
  · unfold x1
    exact Same.step (same_raise ..) rfl (Same.refl _ _)
  clear_value x1
  exact Same.step (same_memSync ..) rfl (Same.ite (by assumption) (Same.step (same_raise ..) rfl (Same.step (same_bump ..) rfl (by assumption))))

theorem same_jobStart {m : Nat} {s x : State} {j : Job} {st b : Nat} {f : Eng → State → State} (hm : 562949953454096 ||| m = m) (hx : Same m s x)
    (hf : ∀ e y, Same m y (f e y)) : Same m s (jobStart j st b f x) := by
  unfold jobStart
  exact Same.ite ((hf _ _).trans hx) (Same.step (same_jobRaise ..) (orUp (k := 562949953454096) rfl hm) ((hf _ _).trans hx))

theorem same_setArc (a1 : _) (s : State) : Same 140737488355328 s (setArc a1 s) := by
  unfold setArc
  exact Same.step (upd_arc ..) rfl (Same.refl _ _)

theorem same_arcCtrl (a1 : _) (s : State) : Same 703687441809424 s (arcCtrl a1 s) := by
  unfold arcCtrl
  refine Same.ite ?_ ?_
  · extract_lets +onlyGivenNames x1
    clear_value x1
    extract_lets +onlyGivenNames x2
    refine Same.cut (x := x2) ?_ (fun h2 => ?_)
    · unfold x2
      exact Same.ite (Same.step (upd_arc ..) rfl (Same.refl _ _)) (Same.refl _ _)
    clear_value x2
    exact Same.ite (Same.step (same_pgError ..) rfl (by assumption)) (by assumption)
  · extract_lets +onlyGivenNames x3
    refine Same.cut (x := x3) ?_ (fun h3 => ?_)
    · unfold x3
      exact Same.step (same_setRg ..) rfl (Same.refl _ _)
    clear_value x3
    refine Same.ite ?_ (by assumption)
    extract_lets +onlyGivenNames x4
    clear_value x4
    exact same_jobStart rfl (by assumption) (fun _ _ => Same.step (same_setArc ..) rfl (Same.refl _ _))

theorem same_arcFinish (a1 : _) (a2 : _) (a3 : _) (s : State) : Same 288934063593521168 s (arcFinish a1 a2 a3 s) := by
  unfold arcFinish
  extract_lets +onlyGivenNames x1
  clear_value x1
  extract_lets +onlyGivenNames x2
  refine Same.cut (x := x2) ?_ (fun h2 => ?_)
  · unfold x2
    exact Same.step (same_eccCorr ..) rfl (Same.refl _ _)
  clear_value x2
  extract_lets +onlyGivenNames x3
  clear_value x3
  extract_lets +onlyGivenNames x4
  clear_value x4
  extract_lets +onlyGivenNames x5
  clear_value x5
  extract_lets +onlyGivenNames x6
  clear_value x6
  extract_lets +onlyGivenNames x7
  clear_value x7
  extract_lets +onlyGivenNames x8
  clear_value x8
  extract_lets +onlyGivenNames x9
  clear_value x9
  extract_lets +onlyGivenNames x10
  clear_value x10
  extract_lets +onlyGivenNames x11
  refine Same.cut (x := x11) ?_ (fun h11 => ?_)
  · unfold x11
    exact Same.step (same_memStore ..) rfl (by assumption)
  clear_value x11
  extract_lets +onlyGivenNames x12
  refine Same.cut (x := x12) ?_ (fun h12 => ?_)
  · unfold x12
    exact Same.ite (Same.step (same_eccFound ..) rfl (by assumption)) (by assumption)
  clear_value x12
  extract_lets +onlyGivenNames x13
  clear_value x13
  exact Same.step (same_jobRaise ..) rfl (Same.step (same_bump ..) rfl (Same.step (same_setArc ..) rfl (by assumption)))

theorem same_setDcmp (a1 : _) (s : State) : Same 281474976710656 s (setDcmp a1 s) := by
  unfold setDcmp
  exact Same.step (upd_dcmp ..) rfl (Same.refl _ _)

theorem same_dcmpCtrl (a1 : _) (s : State) : Same 844424930164752 s (dcmpCtrl a1 s) := by
  unfold dcmpCtrl
  refine Same.ite ?_ ?_
  · extract_lets +onlyGivenNames x1
    clear_value x1
    extract_lets +onlyGivenNames x2
    refine Same.cut (x := x2) ?_ (fun h2 => ?_)
    · unfold x2
      exact Same.ite (Same.step (upd_dcmp ..) rfl (Same.refl _ _)) (Same.refl _ _)
    clear_value x2
    exact Same.ite (Same.step (same_pgError ..) rfl (by assumption)) (by assumption)
  · extract_lets +onlyGivenNames x3
    refine Same.cut (x := x3) ?_ (fun h3 => ?_)
    · unfold x3
      exact Same.step (same_setRg ..) rfl (Same.refl _ _)
    clear_value x3
    refine Same.ite ?_ (by assumption)
    extract_lets +onlyGivenNames x4
    clear_value x4
    exact same_jobStart rfl (by assumption) (fun _ _ => Same.step (same_setDcmp ..) rfl (Same.refl _ _))

theorem same_dcmpFinish (a1 : _) (a2 : _) (a3 : _) (s : State) : Same 289074801081876504 s (dcmpFinish a1 a2 a3 s) := by
  unfold dcmpFinish
  extract_lets +onlyGivenNames x1
  clear_value x1
  extract_lets +onlyGivenNames x2
  refine Same.cut (x := x2) ?_ (fun h2 => ?_)
  · unfold x2
    exact Same.step (same_eccCorr ..) rfl (Same.refl _ _)
  clear_value x2
  extract_lets +onlyGivenNames x3
  clear_value x3
  extract_lets +onlyGivenNames x4
  clear_value x4
  extract_lets +onlyGivenNames x5
  clear_value x5
  extract_lets +onlyGivenNames x6
  clear_value x6
  extract_lets +onlyGivenNames x7
  clear_value x7
  extract_lets +onlyGivenNames x8
  refine Same.cut (x := x8) ?_ (fun h8 => ?_)
  · unfold x8
    exact Same.step (same_memStore ..) rfl (by assumption)
  clear_value x8
  extract_lets +onlyGivenNames x9
  clear_value x9
  extract_lets +onlyGivenNames x10
  refine Same.cut (x := x10) ?_ (fun h10 => ?_)
  · unfold x10
    exact Same.ite (by assumption) (Same.step (same_memStore ..) rfl (Same.step (upd_freeIdx ..) rfl (by assumption)))
  clear_value x10
  extract_lets +onlyGivenNames x11
  refine Same.cut (x := x11) ?_ (fun h11 => ?_)
  · unfold x11
    exact Same.ite (Same.step (same_eccFound ..) rfl (by assumption)) (by assumption)
  clear_value x11
  extract_lets +onlyGivenNames x12
  clear_value x12
  exact Same.step (same_jobRaise ..) rfl (Same.step (same_bump ..) rfl (Same.step (same_setDcmp ..) rfl (by assumption)))

theorem same_execArcCancel (a1 : _) (s : State) : SameO 703687441809424 s (execArcCancel a1 s) := by
  unfold execArcCancel
  exact SameO.next (same_direct rfl (Same.refl _ _) (fun _ => Same.step (same_arcCtrl ..) rfl (Same.refl _ _)))

theorem same_execArcGo (a1 : _) (a2 : _) (s : State) : SameO 703687441809424 s (execArcGo a1 a2 s) := by
  unfold execArcGo
  exact SameO.next (same_direct rfl (Same.refl _ _) (fun _ => Same.step (same_arcCtrl ..) rfl (Same.refl _ _)))

theorem same_execArcJobEnd (a1 : _) (a2 : _) (s : State) : SameO 288934063593521168 s (execArcJobEnd a1 a2 s) := by
  unfold execArcJobEnd
  split
  · exact SameO.ite (SameO.next (Same.step (same_arcFinish ..) rfl (Same.refl _ _))) (SameO.next (Same.refl _ _))
  · exact SameO.next (Same.refl _ _)

theorem same_fwJob (a1 : _) (a2 : _) (a3 : _) (s : State) : Same 32784 s (fwJob a1 a2 a3 s) := by
  unfold fwJob
  extract_lets +onlyGivenNames x1
  refine Same.cut (x := x1) ?_ (fun h1 => ?_)
  · unfold x1
    exact Same.step (same_bump ..) rfl (Same.refl _ _)
  clear_value x1
  exact Same.ite (by assumption) (Same.step (same_raise ..) rfl (Same.step (same_bump ..) rfl (by assumption)))

theorem same_execDcmpCancel (a1 : _) (s : State) : SameO 844424930164752 s (execDcmpCancel a1 s) := by
  unfold execDcmpCancel
  exact SameO.next (same_direct rfl (Same.refl _ _) (fun _ => Same.step (same_dcmpCtrl ..) rfl (Same.refl _ _)))

theorem same_execDcmpGo (a1 : _) (a2 : _) (s : State) : SameO 844424930164752 s (execDcmpGo a1 a2 s) := by
  unfold execDcmpGo
  exact SameO.next (same_direct rfl (Same.refl _ _) (fun _ => Same.step (same_dcmpCtrl ..) rfl (Same.refl _ _)))

theorem same_execDcmpJobEnd (a1 : _) (a2 : _) (s : State) : SameO 289074801081876504 s (execDcmpJobEnd a1 a2 s) := by
  unfold execDcmpJobEnd
  split
  · exact SameO.ite (SameO.next (Same.step (same_dcmpFinish ..) rfl (Same.refl _ _))) (SameO.next (Same.refl _ _))
  · exact SameO.next (Same.refl _ _)

end Sys2Proof.Machine
end

