-- ==== Sys2Proof/Laws/FootQueues.lean ====
section
/-! SUPPORT. Footprints of the operations and meanings of Machine/Queues.lean: each lemma says once which fields of the
state the function can change. -/

namespace Sys2Proof.Machine

open Sys2Proof

theorem same_modQueue (a1 : _) (a2 : _) (s : State) : Same 1099511627776 s (modQueue a1 a2 s) := by
  unfold modQueue
  exact Same.step (upd_queues ..) rfl (Same.refl _ _)

theorem same_modRdr (a1 : _) (a2 : _) (a3 : _) (s : State) : Same 1099511627776 s (modRdr a1 a2 a3 s) := by
  unfold modRdr
  exact Same.step (same_modQueue ..) rfl (Same.refl _ _)

theorem same_chaffSettle (a1 : _) (s : State) : Same 1099511627776 s (chaffSettle a1 s) := by
  unfold chaffSettle
  exact Same.step (same_modQueue ..) rfl (Same.refl _ _)

theorem same_spillEnd (a1 : _) (s : State) : Same 564049465081872 s (spillEnd a1 s) := by
  unfold spillEnd
  exact Same.ite (Same.step (same_memSync ..) rfl (Same.step (same_modQueue ..) rfl (Same.refl _ _))) (Same.refl _ _)

theorem same_release (a1 : _) (s : State) : Same 564049465081872 s (release a1 s) := by
  unfold release
  refine Same.ite (Same.refl _ _) ?_
  extract_lets +onlyGivenNames x1
  clear_value x1
  split
  · exact Same.refl _ _
  · extract_lets +onlyGivenNames x2
    extract_lets +onlyGivenNames x3
    clear_value x3
    extract_lets +onlyGivenNames x4
    clear_value x4
    extract_lets +onlyGivenNames x5
    refine Same.cut (x := x5) ?_ (fun h5 => ?_)
    · unfold x5
      exact Same.step (same_modQueue ..) rfl (Same.refl _ _)
    clear_value x5
    exact Same.step (same_spillEnd ..) rfl (Same.step (same_chaffSettle ..) rfl (by assumption))

theorem same_chaffAdd (a1 : _) (a2 : _) (s : State) : Same 1099511660560 s (chaffAdd a1 a2 s) := by
  unfold chaffAdd
  extract_lets +onlyGivenNames x1
  clear_value x1
  refine Same.ite (Same.step (same_modQueue ..) rfl (Same.refl _ _)) ?_
  refine Same.ite (Same.step (same_raise ..) rfl (Same.step (same_bump ..) rfl (Same.step (same_modQueue ..) rfl (Same.refl _ _)))) ?_
  refine Same.ite (Same.step (same_modQueue ..) rfl (Same.refl _ _)) ?_
  extract_lets +onlyGivenNames x2
  refine Same.cut (x := x2) ?_ (fun h2 => ?_)
  · unfold x2
    exact Same.step (same_setRg ..) rfl (Same.refl _ _)
  clear_value x2
  refine Same.ite (Same.step (same_modQueue ..) rfl (by assumption)) ?_
  split
  · exact Same.step (same_modQueue ..) rfl (by assumption)
  · exact Same.step (same_raise ..) rfl (Same.step (same_bump ..) rfl (Same.step (same_modQueue ..) rfl (by assumption)))

theorem same_countLost (a1 : _) (s : State) : Same 16 s (countLost a1 s) := by
  unfold countLost
  split
  · exact Same.step (same_bump ..) rfl (Same.step (same_bump ..) rfl (Same.refl _ _))
  · exact Same.refl _ _

theorem same_spillWrite (a1 : _) (a2 : _) (a3 : _) (s : State) : Same 288793326105133056 s (spillWrite a1 a2 a3 s) := by
  unfold spillWrite
  exact Same.forN (Same.refl _ _) (fun _ _ => Same.step (same_memPut ..) rfl (Same.refl _ _))

theorem same_commitRec (a1 : _) (a2 : _) (a3 : _) (a4 : _) (s : State) : Same 288794425616793616 s (commitRec a1 a2 a3 a4 s) := by
  unfold commitRec
  extract_lets +onlyGivenNames x1
  clear_value x1
  extract_lets +onlyGivenNames x2
  clear_value x2
  extract_lets +onlyGivenNames x3
  clear_value x3
  extract_lets +onlyGivenNames x4
  refine Same.cut (x := x4) ?_ (fun h4 => ?_)
  · unfold x4
    exact Same.ite (Same.step (same_spillWrite ..) rfl (Same.refl _ _)) (Same.refl _ _)
  clear_value x4
  extract_lets +onlyGivenNames x5
  refine Same.cut (x := x5) ?_ (fun h5 => ?_)
  · unfold x5
    exact Same.step (same_modQueue ..) rfl (by assumption)
  clear_value x5
  extract_lets +onlyGivenNames x6
  refine Same.cut (x := x6) ?_ (fun h6 => ?_)
  · unfold x6
    exact Same.step (same_bump ..) rfl (by assumption)
  clear_value x6
  exact Same.ite (Same.step (same_raise ..) rfl (by assumption)) (by assumption)

theorem same_flushStook (a1 : _) (s : State) : Same 564049465081872 s (flushStook a1 s) := by
  unfold flushStook
  extract_lets +onlyGivenNames x1
  clear_value x1
  extract_lets +onlyGivenNames x2
  clear_value x2
  extract_lets +onlyGivenNames x3
  refine Same.cut (x := x3) ?_ (fun h3 => ?_)
  · unfold x3
    exact Same.step (same_modQueue ..) rfl (Same.refl _ _)
  clear_value x3
  extract_lets +onlyGivenNames x4
  refine Same.cut (x := x4) ?_ (fun h4 => ?_)
  · unfold x4
    exact Same.forL (by assumption) (fun _ _ => Same.step (same_modRdr ..) rfl (Same.refl _ _))
  clear_value x4
  extract_lets +onlyGivenNames x5
  refine Same.cut (x := x5) ?_ (fun h5 => ?_)
  · unfold x5
    exact Same.step (same_spillEnd ..) rfl (Same.step (same_chaffSettle ..) rfl (by assumption))
  clear_value x5
  extract_lets +onlyGivenNames x6
  refine Same.cut (x := x6) ?_ (fun h6 => ?_)
  · unfold x6
    refine Same.foldl (by assumption) (fun _ _ => ?_)
    split
    · exact Same.step (same_chaffAdd ..) rfl (Same.step (same_countLost ..) rfl (Same.refl _ _))
    · exact Same.refl _ _
  clear_value x6
  exact Same.step (same_raise ..) rfl (by assumption)

theorem same_readersTo (a1 : _) (a2 : _) (a3 : _) (s : State) : Same 1099511627776 s (readersTo a1 a2 a3 s) := by
  unfold readersTo
  refine Same.forL (Same.refl _ _) (fun _ _ => ?_)
  extract_lets +onlyGivenNames x1
  clear_value x1
  exact Same.ite (Same.step (same_modRdr ..) rfl (Same.refl _ _)) (Same.refl _ _)

theorem same_discardOldest (a1 : _) (s : State) : Same 564049465081872 s (discardOldest a1 s) := by
  unfold discardOldest
  split
  · exact Same.refl _ _
  · extract_lets +onlyGivenNames x1
    clear_value x1
    extract_lets +onlyGivenNames x2
    refine Same.cut (x := x2) ?_ (fun h2 => ?_)
    · unfold x2
      exact Same.step (same_modQueue ..) rfl (Same.refl _ _)
    clear_value x2
    extract_lets +onlyGivenNames x3
    refine Same.cut (x := x3) ?_ (fun h3 => ?_)
    · unfold x3
      exact Same.step (same_spillEnd ..) rfl (Same.step (same_readersTo ..) rfl (Same.step (same_countLost ..) rfl (by assumption)))
    clear_value x3
    split
    · exact Same.step (same_chaffSettle ..) rfl (Same.step (same_chaffAdd ..) rfl (by assumption))
    · exact Same.step (same_chaffSettle ..) rfl (by assumption)

theorem same_makeRoom (q len n : Nat) (s : State) : Same 564049465081872 s (makeRoom q len n s) := by
  induction n generalizing s with
  | zero => exact Same.refl _ _
  | succ n ih =>
    unfold makeRoom
    exact Same.ite (Same.refl _ _) ((ih _).trans (Same.step (same_discardOldest ..) rfl (Same.refl _ _)))

theorem same_qAdmit (a1 : _) (a2 : _) (a3 : _) (a4 : _) (s : State) : Same 288794425616793616 s (qAdmit a1 a2 a3 a4 s) := by
  unfold qAdmit
  extract_lets +onlyGivenNames x1
  clear_value x1
  extract_lets +onlyGivenNames x2
  refine Same.cut (x := x2) ?_ (fun h2 => ?_)
  · unfold x2
    exact Same.step (same_makeRoom ..) rfl (Same.refl _ _)
  clear_value x2
  extract_lets +onlyGivenNames x3
  refine Same.cut (x := x3) ?_ (fun h3 => ?_)
  · unfold x3
    exact Same.ite (Same.step (same_raise ..) rfl (Same.step (same_setRg ..) rfl (by assumption))) (by assumption)
  clear_value x3
  extract_lets +onlyGivenNames x4
  clear_value x4
  extract_lets +onlyGivenNames x5
  refine Same.cut (x := x5) ?_ (fun h5 => ?_)
  · unfold x5
    split
    · extract_lets +onlyGivenNames x6
      refine Same.cut (x := x6) ?_ (fun h6 => ?_)
      · unfold x6
        exact Same.ite (Same.step (same_raise ..) rfl (Same.step (same_bump ..) rfl (Same.step (same_modQueue ..) rfl (by assumption)))) (by assumption)
      clear_value x6
      exact Same.step (same_commitRec ..) rfl (by assumption)
    · split
      · exact Same.step (same_chaffAdd ..) rfl (Same.step (same_countLost ..) rfl (by assumption))
      · exact (by assumption)
  clear_value x5
  exact Same.ite (Same.step (same_flushStook ..) rfl (by assumption)) (by assumption)

theorem same_readerAt (a1 : _) (a2 : _) (a3 : _) (s : State) : Same 1099511627776 s (readerAt a1 a2 a3 s) := by
  unfold readerAt
  extract_lets +onlyGivenNames x1
  refine Same.cut (x := x1) ?_ (fun h1 => ?_)
  · unfold x1
    exact Same.step (same_modRdr ..) rfl (Same.refl _ _)
  clear_value x1
  exact Same.step (same_modQueue ..) rfl (by assumption)

theorem same_rewind (a1 : _) (a2 : _) (a3 : _) (s : State) : Same 1099511660560 s (rewind a1 a2 a3 s).2 := by
  unfold rewind
  extract_lets +onlyGivenNames x1
  clear_value x1
  extract_lets +onlyGivenNames x2
  clear_value x2
  exact Same.iteSnd (Same.pair (Same.refl _ _)) (Same.iteSnd (Same.iteSnd (Same.pair (Same.step (same_bump ..) rfl (Same.step (same_readerAt ..) rfl (Same.refl _ _)))) (Same.pair (Same.refl _ _))) (Same.iteSnd (Same.pair (Same.step (same_bump ..) rfl (Same.step (same_readerAt ..) rfl (Same.refl _ _)))) (Same.pair (Same.step (same_raise ..) rfl (Same.step (same_bump ..) rfl (Same.step (same_bump ..) rfl (Same.step (same_readerAt ..) rfl (Same.refl _ _))))))))

theorem same_rdrStop (a1 : _) (a2 : _) (s : State) : Same 1099511627776 s (rdrStop a1 a2 s) := by
  unfold rdrStop
  exact Same.step (same_modRdr ..) rfl (Same.refl _ _)

theorem same_rdrStart (a1 : _) (a2 : _) (s : State) : Same 1099511627776 s (rdrStart a1 a2 s) := by
  unfold rdrStart
  extract_lets +onlyGivenNames x1
  clear_value x1
  exact Same.step (same_modRdr ..) rfl (Same.step (same_readerAt ..) rfl (Same.refl _ _))

theorem same_rdrReturn (a1 : _) (a2 : _) (s : State) : Same 1099511660560 s (rdrReturn a1 a2 s) := by
  unfold rdrReturn
  extract_lets +onlyGivenNames x1
  clear_value x1
  extract_lets +onlyGivenNames x2
  clear_value x2
  exact Same.ite (Same.step (same_rdrStart ..) rfl (Same.refl _ _)) (Same.step (same_rdrStart ..) rfl (Same.step (same_rewind ..) rfl (Same.refl _ _)))

theorem same_flushReq (a1 : _) (s : State) : Same 564049465081872 s (flushReq a1 s) := by
  unfold flushReq
  exact Same.ite (Same.step (same_pgError ..) rfl (Same.refl _ _)) (Same.ite (Same.step (same_modQueue ..) rfl (Same.refl _ _)) (Same.step (same_flushStook ..) rfl (Same.refl _ _)))

theorem same_flushSink (a1 : _) (s : State) : Same 8796093022208 s (flushSink a1 s) := by
  unfold flushSink
  exact Same.step (upd_plans ..) rfl (Same.refl _ _)

theorem same_flushWord (a1 : _) (s : State) : Same 572845558104080 s (flushWord a1 s) := by
  unfold flushWord
  extract_lets +onlyGivenNames x1
  clear_value x1
  extract_lets +onlyGivenNames x2
  refine Same.cut (x := x2) ?_ (fun h2 => ?_)
  · unfold x2
    exact Same.step (same_modQueue ..) rfl (Same.refl _ _)
  clear_value x2
  extract_lets +onlyGivenNames x3
  refine Same.cut (x := x3) ?_ (fun h3 => ?_)
  · unfold x3
    refine Same.forL (by assumption) (fun _ _ => ?_)
    extract_lets +onlyGivenNames x4
    clear_value x4
    exact Same.step (same_modRdr ..) rfl (Same.refl _ _)
  clear_value x3
  extract_lets +onlyGivenNames x5
  refine Same.cut (x := x5) ?_ (fun h5 => ?_)
  · unfold x5
    exact Same.step (same_flushSink ..) rfl (Same.step (same_spillEnd ..) rfl (Same.step (same_chaffSettle ..) rfl (by assumption)))
  clear_value x5
  extract_lets +onlyGivenNames x6
  refine Same.cut (x := x6) ?_ (fun h6 => ?_)
  · unfold x6
    refine Same.foldl (by assumption) (fun _ _ => ?_)
    split
    · exact Same.step (same_chaffAdd ..) rfl (Same.step (same_countLost ..) rfl (Same.refl _ _))
    · exact Same.refl _ _
  clear_value x6
  exact Same.step (same_raise ..) rfl (by assumption)

theorem same_flushWrite (a1 : _) (s : State) : Same 572845558104080 s (flushWrite a1 s) := by
  unfold flushWrite
  refine Same.ite (Same.refl _ _) ?_
  split
  · exact Same.step (same_flushReq ..) rfl (Same.refl _ _)
  · exact Same.step (same_flushWord ..) rfl (Same.refl _ _)
  · exact Same.step (same_pgError ..) rfl (Same.refl _ _)

theorem same_rwdGo (s : State) : Same 3298534916112 s (rwdGo s) := by
  unfold rwdGo
  extract_lets +onlyGivenNames x1
  clear_value x1
  extract_lets +onlyGivenNames x2
  clear_value x2
  extract_lets +onlyGivenNames x3
  clear_value x3
  extract_lets +onlyGivenNames x4
  refine Same.cut (x := x4.2) ?_ (fun h4 => ?_)
  · unfold x4
    exact Same.iteSnd (Same.pair (Same.refl _ _)) (Same.step (same_rewind ..) rfl (Same.refl _ _))
  clear_value x4
  extract_lets +onlyGivenNames x5
  refine Same.cut (x := x5) ?_ (fun h5 => ?_)
  · unfold x5
    exact (by assumption)
  clear_value x5
  exact Same.step (upd_rwdSt ..) rfl (by assumption)

theorem same_recUe (a1 : _) (a2 : _) (s : State) : Same 1099511660560 s (recUe a1 a2 s) := by
  unfold recUe
  extract_lets +onlyGivenNames x1
  clear_value x1
  extract_lets +onlyGivenNames x2
  refine Same.cut (x := x2) ?_ (fun h2 => ?_)
  · unfold x2
    exact Same.step (same_modQueue ..) rfl (Same.refl _ _)
  clear_value x2
  split
  · exact Same.step (same_chaffAdd ..) rfl (Same.step (same_countLost ..) rfl (by assumption))
  · exact Same.step (same_countLost ..) rfl (by assumption)

theorem same_execQueFlushStook (a1 : _) (a2 : _) (s : State) : SameO 564049465081872 s (execQueFlushStook a1 a2 s) := by
  unfold execQueFlushStook
  exact SameO.next (Same.ite (same_direct rfl (Same.refl _ _) (fun _ => Same.step (same_flushReq ..) rfl (Same.refl _ _))) (Same.refl _ _))

theorem same_execQueFlushWord (a1 : _) (a2 : _) (s : State) : SameO 572845558104080 s (execQueFlushWord a1 a2 s) := by
  unfold execQueFlushWord
  exact SameO.next (Same.ite (same_direct rfl (Same.refl _ _) (fun _ => Same.step (same_flushWord ..) rfl (Same.refl _ _))) (Same.refl _ _))

theorem same_execQueRwdGo (a1 : _) (s : State) : SameO 3298534916112 s (execQueRwdGo a1 s) := by
  unfold execQueRwdGo
  exact SameO.next (same_direct rfl (Same.refl _ _) (fun _ => Same.step (same_rwdGo ..) rfl (Same.refl _ _)))

theorem same_execStookFlushEffect (a1 : _) (s : State) : SameO 564049465081872 s (execStookFlushEffect a1 s) := by
  unfold execStookFlushEffect
  exact SameO.ite (SameO.next (Same.step (same_flushStook ..) rfl (Same.refl _ _))) (SameO.next (Same.refl _ _))

end Sys2Proof.Machine
end

