-- ==== Sys2Proof/Laws/FootCapture.lean ====
section
/-! SUPPORT. Footprints of the operations and meanings of Machine/Capture.lean: each lemma says once which fields of the
state the function can change. -/

namespace Sys2Proof.Machine

open Sys2Proof

theorem same_modLane (a1 : _) (a2 : _) (s : State) : Same 68719476736 s (modLane a1 a2 s) := by
  unfold modLane
  exact Same.step (upd_lanes ..) rfl (Same.refl _ _)

theorem same_modLk (a1 : _) (a2 : _) (s : State) : Same 68719476736 s (modLk a1 a2 s) := by
  unfold modLk
  exact Same.step (same_modLane ..) rfl (Same.refl _ _)

theorem same_modPlan (a1 : _) (a2 : _) (s : State) : Same 8796093022208 s (modPlan a1 a2 s) := by
  unfold modPlan
  exact Same.step (upd_plans ..) rfl (Same.refl _ _)

theorem same_planFill (a1 : _) (a2 : _) (s : State) : Same 8796093022208 s (planFill a1 a2 s) := by
  unfold planFill
  extract_lets +onlyGivenNames x1
  clear_value x1
  extract_lets +onlyGivenNames x2
  clear_value x2
  extract_lets +onlyGivenNames x3
  clear_value x3
  extract_lets +onlyGivenNames x4
  clear_value x4
  exact Same.step (same_modPlan ..) rfl (Same.refl _ _)

theorem same_planArm (a1 : _) (s : State) : Same 571746046476304 s (planArm a1 s).2 := by
  unfold planArm
  extract_lets +onlyGivenNames x1
  clear_value x1
  exact Same.iteSnd (Same.pair (Same.refl _ _)) (Same.iteSnd (Same.pair (Same.refl _ _)) (Same.iteSnd (Same.pair (Same.refl _ _)) (Same.pair (Same.step (same_memSync ..) rfl (Same.step (same_planFill ..) rfl (Same.refl _ _))))))

theorem same_unfreeze (a1 : _) (s : State) : Same 131072 s (unfreeze a1 s) := by
  unfold unfreeze
  exact Same.forN (Same.refl _ _) (fun _ _ => Same.ite (Same.refl _ _) (Same.step (same_modTap ..) rfl (Same.refl _ _)))

theorem same_planHeld (a1 : _) (a2 : _) (a3 : _) (s : State) : Same 571746046607376 s (planHeld a1 a2 a3 s) := by
  unfold planHeld
  extract_lets +onlyGivenNames x1
  refine Same.cut (x := x1) ?_ (fun h1 => ?_)
  · unfold x1
    exact Same.step (same_unfreeze ..) rfl (Same.refl _ _)
  clear_value x1
  extract_lets +onlyGivenNames x2
  refine Same.cut (x := x2) ?_ (fun h2 => ?_)
  · unfold x2
    exact Same.step (same_modPlan ..) rfl (by assumption)
  clear_value x2
  extract_lets +onlyGivenNames x3
  refine Same.cut (x := x3) ?_ (fun h3 => ?_)
  · unfold x3
    exact Same.ite (Same.step (same_raise ..) rfl (Same.step (same_bump ..) rfl (by assumption))) (by assumption)
  clear_value x3
  exact Same.step (same_memSync ..) rfl (Same.step (same_raise ..) rfl (by assumption))

theorem same_planIdle (a1 : _) (a2 : _) (s : State) : Same 571746046607376 s (planIdle a1 a2 s) := by
  unfold planIdle
  exact Same.step (same_memSync ..) rfl (Same.step (same_modPlan ..) rfl (Same.step (same_unfreeze ..) rfl (Same.refl _ _)))

theorem same_planStop (a1 : _) (a2 : _) (s : State) : Same 571746046607376 s (planStop a1 a2 s) := by
  unfold planStop
  split
  · exact Same.step (same_planIdle ..) rfl (Same.refl _ _)
  · exact Same.step (same_planIdle ..) rfl (Same.refl _ _)
  · exact Same.step (same_planHeld ..) rfl (Same.refl _ _)
  · exact Same.refl _ _

theorem same_planDisarm (a1 : _) (s : State) : Same 571746046607376 s (planDisarm a1 s).2 := by
  unfold planDisarm
  split
  · exact Same.pair (Same.refl _ _)
  · exact Same.pair (Same.refl _ _)
  · exact Same.pair (Same.step (same_planStop ..) rfl (Same.refl _ _))

theorem same_planAct {m : Nat} {s x : State} {f : State → Nat × State} (hm : 16 ||| m = m) (hx : Same m s x)
    (hf : ∀ y, Same m y (f y).2) : Same m s (planAct f x) := by
  unfold planAct
  exact Same.ite ((hf _).trans hx) (Same.step (same_pgError ..) (orUp (k := 16) rfl hm) ((hf _).trans hx))

theorem same_planOffload (a1 : _) (s : State) : Same 8796093022208 s (planOffload a1 s).2 := by
  unfold planOffload
  exact Same.iteSnd (Same.pair (Same.step (same_modPlan ..) rfl (Same.refl _ _))) (Same.pair (Same.refl _ _))

theorem same_planRelease (a1 : _) (s : State) : Same 571746046607376 s (planRelease a1 s).2 := by
  unfold planRelease
  exact Same.iteSnd (Same.pair (Same.step (same_planIdle ..) rfl (Same.refl _ _))) (Same.pair (Same.refl _ _))

theorem same_cpCtrl (a1 : _) (a2 : _) (s : State) : Same 571746046607376 s (cpCtrl a1 a2 s) := by
  unfold cpCtrl
  split
  · exact Same.refl _ _
  · exact same_planAct rfl (Same.refl _ _) (fun _ => Same.step (same_planArm ..) rfl (Same.refl _ _))
  · exact same_planAct rfl (Same.refl _ _) (fun _ => Same.step (same_planDisarm ..) rfl (Same.refl _ _))
  · exact same_planAct rfl (Same.refl _ _) (fun _ => Same.step (same_planRelease ..) rfl (Same.refl _ _))
  · exact same_planAct rfl (Same.refl _ _) (fun _ => Same.step (same_planOffload ..) rfl (Same.refl _ _))
  · exact Same.step (same_pgError ..) rfl (Same.refl _ _)

theorem same_freeze (a1 : _) (a2 : _) (s : State) : Same 163856 s (freeze a1 a2 s) := by
  unfold freeze
  exact Same.forL (Same.refl _ _) (fun _ _ => Same.ite (Same.step (same_bump ..) rfl (Same.step (same_raise ..) rfl (Same.step (same_modTap ..) rfl (Same.refl _ _)))) (Same.refl _ _))

theorem same_reject (a1 : _) (s : State) : Same 32784 s (reject a1 s) := by
  unfold reject
  exact Same.step (same_raise ..) rfl (Same.step (same_bump ..) rfl (Same.refl _ _))

theorem same_judge (a1 : _) (a2 : _) (a3 : _) (s : State) : Same 8796093186064 s (judge a1 a2 a3 s) := by
  unfold judge
  extract_lets +onlyGivenNames x1
  clear_value x1
  extract_lets +onlyGivenNames x2
  clear_value x2
  extract_lets +onlyGivenNames x3
  clear_value x3
  extract_lets +onlyGivenNames x4
  clear_value x4
  extract_lets +onlyGivenNames x5
  clear_value x5
  split
  · exact Same.refl _ _
  · exact Same.step (same_reject ..) rfl (Same.refl _ _)
  · exact Same.step (same_reject ..) rfl (Same.refl _ _)
  · refine Same.ite (Same.step (same_reject ..) rfl (Same.refl _ _)) ?_
    refine Same.ite (Same.step (same_reject ..) rfl (Same.refl _ _)) ?_
    refine Same.ite (Same.step (same_reject ..) rfl (Same.refl _ _)) ?_
    extract_lets +onlyGivenNames x6
    clear_value x6
    extract_lets +onlyGivenNames x7
    clear_value x7
    extract_lets +onlyGivenNames x8
    clear_value x8
    extract_lets +onlyGivenNames x9
    refine Same.cut (x := x9) ?_ (fun h9 => ?_)
    · unfold x9
      exact Same.step (same_modPlan ..) rfl (Same.refl _ _)
    clear_value x9
    extract_lets +onlyGivenNames x10
    refine Same.cut (x := x10) ?_ (fun h10 => ?_)
    · unfold x10
      exact Same.step (same_raise ..) rfl (Same.step (same_bump ..) rfl (by assumption))
    clear_value x10
    exact Same.ite (Same.step (same_freeze ..) rfl (by assumption)) (by assumption)

theorem same_deliver (a1 : _) (s : State) : Same 8796093186064 s (deliver a1 s) := by
  unfold deliver
  refine Same.forN (Same.refl _ _) (fun _ _ => ?_)
  extract_lets +onlyGivenNames x1
  clear_value x1
  split
  · exact Same.step (same_judge ..) rfl (Same.refl _ _)
  · exact Same.refl _ _

theorem same_modGunit (a1 : _) (a2 : _) (s : State) : Same 17592186044416 s (modGunit a1 a2 s) := by
  unfold modGunit
  exact Same.step (upd_gunits ..) rfl (Same.refl _ _)

theorem same_gSkip (a1 : _) (s : State) : Same 17592186077200 s (gSkip a1 s) := by
  unfold gSkip
  exact Same.ite (Same.step (same_raise ..) rfl (Same.step (same_bump ..) rfl (Same.step (same_modGunit ..) rfl (Same.refl _ _)))) (Same.refl _ _)

theorem same_planRegrid (a1 : _) (s : State) : Same 8796093022208 s (planRegrid a1 s) := by
  unfold planRegrid
  extract_lets +onlyGivenNames x1
  clear_value x1
  extract_lets +onlyGivenNames x2
  clear_value x2
  refine Same.ite (Same.refl _ _) ?_
  extract_lets +onlyGivenNames x3
  extract_lets +onlyGivenNames x4
  clear_value x4
  extract_lets +onlyGivenNames x5
  clear_value x5
  extract_lets +onlyGivenNames x6
  clear_value x6
  extract_lets +onlyGivenNames x7
  clear_value x7
  extract_lets +onlyGivenNames x8
  extract_lets +onlyGivenNames x9
  clear_value x9
  extract_lets +onlyGivenNames x10
  clear_value x10
  extract_lets +onlyGivenNames x11
  clear_value x11
  exact Same.step (same_modPlan ..) rfl (Same.refl _ _)

theorem same_modTunit (a1 : _) (a2 : _) (s : State) : Same 4398046511104 s (modTunit a1 a2 s) := by
  unfold modTunit
  exact Same.step (upd_tunits ..) rfl (Same.refl _ _)

theorem same_dupEnter (a1 : _) (s : State) : Same 35184372088832 s (dupEnter a1 s) := by
  unfold dupEnter
  exact Same.step (upd_dups ..) rfl (Same.refl _ _)

theorem same_trigSend (a1 : _) (a2 : _) (a3 : _) (s : State) : Same 68719476736 s (trigSend a1 a2 a3 s) := by
  unfold trigSend
  extract_lets +onlyGivenNames x1
  clear_value x1
  refine Same.forN (Same.refl _ _) (fun _ _ => ?_)
  refine Same.ite ?_ (Same.refl _ _)
  extract_lets +onlyGivenNames x2
  clear_value x2
  extract_lets +onlyGivenNames x3
  clear_value x3
  exact Same.step (same_modLk ..) rfl (Same.refl _ _)

theorem same_srcSend (a1 : _) (a2 : _) (s : State) : Same 105630425677824 s (srcSend a1 a2 s) := by
  unfold srcSend
  extract_lets +onlyGivenNames x1
  clear_value x1
  extract_lets +onlyGivenNames x2
  clear_value x2
  extract_lets +onlyGivenNames x3
  clear_value x3
  extract_lets +onlyGivenNames x4
  refine Same.cut (x := x4) ?_ (fun h4 => ?_)
  · unfold x4
    exact Same.ite (Same.step (same_trigSend ..) rfl (Same.step (same_dupEnter ..) rfl (Same.step (upd_pubId ..) rfl (Same.refl _ _)))) (Same.refl _ _)
  clear_value x4
  exact Same.ite (Same.ite (Same.step (same_outAt ..) rfl (by assumption)) (Same.step (same_trigOut ..) rfl (by assumption))) (by assumption)

theorem same_srcsFireAt (a1 : _) (s : State) : Same 114426518863888 s (srcsFireAt a1 s) := by
  unfold srcsFireAt
  extract_lets +onlyGivenNames x1
  clear_value x1
  extract_lets +onlyGivenNames x2
  refine Same.cut (x := x2) ?_ (fun h2 => ?_)
  · unfold x2
    exact Same.step (same_deliver ..) rfl (Same.refl _ _)
  clear_value x2
  exact Same.forL (by assumption) (fun _ _ => Same.step (same_srcSend ..) rfl (Same.refl _ _))

theorem same_srcsFire (a1 : _) (a2 : _) (s : State) : Same 114426518863888 s (srcsFire a1 a2 s) := by
  unfold srcsFire
  exact Same.step (same_srcsFireAt ..) rfl (Same.refl _ _)

theorem same_srcFire (a1 : _) (a2 : _) (s : State) : Same 114426518863888 s (srcFire a1 a2 s) := by
  unfold srcFire
  exact Same.step (same_srcsFire ..) rfl (Same.refl _ _)

theorem same_forceGo (s : State) : Same 114426518863888 s (forceGo s) := by
  unfold forceGo
  extract_lets +onlyGivenNames x1
  clear_value x1
  exact Same.step (same_srcFire ..) rfl (Same.refl _ _)

theorem same_execAcqForceGo (a1 : _) (a2 : _) (s : State) : SameO 114426518863889 s (execAcqForceGo a1 a2 s) := by
  unfold execAcqForceGo
  exact SameO.next (same_direct rfl (Same.refl _ _) (fun _ => Same.step (same_forceGo ..) rfl (Same.step (same_advance ..) rfl (Same.refl _ _))))

theorem same_execCpArm (a1 : _) (a2 : _) (s : State) : SameO 571746046607376 s (execCpArm a1 a2 s) := by
  unfold execCpArm
  exact SameO.next (Same.ite (same_direct rfl (Same.refl _ _) (fun _ => Same.step (same_cpCtrl ..) rfl (Same.refl _ _))) (Same.refl _ _))

theorem same_execCpDisarm (a1 : _) (a2 : _) (s : State) : SameO 571746046607376 s (execCpDisarm a1 a2 s) := by
  unfold execCpDisarm
  exact SameO.next (Same.ite (same_direct rfl (Same.refl _ _) (fun _ => Same.step (same_cpCtrl ..) rfl (Same.refl _ _))) (Same.refl _ _))

theorem same_execCpOffload (a1 : _) (a2 : _) (s : State) : SameO 571746046607376 s (execCpOffload a1 a2 s) := by
  unfold execCpOffload
  exact SameO.next (Same.ite (same_direct rfl (Same.refl _ _) (fun _ => Same.step (same_cpCtrl ..) rfl (Same.refl _ _))) (Same.refl _ _))

theorem same_execCpRelease (a1 : _) (a2 : _) (s : State) : SameO 571746046607376 s (execCpRelease a1 a2 s) := by
  unfold execCpRelease
  exact SameO.next (Same.ite (same_direct rfl (Same.refl _ _) (fun _ => Same.step (same_cpCtrl ..) rfl (Same.refl _ _))) (Same.refl _ _))

theorem same_planComplete (a1 : _) (s : State) : Same 571746046607376 s (planComplete a1 s) := by
  unfold planComplete
  extract_lets +onlyGivenNames x1
  clear_value x1
  exact Same.ite (Same.step (same_planHeld ..) rfl (Same.refl _ _)) (Same.refl _ _)

theorem same_planFlush (a1 : _) (a2 : _) (s : State) : Same 288802122198188048 s (planFlush a1 a2 s) := by
  unfold planFlush
  extract_lets +onlyGivenNames x1
  clear_value x1
  extract_lets +onlyGivenNames x2
  clear_value x2
  extract_lets +onlyGivenNames x3
  clear_value x3
  extract_lets +onlyGivenNames x4
  clear_value x4
  extract_lets +onlyGivenNames x5
  clear_value x5
  refine Same.ite (Same.refl _ _) ?_
  extract_lets +onlyGivenNames x6
  refine Same.cut (x := x6) ?_ (fun h6 => ?_)
  · unfold x6
    exact Same.step (same_modPlan ..) rfl (Same.refl _ _)
  clear_value x6
  refine Same.foldl (by assumption) (fun _ _ => ?_)
  extract_lets +onlyGivenNames x7
  clear_value x7
  extract_lets +onlyGivenNames x8
  refine Same.cut (x := x8) ?_ (fun h8 => ?_)
  · unfold x8
    exact Same.step (same_modPlan ..) rfl (Same.refl _ _)
  clear_value x8
  split
  · exact (by assumption)
  · extract_lets +onlyGivenNames x9
    clear_value x9
    extract_lets +onlyGivenNames x10
    clear_value x10
    exact Same.step (same_unitPut ..) rfl (by assumption)

theorem same_gleanPass (a1 : _) (a2 : _) (a3 : _) (s : State) : Same 17592186044416 s (gleanPass a1 a2 a3 s) := by
  unfold gleanPass
  refine Same.ite (Same.refl _ _) ?_
  refine Same.forN (Same.refl _ _) (fun _ _ => ?_)
  extract_lets +onlyGivenNames x1
  clear_value x1
  refine Same.ite (Same.refl _ _) ?_
  extract_lets +onlyGivenNames x2
  refine Same.cut (x := x2) ?_ (fun h2 => ?_)
  · unfold x2
    exact Same.ite (Same.step (same_modGunit ..) rfl (Same.refl _ _)) (Same.refl _ _)
  clear_value x2
  refine Same.ite (by assumption) ?_
  extract_lets +onlyGivenNames x3
  clear_value x3
  exact Same.forL (by assumption) (fun _ _ => Same.step (same_modGunit ..) rfl (Same.refl _ _))

theorem same_levelChange (a1 : _) (s : State) : Same 8796093054992 s (levelChange a1 s) := by
  unfold levelChange
  split
  · exact Same.refl _ _
  · extract_lets +onlyGivenNames x1
    clear_value x1
    refine Same.ite (Same.refl _ _) ?_
    extract_lets +onlyGivenNames x2
    clear_value x2
    extract_lets +onlyGivenNames x3
    clear_value x3
    extract_lets +onlyGivenNames x4
    clear_value x4
    extract_lets +onlyGivenNames x5
    clear_value x5
    extract_lets +onlyGivenNames x6
    refine Same.ite ?_ ?_
    · unfold x6
      beta_reduce
      extract_lets +onlyGivenNames x7
      clear_value x7
      extract_lets +onlyGivenNames x8
      clear_value x8
      extract_lets +onlyGivenNames x9
      clear_value x9
      exact Same.step (same_raise ..) rfl (Same.step (same_bump ..) rfl (Same.step (same_modPlan ..) rfl (Same.refl _ _)))
    · refine Same.ite ?_ (Same.refl _ _)
      unfold x6
      beta_reduce
      extract_lets +onlyGivenNames x10
      clear_value x10
      extract_lets +onlyGivenNames x11
      clear_value x11
      extract_lets +onlyGivenNames x12
      clear_value x12
      exact Same.step (same_raise ..) rfl (Same.step (same_bump ..) rfl (Same.step (same_modPlan ..) rfl (Same.refl _ _)))

theorem same_planReady (a1 : _) (s : State) : Same 8796093022208 s (planReady a1 s) := by
  unfold planReady
  extract_lets +onlyGivenNames x1
  clear_value x1
  exact Same.ite (Same.step (same_modPlan ..) rfl (Same.refl _ _)) (Same.refl _ _)

theorem same_storeOne (a1 : _) (a2 : _) (a3 : _) (a4 : _) (a5 : _) (a6 : _) (a7 : _) (s : State) : Same 571746046607376 s (storeOne a1 a2 a3 a4 a5 a6 a7 s) := by
  unfold storeOne
  extract_lets +onlyGivenNames x1
  clear_value x1
  extract_lets +onlyGivenNames x2
  clear_value x2
  refine Same.ite (Same.refl _ _) ?_
  refine Same.ite (Same.refl _ _) ?_
  extract_lets +onlyGivenNames x3
  clear_value x3
  extract_lets +onlyGivenNames x4
  clear_value x4
  extract_lets +onlyGivenNames x5
  clear_value x5
  refine Same.ite (Same.step (same_raise ..) rfl (Same.step (same_planHeld ..) rfl (Same.refl _ _))) ?_
  extract_lets +onlyGivenNames x6
  clear_value x6
  extract_lets +onlyGivenNames x7
  clear_value x7
  extract_lets +onlyGivenNames x8
  clear_value x8
  extract_lets +onlyGivenNames x9
  clear_value x9
  exact Same.step (same_modPlan ..) rfl (Same.refl _ _)

theorem same_planPass (a1 : _) (a2 : _) (a3 : _) (a4 : _) (a5 : _) (s : State) : Same 571746046607376 s (planPass a1 a2 a3 a4 a5 s) := by
  unfold planPass
  refine Same.ite (Same.refl _ _) ?_
  extract_lets +onlyGivenNames x1
  refine Same.cut (x := x1) ?_ (fun h1 => ?_)
  · unfold x1
    exact Same.step (same_levelChange ..) rfl (Same.refl _ _)
  clear_value x1
  extract_lets +onlyGivenNames x2
  clear_value x2
  extract_lets +onlyGivenNames x3
  clear_value x3
  extract_lets +onlyGivenNames x4
  extract_lets +onlyGivenNames x5
  clear_value x5
  extract_lets +onlyGivenNames x6
  refine Same.cut (x := x6) ?_ (fun h6 => ?_)
  · unfold x6
    exact Same.foldl (by assumption) (fun _ _ => Same.foldl (Same.refl _ _) (fun _ _ => Same.ite (Same.step (same_storeOne ..) rfl (Same.refl _ _)) (Same.refl _ _)))
  clear_value x6
  exact Same.step (same_planReady ..) rfl (by assumption)

theorem same_tuSample (a1 : _) (a2 : _) (s : State) : Same 4398046511104 s (tuSample a1 a2 s).2 := by
  unfold tuSample
  extract_lets +onlyGivenNames x1
  clear_value x1
  extract_lets +onlyGivenNames x2
  clear_value x2
  extract_lets +onlyGivenNames x3
  clear_value x3
  extract_lets +onlyGivenNames x4
  clear_value x4
  extract_lets +onlyGivenNames x5
  clear_value x5
  extract_lets +onlyGivenNames x6
  clear_value x6
  extract_lets +onlyGivenNames x7
  clear_value x7
  extract_lets +onlyGivenNames x8
  clear_value x8
  refine Same.iteSnd (Same.pair (Same.ite (Same.step (same_modTunit ..) rfl (Same.refl _ _)) (Same.refl _ _))) ?_
  extract_lets +onlyGivenNames x9
  refine Same.cut (x := x9) ?_ (fun h9 => ?_)
  · unfold x9
    exact Same.step (same_modTunit ..) rfl (Same.refl _ _)
  clear_value x9
  exact Same.iteSnd (Same.iteSnd (Same.pair (Same.step (same_modTunit ..) rfl (by assumption))) (Same.pair (by assumption))) (Same.pair (Same.ite (Same.step (same_modTunit ..) rfl (by assumption)) (by assumption)))

theorem same_tuWord (a1 : _) (s : State) : Same 118824565374992 s (tuWord a1 s) := by
  unfold tuWord
  extract_lets +onlyGivenNames x1
  refine Same.cut (x := x1.2) ?_ (fun h1 => ?_)
  · unfold x1
    refine Same.foldlOn Prod.snd (Same.pair (Same.refl _ _)) (fun _ _ => ?_)
    extract_lets +onlyGivenNames x2
    refine Same.cut (x := x2.2) ?_ (fun h2 => ?_)
    · unfold x2
      exact Same.step (same_tuSample ..) rfl (Same.refl _ _)
    clear_value x2
    exact Same.pair (by assumption)
  clear_value x1
  exact Same.ite (by assumption) (Same.step (same_srcsFire ..) rfl (by assumption))

theorem same_tuPass (a1 : _) (s : State) : Same 118824565374992 s (tuPass a1 s) := by
  unfold tuPass
  extract_lets +onlyGivenNames x1
  clear_value x1
  exact Same.forL (Same.refl _ _) (fun _ _ => Same.step (same_tuWord ..) rfl (Same.refl _ _))

theorem same_offlAdmit (a1 : _) (a2 : _) (a3 : _) (s : State) : Same 288803221709815824 s (offlAdmit a1 a2 a3 s) := by
  unfold offlAdmit
  split
  · exact Same.refl _ _
  · extract_lets +onlyGivenNames x1
    clear_value x1
    extract_lets +onlyGivenNames x2
    clear_value x2
    refine Same.foldl (Same.refl _ _) (fun _ _ => ?_)
    extract_lets +onlyGivenNames x3
    clear_value x3
    extract_lets +onlyGivenNames x4
    clear_value x4
    extract_lets +onlyGivenNames x5
    clear_value x5
    extract_lets +onlyGivenNames x6
    clear_value x6
    extract_lets +onlyGivenNames x7
    refine Same.cut (x := x7) ?_ (fun h7 => ?_)
    · unfold x7
      exact Same.step (same_modPlan ..) rfl (Same.refl _ _)
    clear_value x7
    extract_lets +onlyGivenNames x8
    clear_value x8
    extract_lets +onlyGivenNames x9
    refine Same.cut (x := x9) ?_ (fun h9 => ?_)
    · unfold x9
      exact Same.step (same_eccList ..) rfl (by assumption)
    clear_value x9
    extract_lets +onlyGivenNames x10
    split
    · exact Same.step (same_chaffAdd ..) rfl (Same.step (same_modPlan ..) rfl (by assumption))
    · refine Same.ite (Same.step (same_chaffAdd ..) rfl (by assumption)) ?_
      extract_lets +onlyGivenNames x11
      clear_value x11
      exact Same.step (same_qAdmit ..) rfl (Same.ite (Same.step (same_fwJob ..) rfl (by assumption)) (by assumption))

theorem same_offlStep (a1 : _) (s : State) : Same 288803221709815824 s (offlStep a1 s) := by
  unfold offlStep
  exact Same.step (same_offlAdmit ..) rfl (Same.step (same_modPlan ..) rfl (Same.refl _ _))

theorem same_planStep (a1 : _) (s : State) : Same 571746046607376 s (planStep a1 s) := by
  unfold planStep
  split
  · exact Same.step (same_planFill ..) rfl (Same.refl _ _)
  · exact Same.step (same_planFill ..) rfl (Same.refl _ _)
  · exact Same.step (same_planHeld ..) rfl (Same.refl _ _)
  · exact Same.refl _ _

theorem same_execOffloadDone (a1 : _) (a2 : _) (s : State) : SameO 504976003823730704 s (execOffloadDone a1 a2 s) := by
  unfold execOffloadDone
  split
  · exact SameO.next (Same.refl _ _)
  · refine SameO.ite ?_ (SameO.next (Same.refl _ _))
    extract_lets +onlyGivenNames x1
    refine SameO.cut (x := x1) ?_ (fun h1 => ?_)
    · unfold x1
      exact Same.step (same_offlAdmit ..) rfl (Same.refl _ _)
    clear_value x1
    extract_lets +onlyGivenNames x2
    clear_value x2
    extract_lets +onlyGivenNames x3
    refine SameO.cut (x := x3) ?_ (fun h3 => ?_)
    · unfold x3
      exact Same.step (same_raise ..) rfl (Same.step (same_modPlan ..) rfl (by assumption))
    clear_value x3
    extract_lets +onlyGivenNames x4
    clear_value x4
    extract_lets +onlyGivenNames x5
    clear_value x5
    exact SameO.next (Same.step (same_wakeup ..) rfl (Same.ite (Same.step (same_planIdle ..) rfl (by assumption)) (by assumption)))

theorem same_trigTake (a1 : _) (a2 : _) (s : State) : Same 44049184751632 s (trigTake a1 a2 s) := by
  unfold trigTake
  extract_lets +onlyGivenNames x1
  clear_value x1
  extract_lets +onlyGivenNames x2
  refine Same.ite ?_ ?_
  · unfold x2
    beta_reduce
    exact Same.step (same_modLk ..) rfl (Same.step (same_bump ..) rfl (Same.refl _ _))
  · extract_lets +onlyGivenNames x3
    refine Same.cut (x := x3) ?_ (fun h3 => ?_)
    · unfold x3
      exact Same.step (same_deliver ..) rfl (Same.step (same_dupEnter ..) rfl (Same.refl _ _))
    clear_value x3
    refine Same.ite ?_ ?_
    · extract_lets +onlyGivenNames x4
      clear_value x4
      extract_lets +onlyGivenNames x5
      refine Same.cut (x := x5) ?_ (fun h5 => ?_)
      · unfold x5
        exact Same.step (same_bump ..) rfl (by assumption)
      clear_value x5
      refine Same.ite (Same.step (same_trigSend ..) rfl (by assumption)) ?_
      unfold x2
      beta_reduce
      exact Same.step (same_modLk ..) rfl (by assumption)
    · unfold x2
      beta_reduce
      exact Same.step (same_modLk ..) rfl (by assumption)

theorem same_execTrigInEdge (a1 : _) (a2 : _) (s : State) : SameO 114426518863889 s (execTrigInEdge a1 a2 s) := by
  unfold execTrigInEdge
  extract_lets +onlyGivenNames x1
  clear_value x1
  exact SameO.ite (SameO.next (Same.step (same_srcFire ..) rfl (Same.step (same_modTmb ..) rfl (Same.step (same_advance ..) rfl (Same.refl _ _))))) (SameO.next (Same.refl _ _))

end Sys2Proof.Machine
end

