-- ==== Sys2Proof/Laws/FootStooks.lean ====
section
/-! SUPPORT. Footprints of the operations and meanings of Machine/Stooks.lean: each lemma says once which fields of the
state the function can change. -/

namespace Sys2Proof.Machine

open Sys2Proof

theorem same_inputChaff (a1 : _) (a2 : _) (a3 : _) (a4 : _) (a5 : _) (s : State) : Same 1099511660560 s (inputChaff a1 a2 a3 a4 a5 s) := by
  unfold inputChaff
  extract_lets +onlyGivenNames x1
  clear_value x1
  refine Same.foldl (Same.refl _ _) (fun _ _ => ?_)
  extract_lets +onlyGivenNames x2
  clear_value x2
  exact Same.step (same_chaffAdd ..) rfl (Same.refl _ _)

theorem same_modStrm (a1 : _) (a2 : _) (s : State) : Same 549755813888 s (modStrm a1 a2 s) := by
  unfold modStrm
  exact Same.step (upd_streams ..) rfl (Same.refl _ _)

theorem same_assemble (a1 : _) (a2 : _) (a3 : _) (a4 : _) (s : State) : Same 288795250250514448 s (assemble a1 a2 a3 a4 s) := by
  unfold assemble
  extract_lets +onlyGivenNames x1
  clear_value x1
  extract_lets +onlyGivenNames x2
  clear_value x2
  extract_lets +onlyGivenNames x3
  clear_value x3
  extract_lets +onlyGivenNames x4
  clear_value x4
  extract_lets +onlyGivenNames x5
  clear_value x5
  extract_lets +onlyGivenNames x6
  clear_value x6
  extract_lets +onlyGivenNames x7
  clear_value x7
  extract_lets +onlyGivenNames x8
  clear_value x8
  extract_lets +onlyGivenNames x9
  refine Same.cut (x := x9) ?_ (fun h9 => ?_)
  · unfold x9
    exact Same.step (same_modStrm ..) rfl (Same.refl _ _)
  clear_value x9
  extract_lets +onlyGivenNames x10
  refine Same.cut (x := x10) ?_ (fun h10 => ?_)
  · unfold x10
    exact Same.step (upd_grecs ..) rfl (by assumption)
  clear_value x10
  extract_lets +onlyGivenNames x11
  refine Same.cut (x := x11) ?_ (fun h11 => ?_)
  · unfold x11
    exact Same.step (same_bump ..) rfl (Same.step (same_bump ..) rfl (by assumption))
  clear_value x11
  extract_lets +onlyGivenNames x12
  refine Same.cut (x := x12) ?_ (fun h12 => ?_)
  · unfold x12
    exact Same.ite (Same.step (same_bump ..) rfl (by assumption)) (by assumption)
  clear_value x12
  extract_lets +onlyGivenNames x13
  refine Same.cut (x := x13) ?_ (fun h13 => ?_)
  · unfold x13
    exact Same.ite (Same.step (same_raise ..) rfl (Same.step (same_bump ..) rfl (by assumption))) (by assumption)
  clear_value x13
  extract_lets +onlyGivenNames x14
  clear_value x14
  extract_lets +onlyGivenNames x15
  refine Same.cut (x := x15) ?_ (fun h15 => ?_)
  · unfold x15
    exact Same.step (same_inputChaff ..) rfl (by assumption)
  clear_value x15
  refine Same.ite ?_ (Same.step (same_qAdmit ..) rfl (by assumption))
  extract_lets +onlyGivenNames x16
  clear_value x16
  extract_lets +onlyGivenNames x17
  refine Same.cut (x := x17) ?_ (fun h17 => ?_)
  · unfold x17
    exact Same.step (same_raise ..) rfl (Same.step (same_bump ..) rfl (Same.step (same_countLost ..) rfl (by assumption)))
  clear_value x17
  split
  · exact Same.step (same_chaffAdd ..) rfl (by assumption)
  · exact (by assumption)

theorem same_assembleDue (i o : Nat) (ue wv : Bool) (n : Nat) (s : State) : Same 288795250250514448 s (assembleDue i o ue wv n s) := by
  induction n generalizing ue wv s with
  | zero => exact Same.refl _ _
  | succ n ih =>
    unfold assembleDue
    split
    · exact Same.refl _ _
    · exact Same.ite ((ih _ _ _).trans (Same.step (same_assemble ..) rfl (Same.step (same_modStrm ..) rfl (Same.refl _ _))))
        (Same.refl _ _)

theorem same_assembleAll (a1 : _) (a2 : _) (a3 : _) (s : State) : Same 288795250250514448 s (assembleAll a1 a2 a3 s) := by
  unfold assembleAll
  exact Same.forN (Same.refl _ _) (fun _ _ => Same.step (same_assembleDue ..) rfl (Same.refl _ _))

theorem same_gleanLatev (a1 : _) (s : State) : Same 32784 s (gleanLatev a1 s) := by
  unfold gleanLatev
  exact Same.ite (Same.refl _ _) (Same.step (same_raise ..) rfl (Same.step (same_bump ..) rfl (Same.refl _ _)))

theorem same_gleanEnd (a1 : _) (a2 : _) (s : State) : Same 17867063984144 s (gleanEnd a1 a2 s) := by
  unfold gleanEnd
  refine Same.forN (Same.refl _ _) (fun _ _ => ?_)
  extract_lets +onlyGivenNames x1
  clear_value x1
  refine Same.ite (Same.refl _ _) ?_
  extract_lets +onlyGivenNames x2
  clear_value x2
  extract_lets +onlyGivenNames x3
  clear_value x3
  extract_lets +onlyGivenNames x4
  clear_value x4
  extract_lets +onlyGivenNames x5
  refine Same.cut (x := x5) ?_ (fun h5 => ?_)
  · unfold x5
    exact Same.step (same_gleanLatev ..) rfl (Same.step (upd_grecs ..) rfl (Same.refl _ _))
  clear_value x5
  exact Same.step (same_bump ..) rfl (Same.step (same_modGunit ..) rfl (by assumption))

theorem same_gleanVerdicts (s : State) : Same 17867063951360 s (gleanVerdicts s) := by
  unfold gleanVerdicts
  refine Same.foldl (Same.refl _ _) (fun _ _ => ?_)
  refine Same.foldl (Same.refl _ _) (fun _ _ => ?_)
  extract_lets +onlyGivenNames x1
  extract_lets +onlyGivenNames x2
  refine Same.cut (x := x2) ?_ (fun h2 => ?_)
  · unfold x2
    refine Same.forN (Same.refl _ _) (fun _ _ => ?_)
    extract_lets +onlyGivenNames x3
    clear_value x3
    exact Same.ite (Same.step (same_modGunit ..) rfl (Same.refl _ _)) (Same.refl _ _)
  clear_value x2
  exact Same.step (upd_grecs ..) rfl (by assumption)

theorem same_gleanLate (s : State) : Same 17867063984144 s (gleanLate s) := by
  unfold gleanLate
  extract_lets +onlyGivenNames x1
  refine Same.cut (x := x1) ?_ (fun h1 => ?_)
  · unfold x1
    exact Same.step (same_gleanVerdicts ..) rfl (Same.refl _ _)
  clear_value x1
  exact Same.step (same_gleanLatev ..) rfl (by assumption)

theorem same_prunePasses (a1 : _) (s : State) : Same 412316860416 s (prunePasses a1 s) := by
  unfold prunePasses
  extract_lets +onlyGivenNames x1
  exact Same.step (upd_passes_grecs ..) rfl (Same.refl _ _)

theorem same_strClose (a1 : _) (s : State) : Same 549755813888 s (strClose a1 s) := by
  unfold strClose
  split
  · exact Same.refl _ _
  · exact Same.ite (Same.step (same_modStrm ..) rfl (Same.refl _ _)) (Same.refl _ _)

theorem same_strTick (a1 : _) (s : State) : Same 549755813888 s (strTick a1 s) := by
  unfold strTick
  extract_lets +onlyGivenNames x1
  clear_value x1
  extract_lets +onlyGivenNames x2
  clear_value x2
  extract_lets +onlyGivenNames x3
  extract_lets +onlyGivenNames x4
  refine Same.cut (x := x4) ?_ (fun h4 => ?_)
  · unfold x4
    split
    · exact Same.ite (Same.step (same_modStrm ..) rfl (Same.refl _ _)) (Same.refl _ _)
    · exact Same.refl _ _
  clear_value x4
  extract_lets +onlyGivenNames x5
  clear_value x5
  extract_lets +onlyGivenNames x6
  refine Same.cut (x := x6) ?_ (fun h6 => ?_)
  · unfold x6
    exact Same.ite (Same.step (same_modStrm ..) rfl (by assumption)) (by assumption)
  clear_value x6
  exact Same.step (same_strClose ..) rfl (by assumption)

theorem same_strStep (a1 : _) (a2 : _) (s : State) : Same 549755813888 s (strStep a1 a2 s) := by
  unfold strStep
  exact Same.step (same_modStrm ..) rfl (Same.refl _ _)

theorem same_strStepOpen (a1 : _) (a2 : _) (s : State) : Same 549755813888 s (strStepOpen a1 a2 s) := by
  unfold strStepOpen
  extract_lets +onlyGivenNames x1
  clear_value x1
  extract_lets +onlyGivenNames x2
  clear_value x2
  extract_lets +onlyGivenNames x3
  refine Same.cut (x := x3) ?_ (fun h3 => ?_)
  · unfold x3
    exact Same.step (same_modStrm ..) rfl (Same.refl _ _)
  clear_value x3
  extract_lets +onlyGivenNames x4
  refine Same.cut (x := x4) ?_ (fun h4 => ?_)
  · unfold x4
    exact Same.ite (Same.step (same_modStrm ..) rfl (by assumption)) (by assumption)
  clear_value x4
  exact Same.step (same_strClose ..) rfl (by assumption)

end Sys2Proof.Machine
end

