-- ==== Sys2Proof/Laws/FootLanes.lean ====
section
/-! SUPPORT. Footprints of the operations and meanings of Machine/Lanes.lean: each lemma says once which fields of the
state the function can change. -/

namespace Sys2Proof.Machine

open Sys2Proof

theorem same_viaFree (a1 : _) (s : State) : Same 68719476736 s (viaFree a1 s) := by
  unfold viaFree
  split
  · exact Same.step (same_modLk ..) rfl (Same.refl _ _)
  · exact Same.refl _ _

theorem same_isolSync (s : State) : Same 2251799813685248 s (isolSync s) := by
  unfold isolSync
  exact Same.ite (Same.step (upd_twn ..) rfl (Same.refl _ _)) (Same.refl _ _)

theorem same_laneRelease (s : State) : Same 564049465081872 s (laneRelease s) := by
  unfold laneRelease
  exact Same.forN (Same.refl _ _) (fun _ _ => Same.step (same_release ..) rfl (Same.refl _ _))

theorem same_mboxVoid (a1 : _) (s : State) : Same 18014398509481984 s (mboxVoid a1 s) := by
  unfold mboxVoid
  exact Same.step (upd_hst ..) rfl (Same.refl _ _)

theorem same_mgmtMove (a1 : _) (s : State) : Same 68719476736 s (mgmtMove a1 s) := by
  unfold mgmtMove
  extract_lets +onlyGivenNames x1
  clear_value x1
  extract_lets +onlyGivenNames x2
  clear_value x2
  extract_lets +onlyGivenNames x3
  clear_value x3
  extract_lets +onlyGivenNames x4
  clear_value x4
  extract_lets +onlyGivenNames x5
  refine Same.cut (x := x5) ?_ (fun h5 => ?_)
  · unfold x5
    exact Same.step (same_modLk ..) rfl (Same.refl _ _)
  clear_value x5
  exact Same.step (same_modLk ..) rfl (by assumption)

theorem same_readersStop (a1 : _) (s : State) : Same 1099511627776 s (readersStop a1 s) := by
  unfold readersStop
  exact Same.forN (Same.refl _ _) (fun _ _ => Same.ite (Same.step (same_rdrStop ..) rfl (Same.refl _ _)) (Same.refl _ _))

theorem same_rteSync (s : State) : Same 1125899906875408 s (rteSync s) := by
  unfold rteSync
  extract_lets +onlyGivenNames x1
  clear_value x1
  exact Same.ite (Same.refl _ _) (Same.step (same_raise ..) rfl (Same.step (upd_rtePath ..) rfl (Same.refl _ _)))

theorem same_viaDrop (a1 : _) (s : State) : Same 68719476736 s (viaDrop a1 s) := by
  unfold viaDrop
  extract_lets +onlyGivenNames x1
  exact Same.forN (Same.refl _ _) (fun _ _ => Same.step (same_modLk ..) rfl (Same.refl _ _))

theorem same_xoverStart (a1 : _) (s : State) : Same 1099511660560 s (xoverStart a1 s) := by
  unfold xoverStart
  exact Same.forN (Same.refl _ _) (fun _ _ => Same.ite (Same.step (same_rdrReturn ..) rfl (Same.refl _ _)) (Same.refl _ _))

theorem same_linkDown (a1 : _) (s : State) : Same 19704416600883216 s (linkDown a1 s) := by
  unfold linkDown
  extract_lets +onlyGivenNames x1
  clear_value x1
  extract_lets +onlyGivenNames x2
  refine Same.cut (x := x2) ?_ (fun h2 => ?_)
  · unfold x2
    exact Same.forL (Same.refl _ _) (fun _ _ => Same.step (same_viaFree ..) rfl (Same.refl _ _))
  clear_value x2
  extract_lets +onlyGivenNames x3
  refine Same.cut (x := x3) ?_ (fun h3 => ?_)
  · unfold x3
    exact Same.step (same_mboxVoid ..) rfl (Same.step (same_viaDrop ..) rfl (by assumption))
  clear_value x3
  extract_lets +onlyGivenNames x4
  refine Same.cut (x := x4) ?_ (fun h4 => ?_)
  · unfold x4
    exact Same.step (same_mgmtMove ..) rfl (by assumption)
  clear_value x4
  extract_lets +onlyGivenNames x5
  refine Same.cut (x := x5) ?_ (fun h5 => ?_)
  · unfold x5
    exact Same.step (same_modLk ..) rfl (by assumption)
  clear_value x5
  exact Same.step (same_rteSync ..) rfl (Same.step (same_laneRelease ..) rfl (Same.ite (Same.step (same_xoverStart ..) rfl (Same.step (same_readersStop ..) rfl (by assumption))) (Same.step (same_readersStop ..) rfl (by assumption))))

theorem same_setLaneSt (a1 : _) (a2 : _) (s : State) : Same 68719509520 s (setLaneSt a1 a2 s) := by
  unfold setLaneSt
  exact Same.ite (Same.refl _ _) (Same.step (same_raise ..) rfl (Same.step (same_modLane ..) rfl (Same.refl _ _)))

theorem same_rateCheck (a1 : _) (s : State) : Same 21956216414568464 s (rateCheck a1 s) := by
  unfold rateCheck
  refine Same.ite ?_ (Same.refl _ _)
  extract_lets +onlyGivenNames x1
  clear_value x1
  extract_lets +onlyGivenNames x2
  refine Same.cut (x := x2) ?_ (fun h2 => ?_)
  · unfold x2
    exact Same.step (same_isolSync ..) rfl (Same.step (same_linkDown ..) rfl (Same.step (same_setLaneSt ..) rfl (Same.refl _ _)))
  clear_value x2
  exact Same.step (same_modLane ..) rfl (by assumption)

theorem same_capCheck (a1 : _) (s : State) : Same 68719509520 s (capCheck a1 s) := by
  unfold capCheck
  extract_lets +onlyGivenNames x1
  clear_value x1
  extract_lets +onlyGivenNames x2
  clear_value x2
  extract_lets +onlyGivenNames x3
  refine Same.cut (x := x3) ?_ (fun h3 => ?_)
  · unfold x3
    exact Same.step (same_modLane ..) rfl (Same.refl _ _)
  clear_value x3
  exact Same.ite (Same.step (same_raise ..) rfl (by assumption)) (by assumption)

theorem same_failSet (a1 : _) (a2 : _) (s : State) : Same 68719476736 s (failSet a1 a2 s) := by
  unfold failSet
  exact Same.step (same_modLane ..) rfl (Same.refl _ _)

theorem same_rateFail (a1 : _) (a2 : _) (s : State) : Same 68719509520 s (rateFail a1 a2 s) := by
  unfold rateFail
  exact Same.step (same_raise ..) rfl (Same.step (same_failSet ..) rfl (Same.refl _ _))

theorem same_presetLoad (a1 : _) (a2 : _) (s : State) : Same 68719476736 s (presetLoad a1 a2 s) := by
  unfold presetLoad
  exact Same.step (same_modLane ..) rfl (Same.refl _ _)

theorem same_setRate (a1 : _) (a2 : _) (s : State) : Same 68719509520 s (setRate a1 a2 s) := by
  unfold setRate
  exact Same.ite (Same.refl _ _) (Same.step (same_raise ..) rfl (Same.step (same_bump ..) rfl (Same.step (same_presetLoad ..) rfl (Same.step (same_modLane ..) rfl (Same.refl _ _)))))

theorem same_laneDownTo (a1 : _) (a2 : _) (s : State) : Same 21956216582406168 s (laneDownTo a1 a2 s) := by
  unfold laneDownTo
  extract_lets +onlyGivenNames x1
  clear_value x1
  refine Same.ite (Same.refl _ _) ?_
  extract_lets +onlyGivenNames x2
  clear_value x2
  extract_lets +onlyGivenNames x3
  clear_value x3
  extract_lets +onlyGivenNames x4
  refine Same.cut (x := x4) ?_ (fun h4 => ?_)
  · unfold x4
    exact Same.step (same_setLaneSt ..) rfl (Same.refl _ _)
  clear_value x4
  extract_lets +onlyGivenNames x5
  refine Same.cut (x := x5) ?_ (fun h5 => ?_)
  · unfold x5
    exact Same.ite (Same.step (same_raise ..) rfl (Same.step (same_bump ..) rfl (by assumption))) (by assumption)
  clear_value x5
  extract_lets +onlyGivenNames x6
  refine Same.cut (x := x6) ?_ (fun h6 => ?_)
  · unfold x6
    exact Same.ite (Same.step (same_rateFail ..) rfl (by assumption)) (by assumption)
  clear_value x6
  extract_lets +onlyGivenNames x7
  refine Same.cut (x := x7) ?_ (fun h7 => ?_)
  · unfold x7
    exact Same.step (same_modLane ..) rfl (by assumption)
  clear_value x7
  extract_lets +onlyGivenNames x8
  refine Same.cut (x := x8) ?_ (fun h8 => ?_)
  · unfold x8
    exact Same.step (same_setRate ..) rfl (Same.step (same_modLane ..) rfl (by assumption))
  clear_value x8
  extract_lets +onlyGivenNames x9
  refine Same.cut (x := x9) ?_ (fun h9 => ?_)
  · unfold x9
    exact Same.ite (Same.step (same_linkDown ..) rfl (by assumption)) (by assumption)
  clear_value x9
  exact Same.ite (Same.step (same_holdAll ..) rfl (Same.step (same_isolSync ..) rfl (by assumption))) (Same.step (same_isolSync ..) rfl (by assumption))

theorem same_laneDown (a1 : _) (s : State) : Same 21956216582406168 s (laneDown a1 s) := by
  unfold laneDown
  exact Same.step (same_laneDownTo ..) rfl (Same.refl _ _)

theorem same_famApply (s : State) : Same 21956216582407192 s (famApply s) := by
  unfold famApply
  extract_lets +onlyGivenNames x1
  refine Same.cut (x := x1) ?_ (fun h1 => ?_)
  · unfold x1
    exact Same.forN (Same.refl _ _) (fun _ _ => Same.step (same_laneDown ..) rfl (Same.refl _ _))
  clear_value x1
  exact Same.step (upd_pwr ..) rfl (by assumption)

theorem same_lnCfgApply (a1 : _) (a2 : _) (a3 : _) (s : State) : Same 21956216582406168 s (lnCfgApply a1 a2 a3 s) := by
  unfold lnCfgApply
  refine Same.ite ?_ (Same.ite (Same.step (same_laneDown ..) rfl (Same.refl _ _)) (Same.step (same_rateCheck ..) rfl (Same.refl _ _)))
  extract_lets +onlyGivenNames x1
  clear_value x1
  exact Same.step (same_setRate ..) rfl (Same.step (same_modLane ..) rfl (Same.step (same_laneDownTo ..) rfl (Same.refl _ _)))

theorem same_mgmtHeld (a1 : _) (s : State) : Same 68719476736 s (mgmtHeld a1 s) := by
  unfold mgmtHeld
  extract_lets +onlyGivenNames x1
  clear_value x1
  refine Same.ite ?_ (Same.refl _ _)
  extract_lets +onlyGivenNames x2
  clear_value x2
  exact Same.step (same_modLk ..) rfl (Same.step (same_modLk ..) rfl (Same.refl _ _))

theorem same_trigDrop (a1 : _) (s : State) : Same 68719476736 s (trigDrop a1 s) := by
  unfold trigDrop
  extract_lets +onlyGivenNames x1
  clear_value x1
  extract_lets +onlyGivenNames x2
  clear_value x2
  extract_lets +onlyGivenNames x3
  refine Same.cut (x := x3) ?_ (fun h3 => ?_)
  · unfold x3
    exact Same.forL (Same.refl _ _) (fun _ _ => Same.step (same_viaFree ..) rfl (Same.refl _ _))
  clear_value x3
  exact Same.step (same_modLk ..) rfl (by assumption)

theorem same_peerPathSet (a1 : _) (a2 : _) (s : State) : Same 1690018091401232 s (peerPathSet a1 a2 s) := by
  unfold peerPathSet
  refine Same.ite (Same.refl _ _) ?_
  extract_lets +onlyGivenNames x1
  refine Same.cut (x := x1) ?_ (fun h1 => ?_)
  · unfold x1
    exact Same.refl _ _
  clear_value x1
  extract_lets +onlyGivenNames x2
  refine Same.cut (x := x2) ?_ (fun h2 => ?_)
  · unfold x2
    exact Same.step (same_raise ..) rfl (Same.step (same_modLk ..) rfl (Same.refl _ _))
  clear_value x2
  extract_lets +onlyGivenNames x3
  clear_value x3
  extract_lets +onlyGivenNames x4
  refine Same.cut (x := x4) ?_ (fun h4 => ?_)
  · unfold x4
    exact Same.step (same_modLk ..) rfl (by assumption)
  clear_value x4
  extract_lets +onlyGivenNames x5
  refine Same.cut (x := x5) ?_ (fun h5 => ?_)
  · unfold x5
    exact Same.forN (by assumption) (fun _ _ => Same.ite (Same.ite (Same.step (same_rdrStart ..) rfl (Same.refl _ _)) (Same.step (same_rdrReturn ..) rfl (Same.refl _ _))) (Same.refl _ _))
  clear_value x5
  extract_lets +onlyGivenNames x6
  refine Same.cut (x := x6) ?_ (fun h6 => ?_)
  · unfold x6
    exact Same.ite (Same.step (same_mgmtHeld ..) rfl (Same.forN (by assumption) (fun _ _ => Same.ite (Same.step (same_rdrStop ..) rfl (Same.refl _ _)) (Same.refl _ _)))) (Same.step (same_laneRelease ..) rfl (Same.step (same_xoverStart ..) rfl (Same.step (same_readersStop ..) rfl (Same.step (same_mgmtMove ..) rfl (Same.step (same_trigDrop ..) rfl (by assumption))))))
  clear_value x6
  exact Same.step (same_rteSync ..) rfl (by assumption)

theorem same_laneLose (a1 : _) (a2 : _) (a3 : _) (s : State) : Same 21956216582406169 s (laneLose a1 a2 a3 s) := by
  unfold laneLose
  refine Same.ite ?_ (Same.refl _ _)
  extract_lets +onlyGivenNames x1
  refine Same.cut (x := x1) ?_ (fun h1 => ?_)
  · unfold x1
    exact Same.step (same_modLane ..) rfl (Same.step (same_advance ..) rfl (Same.refl _ _))
  clear_value x1
  exact Same.ite (Same.step (same_laneDown ..) rfl (by assumption)) (by assumption)

theorem same_execAlignmentLoss (a1 : _) (a2 : _) (s : State) : SameO 21956216582406169 s (execAlignmentLoss a1 a2 s) := by
  unfold execAlignmentLoss
  exact SameO.next (Same.ite (Same.step (same_laneLose ..) rfl (Same.refl _ _)) (Same.refl _ _))

theorem same_execCdrLol (a1 : _) (a2 : _) (s : State) : SameO 21956216582406169 s (execCdrLol a1 a2 s) := by
  unfold execCdrLol
  exact SameO.next (Same.ite (Same.step (same_laneLose ..) rfl (Same.refl _ _)) (Same.refl _ _))

theorem same_execEqAcquisitionDone (a1 : _) (a2 : _) (a3 : _) (a4 : _) (s : State) : SameO 68719476736 s (execEqAcquisitionDone a1 a2 a3 a4 s) := by
  unfold execEqAcquisitionDone
  extract_lets +onlyGivenNames x1
  clear_value x1
  extract_lets +onlyGivenNames x2
  clear_value x2
  refine SameO.next ?_
  refine Same.ite ?_ (Same.refl _ _)
  extract_lets +onlyGivenNames x3
  clear_value x3
  exact Same.step (same_modLane ..) rfl (Same.refl _ _)

theorem same_execFailmaskExpire (a1 : _) (a2 : _) (s : State) : SameO 21956216414568464 s (execFailmaskExpire a1 a2 s) := by
  unfold execFailmaskExpire
  exact SameO.next (Same.ite (Same.step (same_rateCheck ..) rfl (Same.step (same_modLane ..) rfl (Same.refl _ _))) (Same.refl _ _))

theorem same_lnCtrl (a1 : _) (a2 : _) (s : State) : Same 21956216414568464 s (lnCtrl a1 a2 s) := by
  unfold lnCtrl
  extract_lets +onlyGivenNames x1
  refine Same.cut (x := x1) ?_ (fun h1 => ?_)
  · unfold x1
    exact Same.step (same_setRg ..) rfl (Same.refl _ _)
  clear_value x1
  exact Same.ite (Same.step (same_rateCheck ..) rfl (Same.step (same_modLane ..) rfl (by assumption))) (by assumption)

theorem same_prbsWrite (a1 : _) (a2 : _) (s : State) : Same 68719509520 s (prbsWrite a1 a2 s) := by
  unfold prbsWrite
  extract_lets +onlyGivenNames x1
  clear_value x1
  extract_lets +onlyGivenNames x2
  refine Same.cut (x := x2) ?_ (fun h2 => ?_)
  · unfold x2
    exact Same.step (same_setRg ..) rfl (Same.refl _ _)
  clear_value x2
  extract_lets +onlyGivenNames x3
  refine Same.cut (x := x3) ?_ (fun h3 => ?_)
  · unfold x3
    exact Same.ite (Same.step (same_setRg ..) rfl (Same.step (same_modLane ..) rfl (by assumption))) (by assumption)
  clear_value x3
  extract_lets +onlyGivenNames x4
  refine Same.cut (x := x4) ?_ (fun h4 => ?_)
  · unfold x4
    exact Same.ite (by assumption) (Same.step (same_modLane ..) rfl (by assumption))
  clear_value x4
  extract_lets +onlyGivenNames x5
  refine Same.cut (x := x5) ?_ (fun h5 => ?_)
  · unfold x5
    exact Same.ite (Same.step (same_modLane ..) rfl (by assumption)) (by assumption)
  clear_value x5
  refine Same.ite ?_ (by assumption)
  extract_lets +onlyGivenNames x6
  clear_value x6
  extract_lets +onlyGivenNames x7
  refine Same.cut (x := x7) ?_ (fun h7 => ?_)
  · unfold x7
    exact Same.step (same_setRate ..) rfl (by assumption)
  clear_value x7
  exact Same.ite (Same.step (same_modLane ..) rfl (by assumption)) (by assumption)

theorem same_execLaneAlign (a1 : _) (a2 : _) (s : State) : SameO 68719509520 s (execLaneAlign a1 a2 s) := by
  unfold execLaneAlign
  split
  · exact SameO.next (Same.refl _ _)
  · exact SameO.next (Same.ite (Same.step (same_setLaneSt ..) rfl (Same.step (same_modLane ..) rfl (Same.refl _ _))) (Same.refl _ _))

theorem same_execLaneDegrade (a1 : _) (s : State) : SameO 68719509520 s (execLaneDegrade a1 s) := by
  unfold execLaneDegrade
  exact SameO.next (Same.ite (Same.step (same_raise ..) rfl (Same.step (same_bump ..) rfl (Same.step (same_setLaneSt ..) rfl (Same.refl _ _)))) (Same.refl _ _))

theorem same_execLaneDwellExpire (a1 : _) (a2 : _) (s : State) : SameO 21956216582406169 s (execLaneDwellExpire a1 a2 s) := by
  unfold execLaneDwellExpire
  exact SameO.next (Same.ite (Same.step (same_laneDown ..) rfl (Same.step (same_failSet ..) rfl (Same.step (same_advance ..) rfl (Same.refl _ _)))) (Same.refl _ _))

theorem same_execLaneRecover (a1 : _) (s : State) : SameO 77309444112 s (execLaneRecover a1 s) := by
  unfold execLaneRecover
  exact SameO.next (Same.ite (Same.step (same_setLaneSt ..) rfl (Same.step (same_modTlane ..) rfl (Same.refl _ _))) (Same.refl _ _))

theorem same_execLaneSignalPresent (a1 : _) (s : State) : SameO 68719476736 s (execLaneSignalPresent a1 s) := by
  unfold execLaneSignalPresent
  exact SameO.next (Same.ite (Same.step (same_modLane ..) rfl (Same.refl _ _)) (Same.refl _ _))

theorem same_linkUp (a1 : _) (s : State) : Same 1176821071888 s (linkUp a1 s) := by
  unfold linkUp
  extract_lets +onlyGivenNames x1
  refine Same.cut (x := x1) ?_ (fun h1 => ?_)
  · unfold x1
    exact Same.step (same_modLk ..) rfl (Same.refl _ _)
  clear_value x1
  extract_lets +onlyGivenNames x2
  refine Same.cut (x := x2) ?_ (fun h2 => ?_)
  · unfold x2
    exact Same.step (same_modTlane ..) rfl (by assumption)
  clear_value x2
  exact Same.forN (by assumption) (fun _ _ => Same.ite (Same.step (same_rdrReturn ..) rfl (Same.refl _ _)) (Same.refl _ _))

theorem same_execLaneUp (a1 : _) (a2 : _) (s : State) : SameO 21956225004503057 s (execLaneUp a1 a2 s) := by
  unfold execLaneUp
  extract_lets +onlyGivenNames x1
  clear_value x1
  refine SameO.next ?_
  refine Same.ite ?_ (Same.refl _ _)
  extract_lets +onlyGivenNames x2
  refine Same.cut (x := x2) ?_ (fun h2 => ?_)
  · unfold x2
    exact Same.step (same_setLaneSt ..) rfl (Same.step (same_advance ..) rfl (Same.refl _ _))
  clear_value x2
  extract_lets +onlyGivenNames x3
  refine Same.cut (x := x3) ?_ (fun h3 => ?_)
  · unfold x3
    exact Same.step (same_modLane ..) rfl (by assumption)
  clear_value x3
  exact Same.step (same_rateCheck ..) rfl (Same.step (same_capCheck ..) rfl (Same.step (same_linkUp ..) rfl (by assumption)))

theorem same_execLnClrfail (a1 : _) (a2 : _) (s : State) : SameO 21956216414568464 s (execLnClrfail a1 a2 s) := by
  unfold execLnClrfail
  exact SameO.next (Same.ite (same_direct rfl (Same.refl _ _) (fun _ => Same.step (same_lnCtrl ..) rfl (Same.refl _ _))) (Same.refl _ _))

theorem same_execLosIntAssert (a1 : _) (a2 : _) (s : State) : SameO 21956216582406169 s (execLosIntAssert a1 a2 s) := by
  unfold execLosIntAssert
  exact SameO.next (Same.ite (Same.step (same_laneLose ..) rfl (Same.refl _ _)) (Same.refl _ _))

theorem same_execLosPinAssert (a1 : _) (a2 : _) (s : State) : SameO 21956216582406169 s (execLosPinAssert a1 a2 s) := by
  unfold execLosPinAssert
  refine SameO.next ?_
  refine Same.ite ?_ (Same.refl _ _)
  extract_lets +onlyGivenNames x1
  refine Same.cut (x := x1) ?_ (fun h1 => ?_)
  · unfold x1
    exact Same.step (same_modLane ..) rfl (Same.refl _ _)
  clear_value x1
  exact Same.ite (Same.step (same_laneLose ..) rfl (by assumption)) (by assumption)

theorem same_prbsCount (a1 : _) (a2 : _) (a3 : _) (s : State) : Same 68719509520 s (prbsCount a1 a2 a3 s) := by
  unfold prbsCount
  extract_lets +onlyGivenNames x1
  clear_value x1
  extract_lets +onlyGivenNames x2
  refine Same.cut (x := x2) ?_ (fun h2 => ?_)
  · unfold x2
    exact Same.step (same_bump ..) rfl (Same.step (same_modLane ..) rfl (Same.refl _ _))
  clear_value x2
  exact Same.ite (Same.step (same_raise ..) rfl (by assumption)) (by assumption)

theorem same_injectSend (a1 : _) (s : State) : Same 68719509520 s (injectSend a1 s) := by
  unfold injectSend
  extract_lets +onlyGivenNames x1
  clear_value x1
  refine Same.ite ?_ (Same.refl _ _)
  extract_lets +onlyGivenNames x2
  refine Same.cut (x := x2) ?_ (fun h2 => ?_)
  · unfold x2
    exact Same.step (same_modLane ..) rfl (Same.refl _ _)
  clear_value x2
  exact Same.ite (Same.step (same_prbsCount ..) rfl (by assumption)) (by assumption)

theorem same_laneFrame (a1 : _) (a2 : _) (a3 : _) (a4 : _) (s : State) : Same 68719476752 s (laneFrame a1 a2 a3 a4 s) := by
  unfold laneFrame
  extract_lets +onlyGivenNames x1
  refine Same.cut (x := x1) ?_ (fun h1 => ?_)
  · unfold x1
    exact Same.ite (Same.step (same_bump ..) rfl (Same.step (same_modLane ..) rfl (Same.refl _ _))) (Same.refl _ _)
  clear_value x1
  refine Same.ite (by assumption) ?_
  extract_lets +onlyGivenNames x2
  clear_value x2
  extract_lets +onlyGivenNames x3
  clear_value x3
  extract_lets +onlyGivenNames x4
  clear_value x4
  extract_lets +onlyGivenNames x5
  clear_value x5
  exact Same.step (same_modLane ..) rfl (by assumption)

theorem same_laneTrack (a1 : _) (a2 : _) (s : State) : Same 68719476736 s (laneTrack a1 a2 s) := by
  unfold laneTrack
  exact Same.ite (Same.step (same_modLane ..) rfl (Same.refl _ _)) (Same.refl _ _)

theorem same_osTake (a1 : _) (a2 : _) (a3 : _) (a4 : _) (s : State) : Same 21956216414568464 s (osTake a1 a2 a3 a4 s) := by
  unfold osTake
  extract_lets +onlyGivenNames x1
  refine Same.cut (x := x1) ?_ (fun h1 => ?_)
  · unfold x1
    exact Same.step (same_modLane ..) rfl (Same.refl _ _)
  clear_value x1
  extract_lets +onlyGivenNames x2
  clear_value x2
  refine Same.ite ?_ (by assumption)
  extract_lets +onlyGivenNames x3
  refine Same.cut (x := x3) ?_ (fun h3 => ?_)
  · unfold x3
    exact Same.step (same_modLane ..) rfl (by assumption)
  clear_value x3
  exact Same.ite (Same.step (same_modLane ..) rfl (by assumption)) (Same.step (same_rateCheck ..) rfl (by assumption))

theorem same_execOrderedSetReceive (a1 : _) (a2 : _) (a3 : _) (a4 : _) (a5 : _) (s : State) : SameO 21956216414568464 s (execOrderedSetReceive a1 a2 a3 a4 a5 s) := by
  unfold execOrderedSetReceive
  refine SameO.next ?_
  refine Same.ite ?_ (Same.refl _ _)
  split
  · exact Same.step (same_osTake ..) rfl (Same.refl _ _)
  · exact Same.step (same_modLane ..) rfl (Same.refl _ _)

theorem same_execPrbsCheckerLock (a1 : _) (s : State) : SameO 68719476736 s (execPrbsCheckerLock a1 s) := by
  unfold execPrbsCheckerLock
  extract_lets +onlyGivenNames x1
  clear_value x1
  exact SameO.next (Same.ite (Same.step (same_modLane ..) rfl (Same.refl _ _)) (Same.refl _ _))

theorem same_execPrbsCheckerUnlock (a1 : _) (s : State) : SameO 68719509520 s (execPrbsCheckerUnlock a1 s) := by
  unfold execPrbsCheckerUnlock
  extract_lets +onlyGivenNames x1
  clear_value x1
  exact SameO.next (Same.ite (Same.step (same_modLane ..) rfl (Same.step (same_prbsCount ..) rfl (Same.refl _ _))) (Same.refl _ _))

theorem same_execPrbsChkEnable (a1 : _) (a2 : _) (s : State) : SameO 68719509520 s (execPrbsChkEnable a1 a2 s) := by
  unfold execPrbsChkEnable
  exact SameO.next (Same.ite (same_direct rfl (Same.refl _ _) (fun _ => Same.step (same_prbsWrite ..) rfl (Same.refl _ _))) (Same.refl _ _))

theorem same_execPrbsInject (a1 : _) (a2 : _) (s : State) : SameO 68719509520 s (execPrbsInject a1 a2 s) := by
  unfold execPrbsInject
  exact SameO.next (Same.ite (same_direct rfl (Same.refl _ _) (fun _ => Same.step (same_prbsWrite ..) rfl (Same.refl _ _))) (Same.refl _ _))

theorem same_execRateStepSwitch (a1 : _) (s : State) : SameO 68719509520 s (execRateStepSwitch a1 s) := by
  unfold execRateStepSwitch
  extract_lets +onlyGivenNames x1
  clear_value x1
  split
  · exact SameO.next (Same.ite (Same.step (same_setRate ..) rfl (Same.step (same_modLane ..) rfl (Same.refl _ _))) (Same.refl _ _))
  · exact SameO.next (Same.refl _ _)

theorem same_execRateStepTimeout (a1 : _) (a2 : _) (s : State) : SameO 21956216582406169 s (execRateStepTimeout a1 a2 s) := by
  unfold execRateStepTimeout
  split
  · exact SameO.next (Same.ite (Same.step (same_laneDown ..) rfl (Same.step (same_rateFail ..) rfl (Same.step (same_advance ..) rfl (Same.refl _ _)))) (Same.refl _ _))
  · exact SameO.next (Same.refl _ _)

end Sys2Proof.Machine
end

