-- ==== Sys2Proof/Laws/FootLink.lean ====
section
/-! SUPPORT. Footprints of the operations and meanings of Machine/Link.lean: each lemma says once which fields of the
state the function can change. -/

namespace Sys2Proof.Machine

open Sys2Proof

theorem same_imageAcked (a1 : _) (s : State) : Same 216172782113783824 s (imageAcked a1 s) := by
  unfold imageAcked
  exact Same.ite (Same.foldl (Same.refl _ _) (fun _ _ => Same.step (same_finish ..) rfl (Same.refl _ _))) (Same.refl _ _)

theorem same_ackTo (a1 : _) (a2 : _) (s : State) : Same 216736900298342416 s (ackTo a1 a2 s) := by
  unfold ackTo
  extract_lets +onlyGivenNames x1
  clear_value x1
  extract_lets +onlyGivenNames x2
  clear_value x2
  refine Same.ite (Same.refl _ _) ?_
  extract_lets +onlyGivenNames x3
  refine Same.cut (x := x3) ?_ (fun h3 => ?_)
  · unfold x3
    exact Same.step (same_modLk ..) rfl (Same.refl _ _)
  clear_value x3
  extract_lets +onlyGivenNames x4
  refine Same.cut (x := x4) ?_ (fun h4 => ?_)
  · unfold x4
    refine Same.forL (by assumption) (fun _ _ => ?_)
    refine Same.step (same_viaFree ..) rfl ?_
    split
    · exact Same.step (same_modRdr ..) rfl (Same.refl _ _)
    · exact Same.refl _ _
  clear_value x4
  extract_lets +onlyGivenNames x5
  refine Same.cut (x := x5) ?_ (fun h5 => ?_)
  · unfold x5
    exact Same.forL (by assumption) (fun _ _ => Same.ite (Same.refl _ _) (Same.step (same_imageAcked ..) rfl (Same.refl _ _)))
  clear_value x5
  exact Same.forN (by assumption) (fun _ _ => Same.ite (Same.step (same_release ..) rfl (Same.refl _ _)) (Same.refl _ _))

theorem same_backDone (a1 : _) (s : State) : Same 68719476736 s (backDone a1 s) := by
  unfold backDone
  exact Same.ite (Same.step (same_modLk ..) rfl (Same.refl _ _)) (Same.refl _ _)

theorem same_backReader (a1 : _) (a2 : _) (a3 : _) (s : State) : Same 1168231137296 s (backReader a1 a2 a3 s) := by
  unfold backReader
  split
  · exact Same.refl _ _
  · extract_lets +onlyGivenNames x1
    clear_value x1
    extract_lets +onlyGivenNames x2
    refine Same.cut (x := x2) ?_ (fun h2 => ?_)
    · unfold x2
      exact Same.step (same_modLk ..) rfl (Same.refl _ _)
    clear_value x2
    extract_lets +onlyGivenNames x3
    refine Same.cut (x := x3) ?_ (fun h3 => ?_)
    · unfold x3
      exact Same.step (same_rewind ..) rfl (by assumption)
    clear_value x3
    extract_lets +onlyGivenNames x4
    refine Same.cut (x := x4) ?_ (fun h4 => ?_)
    · unfold x4
      exact Same.step (same_modQueue ..) rfl (by assumption)
    clear_value x4
    split
    · exact Same.step (same_modRdr ..) rfl (by assumption)
    · exact (by assumption)

theorem same_ctlSend (a1 : _) (a2 : _) (s : State) : Same 68719476736 s (ctlSend a1 a2 s) := by
  unfold ctlSend
  exact Same.ite (Same.step (same_modLk ..) rfl (Same.refl _ _)) (Same.refl _ _)

theorem same_drr (a1 : _) (a2 : _) (s : State) : Same 68719476736 s (drr a1 a2 s).2 := by
  induction a2 generalizing s with
  | zero => exact Same.refl _ _
  | succ n ih =>
    unfold drr
    extract_lets +onlyGivenNames x1
    clear_value x1
    extract_lets +onlyGivenNames x2
    clear_value x2
    extract_lets +onlyGivenNames x3
    split
    · refine Same.step (ih ..) rfl ?_
      unfold x3
      beta_reduce
      exact Same.step (same_modLk ..) rfl (Same.step (same_modLk ..) rfl (Same.refl _ _))
    · refine Same.iteSnd (Same.pair (Same.refl _ _)) ?_
      refine Same.step (ih ..) rfl ?_
      unfold x3
      beta_reduce
      exact Same.step (same_modLk ..) rfl (Same.refl _ _)

theorem same_statusTake (a1 : _) (a2 : _) (s : State) : Same 1690018091401232 s (statusTake a1 a2 s) := by
  unfold statusTake
  exact Same.step (same_peerPathSet ..) rfl (Same.step (same_modLk ..) rfl (Same.refl _ _))

theorem same_statusRx (a1 : _) (a2 : _) (s : State) : Same 217862800205185040 s (statusRx a1 a2 s) := by
  unfold statusRx
  exact Same.step (same_statusTake ..) rfl (Same.step (same_ackTo ..) rfl (Same.refl _ _))

theorem same_execAckReceive (a1 : _) (a2 : _) (s : State) : SameO 217862800205185040 s (execAckReceive a1 a2 s) := by
  unfold execAckReceive
  exact SameO.next (Same.ite (Same.step (same_statusRx ..) rfl (Same.refl _ _)) (Same.refl _ _))

theorem same_sendAck (a1 : _) (s : State) : Same 68719476736 s (sendAck a1 s) := by
  unfold sendAck
  exact Same.step (same_modLk ..) rfl (Same.step (same_ctlSend ..) rfl (Same.refl _ _))

theorem same_execAckTimer (a1 : _) (s : State) : SameO 68719476736 s (execAckTimer a1 s) := by
  unfold execAckTimer
  exact SameO.next (Same.ite (Same.step (same_sendAck ..) rfl (Same.refl _ _)) (Same.refl _ _))

theorem same_execIdlePacketReceive (a1 : _) (a2 : _) (s : State) : SameO 217862800205185040 s (execIdlePacketReceive a1 a2 s) := by
  unfold execIdlePacketReceive
  exact SameO.next (Same.ite (Same.step (same_statusRx ..) rfl (Same.step (same_modLk ..) rfl (Same.refl _ _))) (Same.refl _ _))

theorem same_execKeepaliveLoss (a1 : _) (a2 : _) (s : State) : SameO 21956216582406169 s (execKeepaliveLoss a1 a2 s) := by
  unfold execKeepaliveLoss
  exact SameO.next (Same.ite (Same.step (same_laneDown ..) rfl (Same.step (same_raise ..) rfl (Same.step (same_advance ..) rfl (Same.refl _ _)))) (Same.refl _ _))

theorem same_unrouted (a1 : _) (s : State) : Same 32784 s (unrouted a1 s) := by
  unfold unrouted
  exact Same.step (same_raise ..) rfl (Same.step (same_bump ..) rfl (Same.refl _ _))

theorem same_lenBad (a1 : _) (s : State) : Same 16 s (lenBad a1 s) := by
  unfold lenBad
  exact Same.step (same_bump ..) rfl (Same.refl _ _)

theorem same_sendNak (a1 : _) (a2 : _) (s : State) : Same 68719476736 s (sendNak a1 a2 s) := by
  unfold sendNak
  extract_lets +onlyGivenNames x1
  clear_value x1
  exact Same.ite (Same.refl _ _) (Same.step (same_modLk ..) rfl (Same.step (same_ctlSend ..) rfl (Same.refl _ _)))

theorem same_seqRx {m : Nat} {s x : State} {n q : Nat} {f : State → State} (hm : 68719476752 ||| m = m) (hx : Same m s x)
    (hf : ∀ y, Same m y (f y)) : Same m s (seqRx n q f x) := by
  have h0 : ∀ g, Same m s (f (modLk n g x)) := fun g => (hf _).trans (Same.step (same_modLk ..) (orUp (k := 68719476736) rfl hm) hx)
  unfold seqRx
  exact Same.ite (Same.ite (Same.step (same_sendAck ..) (orUp (k := 68719476736) rfl hm) (h0 _)) (h0 _))
    (Same.ite (Same.step (same_sendNak ..) (orUp (k := 68719476736) rfl hm) hx) (Same.ite (Same.step (same_sendAck ..) (orUp (k := 68719476736) rfl hm) hx)
      (Same.step (same_bump ..) (orUp (k := 16) rfl hm) hx)))

theorem same_sendIdle (a1 : _) (s : State) : Same 68719476736 s (sendIdle a1 s) := by
  unfold sendIdle
  exact Same.step (same_ctlSend ..) rfl (Same.refl _ _)

theorem same_linkTick (a1 : _) (a2 : _) (s : State) : Same 68719509520 s (linkTick a1 a2 s) := by
  unfold linkTick
  refine Same.ite (Same.refl _ _) ?_
  extract_lets +onlyGivenNames x1
  clear_value x1
  extract_lets +onlyGivenNames x2
  refine Same.cut (x := x2) ?_ (fun h2 => ?_)
  · unfold x2
    exact Same.step (same_modLk ..) rfl (Same.refl _ _)
  clear_value x2
  extract_lets +onlyGivenNames x3
  clear_value x3
  extract_lets +onlyGivenNames x4
  clear_value x4
  extract_lets +onlyGivenNames x5
  refine Same.cut (x := x5) ?_ (fun h5 => ?_)
  · unfold x5
    exact Same.step (same_modLk ..) rfl (by assumption)
  clear_value x5
  extract_lets +onlyGivenNames x6
  refine Same.cut (x := x6) ?_ (fun h6 => ?_)
  · unfold x6
    exact Same.ite (Same.step (same_raise ..) rfl (by assumption)) (by assumption)
  clear_value x6
  extract_lets +onlyGivenNames x7
  refine Same.cut (x := x7) ?_ (fun h7 => ?_)
  · unfold x7
    exact Same.ite (Same.step (same_ctlSend ..) rfl (by assumption)) (by assumption)
  clear_value x7
  exact Same.ite (by assumption) (Same.step (same_sendIdle ..) rfl (by assumption))

theorem same_goBack (a1 : _) (a2 : _) (s : State) : Same 1168231137296 s (goBack a1 a2 s) := by
  unfold goBack
  extract_lets +onlyGivenNames x1
  clear_value x1
  extract_lets +onlyGivenNames x2
  clear_value x2
  extract_lets +onlyGivenNames x3
  clear_value x3
  refine Same.ite (Same.refl _ _) ?_
  extract_lets +onlyGivenNames x4
  extract_lets +onlyGivenNames x5
  clear_value x5
  extract_lets +onlyGivenNames x6
  refine Same.cut (x := x6) ?_ (fun h6 => ?_)
  · unfold x6
    exact Same.step (same_modLk ..) rfl (Same.refl _ _)
  clear_value x6
  extract_lets +onlyGivenNames x7
  refine Same.cut (x := x7) ?_ (fun h7 => ?_)
  · unfold x7
    exact Same.step (same_raise ..) rfl (Same.step (same_bump ..) rfl (by assumption))
  clear_value x7
  exact Same.forN (by assumption) (fun _ _ => Same.step (same_backReader ..) rfl (Same.refl _ _))

theorem same_execNakReceive (a1 : _) (a2 : _) (s : State) : SameO 217862800205185040 s (execNakReceive a1 a2 s) := by
  unfold execNakReceive
  refine SameO.next ?_
  refine Same.ite ?_ (Same.refl _ _)
  extract_lets +onlyGivenNames x1
  refine Same.cut (x := x1) ?_ (fun h1 => ?_)
  · unfold x1
    exact Same.step (same_statusRx ..) rfl (Same.refl _ _)
  clear_value x1
  exact Same.step (same_goBack ..) rfl (by assumption)

theorem same_execNakRepeat (a1 : _) (s : State) : SameO 68719476736 s (execNakRepeat a1 s) := by
  unfold execNakRepeat
  exact SameO.next (Same.ite (Same.step (same_sendNak ..) rfl (Same.refl _ _)) (Same.refl _ _))

theorem same_execPacketCrcDiscard (a1 : _) (a2 : _) (s : State) : SameO 68719476752 s (execPacketCrcDiscard a1 a2 s) := by
  unfold execPacketCrcDiscard
  refine SameO.next ?_
  refine Same.ite ?_ (Same.refl _ _)
  extract_lets +onlyGivenNames x1
  refine Same.cut (x := x1) ?_ (fun h1 => ?_)
  · unfold x1
    exact Same.step (same_bump ..) rfl (Same.refl _ _)
  clear_value x1
  exact Same.ite (Same.step (same_sendNak ..) rfl (by assumption)) (by assumption)

theorem same_wire (a1 : _) (a2 : _) (s : State) : Same 68719476736 s (wire a1 a2 s) := by
  unfold wire
  exact Same.ite (Same.step (same_modLk ..) rfl (Same.refl _ _)) (Same.step (same_modLk ..) rfl (Same.refl _ _))

theorem same_seqTx (a1 : _) (a2 : _) (a3 : _) (a4 : _) (s : State) : Same 68719476736 s (seqTx a1 a2 a3 a4 s) := by
  unfold seqTx
  extract_lets +onlyGivenNames x1
  clear_value x1
  extract_lets +onlyGivenNames x2
  clear_value x2
  extract_lets +onlyGivenNames x3
  clear_value x3
  extract_lets +onlyGivenNames x4
  clear_value x4
  extract_lets +onlyGivenNames x5
  clear_value x5
  extract_lets +onlyGivenNames x6
  clear_value x6
  extract_lets +onlyGivenNames x7
  refine Same.cut (x := x7) ?_ (fun h7 => ?_)
  · unfold x7
    exact Same.step (same_modLk ..) rfl (Same.refl _ _)
  clear_value x7
  exact Same.step (same_wire ..) rfl (by assumption)

theorem same_pTurn (a1 : _) (a2 : _) (a3 : _) (a4 : _) (a5 : _) (s : State) : Same 68719476736 s (pTurn a1 a2 a3 a4 a5 s) := by
  unfold pTurn
  refine Same.ite ?_ (Same.refl _ _)
  extract_lets +onlyGivenNames x1
  clear_value x1
  exact Same.step (same_seqTx ..) rfl (Same.step (same_modLk ..) rfl (Same.refl _ _))

theorem same_qTake (a1 : _) (a2 : _) (s : State) : Same 1099511627776 s (qTake a1 a2 s).2 := by
  unfold qTake
  extract_lets +onlyGivenNames x1
  clear_value x1
  extract_lets +onlyGivenNames x2
  refine Same.iteSnd ?_ ?_
  · extract_lets +onlyGivenNames x3
    clear_value x3
    extract_lets +onlyGivenNames x4
    refine Same.cut (x := x4) ?_ (fun h4 => ?_)
    · unfold x4
      exact Same.step (same_modRdr ..) rfl (Same.step (same_modQueue ..) rfl (Same.refl _ _))
    clear_value x4
    exact Same.pair (by assumption)
  · split
    · extract_lets +onlyGivenNames x5
      refine Same.cut (x := x5) ?_ (fun h5 => ?_)
      · unfold x5
        exact Same.step (same_modQueue ..) rfl (Same.refl _ _)
      clear_value x5
      exact Same.pair (by assumption)
    · split
      · exact Same.pair (Same.refl _ _)
      · extract_lets +onlyGivenNames x6
        clear_value x6
        extract_lets +onlyGivenNames x7
        split
        · refine Same.pair ?_
          unfold x7
          beta_reduce
          exact Same.step (same_modRdr ..) rfl (Same.refl _ _)
        · extract_lets +onlyGivenNames x8
          clear_value x8
          extract_lets +onlyGivenNames x9
          clear_value x9
          refine Same.pair ?_
          refine Same.ite ?_ (Same.step (same_modRdr ..) rfl (Same.refl _ _))
          unfold x7
          beta_reduce
          exact Same.step (same_modRdr ..) rfl (Same.refl _ _)

theorem same_qUe (a1 : _) (a2 : _) (s : State) : Same 1099511660560 s (qUe a1 a2 s) := by
  unfold qUe
  split
  · exact Same.refl _ _
  · split
    · extract_lets +onlyGivenNames x1
      exact Same.step (same_raise ..) rfl (Same.step (same_bump ..) rfl (Same.step (same_modQueue ..) rfl (Same.refl _ _)))
    · exact Same.step (same_recUe ..) rfl (Same.refl _ _)

theorem same_stookTx (a1 : _) (a2 : _) (a3 : _) (a4 : _) (s : State) : Same 564118184558608 s (stookTx a1 a2 a3 a4 s) := by
  unfold stookTx
  extract_lets +onlyGivenNames x1
  clear_value x1
  extract_lets +onlyGivenNames x2
  refine Same.cut (x := x2) ?_ (fun h2 => ?_)
  · unfold x2
    exact Same.step (same_eccList ..) rfl (Same.refl _ _)
  clear_value x2
  extract_lets +onlyGivenNames x3
  refine Same.cut (x := x3) ?_ (fun h3 => ?_)
  · unfold x3
    exact Same.ite (Same.step (same_qUe ..) rfl (by assumption)) (by assumption)
  clear_value x3
  extract_lets +onlyGivenNames x4
  refine Same.cut (x := x4) ?_ (fun h4 => ?_)
  · unfold x4
    exact Same.ite (Same.step (same_nonOwn ..) rfl (by assumption)) (by assumption)
  clear_value x4
  extract_lets +onlyGivenNames x5
  refine Same.cut (x := x5.2) ?_ (fun h5 => ?_)
  · unfold x5
    exact Same.step (same_qTake ..) rfl (by assumption)
  clear_value x5
  split
  · exact (by assumption)
  · extract_lets +onlyGivenNames x6
    clear_value x6
    refine Same.ite (Same.step (same_modLk ..) rfl (by assumption)) ?_
    refine Same.ite (Same.step (same_modLk ..) rfl (by assumption)) ?_
    extract_lets +onlyGivenNames x7
    clear_value x7
    extract_lets +onlyGivenNames x8
    clear_value x8
    extract_lets +onlyGivenNames x9
    clear_value x9
    extract_lets +onlyGivenNames x10
    refine Same.cut (x := x10) ?_ (fun h10 => ?_)
    · unfold x10
      exact Same.step (same_modLk ..) rfl (by assumption)
    clear_value x10
    extract_lets +onlyGivenNames x11
    refine Same.cut (x := x11) ?_ (fun h11 => ?_)
    · unfold x11
      exact Same.ite (Same.step (same_bump ..) rfl (by assumption)) (by assumption)
    clear_value x11
    exact Same.step (same_seqTx ..) rfl (by assumption)

theorem same_stookTurn (a1 : _) (a2 : _) (a3 : _) (s : State) : Same 564118184558608 s (stookTurn a1 a2 a3 s) := by
  unfold stookTurn
  refine Same.ite (Same.step (same_modLk ..) rfl (Same.refl _ _)) ?_
  extract_lets +onlyGivenNames x1
  refine Same.cut (x := x1.2) ?_ (fun h1 => ?_)
  · unfold x1
    exact Same.step (same_drr ..) rfl (Same.refl _ _)
  clear_value x1
  split
  · exact Same.step (same_modLk ..) rfl (Same.refl _ _)
  · extract_lets +onlyGivenNames x2
    clear_value x2
    extract_lets +onlyGivenNames x3
    clear_value x3
    extract_lets +onlyGivenNames x4
    refine Same.cut (x := x4) ?_ (fun h4 => ?_)
    · unfold x4
      exact Same.step (same_stookTx ..) rfl (by assumption)
    clear_value x4
    exact Same.ite (by assumption) (Same.step (same_modLk ..) rfl (by assumption))

theorem same_stookOrder (a1 : _) (a2 : _) (a3 : _) (s : State) : Same 564118184558608 s (stookOrder a1 a2 a3 s) := by
  unfold stookOrder
  refine Same.ite ?_ (Same.refl _ _)
  split
  · exact Same.step (same_stookTx ..) rfl (Same.refl _ _)
  · exact Same.step (same_stookTurn ..) rfl (Same.refl _ _)

theorem same_transmit (a1 : _) (a2 : _) (a3 : _) (s : State) : Same 2815926588178448 s (transmit a1 a2 a3 s) := by
  unfold transmit
  extract_lets +onlyGivenNames x1
  clear_value x1
  extract_lets +onlyGivenNames x2
  clear_value x2
  extract_lets +onlyGivenNames x3
  refine Same.cut (x := x3) ?_ (fun h3 => ?_)
  · unfold x3
    exact Same.step (same_modLk ..) rfl (Same.refl _ _)
  clear_value x3
  split
  · extract_lets +onlyGivenNames x4
    refine Same.cut (x := x4) ?_ (fun h4 => ?_)
    · unfold x4
      exact Same.ite (Same.step (same_osReport ..) rfl (by assumption)) (by assumption)
    clear_value x4
    extract_lets +onlyGivenNames x5
    clear_value x5
    extract_lets +onlyGivenNames x6
    clear_value x6
    extract_lets +onlyGivenNames x7
    clear_value x7
    extract_lets +onlyGivenNames x8
    refine Same.cut (x := x8) ?_ (fun h8 => ?_)
    · unfold x8
      exact Same.ite (Same.step (upd_twn ..) rfl (by assumption)) (by assumption)
    clear_value x8
    exact Same.step (same_wire ..) rfl (Same.step (same_modLk ..) rfl (by assumption))
  · extract_lets +onlyGivenNames x9
    clear_value x9
    extract_lets +onlyGivenNames x10
    clear_value x10
    extract_lets +onlyGivenNames x11
    extract_lets +onlyGivenNames x12
    clear_value x12
    split
    · exact Same.ite (Same.step (same_pTurn ..) rfl (by assumption)) (Same.step (same_stookOrder ..) rfl (Same.step (same_modLk ..) rfl (by assumption)))
    · exact Same.step (same_stookOrder ..) rfl (by assumption)

theorem same_execPacketTransmit (a1 : _) (a2 : _) (a3 : _) (s : State) : SameO 2815926588178449 s (execPacketTransmit a1 a2 a3 s) := by
  unfold execPacketTransmit
  exact SameO.next (Same.ite (Same.step (same_backDone ..) rfl (Same.step (same_transmit ..) rfl (Same.step (same_advance ..) rfl (Same.refl _ _)))) (Same.refl _ _))

theorem same_execRetxTimeout (a1 : _) (a2 : _) (s : State) : SameO 1168231137297 s (execRetxTimeout a1 a2 s) := by
  unfold execRetxTimeout
  split
  · exact SameO.next (Same.refl _ _)
  · exact SameO.next (Same.ite (Same.step (same_goBack ..) rfl (Same.step (same_advance ..) rfl (Same.refl _ _))) (Same.refl _ _))

theorem same_stookTake (a1 : _) (a2 : _) (s : State) : Same 288794494336270352 s (stookTake a1 a2 s) := by
  unfold stookTake
  extract_lets +onlyGivenNames x1
  refine Same.cut (x := x1) ?_ (fun h1 => ?_)
  · unfold x1
    exact Same.step (same_modLk ..) rfl (Same.refl _ _)
  clear_value x1
  split
  · extract_lets +onlyGivenNames x2
    clear_value x2
    exact Same.step (same_bump ..) rfl (Same.step (same_qAdmit ..) rfl (by assumption))
  · exact Same.step (same_unrouted ..) rfl (by assumption)

theorem same_execStookPacketReceive (a1 : _) (a2 : _) (s : State) : SameO 288794494336270352 s (execStookPacketReceive a1 a2 s) := by
  unfold execStookPacketReceive
  exact SameO.next (Same.ite (Same.ite (same_seqRx rfl (Same.refl _ _) (fun _ => Same.step (same_stookTake ..) rfl (Same.refl _ _))) (Same.step (same_lenBad ..) rfl (Same.refl _ _))) (Same.refl _ _))

theorem same_execTrigPacketReceive (a1 : _) (a2 : _) (a3 : _) (a4 : _) (s : State) : SameO 44049184751633 s (execTrigPacketReceive a1 a2 a3 a4 s) := by
  unfold execTrigPacketReceive
  exact SameO.next (Same.ite (same_seqRx rfl (Same.step (same_advance ..) rfl (Same.refl _ _)) (fun _ => Same.step (same_trigTake ..) rfl (Same.refl _ _))) (Same.refl _ _))

end Sys2Proof.Machine
end

