-- ==== Sys2Proof/Laws/FootTwin.lean ====
section
/-! SUPPORT. Footprints of the operations and meanings of Machine/Twin.lean: each lemma says once which fields of the
state the function can change. -/

namespace Sys2Proof.Machine

open Sys2Proof

theorem same_modTwn (a1 : _) (s : State) : Same 2251799813685248 s (modTwn a1 s) := by
  unfold modTwn
  exact Same.step (upd_twn ..) rfl (Same.refl _ _)

theorem same_announce (s : State) : Same 2251799813685248 s (announce s) := by
  unfold announce
  split
  · exact Same.ite (Same.step (same_modTwn ..) rfl (Same.refl _ _)) (Same.refl _ _)
  · exact Same.refl _ _

theorem same_setHub (a1 : _) (s : State) : Same 4096 s (setHub a1 s) := by
  unfold setHub
  exact Same.step (upd_hub ..) rfl (Same.refl _ _)

theorem same_conflict (s : State) : Same 32784 s (conflict s) := by
  unfold conflict
  exact Same.step (same_raise ..) rfl (Same.refl _ _)

theorem same_execConfSoloClear (s : State) : SameO 2251799813685248 s (execConfSoloClear s) := by
  unfold execConfSoloClear
  exact SameO.next (Same.ite (Same.step (same_modTwn ..) rfl (Same.refl _ _)) (Same.refl _ _))

theorem same_leaseQueue (s : State) : Same 2251868533161984 s (leaseQueue s) := by
  unfold leaseQueue
  extract_lets +onlyGivenNames x1
  extract_lets +onlyGivenNames x2
  refine Same.cut (x := x2) ?_ (fun h2 => ?_)
  · unfold x2
    unfold x1
    beta_reduce
    exact Same.forL (Same.refl _ _) (fun _ _ => Same.step (same_modLk ..) rfl (Same.refl _ _))
  clear_value x2
  split
  · exact (by assumption)
  · extract_lets +onlyGivenNames x3
    refine Same.cut (x := x3) ?_ (fun h3 => ?_)
    · unfold x3
      exact Same.ite (Same.step (same_modTwn ..) rfl (by assumption)) (by assumption)
    clear_value x3
    extract_lets +onlyGivenNames x4
    clear_value x4
    extract_lets +onlyGivenNames x5
    refine Same.cut (x := x5) ?_ (fun h5 => ?_)
    · unfold x5
      exact Same.forL (by assumption) (fun _ _ => Same.step (same_ctlSend ..) rfl (Same.refl _ _))
    clear_value x5
    exact Same.ite (Same.step (same_modTwn ..) rfl (by assumption)) (by assumption)

theorem same_leaseRenew (s : State) : Same 2251868533161984 s (leaseRenew s) := by
  unfold leaseRenew
  exact Same.ite (Same.refl _ _) (Same.step (same_leaseQueue ..) rfl (Same.refl _ _))

theorem same_swapAdd (a1 : _) (s : State) : Same 2251868533161984 s (swapAdd a1 s).2 := by
  unfold swapAdd
  extract_lets +onlyGivenNames x1
  clear_value x1
  refine Same.iteSnd (Same.pair (Same.refl _ _)) ?_
  refine Same.iteSnd (Same.pair (Same.refl _ _)) ?_
  refine Same.iteSnd (Same.pair (Same.refl _ _)) ?_
  extract_lets +onlyGivenNames x2
  refine Same.cut (x := x2) ?_ (fun h2 => ?_)
  · unfold x2
    exact Same.step (same_modTwn ..) rfl (Same.refl _ _)
  clear_value x2
  exact Same.pair (Same.ite (Same.step (same_leaseRenew ..) rfl (Same.step (same_announce ..) rfl (by assumption))) (by assumption))

theorem same_swapReqReg (s : State) : Same 2251868533162000 s (swapReqReg s) := by
  unfold swapReqReg
  extract_lets +onlyGivenNames x1
  refine Same.cut (x := x1.2) ?_ (fun h1 => ?_)
  · unfold x1
    exact Same.step (same_swapAdd ..) rfl (Same.refl _ _)
  clear_value x1
  exact Same.ite (by assumption) (Same.step (same_pgError ..) rfl (by assumption))

theorem same_leaseReport (a1 : _) (a2 : _) (s : State) : Same 33587216 s (leaseReport a1 a2 s) := by
  unfold leaseReport
  extract_lets +onlyGivenNames x1
  clear_value x1
  extract_lets +onlyGivenNames x2
  clear_value x2
  extract_lets +onlyGivenNames x3
  clear_value x3
  refine Same.ite ?_ (Same.refl _ _)
  extract_lets +onlyGivenNames x4
  refine Same.cut (x := x4) ?_ (fun h4 => ?_)
  · unfold x4
    exact Same.step (same_excLease ..) rfl (Same.refl _ _)
  clear_value x4
  exact Same.ite (Same.step (same_modExc ..) rfl (by assumption)) (by assumption)

theorem same_holderNote (a1 : _) (s : State) : Same 2251799847272464 s (holderNote a1 s) := by
  unfold holderNote
  extract_lets +onlyGivenNames x1
  extract_lets +onlyGivenNames x2
  refine Same.cut (x := x2) ?_ (fun h2 => ?_)
  · unfold x2
    exact Same.forL (Same.refl _ _) (fun _ _ => Same.step (same_leaseReport ..) rfl (Same.refl _ _))
  clear_value x2
  exact Same.step (same_modTwn ..) rfl (by assumption)

theorem same_partnerNote (a1 : _) (s : State) : Same 2251799813718032 s (partnerNote a1 s) := by
  unfold partnerNote
  extract_lets +onlyGivenNames x1
  refine Same.cut (x := x1) ?_ (fun h1 => ?_)
  · unfold x1
    exact Same.ite (Same.refl _ _) (Same.step (same_raise ..) rfl (Same.refl _ _))
  clear_value x1
  exact Same.step (same_modTwn ..) rfl (by assumption)

theorem same_standbyNote (a1 : _) (s : State) : Same 2251799813685248 s (standbyNote a1 s) := by
  unfold standbyNote
  extract_lets +onlyGivenNames x1
  clear_value x1
  exact Same.step (same_modTwn ..) rfl (Same.refl _ _)

theorem same_leaseTake (a1 : _) (s : State) : Same 2251799847272464 s (leaseTake a1 s) := by
  unfold leaseTake
  refine Same.ite (Same.refl _ _) ?_
  refine Same.ite ?_ ?_
  · extract_lets +onlyGivenNames x1
    refine Same.cut (x := x1) ?_ (fun h1 => ?_)
    · unfold x1
      exact Same.step (same_conflict ..) rfl (Same.step (same_partnerNote ..) rfl (Same.refl _ _))
    clear_value x1
    exact Same.step (same_modTwn ..) rfl (by assumption)
  · refine Same.ite (Same.step (same_conflict ..) rfl (Same.step (same_modTwn ..) rfl (Same.refl _ _))) ?_
    refine Same.ite (Same.refl _ _) ?_
    refine Same.ite (Same.step (same_bump ..) rfl (Same.refl _ _)) ?_
    extract_lets +onlyGivenNames x2
    clear_value x2
    refine Same.ite (Same.refl _ _) ?_
    extract_lets +onlyGivenNames x3
    refine Same.cut (x := x3) ?_ (fun h3 => ?_)
    · unfold x3
      exact Same.step (same_partnerNote ..) rfl (Same.refl _ _)
    clear_value x3
    extract_lets +onlyGivenNames x4
    refine Same.cut (x := x4) ?_ (fun h4 => ?_)
    · unfold x4
      exact Same.step (same_modTwn ..) rfl (by assumption)
    clear_value x4
    exact Same.ite (Same.step (same_holderNote ..) rfl (by assumption)) (Same.ite (Same.step (same_standbyNote ..) rfl (by assumption)) (by assumption))

theorem same_swapCount (s : State) : Same 32784 s (swapCount s) := by
  unfold swapCount
  exact Same.step (same_raise ..) rfl (Same.step (same_bump ..) rfl (Same.refl _ _))

theorem same_swapSkip (a1 : _) (s : State) : Same 218424581927501840 s (swapSkip a1 s) := by
  unfold swapSkip
  extract_lets +onlyGivenNames x1
  refine Same.cut (x := x1) ?_ (fun h1 => ?_)
  · unfold x1
    exact Same.step (same_raise ..) rfl (Same.step (same_bump ..) rfl (Same.refl _ _))
  clear_value x1
  extract_lets +onlyGivenNames x2
  clear_value x2
  extract_lets +onlyGivenNames x3
  refine Same.cut (x := x3) ?_ (fun h3 => ?_)
  · unfold x3
    exact Same.step (same_modTwn ..) rfl (by assumption)
  clear_value x3
  exact Same.ite (Same.step (same_wakeup ..) rfl (by assumption)) (by assumption)

theorem same_swapWithdraw (s : State) : Same 218424581927469072 s (swapWithdraw s) := by
  unfold swapWithdraw
  split
  · exact Same.step (same_modTwn ..) rfl (Same.refl _ _)
  · exact Same.step (same_wakeup ..) rfl (Same.step (same_modTwn ..) rfl (Same.refl _ _))

theorem same_tokenDrop (a1 : _) (s : State) : Same 2251799847309313 s (tokenDrop a1 s) := by
  unfold tokenDrop
  extract_lets +onlyGivenNames x1
  refine Same.cut (x := x1) ?_ (fun h1 => ?_)
  · unfold x1
    exact Same.step (same_loadsAll ..) rfl (Same.step (same_modTwn ..) rfl (Same.refl _ _))
  clear_value x1
  extract_lets +onlyGivenNames x2
  refine Same.cut (x := x2) ?_ (fun h2 => ?_)
  · unfold x2
    exact Same.ite (Same.step (same_setHub ..) rfl (by assumption)) (by assumption)
  clear_value x2
  extract_lets +onlyGivenNames x3
  refine Same.cut (x := x3) ?_ (fun h3 => ?_)
  · unfold x3
    exact Same.step (same_outgoingAll ..) rfl (Same.step (same_advance ..) rfl (by assumption))
  clear_value x3
  exact Same.foldl (by assumption) (fun _ _ => Same.ite (Same.step (same_modExc ..) rfl (Same.refl _ _)) (Same.refl _ _))

theorem same_tokenTake (a1 : _) (s : State) : Same 2251799981559833 s (tokenTake a1 s) := by
  unfold tokenTake
  extract_lets +onlyGivenNames x1
  refine Same.cut (x := x1) ?_ (fun h1 => ?_)
  · unfold x1
    exact Same.step (same_modTwn ..) rfl (Same.refl _ _)
  clear_value x1
  exact Same.step (same_excStartAll ..) rfl (Same.step (same_regulateAll ..) rfl (Same.step (same_loadsAll ..) rfl (Same.step (same_advance ..) rfl (Same.step (same_setHub ..) rfl (by assumption)))))

theorem same_roleSwap (a1 : _) (s : State) : Same 218424650814820377 s (roleSwap a1 s) := by
  unfold roleSwap
  split
  · exact Same.refl _ _
  · refine Same.ite (Same.refl _ _) ?_
    refine Same.ite ?_ (Same.ite (Same.step (same_leaseQueue ..) rfl (Same.step (same_swapCount ..) rfl (Same.step (same_tokenTake ..) rfl (Same.refl _ _)))) (Same.step (same_swapSkip ..) rfl (Same.refl _ _)))
    refine Same.ite ?_ (Same.step (same_swapSkip ..) rfl (Same.refl _ _))
    extract_lets +onlyGivenNames x1
    clear_value x1
    extract_lets +onlyGivenNames x2
    refine Same.cut (x := x2) ?_ (fun h2 => ?_)
    · unfold x2
      exact Same.step (same_tokenDrop ..) rfl (Same.refl _ _)
    clear_value x2
    extract_lets +onlyGivenNames x3
    refine Same.cut (x := x3) ?_ (fun h3 => ?_)
    · unfold x3
      exact Same.step (same_modTwn ..) rfl (by assumption)
    clear_value x3
    extract_lets +onlyGivenNames x4
    refine Same.cut (x := x4) ?_ (fun h4 => ?_)
    · unfold x4
      exact Same.ite (Same.step (same_wakeup ..) rfl (by assumption)) (Same.step (same_swapWithdraw ..) rfl (by assumption))
    clear_value x4
    exact Same.step (same_leaseQueue ..) rfl (Same.step (same_swapCount ..) rfl (by assumption))

theorem same_tokenClaim (a1 : _) (s : State) : Same 2251868701036569 s (tokenClaim a1 s) := by
  unfold tokenClaim
  split
  · exact Same.refl _ _
  · extract_lets +onlyGivenNames x1
    refine Same.cut (x := x1) ?_ (fun h1 => ?_)
    · unfold x1
      exact Same.step (same_raise ..) rfl (Same.step (same_bump ..) rfl (Same.step (same_tokenTake ..) rfl (Same.refl _ _)))
    clear_value x1
    extract_lets +onlyGivenNames x2
    refine Same.cut (x := x2) ?_ (fun h2 => ?_)
    · unfold x2
      exact Same.ite (Same.step (same_raise ..) rfl (Same.step (same_bump ..) rfl (by assumption))) (by assumption)
    clear_value x2
    exact Same.step (same_leaseQueue ..) rfl (by assumption)

theorem same_tokenRelease (a1 : _) (s : State) : Same 218424650680602641 s (tokenRelease a1 s) := by
  unfold tokenRelease
  refine Same.ite ?_ (Same.refl _ _)
  extract_lets +onlyGivenNames x1
  refine Same.cut (x := x1) ?_ (fun h1 => ?_)
  · unfold x1
    exact Same.step (same_modTwn ..) rfl (Same.refl _ _)
  clear_value x1
  exact Same.step (same_leaseQueue ..) rfl (Same.step (same_raise ..) rfl (Same.step (same_bump ..) rfl (Same.step (same_swapWithdraw ..) rfl (Same.step (same_tokenDrop ..) rfl (by assumption)))))

theorem same_twnCount (s : State) : Same 2251799813718032 s (twnCount s) := by
  unfold twnCount
  extract_lets +onlyGivenNames x1
  clear_value x1
  extract_lets +onlyGivenNames x2
  refine Same.cut (x := x2) ?_ (fun h2 => ?_)
  · unfold x2
    exact Same.ite (Same.step (same_bump ..) rfl (Same.refl _ _)) (Same.refl _ _)
  clear_value x2
  extract_lets +onlyGivenNames x3
  refine Same.cut (x := x3) ?_ (fun h3 => ?_)
  · unfold x3
    exact Same.ite (Same.step (same_raise ..) rfl (Same.step (same_modTwn ..) rfl (by assumption))) (by assumption)
  clear_value x3
  exact Same.step (same_modTwn ..) rfl (by assumption)

theorem same_twnTick (a1 : _) (s : State) : Same 218424650814820377 s (twnTick a1 s) := by
  unfold twnTick
  extract_lets +onlyGivenNames x1
  refine Same.cut (x := x1) ?_ (fun h1 => ?_)
  · unfold x1
    exact Same.step (same_tokenClaim ..) rfl (Same.step (same_tokenRelease ..) rfl (Same.step (same_roleSwap ..) rfl (Same.step (same_twnCount ..) rfl (Same.refl _ _))))
  clear_value x1
  extract_lets +onlyGivenNames x2
  refine Same.cut (x := x2) ?_ (fun h2 => ?_)
  · unfold x2
    exact Same.ite (Same.step (same_announce ..) rfl (by assumption)) (by assumption)
  clear_value x2
  extract_lets +onlyGivenNames x3
  clear_value x3
  exact Same.step (same_leaseQueue ..) rfl (Same.step (same_modTwn ..) rfl (by assumption))

theorem same_execSwapAnnounce (s : State) : SameO 2251868533161984 s (execSwapAnnounce s) := by
  unfold execSwapAnnounce
  exact SameO.next (Same.ite (Same.step (same_leaseRenew ..) rfl (Same.step (same_announce ..) rfl (Same.refl _ _))) (Same.refl _ _))

theorem same_execTwnSwapReq (a1 : _) (s : State) : SameO 2251868533162000 s (execTwnSwapReq a1 s) := by
  unfold execTwnSwapReq
  exact SameO.next (same_direct rfl (Same.refl _ _) (fun _ => Same.step (same_swapReqReg ..) rfl (Same.refl _ _)))

end Sys2Proof.Machine
end

