-- ==== Sys2Proof/Laws/FootBeacon.lean ====
section
/-! SUPPORT. Footprints of the operations and meanings of Machine/Beacon.lean: each lemma says once which fields of the
state the function can change. -/

namespace Sys2Proof.Machine

open Sys2Proof

theorem same_modBcn (a1 : _) (s : State) : Same 4503599627370496 s (modBcn a1 s) := by
  unfold modBcn
  exact Same.step (upd_bcn ..) rfl (Same.refl _ _)

theorem same_testEnd (s : State) : Same 220676381741187088 s (testEnd s) := by
  unfold testEnd
  exact Same.step (same_wakeup ..) rfl (Same.step (same_raise ..) rfl (Same.step (same_modBcn ..) rfl (Same.refl _ _)))

theorem same_testCheck (s : State) : Same 220676381741187088 s (testCheck s) := by
  unfold testCheck
  split
  · exact Same.ite (Same.step (same_testEnd ..) rfl (Same.refl _ _)) (Same.refl _ _)
  · exact Same.refl _ _

theorem same_modBstr (a1 : _) (a2 : _) (s : State) : Same 4503599627370496 s (modBstr a1 a2 s) := by
  unfold modBstr
  exact Same.step (same_modBcn ..) rfl (Same.refl _ _)

theorem same_pulseAsk (a1 : _) (a2 : _) (s : State) : Same 4503599627370496 s (pulseAsk a1 a2 s) := by
  unfold pulseAsk
  exact Same.step (same_modBstr ..) rfl (Same.refl _ _)

theorem same_testStart (a1 : _) (a2 : _) (s : State) : Same 4503599627370496 s (testStart a1 a2 s).2 := by
  unfold testStart
  refine Same.iteSnd (Same.pair (Same.refl _ _)) ?_
  refine Same.iteSnd (Same.pair (Same.refl _ _)) ?_
  extract_lets +onlyGivenNames x1
  refine Same.cut (x := x1) ?_ (fun h1 => ?_)
  · unfold x1
    exact Same.step (same_modBcn ..) rfl (Same.refl _ _)
  clear_value x1
  exact Same.pair (Same.ite (by assumption) (Same.forN (by assumption) (fun _ _ => Same.ite (Same.step (same_pulseAsk ..) rfl (Same.refl _ _)) (Same.refl _ _))))

theorem same_strDark (a1 : _) (s : State) : Same 4503599627370512 s (strDark a1 s) := by
  unfold strDark
  split
  · extract_lets +onlyGivenNames x1
    refine Same.cut (x := x1) ?_ (fun h1 => ?_)
    · unfold x1
      exact Same.step (same_modBstr ..) rfl (Same.refl _ _)
    clear_value x1
    exact Same.ite (Same.step (same_bump ..) rfl (by assumption)) (by assumption)
  · exact Same.refl _ _

theorem same_bcnRole (s : State) : Same 4503599627370512 s (bcnRole s) := by
  unfold bcnRole
  extract_lets +onlyGivenNames x1
  refine Same.cut (x := x1) ?_ (fun h1 => ?_)
  · unfold x1
    exact Same.forN (Same.refl _ _) (fun _ _ => Same.ite (Same.refl _ _) (Same.step (same_strDark ..) rfl (Same.refl _ _)))
  clear_value x1
  exact Same.ite (by assumption) (Same.step (same_modBcn ..) rfl (by assumption))

theorem same_schArm (a1 : _) (s : State) : Same 4503599627370496 s (schArm a1 s).2 := by
  unfold schArm
  exact Same.iteSnd (Same.pair (Same.step (same_modBstr ..) rfl (Same.refl _ _))) (Same.pair (Same.step (same_modBstr ..) rfl (Same.refl _ _)))

theorem same_bcnSleep (s : State) : Same 4503599627370512 s (bcnSleep s) := by
  unfold bcnSleep
  exact Same.step (same_modBcn ..) rfl (Same.forN (Same.refl _ _) (fun _ _ => Same.step (same_strDark ..) rfl (Same.refl _ _)))

theorem same_boostTick (s : State) : Same 4503599627370496 s (boostTick s) := by
  unfold boostTick
  refine Same.ite ?_ (Same.step (same_modBcn ..) rfl (Same.refl _ _))
  split
  · exact Same.step (same_modBcn ..) rfl (Same.refl _ _)
  · extract_lets +onlyGivenNames x1
    clear_value x1
    extract_lets +onlyGivenNames x2
    clear_value x2
    extract_lets +onlyGivenNames x3
    clear_value x3
    extract_lets +onlyGivenNames x4
    clear_value x4
    extract_lets +onlyGivenNames x5
    clear_value x5
    exact Same.step (same_modBcn ..) rfl (Same.refl _ _)

theorem same_chainTick (s : State) : Same 4503599627370512 s (chainTick s) := by
  unfold chainTick
  refine Same.ite ?_ (Same.refl _ _)
  extract_lets +onlyGivenNames x1
  clear_value x1
  extract_lets +onlyGivenNames x2
  refine Same.cut (x := x2) ?_ (fun h2 => ?_)
  · unfold x2
    exact Same.ite (Same.step (same_bump ..) rfl (Same.refl _ _)) (Same.step (same_modBcn ..) rfl (Same.refl _ _))
  clear_value x2
  exact Same.ite (by assumption) (Same.step (same_modBcn ..) rfl (by assumption))

theorem same_diagTick (s : State) : Same 4503599627370496 s (diagTick s) := by
  unfold diagTick
  extract_lets +onlyGivenNames x1
  clear_value x1
  refine Same.ite ?_ (Same.refl _ _)
  refine Same.forN (Same.refl _ _) (fun _ _ => ?_)
  extract_lets +onlyGivenNames x2
  clear_value x2
  extract_lets +onlyGivenNames x3
  refine Same.cut (x := x3) ?_ (fun h3 => ?_)
  · unfold x3
    exact Same.ite (Same.step (same_modBstr ..) rfl (Same.refl _ _)) (Same.refl _ _)
  clear_value x3
  exact Same.step (same_modBstr ..) rfl (by assumption)

theorem same_trimTick (a1 : _) (s : State) : Same 4503599627403288 s (trimTick a1 s) := by
  unfold trimTick
  extract_lets +onlyGivenNames x1
  clear_value x1
  refine Same.ite (Same.step (same_modBstr ..) rfl (Same.refl _ _)) ?_
  extract_lets +onlyGivenNames x2
  clear_value x2
  extract_lets +onlyGivenNames x3
  clear_value x3
  extract_lets +onlyGivenNames x4
  split
  · refine Same.ite ?_ ?_
    · unfold x4
      beta_reduce
      extract_lets +onlyGivenNames x5
      clear_value x5
      extract_lets +onlyGivenNames x6
      refine Same.cut (x := x6) ?_ (fun h6 => ?_)
      · unfold x6
        exact Same.step (same_modBstr ..) rfl (Same.refl _ _)
      clear_value x6
      exact Same.ite (Same.step (same_raise ..) rfl (by assumption)) (by assumption)
    · extract_lets +onlyGivenNames x7
      clear_value x7
      extract_lets +onlyGivenNames x8
      clear_value x8
      extract_lets +onlyGivenNames x9
      refine Same.cut (x := x9.2) ?_ (fun h9 => ?_)
      · unfold x9
        exact Same.step (same_fresh ..) rfl (Same.refl _ _)
      clear_value x9
      extract_lets +onlyGivenNames x10
      refine Same.cut (x := x10) ?_ (fun h10 => ?_)
      · unfold x10
        exact Same.ite (by assumption) (Same.refl _ _)
      clear_value x10
      extract_lets +onlyGivenNames x11
      clear_value x11
      unfold x4
      beta_reduce
      extract_lets +onlyGivenNames x12
      clear_value x12
      extract_lets +onlyGivenNames x13
      refine Same.cut (x := x13) ?_ (fun h13 => ?_)
      · unfold x13
        exact Same.step (same_modBstr ..) rfl (Same.step (same_modBstr ..) rfl (by assumption))
      clear_value x13
      exact Same.ite (Same.step (same_raise ..) rfl (by assumption)) (by assumption)
  · unfold x4
    beta_reduce
    extract_lets +onlyGivenNames x14
    clear_value x14
    extract_lets +onlyGivenNames x15
    refine Same.cut (x := x15) ?_ (fun h15 => ?_)
    · unfold x15
      exact Same.step (same_modBstr ..) rfl (Same.refl _ _)
    clear_value x15
    exact Same.ite (Same.step (same_raise ..) rfl (by assumption)) (by assumption)

theorem same_bcnTick (s : State) : Same 4503599627403288 s (bcnTick s) := by
  unfold bcnTick
  exact Same.ite (Same.step (same_chainTick ..) rfl (Same.step (same_diagTick ..) rfl (Same.forN (Same.step (same_boostTick ..) rfl (Same.refl _ _)) (fun _ _ => Same.step (same_trimTick ..) rfl (Same.refl _ _))))) (Same.refl _ _)

theorem same_boostStart (s : State) : Same 4503599627370496 s (boostStart s) := by
  unfold boostStart
  exact Same.step (same_modBcn ..) rfl (Same.refl _ _)

theorem same_diagSet (a1 : _) (a2 : _) (s : State) : Same 4503599627403280 s (diagSet a1 a2 s) := by
  unfold diagSet
  extract_lets +onlyGivenNames x1
  clear_value x1
  extract_lets +onlyGivenNames x2
  refine Same.cut (x := x2) ?_ (fun h2 => ?_)
  · unfold x2
    exact Same.step (same_modBstr ..) rfl (Same.refl _ _)
  clear_value x2
  exact Same.ite (Same.step (same_raise ..) rfl (by assumption)) (by assumption)

theorem same_bstrApply (a1 : _) (s : State) : Same 4503599627403280 s (bstrApply a1 s) := by
  unfold bstrApply
  exact Same.step (same_diagSet ..) rfl (Same.step (same_modBstr ..) rfl (Same.refl _ _))

theorem same_chainApply (s : State) : Same 4503599627370496 s (chainApply s) := by
  unfold chainApply
  exact Same.step (same_modBcn ..) rfl (Same.refl _ _)

theorem same_taddrNext (s : State) : Same 16 s (taddrNext s) := by
  unfold taddrNext
  exact Same.ite (Same.step (same_setRg ..) rfl (Same.refl _ _)) (Same.refl _ _)

theorem same_tdataRead (s : State) : Same 16 s (tdataRead s).2 := by
  unfold tdataRead
  exact Same.pair (Same.step (same_taddrNext ..) rfl (Same.refl _ _))

theorem same_diagCmd (a1 : _) (s : State) : Same 220676381741187088 s (diagCmd a1 s) := by
  unfold diagCmd
  refine Same.ite ?_ (Same.refl _ _)
  extract_lets +onlyGivenNames x1
  refine Same.cut (x := x1.2) ?_ (fun h1 => ?_)
  · unfold x1
    exact Same.step (same_testStart ..) rfl (Same.refl _ _)
  clear_value x1
  exact Same.ite (Same.ite (Same.step (same_testCheck ..) rfl (by assumption)) (by assumption)) (Same.step (same_pgError ..) rfl (by assumption))

theorem same_diagNote (a1 : _) (s : State) : Same 4503599627370496 s (diagNote a1 s) := by
  unfold diagNote
  exact Same.step (same_modBstr ..) rfl (Same.refl _ _)

theorem same_execBchShiftDone (a1 : _) (s : State) : SameO 4503599627403280 s (execBchShiftDone a1 s) := by
  unfold execBchShiftDone
  split
  · exact SameO.next (Same.refl _ _)
  · refine SameO.next ?_
    refine Same.ite ?_ (Same.refl _ _)
    extract_lets +onlyGivenNames x1
    clear_value x1
    extract_lets +onlyGivenNames x2
    refine Same.cut (x := x2) ?_ (fun h2 => ?_)
    · unfold x2
      exact Same.step (same_modBcn ..) rfl (Same.refl _ _)
    clear_value x2
    split
    · exact (by assumption)
    · split
      · exact Same.step (same_modBcn ..) rfl (by assumption)
      · extract_lets +onlyGivenNames x3
        clear_value x3
        exact Same.step (same_raise ..) rfl (Same.step (same_bump ..) rfl (Same.step (same_modBcn ..) rfl (by assumption)))

theorem same_execBchShiftStart (a1 : _) (s : State) : SameO 4503599627370497 s (execBchShiftStart a1 s) := by
  unfold execBchShiftStart
  refine SameO.next ?_
  refine Same.ite ?_ (Same.refl _ _)
  extract_lets +onlyGivenNames x1
  clear_value x1
  exact Same.step (same_modBcn ..) rfl (Same.step (same_advance ..) rfl (Same.refl _ _))

theorem same_execBcnAdjTestDone (a1 : _) (s : State) : SameO 220676381741187088 s (execBcnAdjTestDone a1 s) := by
  unfold execBcnAdjTestDone
  split
  · exact SameO.next (Same.ite (Same.step (same_testEnd ..) rfl (Same.forN (Same.refl _ _) (fun _ _ => Same.ite (Same.step (same_diagSet ..) rfl (Same.refl _ _)) (Same.refl _ _)))) (Same.refl _ _))
  · exact SameO.next (Same.refl _ _)

theorem same_execBcnDiagCmdGo (a1 : _) (a2 : _) (s : State) : SameO 220676381741187088 s (execBcnDiagCmdGo a1 a2 s) := by
  unfold execBcnDiagCmdGo
  exact SameO.next (same_direct rfl (Same.refl _ _) (fun _ => Same.step (same_diagCmd ..) rfl (Same.refl _ _)))

theorem same_pulseMove (a1 : _) (a2 : _) (a3 : _) (s : State) : Same 4503599627370496 s (pulseMove a1 a2 a3 s) := by
  unfold pulseMove
  extract_lets +onlyGivenNames x1
  refine Same.cut (x := x1) ?_ (fun h1 => ?_)
  · unfold x1
    exact Same.step (same_modBstr ..) rfl (Same.refl _ _)
  clear_value x1
  exact Same.ite (Same.step (same_modBcn ..) rfl (by assumption)) (by assumption)

theorem same_slotPulse (a1 : _) (a2 : _) (s : State) : Same 220676381741187088 s (slotPulse a1 a2 s) := by
  unfold slotPulse
  split
  · exact Same.refl _ _
  · refine Same.ite (Same.refl _ _) ?_
    refine Same.ite (Same.step (same_testCheck ..) rfl (Same.step (same_pulseMove ..) rfl (Same.refl _ _))) ?_
    split
    · exact Same.step (same_testCheck ..) rfl (Same.step (same_modBstr ..) rfl (Same.refl _ _))
    · exact Same.step (same_testCheck ..) rfl (Same.step (same_pulseMove ..) rfl (Same.refl _ _))
    · extract_lets +onlyGivenNames x1
      clear_value x1
      exact Same.step (same_bump ..) rfl (Same.step (same_modBstr ..) rfl (Same.refl _ _))

theorem same_execBcnDiagPulse (a1 : _) (a2 : _) (s : State) : SameO 220676381741187089 s (execBcnDiagPulse a1 a2 s) := by
  unfold execBcnDiagPulse
  exact SameO.ite (SameO.next (Same.step (same_slotPulse ..) rfl (Same.step (same_advance ..) rfl (Same.refl _ _)))) (SameO.next (Same.refl _ _))

theorem same_execBcnFlashOff (a1 : _) (a2 : _) (s : State) : SameO 220676381741187089 s (execBcnFlashOff a1 a2 s) := by
  unfold execBcnFlashOff
  split
  · exact SameO.ite (SameO.next (Same.step (same_testCheck ..) rfl (Same.step (same_modBstr ..) rfl (Same.step (same_advance ..) rfl (Same.refl _ _))))) (SameO.next (Same.refl _ _))
  · exact SameO.next (Same.refl _ _)

theorem same_schDisarm (a1 : _) (s : State) : Same 4503599627370496 s (schDisarm a1 s) := by
  unfold schDisarm
  exact Same.step (same_modBstr ..) rfl (Same.refl _ _)

theorem same_flashUsed (a1 : _) (s : State) : Same 4503599627370512 s (flashUsed a1 s) := by
  unfold flashUsed
  extract_lets +onlyGivenNames x1
  clear_value x1
  extract_lets +onlyGivenNames x2
  clear_value x2
  extract_lets +onlyGivenNames x3
  refine Same.cut (x := x3) ?_ (fun h3 => ?_)
  · unfold x3
    exact Same.step (same_modBstr ..) rfl (Same.refl _ _)
  clear_value x3
  extract_lets +onlyGivenNames x4
  refine Same.cut (x := x4) ?_ (fun h4 => ?_)
  · unfold x4
    exact Same.ite (by assumption) (Same.step (same_setRg ..) rfl (by assumption))
  clear_value x4
  exact Same.ite (Same.step (same_schDisarm ..) rfl (by assumption)) (by assumption)

theorem same_flashFire (a1 : _) (a2 : _) (s : State) : Same 4503599627370512 s (flashFire a1 a2 s) := by
  unfold flashFire
  extract_lets +onlyGivenNames x1
  clear_value x1
  extract_lets +onlyGivenNames x2
  clear_value x2
  extract_lets +onlyGivenNames x3
  refine Same.cut (x := x3) ?_ (fun h3 => ?_)
  · unfold x3
    exact Same.ite (Same.step (same_bump ..) rfl (Same.step (same_modBstr ..) rfl (Same.refl _ _))) (Same.step (same_bump ..) rfl (Same.refl _ _))
  clear_value x3
  exact Same.step (same_flashUsed ..) rfl (by assumption)

theorem same_flashLate (a1 : _) (s : State) : Same 4503599627403280 s (flashLate a1 s) := by
  unfold flashLate
  exact Same.step (same_raise ..) rfl (Same.step (same_bump ..) rfl (Same.step (same_modBstr ..) rfl (Same.refl _ _)))

theorem same_execBcnFlashOn (a1 : _) (a2 : _) (s : State) : SameO 4503599627403281 s (execBcnFlashOn a1 a2 s) := by
  unfold execBcnFlashOn
  refine SameO.ite ?_ (SameO.next (Same.refl _ _))
  extract_lets +onlyGivenNames x1
  refine SameO.cut (x := x1) ?_ (fun h1 => ?_)
  · unfold x1
    exact Same.step (same_advance ..) rfl (Same.refl _ _)
  clear_value x1
  exact SameO.next (Same.step (same_flashFire ..) rfl (Same.ite (Same.step (same_flashLate ..) rfl (by assumption)) (by assumption)))

theorem same_finding (a1 : _) (a2 : _) (a3 : _) (s : State) : Same 4503599627403280 s (finding a1 a2 a3 s) := by
  unfold finding
  extract_lets +onlyGivenNames x1
  clear_value x1
  refine Same.ite ?_ (Same.step (same_pulseAsk ..) rfl (Same.step (same_modBstr ..) rfl (Same.refl _ _)))
  extract_lets +onlyGivenNames x2
  refine Same.cut (x := x2) ?_ (fun h2 => ?_)
  · unfold x2
    exact Same.step (same_modBstr ..) rfl (Same.refl _ _)
  clear_value x2
  exact Same.ite (by assumption) (Same.step (same_raise ..) rfl (Same.step (same_bump ..) rfl (Same.step (same_diagSet ..) rfl (by assumption))))

theorem same_measure (a1 : _) (a2 : _) (a3 : _) (a4 : _) (a5 : _) (s : State) : Same 4503599627403280 s (measure a1 a2 a3 a4 a5 s) := by
  unfold measure
  extract_lets +onlyGivenNames x1
  clear_value x1
  refine Same.ite (Same.step (same_finding ..) rfl (Same.step (same_diagNote ..) rfl (Same.refl _ _))) ?_
  refine Same.ite ?_ (Same.refl _ _)
  extract_lets +onlyGivenNames x2
  clear_value x2
  extract_lets +onlyGivenNames x3
  refine Same.cut (x := x3) ?_ (fun h3 => ?_)
  · unfold x3
    exact Same.step (same_diagNote ..) rfl (Same.step (same_modBstr ..) rfl (Same.refl _ _))
  clear_value x3
  refine Same.ite ?_ (Same.step (same_diagSet ..) rfl (Same.step (same_modBstr ..) rfl (by assumption)))
  extract_lets +onlyGivenNames x4
  refine Same.cut (x := x4) ?_ (fun h4 => ?_)
  · unfold x4
    exact Same.step (same_finding ..) rfl (by assumption)
  clear_value x4
  exact Same.ite (Same.step (same_modBstr ..) rfl (by assumption)) (by assumption)

theorem same_execBcnMeasure (a1 : _) (a2 : _) (a3 : _) (a4 : _) (a5 : _) (s : State) : SameO 220676381741187089 s (execBcnMeasure a1 a2 a3 a4 a5 s) := by
  unfold execBcnMeasure
  split
  · exact SameO.ite (SameO.next (Same.step (same_testCheck ..) rfl (Same.step (same_measure ..) rfl (Same.step (same_modBstr ..) rfl (Same.step (same_advance ..) rfl (Same.refl _ _)))))) (SameO.next (Same.refl _ _))
  · exact SameO.next (Same.refl _ _)

theorem same_execBcnOvpRelease (s : State) : SameO 4503599627370496 s (execBcnOvpRelease s) := by
  unfold execBcnOvpRelease
  exact SameO.next (Same.ite (Same.step (same_modBcn ..) rfl (Same.refl _ _)) (Same.refl _ _))

theorem same_execBcnOvpTrip (s : State) : SameO 4503599627403280 s (execBcnOvpTrip s) := by
  unfold execBcnOvpTrip
  exact SameO.next (Same.ite (Same.step (same_raise ..) rfl (Same.step (same_bump ..) rfl (Same.step (same_modBcn ..) rfl (Same.refl _ _)))) (Same.refl _ _))

theorem same_schCtl (a1 : _) (a2 : _) (s : State) : Same 4503599627370512 s (schCtl a1 a2 s) := by
  unfold schCtl
  extract_lets +onlyGivenNames x1
  refine Same.cut (x := x1) ?_ (fun h1 => ?_)
  · unfold x1
    exact Same.ite (Same.step (same_schDisarm ..) rfl (Same.refl _ _)) (Same.refl _ _)
  clear_value x1
  refine Same.ite ?_ (by assumption)
  extract_lets +onlyGivenNames x2
  refine Same.cut (x := x2.2) ?_ (fun h2 => ?_)
  · unfold x2
    exact Same.step (same_schArm ..) rfl (by assumption)
  clear_value x2
  exact Same.ite (by assumption) (Same.step (same_pgError ..) rfl (by assumption))

theorem same_execBcnSchArm (a1 : _) (a2 : _) (s : State) : SameO 4503599627370512 s (execBcnSchArm a1 a2 s) := by
  unfold execBcnSchArm
  exact SameO.next (Same.ite (same_direct rfl (Same.refl _ _) (fun _ => Same.step (same_schCtl ..) rfl (Same.refl _ _))) (Same.refl _ _))

theorem same_execBcnSchDisarm (a1 : _) (a2 : _) (s : State) : SameO 4503599627370512 s (execBcnSchDisarm a1 a2 s) := by
  unfold execBcnSchDisarm
  exact SameO.next (Same.ite (same_direct rfl (Same.refl _ _) (fun _ => Same.step (same_schCtl ..) rfl (Same.refl _ _))) (Same.refl _ _))

theorem same_execBcnUntestedTimeout (a1 : _) (s : State) : SameO 4503599627403280 s (execBcnUntestedTimeout a1 s) := by
  unfold execBcnUntestedTimeout
  exact SameO.next (Same.ite (Same.step (same_diagSet ..) rfl (Same.refl _ _)) (Same.refl _ _))

theorem same_tdataWrite (a1 : _) (s : State) : Same 4503599627370512 s (tdataWrite a1 s) := by
  unfold tdataWrite
  exact Same.ite (Same.step (same_pgError ..) rfl (Same.refl _ _)) (Same.step (same_taddrNext ..) rfl (Same.step (same_modBcn ..) rfl (Same.refl _ _)))

theorem same_flashStep (s : State) : Same 4503599627403280 s (flashStep s) := by
  unfold flashStep
  refine Same.forN (Same.refl _ _) (fun _ _ => ?_)
  refine Same.ite ?_ (Same.refl _ _)
  extract_lets +onlyGivenNames x1
  clear_value x1
  extract_lets +onlyGivenNames x2
  clear_value x2
  extract_lets +onlyGivenNames x3
  clear_value x3
  extract_lets +onlyGivenNames x4
  clear_value x4
  extract_lets +onlyGivenNames x5
  refine Same.cut (x := x5) ?_ (fun h5 => ?_)
  · unfold x5
    exact Same.step (same_modBstr ..) rfl (Same.refl _ _)
  clear_value x5
  extract_lets +onlyGivenNames x6
  refine Same.cut (x := x6) ?_ (fun h6 => ?_)
  · unfold x6
    exact Same.ite (by assumption) (Same.step (same_setRg ..) rfl (by assumption))
  clear_value x6
  exact Same.step (same_flashLate ..) rfl (Same.step (same_flashFire ..) rfl (by assumption))

theorem same_execRoleSwap (a1 : _) (s : State) : SameO 222928250442190873 s (execRoleSwap a1 s) := by
  unfold execRoleSwap
  exact SameO.next (Same.step (same_bcnRole ..) rfl (Same.step (same_roleSwap ..) rfl (Same.refl _ _)))

theorem same_execTokenClaim (a1 : _) (s : State) : SameO 6755468328407065 s (execTokenClaim a1 s) := by
  unfold execTokenClaim
  exact SameO.next (Same.step (same_bcnRole ..) rfl (Same.step (same_tokenClaim ..) rfl (Same.refl _ _)))

theorem same_execTokenRelease (a1 : _) (s : State) : SameO 222928250307973137 s (execTokenRelease a1 s) := by
  unfold execTokenRelease
  exact SameO.next (Same.step (same_bcnRole ..) rfl (Same.step (same_tokenRelease ..) rfl (Same.refl _ _)))

end Sys2Proof.Machine
end

