-- ==== Sys2Proof/Laws/FootLinear.lean ====
section
/-! SUPPORT. Footprints of the operations and meanings of Machine/Linear.lean: each lemma says once which fields of the
state the function can change. -/

namespace Sys2Proof.Machine

open Sys2Proof

theorem same_cjUse (a1 : _) (a2 : _) (s : State) : Same 163856 s (cjUse a1 a2 s).2.2 := by
  unfold cjUse
  extract_lets +onlyGivenNames x1
  clear_value x1
  split
  · exact Same.pair2 (Same.pair (Same.ite (Same.step (same_modTap ..) rfl (Same.refl _ _)) (Same.refl _ _)))
  · extract_lets +onlyGivenNames x2
    clear_value x2
    extract_lets +onlyGivenNames x3
    refine Same.cut (x := x3) ?_ (fun h3 => ?_)
    · unfold x3
      exact Same.step (same_bump ..) rfl (Same.step (same_modTap ..) rfl (Same.refl _ _))
    clear_value x3
    exact Same.pair2 (Same.pair (Same.ite (Same.step (same_raise ..) rfl (by assumption)) (by assumption)))

theorem same_linearise (a1 : _) (a2 : _) (a3 : _) (a4 : _) (s : State) : Same 163864 s (linearise a1 a2 a3 a4 s).2.2 := by
  unfold linearise
  extract_lets +onlyGivenNames x1
  clear_value x1
  refine Same.iteSnd2 (Same.pair2 (Same.pair (Same.step (same_bump ..) rfl (Same.step (same_raise ..) rfl (Same.step (same_pgError ..) rfl (Same.refl _ _)))))) ?_
  refine Same.iteSnd2 (Same.pair2 (Same.pair (Same.refl _ _))) ?_
  extract_lets +onlyGivenNames x2
  refine Same.cut (x := x2.2.2) ?_ (fun h2 => ?_)
  · unfold x2
    exact Same.iteSnd2 (Same.step (same_cjUse ..) rfl (Same.refl _ _)) (Same.pair2 (Same.pair (Same.refl _ _)))
  clear_value x2
  extract_lets +onlyGivenNames x3
  refine Same.cut (x := x3) ?_ (fun h3 => ?_)
  · unfold x3
    exact (by assumption)
  clear_value x3
  refine Same.iteSnd2 (Same.pair2 (Same.pair (by assumption))) ?_
  extract_lets +onlyGivenNames x4
  refine Same.cut (x := x4) ?_ (fun h4 => ?_)
  · unfold x4
    exact Same.step (upd_freeIdx ..) rfl (by assumption)
  clear_value x4
  split
  · exact Same.pair2 (Same.pair (by assumption))
  · exact Same.pair2 (Same.pair (Same.step (same_bump ..) rfl (by assumption)))

theorem same_cjKeep (a1 : _) (a2 : _) (s : State) : Same 131072 s (cjKeep a1 a2 s) := by
  unfold cjKeep
  split
  · exact Same.ite (Same.step (same_modTap ..) rfl (Same.refl _ _)) (Same.refl _ _)
  · exact Same.refl _ _

theorem same_copyGo (s : State) : Same 34359738384 s (copyGo s) := by
  unfold copyGo
  exact Same.ite (Same.step (same_pgError ..) rfl (Same.refl _ _)) (Same.step (upd_lin ..) rfl (Same.refl _ _))

theorem same_iaddrNext (s : State) : Same 16 s (iaddrNext s) := by
  unfold iaddrNext
  extract_lets +onlyGivenNames x1
  clear_value x1
  exact Same.ite (Same.step (same_setRg ..) rfl (Same.refl _ _)) (Same.refl _ _)

theorem same_idataRead (s : State) : Same 16 s (idataRead s).2 := by
  unfold idataRead
  refine Same.iteSnd (Same.pair (Same.step (same_pgError ..) rfl (Same.refl _ _))) ?_
  split
  · exact Same.pair (Same.refl _ _)
  · exact Same.pair (Same.step (same_iaddrNext ..) rfl (Same.refl _ _))

theorem same_execAuxCjcDue (a1 : _) (s : State) : SameO 134217728 s (execAuxCjcDue a1 s) := by
  unfold execAuxCjcDue
  exact SameO.ite (SameO.next (Same.foldl (Same.step (same_modAux ..) rfl (Same.refl _ _)) (fun _ _ => Same.step (same_auxPush ..) rfl (Same.refl _ _)))) (SameO.next (Same.refl _ _))

theorem same_linPut (a1 : _) (a2 : _) (s : State) : Same 34359738368 s (linPut a1 a2 s) := by
  unfold linPut
  extract_lets +onlyGivenNames x1
  clear_value x1
  extract_lets +onlyGivenNames x2
  clear_value x2
  exact Same.step (upd_lin ..) rfl (Same.refl _ _)

theorem same_idataWrite (a1 : _) (s : State) : Same 34359738384 s (idataWrite a1 s) := by
  unfold idataWrite
  refine Same.ite (Same.step (same_pgError ..) rfl (Same.refl _ _)) ?_
  split
  · exact Same.step (same_pgError ..) rfl (Same.refl _ _)
  · split
    · exact Same.step (same_pgError ..) rfl (Same.refl _ _)
    · exact Same.step (same_iaddrNext ..) rfl (Same.step (same_linPut ..) rfl (Same.refl _ _))

theorem same_tsealWrite (a1 : _) (a2 : _) (s : State) : Same 34359738384 s (tsealWrite a1 a2 s) := by
  unfold tsealWrite
  exact Same.ite (Same.step (same_pgError ..) rfl (Same.refl _ _)) (Same.step (upd_lin ..) rfl (Same.refl _ _))

theorem same_execLinCopyDone (s : State) : SameO 34359771152 s (execLinCopyDone s) := by
  unfold execLinCopyDone
  exact SameO.ite (SameO.next (Same.step (same_raise ..) rfl (Same.step (upd_lin ..) rfl (Same.refl _ _)))) (SameO.next (Same.refl _ _))

theorem same_execLinCopyGo (a1 : _) (s : State) : SameO 34359738384 s (execLinCopyGo a1 s) := by
  unfold execLinCopyGo
  exact SameO.next (same_direct rfl (Same.refl _ _) (fun _ => Same.step (same_copyGo ..) rfl (Same.refl _ _)))

theorem same_execLinIdataAccess (a1 : _) (a2 : _) (s : State) : SameO 34359738896 s (execLinIdataAccess a1 a2 s) := by
  unfold execLinIdataAccess
  split
  · exact SameO.next (same_direct rfl (Same.refl _ _) (fun _ => Same.step (same_idataWrite ..) rfl (Same.refl _ _)))
  · refine SameO.ite ?_ (SameO.next (Same.refl _ _))
    extract_lets +onlyGivenNames x1
    refine SameO.cut (x := x1.2) ?_ (fun h1 => ?_)
    · unfold x1
      exact Same.step (same_idataRead ..) rfl (Same.refl _ _)
    clear_value x1
    refine SameO.next ?_
    extract_lets +onlyGivenNames x2
    refine Same.cut (x := x2) ?_ (fun h2 => ?_)
    · unfold x2
      exact (by assumption)
    clear_value x2
    exact Same.step (upd_rd ..) rfl (by assumption)

theorem same_execLinTsealWrite (a1 : _) (a2 : _) (a3 : _) (s : State) : SameO 34359738384 s (execLinTsealWrite a1 a2 a3 s) := by
  unfold execLinTsealWrite
  exact SameO.next (Same.ite (same_direct rfl (Same.refl _ _) (fun _ => Same.step (same_tsealWrite ..) rfl (Same.refl _ _))) (Same.refl _ _))

theorem same_execTableSealResult (a1 : _) (s : State) : SameO 34359771152 s (execTableSealResult a1 s) := by
  unfold execTableSealResult
  split
  · exact SameO.next (Same.refl _ _)
  · extract_lets +onlyGivenNames x1
    clear_value x1
    extract_lets +onlyGivenNames x2
    clear_value x2
    extract_lets +onlyGivenNames x3
    refine SameO.cut (x := x3) ?_ (fun h3 => ?_)
    · unfold x3
      exact Same.step (upd_lin ..) rfl (Same.refl _ _)
    clear_value x3
    exact SameO.next (Same.ite (Same.step (same_raise ..) rfl (Same.step (upd_lin ..) rfl (by assumption))) (Same.step (same_raise ..) rfl (Same.step (same_pgError ..) rfl (by assumption))))

end Sys2Proof.Machine
end

