-- ==== Sys2Proof/Laws/FootCheck.lean ====
section
/-! SUPPORT. Footprints of the operations and meanings of Machine/Check.lean: each lemma says once which fields of the
state the function can change. -/

namespace Sys2Proof.Machine

open Sys2Proof

theorem same_checkRun (a1 : _) (s : State) : Same 134234112 s (checkRun a1 s) := by
  unfold checkRun
  extract_lets +onlyGivenNames x1
  clear_value x1
  extract_lets +onlyGivenNames x2
  clear_value x2
  extract_lets +onlyGivenNames x3
  clear_value x3
  extract_lets +onlyGivenNames x4
  extract_lets +onlyGivenNames x5
  clear_value x5
  extract_lets +onlyGivenNames x6
  clear_value x6
  extract_lets +onlyGivenNames x7
  refine Same.cut (x := x7) ?_ (fun h7 => ?_)
  · unfold x7
    exact Same.forN (Same.refl _ _) (fun _ _ => Same.step (same_modAux ..) rfl (Same.refl _ _))
  clear_value x7
  extract_lets +onlyGivenNames x8
  clear_value x8
  exact Same.step (upd_cmt ..) rfl (by assumption)

end Sys2Proof.Machine
end

