-- ==== Sys2Proof/Laws/FootPower.lean ====
section
/-! SUPPORT. Footprints of the operations and meanings of Machine/Power.lean: each lemma says once which fields of the
state the function can change. -/

namespace Sys2Proof.Machine

open Sys2Proof

theorem same_bootStart (a1 : _) (s : State) : Same 5120 s (bootStart a1 s) := by
  unfold bootStart
  exact Same.step (upd_pwr_hub ..) rfl (Same.refl _ _)

theorem same_buffersBack (a1 : _) (s : State) : Same 67108864 s (buffersBack a1 s) := by
  unfold buffersBack
  exact Same.forN (Same.refl _ _) (fun _ _ => Same.step (same_modRef ..) rfl (Same.refl _ _))

theorem same_modPwr (a1 : _) (s : State) : Same 1024 s (modPwr a1 s) := by
  unfold modPwr
  exact Same.step (upd_pwr ..) rfl (Same.refl _ _)

theorem same_wakeForget (s : State) : Same 67174400 s (wakeForget s) := by
  unfold wakeForget
  extract_lets +onlyGivenNames x1
  refine Same.cut (x := x1) ?_ (fun h1 => ?_)
  · unfold x1
    exact Same.forN (Same.refl _ _) (fun _ _ => Same.ite (Same.step (same_modChan ..) rfl (Same.refl _ _)) (Same.refl _ _))
  clear_value x1
  exact Same.forN (by assumption) (fun _ _ => Same.step (same_modRef ..) rfl (Same.refl _ _))

theorem same_wakeStart (a1 : _) (s : State) : Same 21956216481743888 s (wakeStart a1 s) := by
  unfold wakeStart
  extract_lets +onlyGivenNames x1
  refine Same.cut (x := x1) ?_ (fun h1 => ?_)
  · unfold x1
    exact Same.ite (Same.refl _ _) (Same.step (same_wakeForget ..) rfl (Same.refl _ _))
  clear_value x1
  split
  · exact Same.step (same_rateCheck ..) rfl (Same.step (same_modPwr ..) rfl (by assumption))
  · exact Same.step (same_modPwr ..) rfl (by assumption)
  · exact Same.refl _ _

theorem same_chHeld (a1 : _) (a2 : _) (s : State) : Same 98320 s (chHeld a1 a2 s) := by
  unfold chHeld
  extract_lets +onlyGivenNames x1
  refine Same.cut (x := x1) ?_ (fun h1 => ?_)
  · unfold x1
    exact Same.ite (Same.refl _ _) (Same.step (same_chEvent ..) rfl (Same.refl _ _))
  clear_value x1
  exact Same.step (same_loadsSync ..) rfl (Same.step (same_modChan ..) rfl (by assumption))

theorem same_chRetrain (a1 : _) (s : State) : Same 8388608 s (chRetrain a1 s) := by
  unfold chRetrain
  exact Same.ite (Same.step (same_setStart ..) rfl (Same.refl _ _)) (Same.refl _ _)

theorem same_chReturn (a1 : _) (s : State) : Same 29589520 s (chReturn a1 s) := by
  unfold chReturn
  refine Same.ite ?_ (Same.refl _ _)
  extract_lets +onlyGivenNames x1
  refine Same.cut (x := x1) ?_ (fun h1 => ?_)
  · unfold x1
    exact Same.ite (Same.step (same_marksOpen ..) rfl (Same.refl _ _)) (Same.refl _ _)
  clear_value x1
  exact Same.ite (Same.step (same_chHeld ..) rfl (by assumption)) (Same.ite (Same.step (same_chHeld ..) rfl (by assumption)) (Same.ite (Same.step (same_loadsSync ..) rfl (Same.step (same_modGo ..) rfl (Same.step (same_modChan ..) rfl (by assumption)))) (Same.step (same_chHeld ..) rfl (by assumption))))

theorem same_dieOff (a1 : _) (s : State) : Same 216172782619035664 s (dieOff a1 s) := by
  unfold dieOff
  extract_lets +onlyGivenNames x1
  refine Same.cut (x := x1) ?_ (fun h1 => ?_)
  · unfold x1
    exact Same.step (same_auxLose ..) rfl (Same.refl _ _)
  clear_value x1
  extract_lets +onlyGivenNames x2
  refine Same.cut (x := x2) ?_ (fun h2 => ?_)
  · unfold x2
    exact Same.step (same_modDie ..) rfl (by assumption)
  clear_value x2
  extract_lets +onlyGivenNames x3
  refine Same.cut (x := x3) ?_ (fun h3 => ?_)
  · unfold x3
    exact Same.step (same_modDie ..) rfl (by assumption)
  clear_value x3
  extract_lets +onlyGivenNames x4
  refine Same.cut (x := x4) ?_ (fun h4 => ?_)
  · unfold x4
    exact Same.forN (by assumption) (fun _ _ => Same.step (same_modRef ..) rfl (Same.refl _ _))
  clear_value x4
  extract_lets +onlyGivenNames x5
  refine Same.cut (x := x5) ?_ (fun h5 => ?_)
  · unfold x5
    exact Same.forN (by assumption) (fun _ _ => Same.step (same_excRelease ..) rfl (Same.refl _ _))
  clear_value x5
  exact Same.forN (by assumption) (fun _ _ => Same.step (same_ltAbort ..) rfl (Same.refl _ _))

theorem same_fdApply (a1 : _) (a2 : _) (s : State) : Same 216172782619035664 s (fdApply a1 a2 s) := by
  unfold fdApply
  exact Same.forN (Same.refl _ _) (fun _ _ => Same.ite (Same.step (same_dieOff ..) rfl (Same.refl _ _)) (Same.refl _ _))

theorem same_safeExit (s : State) : Same 2251799813722128 s (safeExit s) := by
  unfold safeExit
  refine Same.ite ?_ (Same.refl _ _)
  extract_lets +onlyGivenNames x1
  refine Same.cut (x := x1) ?_ (fun h1 => ?_)
  · unfold x1
    exact Same.step (same_raise ..) rfl (Same.step (same_setHub ..) rfl (Same.refl _ _))
  clear_value x1
  exact Same.step (same_modTwn ..) rfl (by assumption)

theorem same_pairLose (a1 : _) (a2 : _) (s : State) : Same 216172782258325520 s (pairLose a1 a2 s) := by
  unfold pairLose
  refine Same.ite (Same.refl _ _) ?_
  extract_lets +onlyGivenNames x1
  refine Same.cut (x := x1) ?_ (fun h1 => ?_)
  · unfold x1
    exact Same.step (same_modDie ..) rfl (Same.refl _ _)
  clear_value x1
  exact Same.step (same_raise ..) rfl (Same.forL (by assumption) (fun _ _ => Same.step (same_chFault ..) rfl (Same.refl _ _)))

theorem same_d2dFail (a1 : _) (a2 : _) (s : State) : Same 216172782258325520 s (d2dFail a1 a2 s) := by
  unfold d2dFail
  extract_lets +onlyGivenNames x1
  clear_value x1
  refine Same.ite (Same.refl _ _) ?_
  extract_lets +onlyGivenNames x2
  refine Same.cut (x := x2) ?_ (fun h2 => ?_)
  · unfold x2
    exact Same.step (same_modDie ..) rfl (Same.refl _ _)
  clear_value x2
  split
  · exact Same.ite (Same.step (same_modDie ..) rfl (Same.step (same_pairLose ..) rfl (by assumption))) (Same.step (same_pairLose ..) rfl (by assumption))
  · exact Same.ite (Same.ite (Same.step (same_raise ..) rfl (Same.step (same_modDie ..) rfl (by assumption))) (Same.step (same_pairLose ..) rfl (Same.step (same_modDie ..) rfl (by assumption)))) (Same.ite (Same.step (same_modDie ..) rfl (by assumption)) (Same.ite (by assumption) (Same.step (same_pairLose ..) rfl (by assumption))))

theorem same_d2dTick (s : State) : Same 34832 s (d2dTick s) := by
  unfold d2dTick
  refine Same.forN (Same.refl _ _) (fun _ _ => ?_)
  extract_lets +onlyGivenNames x1
  refine Same.cut (x := x1) ?_ (fun h1 => ?_)
  · unfold x1
    exact Same.step (same_modDie ..) rfl (Same.refl _ _)
  clear_value x1
  split
  · exact Same.step (same_raise ..) rfl (Same.step (same_modDie ..) rfl (by assumption))
  · exact (by assumption)

theorem same_execCoreRailPresent (s : State) : SameO 1024 s (execCoreRailPresent s) := by
  unfold execCoreRailPresent
  exact SameO.next (Same.step (same_modPwr ..) rfl (Same.refl _ _))

theorem same_execD2dLaneFail (a1 : _) (a2 : _) (s : State) : SameO 216172782258325520 s (execD2dLaneFail a1 a2 s) := by
  unfold execD2dLaneFail
  exact SameO.next (Same.ite (Same.refl _ _) (Same.step (same_d2dFail ..) rfl (Same.refl _ _)))

theorem same_execD2dTrained (a1 : _) (a2 : _) (a3 : _) (s : State) : SameO 216172782593869840 s (execD2dTrained a1 a2 a3 s) := by
  unfold execD2dTrained
  refine SameO.next ?_
  refine Same.ite (Same.refl _ _) ?_
  extract_lets +onlyGivenNames x1
  clear_value x1
  extract_lets +onlyGivenNames x2
  clear_value x2
  extract_lets +onlyGivenNames x3
  clear_value x3
  extract_lets +onlyGivenNames x4
  clear_value x4
  extract_lets +onlyGivenNames x5
  refine Same.cut (x := x5) ?_ (fun h5 => ?_)
  · unfold x5
    exact Same.ite (Same.refl _ _) (Same.step (same_auxLose ..) rfl (Same.refl _ _))
  clear_value x5
  extract_lets +onlyGivenNames x6
  refine Same.cut (x := x6) ?_ (fun h6 => ?_)
  · unfold x6
    exact Same.step (same_modDie ..) rfl (by assumption)
  clear_value x6
  extract_lets +onlyGivenNames x7
  refine Same.cut (x := x7) ?_ (fun h7 => ?_)
  · unfold x7
    exact Same.step (same_modDie ..) rfl (by assumption)
  clear_value x7
  extract_lets +onlyGivenNames x8
  refine Same.cut (x := x8) ?_ (fun h8 => ?_)
  · unfold x8
    exact Same.step (same_modDie ..) rfl (by assumption)
  clear_value x8
  extract_lets +onlyGivenNames x9
  refine Same.cut (x := x9) ?_ (fun h9 => ?_)
  · unfold x9
    exact Same.ite (Same.step (same_raise ..) rfl (by assumption)) (by assumption)
  clear_value x9
  extract_lets +onlyGivenNames x10
  refine Same.cut (x := x10) ?_ (fun h10 => ?_)
  · unfold x10
    exact Same.ite (Same.step (same_raise ..) rfl (by assumption)) (by assumption)
  clear_value x10
  extract_lets +onlyGivenNames x11
  refine Same.cut (x := x11) ?_ (fun h11 => ?_)
  · unfold x11
    exact Same.forL (by assumption) (fun _ _ => Same.ite (Same.step (same_chFault ..) rfl (Same.refl _ _)) (Same.refl _ _))
  clear_value x11
  extract_lets +onlyGivenNames x12
  refine Same.cut (x := x12) ?_ (fun h12 => ?_)
  · unfold x12
    exact Same.forL (by assumption) (fun _ _ => Same.ite (Same.step (same_chFault ..) rfl (Same.refl _ _)) (Same.refl _ _))
  clear_value x12
  extract_lets +onlyGivenNames x13
  refine Same.cut (x := x13) ?_ (fun h13 => ?_)
  · unfold x13
    exact Same.forL (by assumption) (fun _ _ => Same.step (same_chRetrain ..) rfl (Same.refl _ _))
  clear_value x13
  exact Same.ite (Same.step (same_buffersBack ..) rfl (by assumption)) (Same.ite (Same.step (same_raise ..) rfl (by assumption)) (by assumption))

theorem same_execD2dTrimRemeasure (a1 : _) (a2 : _) (s : State) : SameO 2048 s (execD2dTrimRemeasure a1 a2 s) := by
  unfold execD2dTrimRemeasure
  exact SameO.next (Same.ite (Same.step (same_modDie ..) rfl (Same.refl _ _)) (Same.refl _ _))

theorem same_slotLost (a1 : _) (a2 : _) (s : State) : Same 98320 s (slotLost a1 a2 s) := by
  unfold slotLost
  extract_lets +onlyGivenNames x1
  clear_value x1
  refine Same.ite (Same.refl _ _) ?_
  extract_lets +onlyGivenNames x2
  refine Same.cut (x := x2) ?_ (fun h2 => ?_)
  · unfold x2
    exact Same.step (same_raise ..) rfl (Same.step (same_bump ..) rfl (Same.refl _ _))
  clear_value x2
  exact Same.forL (by assumption) (fun _ _ => Same.forN (Same.refl _ _) (fun _ _ => Same.step (same_mark ..) rfl (Same.refl _ _)))

theorem same_execD2dUnrecoverableWord (a1 : _) (a2 : _) (s : State) : SameO 98320 s (execD2dUnrecoverableWord a1 a2 s) := by
  unfold execD2dUnrecoverableWord
  exact SameO.next (Same.ite (Same.step (same_slotLost ..) rfl (Same.refl _ _)) (Same.refl _ _))

theorem same_wordLost (a1 : _) (a2 : _) (a3 : _) (s : State) : Same 98320 s (wordLost a1 a2 a3 s) := by
  unfold wordLost
  extract_lets +onlyGivenNames x1
  clear_value x1
  extract_lets +onlyGivenNames x2
  exact Same.ite (Same.ite (Same.step (same_slotLost ..) rfl (Same.refl _ _)) (Same.ite (Same.step (same_slotLost ..) rfl (Same.refl _ _)) (Same.refl _ _))) (Same.ite (Same.refl _ _) (Same.ite (Same.ite (Same.step (same_bump ..) rfl (Same.refl _ _)) (Same.step (same_slotLost ..) rfl (Same.refl _ _))) (Same.step (same_slotLost ..) rfl (Same.refl _ _))))

theorem same_execD2dWordError (a1 : _) (a2 : _) (s : State) : SameO 216172782258325520 s (execD2dWordError a1 a2 s) := by
  unfold execD2dWordError
  refine SameO.next ?_
  refine Same.ite (Same.refl _ _) ?_
  extract_lets +onlyGivenNames x1
  clear_value x1
  extract_lets +onlyGivenNames x2
  refine Same.cut (x := x2) ?_ (fun h2 => ?_)
  · unfold x2
    exact Same.step (same_wordLost ..) rfl (Same.step (same_modDie ..) rfl (Same.refl _ _))
  clear_value x2
  exact Same.ite (Same.step (same_d2dFail ..) rfl (by assumption)) (by assumption)

theorem same_execDieChannelRestore (a1 : _) (s : State) : SameO 197363736 s (execDieChannelRestore a1 s) := by
  unfold execDieChannelRestore
  refine SameO.next ?_
  refine Same.ite (Same.refl _ _) ?_
  extract_lets +onlyGivenNames x1
  refine Same.cut (x := x1) ?_ (fun h1 => ?_)
  · unfold x1
    exact Same.step (same_modDie ..) rfl (Same.refl _ _)
  clear_value x1
  extract_lets +onlyGivenNames x2
  refine Same.cut (x := x2) ?_ (fun h2 => ?_)
  · unfold x2
    exact Same.forL (by assumption) (fun _ _ => Same.ite (Same.step (same_chReturn ..) rfl (Same.refl _ _)) (Same.refl _ _))
  clear_value x2
  exact Same.step (same_raise ..) rfl (Same.forN (by assumption) (fun _ _ => Same.step (same_excStart ..) rfl (Same.refl _ _)))

theorem same_sleepChannels (s : State) : Same 216172782258454544 s (sleepChannels s) := by
  unfold sleepChannels
  refine Same.forN (Same.refl _ _) (fun _ _ => ?_)
  extract_lets +onlyGivenNames x1
  clear_value x1
  exact Same.step (same_modChan ..) rfl (Same.step (same_setStart ..) rfl (Same.step (same_chOff ..) rfl (Same.refl _ _)))

theorem same_execFieldDieRailLoss (a1 : _) (s : State) : SameO 216172782627424272 s (execFieldDieRailLoss a1 s) := by
  unfold execFieldDieRailLoss
  refine SameO.next ?_
  refine Same.ite (Same.refl _ _) ?_
  refine Same.ite (Same.step (same_modDie ..) rfl (Same.refl _ _)) ?_
  extract_lets +onlyGivenNames x1
  refine Same.cut (x := x1) ?_ (fun h1 => ?_)
  · unfold x1
    exact Same.step (same_modDie ..) rfl (Same.step (same_auxLose ..) rfl (Same.refl _ _))
  clear_value x1
  extract_lets +onlyGivenNames x2
  refine Same.cut (x := x2) ?_ (fun h2 => ?_)
  · unfold x2
    exact Same.forL (by assumption) (fun _ _ => Same.step (same_chFault ..) rfl (Same.refl _ _))
  clear_value x2
  exact Same.step (same_raise ..) rfl (Same.step (same_bump ..) rfl (Same.step (same_dieOff ..) rfl (by assumption)))

theorem same_execFieldDieRailRestore (a1 : _) (s : State) : SameO 2048 s (execFieldDieRailRestore a1 s) := by
  unfold execFieldDieRailRestore
  exact SameO.next (Same.ite (Same.step (same_modDie ..) rfl (Same.refl _ _)) (Same.refl _ _))

theorem same_lanesDark (s : State) : Same 21956216582407192 s (lanesDark s) := by
  unfold lanesDark
  exact Same.forN (Same.step (same_modPwr ..) rfl (Same.refl _ _)) (fun _ _ => Same.step (same_laneDown ..) rfl (Same.refl _ _))

theorem same_execLaneRailLoss (a1 : _) (s : State) : SameO 21956216582407192 s (execLaneRailLoss a1 s) := by
  unfold execLaneRailLoss
  extract_lets +onlyGivenNames x1
  clear_value x1
  extract_lets +onlyGivenNames x2
  refine SameO.cut (x := x2) ?_ (fun h2 => ?_)
  · unfold x2
    exact Same.step (same_modPwr ..) rfl (Same.refl _ _)
  clear_value x2
  exact SameO.next (Same.ite (Same.step (same_raise ..) rfl (Same.step (same_bump ..) rfl (Same.step (same_lanesDark ..) rfl (by assumption)))) (Same.step (same_modPwr ..) rfl (by assumption)))

theorem same_execLaneRailRestore (s : State) : SameO 1024 s (execLaneRailRestore s) := by
  unfold execLaneRailRestore
  exact SameO.next (Same.step (same_modPwr ..) rfl (Same.refl _ _))

theorem same_execLrefLoss (s : State) : SameO 21956216582407192 s (execLrefLoss s) := by
  unfold execLrefLoss
  exact SameO.next (Same.ite (Same.step (same_raise ..) rfl (Same.step (same_bump ..) rfl (Same.step (same_lanesDark ..) rfl (Same.refl _ _)))) (Same.step (same_modPwr ..) rfl (Same.refl _ _)))

theorem same_pertD2d (s : State) : Same 216172782258325520 s (pertD2d s) := by
  unfold pertD2d
  extract_lets +onlyGivenNames x1
  clear_value x1
  extract_lets +onlyGivenNames x2
  clear_value x2
  exact Same.ite (Same.step (same_d2dFail ..) rfl (Same.forN (Same.refl _ _) (fun _ _ => Same.step (same_wordLost ..) rfl (Same.refl _ _)))) (Same.refl _ _)

theorem same_safeEnter (a1 : _) (s : State) : Same 2841206765817872 s (safeEnter a1 s) := by
  unfold safeEnter
  extract_lets +onlyGivenNames x1
  clear_value x1
  extract_lets +onlyGivenNames x2
  refine Same.cut (x := x2) ?_ (fun h2 => ?_)
  · unfold x2
    exact Same.step (same_raise ..) rfl (Same.step (same_bump ..) rfl (Same.step (upd_hub ..) rfl (Same.refl _ _)))
  clear_value x2
  exact Same.forN (Same.forN (Same.ite (Same.step (same_leaseQueue ..) rfl (by assumption)) (by assumption)) (fun _ _ => Same.step (same_planStop ..) rfl (Same.refl _ _))) (fun _ _ => Same.step (same_gSkip ..) rfl (Same.refl _ _))

theorem same_execPlllRelock (s : State) : SameO 1024 s (execPlllRelock s) := by
  unfold execPlllRelock
  exact SameO.next (Same.ite (Same.step (same_modPwr ..) rfl (Same.refl _ _)) (Same.refl _ _))

theorem same_execPorRelease (a1 : _) (s : State) : SameO 5120 s (execPorRelease a1 s) := by
  unfold execPorRelease
  refine SameO.next ?_
  refine Same.ite ?_ (Same.refl _ _)
  extract_lets +onlyGivenNames x1
  refine Same.cut (x := x1) ?_ (fun h1 => ?_)
  · unfold x1
    exact Same.step (same_modPwr ..) rfl (Same.refl _ _)
  clear_value x1
  exact Same.ite (Same.step (same_modPwr ..) rfl (by assumption)) (Same.step (same_bootStart ..) rfl (by assumption))

theorem same_wholeReset (cause : Nat) (keepC : Bool) (p : Pwr) (s : State) : Same 576460752303422967 s (wholeReset cause keepC p s) :=
  ⟨.inl rfl, .inl rfl, .inl rfl, .inr rfl, .inl rfl, .inl rfl, .inl rfl, .inl rfl, .inl rfl, .inr rfl, .inl rfl, .inl rfl, .inl rfl, .inl rfl, .inl rfl, .inl rfl, .inl rfl, .inl rfl, .inl rfl, .inl rfl, .inl rfl, .inl rfl, .inl rfl, .inl rfl, .inl rfl, .inl rfl, .inl rfl, .inl rfl, .inl rfl, .inl rfl, .inl rfl, .inl rfl, .inl rfl, .inl rfl, .inl rfl, .inl rfl, .inl rfl, .inl rfl, .inl rfl, .inl rfl, .inl rfl, .inl rfl, .inl rfl, .inl rfl, .inl rfl, .inl rfl, .inl rfl, .inl rfl, .inl rfl, .inl rfl, .inl rfl, .inl rfl, .inl rfl, .inl rfl, .inl rfl, .inl rfl, .inl rfl, .inl rfl, .inl rfl, rfl, fun _ => twf_tset regReset [] 0x1044 _ rfl, fun _ => rfl⟩

theorem same_execPowerOnReset (a1 : _) (s : State) : SameO 576460752303422967 s (execPowerOnReset a1 s) := by
  unfold execPowerOnReset
  extract_lets +onlyGivenNames x1
  clear_value x1
  exact SameO.next (Same.step (same_wholeReset ..) rfl (Same.refl _ _))

theorem same_resetNIs (a1 : _) (s : State) : Same 8 s (resetNIs a1 s).2 := by
  unfold resetNIs
  refine Same.iteSnd (Same.pair (Same.refl _ _)) ?_
  refine Same.iteSnd (Same.pair (Same.refl _ _)) ?_
  extract_lets +onlyGivenNames x1
  refine Same.cut (x := x1.2) ?_ (fun h1 => ?_)
  · unfold x1
    exact Same.step (same_fresh ..) rfl (Same.refl _ _)
  clear_value x1
  exact Same.pair (by assumption)

theorem same_execResetNAssert (a1 : _) (s : State) : SameO 576460752303422975 s (execResetNAssert a1 s) := by
  unfold execResetNAssert
  extract_lets +onlyGivenNames x1
  refine SameO.cut (x := x1.2) ?_ (fun h1 => ?_)
  · unfold x1
    exact Same.step (same_resetNIs ..) rfl (Same.refl _ _)
  clear_value x1
  exact SameO.next (Same.ite (Same.ite (Same.step (same_modPwr ..) rfl (by assumption)) (Same.ite (Same.step (same_modPwr ..) rfl (by assumption)) (Same.step (same_wholeReset ..) rfl (by assumption)))) (by assumption))

theorem same_execResetNRelease (a1 : _) (s : State) : SameO 5120 s (execResetNRelease a1 s) := by
  unfold execResetNRelease
  extract_lets +onlyGivenNames x1
  refine SameO.cut (x := x1) ?_ (fun h1 => ?_)
  · unfold x1
    exact Same.step (same_modPwr ..) rfl (Same.refl _ _)
  clear_value x1
  exact SameO.next (Same.ite (Same.step (same_bootStart ..) rfl (by assumption)) (by assumption))

theorem same_execSafeCauseCleared (s : State) : SameO 4096 s (execSafeCauseCleared s) := by
  unfold execSafeCauseCleared
  exact SameO.next (Same.ite (Same.step (upd_hub ..) rfl (Same.refl _ _)) (Same.refl _ _))

theorem same_execSafeEntry (s : State) : SameO 2841206765817872 s (execSafeEntry s) := by
  unfold execSafeEntry
  exact SameO.next (Same.ite (Same.refl _ _) (Same.step (same_safeEnter ..) rfl (Same.refl _ _)))

theorem same_sleepEnter (s : State) : Same 242632607250881560 s (sleepEnter s) := by
  unfold sleepEnter
  extract_lets +onlyGivenNames x1
  clear_value x1
  extract_lets +onlyGivenNames x2
  refine Same.cut (x := x2) ?_ (fun h2 => ?_)
  · unfold x2
    exact Same.ite (Same.step (same_enterHoldover ..) rfl (Same.refl _ _)) (Same.refl _ _)
  clear_value x2
  extract_lets +onlyGivenNames x3
  refine Same.cut (x := x3) ?_ (fun h3 => ?_)
  · unfold x3
    exact Same.forN (by assumption) (fun _ _ => Same.step (same_dieOff ..) rfl (Same.refl _ _))
  clear_value x3
  extract_lets +onlyGivenNames x4
  refine Same.cut (x := x4) ?_ (fun h4 => ?_)
  · unfold x4
    exact Same.step (same_bcnSleep ..) rfl (Same.forN (by assumption) (fun _ _ => Same.ite (Same.refl _ _) (Same.step (same_laneDown ..) rfl (Same.refl _ _))))
  clear_value x4
  extract_lets +onlyGivenNames x5
  clear_value x5
  extract_lets +onlyGivenNames x6
  clear_value x6
  extract_lets +onlyGivenNames x7
  refine Same.cut (x := x7) ?_ (fun h7 => ?_)
  · unfold x7
    exact Same.step (upd_pwr_hub ..) rfl (by assumption)
  clear_value x7
  exact Same.step (same_wakeup ..) rfl (Same.step (same_rateCheck ..) rfl (by assumption))

theorem same_execSleepDrainDone (s : State) : SameO 242632607250881560 s (execSleepDrainDone s) := by
  unfold execSleepDrainDone
  refine SameO.next ?_
  split
  · exact Same.ite (Same.step (same_sleepEnter ..) rfl (Same.refl _ _)) (Same.refl _ _)
  · exact Same.refl _ _

theorem same_execSleepTimeout (s : State) : SameO 238128998595527696 s (execSleepTimeout s) := by
  unfold execSleepTimeout
  refine SameO.next ?_
  split
  · exact Same.ite (Same.step (same_wakeup ..) rfl (Same.step (same_wakeStart ..) rfl (Same.refl _ _))) (Same.refl _ _)
  · exact Same.refl _ _

theorem same_execWakeChannelRestore (s : State) : SameO 216172782311150616 s (execWakeChannelRestore s) := by
  unfold execWakeChannelRestore
  refine SameO.next ?_
  split
  · refine Same.ite ?_ (Same.refl _ _)
    extract_lets +onlyGivenNames x1
    clear_value x1
    extract_lets +onlyGivenNames x2
    clear_value x2
    extract_lets +onlyGivenNames x3
    clear_value x3
    extract_lets +onlyGivenNames x4
    refine Same.cut (x := x4) ?_ (fun h4 => ?_)
    · unfold x4
      exact Same.step (upd_pwr_hub ..) rfl (Same.refl _ _)
    clear_value x4
    extract_lets +onlyGivenNames x5
    refine Same.cut (x := x5) ?_ (fun h5 => ?_)
    · unfold x5
      exact Same.ite (Same.step (same_excStartAll ..) rfl (Same.forN (by assumption) (fun _ _ => Same.step (same_chReturn ..) rfl (Same.refl _ _)))) (by assumption)
    clear_value x5
    exact Same.step (same_wakeup ..) rfl (by assumption)
  · exact Same.refl _ _

theorem same_xosLostIs (a1 : _) (s : State) : Same 8 s (xosLostIs a1 s).2 := by
  unfold xosLostIs
  split
  · exact Same.pair (Same.refl _ _)
  · refine Same.iteSnd (Same.pair (Same.refl _ _)) ?_
    refine Same.iteSnd (Same.pair (Same.refl _ _)) ?_
    extract_lets +onlyGivenNames x1
    refine Same.cut (x := x1.2) ?_ (fun h1 => ?_)
    · unfold x1
      exact Same.step (same_fresh ..) rfl (Same.refl _ _)
    clear_value x1
    exact Same.pair (by assumption)

theorem same_execXosLoss (a1 : _) (s : State) : SameO 576460752303422975 s (execXosLoss a1 s) := by
  unfold execXosLoss
  extract_lets +onlyGivenNames x1
  refine SameO.cut (x := x1.2) ?_ (fun h1 => ?_)
  · unfold x1
    exact Same.step (same_xosLostIs ..) rfl (Same.refl _ _)
  clear_value x1
  exact SameO.next (Same.ite (Same.ite (Same.step (same_modPwr ..) rfl (by assumption)) (Same.step (same_wholeReset ..) rfl (by assumption))) (by assumption))

theorem same_execXosRestored (s : State) : SameO 1024 s (execXosRestored s) := by
  unfold execXosRestored
  exact SameO.next (Same.step (same_modPwr ..) rfl (Same.refl _ _))

end Sys2Proof.Machine
end

