-- ==== Sys2Proof/Laws/FootCommit.lean ====
section
/-! SUPPORT. Footprints of the operations and meanings of Machine/Commit.lean: each lemma says once which fields of the
state the function can change. -/

namespace Sys2Proof.Machine

open Sys2Proof

theorem same_modCmt (a1 : _) (s : State) : Same 16384 s (modCmt a1 s) := by
  unfold modCmt
  exact Same.step (upd_cmt ..) rfl (Same.refl _ _)

theorem same_sessionTouch (s : State) : Same 16384 s (sessionTouch s) := by
  unfold sessionTouch
  exact Same.step (same_modCmt ..) rfl (Same.refl _ _)

theorem same_stageWrite (a1 : _) (a2 : _) (a3 : _) (a4 : _) (s : State) : Same 16416 s (stageWrite a1 a2 a3 a4 s).2 := by
  unfold stageWrite
  exact Same.iteSnd (Same.pair (Same.refl _ _)) (Same.iteSnd (Same.pair (Same.ite (Same.step (same_sessionTouch ..) rfl (Same.refl _ _)) (Same.refl _ _))) (Same.iteSnd (Same.pair (Same.refl _ _)) (Same.pair (Same.step (same_modCmt ..) rfl (Same.step (same_setStg ..) rfl (Same.refl _ _))))))

theorem same_vexcIssue (s : State) : Same 134217728 s (vexcIssue s) := by
  unfold vexcIssue
  exact Same.forN (Same.refl _ _) (fun _ _ => Same.ite (Same.step (same_auxPush ..) rfl (Same.refl _ _)) (Same.refl _ _))

theorem same_checkStart (a1 : _) (s : State) : Same 134234112 s (checkStart a1 s) := by
  unfold checkStart
  extract_lets +onlyGivenNames x1
  refine Same.cut (x := x1) ?_ (fun h1 => ?_)
  · unfold x1
    exact Same.step (same_vexcIssue ..) rfl (Same.refl _ _)
  clear_value x1
  extract_lets +onlyGivenNames x2
  clear_value x2
  extract_lets +onlyGivenNames x3
  clear_value x3
  exact Same.step (same_modCmt ..) rfl (by assumption)

theorem same_sessionCheck (a1 : _) (a2 : _) (s : State) : Same 134234112 s (sessionCheck a1 a2 s).2 := by
  unfold sessionCheck
  exact Same.iteSnd (Same.pair (Same.refl _ _)) (Same.iteSnd (Same.pair (Same.step (same_sessionTouch ..) rfl (Same.refl _ _))) (Same.pair (Same.step (same_checkStart ..) rfl (Same.step (same_sessionTouch ..) rfl (Same.refl _ _)))))

theorem same_applyLost (s : State) : Same 216172782113783824 s (applyLost s) := by
  unfold applyLost
  refine Same.foldl (Same.refl _ _) (fun _ _ => ?_)
  split
  · exact Same.step (same_finish ..) rfl (Same.refl _ _)
  · exact Same.step (same_finish ..) rfl (Same.refl _ _)
  · exact Same.step (same_finish ..) rfl (Same.refl _ _)
  · exact Same.step (same_finish ..) rfl (Same.refl _ _)
  · exact Same.step (same_finish ..) rfl (Same.refl _ _)
  · exact Same.step (same_await ..) rfl (Same.refl _ _)
  · exact Same.refl _ _

theorem same_sessionDrop (s : State) : Same 16416 s (sessionDrop s) := by
  unfold sessionDrop
  extract_lets +onlyGivenNames x1
  refine Same.cut (x := x1) ?_ (fun h1 => ?_)
  · unfold x1
    exact Same.step (same_modCmt ..) rfl (Same.refl _ _)
  clear_value x1
  exact Same.step (same_modCmt ..) rfl (Same.step (upd_staged ..) rfl (by assumption))

theorem same_sessionAbandon (s : State) : Same 216172782113833008 s (sessionAbandon s) := by
  unfold sessionAbandon
  exact Same.step (same_raise ..) rfl (Same.step (same_applyLost ..) rfl (Same.step (same_sessionDrop ..) rfl (Same.refl _ _)))

theorem same_applyFailed (a1 : _) (s : State) : Same 218424581927518256 s (applyFailed a1 s) := by
  unfold applyFailed
  refine Same.foldl (Same.ite (Same.step (upd_twn ..) rfl (Same.refl _ _)) (Same.refl _ _)) (fun _ _ => ?_)
  split
  · exact Same.step (same_finish ..) rfl (Same.refl _ _)
  · exact Same.step (same_sessionAbandon ..) rfl (Same.step (same_finish ..) rfl (Same.refl _ _))
  · exact Same.step (same_sessionAbandon ..) rfl (Same.step (same_finish ..) rfl (Same.refl _ _))
  · exact Same.step (same_sessionAbandon ..) rfl (Same.step (same_await ..) rfl (Same.refl _ _))
  · exact Same.refl _ _

theorem same_applyWakes (s : State) : Same 216172782113783824 s (applyWakes s) := by
  unfold applyWakes
  refine Same.foldl (Same.refl _ _) (fun _ _ => ?_)
  split
  · exact Same.step (same_finish ..) rfl (Same.refl _ _)
  · exact Same.step (same_await ..) rfl (Same.refl _ _)
  · exact Same.ite (Same.step (same_await ..) rfl (Same.refl _ _)) (Same.step (same_finish ..) rfl (Same.refl _ _))
  · exact Same.step (same_await ..) rfl (Same.refl _ _)
  · exact Same.step (same_finish ..) rfl (Same.refl _ _)
  · exact Same.refl _ _

theorem same_armCancel (a1 : _) (s : State) : Same 218424581927518256 s (armCancel a1 s) := by
  unfold armCancel
  exact Same.step (same_applyFailed ..) rfl (Same.step (same_raise ..) rfl (Same.step (same_modCmt ..) rfl (Same.refl _ _)))

theorem same_ownArm (s : State) : Same 134234128 s (ownArm s) := by
  unfold ownArm
  exact Same.step (same_checkStart ..) rfl (Same.step (same_setRg ..) rfl (Same.step (same_setRg ..) rfl (Same.step (same_setRg ..) rfl (Same.step (same_sessionTouch ..) rfl (Same.refl _ _)))))

theorem same_sessionOpen (a1 : _) (s : State) : Same 16416 s (sessionOpen a1 s).2 := by
  unfold sessionOpen
  refine Same.iteSnd (Same.pair (Same.refl _ _)) ?_
  refine Same.iteSnd (Same.pair (Same.refl _ _)) ?_
  extract_lets +onlyGivenNames x1
  refine Same.cut (x := x1) ?_ (fun h1 => ?_)
  · unfold x1
    exact Same.step (same_modCmt ..) rfl (Same.refl _ _)
  clear_value x1
  exact Same.pair (Same.step (same_modCmt ..) rfl (Same.step (upd_staged ..) rfl (by assumption)))

theorem same_cmtAct {m : Nat} {s x : State} {f : State → Nat × State} (hm : 16 ||| m = m) (hx : Same m s x)
    (hf : ∀ y, Same m y (f y).2) : Same m s (cmtAct f x) := by
  unfold cmtAct
  exact Same.ite ((hf _).trans hx) (Same.step (same_pgError ..) (orUp (k := 16) rfl hm) ((hf _).trans hx))

theorem same_sessionAbandonBy (a1 : _) (s : State) : Same 216172782113833008 s (sessionAbandonBy a1 s).2 := by
  unfold sessionAbandonBy
  exact Same.iteSnd (Same.pair (Same.refl _ _)) (Same.iteSnd (Same.pair (Same.step (same_sessionTouch ..) rfl (Same.refl _ _))) (Same.pair (Same.step (same_sessionAbandon ..) rfl (Same.refl _ _))))

theorem same_sessionDisarm (a1 : _) (s : State) : Same 16384 s (sessionDisarm a1 s).2 := by
  unfold sessionDisarm
  exact Same.iteSnd (Same.pair (Same.refl _ _)) (Same.iteSnd (Same.pair (Same.step (same_sessionTouch ..) rfl (Same.refl _ _))) (Same.pair (Same.step (same_modCmt ..) rfl (Same.step (same_sessionTouch ..) rfl (Same.refl _ _)))))

theorem same_cmtCtrl (a1 : _) (a2 : _) (s : State) : Same 216172782248050736 s (cmtCtrl a1 a2 s) := by
  unfold cmtCtrl
  extract_lets +onlyGivenNames x1
  clear_value x1
  split
  · exact Same.refl _ _
  · exact same_cmtAct rfl (Same.refl _ _) (fun _ => Same.step (same_sessionOpen ..) rfl (Same.refl _ _))
  · exact same_cmtAct rfl (Same.refl _ _) (fun _ => Same.step (same_sessionCheck ..) rfl (Same.refl _ _))
  · exact same_cmtAct rfl (Same.refl _ _) (fun _ => Same.step (same_sessionCheck ..) rfl (Same.refl _ _))
  · exact same_cmtAct rfl (Same.refl _ _) (fun _ => Same.step (same_sessionDisarm ..) rfl (Same.refl _ _))
  · exact same_cmtAct rfl (Same.refl _ _) (fun _ => Same.step (same_sessionAbandonBy ..) rfl (Same.refl _ _))
  · exact Same.step (same_pgError ..) rfl (Same.refl _ _)

theorem same_rootApply (a1 : _) (a2 : _) (s : State) : Same 8589967376 s (rootApply a1 a2 s) := by
  unfold rootApply
  extract_lets +onlyGivenNames x1
  refine Same.cut (x := x1) ?_ (fun h1 => ?_)
  · unfold x1
    exact Same.step (same_modTmb ..) rfl (Same.refl _ _)
  clear_value x1
  exact Same.ite (Same.ite (Same.step (same_setSrc ..) rfl (by assumption)) (by assumption)) (Same.step (same_tunlVerdict ..) rfl (by assumption))

theorem same_hookReg (a1 : _) (a2 : _) (a3 : _) (s : State) : Same 242632607250877466 s (hookReg a1 a2 a3 s) := by
  unfold hookReg
  split
  · exact Same.ite (Same.step (same_fdApply ..) rfl (Same.refl _ _)) (Same.step (same_famApply ..) rfl (Same.refl _ _))
  · exact Same.ite (Same.ite (Same.refl _ _) (Same.step (same_rootApply ..) rfl (Same.refl _ _))) (Same.ite (Same.step (upd_frame ..) rfl (Same.refl _ _)) (Same.refl _ _))
  · exact Same.ite (Same.ite (Same.step (same_boostStart ..) rfl (Same.refl _ _)) (Same.refl _ _)) (Same.ite (Same.step (same_chainApply ..) rfl (Same.ite (Same.refl _ _) (Same.step (same_modBcn ..) rfl (Same.refl _ _)))) (Same.ite (Same.step (same_bstrApply ..) rfl (Same.refl _ _)) (Same.refl _ _)))
  · exact Same.ite (Same.step (same_lnCfgApply ..) rfl (Same.refl _ _)) (Same.refl _ _)
  · exact Same.ite (Same.step (same_refEnables ..) rfl (Same.refl _ _)) (Same.ite (Same.step (same_excApply ..) rfl (Same.refl _ _)) (Same.ite (Same.step (same_collapseOff ..) rfl (Same.refl _ _)) (Same.refl _ _)))
  · exact Same.refl _ _

theorem same_readersApply (a1 : State) (s : State) : Same 564049465081872 s (readersApply a1 s) := by
  unfold readersApply
  refine Same.forN (Same.refl _ _) (fun _ _ => ?_)
  extract_lets +onlyGivenNames x1
  refine Same.cut (x := x1) ?_ (fun h1 => ?_)
  · unfold x1
    exact Same.forN (Same.refl _ _) (fun _ _ => Same.ite (Same.step (same_rdrStart ..) rfl (Same.refl _ _)) (Same.refl _ _))
  clear_value x1
  exact Same.ite (Same.step (same_release ..) rfl (by assumption)) (by assumption)

theorem same_streamsApply (a1 : _) (s : State) : Same 549755813888 s (streamsApply a1 s) := by
  unfold streamsApply
  exact Same.forN (Same.refl _ _) (fun _ _ => Same.ite (Same.step (same_modStrm ..) rfl (Same.refl _ _)) (Same.refl _ _))

theorem same_commitApply (s : State) : Same 242633157006712058 s (commitApply s) := by
  unfold commitApply
  refine Same.ite ?_ (Same.refl _ _)
  extract_lets +onlyGivenNames x1
  refine Same.cut (x := x1) ?_ (fun h1 => ?_)
  · unfold x1
    exact Same.refl _ _
  clear_value x1
  extract_lets +onlyGivenNames x2
  clear_value x2
  extract_lets +onlyGivenNames x3
  clear_value x3
  extract_lets +onlyGivenNames x4
  refine Same.cut (x := x4) ?_ (fun h4 => ?_)
  · unfold x4
    exact Same.ite (Same.step (same_setHub ..) rfl (Same.refl _ _)) (Same.step (same_safeExit ..) rfl (Same.refl _ _))
  clear_value x4
  extract_lets +onlyGivenNames x5
  clear_value x5
  extract_lets +onlyGivenNames x6
  clear_value x6
  extract_lets +onlyGivenNames x7
  refine Same.cut (x := x7) ?_ (fun h7 => ?_)
  · unfold x7
    exact Same.step (same_sessionDrop ..) rfl (Same.step (same_modCmt ..) rfl (by assumption))
  clear_value x7
  extract_lets +onlyGivenNames x8
  refine Same.cut (x := x8) ?_ (fun h8 => ?_)
  · unfold x8
    exact Same.forL (by assumption) (fun _ _ => Same.step (same_setRg ..) rfl (Same.refl _ _))
  clear_value x8
  extract_lets +onlyGivenNames x9
  refine Same.cut (x := x9) ?_ (fun h9 => ?_)
  · unfold x9
    exact Same.forL (by assumption) (fun _ _ => Same.step (upd_dspPend ..) rfl (Same.refl _ _))
  clear_value x9
  extract_lets +onlyGivenNames x10
  refine Same.cut (x := x10) ?_ (fun h10 => ?_)
  · unfold x10
    exact Same.ite (by assumption) (Same.step (upd_dspQ ..) rfl (by assumption))
  clear_value x10
  extract_lets +onlyGivenNames x11
  refine Same.cut (x := x11) ?_ (fun h11 => ?_)
  · unfold x11
    exact Same.forL (by assumption) (fun _ _ => Same.step (same_hookReg ..) rfl (Same.refl _ _))
  clear_value x11
  extract_lets +onlyGivenNames x12
  refine Same.cut (x := x12) ?_ (fun h12 => ?_)
  · unfold x12
    exact Same.step (same_rteSync ..) rfl (Same.step (same_readersApply ..) rfl (Same.step (same_streamsApply ..) rfl (by assumption)))
  clear_value x12
  exact Same.step (same_applyWakes ..) rfl (Same.step (same_raise ..) rfl (Same.step (same_memSync ..) rfl (by assumption)))

theorem same_execArmCheckComplete (s : State) : SameO 218424582061735984 s (execArmCheckComplete s) := by
  unfold execArmCheckComplete
  refine SameO.next ?_
  refine Same.ite ?_ (Same.refl _ _)
  extract_lets +onlyGivenNames x1
  refine Same.cut (x := x1) ?_ (fun h1 => ?_)
  · unfold x1
    exact Same.step (same_checkRun ..) rfl (Same.refl _ _)
  clear_value x1
  exact Same.ite (Same.step (same_modCmt ..) rfl (by assumption)) (Same.step (same_applyFailed ..) rfl (Same.step (same_modCmt ..) rfl (by assumption)))

theorem same_execCheckComplete (s : State) : SameO 216172782248050704 s (execCheckComplete s) := by
  unfold execCheckComplete
  refine SameO.next ?_
  refine Same.ite ?_ (Same.refl _ _)
  extract_lets +onlyGivenNames x1
  refine Same.cut (x := x1) ?_ (fun h1 => ?_)
  · unfold x1
    exact Same.step (same_checkRun ..) rfl (Same.refl _ _)
  clear_value x1
  extract_lets +onlyGivenNames x2
  refine Same.cut (x := x2) ?_ (fun h2 => ?_)
  · unfold x2
    exact Same.step (same_raise ..) rfl (Same.step (same_modCmt ..) rfl (by assumption))
  clear_value x2
  extract_lets +onlyGivenNames x3
  clear_value x3
  exact Same.step (same_wakeup ..) rfl (by assumption)

theorem same_execCmtAbandon (a1 : _) (s : State) : SameO 216172782248050736 s (execCmtAbandon a1 s) := by
  unfold execCmtAbandon
  exact SameO.next (same_direct rfl (Same.refl _ _) (fun _ => Same.step (same_cmtCtrl ..) rfl (Same.refl _ _)))

theorem same_execCmtArm (a1 : _) (s : State) : SameO 216172782248050736 s (execCmtArm a1 s) := by
  unfold execCmtArm
  exact SameO.next (same_direct rfl (Same.refl _ _) (fun _ => Same.step (same_cmtCtrl ..) rfl (Same.refl _ _)))

theorem same_execCmtCheck (a1 : _) (s : State) : SameO 216172782248050736 s (execCmtCheck a1 s) := by
  unfold execCmtCheck
  exact SameO.next (same_direct rfl (Same.refl _ _) (fun _ => Same.step (same_cmtCtrl ..) rfl (Same.refl _ _)))

theorem same_execCmtDisarm (a1 : _) (s : State) : SameO 216172782248050736 s (execCmtDisarm a1 s) := by
  unfold execCmtDisarm
  exact SameO.next (same_direct rfl (Same.refl _ _) (fun _ => Same.step (same_cmtCtrl ..) rfl (Same.refl _ _)))

theorem same_execCmtOpen (a1 : _) (s : State) : SameO 216172782248050736 s (execCmtOpen a1 s) := by
  unfold execCmtOpen
  exact SameO.next (same_direct rfl (Same.refl _ _) (fun _ => Same.step (same_cmtCtrl ..) rfl (Same.refl _ _)))

theorem same_execCommitApply (s : State) : SameO 242633157006712058 s (execCommitApply s) := by
  unfold execCommitApply
  exact SameO.next (Same.ite (Same.step (same_commitApply ..) rfl (Same.refl _ _)) (Same.refl _ _))

theorem same_finalCheck (s : State) : Same 218424581927518256 s (finalCheck s) := by
  unfold finalCheck
  refine Same.ite ?_ (Same.refl _ _)
  split
  · exact Same.step (same_modCmt ..) rfl (Same.refl _ _)
  · exact Same.step (same_armCancel ..) rfl (Same.step (same_modCmt ..) rfl (Same.refl _ _))

theorem same_execFinalCheck (s : State) : SameO 218424581927518256 s (execFinalCheck s) := by
  unfold execFinalCheck
  exact SameO.next (Same.ite (Same.step (same_finalCheck ..) rfl (Same.refl _ _)) (Same.refl _ _))

theorem same_stepCancel (s : State) : Same 218424581927518256 s (stepCancel s) := by
  unfold stepCancel
  exact Same.ite (Same.step (same_armCancel ..) rfl (Same.refl _ _)) (Same.refl _ _)

theorem same_execSessionTimeout (s : State) : SameO 216172782113833008 s (execSessionTimeout s) := by
  unfold execSessionTimeout
  exact SameO.next (Same.ite (Same.step (same_pgError ..) rfl (Same.step (same_sessionAbandon ..) rfl (Same.refl _ _))) (Same.refl _ _))

end Sys2Proof.Machine
end

