-- ==== Sys2Proof/Laws/FootTest.lean ====
section
/-! SUPPORT. Footprints of the operations and meanings of Machine/Test.lean: each lemma says once which fields of the
state the function can change. -/

namespace Sys2Proof.Machine

open Sys2Proof

theorem same_modTst (a1 : _) (s : State) : Same 36028797018963968 s (modTst a1 s) := by
  unfold modTst
  exact Same.step (upd_tst ..) rfl (Same.refl _ _)

theorem same_bistStart (a1 : _) (s : State) : Same 36028797018963968 s (bistStart a1 s).2 := by
  unfold bistStart
  exact Same.iteSnd (Same.pair (Same.refl _ _)) (Same.pair (Same.step (same_modTst ..) rfl (Same.refl _ _)))

theorem same_execBistDone (a1 : _) (a2 : _) (s : State) : SameO 252201579132780560 s (execBistDone a1 a2 s) := by
  unfold execBistDone
  refine SameO.next ?_
  split
  · exact Same.refl _ _
  · split
    extract_lets +onlyGivenNames x1
    refine Same.cut (x := x1) ?_ (fun h1 => ?_)
    · unfold x1
      exact Same.step (same_modTst ..) rfl (Same.refl _ _)
    clear_value x1
    extract_lets +onlyGivenNames x2
    refine Same.cut (x := x2) ?_ (fun h2 => ?_)
    · unfold x2
      exact Same.step (same_bump ..) rfl (Same.ite (by assumption) (Same.step (same_bump ..) rfl (by assumption)))
    clear_value x2
    exact Same.step (same_wakeup ..) rfl (Same.step (same_raise ..) rfl (by assumption))

theorem same_perturbWrite (a1 : _) (a2 : _) (a3 : _) (s : State) : Same 36028797018963984 s (perturbWrite a1 a2 a3 s).2 := by
  unfold perturbWrite
  exact Same.iteSnd (Same.pair (Same.refl _ _)) (Same.iteSnd (Same.pair (Same.refl _ _)) (Same.pair (Same.step (same_modTst ..) rfl (Same.step (same_setRg ..) rfl (Same.refl _ _)))))

theorem same_perturbReg (a1 : _) (a2 : _) (a3 : _) (s : State) : Same 36028797018963984 s (perturbReg a1 a2 a3 s) := by
  unfold perturbReg
  extract_lets +onlyGivenNames x1
  refine Same.cut (x := x1.2) ?_ (fun h1 => ?_)
  · unfold x1
    exact Same.step (same_perturbWrite ..) rfl (Same.refl _ _)
  clear_value x1
  exact Same.ite (by assumption) (Same.step (same_pgError ..) rfl (by assumption))

theorem same_pinsTaken (s : State) : Same 35467015464517656 s (pinsTaken s) := by
  unfold pinsTaken
  extract_lets +onlyGivenNames x1
  clear_value x1
  extract_lets +onlyGivenNames x2
  refine Same.cut (x := x2) ?_ (fun h2 => ?_)
  · unfold x2
    exact Same.step (upd_jtag ..) rfl (Same.refl _ _)
  clear_value x2
  exact Same.step (same_bcnSleep ..) rfl (Same.forN (Same.forN (by assumption) (fun _ _ => Same.step (same_laneDown ..) rfl (Same.refl _ _))) (fun _ _ => Same.step (same_excRelease ..) rfl (Same.refl _ _)))

theorem same_execJtagInstruction (a1 : _) (s : State) : SameO 35467015464517656 s (execJtagInstruction a1 s) := by
  unfold execJtagInstruction
  extract_lets +onlyGivenNames x1
  clear_value x1
  extract_lets +onlyGivenNames x2
  refine SameO.cut (x := x2) ?_ (fun h2 => ?_)
  · unfold x2
    exact Same.step (upd_jtag ..) rfl (Same.refl _ _)
  clear_value x2
  exact SameO.next (Same.ite (Same.step (same_pinsTaken ..) rfl (by assumption)) (by assumption))

theorem same_pertEnd (a1 : _) (s : State) : Same 36028797018963984 s (pertEnd a1 s) := by
  unfold pertEnd
  refine Same.ite ?_ (Same.refl _ _)
  extract_lets +onlyGivenNames x1
  refine Same.cut (x := x1) ?_ (fun h1 => ?_)
  · unfold x1
    exact Same.ite (Same.refl _ _) (Same.step (same_setRg ..) rfl (Same.refl _ _))
  clear_value x1
  exact Same.step (same_modTst ..) rfl (by assumption)

theorem same_pertTick (s : State) : Same 36028797018963984 s (pertTick s) := by
  unfold pertTick
  extract_lets +onlyGivenNames x1
  refine Same.cut (x := x1) ?_ (fun h1 => ?_)
  · unfold x1
    exact Same.forL (Same.refl _ _) (fun _ _ => Same.step (same_pertEnd ..) rfl (Same.refl _ _))
  clear_value x1
  extract_lets +onlyGivenNames x2
  refine Same.cut (x := x2) ?_ (fun h2 => ?_)
  · unfold x2
    exact Same.forL (by assumption) (fun _ _ => Same.step (same_modTst ..) rfl (Same.refl _ _))
  clear_value x2
  extract_lets +onlyGivenNames x3
  refine Same.cut (x := x3) ?_ (fun h3 => ?_)
  · unfold x3
    exact Same.step (same_modTst ..) rfl (by assumption)
  clear_value x3
  exact Same.ite (Same.step (same_bump ..) rfl (by assumption)) (by assumption)

theorem same_execPerturbCountExpire (a1 : _) (s : State) : SameO 36028797018963984 s (execPerturbCountExpire a1 s) := by
  unfold execPerturbCountExpire
  exact SameO.next (Same.ite (Same.step (same_pertEnd ..) rfl (Same.refl _ _)) (Same.refl _ _))

theorem same_execPgPerturbWrite (a1 : _) (a2 : _) (a3 : _) (s : State) : SameO 36028797018963984 s (execPgPerturbWrite a1 a2 a3 s) := by
  unfold execPgPerturbWrite
  refine SameO.next ?_
  split
  · exact Same.ite (Same.step (same_perturbReg ..) rfl (Same.refl _ _)) (Same.refl _ _)
  · exact Same.refl _ _

theorem same_execTrstNAssert (s : State) : SameO 9007199254740992 s (execTrstNAssert s) := by
  unfold execTrstNAssert
  exact SameO.next (Same.step (upd_jtag ..) rfl (Same.refl _ _))

theorem same_tstLock (s : State) : Same 36028797018996752 s (tstLock s) := by
  unfold tstLock
  extract_lets +onlyGivenNames x1
  refine Same.cut (x := x1) ?_ (fun h1 => ?_)
  · unfold x1
    exact Same.step (same_modTst ..) rfl (Same.refl _ _)
  clear_value x1
  extract_lets +onlyGivenNames x2
  refine Same.cut (x := x2) ?_ (fun h2 => ?_)
  · unfold x2
    exact Same.forL (by assumption) (fun _ _ => Same.step (same_setRg ..) rfl (Same.refl _ _))
  clear_value x2
  exact Same.ite (Same.step (same_raise ..) rfl (Same.step (same_modTst ..) rfl (by assumption))) (by assumption)

theorem same_lockWrite (a1 : _) (s : State) : Same 36028797018996752 s (lockWrite a1 s) := by
  unfold lockWrite
  exact Same.ite (Same.step (same_modTst ..) rfl (Same.refl _ _)) (Same.ite (Same.step (same_raise ..) rfl (Same.step (same_bump ..) rfl (Same.step (same_modTst ..) rfl (Same.refl _ _)))) (Same.ite (Same.step (same_tstLock ..) rfl (Same.refl _ _)) (Same.step (same_modTst ..) rfl (Same.refl _ _))))

theorem same_tmoWrite (a1 : _) (s : State) : Same 36028797018963984 s (tmoWrite a1 s) := by
  unfold tmoWrite
  extract_lets +onlyGivenNames x1
  refine Same.cut (x := x1) ?_ (fun h1 => ?_)
  · unfold x1
    exact Same.step (same_modTst ..) rfl (Same.refl _ _)
  clear_value x1
  exact Same.ite (Same.step (same_pgError ..) rfl (by assumption)) (Same.step (same_setRg ..) rfl (by assumption))

theorem same_execTstUnlockExpire (s : State) : SameO 36028797018996752 s (execTstUnlockExpire s) := by
  unfold execTstUnlockExpire
  exact SameO.next (Same.ite (Same.step (same_tstLock ..) rfl (Same.refl _ _)) (Same.refl _ _))

end Sys2Proof.Machine
end

