-- ==== Sys2Proof/Laws/FootResync.lean ====
section
/-! SUPPORT. Footprints of the operations and meanings of Machine/Resync.lean: each lemma says once which fields of the
state the function can change. -/

namespace Sys2Proof.Machine

open Sys2Proof

theorem same_mgmtPut (a1 : _) (a2 : _) (s : State) : Same 68719476736 s (mgmtPut a1 a2 s) := by
  unfold mgmtPut
  exact Same.step (same_modLk ..) rfl (Same.refl _ _)

theorem same_mgmtReply (a1 : _) (a2 : _) (a3 : _) (a4 : _) (a5 : _) (a6 : _) (s : State) : Same 68719476736 s (mgmtReply a1 a2 a3 a4 a5 a6 s) := by
  unfold mgmtReply
  exact Same.step (same_mgmtPut ..) rfl (Same.refl _ _)

theorem same_resyncOpen (s : State) : Same 2251868533178400 s (resyncOpen s) := by
  unfold resyncOpen
  extract_lets +onlyGivenNames x1
  refine Same.cut (x := x1.2) ?_ (fun h1 => ?_)
  · unfold x1
    exact Same.step (same_sessionOpen ..) rfl (Same.refl _ _)
  clear_value x1
  exact Same.ite (Same.step (same_mgmtPut ..) rfl (Same.step (same_modTwn ..) rfl (by assumption))) (Same.refl _ _)

theorem same_resyncStart (s : State) : Same 20829216996114480 s (resyncStart s) := by
  unfold resyncStart
  extract_lets +onlyGivenNames x1
  clear_value x1
  extract_lets +onlyGivenNames x2
  refine Same.cut (x := x2) ?_ (fun h2 => ?_)
  · unfold x2
    exact Same.step (upd_hst ..) rfl (Same.refl _ _)
  clear_value x2
  exact Same.step (same_memSync ..) rfl (Same.step (same_resyncOpen ..) rfl (Same.step (same_modTwn ..) rfl (by assumption)))

theorem same_resyncEnter (s : State) : Same 20829216996118576 s (resyncEnter s) := by
  unfold resyncEnter
  exact Same.step (same_resyncStart ..) rfl (Same.step (same_setHub ..) rfl (Same.refl _ _))

theorem same_execBootComplete (a1 : _) (a2 : _) (a3 : _) (s : State) : SameO 20829216996119602 s (execBootComplete a1 a2 a3 s) := by
  unfold execBootComplete
  refine SameO.next ?_
  refine Same.ite ?_ (Same.refl _ _)
  refine Same.ite (Same.step (same_modPwr ..) rfl (Same.refl _ _)) ?_
  extract_lets +onlyGivenNames x1
  clear_value x1
  extract_lets +onlyGivenNames x2
  clear_value x2
  extract_lets +onlyGivenNames x3
  refine Same.cut (x := x3) ?_ (fun h3 => ?_)
  · unfold x3
    exact Same.step (upd_frame_pwr_hub ..) rfl (Same.refl _ _)
  clear_value x3
  extract_lets +onlyGivenNames x4
  refine Same.cut (x := x4) ?_ (fun h4 => ?_)
  · unfold x4
    exact Same.ite (same_modMem rfl (fun _ => rfl) (by assumption)) (Same.step (same_raise ..) rfl (by assumption))
  clear_value x4
  extract_lets +onlyGivenNames x5
  refine Same.cut (x := x5) ?_ (fun h5 => ?_)
  · unfold x5
    exact Same.ite (Same.step (same_raise ..) rfl (by assumption)) (by assumption)
  clear_value x5
  exact Same.ite (Same.step (same_resyncEnter ..) rfl (by assumption)) (by assumption)

theorem same_resyncDrop (s : State) : Same 216172782113833008 s (resyncDrop s) := by
  unfold resyncDrop
  exact Same.ite (Same.step (same_sessionAbandon ..) rfl (Same.refl _ _)) (Same.refl _ _)

theorem same_resyncAbort (s : State) : Same 218987531880943664 s (resyncAbort s) := by
  unfold resyncAbort
  exact Same.ite (Same.step (same_memSync ..) rfl (Same.step (same_setHub ..) rfl (Same.step (same_modTwn ..) rfl (Same.step (same_resyncDrop ..) rfl (Same.refl _ _))))) (Same.refl _ _)

theorem same_resyncReq (s : State) : Same 20829216996118576 s (resyncReq s) := by
  unfold resyncReq
  exact Same.ite (Same.step (same_resyncEnter ..) rfl (Same.refl _ _)) (Same.refl _ _)

theorem same_twnCtrl (a1 : _) (s : State) : Same 237001999109902384 s (twnCtrl a1 s) := by
  unfold twnCtrl
  extract_lets +onlyGivenNames x1
  refine Same.cut (x := x1) ?_ (fun h1 => ?_)
  · unfold x1
    exact Same.step (same_setRg ..) rfl (Same.refl _ _)
  clear_value x1
  extract_lets +onlyGivenNames x2
  refine Same.cut (x := x2) ?_ (fun h2 => ?_)
  · unfold x2
    exact Same.ite (Same.step (same_resyncReq ..) rfl (by assumption)) (by assumption)
  clear_value x2
  extract_lets +onlyGivenNames x3
  refine Same.cut (x := x3) ?_ (fun h3 => ?_)
  · unfold x3
    exact Same.ite (Same.step (same_resyncAbort ..) rfl (by assumption)) (by assumption)
  clear_value x3
  exact Same.ite (Same.step (same_swapReqReg ..) rfl (by assumption)) (by assumption)

theorem same_leaseRx (a1 : _) (a2 : _) (a3 : _) (s : State) : Same 25332816657043505 s (leaseRx a1 a2 a3 s) := by
  unfold leaseRx
  refine Same.ite (Same.step (same_unrouted ..) rfl (Same.refl _ _)) ?_
  extract_lets +onlyGivenNames x1
  clear_value x1
  extract_lets +onlyGivenNames x2
  refine Same.cut (x := x2) ?_ (fun h2 => ?_)
  · unfold x2
    exact Same.step (same_bcnRole ..) rfl (Same.step (same_leaseTake ..) rfl (Same.step (same_advance ..) rfl (Same.refl _ _)))
  clear_value x2
  exact Same.ite (Same.step (same_resyncEnter ..) rfl (by assumption)) (by assumption)

theorem same_execLeasePacketReceive (a1 : _) (a2 : _) (a3 : _) (s : State) : SameO 25332816657043505 s (execLeasePacketReceive a1 a2 a3 s) := by
  unfold execLeasePacketReceive
  exact SameO.next (Same.ite (Same.step (same_leaseRx ..) rfl (Same.refl _ _)) (Same.refl _ _))

theorem same_resyncRestart (s : State) : Same 237001999109898288 s (resyncRestart s) := by
  unfold resyncRestart
  exact Same.ite (Same.step (same_resyncStart ..) rfl (Same.ite (Same.refl _ _) (Same.step (same_resyncDrop ..) rfl (Same.refl _ _)))) (Same.refl _ _)

theorem same_resyncTick (s : State) : Same 2251799813685248 s (resyncTick s) := by
  unfold resyncTick
  refine Same.ite ?_ (Same.refl _ _)
  extract_lets +onlyGivenNames x1
  clear_value x1
  exact Same.step (same_modTwn ..) rfl (Same.refl _ _)

theorem same_execResyncFail (s : State) : SameO 218987531880939568 s (execResyncFail s) := by
  unfold execResyncFail
  refine SameO.next ?_
  split
  · extract_lets +onlyGivenNames x1
    refine Same.cut (x := x1) ?_ (fun h1 => ?_)
    · unfold x1
      exact Same.step (same_raise ..) rfl (Same.step (same_resyncDrop ..) rfl (Same.refl _ _))
    clear_value x1
    exact Same.step (same_memSync ..) rfl (Same.step (same_modTwn ..) rfl (by assumption))
  · exact Same.refl _ _

theorem same_execResyncRetry (s : State) : SameO 20829216996114480 s (execResyncRetry s) := by
  unfold execResyncRetry
  exact SameO.next (Same.ite (Same.step (same_resyncStart ..) rfl (Same.refl _ _)) (Same.refl _ _))

theorem same_execTwnAbort (a1 : _) (s : State) : SameO 218987531880943664 s (execTwnAbort a1 s) := by
  unfold execTwnAbort
  exact SameO.next (same_direct rfl (Same.refl _ _) (fun _ => Same.step (same_resyncAbort ..) rfl (Same.refl _ _)))

theorem same_execTwnResyncReq (a1 : _) (s : State) : SameO 20829216996118576 s (execTwnResyncReq a1 s) := by
  unfold execTwnResyncReq
  exact SameO.next (same_direct rfl (Same.refl _ _) (fun _ => Same.step (same_resyncReq ..) rfl (Same.refl _ _)))

end Sys2Proof.Machine
end

