-- ==== Sys2Proof/Laws/FootRegRead.lean ====
section
/-! SUPPORT. Footprints of the operations and meanings of Machine/RegRead.lean: each lemma says once which fields of the
state the function can change. -/

namespace Sys2Proof.Machine

open Sys2Proof

theorem same_readReg (a1 : _) (a2 : _) (a3 : _) (s : State) : Same 562950221955352 s (readReg a1 a2 a3 s).2.2 := by
  unfold readReg
  split
  · exact Same.pair2 (Same.pair (Same.refl _ _))
  · extract_lets +onlyGivenNames x1
    clear_value x1
    extract_lets +onlyGivenNames x2
    clear_value x2
    refine Same.iteSnd2 (Same.pair2 (Same.pair (Same.refl _ _))) ?_
    refine Same.iteSnd2 (Same.step (same_hdataRead ..) rfl (Same.refl _ _)) ?_
    refine Same.iteSnd2 (Same.pair2 (Same.pair (Same.step (same_setLatch ..) rfl (Same.refl _ _)))) ?_
    refine Same.iteSnd2 (Same.pair2 (Same.pair (Same.step (same_setLatch ..) rfl (Same.refl _ _)))) ?_
    refine Same.iteSnd2 (Same.pair2 (Same.pair (Same.step (same_setRg ..) rfl (Same.refl _ _)))) ?_
    split
    · split
      · extract_lets +onlyGivenNames x3
        refine Same.cut (x := x3.2) ?_ (fun h3 => ?_)
        · unfold x3
          exact Same.step (same_slotRead ..) rfl (Same.refl _ _)
        clear_value x3
        exact Same.pair2 (Same.pair (by assumption))
      · exact Same.pair2 (Same.pair (Same.refl _ _))
    · refine Same.iteSnd2 ?_ (Same.pair2 (Same.pair (Same.refl _ _)))
      extract_lets +onlyGivenNames x4
      refine Same.cut (x := x4.2) ?_ (fun h4 => ?_)
      · unfold x4
        exact Same.step (same_tdataRead ..) rfl (Same.refl _ _)
      clear_value x4
      exact Same.pair2 (Same.pair (by assumption))
    · refine Same.iteSnd2 ?_ (Same.pair2 (Same.pair (Same.refl _ _)))
      extract_lets +onlyGivenNames x5
      refine Same.cut (x := x5.2) ?_ (fun h5 => ?_)
      · unfold x5
        exact Same.step (same_idataRead ..) rfl (Same.refl _ _)
      clear_value x5
      exact Same.pair2 (Same.pair (by assumption))
    · refine Same.iteSnd2 ?_ (Same.pair2 (Same.pair (Same.refl _ _)))
      extract_lets +onlyGivenNames x6
      refine Same.cut (x := x6.2) ?_ (fun h6 => ?_)
      · unfold x6
        exact Same.step (same_cdataRead ..) rfl (Same.refl _ _)
      clear_value x6
      exact Same.pair2 (Same.pair (by assumption))
    · split
      · exact Same.pair2 (Same.pair (Same.step (same_modChan ..) rfl (Same.refl _ _)))
      · exact Same.pair2 (Same.pair (Same.refl _ _))
    · exact Same.pair2 (Same.pair (Same.refl _ _))

theorem same_rcRefill (a1 : _) (a2 : _) (s : State) : Same 16 s (rcRefill a1 a2 s) := by
  unfold rcRefill
  split
  · exact Same.ite (Same.step (same_setRg ..) rfl (Same.refl _ _)) (Same.ite (Same.step (same_setRg ..) rfl (Same.refl _ _)) (Same.step (same_bump ..) rfl (Same.refl _ _)))
  · exact Same.ite (Same.step (same_setRg ..) rfl (Same.refl _ _)) (Same.step (same_bump ..) rfl (Same.refl _ _))
  · exact Same.step (same_bump ..) rfl (Same.refl _ _)

theorem same_readCmd (a1 : _) (a2 : _) (s : State) : Same 562950221955864 s (readCmd a1 a2 s) := by
  unfold readCmd
  refine Same.ite ?_ (Same.refl _ _)
  extract_lets +onlyGivenNames x1
  refine Same.cut (x := x1.2.2) ?_ (fun h1 => ?_)
  · unfold x1
    exact Same.step (same_readReg ..) rfl (Same.refl _ _)
  clear_value x1
  extract_lets +onlyGivenNames x2
  refine Same.cut (x := x2) ?_ (fun h2 => ?_)
  · unfold x2
    exact (by assumption)
  clear_value x2
  exact Same.step (upd_rd ..) rfl (by assumption)

theorem same_execCounterReadClear (a1 : _) (a2 : _) (a3 : _) (s : State) : SameO 562950221955864 s (execCounterReadClear a1 a2 a3 s) := by
  unfold execCounterReadClear
  refine SameO.next ?_
  refine Same.ite ?_ (Same.refl _ _)
  refine Same.ite (Same.step (same_rcRefill ..) rfl (Same.step (same_readCmd ..) rfl (Same.refl _ _))) ?_
  split
  · exact Same.step (same_modChan ..) rfl (Same.step (same_readCmd ..) rfl (Same.refl _ _))
  · exact Same.refl _ _

theorem same_execLoHalfRead (a1 : _) (a2 : _) (s : State) : SameO 562950221955864 s (execLoHalfRead a1 a2 s) := by
  unfold execLoHalfRead
  exact SameO.next (Same.ite (Same.step (same_readCmd ..) rfl (Same.refl _ _)) (Same.refl _ _))

theorem same_execPgErrRead (a1 : _) (a2 : _) (s : State) : SameO 562950221955864 s (execPgErrRead a1 a2 s) := by
  unfold execPgErrRead
  refine SameO.next ?_
  split
  · exact Same.step (same_readCmd ..) rfl (Same.refl _ _)
  · exact Same.refl _ _

end Sys2Proof.Machine
end

