-- ==== Sys2Proof/Laws/FootRegWrite.lean ====
section
/-! SUPPORT. Footprints of the operations and meanings of Machine/RegWrite.lean: each lemma says once which fields of the
state the function can change. -/

namespace Sys2Proof.Machine

open Sys2Proof

theorem same_auxCfgWrite (a1 : _) (a2 : _) (s : State) : Same 16 s (auxCfgWrite a1 a2 s) := by
  unfold auxCfgWrite
  exact Same.ite (Same.step (same_pgError ..) rfl (Same.refl _ _)) (Same.step (same_setRg ..) rfl (Same.refl _ _))

theorem same_ctrlRefuse (a1 : _) (a2 : _) (s : State) : Same 16 s (ctrlRefuse a1 a2 s) := by
  unfold ctrlRefuse
  exact Same.step (same_pgError ..) rfl (Same.refl _ _)

theorem same_pageCmd {m : Nat} {s x : State} {p : Path} {a : Nat} {f : PageK → Nat → State → State} (hm : 0 ||| m = m)
    (hx : Same m s x) (hf : ∀ k i y, Same m y (f k i y)) : Same m s (pageCmd p a f x) := by
  unfold pageCmd
  split
  · exact Same.ite ((hf _ _ _).trans hx) hx
  · exact hx

theorem same_resetBlock (a1 : _) (a2 : _) (a3 : State) (s : State) : Same 314720989760167962 s (resetBlock a1 a2 a3 s) := by
  unfold resetBlock
  split
  · extract_lets +onlyGivenNames x1
    refine Same.cut (x := x1) ?_ (fun h1 => ?_)
    · unfold x1
      exact Same.step (upd_tmb ..) rfl (Same.refl _ _)
    clear_value x1
    exact Same.step (same_stepScale ..) rfl (Same.step (upd_frame ..) rfl (by assumption))
  · exact Same.step (upd_twn ..) rfl (Same.refl _ _)
  · exact Same.step (upd_bcn ..) rfl (Same.refl _ _)
  · exact Same.step (upd_slots ..) rfl (Same.refl _ _)
  · exact Same.step (same_memSync ..) rfl (same_modMem rfl (fun _ => rfl) (Same.step (same_memTestStop ..) rfl (Same.refl _ _)))
  · exact Same.step (upd_tunits_plans ..) rfl (Same.refl _ _)
  · exact Same.step (upd_gunits ..) rfl (Same.refl _ _)
  · exact Same.step (same_lnCfgApply ..) rfl (Same.step (same_modLane ..) rfl (Same.refl _ _))
  · exact Same.step (same_rteSync ..) rfl (Same.refl _ _)
  · exact Same.step (same_refEnables ..) rfl (Same.forN (Same.refl _ _) (fun _ _ => Same.step (same_modChan ..) rfl (Same.refl _ _)))
  · exact Same.refl _ _

theorem same_softReset (a1 : _) (a2 : _) (s : State) : Same 350749786779132154 s (softReset a1 a2 s) := by
  unfold softReset
  extract_lets +onlyGivenNames x1
  clear_value x1
  extract_lets +onlyGivenNames x2
  clear_value x2
  extract_lets +onlyGivenNames x3
  clear_value x3
  extract_lets +onlyGivenNames x4
  refine Same.cut (x := x4) ?_ (fun h4 => ?_)
  · unfold x4
    exact Same.step (upd_regs_staged_dspPend_dspQ_tst _ (fun h => twf_filter regReset _ _ h)) rfl (Same.refl _ _)
  clear_value x4
  exact Same.step (same_resetBlock ..) rfl (Same.step (same_setRg ..) rfl (by assumption))

theorem same_writeSrst (a1 : _) (a2 : _) (a3 : _) (s : State) : Same 350749786779132154 s (writeSrst a1 a2 a3 s) := by
  unfold writeSrst
  exact Same.ite (Same.step (same_ctrlRefuse ..) rfl (Same.refl _ _)) (Same.ite (Same.refl _ _) (Same.ite (Same.step (same_ctrlRefuse ..) rfl (Same.refl _ _)) (Same.step (same_softReset ..) rfl (Same.refl _ _))))

theorem same_execBlockSoftReset (a1 : _) (a2 : _) (s : State) : SameO 350749786779132154 s (execBlockSoftReset a1 a2 s) := by
  unfold execBlockSoftReset
  exact SameO.next (same_pageCmd rfl (Same.refl _ _) (fun _ _ _ => Same.step (same_writeSrst ..) rfl (Same.refl _ _)))

theorem same_routeSync {m : Nat} {s x : State} {f : State → State} (hm : 32768 ||| m = m) (hx : Same m s x)
    (hf : ∀ y, Same m y (f y)) : Same m s (routeSync f x) := by
  unfold routeSync
  exact Same.ite ((hf _).trans hx) (Same.step (same_evtOwe ..) (orUp (k := 32768) rfl hm) ((hf _).trans hx))

theorem same_ltCmd (a1 : _) (a2 : _) (s : State) : Same 216172782249410576 s (ltCmd a1 a2 s) := by
  unfold ltCmd
  refine Same.ite (Same.step (same_pgError ..) rfl (Same.refl _ _)) ?_
  refine Same.ite (Same.refl _ _) ?_
  split
  · exact Same.step (same_goOpens ..) rfl (Same.refl _ _)
  · exact Same.step (same_goShorts ..) rfl (Same.refl _ _)
  · exact Same.step (same_pgError ..) rfl (Same.refl _ _)

theorem same_slotCfgWrite (a1 : _) (a2 : _) (s : State) : Same 402685968 s (slotCfgWrite a1 a2 s) := by
  unfold slotCfgWrite
  refine Same.ite (Same.refl _ _) ?_
  refine Same.ite (Same.step (same_pgError ..) rfl (Same.refl _ _)) ?_
  extract_lets +onlyGivenNames x1
  refine Same.cut (x := x1) ?_ (fun h1 => ?_)
  · unfold x1
    exact Same.step (same_modSlot ..) rfl (Same.step (same_setRg ..) rfl (Same.refl _ _))
  clear_value x1
  exact Same.ite (Same.step (same_slotGo ..) rfl (by assumption)) (by assumption)

theorem same_writeHeld {m : Nat} {s x : State} {b : Bool} {k : PageK} {f : State → State} (hm : 16 ||| m = m) (hx : Same m s x)
    (hf : ∀ y, Same m y (f y)) : Same m s (writeHeld b k f x) := by
  unfold writeHeld
  exact Same.ite (Same.step (same_pgError ..) (orUp (k := 16) rfl hm) hx) ((hf _).trans hx)

theorem same_writePlain (a1 : _) (a2 : _) (a3 : _) (a4 : _) (a5 : _) (s : State) : Same 16432 s (writePlain a1 a2 a3 a4 a5 s) := by
  unfold writePlain
  extract_lets +onlyGivenNames x1
  refine Same.cut (x := x1) ?_ (fun h1 => ?_)
  · unfold x1
    exact Same.ite (Same.refl _ _) (Same.step (same_setRg ..) rfl (Same.refl _ _))
  clear_value x1
  extract_lets +onlyGivenNames x2
  refine Same.cut (x := x2) ?_ (fun h2 => ?_)
  · unfold x2
    exact Same.ite (by assumption) (Same.step (same_setRg ..) rfl (by assumption))
  clear_value x2
  refine Same.ite (by assumption) ?_
  extract_lets +onlyGivenNames x3
  refine Same.cut (x := x3.2) ?_ (fun h3 => ?_)
  · unfold x3
    exact Same.step (same_stageWrite ..) rfl (by assumption)
  clear_value x3
  exact Same.ite (by assumption) (Same.step (same_pgError ..) rfl (by assumption))

theorem same_writeBlock (a1 : _) (a2 : _) (a3 : _) (a4 : _) (a5 : _) (a6 : _) (s : State) : Same 531401784264478776 s (writeBlock a1 a2 a3 a4 a5 a6 s).2 := by
  unfold writeBlock
  extract_lets +onlyGivenNames x1
  clear_value x1
  extract_lets +onlyGivenNames x2
  split
  · refine Same.pair ?_
    refine same_routeSync rfl (Same.refl _ _) (fun _ => ?_)
    unfold x2
    beta_reduce
    exact Same.step (same_writePlain ..) rfl (Same.refl _ _)
  · refine Same.pair ?_
    refine Same.ite (Same.step (same_cmtCtrl ..) rfl (Same.refl _ _)) ?_
    unfold x2
    beta_reduce
    exact Same.step (same_writePlain ..) rfl (Same.refl _ _)
  · refine Same.pair ?_
    refine Same.ite (Same.ite (Same.step (same_takeSnap ..) rfl (Same.refl _ _)) (Same.refl _ _)) ?_
    refine Same.ite (Same.step (same_todWrite ..) rfl (Same.refl _ _)) ?_
    refine Same.ite (Same.step (same_evtArmW ..) rfl (Same.refl _ _)) ?_
    refine Same.ite (Same.step (same_evtDrop ..) rfl (Same.refl _ _)) ?_
    refine Same.ite ?_ ?_
    · refine same_writeHeld rfl (Same.refl _ _) (fun _ => ?_)
      unfold x2
      beta_reduce
      exact Same.step (same_writePlain ..) rfl (Same.refl _ _)
    · unfold x2
      beta_reduce
      exact Same.step (same_writePlain ..) rfl (Same.refl _ _)
  · refine Same.pair ?_
    refine Same.ite (Same.step (same_twnCtrl ..) rfl (Same.refl _ _)) ?_
    unfold x2
    beta_reduce
    exact Same.step (same_writePlain ..) rfl (Same.refl _ _)
  · refine Same.pair ?_
    refine Same.ite (Same.step (same_diagCmd ..) rfl (Same.refl _ _)) ?_
    refine Same.ite (Same.step (same_tdataWrite ..) rfl (Same.refl _ _)) ?_
    split
    · exact Same.step (same_schCtl ..) rfl (Same.refl _ _)
    · refine Same.ite ?_ ?_
      · refine same_writeHeld rfl (Same.refl _ _) (fun _ => ?_)
        unfold x2
        beta_reduce
        exact Same.step (same_writePlain ..) rfl (Same.refl _ _)
      · unfold x2
        beta_reduce
        exact Same.step (same_writePlain ..) rfl (Same.refl _ _)
  · refine Same.pair ?_
    split
    · exact Same.step (same_auxCfgWrite ..) rfl (Same.refl _ _)
    · exact Same.step (same_slotCfgWrite ..) rfl (Same.refl _ _)
    · unfold x2
      beta_reduce
      exact Same.step (same_writePlain ..) rfl (Same.refl _ _)
  · split
    · exact Same.pair (Same.step (same_bankAssign ..) rfl (Same.refl _ _))
    · refine Same.iteSnd (Same.step (same_hdataWrite ..) rfl (Same.refl _ _)) ?_
      refine Same.pair ?_
      refine Same.ite (Same.step (same_haddrWrite ..) rfl (Same.refl _ _)) ?_
      refine Same.ite (same_modMem rfl (fun _ => rfl) (Same.refl _ _)) ?_
      refine Same.ite (Same.step (same_memTestWrite ..) rfl (Same.refl _ _)) ?_
      refine Same.ite (Same.step (same_repairGo ..) rfl (Same.refl _ _)) ?_
      unfold x2
      beta_reduce
      exact Same.step (same_writePlain ..) rfl (Same.refl _ _)
  · refine Same.pair ?_
    refine Same.ite (Same.step (same_flushWrite ..) rfl (Same.refl _ _)) ?_
    refine Same.ite (Same.ite (Same.step (same_rwdGo ..) rfl (Same.refl _ _)) (Same.refl _ _)) ?_
    unfold x2
    beta_reduce
    exact Same.step (same_writePlain ..) rfl (Same.refl _ _)
  · refine Same.pair ?_
    refine Same.ite (Same.step (same_arcCtrl ..) rfl (Same.refl _ _)) ?_
    refine Same.ite (Same.step (same_dcmpCtrl ..) rfl (Same.refl _ _)) ?_
    refine Same.ite ?_ ?_
    · refine same_writeHeld rfl (Same.refl _ _) (fun _ => ?_)
      unfold x2
      beta_reduce
      exact Same.step (same_writePlain ..) rfl (Same.refl _ _)
    · refine Same.ite ?_ ?_
      · refine same_writeHeld rfl (Same.refl _ _) (fun _ => ?_)
        unfold x2
        beta_reduce
        exact Same.step (same_writePlain ..) rfl (Same.refl _ _)
      · unfold x2
        beta_reduce
        exact Same.step (same_writePlain ..) rfl (Same.refl _ _)
  · refine Same.pair ?_
    refine Same.ite (Same.ite (Same.step (same_forceGo ..) rfl (Same.refl _ _)) (Same.refl _ _)) ?_
    split
    · refine same_writeHeld rfl (Same.refl _ _) (fun _ => ?_)
      unfold x2
      beta_reduce
      exact Same.step (same_writePlain ..) rfl (Same.refl _ _)
    · exact Same.step (same_cpCtrl ..) rfl (Same.refl _ _)
    · unfold x2
      beta_reduce
      exact Same.step (same_writePlain ..) rfl (Same.refl _ _)
  · refine Same.pair ?_
    refine Same.ite (Same.step (same_idataWrite ..) rfl (Same.refl _ _)) ?_
    refine Same.ite (Same.ite (Same.step (same_copyGo ..) rfl (Same.refl _ _)) (Same.refl _ _)) ?_
    split
    · refine Same.ite (Same.step (same_pgError ..) rfl (Same.refl _ _)) ?_
      unfold x2
      beta_reduce
      exact Same.step (same_writePlain ..) rfl (Same.refl _ _)
    · exact Same.step (same_tsealWrite ..) rfl (Same.refl _ _)
    · unfold x2
      beta_reduce
      exact Same.step (same_writePlain ..) rfl (Same.refl _ _)
  · refine Same.pair ?_
    refine Same.ite (Same.step (same_lnCtrl ..) rfl (Same.refl _ _)) ?_
    refine Same.ite (Same.step (same_prbsWrite ..) rfl (Same.refl _ _)) ?_
    unfold x2
    beta_reduce
    exact Same.step (same_writePlain ..) rfl (Same.refl _ _)
  · refine Same.pair ?_
    refine Same.ite (Same.step (same_ltCmd ..) rfl (Same.refl _ _)) ?_
    unfold x2
    beta_reduce
    exact Same.step (same_writePlain ..) rfl (Same.refl _ _)
  · refine Same.pair ?_
    refine Same.ite (Same.step (same_cdataWrite ..) rfl (Same.refl _ _)) ?_
    refine Same.ite (Same.step (same_csealWrite ..) rfl (Same.refl _ _)) ?_
    unfold x2
    beta_reduce
    exact Same.step (same_writePlain ..) rfl (Same.refl _ _)
  · exact Same.pair (Same.step (same_pgError ..) rfl (Same.refl _ _))
  · exact Same.pair (Same.refl _ _)
  · refine Same.pair ?_
    unfold x2
    beta_reduce
    exact Same.step (same_writePlain ..) rfl (Same.refl _ _)

theorem same_writeEn (a1 : _) (a2 : _) (a3 : _) (a4 : _) (s : State) : Same 16 s (writeEn a1 a2 a3 a4 s) := by
  unfold writeEn
  exact Same.ite (Same.refl _ _) (Same.ite (Same.step (same_ctrlRefuse ..) rfl (Same.refl _ _)) (Same.step (same_setRg ..) rfl (Same.refl _ _)))

theorem same_writeMode (a1 : _) (a2 : _) (a3 : _) (s : State) : Same 16 s (writeMode a1 a2 a3 s) := by
  unfold writeMode
  exact Same.ite (Same.refl _ _) (Same.ite (Same.step (same_ctrlRefuse ..) rfl (Same.refl _ _)) (Same.step (same_setRg ..) rfl (Same.refl _ _)))

theorem same_writeCtrl (a1 : _) (a2 : _) (a3 : _) (s : State) : Same 350749786779132154 s (writeCtrl a1 a2 a3 s) := by
  unfold writeCtrl
  extract_lets +onlyGivenNames x1
  clear_value x1
  extract_lets +onlyGivenNames x2
  refine Same.cut (x := x2) ?_ (fun h2 => ?_)
  · unfold x2
    exact Same.step (same_writeEn ..) rfl (Same.step (same_writeMode ..) rfl (Same.refl _ _))
  clear_value x2
  exact Same.ite (Same.step (same_writeSrst ..) rfl (by assumption)) (by assumption)

theorem same_writeHead (a1 : _) (a2 : _) (a3 : _) (a4 : _) (s : State) : Same 350749786779132154 s (writeHead a1 a2 a3 a4 s) := by
  unfold writeHead
  exact Same.ite (Same.step (same_writeCtrl ..) rfl (Same.refl _ _)) (Same.ite (Same.step (same_irqClear ..) rfl (Same.refl _ _)) (Same.ite (Same.step (same_evtNote ..) rfl (Same.step (same_setRg ..) rfl (Same.refl _ _))) (Same.ite (Same.step (same_perturbReg ..) rfl (Same.refl _ _)) (Same.refl _ _))))

theorem same_writeReg (a1 : _) (a2 : _) (a3 : _) (a4 : _) (s : State) : Same 567452573764153594 s (writeReg a1 a2 a3 a4 s).2 := by
  unfold writeReg
  split
  · exact Same.pair (Same.refl _ _)
  · extract_lets +onlyGivenNames x1
    clear_value x1
    exact Same.iteSnd (Same.pair (Same.refl _ _)) (Same.iteSnd (Same.pair (Same.step (same_writeHead ..) rfl (Same.refl _ _))) (Same.iteSnd (Same.pair (Same.step (same_pgError ..) rfl (Same.refl _ _))) (Same.step (same_writeBlock ..) rfl (Same.refl _ _))))

theorem same_execPgEnableWrite (a1 : _) (a2 : _) (a3 : _) (s : State) : SameO 16 s (execPgEnableWrite a1 a2 a3 s) := by
  unfold execPgEnableWrite
  exact SameO.next (same_pageCmd rfl (Same.refl _ _) (fun _ _ _ => Same.step (same_writeEn ..) rfl (Same.refl _ _)))

theorem same_execPgIrqClear (a1 : _) (a2 : _) (a3 : _) (a4 : _) (s : State) : SameO 32784 s (execPgIrqClear a1 a2 a3 a4 s) := by
  unfold execPgIrqClear
  exact SameO.next (same_pageCmd rfl (Same.refl _ _) (fun _ _ _ => Same.step (same_irqClear ..) rfl (Same.refl _ _)))

theorem same_execPgModeWrite (a1 : _) (a2 : _) (a3 : _) (s : State) : SameO 16 s (execPgModeWrite a1 a2 a3 s) := by
  unfold execPgModeWrite
  exact SameO.next (same_pageCmd rfl (Same.refl _ _) (fun _ _ _ => Same.step (same_writeMode ..) rfl (Same.refl _ _)))

theorem same_execRegisterWrite (a1 : _) (a2 : _) (a3 : _) (s : State) : SameO 567452573764153594 s (execRegisterWrite a1 a2 a3 s) := by
  unfold execRegisterWrite
  exact SameO.next (Same.ite (Same.step (same_writeReg ..) rfl (Same.refl _ _)) (Same.refl _ _))

theorem same_tstaccRead (a1 : _) (s : State) : Same 528 s (tstaccRead a1 s) := by
  unfold tstaccRead
  extract_lets +onlyGivenNames x1
  clear_value x1
  extract_lets +onlyGivenNames x2
  refine Same.cut (x := x2) ?_ (fun h2 => ?_)
  · unfold x2
    exact Same.step (upd_rd ..) rfl (Same.refl _ _)
  clear_value x2
  exact Same.ite (Same.step (same_setRg ..) rfl (by assumption)) (by assumption)

theorem same_tstaccWrite (a1 : _) (a2 : _) (s : State) : Same 36028797018996752 s (tstaccWrite a1 a2 s) := by
  unfold tstaccWrite
  refine Same.ite (Same.step (same_lockWrite ..) rfl (Same.refl _ _)) ?_
  refine Same.ite (Same.step (same_tmoWrite ..) rfl (Same.refl _ _)) ?_
  extract_lets +onlyGivenNames x1
  refine Same.cut (x := x1) ?_ (fun h1 => ?_)
  · unfold x1
    exact Same.step (same_modTst ..) rfl (Same.refl _ _)
  clear_value x1
  exact Same.ite (Same.step (same_irqClear ..) rfl (by assumption)) (Same.ite (Same.step (same_evtNote ..) rfl (Same.step (same_setRg ..) rfl (by assumption))) (Same.ite (Same.step (same_perturbReg ..) rfl (by assumption)) (Same.ite (Same.step (same_ctrlRefuse ..) rfl (by assumption)) (by assumption))))

theorem same_execTstLockWrite (a1 : _) (a2 : _) (s : State) : SameO 36028797018997264 s (execTstLockWrite a1 a2 s) := by
  unfold execTstLockWrite
  refine SameO.next ?_
  refine Same.ite ?_ (Same.refl _ _)
  split
  · exact Same.step (same_tstaccWrite ..) rfl (Same.refl _ _)
  · exact Same.step (same_tstaccRead ..) rfl (Same.refl _ _)

end Sys2Proof.Machine
end

