-- ==== Sys2Proof/Laws/FootHostPort.lean ====
section
/-! SUPPORT. Footprints of the operations and meanings of Machine/HostPort.lean: each lemma says once which fields of the
state the function can change. -/

namespace Sys2Proof.Machine

open Sys2Proof

theorem same_modHst (a1 : _) (s : State) : Same 18014398509481984 s (modHst a1 s) := by
  unfold modHst
  exact Same.step (upd_hst ..) rfl (Same.refl _ _)

theorem same_hostNp (a1 : _) (a2 : _) (s : State) : Same 18014398509514768 s (hostNp a1 a2 s) := by
  unfold hostNp
  exact Same.step (same_raise ..) rfl (Same.step (same_bump ..) rfl (Same.step (same_modHst ..) rfl (Same.refl _ _)))

theorem same_hostDone (a1 : _) (s : State) : Same 18014398509481984 s (hostDone a1 s) := by
  unfold hostDone
  exact Same.step (same_modHst ..) rfl (Same.refl _ _)

theorem same_writeBurst (a1 : _) (a2 : _) (a3 : _) (a4 : _) (a5 : _) (s : State) : Same 567452573764153594 s (writeBurst a1 a2 a3 a4 a5 s).2 := by
  induction a4 generalizing a5 s with
  | nil => exact Same.refl _ _
  | cons b n ih =>
    unfold writeBurst
    extract_lets +onlyGivenNames x1
    refine Same.cut (x := x1.2) ?_ (fun h1 => ?_)
    · unfold x1
      exact Same.step (same_writeReg ..) rfl (Same.refl _ _)
    clear_value x1
    exact Same.iteSnd (Same.pair (by assumption)) (Same.step (ih ..) rfl (by assumption))

theorem same_hostWrite (a1 : _) (a2 : _) (a3 : _) (a4 : _) (s : State) : Same 567452573764153594 s (hostWrite a1 a2 a3 a4 s) := by
  unfold hostWrite
  split
  · exact Same.step (same_hostNp ..) rfl (Same.refl _ _)
  · extract_lets +onlyGivenNames x1
    refine Same.cut (x := x1.2) ?_ (fun h1 => ?_)
    · unfold x1
      exact Same.step (same_writeBurst ..) rfl (Same.refl _ _)
    clear_value x1
    exact Same.ite (Same.step (same_hostDone ..) rfl (by assumption)) (Same.step (same_hostNp ..) rfl (by assumption))

theorem same_hostCut (a1 : _) (a2 : _) (a3 : _) (s : State) : Same 567452573764153594 s (hostCut a1 a2 a3 s) := by
  unfold hostCut
  exact Same.ite (Same.step (same_hostNp ..) rfl (Same.refl _ _)) (Same.step (same_hostWrite ..) rfl (Same.refl _ _))

theorem same_hostTx {m : Nat} {s x : State} {f : State → State} (hm : 18014398509514768 ||| m = m) (hx : Same m s x)
    (hf : ∀ y, Same m y (f y)) : Same m s (hostTx f x) := by
  unfold hostTx
  exact Same.ite hx (Same.ite ((hf _).trans hx) (Same.step (same_hostNp ..) (orUp (k := 18014398509514768) rfl hm) hx))

theorem same_execHostCsAbort (a1 : _) (a2 : _) (s : State) : SameO 567452573764153594 s (execHostCsAbort a1 a2 s) := by
  unfold execHostCsAbort
  refine SameO.next ?_
  refine same_hostTx rfl (Same.refl _ _) (fun _ => ?_)
  split
  · exact Same.step (same_hostCut ..) rfl (Same.refl _ _)
  · exact Same.step (same_hostNp ..) rfl (Same.refl _ _)

theorem same_mbPop (a1 : _) (s : State) : Same 18014398509514768 s (mbPop a1 s) := by
  unfold mbPop
  split
  · exact Same.step (same_hostDone ..) rfl (Same.refl _ _)
  · extract_lets +onlyGivenNames x1
    clear_value x1
    exact Same.ite (Same.step (same_hostNp ..) rfl (Same.refl _ _)) (Same.step (same_hostDone ..) rfl (Same.step (same_bump ..) rfl (Same.step (same_modHst ..) rfl (Same.refl _ _))))

theorem same_execHostMbpop (a1 : _) (s : State) : SameO 18014398509514768 s (execHostMbpop a1 s) := by
  unfold execHostMbpop
  exact SameO.next (same_hostTx rfl (Same.refl _ _) (fun _ => Same.step (same_mbPop ..) rfl (Same.refl _ _)))

theorem same_mbPush (a1 : _) (s : State) : Same 18014398509514768 s (mbPush a1 s) := by
  unfold mbPush
  exact Same.ite (Same.step (same_hostNp ..) rfl (Same.refl _ _)) (Same.step (same_hostDone ..) rfl (Same.step (same_bump ..) rfl (Same.step (same_modHst ..) rfl (Same.refl _ _))))

theorem same_execHostMbpush (a1 : _) (s : State) : SameO 18014398509514768 s (execHostMbpush a1 s) := by
  unfold execHostMbpush
  exact SameO.next (same_hostTx rfl (Same.refl _ _) (fun _ => Same.step (same_mbPush ..) rfl (Same.refl _ _)))

theorem same_freeWords (a1 : _) (s : State) : Same 8 s (freeWords a1 s).2 := by
  unfold freeWords
  exact Same.pair (Same.step (upd_freeIdx ..) rfl (Same.refl _ _))

theorem same_readBurst (a1 : _) (a2 : _) (a3 : _) (a4 : _) (a5 : _) (s : State) : Same 562950221955352 s (readBurst a1 a2 a3 a4 a5 s).2 := by
  induction a4 generalizing a5 s with
  | zero => exact Same.refl _ _
  | succ n ih =>
    unfold readBurst
    extract_lets +onlyGivenNames x1
    refine Same.cut (x := x1.2.2) ?_ (fun h1 => ?_)
    · unfold x1
      exact Same.step (same_readReg ..) rfl (Same.refl _ _)
    clear_value x1
    refine Same.iteSnd (Same.pair (by assumption)) ?_
    extract_lets +onlyGivenNames x2
    refine Same.cut (x := x2.2) ?_ (fun h2 => ?_)
    · unfold x2
      exact Same.step (ih ..) rfl (by assumption)
    clear_value x2
    exact Same.pair (by assumption)

theorem same_hostRead (a1 : _) (a2 : _) (s : State) : Same 18577348731437848 s (hostRead a1 a2 s) := by
  unfold hostRead
  split
  · exact Same.step (same_hostNp ..) rfl (Same.refl _ _)
  · extract_lets +onlyGivenNames x1
    refine Same.cut (x := x1.2) ?_ (fun h1 => ?_)
    · unfold x1
      exact Same.step (same_readBurst ..) rfl (Same.refl _ _)
    clear_value x1
    extract_lets +onlyGivenNames x2
    clear_value x2
    extract_lets +onlyGivenNames x3
    refine Same.cut (x := x3.2) ?_ (fun h3 => ?_)
    · unfold x3
      exact Same.step (same_freeWords ..) rfl (by assumption)
    clear_value x3
    extract_lets +onlyGivenNames x4
    clear_value x4
    extract_lets +onlyGivenNames x5
    refine Same.cut (x := x5) ?_ (fun h5 => ?_)
    · unfold x5
      exact (by assumption)
    clear_value x5
    extract_lets +onlyGivenNames x6
    refine Same.cut (x := x6) ?_ (fun h6 => ?_)
    · unfold x6
      exact Same.step (upd_rd ..) rfl (by assumption)
    clear_value x6
    exact Same.ite (Same.step (same_hostDone ..) rfl (by assumption)) (Same.step (same_hostNp ..) rfl (by assumption))

theorem same_execHostRd (a1 : _) (a2 : _) (s : State) : SameO 18577348731437848 s (execHostRd a1 a2 s) := by
  unfold execHostRd
  exact SameO.next (same_hostTx rfl (Same.refl _ _) (fun _ => Same.step (same_hostRead ..) rfl (Same.refl _ _)))

theorem same_execHostRdsr (s : State) : SameO 18014398509482496 s (execHostRdsr s) := by
  unfold execHostRdsr
  refine SameO.next ?_
  refine Same.ite ?_ (Same.refl _ _)
  extract_lets +onlyGivenNames x1
  clear_value x1
  exact Same.step (same_hostDone ..) rfl (Same.step (upd_rd ..) rfl (Same.refl _ _))

theorem same_genSet (a1 : _) (s : State) : Same 18014398509482000 s (genSet a1 s) := by
  unfold genSet
  exact Same.ite (Same.refl _ _) (Same.step (same_bump ..) rfl (Same.step (same_modHst ..) rfl (Same.refl _ _)))

theorem same_execHostRstgen (s : State) : SameO 18014398509482000 s (execHostRstgen s) := by
  unfold execHostRstgen
  exact SameO.next (Same.ite (Same.step (same_hostDone ..) rfl (Same.step (same_genSet ..) rfl (Same.refl _ _))) (Same.refl _ _))

theorem same_execHostSetgen (a1 : _) (s : State) : SameO 18014398509482000 s (execHostSetgen a1 s) := by
  unfold execHostSetgen
  exact SameO.next (Same.ite (Same.step (same_hostDone ..) rfl (Same.ite (Same.step (same_genSet ..) rfl (Same.refl _ _)) (Same.refl _ _))) (Same.refl _ _))

theorem same_execHostUnknownInstr (a1 : _) (s : State) : SameO 18014398509514768 s (execHostUnknownInstr a1 s) := by
  unfold execHostUnknownInstr
  exact SameO.next (Same.ite (Same.ite (Same.step (same_hostDone ..) rfl (Same.step (same_genSet ..) rfl (Same.refl _ _))) (Same.ite (Same.refl _ _) (Same.step (same_hostNp ..) rfl (Same.refl _ _)))) (Same.refl _ _))

theorem same_execHostWr (a1 : _) (a2 : _) (a3 : _) (s : State) : SameO 567452573764153594 s (execHostWr a1 a2 a3 s) := by
  unfold execHostWr
  exact SameO.next (same_hostTx rfl (Same.refl _ _) (fun _ => Same.step (same_hostWrite ..) rfl (Same.refl _ _)))

end Sys2Proof.Machine
end

