-- ==== Sys2Proof/Laws/FootImage.lean ====
section
/-! SUPPORT. Footprints of the operations and meanings of Machine/Image.lean: each lemma says once which fields of the
state the function can change. -/

namespace Sys2Proof.Machine

open Sys2Proof

theorem same_bankFill (a1 : _) (a2 : _) (a3 : _) (a4 : _) (a5 : _) (a6 : _) (s : State) : Same 1610645520 s (bankFill a1 a2 a3 a4 a5 a6 s).2 := by
  unfold bankFill
  extract_lets +onlyGivenNames x1
  refine Same.cut (x := x1) ?_ (fun h1 => ?_)
  · unfold x1
    exact Same.foldl (Same.refl _ _) (fun _ _ => Same.step (same_putCoef ..) rfl (Same.refl _ _))
  clear_value x1
  extract_lets +onlyGivenNames x2
  clear_value x2
  exact Same.iteSnd (Same.pair (Same.step (same_bump ..) rfl (Same.step (same_raise ..) rfl (Same.step (upd_cbanks ..) rfl (by assumption))))) (Same.pair (Same.step (same_raise ..) rfl (Same.step (same_pgError ..) rfl (by assumption))))

theorem same_imgStore (a1 : _) (a2 : _) (a3 : _) (s : State) : Same 306807724614615040 s (imgStore a1 a2 a3 s) := by
  unfold imgStore
  refine Same.ite ?_ (Same.step (same_memStore ..) rfl (Same.refl _ _))
  extract_lets +onlyGivenNames x1
  clear_value x1
  exact Same.step (upd_hst ..) rfl (Same.refl _ _)

theorem same_imgPut (a1 : _) (a2 : _) (a3 : _) (s : State) : Same 562949953454096 s (imgPut a1 a2 a3 s).2 := by
  unfold imgPut
  split
  · exact Same.step (same_bankAssign ..) rfl (Same.refl _ _)
  · exact Same.iteSnd (Same.pair (Same.refl _ _)) (Same.pair (Same.step (same_setRg ..) rfl (Same.refl _ _)))
  · exact Same.pair (same_routeSync rfl (Same.refl _ _) (fun _ => Same.step (same_setRg ..) rfl (Same.refl _ _)))
  · exact Same.pair (Same.step (same_setRg ..) rfl (Same.refl _ _))

theorem same_imgEntry (a1 : _) (a2 : _) (a3 : _) (s : State) : Same 562949953470512 s (imgEntry a1 a2 a3 s).2 := by
  unfold imgEntry
  split
  · exact Same.pair (Same.refl _ _)
  · exact Same.iteSnd (Same.pair (Same.refl _ _)) (Same.iteSnd (Same.step (same_stageWrite ..) rfl (Same.refl _ _)) (Same.iteSnd (Same.step (same_imgPut ..) rfl (Same.refl _ _)) (Same.pair (Same.refl _ _))))

theorem same_imgApply (a1 : _) (a2 : _) (s : State) : Same 562949953470512 s (imgApply a1 a2 s).2.2.2 := by
  unfold imgApply
  refine Same.foldlSnd3 (Same.pair3 (Same.pair2 (Same.pair (Same.refl _ _)))) (fun _ _ => ?_)
  refine Same.iteSnd3 (Same.refl _ _) ?_
  extract_lets +onlyGivenNames x1
  refine Same.cut (x := x1.2) ?_ (fun h1 => ?_)
  · unfold x1
    exact Same.step (same_imgEntry ..) rfl (Same.refl _ _)
  clear_value x1
  exact Same.iteSnd3 (Same.pair3 (Same.pair2 (Same.pair (by assumption)))) (Same.pair3 (Same.pair2 (Same.pair (by assumption))))

theorem same_imgBank (a1 : _) (s : State) : Same 1610645520 s (imgBank a1 s).2.2 := by
  unfold imgBank
  extract_lets +onlyGivenNames x1
  clear_value x1
  extract_lets +onlyGivenNames x2
  clear_value x2
  extract_lets +onlyGivenNames x3
  clear_value x3
  extract_lets +onlyGivenNames x4
  clear_value x4
  extract_lets +onlyGivenNames x5
  clear_value x5
  refine Same.iteSnd2 (Same.pair2 (Same.pair (Same.refl _ _))) ?_
  refine Same.iteSnd2 (Same.pair2 (Same.pair (Same.refl _ _))) ?_
  split
  · exact Same.iteSnd2 (Same.pair2 (Same.pair (Same.refl _ _))) (Same.pair2 (Same.pair (Same.refl _ _)))
  · extract_lets +onlyGivenNames x6
    refine Same.cut (x := x6.2) ?_ (fun h6 => ?_)
    · unfold x6
      exact Same.step (same_bankFill ..) rfl (Same.refl _ _)
    clear_value x6
    exact Same.pair2 (Same.pair (by assumption))

theorem same_linFill (a1 : _) (a2 : _) (s : State) : Same 34359738368 s (linFill a1 a2 s) := by
  unfold linFill
  exact Same.foldl (Same.refl _ _) (fun _ _ => Same.step (same_linPut ..) rfl (Same.refl _ _))

theorem same_imgPage (a1 : _) (s : State) : Same 34359738368 s (imgPage a1 s).2.2.2 := by
  unfold imgPage
  extract_lets +onlyGivenNames x1
  clear_value x1
  extract_lets +onlyGivenNames x2
  clear_value x2
  exact Same.iteSnd3 (Same.pair3 (Same.pair2 (Same.pair (Same.refl _ _)))) (Same.iteSnd3 (Same.pair3 (Same.pair2 (Same.pair (Same.refl _ _)))) (Same.iteSnd3 (Same.pair3 (Same.pair2 (Same.pair (Same.refl _ _)))) (Same.iteSnd3 (Same.pair3 (Same.pair2 (Same.pair (Same.refl _ _)))) (Same.pair3 (Same.pair2 (Same.pair (Same.step (same_linFill ..) rfl (Same.refl _ _))))))))

theorem same_imgTbl (a1 : _) (s : State) : Same 34359771152 s (imgTbl a1 s).2.2 := by
  unfold imgTbl
  extract_lets +onlyGivenNames x1
  clear_value x1
  extract_lets +onlyGivenNames x2
  clear_value x2
  extract_lets +onlyGivenNames x3
  clear_value x3
  refine Same.iteSnd2 (Same.pair2 (Same.pair (Same.refl _ _))) ?_
  refine Same.iteSnd2 (Same.pair2 (Same.pair (Same.refl _ _))) ?_
  refine Same.iteSnd2 (Same.iteSnd2 (Same.pair2 (Same.pair (Same.refl _ _))) (Same.pair2 (Same.pair (Same.refl _ _)))) ?_
  extract_lets +onlyGivenNames x4
  refine Same.cut (x := x4) ?_ (fun h4 => ?_)
  · unfold x4
    exact Same.step (same_linFill ..) rfl (Same.step (same_setRg ..) rfl (Same.refl _ _))
  clear_value x4
  extract_lets +onlyGivenNames x5
  clear_value x5
  exact Same.iteSnd2 (Same.pair2 (Same.pair (Same.step (same_raise ..) rfl (Same.step (upd_lin ..) rfl (by assumption))))) (Same.pair2 (Same.pair (Same.step (same_raise ..) rfl (Same.step (same_pgError ..) rfl (by assumption)))))

theorem same_imgBanks (a1 : _) (s : State) : Same 35970383888 s (imgBanks a1 s).2.2.2 := by
  unfold imgBanks
  refine Same.foldlSnd3 (Same.pair3 (Same.pair2 (Same.pair (Same.refl _ _)))) (fun _ _ => ?_)
  refine Same.iteSnd3 (Same.refl _ _) ?_
  split
  · exact Same.pair3 (Same.step (same_imgBank ..) rfl (Same.refl _ _))
  · exact Same.step (same_imgPage ..) rfl (Same.refl _ _)
  · exact Same.pair3 (Same.step (same_imgTbl ..) rfl (Same.refl _ _))
  · exact Same.refl _ _

theorem same_imageTake (a1 : _) (a2 : _) (s : State) : Same 562985923821616 s (imageTake a1 a2 s).2.2 := by
  unfold imageTake
  extract_lets +onlyGivenNames x1
  clear_value x1
  refine Same.iteSnd2 (Same.pair2 (Same.pair (Same.refl _ _))) ?_
  extract_lets +onlyGivenNames x2
  refine Same.cut (x := x2.2.2.2) ?_ (fun h2 => ?_)
  · unfold x2
    exact Same.step (same_imgBanks ..) rfl (Same.refl _ _)
  clear_value x2
  extract_lets +onlyGivenNames x3
  refine Same.iteSnd2 (Same.pair2 (Same.pair (by assumption))) ?_
  extract_lets +onlyGivenNames x4
  refine Same.cut (x := x4.2.2.2) ?_ (fun h4 => ?_)
  · unfold x4
    exact Same.step (same_imgApply ..) rfl (by assumption)
  clear_value x4
  exact Same.pair2 (Same.pair (Same.step (same_modCmt ..) rfl (by assumption)))

theorem same_resyncDone (s : State) : Same 2251799813722128 s (resyncDone s) := by
  unfold resyncDone
  exact Same.step (same_raise ..) rfl (Same.step (same_bump ..) rfl (Same.step (same_setHub ..) rfl (Same.step (same_modTwn ..) rfl (Same.refl _ _))))

theorem same_resyncTo (a1 : _) (s : State) : Same 2251799813685248 s (resyncTo a1 s) := by
  unfold resyncTo
  exact Same.step (same_modTwn ..) rfl (Same.refl _ _)

theorem same_stageFirst (s : State) : Same 32 s (stageFirst s) := by
  unfold stageFirst
  extract_lets +onlyGivenNames x1
  refine Same.cut (x := x1) ?_ (fun h1 => ?_)
  · unfold x1
    exact Same.forN (Same.refl _ _) (fun _ _ => Same.step (same_setStg ..) rfl (Same.refl _ _))
  clear_value x1
  exact Same.forN (by assumption) (fun _ _ => Same.step (same_setStg ..) rfl (Same.refl _ _))

theorem same_stageSecond (s : State) : Same 32 s (stageSecond s) := by
  unfold stageSecond
  exact Same.forL (Same.refl _ _) (fun _ _ => Same.step (same_setStg ..) rfl (Same.refl _ _))

theorem same_resyncAdvance (s : State) : Same 2251868667433008 s (resyncAdvance s) := by
  unfold resyncAdvance
  split
  · exact Same.ite (Same.step (same_resyncOpen ..) rfl (Same.refl _ _)) (Same.ite (Same.step (same_resyncTo ..) rfl (Same.refl _ _)) (Same.refl _ _))
  · exact Same.ite (Same.step (same_resyncTo ..) rfl (Same.step (same_ownArm ..) rfl (Same.step (same_stageFirst ..) rfl (Same.step (same_modCmt ..) rfl (Same.refl _ _))))) (Same.refl _ _)
  · exact Same.ite (Same.step (same_resyncTo ..) rfl (Same.refl _ _)) (Same.refl _ _)
  · extract_lets +onlyGivenNames x1
    refine Same.cut (x := x1) ?_ (fun h1 => ?_)
    · unfold x1
      exact Same.ite (Same.refl _ _) (Same.step (same_nonOwn ..) rfl (Same.refl _ _))
    clear_value x1
    refine Same.ite ?_ (by assumption)
    extract_lets +onlyGivenNames x2
    refine Same.cut (x := x2.2) ?_ (fun h2 => ?_)
    · unfold x2
      exact Same.step (same_sessionOpen ..) rfl (by assumption)
    clear_value x2
    extract_lets +onlyGivenNames x3
    clear_value x3
    exact Same.ite (Same.step (same_resyncTo ..) rfl (Same.step (same_ownArm ..) rfl (Same.step (same_stageSecond ..) rfl (Same.step (same_modCmt ..) rfl (by assumption))))) (by assumption)
  · exact Same.ite (Same.step (same_resyncTo ..) rfl (Same.refl _ _)) (Same.refl _ _)
  · exact Same.ite (Same.step (same_resyncTo ..) rfl (Same.refl _ _)) (Same.refl _ _)
  · exact Same.ite (Same.step (same_resyncDone ..) rfl (Same.refl _ _)) (Same.refl _ _)
  · exact Same.refl _ _

theorem same_execResyncPhaseAdvance (s : State) : SameO 2814818620854320 s (execResyncPhaseAdvance s) := by
  unfold execResyncPhaseAdvance
  exact SameO.next (Same.ite (Same.step (same_memSync ..) rfl (Same.step (same_resyncAdvance ..) rfl (Same.refl _ _))) (Same.refl _ _))

end Sys2Proof.Machine
end

