-- ==== Sys2Proof/Laws/FootOnapen.lean ====
section
/-! SUPPORT. Footprints of the operations and meanings of Machine/Onapen.lean: each lemma says once which fields of the
state the function can change. -/

namespace Sys2Proof.Machine

open Sys2Proof

theorem same_badDone (s : State) : Same 216172782113783824 s (badDone s) := by
  unfold badDone
  exact Same.forL (Same.refl _ _) (fun _ _ => Same.step (same_finish ..) rfl (Same.refl _ _))

theorem same_dupCompl (a1 : _) (a2 : _) (a3 : _) (a4 : _) (a5 : _) (s : State) : Same 144115188075888656 s (dupCompl a1 a2 a3 a4 a5 s) := by
  unfold dupCompl
  extract_lets +onlyGivenNames x1
  clear_value x1
  refine Same.step (same_raise ..) rfl ?_
  refine Same.step (same_bump ..) rfl ?_
  refine Same.step (same_bump ..) rfl ?_
  refine Same.step (same_bump ..) rfl ?_
  extract_lets +onlyGivenNames x2
  refine Same.cut (x := x2) ?_ (fun h2 => ?_)
  · unfold x2
    exact Same.step (same_bump ..) rfl (Same.refl _ _)
  clear_value x2
  exact Same.step (upd_compl ..) rfl (by assumption)

theorem same_accept (a1 : _) (a2 : _) (a3 : _) (a4 : _) (s : State) : Same 234187180623298576 s (accept a1 a2 a3 a4 s) := by
  unfold accept
  extract_lets +onlyGivenNames x1
  clear_value x1
  extract_lets +onlyGivenNames x2
  clear_value x2
  extract_lets +onlyGivenNames x3
  clear_value x3
  split
  · exact Same.step (same_dupCompl ..) rfl (Same.refl _ _)
  · extract_lets +onlyGivenNames x4
    clear_value x4
    extract_lets +onlyGivenNames x5
    clear_value x5
    extract_lets +onlyGivenNames x6
    clear_value x6
    extract_lets +onlyGivenNames x7
    refine Same.cut (x := x7) ?_ (fun h7 => ?_)
    · unfold x7
      exact Same.step (same_modHst ..) rfl (Same.step (same_bump ..) rfl (Same.refl _ _))
    clear_value x7
    exact Same.ite (Same.step (same_badDone ..) rfl (Same.step (upd_flight ..) rfl (by assumption))) (Same.step (upd_flight ..) rfl (by assumption))

theorem same_acceptHost (s : State) : Same 234187180623298576 s (acceptHost s) := by
  unfold acceptHost
  split
  · exact Same.refl _ _
  · extract_lets +onlyGivenNames x1
    refine Same.cut (x := x1) ?_ (fun h1 => ?_)
    · unfold x1
      exact Same.step (same_modHst ..) rfl (Same.refl _ _)
    clear_value x1
    extract_lets +onlyGivenNames x2
    clear_value x2
    exact Same.step (same_accept ..) rfl (Same.ite (Same.step (same_raise ..) rfl (by assumption)) (by assumption))

theorem same_acceptMgmt (s : State) : Same 234187249342775312 s (acceptMgmt s) := by
  unfold acceptMgmt
  split
  · exact Same.refl _ _
  · extract_lets +onlyGivenNames x1
    refine Same.cut (x := x1) ?_ (fun h1 => ?_)
    · unfold x1
      exact Same.step (same_modHst ..) rfl (Same.refl _ _)
    clear_value x1
    extract_lets +onlyGivenNames x2
    refine Same.cut (x := x2) ?_ (fun h2 => ?_)
    · unfold x2
      exact Same.ite (Same.step (same_modLk ..) rfl (by assumption)) (by assumption)
    clear_value x2
    exact Same.step (same_accept ..) rfl (by assumption)

theorem same_ownerTouch (a1 : _) (s : State) : Same 16384 s (ownerTouch a1 s) := by
  unfold ownerTouch
  exact Same.ite (Same.step (same_sessionTouch ..) rfl (Same.refl _ _)) (Same.refl _ _)

theorem same_stageAll (a1 : _) (a2 : _) (s : State) : Same 16416 s (stageAll a1 a2 s) := by
  unfold stageAll
  exact Same.forL (Same.refl _ _) (fun _ _ => Same.step (same_stageWrite ..) rfl (Same.refl _ _))

theorem same_ends (a1 : _) (a2 : _) (s : _) : Same 216172782113783824 s.2 (ends a1 a2 s) := by
  unfold ends
  exact Same.step (same_finish ..) rfl (Same.refl _ _)

theorem same_stages (a1 : _) (a2 : _) (a3 : _) (a4 : _) (s : State) : Same 216172782113800240 s (stages a1 a2 a3 a4 s) := by
  unfold stages
  extract_lets +onlyGivenNames x1
  clear_value x1
  split
  · exact Same.step (same_finish ..) rfl (Same.step (same_ownerTouch ..) rfl (Same.refl _ _))
  · exact Same.step (same_finish ..) rfl (Same.step (same_stageAll ..) rfl (Same.refl _ _))

theorem same_command {m : Nat} {s x : State} {op : Nat} {len : Nat → Bool} {f : Flight → State → State} {p : Path} {tag : Nat}
    (hm : 216172782113783824 ||| m = m) (hx : Same m s x) (hf : ∀ e y, Same m y (f e y)) : SameO m s (command op len f p tag x) := by
  unfold command
  refine SameO.next (Same.ite ?_ hx)
  split
  · exact Same.ite ((hf _ _).trans hx) (Same.step (same_finish ..) (orUp (k := 216172782113783824) rfl hm) hx)
  · exact hx

theorem same_complSend (a1 : _) (s : State) : Same 144115256795332608 s (complSend a1 s) := by
  unfold complSend
  exact Same.step (same_mgmtReply ..) rfl (Same.step (upd_compl ..) rfl (Same.refl _ _))

theorem same_deliverHost (s : State) : Same 162129586585370640 s (deliverHost s) := by
  unfold deliverHost
  split
  · exact Same.refl _ _
  · extract_lets +onlyGivenNames x1
    clear_value x1
    refine Same.ite (Same.refl _ _) ?_
    extract_lets +onlyGivenNames x2
    clear_value x2
    extract_lets +onlyGivenNames x3
    refine Same.cut (x := x3) ?_ (fun h3 => ?_)
    · unfold x3
      exact Same.step (same_modHst ..) rfl (Same.step (upd_compl ..) rfl (Same.refl _ _))
    clear_value x3
    exact Same.ite (Same.step (same_raise ..) rfl (by assumption)) (by assumption)

theorem same_deliverMgmt (s : State) : Same 144115256795332608 s (deliverMgmt s) := by
  unfold deliverMgmt
  split
  · exact Same.step (same_complSend ..) rfl (Same.refl _ _)
  · exact Same.refl _ _

theorem same_execCommandAccept (a1 : _) (s : State) : SameO 234187249342775312 s (execCommandAccept a1 s) := by
  unfold execCommandAccept
  refine SameO.next ?_
  refine Same.ite ?_ (Same.refl _ _)
  split
  · exact Same.step (same_acceptHost ..) rfl (Same.refl _ _)
  · exact Same.step (same_acceptMgmt ..) rfl (Same.refl _ _)

theorem same_execCompletionDeliver (a1 : _) (s : State) : SameO 234187249342775312 s (execCompletionDeliver a1 s) := by
  unfold execCompletionDeliver
  refine SameO.next ?_
  refine Same.ite ?_ (Same.refl _ _)
  split
  · exact Same.step (same_deliverHost ..) rfl (Same.step (same_badDone ..) rfl (Same.refl _ _))
  · exact Same.step (same_deliverMgmt ..) rfl (Same.step (same_badDone ..) rfl (Same.refl _ _))

theorem same_execCompletionHeldSend (s : State) : SameO 144115256795332608 s (execCompletionHeldSend s) := by
  unfold execCompletionHeldSend
  exact SameO.next (Same.ite (Same.foldl (Same.refl _ _) (fun _ _ => Same.step (same_complSend ..) rfl (Same.refl _ _))) (Same.refl _ _))

theorem same_restartSession (s : State) : Same 237001999109898288 s (restartSession s) := by
  unfold restartSession
  extract_lets +onlyGivenNames x1
  refine Same.cut (x := x1) ?_ (fun h1 => ?_)
  · unfold x1
    exact Same.ite (Same.step (same_sessionAbandon ..) rfl (Same.refl _ _)) (Same.refl _ _)
  clear_value x1
  exact Same.ite (Same.step (same_resyncRestart ..) rfl (by assumption)) (by assumption)

theorem same_restart (s : State) : Same 237001999109898288 s (restart s) := by
  unfold restart
  extract_lets +onlyGivenNames x1
  refine Same.cut (x := x1) ?_ (fun h1 => ?_)
  · unfold x1
    exact Same.step (same_bump ..) rfl (Same.refl _ _)
  clear_value x1
  extract_lets +onlyGivenNames x2
  refine Same.cut (x := x2) ?_ (fun h2 => ?_)
  · unfold x2
    exact Same.foldl (by assumption) (fun _ _ => Same.step (same_finish ..) rfl (Same.refl _ _))
  clear_value x2
  extract_lets +onlyGivenNames x3
  refine Same.cut (x := x3) ?_ (fun h3 => ?_)
  · unfold x3
    exact Same.step (same_restartSession ..) rfl (Same.step (upd_compl ..) rfl (by assumption))
  clear_value x3
  extract_lets +onlyGivenNames x4
  refine Same.cut (x := x4) ?_ (fun h4 => ?_)
  · unfold x4
    exact Same.step (same_modHst ..) rfl (by assumption)
  clear_value x4
  exact Same.step (same_memSync ..) rfl (Same.step (same_raise ..) rfl (Same.step (same_bump ..) rfl (by assumption)))

theorem same_execProcessorRestart (s : State) : SameO 237001999109898288 s (execProcessorRestart s) := by
  unfold execProcessorRestart
  exact SameO.next (Same.ite (Same.step (same_restart ..) rfl (Same.refl _ _)) (Same.refl _ _))

end Sys2Proof.Machine
end

