-- ==== Sys2Proof/Laws/FootCmdHub.lean ====
section
/-! SUPPORT. Footprints of the operations and meanings of Machine/CmdHub.lean: each lemma says once which fields of the
state the function can change. -/

namespace Sys2Proof.Machine

open Sys2Proof

theorem same_applyCmd (a1 : _) (s : State) : Same 216172782248017936 s (applyCmd a1 s) := by
  unfold applyCmd
  extract_lets +onlyGivenNames x1
  clear_value x1
  refine Same.ite (Same.step (same_finish ..) rfl (Same.refl _ _)) ?_
  split
  · exact Same.step (same_finish ..) rfl (Same.step (same_ownerTouch ..) rfl (Same.refl _ _))
  · extract_lets +onlyGivenNames x2
    refine Same.cut (x := x2) ?_ (fun h2 => ?_)
    · unfold x2
      exact Same.step (same_setRg ..) rfl (Same.step (same_setRg ..) rfl (Same.step (same_setRg ..) rfl (Same.refl _ _)))
    clear_value x2
    exact Same.step (same_await ..) rfl (Same.step (same_sessionCheck ..) rfl (by assumption))

theorem same_applyWithdraw (s : State) : SameP 16384 s (applyWithdraw s) := by
  unfold applyWithdraw
  exact SameP.ite (SameP.some (Same.step (same_modCmt ..) rfl (Same.refl _ _))) SameP.none

theorem same_ltWithdraw (a1 : _) (s : State) : SameP 216172782249934864 s (ltWithdraw a1 s) := by
  unfold ltWithdraw
  extract_lets +onlyGivenNames x1
  split
  · extract_lets +onlyGivenNames x2
    clear_value x2
    extract_lets +onlyGivenNames x3
    clear_value x3
    exact SameP.ite (SameP.some (Same.step (same_ltStop ..) rfl (Same.step (same_modAux ..) rfl (Same.refl _ _)))) SameP.none
  · exact SameP.none

theorem same_prbsStop (a1 : _) (a2 : _) (a3 : _) (a4 : _) (s : State) : Same 72057594172162096 s (prbsStop a1 a2 a3 a4 s) := by
  unfold prbsStop
  extract_lets +onlyGivenNames x1
  refine Same.cut (x := x1) ?_ (fun h1 => ?_)
  · unfold x1
    exact Same.step (upd_flight ..) rfl (Same.refl _ _)
  clear_value x1
  extract_lets +onlyGivenNames x2
  clear_value x2
  extract_lets +onlyGivenNames x3
  refine Same.cut (x := x3.2) ?_ (fun h3 => ?_)
  · unfold x3
    exact Same.step (same_sessionOpen ..) rfl (by assumption)
  clear_value x3
  exact Same.ite (Same.step (same_await ..) rfl (Same.step (same_ownArm ..) rfl (Same.step (same_stageAll ..) rfl (by assumption)))) (Same.step (same_await ..) rfl (by assumption))

theorem same_spotWithdraw (a1 : _) (s : State) : SameP 134217728 s (spotWithdraw a1 s) := by
  unfold spotWithdraw
  extract_lets +onlyGivenNames x1
  split
  · exact SameP.some (Same.step (same_modAux ..) rfl (Same.refl _ _))
  · exact SameP.none

theorem same_swapCancel (s : State) : SameP 2251799813685248 s (swapCancel s) := by
  unfold swapCancel
  split
  · exact SameP.ite (SameP.some (Same.step (same_modTwn ..) rfl (Same.refl _ _))) SameP.none
  · exact SameP.none

theorem same_wakeReq (a1 : _) (s : State) : Same 238128998595527696 s (wakeReq a1 s) := by
  unfold wakeReq
  split
  · extract_lets +onlyGivenNames x1
    refine Same.cut (x := x1) ?_ (fun h1 => ?_)
    · unfold x1
      exact Same.step (same_wakeup ..) rfl (Same.refl _ _)
    clear_value x1
    exact Same.ite (Same.step (same_modPwr ..) rfl (by assumption)) (Same.step (same_wakeStart ..) rfl (by assumption))
  · exact Same.step (same_wakeStart ..) rfl (Same.refl _ _)
  · exact Same.refl _ _

theorem same_cancelled (a1 : _) (s : State) : SameP 238128998731596848 s (cancelled a1 s) := by
  unfold cancelled
  split
  · exact SameP.map (fun _ _ => Same.step (same_finish ..) rfl (Same.ofSome (by assumption) (SameP.step (same_applyWithdraw ..) rfl (Same.refl _ _))))
  · exact SameP.map (fun _ _ => Same.step (same_finish ..) rfl (Same.ofSome (by assumption) (SameP.step (same_spotWithdraw ..) rfl (Same.refl _ _))))
  · exact SameP.map (fun _ _ => Same.step (same_finish ..) rfl (Same.ofSome (by assumption) (SameP.step (same_ltWithdraw ..) rfl (Same.refl _ _))))
  · refine SameP.some ?_
    extract_lets +onlyGivenNames x1
    refine Same.cut (x := x1) ?_ (fun h1 => ?_)
    · unfold x1
      exact Same.step (same_wakeReq ..) rfl (Same.refl _ _)
    clear_value x1
    exact (by assumption)
  · exact SameP.some (Same.step (same_finish ..) rfl (Same.refl _ _))
  · exact SameP.map (fun _ _ => Same.step (same_finish ..) rfl (Same.ofSome (by assumption) (SameP.step (same_swapCancel ..) rfl (Same.refl _ _))))
  · exact SameP.some (Same.step (same_prbsStop ..) rfl (Same.refl _ _))
  · exact SameP.none

theorem same_cancelCmd (a1 : _) (s : State) : Same 238128998731596848 s (cancelCmd a1 s) := by
  unfold cancelCmd
  split
  · split
    · exact Same.step (same_finish ..) rfl (Same.refl _ _)
    · exact Same.step (same_finish ..) rfl (Same.refl _ _)
  · split
    · exact Same.step (same_finish ..) rfl (Same.step (same_bump ..) rfl (Same.ofSome (by assumption) (SameP.step (same_cancelled ..) rfl (Same.refl _ _))))
    · exact Same.step (same_finish ..) rfl (Same.refl _ _)

theorem same_checkCmd (a1 : _) (s : State) : Same 216172782248017936 s (checkCmd a1 s) := by
  unfold checkCmd
  extract_lets +onlyGivenNames x1
  clear_value x1
  split
  · exact Same.step (same_finish ..) rfl (Same.step (same_ownerTouch ..) rfl (Same.refl _ _))
  · exact Same.step (same_await ..) rfl (Same.step (same_sessionCheck ..) rfl (Same.refl _ _))

theorem same_execCfgAbandon (a1 : _) (a2 : _) (s : State) : SameO 216172782113833008 s (execCfgAbandon a1 a2 s) := by
  unfold execCfgAbandon
  exact same_command rfl (Same.refl _ _) (fun _ _ => Same.step (same_ends ..) rfl (Same.step (same_sessionAbandonBy ..) rfl (Same.refl _ _)))

theorem same_execCfgApplyAt (a1 : _) (a2 : _) (s : State) : SameO 216172782248017936 s (execCfgApplyAt a1 a2 s) := by
  unfold execCfgApplyAt
  exact same_command rfl (Same.refl _ _) (fun _ _ => Same.step (same_applyCmd ..) rfl (Same.refl _ _))

theorem same_execCfgCheck (a1 : _) (a2 : _) (s : State) : SameO 216172782248017936 s (execCfgCheck a1 a2 s) := by
  unfold execCfgCheck
  exact same_command rfl (Same.refl _ _) (fun _ _ => Same.step (same_checkCmd ..) rfl (Same.refl _ _))

theorem same_loadFail (a1 : _) (a2 : _) (a3 : _) (s : State) : Same 236438980436951056 s (loadFail a1 a2 a3 s) := by
  unfold loadFail
  refine Same.ite (Same.step (same_finish ..) rfl (Same.refl _ _)) ?_
  extract_lets +onlyGivenNames x1
  refine Same.cut (x := x1) ?_ (fun h1 => ?_)
  · unfold x1
    exact Same.step (same_modHst ..) rfl (Same.refl _ _)
  clear_value x1
  exact Same.step (same_finish ..) rfl (Same.ite (Same.step (same_modTwn ..) rfl (by assumption)) (by assumption))

theorem same_loadRest (a1 : _) (a2 : _) (s : State) : Same 306807724614615048 s (loadRest a1 a2 s) := by
  unfold loadRest
  exact Same.ite (Same.refl _ _) (Same.step (same_imgStore ..) rfl (Same.step (upd_freeIdx ..) rfl (Same.refl _ _)))

theorem same_loadLast (a1 : _) (a2 : _) (a3 : _) (a4 : _) (a5 : _) (s : State) : Same 525232342512484408 s (loadLast a1 a2 a3 a4 a5 s) := by
  unfold loadLast
  extract_lets +onlyGivenNames x1
  clear_value x1
  extract_lets +onlyGivenNames x2
  refine Same.cut (x := x2) ?_ (fun h2 => ?_)
  · unfold x2
    exact Same.step (same_eccCorr ..) rfl (Same.refl _ _)
  clear_value x2
  extract_lets +onlyGivenNames x3
  clear_value x3
  extract_lets +onlyGivenNames x4
  clear_value x4
  refine Same.ite ?_ ?_
  · extract_lets +onlyGivenNames x5
    refine Same.cut (x := x5) ?_ (fun h5 => ?_)
    · unfold x5
      exact Same.ite (Same.step (same_fwJob ..) rfl (by assumption)) (by assumption)
    clear_value x5
    exact Same.step (same_loadFail ..) rfl (Same.ite (by assumption) (Same.step (same_eccFound ..) rfl (by assumption)))
  · extract_lets +onlyGivenNames x6
    refine Same.cut (x := x6) ?_ (fun h6 => ?_)
    · unfold x6
      exact Same.step (same_imgStore ..) rfl (Same.ite (Same.step (same_fwJob ..) rfl (by assumption)) (by assumption))
    clear_value x6
    refine Same.ite (Same.step (same_loadFail ..) rfl (Same.step (same_loadRest ..) rfl (by assumption))) ?_
    extract_lets +onlyGivenNames x7
    refine Same.cut (x := x7.2.2) ?_ (fun h7 => ?_)
    · unfold x7
      exact Same.step (same_imageTake ..) rfl (by assumption)
    clear_value x7
    refine Same.ite (Same.step (same_loadFail ..) rfl (by assumption)) ?_
    extract_lets +onlyGivenNames x8
    refine Same.cut (x := x8) ?_ (fun h8 => ?_)
    · unfold x8
      exact Same.step (same_modHst ..) rfl (by assumption)
    clear_value x8
    exact Same.step (same_finish ..) rfl (Same.ite (Same.step (same_modTwn ..) rfl (by assumption)) (by assumption))

theorem same_loadCmd (a1 : _) (a2 : _) (s : State) : Same 525232342512484408 s (loadCmd a1 a2 s) := by
  unfold loadCmd
  extract_lets +onlyGivenNames x1
  clear_value x1
  extract_lets +onlyGivenNames x2
  clear_value x2
  extract_lets +onlyGivenNames x3
  clear_value x3
  extract_lets +onlyGivenNames x4
  clear_value x4
  extract_lets +onlyGivenNames x5
  clear_value x5
  extract_lets +onlyGivenNames x6
  clear_value x6
  extract_lets +onlyGivenNames x7
  clear_value x7
  extract_lets +onlyGivenNames x8
  clear_value x8
  refine Same.ite (Same.step (same_loadFail ..) rfl (Same.refl _ _)) ?_
  split
  · exact Same.step (same_loadFail ..) rfl (Same.step (same_ownerTouch ..) rfl (Same.refl _ _))
  · extract_lets +onlyGivenNames x9
    refine Same.cut (x := x9) ?_ (fun h9 => ?_)
    · unfold x9
      exact Same.step (same_ownerTouch ..) rfl (Same.refl _ _)
    clear_value x9
    refine Same.ite (Same.step (same_loadFail ..) rfl (by assumption)) ?_
    refine Same.ite (Same.step (same_loadFail ..) rfl (by assumption)) ?_
    extract_lets +onlyGivenNames x10
    refine Same.cut (x := x10) ?_ (fun h10 => ?_)
    · unfold x10
      exact Same.step (same_modHst ..) rfl (Same.step (same_imgStore ..) rfl (by assumption))
    clear_value x10
    exact Same.ite (Same.step (same_loadLast ..) rfl (by assumption)) (Same.step (same_finish ..) rfl (Same.ite (Same.step (same_modTwn ..) rfl (by assumption)) (by assumption)))

theorem same_execCfgImageLoad (a1 : _) (a2 : _) (a3 : _) (s : State) : SameO 525232342512484408 s (execCfgImageLoad a1 a2 a3 s) := by
  unfold execCfgImageLoad
  exact same_command rfl (Same.refl _ _) (fun _ _ => Same.step (same_memSync ..) rfl (Same.step (same_loadCmd ..) rfl (Same.step (same_memSync ..) rfl (Same.refl _ _))))

theorem same_saveSend (a1 : _) (a2 : _) (a3 : _) (s : State) : Same 68719476736 s (saveSend a1 a2 a3 s) := by
  unfold saveSend
  exact Same.forL (Same.refl _ _) (fun _ _ => Same.step (same_mgmtPut ..) rfl (Same.refl _ _))

theorem same_saveCmd (a1 : _) (a2 : _) (s : State) : Same 504966176938426384 s (saveCmd a1 a2 s) := by
  unfold saveCmd
  extract_lets +onlyGivenNames x1
  clear_value x1
  extract_lets +onlyGivenNames x2
  clear_value x2
  extract_lets +onlyGivenNames x3
  clear_value x3
  extract_lets +onlyGivenNames x4
  clear_value x4
  extract_lets +onlyGivenNames x5
  clear_value x5
  refine Same.ite (Same.step (same_finish ..) rfl (Same.refl _ _)) ?_
  refine Same.ite (Same.step (same_finish ..) rfl (Same.refl _ _)) ?_
  refine Same.ite (Same.step (same_finish ..) rfl (Same.refl _ _)) ?_
  extract_lets +onlyGivenNames x6
  refine Same.cut (x := x6) ?_ (fun h6 => ?_)
  · unfold x6
    exact Same.step (same_eccCorr ..) rfl (Same.refl _ _)
  clear_value x6
  extract_lets +onlyGivenNames x7
  clear_value x7
  extract_lets +onlyGivenNames x8
  clear_value x8
  extract_lets +onlyGivenNames x9
  refine Same.cut (x := x9) ?_ (fun h9 => ?_)
  · unfold x9
    exact Same.ite (Same.step (same_fwJob ..) rfl (by assumption)) (by assumption)
  clear_value x9
  extract_lets +onlyGivenNames x10
  clear_value x10
  refine Same.ite ?_ (Same.step (same_finish ..) rfl (Same.step (same_memStore ..) rfl (by assumption)))
  extract_lets +onlyGivenNames x11
  refine Same.cut (x := x11) ?_ (fun h11 => ?_)
  · unfold x11
    exact Same.step (upd_flight ..) rfl (by assumption)
  clear_value x11
  exact Same.step (same_await ..) rfl (Same.step (same_saveSend ..) rfl (by assumption))

theorem same_execCfgImageSave (a1 : _) (a2 : _) (a3 : _) (s : State) : SameO 504966176938426384 s (execCfgImageSave a1 a2 a3 s) := by
  unfold execCfgImageSave
  exact same_command rfl (Same.refl _ _) (fun _ _ => Same.step (same_memSync ..) rfl (Same.step (same_saveCmd ..) rfl (Same.step (same_memSync ..) rfl (Same.refl _ _))))

theorem same_execCfgOpen (a1 : _) (a2 : _) (s : State) : SameO 216172782113800240 s (execCfgOpen a1 a2 s) := by
  unfold execCfgOpen
  exact same_command rfl (Same.refl _ _) (fun _ _ => Same.step (same_ends ..) rfl (Same.step (same_sessionOpen ..) rfl (Same.refl _ _)))

theorem same_execCmdCancel (a1 : _) (a2 : _) (s : State) : SameO 238128998731596848 s (execCmdCancel a1 a2 s) := by
  unfold execCmdCancel
  exact same_command rfl (Same.refl _ _) (fun _ _ => Same.ite (Same.step (same_finish ..) rfl (Same.refl _ _)) (Same.step (same_cancelCmd ..) rfl (Same.refl _ _)))

theorem same_execCmdNop (a1 : _) (a2 : _) (s : State) : SameO 216172782113783824 s (execCmdNop a1 a2 s) := by
  unfold execCmdNop
  exact same_command rfl (Same.refl _ _) (fun _ _ => Same.step (same_finish ..) rfl (Same.refl _ _))

theorem same_identify (a1 : _) (s : State) : Same 216172782113783824 s (identify a1 s) := by
  unfold identify
  extract_lets +onlyGivenNames x1
  clear_value x1
  exact Same.step (same_finish ..) rfl (Same.refl _ _)

theorem same_execHubIdentify (a1 : _) (a2 : _) (s : State) : SameO 216172782113783824 s (execHubIdentify a1 a2 s) := by
  unfold execHubIdentify
  exact same_command rfl (Same.refl _ _) (fun _ _ => Same.step (same_identify ..) rfl (Same.refl _ _))

theorem same_sleepCmd (a1 : _) (s : State) : Same 216172782113784848 s (sleepCmd a1 s) := by
  unfold sleepCmd
  split
  · exact Same.step (same_finish ..) rfl (Same.refl _ _)
  · exact Same.step (same_await ..) rfl (Same.step (same_modPwr ..) rfl (Same.refl _ _))

theorem same_execHubSleep (a1 : _) (a2 : _) (s : State) : SameO 216172782113784848 s (execHubSleep a1 a2 s) := by
  unfold execHubSleep
  exact same_command rfl (Same.refl _ _) (fun _ _ => Same.step (same_sleepCmd ..) rfl (Same.refl _ _))

theorem same_statusCmd (a1 : _) (s : State) : Same 216172782113783824 s (statusCmd a1 s) := by
  unfold statusCmd
  exact Same.step (same_finish ..) rfl (Same.refl _ _)

theorem same_execHubStatusCmd (a1 : _) (a2 : _) (s : State) : SameO 216172782113783824 s (execHubStatusCmd a1 a2 s) := by
  unfold execHubStatusCmd
  exact same_command rfl (Same.refl _ _) (fun _ _ => Same.step (same_statusCmd ..) rfl (Same.refl _ _))

theorem same_wakeCmd (a1 : _) (s : State) : Same 238128998595527696 s (wakeCmd a1 s) := by
  unfold wakeCmd
  extract_lets +onlyGivenNames x1
  clear_value x1
  refine Same.ite (Same.step (same_finish ..) rfl (Same.refl _ _)) ?_
  refine Same.ite (Same.step (same_finish ..) rfl (Same.refl _ _)) ?_
  extract_lets +onlyGivenNames x2
  refine Same.cut (x := x2) ?_ (fun h2 => ?_)
  · unfold x2
    exact Same.step (same_wakeReq ..) rfl (Same.refl _ _)
  clear_value x2
  exact Same.ite (Same.step (same_finish ..) rfl (by assumption)) (Same.step (same_await ..) rfl (by assumption))

theorem same_execHubWake (a1 : _) (a2 : _) (s : State) : SameO 238128998595527696 s (execHubWake a1 a2 s) := by
  unfold execHubWake
  exact same_command rfl (Same.refl _ _) (fun _ _ => Same.step (same_wakeCmd ..) rfl (Same.refl _ _))

end Sys2Proof.Machine
end

