-- ==== Sys2Proof/Laws/FootCmdChan.lean ====
section
/-! SUPPORT. Footprints of the operations and meanings of Machine/CmdChan.lean: each lemma says once which fields of the
state the function can change. -/

namespace Sys2Proof.Machine

open Sys2Proof

theorem same_autorangeCmd (a1 : _) (s : State) : Same 216172782113800240 s (autorangeCmd a1 s) := by
  unfold autorangeCmd
  extract_lets +onlyGivenNames x1
  clear_value x1
  extract_lets +onlyGivenNames x2
  clear_value x2
  exact Same.step (same_stages ..) rfl (Same.refl _ _)

theorem same_enableCmd (a1 : _) (s : State) : Same 216172782113800240 s (enableCmd a1 s) := by
  unfold enableCmd
  extract_lets +onlyGivenNames x1
  clear_value x1
  extract_lets +onlyGivenNames x2
  clear_value x2
  extract_lets +onlyGivenNames x3
  clear_value x3
  exact Same.step (same_stages ..) rfl (Same.refl _ _)

theorem same_excCmd (a1 : _) (s : State) : Same 216172782113800240 s (excCmd a1 s) := by
  unfold excCmd
  extract_lets +onlyGivenNames x1
  clear_value x1
  extract_lets +onlyGivenNames x2
  clear_value x2
  extract_lets +onlyGivenNames x3
  clear_value x3
  extract_lets +onlyGivenNames x4
  clear_value x4
  exact Same.step (same_stages ..) rfl (Same.refl _ _)

theorem same_execChAutorange (a1 : _) (a2 : _) (s : State) : SameO 216172782113800240 s (execChAutorange a1 a2 s) := by
  unfold execChAutorange
  exact same_command rfl (Same.refl _ _) (fun _ _ => Same.step (same_autorangeCmd ..) rfl (Same.refl _ _))

theorem same_execChEnable (a1 : _) (a2 : _) (s : State) : SameO 216172782113800240 s (execChEnable a1 a2 s) := by
  unfold execChEnable
  exact same_command rfl (Same.refl _ _) (fun _ _ => Same.step (same_enableCmd ..) rfl (Same.refl _ _))

theorem same_leadTestCmd (a1 : _) (s : State) : Same 216172782249410576 s (leadTestCmd a1 s) := by
  unfold leadTestCmd
  extract_lets +onlyGivenNames x1
  clear_value x1
  extract_lets +onlyGivenNames x2
  clear_value x2
  refine Same.ite (Same.step (same_finish ..) rfl (Same.refl _ _)) ?_
  refine Same.ite (Same.step (same_finish ..) rfl (Same.refl _ _)) ?_
  split
  · exact Same.step (same_finish ..) rfl (Same.refl _ _)
  · refine Same.ite (Same.step (same_finish ..) rfl (Same.refl _ _)) ?_
    extract_lets +onlyGivenNames x3
    refine Same.cut (x := x3) ?_ (fun h3 => ?_)
    · unfold x3
      exact Same.step (same_await ..) rfl (Same.refl _ _)
    clear_value x3
    exact Same.ite (Same.step (same_startShorts ..) rfl (by assumption)) (Same.step (same_startOpens ..) rfl (by assumption))

theorem same_execChLeadTest (a1 : _) (a2 : _) (s : State) : SameO 216172782249410576 s (execChLeadTest a1 a2 s) := by
  unfold execChLeadTest
  exact same_command rfl (Same.refl _ _) (fun _ _ => Same.step (same_leadTestCmd ..) rfl (Same.refl _ _))

theorem same_rateCmd (a1 : _) (s : State) : Same 216172782113800240 s (rateCmd a1 s) := by
  unfold rateCmd
  extract_lets +onlyGivenNames x1
  clear_value x1
  extract_lets +onlyGivenNames x2
  clear_value x2
  extract_lets +onlyGivenNames x3
  clear_value x3
  extract_lets +onlyGivenNames x4
  clear_value x4
  exact Same.step (same_stages ..) rfl (Same.refl _ _)

theorem same_execChSetRate (a1 : _) (a2 : _) (s : State) : SameO 216172782113800240 s (execChSetRate a1 a2 s) := by
  unfold execChSetRate
  exact same_command rfl (Same.refl _ _) (fun _ _ => Same.step (same_rateCmd ..) rfl (Same.refl _ _))

theorem same_recordPage (a1 : _) (s : State) : Same 34359787568 s (recordPage a1 s).2 := by
  unfold recordPage
  extract_lets +onlyGivenNames x1
  clear_value x1
  extract_lets +onlyGivenNames x2
  clear_value x2
  refine Same.iteSnd (Same.pair (Same.refl _ _)) ?_
  extract_lets +onlyGivenNames x3
  clear_value x3
  extract_lets +onlyGivenNames x4
  refine Same.cut (x := x4) ?_ (fun h4 => ?_)
  · unfold x4
    exact Same.step (same_raise ..) rfl (Same.step (upd_lin ..) rfl (Same.refl _ _))
  clear_value x4
  exact Same.pair (Same.step (same_stageAll ..) rfl (by assumption))

theorem same_sensorCmd (a1 : _) (s : State) : Same 216172816473571376 s (sensorCmd a1 s) := by
  unfold sensorCmd
  extract_lets +onlyGivenNames x1
  clear_value x1
  extract_lets +onlyGivenNames x2
  clear_value x2
  split
  · exact Same.step (same_finish ..) rfl (Same.step (same_ownerTouch ..) rfl (Same.refl _ _))
  · refine Same.ite (Same.step (same_finish ..) rfl (Same.step (same_ownerTouch ..) rfl (Same.refl _ _))) ?_
    extract_lets +onlyGivenNames x3
    clear_value x3
    extract_lets +onlyGivenNames x4
    refine Same.cut (x := x4.2) ?_ (fun h4 => ?_)
    · unfold x4
      exact Same.step (same_recordPage ..) rfl (Same.refl _ _)
    clear_value x4
    extract_lets +onlyGivenNames x5
    clear_value x5
    extract_lets +onlyGivenNames x6
    refine Same.cut (x := x6) ?_ (fun h6 => ?_)
    · unfold x6
      exact Same.step (same_linFill ..) rfl (by assumption)
    clear_value x6
    exact Same.step (same_finish ..) rfl (Same.step (same_stageAll ..) rfl (by assumption))

theorem same_execChSetSensor (a1 : _) (a2 : _) (s : State) : SameO 216172816473571376 s (execChSetSensor a1 a2 s) := by
  unfold execChSetSensor
  exact same_command rfl (Same.refl _ _) (fun _ _ => Same.step (same_sensorCmd ..) rfl (Same.refl _ _))

theorem same_spotCmd (a1 : _) (s : State) : Same 216172782248001552 s (spotCmd a1 s) := by
  unfold spotCmd
  extract_lets +onlyGivenNames x1
  clear_value x1
  extract_lets +onlyGivenNames x2
  clear_value x2
  exact Same.ite (Same.step (same_finish ..) rfl (Same.refl _ _)) (Same.ite (Same.step (same_finish ..) rfl (Same.refl _ _)) (Same.ite (Same.step (same_finish ..) rfl (Same.refl _ _)) (Same.step (same_auxPush ..) rfl (Same.step (same_await ..) rfl (Same.refl _ _)))))

theorem same_execChSpotRead (a1 : _) (a2 : _) (s : State) : SameO 216172782248001552 s (execChSpotRead a1 a2 s) := by
  unfold execChSpotRead
  exact same_command rfl (Same.refl _ _) (fun _ _ => Same.step (same_spotCmd ..) rfl (Same.refl _ _))

theorem same_stdFill (a1 : _) (a2 : _) (a3 : _) (a4 : _) (s : State) : Same 1610645520 s (stdFill a1 a2 a3 a4 s) := by
  unfold stdFill
  extract_lets +onlyGivenNames x1
  clear_value x1
  extract_lets +onlyGivenNames x2
  clear_value x2
  extract_lets +onlyGivenNames x3
  clear_value x3
  extract_lets +onlyGivenNames x4
  refine Same.cut (x := x4) ?_ (fun h4 => ?_)
  · unfold x4
    exact Same.forL (Same.refl _ _) (fun _ _ => Same.step (same_putCoef ..) rfl (Same.refl _ _))
  clear_value x4
  extract_lets +onlyGivenNames x5
  clear_value x5
  extract_lets +onlyGivenNames x6
  clear_value x6
  exact Same.step (same_bump ..) rfl (Same.step (same_raise ..) rfl (Same.step (upd_cbanks ..) rfl (by assumption)))

theorem same_loadBank (a1 : _) (s : State) : Same 216172783724429328 s (loadBank a1 s) := by
  unfold loadBank
  extract_lets +onlyGivenNames x1
  clear_value x1
  extract_lets +onlyGivenNames x2
  clear_value x2
  extract_lets +onlyGivenNames x3
  clear_value x3
  extract_lets +onlyGivenNames x4
  clear_value x4
  extract_lets +onlyGivenNames x5
  clear_value x5
  extract_lets +onlyGivenNames x6
  clear_value x6
  refine Same.ite (Same.step (same_finish ..) rfl (Same.refl _ _)) ?_
  refine Same.ite (Same.step (same_finish ..) rfl (Same.refl _ _)) ?_
  split
  · exact Same.step (same_finish ..) rfl (Same.refl _ _)
  · refine Same.ite (Same.step (same_finish ..) rfl (Same.refl _ _)) ?_
    extract_lets +onlyGivenNames x7
    clear_value x7
    extract_lets +onlyGivenNames x8
    refine Same.cut (x := x8) ?_ (fun h8 => ?_)
    · unfold x8
      exact Same.step (same_setRg ..) rfl (Same.step (same_setRg ..) rfl (Same.refl _ _))
    clear_value x8
    extract_lets +onlyGivenNames x9
    refine Same.cut (x := x9.2) ?_ (fun h9 => ?_)
    · unfold x9
      exact Same.iteSnd (Same.step (same_bankFill ..) rfl (by assumption)) (Same.pair (Same.step (same_stdFill ..) rfl (by assumption)))
    clear_value x9
    exact Same.step (same_ends ..) rfl (by assumption)

theorem same_execFltLoadBank (a1 : _) (a2 : _) (s : State) : SameO 216172783724429328 s (execFltLoadBank a1 a2 s) := by
  unfold execFltLoadBank
  exact same_command rfl (Same.refl _ _) (fun _ _ => Same.step (same_loadBank ..) rfl (Same.refl _ _))

theorem same_execShfExcSet (a1 : _) (a2 : _) (s : State) : SameO 216172782113800240 s (execShfExcSet a1 a2 s) := by
  unfold execShfExcSet
  exact same_command rfl (Same.refl _ _) (fun _ _ => Same.step (same_excCmd ..) rfl (Same.refl _ _))

theorem same_ownSession (a1 : _) (a2 : _) (a3 : _) (s : State) : Same 216172782248017968 s (ownSession a1 a2 a3 s) := by
  unfold ownSession
  extract_lets +onlyGivenNames x1
  clear_value x1
  extract_lets +onlyGivenNames x2
  refine Same.cut (x := x2.2) ?_ (fun h2 => ?_)
  · unfold x2
    exact Same.step (same_sessionOpen ..) rfl (Same.refl _ _)
  clear_value x2
  exact Same.ite (Same.step (same_await ..) rfl (Same.step (same_ownArm ..) rfl (Same.step (same_stageAll ..) rfl (by assumption)))) (Same.step (same_finish ..) rfl (Same.refl _ _))

theorem same_refCmd (a1 : _) (s : State) : Same 216172782248017968 s (refCmd a1 s) := by
  unfold refCmd
  extract_lets +onlyGivenNames x1
  clear_value x1
  extract_lets +onlyGivenNames x2
  clear_value x2
  exact Same.ite (Same.step (same_finish ..) rfl (Same.refl _ _)) (Same.ite (Same.step (same_finish ..) rfl (Same.refl _ _)) (Same.step (same_ownSession ..) rfl (Same.refl _ _)))

theorem same_execShfRefEnable (a1 : _) (a2 : _) (s : State) : SameO 216172782248017968 s (execShfRefEnable a1 a2 s) := by
  unfold execShfRefEnable
  exact same_command rfl (Same.refl _ _) (fun _ _ => Same.step (same_refCmd ..) rfl (Same.refl _ _))

end Sys2Proof.Machine
end

