-- ==== Sys2Proof/Laws/FootCmdTime.lean ====
section
/-! SUPPORT. Footprints of the operations and meanings of Machine/CmdTime.lean: each lemma says once which fields of the
state the function can change. -/

namespace Sys2Proof.Machine

open Sys2Proof

theorem same_armConfig (a1 : _) (a2 : _) (s : State) : Same 216172782113800240 s (armConfig a1 a2 s) := by
  unfold armConfig
  extract_lets +onlyGivenNames x1
  clear_value x1
  extract_lets +onlyGivenNames x2
  clear_value x2
  extract_lets +onlyGivenNames x3
  clear_value x3
  split
  · exact Same.step (same_finish ..) rfl (Same.step (same_ownerTouch ..) rfl (Same.refl _ _))
  · exact Same.ite (Same.step (same_finish ..) rfl (Same.step (same_ownerTouch ..) rfl (Same.refl _ _))) (Same.step (same_await ..) rfl (Same.step (same_stageAll ..) rfl (Same.step (same_setRg ..) rfl (Same.refl _ _))))

theorem same_cpArmNow (a1 : _) (s : State) : Same 571746046476304 s (cpArmNow a1 s).2 := by
  unfold cpArmNow
  extract_lets +onlyGivenNames x1
  refine Same.cut (x := x1.2) ?_ (fun h1 => ?_)
  · unfold x1
    exact Same.step (same_planArm ..) rfl (Same.refl _ _)
  clear_value x1
  exact Same.iteSnd (Same.pair (Same.step (same_pgError ..) rfl (by assumption))) (by assumption)

theorem same_acqArmCmd (a1 : _) (s : State) : Same 216744528160276528 s (acqArmCmd a1 s) := by
  unfold acqArmCmd
  extract_lets +onlyGivenNames x1
  clear_value x1
  extract_lets +onlyGivenNames x2
  clear_value x2
  exact Same.ite (Same.step (same_finish ..) rfl (Same.refl _ _)) (Same.ite (Same.step (same_armConfig ..) rfl (Same.refl _ _)) (Same.ite (Same.step (same_finish ..) rfl (Same.refl _ _)) (Same.step (same_ends ..) rfl (Same.step (same_cpArmNow ..) rfl (Same.refl _ _)))))

theorem same_acqDisarmCmd (a1 : _) (s : State) : Same 216744528160391184 s (acqDisarmCmd a1 s) := by
  unfold acqDisarmCmd
  extract_lets +onlyGivenNames x1
  clear_value x1
  exact Same.ite (Same.step (same_finish ..) rfl (Same.refl _ _)) (Same.ite (Same.step (same_finish ..) rfl (Same.refl _ _)) (Same.step (same_ends ..) rfl (Same.step (same_planDisarm ..) rfl (Same.refl _ _))))

theorem same_acqWake (s : State) : Same 216744528160260112 s (acqWake s) := by
  unfold acqWake
  refine Same.foldl (Same.refl _ _) (fun _ _ => ?_)
  split
  · exact Same.step (same_ends ..) rfl (Same.step (same_cpArmNow ..) rfl (Same.refl _ _))
  · exact Same.refl _ _

theorem same_assignCmd (a1 : _) (s : State) : Same 216735732067237904 s (assignCmd a1 s) := by
  unfold assignCmd
  extract_lets +onlyGivenNames x1
  clear_value x1
  exact Same.ite (Same.step (same_finish ..) rfl (Same.refl _ _)) (Same.ite (Same.step (same_finish ..) rfl (Same.refl _ _)) (Same.step (same_ends ..) rfl (Same.step (same_bankAssign ..) rfl (Same.refl _ _))))

theorem same_asymCmd (a1 : _) (s : State) : Same 216172782113783824 s (asymCmd a1 s) := by
  unfold asymCmd
  extract_lets +onlyGivenNames x1
  clear_value x1
  exact Same.ite (Same.step (same_finish ..) rfl (Same.refl _ _)) (Same.ite (Same.step (same_finish ..) rfl (Same.refl _ _)) (Same.step (same_finish ..) rfl (Same.step (same_setRg ..) rfl (Same.refl _ _))))

theorem same_execAcqArm (a1 : _) (a2 : _) (s : State) : SameO 216744528160276528 s (execAcqArm a1 a2 s) := by
  unfold execAcqArm
  exact same_command rfl (Same.refl _ _) (fun _ _ => Same.step (same_acqArmCmd ..) rfl (Same.refl _ _))

theorem same_execAcqDisarm (a1 : _) (a2 : _) (s : State) : SameO 216744528160391184 s (execAcqDisarm a1 a2 s) := by
  unfold execAcqDisarm
  exact same_command rfl (Same.refl _ _) (fun _ _ => Same.step (same_acqDisarmCmd ..) rfl (Same.refl _ _))

theorem same_forceCmd (a1 : _) (s : State) : Same 216287208632647696 s (forceCmd a1 s) := by
  unfold forceCmd
  extract_lets +onlyGivenNames x1
  clear_value x1
  exact Same.ite (Same.step (same_finish ..) rfl (Same.refl _ _)) (Same.step (same_finish ..) rfl (Same.step (same_forceGo ..) rfl (Same.step (same_setRg ..) rfl (Same.step (same_setRg ..) rfl (Same.step (same_setRg ..) rfl (Same.refl _ _))))))

theorem same_execAcqForce (a1 : _) (a2 : _) (s : State) : SameO 216287208632647696 s (execAcqForce a1 a2 s) := by
  unfold execAcqForce
  exact same_command rfl (Same.refl _ _) (fun _ _ => Same.step (same_forceCmd ..) rfl (Same.refl _ _))

theorem same_offloadCmd (a1 : _) (s : State) : Same 216181578206806032 s (offloadCmd a1 s) := by
  unfold offloadCmd
  extract_lets +onlyGivenNames x1
  clear_value x1
  refine Same.ite (Same.step (same_finish ..) rfl (Same.refl _ _)) ?_
  refine Same.ite (Same.step (same_finish ..) rfl (Same.refl _ _)) ?_
  extract_lets +onlyGivenNames x2
  refine Same.cut (x := x2.2) ?_ (fun h2 => ?_)
  · unfold x2
    exact Same.step (same_planOffload ..) rfl (Same.refl _ _)
  clear_value x2
  exact Same.ite (Same.step (same_await ..) rfl (by assumption)) (Same.step (same_finish ..) rfl (by assumption))

theorem same_execAcqOffload (a1 : _) (a2 : _) (s : State) : SameO 216181578206806032 s (execAcqOffload a1 a2 s) := by
  unfold execAcqOffload
  exact same_command rfl (Same.refl _ _) (fun _ _ => Same.step (same_offloadCmd ..) rfl (Same.refl _ _))

theorem same_gleanCmd (a1 : _) (s : State) : Same 216172782113800240 s (gleanCmd a1 s) := by
  unfold gleanCmd
  extract_lets +onlyGivenNames x1
  clear_value x1
  exact Same.step (same_stages ..) rfl (Same.refl _ _)

theorem same_execGleanSet (a1 : _) (a2 : _) (s : State) : SameO 216172782113800240 s (execGleanSet a1 a2 s) := by
  unfold execGleanSet
  exact same_command rfl (Same.refl _ _) (fun _ _ => Same.step (same_gleanCmd ..) rfl (Same.refl _ _))

theorem same_execMemAssign (a1 : _) (a2 : _) (s : State) : SameO 216735732067237904 s (execMemAssign a1 a2 s) := by
  unfold execMemAssign
  exact same_command rfl (Same.refl _ _) (fun _ _ => Same.step (same_assignCmd ..) rfl (Same.refl _ _))

theorem same_keepHstat (a1 : State) (s : State) : Same 562949953421312 s (keepHstat a1 s) := by
  unfold keepHstat
  exact Same.step (same_setHstat ..) rfl (Same.refl _ _)

theorem same_readWords (a1 : _) (a2 : _) (a3 : _) (a4 : _) (s : State) : Same 562949953454104 s (readWords a1 a2 a3 a4 s).2.2.2 := by
  induction a3 generalizing a4 s with
  | zero => exact Same.refl _ _
  | succ n ih =>
    unfold readWords
    extract_lets +onlyGivenNames x1
    clear_value x1
    extract_lets +onlyGivenNames x2
    clear_value x2
    extract_lets +onlyGivenNames x3
    clear_value x3
    extract_lets +onlyGivenNames x4
    clear_value x4
    extract_lets +onlyGivenNames x5
    refine Same.cut (x := x5.2.2) ?_ (fun h5 => ?_)
    · unfold x5
      split
      · exact Same.step (same_windowRead ..) rfl (Same.refl _ _)
      · exact Same.pair2 (Same.pair (Same.step (same_eccFound ..) rfl (Same.refl _ _)))
    clear_value x5
    refine Same.iteSnd3 (Same.pair3 (Same.pair2 (Same.pair (by assumption)))) ?_
    extract_lets +onlyGivenNames x6
    refine Same.cut (x := x6.2.2.2) ?_ (fun h6 => ?_)
    · unfold x6
      exact Same.step (ih ..) rfl (by assumption)
    clear_value x6
    exact Same.pair3 (Same.pair2 (Same.pair (by assumption)))

theorem same_memReadCmd (a1 : _) (a2 : _) (s : State) : Same 216735732067237912 s (memReadCmd a1 a2 s) := by
  unfold memReadCmd
  extract_lets +onlyGivenNames x1
  clear_value x1
  refine Same.ite (Same.step (same_finish ..) rfl (Same.refl _ _)) ?_
  refine Same.ite (Same.step (same_finish ..) rfl (Same.step (same_nonOwn ..) rfl (Same.refl _ _))) ?_
  extract_lets +onlyGivenNames x2
  refine Same.cut (x := x2.2.2.2) ?_ (fun h2 => ?_)
  · unfold x2
    exact Same.step (same_readWords ..) rfl (Same.refl _ _)
  clear_value x2
  exact Same.step (same_finish ..) rfl (Same.step (same_keepHstat ..) rfl (by assumption))

theorem same_execMemRead (a1 : _) (a2 : _) (a3 : _) (s : State) : SameO 216735732067237912 s (execMemRead a1 a2 a3 s) := by
  unfold execMemRead
  exact same_command rfl (Same.refl _ _) (fun _ _ => Same.step (same_memReadCmd ..) rfl (Same.refl _ _))

theorem same_memTestCmd (a1 : _) (s : State) : Same 216735732067205136 s (memTestCmd a1 s) := by
  unfold memTestCmd
  extract_lets +onlyGivenNames x1
  clear_value x1
  refine Same.ite (Same.step (same_finish ..) rfl (Same.refl _ _)) ?_
  refine Same.ite (Same.step (same_finish ..) rfl (Same.refl _ _)) ?_
  extract_lets +onlyGivenNames x2
  refine Same.cut (x := x2.2) ?_ (fun h2 => ?_)
  · unfold x2
    exact Same.step (same_memTestStart ..) rfl (Same.refl _ _)
  clear_value x2
  exact Same.ite (Same.step (same_await ..) rfl (Same.step (same_setRg ..) rfl (by assumption))) (Same.step (same_finish ..) rfl (by assumption))

theorem same_execMemTest (a1 : _) (a2 : _) (s : State) : SameO 216735732067205136 s (execMemTest a1 a2 s) := by
  unfold execMemTest
  exact same_command rfl (Same.refl _ _) (fun _ _ => Same.step (same_memTestCmd ..) rfl (Same.refl _ _))

theorem same_writeWords (a1 : _) (a2 : _) (a3 : _) (a4 : _) (s : State) : Same 288793326105165840 s (writeWords a1 a2 a3 a4 s).2 := by
  induction a3 generalizing a4 s with
  | zero => exact Same.refl _ _
  | succ n ih =>
    unfold writeWords
    extract_lets +onlyGivenNames x1
    clear_value x1
    extract_lets +onlyGivenNames x2
    clear_value x2
    extract_lets +onlyGivenNames x3
    refine Same.cut (x := x3.2) ?_ (fun h3 => ?_)
    · unfold x3
      split
      · exact Same.step (same_windowWrite ..) rfl (Same.refl _ _)
      · exact Same.pair (Same.step (same_memPut ..) rfl (Same.refl _ _))
    clear_value x3
    exact Same.iteSnd (Same.pair (by assumption)) (Same.step (ih ..) rfl (by assumption))

theorem same_memWriteCmd (a1 : _) (a2 : _) (s : State) : Same 504966108218949648 s (memWriteCmd a1 a2 s) := by
  unfold memWriteCmd
  extract_lets +onlyGivenNames x1
  clear_value x1
  refine Same.ite (Same.step (same_finish ..) rfl (Same.refl _ _)) ?_
  refine Same.ite (Same.step (same_finish ..) rfl (Same.step (same_nonOwn ..) rfl (Same.refl _ _))) ?_
  extract_lets +onlyGivenNames x2
  refine Same.cut (x := x2.2) ?_ (fun h2 => ?_)
  · unfold x2
    exact Same.step (same_writeWords ..) rfl (Same.refl _ _)
  clear_value x2
  exact Same.step (same_finish ..) rfl (Same.step (same_keepHstat ..) rfl (by assumption))

theorem same_execMemWrite (a1 : _) (a2 : _) (a3 : _) (s : State) : SameO 504966108218949648 s (execMemWrite a1 a2 a3 s) := by
  unfold execMemWrite
  exact same_command rfl (Same.refl _ _) (fun _ _ => Same.step (same_memWriteCmd ..) rfl (Same.refl _ _))

theorem same_scheduleEvt (a1 : _) (a2 : _) (a3 : _) (a4 : _) (s : State) : Same 8589934608 s (scheduleEvt a1 a2 a3 a4 s) := by
  unfold scheduleEvt
  extract_lets +onlyGivenNames x1
  clear_value x1
  exact Same.step (same_evtArm1 ..) rfl (Same.step (same_setRg ..) rfl (Same.step (same_setRg ..) rfl (Same.step (same_setRg ..) rfl (Same.step (same_setRg ..) rfl (Same.refl _ _)))))

theorem same_scheduleCmd (a1 : _) (s : State) : Same 216172790703718416 s (scheduleCmd a1 s) := by
  unfold scheduleCmd
  extract_lets +onlyGivenNames x1
  clear_value x1
  extract_lets +onlyGivenNames x2
  clear_value x2
  extract_lets +onlyGivenNames x3
  clear_value x3
  refine Same.ite (Same.step (same_finish ..) rfl (Same.refl _ _)) ?_
  refine Same.ite (Same.step (same_finish ..) rfl (Same.refl _ _)) ?_
  refine Same.ite (Same.step (same_finish ..) rfl (Same.step (same_evtDrop ..) rfl (Same.refl _ _))) ?_
  refine Same.ite (Same.step (same_finish ..) rfl (Same.refl _ _)) ?_
  extract_lets +onlyGivenNames x4
  refine Same.cut (x := x4) ?_ (fun h4 => ?_)
  · unfold x4
    exact Same.step (same_scheduleEvt ..) rfl (Same.refl _ _)
  clear_value x4
  exact Same.step (same_finish ..) rfl (by assumption)

theorem same_execTimeSchedule (a1 : _) (a2 : _) (s : State) : SameO 216172790703718416 s (execTimeSchedule a1 a2 s) := by
  unfold execTimeSchedule
  exact same_command rfl (Same.refl _ _) (fun _ _ => Same.step (same_scheduleCmd ..) rfl (Same.refl _ _))

theorem same_execTimeSetAsym (a1 : _) (a2 : _) (s : State) : SameO 216172782113783824 s (execTimeSetAsym a1 a2 s) := by
  unfold execTimeSetAsym
  exact same_command rfl (Same.refl _ _) (fun _ _ => Same.step (same_asymCmd ..) rfl (Same.refl _ _))

theorem same_timeStatusCmd (a1 : _) (s : State) : Same 216172790703718416 s (timeStatusCmd a1 s) := by
  unfold timeStatusCmd
  extract_lets +onlyGivenNames x1
  refine Same.cut (x := x1) ?_ (fun h1 => ?_)
  · unfold x1
    exact Same.step (same_takeSnap ..) rfl (Same.refl _ _)
  clear_value x1
  extract_lets +onlyGivenNames x2
  clear_value x2
  exact Same.step (same_finish ..) rfl (by assumption)

theorem same_execTimeStatus (a1 : _) (a2 : _) (s : State) : SameO 216172790703718416 s (execTimeStatus a1 a2 s) := by
  unfold execTimeStatus
  exact same_command rfl (Same.refl _ _) (fun _ _ => Same.step (same_timeStatusCmd ..) rfl (Same.refl _ _))

theorem same_stepAsked (a1 : _) (s : State) : SameP 8589934608 s (stepAsked a1 s) := by
  unfold stepAsked
  extract_lets +onlyGivenNames x1
  clear_value x1
  exact SameP.ite (SameP.ite (SameP.some (Same.step (same_modTmb ..) rfl (Same.refl _ _))) SameP.none) (SameP.ite (SameP.some (Same.step (same_todWrite ..) rfl (Same.step (same_setRg ..) rfl (Same.refl _ _)))) (SameP.ite (SameP.some (Same.step (same_modTmb ..) rfl (Same.refl _ _))) SameP.none))

theorem same_timeStepCmd (a1 : _) (s : State) : Same 216172790703718416 s (timeStepCmd a1 s) := by
  unfold timeStepCmd
  refine Same.ite (Same.step (same_finish ..) rfl (Same.refl _ _)) ?_
  refine Same.ite (Same.step (same_finish ..) rfl (Same.refl _ _)) ?_
  split
  · exact Same.step (same_await ..) rfl (Same.ofSome (by assumption) (SameP.step (same_stepAsked ..) rfl (Same.refl _ _)))
  · exact Same.step (same_finish ..) rfl (Same.refl _ _)

theorem same_execTimeStep (a1 : _) (a2 : _) (s : State) : SameO 216172790703718416 s (execTimeStep a1 a2 s) := by
  unfold execTimeStep
  exact same_command rfl (Same.refl _ _) (fun _ _ => Same.step (same_timeStepCmd ..) rfl (Same.refl _ _))

end Sys2Proof.Machine
end

