-- ==== Sys2Proof/Laws/FootCmdLink.lean ====
section
/-! SUPPORT. Footprints of the operations and meanings of Machine/CmdLink.lean: each lemma says once which fields of the
state the function can change. -/

namespace Sys2Proof.Machine

open Sys2Proof

theorem same_bcnDiagCmd (a1 : _) (s : State) : Same 220676381741187088 s (bcnDiagCmd a1 s) := by
  unfold bcnDiagCmd
  extract_lets +onlyGivenNames x1
  clear_value x1
  refine Same.ite (Same.step (same_finish ..) rfl (Same.refl _ _)) ?_
  refine Same.ite (Same.step (same_finish ..) rfl (Same.refl _ _)) ?_
  extract_lets +onlyGivenNames x2
  refine Same.cut (x := x2.2) ?_ (fun h2 => ?_)
  · unfold x2
    exact Same.step (same_testStart ..) rfl (Same.refl _ _)
  clear_value x2
  refine Same.ite (Same.step (same_finish ..) rfl (by assumption)) ?_
  extract_lets +onlyGivenNames x3
  refine Same.cut (x := x3) ?_ (fun h3 => ?_)
  · unfold x3
    exact Same.step (same_await ..) rfl (by assumption)
  clear_value x3
  exact Same.ite (Same.step (same_testCheck ..) rfl (by assumption)) (by assumption)

theorem same_schWrite (a1 : _) (a2 : _) (s : State) : Same 4503599627370512 s (schWrite a1 a2 s) := by
  unfold schWrite
  extract_lets +onlyGivenNames x1
  clear_value x1
  extract_lets +onlyGivenNames x2
  refine Same.cut (x := x2) ?_ (fun h2 => ?_)
  · unfold x2
    exact Same.step (same_setRg ..) rfl (Same.step (same_setRg ..) rfl (Same.step (same_setRg ..) rfl (Same.refl _ _)))
  clear_value x2
  exact Same.step (same_schArm ..) rfl (Same.step (same_setRg ..) rfl (Same.step (same_setRg ..) rfl (Same.step (same_setRg ..) rfl (by assumption))))

theorem same_bcnScheduleCmd (a1 : _) (s : State) : Same 220676381741154320 s (bcnScheduleCmd a1 s) := by
  unfold bcnScheduleCmd
  extract_lets +onlyGivenNames x1
  clear_value x1
  exact Same.ite (Same.step (same_finish ..) rfl (Same.refl _ _)) (Same.ite (Same.step (same_finish ..) rfl (Same.refl _ _)) (Same.ite (Same.step (same_finish ..) rfl (Same.refl _ _)) (Same.step (same_finish ..) rfl (Same.forN (Same.refl _ _) (fun _ _ => Same.ite (Same.step (same_schWrite ..) rfl (Same.refl _ _)) (Same.refl _ _))))))

theorem same_bcnSetCmd (a1 : _) (s : State) : Same 216172782113800240 s (bcnSetCmd a1 s) := by
  unfold bcnSetCmd
  extract_lets +onlyGivenNames x1
  clear_value x1
  extract_lets +onlyGivenNames x2
  clear_value x2
  extract_lets +onlyGivenNames x3
  clear_value x3
  extract_lets +onlyGivenNames x4
  clear_value x4
  split
  · exact Same.step (same_finish ..) rfl (Same.step (same_ownerTouch ..) rfl (Same.refl _ _))
  · refine Same.ite (Same.step (same_finish ..) rfl (Same.step (same_ownerTouch ..) rfl (Same.refl _ _))) ?_
    extract_lets +onlyGivenNames x5
    clear_value x5
    exact Same.step (same_stages ..) rfl (Same.refl _ _)

theorem same_bistCmd (a1 : _) (s : State) : Same 252201579132747792 s (bistCmd a1 s) := by
  unfold bistCmd
  extract_lets +onlyGivenNames x1
  clear_value x1
  refine Same.ite (Same.step (same_finish ..) rfl (Same.refl _ _)) ?_
  extract_lets +onlyGivenNames x2
  refine Same.cut (x := x2.2) ?_ (fun h2 => ?_)
  · unfold x2
    exact Same.step (same_bistStart ..) rfl (Same.refl _ _)
  clear_value x2
  exact Same.ite (Same.step (same_await ..) rfl (by assumption)) (Same.step (same_finish ..) rfl (by assumption))

theorem same_counters (a1 : _) (a2 : _) (s : State) : Same 562950221955352 s (counters a1 a2 s).2 := by
  unfold counters
  refine Same.forNOn Prod.snd (Same.pair (Same.refl _ _)) (fun _ _ => ?_)
  extract_lets +onlyGivenNames x1
  refine Same.cut (x := x1.2.2) ?_ (fun h1 => ?_)
  · unfold x1
    exact Same.step (same_readReg ..) rfl (Same.refl _ _)
  clear_value x1
  exact Same.pair (by assumption)

theorem same_countersCmd (a1 : _) (s : State) : Same 216735732335739160 s (countersCmd a1 s) := by
  unfold countersCmd
  split
  · extract_lets +onlyGivenNames x1
    refine Same.cut (x := x1.2) ?_ (fun h1 => ?_)
    · unfold x1
      exact Same.step (same_counters ..) rfl (Same.refl _ _)
    clear_value x1
    exact Same.step (same_finish ..) rfl (by assumption)
  · exact Same.step (same_finish ..) rfl (Same.refl _ _)

theorem same_execBcnDiag (a1 : _) (a2 : _) (s : State) : SameO 220676381741187088 s (execBcnDiag a1 a2 s) := by
  unfold execBcnDiag
  exact same_command rfl (Same.refl _ _) (fun _ _ => Same.step (same_bcnDiagCmd ..) rfl (Same.refl _ _))

theorem same_execBcnSchedule (a1 : _) (a2 : _) (s : State) : SameO 220676381741154320 s (execBcnSchedule a1 a2 s) := by
  unfold execBcnSchedule
  exact same_command rfl (Same.refl _ _) (fun _ _ => Same.step (same_bcnScheduleCmd ..) rfl (Same.refl _ _))

theorem same_execBcnSet (a1 : _) (a2 : _) (s : State) : SameO 216172782113800240 s (execBcnSet a1 a2 s) := by
  unfold execBcnSet
  exact same_command rfl (Same.refl _ _) (fun _ _ => Same.step (same_bcnSetCmd ..) rfl (Same.refl _ _))

theorem same_execDiagBist (a1 : _) (a2 : _) (s : State) : SameO 252201579132747792 s (execDiagBist a1 a2 s) := by
  unfold execDiagBist
  exact same_command rfl (Same.refl _ _) (fun _ _ => Same.step (same_bistCmd ..) rfl (Same.refl _ _))

theorem same_execDiagCounters (a1 : _) (a2 : _) (s : State) : SameO 216735732335739160 s (execDiagCounters a1 a2 s) := by
  unfold execDiagCounters
  exact same_command rfl (Same.refl _ _) (fun _ _ => Same.step (same_countersCmd ..) rfl (Same.refl _ _))

theorem same_perturbCmd (a1 : _) (s : State) : Same 252201579132747792 s (perturbCmd a1 s) := by
  unfold perturbCmd
  split
  · exact Same.step (same_ends ..) rfl (Same.step (same_perturbWrite ..) rfl (Same.refl _ _))
  · exact Same.step (same_finish ..) rfl (Same.refl _ _)

theorem same_execDiagPerturb (a1 : _) (a2 : _) (s : State) : SameO 252201579132747792 s (execDiagPerturb a1 a2 s) := by
  unfold execDiagPerturb
  exact same_command rfl (Same.refl _ _) (fun _ _ => Same.step (same_perturbCmd ..) rfl (Same.refl _ _))

theorem same_prbsCmd (a1 : _) (s : State) : Same 216172850967527472 s (prbsCmd a1 s) := by
  unfold prbsCmd
  extract_lets +onlyGivenNames x1
  clear_value x1
  extract_lets +onlyGivenNames x2
  clear_value x2
  extract_lets +onlyGivenNames x3
  clear_value x3
  extract_lets +onlyGivenNames x4
  clear_value x4
  refine Same.ite (Same.step (same_finish ..) rfl (Same.refl _ _)) ?_
  refine Same.ite (Same.step (same_finish ..) rfl (Same.refl _ _)) ?_
  extract_lets +onlyGivenNames x5
  refine Same.cut (x := x5.2) ?_ (fun h5 => ?_)
  · unfold x5
    exact Same.step (same_sessionOpen ..) rfl (Same.refl _ _)
  clear_value x5
  exact Same.ite (Same.step (same_finish ..) rfl (Same.refl _ _)) (Same.step (same_await ..) rfl (Same.step (same_ownArm ..) rfl (Same.step (same_stageAll ..) rfl (Same.step (same_prbsWrite ..) rfl (by assumption)))))

theorem same_execLinkPrbs (a1 : _) (a2 : _) (s : State) : SameO 216172850967527472 s (execLinkPrbs a1 a2 s) := by
  unfold execLinkPrbs
  exact same_command rfl (Same.refl _ _) (fun _ _ => Same.step (same_prbsCmd ..) rfl (Same.refl _ _))

theorem same_prbsEnd (a1 : _) (s : State) : Same 72057594172162096 s (prbsEnd a1 s) := by
  unfold prbsEnd
  split
  · split
    · extract_lets +onlyGivenNames x1
      clear_value x1
      extract_lets +onlyGivenNames x2
      refine Same.cut (x := x2.2) ?_ (fun h2 => ?_)
      · unfold x2
        exact Same.step (same_sessionOpen ..) rfl (Same.refl _ _)
      clear_value x2
      exact Same.ite (Same.step (same_await ..) rfl (Same.step (same_ownArm ..) rfl (Same.step (same_stageAll ..) rfl (by assumption)))) (Same.refl _ _)
    · exact Same.step (same_prbsStop ..) rfl (Same.refl _ _)
  · exact Same.refl _ _

theorem same_execLinkPrbsEnd (a1 : _) (s : State) : SameO 72057594172162096 s (execLinkPrbsEnd a1 s) := by
  unfold execLinkPrbsEnd
  exact SameO.next (Same.ite (Same.step (same_prbsEnd ..) rfl (Same.refl _ _)) (Same.refl _ _))

theorem same_routeCmd (a1 : _) (s : State) : Same 216172782113800240 s (routeCmd a1 s) := by
  unfold routeCmd
  extract_lets +onlyGivenNames x1
  clear_value x1
  extract_lets +onlyGivenNames x2
  clear_value x2
  extract_lets +onlyGivenNames x3
  clear_value x3
  extract_lets +onlyGivenNames x4
  clear_value x4
  exact Same.step (same_stages ..) rfl (Same.refl _ _)

theorem same_execLinkRoute (a1 : _) (a2 : _) (s : State) : SameO 216172782113800240 s (execLinkRoute a1 a2 s) := by
  unfold execLinkRoute
  exact same_command rfl (Same.refl _ _) (fun _ _ => Same.step (same_routeCmd ..) rfl (Same.refl _ _))

theorem same_linkStatusCmd (a1 : _) (s : State) : Same 216735732335739160 s (linkStatusCmd a1 s) := by
  unfold linkStatusCmd
  extract_lets +onlyGivenNames x1
  clear_value x1
  refine Same.ite (Same.step (same_finish ..) rfl (Same.refl _ _)) ?_
  extract_lets +onlyGivenNames x2
  extract_lets +onlyGivenNames x3
  refine Same.cut (x := x3.2) ?_ (fun h3 => ?_)
  · unfold x3
    exact Same.step (same_counters ..) rfl (Same.refl _ _)
  clear_value x3
  exact Same.step (same_finish ..) rfl (by assumption)

theorem same_execLinkStatus (a1 : _) (a2 : _) (s : State) : SameO 216735732335739160 s (execLinkStatus a1 a2 s) := by
  unfold execLinkStatus
  exact same_command rfl (Same.refl _ _) (fun _ _ => Same.step (same_linkStatusCmd ..) rfl (Same.refl _ _))

theorem same_streamCmd (a1 : _) (s : State) : Same 216172782113800240 s (streamCmd a1 s) := by
  unfold streamCmd
  extract_lets +onlyGivenNames x1
  clear_value x1
  extract_lets +onlyGivenNames x2
  clear_value x2
  extract_lets +onlyGivenNames x3
  clear_value x3
  extract_lets +onlyGivenNames x4
  extract_lets +onlyGivenNames x5
  clear_value x5
  exact Same.step (same_stages ..) rfl (Same.refl _ _)

theorem same_execStreamSet (a1 : _) (a2 : _) (s : State) : SameO 216172782113800240 s (execStreamSet a1 a2 s) := by
  unfold execStreamSet
  exact same_command rfl (Same.refl _ _) (fun _ _ => Same.step (same_streamCmd ..) rfl (Same.refl _ _))

theorem same_leaseCmd (a1 : _) (s : State) : Same 216172782113800240 s (leaseCmd a1 s) := by
  unfold leaseCmd
  exact Same.step (same_stages ..) rfl (Same.refl _ _)

theorem same_execTwinSetLease (a1 : _) (a2 : _) (s : State) : SameO 216172782113800240 s (execTwinSetLease a1 a2 s) := by
  unfold execTwinSetLease
  exact same_command rfl (Same.refl _ _) (fun _ _ => Same.step (same_leaseCmd ..) rfl (Same.refl _ _))

theorem same_twinStatusCmd (a1 : _) (s : State) : Same 216172782113783824 s (twinStatusCmd a1 s) := by
  unfold twinStatusCmd
  exact Same.step (same_finish ..) rfl (Same.refl _ _)

theorem same_execTwinStatus (a1 : _) (a2 : _) (s : State) : SameO 216172782113783824 s (execTwinStatus a1 a2 s) := by
  unfold execTwinStatus
  exact same_command rfl (Same.refl _ _) (fun _ _ => Same.step (same_twinStatusCmd ..) rfl (Same.refl _ _))

theorem same_swapCmd (a1 : _) (s : State) : Same 218424650646945808 s (swapCmd a1 s) := by
  unfold swapCmd
  refine Same.ite (Same.step (same_finish ..) rfl (Same.refl _ _)) ?_
  extract_lets +onlyGivenNames x1
  refine Same.cut (x := x1) ?_ (fun h1 => ?_)
  · unfold x1
    exact Same.step (same_setRg ..) rfl (Same.step (same_setRg ..) rfl (Same.refl _ _))
  clear_value x1
  extract_lets +onlyGivenNames x2
  refine Same.cut (x := x2.2) ?_ (fun h2 => ?_)
  · unfold x2
    exact Same.step (same_swapAdd ..) rfl (by assumption)
  clear_value x2
  exact Same.ite (Same.step (same_await ..) rfl (by assumption)) (Same.step (same_finish ..) rfl (by assumption))

theorem same_execTwinSwapNow (a1 : _) (a2 : _) (s : State) : SameO 218424650646945808 s (execTwinSwapNow a1 a2 s) := by
  unfold execTwinSwapNow
  exact same_command rfl (Same.refl _ _) (fun _ _ => Same.step (same_swapCmd ..) rfl (Same.refl _ _))

end Sys2Proof.Machine
end

