-- ==== Sys2Proof/Laws/FootMgmt.lean ====
section
/-! SUPPORT. Footprints of the operations and meanings of Machine/Mgmt.lean: each lemma says once which fields of the
state the function can change. -/

namespace Sys2Proof.Machine

open Sys2Proof

theorem same_eventSend (s : State) : Same 68719509504 s (eventSend s) := by
  unfold eventSend
  extract_lets +onlyGivenNames x1
  clear_value x1
  extract_lets +onlyGivenNames x2
  refine Same.cut (x := x2) ?_ (fun h2 => ?_)
  · unfold x2
    exact Same.forL (Same.refl _ _) (fun _ _ => Same.ite (Same.step (same_mgmtPut ..) rfl (Same.refl _ _)) (Same.refl _ _))
  clear_value x2
  exact Same.step (upd_evt ..) rfl (by assumption)

theorem same_execEventPacketSend (s : State) : SameO 68719509504 s (execEventPacketSend s) := by
  unfold execEventPacketSend
  exact SameO.next (Same.ite (Same.step (same_eventSend ..) rfl (Same.refl _ _)) (Same.refl _ _))

theorem same_execEventRepeat (s : State) : SameO 68719509504 s (execEventRepeat s) := by
  unfold execEventRepeat
  exact SameO.next (Same.ite (Same.step (same_eventSend ..) rfl (Same.refl _ _)) (Same.refl _ _))

theorem same_mFree (a1 : _) (a2 : _) (s : State) : Same 68719476736 s (mFree a1 a2 s) := by
  unfold mFree
  exact Same.step (same_modLk ..) rfl (Same.refl _ _)

theorem same_mgmtCopies (a1 : _) (a2 : _) (a3 : _) (a4 : _) (s : State) : Same 68719476736 s (mgmtCopies a1 a2 a3 a4 s) := by
  induction a3 generalizing a4 s with
  | nil => exact Same.refl _ _
  | cons b n ih =>
    unfold mgmtCopies
    exact Same.step (ih ..) rfl (Same.step (same_mgmtPut ..) rfl (Same.refl _ _))

theorem same_unreach (a1 : _) (a2 : _) (a3 : _) (s : State) : Same 68719509520 s (unreach a1 a2 a3 s) := by
  unfold unreach
  exact Same.step (same_raise ..) rfl (Same.step (same_bump ..) rfl (Same.step (same_mgmtReply ..) rfl (Same.refl _ _)))

theorem same_mgmtDown (a1 : _) (a2 : _) (a3 : _) (s : State) : Same 68719509520 s (mgmtDown a1 a2 a3 s) := by
  unfold mgmtDown
  extract_lets +onlyGivenNames x1
  refine Same.ite ?_ ?_
  · unfold x1
    beta_reduce
    exact Same.ite (Same.refl _ _) (Same.step (same_mFree ..) rfl (Same.refl _ _))
  · refine Same.ite ?_ ?_
    · unfold x1
      beta_reduce
      exact Same.ite (Same.step (same_unreach ..) rfl (Same.refl _ _)) (Same.step (same_mFree ..) rfl (Same.step (same_unreach ..) rfl (Same.refl _ _)))
    · split
      · unfold x1
        beta_reduce
        exact Same.ite (Same.step (same_unreach ..) rfl (Same.refl _ _)) (Same.step (same_mFree ..) rfl (Same.step (same_unreach ..) rfl (Same.refl _ _)))
      · exact Same.step (same_bump ..) rfl (Same.step (same_mgmtCopies ..) rfl (Same.refl _ _))

theorem same_mgmtCommand (a1 : _) (a2 : _) (s : State) : Same 18014398509481984 s (mgmtCommand a1 a2 s) := by
  unfold mgmtCommand
  exact Same.step (same_modHst ..) rfl (Same.refl _ _)

theorem same_mgmtCompl (a1 : _) (s : State) : Same 2251799813685248 s (mgmtCompl a1 s) := by
  unfold mgmtCompl
  exact Same.ite (Same.step (same_modTwn ..) rfl (Same.refl _ _)) (Same.refl _ _)

theorem same_regReply (a1 : _) (a2 : _) (a3 : _) (a4 : _) (a5 : _) (s : State) : Same 68719476736 s (regReply a1 a2 a3 a4 a5 s) := by
  unfold regReply
  exact Same.step (same_mgmtReply ..) rfl (Same.refl _ _)

theorem same_mgmtRead (a1 : _) (a2 : _) (a3 : _) (s : State) : Same 563018941432600 s (mgmtRead a1 a2 a3 s) := by
  unfold mgmtRead
  refine Same.ite (Same.step (same_regReply ..) rfl (Same.refl _ _)) ?_
  extract_lets +onlyGivenNames x1
  refine Same.cut (x := x1.2) ?_ (fun h1 => ?_)
  · unfold x1
    exact Same.step (same_readBurst ..) rfl (Same.refl _ _)
  clear_value x1
  refine Same.step (same_regReply ..) rfl ?_
  extract_lets +onlyGivenNames x2
  refine Same.cut (x := x2) ?_ (fun h2 => ?_)
  · unfold x2
    exact (by assumption)
  clear_value x2
  exact Same.step (upd_rd ..) rfl (by assumption)

theorem same_mgmtWrite (a1 : _) (a2 : _) (a3 : _) (s : State) : Same 567452573764153594 s (mgmtWrite a1 a2 a3 s) := by
  unfold mgmtWrite
  refine Same.ite (Same.step (same_regReply ..) rfl (Same.refl _ _)) ?_
  extract_lets +onlyGivenNames x1
  clear_value x1
  exact Same.step (same_regReply ..) rfl (Same.step (same_writeBurst ..) rfl (Same.refl _ _))

theorem same_mgmtExec (a1 : _) (a2 : _) (a3 : _) (s : State) : Same 567452573764154362 s (mgmtExec a1 a2 a3 s) := by
  unfold mgmtExec
  refine Same.ite (Same.step (same_mFree ..) rfl (Same.step (same_unreach ..) rfl (Same.refl _ _))) ?_
  split
  · exact Same.step (same_mgmtCommand ..) rfl (Same.refl _ _)
  · exact Same.step (same_mFree ..) rfl (Same.step (same_mgmtCompl ..) rfl (Same.refl _ _))
  · exact Same.step (same_mFree ..) rfl (Same.step (same_mgmtRead ..) rfl (Same.refl _ _))
  · exact Same.step (same_mFree ..) rfl (Same.step (same_mgmtWrite ..) rfl (Same.refl _ _))
  · exact Same.step (same_mFree ..) rfl (Same.refl _ _)
  · exact Same.step (same_mFree ..) rfl (Same.refl _ _)
  · exact Same.step (same_mFree ..) rfl (Same.refl _ _)
  · exact Same.step (same_mFree ..) rfl (Same.step (same_unrouted ..) rfl (Same.refl _ _))

theorem same_mgmtUp (a1 : _) (a2 : _) (a3 : _) (s : State) : Same 68719509520 s (mgmtUp a1 a2 a3 s) := by
  unfold mgmtUp
  exact Same.ite (Same.step (same_mFree ..) rfl (Same.step (same_unreach ..) rfl (Same.refl _ _))) (Same.step (same_mgmtCopies ..) rfl (Same.refl _ _))

theorem same_mgmtTake (a1 : _) (a2 : _) (a3 : _) (s : State) : Same 567452573764154362 s (mgmtTake a1 a2 a3 s) := by
  unfold mgmtTake
  split
  · exact Same.step (same_mgmtUp ..) rfl (Same.refl _ _)
  · exact Same.ite (Same.step (same_mgmtExec ..) rfl (Same.refl _ _)) (Same.ite (Same.step (same_mgmtDown ..) rfl (Same.step (same_mgmtExec ..) rfl (Same.refl _ _))) (Same.step (same_mgmtDown ..) rfl (Same.refl _ _)))

theorem same_mgmtRx (a1 : _) (a2 : _) (a3 : _) (a4 : _) (s : State) : Same 567452573764154362 s (mgmtRx a1 a2 a3 a4 s) := by
  unfold mgmtRx
  exact Same.ite (Same.ite (same_seqRx rfl (Same.refl _ _) (fun _ => Same.step (same_mgmtTake ..) rfl (Same.refl _ _))) (Same.step (same_lenBad ..) rfl (Same.refl _ _))) (Same.refl _ _)

theorem same_execMgmtCommandReceive (a1 : _) (a2 : _) (s : State) : SameO 567452573764154362 s (execMgmtCommandReceive a1 a2 s) := by
  unfold execMgmtCommandReceive
  exact SameO.next (Same.step (same_mgmtRx ..) rfl (Same.refl _ _))

theorem same_execMgmtRegRead (a1 : _) (a2 : _) (a3 : _) (s : State) : SameO 567452573764154362 s (execMgmtRegRead a1 a2 a3 s) := by
  unfold execMgmtRegRead
  exact SameO.next (Same.step (same_mgmtRx ..) rfl (Same.refl _ _))

theorem same_execMgmtRegWrite (a1 : _) (a2 : _) (a3 : _) (s : State) : SameO 567452573764154362 s (execMgmtRegWrite a1 a2 a3 s) := by
  unfold execMgmtRegWrite
  exact SameO.next (Same.step (same_mgmtRx ..) rfl (Same.refl _ _))

theorem same_execMgmtReservedDiscard (a1 : _) (a2 : _) (s : State) : SameO 567452573764154362 s (execMgmtReservedDiscard a1 a2 s) := by
  unfold execMgmtReservedDiscard
  exact SameO.next (Same.step (same_mgmtRx ..) rfl (Same.refl _ _))

theorem same_execSequencedPacketAccept (a1 : _) (a2 : _) (a3 : _) (s : State) : SameO 567452573764154362 s (execSequencedPacketAccept a1 a2 a3 s) := by
  unfold execSequencedPacketAccept
  refine SameO.next ?_
  refine Same.ite ?_ (Same.refl _ _)
  refine Same.ite (Same.step (same_lenBad ..) rfl (Same.refl _ _)) ?_
  split
  · exact same_seqRx rfl (Same.refl _ _) (fun _ => Same.step (same_stookTake ..) rfl (Same.refl _ _))
  · exact same_seqRx rfl (Same.refl _ _) (fun _ => Same.step (same_mgmtTake ..) rfl (Same.refl _ _))
  · exact same_seqRx rfl (Same.refl _ _) (fun _ => Same.step (same_trigTake ..) rfl (Same.refl _ _))
  · exact Same.ite (Same.step (same_bump ..) rfl (Same.refl _ _)) (Same.refl _ _)

end Sys2Proof.Machine
end

