-- ==== Sys2Proof/Laws/FootFrame.lean ====
section
/-! SUPPORT. Footprints of the operations and meanings of Machine/Frame.lean: each lemma says once which fields of the
state the function can change. -/

namespace Sys2Proof.Machine

open Sys2Proof

theorem same_chArm (a1 : _) (a2 : _) (s : State) : Same 216172782258323472 s (chArm a1 a2 s) := by
  unfold chArm
  refine Same.ite (Same.refl _ _) ?_
  extract_lets +onlyGivenNames x1
  clear_value x1
  extract_lets +onlyGivenNames x2
  refine Same.cut (x := x2) ?_ (fun h2 => ?_)
  · unfold x2
    exact Same.step (same_modChan ..) rfl (Same.refl _ _)
  clear_value x2
  extract_lets +onlyGivenNames x3
  refine Same.cut (x := x3) ?_ (fun h3 => ?_)
  · unfold x3
    exact Same.step (same_setStart ..) rfl (by assumption)
  clear_value x3
  extract_lets +onlyGivenNames x4
  refine Same.cut (x := x4) ?_ (fun h4 => ?_)
  · unfold x4
    exact Same.step (same_loadsSync ..) rfl (Same.step (same_marksOpen ..) rfl (by assumption))
  clear_value x4
  exact Same.ite (Same.step (same_chFault ..) rfl (by assumption)) (Same.ite (by assumption) (Same.step (same_chFault ..) rfl (by assumption)))

theorem same_gainApply (a1 : _) (a2 : _) (a3 : _) (a4 : _) (s : State) : Same 65552 s (gainApply a1 a2 a3 a4 s) := by
  unfold gainApply
  extract_lets +onlyGivenNames x1
  clear_value x1
  exact Same.ite (Same.step (same_switchRange ..) rfl (Same.step (same_arDiscard ..) rfl (Same.refl _ _))) (Same.refl _ _)

theorem same_chChange (a1 : State) (a2 : _) (a3 : _) (a4 : _) (a5 : _) (s : State) : Same 196624 s (chChange a1 a2 a3 a4 a5 s) := by
  unfold chChange
  extract_lets +onlyGivenNames x1
  clear_value x1
  extract_lets +onlyGivenNames x2
  clear_value x2
  extract_lets +onlyGivenNames x3
  clear_value x3
  extract_lets +onlyGivenNames x4
  refine Same.cut (x := x4) ?_ (fun h4 => ?_)
  · unfold x4
    exact Same.step (same_gainApply ..) rfl (Same.refl _ _)
  clear_value x4
  refine Same.ite (by assumption) ?_
  extract_lets +onlyGivenNames x5
  refine Same.cut (x := x5) ?_ (fun h5 => ?_)
  · unfold x5
    exact Same.ite (Same.step (same_settle ..) rfl (by assumption)) (by assumption)
  clear_value x5
  extract_lets +onlyGivenNames x6
  refine Same.cut (x := x6) ?_ (fun h6 => ?_)
  · unfold x6
    split
    · exact Same.step (same_reselect ..) rfl (by assumption)
    · exact (by assumption)
  clear_value x6
  extract_lets +onlyGivenNames x7
  clear_value x7
  exact Same.ite (Same.step (same_modTap ..) rfl (by assumption)) (by assumption)

theorem same_chDisable (a1 : _) (s : State) : Same 216172782258454544 s (chDisable a1 s) := by
  unfold chDisable
  exact Same.step (same_modChan ..) rfl (Same.step (same_setStart ..) rfl (Same.step (same_chOff ..) rfl (Same.refl _ _)))

theorem same_leadApply (a1 : State) (a2 : _) (a3 : _) (s : State) : Same 134316048 s (leadApply a1 a2 a3 s) := by
  unfold leadApply
  extract_lets +onlyGivenNames x1
  clear_value x1
  extract_lets +onlyGivenNames x2
  clear_value x2
  refine Same.ite (Same.refl _ _) ?_
  extract_lets +onlyGivenNames x3
  clear_value x3
  extract_lets +onlyGivenNames x4
  clear_value x4
  extract_lets +onlyGivenNames x5
  refine Same.cut (x := x5) ?_ (fun h5 => ?_)
  · unfold x5
    exact Same.step (same_modChan ..) rfl (Same.refl _ _)
  clear_value x5
  extract_lets +onlyGivenNames x6
  refine Same.cut (x := x6) ?_ (fun h6 => ?_)
  · unfold x6
    exact Same.ite (by assumption) (Same.ite (Same.step (same_leadClear ..) rfl (by assumption)) (Same.step (same_clearingTest ..) rfl (by assumption)))
  clear_value x6
  exact Same.step (same_excJoin ..) rfl (by assumption)

theorem same_muxApply (a1 : _) (a2 : _) (a3 : _) (a4 : _) (s : State) : Same 65536 s (muxApply a1 a2 a3 a4 s) := by
  unfold muxApply
  exact Same.ite (Same.step (same_mark ..) rfl (Same.refl _ _)) (Same.ite (Same.step (same_endMarks ..) rfl (Same.refl _ _)) (Same.refl _ _))

theorem same_oweRate (a1 : State) (a2 : _) (s : State) : Same 131072 s (oweRate a1 a2 s) := by
  unfold oweRate
  extract_lets +onlyGivenNames x1
  clear_value x1
  exact Same.ite (Same.refl _ _) (Same.step (same_modTap ..) rfl (Same.refl _ _))

theorem same_chApply (a1 : State) (a2 : _) (a3 : _) (a4 : _) (s : State) : Same 216172782258454544 s (chApply a1 a2 a3 a4 s) := by
  unfold chApply
  extract_lets +onlyGivenNames x1
  clear_value x1
  extract_lets +onlyGivenNames x2
  clear_value x2
  extract_lets +onlyGivenNames x3
  clear_value x3
  refine Same.ite (Same.ite (Same.step (same_chDisable ..) rfl (Same.refl _ _)) (Same.refl _ _)) ?_
  refine Same.ite (Same.step (same_chArm ..) rfl (Same.refl _ _)) ?_
  extract_lets +onlyGivenNames x4
  refine Same.cut (x := x4) ?_ (fun h4 => ?_)
  · unfold x4
    exact Same.step (same_loadsSync ..) rfl (Same.step (same_muxApply ..) rfl (Same.refl _ _))
  clear_value x4
  exact Same.step (same_leadApply ..) rfl (Same.step (same_chChange ..) rfl (Same.step (same_oweRate ..) rfl (by assumption)))

theorem same_clipMarks (a1 : _) (s : State) : Same 65536 s (clipMarks a1 s) := by
  unfold clipMarks
  refine Same.forL (Same.refl _ _) (fun _ _ => ?_)
  split
  · exact Same.step (same_mark ..) rfl (Same.refl _ _)
  · exact Same.refl _ _

theorem same_countDown (a1 : _) (a2 : _) (s : State) : Same 65536 s (countDown a1 a2 s) := by
  unfold countDown
  extract_lets +onlyGivenNames x1
  clear_value x1
  split
  · exact Same.ite (Same.refl _ _) (Same.step (same_modChan ..) rfl (Same.refl _ _))
  · exact Same.refl _ _

theorem same_emit1 (a1 : _) (a2 : _) (a3 : _) (a4 : _) (a5 : _) (a6 : _) (s : State) : Same 229400 s (emit1 a1 a2 a3 a4 a5 a6 s).2 := by
  unfold emit1
  extract_lets +onlyGivenNames x1
  clear_value x1
  extract_lets +onlyGivenNames x2
  clear_value x2
  extract_lets +onlyGivenNames x3
  clear_value x3
  extract_lets +onlyGivenNames x4
  clear_value x4
  extract_lets +onlyGivenNames x5
  refine Same.cut (x := x5) ?_ (fun h5 => ?_)
  · unfold x5
    exact Same.step (same_modTap ..) rfl (Same.refl _ _)
  clear_value x5
  refine Same.iteSnd (Same.pair (by assumption)) ?_
  extract_lets +onlyGivenNames x6
  refine Same.cut (x := x6.2.2) ?_ (fun h6 => ?_)
  · unfold x6
    exact Same.step (same_linearise ..) rfl (by assumption)
  clear_value x6
  extract_lets +onlyGivenNames x7
  clear_value x7
  extract_lets +onlyGivenNames x8
  clear_value x8
  extract_lets +onlyGivenNames x9
  refine Same.cut (x := x9) ?_ (fun h9 => ?_)
  · unfold x9
    exact Same.step (same_modTap ..) rfl (by assumption)
  clear_value x9
  extract_lets +onlyGivenNames x10
  refine Same.cut (x := x10) ?_ (fun h10 => ?_)
  · unfold x10
    exact Same.step (same_countDown ..) rfl (by assumption)
  clear_value x10
  extract_lets +onlyGivenNames x11
  refine Same.cut (x := x11) ?_ (fun h11 => ?_)
  · unfold x11
    exact Same.ite (Same.step (same_modChan ..) rfl (by assumption)) (by assumption)
  clear_value x11
  exact Same.pair (by assumption)

theorem same_emitRun (a1 : _) (a2 : _) (a3 : _) (a4 : _) (a5 : _) (a6 : _) (s : _) : Same 229400 s.2.2 (emitRun a1 a2 a3 a4 a5 a6 s).2.2 := by
  induction a5 generalizing a6 s with
  | zero => exact Same.refl _ _
  | succ n ih =>
    unfold emitRun
    split
    · exact Same.pair2 (Same.pair (Same.refl _ _))
    · extract_lets +onlyGivenNames x1
      refine Same.cut (x := x1.2) ?_ (fun h1 => ?_)
      · unfold x1
        exact Same.step (same_emit1 ..) rfl (Same.refl _ _)
      clear_value x1
      refine Same.step (ih ..) rfl ?_
      split
      · exact Same.pair2 (Same.pair (by assumption))
      · exact Same.pair2 (Same.pair (by assumption))

theorem same_gapUp (a1 : _) (a2 : _) (s : _) : Same 131072 s.2.2 (gapUp a1 a2 s).2.2 := by
  unfold gapUp
  extract_lets +onlyGivenNames x1
  refine Same.cut (x := x1) ?_ (fun h1 => ?_)
  · unfold x1
    exact Same.refl _ _
  clear_value x1
  split
  · extract_lets +onlyGivenNames x2
    clear_value x2
    exact Same.iteSnd2 (Same.pair2 (Same.pair (Same.step (same_modTap ..) rfl (by assumption)))) (Same.refl _ _)
  · exact Same.refl _ _

theorem same_chanPass (a1 : _) (a2 : _) (a3 : _) (a4 : _) (a5 : _) (s : _) : Same 229400 s.2.2 (chanPass a1 a2 a3 a4 a5 s).2.2 := by
  unfold chanPass
  extract_lets +onlyGivenNames x1
  refine Same.cut (x := x1) ?_ (fun h1 => ?_)
  · unfold x1
    exact Same.refl _ _
  clear_value x1
  refine Same.iteSnd2 ?_ ?_
  · extract_lets +onlyGivenNames x2
    clear_value x2
    extract_lets +onlyGivenNames x3
    refine Same.cut (x := x3) ?_ (fun h3 => ?_)
    · unfold x3
      exact Same.forL (Same.step (same_clipMarks ..) rfl (by assumption)) (fun _ _ => Same.step (same_firStep ..) rfl (Same.refl _ _))
    clear_value x3
    split
    · extract_lets +onlyGivenNames x4
      clear_value x4
      extract_lets +onlyGivenNames x5
      refine Same.cut (x := x5.2.2) ?_ (fun h5 => ?_)
      · unfold x5
        exact Same.step (same_emitRun ..) rfl (Same.step (same_gapUp ..) rfl (Same.pair2 (Same.pair (by assumption))))
      clear_value x5
      exact Same.pair2 (Same.pair (Same.step (same_modTap ..) rfl (by assumption)))
    · exact Same.pair2 (Same.pair (by assumption))
  · refine Same.iteSnd2 ?_ (Same.refl _ _)
    split
    · extract_lets +onlyGivenNames x6
      clear_value x6
      exact Same.iteSnd2 (Same.pair2 (Same.pair (Same.step (same_modTap ..) rfl (by assumption)))) (Same.refl _ _)
    · exact Same.refl _ _

theorem same_cicWords (a1 : _) (s : State) : Same 65536 s (cicWords a1 s).2 := by
  unfold cicWords
  refine Same.foldlOn Prod.snd (Same.pair (Same.refl _ _)) (fun _ _ => ?_)
  extract_lets +onlyGivenNames x1
  refine Same.cut (x := x1.2) ?_ (fun h1 => ?_)
  · unfold x1
    exact Same.step (same_cicChan ..) rfl (Same.refl _ _)
  clear_value x1
  exact Same.pair (by assumption)

theorem same_countTick (s : State) : Same 270548992 s (countTick s) := by
  unfold countTick
  extract_lets +onlyGivenNames x1
  refine Same.cut (x := x1) ?_ (fun h1 => ?_)
  · unfold x1
    exact Same.forN (Same.refl _ _) (fun _ _ => Same.ite (Same.refl _ _) (Same.step (same_modSlot ..) rfl (Same.refl _ _)))
  clear_value x1
  extract_lets +onlyGivenNames x2
  refine Same.cut (x := x2) ?_ (fun h2 => ?_)
  · unfold x2
    exact Same.forN (by assumption) (fun _ _ => Same.step (upd_ltTicks ..) rfl (Same.refl _ _))
  clear_value x2
  exact Same.ite (by assumption) (Same.step (same_modCmt ..) rfl (by assumption))

theorem same_dspCopies (a1 : _) (s : State) : Same 208 s (dspCopies a1 s) := by
  unfold dspCopies
  extract_lets +onlyGivenNames x1
  clear_value x1
  extract_lets +onlyGivenNames x2
  refine Same.cut (x := x2) ?_ (fun h2 => ?_)
  · unfold x2
    exact Same.step (upd_dspQ ..) rfl (Same.refl _ _)
  clear_value x2
  extract_lets +onlyGivenNames x3
  refine Same.cut (x := x3) ?_ (fun h3 => ?_)
  · unfold x3
    exact Same.forL (by assumption) (fun _ _ => Same.forL (Same.refl _ _) (fun _ _ => Same.step (same_setRg ..) rfl (Same.refl _ _)))
  clear_value x3
  exact Same.step (upd_dspPend ..) rfl (by assumption)

theorem same_gleanApply (a1 : State) (a2 : _) (s : State) : Same 17592186077200 s (gleanApply a1 a2 s) := by
  unfold gleanApply
  exact Same.ite (Same.step (same_gSkip ..) rfl (Same.refl _ _)) (Same.refl _ _)

theorem same_planApply (a1 : State) (a2 : _) (s : State) : Same 216744528160391184 s (planApply a1 a2 s) := by
  unfold planApply
  exact Same.ite (Same.step (same_wakeup ..) rfl (Same.step (same_planIdle ..) rfl (Same.refl _ _))) (Same.refl _ _)

theorem same_swapProf (a1 : State) (a2 : _) (a3 : _) (s : State) : Same 2147516432 s (swapProf a1 a2 a3 s) := by
  unfold swapProf
  refine Same.ite ?_ (Same.refl _ _)
  extract_lets +onlyGivenNames x1
  exact Same.step (same_bump ..) rfl (Same.step (same_raise ..) rfl (Same.step (same_modProf ..) rfl (Same.refl _ _)))

theorem same_tunitApply (a1 : State) (a2 : _) (s : State) : Same 4398046511104 s (tunitApply a1 a2 s) := by
  unfold tunitApply
  exact Same.ite (Same.step (same_modTunit ..) rfl (Same.refl _ _)) (Same.refl _ _)

theorem same_dspActivate (a1 : _) (s : State) : Same 216766520684937424 s (dspActivate a1 s) := by
  unfold dspActivate
  refine Same.ite ?_ (Same.refl _ _)
  extract_lets +onlyGivenNames x1
  refine Same.cut (x := x1) ?_ (fun h1 => ?_)
  · unfold x1
    exact Same.refl _ _
  clear_value x1
  extract_lets +onlyGivenNames x2
  clear_value x2
  extract_lets +onlyGivenNames x3
  refine Same.cut (x := x3) ?_ (fun h3 => ?_)
  · unfold x3
    exact Same.step (same_dspCopies ..) rfl (Same.refl _ _)
  clear_value x3
  extract_lets +onlyGivenNames x4
  refine Same.cut (x := x4) ?_ (fun h4 => ?_)
  · unfold x4
    exact Same.forN (by assumption) (fun _ _ => Same.step (same_swapProf ..) rfl (Same.refl _ _))
  clear_value x4
  extract_lets +onlyGivenNames x5
  refine Same.cut (x := x5) ?_ (fun h5 => ?_)
  · unfold x5
    exact Same.forN (by assumption) (fun _ _ => Same.step (same_chApply ..) rfl (Same.refl _ _))
  clear_value x5
  exact Same.step (same_memSync ..) rfl (Same.forN (Same.forN (by assumption) (fun _ _ => Same.step (same_planRegrid ..) rfl (Same.step (same_planApply ..) rfl (Same.refl _ _)))) (fun _ _ => Same.step (same_tunitApply ..) rfl (Same.step (same_gleanApply ..) rfl (Same.refl _ _))))

theorem same_modDsp (a1 : _) (s : State) : Same 8192 s (modDsp a1 s) := by
  unfold modDsp
  exact Same.step (upd_dsp ..) rfl (Same.refl _ _)

theorem same_eccTick (a1 : _) (s : State) : Same 34359779344 s (eccTick a1 s) := by
  unfold eccTick
  extract_lets +onlyGivenNames x1
  refine Same.cut (x := x1) ?_ (fun h1 => ?_)
  · unfold x1
    exact Same.forL (Same.refl _ _) (fun _ _ => Same.ite (Same.step (same_raise ..) rfl (Same.step (same_pgError ..) rfl (Same.refl _ _))) (Same.refl _ _))
  clear_value x1
  extract_lets +onlyGivenNames x2
  refine Same.cut (x := x2) ?_ (fun h2 => ?_)
  · unfold x2
    exact Same.step (same_modDsp ..) rfl (by assumption)
  clear_value x2
  extract_lets +onlyGivenNames x3
  refine Same.cut (x := x3) ?_ (fun h3 => ?_)
  · unfold x3
    exact Same.forL (by assumption) (fun _ _ => Same.ite (Same.step (same_bump ..) rfl (Same.refl _ _)) (Same.ite (Same.step (same_bump ..) rfl (Same.refl _ _)) (Same.refl _ _)))
  clear_value x3
  exact Same.step (upd_lin ..) rfl (by assumption)

theorem same_evtAction (a1 : _) (a2 : _) (s : State) : Same 238129007185462288 s (evtAction a1 a2 s) := by
  unfold evtAction
  split
  · exact Same.step (same_trigOut ..) rfl (Same.refl _ _)
  · exact Same.step (same_trigOut ..) rfl (Same.refl _ _)
  · exact Same.step (same_raise ..) rfl (Same.refl _ _)
  · exact Same.step (same_wakeReq ..) rfl (Same.refl _ _)
  · exact Same.refl _ _

theorem same_evtOne (a1 : _) (a2 : _) (a3 : _) (s : State) : Same 238129007185462288 s (evtOne a1 a2 a3 s).2 := by
  unfold evtOne
  refine Same.iteSnd (Same.pair (Same.step (same_evtNext ..) rfl (Same.step (same_setRg ..) rfl (Same.refl _ _)))) ?_
  extract_lets +onlyGivenNames x1
  clear_value x1
  extract_lets +onlyGivenNames x2
  refine Same.cut (x := x2) ?_ (fun h2 => ?_)
  · unfold x2
    exact Same.step (same_evtStat ..) rfl (Same.step (same_evtNext ..) rfl (Same.refl _ _))
  clear_value x2
  exact Same.iteSnd (Same.pair (by assumption)) (Same.pair (Same.step (same_evtAction ..) rfl (by assumption)))

theorem same_evtFire (a1 : _) (a2 : _) (a3 : _) (s : State) : Same 238243356394882064 s (evtFire a1 a2 a3 s) := by
  unfold evtFire
  extract_lets +onlyGivenNames x1
  refine Same.cut (x := x1.2) ?_ (fun h1 => ?_)
  · unfold x1
    exact Same.step (same_evtOne ..) rfl (Same.refl _ _)
  clear_value x1
  exact Same.step (same_srcsFireAt ..) rfl (by assumption)

theorem same_eventFire (a1 : _) (a2 : _) (s : State) : Same 238243356394882065 s (eventFire a1 a2 s) := by
  unfold eventFire
  extract_lets +onlyGivenNames x1
  clear_value x1
  exact Same.step (same_evtFire ..) rfl (Same.step (same_advance ..) rfl (Same.refl _ _))

theorem same_evtStep (s : State) : Same 238243356394882064 s (evtStep s) := by
  unfold evtStep
  extract_lets +onlyGivenNames x1
  refine Same.cut (x := x1.2) ?_ (fun h1 => ?_)
  · unfold x1
    refine Same.foldlOn Prod.snd (Same.pair (Same.refl _ _)) (fun _ _ => ?_)
    extract_lets +onlyGivenNames x2
    refine Same.cut (x := x2) ?_ (fun h2 => ?_)
    · unfold x2
      exact Same.refl _ _
    clear_value x2
    refine Same.iteSnd ?_ (Same.refl _ _)
    extract_lets +onlyGivenNames x3
    clear_value x3
    extract_lets +onlyGivenNames x4
    clear_value x4
    extract_lets +onlyGivenNames x5
    refine Same.cut (x := x5) ?_ (fun h5 => ?_)
    · unfold x5
      exact Same.step (same_modTmb ..) rfl (by assumption)
    clear_value x5
    extract_lets +onlyGivenNames x6
    refine Same.cut (x := x6.2) ?_ (fun h6 => ?_)
    · unfold x6
      exact Same.step (same_evtOne ..) rfl (by assumption)
    clear_value x6
    exact Same.pair (by assumption)
  clear_value x1
  exact Same.step (same_srcsFireAt ..) rfl (by assumption)

theorem same_gainPass (s : State) : Same 65536 s (gainPass s) := by
  unfold gainPass
  exact Same.forN (Same.refl _ _) (fun _ _ => Same.ite (Same.refl _ _) (Same.step (same_modChan ..) rfl (Same.refl _ _)))

theorem same_pruneMarks (s : State) : Same 8590000128 s (pruneMarks s) := by
  unfold pruneMarks
  extract_lets +onlyGivenNames x1
  extract_lets +onlyGivenNames x2
  refine Same.cut (x := x2) ?_ (fun h2 => ?_)
  · unfold x2
    exact Same.forN (Same.refl _ _) (fun _ _ => Same.ite (Same.step (same_modChan ..) rfl (Same.refl _ _)) (Same.refl _ _))
  clear_value x2
  exact Same.step (same_modTmb ..) rfl (by assumption)

theorem same_sleepPass (a1 : _) (s : State) : Same 216172782325563408 s (sleepPass a1 s) := by
  unfold sleepPass
  split
  · exact Same.ite (Same.step (same_sleepChannels ..) rfl (Same.refl _ _)) (Same.refl _ _)
  · exact Same.ite (Same.ite (Same.step (same_sleepChannels ..) rfl (Same.refl _ _)) (Same.step (same_wakeForget ..) rfl (Same.step (same_sleepChannels ..) rfl (Same.refl _ _)))) (Same.refl _ _)
  · exact Same.refl _ _

theorem same_passDone (a1 : _) (a2 : _) (a3 : _) (a4 : _) (s : State) : Same 504994569031491600 s (passDone a1 a2 a3 a4 s) := by
  unfold passDone
  extract_lets +onlyGivenNames x1
  clear_value x1
  extract_lets +onlyGivenNames x2
  refine Same.cut (x := x2) ?_ (fun h2 => ?_)
  · unfold x2
    exact Same.ite (Same.refl _ _) (Same.step (same_bump ..) rfl (Same.refl _ _))
  clear_value x2
  extract_lets +onlyGivenNames x3
  refine Same.cut (x := x3) ?_ (fun h3 => ?_)
  · unfold x3
    exact Same.step (same_assembleAll ..) rfl (Same.step (same_gleanEnd ..) rfl (Same.step (same_gleanLate ..) rfl (by assumption)))
  clear_value x3
  extract_lets +onlyGivenNames x4
  refine Same.cut (x := x4) ?_ (fun h4 => ?_)
  · unfold x4
    exact Same.forN (by assumption) (fun _ _ => Same.step (same_planComplete ..) rfl (Same.step (same_planFlush ..) rfl (Same.refl _ _)))
  clear_value x4
  extract_lets +onlyGivenNames x5
  refine Same.cut (x := x5) ?_ (fun h5 => ?_)
  · unfold x5
    exact Same.step (same_sleepPass ..) rfl (Same.step (same_gainPass ..) rfl (Same.step (same_drainEnd ..) rfl (by assumption)))
  clear_value x5
  extract_lets +onlyGivenNames x6
  refine Same.cut (x := x6) ?_ (fun h6 => ?_)
  · unfold x6
    exact Same.step (same_pruneMarks ..) rfl (Same.step (same_prunePasses ..) rfl (by assumption))
  clear_value x6
  exact Same.step (same_modDsp ..) rfl (by assumption)

theorem same_passEnds (a1 : _) (a2 : _) (a3 : _) (s : State) : Same 504994569031491600 s (passEnds a1 a2 a3 s) := by
  unfold passEnds
  split
  · exact Same.ite (Same.step (same_passDone ..) rfl (Same.refl _ _)) (Same.refl _ _)
  · exact Same.ite (Same.step (same_modDsp ..) rfl (Same.refl _ _)) (Same.step (same_passDone ..) rfl (Same.refl _ _))

theorem same_execDspPassEnd (a1 : _) (a2 : _) (s : State) : SameO 504994569031491600 s (execDspPassEnd a1 a2 s) := by
  unfold execDspPassEnd
  split
  · exact SameO.next (Same.ite (Same.step (same_passEnds ..) rfl (Same.refl _ _)) (Same.refl _ _))
  · exact SameO.next (Same.refl _ _)

theorem same_passStart (a1 : _) (s : State) : Same 216872288549576920 s (passStart a1 s) := by
  unfold passStart
  extract_lets +onlyGivenNames x1
  refine Same.cut (x := x1) ?_ (fun h1 => ?_)
  · unfold x1
    exact Same.step (same_modDsp ..) rfl (Same.refl _ _)
  clear_value x1
  extract_lets +onlyGivenNames x2
  refine Same.cut (x := x2) ?_ (fun h2 => ?_)
  · unfold x2
    exact Same.step (same_acqWake ..) rfl (Same.step (same_dspActivate ..) rfl (by assumption))
  clear_value x2
  extract_lets +onlyGivenNames x3
  clear_value x3
  extract_lets +onlyGivenNames x4
  clear_value x4
  extract_lets +onlyGivenNames x5
  clear_value x5
  extract_lets +onlyGivenNames x6
  clear_value x6
  extract_lets +onlyGivenNames x7
  clear_value x7
  extract_lets +onlyGivenNames x8
  clear_value x8
  extract_lets +onlyGivenNames x9
  refine Same.cut (x := x9) ?_ (fun h9 => ?_)
  · unfold x9
    exact Same.forL (by assumption) (fun _ _ => Same.step (same_cjKeep ..) rfl (Same.refl _ _))
  clear_value x9
  extract_lets +onlyGivenNames x10
  refine Same.cut (x := x10.2.2) ?_ (fun h10 => ?_)
  · unfold x10
    exact Same.foldlSnd2 (Same.pair2 (Same.pair (by assumption))) (fun _ _ => Same.step (same_chanPass ..) rfl (Same.refl _ _))
  clear_value x10
  extract_lets +onlyGivenNames x11
  clear_value x11
  extract_lets +onlyGivenNames x12
  refine Same.cut (x := x12) ?_ (fun h12 => ?_)
  · unfold x12
    exact (by assumption)
  clear_value x12
  extract_lets +onlyGivenNames x13
  refine Same.cut (x := x13) ?_ (fun h13 => ?_)
  · unfold x13
    exact Same.step (upd_passes ..) rfl (by assumption)
  clear_value x13
  extract_lets +onlyGivenNames x14
  refine Same.cut (x := x14) ?_ (fun h14 => ?_)
  · unfold x14
    exact Same.forN (by assumption) (fun _ _ => Same.step (same_planPass ..) rfl (Same.refl _ _))
  clear_value x14
  exact Same.step (same_gleanPass ..) rfl (Same.step (same_tuPass ..) rfl (by assumption))

theorem same_lateStart (s : State) : Same 216872288549576920 s (lateStart s) := by
  unfold lateStart
  split
  · exact Same.step (same_passStart ..) rfl (Same.refl _ _)
  · exact Same.refl _ _

theorem same_execDspPassLateStart (s : State) : SameO 216872288549576920 s (execDspPassLateStart s) := by
  unfold execDspPassLateStart
  exact SameO.next (Same.ite (Same.step (same_lateStart ..) rfl (Same.refl _ _)) (Same.refl _ _))

theorem same_tickCycle (s : State) : Same 1 s (tickCycle s) := by
  unfold tickCycle
  exact Same.step (upd_c ..) rfl (Same.refl _ _)

theorem same_lanesTick (a1 : _) (s : State) : Same 68719509520 s (lanesTick a1 s) := by
  unfold lanesTick
  extract_lets +onlyGivenNames x1
  refine Same.cut (x := x1) ?_ (fun h1 => ?_)
  · unfold x1
    exact Same.forL (Same.refl _ _) (fun _ _ => Same.ite (Same.step (same_laneFrame ..) rfl (Same.refl _ _)) (Same.refl _ _))
  clear_value x1
  extract_lets +onlyGivenNames x2
  refine Same.cut (x := x2) ?_ (fun h2 => ?_)
  · unfold x2
    exact Same.forL (by assumption) (fun _ _ => Same.ite (Same.step (same_laneTrack ..) rfl (Same.refl _ _)) (Same.refl _ _))
  clear_value x2
  extract_lets +onlyGivenNames x3
  refine Same.cut (x := x3) ?_ (fun h3 => ?_)
  · unfold x3
    exact Same.forL (by assumption) (fun _ _ => Same.ite (Same.step (same_prbsCount ..) rfl (Same.refl _ _)) (Same.refl _ _))
  clear_value x3
  exact Same.forN (by assumption) (fun _ _ => Same.step (same_injectSend ..) rfl (Same.refl _ _))

theorem same_linksTick (a1 : _) (a2 : _) (s : State) : Same 77309444112 s (linksTick a1 a2 s) := by
  unfold linksTick
  extract_lets +onlyGivenNames x1
  extract_lets +onlyGivenNames x2
  refine Same.cut (x := x2) ?_ (fun h2 => ?_)
  · unfold x2
    exact Same.ite (Same.forL (Same.refl _ _) (fun _ _ => Same.step (same_osDepart ..) rfl (Same.refl _ _))) (Same.refl _ _)
  clear_value x2
  exact Same.forN (by assumption) (fun _ _ => Same.step (same_linkTick ..) rfl (Same.refl _ _))

theorem same_overrunTick (s : State) : Same 36880 s (overrunTick s) := by
  unfold overrunTick
  refine Same.ite ?_ (Same.step (upd_hub ..) rfl (Same.refl _ _))
  extract_lets +onlyGivenNames x1
  clear_value x1
  extract_lets +onlyGivenNames x2
  clear_value x2
  extract_lets +onlyGivenNames x3
  refine Same.cut (x := x3) ?_ (fun h3 => ?_)
  · unfold x3
    exact Same.step (same_bump ..) rfl (Same.step (upd_hub ..) rfl (Same.refl _ _))
  clear_value x3
  exact Same.ite (Same.step (same_raise ..) rfl (by assumption)) (by assumption)

theorem same_passTurn (s : State) : Same 216872288549576920 s (passTurn s) := by
  unfold passTurn
  extract_lets +onlyGivenNames x1
  refine Same.cut (x := x1) ?_ (fun h1 => ?_)
  · unfold x1
    exact Same.step (same_modDsp ..) rfl (Same.refl _ _)
  clear_value x1
  refine Same.ite ?_ (by assumption)
  extract_lets +onlyGivenNames x2
  refine Same.cut (x := x2) ?_ (fun h2 => ?_)
  · unfold x2
    exact Same.step (upd_passes ..) rfl (by assumption)
  clear_value x2
  exact Same.ite (Same.step (same_modDsp ..) rfl (by assumption)) (Same.step (same_passStart ..) rfl (by assumption))

theorem same_pertOnce (s : State) : Same 237003098621526064 s (pertOnce s) := by
  unfold pertOnce
  extract_lets +onlyGivenNames x1
  refine Same.cut (x := x1) ?_ (fun h1 => ?_)
  · unfold x1
    exact Same.ite (Same.step (same_restart ..) rfl (Same.refl _ _)) (Same.refl _ _)
  clear_value x1
  extract_lets +onlyGivenNames x2
  extract_lets +onlyGivenNames x3
  refine Same.cut (x := x3) ?_ (fun h3 => ?_)
  · unfold x3
    exact Same.ite (by assumption) (Same.step (same_modQueue ..) rfl (by assumption))
  clear_value x3
  exact Same.ite (by assumption) (same_modMem rfl (fun _ => rfl) (by assumption))

theorem same_safeTurn (s : State) : Same 2841206765817872 s (safeTurn s) := by
  unfold safeTurn
  exact Same.ite (Same.refl _ _) (Same.step (same_safeEnter ..) rfl (Same.refl _ _))

theorem same_sleepTick (s : State) : Same 167871504 s (sleepTick s) := by
  unfold sleepTick
  split
  · exact Same.step (same_excSleep ..) rfl (Same.step (same_modPwr ..) rfl (Same.refl _ _))
  · exact Same.refl _ _

theorem same_storeFill (a1 : _) (a2 : _) (a3 : _) (s : State) : Same 73744 s (storeFill a1 a2 a3 s) := by
  unfold storeFill
  refine Same.ite (Same.step (same_modDsp ..) rfl (Same.refl _ _)) ?_
  extract_lets +onlyGivenNames x1
  refine Same.cut (x := x1) ?_ (fun h1 => ?_)
  · unfold x1
    exact Same.ite (Same.step (same_modDsp ..) rfl (Same.refl _ _)) (Same.forN (Same.step (same_bump ..) rfl (Same.refl _ _)) (fun _ _ => Same.ite (Same.step (same_mark ..) rfl (Same.refl _ _)) (Same.refl _ _)))
  clear_value x1
  exact Same.step (same_modDsp ..) rfl (by assumption)

theorem same_tickWork {m : Nat} {s x : State} {i : TickIn} {b : Bool} {n u : Nat} {ws : List StoreIn} {f : Nat → State → State}
    (hm : 529874146583117049 ||| m = m) (hx : Same m s x) (hf : ∀ k y, Same m y (f k y)) : Same m s (tickWork i b n u ws f x) := by
  unfold tickWork
  extract_lets x1 x2 x3 x4 x5 x6 x7
  have h1 : Same m s x1 := (Same.step (same_safeTurn ..) (orUp (k := 2841206765817872) rfl hm) (Same.step (same_storeFill ..) (orUp (k := 73744) rfl hm) (Same.step (same_overrunTick ..) (orUp (k := 36880) rfl hm) (Same.step (same_pertOnce ..) (orUp (k := 237003098621526064) rfl hm) hx))))
  have h2 : Same m s x2 := (Same.step (same_sleepTick ..) (orUp (k := 167871504) rfl hm) (Same.step (same_eccTick ..) (orUp (k := 34359779344) rfl hm) (Same.forL h1 (fun _ _ => Same.step (same_excReading ..) (orUp (k := 33554432) rfl hm) (Same.refl _ _)))))
  have h3 : Same m s x3 := Same.forN h2 (fun k y => Same.ite (hf k y) (Same.step (same_strClose ..) (orUp (k := 549755813888) rfl hm) (Same.refl _ _)))
  have h4 : Same m s x4 := (Same.step (same_linksTick ..) (orUp (k := 77309444112) rfl hm) (Same.step (same_tmbTick ..) (orUp (k := 8589934592) rfl hm) (Same.step (same_servo ..) (orUp (k := 8589967376) rfl hm) h3)))
  have h5 : Same m s x5 := (Same.step (same_resyncTick ..) (orUp (k := 2251799813685248) rfl hm) (Same.step (same_twnTick ..) (orUp (k := 218424650814820377) rfl hm) (Same.step (same_pertD2d ..) (orUp (k := 216172782258325520) rfl hm) (Same.step (same_d2dTick ..) (orUp (k := 34832) rfl hm) h4))))
  have h6 : Same m s x6 := (Same.step (same_bcnTick ..) (orUp (k := 4503599627403288) rfl hm) (Same.step (same_bcnRole ..) (orUp (k := 4503599627370512) rfl hm) h5))
  have h7 : Same m s x7 := (Same.step (same_tickPulses ..) (orUp (k := 8589934592) rfl hm) (Same.step (same_countTick ..) (orUp (k := 270548992) rfl hm) (Same.step (same_lanesTick ..) (orUp (k := 68719509520) rfl hm) h6)))
  exact Same.step (same_passTurn ..) (orUp (k := 216872288549576920) rfl hm) (Same.forL h7 (fun _ _ => Same.step (same_offlStep ..) (orUp (k := 288803221709815824) rfl hm) (Same.refl _ _)))

theorem same_voteTick (a1 : _) (s : State) : Same 17179901977 s (voteTick a1 s) := by
  unfold voteTick
  extract_lets +onlyGivenNames x1
  clear_value x1
  refine Same.ite (Same.forN (Same.step (upd_seqAgree ..) rfl (Same.refl _ _)) (fun _ _ => Same.ite (Same.refl _ _) (Same.step (same_raise ..) rfl (Same.step (same_bump ..) rfl (Same.refl _ _))))) ?_
  extract_lets +onlyGivenNames x2
  refine Same.cut (x := x2.2) ?_ (fun h2 => ?_)
  · unfold x2
    exact Same.step (same_fresh ..) rfl (Same.refl _ _)
  clear_value x2
  refine Same.step (same_raise ..) rfl ?_
  refine Same.step (same_bump ..) rfl ?_
  extract_lets +onlyGivenNames x3
  refine Same.cut (x := x3) ?_ (fun h3 => ?_)
  · unfold x3
    exact (by assumption)
  clear_value x3
  exact Same.step (upd_c_seqAgree ..) rfl (by assumption)

theorem same_tickPlain (a1 : _) (s : State) : Same 567028860755901695 s (tickPlain a1 s) := by
  unfold tickPlain
  extract_lets +onlyGivenNames x1
  clear_value x1
  extract_lets +onlyGivenNames x2
  clear_value x2
  extract_lets +onlyGivenNames x3
  refine Same.cut (x := x3.2) ?_ (fun h3 => ?_)
  · unfold x3
    exact Same.step (same_cicWords ..) rfl (Same.refl _ _)
  clear_value x3
  extract_lets +onlyGivenNames x4
  clear_value x4
  extract_lets +onlyGivenNames x5
  refine Same.cut (x := x5) ?_ (fun h5 => ?_)
  · unfold x5
    exact Same.step (same_tickCycle ..) rfl (by assumption)
  clear_value x5
  extract_lets +onlyGivenNames x6
  refine Same.cut (x := x6) ?_ (fun h6 => ?_)
  · unfold x6
    exact Same.step (same_voteTick ..) rfl (Same.step (same_pertTick ..) rfl (Same.step (upd_frame_ord ..) rfl (by assumption)))
  clear_value x6
  extract_lets +onlyGivenNames x7
  refine Same.cut (x := x7) ?_ (fun h7 => ?_)
  · unfold x7
    exact Same.step (same_commitApply ..) rfl (Same.step (same_finalCheck ..) rfl (by assumption))
  clear_value x7
  exact same_tickWork rfl (by assumption) (fun _ _ => Same.step (same_strTick ..) rfl (Same.refl _ _))

theorem same_tickStep (a1 : _) (a2 : _) (s : State) : Same 567028860755901695 s (tickStep a1 a2 s) := by
  unfold tickStep
  extract_lets +onlyGivenNames x1
  clear_value x1
  extract_lets +onlyGivenNames x2
  clear_value x2
  extract_lets +onlyGivenNames x3
  refine Same.cut (x := x3.2) ?_ (fun h3 => ?_)
  · unfold x3
    exact Same.step (same_cicWords ..) rfl (Same.refl _ _)
  clear_value x3
  extract_lets +onlyGivenNames x4
  clear_value x4
  extract_lets +onlyGivenNames x5
  refine Same.cut (x := x5) ?_ (fun h5 => ?_)
  · unfold x5
    exact Same.step (same_tickCycle ..) rfl (by assumption)
  clear_value x5
  extract_lets +onlyGivenNames x6
  refine Same.cut (x := x6) ?_ (fun h6 => ?_)
  · unfold x6
    exact Same.forN (by assumption) (fun _ _ => Same.step (same_strStep ..) rfl (Same.refl _ _))
  clear_value x6
  extract_lets +onlyGivenNames x7
  clear_value x7
  extract_lets +onlyGivenNames x8
  refine Same.cut (x := x8) ?_ (fun h8 => ?_)
  · unfold x8
    exact Same.step (same_stepTime ..) rfl (by assumption)
  clear_value x8
  extract_lets +onlyGivenNames x9
  clear_value x9
  extract_lets +onlyGivenNames x10
  refine Same.cut (x := x10) ?_ (fun h10 => ?_)
  · unfold x10
    exact Same.step (same_stepCancel ..) rfl (Same.step (upd_ord ..) rfl (by assumption))
  clear_value x10
  extract_lets +onlyGivenNames x11
  refine Same.cut (x := x11) ?_ (fun h11 => ?_)
  · unfold x11
    exact Same.step (same_stepScale ..) rfl (by assumption)
  clear_value x11
  extract_lets +onlyGivenNames x12
  clear_value x12
  extract_lets +onlyGivenNames x13
  refine Same.cut (x := x13) ?_ (fun h13 => ?_)
  · unfold x13
    exact Same.forN (Same.forN (by assumption) (fun _ _ => Same.step (same_planStep ..) rfl (Same.refl _ _))) (fun _ _ => Same.step (same_gSkip ..) rfl (Same.refl _ _))
  clear_value x13
  extract_lets +onlyGivenNames x14
  refine Same.cut (x := x14) ?_ (fun h14 => ?_)
  · unfold x14
    exact Same.step (same_flashStep ..) rfl (Same.step (same_evtStep ..) rfl (Same.step (same_modTwn ..) rfl (by assumption)))
  clear_value x14
  extract_lets +onlyGivenNames x15
  refine Same.cut (x := x15) ?_ (fun h15 => ?_)
  · unfold x15
    exact Same.step (same_wakeup ..) rfl (by assumption)
  clear_value x15
  extract_lets +onlyGivenNames x16
  clear_value x16
  exact same_tickWork rfl (Same.step (same_voteTick ..) rfl (Same.step (same_pertTick ..) rfl (by assumption))) (fun _ _ => Same.step (same_strStepOpen ..) rfl (Same.refl _ _))

theorem same_tick (a1 : _) (s : State) : Same 567028860755901695 s (tick a1 s) := by
  unfold tick
  extract_lets +onlyGivenNames x1
  refine Same.cut (x := x1) ?_ (fun h1 => ?_)
  · unfold x1
    exact Same.step (same_lockTurn ..) rfl (Same.step (same_frameExchange ..) rfl (Same.refl _ _))
  clear_value x1
  split
  · exact Same.step (same_tickStep ..) rfl (by assumption)
  · exact Same.step (same_tickPlain ..) rfl (by assumption)

theorem same_execMilestoneTick (a1 : _) (s : State) : SameO 567028860755901695 s (execMilestoneTick a1 s) := by
  unfold execMilestoneTick
  exact SameO.next (Same.ite (Same.step (same_tick ..) rfl (Same.refl _ _)) (Same.refl _ _))

theorem same_execScheduledEventFire (a1 : _) (a2 : _) (s : State) : SameO 238243356394882065 s (execScheduledEventFire a1 a2 s) := by
  unfold execScheduledEventFire
  exact SameO.next (Same.ite (Same.step (same_eventFire ..) rfl (Same.refl _ _)) (Same.refl _ _))

theorem same_execTimebaseStep (a1 : _) (s : State) : SameO 567028860755901695 s (execTimebaseStep a1 s) := by
  unfold execTimebaseStep
  exact SameO.next (Same.ite (Same.step (same_tick ..) rfl (Same.refl _ _)) (Same.refl _ _))

end Sys2Proof.Machine
end

