-- ==== Sys2Proof/Laws/State.lean ====
section
/-! SUPPORT. One lemma per field per update: what each named update of the state leaves as it was. -/

namespace Sys2Proof.Machine

open Sys2Proof

@[simp] theorem setRg_c (a : Nat) (w : Word) (s : State) : (setRg a w s).c = s.c := rfl
@[simp] theorem setRg_frame (a : Nat) (w : Word) (s : State) : (setRg a w s).frame = s.frame := rfl
@[simp] theorem setRg_ord (a : Nat) (w : Word) (s : State) : (setRg a w s).ord = s.ord := rfl
@[simp] theorem setRg_freeIdx (a : Nat) (w : Word) (s : State) : (setRg a w s).freeIdx = s.freeIdx := rfl
@[simp] theorem setRg_staged (a : Nat) (w : Word) (s : State) : (setRg a w s).staged = s.staged := rfl
@[simp] theorem setRg_dspPend (a : Nat) (w : Word) (s : State) : (setRg a w s).dspPend = s.dspPend := rfl
@[simp] theorem setRg_dspQ (a : Nat) (w : Word) (s : State) : (setRg a w s).dspQ = s.dspQ := rfl
@[simp] theorem setRg_hiLatch (a : Nat) (w : Word) (s : State) : (setRg a w s).hiLatch = s.hiLatch := rfl
@[simp] theorem setRg_rd (a : Nat) (w : Word) (s : State) : (setRg a w s).rd = s.rd := rfl
@[simp] theorem setRg_pwr (a : Nat) (w : Word) (s : State) : (setRg a w s).pwr = s.pwr := rfl
@[simp] theorem setRg_dies (a : Nat) (w : Word) (s : State) : (setRg a w s).dies = s.dies := rfl
@[simp] theorem setRg_hub (a : Nat) (w : Word) (s : State) : (setRg a w s).hub = s.hub := rfl
@[simp] theorem setRg_dsp (a : Nat) (w : Word) (s : State) : (setRg a w s).dsp = s.dsp := rfl
@[simp] theorem setRg_cmt (a : Nat) (w : Word) (s : State) : (setRg a w s).cmt = s.cmt := rfl
@[simp] theorem setRg_evt (a : Nat) (w : Word) (s : State) : (setRg a w s).evt = s.evt := rfl
@[simp] theorem setRg_chans (a : Nat) (w : Word) (s : State) : (setRg a w s).chans = s.chans := rfl
@[simp] theorem setRg_taps (a : Nat) (w : Word) (s : State) : (setRg a w s).taps = s.taps := rfl
@[simp] theorem setRg_lts (a : Nat) (w : Word) (s : State) : (setRg a w s).lts = s.lts := rfl
@[simp] theorem setRg_ltWait (a : Nat) (w : Word) (s : State) : (setRg a w s).ltWait = s.ltWait := rfl
@[simp] theorem setRg_ltRes (a : Nat) (w : Word) (s : State) : (setRg a w s).ltRes = s.ltRes := rfl
@[simp] theorem setRg_ltTicks (a : Nat) (w : Word) (s : State) : (setRg a w s).ltTicks = s.ltTicks := rfl
@[simp] theorem setRg_modStart (a : Nat) (w : Word) (s : State) : (setRg a w s).modStart = s.modStart := rfl
@[simp] theorem setRg_startAt (a : Nat) (w : Word) (s : State) : (setRg a w s).startAt = s.startAt := rfl
@[simp] theorem setRg_restart (a : Nat) (w : Word) (s : State) : (setRg a w s).restart = s.restart := rfl
@[simp] theorem setRg_excs (a : Nat) (w : Word) (s : State) : (setRg a w s).excs = s.excs := rfl
@[simp] theorem setRg_refs (a : Nat) (w : Word) (s : State) : (setRg a w s).refs = s.refs := rfl
@[simp] theorem setRg_auxs (a : Nat) (w : Word) (s : State) : (setRg a w s).auxs = s.auxs := rfl
@[simp] theorem setRg_slots (a : Nat) (w : Word) (s : State) : (setRg a w s).slots = s.slots := rfl
@[simp] theorem setRg_coef (a : Nat) (w : Word) (s : State) : (setRg a w s).coef = s.coef := rfl
@[simp] theorem setRg_cbanks (a : Nat) (w : Word) (s : State) : (setRg a w s).cbanks = s.cbanks := rfl
@[simp] theorem setRg_profs (a : Nat) (w : Word) (s : State) : (setRg a w s).profs = s.profs := rfl
@[simp] theorem setRg_sealing (a : Nat) (w : Word) (s : State) : (setRg a w s).sealing = s.sealing := rfl
@[simp] theorem setRg_tmb (a : Nat) (w : Word) (s : State) : (setRg a w s).tmb = s.tmb := rfl
@[simp] theorem setRg_seqAgree (a : Nat) (w : Word) (s : State) : (setRg a w s).seqAgree = s.seqAgree := rfl
@[simp] theorem setRg_lin (a : Nat) (w : Word) (s : State) : (setRg a w s).lin = s.lin := rfl
@[simp] theorem setRg_lanes (a : Nat) (w : Word) (s : State) : (setRg a w s).lanes = s.lanes := rfl
@[simp] theorem setRg_passes (a : Nat) (w : Word) (s : State) : (setRg a w s).passes = s.passes := rfl
@[simp] theorem setRg_grecs (a : Nat) (w : Word) (s : State) : (setRg a w s).grecs = s.grecs := rfl
@[simp] theorem setRg_streams (a : Nat) (w : Word) (s : State) : (setRg a w s).streams = s.streams := rfl
@[simp] theorem setRg_queues (a : Nat) (w : Word) (s : State) : (setRg a w s).queues = s.queues := rfl
@[simp] theorem setRg_rwdSt (a : Nat) (w : Word) (s : State) : (setRg a w s).rwdSt = s.rwdSt := rfl
@[simp] theorem setRg_tunits (a : Nat) (w : Word) (s : State) : (setRg a w s).tunits = s.tunits := rfl
@[simp] theorem setRg_plans (a : Nat) (w : Word) (s : State) : (setRg a w s).plans = s.plans := rfl
@[simp] theorem setRg_gunits (a : Nat) (w : Word) (s : State) : (setRg a w s).gunits = s.gunits := rfl
@[simp] theorem setRg_dups (a : Nat) (w : Word) (s : State) : (setRg a w s).dups = s.dups := rfl
@[simp] theorem setRg_pubId (a : Nat) (w : Word) (s : State) : (setRg a w s).pubId = s.pubId := rfl
@[simp] theorem setRg_arc (a : Nat) (w : Word) (s : State) : (setRg a w s).arc = s.arc := rfl
@[simp] theorem setRg_dcmp (a : Nat) (w : Word) (s : State) : (setRg a w s).dcmp = s.dcmp := rfl
@[simp] theorem setRg_mem (a : Nat) (w : Word) (s : State) : (setRg a w s).mem = s.mem := rfl
@[simp] theorem setRg_rtePath (a : Nat) (w : Word) (s : State) : (setRg a w s).rtePath = s.rtePath := rfl
@[simp] theorem setRg_twn (a : Nat) (w : Word) (s : State) : (setRg a w s).twn = s.twn := rfl
@[simp] theorem setRg_bcn (a : Nat) (w : Word) (s : State) : (setRg a w s).bcn = s.bcn := rfl
@[simp] theorem setRg_jtag (a : Nat) (w : Word) (s : State) : (setRg a w s).jtag = s.jtag := rfl
@[simp] theorem setRg_hst (a : Nat) (w : Word) (s : State) : (setRg a w s).hst = s.hst := rfl
@[simp] theorem setRg_tst (a : Nat) (w : Word) (s : State) : (setRg a w s).tst = s.tst := rfl
@[simp] theorem setRg_flight (a : Nat) (w : Word) (s : State) : (setRg a w s).flight = s.flight := rfl
@[simp] theorem setRg_compl (a : Nat) (w : Word) (s : State) : (setRg a w s).compl = s.compl := rfl
@[simp] theorem setRg_pending (a : Nat) (w : Word) (s : State) : (setRg a w s).pending = s.pending := rfl

@[simp] theorem setStg_c (a : Nat) (w : Word) (s : State) : (setStg a w s).c = s.c := rfl
@[simp] theorem setStg_frame (a : Nat) (w : Word) (s : State) : (setStg a w s).frame = s.frame := rfl
@[simp] theorem setStg_ord (a : Nat) (w : Word) (s : State) : (setStg a w s).ord = s.ord := rfl
@[simp] theorem setStg_freeIdx (a : Nat) (w : Word) (s : State) : (setStg a w s).freeIdx = s.freeIdx := rfl
@[simp] theorem setStg_regs (a : Nat) (w : Word) (s : State) : (setStg a w s).regs = s.regs := rfl
@[simp] theorem setStg_dspPend (a : Nat) (w : Word) (s : State) : (setStg a w s).dspPend = s.dspPend := rfl
@[simp] theorem setStg_dspQ (a : Nat) (w : Word) (s : State) : (setStg a w s).dspQ = s.dspQ := rfl
@[simp] theorem setStg_hiLatch (a : Nat) (w : Word) (s : State) : (setStg a w s).hiLatch = s.hiLatch := rfl
@[simp] theorem setStg_rd (a : Nat) (w : Word) (s : State) : (setStg a w s).rd = s.rd := rfl
@[simp] theorem setStg_pwr (a : Nat) (w : Word) (s : State) : (setStg a w s).pwr = s.pwr := rfl
@[simp] theorem setStg_dies (a : Nat) (w : Word) (s : State) : (setStg a w s).dies = s.dies := rfl
@[simp] theorem setStg_hub (a : Nat) (w : Word) (s : State) : (setStg a w s).hub = s.hub := rfl
@[simp] theorem setStg_dsp (a : Nat) (w : Word) (s : State) : (setStg a w s).dsp = s.dsp := rfl
@[simp] theorem setStg_cmt (a : Nat) (w : Word) (s : State) : (setStg a w s).cmt = s.cmt := rfl
@[simp] theorem setStg_evt (a : Nat) (w : Word) (s : State) : (setStg a w s).evt = s.evt := rfl
@[simp] theorem setStg_chans (a : Nat) (w : Word) (s : State) : (setStg a w s).chans = s.chans := rfl
@[simp] theorem setStg_taps (a : Nat) (w : Word) (s : State) : (setStg a w s).taps = s.taps := rfl
@[simp] theorem setStg_lts (a : Nat) (w : Word) (s : State) : (setStg a w s).lts = s.lts := rfl
@[simp] theorem setStg_ltWait (a : Nat) (w : Word) (s : State) : (setStg a w s).ltWait = s.ltWait := rfl
@[simp] theorem setStg_ltRes (a : Nat) (w : Word) (s : State) : (setStg a w s).ltRes = s.ltRes := rfl
@[simp] theorem setStg_ltTicks (a : Nat) (w : Word) (s : State) : (setStg a w s).ltTicks = s.ltTicks := rfl
@[simp] theorem setStg_modStart (a : Nat) (w : Word) (s : State) : (setStg a w s).modStart = s.modStart := rfl
@[simp] theorem setStg_startAt (a : Nat) (w : Word) (s : State) : (setStg a w s).startAt = s.startAt := rfl
@[simp] theorem setStg_restart (a : Nat) (w : Word) (s : State) : (setStg a w s).restart = s.restart := rfl
@[simp] theorem setStg_excs (a : Nat) (w : Word) (s : State) : (setStg a w s).excs = s.excs := rfl
@[simp] theorem setStg_refs (a : Nat) (w : Word) (s : State) : (setStg a w s).refs = s.refs := rfl
@[simp] theorem setStg_auxs (a : Nat) (w : Word) (s : State) : (setStg a w s).auxs = s.auxs := rfl
@[simp] theorem setStg_slots (a : Nat) (w : Word) (s : State) : (setStg a w s).slots = s.slots := rfl
@[simp] theorem setStg_coef (a : Nat) (w : Word) (s : State) : (setStg a w s).coef = s.coef := rfl
@[simp] theorem setStg_cbanks (a : Nat) (w : Word) (s : State) : (setStg a w s).cbanks = s.cbanks := rfl
@[simp] theorem setStg_profs (a : Nat) (w : Word) (s : State) : (setStg a w s).profs = s.profs := rfl
@[simp] theorem setStg_sealing (a : Nat) (w : Word) (s : State) : (setStg a w s).sealing = s.sealing := rfl
@[simp] theorem setStg_tmb (a : Nat) (w : Word) (s : State) : (setStg a w s).tmb = s.tmb := rfl
@[simp] theorem setStg_seqAgree (a : Nat) (w : Word) (s : State) : (setStg a w s).seqAgree = s.seqAgree := rfl
@[simp] theorem setStg_lin (a : Nat) (w : Word) (s : State) : (setStg a w s).lin = s.lin := rfl
@[simp] theorem setStg_lanes (a : Nat) (w : Word) (s : State) : (setStg a w s).lanes = s.lanes := rfl
@[simp] theorem setStg_passes (a : Nat) (w : Word) (s : State) : (setStg a w s).passes = s.passes := rfl
@[simp] theorem setStg_grecs (a : Nat) (w : Word) (s : State) : (setStg a w s).grecs = s.grecs := rfl
@[simp] theorem setStg_streams (a : Nat) (w : Word) (s : State) : (setStg a w s).streams = s.streams := rfl
@[simp] theorem setStg_queues (a : Nat) (w : Word) (s : State) : (setStg a w s).queues = s.queues := rfl
@[simp] theorem setStg_rwdSt (a : Nat) (w : Word) (s : State) : (setStg a w s).rwdSt = s.rwdSt := rfl
@[simp] theorem setStg_tunits (a : Nat) (w : Word) (s : State) : (setStg a w s).tunits = s.tunits := rfl
@[simp] theorem setStg_plans (a : Nat) (w : Word) (s : State) : (setStg a w s).plans = s.plans := rfl
@[simp] theorem setStg_gunits (a : Nat) (w : Word) (s : State) : (setStg a w s).gunits = s.gunits := rfl
@[simp] theorem setStg_dups (a : Nat) (w : Word) (s : State) : (setStg a w s).dups = s.dups := rfl
@[simp] theorem setStg_pubId (a : Nat) (w : Word) (s : State) : (setStg a w s).pubId = s.pubId := rfl
@[simp] theorem setStg_arc (a : Nat) (w : Word) (s : State) : (setStg a w s).arc = s.arc := rfl
@[simp] theorem setStg_dcmp (a : Nat) (w : Word) (s : State) : (setStg a w s).dcmp = s.dcmp := rfl
@[simp] theorem setStg_mem (a : Nat) (w : Word) (s : State) : (setStg a w s).mem = s.mem := rfl
@[simp] theorem setStg_rtePath (a : Nat) (w : Word) (s : State) : (setStg a w s).rtePath = s.rtePath := rfl
@[simp] theorem setStg_twn (a : Nat) (w : Word) (s : State) : (setStg a w s).twn = s.twn := rfl
@[simp] theorem setStg_bcn (a : Nat) (w : Word) (s : State) : (setStg a w s).bcn = s.bcn := rfl
@[simp] theorem setStg_jtag (a : Nat) (w : Word) (s : State) : (setStg a w s).jtag = s.jtag := rfl
@[simp] theorem setStg_hst (a : Nat) (w : Word) (s : State) : (setStg a w s).hst = s.hst := rfl
@[simp] theorem setStg_tst (a : Nat) (w : Word) (s : State) : (setStg a w s).tst = s.tst := rfl
@[simp] theorem setStg_flight (a : Nat) (w : Word) (s : State) : (setStg a w s).flight = s.flight := rfl
@[simp] theorem setStg_compl (a : Nat) (w : Word) (s : State) : (setStg a w s).compl = s.compl := rfl
@[simp] theorem setStg_pending (a : Nat) (w : Word) (s : State) : (setStg a w s).pending = s.pending := rfl

@[simp] theorem modChan_c (g : Nat) (f : Chan → Chan) (s : State) : (modChan g f s).c = s.c := rfl
@[simp] theorem modChan_frame (g : Nat) (f : Chan → Chan) (s : State) : (modChan g f s).frame = s.frame := rfl
@[simp] theorem modChan_ord (g : Nat) (f : Chan → Chan) (s : State) : (modChan g f s).ord = s.ord := rfl
@[simp] theorem modChan_freeIdx (g : Nat) (f : Chan → Chan) (s : State) : (modChan g f s).freeIdx = s.freeIdx := rfl
@[simp] theorem modChan_regs (g : Nat) (f : Chan → Chan) (s : State) : (modChan g f s).regs = s.regs := rfl
@[simp] theorem modChan_staged (g : Nat) (f : Chan → Chan) (s : State) : (modChan g f s).staged = s.staged := rfl
@[simp] theorem modChan_dspPend (g : Nat) (f : Chan → Chan) (s : State) : (modChan g f s).dspPend = s.dspPend := rfl
@[simp] theorem modChan_dspQ (g : Nat) (f : Chan → Chan) (s : State) : (modChan g f s).dspQ = s.dspQ := rfl
@[simp] theorem modChan_hiLatch (g : Nat) (f : Chan → Chan) (s : State) : (modChan g f s).hiLatch = s.hiLatch := rfl
@[simp] theorem modChan_rd (g : Nat) (f : Chan → Chan) (s : State) : (modChan g f s).rd = s.rd := rfl
@[simp] theorem modChan_pwr (g : Nat) (f : Chan → Chan) (s : State) : (modChan g f s).pwr = s.pwr := rfl
@[simp] theorem modChan_dies (g : Nat) (f : Chan → Chan) (s : State) : (modChan g f s).dies = s.dies := rfl
@[simp] theorem modChan_hub (g : Nat) (f : Chan → Chan) (s : State) : (modChan g f s).hub = s.hub := rfl
@[simp] theorem modChan_dsp (g : Nat) (f : Chan → Chan) (s : State) : (modChan g f s).dsp = s.dsp := rfl
@[simp] theorem modChan_cmt (g : Nat) (f : Chan → Chan) (s : State) : (modChan g f s).cmt = s.cmt := rfl
@[simp] theorem modChan_evt (g : Nat) (f : Chan → Chan) (s : State) : (modChan g f s).evt = s.evt := rfl
@[simp] theorem modChan_taps (g : Nat) (f : Chan → Chan) (s : State) : (modChan g f s).taps = s.taps := rfl
@[simp] theorem modChan_lts (g : Nat) (f : Chan → Chan) (s : State) : (modChan g f s).lts = s.lts := rfl
@[simp] theorem modChan_ltWait (g : Nat) (f : Chan → Chan) (s : State) : (modChan g f s).ltWait = s.ltWait := rfl
@[simp] theorem modChan_ltRes (g : Nat) (f : Chan → Chan) (s : State) : (modChan g f s).ltRes = s.ltRes := rfl
@[simp] theorem modChan_ltTicks (g : Nat) (f : Chan → Chan) (s : State) : (modChan g f s).ltTicks = s.ltTicks := rfl
@[simp] theorem modChan_modStart (g : Nat) (f : Chan → Chan) (s : State) : (modChan g f s).modStart = s.modStart := rfl
@[simp] theorem modChan_startAt (g : Nat) (f : Chan → Chan) (s : State) : (modChan g f s).startAt = s.startAt := rfl
@[simp] theorem modChan_restart (g : Nat) (f : Chan → Chan) (s : State) : (modChan g f s).restart = s.restart := rfl
@[simp] theorem modChan_excs (g : Nat) (f : Chan → Chan) (s : State) : (modChan g f s).excs = s.excs := rfl
@[simp] theorem modChan_refs (g : Nat) (f : Chan → Chan) (s : State) : (modChan g f s).refs = s.refs := rfl
@[simp] theorem modChan_auxs (g : Nat) (f : Chan → Chan) (s : State) : (modChan g f s).auxs = s.auxs := rfl
@[simp] theorem modChan_slots (g : Nat) (f : Chan → Chan) (s : State) : (modChan g f s).slots = s.slots := rfl
@[simp] theorem modChan_coef (g : Nat) (f : Chan → Chan) (s : State) : (modChan g f s).coef = s.coef := rfl
@[simp] theorem modChan_cbanks (g : Nat) (f : Chan → Chan) (s : State) : (modChan g f s).cbanks = s.cbanks := rfl
@[simp] theorem modChan_profs (g : Nat) (f : Chan → Chan) (s : State) : (modChan g f s).profs = s.profs := rfl
@[simp] theorem modChan_sealing (g : Nat) (f : Chan → Chan) (s : State) : (modChan g f s).sealing = s.sealing := rfl
@[simp] theorem modChan_tmb (g : Nat) (f : Chan → Chan) (s : State) : (modChan g f s).tmb = s.tmb := rfl
@[simp] theorem modChan_seqAgree (g : Nat) (f : Chan → Chan) (s : State) : (modChan g f s).seqAgree = s.seqAgree := rfl
@[simp] theorem modChan_lin (g : Nat) (f : Chan → Chan) (s : State) : (modChan g f s).lin = s.lin := rfl
@[simp] theorem modChan_lanes (g : Nat) (f : Chan → Chan) (s : State) : (modChan g f s).lanes = s.lanes := rfl
@[simp] theorem modChan_passes (g : Nat) (f : Chan → Chan) (s : State) : (modChan g f s).passes = s.passes := rfl
@[simp] theorem modChan_grecs (g : Nat) (f : Chan → Chan) (s : State) : (modChan g f s).grecs = s.grecs := rfl
@[simp] theorem modChan_streams (g : Nat) (f : Chan → Chan) (s : State) : (modChan g f s).streams = s.streams := rfl
@[simp] theorem modChan_queues (g : Nat) (f : Chan → Chan) (s : State) : (modChan g f s).queues = s.queues := rfl
@[simp] theorem modChan_rwdSt (g : Nat) (f : Chan → Chan) (s : State) : (modChan g f s).rwdSt = s.rwdSt := rfl
@[simp] theorem modChan_tunits (g : Nat) (f : Chan → Chan) (s : State) : (modChan g f s).tunits = s.tunits := rfl
@[simp] theorem modChan_plans (g : Nat) (f : Chan → Chan) (s : State) : (modChan g f s).plans = s.plans := rfl
@[simp] theorem modChan_gunits (g : Nat) (f : Chan → Chan) (s : State) : (modChan g f s).gunits = s.gunits := rfl
@[simp] theorem modChan_dups (g : Nat) (f : Chan → Chan) (s : State) : (modChan g f s).dups = s.dups := rfl
@[simp] theorem modChan_pubId (g : Nat) (f : Chan → Chan) (s : State) : (modChan g f s).pubId = s.pubId := rfl
@[simp] theorem modChan_arc (g : Nat) (f : Chan → Chan) (s : State) : (modChan g f s).arc = s.arc := rfl
@[simp] theorem modChan_dcmp (g : Nat) (f : Chan → Chan) (s : State) : (modChan g f s).dcmp = s.dcmp := rfl
@[simp] theorem modChan_mem (g : Nat) (f : Chan → Chan) (s : State) : (modChan g f s).mem = s.mem := rfl
@[simp] theorem modChan_rtePath (g : Nat) (f : Chan → Chan) (s : State) : (modChan g f s).rtePath = s.rtePath := rfl
@[simp] theorem modChan_twn (g : Nat) (f : Chan → Chan) (s : State) : (modChan g f s).twn = s.twn := rfl
@[simp] theorem modChan_bcn (g : Nat) (f : Chan → Chan) (s : State) : (modChan g f s).bcn = s.bcn := rfl
@[simp] theorem modChan_jtag (g : Nat) (f : Chan → Chan) (s : State) : (modChan g f s).jtag = s.jtag := rfl
@[simp] theorem modChan_hst (g : Nat) (f : Chan → Chan) (s : State) : (modChan g f s).hst = s.hst := rfl
@[simp] theorem modChan_tst (g : Nat) (f : Chan → Chan) (s : State) : (modChan g f s).tst = s.tst := rfl
@[simp] theorem modChan_flight (g : Nat) (f : Chan → Chan) (s : State) : (modChan g f s).flight = s.flight := rfl
@[simp] theorem modChan_compl (g : Nat) (f : Chan → Chan) (s : State) : (modChan g f s).compl = s.compl := rfl
@[simp] theorem modChan_pending (g : Nat) (f : Chan → Chan) (s : State) : (modChan g f s).pending = s.pending := rfl

@[simp] theorem modTap_c (g : Nat) (f : Tap → Tap) (s : State) : (modTap g f s).c = s.c := rfl
@[simp] theorem modTap_frame (g : Nat) (f : Tap → Tap) (s : State) : (modTap g f s).frame = s.frame := rfl
@[simp] theorem modTap_ord (g : Nat) (f : Tap → Tap) (s : State) : (modTap g f s).ord = s.ord := rfl
@[simp] theorem modTap_freeIdx (g : Nat) (f : Tap → Tap) (s : State) : (modTap g f s).freeIdx = s.freeIdx := rfl
@[simp] theorem modTap_regs (g : Nat) (f : Tap → Tap) (s : State) : (modTap g f s).regs = s.regs := rfl
@[simp] theorem modTap_staged (g : Nat) (f : Tap → Tap) (s : State) : (modTap g f s).staged = s.staged := rfl
@[simp] theorem modTap_dspPend (g : Nat) (f : Tap → Tap) (s : State) : (modTap g f s).dspPend = s.dspPend := rfl
@[simp] theorem modTap_dspQ (g : Nat) (f : Tap → Tap) (s : State) : (modTap g f s).dspQ = s.dspQ := rfl
@[simp] theorem modTap_hiLatch (g : Nat) (f : Tap → Tap) (s : State) : (modTap g f s).hiLatch = s.hiLatch := rfl
@[simp] theorem modTap_rd (g : Nat) (f : Tap → Tap) (s : State) : (modTap g f s).rd = s.rd := rfl
@[simp] theorem modTap_pwr (g : Nat) (f : Tap → Tap) (s : State) : (modTap g f s).pwr = s.pwr := rfl
@[simp] theorem modTap_dies (g : Nat) (f : Tap → Tap) (s : State) : (modTap g f s).dies = s.dies := rfl
@[simp] theorem modTap_hub (g : Nat) (f : Tap → Tap) (s : State) : (modTap g f s).hub = s.hub := rfl
@[simp] theorem modTap_dsp (g : Nat) (f : Tap → Tap) (s : State) : (modTap g f s).dsp = s.dsp := rfl
@[simp] theorem modTap_cmt (g : Nat) (f : Tap → Tap) (s : State) : (modTap g f s).cmt = s.cmt := rfl
@[simp] theorem modTap_evt (g : Nat) (f : Tap → Tap) (s : State) : (modTap g f s).evt = s.evt := rfl
@[simp] theorem modTap_chans (g : Nat) (f : Tap → Tap) (s : State) : (modTap g f s).chans = s.chans := rfl
@[simp] theorem modTap_lts (g : Nat) (f : Tap → Tap) (s : State) : (modTap g f s).lts = s.lts := rfl
@[simp] theorem modTap_ltWait (g : Nat) (f : Tap → Tap) (s : State) : (modTap g f s).ltWait = s.ltWait := rfl
@[simp] theorem modTap_ltRes (g : Nat) (f : Tap → Tap) (s : State) : (modTap g f s).ltRes = s.ltRes := rfl
@[simp] theorem modTap_ltTicks (g : Nat) (f : Tap → Tap) (s : State) : (modTap g f s).ltTicks = s.ltTicks := rfl
@[simp] theorem modTap_modStart (g : Nat) (f : Tap → Tap) (s : State) : (modTap g f s).modStart = s.modStart := rfl
@[simp] theorem modTap_startAt (g : Nat) (f : Tap → Tap) (s : State) : (modTap g f s).startAt = s.startAt := rfl
@[simp] theorem modTap_restart (g : Nat) (f : Tap → Tap) (s : State) : (modTap g f s).restart = s.restart := rfl
@[simp] theorem modTap_excs (g : Nat) (f : Tap → Tap) (s : State) : (modTap g f s).excs = s.excs := rfl
@[simp] theorem modTap_refs (g : Nat) (f : Tap → Tap) (s : State) : (modTap g f s).refs = s.refs := rfl
@[simp] theorem modTap_auxs (g : Nat) (f : Tap → Tap) (s : State) : (modTap g f s).auxs = s.auxs := rfl
@[simp] theorem modTap_slots (g : Nat) (f : Tap → Tap) (s : State) : (modTap g f s).slots = s.slots := rfl
@[simp] theorem modTap_coef (g : Nat) (f : Tap → Tap) (s : State) : (modTap g f s).coef = s.coef := rfl
@[simp] theorem modTap_cbanks (g : Nat) (f : Tap → Tap) (s : State) : (modTap g f s).cbanks = s.cbanks := rfl
@[simp] theorem modTap_profs (g : Nat) (f : Tap → Tap) (s : State) : (modTap g f s).profs = s.profs := rfl
@[simp] theorem modTap_sealing (g : Nat) (f : Tap → Tap) (s : State) : (modTap g f s).sealing = s.sealing := rfl
@[simp] theorem modTap_tmb (g : Nat) (f : Tap → Tap) (s : State) : (modTap g f s).tmb = s.tmb := rfl
@[simp] theorem modTap_seqAgree (g : Nat) (f : Tap → Tap) (s : State) : (modTap g f s).seqAgree = s.seqAgree := rfl
@[simp] theorem modTap_lin (g : Nat) (f : Tap → Tap) (s : State) : (modTap g f s).lin = s.lin := rfl
@[simp] theorem modTap_lanes (g : Nat) (f : Tap → Tap) (s : State) : (modTap g f s).lanes = s.lanes := rfl
@[simp] theorem modTap_passes (g : Nat) (f : Tap → Tap) (s : State) : (modTap g f s).passes = s.passes := rfl
@[simp] theorem modTap_grecs (g : Nat) (f : Tap → Tap) (s : State) : (modTap g f s).grecs = s.grecs := rfl
@[simp] theorem modTap_streams (g : Nat) (f : Tap → Tap) (s : State) : (modTap g f s).streams = s.streams := rfl
@[simp] theorem modTap_queues (g : Nat) (f : Tap → Tap) (s : State) : (modTap g f s).queues = s.queues := rfl
@[simp] theorem modTap_rwdSt (g : Nat) (f : Tap → Tap) (s : State) : (modTap g f s).rwdSt = s.rwdSt := rfl
@[simp] theorem modTap_tunits (g : Nat) (f : Tap → Tap) (s : State) : (modTap g f s).tunits = s.tunits := rfl
@[simp] theorem modTap_plans (g : Nat) (f : Tap → Tap) (s : State) : (modTap g f s).plans = s.plans := rfl
@[simp] theorem modTap_gunits (g : Nat) (f : Tap → Tap) (s : State) : (modTap g f s).gunits = s.gunits := rfl
@[simp] theorem modTap_dups (g : Nat) (f : Tap → Tap) (s : State) : (modTap g f s).dups = s.dups := rfl
@[simp] theorem modTap_pubId (g : Nat) (f : Tap → Tap) (s : State) : (modTap g f s).pubId = s.pubId := rfl
@[simp] theorem modTap_arc (g : Nat) (f : Tap → Tap) (s : State) : (modTap g f s).arc = s.arc := rfl
@[simp] theorem modTap_dcmp (g : Nat) (f : Tap → Tap) (s : State) : (modTap g f s).dcmp = s.dcmp := rfl
@[simp] theorem modTap_mem (g : Nat) (f : Tap → Tap) (s : State) : (modTap g f s).mem = s.mem := rfl
@[simp] theorem modTap_rtePath (g : Nat) (f : Tap → Tap) (s : State) : (modTap g f s).rtePath = s.rtePath := rfl
@[simp] theorem modTap_twn (g : Nat) (f : Tap → Tap) (s : State) : (modTap g f s).twn = s.twn := rfl
@[simp] theorem modTap_bcn (g : Nat) (f : Tap → Tap) (s : State) : (modTap g f s).bcn = s.bcn := rfl
@[simp] theorem modTap_jtag (g : Nat) (f : Tap → Tap) (s : State) : (modTap g f s).jtag = s.jtag := rfl
@[simp] theorem modTap_hst (g : Nat) (f : Tap → Tap) (s : State) : (modTap g f s).hst = s.hst := rfl
@[simp] theorem modTap_tst (g : Nat) (f : Tap → Tap) (s : State) : (modTap g f s).tst = s.tst := rfl
@[simp] theorem modTap_flight (g : Nat) (f : Tap → Tap) (s : State) : (modTap g f s).flight = s.flight := rfl
@[simp] theorem modTap_compl (g : Nat) (f : Tap → Tap) (s : State) : (modTap g f s).compl = s.compl := rfl
@[simp] theorem modTap_pending (g : Nat) (f : Tap → Tap) (s : State) : (modTap g f s).pending = s.pending := rfl

@[simp] theorem modDie_c (n : Nat) (f : Die → Die) (s : State) : (modDie n f s).c = s.c := rfl
@[simp] theorem modDie_frame (n : Nat) (f : Die → Die) (s : State) : (modDie n f s).frame = s.frame := rfl
@[simp] theorem modDie_ord (n : Nat) (f : Die → Die) (s : State) : (modDie n f s).ord = s.ord := rfl
@[simp] theorem modDie_freeIdx (n : Nat) (f : Die → Die) (s : State) : (modDie n f s).freeIdx = s.freeIdx := rfl
@[simp] theorem modDie_regs (n : Nat) (f : Die → Die) (s : State) : (modDie n f s).regs = s.regs := rfl
@[simp] theorem modDie_staged (n : Nat) (f : Die → Die) (s : State) : (modDie n f s).staged = s.staged := rfl
@[simp] theorem modDie_dspPend (n : Nat) (f : Die → Die) (s : State) : (modDie n f s).dspPend = s.dspPend := rfl
@[simp] theorem modDie_dspQ (n : Nat) (f : Die → Die) (s : State) : (modDie n f s).dspQ = s.dspQ := rfl
@[simp] theorem modDie_hiLatch (n : Nat) (f : Die → Die) (s : State) : (modDie n f s).hiLatch = s.hiLatch := rfl
@[simp] theorem modDie_rd (n : Nat) (f : Die → Die) (s : State) : (modDie n f s).rd = s.rd := rfl
@[simp] theorem modDie_pwr (n : Nat) (f : Die → Die) (s : State) : (modDie n f s).pwr = s.pwr := rfl
@[simp] theorem modDie_hub (n : Nat) (f : Die → Die) (s : State) : (modDie n f s).hub = s.hub := rfl
@[simp] theorem modDie_dsp (n : Nat) (f : Die → Die) (s : State) : (modDie n f s).dsp = s.dsp := rfl
@[simp] theorem modDie_cmt (n : Nat) (f : Die → Die) (s : State) : (modDie n f s).cmt = s.cmt := rfl
@[simp] theorem modDie_evt (n : Nat) (f : Die → Die) (s : State) : (modDie n f s).evt = s.evt := rfl
@[simp] theorem modDie_chans (n : Nat) (f : Die → Die) (s : State) : (modDie n f s).chans = s.chans := rfl
@[simp] theorem modDie_taps (n : Nat) (f : Die → Die) (s : State) : (modDie n f s).taps = s.taps := rfl
@[simp] theorem modDie_lts (n : Nat) (f : Die → Die) (s : State) : (modDie n f s).lts = s.lts := rfl
@[simp] theorem modDie_ltWait (n : Nat) (f : Die → Die) (s : State) : (modDie n f s).ltWait = s.ltWait := rfl
@[simp] theorem modDie_ltRes (n : Nat) (f : Die → Die) (s : State) : (modDie n f s).ltRes = s.ltRes := rfl
@[simp] theorem modDie_ltTicks (n : Nat) (f : Die → Die) (s : State) : (modDie n f s).ltTicks = s.ltTicks := rfl
@[simp] theorem modDie_modStart (n : Nat) (f : Die → Die) (s : State) : (modDie n f s).modStart = s.modStart := rfl
@[simp] theorem modDie_startAt (n : Nat) (f : Die → Die) (s : State) : (modDie n f s).startAt = s.startAt := rfl
@[simp] theorem modDie_restart (n : Nat) (f : Die → Die) (s : State) : (modDie n f s).restart = s.restart := rfl
@[simp] theorem modDie_excs (n : Nat) (f : Die → Die) (s : State) : (modDie n f s).excs = s.excs := rfl
@[simp] theorem modDie_refs (n : Nat) (f : Die → Die) (s : State) : (modDie n f s).refs = s.refs := rfl
@[simp] theorem modDie_auxs (n : Nat) (f : Die → Die) (s : State) : (modDie n f s).auxs = s.auxs := rfl
@[simp] theorem modDie_slots (n : Nat) (f : Die → Die) (s : State) : (modDie n f s).slots = s.slots := rfl
@[simp] theorem modDie_coef (n : Nat) (f : Die → Die) (s : State) : (modDie n f s).coef = s.coef := rfl
@[simp] theorem modDie_cbanks (n : Nat) (f : Die → Die) (s : State) : (modDie n f s).cbanks = s.cbanks := rfl
@[simp] theorem modDie_profs (n : Nat) (f : Die → Die) (s : State) : (modDie n f s).profs = s.profs := rfl
@[simp] theorem modDie_sealing (n : Nat) (f : Die → Die) (s : State) : (modDie n f s).sealing = s.sealing := rfl
@[simp] theorem modDie_tmb (n : Nat) (f : Die → Die) (s : State) : (modDie n f s).tmb = s.tmb := rfl
@[simp] theorem modDie_seqAgree (n : Nat) (f : Die → Die) (s : State) : (modDie n f s).seqAgree = s.seqAgree := rfl
@[simp] theorem modDie_lin (n : Nat) (f : Die → Die) (s : State) : (modDie n f s).lin = s.lin := rfl
@[simp] theorem modDie_lanes (n : Nat) (f : Die → Die) (s : State) : (modDie n f s).lanes = s.lanes := rfl
@[simp] theorem modDie_passes (n : Nat) (f : Die → Die) (s : State) : (modDie n f s).passes = s.passes := rfl
@[simp] theorem modDie_grecs (n : Nat) (f : Die → Die) (s : State) : (modDie n f s).grecs = s.grecs := rfl
@[simp] theorem modDie_streams (n : Nat) (f : Die → Die) (s : State) : (modDie n f s).streams = s.streams := rfl
@[simp] theorem modDie_queues (n : Nat) (f : Die → Die) (s : State) : (modDie n f s).queues = s.queues := rfl
@[simp] theorem modDie_rwdSt (n : Nat) (f : Die → Die) (s : State) : (modDie n f s).rwdSt = s.rwdSt := rfl
@[simp] theorem modDie_tunits (n : Nat) (f : Die → Die) (s : State) : (modDie n f s).tunits = s.tunits := rfl
@[simp] theorem modDie_plans (n : Nat) (f : Die → Die) (s : State) : (modDie n f s).plans = s.plans := rfl
@[simp] theorem modDie_gunits (n : Nat) (f : Die → Die) (s : State) : (modDie n f s).gunits = s.gunits := rfl
@[simp] theorem modDie_dups (n : Nat) (f : Die → Die) (s : State) : (modDie n f s).dups = s.dups := rfl
@[simp] theorem modDie_pubId (n : Nat) (f : Die → Die) (s : State) : (modDie n f s).pubId = s.pubId := rfl
@[simp] theorem modDie_arc (n : Nat) (f : Die → Die) (s : State) : (modDie n f s).arc = s.arc := rfl
@[simp] theorem modDie_dcmp (n : Nat) (f : Die → Die) (s : State) : (modDie n f s).dcmp = s.dcmp := rfl
@[simp] theorem modDie_mem (n : Nat) (f : Die → Die) (s : State) : (modDie n f s).mem = s.mem := rfl
@[simp] theorem modDie_rtePath (n : Nat) (f : Die → Die) (s : State) : (modDie n f s).rtePath = s.rtePath := rfl
@[simp] theorem modDie_twn (n : Nat) (f : Die → Die) (s : State) : (modDie n f s).twn = s.twn := rfl
@[simp] theorem modDie_bcn (n : Nat) (f : Die → Die) (s : State) : (modDie n f s).bcn = s.bcn := rfl
@[simp] theorem modDie_jtag (n : Nat) (f : Die → Die) (s : State) : (modDie n f s).jtag = s.jtag := rfl
@[simp] theorem modDie_hst (n : Nat) (f : Die → Die) (s : State) : (modDie n f s).hst = s.hst := rfl
@[simp] theorem modDie_tst (n : Nat) (f : Die → Die) (s : State) : (modDie n f s).tst = s.tst := rfl
@[simp] theorem modDie_flight (n : Nat) (f : Die → Die) (s : State) : (modDie n f s).flight = s.flight := rfl
@[simp] theorem modDie_compl (n : Nat) (f : Die → Die) (s : State) : (modDie n f s).compl = s.compl := rfl
@[simp] theorem modDie_pending (n : Nat) (f : Die → Die) (s : State) : (modDie n f s).pending = s.pending := rfl

@[simp] theorem modExc_c (o : Nat) (f : Exc → Exc) (s : State) : (modExc o f s).c = s.c := rfl
@[simp] theorem modExc_frame (o : Nat) (f : Exc → Exc) (s : State) : (modExc o f s).frame = s.frame := rfl
@[simp] theorem modExc_ord (o : Nat) (f : Exc → Exc) (s : State) : (modExc o f s).ord = s.ord := rfl
@[simp] theorem modExc_freeIdx (o : Nat) (f : Exc → Exc) (s : State) : (modExc o f s).freeIdx = s.freeIdx := rfl
@[simp] theorem modExc_regs (o : Nat) (f : Exc → Exc) (s : State) : (modExc o f s).regs = s.regs := rfl
@[simp] theorem modExc_staged (o : Nat) (f : Exc → Exc) (s : State) : (modExc o f s).staged = s.staged := rfl
@[simp] theorem modExc_dspPend (o : Nat) (f : Exc → Exc) (s : State) : (modExc o f s).dspPend = s.dspPend := rfl
@[simp] theorem modExc_dspQ (o : Nat) (f : Exc → Exc) (s : State) : (modExc o f s).dspQ = s.dspQ := rfl
@[simp] theorem modExc_hiLatch (o : Nat) (f : Exc → Exc) (s : State) : (modExc o f s).hiLatch = s.hiLatch := rfl
@[simp] theorem modExc_rd (o : Nat) (f : Exc → Exc) (s : State) : (modExc o f s).rd = s.rd := rfl
@[simp] theorem modExc_pwr (o : Nat) (f : Exc → Exc) (s : State) : (modExc o f s).pwr = s.pwr := rfl
@[simp] theorem modExc_dies (o : Nat) (f : Exc → Exc) (s : State) : (modExc o f s).dies = s.dies := rfl
@[simp] theorem modExc_hub (o : Nat) (f : Exc → Exc) (s : State) : (modExc o f s).hub = s.hub := rfl
@[simp] theorem modExc_dsp (o : Nat) (f : Exc → Exc) (s : State) : (modExc o f s).dsp = s.dsp := rfl
@[simp] theorem modExc_cmt (o : Nat) (f : Exc → Exc) (s : State) : (modExc o f s).cmt = s.cmt := rfl
@[simp] theorem modExc_evt (o : Nat) (f : Exc → Exc) (s : State) : (modExc o f s).evt = s.evt := rfl
@[simp] theorem modExc_chans (o : Nat) (f : Exc → Exc) (s : State) : (modExc o f s).chans = s.chans := rfl
@[simp] theorem modExc_taps (o : Nat) (f : Exc → Exc) (s : State) : (modExc o f s).taps = s.taps := rfl
@[simp] theorem modExc_lts (o : Nat) (f : Exc → Exc) (s : State) : (modExc o f s).lts = s.lts := rfl
@[simp] theorem modExc_ltWait (o : Nat) (f : Exc → Exc) (s : State) : (modExc o f s).ltWait = s.ltWait := rfl
@[simp] theorem modExc_ltRes (o : Nat) (f : Exc → Exc) (s : State) : (modExc o f s).ltRes = s.ltRes := rfl
@[simp] theorem modExc_ltTicks (o : Nat) (f : Exc → Exc) (s : State) : (modExc o f s).ltTicks = s.ltTicks := rfl
@[simp] theorem modExc_modStart (o : Nat) (f : Exc → Exc) (s : State) : (modExc o f s).modStart = s.modStart := rfl
@[simp] theorem modExc_startAt (o : Nat) (f : Exc → Exc) (s : State) : (modExc o f s).startAt = s.startAt := rfl
@[simp] theorem modExc_restart (o : Nat) (f : Exc → Exc) (s : State) : (modExc o f s).restart = s.restart := rfl
@[simp] theorem modExc_refs (o : Nat) (f : Exc → Exc) (s : State) : (modExc o f s).refs = s.refs := rfl
@[simp] theorem modExc_auxs (o : Nat) (f : Exc → Exc) (s : State) : (modExc o f s).auxs = s.auxs := rfl
@[simp] theorem modExc_slots (o : Nat) (f : Exc → Exc) (s : State) : (modExc o f s).slots = s.slots := rfl
@[simp] theorem modExc_coef (o : Nat) (f : Exc → Exc) (s : State) : (modExc o f s).coef = s.coef := rfl
@[simp] theorem modExc_cbanks (o : Nat) (f : Exc → Exc) (s : State) : (modExc o f s).cbanks = s.cbanks := rfl
@[simp] theorem modExc_profs (o : Nat) (f : Exc → Exc) (s : State) : (modExc o f s).profs = s.profs := rfl
@[simp] theorem modExc_sealing (o : Nat) (f : Exc → Exc) (s : State) : (modExc o f s).sealing = s.sealing := rfl
@[simp] theorem modExc_tmb (o : Nat) (f : Exc → Exc) (s : State) : (modExc o f s).tmb = s.tmb := rfl
@[simp] theorem modExc_seqAgree (o : Nat) (f : Exc → Exc) (s : State) : (modExc o f s).seqAgree = s.seqAgree := rfl
@[simp] theorem modExc_lin (o : Nat) (f : Exc → Exc) (s : State) : (modExc o f s).lin = s.lin := rfl
@[simp] theorem modExc_lanes (o : Nat) (f : Exc → Exc) (s : State) : (modExc o f s).lanes = s.lanes := rfl
@[simp] theorem modExc_passes (o : Nat) (f : Exc → Exc) (s : State) : (modExc o f s).passes = s.passes := rfl
@[simp] theorem modExc_grecs (o : Nat) (f : Exc → Exc) (s : State) : (modExc o f s).grecs = s.grecs := rfl
@[simp] theorem modExc_streams (o : Nat) (f : Exc → Exc) (s : State) : (modExc o f s).streams = s.streams := rfl
@[simp] theorem modExc_queues (o : Nat) (f : Exc → Exc) (s : State) : (modExc o f s).queues = s.queues := rfl
@[simp] theorem modExc_rwdSt (o : Nat) (f : Exc → Exc) (s : State) : (modExc o f s).rwdSt = s.rwdSt := rfl
@[simp] theorem modExc_tunits (o : Nat) (f : Exc → Exc) (s : State) : (modExc o f s).tunits = s.tunits := rfl
@[simp] theorem modExc_plans (o : Nat) (f : Exc → Exc) (s : State) : (modExc o f s).plans = s.plans := rfl
@[simp] theorem modExc_gunits (o : Nat) (f : Exc → Exc) (s : State) : (modExc o f s).gunits = s.gunits := rfl
@[simp] theorem modExc_dups (o : Nat) (f : Exc → Exc) (s : State) : (modExc o f s).dups = s.dups := rfl
@[simp] theorem modExc_pubId (o : Nat) (f : Exc → Exc) (s : State) : (modExc o f s).pubId = s.pubId := rfl
@[simp] theorem modExc_arc (o : Nat) (f : Exc → Exc) (s : State) : (modExc o f s).arc = s.arc := rfl
@[simp] theorem modExc_dcmp (o : Nat) (f : Exc → Exc) (s : State) : (modExc o f s).dcmp = s.dcmp := rfl
@[simp] theorem modExc_mem (o : Nat) (f : Exc → Exc) (s : State) : (modExc o f s).mem = s.mem := rfl
@[simp] theorem modExc_rtePath (o : Nat) (f : Exc → Exc) (s : State) : (modExc o f s).rtePath = s.rtePath := rfl
@[simp] theorem modExc_twn (o : Nat) (f : Exc → Exc) (s : State) : (modExc o f s).twn = s.twn := rfl
@[simp] theorem modExc_bcn (o : Nat) (f : Exc → Exc) (s : State) : (modExc o f s).bcn = s.bcn := rfl
@[simp] theorem modExc_jtag (o : Nat) (f : Exc → Exc) (s : State) : (modExc o f s).jtag = s.jtag := rfl
@[simp] theorem modExc_hst (o : Nat) (f : Exc → Exc) (s : State) : (modExc o f s).hst = s.hst := rfl
@[simp] theorem modExc_tst (o : Nat) (f : Exc → Exc) (s : State) : (modExc o f s).tst = s.tst := rfl
@[simp] theorem modExc_flight (o : Nat) (f : Exc → Exc) (s : State) : (modExc o f s).flight = s.flight := rfl
@[simp] theorem modExc_compl (o : Nat) (f : Exc → Exc) (s : State) : (modExc o f s).compl = s.compl := rfl
@[simp] theorem modExc_pending (o : Nat) (f : Exc → Exc) (s : State) : (modExc o f s).pending = s.pending := rfl

@[simp] theorem modRef_c (b : Nat) (f : RefBuf → RefBuf) (s : State) : (modRef b f s).c = s.c := rfl
@[simp] theorem modRef_frame (b : Nat) (f : RefBuf → RefBuf) (s : State) : (modRef b f s).frame = s.frame := rfl
@[simp] theorem modRef_ord (b : Nat) (f : RefBuf → RefBuf) (s : State) : (modRef b f s).ord = s.ord := rfl
@[simp] theorem modRef_freeIdx (b : Nat) (f : RefBuf → RefBuf) (s : State) : (modRef b f s).freeIdx = s.freeIdx := rfl
@[simp] theorem modRef_regs (b : Nat) (f : RefBuf → RefBuf) (s : State) : (modRef b f s).regs = s.regs := rfl
@[simp] theorem modRef_staged (b : Nat) (f : RefBuf → RefBuf) (s : State) : (modRef b f s).staged = s.staged := rfl
@[simp] theorem modRef_dspPend (b : Nat) (f : RefBuf → RefBuf) (s : State) : (modRef b f s).dspPend = s.dspPend := rfl
@[simp] theorem modRef_dspQ (b : Nat) (f : RefBuf → RefBuf) (s : State) : (modRef b f s).dspQ = s.dspQ := rfl
@[simp] theorem modRef_hiLatch (b : Nat) (f : RefBuf → RefBuf) (s : State) : (modRef b f s).hiLatch = s.hiLatch := rfl
@[simp] theorem modRef_rd (b : Nat) (f : RefBuf → RefBuf) (s : State) : (modRef b f s).rd = s.rd := rfl
@[simp] theorem modRef_pwr (b : Nat) (f : RefBuf → RefBuf) (s : State) : (modRef b f s).pwr = s.pwr := rfl
@[simp] theorem modRef_dies (b : Nat) (f : RefBuf → RefBuf) (s : State) : (modRef b f s).dies = s.dies := rfl
@[simp] theorem modRef_hub (b : Nat) (f : RefBuf → RefBuf) (s : State) : (modRef b f s).hub = s.hub := rfl
@[simp] theorem modRef_dsp (b : Nat) (f : RefBuf → RefBuf) (s : State) : (modRef b f s).dsp = s.dsp := rfl
@[simp] theorem modRef_cmt (b : Nat) (f : RefBuf → RefBuf) (s : State) : (modRef b f s).cmt = s.cmt := rfl
@[simp] theorem modRef_evt (b : Nat) (f : RefBuf → RefBuf) (s : State) : (modRef b f s).evt = s.evt := rfl
@[simp] theorem modRef_chans (b : Nat) (f : RefBuf → RefBuf) (s : State) : (modRef b f s).chans = s.chans := rfl
@[simp] theorem modRef_taps (b : Nat) (f : RefBuf → RefBuf) (s : State) : (modRef b f s).taps = s.taps := rfl
@[simp] theorem modRef_lts (b : Nat) (f : RefBuf → RefBuf) (s : State) : (modRef b f s).lts = s.lts := rfl
@[simp] theorem modRef_ltWait (b : Nat) (f : RefBuf → RefBuf) (s : State) : (modRef b f s).ltWait = s.ltWait := rfl
@[simp] theorem modRef_ltRes (b : Nat) (f : RefBuf → RefBuf) (s : State) : (modRef b f s).ltRes = s.ltRes := rfl
@[simp] theorem modRef_ltTicks (b : Nat) (f : RefBuf → RefBuf) (s : State) : (modRef b f s).ltTicks = s.ltTicks := rfl
@[simp] theorem modRef_modStart (b : Nat) (f : RefBuf → RefBuf) (s : State) : (modRef b f s).modStart = s.modStart := rfl
@[simp] theorem modRef_startAt (b : Nat) (f : RefBuf → RefBuf) (s : State) : (modRef b f s).startAt = s.startAt := rfl
@[simp] theorem modRef_restart (b : Nat) (f : RefBuf → RefBuf) (s : State) : (modRef b f s).restart = s.restart := rfl
@[simp] theorem modRef_excs (b : Nat) (f : RefBuf → RefBuf) (s : State) : (modRef b f s).excs = s.excs := rfl
@[simp] theorem modRef_auxs (b : Nat) (f : RefBuf → RefBuf) (s : State) : (modRef b f s).auxs = s.auxs := rfl
@[simp] theorem modRef_slots (b : Nat) (f : RefBuf → RefBuf) (s : State) : (modRef b f s).slots = s.slots := rfl
@[simp] theorem modRef_coef (b : Nat) (f : RefBuf → RefBuf) (s : State) : (modRef b f s).coef = s.coef := rfl
@[simp] theorem modRef_cbanks (b : Nat) (f : RefBuf → RefBuf) (s : State) : (modRef b f s).cbanks = s.cbanks := rfl
@[simp] theorem modRef_profs (b : Nat) (f : RefBuf → RefBuf) (s : State) : (modRef b f s).profs = s.profs := rfl
@[simp] theorem modRef_sealing (b : Nat) (f : RefBuf → RefBuf) (s : State) : (modRef b f s).sealing = s.sealing := rfl
@[simp] theorem modRef_tmb (b : Nat) (f : RefBuf → RefBuf) (s : State) : (modRef b f s).tmb = s.tmb := rfl
@[simp] theorem modRef_seqAgree (b : Nat) (f : RefBuf → RefBuf) (s : State) : (modRef b f s).seqAgree = s.seqAgree := rfl
@[simp] theorem modRef_lin (b : Nat) (f : RefBuf → RefBuf) (s : State) : (modRef b f s).lin = s.lin := rfl
@[simp] theorem modRef_lanes (b : Nat) (f : RefBuf → RefBuf) (s : State) : (modRef b f s).lanes = s.lanes := rfl
@[simp] theorem modRef_passes (b : Nat) (f : RefBuf → RefBuf) (s : State) : (modRef b f s).passes = s.passes := rfl
@[simp] theorem modRef_grecs (b : Nat) (f : RefBuf → RefBuf) (s : State) : (modRef b f s).grecs = s.grecs := rfl
@[simp] theorem modRef_streams (b : Nat) (f : RefBuf → RefBuf) (s : State) : (modRef b f s).streams = s.streams := rfl
@[simp] theorem modRef_queues (b : Nat) (f : RefBuf → RefBuf) (s : State) : (modRef b f s).queues = s.queues := rfl
@[simp] theorem modRef_rwdSt (b : Nat) (f : RefBuf → RefBuf) (s : State) : (modRef b f s).rwdSt = s.rwdSt := rfl
@[simp] theorem modRef_tunits (b : Nat) (f : RefBuf → RefBuf) (s : State) : (modRef b f s).tunits = s.tunits := rfl
@[simp] theorem modRef_plans (b : Nat) (f : RefBuf → RefBuf) (s : State) : (modRef b f s).plans = s.plans := rfl
@[simp] theorem modRef_gunits (b : Nat) (f : RefBuf → RefBuf) (s : State) : (modRef b f s).gunits = s.gunits := rfl
@[simp] theorem modRef_dups (b : Nat) (f : RefBuf → RefBuf) (s : State) : (modRef b f s).dups = s.dups := rfl
@[simp] theorem modRef_pubId (b : Nat) (f : RefBuf → RefBuf) (s : State) : (modRef b f s).pubId = s.pubId := rfl
@[simp] theorem modRef_arc (b : Nat) (f : RefBuf → RefBuf) (s : State) : (modRef b f s).arc = s.arc := rfl
@[simp] theorem modRef_dcmp (b : Nat) (f : RefBuf → RefBuf) (s : State) : (modRef b f s).dcmp = s.dcmp := rfl
@[simp] theorem modRef_mem (b : Nat) (f : RefBuf → RefBuf) (s : State) : (modRef b f s).mem = s.mem := rfl
@[simp] theorem modRef_rtePath (b : Nat) (f : RefBuf → RefBuf) (s : State) : (modRef b f s).rtePath = s.rtePath := rfl
@[simp] theorem modRef_twn (b : Nat) (f : RefBuf → RefBuf) (s : State) : (modRef b f s).twn = s.twn := rfl
@[simp] theorem modRef_bcn (b : Nat) (f : RefBuf → RefBuf) (s : State) : (modRef b f s).bcn = s.bcn := rfl
@[simp] theorem modRef_jtag (b : Nat) (f : RefBuf → RefBuf) (s : State) : (modRef b f s).jtag = s.jtag := rfl
@[simp] theorem modRef_hst (b : Nat) (f : RefBuf → RefBuf) (s : State) : (modRef b f s).hst = s.hst := rfl
@[simp] theorem modRef_tst (b : Nat) (f : RefBuf → RefBuf) (s : State) : (modRef b f s).tst = s.tst := rfl
@[simp] theorem modRef_flight (b : Nat) (f : RefBuf → RefBuf) (s : State) : (modRef b f s).flight = s.flight := rfl
@[simp] theorem modRef_compl (b : Nat) (f : RefBuf → RefBuf) (s : State) : (modRef b f s).compl = s.compl := rfl
@[simp] theorem modRef_pending (b : Nat) (f : RefBuf → RefBuf) (s : State) : (modRef b f s).pending = s.pending := rfl

@[simp] theorem modAux_c (n : Nat) (f : Aux → Aux) (s : State) : (modAux n f s).c = s.c := rfl
@[simp] theorem modAux_frame (n : Nat) (f : Aux → Aux) (s : State) : (modAux n f s).frame = s.frame := rfl
@[simp] theorem modAux_ord (n : Nat) (f : Aux → Aux) (s : State) : (modAux n f s).ord = s.ord := rfl
@[simp] theorem modAux_freeIdx (n : Nat) (f : Aux → Aux) (s : State) : (modAux n f s).freeIdx = s.freeIdx := rfl
@[simp] theorem modAux_regs (n : Nat) (f : Aux → Aux) (s : State) : (modAux n f s).regs = s.regs := rfl
@[simp] theorem modAux_staged (n : Nat) (f : Aux → Aux) (s : State) : (modAux n f s).staged = s.staged := rfl
@[simp] theorem modAux_dspPend (n : Nat) (f : Aux → Aux) (s : State) : (modAux n f s).dspPend = s.dspPend := rfl
@[simp] theorem modAux_dspQ (n : Nat) (f : Aux → Aux) (s : State) : (modAux n f s).dspQ = s.dspQ := rfl
@[simp] theorem modAux_hiLatch (n : Nat) (f : Aux → Aux) (s : State) : (modAux n f s).hiLatch = s.hiLatch := rfl
@[simp] theorem modAux_rd (n : Nat) (f : Aux → Aux) (s : State) : (modAux n f s).rd = s.rd := rfl
@[simp] theorem modAux_pwr (n : Nat) (f : Aux → Aux) (s : State) : (modAux n f s).pwr = s.pwr := rfl
@[simp] theorem modAux_dies (n : Nat) (f : Aux → Aux) (s : State) : (modAux n f s).dies = s.dies := rfl
@[simp] theorem modAux_hub (n : Nat) (f : Aux → Aux) (s : State) : (modAux n f s).hub = s.hub := rfl
@[simp] theorem modAux_dsp (n : Nat) (f : Aux → Aux) (s : State) : (modAux n f s).dsp = s.dsp := rfl
@[simp] theorem modAux_cmt (n : Nat) (f : Aux → Aux) (s : State) : (modAux n f s).cmt = s.cmt := rfl
@[simp] theorem modAux_evt (n : Nat) (f : Aux → Aux) (s : State) : (modAux n f s).evt = s.evt := rfl
@[simp] theorem modAux_chans (n : Nat) (f : Aux → Aux) (s : State) : (modAux n f s).chans = s.chans := rfl
@[simp] theorem modAux_taps (n : Nat) (f : Aux → Aux) (s : State) : (modAux n f s).taps = s.taps := rfl
@[simp] theorem modAux_lts (n : Nat) (f : Aux → Aux) (s : State) : (modAux n f s).lts = s.lts := rfl
@[simp] theorem modAux_ltWait (n : Nat) (f : Aux → Aux) (s : State) : (modAux n f s).ltWait = s.ltWait := rfl
@[simp] theorem modAux_ltRes (n : Nat) (f : Aux → Aux) (s : State) : (modAux n f s).ltRes = s.ltRes := rfl
@[simp] theorem modAux_ltTicks (n : Nat) (f : Aux → Aux) (s : State) : (modAux n f s).ltTicks = s.ltTicks := rfl
@[simp] theorem modAux_modStart (n : Nat) (f : Aux → Aux) (s : State) : (modAux n f s).modStart = s.modStart := rfl
@[simp] theorem modAux_startAt (n : Nat) (f : Aux → Aux) (s : State) : (modAux n f s).startAt = s.startAt := rfl
@[simp] theorem modAux_restart (n : Nat) (f : Aux → Aux) (s : State) : (modAux n f s).restart = s.restart := rfl
@[simp] theorem modAux_excs (n : Nat) (f : Aux → Aux) (s : State) : (modAux n f s).excs = s.excs := rfl
@[simp] theorem modAux_refs (n : Nat) (f : Aux → Aux) (s : State) : (modAux n f s).refs = s.refs := rfl
@[simp] theorem modAux_slots (n : Nat) (f : Aux → Aux) (s : State) : (modAux n f s).slots = s.slots := rfl
@[simp] theorem modAux_coef (n : Nat) (f : Aux → Aux) (s : State) : (modAux n f s).coef = s.coef := rfl
@[simp] theorem modAux_cbanks (n : Nat) (f : Aux → Aux) (s : State) : (modAux n f s).cbanks = s.cbanks := rfl
@[simp] theorem modAux_profs (n : Nat) (f : Aux → Aux) (s : State) : (modAux n f s).profs = s.profs := rfl
@[simp] theorem modAux_sealing (n : Nat) (f : Aux → Aux) (s : State) : (modAux n f s).sealing = s.sealing := rfl
@[simp] theorem modAux_tmb (n : Nat) (f : Aux → Aux) (s : State) : (modAux n f s).tmb = s.tmb := rfl
@[simp] theorem modAux_seqAgree (n : Nat) (f : Aux → Aux) (s : State) : (modAux n f s).seqAgree = s.seqAgree := rfl
@[simp] theorem modAux_lin (n : Nat) (f : Aux → Aux) (s : State) : (modAux n f s).lin = s.lin := rfl
@[simp] theorem modAux_lanes (n : Nat) (f : Aux → Aux) (s : State) : (modAux n f s).lanes = s.lanes := rfl
@[simp] theorem modAux_passes (n : Nat) (f : Aux → Aux) (s : State) : (modAux n f s).passes = s.passes := rfl
@[simp] theorem modAux_grecs (n : Nat) (f : Aux → Aux) (s : State) : (modAux n f s).grecs = s.grecs := rfl
@[simp] theorem modAux_streams (n : Nat) (f : Aux → Aux) (s : State) : (modAux n f s).streams = s.streams := rfl
@[simp] theorem modAux_queues (n : Nat) (f : Aux → Aux) (s : State) : (modAux n f s).queues = s.queues := rfl
@[simp] theorem modAux_rwdSt (n : Nat) (f : Aux → Aux) (s : State) : (modAux n f s).rwdSt = s.rwdSt := rfl
@[simp] theorem modAux_tunits (n : Nat) (f : Aux → Aux) (s : State) : (modAux n f s).tunits = s.tunits := rfl
@[simp] theorem modAux_plans (n : Nat) (f : Aux → Aux) (s : State) : (modAux n f s).plans = s.plans := rfl
@[simp] theorem modAux_gunits (n : Nat) (f : Aux → Aux) (s : State) : (modAux n f s).gunits = s.gunits := rfl
@[simp] theorem modAux_dups (n : Nat) (f : Aux → Aux) (s : State) : (modAux n f s).dups = s.dups := rfl
@[simp] theorem modAux_pubId (n : Nat) (f : Aux → Aux) (s : State) : (modAux n f s).pubId = s.pubId := rfl
@[simp] theorem modAux_arc (n : Nat) (f : Aux → Aux) (s : State) : (modAux n f s).arc = s.arc := rfl
@[simp] theorem modAux_dcmp (n : Nat) (f : Aux → Aux) (s : State) : (modAux n f s).dcmp = s.dcmp := rfl
@[simp] theorem modAux_mem (n : Nat) (f : Aux → Aux) (s : State) : (modAux n f s).mem = s.mem := rfl
@[simp] theorem modAux_rtePath (n : Nat) (f : Aux → Aux) (s : State) : (modAux n f s).rtePath = s.rtePath := rfl
@[simp] theorem modAux_twn (n : Nat) (f : Aux → Aux) (s : State) : (modAux n f s).twn = s.twn := rfl
@[simp] theorem modAux_bcn (n : Nat) (f : Aux → Aux) (s : State) : (modAux n f s).bcn = s.bcn := rfl
@[simp] theorem modAux_jtag (n : Nat) (f : Aux → Aux) (s : State) : (modAux n f s).jtag = s.jtag := rfl
@[simp] theorem modAux_hst (n : Nat) (f : Aux → Aux) (s : State) : (modAux n f s).hst = s.hst := rfl
@[simp] theorem modAux_tst (n : Nat) (f : Aux → Aux) (s : State) : (modAux n f s).tst = s.tst := rfl
@[simp] theorem modAux_flight (n : Nat) (f : Aux → Aux) (s : State) : (modAux n f s).flight = s.flight := rfl
@[simp] theorem modAux_compl (n : Nat) (f : Aux → Aux) (s : State) : (modAux n f s).compl = s.compl := rfl
@[simp] theorem modAux_pending (n : Nat) (f : Aux → Aux) (s : State) : (modAux n f s).pending = s.pending := rfl

@[simp] theorem modTlane_c (n : Nat) (f : TLane → TLane) (s : State) : (modTlane n f s).c = s.c := rfl
@[simp] theorem modTlane_frame (n : Nat) (f : TLane → TLane) (s : State) : (modTlane n f s).frame = s.frame := rfl
@[simp] theorem modTlane_ord (n : Nat) (f : TLane → TLane) (s : State) : (modTlane n f s).ord = s.ord := rfl
@[simp] theorem modTlane_freeIdx (n : Nat) (f : TLane → TLane) (s : State) : (modTlane n f s).freeIdx = s.freeIdx := rfl
@[simp] theorem modTlane_regs (n : Nat) (f : TLane → TLane) (s : State) : (modTlane n f s).regs = s.regs := rfl
@[simp] theorem modTlane_staged (n : Nat) (f : TLane → TLane) (s : State) : (modTlane n f s).staged = s.staged := rfl
@[simp] theorem modTlane_dspPend (n : Nat) (f : TLane → TLane) (s : State) : (modTlane n f s).dspPend = s.dspPend := rfl
@[simp] theorem modTlane_dspQ (n : Nat) (f : TLane → TLane) (s : State) : (modTlane n f s).dspQ = s.dspQ := rfl
@[simp] theorem modTlane_hiLatch (n : Nat) (f : TLane → TLane) (s : State) : (modTlane n f s).hiLatch = s.hiLatch := rfl
@[simp] theorem modTlane_rd (n : Nat) (f : TLane → TLane) (s : State) : (modTlane n f s).rd = s.rd := rfl
@[simp] theorem modTlane_pwr (n : Nat) (f : TLane → TLane) (s : State) : (modTlane n f s).pwr = s.pwr := rfl
@[simp] theorem modTlane_dies (n : Nat) (f : TLane → TLane) (s : State) : (modTlane n f s).dies = s.dies := rfl
@[simp] theorem modTlane_hub (n : Nat) (f : TLane → TLane) (s : State) : (modTlane n f s).hub = s.hub := rfl
@[simp] theorem modTlane_dsp (n : Nat) (f : TLane → TLane) (s : State) : (modTlane n f s).dsp = s.dsp := rfl
@[simp] theorem modTlane_cmt (n : Nat) (f : TLane → TLane) (s : State) : (modTlane n f s).cmt = s.cmt := rfl
@[simp] theorem modTlane_evt (n : Nat) (f : TLane → TLane) (s : State) : (modTlane n f s).evt = s.evt := rfl
@[simp] theorem modTlane_chans (n : Nat) (f : TLane → TLane) (s : State) : (modTlane n f s).chans = s.chans := rfl
@[simp] theorem modTlane_taps (n : Nat) (f : TLane → TLane) (s : State) : (modTlane n f s).taps = s.taps := rfl
@[simp] theorem modTlane_lts (n : Nat) (f : TLane → TLane) (s : State) : (modTlane n f s).lts = s.lts := rfl
@[simp] theorem modTlane_ltWait (n : Nat) (f : TLane → TLane) (s : State) : (modTlane n f s).ltWait = s.ltWait := rfl
@[simp] theorem modTlane_ltRes (n : Nat) (f : TLane → TLane) (s : State) : (modTlane n f s).ltRes = s.ltRes := rfl
@[simp] theorem modTlane_ltTicks (n : Nat) (f : TLane → TLane) (s : State) : (modTlane n f s).ltTicks = s.ltTicks := rfl
@[simp] theorem modTlane_modStart (n : Nat) (f : TLane → TLane) (s : State) : (modTlane n f s).modStart = s.modStart := rfl
@[simp] theorem modTlane_startAt (n : Nat) (f : TLane → TLane) (s : State) : (modTlane n f s).startAt = s.startAt := rfl
@[simp] theorem modTlane_restart (n : Nat) (f : TLane → TLane) (s : State) : (modTlane n f s).restart = s.restart := rfl
@[simp] theorem modTlane_excs (n : Nat) (f : TLane → TLane) (s : State) : (modTlane n f s).excs = s.excs := rfl
@[simp] theorem modTlane_refs (n : Nat) (f : TLane → TLane) (s : State) : (modTlane n f s).refs = s.refs := rfl
@[simp] theorem modTlane_auxs (n : Nat) (f : TLane → TLane) (s : State) : (modTlane n f s).auxs = s.auxs := rfl
@[simp] theorem modTlane_slots (n : Nat) (f : TLane → TLane) (s : State) : (modTlane n f s).slots = s.slots := rfl
@[simp] theorem modTlane_coef (n : Nat) (f : TLane → TLane) (s : State) : (modTlane n f s).coef = s.coef := rfl
@[simp] theorem modTlane_cbanks (n : Nat) (f : TLane → TLane) (s : State) : (modTlane n f s).cbanks = s.cbanks := rfl
@[simp] theorem modTlane_profs (n : Nat) (f : TLane → TLane) (s : State) : (modTlane n f s).profs = s.profs := rfl
@[simp] theorem modTlane_sealing (n : Nat) (f : TLane → TLane) (s : State) : (modTlane n f s).sealing = s.sealing := rfl
@[simp] theorem modTlane_seqAgree (n : Nat) (f : TLane → TLane) (s : State) : (modTlane n f s).seqAgree = s.seqAgree := rfl
@[simp] theorem modTlane_lin (n : Nat) (f : TLane → TLane) (s : State) : (modTlane n f s).lin = s.lin := rfl
@[simp] theorem modTlane_lanes (n : Nat) (f : TLane → TLane) (s : State) : (modTlane n f s).lanes = s.lanes := rfl
@[simp] theorem modTlane_passes (n : Nat) (f : TLane → TLane) (s : State) : (modTlane n f s).passes = s.passes := rfl
@[simp] theorem modTlane_grecs (n : Nat) (f : TLane → TLane) (s : State) : (modTlane n f s).grecs = s.grecs := rfl
@[simp] theorem modTlane_streams (n : Nat) (f : TLane → TLane) (s : State) : (modTlane n f s).streams = s.streams := rfl
@[simp] theorem modTlane_queues (n : Nat) (f : TLane → TLane) (s : State) : (modTlane n f s).queues = s.queues := rfl
@[simp] theorem modTlane_rwdSt (n : Nat) (f : TLane → TLane) (s : State) : (modTlane n f s).rwdSt = s.rwdSt := rfl
@[simp] theorem modTlane_tunits (n : Nat) (f : TLane → TLane) (s : State) : (modTlane n f s).tunits = s.tunits := rfl
@[simp] theorem modTlane_plans (n : Nat) (f : TLane → TLane) (s : State) : (modTlane n f s).plans = s.plans := rfl
@[simp] theorem modTlane_gunits (n : Nat) (f : TLane → TLane) (s : State) : (modTlane n f s).gunits = s.gunits := rfl
@[simp] theorem modTlane_dups (n : Nat) (f : TLane → TLane) (s : State) : (modTlane n f s).dups = s.dups := rfl
@[simp] theorem modTlane_pubId (n : Nat) (f : TLane → TLane) (s : State) : (modTlane n f s).pubId = s.pubId := rfl
@[simp] theorem modTlane_arc (n : Nat) (f : TLane → TLane) (s : State) : (modTlane n f s).arc = s.arc := rfl
@[simp] theorem modTlane_dcmp (n : Nat) (f : TLane → TLane) (s : State) : (modTlane n f s).dcmp = s.dcmp := rfl
@[simp] theorem modTlane_mem (n : Nat) (f : TLane → TLane) (s : State) : (modTlane n f s).mem = s.mem := rfl
@[simp] theorem modTlane_rtePath (n : Nat) (f : TLane → TLane) (s : State) : (modTlane n f s).rtePath = s.rtePath := rfl
@[simp] theorem modTlane_twn (n : Nat) (f : TLane → TLane) (s : State) : (modTlane n f s).twn = s.twn := rfl
@[simp] theorem modTlane_bcn (n : Nat) (f : TLane → TLane) (s : State) : (modTlane n f s).bcn = s.bcn := rfl
@[simp] theorem modTlane_jtag (n : Nat) (f : TLane → TLane) (s : State) : (modTlane n f s).jtag = s.jtag := rfl
@[simp] theorem modTlane_hst (n : Nat) (f : TLane → TLane) (s : State) : (modTlane n f s).hst = s.hst := rfl
@[simp] theorem modTlane_tst (n : Nat) (f : TLane → TLane) (s : State) : (modTlane n f s).tst = s.tst := rfl
@[simp] theorem modTlane_flight (n : Nat) (f : TLane → TLane) (s : State) : (modTlane n f s).flight = s.flight := rfl
@[simp] theorem modTlane_compl (n : Nat) (f : TLane → TLane) (s : State) : (modTlane n f s).compl = s.compl := rfl
@[simp] theorem modTlane_pending (n : Nat) (f : TLane → TLane) (s : State) : (modTlane n f s).pending = s.pending := rfl

@[simp] theorem modHst_c (f : Hst → Hst) (s : State) : (modHst f s).c = s.c := rfl
@[simp] theorem modHst_frame (f : Hst → Hst) (s : State) : (modHst f s).frame = s.frame := rfl
@[simp] theorem modHst_ord (f : Hst → Hst) (s : State) : (modHst f s).ord = s.ord := rfl
@[simp] theorem modHst_freeIdx (f : Hst → Hst) (s : State) : (modHst f s).freeIdx = s.freeIdx := rfl
@[simp] theorem modHst_regs (f : Hst → Hst) (s : State) : (modHst f s).regs = s.regs := rfl
@[simp] theorem modHst_staged (f : Hst → Hst) (s : State) : (modHst f s).staged = s.staged := rfl
@[simp] theorem modHst_dspPend (f : Hst → Hst) (s : State) : (modHst f s).dspPend = s.dspPend := rfl
@[simp] theorem modHst_dspQ (f : Hst → Hst) (s : State) : (modHst f s).dspQ = s.dspQ := rfl
@[simp] theorem modHst_hiLatch (f : Hst → Hst) (s : State) : (modHst f s).hiLatch = s.hiLatch := rfl
@[simp] theorem modHst_rd (f : Hst → Hst) (s : State) : (modHst f s).rd = s.rd := rfl
@[simp] theorem modHst_pwr (f : Hst → Hst) (s : State) : (modHst f s).pwr = s.pwr := rfl
@[simp] theorem modHst_dies (f : Hst → Hst) (s : State) : (modHst f s).dies = s.dies := rfl
@[simp] theorem modHst_hub (f : Hst → Hst) (s : State) : (modHst f s).hub = s.hub := rfl
@[simp] theorem modHst_dsp (f : Hst → Hst) (s : State) : (modHst f s).dsp = s.dsp := rfl
@[simp] theorem modHst_cmt (f : Hst → Hst) (s : State) : (modHst f s).cmt = s.cmt := rfl
@[simp] theorem modHst_evt (f : Hst → Hst) (s : State) : (modHst f s).evt = s.evt := rfl
@[simp] theorem modHst_chans (f : Hst → Hst) (s : State) : (modHst f s).chans = s.chans := rfl
@[simp] theorem modHst_taps (f : Hst → Hst) (s : State) : (modHst f s).taps = s.taps := rfl
@[simp] theorem modHst_lts (f : Hst → Hst) (s : State) : (modHst f s).lts = s.lts := rfl
@[simp] theorem modHst_ltWait (f : Hst → Hst) (s : State) : (modHst f s).ltWait = s.ltWait := rfl
@[simp] theorem modHst_ltRes (f : Hst → Hst) (s : State) : (modHst f s).ltRes = s.ltRes := rfl
@[simp] theorem modHst_ltTicks (f : Hst → Hst) (s : State) : (modHst f s).ltTicks = s.ltTicks := rfl
@[simp] theorem modHst_modStart (f : Hst → Hst) (s : State) : (modHst f s).modStart = s.modStart := rfl
@[simp] theorem modHst_startAt (f : Hst → Hst) (s : State) : (modHst f s).startAt = s.startAt := rfl
@[simp] theorem modHst_restart (f : Hst → Hst) (s : State) : (modHst f s).restart = s.restart := rfl
@[simp] theorem modHst_excs (f : Hst → Hst) (s : State) : (modHst f s).excs = s.excs := rfl
@[simp] theorem modHst_refs (f : Hst → Hst) (s : State) : (modHst f s).refs = s.refs := rfl
@[simp] theorem modHst_auxs (f : Hst → Hst) (s : State) : (modHst f s).auxs = s.auxs := rfl
@[simp] theorem modHst_slots (f : Hst → Hst) (s : State) : (modHst f s).slots = s.slots := rfl
@[simp] theorem modHst_coef (f : Hst → Hst) (s : State) : (modHst f s).coef = s.coef := rfl
@[simp] theorem modHst_cbanks (f : Hst → Hst) (s : State) : (modHst f s).cbanks = s.cbanks := rfl
@[simp] theorem modHst_profs (f : Hst → Hst) (s : State) : (modHst f s).profs = s.profs := rfl
@[simp] theorem modHst_sealing (f : Hst → Hst) (s : State) : (modHst f s).sealing = s.sealing := rfl
@[simp] theorem modHst_tmb (f : Hst → Hst) (s : State) : (modHst f s).tmb = s.tmb := rfl
@[simp] theorem modHst_seqAgree (f : Hst → Hst) (s : State) : (modHst f s).seqAgree = s.seqAgree := rfl
@[simp] theorem modHst_lin (f : Hst → Hst) (s : State) : (modHst f s).lin = s.lin := rfl
@[simp] theorem modHst_lanes (f : Hst → Hst) (s : State) : (modHst f s).lanes = s.lanes := rfl
@[simp] theorem modHst_passes (f : Hst → Hst) (s : State) : (modHst f s).passes = s.passes := rfl
@[simp] theorem modHst_grecs (f : Hst → Hst) (s : State) : (modHst f s).grecs = s.grecs := rfl
@[simp] theorem modHst_streams (f : Hst → Hst) (s : State) : (modHst f s).streams = s.streams := rfl
@[simp] theorem modHst_queues (f : Hst → Hst) (s : State) : (modHst f s).queues = s.queues := rfl
@[simp] theorem modHst_rwdSt (f : Hst → Hst) (s : State) : (modHst f s).rwdSt = s.rwdSt := rfl
@[simp] theorem modHst_tunits (f : Hst → Hst) (s : State) : (modHst f s).tunits = s.tunits := rfl
@[simp] theorem modHst_plans (f : Hst → Hst) (s : State) : (modHst f s).plans = s.plans := rfl
@[simp] theorem modHst_gunits (f : Hst → Hst) (s : State) : (modHst f s).gunits = s.gunits := rfl
@[simp] theorem modHst_dups (f : Hst → Hst) (s : State) : (modHst f s).dups = s.dups := rfl
@[simp] theorem modHst_pubId (f : Hst → Hst) (s : State) : (modHst f s).pubId = s.pubId := rfl
@[simp] theorem modHst_arc (f : Hst → Hst) (s : State) : (modHst f s).arc = s.arc := rfl
@[simp] theorem modHst_dcmp (f : Hst → Hst) (s : State) : (modHst f s).dcmp = s.dcmp := rfl
@[simp] theorem modHst_mem (f : Hst → Hst) (s : State) : (modHst f s).mem = s.mem := rfl
@[simp] theorem modHst_rtePath (f : Hst → Hst) (s : State) : (modHst f s).rtePath = s.rtePath := rfl
@[simp] theorem modHst_twn (f : Hst → Hst) (s : State) : (modHst f s).twn = s.twn := rfl
@[simp] theorem modHst_bcn (f : Hst → Hst) (s : State) : (modHst f s).bcn = s.bcn := rfl
@[simp] theorem modHst_jtag (f : Hst → Hst) (s : State) : (modHst f s).jtag = s.jtag := rfl
@[simp] theorem modHst_tst (f : Hst → Hst) (s : State) : (modHst f s).tst = s.tst := rfl
@[simp] theorem modHst_flight (f : Hst → Hst) (s : State) : (modHst f s).flight = s.flight := rfl
@[simp] theorem modHst_compl (f : Hst → Hst) (s : State) : (modHst f s).compl = s.compl := rfl
@[simp] theorem modHst_pending (f : Hst → Hst) (s : State) : (modHst f s).pending = s.pending := rfl

@[simp] theorem modLane_c (n : Nat) (f : Lane → Lane) (s : State) : (modLane n f s).c = s.c := rfl
@[simp] theorem modLane_frame (n : Nat) (f : Lane → Lane) (s : State) : (modLane n f s).frame = s.frame := rfl
@[simp] theorem modLane_ord (n : Nat) (f : Lane → Lane) (s : State) : (modLane n f s).ord = s.ord := rfl
@[simp] theorem modLane_freeIdx (n : Nat) (f : Lane → Lane) (s : State) : (modLane n f s).freeIdx = s.freeIdx := rfl
@[simp] theorem modLane_regs (n : Nat) (f : Lane → Lane) (s : State) : (modLane n f s).regs = s.regs := rfl
@[simp] theorem modLane_staged (n : Nat) (f : Lane → Lane) (s : State) : (modLane n f s).staged = s.staged := rfl
@[simp] theorem modLane_dspPend (n : Nat) (f : Lane → Lane) (s : State) : (modLane n f s).dspPend = s.dspPend := rfl
@[simp] theorem modLane_dspQ (n : Nat) (f : Lane → Lane) (s : State) : (modLane n f s).dspQ = s.dspQ := rfl
@[simp] theorem modLane_hiLatch (n : Nat) (f : Lane → Lane) (s : State) : (modLane n f s).hiLatch = s.hiLatch := rfl
@[simp] theorem modLane_rd (n : Nat) (f : Lane → Lane) (s : State) : (modLane n f s).rd = s.rd := rfl
@[simp] theorem modLane_pwr (n : Nat) (f : Lane → Lane) (s : State) : (modLane n f s).pwr = s.pwr := rfl
@[simp] theorem modLane_dies (n : Nat) (f : Lane → Lane) (s : State) : (modLane n f s).dies = s.dies := rfl
@[simp] theorem modLane_hub (n : Nat) (f : Lane → Lane) (s : State) : (modLane n f s).hub = s.hub := rfl
@[simp] theorem modLane_dsp (n : Nat) (f : Lane → Lane) (s : State) : (modLane n f s).dsp = s.dsp := rfl
@[simp] theorem modLane_cmt (n : Nat) (f : Lane → Lane) (s : State) : (modLane n f s).cmt = s.cmt := rfl
@[simp] theorem modLane_evt (n : Nat) (f : Lane → Lane) (s : State) : (modLane n f s).evt = s.evt := rfl
@[simp] theorem modLane_chans (n : Nat) (f : Lane → Lane) (s : State) : (modLane n f s).chans = s.chans := rfl
@[simp] theorem modLane_taps (n : Nat) (f : Lane → Lane) (s : State) : (modLane n f s).taps = s.taps := rfl
@[simp] theorem modLane_lts (n : Nat) (f : Lane → Lane) (s : State) : (modLane n f s).lts = s.lts := rfl
@[simp] theorem modLane_ltWait (n : Nat) (f : Lane → Lane) (s : State) : (modLane n f s).ltWait = s.ltWait := rfl
@[simp] theorem modLane_ltRes (n : Nat) (f : Lane → Lane) (s : State) : (modLane n f s).ltRes = s.ltRes := rfl
@[simp] theorem modLane_ltTicks (n : Nat) (f : Lane → Lane) (s : State) : (modLane n f s).ltTicks = s.ltTicks := rfl
@[simp] theorem modLane_modStart (n : Nat) (f : Lane → Lane) (s : State) : (modLane n f s).modStart = s.modStart := rfl
@[simp] theorem modLane_startAt (n : Nat) (f : Lane → Lane) (s : State) : (modLane n f s).startAt = s.startAt := rfl
@[simp] theorem modLane_restart (n : Nat) (f : Lane → Lane) (s : State) : (modLane n f s).restart = s.restart := rfl
@[simp] theorem modLane_excs (n : Nat) (f : Lane → Lane) (s : State) : (modLane n f s).excs = s.excs := rfl
@[simp] theorem modLane_refs (n : Nat) (f : Lane → Lane) (s : State) : (modLane n f s).refs = s.refs := rfl
@[simp] theorem modLane_auxs (n : Nat) (f : Lane → Lane) (s : State) : (modLane n f s).auxs = s.auxs := rfl
@[simp] theorem modLane_slots (n : Nat) (f : Lane → Lane) (s : State) : (modLane n f s).slots = s.slots := rfl
@[simp] theorem modLane_coef (n : Nat) (f : Lane → Lane) (s : State) : (modLane n f s).coef = s.coef := rfl
@[simp] theorem modLane_cbanks (n : Nat) (f : Lane → Lane) (s : State) : (modLane n f s).cbanks = s.cbanks := rfl
@[simp] theorem modLane_profs (n : Nat) (f : Lane → Lane) (s : State) : (modLane n f s).profs = s.profs := rfl
@[simp] theorem modLane_sealing (n : Nat) (f : Lane → Lane) (s : State) : (modLane n f s).sealing = s.sealing := rfl
@[simp] theorem modLane_tmb (n : Nat) (f : Lane → Lane) (s : State) : (modLane n f s).tmb = s.tmb := rfl
@[simp] theorem modLane_seqAgree (n : Nat) (f : Lane → Lane) (s : State) : (modLane n f s).seqAgree = s.seqAgree := rfl
@[simp] theorem modLane_lin (n : Nat) (f : Lane → Lane) (s : State) : (modLane n f s).lin = s.lin := rfl
@[simp] theorem modLane_passes (n : Nat) (f : Lane → Lane) (s : State) : (modLane n f s).passes = s.passes := rfl
@[simp] theorem modLane_grecs (n : Nat) (f : Lane → Lane) (s : State) : (modLane n f s).grecs = s.grecs := rfl
@[simp] theorem modLane_streams (n : Nat) (f : Lane → Lane) (s : State) : (modLane n f s).streams = s.streams := rfl
@[simp] theorem modLane_queues (n : Nat) (f : Lane → Lane) (s : State) : (modLane n f s).queues = s.queues := rfl
@[simp] theorem modLane_rwdSt (n : Nat) (f : Lane → Lane) (s : State) : (modLane n f s).rwdSt = s.rwdSt := rfl
@[simp] theorem modLane_tunits (n : Nat) (f : Lane → Lane) (s : State) : (modLane n f s).tunits = s.tunits := rfl
@[simp] theorem modLane_plans (n : Nat) (f : Lane → Lane) (s : State) : (modLane n f s).plans = s.plans := rfl
@[simp] theorem modLane_gunits (n : Nat) (f : Lane → Lane) (s : State) : (modLane n f s).gunits = s.gunits := rfl
@[simp] theorem modLane_dups (n : Nat) (f : Lane → Lane) (s : State) : (modLane n f s).dups = s.dups := rfl
@[simp] theorem modLane_pubId (n : Nat) (f : Lane → Lane) (s : State) : (modLane n f s).pubId = s.pubId := rfl
@[simp] theorem modLane_arc (n : Nat) (f : Lane → Lane) (s : State) : (modLane n f s).arc = s.arc := rfl
@[simp] theorem modLane_dcmp (n : Nat) (f : Lane → Lane) (s : State) : (modLane n f s).dcmp = s.dcmp := rfl
@[simp] theorem modLane_mem (n : Nat) (f : Lane → Lane) (s : State) : (modLane n f s).mem = s.mem := rfl
@[simp] theorem modLane_rtePath (n : Nat) (f : Lane → Lane) (s : State) : (modLane n f s).rtePath = s.rtePath := rfl
@[simp] theorem modLane_twn (n : Nat) (f : Lane → Lane) (s : State) : (modLane n f s).twn = s.twn := rfl
@[simp] theorem modLane_bcn (n : Nat) (f : Lane → Lane) (s : State) : (modLane n f s).bcn = s.bcn := rfl
@[simp] theorem modLane_jtag (n : Nat) (f : Lane → Lane) (s : State) : (modLane n f s).jtag = s.jtag := rfl
@[simp] theorem modLane_hst (n : Nat) (f : Lane → Lane) (s : State) : (modLane n f s).hst = s.hst := rfl
@[simp] theorem modLane_tst (n : Nat) (f : Lane → Lane) (s : State) : (modLane n f s).tst = s.tst := rfl
@[simp] theorem modLane_flight (n : Nat) (f : Lane → Lane) (s : State) : (modLane n f s).flight = s.flight := rfl
@[simp] theorem modLane_compl (n : Nat) (f : Lane → Lane) (s : State) : (modLane n f s).compl = s.compl := rfl
@[simp] theorem modLane_pending (n : Nat) (f : Lane → Lane) (s : State) : (modLane n f s).pending = s.pending := rfl

@[simp] theorem modQueue_c (q : Nat) (f : Queue → Queue) (s : State) : (modQueue q f s).c = s.c := rfl
@[simp] theorem modQueue_frame (q : Nat) (f : Queue → Queue) (s : State) : (modQueue q f s).frame = s.frame := rfl
@[simp] theorem modQueue_ord (q : Nat) (f : Queue → Queue) (s : State) : (modQueue q f s).ord = s.ord := rfl
@[simp] theorem modQueue_freeIdx (q : Nat) (f : Queue → Queue) (s : State) : (modQueue q f s).freeIdx = s.freeIdx := rfl
@[simp] theorem modQueue_regs (q : Nat) (f : Queue → Queue) (s : State) : (modQueue q f s).regs = s.regs := rfl
@[simp] theorem modQueue_staged (q : Nat) (f : Queue → Queue) (s : State) : (modQueue q f s).staged = s.staged := rfl
@[simp] theorem modQueue_dspPend (q : Nat) (f : Queue → Queue) (s : State) : (modQueue q f s).dspPend = s.dspPend := rfl
@[simp] theorem modQueue_dspQ (q : Nat) (f : Queue → Queue) (s : State) : (modQueue q f s).dspQ = s.dspQ := rfl
@[simp] theorem modQueue_hiLatch (q : Nat) (f : Queue → Queue) (s : State) : (modQueue q f s).hiLatch = s.hiLatch := rfl
@[simp] theorem modQueue_rd (q : Nat) (f : Queue → Queue) (s : State) : (modQueue q f s).rd = s.rd := rfl
@[simp] theorem modQueue_pwr (q : Nat) (f : Queue → Queue) (s : State) : (modQueue q f s).pwr = s.pwr := rfl
@[simp] theorem modQueue_dies (q : Nat) (f : Queue → Queue) (s : State) : (modQueue q f s).dies = s.dies := rfl
@[simp] theorem modQueue_hub (q : Nat) (f : Queue → Queue) (s : State) : (modQueue q f s).hub = s.hub := rfl
@[simp] theorem modQueue_dsp (q : Nat) (f : Queue → Queue) (s : State) : (modQueue q f s).dsp = s.dsp := rfl
@[simp] theorem modQueue_cmt (q : Nat) (f : Queue → Queue) (s : State) : (modQueue q f s).cmt = s.cmt := rfl
@[simp] theorem modQueue_evt (q : Nat) (f : Queue → Queue) (s : State) : (modQueue q f s).evt = s.evt := rfl
@[simp] theorem modQueue_chans (q : Nat) (f : Queue → Queue) (s : State) : (modQueue q f s).chans = s.chans := rfl
@[simp] theorem modQueue_taps (q : Nat) (f : Queue → Queue) (s : State) : (modQueue q f s).taps = s.taps := rfl
@[simp] theorem modQueue_lts (q : Nat) (f : Queue → Queue) (s : State) : (modQueue q f s).lts = s.lts := rfl
@[simp] theorem modQueue_ltWait (q : Nat) (f : Queue → Queue) (s : State) : (modQueue q f s).ltWait = s.ltWait := rfl
@[simp] theorem modQueue_ltRes (q : Nat) (f : Queue → Queue) (s : State) : (modQueue q f s).ltRes = s.ltRes := rfl
@[simp] theorem modQueue_ltTicks (q : Nat) (f : Queue → Queue) (s : State) : (modQueue q f s).ltTicks = s.ltTicks := rfl
@[simp] theorem modQueue_modStart (q : Nat) (f : Queue → Queue) (s : State) : (modQueue q f s).modStart = s.modStart := rfl
@[simp] theorem modQueue_startAt (q : Nat) (f : Queue → Queue) (s : State) : (modQueue q f s).startAt = s.startAt := rfl
@[simp] theorem modQueue_restart (q : Nat) (f : Queue → Queue) (s : State) : (modQueue q f s).restart = s.restart := rfl
@[simp] theorem modQueue_excs (q : Nat) (f : Queue → Queue) (s : State) : (modQueue q f s).excs = s.excs := rfl
@[simp] theorem modQueue_refs (q : Nat) (f : Queue → Queue) (s : State) : (modQueue q f s).refs = s.refs := rfl
@[simp] theorem modQueue_auxs (q : Nat) (f : Queue → Queue) (s : State) : (modQueue q f s).auxs = s.auxs := rfl
@[simp] theorem modQueue_slots (q : Nat) (f : Queue → Queue) (s : State) : (modQueue q f s).slots = s.slots := rfl
@[simp] theorem modQueue_coef (q : Nat) (f : Queue → Queue) (s : State) : (modQueue q f s).coef = s.coef := rfl
@[simp] theorem modQueue_cbanks (q : Nat) (f : Queue → Queue) (s : State) : (modQueue q f s).cbanks = s.cbanks := rfl
@[simp] theorem modQueue_profs (q : Nat) (f : Queue → Queue) (s : State) : (modQueue q f s).profs = s.profs := rfl
@[simp] theorem modQueue_sealing (q : Nat) (f : Queue → Queue) (s : State) : (modQueue q f s).sealing = s.sealing := rfl
@[simp] theorem modQueue_tmb (q : Nat) (f : Queue → Queue) (s : State) : (modQueue q f s).tmb = s.tmb := rfl
@[simp] theorem modQueue_seqAgree (q : Nat) (f : Queue → Queue) (s : State) : (modQueue q f s).seqAgree = s.seqAgree := rfl
@[simp] theorem modQueue_lin (q : Nat) (f : Queue → Queue) (s : State) : (modQueue q f s).lin = s.lin := rfl
@[simp] theorem modQueue_lanes (q : Nat) (f : Queue → Queue) (s : State) : (modQueue q f s).lanes = s.lanes := rfl
@[simp] theorem modQueue_passes (q : Nat) (f : Queue → Queue) (s : State) : (modQueue q f s).passes = s.passes := rfl
@[simp] theorem modQueue_grecs (q : Nat) (f : Queue → Queue) (s : State) : (modQueue q f s).grecs = s.grecs := rfl
@[simp] theorem modQueue_streams (q : Nat) (f : Queue → Queue) (s : State) : (modQueue q f s).streams = s.streams := rfl
@[simp] theorem modQueue_rwdSt (q : Nat) (f : Queue → Queue) (s : State) : (modQueue q f s).rwdSt = s.rwdSt := rfl
@[simp] theorem modQueue_tunits (q : Nat) (f : Queue → Queue) (s : State) : (modQueue q f s).tunits = s.tunits := rfl
@[simp] theorem modQueue_plans (q : Nat) (f : Queue → Queue) (s : State) : (modQueue q f s).plans = s.plans := rfl
@[simp] theorem modQueue_gunits (q : Nat) (f : Queue → Queue) (s : State) : (modQueue q f s).gunits = s.gunits := rfl
@[simp] theorem modQueue_dups (q : Nat) (f : Queue → Queue) (s : State) : (modQueue q f s).dups = s.dups := rfl
@[simp] theorem modQueue_pubId (q : Nat) (f : Queue → Queue) (s : State) : (modQueue q f s).pubId = s.pubId := rfl
@[simp] theorem modQueue_arc (q : Nat) (f : Queue → Queue) (s : State) : (modQueue q f s).arc = s.arc := rfl
@[simp] theorem modQueue_dcmp (q : Nat) (f : Queue → Queue) (s : State) : (modQueue q f s).dcmp = s.dcmp := rfl
@[simp] theorem modQueue_mem (q : Nat) (f : Queue → Queue) (s : State) : (modQueue q f s).mem = s.mem := rfl
@[simp] theorem modQueue_rtePath (q : Nat) (f : Queue → Queue) (s : State) : (modQueue q f s).rtePath = s.rtePath := rfl
@[simp] theorem modQueue_twn (q : Nat) (f : Queue → Queue) (s : State) : (modQueue q f s).twn = s.twn := rfl
@[simp] theorem modQueue_bcn (q : Nat) (f : Queue → Queue) (s : State) : (modQueue q f s).bcn = s.bcn := rfl
@[simp] theorem modQueue_jtag (q : Nat) (f : Queue → Queue) (s : State) : (modQueue q f s).jtag = s.jtag := rfl
@[simp] theorem modQueue_hst (q : Nat) (f : Queue → Queue) (s : State) : (modQueue q f s).hst = s.hst := rfl
@[simp] theorem modQueue_tst (q : Nat) (f : Queue → Queue) (s : State) : (modQueue q f s).tst = s.tst := rfl
@[simp] theorem modQueue_flight (q : Nat) (f : Queue → Queue) (s : State) : (modQueue q f s).flight = s.flight := rfl
@[simp] theorem modQueue_compl (q : Nat) (f : Queue → Queue) (s : State) : (modQueue q f s).compl = s.compl := rfl
@[simp] theorem modQueue_pending (q : Nat) (f : Queue → Queue) (s : State) : (modQueue q f s).pending = s.pending := rfl

@[simp] theorem modMem_c (f : Mem → Mem) (s : State) : (modMem f s).c = s.c := rfl
@[simp] theorem modMem_frame (f : Mem → Mem) (s : State) : (modMem f s).frame = s.frame := rfl
@[simp] theorem modMem_ord (f : Mem → Mem) (s : State) : (modMem f s).ord = s.ord := rfl
@[simp] theorem modMem_freeIdx (f : Mem → Mem) (s : State) : (modMem f s).freeIdx = s.freeIdx := rfl
@[simp] theorem modMem_regs (f : Mem → Mem) (s : State) : (modMem f s).regs = s.regs := rfl
@[simp] theorem modMem_staged (f : Mem → Mem) (s : State) : (modMem f s).staged = s.staged := rfl
@[simp] theorem modMem_dspPend (f : Mem → Mem) (s : State) : (modMem f s).dspPend = s.dspPend := rfl
@[simp] theorem modMem_dspQ (f : Mem → Mem) (s : State) : (modMem f s).dspQ = s.dspQ := rfl
@[simp] theorem modMem_hiLatch (f : Mem → Mem) (s : State) : (modMem f s).hiLatch = s.hiLatch := rfl
@[simp] theorem modMem_rd (f : Mem → Mem) (s : State) : (modMem f s).rd = s.rd := rfl
@[simp] theorem modMem_pwr (f : Mem → Mem) (s : State) : (modMem f s).pwr = s.pwr := rfl
@[simp] theorem modMem_dies (f : Mem → Mem) (s : State) : (modMem f s).dies = s.dies := rfl
@[simp] theorem modMem_hub (f : Mem → Mem) (s : State) : (modMem f s).hub = s.hub := rfl
@[simp] theorem modMem_dsp (f : Mem → Mem) (s : State) : (modMem f s).dsp = s.dsp := rfl
@[simp] theorem modMem_cmt (f : Mem → Mem) (s : State) : (modMem f s).cmt = s.cmt := rfl
@[simp] theorem modMem_evt (f : Mem → Mem) (s : State) : (modMem f s).evt = s.evt := rfl
@[simp] theorem modMem_chans (f : Mem → Mem) (s : State) : (modMem f s).chans = s.chans := rfl
@[simp] theorem modMem_taps (f : Mem → Mem) (s : State) : (modMem f s).taps = s.taps := rfl
@[simp] theorem modMem_lts (f : Mem → Mem) (s : State) : (modMem f s).lts = s.lts := rfl
@[simp] theorem modMem_ltWait (f : Mem → Mem) (s : State) : (modMem f s).ltWait = s.ltWait := rfl
@[simp] theorem modMem_ltRes (f : Mem → Mem) (s : State) : (modMem f s).ltRes = s.ltRes := rfl
@[simp] theorem modMem_ltTicks (f : Mem → Mem) (s : State) : (modMem f s).ltTicks = s.ltTicks := rfl
@[simp] theorem modMem_modStart (f : Mem → Mem) (s : State) : (modMem f s).modStart = s.modStart := rfl
@[simp] theorem modMem_startAt (f : Mem → Mem) (s : State) : (modMem f s).startAt = s.startAt := rfl
@[simp] theorem modMem_restart (f : Mem → Mem) (s : State) : (modMem f s).restart = s.restart := rfl
@[simp] theorem modMem_excs (f : Mem → Mem) (s : State) : (modMem f s).excs = s.excs := rfl
@[simp] theorem modMem_refs (f : Mem → Mem) (s : State) : (modMem f s).refs = s.refs := rfl
@[simp] theorem modMem_auxs (f : Mem → Mem) (s : State) : (modMem f s).auxs = s.auxs := rfl
@[simp] theorem modMem_slots (f : Mem → Mem) (s : State) : (modMem f s).slots = s.slots := rfl
@[simp] theorem modMem_coef (f : Mem → Mem) (s : State) : (modMem f s).coef = s.coef := rfl
@[simp] theorem modMem_cbanks (f : Mem → Mem) (s : State) : (modMem f s).cbanks = s.cbanks := rfl
@[simp] theorem modMem_profs (f : Mem → Mem) (s : State) : (modMem f s).profs = s.profs := rfl
@[simp] theorem modMem_sealing (f : Mem → Mem) (s : State) : (modMem f s).sealing = s.sealing := rfl
@[simp] theorem modMem_tmb (f : Mem → Mem) (s : State) : (modMem f s).tmb = s.tmb := rfl
@[simp] theorem modMem_seqAgree (f : Mem → Mem) (s : State) : (modMem f s).seqAgree = s.seqAgree := rfl
@[simp] theorem modMem_lin (f : Mem → Mem) (s : State) : (modMem f s).lin = s.lin := rfl
@[simp] theorem modMem_lanes (f : Mem → Mem) (s : State) : (modMem f s).lanes = s.lanes := rfl
@[simp] theorem modMem_passes (f : Mem → Mem) (s : State) : (modMem f s).passes = s.passes := rfl
@[simp] theorem modMem_grecs (f : Mem → Mem) (s : State) : (modMem f s).grecs = s.grecs := rfl
@[simp] theorem modMem_streams (f : Mem → Mem) (s : State) : (modMem f s).streams = s.streams := rfl
@[simp] theorem modMem_queues (f : Mem → Mem) (s : State) : (modMem f s).queues = s.queues := rfl
@[simp] theorem modMem_rwdSt (f : Mem → Mem) (s : State) : (modMem f s).rwdSt = s.rwdSt := rfl
@[simp] theorem modMem_tunits (f : Mem → Mem) (s : State) : (modMem f s).tunits = s.tunits := rfl
@[simp] theorem modMem_plans (f : Mem → Mem) (s : State) : (modMem f s).plans = s.plans := rfl
@[simp] theorem modMem_gunits (f : Mem → Mem) (s : State) : (modMem f s).gunits = s.gunits := rfl
@[simp] theorem modMem_dups (f : Mem → Mem) (s : State) : (modMem f s).dups = s.dups := rfl
@[simp] theorem modMem_pubId (f : Mem → Mem) (s : State) : (modMem f s).pubId = s.pubId := rfl
@[simp] theorem modMem_arc (f : Mem → Mem) (s : State) : (modMem f s).arc = s.arc := rfl
@[simp] theorem modMem_dcmp (f : Mem → Mem) (s : State) : (modMem f s).dcmp = s.dcmp := rfl
@[simp] theorem modMem_rtePath (f : Mem → Mem) (s : State) : (modMem f s).rtePath = s.rtePath := rfl
@[simp] theorem modMem_twn (f : Mem → Mem) (s : State) : (modMem f s).twn = s.twn := rfl
@[simp] theorem modMem_bcn (f : Mem → Mem) (s : State) : (modMem f s).bcn = s.bcn := rfl
@[simp] theorem modMem_jtag (f : Mem → Mem) (s : State) : (modMem f s).jtag = s.jtag := rfl
@[simp] theorem modMem_hst (f : Mem → Mem) (s : State) : (modMem f s).hst = s.hst := rfl
@[simp] theorem modMem_tst (f : Mem → Mem) (s : State) : (modMem f s).tst = s.tst := rfl
@[simp] theorem modMem_flight (f : Mem → Mem) (s : State) : (modMem f s).flight = s.flight := rfl
@[simp] theorem modMem_compl (f : Mem → Mem) (s : State) : (modMem f s).compl = s.compl := rfl
@[simp] theorem modMem_pending (f : Mem → Mem) (s : State) : (modMem f s).pending = s.pending := rfl

@[simp] theorem await_c (f : Flight) (w : Wait) (s : State) : (await f w s).c = s.c := rfl
@[simp] theorem await_frame (f : Flight) (w : Wait) (s : State) : (await f w s).frame = s.frame := rfl
@[simp] theorem await_ord (f : Flight) (w : Wait) (s : State) : (await f w s).ord = s.ord := rfl
@[simp] theorem await_freeIdx (f : Flight) (w : Wait) (s : State) : (await f w s).freeIdx = s.freeIdx := rfl
@[simp] theorem await_regs (f : Flight) (w : Wait) (s : State) : (await f w s).regs = s.regs := rfl
@[simp] theorem await_staged (f : Flight) (w : Wait) (s : State) : (await f w s).staged = s.staged := rfl
@[simp] theorem await_dspPend (f : Flight) (w : Wait) (s : State) : (await f w s).dspPend = s.dspPend := rfl
@[simp] theorem await_dspQ (f : Flight) (w : Wait) (s : State) : (await f w s).dspQ = s.dspQ := rfl
@[simp] theorem await_hiLatch (f : Flight) (w : Wait) (s : State) : (await f w s).hiLatch = s.hiLatch := rfl
@[simp] theorem await_rd (f : Flight) (w : Wait) (s : State) : (await f w s).rd = s.rd := rfl
@[simp] theorem await_pwr (f : Flight) (w : Wait) (s : State) : (await f w s).pwr = s.pwr := rfl
@[simp] theorem await_dies (f : Flight) (w : Wait) (s : State) : (await f w s).dies = s.dies := rfl
@[simp] theorem await_hub (f : Flight) (w : Wait) (s : State) : (await f w s).hub = s.hub := rfl
@[simp] theorem await_dsp (f : Flight) (w : Wait) (s : State) : (await f w s).dsp = s.dsp := rfl
@[simp] theorem await_cmt (f : Flight) (w : Wait) (s : State) : (await f w s).cmt = s.cmt := rfl
@[simp] theorem await_evt (f : Flight) (w : Wait) (s : State) : (await f w s).evt = s.evt := rfl
@[simp] theorem await_chans (f : Flight) (w : Wait) (s : State) : (await f w s).chans = s.chans := rfl
@[simp] theorem await_taps (f : Flight) (w : Wait) (s : State) : (await f w s).taps = s.taps := rfl
@[simp] theorem await_lts (f : Flight) (w : Wait) (s : State) : (await f w s).lts = s.lts := rfl
@[simp] theorem await_ltWait (f : Flight) (w : Wait) (s : State) : (await f w s).ltWait = s.ltWait := rfl
@[simp] theorem await_ltRes (f : Flight) (w : Wait) (s : State) : (await f w s).ltRes = s.ltRes := rfl
@[simp] theorem await_ltTicks (f : Flight) (w : Wait) (s : State) : (await f w s).ltTicks = s.ltTicks := rfl
@[simp] theorem await_modStart (f : Flight) (w : Wait) (s : State) : (await f w s).modStart = s.modStart := rfl
@[simp] theorem await_startAt (f : Flight) (w : Wait) (s : State) : (await f w s).startAt = s.startAt := rfl
@[simp] theorem await_restart (f : Flight) (w : Wait) (s : State) : (await f w s).restart = s.restart := rfl
@[simp] theorem await_excs (f : Flight) (w : Wait) (s : State) : (await f w s).excs = s.excs := rfl
@[simp] theorem await_refs (f : Flight) (w : Wait) (s : State) : (await f w s).refs = s.refs := rfl
@[simp] theorem await_auxs (f : Flight) (w : Wait) (s : State) : (await f w s).auxs = s.auxs := rfl
@[simp] theorem await_slots (f : Flight) (w : Wait) (s : State) : (await f w s).slots = s.slots := rfl
@[simp] theorem await_coef (f : Flight) (w : Wait) (s : State) : (await f w s).coef = s.coef := rfl
@[simp] theorem await_cbanks (f : Flight) (w : Wait) (s : State) : (await f w s).cbanks = s.cbanks := rfl
@[simp] theorem await_profs (f : Flight) (w : Wait) (s : State) : (await f w s).profs = s.profs := rfl
@[simp] theorem await_sealing (f : Flight) (w : Wait) (s : State) : (await f w s).sealing = s.sealing := rfl
@[simp] theorem await_tmb (f : Flight) (w : Wait) (s : State) : (await f w s).tmb = s.tmb := rfl
@[simp] theorem await_seqAgree (f : Flight) (w : Wait) (s : State) : (await f w s).seqAgree = s.seqAgree := rfl
@[simp] theorem await_lin (f : Flight) (w : Wait) (s : State) : (await f w s).lin = s.lin := rfl
@[simp] theorem await_lanes (f : Flight) (w : Wait) (s : State) : (await f w s).lanes = s.lanes := rfl
@[simp] theorem await_passes (f : Flight) (w : Wait) (s : State) : (await f w s).passes = s.passes := rfl
@[simp] theorem await_grecs (f : Flight) (w : Wait) (s : State) : (await f w s).grecs = s.grecs := rfl
@[simp] theorem await_streams (f : Flight) (w : Wait) (s : State) : (await f w s).streams = s.streams := rfl
@[simp] theorem await_queues (f : Flight) (w : Wait) (s : State) : (await f w s).queues = s.queues := rfl
@[simp] theorem await_rwdSt (f : Flight) (w : Wait) (s : State) : (await f w s).rwdSt = s.rwdSt := rfl
@[simp] theorem await_tunits (f : Flight) (w : Wait) (s : State) : (await f w s).tunits = s.tunits := rfl
@[simp] theorem await_plans (f : Flight) (w : Wait) (s : State) : (await f w s).plans = s.plans := rfl
@[simp] theorem await_gunits (f : Flight) (w : Wait) (s : State) : (await f w s).gunits = s.gunits := rfl
@[simp] theorem await_dups (f : Flight) (w : Wait) (s : State) : (await f w s).dups = s.dups := rfl
@[simp] theorem await_pubId (f : Flight) (w : Wait) (s : State) : (await f w s).pubId = s.pubId := rfl
@[simp] theorem await_arc (f : Flight) (w : Wait) (s : State) : (await f w s).arc = s.arc := rfl
@[simp] theorem await_dcmp (f : Flight) (w : Wait) (s : State) : (await f w s).dcmp = s.dcmp := rfl
@[simp] theorem await_mem (f : Flight) (w : Wait) (s : State) : (await f w s).mem = s.mem := rfl
@[simp] theorem await_rtePath (f : Flight) (w : Wait) (s : State) : (await f w s).rtePath = s.rtePath := rfl
@[simp] theorem await_twn (f : Flight) (w : Wait) (s : State) : (await f w s).twn = s.twn := rfl
@[simp] theorem await_bcn (f : Flight) (w : Wait) (s : State) : (await f w s).bcn = s.bcn := rfl
@[simp] theorem await_jtag (f : Flight) (w : Wait) (s : State) : (await f w s).jtag = s.jtag := rfl
@[simp] theorem await_hst (f : Flight) (w : Wait) (s : State) : (await f w s).hst = s.hst := rfl
@[simp] theorem await_tst (f : Flight) (w : Wait) (s : State) : (await f w s).tst = s.tst := rfl
@[simp] theorem await_compl (f : Flight) (w : Wait) (s : State) : (await f w s).compl = s.compl := rfl
@[simp] theorem await_pending (f : Flight) (w : Wait) (s : State) : (await f w s).pending = s.pending := rfl

@[simp] theorem modCmt_c (f : Cmt → Cmt) (s : State) : (modCmt f s).c = s.c := rfl
@[simp] theorem modCmt_frame (f : Cmt → Cmt) (s : State) : (modCmt f s).frame = s.frame := rfl
@[simp] theorem modCmt_ord (f : Cmt → Cmt) (s : State) : (modCmt f s).ord = s.ord := rfl
@[simp] theorem modCmt_freeIdx (f : Cmt → Cmt) (s : State) : (modCmt f s).freeIdx = s.freeIdx := rfl
@[simp] theorem modCmt_regs (f : Cmt → Cmt) (s : State) : (modCmt f s).regs = s.regs := rfl
@[simp] theorem modCmt_staged (f : Cmt → Cmt) (s : State) : (modCmt f s).staged = s.staged := rfl
@[simp] theorem modCmt_dspPend (f : Cmt → Cmt) (s : State) : (modCmt f s).dspPend = s.dspPend := rfl
@[simp] theorem modCmt_dspQ (f : Cmt → Cmt) (s : State) : (modCmt f s).dspQ = s.dspQ := rfl
@[simp] theorem modCmt_hiLatch (f : Cmt → Cmt) (s : State) : (modCmt f s).hiLatch = s.hiLatch := rfl
@[simp] theorem modCmt_rd (f : Cmt → Cmt) (s : State) : (modCmt f s).rd = s.rd := rfl
@[simp] theorem modCmt_pwr (f : Cmt → Cmt) (s : State) : (modCmt f s).pwr = s.pwr := rfl
@[simp] theorem modCmt_dies (f : Cmt → Cmt) (s : State) : (modCmt f s).dies = s.dies := rfl
@[simp] theorem modCmt_hub (f : Cmt → Cmt) (s : State) : (modCmt f s).hub = s.hub := rfl
@[simp] theorem modCmt_dsp (f : Cmt → Cmt) (s : State) : (modCmt f s).dsp = s.dsp := rfl
@[simp] theorem modCmt_evt (f : Cmt → Cmt) (s : State) : (modCmt f s).evt = s.evt := rfl
@[simp] theorem modCmt_chans (f : Cmt → Cmt) (s : State) : (modCmt f s).chans = s.chans := rfl
@[simp] theorem modCmt_taps (f : Cmt → Cmt) (s : State) : (modCmt f s).taps = s.taps := rfl
@[simp] theorem modCmt_lts (f : Cmt → Cmt) (s : State) : (modCmt f s).lts = s.lts := rfl
@[simp] theorem modCmt_ltWait (f : Cmt → Cmt) (s : State) : (modCmt f s).ltWait = s.ltWait := rfl
@[simp] theorem modCmt_ltRes (f : Cmt → Cmt) (s : State) : (modCmt f s).ltRes = s.ltRes := rfl
@[simp] theorem modCmt_ltTicks (f : Cmt → Cmt) (s : State) : (modCmt f s).ltTicks = s.ltTicks := rfl
@[simp] theorem modCmt_modStart (f : Cmt → Cmt) (s : State) : (modCmt f s).modStart = s.modStart := rfl
@[simp] theorem modCmt_startAt (f : Cmt → Cmt) (s : State) : (modCmt f s).startAt = s.startAt := rfl
@[simp] theorem modCmt_restart (f : Cmt → Cmt) (s : State) : (modCmt f s).restart = s.restart := rfl
@[simp] theorem modCmt_excs (f : Cmt → Cmt) (s : State) : (modCmt f s).excs = s.excs := rfl
@[simp] theorem modCmt_refs (f : Cmt → Cmt) (s : State) : (modCmt f s).refs = s.refs := rfl
@[simp] theorem modCmt_auxs (f : Cmt → Cmt) (s : State) : (modCmt f s).auxs = s.auxs := rfl
@[simp] theorem modCmt_slots (f : Cmt → Cmt) (s : State) : (modCmt f s).slots = s.slots := rfl
@[simp] theorem modCmt_coef (f : Cmt → Cmt) (s : State) : (modCmt f s).coef = s.coef := rfl
@[simp] theorem modCmt_cbanks (f : Cmt → Cmt) (s : State) : (modCmt f s).cbanks = s.cbanks := rfl
@[simp] theorem modCmt_profs (f : Cmt → Cmt) (s : State) : (modCmt f s).profs = s.profs := rfl
@[simp] theorem modCmt_sealing (f : Cmt → Cmt) (s : State) : (modCmt f s).sealing = s.sealing := rfl
@[simp] theorem modCmt_tmb (f : Cmt → Cmt) (s : State) : (modCmt f s).tmb = s.tmb := rfl
@[simp] theorem modCmt_seqAgree (f : Cmt → Cmt) (s : State) : (modCmt f s).seqAgree = s.seqAgree := rfl
@[simp] theorem modCmt_lin (f : Cmt → Cmt) (s : State) : (modCmt f s).lin = s.lin := rfl
@[simp] theorem modCmt_lanes (f : Cmt → Cmt) (s : State) : (modCmt f s).lanes = s.lanes := rfl
@[simp] theorem modCmt_passes (f : Cmt → Cmt) (s : State) : (modCmt f s).passes = s.passes := rfl
@[simp] theorem modCmt_grecs (f : Cmt → Cmt) (s : State) : (modCmt f s).grecs = s.grecs := rfl
@[simp] theorem modCmt_streams (f : Cmt → Cmt) (s : State) : (modCmt f s).streams = s.streams := rfl
@[simp] theorem modCmt_queues (f : Cmt → Cmt) (s : State) : (modCmt f s).queues = s.queues := rfl
@[simp] theorem modCmt_rwdSt (f : Cmt → Cmt) (s : State) : (modCmt f s).rwdSt = s.rwdSt := rfl
@[simp] theorem modCmt_tunits (f : Cmt → Cmt) (s : State) : (modCmt f s).tunits = s.tunits := rfl
@[simp] theorem modCmt_plans (f : Cmt → Cmt) (s : State) : (modCmt f s).plans = s.plans := rfl
@[simp] theorem modCmt_gunits (f : Cmt → Cmt) (s : State) : (modCmt f s).gunits = s.gunits := rfl
@[simp] theorem modCmt_dups (f : Cmt → Cmt) (s : State) : (modCmt f s).dups = s.dups := rfl
@[simp] theorem modCmt_pubId (f : Cmt → Cmt) (s : State) : (modCmt f s).pubId = s.pubId := rfl
@[simp] theorem modCmt_arc (f : Cmt → Cmt) (s : State) : (modCmt f s).arc = s.arc := rfl
@[simp] theorem modCmt_dcmp (f : Cmt → Cmt) (s : State) : (modCmt f s).dcmp = s.dcmp := rfl
@[simp] theorem modCmt_mem (f : Cmt → Cmt) (s : State) : (modCmt f s).mem = s.mem := rfl
@[simp] theorem modCmt_rtePath (f : Cmt → Cmt) (s : State) : (modCmt f s).rtePath = s.rtePath := rfl
@[simp] theorem modCmt_twn (f : Cmt → Cmt) (s : State) : (modCmt f s).twn = s.twn := rfl
@[simp] theorem modCmt_bcn (f : Cmt → Cmt) (s : State) : (modCmt f s).bcn = s.bcn := rfl
@[simp] theorem modCmt_jtag (f : Cmt → Cmt) (s : State) : (modCmt f s).jtag = s.jtag := rfl
@[simp] theorem modCmt_hst (f : Cmt → Cmt) (s : State) : (modCmt f s).hst = s.hst := rfl
@[simp] theorem modCmt_tst (f : Cmt → Cmt) (s : State) : (modCmt f s).tst = s.tst := rfl
@[simp] theorem modCmt_flight (f : Cmt → Cmt) (s : State) : (modCmt f s).flight = s.flight := rfl
@[simp] theorem modCmt_compl (f : Cmt → Cmt) (s : State) : (modCmt f s).compl = s.compl := rfl
@[simp] theorem modCmt_pending (f : Cmt → Cmt) (s : State) : (modCmt f s).pending = s.pending := rfl

@[simp] theorem modPlan_c (p : Nat) (f : Plan → Plan) (s : State) : (modPlan p f s).c = s.c := rfl
@[simp] theorem modPlan_frame (p : Nat) (f : Plan → Plan) (s : State) : (modPlan p f s).frame = s.frame := rfl
@[simp] theorem modPlan_ord (p : Nat) (f : Plan → Plan) (s : State) : (modPlan p f s).ord = s.ord := rfl
@[simp] theorem modPlan_freeIdx (p : Nat) (f : Plan → Plan) (s : State) : (modPlan p f s).freeIdx = s.freeIdx := rfl
@[simp] theorem modPlan_regs (p : Nat) (f : Plan → Plan) (s : State) : (modPlan p f s).regs = s.regs := rfl
@[simp] theorem modPlan_staged (p : Nat) (f : Plan → Plan) (s : State) : (modPlan p f s).staged = s.staged := rfl
@[simp] theorem modPlan_dspPend (p : Nat) (f : Plan → Plan) (s : State) : (modPlan p f s).dspPend = s.dspPend := rfl
@[simp] theorem modPlan_dspQ (p : Nat) (f : Plan → Plan) (s : State) : (modPlan p f s).dspQ = s.dspQ := rfl
@[simp] theorem modPlan_hiLatch (p : Nat) (f : Plan → Plan) (s : State) : (modPlan p f s).hiLatch = s.hiLatch := rfl
@[simp] theorem modPlan_rd (p : Nat) (f : Plan → Plan) (s : State) : (modPlan p f s).rd = s.rd := rfl
@[simp] theorem modPlan_pwr (p : Nat) (f : Plan → Plan) (s : State) : (modPlan p f s).pwr = s.pwr := rfl
@[simp] theorem modPlan_dies (p : Nat) (f : Plan → Plan) (s : State) : (modPlan p f s).dies = s.dies := rfl
@[simp] theorem modPlan_hub (p : Nat) (f : Plan → Plan) (s : State) : (modPlan p f s).hub = s.hub := rfl
@[simp] theorem modPlan_dsp (p : Nat) (f : Plan → Plan) (s : State) : (modPlan p f s).dsp = s.dsp := rfl
@[simp] theorem modPlan_cmt (p : Nat) (f : Plan → Plan) (s : State) : (modPlan p f s).cmt = s.cmt := rfl
@[simp] theorem modPlan_evt (p : Nat) (f : Plan → Plan) (s : State) : (modPlan p f s).evt = s.evt := rfl
@[simp] theorem modPlan_chans (p : Nat) (f : Plan → Plan) (s : State) : (modPlan p f s).chans = s.chans := rfl
@[simp] theorem modPlan_taps (p : Nat) (f : Plan → Plan) (s : State) : (modPlan p f s).taps = s.taps := rfl
@[simp] theorem modPlan_lts (p : Nat) (f : Plan → Plan) (s : State) : (modPlan p f s).lts = s.lts := rfl
@[simp] theorem modPlan_ltWait (p : Nat) (f : Plan → Plan) (s : State) : (modPlan p f s).ltWait = s.ltWait := rfl
@[simp] theorem modPlan_ltRes (p : Nat) (f : Plan → Plan) (s : State) : (modPlan p f s).ltRes = s.ltRes := rfl
@[simp] theorem modPlan_ltTicks (p : Nat) (f : Plan → Plan) (s : State) : (modPlan p f s).ltTicks = s.ltTicks := rfl
@[simp] theorem modPlan_modStart (p : Nat) (f : Plan → Plan) (s : State) : (modPlan p f s).modStart = s.modStart := rfl
@[simp] theorem modPlan_startAt (p : Nat) (f : Plan → Plan) (s : State) : (modPlan p f s).startAt = s.startAt := rfl
@[simp] theorem modPlan_restart (p : Nat) (f : Plan → Plan) (s : State) : (modPlan p f s).restart = s.restart := rfl
@[simp] theorem modPlan_excs (p : Nat) (f : Plan → Plan) (s : State) : (modPlan p f s).excs = s.excs := rfl
@[simp] theorem modPlan_refs (p : Nat) (f : Plan → Plan) (s : State) : (modPlan p f s).refs = s.refs := rfl
@[simp] theorem modPlan_auxs (p : Nat) (f : Plan → Plan) (s : State) : (modPlan p f s).auxs = s.auxs := rfl
@[simp] theorem modPlan_slots (p : Nat) (f : Plan → Plan) (s : State) : (modPlan p f s).slots = s.slots := rfl
@[simp] theorem modPlan_coef (p : Nat) (f : Plan → Plan) (s : State) : (modPlan p f s).coef = s.coef := rfl
@[simp] theorem modPlan_cbanks (p : Nat) (f : Plan → Plan) (s : State) : (modPlan p f s).cbanks = s.cbanks := rfl
@[simp] theorem modPlan_profs (p : Nat) (f : Plan → Plan) (s : State) : (modPlan p f s).profs = s.profs := rfl
@[simp] theorem modPlan_sealing (p : Nat) (f : Plan → Plan) (s : State) : (modPlan p f s).sealing = s.sealing := rfl
@[simp] theorem modPlan_tmb (p : Nat) (f : Plan → Plan) (s : State) : (modPlan p f s).tmb = s.tmb := rfl
@[simp] theorem modPlan_seqAgree (p : Nat) (f : Plan → Plan) (s : State) : (modPlan p f s).seqAgree = s.seqAgree := rfl
@[simp] theorem modPlan_lin (p : Nat) (f : Plan → Plan) (s : State) : (modPlan p f s).lin = s.lin := rfl
@[simp] theorem modPlan_lanes (p : Nat) (f : Plan → Plan) (s : State) : (modPlan p f s).lanes = s.lanes := rfl
@[simp] theorem modPlan_passes (p : Nat) (f : Plan → Plan) (s : State) : (modPlan p f s).passes = s.passes := rfl
@[simp] theorem modPlan_grecs (p : Nat) (f : Plan → Plan) (s : State) : (modPlan p f s).grecs = s.grecs := rfl
@[simp] theorem modPlan_streams (p : Nat) (f : Plan → Plan) (s : State) : (modPlan p f s).streams = s.streams := rfl
@[simp] theorem modPlan_queues (p : Nat) (f : Plan → Plan) (s : State) : (modPlan p f s).queues = s.queues := rfl
@[simp] theorem modPlan_rwdSt (p : Nat) (f : Plan → Plan) (s : State) : (modPlan p f s).rwdSt = s.rwdSt := rfl
@[simp] theorem modPlan_tunits (p : Nat) (f : Plan → Plan) (s : State) : (modPlan p f s).tunits = s.tunits := rfl
@[simp] theorem modPlan_gunits (p : Nat) (f : Plan → Plan) (s : State) : (modPlan p f s).gunits = s.gunits := rfl
@[simp] theorem modPlan_dups (p : Nat) (f : Plan → Plan) (s : State) : (modPlan p f s).dups = s.dups := rfl
@[simp] theorem modPlan_pubId (p : Nat) (f : Plan → Plan) (s : State) : (modPlan p f s).pubId = s.pubId := rfl
@[simp] theorem modPlan_arc (p : Nat) (f : Plan → Plan) (s : State) : (modPlan p f s).arc = s.arc := rfl
@[simp] theorem modPlan_dcmp (p : Nat) (f : Plan → Plan) (s : State) : (modPlan p f s).dcmp = s.dcmp := rfl
@[simp] theorem modPlan_mem (p : Nat) (f : Plan → Plan) (s : State) : (modPlan p f s).mem = s.mem := rfl
@[simp] theorem modPlan_rtePath (p : Nat) (f : Plan → Plan) (s : State) : (modPlan p f s).rtePath = s.rtePath := rfl
@[simp] theorem modPlan_twn (p : Nat) (f : Plan → Plan) (s : State) : (modPlan p f s).twn = s.twn := rfl
@[simp] theorem modPlan_bcn (p : Nat) (f : Plan → Plan) (s : State) : (modPlan p f s).bcn = s.bcn := rfl
@[simp] theorem modPlan_jtag (p : Nat) (f : Plan → Plan) (s : State) : (modPlan p f s).jtag = s.jtag := rfl
@[simp] theorem modPlan_hst (p : Nat) (f : Plan → Plan) (s : State) : (modPlan p f s).hst = s.hst := rfl
@[simp] theorem modPlan_tst (p : Nat) (f : Plan → Plan) (s : State) : (modPlan p f s).tst = s.tst := rfl
@[simp] theorem modPlan_flight (p : Nat) (f : Plan → Plan) (s : State) : (modPlan p f s).flight = s.flight := rfl
@[simp] theorem modPlan_compl (p : Nat) (f : Plan → Plan) (s : State) : (modPlan p f s).compl = s.compl := rfl
@[simp] theorem modPlan_pending (p : Nat) (f : Plan → Plan) (s : State) : (modPlan p f s).pending = s.pending := rfl

@[simp] theorem modTwn_c (f : Twn → Twn) (s : State) : (modTwn f s).c = s.c := rfl
@[simp] theorem modTwn_frame (f : Twn → Twn) (s : State) : (modTwn f s).frame = s.frame := rfl
@[simp] theorem modTwn_ord (f : Twn → Twn) (s : State) : (modTwn f s).ord = s.ord := rfl
@[simp] theorem modTwn_freeIdx (f : Twn → Twn) (s : State) : (modTwn f s).freeIdx = s.freeIdx := rfl
@[simp] theorem modTwn_regs (f : Twn → Twn) (s : State) : (modTwn f s).regs = s.regs := rfl
@[simp] theorem modTwn_staged (f : Twn → Twn) (s : State) : (modTwn f s).staged = s.staged := rfl
@[simp] theorem modTwn_dspPend (f : Twn → Twn) (s : State) : (modTwn f s).dspPend = s.dspPend := rfl
@[simp] theorem modTwn_dspQ (f : Twn → Twn) (s : State) : (modTwn f s).dspQ = s.dspQ := rfl
@[simp] theorem modTwn_hiLatch (f : Twn → Twn) (s : State) : (modTwn f s).hiLatch = s.hiLatch := rfl
@[simp] theorem modTwn_rd (f : Twn → Twn) (s : State) : (modTwn f s).rd = s.rd := rfl
@[simp] theorem modTwn_pwr (f : Twn → Twn) (s : State) : (modTwn f s).pwr = s.pwr := rfl
@[simp] theorem modTwn_dies (f : Twn → Twn) (s : State) : (modTwn f s).dies = s.dies := rfl
@[simp] theorem modTwn_hub (f : Twn → Twn) (s : State) : (modTwn f s).hub = s.hub := rfl
@[simp] theorem modTwn_dsp (f : Twn → Twn) (s : State) : (modTwn f s).dsp = s.dsp := rfl
@[simp] theorem modTwn_cmt (f : Twn → Twn) (s : State) : (modTwn f s).cmt = s.cmt := rfl
@[simp] theorem modTwn_evt (f : Twn → Twn) (s : State) : (modTwn f s).evt = s.evt := rfl
@[simp] theorem modTwn_chans (f : Twn → Twn) (s : State) : (modTwn f s).chans = s.chans := rfl
@[simp] theorem modTwn_taps (f : Twn → Twn) (s : State) : (modTwn f s).taps = s.taps := rfl
@[simp] theorem modTwn_lts (f : Twn → Twn) (s : State) : (modTwn f s).lts = s.lts := rfl
@[simp] theorem modTwn_ltWait (f : Twn → Twn) (s : State) : (modTwn f s).ltWait = s.ltWait := rfl
@[simp] theorem modTwn_ltRes (f : Twn → Twn) (s : State) : (modTwn f s).ltRes = s.ltRes := rfl
@[simp] theorem modTwn_ltTicks (f : Twn → Twn) (s : State) : (modTwn f s).ltTicks = s.ltTicks := rfl
@[simp] theorem modTwn_modStart (f : Twn → Twn) (s : State) : (modTwn f s).modStart = s.modStart := rfl
@[simp] theorem modTwn_startAt (f : Twn → Twn) (s : State) : (modTwn f s).startAt = s.startAt := rfl
@[simp] theorem modTwn_restart (f : Twn → Twn) (s : State) : (modTwn f s).restart = s.restart := rfl
@[simp] theorem modTwn_excs (f : Twn → Twn) (s : State) : (modTwn f s).excs = s.excs := rfl
@[simp] theorem modTwn_refs (f : Twn → Twn) (s : State) : (modTwn f s).refs = s.refs := rfl
@[simp] theorem modTwn_auxs (f : Twn → Twn) (s : State) : (modTwn f s).auxs = s.auxs := rfl
@[simp] theorem modTwn_slots (f : Twn → Twn) (s : State) : (modTwn f s).slots = s.slots := rfl
@[simp] theorem modTwn_coef (f : Twn → Twn) (s : State) : (modTwn f s).coef = s.coef := rfl
@[simp] theorem modTwn_cbanks (f : Twn → Twn) (s : State) : (modTwn f s).cbanks = s.cbanks := rfl
@[simp] theorem modTwn_profs (f : Twn → Twn) (s : State) : (modTwn f s).profs = s.profs := rfl
@[simp] theorem modTwn_sealing (f : Twn → Twn) (s : State) : (modTwn f s).sealing = s.sealing := rfl
@[simp] theorem modTwn_tmb (f : Twn → Twn) (s : State) : (modTwn f s).tmb = s.tmb := rfl
@[simp] theorem modTwn_seqAgree (f : Twn → Twn) (s : State) : (modTwn f s).seqAgree = s.seqAgree := rfl
@[simp] theorem modTwn_lin (f : Twn → Twn) (s : State) : (modTwn f s).lin = s.lin := rfl
@[simp] theorem modTwn_lanes (f : Twn → Twn) (s : State) : (modTwn f s).lanes = s.lanes := rfl
@[simp] theorem modTwn_passes (f : Twn → Twn) (s : State) : (modTwn f s).passes = s.passes := rfl
@[simp] theorem modTwn_grecs (f : Twn → Twn) (s : State) : (modTwn f s).grecs = s.grecs := rfl
@[simp] theorem modTwn_streams (f : Twn → Twn) (s : State) : (modTwn f s).streams = s.streams := rfl
@[simp] theorem modTwn_queues (f : Twn → Twn) (s : State) : (modTwn f s).queues = s.queues := rfl
@[simp] theorem modTwn_rwdSt (f : Twn → Twn) (s : State) : (modTwn f s).rwdSt = s.rwdSt := rfl
@[simp] theorem modTwn_tunits (f : Twn → Twn) (s : State) : (modTwn f s).tunits = s.tunits := rfl
@[simp] theorem modTwn_plans (f : Twn → Twn) (s : State) : (modTwn f s).plans = s.plans := rfl
@[simp] theorem modTwn_gunits (f : Twn → Twn) (s : State) : (modTwn f s).gunits = s.gunits := rfl
@[simp] theorem modTwn_dups (f : Twn → Twn) (s : State) : (modTwn f s).dups = s.dups := rfl
@[simp] theorem modTwn_pubId (f : Twn → Twn) (s : State) : (modTwn f s).pubId = s.pubId := rfl
@[simp] theorem modTwn_arc (f : Twn → Twn) (s : State) : (modTwn f s).arc = s.arc := rfl
@[simp] theorem modTwn_dcmp (f : Twn → Twn) (s : State) : (modTwn f s).dcmp = s.dcmp := rfl
@[simp] theorem modTwn_mem (f : Twn → Twn) (s : State) : (modTwn f s).mem = s.mem := rfl
@[simp] theorem modTwn_rtePath (f : Twn → Twn) (s : State) : (modTwn f s).rtePath = s.rtePath := rfl
@[simp] theorem modTwn_bcn (f : Twn → Twn) (s : State) : (modTwn f s).bcn = s.bcn := rfl
@[simp] theorem modTwn_jtag (f : Twn → Twn) (s : State) : (modTwn f s).jtag = s.jtag := rfl
@[simp] theorem modTwn_hst (f : Twn → Twn) (s : State) : (modTwn f s).hst = s.hst := rfl
@[simp] theorem modTwn_tst (f : Twn → Twn) (s : State) : (modTwn f s).tst = s.tst := rfl
@[simp] theorem modTwn_flight (f : Twn → Twn) (s : State) : (modTwn f s).flight = s.flight := rfl
@[simp] theorem modTwn_compl (f : Twn → Twn) (s : State) : (modTwn f s).compl = s.compl := rfl
@[simp] theorem modTwn_pending (f : Twn → Twn) (s : State) : (modTwn f s).pending = s.pending := rfl

@[simp] theorem setArc_c (e : Eng) (s : State) : (setArc e s).c = s.c := rfl
@[simp] theorem setArc_frame (e : Eng) (s : State) : (setArc e s).frame = s.frame := rfl
@[simp] theorem setArc_ord (e : Eng) (s : State) : (setArc e s).ord = s.ord := rfl
@[simp] theorem setArc_freeIdx (e : Eng) (s : State) : (setArc e s).freeIdx = s.freeIdx := rfl
@[simp] theorem setArc_regs (e : Eng) (s : State) : (setArc e s).regs = s.regs := rfl
@[simp] theorem setArc_staged (e : Eng) (s : State) : (setArc e s).staged = s.staged := rfl
@[simp] theorem setArc_dspPend (e : Eng) (s : State) : (setArc e s).dspPend = s.dspPend := rfl
@[simp] theorem setArc_dspQ (e : Eng) (s : State) : (setArc e s).dspQ = s.dspQ := rfl
@[simp] theorem setArc_hiLatch (e : Eng) (s : State) : (setArc e s).hiLatch = s.hiLatch := rfl
@[simp] theorem setArc_rd (e : Eng) (s : State) : (setArc e s).rd = s.rd := rfl
@[simp] theorem setArc_pwr (e : Eng) (s : State) : (setArc e s).pwr = s.pwr := rfl
@[simp] theorem setArc_dies (e : Eng) (s : State) : (setArc e s).dies = s.dies := rfl
@[simp] theorem setArc_hub (e : Eng) (s : State) : (setArc e s).hub = s.hub := rfl
@[simp] theorem setArc_dsp (e : Eng) (s : State) : (setArc e s).dsp = s.dsp := rfl
@[simp] theorem setArc_cmt (e : Eng) (s : State) : (setArc e s).cmt = s.cmt := rfl
@[simp] theorem setArc_evt (e : Eng) (s : State) : (setArc e s).evt = s.evt := rfl
@[simp] theorem setArc_chans (e : Eng) (s : State) : (setArc e s).chans = s.chans := rfl
@[simp] theorem setArc_taps (e : Eng) (s : State) : (setArc e s).taps = s.taps := rfl
@[simp] theorem setArc_lts (e : Eng) (s : State) : (setArc e s).lts = s.lts := rfl
@[simp] theorem setArc_ltWait (e : Eng) (s : State) : (setArc e s).ltWait = s.ltWait := rfl
@[simp] theorem setArc_ltRes (e : Eng) (s : State) : (setArc e s).ltRes = s.ltRes := rfl
@[simp] theorem setArc_ltTicks (e : Eng) (s : State) : (setArc e s).ltTicks = s.ltTicks := rfl
@[simp] theorem setArc_modStart (e : Eng) (s : State) : (setArc e s).modStart = s.modStart := rfl
@[simp] theorem setArc_startAt (e : Eng) (s : State) : (setArc e s).startAt = s.startAt := rfl
@[simp] theorem setArc_restart (e : Eng) (s : State) : (setArc e s).restart = s.restart := rfl
@[simp] theorem setArc_excs (e : Eng) (s : State) : (setArc e s).excs = s.excs := rfl
@[simp] theorem setArc_refs (e : Eng) (s : State) : (setArc e s).refs = s.refs := rfl
@[simp] theorem setArc_auxs (e : Eng) (s : State) : (setArc e s).auxs = s.auxs := rfl
@[simp] theorem setArc_slots (e : Eng) (s : State) : (setArc e s).slots = s.slots := rfl
@[simp] theorem setArc_coef (e : Eng) (s : State) : (setArc e s).coef = s.coef := rfl
@[simp] theorem setArc_cbanks (e : Eng) (s : State) : (setArc e s).cbanks = s.cbanks := rfl
@[simp] theorem setArc_profs (e : Eng) (s : State) : (setArc e s).profs = s.profs := rfl
@[simp] theorem setArc_sealing (e : Eng) (s : State) : (setArc e s).sealing = s.sealing := rfl
@[simp] theorem setArc_tmb (e : Eng) (s : State) : (setArc e s).tmb = s.tmb := rfl
@[simp] theorem setArc_seqAgree (e : Eng) (s : State) : (setArc e s).seqAgree = s.seqAgree := rfl
@[simp] theorem setArc_lin (e : Eng) (s : State) : (setArc e s).lin = s.lin := rfl
@[simp] theorem setArc_lanes (e : Eng) (s : State) : (setArc e s).lanes = s.lanes := rfl
@[simp] theorem setArc_passes (e : Eng) (s : State) : (setArc e s).passes = s.passes := rfl
@[simp] theorem setArc_grecs (e : Eng) (s : State) : (setArc e s).grecs = s.grecs := rfl
@[simp] theorem setArc_streams (e : Eng) (s : State) : (setArc e s).streams = s.streams := rfl
@[simp] theorem setArc_queues (e : Eng) (s : State) : (setArc e s).queues = s.queues := rfl
@[simp] theorem setArc_rwdSt (e : Eng) (s : State) : (setArc e s).rwdSt = s.rwdSt := rfl
@[simp] theorem setArc_tunits (e : Eng) (s : State) : (setArc e s).tunits = s.tunits := rfl
@[simp] theorem setArc_plans (e : Eng) (s : State) : (setArc e s).plans = s.plans := rfl
@[simp] theorem setArc_gunits (e : Eng) (s : State) : (setArc e s).gunits = s.gunits := rfl
@[simp] theorem setArc_dups (e : Eng) (s : State) : (setArc e s).dups = s.dups := rfl
@[simp] theorem setArc_pubId (e : Eng) (s : State) : (setArc e s).pubId = s.pubId := rfl
@[simp] theorem setArc_dcmp (e : Eng) (s : State) : (setArc e s).dcmp = s.dcmp := rfl
@[simp] theorem setArc_mem (e : Eng) (s : State) : (setArc e s).mem = s.mem := rfl
@[simp] theorem setArc_rtePath (e : Eng) (s : State) : (setArc e s).rtePath = s.rtePath := rfl
@[simp] theorem setArc_twn (e : Eng) (s : State) : (setArc e s).twn = s.twn := rfl
@[simp] theorem setArc_bcn (e : Eng) (s : State) : (setArc e s).bcn = s.bcn := rfl
@[simp] theorem setArc_jtag (e : Eng) (s : State) : (setArc e s).jtag = s.jtag := rfl
@[simp] theorem setArc_hst (e : Eng) (s : State) : (setArc e s).hst = s.hst := rfl
@[simp] theorem setArc_tst (e : Eng) (s : State) : (setArc e s).tst = s.tst := rfl
@[simp] theorem setArc_flight (e : Eng) (s : State) : (setArc e s).flight = s.flight := rfl
@[simp] theorem setArc_compl (e : Eng) (s : State) : (setArc e s).compl = s.compl := rfl
@[simp] theorem setArc_pending (e : Eng) (s : State) : (setArc e s).pending = s.pending := rfl

@[simp] theorem setDcmp_c (e : Eng) (s : State) : (setDcmp e s).c = s.c := rfl
@[simp] theorem setDcmp_frame (e : Eng) (s : State) : (setDcmp e s).frame = s.frame := rfl
@[simp] theorem setDcmp_ord (e : Eng) (s : State) : (setDcmp e s).ord = s.ord := rfl
@[simp] theorem setDcmp_freeIdx (e : Eng) (s : State) : (setDcmp e s).freeIdx = s.freeIdx := rfl
@[simp] theorem setDcmp_regs (e : Eng) (s : State) : (setDcmp e s).regs = s.regs := rfl
@[simp] theorem setDcmp_staged (e : Eng) (s : State) : (setDcmp e s).staged = s.staged := rfl
@[simp] theorem setDcmp_dspPend (e : Eng) (s : State) : (setDcmp e s).dspPend = s.dspPend := rfl
@[simp] theorem setDcmp_dspQ (e : Eng) (s : State) : (setDcmp e s).dspQ = s.dspQ := rfl
@[simp] theorem setDcmp_hiLatch (e : Eng) (s : State) : (setDcmp e s).hiLatch = s.hiLatch := rfl
@[simp] theorem setDcmp_rd (e : Eng) (s : State) : (setDcmp e s).rd = s.rd := rfl
@[simp] theorem setDcmp_pwr (e : Eng) (s : State) : (setDcmp e s).pwr = s.pwr := rfl
@[simp] theorem setDcmp_dies (e : Eng) (s : State) : (setDcmp e s).dies = s.dies := rfl
@[simp] theorem setDcmp_hub (e : Eng) (s : State) : (setDcmp e s).hub = s.hub := rfl
@[simp] theorem setDcmp_dsp (e : Eng) (s : State) : (setDcmp e s).dsp = s.dsp := rfl
@[simp] theorem setDcmp_cmt (e : Eng) (s : State) : (setDcmp e s).cmt = s.cmt := rfl
@[simp] theorem setDcmp_evt (e : Eng) (s : State) : (setDcmp e s).evt = s.evt := rfl
@[simp] theorem setDcmp_chans (e : Eng) (s : State) : (setDcmp e s).chans = s.chans := rfl
@[simp] theorem setDcmp_taps (e : Eng) (s : State) : (setDcmp e s).taps = s.taps := rfl
@[simp] theorem setDcmp_lts (e : Eng) (s : State) : (setDcmp e s).lts = s.lts := rfl
@[simp] theorem setDcmp_ltWait (e : Eng) (s : State) : (setDcmp e s).ltWait = s.ltWait := rfl
@[simp] theorem setDcmp_ltRes (e : Eng) (s : State) : (setDcmp e s).ltRes = s.ltRes := rfl
@[simp] theorem setDcmp_ltTicks (e : Eng) (s : State) : (setDcmp e s).ltTicks = s.ltTicks := rfl
@[simp] theorem setDcmp_modStart (e : Eng) (s : State) : (setDcmp e s).modStart = s.modStart := rfl
@[simp] theorem setDcmp_startAt (e : Eng) (s : State) : (setDcmp e s).startAt = s.startAt := rfl
@[simp] theorem setDcmp_restart (e : Eng) (s : State) : (setDcmp e s).restart = s.restart := rfl
@[simp] theorem setDcmp_excs (e : Eng) (s : State) : (setDcmp e s).excs = s.excs := rfl
@[simp] theorem setDcmp_refs (e : Eng) (s : State) : (setDcmp e s).refs = s.refs := rfl
@[simp] theorem setDcmp_auxs (e : Eng) (s : State) : (setDcmp e s).auxs = s.auxs := rfl
@[simp] theorem setDcmp_slots (e : Eng) (s : State) : (setDcmp e s).slots = s.slots := rfl
@[simp] theorem setDcmp_coef (e : Eng) (s : State) : (setDcmp e s).coef = s.coef := rfl
@[simp] theorem setDcmp_cbanks (e : Eng) (s : State) : (setDcmp e s).cbanks = s.cbanks := rfl
@[simp] theorem setDcmp_profs (e : Eng) (s : State) : (setDcmp e s).profs = s.profs := rfl
@[simp] theorem setDcmp_sealing (e : Eng) (s : State) : (setDcmp e s).sealing = s.sealing := rfl
@[simp] theorem setDcmp_tmb (e : Eng) (s : State) : (setDcmp e s).tmb = s.tmb := rfl
@[simp] theorem setDcmp_seqAgree (e : Eng) (s : State) : (setDcmp e s).seqAgree = s.seqAgree := rfl
@[simp] theorem setDcmp_lin (e : Eng) (s : State) : (setDcmp e s).lin = s.lin := rfl
@[simp] theorem setDcmp_lanes (e : Eng) (s : State) : (setDcmp e s).lanes = s.lanes := rfl
@[simp] theorem setDcmp_passes (e : Eng) (s : State) : (setDcmp e s).passes = s.passes := rfl
@[simp] theorem setDcmp_grecs (e : Eng) (s : State) : (setDcmp e s).grecs = s.grecs := rfl
@[simp] theorem setDcmp_streams (e : Eng) (s : State) : (setDcmp e s).streams = s.streams := rfl
@[simp] theorem setDcmp_queues (e : Eng) (s : State) : (setDcmp e s).queues = s.queues := rfl
@[simp] theorem setDcmp_rwdSt (e : Eng) (s : State) : (setDcmp e s).rwdSt = s.rwdSt := rfl
@[simp] theorem setDcmp_tunits (e : Eng) (s : State) : (setDcmp e s).tunits = s.tunits := rfl
@[simp] theorem setDcmp_plans (e : Eng) (s : State) : (setDcmp e s).plans = s.plans := rfl
@[simp] theorem setDcmp_gunits (e : Eng) (s : State) : (setDcmp e s).gunits = s.gunits := rfl
@[simp] theorem setDcmp_dups (e : Eng) (s : State) : (setDcmp e s).dups = s.dups := rfl
@[simp] theorem setDcmp_pubId (e : Eng) (s : State) : (setDcmp e s).pubId = s.pubId := rfl
@[simp] theorem setDcmp_arc (e : Eng) (s : State) : (setDcmp e s).arc = s.arc := rfl
@[simp] theorem setDcmp_mem (e : Eng) (s : State) : (setDcmp e s).mem = s.mem := rfl
@[simp] theorem setDcmp_rtePath (e : Eng) (s : State) : (setDcmp e s).rtePath = s.rtePath := rfl
@[simp] theorem setDcmp_twn (e : Eng) (s : State) : (setDcmp e s).twn = s.twn := rfl
@[simp] theorem setDcmp_bcn (e : Eng) (s : State) : (setDcmp e s).bcn = s.bcn := rfl
@[simp] theorem setDcmp_jtag (e : Eng) (s : State) : (setDcmp e s).jtag = s.jtag := rfl
@[simp] theorem setDcmp_hst (e : Eng) (s : State) : (setDcmp e s).hst = s.hst := rfl
@[simp] theorem setDcmp_tst (e : Eng) (s : State) : (setDcmp e s).tst = s.tst := rfl
@[simp] theorem setDcmp_flight (e : Eng) (s : State) : (setDcmp e s).flight = s.flight := rfl
@[simp] theorem setDcmp_compl (e : Eng) (s : State) : (setDcmp e s).compl = s.compl := rfl
@[simp] theorem setDcmp_pending (e : Eng) (s : State) : (setDcmp e s).pending = s.pending := rfl

@[simp] theorem modStrm_c (i : Nat) (f : Stream → Stream) (s : State) : (modStrm i f s).c = s.c := rfl
@[simp] theorem modStrm_frame (i : Nat) (f : Stream → Stream) (s : State) : (modStrm i f s).frame = s.frame := rfl
@[simp] theorem modStrm_ord (i : Nat) (f : Stream → Stream) (s : State) : (modStrm i f s).ord = s.ord := rfl
@[simp] theorem modStrm_freeIdx (i : Nat) (f : Stream → Stream) (s : State) : (modStrm i f s).freeIdx = s.freeIdx := rfl
@[simp] theorem modStrm_regs (i : Nat) (f : Stream → Stream) (s : State) : (modStrm i f s).regs = s.regs := rfl
@[simp] theorem modStrm_staged (i : Nat) (f : Stream → Stream) (s : State) : (modStrm i f s).staged = s.staged := rfl
@[simp] theorem modStrm_dspPend (i : Nat) (f : Stream → Stream) (s : State) : (modStrm i f s).dspPend = s.dspPend := rfl
@[simp] theorem modStrm_dspQ (i : Nat) (f : Stream → Stream) (s : State) : (modStrm i f s).dspQ = s.dspQ := rfl
@[simp] theorem modStrm_hiLatch (i : Nat) (f : Stream → Stream) (s : State) : (modStrm i f s).hiLatch = s.hiLatch := rfl
@[simp] theorem modStrm_rd (i : Nat) (f : Stream → Stream) (s : State) : (modStrm i f s).rd = s.rd := rfl
@[simp] theorem modStrm_pwr (i : Nat) (f : Stream → Stream) (s : State) : (modStrm i f s).pwr = s.pwr := rfl
@[simp] theorem modStrm_dies (i : Nat) (f : Stream → Stream) (s : State) : (modStrm i f s).dies = s.dies := rfl
@[simp] theorem modStrm_hub (i : Nat) (f : Stream → Stream) (s : State) : (modStrm i f s).hub = s.hub := rfl
@[simp] theorem modStrm_dsp (i : Nat) (f : Stream → Stream) (s : State) : (modStrm i f s).dsp = s.dsp := rfl
@[simp] theorem modStrm_cmt (i : Nat) (f : Stream → Stream) (s : State) : (modStrm i f s).cmt = s.cmt := rfl
@[simp] theorem modStrm_evt (i : Nat) (f : Stream → Stream) (s : State) : (modStrm i f s).evt = s.evt := rfl
@[simp] theorem modStrm_chans (i : Nat) (f : Stream → Stream) (s : State) : (modStrm i f s).chans = s.chans := rfl
@[simp] theorem modStrm_taps (i : Nat) (f : Stream → Stream) (s : State) : (modStrm i f s).taps = s.taps := rfl
@[simp] theorem modStrm_lts (i : Nat) (f : Stream → Stream) (s : State) : (modStrm i f s).lts = s.lts := rfl
@[simp] theorem modStrm_ltWait (i : Nat) (f : Stream → Stream) (s : State) : (modStrm i f s).ltWait = s.ltWait := rfl
@[simp] theorem modStrm_ltRes (i : Nat) (f : Stream → Stream) (s : State) : (modStrm i f s).ltRes = s.ltRes := rfl
@[simp] theorem modStrm_ltTicks (i : Nat) (f : Stream → Stream) (s : State) : (modStrm i f s).ltTicks = s.ltTicks := rfl
@[simp] theorem modStrm_modStart (i : Nat) (f : Stream → Stream) (s : State) : (modStrm i f s).modStart = s.modStart := rfl
@[simp] theorem modStrm_startAt (i : Nat) (f : Stream → Stream) (s : State) : (modStrm i f s).startAt = s.startAt := rfl
@[simp] theorem modStrm_restart (i : Nat) (f : Stream → Stream) (s : State) : (modStrm i f s).restart = s.restart := rfl
@[simp] theorem modStrm_excs (i : Nat) (f : Stream → Stream) (s : State) : (modStrm i f s).excs = s.excs := rfl
@[simp] theorem modStrm_refs (i : Nat) (f : Stream → Stream) (s : State) : (modStrm i f s).refs = s.refs := rfl
@[simp] theorem modStrm_auxs (i : Nat) (f : Stream → Stream) (s : State) : (modStrm i f s).auxs = s.auxs := rfl
@[simp] theorem modStrm_slots (i : Nat) (f : Stream → Stream) (s : State) : (modStrm i f s).slots = s.slots := rfl
@[simp] theorem modStrm_coef (i : Nat) (f : Stream → Stream) (s : State) : (modStrm i f s).coef = s.coef := rfl
@[simp] theorem modStrm_cbanks (i : Nat) (f : Stream → Stream) (s : State) : (modStrm i f s).cbanks = s.cbanks := rfl
@[simp] theorem modStrm_profs (i : Nat) (f : Stream → Stream) (s : State) : (modStrm i f s).profs = s.profs := rfl
@[simp] theorem modStrm_sealing (i : Nat) (f : Stream → Stream) (s : State) : (modStrm i f s).sealing = s.sealing := rfl
@[simp] theorem modStrm_tmb (i : Nat) (f : Stream → Stream) (s : State) : (modStrm i f s).tmb = s.tmb := rfl
@[simp] theorem modStrm_seqAgree (i : Nat) (f : Stream → Stream) (s : State) : (modStrm i f s).seqAgree = s.seqAgree := rfl
@[simp] theorem modStrm_lin (i : Nat) (f : Stream → Stream) (s : State) : (modStrm i f s).lin = s.lin := rfl
@[simp] theorem modStrm_lanes (i : Nat) (f : Stream → Stream) (s : State) : (modStrm i f s).lanes = s.lanes := rfl
@[simp] theorem modStrm_passes (i : Nat) (f : Stream → Stream) (s : State) : (modStrm i f s).passes = s.passes := rfl
@[simp] theorem modStrm_grecs (i : Nat) (f : Stream → Stream) (s : State) : (modStrm i f s).grecs = s.grecs := rfl
@[simp] theorem modStrm_queues (i : Nat) (f : Stream → Stream) (s : State) : (modStrm i f s).queues = s.queues := rfl
@[simp] theorem modStrm_rwdSt (i : Nat) (f : Stream → Stream) (s : State) : (modStrm i f s).rwdSt = s.rwdSt := rfl
@[simp] theorem modStrm_tunits (i : Nat) (f : Stream → Stream) (s : State) : (modStrm i f s).tunits = s.tunits := rfl
@[simp] theorem modStrm_plans (i : Nat) (f : Stream → Stream) (s : State) : (modStrm i f s).plans = s.plans := rfl
@[simp] theorem modStrm_gunits (i : Nat) (f : Stream → Stream) (s : State) : (modStrm i f s).gunits = s.gunits := rfl
@[simp] theorem modStrm_dups (i : Nat) (f : Stream → Stream) (s : State) : (modStrm i f s).dups = s.dups := rfl
@[simp] theorem modStrm_pubId (i : Nat) (f : Stream → Stream) (s : State) : (modStrm i f s).pubId = s.pubId := rfl
@[simp] theorem modStrm_arc (i : Nat) (f : Stream → Stream) (s : State) : (modStrm i f s).arc = s.arc := rfl
@[simp] theorem modStrm_dcmp (i : Nat) (f : Stream → Stream) (s : State) : (modStrm i f s).dcmp = s.dcmp := rfl
@[simp] theorem modStrm_mem (i : Nat) (f : Stream → Stream) (s : State) : (modStrm i f s).mem = s.mem := rfl
@[simp] theorem modStrm_rtePath (i : Nat) (f : Stream → Stream) (s : State) : (modStrm i f s).rtePath = s.rtePath := rfl
@[simp] theorem modStrm_twn (i : Nat) (f : Stream → Stream) (s : State) : (modStrm i f s).twn = s.twn := rfl
@[simp] theorem modStrm_bcn (i : Nat) (f : Stream → Stream) (s : State) : (modStrm i f s).bcn = s.bcn := rfl
@[simp] theorem modStrm_jtag (i : Nat) (f : Stream → Stream) (s : State) : (modStrm i f s).jtag = s.jtag := rfl
@[simp] theorem modStrm_hst (i : Nat) (f : Stream → Stream) (s : State) : (modStrm i f s).hst = s.hst := rfl
@[simp] theorem modStrm_tst (i : Nat) (f : Stream → Stream) (s : State) : (modStrm i f s).tst = s.tst := rfl
@[simp] theorem modStrm_flight (i : Nat) (f : Stream → Stream) (s : State) : (modStrm i f s).flight = s.flight := rfl
@[simp] theorem modStrm_compl (i : Nat) (f : Stream → Stream) (s : State) : (modStrm i f s).compl = s.compl := rfl
@[simp] theorem modStrm_pending (i : Nat) (f : Stream → Stream) (s : State) : (modStrm i f s).pending = s.pending := rfl

@[simp] theorem modSlot_c (i : Nat) (f : Slot → Slot) (s : State) : (modSlot i f s).c = s.c := rfl
@[simp] theorem modSlot_frame (i : Nat) (f : Slot → Slot) (s : State) : (modSlot i f s).frame = s.frame := rfl
@[simp] theorem modSlot_ord (i : Nat) (f : Slot → Slot) (s : State) : (modSlot i f s).ord = s.ord := rfl
@[simp] theorem modSlot_freeIdx (i : Nat) (f : Slot → Slot) (s : State) : (modSlot i f s).freeIdx = s.freeIdx := rfl
@[simp] theorem modSlot_regs (i : Nat) (f : Slot → Slot) (s : State) : (modSlot i f s).regs = s.regs := rfl
@[simp] theorem modSlot_staged (i : Nat) (f : Slot → Slot) (s : State) : (modSlot i f s).staged = s.staged := rfl
@[simp] theorem modSlot_dspPend (i : Nat) (f : Slot → Slot) (s : State) : (modSlot i f s).dspPend = s.dspPend := rfl
@[simp] theorem modSlot_dspQ (i : Nat) (f : Slot → Slot) (s : State) : (modSlot i f s).dspQ = s.dspQ := rfl
@[simp] theorem modSlot_hiLatch (i : Nat) (f : Slot → Slot) (s : State) : (modSlot i f s).hiLatch = s.hiLatch := rfl
@[simp] theorem modSlot_rd (i : Nat) (f : Slot → Slot) (s : State) : (modSlot i f s).rd = s.rd := rfl
@[simp] theorem modSlot_pwr (i : Nat) (f : Slot → Slot) (s : State) : (modSlot i f s).pwr = s.pwr := rfl
@[simp] theorem modSlot_dies (i : Nat) (f : Slot → Slot) (s : State) : (modSlot i f s).dies = s.dies := rfl
@[simp] theorem modSlot_hub (i : Nat) (f : Slot → Slot) (s : State) : (modSlot i f s).hub = s.hub := rfl
@[simp] theorem modSlot_dsp (i : Nat) (f : Slot → Slot) (s : State) : (modSlot i f s).dsp = s.dsp := rfl
@[simp] theorem modSlot_cmt (i : Nat) (f : Slot → Slot) (s : State) : (modSlot i f s).cmt = s.cmt := rfl
@[simp] theorem modSlot_evt (i : Nat) (f : Slot → Slot) (s : State) : (modSlot i f s).evt = s.evt := rfl
@[simp] theorem modSlot_chans (i : Nat) (f : Slot → Slot) (s : State) : (modSlot i f s).chans = s.chans := rfl
@[simp] theorem modSlot_taps (i : Nat) (f : Slot → Slot) (s : State) : (modSlot i f s).taps = s.taps := rfl
@[simp] theorem modSlot_lts (i : Nat) (f : Slot → Slot) (s : State) : (modSlot i f s).lts = s.lts := rfl
@[simp] theorem modSlot_ltWait (i : Nat) (f : Slot → Slot) (s : State) : (modSlot i f s).ltWait = s.ltWait := rfl
@[simp] theorem modSlot_ltRes (i : Nat) (f : Slot → Slot) (s : State) : (modSlot i f s).ltRes = s.ltRes := rfl
@[simp] theorem modSlot_ltTicks (i : Nat) (f : Slot → Slot) (s : State) : (modSlot i f s).ltTicks = s.ltTicks := rfl
@[simp] theorem modSlot_modStart (i : Nat) (f : Slot → Slot) (s : State) : (modSlot i f s).modStart = s.modStart := rfl
@[simp] theorem modSlot_startAt (i : Nat) (f : Slot → Slot) (s : State) : (modSlot i f s).startAt = s.startAt := rfl
@[simp] theorem modSlot_restart (i : Nat) (f : Slot → Slot) (s : State) : (modSlot i f s).restart = s.restart := rfl
@[simp] theorem modSlot_excs (i : Nat) (f : Slot → Slot) (s : State) : (modSlot i f s).excs = s.excs := rfl
@[simp] theorem modSlot_refs (i : Nat) (f : Slot → Slot) (s : State) : (modSlot i f s).refs = s.refs := rfl
@[simp] theorem modSlot_auxs (i : Nat) (f : Slot → Slot) (s : State) : (modSlot i f s).auxs = s.auxs := rfl
@[simp] theorem modSlot_coef (i : Nat) (f : Slot → Slot) (s : State) : (modSlot i f s).coef = s.coef := rfl
@[simp] theorem modSlot_cbanks (i : Nat) (f : Slot → Slot) (s : State) : (modSlot i f s).cbanks = s.cbanks := rfl
@[simp] theorem modSlot_profs (i : Nat) (f : Slot → Slot) (s : State) : (modSlot i f s).profs = s.profs := rfl
@[simp] theorem modSlot_sealing (i : Nat) (f : Slot → Slot) (s : State) : (modSlot i f s).sealing = s.sealing := rfl
@[simp] theorem modSlot_tmb (i : Nat) (f : Slot → Slot) (s : State) : (modSlot i f s).tmb = s.tmb := rfl
@[simp] theorem modSlot_seqAgree (i : Nat) (f : Slot → Slot) (s : State) : (modSlot i f s).seqAgree = s.seqAgree := rfl
@[simp] theorem modSlot_lin (i : Nat) (f : Slot → Slot) (s : State) : (modSlot i f s).lin = s.lin := rfl
@[simp] theorem modSlot_lanes (i : Nat) (f : Slot → Slot) (s : State) : (modSlot i f s).lanes = s.lanes := rfl
@[simp] theorem modSlot_passes (i : Nat) (f : Slot → Slot) (s : State) : (modSlot i f s).passes = s.passes := rfl
@[simp] theorem modSlot_grecs (i : Nat) (f : Slot → Slot) (s : State) : (modSlot i f s).grecs = s.grecs := rfl
@[simp] theorem modSlot_streams (i : Nat) (f : Slot → Slot) (s : State) : (modSlot i f s).streams = s.streams := rfl
@[simp] theorem modSlot_queues (i : Nat) (f : Slot → Slot) (s : State) : (modSlot i f s).queues = s.queues := rfl
@[simp] theorem modSlot_rwdSt (i : Nat) (f : Slot → Slot) (s : State) : (modSlot i f s).rwdSt = s.rwdSt := rfl
@[simp] theorem modSlot_tunits (i : Nat) (f : Slot → Slot) (s : State) : (modSlot i f s).tunits = s.tunits := rfl
@[simp] theorem modSlot_plans (i : Nat) (f : Slot → Slot) (s : State) : (modSlot i f s).plans = s.plans := rfl
@[simp] theorem modSlot_gunits (i : Nat) (f : Slot → Slot) (s : State) : (modSlot i f s).gunits = s.gunits := rfl
@[simp] theorem modSlot_dups (i : Nat) (f : Slot → Slot) (s : State) : (modSlot i f s).dups = s.dups := rfl
@[simp] theorem modSlot_pubId (i : Nat) (f : Slot → Slot) (s : State) : (modSlot i f s).pubId = s.pubId := rfl
@[simp] theorem modSlot_arc (i : Nat) (f : Slot → Slot) (s : State) : (modSlot i f s).arc = s.arc := rfl
@[simp] theorem modSlot_dcmp (i : Nat) (f : Slot → Slot) (s : State) : (modSlot i f s).dcmp = s.dcmp := rfl
@[simp] theorem modSlot_mem (i : Nat) (f : Slot → Slot) (s : State) : (modSlot i f s).mem = s.mem := rfl
@[simp] theorem modSlot_rtePath (i : Nat) (f : Slot → Slot) (s : State) : (modSlot i f s).rtePath = s.rtePath := rfl
@[simp] theorem modSlot_twn (i : Nat) (f : Slot → Slot) (s : State) : (modSlot i f s).twn = s.twn := rfl
@[simp] theorem modSlot_bcn (i : Nat) (f : Slot → Slot) (s : State) : (modSlot i f s).bcn = s.bcn := rfl
@[simp] theorem modSlot_jtag (i : Nat) (f : Slot → Slot) (s : State) : (modSlot i f s).jtag = s.jtag := rfl
@[simp] theorem modSlot_hst (i : Nat) (f : Slot → Slot) (s : State) : (modSlot i f s).hst = s.hst := rfl
@[simp] theorem modSlot_tst (i : Nat) (f : Slot → Slot) (s : State) : (modSlot i f s).tst = s.tst := rfl
@[simp] theorem modSlot_flight (i : Nat) (f : Slot → Slot) (s : State) : (modSlot i f s).flight = s.flight := rfl
@[simp] theorem modSlot_compl (i : Nat) (f : Slot → Slot) (s : State) : (modSlot i f s).compl = s.compl := rfl
@[simp] theorem modSlot_pending (i : Nat) (f : Slot → Slot) (s : State) : (modSlot i f s).pending = s.pending := rfl

@[simp] theorem modBcn_c (f : Bcn → Bcn) (s : State) : (modBcn f s).c = s.c := rfl
@[simp] theorem modBcn_frame (f : Bcn → Bcn) (s : State) : (modBcn f s).frame = s.frame := rfl
@[simp] theorem modBcn_ord (f : Bcn → Bcn) (s : State) : (modBcn f s).ord = s.ord := rfl
@[simp] theorem modBcn_freeIdx (f : Bcn → Bcn) (s : State) : (modBcn f s).freeIdx = s.freeIdx := rfl
@[simp] theorem modBcn_regs (f : Bcn → Bcn) (s : State) : (modBcn f s).regs = s.regs := rfl
@[simp] theorem modBcn_staged (f : Bcn → Bcn) (s : State) : (modBcn f s).staged = s.staged := rfl
@[simp] theorem modBcn_dspPend (f : Bcn → Bcn) (s : State) : (modBcn f s).dspPend = s.dspPend := rfl
@[simp] theorem modBcn_dspQ (f : Bcn → Bcn) (s : State) : (modBcn f s).dspQ = s.dspQ := rfl
@[simp] theorem modBcn_hiLatch (f : Bcn → Bcn) (s : State) : (modBcn f s).hiLatch = s.hiLatch := rfl
@[simp] theorem modBcn_rd (f : Bcn → Bcn) (s : State) : (modBcn f s).rd = s.rd := rfl
@[simp] theorem modBcn_pwr (f : Bcn → Bcn) (s : State) : (modBcn f s).pwr = s.pwr := rfl
@[simp] theorem modBcn_dies (f : Bcn → Bcn) (s : State) : (modBcn f s).dies = s.dies := rfl
@[simp] theorem modBcn_hub (f : Bcn → Bcn) (s : State) : (modBcn f s).hub = s.hub := rfl
@[simp] theorem modBcn_dsp (f : Bcn → Bcn) (s : State) : (modBcn f s).dsp = s.dsp := rfl
@[simp] theorem modBcn_cmt (f : Bcn → Bcn) (s : State) : (modBcn f s).cmt = s.cmt := rfl
@[simp] theorem modBcn_evt (f : Bcn → Bcn) (s : State) : (modBcn f s).evt = s.evt := rfl
@[simp] theorem modBcn_chans (f : Bcn → Bcn) (s : State) : (modBcn f s).chans = s.chans := rfl
@[simp] theorem modBcn_taps (f : Bcn → Bcn) (s : State) : (modBcn f s).taps = s.taps := rfl
@[simp] theorem modBcn_lts (f : Bcn → Bcn) (s : State) : (modBcn f s).lts = s.lts := rfl
@[simp] theorem modBcn_ltWait (f : Bcn → Bcn) (s : State) : (modBcn f s).ltWait = s.ltWait := rfl
@[simp] theorem modBcn_ltRes (f : Bcn → Bcn) (s : State) : (modBcn f s).ltRes = s.ltRes := rfl
@[simp] theorem modBcn_ltTicks (f : Bcn → Bcn) (s : State) : (modBcn f s).ltTicks = s.ltTicks := rfl
@[simp] theorem modBcn_modStart (f : Bcn → Bcn) (s : State) : (modBcn f s).modStart = s.modStart := rfl
@[simp] theorem modBcn_startAt (f : Bcn → Bcn) (s : State) : (modBcn f s).startAt = s.startAt := rfl
@[simp] theorem modBcn_restart (f : Bcn → Bcn) (s : State) : (modBcn f s).restart = s.restart := rfl
@[simp] theorem modBcn_excs (f : Bcn → Bcn) (s : State) : (modBcn f s).excs = s.excs := rfl
@[simp] theorem modBcn_refs (f : Bcn → Bcn) (s : State) : (modBcn f s).refs = s.refs := rfl
@[simp] theorem modBcn_auxs (f : Bcn → Bcn) (s : State) : (modBcn f s).auxs = s.auxs := rfl
@[simp] theorem modBcn_slots (f : Bcn → Bcn) (s : State) : (modBcn f s).slots = s.slots := rfl
@[simp] theorem modBcn_coef (f : Bcn → Bcn) (s : State) : (modBcn f s).coef = s.coef := rfl
@[simp] theorem modBcn_cbanks (f : Bcn → Bcn) (s : State) : (modBcn f s).cbanks = s.cbanks := rfl
@[simp] theorem modBcn_profs (f : Bcn → Bcn) (s : State) : (modBcn f s).profs = s.profs := rfl
@[simp] theorem modBcn_sealing (f : Bcn → Bcn) (s : State) : (modBcn f s).sealing = s.sealing := rfl
@[simp] theorem modBcn_tmb (f : Bcn → Bcn) (s : State) : (modBcn f s).tmb = s.tmb := rfl
@[simp] theorem modBcn_seqAgree (f : Bcn → Bcn) (s : State) : (modBcn f s).seqAgree = s.seqAgree := rfl
@[simp] theorem modBcn_lin (f : Bcn → Bcn) (s : State) : (modBcn f s).lin = s.lin := rfl
@[simp] theorem modBcn_lanes (f : Bcn → Bcn) (s : State) : (modBcn f s).lanes = s.lanes := rfl
@[simp] theorem modBcn_passes (f : Bcn → Bcn) (s : State) : (modBcn f s).passes = s.passes := rfl
@[simp] theorem modBcn_grecs (f : Bcn → Bcn) (s : State) : (modBcn f s).grecs = s.grecs := rfl
@[simp] theorem modBcn_streams (f : Bcn → Bcn) (s : State) : (modBcn f s).streams = s.streams := rfl
@[simp] theorem modBcn_queues (f : Bcn → Bcn) (s : State) : (modBcn f s).queues = s.queues := rfl
@[simp] theorem modBcn_rwdSt (f : Bcn → Bcn) (s : State) : (modBcn f s).rwdSt = s.rwdSt := rfl
@[simp] theorem modBcn_tunits (f : Bcn → Bcn) (s : State) : (modBcn f s).tunits = s.tunits := rfl
@[simp] theorem modBcn_plans (f : Bcn → Bcn) (s : State) : (modBcn f s).plans = s.plans := rfl
@[simp] theorem modBcn_gunits (f : Bcn → Bcn) (s : State) : (modBcn f s).gunits = s.gunits := rfl
@[simp] theorem modBcn_dups (f : Bcn → Bcn) (s : State) : (modBcn f s).dups = s.dups := rfl
@[simp] theorem modBcn_pubId (f : Bcn → Bcn) (s : State) : (modBcn f s).pubId = s.pubId := rfl
@[simp] theorem modBcn_arc (f : Bcn → Bcn) (s : State) : (modBcn f s).arc = s.arc := rfl
@[simp] theorem modBcn_dcmp (f : Bcn → Bcn) (s : State) : (modBcn f s).dcmp = s.dcmp := rfl
@[simp] theorem modBcn_mem (f : Bcn → Bcn) (s : State) : (modBcn f s).mem = s.mem := rfl
@[simp] theorem modBcn_rtePath (f : Bcn → Bcn) (s : State) : (modBcn f s).rtePath = s.rtePath := rfl
@[simp] theorem modBcn_twn (f : Bcn → Bcn) (s : State) : (modBcn f s).twn = s.twn := rfl
@[simp] theorem modBcn_jtag (f : Bcn → Bcn) (s : State) : (modBcn f s).jtag = s.jtag := rfl
@[simp] theorem modBcn_hst (f : Bcn → Bcn) (s : State) : (modBcn f s).hst = s.hst := rfl
@[simp] theorem modBcn_tst (f : Bcn → Bcn) (s : State) : (modBcn f s).tst = s.tst := rfl
@[simp] theorem modBcn_flight (f : Bcn → Bcn) (s : State) : (modBcn f s).flight = s.flight := rfl
@[simp] theorem modBcn_compl (f : Bcn → Bcn) (s : State) : (modBcn f s).compl = s.compl := rfl
@[simp] theorem modBcn_pending (f : Bcn → Bcn) (s : State) : (modBcn f s).pending = s.pending := rfl

@[simp] theorem modTst_c (f : Tst → Tst) (s : State) : (modTst f s).c = s.c := rfl
@[simp] theorem modTst_frame (f : Tst → Tst) (s : State) : (modTst f s).frame = s.frame := rfl
@[simp] theorem modTst_ord (f : Tst → Tst) (s : State) : (modTst f s).ord = s.ord := rfl
@[simp] theorem modTst_freeIdx (f : Tst → Tst) (s : State) : (modTst f s).freeIdx = s.freeIdx := rfl
@[simp] theorem modTst_regs (f : Tst → Tst) (s : State) : (modTst f s).regs = s.regs := rfl
@[simp] theorem modTst_staged (f : Tst → Tst) (s : State) : (modTst f s).staged = s.staged := rfl
@[simp] theorem modTst_dspPend (f : Tst → Tst) (s : State) : (modTst f s).dspPend = s.dspPend := rfl
@[simp] theorem modTst_dspQ (f : Tst → Tst) (s : State) : (modTst f s).dspQ = s.dspQ := rfl
@[simp] theorem modTst_hiLatch (f : Tst → Tst) (s : State) : (modTst f s).hiLatch = s.hiLatch := rfl
@[simp] theorem modTst_rd (f : Tst → Tst) (s : State) : (modTst f s).rd = s.rd := rfl
@[simp] theorem modTst_pwr (f : Tst → Tst) (s : State) : (modTst f s).pwr = s.pwr := rfl
@[simp] theorem modTst_dies (f : Tst → Tst) (s : State) : (modTst f s).dies = s.dies := rfl
@[simp] theorem modTst_hub (f : Tst → Tst) (s : State) : (modTst f s).hub = s.hub := rfl
@[simp] theorem modTst_dsp (f : Tst → Tst) (s : State) : (modTst f s).dsp = s.dsp := rfl
@[simp] theorem modTst_cmt (f : Tst → Tst) (s : State) : (modTst f s).cmt = s.cmt := rfl
@[simp] theorem modTst_evt (f : Tst → Tst) (s : State) : (modTst f s).evt = s.evt := rfl
@[simp] theorem modTst_chans (f : Tst → Tst) (s : State) : (modTst f s).chans = s.chans := rfl
@[simp] theorem modTst_taps (f : Tst → Tst) (s : State) : (modTst f s).taps = s.taps := rfl
@[simp] theorem modTst_lts (f : Tst → Tst) (s : State) : (modTst f s).lts = s.lts := rfl
@[simp] theorem modTst_ltWait (f : Tst → Tst) (s : State) : (modTst f s).ltWait = s.ltWait := rfl
@[simp] theorem modTst_ltRes (f : Tst → Tst) (s : State) : (modTst f s).ltRes = s.ltRes := rfl
@[simp] theorem modTst_ltTicks (f : Tst → Tst) (s : State) : (modTst f s).ltTicks = s.ltTicks := rfl
@[simp] theorem modTst_modStart (f : Tst → Tst) (s : State) : (modTst f s).modStart = s.modStart := rfl
@[simp] theorem modTst_startAt (f : Tst → Tst) (s : State) : (modTst f s).startAt = s.startAt := rfl
@[simp] theorem modTst_restart (f : Tst → Tst) (s : State) : (modTst f s).restart = s.restart := rfl
@[simp] theorem modTst_excs (f : Tst → Tst) (s : State) : (modTst f s).excs = s.excs := rfl
@[simp] theorem modTst_refs (f : Tst → Tst) (s : State) : (modTst f s).refs = s.refs := rfl
@[simp] theorem modTst_auxs (f : Tst → Tst) (s : State) : (modTst f s).auxs = s.auxs := rfl
@[simp] theorem modTst_slots (f : Tst → Tst) (s : State) : (modTst f s).slots = s.slots := rfl
@[simp] theorem modTst_coef (f : Tst → Tst) (s : State) : (modTst f s).coef = s.coef := rfl
@[simp] theorem modTst_cbanks (f : Tst → Tst) (s : State) : (modTst f s).cbanks = s.cbanks := rfl
@[simp] theorem modTst_profs (f : Tst → Tst) (s : State) : (modTst f s).profs = s.profs := rfl
@[simp] theorem modTst_sealing (f : Tst → Tst) (s : State) : (modTst f s).sealing = s.sealing := rfl
@[simp] theorem modTst_tmb (f : Tst → Tst) (s : State) : (modTst f s).tmb = s.tmb := rfl
@[simp] theorem modTst_seqAgree (f : Tst → Tst) (s : State) : (modTst f s).seqAgree = s.seqAgree := rfl
@[simp] theorem modTst_lin (f : Tst → Tst) (s : State) : (modTst f s).lin = s.lin := rfl
@[simp] theorem modTst_lanes (f : Tst → Tst) (s : State) : (modTst f s).lanes = s.lanes := rfl
@[simp] theorem modTst_passes (f : Tst → Tst) (s : State) : (modTst f s).passes = s.passes := rfl
@[simp] theorem modTst_grecs (f : Tst → Tst) (s : State) : (modTst f s).grecs = s.grecs := rfl
@[simp] theorem modTst_streams (f : Tst → Tst) (s : State) : (modTst f s).streams = s.streams := rfl
@[simp] theorem modTst_queues (f : Tst → Tst) (s : State) : (modTst f s).queues = s.queues := rfl
@[simp] theorem modTst_rwdSt (f : Tst → Tst) (s : State) : (modTst f s).rwdSt = s.rwdSt := rfl
@[simp] theorem modTst_tunits (f : Tst → Tst) (s : State) : (modTst f s).tunits = s.tunits := rfl
@[simp] theorem modTst_plans (f : Tst → Tst) (s : State) : (modTst f s).plans = s.plans := rfl
@[simp] theorem modTst_gunits (f : Tst → Tst) (s : State) : (modTst f s).gunits = s.gunits := rfl
@[simp] theorem modTst_dups (f : Tst → Tst) (s : State) : (modTst f s).dups = s.dups := rfl
@[simp] theorem modTst_pubId (f : Tst → Tst) (s : State) : (modTst f s).pubId = s.pubId := rfl
@[simp] theorem modTst_arc (f : Tst → Tst) (s : State) : (modTst f s).arc = s.arc := rfl
@[simp] theorem modTst_dcmp (f : Tst → Tst) (s : State) : (modTst f s).dcmp = s.dcmp := rfl
@[simp] theorem modTst_mem (f : Tst → Tst) (s : State) : (modTst f s).mem = s.mem := rfl
@[simp] theorem modTst_rtePath (f : Tst → Tst) (s : State) : (modTst f s).rtePath = s.rtePath := rfl
@[simp] theorem modTst_twn (f : Tst → Tst) (s : State) : (modTst f s).twn = s.twn := rfl
@[simp] theorem modTst_bcn (f : Tst → Tst) (s : State) : (modTst f s).bcn = s.bcn := rfl
@[simp] theorem modTst_jtag (f : Tst → Tst) (s : State) : (modTst f s).jtag = s.jtag := rfl
@[simp] theorem modTst_hst (f : Tst → Tst) (s : State) : (modTst f s).hst = s.hst := rfl
@[simp] theorem modTst_flight (f : Tst → Tst) (s : State) : (modTst f s).flight = s.flight := rfl
@[simp] theorem modTst_compl (f : Tst → Tst) (s : State) : (modTst f s).compl = s.compl := rfl
@[simp] theorem modTst_pending (f : Tst → Tst) (s : State) : (modTst f s).pending = s.pending := rfl

@[simp] theorem modPwr_c (f : Pwr → Pwr) (s : State) : (modPwr f s).c = s.c := rfl
@[simp] theorem modPwr_frame (f : Pwr → Pwr) (s : State) : (modPwr f s).frame = s.frame := rfl
@[simp] theorem modPwr_ord (f : Pwr → Pwr) (s : State) : (modPwr f s).ord = s.ord := rfl
@[simp] theorem modPwr_freeIdx (f : Pwr → Pwr) (s : State) : (modPwr f s).freeIdx = s.freeIdx := rfl
@[simp] theorem modPwr_regs (f : Pwr → Pwr) (s : State) : (modPwr f s).regs = s.regs := rfl
@[simp] theorem modPwr_staged (f : Pwr → Pwr) (s : State) : (modPwr f s).staged = s.staged := rfl
@[simp] theorem modPwr_dspPend (f : Pwr → Pwr) (s : State) : (modPwr f s).dspPend = s.dspPend := rfl
@[simp] theorem modPwr_dspQ (f : Pwr → Pwr) (s : State) : (modPwr f s).dspQ = s.dspQ := rfl
@[simp] theorem modPwr_hiLatch (f : Pwr → Pwr) (s : State) : (modPwr f s).hiLatch = s.hiLatch := rfl
@[simp] theorem modPwr_rd (f : Pwr → Pwr) (s : State) : (modPwr f s).rd = s.rd := rfl
@[simp] theorem modPwr_dies (f : Pwr → Pwr) (s : State) : (modPwr f s).dies = s.dies := rfl
@[simp] theorem modPwr_hub (f : Pwr → Pwr) (s : State) : (modPwr f s).hub = s.hub := rfl
@[simp] theorem modPwr_dsp (f : Pwr → Pwr) (s : State) : (modPwr f s).dsp = s.dsp := rfl
@[simp] theorem modPwr_cmt (f : Pwr → Pwr) (s : State) : (modPwr f s).cmt = s.cmt := rfl
@[simp] theorem modPwr_evt (f : Pwr → Pwr) (s : State) : (modPwr f s).evt = s.evt := rfl
@[simp] theorem modPwr_chans (f : Pwr → Pwr) (s : State) : (modPwr f s).chans = s.chans := rfl
@[simp] theorem modPwr_taps (f : Pwr → Pwr) (s : State) : (modPwr f s).taps = s.taps := rfl
@[simp] theorem modPwr_lts (f : Pwr → Pwr) (s : State) : (modPwr f s).lts = s.lts := rfl
@[simp] theorem modPwr_ltWait (f : Pwr → Pwr) (s : State) : (modPwr f s).ltWait = s.ltWait := rfl
@[simp] theorem modPwr_ltRes (f : Pwr → Pwr) (s : State) : (modPwr f s).ltRes = s.ltRes := rfl
@[simp] theorem modPwr_ltTicks (f : Pwr → Pwr) (s : State) : (modPwr f s).ltTicks = s.ltTicks := rfl
@[simp] theorem modPwr_modStart (f : Pwr → Pwr) (s : State) : (modPwr f s).modStart = s.modStart := rfl
@[simp] theorem modPwr_startAt (f : Pwr → Pwr) (s : State) : (modPwr f s).startAt = s.startAt := rfl
@[simp] theorem modPwr_restart (f : Pwr → Pwr) (s : State) : (modPwr f s).restart = s.restart := rfl
@[simp] theorem modPwr_excs (f : Pwr → Pwr) (s : State) : (modPwr f s).excs = s.excs := rfl
@[simp] theorem modPwr_refs (f : Pwr → Pwr) (s : State) : (modPwr f s).refs = s.refs := rfl
@[simp] theorem modPwr_auxs (f : Pwr → Pwr) (s : State) : (modPwr f s).auxs = s.auxs := rfl
@[simp] theorem modPwr_slots (f : Pwr → Pwr) (s : State) : (modPwr f s).slots = s.slots := rfl
@[simp] theorem modPwr_coef (f : Pwr → Pwr) (s : State) : (modPwr f s).coef = s.coef := rfl
@[simp] theorem modPwr_cbanks (f : Pwr → Pwr) (s : State) : (modPwr f s).cbanks = s.cbanks := rfl
@[simp] theorem modPwr_profs (f : Pwr → Pwr) (s : State) : (modPwr f s).profs = s.profs := rfl
@[simp] theorem modPwr_sealing (f : Pwr → Pwr) (s : State) : (modPwr f s).sealing = s.sealing := rfl
@[simp] theorem modPwr_tmb (f : Pwr → Pwr) (s : State) : (modPwr f s).tmb = s.tmb := rfl
@[simp] theorem modPwr_seqAgree (f : Pwr → Pwr) (s : State) : (modPwr f s).seqAgree = s.seqAgree := rfl
@[simp] theorem modPwr_lin (f : Pwr → Pwr) (s : State) : (modPwr f s).lin = s.lin := rfl
@[simp] theorem modPwr_lanes (f : Pwr → Pwr) (s : State) : (modPwr f s).lanes = s.lanes := rfl
@[simp] theorem modPwr_passes (f : Pwr → Pwr) (s : State) : (modPwr f s).passes = s.passes := rfl
@[simp] theorem modPwr_grecs (f : Pwr → Pwr) (s : State) : (modPwr f s).grecs = s.grecs := rfl
@[simp] theorem modPwr_streams (f : Pwr → Pwr) (s : State) : (modPwr f s).streams = s.streams := rfl
@[simp] theorem modPwr_queues (f : Pwr → Pwr) (s : State) : (modPwr f s).queues = s.queues := rfl
@[simp] theorem modPwr_rwdSt (f : Pwr → Pwr) (s : State) : (modPwr f s).rwdSt = s.rwdSt := rfl
@[simp] theorem modPwr_tunits (f : Pwr → Pwr) (s : State) : (modPwr f s).tunits = s.tunits := rfl
@[simp] theorem modPwr_plans (f : Pwr → Pwr) (s : State) : (modPwr f s).plans = s.plans := rfl
@[simp] theorem modPwr_gunits (f : Pwr → Pwr) (s : State) : (modPwr f s).gunits = s.gunits := rfl
@[simp] theorem modPwr_dups (f : Pwr → Pwr) (s : State) : (modPwr f s).dups = s.dups := rfl
@[simp] theorem modPwr_pubId (f : Pwr → Pwr) (s : State) : (modPwr f s).pubId = s.pubId := rfl
@[simp] theorem modPwr_arc (f : Pwr → Pwr) (s : State) : (modPwr f s).arc = s.arc := rfl
@[simp] theorem modPwr_dcmp (f : Pwr → Pwr) (s : State) : (modPwr f s).dcmp = s.dcmp := rfl
@[simp] theorem modPwr_mem (f : Pwr → Pwr) (s : State) : (modPwr f s).mem = s.mem := rfl
@[simp] theorem modPwr_rtePath (f : Pwr → Pwr) (s : State) : (modPwr f s).rtePath = s.rtePath := rfl
@[simp] theorem modPwr_twn (f : Pwr → Pwr) (s : State) : (modPwr f s).twn = s.twn := rfl
@[simp] theorem modPwr_bcn (f : Pwr → Pwr) (s : State) : (modPwr f s).bcn = s.bcn := rfl
@[simp] theorem modPwr_jtag (f : Pwr → Pwr) (s : State) : (modPwr f s).jtag = s.jtag := rfl
@[simp] theorem modPwr_hst (f : Pwr → Pwr) (s : State) : (modPwr f s).hst = s.hst := rfl
@[simp] theorem modPwr_tst (f : Pwr → Pwr) (s : State) : (modPwr f s).tst = s.tst := rfl
@[simp] theorem modPwr_flight (f : Pwr → Pwr) (s : State) : (modPwr f s).flight = s.flight := rfl
@[simp] theorem modPwr_compl (f : Pwr → Pwr) (s : State) : (modPwr f s).compl = s.compl := rfl
@[simp] theorem modPwr_pending (f : Pwr → Pwr) (s : State) : (modPwr f s).pending = s.pending := rfl

@[simp] theorem setStart_c (g : Nat) (f : Option Nat) (s : State) : (setStart g f s).c = s.c := rfl
@[simp] theorem setStart_frame (g : Nat) (f : Option Nat) (s : State) : (setStart g f s).frame = s.frame := rfl
@[simp] theorem setStart_ord (g : Nat) (f : Option Nat) (s : State) : (setStart g f s).ord = s.ord := rfl
@[simp] theorem setStart_freeIdx (g : Nat) (f : Option Nat) (s : State) : (setStart g f s).freeIdx = s.freeIdx := rfl
@[simp] theorem setStart_regs (g : Nat) (f : Option Nat) (s : State) : (setStart g f s).regs = s.regs := rfl
@[simp] theorem setStart_staged (g : Nat) (f : Option Nat) (s : State) : (setStart g f s).staged = s.staged := rfl
@[simp] theorem setStart_dspPend (g : Nat) (f : Option Nat) (s : State) : (setStart g f s).dspPend = s.dspPend := rfl
@[simp] theorem setStart_dspQ (g : Nat) (f : Option Nat) (s : State) : (setStart g f s).dspQ = s.dspQ := rfl
@[simp] theorem setStart_hiLatch (g : Nat) (f : Option Nat) (s : State) : (setStart g f s).hiLatch = s.hiLatch := rfl
@[simp] theorem setStart_rd (g : Nat) (f : Option Nat) (s : State) : (setStart g f s).rd = s.rd := rfl
@[simp] theorem setStart_pwr (g : Nat) (f : Option Nat) (s : State) : (setStart g f s).pwr = s.pwr := rfl
@[simp] theorem setStart_dies (g : Nat) (f : Option Nat) (s : State) : (setStart g f s).dies = s.dies := rfl
@[simp] theorem setStart_hub (g : Nat) (f : Option Nat) (s : State) : (setStart g f s).hub = s.hub := rfl
@[simp] theorem setStart_dsp (g : Nat) (f : Option Nat) (s : State) : (setStart g f s).dsp = s.dsp := rfl
@[simp] theorem setStart_cmt (g : Nat) (f : Option Nat) (s : State) : (setStart g f s).cmt = s.cmt := rfl
@[simp] theorem setStart_evt (g : Nat) (f : Option Nat) (s : State) : (setStart g f s).evt = s.evt := rfl
@[simp] theorem setStart_chans (g : Nat) (f : Option Nat) (s : State) : (setStart g f s).chans = s.chans := rfl
@[simp] theorem setStart_taps (g : Nat) (f : Option Nat) (s : State) : (setStart g f s).taps = s.taps := rfl
@[simp] theorem setStart_lts (g : Nat) (f : Option Nat) (s : State) : (setStart g f s).lts = s.lts := rfl
@[simp] theorem setStart_ltWait (g : Nat) (f : Option Nat) (s : State) : (setStart g f s).ltWait = s.ltWait := rfl
@[simp] theorem setStart_ltRes (g : Nat) (f : Option Nat) (s : State) : (setStart g f s).ltRes = s.ltRes := rfl
@[simp] theorem setStart_ltTicks (g : Nat) (f : Option Nat) (s : State) : (setStart g f s).ltTicks = s.ltTicks := rfl
@[simp] theorem setStart_modStart (g : Nat) (f : Option Nat) (s : State) : (setStart g f s).modStart = s.modStart := rfl
@[simp] theorem setStart_restart (g : Nat) (f : Option Nat) (s : State) : (setStart g f s).restart = s.restart := rfl
@[simp] theorem setStart_excs (g : Nat) (f : Option Nat) (s : State) : (setStart g f s).excs = s.excs := rfl
@[simp] theorem setStart_refs (g : Nat) (f : Option Nat) (s : State) : (setStart g f s).refs = s.refs := rfl
@[simp] theorem setStart_auxs (g : Nat) (f : Option Nat) (s : State) : (setStart g f s).auxs = s.auxs := rfl
@[simp] theorem setStart_slots (g : Nat) (f : Option Nat) (s : State) : (setStart g f s).slots = s.slots := rfl
@[simp] theorem setStart_coef (g : Nat) (f : Option Nat) (s : State) : (setStart g f s).coef = s.coef := rfl
@[simp] theorem setStart_cbanks (g : Nat) (f : Option Nat) (s : State) : (setStart g f s).cbanks = s.cbanks := rfl
@[simp] theorem setStart_profs (g : Nat) (f : Option Nat) (s : State) : (setStart g f s).profs = s.profs := rfl
@[simp] theorem setStart_sealing (g : Nat) (f : Option Nat) (s : State) : (setStart g f s).sealing = s.sealing := rfl
@[simp] theorem setStart_tmb (g : Nat) (f : Option Nat) (s : State) : (setStart g f s).tmb = s.tmb := rfl
@[simp] theorem setStart_seqAgree (g : Nat) (f : Option Nat) (s : State) : (setStart g f s).seqAgree = s.seqAgree := rfl
@[simp] theorem setStart_lin (g : Nat) (f : Option Nat) (s : State) : (setStart g f s).lin = s.lin := rfl
@[simp] theorem setStart_lanes (g : Nat) (f : Option Nat) (s : State) : (setStart g f s).lanes = s.lanes := rfl
@[simp] theorem setStart_passes (g : Nat) (f : Option Nat) (s : State) : (setStart g f s).passes = s.passes := rfl
@[simp] theorem setStart_grecs (g : Nat) (f : Option Nat) (s : State) : (setStart g f s).grecs = s.grecs := rfl
@[simp] theorem setStart_streams (g : Nat) (f : Option Nat) (s : State) : (setStart g f s).streams = s.streams := rfl
@[simp] theorem setStart_queues (g : Nat) (f : Option Nat) (s : State) : (setStart g f s).queues = s.queues := rfl
@[simp] theorem setStart_rwdSt (g : Nat) (f : Option Nat) (s : State) : (setStart g f s).rwdSt = s.rwdSt := rfl
@[simp] theorem setStart_tunits (g : Nat) (f : Option Nat) (s : State) : (setStart g f s).tunits = s.tunits := rfl
@[simp] theorem setStart_plans (g : Nat) (f : Option Nat) (s : State) : (setStart g f s).plans = s.plans := rfl
@[simp] theorem setStart_gunits (g : Nat) (f : Option Nat) (s : State) : (setStart g f s).gunits = s.gunits := rfl
@[simp] theorem setStart_dups (g : Nat) (f : Option Nat) (s : State) : (setStart g f s).dups = s.dups := rfl
@[simp] theorem setStart_pubId (g : Nat) (f : Option Nat) (s : State) : (setStart g f s).pubId = s.pubId := rfl
@[simp] theorem setStart_arc (g : Nat) (f : Option Nat) (s : State) : (setStart g f s).arc = s.arc := rfl
@[simp] theorem setStart_dcmp (g : Nat) (f : Option Nat) (s : State) : (setStart g f s).dcmp = s.dcmp := rfl
@[simp] theorem setStart_mem (g : Nat) (f : Option Nat) (s : State) : (setStart g f s).mem = s.mem := rfl
@[simp] theorem setStart_rtePath (g : Nat) (f : Option Nat) (s : State) : (setStart g f s).rtePath = s.rtePath := rfl
@[simp] theorem setStart_twn (g : Nat) (f : Option Nat) (s : State) : (setStart g f s).twn = s.twn := rfl
@[simp] theorem setStart_bcn (g : Nat) (f : Option Nat) (s : State) : (setStart g f s).bcn = s.bcn := rfl
@[simp] theorem setStart_jtag (g : Nat) (f : Option Nat) (s : State) : (setStart g f s).jtag = s.jtag := rfl
@[simp] theorem setStart_hst (g : Nat) (f : Option Nat) (s : State) : (setStart g f s).hst = s.hst := rfl
@[simp] theorem setStart_tst (g : Nat) (f : Option Nat) (s : State) : (setStart g f s).tst = s.tst := rfl
@[simp] theorem setStart_flight (g : Nat) (f : Option Nat) (s : State) : (setStart g f s).flight = s.flight := rfl
@[simp] theorem setStart_compl (g : Nat) (f : Option Nat) (s : State) : (setStart g f s).compl = s.compl := rfl
@[simp] theorem setStart_pending (g : Nat) (f : Option Nat) (s : State) : (setStart g f s).pending = s.pending := rfl

@[simp] theorem modTmb_c (f : Tmb → Tmb) (s : State) : (modTmb f s).c = s.c := rfl
@[simp] theorem modTmb_frame (f : Tmb → Tmb) (s : State) : (modTmb f s).frame = s.frame := rfl
@[simp] theorem modTmb_ord (f : Tmb → Tmb) (s : State) : (modTmb f s).ord = s.ord := rfl
@[simp] theorem modTmb_freeIdx (f : Tmb → Tmb) (s : State) : (modTmb f s).freeIdx = s.freeIdx := rfl
@[simp] theorem modTmb_regs (f : Tmb → Tmb) (s : State) : (modTmb f s).regs = s.regs := rfl
@[simp] theorem modTmb_staged (f : Tmb → Tmb) (s : State) : (modTmb f s).staged = s.staged := rfl
@[simp] theorem modTmb_dspPend (f : Tmb → Tmb) (s : State) : (modTmb f s).dspPend = s.dspPend := rfl
@[simp] theorem modTmb_dspQ (f : Tmb → Tmb) (s : State) : (modTmb f s).dspQ = s.dspQ := rfl
@[simp] theorem modTmb_hiLatch (f : Tmb → Tmb) (s : State) : (modTmb f s).hiLatch = s.hiLatch := rfl
@[simp] theorem modTmb_rd (f : Tmb → Tmb) (s : State) : (modTmb f s).rd = s.rd := rfl
@[simp] theorem modTmb_pwr (f : Tmb → Tmb) (s : State) : (modTmb f s).pwr = s.pwr := rfl
@[simp] theorem modTmb_dies (f : Tmb → Tmb) (s : State) : (modTmb f s).dies = s.dies := rfl
@[simp] theorem modTmb_hub (f : Tmb → Tmb) (s : State) : (modTmb f s).hub = s.hub := rfl
@[simp] theorem modTmb_dsp (f : Tmb → Tmb) (s : State) : (modTmb f s).dsp = s.dsp := rfl
@[simp] theorem modTmb_cmt (f : Tmb → Tmb) (s : State) : (modTmb f s).cmt = s.cmt := rfl
@[simp] theorem modTmb_evt (f : Tmb → Tmb) (s : State) : (modTmb f s).evt = s.evt := rfl
@[simp] theorem modTmb_chans (f : Tmb → Tmb) (s : State) : (modTmb f s).chans = s.chans := rfl
@[simp] theorem modTmb_taps (f : Tmb → Tmb) (s : State) : (modTmb f s).taps = s.taps := rfl
@[simp] theorem modTmb_lts (f : Tmb → Tmb) (s : State) : (modTmb f s).lts = s.lts := rfl
@[simp] theorem modTmb_ltWait (f : Tmb → Tmb) (s : State) : (modTmb f s).ltWait = s.ltWait := rfl
@[simp] theorem modTmb_ltRes (f : Tmb → Tmb) (s : State) : (modTmb f s).ltRes = s.ltRes := rfl
@[simp] theorem modTmb_ltTicks (f : Tmb → Tmb) (s : State) : (modTmb f s).ltTicks = s.ltTicks := rfl
@[simp] theorem modTmb_modStart (f : Tmb → Tmb) (s : State) : (modTmb f s).modStart = s.modStart := rfl
@[simp] theorem modTmb_startAt (f : Tmb → Tmb) (s : State) : (modTmb f s).startAt = s.startAt := rfl
@[simp] theorem modTmb_restart (f : Tmb → Tmb) (s : State) : (modTmb f s).restart = s.restart := rfl
@[simp] theorem modTmb_excs (f : Tmb → Tmb) (s : State) : (modTmb f s).excs = s.excs := rfl
@[simp] theorem modTmb_refs (f : Tmb → Tmb) (s : State) : (modTmb f s).refs = s.refs := rfl
@[simp] theorem modTmb_auxs (f : Tmb → Tmb) (s : State) : (modTmb f s).auxs = s.auxs := rfl
@[simp] theorem modTmb_slots (f : Tmb → Tmb) (s : State) : (modTmb f s).slots = s.slots := rfl
@[simp] theorem modTmb_coef (f : Tmb → Tmb) (s : State) : (modTmb f s).coef = s.coef := rfl
@[simp] theorem modTmb_cbanks (f : Tmb → Tmb) (s : State) : (modTmb f s).cbanks = s.cbanks := rfl
@[simp] theorem modTmb_profs (f : Tmb → Tmb) (s : State) : (modTmb f s).profs = s.profs := rfl
@[simp] theorem modTmb_sealing (f : Tmb → Tmb) (s : State) : (modTmb f s).sealing = s.sealing := rfl
@[simp] theorem modTmb_seqAgree (f : Tmb → Tmb) (s : State) : (modTmb f s).seqAgree = s.seqAgree := rfl
@[simp] theorem modTmb_lin (f : Tmb → Tmb) (s : State) : (modTmb f s).lin = s.lin := rfl
@[simp] theorem modTmb_lanes (f : Tmb → Tmb) (s : State) : (modTmb f s).lanes = s.lanes := rfl
@[simp] theorem modTmb_passes (f : Tmb → Tmb) (s : State) : (modTmb f s).passes = s.passes := rfl
@[simp] theorem modTmb_grecs (f : Tmb → Tmb) (s : State) : (modTmb f s).grecs = s.grecs := rfl
@[simp] theorem modTmb_streams (f : Tmb → Tmb) (s : State) : (modTmb f s).streams = s.streams := rfl
@[simp] theorem modTmb_queues (f : Tmb → Tmb) (s : State) : (modTmb f s).queues = s.queues := rfl
@[simp] theorem modTmb_rwdSt (f : Tmb → Tmb) (s : State) : (modTmb f s).rwdSt = s.rwdSt := rfl
@[simp] theorem modTmb_tunits (f : Tmb → Tmb) (s : State) : (modTmb f s).tunits = s.tunits := rfl
@[simp] theorem modTmb_plans (f : Tmb → Tmb) (s : State) : (modTmb f s).plans = s.plans := rfl
@[simp] theorem modTmb_gunits (f : Tmb → Tmb) (s : State) : (modTmb f s).gunits = s.gunits := rfl
@[simp] theorem modTmb_dups (f : Tmb → Tmb) (s : State) : (modTmb f s).dups = s.dups := rfl
@[simp] theorem modTmb_pubId (f : Tmb → Tmb) (s : State) : (modTmb f s).pubId = s.pubId := rfl
@[simp] theorem modTmb_arc (f : Tmb → Tmb) (s : State) : (modTmb f s).arc = s.arc := rfl
@[simp] theorem modTmb_dcmp (f : Tmb → Tmb) (s : State) : (modTmb f s).dcmp = s.dcmp := rfl
@[simp] theorem modTmb_mem (f : Tmb → Tmb) (s : State) : (modTmb f s).mem = s.mem := rfl
@[simp] theorem modTmb_rtePath (f : Tmb → Tmb) (s : State) : (modTmb f s).rtePath = s.rtePath := rfl
@[simp] theorem modTmb_twn (f : Tmb → Tmb) (s : State) : (modTmb f s).twn = s.twn := rfl
@[simp] theorem modTmb_bcn (f : Tmb → Tmb) (s : State) : (modTmb f s).bcn = s.bcn := rfl
@[simp] theorem modTmb_jtag (f : Tmb → Tmb) (s : State) : (modTmb f s).jtag = s.jtag := rfl
@[simp] theorem modTmb_hst (f : Tmb → Tmb) (s : State) : (modTmb f s).hst = s.hst := rfl
@[simp] theorem modTmb_tst (f : Tmb → Tmb) (s : State) : (modTmb f s).tst = s.tst := rfl
@[simp] theorem modTmb_flight (f : Tmb → Tmb) (s : State) : (modTmb f s).flight = s.flight := rfl
@[simp] theorem modTmb_compl (f : Tmb → Tmb) (s : State) : (modTmb f s).compl = s.compl := rfl
@[simp] theorem modTmb_pending (f : Tmb → Tmb) (s : State) : (modTmb f s).pending = s.pending := rfl

@[simp] theorem setHub_c (x : HubSt) (s : State) : (setHub x s).c = s.c := rfl
@[simp] theorem setHub_frame (x : HubSt) (s : State) : (setHub x s).frame = s.frame := rfl
@[simp] theorem setHub_ord (x : HubSt) (s : State) : (setHub x s).ord = s.ord := rfl
@[simp] theorem setHub_freeIdx (x : HubSt) (s : State) : (setHub x s).freeIdx = s.freeIdx := rfl
@[simp] theorem setHub_regs (x : HubSt) (s : State) : (setHub x s).regs = s.regs := rfl
@[simp] theorem setHub_staged (x : HubSt) (s : State) : (setHub x s).staged = s.staged := rfl
@[simp] theorem setHub_dspPend (x : HubSt) (s : State) : (setHub x s).dspPend = s.dspPend := rfl
@[simp] theorem setHub_dspQ (x : HubSt) (s : State) : (setHub x s).dspQ = s.dspQ := rfl
@[simp] theorem setHub_hiLatch (x : HubSt) (s : State) : (setHub x s).hiLatch = s.hiLatch := rfl
@[simp] theorem setHub_rd (x : HubSt) (s : State) : (setHub x s).rd = s.rd := rfl
@[simp] theorem setHub_pwr (x : HubSt) (s : State) : (setHub x s).pwr = s.pwr := rfl
@[simp] theorem setHub_dies (x : HubSt) (s : State) : (setHub x s).dies = s.dies := rfl
@[simp] theorem setHub_dsp (x : HubSt) (s : State) : (setHub x s).dsp = s.dsp := rfl
@[simp] theorem setHub_cmt (x : HubSt) (s : State) : (setHub x s).cmt = s.cmt := rfl
@[simp] theorem setHub_evt (x : HubSt) (s : State) : (setHub x s).evt = s.evt := rfl
@[simp] theorem setHub_chans (x : HubSt) (s : State) : (setHub x s).chans = s.chans := rfl
@[simp] theorem setHub_taps (x : HubSt) (s : State) : (setHub x s).taps = s.taps := rfl
@[simp] theorem setHub_lts (x : HubSt) (s : State) : (setHub x s).lts = s.lts := rfl
@[simp] theorem setHub_ltWait (x : HubSt) (s : State) : (setHub x s).ltWait = s.ltWait := rfl
@[simp] theorem setHub_ltRes (x : HubSt) (s : State) : (setHub x s).ltRes = s.ltRes := rfl
@[simp] theorem setHub_ltTicks (x : HubSt) (s : State) : (setHub x s).ltTicks = s.ltTicks := rfl
@[simp] theorem setHub_modStart (x : HubSt) (s : State) : (setHub x s).modStart = s.modStart := rfl
@[simp] theorem setHub_startAt (x : HubSt) (s : State) : (setHub x s).startAt = s.startAt := rfl
@[simp] theorem setHub_restart (x : HubSt) (s : State) : (setHub x s).restart = s.restart := rfl
@[simp] theorem setHub_excs (x : HubSt) (s : State) : (setHub x s).excs = s.excs := rfl
@[simp] theorem setHub_refs (x : HubSt) (s : State) : (setHub x s).refs = s.refs := rfl
@[simp] theorem setHub_auxs (x : HubSt) (s : State) : (setHub x s).auxs = s.auxs := rfl
@[simp] theorem setHub_slots (x : HubSt) (s : State) : (setHub x s).slots = s.slots := rfl
@[simp] theorem setHub_coef (x : HubSt) (s : State) : (setHub x s).coef = s.coef := rfl
@[simp] theorem setHub_cbanks (x : HubSt) (s : State) : (setHub x s).cbanks = s.cbanks := rfl
@[simp] theorem setHub_profs (x : HubSt) (s : State) : (setHub x s).profs = s.profs := rfl
@[simp] theorem setHub_sealing (x : HubSt) (s : State) : (setHub x s).sealing = s.sealing := rfl
@[simp] theorem setHub_tmb (x : HubSt) (s : State) : (setHub x s).tmb = s.tmb := rfl
@[simp] theorem setHub_seqAgree (x : HubSt) (s : State) : (setHub x s).seqAgree = s.seqAgree := rfl
@[simp] theorem setHub_lin (x : HubSt) (s : State) : (setHub x s).lin = s.lin := rfl
@[simp] theorem setHub_lanes (x : HubSt) (s : State) : (setHub x s).lanes = s.lanes := rfl
@[simp] theorem setHub_passes (x : HubSt) (s : State) : (setHub x s).passes = s.passes := rfl
@[simp] theorem setHub_grecs (x : HubSt) (s : State) : (setHub x s).grecs = s.grecs := rfl
@[simp] theorem setHub_streams (x : HubSt) (s : State) : (setHub x s).streams = s.streams := rfl
@[simp] theorem setHub_queues (x : HubSt) (s : State) : (setHub x s).queues = s.queues := rfl
@[simp] theorem setHub_rwdSt (x : HubSt) (s : State) : (setHub x s).rwdSt = s.rwdSt := rfl
@[simp] theorem setHub_tunits (x : HubSt) (s : State) : (setHub x s).tunits = s.tunits := rfl
@[simp] theorem setHub_plans (x : HubSt) (s : State) : (setHub x s).plans = s.plans := rfl
@[simp] theorem setHub_gunits (x : HubSt) (s : State) : (setHub x s).gunits = s.gunits := rfl
@[simp] theorem setHub_dups (x : HubSt) (s : State) : (setHub x s).dups = s.dups := rfl
@[simp] theorem setHub_pubId (x : HubSt) (s : State) : (setHub x s).pubId = s.pubId := rfl
@[simp] theorem setHub_arc (x : HubSt) (s : State) : (setHub x s).arc = s.arc := rfl
@[simp] theorem setHub_dcmp (x : HubSt) (s : State) : (setHub x s).dcmp = s.dcmp := rfl
@[simp] theorem setHub_mem (x : HubSt) (s : State) : (setHub x s).mem = s.mem := rfl
@[simp] theorem setHub_rtePath (x : HubSt) (s : State) : (setHub x s).rtePath = s.rtePath := rfl
@[simp] theorem setHub_twn (x : HubSt) (s : State) : (setHub x s).twn = s.twn := rfl
@[simp] theorem setHub_bcn (x : HubSt) (s : State) : (setHub x s).bcn = s.bcn := rfl
@[simp] theorem setHub_jtag (x : HubSt) (s : State) : (setHub x s).jtag = s.jtag := rfl
@[simp] theorem setHub_hst (x : HubSt) (s : State) : (setHub x s).hst = s.hst := rfl
@[simp] theorem setHub_tst (x : HubSt) (s : State) : (setHub x s).tst = s.tst := rfl
@[simp] theorem setHub_flight (x : HubSt) (s : State) : (setHub x s).flight = s.flight := rfl
@[simp] theorem setHub_compl (x : HubSt) (s : State) : (setHub x s).compl = s.compl := rfl
@[simp] theorem setHub_pending (x : HubSt) (s : State) : (setHub x s).pending = s.pending := rfl

@[simp] theorem setLatch_c (p : Path) (a : Nat) (v : Option Word) (s : State) : (setLatch p a v s).c = s.c := rfl
@[simp] theorem setLatch_frame (p : Path) (a : Nat) (v : Option Word) (s : State) : (setLatch p a v s).frame = s.frame := rfl
@[simp] theorem setLatch_ord (p : Path) (a : Nat) (v : Option Word) (s : State) : (setLatch p a v s).ord = s.ord := rfl
@[simp] theorem setLatch_freeIdx (p : Path) (a : Nat) (v : Option Word) (s : State) : (setLatch p a v s).freeIdx = s.freeIdx := rfl
@[simp] theorem setLatch_regs (p : Path) (a : Nat) (v : Option Word) (s : State) : (setLatch p a v s).regs = s.regs := rfl
@[simp] theorem setLatch_staged (p : Path) (a : Nat) (v : Option Word) (s : State) : (setLatch p a v s).staged = s.staged := rfl
@[simp] theorem setLatch_dspPend (p : Path) (a : Nat) (v : Option Word) (s : State) : (setLatch p a v s).dspPend = s.dspPend := rfl
@[simp] theorem setLatch_dspQ (p : Path) (a : Nat) (v : Option Word) (s : State) : (setLatch p a v s).dspQ = s.dspQ := rfl
@[simp] theorem setLatch_rd (p : Path) (a : Nat) (v : Option Word) (s : State) : (setLatch p a v s).rd = s.rd := rfl
@[simp] theorem setLatch_pwr (p : Path) (a : Nat) (v : Option Word) (s : State) : (setLatch p a v s).pwr = s.pwr := rfl
@[simp] theorem setLatch_dies (p : Path) (a : Nat) (v : Option Word) (s : State) : (setLatch p a v s).dies = s.dies := rfl
@[simp] theorem setLatch_hub (p : Path) (a : Nat) (v : Option Word) (s : State) : (setLatch p a v s).hub = s.hub := rfl
@[simp] theorem setLatch_dsp (p : Path) (a : Nat) (v : Option Word) (s : State) : (setLatch p a v s).dsp = s.dsp := rfl
@[simp] theorem setLatch_cmt (p : Path) (a : Nat) (v : Option Word) (s : State) : (setLatch p a v s).cmt = s.cmt := rfl
@[simp] theorem setLatch_evt (p : Path) (a : Nat) (v : Option Word) (s : State) : (setLatch p a v s).evt = s.evt := rfl
@[simp] theorem setLatch_chans (p : Path) (a : Nat) (v : Option Word) (s : State) : (setLatch p a v s).chans = s.chans := rfl
@[simp] theorem setLatch_taps (p : Path) (a : Nat) (v : Option Word) (s : State) : (setLatch p a v s).taps = s.taps := rfl
@[simp] theorem setLatch_lts (p : Path) (a : Nat) (v : Option Word) (s : State) : (setLatch p a v s).lts = s.lts := rfl
@[simp] theorem setLatch_ltWait (p : Path) (a : Nat) (v : Option Word) (s : State) : (setLatch p a v s).ltWait = s.ltWait := rfl
@[simp] theorem setLatch_ltRes (p : Path) (a : Nat) (v : Option Word) (s : State) : (setLatch p a v s).ltRes = s.ltRes := rfl
@[simp] theorem setLatch_ltTicks (p : Path) (a : Nat) (v : Option Word) (s : State) : (setLatch p a v s).ltTicks = s.ltTicks := rfl
@[simp] theorem setLatch_modStart (p : Path) (a : Nat) (v : Option Word) (s : State) : (setLatch p a v s).modStart = s.modStart := rfl
@[simp] theorem setLatch_startAt (p : Path) (a : Nat) (v : Option Word) (s : State) : (setLatch p a v s).startAt = s.startAt := rfl
@[simp] theorem setLatch_restart (p : Path) (a : Nat) (v : Option Word) (s : State) : (setLatch p a v s).restart = s.restart := rfl
@[simp] theorem setLatch_excs (p : Path) (a : Nat) (v : Option Word) (s : State) : (setLatch p a v s).excs = s.excs := rfl
@[simp] theorem setLatch_refs (p : Path) (a : Nat) (v : Option Word) (s : State) : (setLatch p a v s).refs = s.refs := rfl
@[simp] theorem setLatch_auxs (p : Path) (a : Nat) (v : Option Word) (s : State) : (setLatch p a v s).auxs = s.auxs := rfl
@[simp] theorem setLatch_slots (p : Path) (a : Nat) (v : Option Word) (s : State) : (setLatch p a v s).slots = s.slots := rfl
@[simp] theorem setLatch_coef (p : Path) (a : Nat) (v : Option Word) (s : State) : (setLatch p a v s).coef = s.coef := rfl
@[simp] theorem setLatch_cbanks (p : Path) (a : Nat) (v : Option Word) (s : State) : (setLatch p a v s).cbanks = s.cbanks := rfl
@[simp] theorem setLatch_profs (p : Path) (a : Nat) (v : Option Word) (s : State) : (setLatch p a v s).profs = s.profs := rfl
@[simp] theorem setLatch_sealing (p : Path) (a : Nat) (v : Option Word) (s : State) : (setLatch p a v s).sealing = s.sealing := rfl
@[simp] theorem setLatch_tmb (p : Path) (a : Nat) (v : Option Word) (s : State) : (setLatch p a v s).tmb = s.tmb := rfl
@[simp] theorem setLatch_seqAgree (p : Path) (a : Nat) (v : Option Word) (s : State) : (setLatch p a v s).seqAgree = s.seqAgree := rfl
@[simp] theorem setLatch_lin (p : Path) (a : Nat) (v : Option Word) (s : State) : (setLatch p a v s).lin = s.lin := rfl
@[simp] theorem setLatch_lanes (p : Path) (a : Nat) (v : Option Word) (s : State) : (setLatch p a v s).lanes = s.lanes := rfl
@[simp] theorem setLatch_passes (p : Path) (a : Nat) (v : Option Word) (s : State) : (setLatch p a v s).passes = s.passes := rfl
@[simp] theorem setLatch_grecs (p : Path) (a : Nat) (v : Option Word) (s : State) : (setLatch p a v s).grecs = s.grecs := rfl
@[simp] theorem setLatch_streams (p : Path) (a : Nat) (v : Option Word) (s : State) : (setLatch p a v s).streams = s.streams := rfl
@[simp] theorem setLatch_queues (p : Path) (a : Nat) (v : Option Word) (s : State) : (setLatch p a v s).queues = s.queues := rfl
@[simp] theorem setLatch_rwdSt (p : Path) (a : Nat) (v : Option Word) (s : State) : (setLatch p a v s).rwdSt = s.rwdSt := rfl
@[simp] theorem setLatch_tunits (p : Path) (a : Nat) (v : Option Word) (s : State) : (setLatch p a v s).tunits = s.tunits := rfl
@[simp] theorem setLatch_plans (p : Path) (a : Nat) (v : Option Word) (s : State) : (setLatch p a v s).plans = s.plans := rfl
@[simp] theorem setLatch_gunits (p : Path) (a : Nat) (v : Option Word) (s : State) : (setLatch p a v s).gunits = s.gunits := rfl
@[simp] theorem setLatch_dups (p : Path) (a : Nat) (v : Option Word) (s : State) : (setLatch p a v s).dups = s.dups := rfl
@[simp] theorem setLatch_pubId (p : Path) (a : Nat) (v : Option Word) (s : State) : (setLatch p a v s).pubId = s.pubId := rfl
@[simp] theorem setLatch_arc (p : Path) (a : Nat) (v : Option Word) (s : State) : (setLatch p a v s).arc = s.arc := rfl
@[simp] theorem setLatch_dcmp (p : Path) (a : Nat) (v : Option Word) (s : State) : (setLatch p a v s).dcmp = s.dcmp := rfl
@[simp] theorem setLatch_mem (p : Path) (a : Nat) (v : Option Word) (s : State) : (setLatch p a v s).mem = s.mem := rfl
@[simp] theorem setLatch_rtePath (p : Path) (a : Nat) (v : Option Word) (s : State) : (setLatch p a v s).rtePath = s.rtePath := rfl
@[simp] theorem setLatch_twn (p : Path) (a : Nat) (v : Option Word) (s : State) : (setLatch p a v s).twn = s.twn := rfl
@[simp] theorem setLatch_bcn (p : Path) (a : Nat) (v : Option Word) (s : State) : (setLatch p a v s).bcn = s.bcn := rfl
@[simp] theorem setLatch_jtag (p : Path) (a : Nat) (v : Option Word) (s : State) : (setLatch p a v s).jtag = s.jtag := rfl
@[simp] theorem setLatch_hst (p : Path) (a : Nat) (v : Option Word) (s : State) : (setLatch p a v s).hst = s.hst := rfl
@[simp] theorem setLatch_tst (p : Path) (a : Nat) (v : Option Word) (s : State) : (setLatch p a v s).tst = s.tst := rfl
@[simp] theorem setLatch_flight (p : Path) (a : Nat) (v : Option Word) (s : State) : (setLatch p a v s).flight = s.flight := rfl
@[simp] theorem setLatch_compl (p : Path) (a : Nat) (v : Option Word) (s : State) : (setLatch p a v s).compl = s.compl := rfl
@[simp] theorem setLatch_pending (p : Path) (a : Nat) (v : Option Word) (s : State) : (setLatch p a v s).pending = s.pending := rfl

@[simp] theorem modProf_c (i : Nat) (f : Prof → Prof) (s : State) : (modProf i f s).c = s.c := rfl
@[simp] theorem modProf_frame (i : Nat) (f : Prof → Prof) (s : State) : (modProf i f s).frame = s.frame := rfl
@[simp] theorem modProf_ord (i : Nat) (f : Prof → Prof) (s : State) : (modProf i f s).ord = s.ord := rfl
@[simp] theorem modProf_freeIdx (i : Nat) (f : Prof → Prof) (s : State) : (modProf i f s).freeIdx = s.freeIdx := rfl
@[simp] theorem modProf_regs (i : Nat) (f : Prof → Prof) (s : State) : (modProf i f s).regs = s.regs := rfl
@[simp] theorem modProf_staged (i : Nat) (f : Prof → Prof) (s : State) : (modProf i f s).staged = s.staged := rfl
@[simp] theorem modProf_dspPend (i : Nat) (f : Prof → Prof) (s : State) : (modProf i f s).dspPend = s.dspPend := rfl
@[simp] theorem modProf_dspQ (i : Nat) (f : Prof → Prof) (s : State) : (modProf i f s).dspQ = s.dspQ := rfl
@[simp] theorem modProf_hiLatch (i : Nat) (f : Prof → Prof) (s : State) : (modProf i f s).hiLatch = s.hiLatch := rfl
@[simp] theorem modProf_rd (i : Nat) (f : Prof → Prof) (s : State) : (modProf i f s).rd = s.rd := rfl
@[simp] theorem modProf_pwr (i : Nat) (f : Prof → Prof) (s : State) : (modProf i f s).pwr = s.pwr := rfl
@[simp] theorem modProf_dies (i : Nat) (f : Prof → Prof) (s : State) : (modProf i f s).dies = s.dies := rfl
@[simp] theorem modProf_hub (i : Nat) (f : Prof → Prof) (s : State) : (modProf i f s).hub = s.hub := rfl
@[simp] theorem modProf_dsp (i : Nat) (f : Prof → Prof) (s : State) : (modProf i f s).dsp = s.dsp := rfl
@[simp] theorem modProf_cmt (i : Nat) (f : Prof → Prof) (s : State) : (modProf i f s).cmt = s.cmt := rfl
@[simp] theorem modProf_evt (i : Nat) (f : Prof → Prof) (s : State) : (modProf i f s).evt = s.evt := rfl
@[simp] theorem modProf_chans (i : Nat) (f : Prof → Prof) (s : State) : (modProf i f s).chans = s.chans := rfl
@[simp] theorem modProf_taps (i : Nat) (f : Prof → Prof) (s : State) : (modProf i f s).taps = s.taps := rfl
@[simp] theorem modProf_lts (i : Nat) (f : Prof → Prof) (s : State) : (modProf i f s).lts = s.lts := rfl
@[simp] theorem modProf_ltWait (i : Nat) (f : Prof → Prof) (s : State) : (modProf i f s).ltWait = s.ltWait := rfl
@[simp] theorem modProf_ltRes (i : Nat) (f : Prof → Prof) (s : State) : (modProf i f s).ltRes = s.ltRes := rfl
@[simp] theorem modProf_ltTicks (i : Nat) (f : Prof → Prof) (s : State) : (modProf i f s).ltTicks = s.ltTicks := rfl
@[simp] theorem modProf_modStart (i : Nat) (f : Prof → Prof) (s : State) : (modProf i f s).modStart = s.modStart := rfl
@[simp] theorem modProf_startAt (i : Nat) (f : Prof → Prof) (s : State) : (modProf i f s).startAt = s.startAt := rfl
@[simp] theorem modProf_restart (i : Nat) (f : Prof → Prof) (s : State) : (modProf i f s).restart = s.restart := rfl
@[simp] theorem modProf_excs (i : Nat) (f : Prof → Prof) (s : State) : (modProf i f s).excs = s.excs := rfl
@[simp] theorem modProf_refs (i : Nat) (f : Prof → Prof) (s : State) : (modProf i f s).refs = s.refs := rfl
@[simp] theorem modProf_auxs (i : Nat) (f : Prof → Prof) (s : State) : (modProf i f s).auxs = s.auxs := rfl
@[simp] theorem modProf_slots (i : Nat) (f : Prof → Prof) (s : State) : (modProf i f s).slots = s.slots := rfl
@[simp] theorem modProf_coef (i : Nat) (f : Prof → Prof) (s : State) : (modProf i f s).coef = s.coef := rfl
@[simp] theorem modProf_cbanks (i : Nat) (f : Prof → Prof) (s : State) : (modProf i f s).cbanks = s.cbanks := rfl
@[simp] theorem modProf_sealing (i : Nat) (f : Prof → Prof) (s : State) : (modProf i f s).sealing = s.sealing := rfl
@[simp] theorem modProf_tmb (i : Nat) (f : Prof → Prof) (s : State) : (modProf i f s).tmb = s.tmb := rfl
@[simp] theorem modProf_seqAgree (i : Nat) (f : Prof → Prof) (s : State) : (modProf i f s).seqAgree = s.seqAgree := rfl
@[simp] theorem modProf_lin (i : Nat) (f : Prof → Prof) (s : State) : (modProf i f s).lin = s.lin := rfl
@[simp] theorem modProf_lanes (i : Nat) (f : Prof → Prof) (s : State) : (modProf i f s).lanes = s.lanes := rfl
@[simp] theorem modProf_passes (i : Nat) (f : Prof → Prof) (s : State) : (modProf i f s).passes = s.passes := rfl
@[simp] theorem modProf_grecs (i : Nat) (f : Prof → Prof) (s : State) : (modProf i f s).grecs = s.grecs := rfl
@[simp] theorem modProf_streams (i : Nat) (f : Prof → Prof) (s : State) : (modProf i f s).streams = s.streams := rfl
@[simp] theorem modProf_queues (i : Nat) (f : Prof → Prof) (s : State) : (modProf i f s).queues = s.queues := rfl
@[simp] theorem modProf_rwdSt (i : Nat) (f : Prof → Prof) (s : State) : (modProf i f s).rwdSt = s.rwdSt := rfl
@[simp] theorem modProf_tunits (i : Nat) (f : Prof → Prof) (s : State) : (modProf i f s).tunits = s.tunits := rfl
@[simp] theorem modProf_plans (i : Nat) (f : Prof → Prof) (s : State) : (modProf i f s).plans = s.plans := rfl
@[simp] theorem modProf_gunits (i : Nat) (f : Prof → Prof) (s : State) : (modProf i f s).gunits = s.gunits := rfl
@[simp] theorem modProf_dups (i : Nat) (f : Prof → Prof) (s : State) : (modProf i f s).dups = s.dups := rfl
@[simp] theorem modProf_pubId (i : Nat) (f : Prof → Prof) (s : State) : (modProf i f s).pubId = s.pubId := rfl
@[simp] theorem modProf_arc (i : Nat) (f : Prof → Prof) (s : State) : (modProf i f s).arc = s.arc := rfl
@[simp] theorem modProf_dcmp (i : Nat) (f : Prof → Prof) (s : State) : (modProf i f s).dcmp = s.dcmp := rfl
@[simp] theorem modProf_mem (i : Nat) (f : Prof → Prof) (s : State) : (modProf i f s).mem = s.mem := rfl
@[simp] theorem modProf_rtePath (i : Nat) (f : Prof → Prof) (s : State) : (modProf i f s).rtePath = s.rtePath := rfl
@[simp] theorem modProf_twn (i : Nat) (f : Prof → Prof) (s : State) : (modProf i f s).twn = s.twn := rfl
@[simp] theorem modProf_bcn (i : Nat) (f : Prof → Prof) (s : State) : (modProf i f s).bcn = s.bcn := rfl
@[simp] theorem modProf_jtag (i : Nat) (f : Prof → Prof) (s : State) : (modProf i f s).jtag = s.jtag := rfl
@[simp] theorem modProf_hst (i : Nat) (f : Prof → Prof) (s : State) : (modProf i f s).hst = s.hst := rfl
@[simp] theorem modProf_tst (i : Nat) (f : Prof → Prof) (s : State) : (modProf i f s).tst = s.tst := rfl
@[simp] theorem modProf_flight (i : Nat) (f : Prof → Prof) (s : State) : (modProf i f s).flight = s.flight := rfl
@[simp] theorem modProf_compl (i : Nat) (f : Prof → Prof) (s : State) : (modProf i f s).compl = s.compl := rfl
@[simp] theorem modProf_pending (i : Nat) (f : Prof → Prof) (s : State) : (modProf i f s).pending = s.pending := rfl

@[simp] theorem modGunit_c (u : Nat) (f : GUnit → GUnit) (s : State) : (modGunit u f s).c = s.c := rfl
@[simp] theorem modGunit_frame (u : Nat) (f : GUnit → GUnit) (s : State) : (modGunit u f s).frame = s.frame := rfl
@[simp] theorem modGunit_ord (u : Nat) (f : GUnit → GUnit) (s : State) : (modGunit u f s).ord = s.ord := rfl
@[simp] theorem modGunit_freeIdx (u : Nat) (f : GUnit → GUnit) (s : State) : (modGunit u f s).freeIdx = s.freeIdx := rfl
@[simp] theorem modGunit_regs (u : Nat) (f : GUnit → GUnit) (s : State) : (modGunit u f s).regs = s.regs := rfl
@[simp] theorem modGunit_staged (u : Nat) (f : GUnit → GUnit) (s : State) : (modGunit u f s).staged = s.staged := rfl
@[simp] theorem modGunit_dspPend (u : Nat) (f : GUnit → GUnit) (s : State) : (modGunit u f s).dspPend = s.dspPend := rfl
@[simp] theorem modGunit_dspQ (u : Nat) (f : GUnit → GUnit) (s : State) : (modGunit u f s).dspQ = s.dspQ := rfl
@[simp] theorem modGunit_hiLatch (u : Nat) (f : GUnit → GUnit) (s : State) : (modGunit u f s).hiLatch = s.hiLatch := rfl
@[simp] theorem modGunit_rd (u : Nat) (f : GUnit → GUnit) (s : State) : (modGunit u f s).rd = s.rd := rfl
@[simp] theorem modGunit_pwr (u : Nat) (f : GUnit → GUnit) (s : State) : (modGunit u f s).pwr = s.pwr := rfl
@[simp] theorem modGunit_dies (u : Nat) (f : GUnit → GUnit) (s : State) : (modGunit u f s).dies = s.dies := rfl
@[simp] theorem modGunit_hub (u : Nat) (f : GUnit → GUnit) (s : State) : (modGunit u f s).hub = s.hub := rfl
@[simp] theorem modGunit_dsp (u : Nat) (f : GUnit → GUnit) (s : State) : (modGunit u f s).dsp = s.dsp := rfl
@[simp] theorem modGunit_cmt (u : Nat) (f : GUnit → GUnit) (s : State) : (modGunit u f s).cmt = s.cmt := rfl
@[simp] theorem modGunit_evt (u : Nat) (f : GUnit → GUnit) (s : State) : (modGunit u f s).evt = s.evt := rfl
@[simp] theorem modGunit_chans (u : Nat) (f : GUnit → GUnit) (s : State) : (modGunit u f s).chans = s.chans := rfl
@[simp] theorem modGunit_taps (u : Nat) (f : GUnit → GUnit) (s : State) : (modGunit u f s).taps = s.taps := rfl
@[simp] theorem modGunit_lts (u : Nat) (f : GUnit → GUnit) (s : State) : (modGunit u f s).lts = s.lts := rfl
@[simp] theorem modGunit_ltWait (u : Nat) (f : GUnit → GUnit) (s : State) : (modGunit u f s).ltWait = s.ltWait := rfl
@[simp] theorem modGunit_ltRes (u : Nat) (f : GUnit → GUnit) (s : State) : (modGunit u f s).ltRes = s.ltRes := rfl
@[simp] theorem modGunit_ltTicks (u : Nat) (f : GUnit → GUnit) (s : State) : (modGunit u f s).ltTicks = s.ltTicks := rfl
@[simp] theorem modGunit_modStart (u : Nat) (f : GUnit → GUnit) (s : State) : (modGunit u f s).modStart = s.modStart := rfl
@[simp] theorem modGunit_startAt (u : Nat) (f : GUnit → GUnit) (s : State) : (modGunit u f s).startAt = s.startAt := rfl
@[simp] theorem modGunit_restart (u : Nat) (f : GUnit → GUnit) (s : State) : (modGunit u f s).restart = s.restart := rfl
@[simp] theorem modGunit_excs (u : Nat) (f : GUnit → GUnit) (s : State) : (modGunit u f s).excs = s.excs := rfl
@[simp] theorem modGunit_refs (u : Nat) (f : GUnit → GUnit) (s : State) : (modGunit u f s).refs = s.refs := rfl
@[simp] theorem modGunit_auxs (u : Nat) (f : GUnit → GUnit) (s : State) : (modGunit u f s).auxs = s.auxs := rfl
@[simp] theorem modGunit_slots (u : Nat) (f : GUnit → GUnit) (s : State) : (modGunit u f s).slots = s.slots := rfl
@[simp] theorem modGunit_coef (u : Nat) (f : GUnit → GUnit) (s : State) : (modGunit u f s).coef = s.coef := rfl
@[simp] theorem modGunit_cbanks (u : Nat) (f : GUnit → GUnit) (s : State) : (modGunit u f s).cbanks = s.cbanks := rfl
@[simp] theorem modGunit_profs (u : Nat) (f : GUnit → GUnit) (s : State) : (modGunit u f s).profs = s.profs := rfl
@[simp] theorem modGunit_sealing (u : Nat) (f : GUnit → GUnit) (s : State) : (modGunit u f s).sealing = s.sealing := rfl
@[simp] theorem modGunit_tmb (u : Nat) (f : GUnit → GUnit) (s : State) : (modGunit u f s).tmb = s.tmb := rfl
@[simp] theorem modGunit_seqAgree (u : Nat) (f : GUnit → GUnit) (s : State) : (modGunit u f s).seqAgree = s.seqAgree := rfl
@[simp] theorem modGunit_lin (u : Nat) (f : GUnit → GUnit) (s : State) : (modGunit u f s).lin = s.lin := rfl
@[simp] theorem modGunit_lanes (u : Nat) (f : GUnit → GUnit) (s : State) : (modGunit u f s).lanes = s.lanes := rfl
@[simp] theorem modGunit_passes (u : Nat) (f : GUnit → GUnit) (s : State) : (modGunit u f s).passes = s.passes := rfl
@[simp] theorem modGunit_grecs (u : Nat) (f : GUnit → GUnit) (s : State) : (modGunit u f s).grecs = s.grecs := rfl
@[simp] theorem modGunit_streams (u : Nat) (f : GUnit → GUnit) (s : State) : (modGunit u f s).streams = s.streams := rfl
@[simp] theorem modGunit_queues (u : Nat) (f : GUnit → GUnit) (s : State) : (modGunit u f s).queues = s.queues := rfl
@[simp] theorem modGunit_rwdSt (u : Nat) (f : GUnit → GUnit) (s : State) : (modGunit u f s).rwdSt = s.rwdSt := rfl
@[simp] theorem modGunit_tunits (u : Nat) (f : GUnit → GUnit) (s : State) : (modGunit u f s).tunits = s.tunits := rfl
@[simp] theorem modGunit_plans (u : Nat) (f : GUnit → GUnit) (s : State) : (modGunit u f s).plans = s.plans := rfl
@[simp] theorem modGunit_dups (u : Nat) (f : GUnit → GUnit) (s : State) : (modGunit u f s).dups = s.dups := rfl
@[simp] theorem modGunit_pubId (u : Nat) (f : GUnit → GUnit) (s : State) : (modGunit u f s).pubId = s.pubId := rfl
@[simp] theorem modGunit_arc (u : Nat) (f : GUnit → GUnit) (s : State) : (modGunit u f s).arc = s.arc := rfl
@[simp] theorem modGunit_dcmp (u : Nat) (f : GUnit → GUnit) (s : State) : (modGunit u f s).dcmp = s.dcmp := rfl
@[simp] theorem modGunit_mem (u : Nat) (f : GUnit → GUnit) (s : State) : (modGunit u f s).mem = s.mem := rfl
@[simp] theorem modGunit_rtePath (u : Nat) (f : GUnit → GUnit) (s : State) : (modGunit u f s).rtePath = s.rtePath := rfl
@[simp] theorem modGunit_twn (u : Nat) (f : GUnit → GUnit) (s : State) : (modGunit u f s).twn = s.twn := rfl
@[simp] theorem modGunit_bcn (u : Nat) (f : GUnit → GUnit) (s : State) : (modGunit u f s).bcn = s.bcn := rfl
@[simp] theorem modGunit_jtag (u : Nat) (f : GUnit → GUnit) (s : State) : (modGunit u f s).jtag = s.jtag := rfl
@[simp] theorem modGunit_hst (u : Nat) (f : GUnit → GUnit) (s : State) : (modGunit u f s).hst = s.hst := rfl
@[simp] theorem modGunit_tst (u : Nat) (f : GUnit → GUnit) (s : State) : (modGunit u f s).tst = s.tst := rfl
@[simp] theorem modGunit_flight (u : Nat) (f : GUnit → GUnit) (s : State) : (modGunit u f s).flight = s.flight := rfl
@[simp] theorem modGunit_compl (u : Nat) (f : GUnit → GUnit) (s : State) : (modGunit u f s).compl = s.compl := rfl
@[simp] theorem modGunit_pending (u : Nat) (f : GUnit → GUnit) (s : State) : (modGunit u f s).pending = s.pending := rfl

@[simp] theorem modTunit_c (u : Nat) (f : TUnit → TUnit) (s : State) : (modTunit u f s).c = s.c := rfl
@[simp] theorem modTunit_frame (u : Nat) (f : TUnit → TUnit) (s : State) : (modTunit u f s).frame = s.frame := rfl
@[simp] theorem modTunit_ord (u : Nat) (f : TUnit → TUnit) (s : State) : (modTunit u f s).ord = s.ord := rfl
@[simp] theorem modTunit_freeIdx (u : Nat) (f : TUnit → TUnit) (s : State) : (modTunit u f s).freeIdx = s.freeIdx := rfl
@[simp] theorem modTunit_regs (u : Nat) (f : TUnit → TUnit) (s : State) : (modTunit u f s).regs = s.regs := rfl
@[simp] theorem modTunit_staged (u : Nat) (f : TUnit → TUnit) (s : State) : (modTunit u f s).staged = s.staged := rfl
@[simp] theorem modTunit_dspPend (u : Nat) (f : TUnit → TUnit) (s : State) : (modTunit u f s).dspPend = s.dspPend := rfl
@[simp] theorem modTunit_dspQ (u : Nat) (f : TUnit → TUnit) (s : State) : (modTunit u f s).dspQ = s.dspQ := rfl
@[simp] theorem modTunit_hiLatch (u : Nat) (f : TUnit → TUnit) (s : State) : (modTunit u f s).hiLatch = s.hiLatch := rfl
@[simp] theorem modTunit_rd (u : Nat) (f : TUnit → TUnit) (s : State) : (modTunit u f s).rd = s.rd := rfl
@[simp] theorem modTunit_pwr (u : Nat) (f : TUnit → TUnit) (s : State) : (modTunit u f s).pwr = s.pwr := rfl
@[simp] theorem modTunit_dies (u : Nat) (f : TUnit → TUnit) (s : State) : (modTunit u f s).dies = s.dies := rfl
@[simp] theorem modTunit_hub (u : Nat) (f : TUnit → TUnit) (s : State) : (modTunit u f s).hub = s.hub := rfl
@[simp] theorem modTunit_dsp (u : Nat) (f : TUnit → TUnit) (s : State) : (modTunit u f s).dsp = s.dsp := rfl
@[simp] theorem modTunit_cmt (u : Nat) (f : TUnit → TUnit) (s : State) : (modTunit u f s).cmt = s.cmt := rfl
@[simp] theorem modTunit_evt (u : Nat) (f : TUnit → TUnit) (s : State) : (modTunit u f s).evt = s.evt := rfl
@[simp] theorem modTunit_chans (u : Nat) (f : TUnit → TUnit) (s : State) : (modTunit u f s).chans = s.chans := rfl
@[simp] theorem modTunit_taps (u : Nat) (f : TUnit → TUnit) (s : State) : (modTunit u f s).taps = s.taps := rfl
@[simp] theorem modTunit_lts (u : Nat) (f : TUnit → TUnit) (s : State) : (modTunit u f s).lts = s.lts := rfl
@[simp] theorem modTunit_ltWait (u : Nat) (f : TUnit → TUnit) (s : State) : (modTunit u f s).ltWait = s.ltWait := rfl
@[simp] theorem modTunit_ltRes (u : Nat) (f : TUnit → TUnit) (s : State) : (modTunit u f s).ltRes = s.ltRes := rfl
@[simp] theorem modTunit_ltTicks (u : Nat) (f : TUnit → TUnit) (s : State) : (modTunit u f s).ltTicks = s.ltTicks := rfl
@[simp] theorem modTunit_modStart (u : Nat) (f : TUnit → TUnit) (s : State) : (modTunit u f s).modStart = s.modStart := rfl
@[simp] theorem modTunit_startAt (u : Nat) (f : TUnit → TUnit) (s : State) : (modTunit u f s).startAt = s.startAt := rfl
@[simp] theorem modTunit_restart (u : Nat) (f : TUnit → TUnit) (s : State) : (modTunit u f s).restart = s.restart := rfl
@[simp] theorem modTunit_excs (u : Nat) (f : TUnit → TUnit) (s : State) : (modTunit u f s).excs = s.excs := rfl
@[simp] theorem modTunit_refs (u : Nat) (f : TUnit → TUnit) (s : State) : (modTunit u f s).refs = s.refs := rfl
@[simp] theorem modTunit_auxs (u : Nat) (f : TUnit → TUnit) (s : State) : (modTunit u f s).auxs = s.auxs := rfl
@[simp] theorem modTunit_slots (u : Nat) (f : TUnit → TUnit) (s : State) : (modTunit u f s).slots = s.slots := rfl
@[simp] theorem modTunit_coef (u : Nat) (f : TUnit → TUnit) (s : State) : (modTunit u f s).coef = s.coef := rfl
@[simp] theorem modTunit_cbanks (u : Nat) (f : TUnit → TUnit) (s : State) : (modTunit u f s).cbanks = s.cbanks := rfl
@[simp] theorem modTunit_profs (u : Nat) (f : TUnit → TUnit) (s : State) : (modTunit u f s).profs = s.profs := rfl
@[simp] theorem modTunit_sealing (u : Nat) (f : TUnit → TUnit) (s : State) : (modTunit u f s).sealing = s.sealing := rfl
@[simp] theorem modTunit_tmb (u : Nat) (f : TUnit → TUnit) (s : State) : (modTunit u f s).tmb = s.tmb := rfl
@[simp] theorem modTunit_seqAgree (u : Nat) (f : TUnit → TUnit) (s : State) : (modTunit u f s).seqAgree = s.seqAgree := rfl
@[simp] theorem modTunit_lin (u : Nat) (f : TUnit → TUnit) (s : State) : (modTunit u f s).lin = s.lin := rfl
@[simp] theorem modTunit_lanes (u : Nat) (f : TUnit → TUnit) (s : State) : (modTunit u f s).lanes = s.lanes := rfl
@[simp] theorem modTunit_passes (u : Nat) (f : TUnit → TUnit) (s : State) : (modTunit u f s).passes = s.passes := rfl
@[simp] theorem modTunit_grecs (u : Nat) (f : TUnit → TUnit) (s : State) : (modTunit u f s).grecs = s.grecs := rfl
@[simp] theorem modTunit_streams (u : Nat) (f : TUnit → TUnit) (s : State) : (modTunit u f s).streams = s.streams := rfl
@[simp] theorem modTunit_queues (u : Nat) (f : TUnit → TUnit) (s : State) : (modTunit u f s).queues = s.queues := rfl
@[simp] theorem modTunit_rwdSt (u : Nat) (f : TUnit → TUnit) (s : State) : (modTunit u f s).rwdSt = s.rwdSt := rfl
@[simp] theorem modTunit_plans (u : Nat) (f : TUnit → TUnit) (s : State) : (modTunit u f s).plans = s.plans := rfl
@[simp] theorem modTunit_gunits (u : Nat) (f : TUnit → TUnit) (s : State) : (modTunit u f s).gunits = s.gunits := rfl
@[simp] theorem modTunit_dups (u : Nat) (f : TUnit → TUnit) (s : State) : (modTunit u f s).dups = s.dups := rfl
@[simp] theorem modTunit_pubId (u : Nat) (f : TUnit → TUnit) (s : State) : (modTunit u f s).pubId = s.pubId := rfl
@[simp] theorem modTunit_arc (u : Nat) (f : TUnit → TUnit) (s : State) : (modTunit u f s).arc = s.arc := rfl
@[simp] theorem modTunit_dcmp (u : Nat) (f : TUnit → TUnit) (s : State) : (modTunit u f s).dcmp = s.dcmp := rfl
@[simp] theorem modTunit_mem (u : Nat) (f : TUnit → TUnit) (s : State) : (modTunit u f s).mem = s.mem := rfl
@[simp] theorem modTunit_rtePath (u : Nat) (f : TUnit → TUnit) (s : State) : (modTunit u f s).rtePath = s.rtePath := rfl
@[simp] theorem modTunit_twn (u : Nat) (f : TUnit → TUnit) (s : State) : (modTunit u f s).twn = s.twn := rfl
@[simp] theorem modTunit_bcn (u : Nat) (f : TUnit → TUnit) (s : State) : (modTunit u f s).bcn = s.bcn := rfl
@[simp] theorem modTunit_jtag (u : Nat) (f : TUnit → TUnit) (s : State) : (modTunit u f s).jtag = s.jtag := rfl
@[simp] theorem modTunit_hst (u : Nat) (f : TUnit → TUnit) (s : State) : (modTunit u f s).hst = s.hst := rfl
@[simp] theorem modTunit_tst (u : Nat) (f : TUnit → TUnit) (s : State) : (modTunit u f s).tst = s.tst := rfl
@[simp] theorem modTunit_flight (u : Nat) (f : TUnit → TUnit) (s : State) : (modTunit u f s).flight = s.flight := rfl
@[simp] theorem modTunit_compl (u : Nat) (f : TUnit → TUnit) (s : State) : (modTunit u f s).compl = s.compl := rfl
@[simp] theorem modTunit_pending (u : Nat) (f : TUnit → TUnit) (s : State) : (modTunit u f s).pending = s.pending := rfl

@[simp] theorem modDsp_c (f : Dsp → Dsp) (s : State) : (modDsp f s).c = s.c := rfl
@[simp] theorem modDsp_frame (f : Dsp → Dsp) (s : State) : (modDsp f s).frame = s.frame := rfl
@[simp] theorem modDsp_ord (f : Dsp → Dsp) (s : State) : (modDsp f s).ord = s.ord := rfl
@[simp] theorem modDsp_freeIdx (f : Dsp → Dsp) (s : State) : (modDsp f s).freeIdx = s.freeIdx := rfl
@[simp] theorem modDsp_regs (f : Dsp → Dsp) (s : State) : (modDsp f s).regs = s.regs := rfl
@[simp] theorem modDsp_staged (f : Dsp → Dsp) (s : State) : (modDsp f s).staged = s.staged := rfl
@[simp] theorem modDsp_dspPend (f : Dsp → Dsp) (s : State) : (modDsp f s).dspPend = s.dspPend := rfl
@[simp] theorem modDsp_dspQ (f : Dsp → Dsp) (s : State) : (modDsp f s).dspQ = s.dspQ := rfl
@[simp] theorem modDsp_hiLatch (f : Dsp → Dsp) (s : State) : (modDsp f s).hiLatch = s.hiLatch := rfl
@[simp] theorem modDsp_rd (f : Dsp → Dsp) (s : State) : (modDsp f s).rd = s.rd := rfl
@[simp] theorem modDsp_pwr (f : Dsp → Dsp) (s : State) : (modDsp f s).pwr = s.pwr := rfl
@[simp] theorem modDsp_dies (f : Dsp → Dsp) (s : State) : (modDsp f s).dies = s.dies := rfl
@[simp] theorem modDsp_hub (f : Dsp → Dsp) (s : State) : (modDsp f s).hub = s.hub := rfl
@[simp] theorem modDsp_cmt (f : Dsp → Dsp) (s : State) : (modDsp f s).cmt = s.cmt := rfl
@[simp] theorem modDsp_evt (f : Dsp → Dsp) (s : State) : (modDsp f s).evt = s.evt := rfl
@[simp] theorem modDsp_chans (f : Dsp → Dsp) (s : State) : (modDsp f s).chans = s.chans := rfl
@[simp] theorem modDsp_taps (f : Dsp → Dsp) (s : State) : (modDsp f s).taps = s.taps := rfl
@[simp] theorem modDsp_lts (f : Dsp → Dsp) (s : State) : (modDsp f s).lts = s.lts := rfl
@[simp] theorem modDsp_ltWait (f : Dsp → Dsp) (s : State) : (modDsp f s).ltWait = s.ltWait := rfl
@[simp] theorem modDsp_ltRes (f : Dsp → Dsp) (s : State) : (modDsp f s).ltRes = s.ltRes := rfl
@[simp] theorem modDsp_ltTicks (f : Dsp → Dsp) (s : State) : (modDsp f s).ltTicks = s.ltTicks := rfl
@[simp] theorem modDsp_modStart (f : Dsp → Dsp) (s : State) : (modDsp f s).modStart = s.modStart := rfl
@[simp] theorem modDsp_startAt (f : Dsp → Dsp) (s : State) : (modDsp f s).startAt = s.startAt := rfl
@[simp] theorem modDsp_restart (f : Dsp → Dsp) (s : State) : (modDsp f s).restart = s.restart := rfl
@[simp] theorem modDsp_excs (f : Dsp → Dsp) (s : State) : (modDsp f s).excs = s.excs := rfl
@[simp] theorem modDsp_refs (f : Dsp → Dsp) (s : State) : (modDsp f s).refs = s.refs := rfl
@[simp] theorem modDsp_auxs (f : Dsp → Dsp) (s : State) : (modDsp f s).auxs = s.auxs := rfl
@[simp] theorem modDsp_slots (f : Dsp → Dsp) (s : State) : (modDsp f s).slots = s.slots := rfl
@[simp] theorem modDsp_coef (f : Dsp → Dsp) (s : State) : (modDsp f s).coef = s.coef := rfl
@[simp] theorem modDsp_cbanks (f : Dsp → Dsp) (s : State) : (modDsp f s).cbanks = s.cbanks := rfl
@[simp] theorem modDsp_profs (f : Dsp → Dsp) (s : State) : (modDsp f s).profs = s.profs := rfl
@[simp] theorem modDsp_sealing (f : Dsp → Dsp) (s : State) : (modDsp f s).sealing = s.sealing := rfl
@[simp] theorem modDsp_tmb (f : Dsp → Dsp) (s : State) : (modDsp f s).tmb = s.tmb := rfl
@[simp] theorem modDsp_seqAgree (f : Dsp → Dsp) (s : State) : (modDsp f s).seqAgree = s.seqAgree := rfl
@[simp] theorem modDsp_lin (f : Dsp → Dsp) (s : State) : (modDsp f s).lin = s.lin := rfl
@[simp] theorem modDsp_lanes (f : Dsp → Dsp) (s : State) : (modDsp f s).lanes = s.lanes := rfl
@[simp] theorem modDsp_passes (f : Dsp → Dsp) (s : State) : (modDsp f s).passes = s.passes := rfl
@[simp] theorem modDsp_grecs (f : Dsp → Dsp) (s : State) : (modDsp f s).grecs = s.grecs := rfl
@[simp] theorem modDsp_streams (f : Dsp → Dsp) (s : State) : (modDsp f s).streams = s.streams := rfl
@[simp] theorem modDsp_queues (f : Dsp → Dsp) (s : State) : (modDsp f s).queues = s.queues := rfl
@[simp] theorem modDsp_rwdSt (f : Dsp → Dsp) (s : State) : (modDsp f s).rwdSt = s.rwdSt := rfl
@[simp] theorem modDsp_tunits (f : Dsp → Dsp) (s : State) : (modDsp f s).tunits = s.tunits := rfl
@[simp] theorem modDsp_plans (f : Dsp → Dsp) (s : State) : (modDsp f s).plans = s.plans := rfl
@[simp] theorem modDsp_gunits (f : Dsp → Dsp) (s : State) : (modDsp f s).gunits = s.gunits := rfl
@[simp] theorem modDsp_dups (f : Dsp → Dsp) (s : State) : (modDsp f s).dups = s.dups := rfl
@[simp] theorem modDsp_pubId (f : Dsp → Dsp) (s : State) : (modDsp f s).pubId = s.pubId := rfl
@[simp] theorem modDsp_arc (f : Dsp → Dsp) (s : State) : (modDsp f s).arc = s.arc := rfl
@[simp] theorem modDsp_dcmp (f : Dsp → Dsp) (s : State) : (modDsp f s).dcmp = s.dcmp := rfl
@[simp] theorem modDsp_mem (f : Dsp → Dsp) (s : State) : (modDsp f s).mem = s.mem := rfl
@[simp] theorem modDsp_rtePath (f : Dsp → Dsp) (s : State) : (modDsp f s).rtePath = s.rtePath := rfl
@[simp] theorem modDsp_twn (f : Dsp → Dsp) (s : State) : (modDsp f s).twn = s.twn := rfl
@[simp] theorem modDsp_bcn (f : Dsp → Dsp) (s : State) : (modDsp f s).bcn = s.bcn := rfl
@[simp] theorem modDsp_jtag (f : Dsp → Dsp) (s : State) : (modDsp f s).jtag = s.jtag := rfl
@[simp] theorem modDsp_hst (f : Dsp → Dsp) (s : State) : (modDsp f s).hst = s.hst := rfl
@[simp] theorem modDsp_tst (f : Dsp → Dsp) (s : State) : (modDsp f s).tst = s.tst := rfl
@[simp] theorem modDsp_flight (f : Dsp → Dsp) (s : State) : (modDsp f s).flight = s.flight := rfl
@[simp] theorem modDsp_compl (f : Dsp → Dsp) (s : State) : (modDsp f s).compl = s.compl := rfl
@[simp] theorem modDsp_pending (f : Dsp → Dsp) (s : State) : (modDsp f s).pending = s.pending := rfl

@[simp] theorem evtNote_c (k : PageK) (i : Nat) (was : Bool) (s : State) : (evtNote k i was s).c = s.c := by unfold evtNote evtOwe; repeat' (first | rfl | split)
@[simp] theorem evtNote_frame (k : PageK) (i : Nat) (was : Bool) (s : State) : (evtNote k i was s).frame = s.frame := by unfold evtNote evtOwe; repeat' (first | rfl | split)
@[simp] theorem evtNote_ord (k : PageK) (i : Nat) (was : Bool) (s : State) : (evtNote k i was s).ord = s.ord := by unfold evtNote evtOwe; repeat' (first | rfl | split)
@[simp] theorem evtNote_freeIdx (k : PageK) (i : Nat) (was : Bool) (s : State) : (evtNote k i was s).freeIdx = s.freeIdx := by unfold evtNote evtOwe; repeat' (first | rfl | split)
@[simp] theorem evtNote_regs (k : PageK) (i : Nat) (was : Bool) (s : State) : (evtNote k i was s).regs = s.regs := by unfold evtNote evtOwe; repeat' (first | rfl | split)
@[simp] theorem evtNote_staged (k : PageK) (i : Nat) (was : Bool) (s : State) : (evtNote k i was s).staged = s.staged := by unfold evtNote evtOwe; repeat' (first | rfl | split)
@[simp] theorem evtNote_dspPend (k : PageK) (i : Nat) (was : Bool) (s : State) : (evtNote k i was s).dspPend = s.dspPend := by unfold evtNote evtOwe; repeat' (first | rfl | split)
@[simp] theorem evtNote_dspQ (k : PageK) (i : Nat) (was : Bool) (s : State) : (evtNote k i was s).dspQ = s.dspQ := by unfold evtNote evtOwe; repeat' (first | rfl | split)
@[simp] theorem evtNote_hiLatch (k : PageK) (i : Nat) (was : Bool) (s : State) : (evtNote k i was s).hiLatch = s.hiLatch := by unfold evtNote evtOwe; repeat' (first | rfl | split)
@[simp] theorem evtNote_rd (k : PageK) (i : Nat) (was : Bool) (s : State) : (evtNote k i was s).rd = s.rd := by unfold evtNote evtOwe; repeat' (first | rfl | split)
@[simp] theorem evtNote_pwr (k : PageK) (i : Nat) (was : Bool) (s : State) : (evtNote k i was s).pwr = s.pwr := by unfold evtNote evtOwe; repeat' (first | rfl | split)
@[simp] theorem evtNote_dies (k : PageK) (i : Nat) (was : Bool) (s : State) : (evtNote k i was s).dies = s.dies := by unfold evtNote evtOwe; repeat' (first | rfl | split)
@[simp] theorem evtNote_hub (k : PageK) (i : Nat) (was : Bool) (s : State) : (evtNote k i was s).hub = s.hub := by unfold evtNote evtOwe; repeat' (first | rfl | split)
@[simp] theorem evtNote_dsp (k : PageK) (i : Nat) (was : Bool) (s : State) : (evtNote k i was s).dsp = s.dsp := by unfold evtNote evtOwe; repeat' (first | rfl | split)
@[simp] theorem evtNote_cmt (k : PageK) (i : Nat) (was : Bool) (s : State) : (evtNote k i was s).cmt = s.cmt := by unfold evtNote evtOwe; repeat' (first | rfl | split)
@[simp] theorem evtNote_chans (k : PageK) (i : Nat) (was : Bool) (s : State) : (evtNote k i was s).chans = s.chans := by unfold evtNote evtOwe; repeat' (first | rfl | split)
@[simp] theorem evtNote_taps (k : PageK) (i : Nat) (was : Bool) (s : State) : (evtNote k i was s).taps = s.taps := by unfold evtNote evtOwe; repeat' (first | rfl | split)
@[simp] theorem evtNote_lts (k : PageK) (i : Nat) (was : Bool) (s : State) : (evtNote k i was s).lts = s.lts := by unfold evtNote evtOwe; repeat' (first | rfl | split)
@[simp] theorem evtNote_ltWait (k : PageK) (i : Nat) (was : Bool) (s : State) : (evtNote k i was s).ltWait = s.ltWait := by unfold evtNote evtOwe; repeat' (first | rfl | split)
@[simp] theorem evtNote_ltRes (k : PageK) (i : Nat) (was : Bool) (s : State) : (evtNote k i was s).ltRes = s.ltRes := by unfold evtNote evtOwe; repeat' (first | rfl | split)
@[simp] theorem evtNote_ltTicks (k : PageK) (i : Nat) (was : Bool) (s : State) : (evtNote k i was s).ltTicks = s.ltTicks := by unfold evtNote evtOwe; repeat' (first | rfl | split)
@[simp] theorem evtNote_modStart (k : PageK) (i : Nat) (was : Bool) (s : State) : (evtNote k i was s).modStart = s.modStart := by unfold evtNote evtOwe; repeat' (first | rfl | split)
@[simp] theorem evtNote_startAt (k : PageK) (i : Nat) (was : Bool) (s : State) : (evtNote k i was s).startAt = s.startAt := by unfold evtNote evtOwe; repeat' (first | rfl | split)
@[simp] theorem evtNote_restart (k : PageK) (i : Nat) (was : Bool) (s : State) : (evtNote k i was s).restart = s.restart := by unfold evtNote evtOwe; repeat' (first | rfl | split)
@[simp] theorem evtNote_excs (k : PageK) (i : Nat) (was : Bool) (s : State) : (evtNote k i was s).excs = s.excs := by unfold evtNote evtOwe; repeat' (first | rfl | split)
@[simp] theorem evtNote_refs (k : PageK) (i : Nat) (was : Bool) (s : State) : (evtNote k i was s).refs = s.refs := by unfold evtNote evtOwe; repeat' (first | rfl | split)
@[simp] theorem evtNote_auxs (k : PageK) (i : Nat) (was : Bool) (s : State) : (evtNote k i was s).auxs = s.auxs := by unfold evtNote evtOwe; repeat' (first | rfl | split)
@[simp] theorem evtNote_slots (k : PageK) (i : Nat) (was : Bool) (s : State) : (evtNote k i was s).slots = s.slots := by unfold evtNote evtOwe; repeat' (first | rfl | split)
@[simp] theorem evtNote_coef (k : PageK) (i : Nat) (was : Bool) (s : State) : (evtNote k i was s).coef = s.coef := by unfold evtNote evtOwe; repeat' (first | rfl | split)
@[simp] theorem evtNote_cbanks (k : PageK) (i : Nat) (was : Bool) (s : State) : (evtNote k i was s).cbanks = s.cbanks := by unfold evtNote evtOwe; repeat' (first | rfl | split)
@[simp] theorem evtNote_profs (k : PageK) (i : Nat) (was : Bool) (s : State) : (evtNote k i was s).profs = s.profs := by unfold evtNote evtOwe; repeat' (first | rfl | split)
@[simp] theorem evtNote_sealing (k : PageK) (i : Nat) (was : Bool) (s : State) : (evtNote k i was s).sealing = s.sealing := by unfold evtNote evtOwe; repeat' (first | rfl | split)
@[simp] theorem evtNote_tmb (k : PageK) (i : Nat) (was : Bool) (s : State) : (evtNote k i was s).tmb = s.tmb := by unfold evtNote evtOwe; repeat' (first | rfl | split)
@[simp] theorem evtNote_seqAgree (k : PageK) (i : Nat) (was : Bool) (s : State) : (evtNote k i was s).seqAgree = s.seqAgree := by unfold evtNote evtOwe; repeat' (first | rfl | split)
@[simp] theorem evtNote_lin (k : PageK) (i : Nat) (was : Bool) (s : State) : (evtNote k i was s).lin = s.lin := by unfold evtNote evtOwe; repeat' (first | rfl | split)
@[simp] theorem evtNote_lanes (k : PageK) (i : Nat) (was : Bool) (s : State) : (evtNote k i was s).lanes = s.lanes := by unfold evtNote evtOwe; repeat' (first | rfl | split)
@[simp] theorem evtNote_passes (k : PageK) (i : Nat) (was : Bool) (s : State) : (evtNote k i was s).passes = s.passes := by unfold evtNote evtOwe; repeat' (first | rfl | split)
@[simp] theorem evtNote_grecs (k : PageK) (i : Nat) (was : Bool) (s : State) : (evtNote k i was s).grecs = s.grecs := by unfold evtNote evtOwe; repeat' (first | rfl | split)
@[simp] theorem evtNote_streams (k : PageK) (i : Nat) (was : Bool) (s : State) : (evtNote k i was s).streams = s.streams := by unfold evtNote evtOwe; repeat' (first | rfl | split)
@[simp] theorem evtNote_queues (k : PageK) (i : Nat) (was : Bool) (s : State) : (evtNote k i was s).queues = s.queues := by unfold evtNote evtOwe; repeat' (first | rfl | split)
@[simp] theorem evtNote_rwdSt (k : PageK) (i : Nat) (was : Bool) (s : State) : (evtNote k i was s).rwdSt = s.rwdSt := by unfold evtNote evtOwe; repeat' (first | rfl | split)
@[simp] theorem evtNote_tunits (k : PageK) (i : Nat) (was : Bool) (s : State) : (evtNote k i was s).tunits = s.tunits := by unfold evtNote evtOwe; repeat' (first | rfl | split)
@[simp] theorem evtNote_plans (k : PageK) (i : Nat) (was : Bool) (s : State) : (evtNote k i was s).plans = s.plans := by unfold evtNote evtOwe; repeat' (first | rfl | split)
@[simp] theorem evtNote_gunits (k : PageK) (i : Nat) (was : Bool) (s : State) : (evtNote k i was s).gunits = s.gunits := by unfold evtNote evtOwe; repeat' (first | rfl | split)
@[simp] theorem evtNote_dups (k : PageK) (i : Nat) (was : Bool) (s : State) : (evtNote k i was s).dups = s.dups := by unfold evtNote evtOwe; repeat' (first | rfl | split)
@[simp] theorem evtNote_pubId (k : PageK) (i : Nat) (was : Bool) (s : State) : (evtNote k i was s).pubId = s.pubId := by unfold evtNote evtOwe; repeat' (first | rfl | split)
@[simp] theorem evtNote_arc (k : PageK) (i : Nat) (was : Bool) (s : State) : (evtNote k i was s).arc = s.arc := by unfold evtNote evtOwe; repeat' (first | rfl | split)
@[simp] theorem evtNote_dcmp (k : PageK) (i : Nat) (was : Bool) (s : State) : (evtNote k i was s).dcmp = s.dcmp := by unfold evtNote evtOwe; repeat' (first | rfl | split)
@[simp] theorem evtNote_mem (k : PageK) (i : Nat) (was : Bool) (s : State) : (evtNote k i was s).mem = s.mem := by unfold evtNote evtOwe; repeat' (first | rfl | split)
@[simp] theorem evtNote_rtePath (k : PageK) (i : Nat) (was : Bool) (s : State) : (evtNote k i was s).rtePath = s.rtePath := by unfold evtNote evtOwe; repeat' (first | rfl | split)
@[simp] theorem evtNote_twn (k : PageK) (i : Nat) (was : Bool) (s : State) : (evtNote k i was s).twn = s.twn := by unfold evtNote evtOwe; repeat' (first | rfl | split)
@[simp] theorem evtNote_bcn (k : PageK) (i : Nat) (was : Bool) (s : State) : (evtNote k i was s).bcn = s.bcn := by unfold evtNote evtOwe; repeat' (first | rfl | split)
@[simp] theorem evtNote_jtag (k : PageK) (i : Nat) (was : Bool) (s : State) : (evtNote k i was s).jtag = s.jtag := by unfold evtNote evtOwe; repeat' (first | rfl | split)
@[simp] theorem evtNote_hst (k : PageK) (i : Nat) (was : Bool) (s : State) : (evtNote k i was s).hst = s.hst := by unfold evtNote evtOwe; repeat' (first | rfl | split)
@[simp] theorem evtNote_tst (k : PageK) (i : Nat) (was : Bool) (s : State) : (evtNote k i was s).tst = s.tst := by unfold evtNote evtOwe; repeat' (first | rfl | split)
@[simp] theorem evtNote_flight (k : PageK) (i : Nat) (was : Bool) (s : State) : (evtNote k i was s).flight = s.flight := by unfold evtNote evtOwe; repeat' (first | rfl | split)
@[simp] theorem evtNote_compl (k : PageK) (i : Nat) (was : Bool) (s : State) : (evtNote k i was s).compl = s.compl := by unfold evtNote evtOwe; repeat' (first | rfl | split)
@[simp] theorem evtNote_pending (k : PageK) (i : Nat) (was : Bool) (s : State) : (evtNote k i was s).pending = s.pending := by unfold evtNote evtOwe; repeat' (first | rfl | split)

@[simp] theorem bump_c (a n : Nat) (s : State) : (bump a n s).c = s.c := rfl
@[simp] theorem bump_frame (a n : Nat) (s : State) : (bump a n s).frame = s.frame := rfl
@[simp] theorem bump_ord (a n : Nat) (s : State) : (bump a n s).ord = s.ord := rfl
@[simp] theorem bump_freeIdx (a n : Nat) (s : State) : (bump a n s).freeIdx = s.freeIdx := rfl
@[simp] theorem bump_staged (a n : Nat) (s : State) : (bump a n s).staged = s.staged := rfl
@[simp] theorem bump_dspPend (a n : Nat) (s : State) : (bump a n s).dspPend = s.dspPend := rfl
@[simp] theorem bump_dspQ (a n : Nat) (s : State) : (bump a n s).dspQ = s.dspQ := rfl
@[simp] theorem bump_hiLatch (a n : Nat) (s : State) : (bump a n s).hiLatch = s.hiLatch := rfl
@[simp] theorem bump_rd (a n : Nat) (s : State) : (bump a n s).rd = s.rd := rfl
@[simp] theorem bump_pwr (a n : Nat) (s : State) : (bump a n s).pwr = s.pwr := rfl
@[simp] theorem bump_dies (a n : Nat) (s : State) : (bump a n s).dies = s.dies := rfl
@[simp] theorem bump_hub (a n : Nat) (s : State) : (bump a n s).hub = s.hub := rfl
@[simp] theorem bump_dsp (a n : Nat) (s : State) : (bump a n s).dsp = s.dsp := rfl
@[simp] theorem bump_cmt (a n : Nat) (s : State) : (bump a n s).cmt = s.cmt := rfl
@[simp] theorem bump_evt (a n : Nat) (s : State) : (bump a n s).evt = s.evt := rfl
@[simp] theorem bump_chans (a n : Nat) (s : State) : (bump a n s).chans = s.chans := rfl
@[simp] theorem bump_taps (a n : Nat) (s : State) : (bump a n s).taps = s.taps := rfl
@[simp] theorem bump_lts (a n : Nat) (s : State) : (bump a n s).lts = s.lts := rfl
@[simp] theorem bump_ltWait (a n : Nat) (s : State) : (bump a n s).ltWait = s.ltWait := rfl
@[simp] theorem bump_ltRes (a n : Nat) (s : State) : (bump a n s).ltRes = s.ltRes := rfl
@[simp] theorem bump_ltTicks (a n : Nat) (s : State) : (bump a n s).ltTicks = s.ltTicks := rfl
@[simp] theorem bump_modStart (a n : Nat) (s : State) : (bump a n s).modStart = s.modStart := rfl
@[simp] theorem bump_startAt (a n : Nat) (s : State) : (bump a n s).startAt = s.startAt := rfl
@[simp] theorem bump_restart (a n : Nat) (s : State) : (bump a n s).restart = s.restart := rfl
@[simp] theorem bump_excs (a n : Nat) (s : State) : (bump a n s).excs = s.excs := rfl
@[simp] theorem bump_refs (a n : Nat) (s : State) : (bump a n s).refs = s.refs := rfl
@[simp] theorem bump_auxs (a n : Nat) (s : State) : (bump a n s).auxs = s.auxs := rfl
@[simp] theorem bump_slots (a n : Nat) (s : State) : (bump a n s).slots = s.slots := rfl
@[simp] theorem bump_coef (a n : Nat) (s : State) : (bump a n s).coef = s.coef := rfl
@[simp] theorem bump_cbanks (a n : Nat) (s : State) : (bump a n s).cbanks = s.cbanks := rfl
@[simp] theorem bump_profs (a n : Nat) (s : State) : (bump a n s).profs = s.profs := rfl
@[simp] theorem bump_sealing (a n : Nat) (s : State) : (bump a n s).sealing = s.sealing := rfl
@[simp] theorem bump_tmb (a n : Nat) (s : State) : (bump a n s).tmb = s.tmb := rfl
@[simp] theorem bump_seqAgree (a n : Nat) (s : State) : (bump a n s).seqAgree = s.seqAgree := rfl
@[simp] theorem bump_lin (a n : Nat) (s : State) : (bump a n s).lin = s.lin := rfl
@[simp] theorem bump_lanes (a n : Nat) (s : State) : (bump a n s).lanes = s.lanes := rfl
@[simp] theorem bump_passes (a n : Nat) (s : State) : (bump a n s).passes = s.passes := rfl
@[simp] theorem bump_grecs (a n : Nat) (s : State) : (bump a n s).grecs = s.grecs := rfl
@[simp] theorem bump_streams (a n : Nat) (s : State) : (bump a n s).streams = s.streams := rfl
@[simp] theorem bump_queues (a n : Nat) (s : State) : (bump a n s).queues = s.queues := rfl
@[simp] theorem bump_rwdSt (a n : Nat) (s : State) : (bump a n s).rwdSt = s.rwdSt := rfl
@[simp] theorem bump_tunits (a n : Nat) (s : State) : (bump a n s).tunits = s.tunits := rfl
@[simp] theorem bump_plans (a n : Nat) (s : State) : (bump a n s).plans = s.plans := rfl
@[simp] theorem bump_gunits (a n : Nat) (s : State) : (bump a n s).gunits = s.gunits := rfl
@[simp] theorem bump_dups (a n : Nat) (s : State) : (bump a n s).dups = s.dups := rfl
@[simp] theorem bump_pubId (a n : Nat) (s : State) : (bump a n s).pubId = s.pubId := rfl
@[simp] theorem bump_arc (a n : Nat) (s : State) : (bump a n s).arc = s.arc := rfl
@[simp] theorem bump_dcmp (a n : Nat) (s : State) : (bump a n s).dcmp = s.dcmp := rfl
@[simp] theorem bump_mem (a n : Nat) (s : State) : (bump a n s).mem = s.mem := rfl
@[simp] theorem bump_rtePath (a n : Nat) (s : State) : (bump a n s).rtePath = s.rtePath := rfl
@[simp] theorem bump_twn (a n : Nat) (s : State) : (bump a n s).twn = s.twn := rfl
@[simp] theorem bump_bcn (a n : Nat) (s : State) : (bump a n s).bcn = s.bcn := rfl
@[simp] theorem bump_jtag (a n : Nat) (s : State) : (bump a n s).jtag = s.jtag := rfl
@[simp] theorem bump_hst (a n : Nat) (s : State) : (bump a n s).hst = s.hst := rfl
@[simp] theorem bump_tst (a n : Nat) (s : State) : (bump a n s).tst = s.tst := rfl
@[simp] theorem bump_flight (a n : Nat) (s : State) : (bump a n s).flight = s.flight := rfl
@[simp] theorem bump_compl (a n : Nat) (s : State) : (bump a n s).compl = s.compl := rfl
@[simp] theorem bump_pending (a n : Nat) (s : State) : (bump a n s).pending = s.pending := rfl

@[simp] theorem pgError_c (k : PageK) (i status : Nat) (s : State) : (pgError k i status s).c = s.c := by unfold pgError; dsimp only; split <;> rfl
@[simp] theorem pgError_frame (k : PageK) (i status : Nat) (s : State) : (pgError k i status s).frame = s.frame := by unfold pgError; dsimp only; split <;> rfl
@[simp] theorem pgError_ord (k : PageK) (i status : Nat) (s : State) : (pgError k i status s).ord = s.ord := by unfold pgError; dsimp only; split <;> rfl
@[simp] theorem pgError_freeIdx (k : PageK) (i status : Nat) (s : State) : (pgError k i status s).freeIdx = s.freeIdx := by unfold pgError; dsimp only; split <;> rfl
@[simp] theorem pgError_staged (k : PageK) (i status : Nat) (s : State) : (pgError k i status s).staged = s.staged := by unfold pgError; dsimp only; split <;> rfl
@[simp] theorem pgError_dspPend (k : PageK) (i status : Nat) (s : State) : (pgError k i status s).dspPend = s.dspPend := by unfold pgError; dsimp only; split <;> rfl
@[simp] theorem pgError_dspQ (k : PageK) (i status : Nat) (s : State) : (pgError k i status s).dspQ = s.dspQ := by unfold pgError; dsimp only; split <;> rfl
@[simp] theorem pgError_hiLatch (k : PageK) (i status : Nat) (s : State) : (pgError k i status s).hiLatch = s.hiLatch := by unfold pgError; dsimp only; split <;> rfl
@[simp] theorem pgError_rd (k : PageK) (i status : Nat) (s : State) : (pgError k i status s).rd = s.rd := by unfold pgError; dsimp only; split <;> rfl
@[simp] theorem pgError_pwr (k : PageK) (i status : Nat) (s : State) : (pgError k i status s).pwr = s.pwr := by unfold pgError; dsimp only; split <;> rfl
@[simp] theorem pgError_dies (k : PageK) (i status : Nat) (s : State) : (pgError k i status s).dies = s.dies := by unfold pgError; dsimp only; split <;> rfl
@[simp] theorem pgError_hub (k : PageK) (i status : Nat) (s : State) : (pgError k i status s).hub = s.hub := by unfold pgError; dsimp only; split <;> rfl
@[simp] theorem pgError_dsp (k : PageK) (i status : Nat) (s : State) : (pgError k i status s).dsp = s.dsp := by unfold pgError; dsimp only; split <;> rfl
@[simp] theorem pgError_cmt (k : PageK) (i status : Nat) (s : State) : (pgError k i status s).cmt = s.cmt := by unfold pgError; dsimp only; split <;> rfl
@[simp] theorem pgError_evt (k : PageK) (i status : Nat) (s : State) : (pgError k i status s).evt = s.evt := by unfold pgError; dsimp only; split <;> rfl
@[simp] theorem pgError_chans (k : PageK) (i status : Nat) (s : State) : (pgError k i status s).chans = s.chans := by unfold pgError; dsimp only; split <;> rfl
@[simp] theorem pgError_taps (k : PageK) (i status : Nat) (s : State) : (pgError k i status s).taps = s.taps := by unfold pgError; dsimp only; split <;> rfl
@[simp] theorem pgError_lts (k : PageK) (i status : Nat) (s : State) : (pgError k i status s).lts = s.lts := by unfold pgError; dsimp only; split <;> rfl
@[simp] theorem pgError_ltWait (k : PageK) (i status : Nat) (s : State) : (pgError k i status s).ltWait = s.ltWait := by unfold pgError; dsimp only; split <;> rfl
@[simp] theorem pgError_ltRes (k : PageK) (i status : Nat) (s : State) : (pgError k i status s).ltRes = s.ltRes := by unfold pgError; dsimp only; split <;> rfl
@[simp] theorem pgError_ltTicks (k : PageK) (i status : Nat) (s : State) : (pgError k i status s).ltTicks = s.ltTicks := by unfold pgError; dsimp only; split <;> rfl
@[simp] theorem pgError_modStart (k : PageK) (i status : Nat) (s : State) : (pgError k i status s).modStart = s.modStart := by unfold pgError; dsimp only; split <;> rfl
@[simp] theorem pgError_startAt (k : PageK) (i status : Nat) (s : State) : (pgError k i status s).startAt = s.startAt := by unfold pgError; dsimp only; split <;> rfl
@[simp] theorem pgError_restart (k : PageK) (i status : Nat) (s : State) : (pgError k i status s).restart = s.restart := by unfold pgError; dsimp only; split <;> rfl
@[simp] theorem pgError_excs (k : PageK) (i status : Nat) (s : State) : (pgError k i status s).excs = s.excs := by unfold pgError; dsimp only; split <;> rfl
@[simp] theorem pgError_refs (k : PageK) (i status : Nat) (s : State) : (pgError k i status s).refs = s.refs := by unfold pgError; dsimp only; split <;> rfl
@[simp] theorem pgError_auxs (k : PageK) (i status : Nat) (s : State) : (pgError k i status s).auxs = s.auxs := by unfold pgError; dsimp only; split <;> rfl
@[simp] theorem pgError_slots (k : PageK) (i status : Nat) (s : State) : (pgError k i status s).slots = s.slots := by unfold pgError; dsimp only; split <;> rfl
@[simp] theorem pgError_coef (k : PageK) (i status : Nat) (s : State) : (pgError k i status s).coef = s.coef := by unfold pgError; dsimp only; split <;> rfl
@[simp] theorem pgError_cbanks (k : PageK) (i status : Nat) (s : State) : (pgError k i status s).cbanks = s.cbanks := by unfold pgError; dsimp only; split <;> rfl
@[simp] theorem pgError_profs (k : PageK) (i status : Nat) (s : State) : (pgError k i status s).profs = s.profs := by unfold pgError; dsimp only; split <;> rfl
@[simp] theorem pgError_sealing (k : PageK) (i status : Nat) (s : State) : (pgError k i status s).sealing = s.sealing := by unfold pgError; dsimp only; split <;> rfl
@[simp] theorem pgError_tmb (k : PageK) (i status : Nat) (s : State) : (pgError k i status s).tmb = s.tmb := by unfold pgError; dsimp only; split <;> rfl
@[simp] theorem pgError_seqAgree (k : PageK) (i status : Nat) (s : State) : (pgError k i status s).seqAgree = s.seqAgree := by unfold pgError; dsimp only; split <;> rfl
@[simp] theorem pgError_lin (k : PageK) (i status : Nat) (s : State) : (pgError k i status s).lin = s.lin := by unfold pgError; dsimp only; split <;> rfl
@[simp] theorem pgError_lanes (k : PageK) (i status : Nat) (s : State) : (pgError k i status s).lanes = s.lanes := by unfold pgError; dsimp only; split <;> rfl
@[simp] theorem pgError_passes (k : PageK) (i status : Nat) (s : State) : (pgError k i status s).passes = s.passes := by unfold pgError; dsimp only; split <;> rfl
@[simp] theorem pgError_grecs (k : PageK) (i status : Nat) (s : State) : (pgError k i status s).grecs = s.grecs := by unfold pgError; dsimp only; split <;> rfl
@[simp] theorem pgError_streams (k : PageK) (i status : Nat) (s : State) : (pgError k i status s).streams = s.streams := by unfold pgError; dsimp only; split <;> rfl
@[simp] theorem pgError_queues (k : PageK) (i status : Nat) (s : State) : (pgError k i status s).queues = s.queues := by unfold pgError; dsimp only; split <;> rfl
@[simp] theorem pgError_rwdSt (k : PageK) (i status : Nat) (s : State) : (pgError k i status s).rwdSt = s.rwdSt := by unfold pgError; dsimp only; split <;> rfl
@[simp] theorem pgError_tunits (k : PageK) (i status : Nat) (s : State) : (pgError k i status s).tunits = s.tunits := by unfold pgError; dsimp only; split <;> rfl
@[simp] theorem pgError_plans (k : PageK) (i status : Nat) (s : State) : (pgError k i status s).plans = s.plans := by unfold pgError; dsimp only; split <;> rfl
@[simp] theorem pgError_gunits (k : PageK) (i status : Nat) (s : State) : (pgError k i status s).gunits = s.gunits := by unfold pgError; dsimp only; split <;> rfl
@[simp] theorem pgError_dups (k : PageK) (i status : Nat) (s : State) : (pgError k i status s).dups = s.dups := by unfold pgError; dsimp only; split <;> rfl
@[simp] theorem pgError_pubId (k : PageK) (i status : Nat) (s : State) : (pgError k i status s).pubId = s.pubId := by unfold pgError; dsimp only; split <;> rfl
@[simp] theorem pgError_arc (k : PageK) (i status : Nat) (s : State) : (pgError k i status s).arc = s.arc := by unfold pgError; dsimp only; split <;> rfl
@[simp] theorem pgError_dcmp (k : PageK) (i status : Nat) (s : State) : (pgError k i status s).dcmp = s.dcmp := by unfold pgError; dsimp only; split <;> rfl
@[simp] theorem pgError_mem (k : PageK) (i status : Nat) (s : State) : (pgError k i status s).mem = s.mem := by unfold pgError; dsimp only; split <;> rfl
@[simp] theorem pgError_rtePath (k : PageK) (i status : Nat) (s : State) : (pgError k i status s).rtePath = s.rtePath := by unfold pgError; dsimp only; split <;> rfl
@[simp] theorem pgError_twn (k : PageK) (i status : Nat) (s : State) : (pgError k i status s).twn = s.twn := by unfold pgError; dsimp only; split <;> rfl
@[simp] theorem pgError_bcn (k : PageK) (i status : Nat) (s : State) : (pgError k i status s).bcn = s.bcn := by unfold pgError; dsimp only; split <;> rfl
@[simp] theorem pgError_jtag (k : PageK) (i status : Nat) (s : State) : (pgError k i status s).jtag = s.jtag := by unfold pgError; dsimp only; split <;> rfl
@[simp] theorem pgError_hst (k : PageK) (i status : Nat) (s : State) : (pgError k i status s).hst = s.hst := by unfold pgError; dsimp only; split <;> rfl
@[simp] theorem pgError_tst (k : PageK) (i status : Nat) (s : State) : (pgError k i status s).tst = s.tst := by unfold pgError; dsimp only; split <;> rfl
@[simp] theorem pgError_flight (k : PageK) (i status : Nat) (s : State) : (pgError k i status s).flight = s.flight := by unfold pgError; dsimp only; split <;> rfl
@[simp] theorem pgError_compl (k : PageK) (i status : Nat) (s : State) : (pgError k i status s).compl = s.compl := by unfold pgError; dsimp only; split <;> rfl
@[simp] theorem pgError_pending (k : PageK) (i status : Nat) (s : State) : (pgError k i status s).pending = s.pending := by unfold pgError; dsimp only; split <;> rfl

@[simp] theorem raiseMask_c (k : PageK) (i m : Nat) (s : State) : (raiseMask k i m s).c = s.c := by simp [raiseMask]
@[simp] theorem raiseMask_frame (k : PageK) (i m : Nat) (s : State) : (raiseMask k i m s).frame = s.frame := by simp [raiseMask]
@[simp] theorem raiseMask_ord (k : PageK) (i m : Nat) (s : State) : (raiseMask k i m s).ord = s.ord := by simp [raiseMask]
@[simp] theorem raiseMask_freeIdx (k : PageK) (i m : Nat) (s : State) : (raiseMask k i m s).freeIdx = s.freeIdx := by simp [raiseMask]
@[simp] theorem raiseMask_staged (k : PageK) (i m : Nat) (s : State) : (raiseMask k i m s).staged = s.staged := by simp [raiseMask]
@[simp] theorem raiseMask_dspPend (k : PageK) (i m : Nat) (s : State) : (raiseMask k i m s).dspPend = s.dspPend := by simp [raiseMask]
@[simp] theorem raiseMask_dspQ (k : PageK) (i m : Nat) (s : State) : (raiseMask k i m s).dspQ = s.dspQ := by simp [raiseMask]
@[simp] theorem raiseMask_hiLatch (k : PageK) (i m : Nat) (s : State) : (raiseMask k i m s).hiLatch = s.hiLatch := by simp [raiseMask]
@[simp] theorem raiseMask_rd (k : PageK) (i m : Nat) (s : State) : (raiseMask k i m s).rd = s.rd := by simp [raiseMask]
@[simp] theorem raiseMask_pwr (k : PageK) (i m : Nat) (s : State) : (raiseMask k i m s).pwr = s.pwr := by simp [raiseMask]
@[simp] theorem raiseMask_dies (k : PageK) (i m : Nat) (s : State) : (raiseMask k i m s).dies = s.dies := by simp [raiseMask]
@[simp] theorem raiseMask_hub (k : PageK) (i m : Nat) (s : State) : (raiseMask k i m s).hub = s.hub := by simp [raiseMask]
@[simp] theorem raiseMask_dsp (k : PageK) (i m : Nat) (s : State) : (raiseMask k i m s).dsp = s.dsp := by simp [raiseMask]
@[simp] theorem raiseMask_cmt (k : PageK) (i m : Nat) (s : State) : (raiseMask k i m s).cmt = s.cmt := by simp [raiseMask]
@[simp] theorem raiseMask_chans (k : PageK) (i m : Nat) (s : State) : (raiseMask k i m s).chans = s.chans := by simp [raiseMask]
@[simp] theorem raiseMask_taps (k : PageK) (i m : Nat) (s : State) : (raiseMask k i m s).taps = s.taps := by simp [raiseMask]
@[simp] theorem raiseMask_lts (k : PageK) (i m : Nat) (s : State) : (raiseMask k i m s).lts = s.lts := by simp [raiseMask]
@[simp] theorem raiseMask_ltWait (k : PageK) (i m : Nat) (s : State) : (raiseMask k i m s).ltWait = s.ltWait := by simp [raiseMask]
@[simp] theorem raiseMask_ltRes (k : PageK) (i m : Nat) (s : State) : (raiseMask k i m s).ltRes = s.ltRes := by simp [raiseMask]
@[simp] theorem raiseMask_ltTicks (k : PageK) (i m : Nat) (s : State) : (raiseMask k i m s).ltTicks = s.ltTicks := by simp [raiseMask]
@[simp] theorem raiseMask_modStart (k : PageK) (i m : Nat) (s : State) : (raiseMask k i m s).modStart = s.modStart := by simp [raiseMask]
@[simp] theorem raiseMask_startAt (k : PageK) (i m : Nat) (s : State) : (raiseMask k i m s).startAt = s.startAt := by simp [raiseMask]
@[simp] theorem raiseMask_restart (k : PageK) (i m : Nat) (s : State) : (raiseMask k i m s).restart = s.restart := by simp [raiseMask]
@[simp] theorem raiseMask_excs (k : PageK) (i m : Nat) (s : State) : (raiseMask k i m s).excs = s.excs := by simp [raiseMask]
@[simp] theorem raiseMask_refs (k : PageK) (i m : Nat) (s : State) : (raiseMask k i m s).refs = s.refs := by simp [raiseMask]
@[simp] theorem raiseMask_auxs (k : PageK) (i m : Nat) (s : State) : (raiseMask k i m s).auxs = s.auxs := by simp [raiseMask]
@[simp] theorem raiseMask_slots (k : PageK) (i m : Nat) (s : State) : (raiseMask k i m s).slots = s.slots := by simp [raiseMask]
@[simp] theorem raiseMask_coef (k : PageK) (i m : Nat) (s : State) : (raiseMask k i m s).coef = s.coef := by simp [raiseMask]
@[simp] theorem raiseMask_cbanks (k : PageK) (i m : Nat) (s : State) : (raiseMask k i m s).cbanks = s.cbanks := by simp [raiseMask]
@[simp] theorem raiseMask_profs (k : PageK) (i m : Nat) (s : State) : (raiseMask k i m s).profs = s.profs := by simp [raiseMask]
@[simp] theorem raiseMask_sealing (k : PageK) (i m : Nat) (s : State) : (raiseMask k i m s).sealing = s.sealing := by simp [raiseMask]
@[simp] theorem raiseMask_tmb (k : PageK) (i m : Nat) (s : State) : (raiseMask k i m s).tmb = s.tmb := by simp [raiseMask]
@[simp] theorem raiseMask_seqAgree (k : PageK) (i m : Nat) (s : State) : (raiseMask k i m s).seqAgree = s.seqAgree := by simp [raiseMask]
@[simp] theorem raiseMask_lin (k : PageK) (i m : Nat) (s : State) : (raiseMask k i m s).lin = s.lin := by simp [raiseMask]
@[simp] theorem raiseMask_lanes (k : PageK) (i m : Nat) (s : State) : (raiseMask k i m s).lanes = s.lanes := by simp [raiseMask]
@[simp] theorem raiseMask_passes (k : PageK) (i m : Nat) (s : State) : (raiseMask k i m s).passes = s.passes := by simp [raiseMask]
@[simp] theorem raiseMask_grecs (k : PageK) (i m : Nat) (s : State) : (raiseMask k i m s).grecs = s.grecs := by simp [raiseMask]
@[simp] theorem raiseMask_streams (k : PageK) (i m : Nat) (s : State) : (raiseMask k i m s).streams = s.streams := by simp [raiseMask]
@[simp] theorem raiseMask_queues (k : PageK) (i m : Nat) (s : State) : (raiseMask k i m s).queues = s.queues := by simp [raiseMask]
@[simp] theorem raiseMask_rwdSt (k : PageK) (i m : Nat) (s : State) : (raiseMask k i m s).rwdSt = s.rwdSt := by simp [raiseMask]
@[simp] theorem raiseMask_tunits (k : PageK) (i m : Nat) (s : State) : (raiseMask k i m s).tunits = s.tunits := by simp [raiseMask]
@[simp] theorem raiseMask_plans (k : PageK) (i m : Nat) (s : State) : (raiseMask k i m s).plans = s.plans := by simp [raiseMask]
@[simp] theorem raiseMask_gunits (k : PageK) (i m : Nat) (s : State) : (raiseMask k i m s).gunits = s.gunits := by simp [raiseMask]
@[simp] theorem raiseMask_dups (k : PageK) (i m : Nat) (s : State) : (raiseMask k i m s).dups = s.dups := by simp [raiseMask]
@[simp] theorem raiseMask_pubId (k : PageK) (i m : Nat) (s : State) : (raiseMask k i m s).pubId = s.pubId := by simp [raiseMask]
@[simp] theorem raiseMask_arc (k : PageK) (i m : Nat) (s : State) : (raiseMask k i m s).arc = s.arc := by simp [raiseMask]
@[simp] theorem raiseMask_dcmp (k : PageK) (i m : Nat) (s : State) : (raiseMask k i m s).dcmp = s.dcmp := by simp [raiseMask]
@[simp] theorem raiseMask_mem (k : PageK) (i m : Nat) (s : State) : (raiseMask k i m s).mem = s.mem := by simp [raiseMask]
@[simp] theorem raiseMask_rtePath (k : PageK) (i m : Nat) (s : State) : (raiseMask k i m s).rtePath = s.rtePath := by simp [raiseMask]
@[simp] theorem raiseMask_twn (k : PageK) (i m : Nat) (s : State) : (raiseMask k i m s).twn = s.twn := by simp [raiseMask]
@[simp] theorem raiseMask_bcn (k : PageK) (i m : Nat) (s : State) : (raiseMask k i m s).bcn = s.bcn := by simp [raiseMask]
@[simp] theorem raiseMask_jtag (k : PageK) (i m : Nat) (s : State) : (raiseMask k i m s).jtag = s.jtag := by simp [raiseMask]
@[simp] theorem raiseMask_hst (k : PageK) (i m : Nat) (s : State) : (raiseMask k i m s).hst = s.hst := by simp [raiseMask]
@[simp] theorem raiseMask_tst (k : PageK) (i m : Nat) (s : State) : (raiseMask k i m s).tst = s.tst := by simp [raiseMask]
@[simp] theorem raiseMask_flight (k : PageK) (i m : Nat) (s : State) : (raiseMask k i m s).flight = s.flight := by simp [raiseMask]
@[simp] theorem raiseMask_compl (k : PageK) (i m : Nat) (s : State) : (raiseMask k i m s).compl = s.compl := by simp [raiseMask]
@[simp] theorem raiseMask_pending (k : PageK) (i m : Nat) (s : State) : (raiseMask k i m s).pending = s.pending := by simp [raiseMask]

@[simp] theorem raise_c (k : PageK) (i b : Nat) (s : State) : (raise k i b s).c = s.c := by simp [raise]
@[simp] theorem raise_frame (k : PageK) (i b : Nat) (s : State) : (raise k i b s).frame = s.frame := by simp [raise]
@[simp] theorem raise_ord (k : PageK) (i b : Nat) (s : State) : (raise k i b s).ord = s.ord := by simp [raise]
@[simp] theorem raise_freeIdx (k : PageK) (i b : Nat) (s : State) : (raise k i b s).freeIdx = s.freeIdx := by simp [raise]
@[simp] theorem raise_staged (k : PageK) (i b : Nat) (s : State) : (raise k i b s).staged = s.staged := by simp [raise]
@[simp] theorem raise_dspPend (k : PageK) (i b : Nat) (s : State) : (raise k i b s).dspPend = s.dspPend := by simp [raise]
@[simp] theorem raise_dspQ (k : PageK) (i b : Nat) (s : State) : (raise k i b s).dspQ = s.dspQ := by simp [raise]
@[simp] theorem raise_hiLatch (k : PageK) (i b : Nat) (s : State) : (raise k i b s).hiLatch = s.hiLatch := by simp [raise]
@[simp] theorem raise_rd (k : PageK) (i b : Nat) (s : State) : (raise k i b s).rd = s.rd := by simp [raise]
@[simp] theorem raise_pwr (k : PageK) (i b : Nat) (s : State) : (raise k i b s).pwr = s.pwr := by simp [raise]
@[simp] theorem raise_dies (k : PageK) (i b : Nat) (s : State) : (raise k i b s).dies = s.dies := by simp [raise]
@[simp] theorem raise_hub (k : PageK) (i b : Nat) (s : State) : (raise k i b s).hub = s.hub := by simp [raise]
@[simp] theorem raise_dsp (k : PageK) (i b : Nat) (s : State) : (raise k i b s).dsp = s.dsp := by simp [raise]
@[simp] theorem raise_cmt (k : PageK) (i b : Nat) (s : State) : (raise k i b s).cmt = s.cmt := by simp [raise]
@[simp] theorem raise_chans (k : PageK) (i b : Nat) (s : State) : (raise k i b s).chans = s.chans := by simp [raise]
@[simp] theorem raise_taps (k : PageK) (i b : Nat) (s : State) : (raise k i b s).taps = s.taps := by simp [raise]
@[simp] theorem raise_lts (k : PageK) (i b : Nat) (s : State) : (raise k i b s).lts = s.lts := by simp [raise]
@[simp] theorem raise_ltWait (k : PageK) (i b : Nat) (s : State) : (raise k i b s).ltWait = s.ltWait := by simp [raise]
@[simp] theorem raise_ltRes (k : PageK) (i b : Nat) (s : State) : (raise k i b s).ltRes = s.ltRes := by simp [raise]
@[simp] theorem raise_ltTicks (k : PageK) (i b : Nat) (s : State) : (raise k i b s).ltTicks = s.ltTicks := by simp [raise]
@[simp] theorem raise_modStart (k : PageK) (i b : Nat) (s : State) : (raise k i b s).modStart = s.modStart := by simp [raise]
@[simp] theorem raise_startAt (k : PageK) (i b : Nat) (s : State) : (raise k i b s).startAt = s.startAt := by simp [raise]
@[simp] theorem raise_restart (k : PageK) (i b : Nat) (s : State) : (raise k i b s).restart = s.restart := by simp [raise]
@[simp] theorem raise_excs (k : PageK) (i b : Nat) (s : State) : (raise k i b s).excs = s.excs := by simp [raise]
@[simp] theorem raise_refs (k : PageK) (i b : Nat) (s : State) : (raise k i b s).refs = s.refs := by simp [raise]
@[simp] theorem raise_auxs (k : PageK) (i b : Nat) (s : State) : (raise k i b s).auxs = s.auxs := by simp [raise]
@[simp] theorem raise_slots (k : PageK) (i b : Nat) (s : State) : (raise k i b s).slots = s.slots := by simp [raise]
@[simp] theorem raise_coef (k : PageK) (i b : Nat) (s : State) : (raise k i b s).coef = s.coef := by simp [raise]
@[simp] theorem raise_cbanks (k : PageK) (i b : Nat) (s : State) : (raise k i b s).cbanks = s.cbanks := by simp [raise]
@[simp] theorem raise_profs (k : PageK) (i b : Nat) (s : State) : (raise k i b s).profs = s.profs := by simp [raise]
@[simp] theorem raise_sealing (k : PageK) (i b : Nat) (s : State) : (raise k i b s).sealing = s.sealing := by simp [raise]
@[simp] theorem raise_tmb (k : PageK) (i b : Nat) (s : State) : (raise k i b s).tmb = s.tmb := by simp [raise]
@[simp] theorem raise_seqAgree (k : PageK) (i b : Nat) (s : State) : (raise k i b s).seqAgree = s.seqAgree := by simp [raise]
@[simp] theorem raise_lin (k : PageK) (i b : Nat) (s : State) : (raise k i b s).lin = s.lin := by simp [raise]
@[simp] theorem raise_lanes (k : PageK) (i b : Nat) (s : State) : (raise k i b s).lanes = s.lanes := by simp [raise]
@[simp] theorem raise_passes (k : PageK) (i b : Nat) (s : State) : (raise k i b s).passes = s.passes := by simp [raise]
@[simp] theorem raise_grecs (k : PageK) (i b : Nat) (s : State) : (raise k i b s).grecs = s.grecs := by simp [raise]
@[simp] theorem raise_streams (k : PageK) (i b : Nat) (s : State) : (raise k i b s).streams = s.streams := by simp [raise]
@[simp] theorem raise_queues (k : PageK) (i b : Nat) (s : State) : (raise k i b s).queues = s.queues := by simp [raise]
@[simp] theorem raise_rwdSt (k : PageK) (i b : Nat) (s : State) : (raise k i b s).rwdSt = s.rwdSt := by simp [raise]
@[simp] theorem raise_tunits (k : PageK) (i b : Nat) (s : State) : (raise k i b s).tunits = s.tunits := by simp [raise]
@[simp] theorem raise_plans (k : PageK) (i b : Nat) (s : State) : (raise k i b s).plans = s.plans := by simp [raise]
@[simp] theorem raise_gunits (k : PageK) (i b : Nat) (s : State) : (raise k i b s).gunits = s.gunits := by simp [raise]
@[simp] theorem raise_dups (k : PageK) (i b : Nat) (s : State) : (raise k i b s).dups = s.dups := by simp [raise]
@[simp] theorem raise_pubId (k : PageK) (i b : Nat) (s : State) : (raise k i b s).pubId = s.pubId := by simp [raise]
@[simp] theorem raise_arc (k : PageK) (i b : Nat) (s : State) : (raise k i b s).arc = s.arc := by simp [raise]
@[simp] theorem raise_dcmp (k : PageK) (i b : Nat) (s : State) : (raise k i b s).dcmp = s.dcmp := by simp [raise]
@[simp] theorem raise_mem (k : PageK) (i b : Nat) (s : State) : (raise k i b s).mem = s.mem := by simp [raise]
@[simp] theorem raise_rtePath (k : PageK) (i b : Nat) (s : State) : (raise k i b s).rtePath = s.rtePath := by simp [raise]
@[simp] theorem raise_twn (k : PageK) (i b : Nat) (s : State) : (raise k i b s).twn = s.twn := by simp [raise]
@[simp] theorem raise_bcn (k : PageK) (i b : Nat) (s : State) : (raise k i b s).bcn = s.bcn := by simp [raise]
@[simp] theorem raise_jtag (k : PageK) (i b : Nat) (s : State) : (raise k i b s).jtag = s.jtag := by simp [raise]
@[simp] theorem raise_hst (k : PageK) (i b : Nat) (s : State) : (raise k i b s).hst = s.hst := by simp [raise]
@[simp] theorem raise_tst (k : PageK) (i b : Nat) (s : State) : (raise k i b s).tst = s.tst := by simp [raise]
@[simp] theorem raise_flight (k : PageK) (i b : Nat) (s : State) : (raise k i b s).flight = s.flight := by simp [raise]
@[simp] theorem raise_compl (k : PageK) (i b : Nat) (s : State) : (raise k i b s).compl = s.compl := by simp [raise]
@[simp] theorem raise_pending (k : PageK) (i b : Nat) (s : State) : (raise k i b s).pending = s.pending := by simp [raise]

@[simp] theorem advance_frame (t : Nat) (s : State) : (advance t s).frame = s.frame := by unfold advance; split <;> rfl
@[simp] theorem advance_ord (t : Nat) (s : State) : (advance t s).ord = s.ord := by unfold advance; split <;> rfl
@[simp] theorem advance_freeIdx (t : Nat) (s : State) : (advance t s).freeIdx = s.freeIdx := by unfold advance; split <;> rfl
@[simp] theorem advance_regs (t : Nat) (s : State) : (advance t s).regs = s.regs := by unfold advance; split <;> rfl
@[simp] theorem advance_staged (t : Nat) (s : State) : (advance t s).staged = s.staged := by unfold advance; split <;> rfl
@[simp] theorem advance_dspPend (t : Nat) (s : State) : (advance t s).dspPend = s.dspPend := by unfold advance; split <;> rfl
@[simp] theorem advance_dspQ (t : Nat) (s : State) : (advance t s).dspQ = s.dspQ := by unfold advance; split <;> rfl
@[simp] theorem advance_hiLatch (t : Nat) (s : State) : (advance t s).hiLatch = s.hiLatch := by unfold advance; split <;> rfl
@[simp] theorem advance_rd (t : Nat) (s : State) : (advance t s).rd = s.rd := by unfold advance; split <;> rfl
@[simp] theorem advance_pwr (t : Nat) (s : State) : (advance t s).pwr = s.pwr := by unfold advance; split <;> rfl
@[simp] theorem advance_dies (t : Nat) (s : State) : (advance t s).dies = s.dies := by unfold advance; split <;> rfl
@[simp] theorem advance_hub (t : Nat) (s : State) : (advance t s).hub = s.hub := by unfold advance; split <;> rfl
@[simp] theorem advance_dsp (t : Nat) (s : State) : (advance t s).dsp = s.dsp := by unfold advance; split <;> rfl
@[simp] theorem advance_cmt (t : Nat) (s : State) : (advance t s).cmt = s.cmt := by unfold advance; split <;> rfl
@[simp] theorem advance_evt (t : Nat) (s : State) : (advance t s).evt = s.evt := by unfold advance; split <;> rfl
@[simp] theorem advance_chans (t : Nat) (s : State) : (advance t s).chans = s.chans := by unfold advance; split <;> rfl
@[simp] theorem advance_taps (t : Nat) (s : State) : (advance t s).taps = s.taps := by unfold advance; split <;> rfl
@[simp] theorem advance_lts (t : Nat) (s : State) : (advance t s).lts = s.lts := by unfold advance; split <;> rfl
@[simp] theorem advance_ltWait (t : Nat) (s : State) : (advance t s).ltWait = s.ltWait := by unfold advance; split <;> rfl
@[simp] theorem advance_ltRes (t : Nat) (s : State) : (advance t s).ltRes = s.ltRes := by unfold advance; split <;> rfl
@[simp] theorem advance_ltTicks (t : Nat) (s : State) : (advance t s).ltTicks = s.ltTicks := by unfold advance; split <;> rfl
@[simp] theorem advance_modStart (t : Nat) (s : State) : (advance t s).modStart = s.modStart := by unfold advance; split <;> rfl
@[simp] theorem advance_startAt (t : Nat) (s : State) : (advance t s).startAt = s.startAt := by unfold advance; split <;> rfl
@[simp] theorem advance_restart (t : Nat) (s : State) : (advance t s).restart = s.restart := by unfold advance; split <;> rfl
@[simp] theorem advance_excs (t : Nat) (s : State) : (advance t s).excs = s.excs := by unfold advance; split <;> rfl
@[simp] theorem advance_refs (t : Nat) (s : State) : (advance t s).refs = s.refs := by unfold advance; split <;> rfl
@[simp] theorem advance_auxs (t : Nat) (s : State) : (advance t s).auxs = s.auxs := by unfold advance; split <;> rfl
@[simp] theorem advance_slots (t : Nat) (s : State) : (advance t s).slots = s.slots := by unfold advance; split <;> rfl
@[simp] theorem advance_coef (t : Nat) (s : State) : (advance t s).coef = s.coef := by unfold advance; split <;> rfl
@[simp] theorem advance_cbanks (t : Nat) (s : State) : (advance t s).cbanks = s.cbanks := by unfold advance; split <;> rfl
@[simp] theorem advance_profs (t : Nat) (s : State) : (advance t s).profs = s.profs := by unfold advance; split <;> rfl
@[simp] theorem advance_sealing (t : Nat) (s : State) : (advance t s).sealing = s.sealing := by unfold advance; split <;> rfl
@[simp] theorem advance_tmb (t : Nat) (s : State) : (advance t s).tmb = s.tmb := by unfold advance; split <;> rfl
@[simp] theorem advance_seqAgree (t : Nat) (s : State) : (advance t s).seqAgree = s.seqAgree := by unfold advance; split <;> rfl
@[simp] theorem advance_lin (t : Nat) (s : State) : (advance t s).lin = s.lin := by unfold advance; split <;> rfl
@[simp] theorem advance_lanes (t : Nat) (s : State) : (advance t s).lanes = s.lanes := by unfold advance; split <;> rfl
@[simp] theorem advance_passes (t : Nat) (s : State) : (advance t s).passes = s.passes := by unfold advance; split <;> rfl
@[simp] theorem advance_grecs (t : Nat) (s : State) : (advance t s).grecs = s.grecs := by unfold advance; split <;> rfl
@[simp] theorem advance_streams (t : Nat) (s : State) : (advance t s).streams = s.streams := by unfold advance; split <;> rfl
@[simp] theorem advance_queues (t : Nat) (s : State) : (advance t s).queues = s.queues := by unfold advance; split <;> rfl
@[simp] theorem advance_rwdSt (t : Nat) (s : State) : (advance t s).rwdSt = s.rwdSt := by unfold advance; split <;> rfl
@[simp] theorem advance_tunits (t : Nat) (s : State) : (advance t s).tunits = s.tunits := by unfold advance; split <;> rfl
@[simp] theorem advance_plans (t : Nat) (s : State) : (advance t s).plans = s.plans := by unfold advance; split <;> rfl
@[simp] theorem advance_gunits (t : Nat) (s : State) : (advance t s).gunits = s.gunits := by unfold advance; split <;> rfl
@[simp] theorem advance_dups (t : Nat) (s : State) : (advance t s).dups = s.dups := by unfold advance; split <;> rfl
@[simp] theorem advance_pubId (t : Nat) (s : State) : (advance t s).pubId = s.pubId := by unfold advance; split <;> rfl
@[simp] theorem advance_arc (t : Nat) (s : State) : (advance t s).arc = s.arc := by unfold advance; split <;> rfl
@[simp] theorem advance_dcmp (t : Nat) (s : State) : (advance t s).dcmp = s.dcmp := by unfold advance; split <;> rfl
@[simp] theorem advance_mem (t : Nat) (s : State) : (advance t s).mem = s.mem := by unfold advance; split <;> rfl
@[simp] theorem advance_rtePath (t : Nat) (s : State) : (advance t s).rtePath = s.rtePath := by unfold advance; split <;> rfl
@[simp] theorem advance_twn (t : Nat) (s : State) : (advance t s).twn = s.twn := by unfold advance; split <;> rfl
@[simp] theorem advance_bcn (t : Nat) (s : State) : (advance t s).bcn = s.bcn := by unfold advance; split <;> rfl
@[simp] theorem advance_jtag (t : Nat) (s : State) : (advance t s).jtag = s.jtag := by unfold advance; split <;> rfl
@[simp] theorem advance_hst (t : Nat) (s : State) : (advance t s).hst = s.hst := by unfold advance; split <;> rfl
@[simp] theorem advance_tst (t : Nat) (s : State) : (advance t s).tst = s.tst := by unfold advance; split <;> rfl
@[simp] theorem advance_flight (t : Nat) (s : State) : (advance t s).flight = s.flight := by unfold advance; split <;> rfl
@[simp] theorem advance_compl (t : Nat) (s : State) : (advance t s).compl = s.compl := by unfold advance; split <;> rfl
@[simp] theorem advance_pending (t : Nat) (s : State) : (advance t s).pending = s.pending := by unfold advance; split <;> rfl

end Sys2Proof.Machine
end

