-- ==== Sys2Proof/Laws/Ops.lean ====
section
/-! SUPPORT. What reading a register or a record gives after a named update of the state. -/

namespace Sys2Proof.Machine

open Sys2Proof

theorem rg_setRg (a b : Nat) (w : Word) (s : State) : rg (setRg a w s) b = if b = a then w else rg s b := by
  unfold rg setRg
  by_cases h : b = a
  · subst h
    rw [if_pos rfl]
    exact tget_tset_self ..
  · rw [if_neg h]
    exact tget_tset_ne' _ _ _ _ h

@[simp] theorem rg_setRg_self (a : Nat) (w : Word) (s : State) : rg (setRg a w s) a = w := by
  rw [rg_setRg, if_pos rfl]

@[simp] theorem rg_setRg_ne {a b : Nat} (w : Word) (s : State) (h : b ≠ a) : rg (setRg a w s) b = rg s b := by
  rw [rg_setRg, if_neg h]

theorem rg_bump (a b n : Nat) (s : State) :
    rg (bump a n s) b = if b = a then word (satAdd 32 (rg s a).toNat n) else rg s b := rg_setRg ..

@[simp] theorem rg_bump_self (a n : Nat) (s : State) : rg (bump a n s) a = word (satAdd 32 (rg s a).toNat n) := rg_setRg_self ..

@[simp] theorem rg_bump_ne {a b : Nat} (n : Nat) (s : State) (h : b ≠ a) : rg (bump a n s) b = rg s b := rg_setRg_ne _ _ h

/-- The first error of a page is recorded whole, a later one as MORE (R78). -/
theorem rg_pgError (k : PageK) (i st a : Nat) (s : State) : rg (pgError k i st s) a =
    if a = pgErr k i then (if rg s a = 0 then word (st <<< 24 ||| s.frame % 2 ^ 24) else rg s a ||| 0x80000000#32) else rg s a := by
  unfold pgError
  dsimp only
  split
  · rename_i h
    rw [rg_setRg]
    split
    · rename_i ha
      subst ha
      rw [if_pos h]
    · rfl
  · rename_i h
    rw [rg_setRg]
    split
    · rename_i ha
      subst ha
      rw [if_neg h]
    · rfl

@[simp] theorem rg_pgError_ne {k : PageK} {i a : Nat} (st : Nat) (s : State) (h : a ≠ pgErr k i) : rg (pgError k i st s) a = rg s a := by
  rw [rg_pgError, if_neg h]

theorem rg_raiseMask (k : PageK) (i m a : Nat) (s : State) :
    rg (raiseMask k i m s) a = if a = pgIrq k i then rg s a ||| word m else rg s a := by
  have e : rg (raiseMask k i m s) a = rg (setRg (pgIrq k i) (rg s (pgIrq k i) ||| word m) s) a := by
    unfold raiseMask rg
    rw [evtNote_regs]
  rw [e, rg_setRg]
  split
  · rename_i h
    rw [h]
  · rfl

/-- Raising a cause sets its bit of PG_IRQ and no other register bit (R98). -/
theorem rg_raise (k : PageK) (i b a : Nat) (s : State) :
    rg (raise k i b s) a = if a = pgIrq k i then rg s a ||| word (2 ^ b) else rg s a := rg_raiseMask ..

@[simp] theorem rg_raise_self (k : PageK) (i b : Nat) (s : State) :
    rg (raise k i b s) (pgIrq k i) = rg s (pgIrq k i) ||| word (2 ^ b) := by rw [rg_raise, if_pos rfl]

@[simp] theorem rg_raise_ne {k : PageK} {i a : Nat} (b : Nat) (s : State) (h : a ≠ pgIrq k i) : rg (raise k i b s) a = rg s a := by
  rw [rg_raise, if_neg h]

@[simp] theorem rg_setStg (a : Nat) (w : Word) (s : State) (a' : Nat) : rg (setStg a w s) a' = rg s a' := rfl
@[simp] theorem rg_modChan (g : Nat) (f : Chan → Chan) (s : State) (a : Nat) : rg (modChan g f s) a = rg s a := rfl
@[simp] theorem rg_modTap (g : Nat) (f : Tap → Tap) (s : State) (a : Nat) : rg (modTap g f s) a = rg s a := rfl
@[simp] theorem rg_modDie (n : Nat) (f : Die → Die) (s : State) (a : Nat) : rg (modDie n f s) a = rg s a := rfl
@[simp] theorem rg_modExc (o : Nat) (f : Exc → Exc) (s : State) (a : Nat) : rg (modExc o f s) a = rg s a := rfl
@[simp] theorem rg_modRef (b : Nat) (f : RefBuf → RefBuf) (s : State) (a : Nat) : rg (modRef b f s) a = rg s a := rfl
@[simp] theorem rg_modAux (n : Nat) (f : Aux → Aux) (s : State) (a : Nat) : rg (modAux n f s) a = rg s a := rfl
@[simp] theorem rg_modTlane (n : Nat) (f : TLane → TLane) (s : State) (a : Nat) : rg (modTlane n f s) a = rg s a := rfl
@[simp] theorem rg_modHst (f : Hst → Hst) (s : State) (a : Nat) : rg (modHst f s) a = rg s a := rfl
@[simp] theorem rg_modLane (n : Nat) (f : Lane → Lane) (s : State) (a : Nat) : rg (modLane n f s) a = rg s a := rfl
@[simp] theorem rg_modQueue (q : Nat) (f : Queue → Queue) (s : State) (a : Nat) : rg (modQueue q f s) a = rg s a := rfl
@[simp] theorem rg_modMem (f : Mem → Mem) (s : State) (a : Nat) : rg (modMem f s) a = rg s a := rfl
@[simp] theorem rg_await (f : Flight) (w : Wait) (s : State) (a : Nat) : rg (await f w s) a = rg s a := rfl
@[simp] theorem rg_modCmt (f : Cmt → Cmt) (s : State) (a : Nat) : rg (modCmt f s) a = rg s a := rfl
@[simp] theorem rg_modPlan (p : Nat) (f : Plan → Plan) (s : State) (a : Nat) : rg (modPlan p f s) a = rg s a := rfl
@[simp] theorem rg_modTwn (f : Twn → Twn) (s : State) (a : Nat) : rg (modTwn f s) a = rg s a := rfl
@[simp] theorem rg_setArc (e : Eng) (s : State) (a : Nat) : rg (setArc e s) a = rg s a := rfl
@[simp] theorem rg_setDcmp (e : Eng) (s : State) (a : Nat) : rg (setDcmp e s) a = rg s a := rfl
@[simp] theorem rg_modStrm (i : Nat) (f : Stream → Stream) (s : State) (a : Nat) : rg (modStrm i f s) a = rg s a := rfl
@[simp] theorem rg_modSlot (i : Nat) (f : Slot → Slot) (s : State) (a : Nat) : rg (modSlot i f s) a = rg s a := rfl
@[simp] theorem rg_modBcn (f : Bcn → Bcn) (s : State) (a : Nat) : rg (modBcn f s) a = rg s a := rfl
@[simp] theorem rg_modTst (f : Tst → Tst) (s : State) (a : Nat) : rg (modTst f s) a = rg s a := rfl
@[simp] theorem rg_modPwr (f : Pwr → Pwr) (s : State) (a : Nat) : rg (modPwr f s) a = rg s a := rfl
@[simp] theorem rg_setStart (g : Nat) (f : Option Nat) (s : State) (a : Nat) : rg (setStart g f s) a = rg s a := rfl
@[simp] theorem rg_modTmb (f : Tmb → Tmb) (s : State) (a : Nat) : rg (modTmb f s) a = rg s a := rfl
@[simp] theorem rg_setHub (x : HubSt) (s : State) (a : Nat) : rg (setHub x s) a = rg s a := rfl
@[simp] theorem rg_setLatch (p : Path) (a : Nat) (v : Option Word) (s : State) (a' : Nat) : rg (setLatch p a v s) a' = rg s a' := rfl
@[simp] theorem rg_modProf (i : Nat) (f : Prof → Prof) (s : State) (a : Nat) : rg (modProf i f s) a = rg s a := rfl
@[simp] theorem rg_modGunit (u : Nat) (f : GUnit → GUnit) (s : State) (a : Nat) : rg (modGunit u f s) a = rg s a := rfl
@[simp] theorem rg_modTunit (u : Nat) (f : TUnit → TUnit) (s : State) (a : Nat) : rg (modTunit u f s) a = rg s a := rfl
@[simp] theorem rg_modDsp (f : Dsp → Dsp) (s : State) (a : Nat) : rg (modDsp f s) a = rg s a := rfl
@[simp] theorem rg_evtNote (k : PageK) (i : Nat) (was : Bool) (s : State) (a : Nat) : rg (evtNote k i was s) a = rg s a := by unfold rg; rw [evtNote_regs]
@[simp] theorem rg_advance (t : Nat) (s : State) (a : Nat) : rg (advance t s) a = rg s a := by unfold rg; rw [advance_regs]

@[simp] theorem chan_setRg (a : Nat) (w : Word) (s : State) (g : Nat) : chan (setRg a w s) g = chan s g := rfl
@[simp] theorem chan_setStg (a : Nat) (w : Word) (s : State) (g : Nat) : chan (setStg a w s) g = chan s g := rfl
@[simp] theorem chan_modTap (g : Nat) (f : Tap → Tap) (s : State) (g' : Nat) : chan (modTap g f s) g' = chan s g' := rfl
@[simp] theorem chan_modDie (n : Nat) (f : Die → Die) (s : State) (g : Nat) : chan (modDie n f s) g = chan s g := rfl
@[simp] theorem chan_modExc (o : Nat) (f : Exc → Exc) (s : State) (g : Nat) : chan (modExc o f s) g = chan s g := rfl
@[simp] theorem chan_modRef (b : Nat) (f : RefBuf → RefBuf) (s : State) (g : Nat) : chan (modRef b f s) g = chan s g := rfl
@[simp] theorem chan_modAux (n : Nat) (f : Aux → Aux) (s : State) (g : Nat) : chan (modAux n f s) g = chan s g := rfl
@[simp] theorem chan_modTlane (n : Nat) (f : TLane → TLane) (s : State) (g : Nat) : chan (modTlane n f s) g = chan s g := rfl
@[simp] theorem chan_modHst (f : Hst → Hst) (s : State) (g : Nat) : chan (modHst f s) g = chan s g := rfl
@[simp] theorem chan_modLane (n : Nat) (f : Lane → Lane) (s : State) (g : Nat) : chan (modLane n f s) g = chan s g := rfl
@[simp] theorem chan_modQueue (q : Nat) (f : Queue → Queue) (s : State) (g : Nat) : chan (modQueue q f s) g = chan s g := rfl
@[simp] theorem chan_modMem (f : Mem → Mem) (s : State) (g : Nat) : chan (modMem f s) g = chan s g := rfl
@[simp] theorem chan_await (f : Flight) (w : Wait) (s : State) (g : Nat) : chan (await f w s) g = chan s g := rfl
@[simp] theorem chan_modCmt (f : Cmt → Cmt) (s : State) (g : Nat) : chan (modCmt f s) g = chan s g := rfl
@[simp] theorem chan_modPlan (p : Nat) (f : Plan → Plan) (s : State) (g : Nat) : chan (modPlan p f s) g = chan s g := rfl
@[simp] theorem chan_modTwn (f : Twn → Twn) (s : State) (g : Nat) : chan (modTwn f s) g = chan s g := rfl
@[simp] theorem chan_setArc (e : Eng) (s : State) (g : Nat) : chan (setArc e s) g = chan s g := rfl
@[simp] theorem chan_setDcmp (e : Eng) (s : State) (g : Nat) : chan (setDcmp e s) g = chan s g := rfl
@[simp] theorem chan_modStrm (i : Nat) (f : Stream → Stream) (s : State) (g : Nat) : chan (modStrm i f s) g = chan s g := rfl
@[simp] theorem chan_modSlot (i : Nat) (f : Slot → Slot) (s : State) (g : Nat) : chan (modSlot i f s) g = chan s g := rfl
@[simp] theorem chan_modBcn (f : Bcn → Bcn) (s : State) (g : Nat) : chan (modBcn f s) g = chan s g := rfl
@[simp] theorem chan_modTst (f : Tst → Tst) (s : State) (g : Nat) : chan (modTst f s) g = chan s g := rfl
@[simp] theorem chan_modPwr (f : Pwr → Pwr) (s : State) (g : Nat) : chan (modPwr f s) g = chan s g := rfl
@[simp] theorem chan_setStart (g : Nat) (f : Option Nat) (s : State) (g' : Nat) : chan (setStart g f s) g' = chan s g' := rfl
@[simp] theorem chan_modTmb (f : Tmb → Tmb) (s : State) (g : Nat) : chan (modTmb f s) g = chan s g := rfl
@[simp] theorem chan_setHub (x : HubSt) (s : State) (g : Nat) : chan (setHub x s) g = chan s g := rfl
@[simp] theorem chan_setLatch (p : Path) (a : Nat) (v : Option Word) (s : State) (g : Nat) : chan (setLatch p a v s) g = chan s g := rfl
@[simp] theorem chan_modProf (i : Nat) (f : Prof → Prof) (s : State) (g : Nat) : chan (modProf i f s) g = chan s g := rfl
@[simp] theorem chan_modGunit (u : Nat) (f : GUnit → GUnit) (s : State) (g : Nat) : chan (modGunit u f s) g = chan s g := rfl
@[simp] theorem chan_modTunit (u : Nat) (f : TUnit → TUnit) (s : State) (g : Nat) : chan (modTunit u f s) g = chan s g := rfl
@[simp] theorem chan_modDsp (f : Dsp → Dsp) (s : State) (g : Nat) : chan (modDsp f s) g = chan s g := rfl
@[simp] theorem chan_evtNote (k : PageK) (i : Nat) (was : Bool) (s : State) (g : Nat) : chan (evtNote k i was s) g = chan s g := by unfold chan; rw [evtNote_chans]
@[simp] theorem chan_bump (a n : Nat) (s : State) (g : Nat) : chan (bump a n s) g = chan s g := by unfold chan; rw [bump_chans]
@[simp] theorem chan_pgError (k : PageK) (i status : Nat) (s : State) (g : Nat) : chan (pgError k i status s) g = chan s g := by unfold chan; rw [pgError_chans]
@[simp] theorem chan_raiseMask (k : PageK) (i m : Nat) (s : State) (g : Nat) : chan (raiseMask k i m s) g = chan s g := by unfold chan; rw [raiseMask_chans]
@[simp] theorem chan_raise (k : PageK) (i b : Nat) (s : State) (g : Nat) : chan (raise k i b s) g = chan s g := by unfold chan; rw [raise_chans]
@[simp] theorem chan_advance (t : Nat) (s : State) (g : Nat) : chan (advance t s) g = chan s g := by unfold chan; rw [advance_chans]
@[simp] theorem chan_modChan_self (g : Nat) (f : Chan → Chan) (s : State) : chan (modChan g f s) g = f (chan s g) := tget_tmod_self ..
@[simp] theorem chan_modChan_ne (g : Nat) (f : Chan → Chan) (s : State) (k : Nat) (h : k ≠ g) : chan (modChan g f s) k = chan s k := tget_tmod_ne _ _ _ h
theorem chan_modChan (g : Nat) (f : Chan → Chan) (s : State) (k : Nat) : chan (modChan g f s) k = if k = g then f (chan s g) else chan s k := by
  by_cases h : k = g
  · subst h
    simp
  · simp [h]

@[simp] theorem tap_setRg (a : Nat) (w : Word) (s : State) (g : Nat) : tap (setRg a w s) g = tap s g := rfl
@[simp] theorem tap_setStg (a : Nat) (w : Word) (s : State) (g : Nat) : tap (setStg a w s) g = tap s g := rfl
@[simp] theorem tap_modChan (g : Nat) (f : Chan → Chan) (s : State) (g' : Nat) : tap (modChan g f s) g' = tap s g' := rfl
@[simp] theorem tap_modDie (n : Nat) (f : Die → Die) (s : State) (g : Nat) : tap (modDie n f s) g = tap s g := rfl
@[simp] theorem tap_modExc (o : Nat) (f : Exc → Exc) (s : State) (g : Nat) : tap (modExc o f s) g = tap s g := rfl
@[simp] theorem tap_modRef (b : Nat) (f : RefBuf → RefBuf) (s : State) (g : Nat) : tap (modRef b f s) g = tap s g := rfl
@[simp] theorem tap_modAux (n : Nat) (f : Aux → Aux) (s : State) (g : Nat) : tap (modAux n f s) g = tap s g := rfl
@[simp] theorem tap_modTlane (n : Nat) (f : TLane → TLane) (s : State) (g : Nat) : tap (modTlane n f s) g = tap s g := rfl
@[simp] theorem tap_modHst (f : Hst → Hst) (s : State) (g : Nat) : tap (modHst f s) g = tap s g := rfl
@[simp] theorem tap_modLane (n : Nat) (f : Lane → Lane) (s : State) (g : Nat) : tap (modLane n f s) g = tap s g := rfl
@[simp] theorem tap_modQueue (q : Nat) (f : Queue → Queue) (s : State) (g : Nat) : tap (modQueue q f s) g = tap s g := rfl
@[simp] theorem tap_modMem (f : Mem → Mem) (s : State) (g : Nat) : tap (modMem f s) g = tap s g := rfl
@[simp] theorem tap_await (f : Flight) (w : Wait) (s : State) (g : Nat) : tap (await f w s) g = tap s g := rfl
@[simp] theorem tap_modCmt (f : Cmt → Cmt) (s : State) (g : Nat) : tap (modCmt f s) g = tap s g := rfl
@[simp] theorem tap_modPlan (p : Nat) (f : Plan → Plan) (s : State) (g : Nat) : tap (modPlan p f s) g = tap s g := rfl
@[simp] theorem tap_modTwn (f : Twn → Twn) (s : State) (g : Nat) : tap (modTwn f s) g = tap s g := rfl
@[simp] theorem tap_setArc (e : Eng) (s : State) (g : Nat) : tap (setArc e s) g = tap s g := rfl
@[simp] theorem tap_setDcmp (e : Eng) (s : State) (g : Nat) : tap (setDcmp e s) g = tap s g := rfl
@[simp] theorem tap_modStrm (i : Nat) (f : Stream → Stream) (s : State) (g : Nat) : tap (modStrm i f s) g = tap s g := rfl
@[simp] theorem tap_modSlot (i : Nat) (f : Slot → Slot) (s : State) (g : Nat) : tap (modSlot i f s) g = tap s g := rfl
@[simp] theorem tap_modBcn (f : Bcn → Bcn) (s : State) (g : Nat) : tap (modBcn f s) g = tap s g := rfl
@[simp] theorem tap_modTst (f : Tst → Tst) (s : State) (g : Nat) : tap (modTst f s) g = tap s g := rfl
@[simp] theorem tap_modPwr (f : Pwr → Pwr) (s : State) (g : Nat) : tap (modPwr f s) g = tap s g := rfl
@[simp] theorem tap_setStart (g : Nat) (f : Option Nat) (s : State) (g' : Nat) : tap (setStart g f s) g' = tap s g' := rfl
@[simp] theorem tap_modTmb (f : Tmb → Tmb) (s : State) (g : Nat) : tap (modTmb f s) g = tap s g := rfl
@[simp] theorem tap_setHub (x : HubSt) (s : State) (g : Nat) : tap (setHub x s) g = tap s g := rfl
@[simp] theorem tap_setLatch (p : Path) (a : Nat) (v : Option Word) (s : State) (g : Nat) : tap (setLatch p a v s) g = tap s g := rfl
@[simp] theorem tap_modProf (i : Nat) (f : Prof → Prof) (s : State) (g : Nat) : tap (modProf i f s) g = tap s g := rfl
@[simp] theorem tap_modGunit (u : Nat) (f : GUnit → GUnit) (s : State) (g : Nat) : tap (modGunit u f s) g = tap s g := rfl
@[simp] theorem tap_modTunit (u : Nat) (f : TUnit → TUnit) (s : State) (g : Nat) : tap (modTunit u f s) g = tap s g := rfl
@[simp] theorem tap_modDsp (f : Dsp → Dsp) (s : State) (g : Nat) : tap (modDsp f s) g = tap s g := rfl
@[simp] theorem tap_evtNote (k : PageK) (i : Nat) (was : Bool) (s : State) (g : Nat) : tap (evtNote k i was s) g = tap s g := by unfold tap; rw [evtNote_taps]
@[simp] theorem tap_bump (a n : Nat) (s : State) (g : Nat) : tap (bump a n s) g = tap s g := by unfold tap; rw [bump_taps]
@[simp] theorem tap_pgError (k : PageK) (i status : Nat) (s : State) (g : Nat) : tap (pgError k i status s) g = tap s g := by unfold tap; rw [pgError_taps]
@[simp] theorem tap_raiseMask (k : PageK) (i m : Nat) (s : State) (g : Nat) : tap (raiseMask k i m s) g = tap s g := by unfold tap; rw [raiseMask_taps]
@[simp] theorem tap_raise (k : PageK) (i b : Nat) (s : State) (g : Nat) : tap (raise k i b s) g = tap s g := by unfold tap; rw [raise_taps]
@[simp] theorem tap_advance (t : Nat) (s : State) (g : Nat) : tap (advance t s) g = tap s g := by unfold tap; rw [advance_taps]
@[simp] theorem tap_modTap_self (g : Nat) (f : Tap → Tap) (s : State) : tap (modTap g f s) g = f (tap s g) := tget_tmod_self ..
@[simp] theorem tap_modTap_ne (g : Nat) (f : Tap → Tap) (s : State) (k : Nat) (h : k ≠ g) : tap (modTap g f s) k = tap s k := tget_tmod_ne _ _ _ h
theorem tap_modTap (g : Nat) (f : Tap → Tap) (s : State) (k : Nat) : tap (modTap g f s) k = if k = g then f (tap s g) else tap s k := by
  by_cases h : k = g
  · subst h
    simp
  · simp [h]

@[simp] theorem die_setRg (a : Nat) (w : Word) (s : State) (n : Nat) : die (setRg a w s) n = die s n := rfl
@[simp] theorem die_setStg (a : Nat) (w : Word) (s : State) (n : Nat) : die (setStg a w s) n = die s n := rfl
@[simp] theorem die_modChan (g : Nat) (f : Chan → Chan) (s : State) (n : Nat) : die (modChan g f s) n = die s n := rfl
@[simp] theorem die_modTap (g : Nat) (f : Tap → Tap) (s : State) (n : Nat) : die (modTap g f s) n = die s n := rfl
@[simp] theorem die_modExc (o : Nat) (f : Exc → Exc) (s : State) (n : Nat) : die (modExc o f s) n = die s n := rfl
@[simp] theorem die_modRef (b : Nat) (f : RefBuf → RefBuf) (s : State) (n : Nat) : die (modRef b f s) n = die s n := rfl
@[simp] theorem die_modAux (n : Nat) (f : Aux → Aux) (s : State) (n' : Nat) : die (modAux n f s) n' = die s n' := rfl
@[simp] theorem die_modTlane (n : Nat) (f : TLane → TLane) (s : State) (n' : Nat) : die (modTlane n f s) n' = die s n' := rfl
@[simp] theorem die_modHst (f : Hst → Hst) (s : State) (n : Nat) : die (modHst f s) n = die s n := rfl
@[simp] theorem die_modLane (n : Nat) (f : Lane → Lane) (s : State) (n' : Nat) : die (modLane n f s) n' = die s n' := rfl
@[simp] theorem die_modQueue (q : Nat) (f : Queue → Queue) (s : State) (n : Nat) : die (modQueue q f s) n = die s n := rfl
@[simp] theorem die_modMem (f : Mem → Mem) (s : State) (n : Nat) : die (modMem f s) n = die s n := rfl
@[simp] theorem die_await (f : Flight) (w : Wait) (s : State) (n : Nat) : die (await f w s) n = die s n := rfl
@[simp] theorem die_modCmt (f : Cmt → Cmt) (s : State) (n : Nat) : die (modCmt f s) n = die s n := rfl
@[simp] theorem die_modPlan (p : Nat) (f : Plan → Plan) (s : State) (n : Nat) : die (modPlan p f s) n = die s n := rfl
@[simp] theorem die_modTwn (f : Twn → Twn) (s : State) (n : Nat) : die (modTwn f s) n = die s n := rfl
@[simp] theorem die_setArc (e : Eng) (s : State) (n : Nat) : die (setArc e s) n = die s n := rfl
@[simp] theorem die_setDcmp (e : Eng) (s : State) (n : Nat) : die (setDcmp e s) n = die s n := rfl
@[simp] theorem die_modStrm (i : Nat) (f : Stream → Stream) (s : State) (n : Nat) : die (modStrm i f s) n = die s n := rfl
@[simp] theorem die_modSlot (i : Nat) (f : Slot → Slot) (s : State) (n : Nat) : die (modSlot i f s) n = die s n := rfl
@[simp] theorem die_modBcn (f : Bcn → Bcn) (s : State) (n : Nat) : die (modBcn f s) n = die s n := rfl
@[simp] theorem die_modTst (f : Tst → Tst) (s : State) (n : Nat) : die (modTst f s) n = die s n := rfl
@[simp] theorem die_modPwr (f : Pwr → Pwr) (s : State) (n : Nat) : die (modPwr f s) n = die s n := rfl
@[simp] theorem die_setStart (g : Nat) (f : Option Nat) (s : State) (n : Nat) : die (setStart g f s) n = die s n := rfl
@[simp] theorem die_modTmb (f : Tmb → Tmb) (s : State) (n : Nat) : die (modTmb f s) n = die s n := rfl
@[simp] theorem die_setHub (x : HubSt) (s : State) (n : Nat) : die (setHub x s) n = die s n := rfl
@[simp] theorem die_setLatch (p : Path) (a : Nat) (v : Option Word) (s : State) (n : Nat) : die (setLatch p a v s) n = die s n := rfl
@[simp] theorem die_modProf (i : Nat) (f : Prof → Prof) (s : State) (n : Nat) : die (modProf i f s) n = die s n := rfl
@[simp] theorem die_modGunit (u : Nat) (f : GUnit → GUnit) (s : State) (n : Nat) : die (modGunit u f s) n = die s n := rfl
@[simp] theorem die_modTunit (u : Nat) (f : TUnit → TUnit) (s : State) (n : Nat) : die (modTunit u f s) n = die s n := rfl
@[simp] theorem die_modDsp (f : Dsp → Dsp) (s : State) (n : Nat) : die (modDsp f s) n = die s n := rfl
@[simp] theorem die_evtNote (k : PageK) (i : Nat) (was : Bool) (s : State) (n : Nat) : die (evtNote k i was s) n = die s n := by unfold die; rw [evtNote_dies]
@[simp] theorem die_bump (a n : Nat) (s : State) (n' : Nat) : die (bump a n s) n' = die s n' := by unfold die; rw [bump_dies]
@[simp] theorem die_pgError (k : PageK) (i status : Nat) (s : State) (n : Nat) : die (pgError k i status s) n = die s n := by unfold die; rw [pgError_dies]
@[simp] theorem die_raiseMask (k : PageK) (i m : Nat) (s : State) (n : Nat) : die (raiseMask k i m s) n = die s n := by unfold die; rw [raiseMask_dies]
@[simp] theorem die_raise (k : PageK) (i b : Nat) (s : State) (n : Nat) : die (raise k i b s) n = die s n := by unfold die; rw [raise_dies]
@[simp] theorem die_advance (t : Nat) (s : State) (n : Nat) : die (advance t s) n = die s n := by unfold die; rw [advance_dies]
@[simp] theorem die_modDie_self (n : Nat) (f : Die → Die) (s : State) : die (modDie n f s) n = f (die s n) := tget_tmod_self ..
@[simp] theorem die_modDie_ne (n : Nat) (f : Die → Die) (s : State) (k : Nat) (h : k ≠ n) : die (modDie n f s) k = die s k := tget_tmod_ne _ _ _ h
theorem die_modDie (n : Nat) (f : Die → Die) (s : State) (k : Nat) : die (modDie n f s) k = if k = n then f (die s n) else die s k := by
  by_cases h : k = n
  · subst h
    simp
  · simp [h]

@[simp] theorem exc_setRg (a : Nat) (w : Word) (s : State) (o : Nat) : exc (setRg a w s) o = exc s o := rfl
@[simp] theorem exc_setStg (a : Nat) (w : Word) (s : State) (o : Nat) : exc (setStg a w s) o = exc s o := rfl
@[simp] theorem exc_modChan (g : Nat) (f : Chan → Chan) (s : State) (o : Nat) : exc (modChan g f s) o = exc s o := rfl
@[simp] theorem exc_modTap (g : Nat) (f : Tap → Tap) (s : State) (o : Nat) : exc (modTap g f s) o = exc s o := rfl
@[simp] theorem exc_modDie (n : Nat) (f : Die → Die) (s : State) (o : Nat) : exc (modDie n f s) o = exc s o := rfl
@[simp] theorem exc_modRef (b : Nat) (f : RefBuf → RefBuf) (s : State) (o : Nat) : exc (modRef b f s) o = exc s o := rfl
@[simp] theorem exc_modAux (n : Nat) (f : Aux → Aux) (s : State) (o : Nat) : exc (modAux n f s) o = exc s o := rfl
@[simp] theorem exc_modTlane (n : Nat) (f : TLane → TLane) (s : State) (o : Nat) : exc (modTlane n f s) o = exc s o := rfl
@[simp] theorem exc_modHst (f : Hst → Hst) (s : State) (o : Nat) : exc (modHst f s) o = exc s o := rfl
@[simp] theorem exc_modLane (n : Nat) (f : Lane → Lane) (s : State) (o : Nat) : exc (modLane n f s) o = exc s o := rfl
@[simp] theorem exc_modQueue (q : Nat) (f : Queue → Queue) (s : State) (o : Nat) : exc (modQueue q f s) o = exc s o := rfl
@[simp] theorem exc_modMem (f : Mem → Mem) (s : State) (o : Nat) : exc (modMem f s) o = exc s o := rfl
@[simp] theorem exc_await (f : Flight) (w : Wait) (s : State) (o : Nat) : exc (await f w s) o = exc s o := rfl
@[simp] theorem exc_modCmt (f : Cmt → Cmt) (s : State) (o : Nat) : exc (modCmt f s) o = exc s o := rfl
@[simp] theorem exc_modPlan (p : Nat) (f : Plan → Plan) (s : State) (o : Nat) : exc (modPlan p f s) o = exc s o := rfl
@[simp] theorem exc_modTwn (f : Twn → Twn) (s : State) (o : Nat) : exc (modTwn f s) o = exc s o := rfl
@[simp] theorem exc_setArc (e : Eng) (s : State) (o : Nat) : exc (setArc e s) o = exc s o := rfl
@[simp] theorem exc_setDcmp (e : Eng) (s : State) (o : Nat) : exc (setDcmp e s) o = exc s o := rfl
@[simp] theorem exc_modStrm (i : Nat) (f : Stream → Stream) (s : State) (o : Nat) : exc (modStrm i f s) o = exc s o := rfl
@[simp] theorem exc_modSlot (i : Nat) (f : Slot → Slot) (s : State) (o : Nat) : exc (modSlot i f s) o = exc s o := rfl
@[simp] theorem exc_modBcn (f : Bcn → Bcn) (s : State) (o : Nat) : exc (modBcn f s) o = exc s o := rfl
@[simp] theorem exc_modTst (f : Tst → Tst) (s : State) (o : Nat) : exc (modTst f s) o = exc s o := rfl
@[simp] theorem exc_modPwr (f : Pwr → Pwr) (s : State) (o : Nat) : exc (modPwr f s) o = exc s o := rfl
@[simp] theorem exc_setStart (g : Nat) (f : Option Nat) (s : State) (o : Nat) : exc (setStart g f s) o = exc s o := rfl
@[simp] theorem exc_modTmb (f : Tmb → Tmb) (s : State) (o : Nat) : exc (modTmb f s) o = exc s o := rfl
@[simp] theorem exc_setHub (x : HubSt) (s : State) (o : Nat) : exc (setHub x s) o = exc s o := rfl
@[simp] theorem exc_setLatch (p : Path) (a : Nat) (v : Option Word) (s : State) (o : Nat) : exc (setLatch p a v s) o = exc s o := rfl
@[simp] theorem exc_modProf (i : Nat) (f : Prof → Prof) (s : State) (o : Nat) : exc (modProf i f s) o = exc s o := rfl
@[simp] theorem exc_modGunit (u : Nat) (f : GUnit → GUnit) (s : State) (o : Nat) : exc (modGunit u f s) o = exc s o := rfl
@[simp] theorem exc_modTunit (u : Nat) (f : TUnit → TUnit) (s : State) (o : Nat) : exc (modTunit u f s) o = exc s o := rfl
@[simp] theorem exc_modDsp (f : Dsp → Dsp) (s : State) (o : Nat) : exc (modDsp f s) o = exc s o := rfl
@[simp] theorem exc_evtNote (k : PageK) (i : Nat) (was : Bool) (s : State) (o : Nat) : exc (evtNote k i was s) o = exc s o := by unfold exc; rw [evtNote_excs]
@[simp] theorem exc_bump (a n : Nat) (s : State) (o : Nat) : exc (bump a n s) o = exc s o := by unfold exc; rw [bump_excs]
@[simp] theorem exc_pgError (k : PageK) (i status : Nat) (s : State) (o : Nat) : exc (pgError k i status s) o = exc s o := by unfold exc; rw [pgError_excs]
@[simp] theorem exc_raiseMask (k : PageK) (i m : Nat) (s : State) (o : Nat) : exc (raiseMask k i m s) o = exc s o := by unfold exc; rw [raiseMask_excs]
@[simp] theorem exc_raise (k : PageK) (i b : Nat) (s : State) (o : Nat) : exc (raise k i b s) o = exc s o := by unfold exc; rw [raise_excs]
@[simp] theorem exc_advance (t : Nat) (s : State) (o : Nat) : exc (advance t s) o = exc s o := by unfold exc; rw [advance_excs]
@[simp] theorem exc_modExc_self (o : Nat) (f : Exc → Exc) (s : State) : exc (modExc o f s) o = f (exc s o) := tget_tmod_self ..
@[simp] theorem exc_modExc_ne (o : Nat) (f : Exc → Exc) (s : State) (k : Nat) (h : k ≠ o) : exc (modExc o f s) k = exc s k := tget_tmod_ne _ _ _ h
theorem exc_modExc (o : Nat) (f : Exc → Exc) (s : State) (k : Nat) : exc (modExc o f s) k = if k = o then f (exc s o) else exc s k := by
  by_cases h : k = o
  · subst h
    simp
  · simp [h]

@[simp] theorem ref_setRg (a : Nat) (w : Word) (s : State) (b : Nat) : ref (setRg a w s) b = ref s b := rfl
@[simp] theorem ref_setStg (a : Nat) (w : Word) (s : State) (b : Nat) : ref (setStg a w s) b = ref s b := rfl
@[simp] theorem ref_modChan (g : Nat) (f : Chan → Chan) (s : State) (b : Nat) : ref (modChan g f s) b = ref s b := rfl
@[simp] theorem ref_modTap (g : Nat) (f : Tap → Tap) (s : State) (b : Nat) : ref (modTap g f s) b = ref s b := rfl
@[simp] theorem ref_modDie (n : Nat) (f : Die → Die) (s : State) (b : Nat) : ref (modDie n f s) b = ref s b := rfl
@[simp] theorem ref_modExc (o : Nat) (f : Exc → Exc) (s : State) (b : Nat) : ref (modExc o f s) b = ref s b := rfl
@[simp] theorem ref_modAux (n : Nat) (f : Aux → Aux) (s : State) (b : Nat) : ref (modAux n f s) b = ref s b := rfl
@[simp] theorem ref_modTlane (n : Nat) (f : TLane → TLane) (s : State) (b : Nat) : ref (modTlane n f s) b = ref s b := rfl
@[simp] theorem ref_modHst (f : Hst → Hst) (s : State) (b : Nat) : ref (modHst f s) b = ref s b := rfl
@[simp] theorem ref_modLane (n : Nat) (f : Lane → Lane) (s : State) (b : Nat) : ref (modLane n f s) b = ref s b := rfl
@[simp] theorem ref_modQueue (q : Nat) (f : Queue → Queue) (s : State) (b : Nat) : ref (modQueue q f s) b = ref s b := rfl
@[simp] theorem ref_modMem (f : Mem → Mem) (s : State) (b : Nat) : ref (modMem f s) b = ref s b := rfl
@[simp] theorem ref_await (f : Flight) (w : Wait) (s : State) (b : Nat) : ref (await f w s) b = ref s b := rfl
@[simp] theorem ref_modCmt (f : Cmt → Cmt) (s : State) (b : Nat) : ref (modCmt f s) b = ref s b := rfl
@[simp] theorem ref_modPlan (p : Nat) (f : Plan → Plan) (s : State) (b : Nat) : ref (modPlan p f s) b = ref s b := rfl
@[simp] theorem ref_modTwn (f : Twn → Twn) (s : State) (b : Nat) : ref (modTwn f s) b = ref s b := rfl
@[simp] theorem ref_setArc (e : Eng) (s : State) (b : Nat) : ref (setArc e s) b = ref s b := rfl
@[simp] theorem ref_setDcmp (e : Eng) (s : State) (b : Nat) : ref (setDcmp e s) b = ref s b := rfl
@[simp] theorem ref_modStrm (i : Nat) (f : Stream → Stream) (s : State) (b : Nat) : ref (modStrm i f s) b = ref s b := rfl
@[simp] theorem ref_modSlot (i : Nat) (f : Slot → Slot) (s : State) (b : Nat) : ref (modSlot i f s) b = ref s b := rfl
@[simp] theorem ref_modBcn (f : Bcn → Bcn) (s : State) (b : Nat) : ref (modBcn f s) b = ref s b := rfl
@[simp] theorem ref_modTst (f : Tst → Tst) (s : State) (b : Nat) : ref (modTst f s) b = ref s b := rfl
@[simp] theorem ref_modPwr (f : Pwr → Pwr) (s : State) (b : Nat) : ref (modPwr f s) b = ref s b := rfl
@[simp] theorem ref_setStart (g : Nat) (f : Option Nat) (s : State) (b : Nat) : ref (setStart g f s) b = ref s b := rfl
@[simp] theorem ref_modTmb (f : Tmb → Tmb) (s : State) (b : Nat) : ref (modTmb f s) b = ref s b := rfl
@[simp] theorem ref_setHub (x : HubSt) (s : State) (b : Nat) : ref (setHub x s) b = ref s b := rfl
@[simp] theorem ref_setLatch (p : Path) (a : Nat) (v : Option Word) (s : State) (b : Nat) : ref (setLatch p a v s) b = ref s b := rfl
@[simp] theorem ref_modProf (i : Nat) (f : Prof → Prof) (s : State) (b : Nat) : ref (modProf i f s) b = ref s b := rfl
@[simp] theorem ref_modGunit (u : Nat) (f : GUnit → GUnit) (s : State) (b : Nat) : ref (modGunit u f s) b = ref s b := rfl
@[simp] theorem ref_modTunit (u : Nat) (f : TUnit → TUnit) (s : State) (b : Nat) : ref (modTunit u f s) b = ref s b := rfl
@[simp] theorem ref_modDsp (f : Dsp → Dsp) (s : State) (b : Nat) : ref (modDsp f s) b = ref s b := rfl
@[simp] theorem ref_evtNote (k : PageK) (i : Nat) (was : Bool) (s : State) (b : Nat) : ref (evtNote k i was s) b = ref s b := by unfold ref; rw [evtNote_refs]
@[simp] theorem ref_bump (a n : Nat) (s : State) (b : Nat) : ref (bump a n s) b = ref s b := by unfold ref; rw [bump_refs]
@[simp] theorem ref_pgError (k : PageK) (i status : Nat) (s : State) (b : Nat) : ref (pgError k i status s) b = ref s b := by unfold ref; rw [pgError_refs]
@[simp] theorem ref_raiseMask (k : PageK) (i m : Nat) (s : State) (b : Nat) : ref (raiseMask k i m s) b = ref s b := by unfold ref; rw [raiseMask_refs]
@[simp] theorem ref_raise (k : PageK) (i b : Nat) (s : State) (b' : Nat) : ref (raise k i b s) b' = ref s b' := by unfold ref; rw [raise_refs]
@[simp] theorem ref_advance (t : Nat) (s : State) (b : Nat) : ref (advance t s) b = ref s b := by unfold ref; rw [advance_refs]
@[simp] theorem ref_modRef_self (b : Nat) (f : RefBuf → RefBuf) (s : State) : ref (modRef b f s) b = f (ref s b) := tget_tmod_self ..
@[simp] theorem ref_modRef_ne (b : Nat) (f : RefBuf → RefBuf) (s : State) (k : Nat) (h : k ≠ b) : ref (modRef b f s) k = ref s k := tget_tmod_ne _ _ _ h
theorem ref_modRef (b : Nat) (f : RefBuf → RefBuf) (s : State) (k : Nat) : ref (modRef b f s) k = if k = b then f (ref s b) else ref s k := by
  by_cases h : k = b
  · subst h
    simp
  · simp [h]

@[simp] theorem aux_setRg (a : Nat) (w : Word) (s : State) (n : Nat) : aux (setRg a w s) n = aux s n := rfl
@[simp] theorem aux_setStg (a : Nat) (w : Word) (s : State) (n : Nat) : aux (setStg a w s) n = aux s n := rfl
@[simp] theorem aux_modChan (g : Nat) (f : Chan → Chan) (s : State) (n : Nat) : aux (modChan g f s) n = aux s n := rfl
@[simp] theorem aux_modTap (g : Nat) (f : Tap → Tap) (s : State) (n : Nat) : aux (modTap g f s) n = aux s n := rfl
@[simp] theorem aux_modDie (n : Nat) (f : Die → Die) (s : State) (n' : Nat) : aux (modDie n f s) n' = aux s n' := rfl
@[simp] theorem aux_modExc (o : Nat) (f : Exc → Exc) (s : State) (n : Nat) : aux (modExc o f s) n = aux s n := rfl
@[simp] theorem aux_modRef (b : Nat) (f : RefBuf → RefBuf) (s : State) (n : Nat) : aux (modRef b f s) n = aux s n := rfl
@[simp] theorem aux_modTlane (n : Nat) (f : TLane → TLane) (s : State) (n' : Nat) : aux (modTlane n f s) n' = aux s n' := rfl
@[simp] theorem aux_modHst (f : Hst → Hst) (s : State) (n : Nat) : aux (modHst f s) n = aux s n := rfl
@[simp] theorem aux_modLane (n : Nat) (f : Lane → Lane) (s : State) (n' : Nat) : aux (modLane n f s) n' = aux s n' := rfl
@[simp] theorem aux_modQueue (q : Nat) (f : Queue → Queue) (s : State) (n : Nat) : aux (modQueue q f s) n = aux s n := rfl
@[simp] theorem aux_modMem (f : Mem → Mem) (s : State) (n : Nat) : aux (modMem f s) n = aux s n := rfl
@[simp] theorem aux_await (f : Flight) (w : Wait) (s : State) (n : Nat) : aux (await f w s) n = aux s n := rfl
@[simp] theorem aux_modCmt (f : Cmt → Cmt) (s : State) (n : Nat) : aux (modCmt f s) n = aux s n := rfl
@[simp] theorem aux_modPlan (p : Nat) (f : Plan → Plan) (s : State) (n : Nat) : aux (modPlan p f s) n = aux s n := rfl
@[simp] theorem aux_modTwn (f : Twn → Twn) (s : State) (n : Nat) : aux (modTwn f s) n = aux s n := rfl
@[simp] theorem aux_setArc (e : Eng) (s : State) (n : Nat) : aux (setArc e s) n = aux s n := rfl
@[simp] theorem aux_setDcmp (e : Eng) (s : State) (n : Nat) : aux (setDcmp e s) n = aux s n := rfl
@[simp] theorem aux_modStrm (i : Nat) (f : Stream → Stream) (s : State) (n : Nat) : aux (modStrm i f s) n = aux s n := rfl
@[simp] theorem aux_modSlot (i : Nat) (f : Slot → Slot) (s : State) (n : Nat) : aux (modSlot i f s) n = aux s n := rfl
@[simp] theorem aux_modBcn (f : Bcn → Bcn) (s : State) (n : Nat) : aux (modBcn f s) n = aux s n := rfl
@[simp] theorem aux_modTst (f : Tst → Tst) (s : State) (n : Nat) : aux (modTst f s) n = aux s n := rfl
@[simp] theorem aux_modPwr (f : Pwr → Pwr) (s : State) (n : Nat) : aux (modPwr f s) n = aux s n := rfl
@[simp] theorem aux_setStart (g : Nat) (f : Option Nat) (s : State) (n : Nat) : aux (setStart g f s) n = aux s n := rfl
@[simp] theorem aux_modTmb (f : Tmb → Tmb) (s : State) (n : Nat) : aux (modTmb f s) n = aux s n := rfl
@[simp] theorem aux_setHub (x : HubSt) (s : State) (n : Nat) : aux (setHub x s) n = aux s n := rfl
@[simp] theorem aux_setLatch (p : Path) (a : Nat) (v : Option Word) (s : State) (n : Nat) : aux (setLatch p a v s) n = aux s n := rfl
@[simp] theorem aux_modProf (i : Nat) (f : Prof → Prof) (s : State) (n : Nat) : aux (modProf i f s) n = aux s n := rfl
@[simp] theorem aux_modGunit (u : Nat) (f : GUnit → GUnit) (s : State) (n : Nat) : aux (modGunit u f s) n = aux s n := rfl
@[simp] theorem aux_modTunit (u : Nat) (f : TUnit → TUnit) (s : State) (n : Nat) : aux (modTunit u f s) n = aux s n := rfl
@[simp] theorem aux_modDsp (f : Dsp → Dsp) (s : State) (n : Nat) : aux (modDsp f s) n = aux s n := rfl
@[simp] theorem aux_evtNote (k : PageK) (i : Nat) (was : Bool) (s : State) (n : Nat) : aux (evtNote k i was s) n = aux s n := by unfold aux; rw [evtNote_auxs]
@[simp] theorem aux_bump (a n : Nat) (s : State) (n' : Nat) : aux (bump a n s) n' = aux s n' := by unfold aux; rw [bump_auxs]
@[simp] theorem aux_pgError (k : PageK) (i status : Nat) (s : State) (n : Nat) : aux (pgError k i status s) n = aux s n := by unfold aux; rw [pgError_auxs]
@[simp] theorem aux_raiseMask (k : PageK) (i m : Nat) (s : State) (n : Nat) : aux (raiseMask k i m s) n = aux s n := by unfold aux; rw [raiseMask_auxs]
@[simp] theorem aux_raise (k : PageK) (i b : Nat) (s : State) (n : Nat) : aux (raise k i b s) n = aux s n := by unfold aux; rw [raise_auxs]
@[simp] theorem aux_advance (t : Nat) (s : State) (n : Nat) : aux (advance t s) n = aux s n := by unfold aux; rw [advance_auxs]
@[simp] theorem aux_modAux_self (n : Nat) (f : Aux → Aux) (s : State) : aux (modAux n f s) n = f (aux s n) := tget_tmod_self ..
@[simp] theorem aux_modAux_ne (n : Nat) (f : Aux → Aux) (s : State) (k : Nat) (h : k ≠ n) : aux (modAux n f s) k = aux s k := tget_tmod_ne _ _ _ h
theorem aux_modAux (n : Nat) (f : Aux → Aux) (s : State) (k : Nat) : aux (modAux n f s) k = if k = n then f (aux s n) else aux s k := by
  by_cases h : k = n
  · subst h
    simp
  · simp [h]

@[simp] theorem tlane_setRg (a : Nat) (w : Word) (s : State) (n : Nat) : tlane (setRg a w s) n = tlane s n := rfl
@[simp] theorem tlane_setStg (a : Nat) (w : Word) (s : State) (n : Nat) : tlane (setStg a w s) n = tlane s n := rfl
@[simp] theorem tlane_modChan (g : Nat) (f : Chan → Chan) (s : State) (n : Nat) : tlane (modChan g f s) n = tlane s n := rfl
@[simp] theorem tlane_modTap (g : Nat) (f : Tap → Tap) (s : State) (n : Nat) : tlane (modTap g f s) n = tlane s n := rfl
@[simp] theorem tlane_modDie (n : Nat) (f : Die → Die) (s : State) (n' : Nat) : tlane (modDie n f s) n' = tlane s n' := rfl
@[simp] theorem tlane_modExc (o : Nat) (f : Exc → Exc) (s : State) (n : Nat) : tlane (modExc o f s) n = tlane s n := rfl
@[simp] theorem tlane_modRef (b : Nat) (f : RefBuf → RefBuf) (s : State) (n : Nat) : tlane (modRef b f s) n = tlane s n := rfl
@[simp] theorem tlane_modAux (n : Nat) (f : Aux → Aux) (s : State) (n' : Nat) : tlane (modAux n f s) n' = tlane s n' := rfl
@[simp] theorem tlane_modHst (f : Hst → Hst) (s : State) (n : Nat) : tlane (modHst f s) n = tlane s n := rfl
@[simp] theorem tlane_modLane (n : Nat) (f : Lane → Lane) (s : State) (n' : Nat) : tlane (modLane n f s) n' = tlane s n' := rfl
@[simp] theorem tlane_modQueue (q : Nat) (f : Queue → Queue) (s : State) (n : Nat) : tlane (modQueue q f s) n = tlane s n := rfl
@[simp] theorem tlane_modMem (f : Mem → Mem) (s : State) (n : Nat) : tlane (modMem f s) n = tlane s n := rfl
@[simp] theorem tlane_await (f : Flight) (w : Wait) (s : State) (n : Nat) : tlane (await f w s) n = tlane s n := rfl
@[simp] theorem tlane_modCmt (f : Cmt → Cmt) (s : State) (n : Nat) : tlane (modCmt f s) n = tlane s n := rfl
@[simp] theorem tlane_modPlan (p : Nat) (f : Plan → Plan) (s : State) (n : Nat) : tlane (modPlan p f s) n = tlane s n := rfl
@[simp] theorem tlane_modTwn (f : Twn → Twn) (s : State) (n : Nat) : tlane (modTwn f s) n = tlane s n := rfl
@[simp] theorem tlane_setArc (e : Eng) (s : State) (n : Nat) : tlane (setArc e s) n = tlane s n := rfl
@[simp] theorem tlane_setDcmp (e : Eng) (s : State) (n : Nat) : tlane (setDcmp e s) n = tlane s n := rfl
@[simp] theorem tlane_modStrm (i : Nat) (f : Stream → Stream) (s : State) (n : Nat) : tlane (modStrm i f s) n = tlane s n := rfl
@[simp] theorem tlane_modSlot (i : Nat) (f : Slot → Slot) (s : State) (n : Nat) : tlane (modSlot i f s) n = tlane s n := rfl
@[simp] theorem tlane_modBcn (f : Bcn → Bcn) (s : State) (n : Nat) : tlane (modBcn f s) n = tlane s n := rfl
@[simp] theorem tlane_modTst (f : Tst → Tst) (s : State) (n : Nat) : tlane (modTst f s) n = tlane s n := rfl
@[simp] theorem tlane_modPwr (f : Pwr → Pwr) (s : State) (n : Nat) : tlane (modPwr f s) n = tlane s n := rfl
@[simp] theorem tlane_setStart (g : Nat) (f : Option Nat) (s : State) (n : Nat) : tlane (setStart g f s) n = tlane s n := rfl
@[simp] theorem tlane_setHub (x : HubSt) (s : State) (n : Nat) : tlane (setHub x s) n = tlane s n := rfl
@[simp] theorem tlane_setLatch (p : Path) (a : Nat) (v : Option Word) (s : State) (n : Nat) : tlane (setLatch p a v s) n = tlane s n := rfl
@[simp] theorem tlane_modProf (i : Nat) (f : Prof → Prof) (s : State) (n : Nat) : tlane (modProf i f s) n = tlane s n := rfl
@[simp] theorem tlane_modGunit (u : Nat) (f : GUnit → GUnit) (s : State) (n : Nat) : tlane (modGunit u f s) n = tlane s n := rfl
@[simp] theorem tlane_modTunit (u : Nat) (f : TUnit → TUnit) (s : State) (n : Nat) : tlane (modTunit u f s) n = tlane s n := rfl
@[simp] theorem tlane_modDsp (f : Dsp → Dsp) (s : State) (n : Nat) : tlane (modDsp f s) n = tlane s n := rfl
@[simp] theorem tlane_evtNote (k : PageK) (i : Nat) (was : Bool) (s : State) (n : Nat) : tlane (evtNote k i was s) n = tlane s n := by unfold tlane; rw [evtNote_tmb]
@[simp] theorem tlane_bump (a n : Nat) (s : State) (n' : Nat) : tlane (bump a n s) n' = tlane s n' := by unfold tlane; rw [bump_tmb]
@[simp] theorem tlane_pgError (k : PageK) (i status : Nat) (s : State) (n : Nat) : tlane (pgError k i status s) n = tlane s n := by unfold tlane; rw [pgError_tmb]
@[simp] theorem tlane_raiseMask (k : PageK) (i m : Nat) (s : State) (n : Nat) : tlane (raiseMask k i m s) n = tlane s n := by unfold tlane; rw [raiseMask_tmb]
@[simp] theorem tlane_raise (k : PageK) (i b : Nat) (s : State) (n : Nat) : tlane (raise k i b s) n = tlane s n := by unfold tlane; rw [raise_tmb]
@[simp] theorem tlane_advance (t : Nat) (s : State) (n : Nat) : tlane (advance t s) n = tlane s n := by unfold tlane; rw [advance_tmb]
@[simp] theorem tlane_modTlane_self (n : Nat) (f : TLane → TLane) (s : State) : tlane (modTlane n f s) n = f (tlane s n) := tget_tmod_self ..
@[simp] theorem tlane_modTlane_ne (n : Nat) (f : TLane → TLane) (s : State) (k : Nat) (h : k ≠ n) : tlane (modTlane n f s) k = tlane s k := tget_tmod_ne _ _ _ h
theorem tlane_modTlane (n : Nat) (f : TLane → TLane) (s : State) (k : Nat) : tlane (modTlane n f s) k = if k = n then f (tlane s n) else tlane s k := by
  by_cases h : k = n
  · subst h
    simp
  · simp [h]

@[simp] theorem lane_setRg (a : Nat) (w : Word) (s : State) (n : Nat) : lane (setRg a w s) n = lane s n := rfl
@[simp] theorem lane_setStg (a : Nat) (w : Word) (s : State) (n : Nat) : lane (setStg a w s) n = lane s n := rfl
@[simp] theorem lane_modChan (g : Nat) (f : Chan → Chan) (s : State) (n : Nat) : lane (modChan g f s) n = lane s n := rfl
@[simp] theorem lane_modTap (g : Nat) (f : Tap → Tap) (s : State) (n : Nat) : lane (modTap g f s) n = lane s n := rfl
@[simp] theorem lane_modDie (n : Nat) (f : Die → Die) (s : State) (n' : Nat) : lane (modDie n f s) n' = lane s n' := rfl
@[simp] theorem lane_modExc (o : Nat) (f : Exc → Exc) (s : State) (n : Nat) : lane (modExc o f s) n = lane s n := rfl
@[simp] theorem lane_modRef (b : Nat) (f : RefBuf → RefBuf) (s : State) (n : Nat) : lane (modRef b f s) n = lane s n := rfl
@[simp] theorem lane_modAux (n : Nat) (f : Aux → Aux) (s : State) (n' : Nat) : lane (modAux n f s) n' = lane s n' := rfl
@[simp] theorem lane_modTlane (n : Nat) (f : TLane → TLane) (s : State) (n' : Nat) : lane (modTlane n f s) n' = lane s n' := rfl
@[simp] theorem lane_modHst (f : Hst → Hst) (s : State) (n : Nat) : lane (modHst f s) n = lane s n := rfl
@[simp] theorem lane_modQueue (q : Nat) (f : Queue → Queue) (s : State) (n : Nat) : lane (modQueue q f s) n = lane s n := rfl
@[simp] theorem lane_modMem (f : Mem → Mem) (s : State) (n : Nat) : lane (modMem f s) n = lane s n := rfl
@[simp] theorem lane_await (f : Flight) (w : Wait) (s : State) (n : Nat) : lane (await f w s) n = lane s n := rfl
@[simp] theorem lane_modCmt (f : Cmt → Cmt) (s : State) (n : Nat) : lane (modCmt f s) n = lane s n := rfl
@[simp] theorem lane_modPlan (p : Nat) (f : Plan → Plan) (s : State) (n : Nat) : lane (modPlan p f s) n = lane s n := rfl
@[simp] theorem lane_modTwn (f : Twn → Twn) (s : State) (n : Nat) : lane (modTwn f s) n = lane s n := rfl
@[simp] theorem lane_setArc (e : Eng) (s : State) (n : Nat) : lane (setArc e s) n = lane s n := rfl
@[simp] theorem lane_setDcmp (e : Eng) (s : State) (n : Nat) : lane (setDcmp e s) n = lane s n := rfl
@[simp] theorem lane_modStrm (i : Nat) (f : Stream → Stream) (s : State) (n : Nat) : lane (modStrm i f s) n = lane s n := rfl
@[simp] theorem lane_modSlot (i : Nat) (f : Slot → Slot) (s : State) (n : Nat) : lane (modSlot i f s) n = lane s n := rfl
@[simp] theorem lane_modBcn (f : Bcn → Bcn) (s : State) (n : Nat) : lane (modBcn f s) n = lane s n := rfl
@[simp] theorem lane_modTst (f : Tst → Tst) (s : State) (n : Nat) : lane (modTst f s) n = lane s n := rfl
@[simp] theorem lane_modPwr (f : Pwr → Pwr) (s : State) (n : Nat) : lane (modPwr f s) n = lane s n := rfl
@[simp] theorem lane_setStart (g : Nat) (f : Option Nat) (s : State) (n : Nat) : lane (setStart g f s) n = lane s n := rfl
@[simp] theorem lane_modTmb (f : Tmb → Tmb) (s : State) (n : Nat) : lane (modTmb f s) n = lane s n := rfl
@[simp] theorem lane_setHub (x : HubSt) (s : State) (n : Nat) : lane (setHub x s) n = lane s n := rfl
@[simp] theorem lane_setLatch (p : Path) (a : Nat) (v : Option Word) (s : State) (n : Nat) : lane (setLatch p a v s) n = lane s n := rfl
@[simp] theorem lane_modProf (i : Nat) (f : Prof → Prof) (s : State) (n : Nat) : lane (modProf i f s) n = lane s n := rfl
@[simp] theorem lane_modGunit (u : Nat) (f : GUnit → GUnit) (s : State) (n : Nat) : lane (modGunit u f s) n = lane s n := rfl
@[simp] theorem lane_modTunit (u : Nat) (f : TUnit → TUnit) (s : State) (n : Nat) : lane (modTunit u f s) n = lane s n := rfl
@[simp] theorem lane_modDsp (f : Dsp → Dsp) (s : State) (n : Nat) : lane (modDsp f s) n = lane s n := rfl
@[simp] theorem lane_evtNote (k : PageK) (i : Nat) (was : Bool) (s : State) (n : Nat) : lane (evtNote k i was s) n = lane s n := by unfold lane; rw [evtNote_lanes]
@[simp] theorem lane_bump (a n : Nat) (s : State) (n' : Nat) : lane (bump a n s) n' = lane s n' := by unfold lane; rw [bump_lanes]
@[simp] theorem lane_pgError (k : PageK) (i status : Nat) (s : State) (n : Nat) : lane (pgError k i status s) n = lane s n := by unfold lane; rw [pgError_lanes]
@[simp] theorem lane_raiseMask (k : PageK) (i m : Nat) (s : State) (n : Nat) : lane (raiseMask k i m s) n = lane s n := by unfold lane; rw [raiseMask_lanes]
@[simp] theorem lane_raise (k : PageK) (i b : Nat) (s : State) (n : Nat) : lane (raise k i b s) n = lane s n := by unfold lane; rw [raise_lanes]
@[simp] theorem lane_advance (t : Nat) (s : State) (n : Nat) : lane (advance t s) n = lane s n := by unfold lane; rw [advance_lanes]
@[simp] theorem lane_modLane_self (n : Nat) (f : Lane → Lane) (s : State) : lane (modLane n f s) n = f (lane s n) := tget_tmod_self ..
@[simp] theorem lane_modLane_ne (n : Nat) (f : Lane → Lane) (s : State) (k : Nat) (h : k ≠ n) : lane (modLane n f s) k = lane s k := tget_tmod_ne _ _ _ h
theorem lane_modLane (n : Nat) (f : Lane → Lane) (s : State) (k : Nat) : lane (modLane n f s) k = if k = n then f (lane s n) else lane s k := by
  by_cases h : k = n
  · subst h
    simp
  · simp [h]

@[simp] theorem queue_setRg (a : Nat) (w : Word) (s : State) (q : Nat) : queue (setRg a w s) q = queue s q := rfl
@[simp] theorem queue_setStg (a : Nat) (w : Word) (s : State) (q : Nat) : queue (setStg a w s) q = queue s q := rfl
@[simp] theorem queue_modChan (g : Nat) (f : Chan → Chan) (s : State) (q : Nat) : queue (modChan g f s) q = queue s q := rfl
@[simp] theorem queue_modTap (g : Nat) (f : Tap → Tap) (s : State) (q : Nat) : queue (modTap g f s) q = queue s q := rfl
@[simp] theorem queue_modDie (n : Nat) (f : Die → Die) (s : State) (q : Nat) : queue (modDie n f s) q = queue s q := rfl
@[simp] theorem queue_modExc (o : Nat) (f : Exc → Exc) (s : State) (q : Nat) : queue (modExc o f s) q = queue s q := rfl
@[simp] theorem queue_modRef (b : Nat) (f : RefBuf → RefBuf) (s : State) (q : Nat) : queue (modRef b f s) q = queue s q := rfl
@[simp] theorem queue_modAux (n : Nat) (f : Aux → Aux) (s : State) (q : Nat) : queue (modAux n f s) q = queue s q := rfl
@[simp] theorem queue_modTlane (n : Nat) (f : TLane → TLane) (s : State) (q : Nat) : queue (modTlane n f s) q = queue s q := rfl
@[simp] theorem queue_modHst (f : Hst → Hst) (s : State) (q : Nat) : queue (modHst f s) q = queue s q := rfl
@[simp] theorem queue_modLane (n : Nat) (f : Lane → Lane) (s : State) (q : Nat) : queue (modLane n f s) q = queue s q := rfl
@[simp] theorem queue_modMem (f : Mem → Mem) (s : State) (q : Nat) : queue (modMem f s) q = queue s q := rfl
@[simp] theorem queue_await (f : Flight) (w : Wait) (s : State) (q : Nat) : queue (await f w s) q = queue s q := rfl
@[simp] theorem queue_modCmt (f : Cmt → Cmt) (s : State) (q : Nat) : queue (modCmt f s) q = queue s q := rfl
@[simp] theorem queue_modPlan (p : Nat) (f : Plan → Plan) (s : State) (q : Nat) : queue (modPlan p f s) q = queue s q := rfl
@[simp] theorem queue_modTwn (f : Twn → Twn) (s : State) (q : Nat) : queue (modTwn f s) q = queue s q := rfl
@[simp] theorem queue_setArc (e : Eng) (s : State) (q : Nat) : queue (setArc e s) q = queue s q := rfl
@[simp] theorem queue_setDcmp (e : Eng) (s : State) (q : Nat) : queue (setDcmp e s) q = queue s q := rfl
@[simp] theorem queue_modStrm (i : Nat) (f : Stream → Stream) (s : State) (q : Nat) : queue (modStrm i f s) q = queue s q := rfl
@[simp] theorem queue_modSlot (i : Nat) (f : Slot → Slot) (s : State) (q : Nat) : queue (modSlot i f s) q = queue s q := rfl
@[simp] theorem queue_modBcn (f : Bcn → Bcn) (s : State) (q : Nat) : queue (modBcn f s) q = queue s q := rfl
@[simp] theorem queue_modTst (f : Tst → Tst) (s : State) (q : Nat) : queue (modTst f s) q = queue s q := rfl
@[simp] theorem queue_modPwr (f : Pwr → Pwr) (s : State) (q : Nat) : queue (modPwr f s) q = queue s q := rfl
@[simp] theorem queue_setStart (g : Nat) (f : Option Nat) (s : State) (q : Nat) : queue (setStart g f s) q = queue s q := rfl
@[simp] theorem queue_modTmb (f : Tmb → Tmb) (s : State) (q : Nat) : queue (modTmb f s) q = queue s q := rfl
@[simp] theorem queue_setHub (x : HubSt) (s : State) (q : Nat) : queue (setHub x s) q = queue s q := rfl
@[simp] theorem queue_setLatch (p : Path) (a : Nat) (v : Option Word) (s : State) (q : Nat) : queue (setLatch p a v s) q = queue s q := rfl
@[simp] theorem queue_modProf (i : Nat) (f : Prof → Prof) (s : State) (q : Nat) : queue (modProf i f s) q = queue s q := rfl
@[simp] theorem queue_modGunit (u : Nat) (f : GUnit → GUnit) (s : State) (q : Nat) : queue (modGunit u f s) q = queue s q := rfl
@[simp] theorem queue_modTunit (u : Nat) (f : TUnit → TUnit) (s : State) (q : Nat) : queue (modTunit u f s) q = queue s q := rfl
@[simp] theorem queue_modDsp (f : Dsp → Dsp) (s : State) (q : Nat) : queue (modDsp f s) q = queue s q := rfl
@[simp] theorem queue_evtNote (k : PageK) (i : Nat) (was : Bool) (s : State) (q : Nat) : queue (evtNote k i was s) q = queue s q := by unfold queue; rw [evtNote_queues]
@[simp] theorem queue_bump (a n : Nat) (s : State) (q : Nat) : queue (bump a n s) q = queue s q := by unfold queue; rw [bump_queues]
@[simp] theorem queue_pgError (k : PageK) (i status : Nat) (s : State) (q : Nat) : queue (pgError k i status s) q = queue s q := by unfold queue; rw [pgError_queues]
@[simp] theorem queue_raiseMask (k : PageK) (i m : Nat) (s : State) (q : Nat) : queue (raiseMask k i m s) q = queue s q := by unfold queue; rw [raiseMask_queues]
@[simp] theorem queue_raise (k : PageK) (i b : Nat) (s : State) (q : Nat) : queue (raise k i b s) q = queue s q := by unfold queue; rw [raise_queues]
@[simp] theorem queue_advance (t : Nat) (s : State) (q : Nat) : queue (advance t s) q = queue s q := by unfold queue; rw [advance_queues]
@[simp] theorem queue_modQueue_self (q : Nat) (f : Queue → Queue) (s : State) : queue (modQueue q f s) q = f (queue s q) := tget_tmod_self ..
@[simp] theorem queue_modQueue_ne (q : Nat) (f : Queue → Queue) (s : State) (k : Nat) (h : k ≠ q) : queue (modQueue q f s) k = queue s k := tget_tmod_ne _ _ _ h
theorem queue_modQueue (q : Nat) (f : Queue → Queue) (s : State) (k : Nat) : queue (modQueue q f s) k = if k = q then f (queue s q) else queue s k := by
  by_cases h : k = q
  · subst h
    simp
  · simp [h]

@[simp] theorem strm_setRg (a : Nat) (w : Word) (s : State) (i : Nat) : strm (setRg a w s) i = strm s i := rfl
@[simp] theorem strm_setStg (a : Nat) (w : Word) (s : State) (i : Nat) : strm (setStg a w s) i = strm s i := rfl
@[simp] theorem strm_modChan (g : Nat) (f : Chan → Chan) (s : State) (i : Nat) : strm (modChan g f s) i = strm s i := rfl
@[simp] theorem strm_modTap (g : Nat) (f : Tap → Tap) (s : State) (i : Nat) : strm (modTap g f s) i = strm s i := rfl
@[simp] theorem strm_modDie (n : Nat) (f : Die → Die) (s : State) (i : Nat) : strm (modDie n f s) i = strm s i := rfl
@[simp] theorem strm_modExc (o : Nat) (f : Exc → Exc) (s : State) (i : Nat) : strm (modExc o f s) i = strm s i := rfl
@[simp] theorem strm_modRef (b : Nat) (f : RefBuf → RefBuf) (s : State) (i : Nat) : strm (modRef b f s) i = strm s i := rfl
@[simp] theorem strm_modAux (n : Nat) (f : Aux → Aux) (s : State) (i : Nat) : strm (modAux n f s) i = strm s i := rfl
@[simp] theorem strm_modTlane (n : Nat) (f : TLane → TLane) (s : State) (i : Nat) : strm (modTlane n f s) i = strm s i := rfl
@[simp] theorem strm_modHst (f : Hst → Hst) (s : State) (i : Nat) : strm (modHst f s) i = strm s i := rfl
@[simp] theorem strm_modLane (n : Nat) (f : Lane → Lane) (s : State) (i : Nat) : strm (modLane n f s) i = strm s i := rfl
@[simp] theorem strm_modQueue (q : Nat) (f : Queue → Queue) (s : State) (i : Nat) : strm (modQueue q f s) i = strm s i := rfl
@[simp] theorem strm_modMem (f : Mem → Mem) (s : State) (i : Nat) : strm (modMem f s) i = strm s i := rfl
@[simp] theorem strm_await (f : Flight) (w : Wait) (s : State) (i : Nat) : strm (await f w s) i = strm s i := rfl
@[simp] theorem strm_modCmt (f : Cmt → Cmt) (s : State) (i : Nat) : strm (modCmt f s) i = strm s i := rfl
@[simp] theorem strm_modPlan (p : Nat) (f : Plan → Plan) (s : State) (i : Nat) : strm (modPlan p f s) i = strm s i := rfl
@[simp] theorem strm_modTwn (f : Twn → Twn) (s : State) (i : Nat) : strm (modTwn f s) i = strm s i := rfl
@[simp] theorem strm_setArc (e : Eng) (s : State) (i : Nat) : strm (setArc e s) i = strm s i := rfl
@[simp] theorem strm_setDcmp (e : Eng) (s : State) (i : Nat) : strm (setDcmp e s) i = strm s i := rfl
@[simp] theorem strm_modSlot (i : Nat) (f : Slot → Slot) (s : State) (i' : Nat) : strm (modSlot i f s) i' = strm s i' := rfl
@[simp] theorem strm_modBcn (f : Bcn → Bcn) (s : State) (i : Nat) : strm (modBcn f s) i = strm s i := rfl
@[simp] theorem strm_modTst (f : Tst → Tst) (s : State) (i : Nat) : strm (modTst f s) i = strm s i := rfl
@[simp] theorem strm_modPwr (f : Pwr → Pwr) (s : State) (i : Nat) : strm (modPwr f s) i = strm s i := rfl
@[simp] theorem strm_setStart (g : Nat) (f : Option Nat) (s : State) (i : Nat) : strm (setStart g f s) i = strm s i := rfl
@[simp] theorem strm_modTmb (f : Tmb → Tmb) (s : State) (i : Nat) : strm (modTmb f s) i = strm s i := rfl
@[simp] theorem strm_setHub (x : HubSt) (s : State) (i : Nat) : strm (setHub x s) i = strm s i := rfl
@[simp] theorem strm_setLatch (p : Path) (a : Nat) (v : Option Word) (s : State) (i : Nat) : strm (setLatch p a v s) i = strm s i := rfl
@[simp] theorem strm_modProf (i : Nat) (f : Prof → Prof) (s : State) (i' : Nat) : strm (modProf i f s) i' = strm s i' := rfl
@[simp] theorem strm_modGunit (u : Nat) (f : GUnit → GUnit) (s : State) (i : Nat) : strm (modGunit u f s) i = strm s i := rfl
@[simp] theorem strm_modTunit (u : Nat) (f : TUnit → TUnit) (s : State) (i : Nat) : strm (modTunit u f s) i = strm s i := rfl
@[simp] theorem strm_modDsp (f : Dsp → Dsp) (s : State) (i : Nat) : strm (modDsp f s) i = strm s i := rfl
@[simp] theorem strm_evtNote (k : PageK) (i : Nat) (was : Bool) (s : State) (i' : Nat) : strm (evtNote k i was s) i' = strm s i' := by unfold strm; rw [evtNote_streams]
@[simp] theorem strm_bump (a n : Nat) (s : State) (i : Nat) : strm (bump a n s) i = strm s i := by unfold strm; rw [bump_streams]
@[simp] theorem strm_pgError (k : PageK) (i status : Nat) (s : State) (i' : Nat) : strm (pgError k i status s) i' = strm s i' := by unfold strm; rw [pgError_streams]
@[simp] theorem strm_raiseMask (k : PageK) (i m : Nat) (s : State) (i' : Nat) : strm (raiseMask k i m s) i' = strm s i' := by unfold strm; rw [raiseMask_streams]
@[simp] theorem strm_raise (k : PageK) (i b : Nat) (s : State) (i' : Nat) : strm (raise k i b s) i' = strm s i' := by unfold strm; rw [raise_streams]
@[simp] theorem strm_advance (t : Nat) (s : State) (i : Nat) : strm (advance t s) i = strm s i := by unfold strm; rw [advance_streams]
@[simp] theorem strm_modStrm_self (i : Nat) (f : Stream → Stream) (s : State) : strm (modStrm i f s) i = f (strm s i) := tget_tmod_self ..
@[simp] theorem strm_modStrm_ne (i : Nat) (f : Stream → Stream) (s : State) (k : Nat) (h : k ≠ i) : strm (modStrm i f s) k = strm s k := tget_tmod_ne _ _ _ h
theorem strm_modStrm (i : Nat) (f : Stream → Stream) (s : State) (k : Nat) : strm (modStrm i f s) k = if k = i then f (strm s i) else strm s k := by
  by_cases h : k = i
  · subst h
    simp
  · simp [h]

@[simp] theorem plan_setRg (a : Nat) (w : Word) (s : State) (p : Nat) : plan (setRg a w s) p = plan s p := rfl
@[simp] theorem plan_setStg (a : Nat) (w : Word) (s : State) (p : Nat) : plan (setStg a w s) p = plan s p := rfl
@[simp] theorem plan_modChan (g : Nat) (f : Chan → Chan) (s : State) (p : Nat) : plan (modChan g f s) p = plan s p := rfl
@[simp] theorem plan_modTap (g : Nat) (f : Tap → Tap) (s : State) (p : Nat) : plan (modTap g f s) p = plan s p := rfl
@[simp] theorem plan_modDie (n : Nat) (f : Die → Die) (s : State) (p : Nat) : plan (modDie n f s) p = plan s p := rfl
@[simp] theorem plan_modExc (o : Nat) (f : Exc → Exc) (s : State) (p : Nat) : plan (modExc o f s) p = plan s p := rfl
@[simp] theorem plan_modRef (b : Nat) (f : RefBuf → RefBuf) (s : State) (p : Nat) : plan (modRef b f s) p = plan s p := rfl
@[simp] theorem plan_modAux (n : Nat) (f : Aux → Aux) (s : State) (p : Nat) : plan (modAux n f s) p = plan s p := rfl
@[simp] theorem plan_modTlane (n : Nat) (f : TLane → TLane) (s : State) (p : Nat) : plan (modTlane n f s) p = plan s p := rfl
@[simp] theorem plan_modHst (f : Hst → Hst) (s : State) (p : Nat) : plan (modHst f s) p = plan s p := rfl
@[simp] theorem plan_modLane (n : Nat) (f : Lane → Lane) (s : State) (p : Nat) : plan (modLane n f s) p = plan s p := rfl
@[simp] theorem plan_modQueue (q : Nat) (f : Queue → Queue) (s : State) (p : Nat) : plan (modQueue q f s) p = plan s p := rfl
@[simp] theorem plan_modMem (f : Mem → Mem) (s : State) (p : Nat) : plan (modMem f s) p = plan s p := rfl
@[simp] theorem plan_await (f : Flight) (w : Wait) (s : State) (p : Nat) : plan (await f w s) p = plan s p := rfl
@[simp] theorem plan_modCmt (f : Cmt → Cmt) (s : State) (p : Nat) : plan (modCmt f s) p = plan s p := rfl
@[simp] theorem plan_modTwn (f : Twn → Twn) (s : State) (p : Nat) : plan (modTwn f s) p = plan s p := rfl
@[simp] theorem plan_setArc (e : Eng) (s : State) (p : Nat) : plan (setArc e s) p = plan s p := rfl
@[simp] theorem plan_setDcmp (e : Eng) (s : State) (p : Nat) : plan (setDcmp e s) p = plan s p := rfl
@[simp] theorem plan_modStrm (i : Nat) (f : Stream → Stream) (s : State) (p : Nat) : plan (modStrm i f s) p = plan s p := rfl
@[simp] theorem plan_modSlot (i : Nat) (f : Slot → Slot) (s : State) (p : Nat) : plan (modSlot i f s) p = plan s p := rfl
@[simp] theorem plan_modBcn (f : Bcn → Bcn) (s : State) (p : Nat) : plan (modBcn f s) p = plan s p := rfl
@[simp] theorem plan_modTst (f : Tst → Tst) (s : State) (p : Nat) : plan (modTst f s) p = plan s p := rfl
@[simp] theorem plan_modPwr (f : Pwr → Pwr) (s : State) (p : Nat) : plan (modPwr f s) p = plan s p := rfl
@[simp] theorem plan_setStart (g : Nat) (f : Option Nat) (s : State) (p : Nat) : plan (setStart g f s) p = plan s p := rfl
@[simp] theorem plan_modTmb (f : Tmb → Tmb) (s : State) (p : Nat) : plan (modTmb f s) p = plan s p := rfl
@[simp] theorem plan_setHub (x : HubSt) (s : State) (p : Nat) : plan (setHub x s) p = plan s p := rfl
@[simp] theorem plan_setLatch (p : Path) (a : Nat) (v : Option Word) (s : State) (p' : Nat) : plan (setLatch p a v s) p' = plan s p' := rfl
@[simp] theorem plan_modProf (i : Nat) (f : Prof → Prof) (s : State) (p : Nat) : plan (modProf i f s) p = plan s p := rfl
@[simp] theorem plan_modGunit (u : Nat) (f : GUnit → GUnit) (s : State) (p : Nat) : plan (modGunit u f s) p = plan s p := rfl
@[simp] theorem plan_modTunit (u : Nat) (f : TUnit → TUnit) (s : State) (p : Nat) : plan (modTunit u f s) p = plan s p := rfl
@[simp] theorem plan_modDsp (f : Dsp → Dsp) (s : State) (p : Nat) : plan (modDsp f s) p = plan s p := rfl
@[simp] theorem plan_evtNote (k : PageK) (i : Nat) (was : Bool) (s : State) (p : Nat) : plan (evtNote k i was s) p = plan s p := by unfold plan; rw [evtNote_plans]
@[simp] theorem plan_bump (a n : Nat) (s : State) (p : Nat) : plan (bump a n s) p = plan s p := by unfold plan; rw [bump_plans]
@[simp] theorem plan_pgError (k : PageK) (i status : Nat) (s : State) (p : Nat) : plan (pgError k i status s) p = plan s p := by unfold plan; rw [pgError_plans]
@[simp] theorem plan_raiseMask (k : PageK) (i m : Nat) (s : State) (p : Nat) : plan (raiseMask k i m s) p = plan s p := by unfold plan; rw [raiseMask_plans]
@[simp] theorem plan_raise (k : PageK) (i b : Nat) (s : State) (p : Nat) : plan (raise k i b s) p = plan s p := by unfold plan; rw [raise_plans]
@[simp] theorem plan_advance (t : Nat) (s : State) (p : Nat) : plan (advance t s) p = plan s p := by unfold plan; rw [advance_plans]
@[simp] theorem plan_modPlan_self (p : Nat) (f : Plan → Plan) (s : State) : plan (modPlan p f s) p = f (plan s p) := tget_tmod_self ..
@[simp] theorem plan_modPlan_ne (p : Nat) (f : Plan → Plan) (s : State) (k : Nat) (h : k ≠ p) : plan (modPlan p f s) k = plan s k := tget_tmod_ne _ _ _ h
theorem plan_modPlan (p : Nat) (f : Plan → Plan) (s : State) (k : Nat) : plan (modPlan p f s) k = if k = p then f (plan s p) else plan s k := by
  by_cases h : k = p
  · subst h
    simp
  · simp [h]

@[simp] theorem slot_setRg (a : Nat) (w : Word) (s : State) (i : Nat) : slot (setRg a w s) i = slot s i := rfl
@[simp] theorem slot_setStg (a : Nat) (w : Word) (s : State) (i : Nat) : slot (setStg a w s) i = slot s i := rfl
@[simp] theorem slot_modChan (g : Nat) (f : Chan → Chan) (s : State) (i : Nat) : slot (modChan g f s) i = slot s i := rfl
@[simp] theorem slot_modTap (g : Nat) (f : Tap → Tap) (s : State) (i : Nat) : slot (modTap g f s) i = slot s i := rfl
@[simp] theorem slot_modDie (n : Nat) (f : Die → Die) (s : State) (i : Nat) : slot (modDie n f s) i = slot s i := rfl
@[simp] theorem slot_modExc (o : Nat) (f : Exc → Exc) (s : State) (i : Nat) : slot (modExc o f s) i = slot s i := rfl
@[simp] theorem slot_modRef (b : Nat) (f : RefBuf → RefBuf) (s : State) (i : Nat) : slot (modRef b f s) i = slot s i := rfl
@[simp] theorem slot_modAux (n : Nat) (f : Aux → Aux) (s : State) (i : Nat) : slot (modAux n f s) i = slot s i := rfl
@[simp] theorem slot_modTlane (n : Nat) (f : TLane → TLane) (s : State) (i : Nat) : slot (modTlane n f s) i = slot s i := rfl
@[simp] theorem slot_modHst (f : Hst → Hst) (s : State) (i : Nat) : slot (modHst f s) i = slot s i := rfl
@[simp] theorem slot_modLane (n : Nat) (f : Lane → Lane) (s : State) (i : Nat) : slot (modLane n f s) i = slot s i := rfl
@[simp] theorem slot_modQueue (q : Nat) (f : Queue → Queue) (s : State) (i : Nat) : slot (modQueue q f s) i = slot s i := rfl
@[simp] theorem slot_modMem (f : Mem → Mem) (s : State) (i : Nat) : slot (modMem f s) i = slot s i := rfl
@[simp] theorem slot_await (f : Flight) (w : Wait) (s : State) (i : Nat) : slot (await f w s) i = slot s i := rfl
@[simp] theorem slot_modCmt (f : Cmt → Cmt) (s : State) (i : Nat) : slot (modCmt f s) i = slot s i := rfl
@[simp] theorem slot_modPlan (p : Nat) (f : Plan → Plan) (s : State) (i : Nat) : slot (modPlan p f s) i = slot s i := rfl
@[simp] theorem slot_modTwn (f : Twn → Twn) (s : State) (i : Nat) : slot (modTwn f s) i = slot s i := rfl
@[simp] theorem slot_setArc (e : Eng) (s : State) (i : Nat) : slot (setArc e s) i = slot s i := rfl
@[simp] theorem slot_setDcmp (e : Eng) (s : State) (i : Nat) : slot (setDcmp e s) i = slot s i := rfl
@[simp] theorem slot_modStrm (i : Nat) (f : Stream → Stream) (s : State) (i' : Nat) : slot (modStrm i f s) i' = slot s i' := rfl
@[simp] theorem slot_modBcn (f : Bcn → Bcn) (s : State) (i : Nat) : slot (modBcn f s) i = slot s i := rfl
@[simp] theorem slot_modTst (f : Tst → Tst) (s : State) (i : Nat) : slot (modTst f s) i = slot s i := rfl
@[simp] theorem slot_modPwr (f : Pwr → Pwr) (s : State) (i : Nat) : slot (modPwr f s) i = slot s i := rfl
@[simp] theorem slot_setStart (g : Nat) (f : Option Nat) (s : State) (i : Nat) : slot (setStart g f s) i = slot s i := rfl
@[simp] theorem slot_modTmb (f : Tmb → Tmb) (s : State) (i : Nat) : slot (modTmb f s) i = slot s i := rfl
@[simp] theorem slot_setHub (x : HubSt) (s : State) (i : Nat) : slot (setHub x s) i = slot s i := rfl
@[simp] theorem slot_setLatch (p : Path) (a : Nat) (v : Option Word) (s : State) (i : Nat) : slot (setLatch p a v s) i = slot s i := rfl
@[simp] theorem slot_modProf (i : Nat) (f : Prof → Prof) (s : State) (i' : Nat) : slot (modProf i f s) i' = slot s i' := rfl
@[simp] theorem slot_modGunit (u : Nat) (f : GUnit → GUnit) (s : State) (i : Nat) : slot (modGunit u f s) i = slot s i := rfl
@[simp] theorem slot_modTunit (u : Nat) (f : TUnit → TUnit) (s : State) (i : Nat) : slot (modTunit u f s) i = slot s i := rfl
@[simp] theorem slot_modDsp (f : Dsp → Dsp) (s : State) (i : Nat) : slot (modDsp f s) i = slot s i := rfl
@[simp] theorem slot_evtNote (k : PageK) (i : Nat) (was : Bool) (s : State) (i' : Nat) : slot (evtNote k i was s) i' = slot s i' := by unfold slot; rw [evtNote_slots]
@[simp] theorem slot_bump (a n : Nat) (s : State) (i : Nat) : slot (bump a n s) i = slot s i := by unfold slot; rw [bump_slots]
@[simp] theorem slot_pgError (k : PageK) (i status : Nat) (s : State) (i' : Nat) : slot (pgError k i status s) i' = slot s i' := by unfold slot; rw [pgError_slots]
@[simp] theorem slot_raiseMask (k : PageK) (i m : Nat) (s : State) (i' : Nat) : slot (raiseMask k i m s) i' = slot s i' := by unfold slot; rw [raiseMask_slots]
@[simp] theorem slot_raise (k : PageK) (i b : Nat) (s : State) (i' : Nat) : slot (raise k i b s) i' = slot s i' := by unfold slot; rw [raise_slots]
@[simp] theorem slot_advance (t : Nat) (s : State) (i : Nat) : slot (advance t s) i = slot s i := by unfold slot; rw [advance_slots]
@[simp] theorem slot_modSlot_self (i : Nat) (f : Slot → Slot) (s : State) : slot (modSlot i f s) i = f (slot s i) := tget_tmod_self ..
@[simp] theorem slot_modSlot_ne (i : Nat) (f : Slot → Slot) (s : State) (k : Nat) (h : k ≠ i) : slot (modSlot i f s) k = slot s k := tget_tmod_ne _ _ _ h
theorem slot_modSlot (i : Nat) (f : Slot → Slot) (s : State) (k : Nat) : slot (modSlot i f s) k = if k = i then f (slot s i) else slot s k := by
  by_cases h : k = i
  · subst h
    simp
  · simp [h]

@[simp] theorem cbank_setRg (a : Nat) (w : Word) (s : State) (i : Nat) : cbank (setRg a w s) i = cbank s i := rfl
@[simp] theorem cbank_setStg (a : Nat) (w : Word) (s : State) (i : Nat) : cbank (setStg a w s) i = cbank s i := rfl
@[simp] theorem cbank_modChan (g : Nat) (f : Chan → Chan) (s : State) (i : Nat) : cbank (modChan g f s) i = cbank s i := rfl
@[simp] theorem cbank_modTap (g : Nat) (f : Tap → Tap) (s : State) (i : Nat) : cbank (modTap g f s) i = cbank s i := rfl
@[simp] theorem cbank_modDie (n : Nat) (f : Die → Die) (s : State) (i : Nat) : cbank (modDie n f s) i = cbank s i := rfl
@[simp] theorem cbank_modExc (o : Nat) (f : Exc → Exc) (s : State) (i : Nat) : cbank (modExc o f s) i = cbank s i := rfl
@[simp] theorem cbank_modRef (b : Nat) (f : RefBuf → RefBuf) (s : State) (i : Nat) : cbank (modRef b f s) i = cbank s i := rfl
@[simp] theorem cbank_modAux (n : Nat) (f : Aux → Aux) (s : State) (i : Nat) : cbank (modAux n f s) i = cbank s i := rfl
@[simp] theorem cbank_modTlane (n : Nat) (f : TLane → TLane) (s : State) (i : Nat) : cbank (modTlane n f s) i = cbank s i := rfl
@[simp] theorem cbank_modHst (f : Hst → Hst) (s : State) (i : Nat) : cbank (modHst f s) i = cbank s i := rfl
@[simp] theorem cbank_modLane (n : Nat) (f : Lane → Lane) (s : State) (i : Nat) : cbank (modLane n f s) i = cbank s i := rfl
@[simp] theorem cbank_modQueue (q : Nat) (f : Queue → Queue) (s : State) (i : Nat) : cbank (modQueue q f s) i = cbank s i := rfl
@[simp] theorem cbank_modMem (f : Mem → Mem) (s : State) (i : Nat) : cbank (modMem f s) i = cbank s i := rfl
@[simp] theorem cbank_await (f : Flight) (w : Wait) (s : State) (i : Nat) : cbank (await f w s) i = cbank s i := rfl
@[simp] theorem cbank_modCmt (f : Cmt → Cmt) (s : State) (i : Nat) : cbank (modCmt f s) i = cbank s i := rfl
@[simp] theorem cbank_modPlan (p : Nat) (f : Plan → Plan) (s : State) (i : Nat) : cbank (modPlan p f s) i = cbank s i := rfl
@[simp] theorem cbank_modTwn (f : Twn → Twn) (s : State) (i : Nat) : cbank (modTwn f s) i = cbank s i := rfl
@[simp] theorem cbank_setArc (e : Eng) (s : State) (i : Nat) : cbank (setArc e s) i = cbank s i := rfl
@[simp] theorem cbank_setDcmp (e : Eng) (s : State) (i : Nat) : cbank (setDcmp e s) i = cbank s i := rfl
@[simp] theorem cbank_modStrm (i : Nat) (f : Stream → Stream) (s : State) (i' : Nat) : cbank (modStrm i f s) i' = cbank s i' := rfl
@[simp] theorem cbank_modSlot (i : Nat) (f : Slot → Slot) (s : State) (i' : Nat) : cbank (modSlot i f s) i' = cbank s i' := rfl
@[simp] theorem cbank_modBcn (f : Bcn → Bcn) (s : State) (i : Nat) : cbank (modBcn f s) i = cbank s i := rfl
@[simp] theorem cbank_modTst (f : Tst → Tst) (s : State) (i : Nat) : cbank (modTst f s) i = cbank s i := rfl
@[simp] theorem cbank_modPwr (f : Pwr → Pwr) (s : State) (i : Nat) : cbank (modPwr f s) i = cbank s i := rfl
@[simp] theorem cbank_setStart (g : Nat) (f : Option Nat) (s : State) (i : Nat) : cbank (setStart g f s) i = cbank s i := rfl
@[simp] theorem cbank_modTmb (f : Tmb → Tmb) (s : State) (i : Nat) : cbank (modTmb f s) i = cbank s i := rfl
@[simp] theorem cbank_setHub (x : HubSt) (s : State) (i : Nat) : cbank (setHub x s) i = cbank s i := rfl
@[simp] theorem cbank_setLatch (p : Path) (a : Nat) (v : Option Word) (s : State) (i : Nat) : cbank (setLatch p a v s) i = cbank s i := rfl
@[simp] theorem cbank_modProf (i : Nat) (f : Prof → Prof) (s : State) (i' : Nat) : cbank (modProf i f s) i' = cbank s i' := rfl
@[simp] theorem cbank_modGunit (u : Nat) (f : GUnit → GUnit) (s : State) (i : Nat) : cbank (modGunit u f s) i = cbank s i := rfl
@[simp] theorem cbank_modTunit (u : Nat) (f : TUnit → TUnit) (s : State) (i : Nat) : cbank (modTunit u f s) i = cbank s i := rfl
@[simp] theorem cbank_modDsp (f : Dsp → Dsp) (s : State) (i : Nat) : cbank (modDsp f s) i = cbank s i := rfl
@[simp] theorem cbank_evtNote (k : PageK) (i : Nat) (was : Bool) (s : State) (i' : Nat) : cbank (evtNote k i was s) i' = cbank s i' := by unfold cbank; rw [evtNote_cbanks]
@[simp] theorem cbank_bump (a n : Nat) (s : State) (i : Nat) : cbank (bump a n s) i = cbank s i := by unfold cbank; rw [bump_cbanks]
@[simp] theorem cbank_pgError (k : PageK) (i status : Nat) (s : State) (i' : Nat) : cbank (pgError k i status s) i' = cbank s i' := by unfold cbank; rw [pgError_cbanks]
@[simp] theorem cbank_raiseMask (k : PageK) (i m : Nat) (s : State) (i' : Nat) : cbank (raiseMask k i m s) i' = cbank s i' := by unfold cbank; rw [raiseMask_cbanks]
@[simp] theorem cbank_raise (k : PageK) (i b : Nat) (s : State) (i' : Nat) : cbank (raise k i b s) i' = cbank s i' := by unfold cbank; rw [raise_cbanks]
@[simp] theorem cbank_advance (t : Nat) (s : State) (i : Nat) : cbank (advance t s) i = cbank s i := by unfold cbank; rw [advance_cbanks]

@[simp] theorem prof_setRg (a : Nat) (w : Word) (s : State) (i : Nat) : prof (setRg a w s) i = prof s i := rfl
@[simp] theorem prof_setStg (a : Nat) (w : Word) (s : State) (i : Nat) : prof (setStg a w s) i = prof s i := rfl
@[simp] theorem prof_modChan (g : Nat) (f : Chan → Chan) (s : State) (i : Nat) : prof (modChan g f s) i = prof s i := rfl
@[simp] theorem prof_modTap (g : Nat) (f : Tap → Tap) (s : State) (i : Nat) : prof (modTap g f s) i = prof s i := rfl
@[simp] theorem prof_modDie (n : Nat) (f : Die → Die) (s : State) (i : Nat) : prof (modDie n f s) i = prof s i := rfl
@[simp] theorem prof_modExc (o : Nat) (f : Exc → Exc) (s : State) (i : Nat) : prof (modExc o f s) i = prof s i := rfl
@[simp] theorem prof_modRef (b : Nat) (f : RefBuf → RefBuf) (s : State) (i : Nat) : prof (modRef b f s) i = prof s i := rfl
@[simp] theorem prof_modAux (n : Nat) (f : Aux → Aux) (s : State) (i : Nat) : prof (modAux n f s) i = prof s i := rfl
@[simp] theorem prof_modTlane (n : Nat) (f : TLane → TLane) (s : State) (i : Nat) : prof (modTlane n f s) i = prof s i := rfl
@[simp] theorem prof_modHst (f : Hst → Hst) (s : State) (i : Nat) : prof (modHst f s) i = prof s i := rfl
@[simp] theorem prof_modLane (n : Nat) (f : Lane → Lane) (s : State) (i : Nat) : prof (modLane n f s) i = prof s i := rfl
@[simp] theorem prof_modQueue (q : Nat) (f : Queue → Queue) (s : State) (i : Nat) : prof (modQueue q f s) i = prof s i := rfl
@[simp] theorem prof_modMem (f : Mem → Mem) (s : State) (i : Nat) : prof (modMem f s) i = prof s i := rfl
@[simp] theorem prof_await (f : Flight) (w : Wait) (s : State) (i : Nat) : prof (await f w s) i = prof s i := rfl
@[simp] theorem prof_modCmt (f : Cmt → Cmt) (s : State) (i : Nat) : prof (modCmt f s) i = prof s i := rfl
@[simp] theorem prof_modPlan (p : Nat) (f : Plan → Plan) (s : State) (i : Nat) : prof (modPlan p f s) i = prof s i := rfl
@[simp] theorem prof_modTwn (f : Twn → Twn) (s : State) (i : Nat) : prof (modTwn f s) i = prof s i := rfl
@[simp] theorem prof_setArc (e : Eng) (s : State) (i : Nat) : prof (setArc e s) i = prof s i := rfl
@[simp] theorem prof_setDcmp (e : Eng) (s : State) (i : Nat) : prof (setDcmp e s) i = prof s i := rfl
@[simp] theorem prof_modStrm (i : Nat) (f : Stream → Stream) (s : State) (i' : Nat) : prof (modStrm i f s) i' = prof s i' := rfl
@[simp] theorem prof_modSlot (i : Nat) (f : Slot → Slot) (s : State) (i' : Nat) : prof (modSlot i f s) i' = prof s i' := rfl
@[simp] theorem prof_modBcn (f : Bcn → Bcn) (s : State) (i : Nat) : prof (modBcn f s) i = prof s i := rfl
@[simp] theorem prof_modTst (f : Tst → Tst) (s : State) (i : Nat) : prof (modTst f s) i = prof s i := rfl
@[simp] theorem prof_modPwr (f : Pwr → Pwr) (s : State) (i : Nat) : prof (modPwr f s) i = prof s i := rfl
@[simp] theorem prof_setStart (g : Nat) (f : Option Nat) (s : State) (i : Nat) : prof (setStart g f s) i = prof s i := rfl
@[simp] theorem prof_modTmb (f : Tmb → Tmb) (s : State) (i : Nat) : prof (modTmb f s) i = prof s i := rfl
@[simp] theorem prof_setHub (x : HubSt) (s : State) (i : Nat) : prof (setHub x s) i = prof s i := rfl
@[simp] theorem prof_setLatch (p : Path) (a : Nat) (v : Option Word) (s : State) (i : Nat) : prof (setLatch p a v s) i = prof s i := rfl
@[simp] theorem prof_modGunit (u : Nat) (f : GUnit → GUnit) (s : State) (i : Nat) : prof (modGunit u f s) i = prof s i := rfl
@[simp] theorem prof_modTunit (u : Nat) (f : TUnit → TUnit) (s : State) (i : Nat) : prof (modTunit u f s) i = prof s i := rfl
@[simp] theorem prof_modDsp (f : Dsp → Dsp) (s : State) (i : Nat) : prof (modDsp f s) i = prof s i := rfl
@[simp] theorem prof_evtNote (k : PageK) (i : Nat) (was : Bool) (s : State) (i' : Nat) : prof (evtNote k i was s) i' = prof s i' := by unfold prof; rw [evtNote_profs]
@[simp] theorem prof_bump (a n : Nat) (s : State) (i : Nat) : prof (bump a n s) i = prof s i := by unfold prof; rw [bump_profs]
@[simp] theorem prof_pgError (k : PageK) (i status : Nat) (s : State) (i' : Nat) : prof (pgError k i status s) i' = prof s i' := by unfold prof; rw [pgError_profs]
@[simp] theorem prof_raiseMask (k : PageK) (i m : Nat) (s : State) (i' : Nat) : prof (raiseMask k i m s) i' = prof s i' := by unfold prof; rw [raiseMask_profs]
@[simp] theorem prof_raise (k : PageK) (i b : Nat) (s : State) (i' : Nat) : prof (raise k i b s) i' = prof s i' := by unfold prof; rw [raise_profs]
@[simp] theorem prof_advance (t : Nat) (s : State) (i : Nat) : prof (advance t s) i = prof s i := by unfold prof; rw [advance_profs]
@[simp] theorem prof_modProf_self (i : Nat) (f : Prof → Prof) (s : State) : prof (modProf i f s) i = f (prof s i) := tget_tmod_self ..
@[simp] theorem prof_modProf_ne (i : Nat) (f : Prof → Prof) (s : State) (k : Nat) (h : k ≠ i) : prof (modProf i f s) k = prof s k := tget_tmod_ne _ _ _ h
theorem prof_modProf (i : Nat) (f : Prof → Prof) (s : State) (k : Nat) : prof (modProf i f s) k = if k = i then f (prof s i) else prof s k := by
  by_cases h : k = i
  · subst h
    simp
  · simp [h]

@[simp] theorem tunit_setRg (a : Nat) (w : Word) (s : State) (u : Nat) : tunit (setRg a w s) u = tunit s u := rfl
@[simp] theorem tunit_setStg (a : Nat) (w : Word) (s : State) (u : Nat) : tunit (setStg a w s) u = tunit s u := rfl
@[simp] theorem tunit_modChan (g : Nat) (f : Chan → Chan) (s : State) (u : Nat) : tunit (modChan g f s) u = tunit s u := rfl
@[simp] theorem tunit_modTap (g : Nat) (f : Tap → Tap) (s : State) (u : Nat) : tunit (modTap g f s) u = tunit s u := rfl
@[simp] theorem tunit_modDie (n : Nat) (f : Die → Die) (s : State) (u : Nat) : tunit (modDie n f s) u = tunit s u := rfl
@[simp] theorem tunit_modExc (o : Nat) (f : Exc → Exc) (s : State) (u : Nat) : tunit (modExc o f s) u = tunit s u := rfl
@[simp] theorem tunit_modRef (b : Nat) (f : RefBuf → RefBuf) (s : State) (u : Nat) : tunit (modRef b f s) u = tunit s u := rfl
@[simp] theorem tunit_modAux (n : Nat) (f : Aux → Aux) (s : State) (u : Nat) : tunit (modAux n f s) u = tunit s u := rfl
@[simp] theorem tunit_modTlane (n : Nat) (f : TLane → TLane) (s : State) (u : Nat) : tunit (modTlane n f s) u = tunit s u := rfl
@[simp] theorem tunit_modHst (f : Hst → Hst) (s : State) (u : Nat) : tunit (modHst f s) u = tunit s u := rfl
@[simp] theorem tunit_modLane (n : Nat) (f : Lane → Lane) (s : State) (u : Nat) : tunit (modLane n f s) u = tunit s u := rfl
@[simp] theorem tunit_modQueue (q : Nat) (f : Queue → Queue) (s : State) (u : Nat) : tunit (modQueue q f s) u = tunit s u := rfl
@[simp] theorem tunit_modMem (f : Mem → Mem) (s : State) (u : Nat) : tunit (modMem f s) u = tunit s u := rfl
@[simp] theorem tunit_await (f : Flight) (w : Wait) (s : State) (u : Nat) : tunit (await f w s) u = tunit s u := rfl
@[simp] theorem tunit_modCmt (f : Cmt → Cmt) (s : State) (u : Nat) : tunit (modCmt f s) u = tunit s u := rfl
@[simp] theorem tunit_modPlan (p : Nat) (f : Plan → Plan) (s : State) (u : Nat) : tunit (modPlan p f s) u = tunit s u := rfl
@[simp] theorem tunit_modTwn (f : Twn → Twn) (s : State) (u : Nat) : tunit (modTwn f s) u = tunit s u := rfl
@[simp] theorem tunit_setArc (e : Eng) (s : State) (u : Nat) : tunit (setArc e s) u = tunit s u := rfl
@[simp] theorem tunit_setDcmp (e : Eng) (s : State) (u : Nat) : tunit (setDcmp e s) u = tunit s u := rfl
@[simp] theorem tunit_modStrm (i : Nat) (f : Stream → Stream) (s : State) (u : Nat) : tunit (modStrm i f s) u = tunit s u := rfl
@[simp] theorem tunit_modSlot (i : Nat) (f : Slot → Slot) (s : State) (u : Nat) : tunit (modSlot i f s) u = tunit s u := rfl
@[simp] theorem tunit_modBcn (f : Bcn → Bcn) (s : State) (u : Nat) : tunit (modBcn f s) u = tunit s u := rfl
@[simp] theorem tunit_modTst (f : Tst → Tst) (s : State) (u : Nat) : tunit (modTst f s) u = tunit s u := rfl
@[simp] theorem tunit_modPwr (f : Pwr → Pwr) (s : State) (u : Nat) : tunit (modPwr f s) u = tunit s u := rfl
@[simp] theorem tunit_setStart (g : Nat) (f : Option Nat) (s : State) (u : Nat) : tunit (setStart g f s) u = tunit s u := rfl
@[simp] theorem tunit_modTmb (f : Tmb → Tmb) (s : State) (u : Nat) : tunit (modTmb f s) u = tunit s u := rfl
@[simp] theorem tunit_setHub (x : HubSt) (s : State) (u : Nat) : tunit (setHub x s) u = tunit s u := rfl
@[simp] theorem tunit_setLatch (p : Path) (a : Nat) (v : Option Word) (s : State) (u : Nat) : tunit (setLatch p a v s) u = tunit s u := rfl
@[simp] theorem tunit_modProf (i : Nat) (f : Prof → Prof) (s : State) (u : Nat) : tunit (modProf i f s) u = tunit s u := rfl
@[simp] theorem tunit_modGunit (u : Nat) (f : GUnit → GUnit) (s : State) (u' : Nat) : tunit (modGunit u f s) u' = tunit s u' := rfl
@[simp] theorem tunit_modDsp (f : Dsp → Dsp) (s : State) (u : Nat) : tunit (modDsp f s) u = tunit s u := rfl
@[simp] theorem tunit_evtNote (k : PageK) (i : Nat) (was : Bool) (s : State) (u : Nat) : tunit (evtNote k i was s) u = tunit s u := by unfold tunit; rw [evtNote_tunits]
@[simp] theorem tunit_bump (a n : Nat) (s : State) (u : Nat) : tunit (bump a n s) u = tunit s u := by unfold tunit; rw [bump_tunits]
@[simp] theorem tunit_pgError (k : PageK) (i status : Nat) (s : State) (u : Nat) : tunit (pgError k i status s) u = tunit s u := by unfold tunit; rw [pgError_tunits]
@[simp] theorem tunit_raiseMask (k : PageK) (i m : Nat) (s : State) (u : Nat) : tunit (raiseMask k i m s) u = tunit s u := by unfold tunit; rw [raiseMask_tunits]
@[simp] theorem tunit_raise (k : PageK) (i b : Nat) (s : State) (u : Nat) : tunit (raise k i b s) u = tunit s u := by unfold tunit; rw [raise_tunits]
@[simp] theorem tunit_advance (t : Nat) (s : State) (u : Nat) : tunit (advance t s) u = tunit s u := by unfold tunit; rw [advance_tunits]
@[simp] theorem tunit_modTunit_self (u : Nat) (f : TUnit → TUnit) (s : State) : tunit (modTunit u f s) u = f (tunit s u) := tget_tmod_self ..
@[simp] theorem tunit_modTunit_ne (u : Nat) (f : TUnit → TUnit) (s : State) (k : Nat) (h : k ≠ u) : tunit (modTunit u f s) k = tunit s k := tget_tmod_ne _ _ _ h
theorem tunit_modTunit (u : Nat) (f : TUnit → TUnit) (s : State) (k : Nat) : tunit (modTunit u f s) k = if k = u then f (tunit s u) else tunit s k := by
  by_cases h : k = u
  · subst h
    simp
  · simp [h]

@[simp] theorem gunit_setRg (a : Nat) (w : Word) (s : State) (u : Nat) : gunit (setRg a w s) u = gunit s u := rfl
@[simp] theorem gunit_setStg (a : Nat) (w : Word) (s : State) (u : Nat) : gunit (setStg a w s) u = gunit s u := rfl
@[simp] theorem gunit_modChan (g : Nat) (f : Chan → Chan) (s : State) (u : Nat) : gunit (modChan g f s) u = gunit s u := rfl
@[simp] theorem gunit_modTap (g : Nat) (f : Tap → Tap) (s : State) (u : Nat) : gunit (modTap g f s) u = gunit s u := rfl
@[simp] theorem gunit_modDie (n : Nat) (f : Die → Die) (s : State) (u : Nat) : gunit (modDie n f s) u = gunit s u := rfl
@[simp] theorem gunit_modExc (o : Nat) (f : Exc → Exc) (s : State) (u : Nat) : gunit (modExc o f s) u = gunit s u := rfl
@[simp] theorem gunit_modRef (b : Nat) (f : RefBuf → RefBuf) (s : State) (u : Nat) : gunit (modRef b f s) u = gunit s u := rfl
@[simp] theorem gunit_modAux (n : Nat) (f : Aux → Aux) (s : State) (u : Nat) : gunit (modAux n f s) u = gunit s u := rfl
@[simp] theorem gunit_modTlane (n : Nat) (f : TLane → TLane) (s : State) (u : Nat) : gunit (modTlane n f s) u = gunit s u := rfl
@[simp] theorem gunit_modHst (f : Hst → Hst) (s : State) (u : Nat) : gunit (modHst f s) u = gunit s u := rfl
@[simp] theorem gunit_modLane (n : Nat) (f : Lane → Lane) (s : State) (u : Nat) : gunit (modLane n f s) u = gunit s u := rfl
@[simp] theorem gunit_modQueue (q : Nat) (f : Queue → Queue) (s : State) (u : Nat) : gunit (modQueue q f s) u = gunit s u := rfl
@[simp] theorem gunit_modMem (f : Mem → Mem) (s : State) (u : Nat) : gunit (modMem f s) u = gunit s u := rfl
@[simp] theorem gunit_await (f : Flight) (w : Wait) (s : State) (u : Nat) : gunit (await f w s) u = gunit s u := rfl
@[simp] theorem gunit_modCmt (f : Cmt → Cmt) (s : State) (u : Nat) : gunit (modCmt f s) u = gunit s u := rfl
@[simp] theorem gunit_modPlan (p : Nat) (f : Plan → Plan) (s : State) (u : Nat) : gunit (modPlan p f s) u = gunit s u := rfl
@[simp] theorem gunit_modTwn (f : Twn → Twn) (s : State) (u : Nat) : gunit (modTwn f s) u = gunit s u := rfl
@[simp] theorem gunit_setArc (e : Eng) (s : State) (u : Nat) : gunit (setArc e s) u = gunit s u := rfl
@[simp] theorem gunit_setDcmp (e : Eng) (s : State) (u : Nat) : gunit (setDcmp e s) u = gunit s u := rfl
@[simp] theorem gunit_modStrm (i : Nat) (f : Stream → Stream) (s : State) (u : Nat) : gunit (modStrm i f s) u = gunit s u := rfl
@[simp] theorem gunit_modSlot (i : Nat) (f : Slot → Slot) (s : State) (u : Nat) : gunit (modSlot i f s) u = gunit s u := rfl
@[simp] theorem gunit_modBcn (f : Bcn → Bcn) (s : State) (u : Nat) : gunit (modBcn f s) u = gunit s u := rfl
@[simp] theorem gunit_modTst (f : Tst → Tst) (s : State) (u : Nat) : gunit (modTst f s) u = gunit s u := rfl
@[simp] theorem gunit_modPwr (f : Pwr → Pwr) (s : State) (u : Nat) : gunit (modPwr f s) u = gunit s u := rfl
@[simp] theorem gunit_setStart (g : Nat) (f : Option Nat) (s : State) (u : Nat) : gunit (setStart g f s) u = gunit s u := rfl
@[simp] theorem gunit_modTmb (f : Tmb → Tmb) (s : State) (u : Nat) : gunit (modTmb f s) u = gunit s u := rfl
@[simp] theorem gunit_setHub (x : HubSt) (s : State) (u : Nat) : gunit (setHub x s) u = gunit s u := rfl
@[simp] theorem gunit_setLatch (p : Path) (a : Nat) (v : Option Word) (s : State) (u : Nat) : gunit (setLatch p a v s) u = gunit s u := rfl
@[simp] theorem gunit_modProf (i : Nat) (f : Prof → Prof) (s : State) (u : Nat) : gunit (modProf i f s) u = gunit s u := rfl
@[simp] theorem gunit_modTunit (u : Nat) (f : TUnit → TUnit) (s : State) (u' : Nat) : gunit (modTunit u f s) u' = gunit s u' := rfl
@[simp] theorem gunit_modDsp (f : Dsp → Dsp) (s : State) (u : Nat) : gunit (modDsp f s) u = gunit s u := rfl
@[simp] theorem gunit_evtNote (k : PageK) (i : Nat) (was : Bool) (s : State) (u : Nat) : gunit (evtNote k i was s) u = gunit s u := by unfold gunit; rw [evtNote_gunits]
@[simp] theorem gunit_bump (a n : Nat) (s : State) (u : Nat) : gunit (bump a n s) u = gunit s u := by unfold gunit; rw [bump_gunits]
@[simp] theorem gunit_pgError (k : PageK) (i status : Nat) (s : State) (u : Nat) : gunit (pgError k i status s) u = gunit s u := by unfold gunit; rw [pgError_gunits]
@[simp] theorem gunit_raiseMask (k : PageK) (i m : Nat) (s : State) (u : Nat) : gunit (raiseMask k i m s) u = gunit s u := by unfold gunit; rw [raiseMask_gunits]
@[simp] theorem gunit_raise (k : PageK) (i b : Nat) (s : State) (u : Nat) : gunit (raise k i b s) u = gunit s u := by unfold gunit; rw [raise_gunits]
@[simp] theorem gunit_advance (t : Nat) (s : State) (u : Nat) : gunit (advance t s) u = gunit s u := by unfold gunit; rw [advance_gunits]
@[simp] theorem gunit_modGunit_self (u : Nat) (f : GUnit → GUnit) (s : State) : gunit (modGunit u f s) u = f (gunit s u) := tget_tmod_self ..
@[simp] theorem gunit_modGunit_ne (u : Nat) (f : GUnit → GUnit) (s : State) (k : Nat) (h : k ≠ u) : gunit (modGunit u f s) k = gunit s k := tget_tmod_ne _ _ _ h
theorem gunit_modGunit (u : Nat) (f : GUnit → GUnit) (s : State) (k : Nat) : gunit (modGunit u f s) k = if k = u then f (gunit s u) else gunit s k := by
  by_cases h : k = u
  · subst h
    simp
  · simp [h]

@[simp] theorem bstr_setRg (a : Nat) (w : Word) (s : State) (m : Nat) : bstr (setRg a w s) m = bstr s m := rfl
@[simp] theorem bstr_setStg (a : Nat) (w : Word) (s : State) (m : Nat) : bstr (setStg a w s) m = bstr s m := rfl
@[simp] theorem bstr_modChan (g : Nat) (f : Chan → Chan) (s : State) (m : Nat) : bstr (modChan g f s) m = bstr s m := rfl
@[simp] theorem bstr_modTap (g : Nat) (f : Tap → Tap) (s : State) (m : Nat) : bstr (modTap g f s) m = bstr s m := rfl
@[simp] theorem bstr_modDie (n : Nat) (f : Die → Die) (s : State) (m : Nat) : bstr (modDie n f s) m = bstr s m := rfl
@[simp] theorem bstr_modExc (o : Nat) (f : Exc → Exc) (s : State) (m : Nat) : bstr (modExc o f s) m = bstr s m := rfl
@[simp] theorem bstr_modRef (b : Nat) (f : RefBuf → RefBuf) (s : State) (m : Nat) : bstr (modRef b f s) m = bstr s m := rfl
@[simp] theorem bstr_modAux (n : Nat) (f : Aux → Aux) (s : State) (m : Nat) : bstr (modAux n f s) m = bstr s m := rfl
@[simp] theorem bstr_modTlane (n : Nat) (f : TLane → TLane) (s : State) (m : Nat) : bstr (modTlane n f s) m = bstr s m := rfl
@[simp] theorem bstr_modHst (f : Hst → Hst) (s : State) (m : Nat) : bstr (modHst f s) m = bstr s m := rfl
@[simp] theorem bstr_modLane (n : Nat) (f : Lane → Lane) (s : State) (m : Nat) : bstr (modLane n f s) m = bstr s m := rfl
@[simp] theorem bstr_modQueue (q : Nat) (f : Queue → Queue) (s : State) (m : Nat) : bstr (modQueue q f s) m = bstr s m := rfl
@[simp] theorem bstr_modMem (f : Mem → Mem) (s : State) (m : Nat) : bstr (modMem f s) m = bstr s m := rfl
@[simp] theorem bstr_await (f : Flight) (w : Wait) (s : State) (m : Nat) : bstr (await f w s) m = bstr s m := rfl
@[simp] theorem bstr_modCmt (f : Cmt → Cmt) (s : State) (m : Nat) : bstr (modCmt f s) m = bstr s m := rfl
@[simp] theorem bstr_modPlan (p : Nat) (f : Plan → Plan) (s : State) (m : Nat) : bstr (modPlan p f s) m = bstr s m := rfl
@[simp] theorem bstr_modTwn (f : Twn → Twn) (s : State) (m : Nat) : bstr (modTwn f s) m = bstr s m := rfl
@[simp] theorem bstr_setArc (e : Eng) (s : State) (m : Nat) : bstr (setArc e s) m = bstr s m := rfl
@[simp] theorem bstr_setDcmp (e : Eng) (s : State) (m : Nat) : bstr (setDcmp e s) m = bstr s m := rfl
@[simp] theorem bstr_modStrm (i : Nat) (f : Stream → Stream) (s : State) (m : Nat) : bstr (modStrm i f s) m = bstr s m := rfl
@[simp] theorem bstr_modSlot (i : Nat) (f : Slot → Slot) (s : State) (m : Nat) : bstr (modSlot i f s) m = bstr s m := rfl
@[simp] theorem bstr_modTst (f : Tst → Tst) (s : State) (m : Nat) : bstr (modTst f s) m = bstr s m := rfl
@[simp] theorem bstr_modPwr (f : Pwr → Pwr) (s : State) (m : Nat) : bstr (modPwr f s) m = bstr s m := rfl
@[simp] theorem bstr_setStart (g : Nat) (f : Option Nat) (s : State) (m : Nat) : bstr (setStart g f s) m = bstr s m := rfl
@[simp] theorem bstr_modTmb (f : Tmb → Tmb) (s : State) (m : Nat) : bstr (modTmb f s) m = bstr s m := rfl
@[simp] theorem bstr_setHub (x : HubSt) (s : State) (m : Nat) : bstr (setHub x s) m = bstr s m := rfl
@[simp] theorem bstr_setLatch (p : Path) (a : Nat) (v : Option Word) (s : State) (m : Nat) : bstr (setLatch p a v s) m = bstr s m := rfl
@[simp] theorem bstr_modProf (i : Nat) (f : Prof → Prof) (s : State) (m : Nat) : bstr (modProf i f s) m = bstr s m := rfl
@[simp] theorem bstr_modGunit (u : Nat) (f : GUnit → GUnit) (s : State) (m : Nat) : bstr (modGunit u f s) m = bstr s m := rfl
@[simp] theorem bstr_modTunit (u : Nat) (f : TUnit → TUnit) (s : State) (m : Nat) : bstr (modTunit u f s) m = bstr s m := rfl
@[simp] theorem bstr_modDsp (f : Dsp → Dsp) (s : State) (m : Nat) : bstr (modDsp f s) m = bstr s m := rfl
@[simp] theorem bstr_evtNote (k : PageK) (i : Nat) (was : Bool) (s : State) (m : Nat) : bstr (evtNote k i was s) m = bstr s m := by unfold bstr; rw [evtNote_bcn]
@[simp] theorem bstr_bump (a n : Nat) (s : State) (m : Nat) : bstr (bump a n s) m = bstr s m := by unfold bstr; rw [bump_bcn]
@[simp] theorem bstr_pgError (k : PageK) (i status : Nat) (s : State) (m : Nat) : bstr (pgError k i status s) m = bstr s m := by unfold bstr; rw [pgError_bcn]
@[simp] theorem bstr_raiseMask (k : PageK) (i m : Nat) (s : State) (m' : Nat) : bstr (raiseMask k i m s) m' = bstr s m' := by unfold bstr; rw [raiseMask_bcn]
@[simp] theorem bstr_raise (k : PageK) (i b : Nat) (s : State) (m : Nat) : bstr (raise k i b s) m = bstr s m := by unfold bstr; rw [raise_bcn]
@[simp] theorem bstr_advance (t : Nat) (s : State) (m : Nat) : bstr (advance t s) m = bstr s m := by unfold bstr; rw [advance_bcn]

@[simp] theorem ltOf_setRg (a : Nat) (w : Word) (s : State) (i : Nat) : ltOf (setRg a w s) i = ltOf s i := rfl
@[simp] theorem ltOf_setStg (a : Nat) (w : Word) (s : State) (i : Nat) : ltOf (setStg a w s) i = ltOf s i := rfl
@[simp] theorem ltOf_modChan (g : Nat) (f : Chan → Chan) (s : State) (i : Nat) : ltOf (modChan g f s) i = ltOf s i := rfl
@[simp] theorem ltOf_modTap (g : Nat) (f : Tap → Tap) (s : State) (i : Nat) : ltOf (modTap g f s) i = ltOf s i := rfl
@[simp] theorem ltOf_modDie (n : Nat) (f : Die → Die) (s : State) (i : Nat) : ltOf (modDie n f s) i = ltOf s i := rfl
@[simp] theorem ltOf_modExc (o : Nat) (f : Exc → Exc) (s : State) (i : Nat) : ltOf (modExc o f s) i = ltOf s i := rfl
@[simp] theorem ltOf_modRef (b : Nat) (f : RefBuf → RefBuf) (s : State) (i : Nat) : ltOf (modRef b f s) i = ltOf s i := rfl
@[simp] theorem ltOf_modAux (n : Nat) (f : Aux → Aux) (s : State) (i : Nat) : ltOf (modAux n f s) i = ltOf s i := rfl
@[simp] theorem ltOf_modTlane (n : Nat) (f : TLane → TLane) (s : State) (i : Nat) : ltOf (modTlane n f s) i = ltOf s i := rfl
@[simp] theorem ltOf_modHst (f : Hst → Hst) (s : State) (i : Nat) : ltOf (modHst f s) i = ltOf s i := rfl
@[simp] theorem ltOf_modLane (n : Nat) (f : Lane → Lane) (s : State) (i : Nat) : ltOf (modLane n f s) i = ltOf s i := rfl
@[simp] theorem ltOf_modQueue (q : Nat) (f : Queue → Queue) (s : State) (i : Nat) : ltOf (modQueue q f s) i = ltOf s i := rfl
@[simp] theorem ltOf_modMem (f : Mem → Mem) (s : State) (i : Nat) : ltOf (modMem f s) i = ltOf s i := rfl
@[simp] theorem ltOf_await (f : Flight) (w : Wait) (s : State) (i : Nat) : ltOf (await f w s) i = ltOf s i := rfl
@[simp] theorem ltOf_modCmt (f : Cmt → Cmt) (s : State) (i : Nat) : ltOf (modCmt f s) i = ltOf s i := rfl
@[simp] theorem ltOf_modPlan (p : Nat) (f : Plan → Plan) (s : State) (i : Nat) : ltOf (modPlan p f s) i = ltOf s i := rfl
@[simp] theorem ltOf_modTwn (f : Twn → Twn) (s : State) (i : Nat) : ltOf (modTwn f s) i = ltOf s i := rfl
@[simp] theorem ltOf_setArc (e : Eng) (s : State) (i : Nat) : ltOf (setArc e s) i = ltOf s i := rfl
@[simp] theorem ltOf_setDcmp (e : Eng) (s : State) (i : Nat) : ltOf (setDcmp e s) i = ltOf s i := rfl
@[simp] theorem ltOf_modStrm (i : Nat) (f : Stream → Stream) (s : State) (i' : Nat) : ltOf (modStrm i f s) i' = ltOf s i' := rfl
@[simp] theorem ltOf_modSlot (i : Nat) (f : Slot → Slot) (s : State) (i' : Nat) : ltOf (modSlot i f s) i' = ltOf s i' := rfl
@[simp] theorem ltOf_modBcn (f : Bcn → Bcn) (s : State) (i : Nat) : ltOf (modBcn f s) i = ltOf s i := rfl
@[simp] theorem ltOf_modTst (f : Tst → Tst) (s : State) (i : Nat) : ltOf (modTst f s) i = ltOf s i := rfl
@[simp] theorem ltOf_modPwr (f : Pwr → Pwr) (s : State) (i : Nat) : ltOf (modPwr f s) i = ltOf s i := rfl
@[simp] theorem ltOf_setStart (g : Nat) (f : Option Nat) (s : State) (i : Nat) : ltOf (setStart g f s) i = ltOf s i := rfl
@[simp] theorem ltOf_modTmb (f : Tmb → Tmb) (s : State) (i : Nat) : ltOf (modTmb f s) i = ltOf s i := rfl
@[simp] theorem ltOf_setHub (x : HubSt) (s : State) (i : Nat) : ltOf (setHub x s) i = ltOf s i := rfl
@[simp] theorem ltOf_setLatch (p : Path) (a : Nat) (v : Option Word) (s : State) (i : Nat) : ltOf (setLatch p a v s) i = ltOf s i := rfl
@[simp] theorem ltOf_modProf (i : Nat) (f : Prof → Prof) (s : State) (i' : Nat) : ltOf (modProf i f s) i' = ltOf s i' := rfl
@[simp] theorem ltOf_modGunit (u : Nat) (f : GUnit → GUnit) (s : State) (i : Nat) : ltOf (modGunit u f s) i = ltOf s i := rfl
@[simp] theorem ltOf_modTunit (u : Nat) (f : TUnit → TUnit) (s : State) (i : Nat) : ltOf (modTunit u f s) i = ltOf s i := rfl
@[simp] theorem ltOf_modDsp (f : Dsp → Dsp) (s : State) (i : Nat) : ltOf (modDsp f s) i = ltOf s i := rfl
@[simp] theorem ltOf_evtNote (k : PageK) (i : Nat) (was : Bool) (s : State) (i' : Nat) : ltOf (evtNote k i was s) i' = ltOf s i' := by unfold ltOf; rw [evtNote_lts]
@[simp] theorem ltOf_bump (a n : Nat) (s : State) (i : Nat) : ltOf (bump a n s) i = ltOf s i := by unfold ltOf; rw [bump_lts]
@[simp] theorem ltOf_pgError (k : PageK) (i status : Nat) (s : State) (i' : Nat) : ltOf (pgError k i status s) i' = ltOf s i' := by unfold ltOf; rw [pgError_lts]
@[simp] theorem ltOf_raiseMask (k : PageK) (i m : Nat) (s : State) (i' : Nat) : ltOf (raiseMask k i m s) i' = ltOf s i' := by unfold ltOf; rw [raiseMask_lts]
@[simp] theorem ltOf_raise (k : PageK) (i b : Nat) (s : State) (i' : Nat) : ltOf (raise k i b s) i' = ltOf s i' := by unfold ltOf; rw [raise_lts]
@[simp] theorem ltOf_advance (t : Nat) (s : State) (i : Nat) : ltOf (advance t s) i = ltOf s i := by unfold ltOf; rw [advance_lts]

@[simp] theorem startOf_setRg (a : Nat) (w : Word) (s : State) (g : Nat) : startOf (setRg a w s) g = startOf s g := rfl
@[simp] theorem startOf_setStg (a : Nat) (w : Word) (s : State) (g : Nat) : startOf (setStg a w s) g = startOf s g := rfl
@[simp] theorem startOf_modChan (g : Nat) (f : Chan → Chan) (s : State) (g' : Nat) : startOf (modChan g f s) g' = startOf s g' := rfl
@[simp] theorem startOf_modTap (g : Nat) (f : Tap → Tap) (s : State) (g' : Nat) : startOf (modTap g f s) g' = startOf s g' := rfl
@[simp] theorem startOf_modDie (n : Nat) (f : Die → Die) (s : State) (g : Nat) : startOf (modDie n f s) g = startOf s g := rfl
@[simp] theorem startOf_modExc (o : Nat) (f : Exc → Exc) (s : State) (g : Nat) : startOf (modExc o f s) g = startOf s g := rfl
@[simp] theorem startOf_modRef (b : Nat) (f : RefBuf → RefBuf) (s : State) (g : Nat) : startOf (modRef b f s) g = startOf s g := rfl
@[simp] theorem startOf_modAux (n : Nat) (f : Aux → Aux) (s : State) (g : Nat) : startOf (modAux n f s) g = startOf s g := rfl
@[simp] theorem startOf_modTlane (n : Nat) (f : TLane → TLane) (s : State) (g : Nat) : startOf (modTlane n f s) g = startOf s g := rfl
@[simp] theorem startOf_modHst (f : Hst → Hst) (s : State) (g : Nat) : startOf (modHst f s) g = startOf s g := rfl
@[simp] theorem startOf_modLane (n : Nat) (f : Lane → Lane) (s : State) (g : Nat) : startOf (modLane n f s) g = startOf s g := rfl
@[simp] theorem startOf_modQueue (q : Nat) (f : Queue → Queue) (s : State) (g : Nat) : startOf (modQueue q f s) g = startOf s g := rfl
@[simp] theorem startOf_modMem (f : Mem → Mem) (s : State) (g : Nat) : startOf (modMem f s) g = startOf s g := rfl
@[simp] theorem startOf_await (f : Flight) (w : Wait) (s : State) (g : Nat) : startOf (await f w s) g = startOf s g := rfl
@[simp] theorem startOf_modCmt (f : Cmt → Cmt) (s : State) (g : Nat) : startOf (modCmt f s) g = startOf s g := rfl
@[simp] theorem startOf_modPlan (p : Nat) (f : Plan → Plan) (s : State) (g : Nat) : startOf (modPlan p f s) g = startOf s g := rfl
@[simp] theorem startOf_modTwn (f : Twn → Twn) (s : State) (g : Nat) : startOf (modTwn f s) g = startOf s g := rfl
@[simp] theorem startOf_setArc (e : Eng) (s : State) (g : Nat) : startOf (setArc e s) g = startOf s g := rfl
@[simp] theorem startOf_setDcmp (e : Eng) (s : State) (g : Nat) : startOf (setDcmp e s) g = startOf s g := rfl
@[simp] theorem startOf_modStrm (i : Nat) (f : Stream → Stream) (s : State) (g : Nat) : startOf (modStrm i f s) g = startOf s g := rfl
@[simp] theorem startOf_modSlot (i : Nat) (f : Slot → Slot) (s : State) (g : Nat) : startOf (modSlot i f s) g = startOf s g := rfl
@[simp] theorem startOf_modBcn (f : Bcn → Bcn) (s : State) (g : Nat) : startOf (modBcn f s) g = startOf s g := rfl
@[simp] theorem startOf_modTst (f : Tst → Tst) (s : State) (g : Nat) : startOf (modTst f s) g = startOf s g := rfl
@[simp] theorem startOf_modPwr (f : Pwr → Pwr) (s : State) (g : Nat) : startOf (modPwr f s) g = startOf s g := rfl
@[simp] theorem startOf_modTmb (f : Tmb → Tmb) (s : State) (g : Nat) : startOf (modTmb f s) g = startOf s g := rfl
@[simp] theorem startOf_setHub (x : HubSt) (s : State) (g : Nat) : startOf (setHub x s) g = startOf s g := rfl
@[simp] theorem startOf_setLatch (p : Path) (a : Nat) (v : Option Word) (s : State) (g : Nat) : startOf (setLatch p a v s) g = startOf s g := rfl
@[simp] theorem startOf_modProf (i : Nat) (f : Prof → Prof) (s : State) (g : Nat) : startOf (modProf i f s) g = startOf s g := rfl
@[simp] theorem startOf_modGunit (u : Nat) (f : GUnit → GUnit) (s : State) (g : Nat) : startOf (modGunit u f s) g = startOf s g := rfl
@[simp] theorem startOf_modTunit (u : Nat) (f : TUnit → TUnit) (s : State) (g : Nat) : startOf (modTunit u f s) g = startOf s g := rfl
@[simp] theorem startOf_modDsp (f : Dsp → Dsp) (s : State) (g : Nat) : startOf (modDsp f s) g = startOf s g := rfl
@[simp] theorem startOf_evtNote (k : PageK) (i : Nat) (was : Bool) (s : State) (g : Nat) : startOf (evtNote k i was s) g = startOf s g := by unfold startOf; rw [evtNote_startAt]
@[simp] theorem startOf_bump (a n : Nat) (s : State) (g : Nat) : startOf (bump a n s) g = startOf s g := by unfold startOf; rw [bump_startAt]
@[simp] theorem startOf_pgError (k : PageK) (i status : Nat) (s : State) (g : Nat) : startOf (pgError k i status s) g = startOf s g := by unfold startOf; rw [pgError_startAt]
@[simp] theorem startOf_raiseMask (k : PageK) (i m : Nat) (s : State) (g : Nat) : startOf (raiseMask k i m s) g = startOf s g := by unfold startOf; rw [raiseMask_startAt]
@[simp] theorem startOf_raise (k : PageK) (i b : Nat) (s : State) (g : Nat) : startOf (raise k i b s) g = startOf s g := by unfold startOf; rw [raise_startAt]
@[simp] theorem startOf_advance (t : Nat) (s : State) (g : Nat) : startOf (advance t s) g = startOf s g := by unfold startOf; rw [advance_startAt]

@[simp] theorem memGet_setRg (a : Nat) (w : Word) (s : State) (a' : Nat) : memGet (setRg a w s) a' = memGet s a' := rfl
@[simp] theorem memGet_setStg (a : Nat) (w : Word) (s : State) (a' : Nat) : memGet (setStg a w s) a' = memGet s a' := rfl
@[simp] theorem memGet_modChan (g : Nat) (f : Chan → Chan) (s : State) (a : Nat) : memGet (modChan g f s) a = memGet s a := rfl
@[simp] theorem memGet_modTap (g : Nat) (f : Tap → Tap) (s : State) (a : Nat) : memGet (modTap g f s) a = memGet s a := rfl
@[simp] theorem memGet_modDie (n : Nat) (f : Die → Die) (s : State) (a : Nat) : memGet (modDie n f s) a = memGet s a := rfl
@[simp] theorem memGet_modExc (o : Nat) (f : Exc → Exc) (s : State) (a : Nat) : memGet (modExc o f s) a = memGet s a := rfl
@[simp] theorem memGet_modRef (b : Nat) (f : RefBuf → RefBuf) (s : State) (a : Nat) : memGet (modRef b f s) a = memGet s a := rfl
@[simp] theorem memGet_modAux (n : Nat) (f : Aux → Aux) (s : State) (a : Nat) : memGet (modAux n f s) a = memGet s a := rfl
@[simp] theorem memGet_modTlane (n : Nat) (f : TLane → TLane) (s : State) (a : Nat) : memGet (modTlane n f s) a = memGet s a := rfl
@[simp] theorem memGet_modHst (f : Hst → Hst) (s : State) (a : Nat) : memGet (modHst f s) a = memGet s a := rfl
@[simp] theorem memGet_modLane (n : Nat) (f : Lane → Lane) (s : State) (a : Nat) : memGet (modLane n f s) a = memGet s a := rfl
@[simp] theorem memGet_modQueue (q : Nat) (f : Queue → Queue) (s : State) (a : Nat) : memGet (modQueue q f s) a = memGet s a := rfl
@[simp] theorem memGet_await (f : Flight) (w : Wait) (s : State) (a : Nat) : memGet (await f w s) a = memGet s a := rfl
@[simp] theorem memGet_modCmt (f : Cmt → Cmt) (s : State) (a : Nat) : memGet (modCmt f s) a = memGet s a := rfl
@[simp] theorem memGet_modPlan (p : Nat) (f : Plan → Plan) (s : State) (a : Nat) : memGet (modPlan p f s) a = memGet s a := rfl
@[simp] theorem memGet_modTwn (f : Twn → Twn) (s : State) (a : Nat) : memGet (modTwn f s) a = memGet s a := rfl
@[simp] theorem memGet_setArc (e : Eng) (s : State) (a : Nat) : memGet (setArc e s) a = memGet s a := rfl
@[simp] theorem memGet_setDcmp (e : Eng) (s : State) (a : Nat) : memGet (setDcmp e s) a = memGet s a := rfl
@[simp] theorem memGet_modStrm (i : Nat) (f : Stream → Stream) (s : State) (a : Nat) : memGet (modStrm i f s) a = memGet s a := rfl
@[simp] theorem memGet_modSlot (i : Nat) (f : Slot → Slot) (s : State) (a : Nat) : memGet (modSlot i f s) a = memGet s a := rfl
@[simp] theorem memGet_modBcn (f : Bcn → Bcn) (s : State) (a : Nat) : memGet (modBcn f s) a = memGet s a := rfl
@[simp] theorem memGet_modTst (f : Tst → Tst) (s : State) (a : Nat) : memGet (modTst f s) a = memGet s a := rfl
@[simp] theorem memGet_modPwr (f : Pwr → Pwr) (s : State) (a : Nat) : memGet (modPwr f s) a = memGet s a := rfl
@[simp] theorem memGet_setStart (g : Nat) (f : Option Nat) (s : State) (a : Nat) : memGet (setStart g f s) a = memGet s a := rfl
@[simp] theorem memGet_modTmb (f : Tmb → Tmb) (s : State) (a : Nat) : memGet (modTmb f s) a = memGet s a := rfl
@[simp] theorem memGet_setHub (x : HubSt) (s : State) (a : Nat) : memGet (setHub x s) a = memGet s a := rfl
@[simp] theorem memGet_setLatch (p : Path) (a : Nat) (v : Option Word) (s : State) (a' : Nat) : memGet (setLatch p a v s) a' = memGet s a' := rfl
@[simp] theorem memGet_modProf (i : Nat) (f : Prof → Prof) (s : State) (a : Nat) : memGet (modProf i f s) a = memGet s a := rfl
@[simp] theorem memGet_modGunit (u : Nat) (f : GUnit → GUnit) (s : State) (a : Nat) : memGet (modGunit u f s) a = memGet s a := rfl
@[simp] theorem memGet_modTunit (u : Nat) (f : TUnit → TUnit) (s : State) (a : Nat) : memGet (modTunit u f s) a = memGet s a := rfl
@[simp] theorem memGet_modDsp (f : Dsp → Dsp) (s : State) (a : Nat) : memGet (modDsp f s) a = memGet s a := rfl
@[simp] theorem memGet_evtNote (k : PageK) (i : Nat) (was : Bool) (s : State) (a : Nat) : memGet (evtNote k i was s) a = memGet s a := by unfold memGet; rw [evtNote_mem]
@[simp] theorem memGet_bump (a n : Nat) (s : State) (a' : Nat) : memGet (bump a n s) a' = memGet s a' := by unfold memGet; rw [bump_mem]
@[simp] theorem memGet_pgError (k : PageK) (i status : Nat) (s : State) (a : Nat) : memGet (pgError k i status s) a = memGet s a := by unfold memGet; rw [pgError_mem]
@[simp] theorem memGet_raiseMask (k : PageK) (i m : Nat) (s : State) (a : Nat) : memGet (raiseMask k i m s) a = memGet s a := by unfold memGet; rw [raiseMask_mem]
@[simp] theorem memGet_raise (k : PageK) (i b : Nat) (s : State) (a : Nat) : memGet (raise k i b s) a = memGet s a := by unfold memGet; rw [raise_mem]
@[simp] theorem memGet_advance (t : Nat) (s : State) (a : Nat) : memGet (advance t s) a = memGet s a := by unfold memGet; rw [advance_mem]

@[simp] theorem running_setRg (a : Nat) (w : Word) (s : State) : running (setRg a w s) = running s := rfl
@[simp] theorem running_setStg (a : Nat) (w : Word) (s : State) : running (setStg a w s) = running s := rfl
@[simp] theorem running_modChan (g : Nat) (f : Chan → Chan) (s : State) : running (modChan g f s) = running s := rfl
@[simp] theorem running_modTap (g : Nat) (f : Tap → Tap) (s : State) : running (modTap g f s) = running s := rfl
@[simp] theorem running_modDie (n : Nat) (f : Die → Die) (s : State) : running (modDie n f s) = running s := rfl
@[simp] theorem running_modExc (o : Nat) (f : Exc → Exc) (s : State) : running (modExc o f s) = running s := rfl
@[simp] theorem running_modRef (b : Nat) (f : RefBuf → RefBuf) (s : State) : running (modRef b f s) = running s := rfl
@[simp] theorem running_modAux (n : Nat) (f : Aux → Aux) (s : State) : running (modAux n f s) = running s := rfl
@[simp] theorem running_modTlane (n : Nat) (f : TLane → TLane) (s : State) : running (modTlane n f s) = running s := rfl
@[simp] theorem running_modHst (f : Hst → Hst) (s : State) : running (modHst f s) = running s := rfl
@[simp] theorem running_modLane (n : Nat) (f : Lane → Lane) (s : State) : running (modLane n f s) = running s := rfl
@[simp] theorem running_modQueue (q : Nat) (f : Queue → Queue) (s : State) : running (modQueue q f s) = running s := rfl
@[simp] theorem running_modMem (f : Mem → Mem) (s : State) : running (modMem f s) = running s := rfl
@[simp] theorem running_await (f : Flight) (w : Wait) (s : State) : running (await f w s) = running s := rfl
@[simp] theorem running_modCmt (f : Cmt → Cmt) (s : State) : running (modCmt f s) = running s := rfl
@[simp] theorem running_modPlan (p : Nat) (f : Plan → Plan) (s : State) : running (modPlan p f s) = running s := rfl
@[simp] theorem running_modTwn (f : Twn → Twn) (s : State) : running (modTwn f s) = running s := rfl
@[simp] theorem running_setArc (e : Eng) (s : State) : running (setArc e s) = running s := rfl
@[simp] theorem running_setDcmp (e : Eng) (s : State) : running (setDcmp e s) = running s := rfl
@[simp] theorem running_modStrm (i : Nat) (f : Stream → Stream) (s : State) : running (modStrm i f s) = running s := rfl
@[simp] theorem running_modSlot (i : Nat) (f : Slot → Slot) (s : State) : running (modSlot i f s) = running s := rfl
@[simp] theorem running_modBcn (f : Bcn → Bcn) (s : State) : running (modBcn f s) = running s := rfl
@[simp] theorem running_modTst (f : Tst → Tst) (s : State) : running (modTst f s) = running s := rfl
@[simp] theorem running_setStart (g : Nat) (f : Option Nat) (s : State) : running (setStart g f s) = running s := rfl
@[simp] theorem running_modTmb (f : Tmb → Tmb) (s : State) : running (modTmb f s) = running s := rfl
@[simp] theorem running_setHub (x : HubSt) (s : State) : running (setHub x s) = running s := rfl
@[simp] theorem running_setLatch (p : Path) (a : Nat) (v : Option Word) (s : State) : running (setLatch p a v s) = running s := rfl
@[simp] theorem running_modProf (i : Nat) (f : Prof → Prof) (s : State) : running (modProf i f s) = running s := rfl
@[simp] theorem running_modGunit (u : Nat) (f : GUnit → GUnit) (s : State) : running (modGunit u f s) = running s := rfl
@[simp] theorem running_modTunit (u : Nat) (f : TUnit → TUnit) (s : State) : running (modTunit u f s) = running s := rfl
@[simp] theorem running_modDsp (f : Dsp → Dsp) (s : State) : running (modDsp f s) = running s := rfl
@[simp] theorem running_evtNote (k : PageK) (i : Nat) (was : Bool) (s : State) : running (evtNote k i was s) = running s := by unfold running; rw [evtNote_pwr]
@[simp] theorem running_bump (a n : Nat) (s : State) : running (bump a n s) = running s := by unfold running; rw [bump_pwr]
@[simp] theorem running_pgError (k : PageK) (i status : Nat) (s : State) : running (pgError k i status s) = running s := by unfold running; rw [pgError_pwr]
@[simp] theorem running_raiseMask (k : PageK) (i m : Nat) (s : State) : running (raiseMask k i m s) = running s := by unfold running; rw [raiseMask_pwr]
@[simp] theorem running_raise (k : PageK) (i b : Nat) (s : State) : running (raise k i b s) = running s := by unfold running; rw [raise_pwr]
@[simp] theorem running_advance (t : Nat) (s : State) : running (advance t s) = running s := by unfold running; rw [advance_pwr]

@[simp] theorem live_setRg (a : Nat) (w : Word) (s : State) : live (setRg a w s) = live s := rfl
@[simp] theorem live_setStg (a : Nat) (w : Word) (s : State) : live (setStg a w s) = live s := rfl
@[simp] theorem live_modChan (g : Nat) (f : Chan → Chan) (s : State) : live (modChan g f s) = live s := rfl
@[simp] theorem live_modTap (g : Nat) (f : Tap → Tap) (s : State) : live (modTap g f s) = live s := rfl
@[simp] theorem live_modDie (n : Nat) (f : Die → Die) (s : State) : live (modDie n f s) = live s := rfl
@[simp] theorem live_modExc (o : Nat) (f : Exc → Exc) (s : State) : live (modExc o f s) = live s := rfl
@[simp] theorem live_modRef (b : Nat) (f : RefBuf → RefBuf) (s : State) : live (modRef b f s) = live s := rfl
@[simp] theorem live_modAux (n : Nat) (f : Aux → Aux) (s : State) : live (modAux n f s) = live s := rfl
@[simp] theorem live_modTlane (n : Nat) (f : TLane → TLane) (s : State) : live (modTlane n f s) = live s := rfl
@[simp] theorem live_modHst (f : Hst → Hst) (s : State) : live (modHst f s) = live s := rfl
@[simp] theorem live_modLane (n : Nat) (f : Lane → Lane) (s : State) : live (modLane n f s) = live s := rfl
@[simp] theorem live_modQueue (q : Nat) (f : Queue → Queue) (s : State) : live (modQueue q f s) = live s := rfl
@[simp] theorem live_modMem (f : Mem → Mem) (s : State) : live (modMem f s) = live s := rfl
@[simp] theorem live_await (f : Flight) (w : Wait) (s : State) : live (await f w s) = live s := rfl
@[simp] theorem live_modCmt (f : Cmt → Cmt) (s : State) : live (modCmt f s) = live s := rfl
@[simp] theorem live_modPlan (p : Nat) (f : Plan → Plan) (s : State) : live (modPlan p f s) = live s := rfl
@[simp] theorem live_modTwn (f : Twn → Twn) (s : State) : live (modTwn f s) = live s := rfl
@[simp] theorem live_setArc (e : Eng) (s : State) : live (setArc e s) = live s := rfl
@[simp] theorem live_setDcmp (e : Eng) (s : State) : live (setDcmp e s) = live s := rfl
@[simp] theorem live_modStrm (i : Nat) (f : Stream → Stream) (s : State) : live (modStrm i f s) = live s := rfl
@[simp] theorem live_modSlot (i : Nat) (f : Slot → Slot) (s : State) : live (modSlot i f s) = live s := rfl
@[simp] theorem live_modBcn (f : Bcn → Bcn) (s : State) : live (modBcn f s) = live s := rfl
@[simp] theorem live_modTst (f : Tst → Tst) (s : State) : live (modTst f s) = live s := rfl
@[simp] theorem live_setStart (g : Nat) (f : Option Nat) (s : State) : live (setStart g f s) = live s := rfl
@[simp] theorem live_modTmb (f : Tmb → Tmb) (s : State) : live (modTmb f s) = live s := rfl
@[simp] theorem live_setHub (x : HubSt) (s : State) : live (setHub x s) = live s := rfl
@[simp] theorem live_setLatch (p : Path) (a : Nat) (v : Option Word) (s : State) : live (setLatch p a v s) = live s := rfl
@[simp] theorem live_modProf (i : Nat) (f : Prof → Prof) (s : State) : live (modProf i f s) = live s := rfl
@[simp] theorem live_modGunit (u : Nat) (f : GUnit → GUnit) (s : State) : live (modGunit u f s) = live s := rfl
@[simp] theorem live_modTunit (u : Nat) (f : TUnit → TUnit) (s : State) : live (modTunit u f s) = live s := rfl
@[simp] theorem live_modDsp (f : Dsp → Dsp) (s : State) : live (modDsp f s) = live s := rfl
@[simp] theorem live_evtNote (k : PageK) (i : Nat) (was : Bool) (s : State) : live (evtNote k i was s) = live s := by simp [live]
@[simp] theorem live_bump (a n : Nat) (s : State) : live (bump a n s) = live s := rfl
@[simp] theorem live_pgError (k : PageK) (i status : Nat) (s : State) : live (pgError k i status s) = live s := by simp [live]
@[simp] theorem live_raiseMask (k : PageK) (i m : Nat) (s : State) : live (raiseMask k i m s) = live s := by simp [live]
@[simp] theorem live_raise (k : PageK) (i b : Nat) (s : State) : live (raise k i b s) = live s := by simp [live]
@[simp] theorem live_advance (t : Nat) (s : State) : live (advance t s) = live s := by simp [live]

end Sys2Proof.Machine
end

