-- ==== Sys2Proof/Laws/LaneState.lean ====
section
/-! SUPPORT. What the loss of a lane does to the state machines of the lanes. -/

namespace Sys2Proof.Machine

open Sys2Proof

/-- Every lane's state machine stands as before. -/
structure LaneStSame (s t : State) : Prop where
  get : ∀ k, (lane t k).st = (lane s k).st ∧ (lane t k).rate = (lane s k).rate
theorem LaneStSame.refl (s : State) : LaneStSame s s := ⟨fun _ => ⟨rfl, rfl⟩⟩
theorem LaneStSame.trans {s t u : State} (h : LaneStSame t u) (g : LaneStSame s t) : LaneStSame s u :=
  ⟨fun k => ⟨(h.get k).1.trans (g.get k).1, (h.get k).2.trans (g.get k).2⟩⟩
theorem LaneStSame.ofLanes {s t : State} (h : t.lanes = s.lanes) : LaneStSame s t := by
  refine ⟨fun k => ?_⟩; unfold lane; rw [h]; exact ⟨rfl, rfl⟩
theorem LaneStSame.modLk (n : Nat) (f : Lk → Lk) (s : State) : LaneStSame s (modLk n f s) := by
  refine ⟨fun k => ?_⟩
  unfold Machine.modLk
  rw [lane_modLane]
  split
  · rename_i h; subst h; exact ⟨rfl, rfl⟩
  · exact ⟨rfl, rfl⟩
theorem LaneStSame.foldl {α : Type} {f : State → α → State} (h : ∀ s a, LaneStSame s (f s a)) (l : List α) (s : State) :
    LaneStSame s (l.foldl f s) := by
  induction l generalizing s with
  | nil => exact .refl s
  | cons a l ih => exact (ih _).trans (h s a)
theorem LaneStSame.ite {s a b : State} {c : Prop} [Decidable c] (ha : LaneStSame s a) (hb : LaneStSame s b) :
    LaneStSame s (if c then a else b) := by split <;> assumption

theorem laneSt_linkDown (n : Nat) (s : State) : LaneStSame s (linkDown n s) := by
  unfold linkDown
  have hm : ∀ x, LaneStSame x (mgmtMove n x) := fun x => by unfold mgmtMove; exact (LaneStSame.modLk ..).trans (LaneStSame.modLk ..)
  have hv : ∀ p x, LaneStSame x (viaFree p x) := by
    intro p x; unfold viaFree; split
    · exact .modLk ..
    · exact .refl _
  have hd : ∀ x, LaneStSame x (viaDrop n x) := fun x => LaneStSame.foldl (fun _ _ => .modLk ..) _ _
  have hb : ∀ x, LaneStSame x (mboxVoid n x) := fun x => .ofLanes rfl
  refine LaneStSame.trans (.ofLanes ((same_rteSync _).lanes.resolve_left (by decide))) ?_
  refine LaneStSame.trans (.ofLanes ((same_laneRelease _).lanes.resolve_left (by decide))) ?_
  have hr : ∀ x, LaneStSame x (readersStop n x) := fun x => .ofLanes ((same_readersStop n _).lanes.resolve_left (by decide))
  have hx : ∀ x, LaneStSame x (xoverStart n x) := fun x => .ofLanes ((same_xoverStart n _).lanes.resolve_left (by decide))
  refine LaneStSame.ite (c := (lane s n).lk.peerPath = true) (LaneStSame.trans (hx _) ?_) ?_ <;>
  · refine (hr _).trans ((LaneStSame.modLk ..).trans ((hm _).trans ?_))
    exact (hb _).trans ((hd _).trans (LaneStSame.foldl (fun _ _ => hv _ _) _ _))

theorem LaneStSame.modLane (n : Nat) (f : Lane → Lane) (s : State) (h : ∀ x, (f x).st = x.st ∧ (f x).rate = x.rate) :
    LaneStSame s (modLane n f s) := by
  refine ⟨fun k => ?_⟩
  rw [lane_modLane]
  split
  · rename_i e
    subst e
    exact h _
  · exact ⟨rfl, rfl⟩

theorem LaneStSame.raise (k : PageK) (i b : Nat) (s : State) : LaneStSame s (raise k i b s) := .ofLanes (by simp)

/-- Lane `n` is DOWN in `t`, the others stand as in `s`. -/
structure DownOnly (n : Nat) (s t : State) : Prop where
  down : (lane t n).st = .down
  rest : ∀ k, k ≠ n → (lane t k).st = (lane s k).st ∧ (lane t k).rate = (lane s k).rate

theorem DownOnly.step {n : Nat} {s t u : State} (h : DownOnly n s t) (g : LaneStSame t u) : DownOnly n s u :=
  ⟨(g.get n).1.trans h.down, fun k hk => ⟨(g.get k).1.trans (h.rest k hk).1, (g.get k).2.trans (h.rest k hk).2⟩⟩

theorem downOnly_setLaneSt (n : Nat) (s : State) : DownOnly n s (setLaneSt n .down s) := by
  unfold setLaneSt
  split
  · rename_i h
    exact ⟨h, fun _ _ => ⟨rfl, rfl⟩⟩
  · exact ⟨by simp, fun k hk => by simp [hk]⟩

theorem downOnly_setRate (n r : Nat) {s t : State} (h : DownOnly n s t) : DownOnly n s (setRate n r t) := by
  unfold setRate presetLoad
  split
  · exact h
  · exact ⟨by simp [h.down], fun k hk => by simp [hk, h.rest k hk]⟩

theorem laneSt_rateFail (n r : Nat) (s : State) : LaneStSame s (rateFail n r s) :=
  (LaneStSame.raise ..).trans (LaneStSame.modLane _ _ _ (fun _ => ⟨rfl, rfl⟩))

/-- A lane that goes DOWN is DOWN, whatever rate it goes to; every other lane's state and rate stand. -/
theorem laneDownTo_lane (r n : Nat) (s : State) : DownOnly n s (laneDownTo r n s) := by
  unfold laneDownTo
  extract_lets x was early s1 s2 s3 s4 s5 s6
  split
  · rename_i h
    exact ⟨h, fun _ _ => ⟨rfl, rfl⟩⟩
  · have h1 : DownOnly n s s1 := downOnly_setLaneSt n s
    have h2 : DownOnly n s s2 := h1.step (LaneStSame.ite ((LaneStSame.raise ..).trans (.ofLanes (by simp))) (.refl _))
    have h3 : DownOnly n s s3 := h2.step (LaneStSame.ite (laneSt_rateFail ..) (.refl _))
    have h4 : DownOnly n s s4 := h3.step (LaneStSame.modLane _ _ _ (fun _ => ⟨rfl, rfl⟩))
    have h5 : DownOnly n s s5 := downOnly_setRate n r (h4.step (LaneStSame.modLane _ _ _ (fun _ => ⟨rfl, rfl⟩)))
    have h6 : DownOnly n s s6 := h5.step (LaneStSame.ite (laneSt_linkDown ..) (.refl _))
    have hi : ∀ y, LaneStSame y (isolSync y) := fun y => .ofLanes ((same_isolSync _).lanes.resolve_left (by decide))
    exact h6.step (LaneStSame.ite (.trans (.ofLanes ((same_holdAll _).lanes.resolve_left (by decide))) (hi _)) (hi _))

/-- A lane that goes DOWN is DOWN; every other lane's state and rate stand. -/
theorem laneDown_lane (n : Nat) (s : State) : DownOnly n s (laneDown n s) := laneDownTo_lane 0 n s

theorem forN_laneDown (m : Nat) (s : State) (n : Nat) (h : n < m) : (lane (forN m laneDown s) n).st = .down := by
  unfold forN
  have : ∀ (l : List Nat) (s : State), ((lane s n).st = .down ∨ n ∈ l) → (lane (l.foldl (fun a i => laneDown i a) s) n).st = .down := by
    intro l
    induction l with
    | nil => intro s h; simpa using h
    | cons a l ih =>
      intro s h
      refine ih _ ?_
      by_cases e : n = a
      · subst e; exact .inl (laneDown_lane n s).down
      · rcases h with h | h
        · exact .inl (((laneDown_lane a s).rest n e).1.trans h)
        · exact .inr (by simpa [e] using h)
  exact this _ s (.inr (by simpa using h))

end Sys2Proof.Machine
end

