-- ==== Sys2Proof/Laws/Wakeup.lean ====
section
/-! SUPPORT. What ending the commands that wait for an event does, said once. -/

namespace Sys2Proof.Machine

open Sys2Proof

/-- The completion of a flight that ends in a state. -/
def complOf (f : Flight) (st : Nat) (res : List Byte) (s : State) : Compl :=
  { path := f.path, tag := f.tag, gen := f.gen, op := f.op, status := st, result := res, frame := s.frame, tok := f.tok, org := f.org }

theorem finish_compl (f : Flight) (st : Nat) (res : List Byte) (s : State) :
    (finish f st res s).compl = s.compl ++ [complOf f st res s] := rfl

theorem finish_flight (f : Flight) (st : Nat) (res : List Byte) (s : State) :
    (finish f st res s).flight = s.flight.filter (fun x => !(decide (x.path = f.path) && decide (x.tag = f.tag))) := rfl

theorem finish_frame (f : Flight) (st : Nat) (res : List Byte) (s : State) : (finish f st res s).frame = s.frame := by
  unfold finish; split <;> rfl

/-- Flights that end one after another: their completions stand in that order behind the others. -/
theorem finishes_compl (st : Nat) (res : List Byte) (l : List Flight) (s : State) :
    (l.foldl (fun a f => finish f st res a) s).compl = s.compl ++ l.map (fun f => complOf f st res s) := by
  induction l generalizing s with
  | nil => simp
  | cons f l ih =>
    rw [List.foldl_cons, ih, finish_compl]
    simp [complOf, finish_frame]

/-- Flights that end one after another: none of them is in flight any more, and nothing new is. -/
theorem finishes_flight (st : Nat) (res : List Byte) (l : List Flight) (s : State) (x : Flight)
    (h : x ∈ (l.foldl (fun a f => finish f st res a) s).flight) : x ∈ s.flight ∧ x ∉ l := by
  induction l generalizing s with
  | nil => exact ⟨h, by simp⟩
  | cons f l ih =>
    obtain ⟨hx, hl⟩ := ih (finish f st res s) h
    rw [finish_flight, List.mem_filter] at hx
    refine ⟨hx.1, fun hm => ?_⟩
    rcases List.mem_cons.1 hm with rfl | hm
    · simp at hx
    · exact hl hm

/-- What waking the commands that wait for an event does. -/
theorem wakeup_woken (w : Wait) (st : Nat) (res : List Byte) (s : State) : Woken w st res s (wakeup w st res s) where
  ended f hf hw _ := by
    have hm : f ∈ s.flight.filter (fun x => decide (x.wait = w)) := List.mem_filter.2 ⟨hf, by simp [hw]⟩
    rw [wakeup, finishes_compl]
    exact List.mem_append_right _ (List.mem_map.2 ⟨f, hm, rfl⟩)
  left f hf := by
    obtain ⟨h, hn⟩ := finishes_flight st res _ s f hf
    exact ⟨h, fun hw => hn (List.mem_filter.2 ⟨h, by simp [hw]⟩)⟩
  kept c hc := by rw [wakeup, finishes_compl]; exact List.mem_append_left _ hc

end Sys2Proof.Machine
end

