-- ==== Sys2Proof/WellFormed.lean ====
section
/-! DEFINITION. Which commands the hub can be given: every operand lies in the range the manual gives it (R6, R11, R75,
R99, R205, R244, R324, R353, R372, R391). -/

namespace Sys2Proof

/-- A path is the host port, or MGMT packets of one of the eight lanes. -/
def Path.wf : Path → Bool
  | .host => true
  | .mgmt n => decide (n < 8)

def Straps.wf (x : Straps) : Bool := decide (x.bootMode < 4)

/-- A detector of an excitation output names one of four. -/
def LeadDet.wf : LeadDet → Bool
  | .compliance => true
  | .forceSense k => decide (k < 4)
  | .collapse k => decide (k < 4)

def LtFind.wf (x : LtFind) : Bool := x.opens.all (fun c => decide (c < 32)) && x.shorts.all (fun p => decide (p.1 < 512 ∧ p.2 < 8))

def MemHit.wf (x : MemHit) : Bool := decide (x.kind ≤ 4) && decide (x.err ≤ 2)

def MemErr.wf (x : MemErr) : Bool := decide (x.m ≤ 13 ∧ x.off < 2 ^ 22)

/-- Words that a read corrected: banks and the queue memory. -/
def corrWf (l : List (Nat × Nat)) : Bool := l.all (fun e => decide (e.1 ≤ 12 ∧ e.2 < 2 ^ 22))

def TimePkt.wf (x : TimePkt) : Bool :=
  decide (x.id < 65536 ∧ x.arrId < 65536 ∧ x.dep < 2 ^ 80 ∧ x.arr < 2 ^ 80 ∧ x.stepser < 16 ∧ x.state < 8 ∧ x.hops < 16 ∧ x.bound < 2 ^ 32 ∧ x.frate < 8)

def TrigPkt.wf (x : TrigPkt) : Bool := decide (x.line < 8 ∧ x.ttl < 16 ∧ x.id < 65536 ∧ x.origin < 2 ^ 32 ∧ x.inst < 2 ^ 96 ∧ x.creator < 2 ^ 32 ∧ x.lane < 8 ∧ x.hops < 16)

def Pkt.wf (x : Pkt) : Bool := decide (x.ty < 16 ∧ x.lseq < 65536 ∧ x.queue < 16 ∧ x.lane < 8 ∧ x.origin < 2 ^ 32)

def LinkSt.wf (x : LinkSt) : Bool := decide (x.ackseq < 65536 ∧ x.climS < 65536 ∧ x.climP < 65536 ∧ x.reason < 256)

def Lease.wf (x : Lease) : Bool :=
  decide (x.role < 8 ∧ x.msgno < 65536 ∧ x.serial < 2 ^ 32 ∧ x.len < 256 ∧ x.guard < 256) && x.outs.all (fun o => decide (o.1 < 64))

/-- What a tick presents names channels, lanes, outputs, plans and sheafs that exist. -/
def TickIn.wf (x : TickIn) : Bool :=
  x.cic.all (fun c => decide (c.g < 512) && c.codes.all (fun q => decide (q < 16))) && decide (x.votes < 8) && x.deps.all (fun d => decide (d.1 < 8)) &&
    x.exc.all (fun e => decide (e.1 < 64)) && x.off.all (fun o => decide (o.1 < 8) && o.2.2.all (fun e => e.2.wf)) && x.lanes.all (fun l => decide (l.1 < 8)) &&
    x.dfe.all (fun l => decide (l.1 < 8) && decide (l.2.length ≤ 5) && l.2.all (fun v => decide (v < 64))) &&
    x.prbs.all (fun l => decide (l.1 < 8)) && x.coefUe.all (fun q => decide (q.1 < 32768)) && x.corr.all (fun e => decide (e.1 ≤ 16))

/-- Every operand of a command is in range. -/
def Instr.wf : Instr → Bool
  | .milestoneTick i => i.wf
  | .dspPassLateStart => true
  | .dspPassEnd ue wv => ue.ue.all (fun i => decide (i < 32)) && wv.all (fun i => decide (i < 32))
  | .safeEntry => true
  | .safeCauseCleared => true
  | .processorRestart => true
  | .completionHeldSend => true
  | .d2dTrained n ok _ => decide (n < 4) && decide (ok < 8)
  | .d2dWordError n x => decide (n < 4) && decide (x.lane < 3)
  | .d2dLaneFail n lane => decide (n < 4) && decide (lane < 3)
  | .d2dUnrecoverableWord n sheafs => decide (n < 4) && sheafs.all (fun x => decide (x < 4))
  | .d2dTrimRemeasure n _ => decide (n < 4)
  | .powerOnReset _ => true
  | .porRelease st => st.wf
  | .bootComplete _ _ _ => true
  | .xosLoss _ => true
  | .laneRailLoss _ => true
  | .laneRailRestore => true
  | .fieldDieRailLoss n => decide (n < 4)
  | .fieldDieRailRestore n => decide (n < 4)
  | .dieChannelRestore n => decide (n < 4)
  | .lrefLoss => true
  | .plllRelock => true
  | .resetNAssert _ => true
  | .resetNRelease st => st.wf
  | .trstNAssert => true
  | .sleepDrainDone => true
  | .sleepTimeout => true
  | .wakeChannelRestore => true
  | .registerWrite p a _ => p.wf && decide (a < 0x40000 ∧ a % 4 = 0)
  | .pgErrRead p a => p.wf && decide (a < 0x40000 ∧ a % 4 = 0)
  | .counterReadClear p a _ => p.wf && decide (a < 0x40000 ∧ a % 4 = 0)
  | .loHalfRead p a => p.wf && decide (a < 0x40000 ∧ a % 4 = 0)
  | .pgIrqClear p a _ _ => p.wf && decide (a < 0x40000 ∧ a % 4 = 0)
  | .pgModeWrite p a _ => p.wf && decide (a < 0x40000 ∧ a % 4 = 0)
  | .pgEnableWrite p a _ => p.wf && decide (a < 0x40000 ∧ a % 4 = 0)
  | .blockSoftReset p a => p.wf && decide (a < 0x40000 ∧ a % 4 = 0)
  | .cmtOpen p => p.wf
  | .cmtCheck p => p.wf
  | .checkComplete => true
  | .cmtArm p => p.wf
  | .armCheckComplete => true
  | .cmtDisarm p => p.wf
  | .cmtAbandon p => p.wf
  | .finalCheck => true
  | .commitApply => true
  | .sessionTimeout => true
  | .eventPacketSend => true
  | .eventRepeat => true
  | .peakTripUprange g _ _ => decide (g < 512)
  | .downrangeCount g _ => decide (g < 512)
  | .clipDetect g _ _ => decide (g < 512)
  | .windowComparatorTrip g _ _ _ => decide (g < 512)
  | .windowReturn g _ => decide (g < 512)
  | .leadDetectorConfirm g d _ => decide (g < 512) && d.wf
  | .leadDetectorInactive g d _ => decide (g < 512) && d.wf
  | .leadRetestTimer g => decide (g < 512)
  | .shfLtOpens p ss _ cc => p.wf && decide (ss < 16) && decide (cc < 32)
  | .shfLtShorts p x => p.wf && decide (x.ss < 16 ∧ x.cc < 32)
  | .ltPeriodicDue ss => decide (ss < 16)
  | .leadTestComplete ss f => decide (ss < 16) && f.wf
  | .modulatorStart ss _ => decide (ss < 16)
  | .modulatorFault g _ => decide (g < 512)
  | .modulatorFaultClear g => decide (g < 512)
  | .senseExcursion ss k _ _ => decide (ss < 16) && decide (k < 4)
  | .holdReturnShare ss k _ => decide (ss < 16) && decide (k < 4)
  | .excIlimChange ss k _ _ => decide (ss < 16) && decide (k < 4)
  | .excHeadroomChange ss k _ _ => decide (ss < 16) && decide (k < 4)
  | .excLoadCollapse ss k _ _ => decide (ss < 16) && decide (k < 4)
  | .excRampComplete ss k _ => decide (ss < 16) && decide (k < 4)
  | .currentSourceExchange g _ => decide (g < 512)
  | .refReadySet ss b => decide (ss < 16) && decide (b < 6)
  | .refMonitorTrip ss b => decide (ss < 16) && decide (b < 6)
  | .refFaultClear ss b => decide (ss < 16) && decide (b < 6)
  | .auxConversionDone n _ _ _ => decide (n < 4)
  | .auxSysPassDue n => decide (n < 4)
  | .auxCjcDue n => decide (n < 4)
  | .auxSlotGo p i => p.wf && decide (i < 16)
  | .auxSlotRepeat i => decide (i < 16)
  | .auxResultRead p i => p.wf && decide (i < 16)
  | .fltCdataWrite p ss _ => p.wf && decide (ss < 16)
  | .fltCdataRead p ss => p.wf && decide (ss < 16)
  | .fltCsealWrite p ss _ => p.wf && decide (ss < 16)
  | .bankSealResult ss => decide (ss < 16)
  | .timeOsReceive n ch3 _ => decide (n < 8) && decide (ch3 < 256)
  | .timePacketReceive n pk _ => decide (n < 8) && pk.wf
  | .timeStampDiscard n => decide (n < 8)
  | .timebaseStep i => i.wf
  | .timebaseLock => true
  | .timebaseUnlock => true
  | .holdoverEntry _ => true
  | .holdoverBoundCross _ => true
  | .sourceChange => true
  | .dlyJump n => decide (n < 8)
  | .tmbSnapGo p => p.wf
  | .rootTodValid p _ => p.wf
  | .ppsInEdge _ => true
  | .ppsMissing _ => true
  | .tmbEvtArm p _ => p.wf
  | .tmbEvtDisarm p _ => p.wf
  | .scheduledEventFire e _ => decide (e < 16)
  | .trigInEdge n _ => decide (n < 2)
  | .linIdataAccess p _ => p.wf
  | .linCopyGo p => p.wf
  | .linCopyDone => true
  | .linTsealWrite p t _ => p.wf && decide (t < 4)
  | .tableSealResult t => decide (t < 4)
  | .acqForceGo p _ => p.wf
  | .trigPacketReceive n _ k _ => decide (n < 8) && k.wf
  | .cpArm p j => p.wf && decide (j < 8)
  | .cpDisarm p j => p.wf && decide (j < 8)
  | .cpRelease p j => p.wf && decide (j < 8)
  | .cpOffload p j => p.wf && decide (j < 8)
  | .offloadDone j ecc => decide (j < 8) && ecc.all (fun e => e.2.wf)
  | .queFlushStook p q => p.wf && decide (q < 16)
  | .stookFlushEffect q => decide (q < 16)
  | .queFlushWord p q => p.wf && decide (q < 16)
  | .queRwdGo p => p.wf
  | .arcGo p _ => p.wf
  | .arcCancel p => p.wf
  | .arcJobEnd _ ecc => corrWf ecc.corr
  | .dcmpGo p _ => p.wf
  | .dcmpCancel p => p.wf
  | .dcmpJobEnd _ ecc => corrWf ecc.corr
  | .losPinAssert n _ => decide (n < 8)
  | .losIntAssert n _ => decide (n < 8)
  | .cdrLol n _ => decide (n < 8)
  | .alignmentLoss n _ => decide (n < 8)
  | .laneAlign n _ => decide (n < 8)
  | .orderedSetReceive n _ _ syms _ => decide (n < 8) && decide (syms.length = 4) && syms.all (fun x => decide (x < 1024))
  | .laneUp n _ => decide (n < 8)
  | .rateStepSwitch x => decide (x.lane < 8)
  | .rateStepTimeout n _ => decide (n < 8)
  | .failmaskExpire n _ => decide (n < 8)
  | .lnClrfail p n => p.wf && decide (n < 8)
  | .eqAcquisitionDone n fom foms _ => decide (n < 8) && decide (fom < 256) && foms.all (fun x => decide (x < 256))
  | .laneDegrade n => decide (n < 8)
  | .laneRecover n => decide (n < 8)
  | .laneDwellExpire n _ => decide (n < 8)
  | .prbsCheckerLock x => decide (x.lane < 8)
  | .prbsCheckerUnlock x => decide (x.win ≤ 4096) && decide (x.lane < 8)
  | .prbsInject p n => p.wf && decide (n < 8)
  | .prbsChkEnable p n => p.wf && decide (n < 8)
  | .stookPacketReceive n pk => decide (n < 8) && pk.wf
  | .mgmtCommandReceive n pk => decide (n < 8) && pk.wf
  | .mgmtRegRead n pk hits => decide (n < 8) && pk.wf && hits.all (fun h => h.2.wf)
  | .mgmtRegWrite n pk hits => decide (n < 8) && pk.wf && hits.all (fun h => h.2.wf)
  | .mgmtReservedDiscard n pk => decide (n < 8) && pk.wf
  | .leasePacketReceive n m _ => decide (n < 8) && m.wf
  | .ackReceive n k => decide (n < 8) && k.wf
  | .nakReceive n k => decide (n < 8) && k.wf
  | .idlePacketReceive n k => decide (n < 8) && k.wf
  | .packetCrcDiscard n _ => decide (n < 8)
  | .sequencedPacketAccept n pk hits => decide (n < 8) && pk.wf && hits.all (fun h => h.2.wf)
  | .ackTimer n => decide (n < 8)
  | .nakRepeat n => decide (n < 8)
  | .retxTimeout n _ => decide (n < 8)
  | .keepaliveLoss n _ => decide (n < 8)
  | .packetTransmit n _ ecc => decide (n < 8) && ecc.all MemErr.wf
  | .tokenClaim _ => true
  | .tokenRelease _ => true
  | .swapAnnounce => true
  | .roleSwap _ => true
  | .twnSwapReq p => p.wf
  | .twnResyncReq p => p.wf
  | .twnAbort p => p.wf
  | .resyncPhaseAdvance => true
  | .resyncFail => true
  | .resyncRetry => true
  | .confSoloClear => true
  | .memBankCfgWrite p b _ => p.wf && decide (b < 12)
  | .memWindowRead p h => p.wf && h.wf
  | .memWindowWrite p _ _ h => p.wf && h.wf
  | .scrubStep _ => true
  | .memRepairGo p _ => p.wf
  | .memTestGo p _ => p.wf
  | .memTestDone _ _ _ => true
  | .hostRd _ hits => hits.all (fun h => h.2.wf)
  | .hostWr _ _ hits => hits.all (fun h => h.2.wf)
  | .hostRdsr => true
  | .hostMbpush _ => true
  | .hostMbpop n => decide (n < 65536)
  | .hostSetgen _ => true
  | .hostRstgen => true
  | .hostUnknownInstr _ => true
  | .hostCsAbort _ hits => hits.all (fun h => h.2.wf)
  | .commandAccept p => p.wf
  | .completionDeliver p => p.wf
  | .hubIdentify p tag => p.wf && decide (tag < 256)
  | .hubStatusCmd p tag => p.wf && decide (tag < 256)
  | .hubSleep p tag => p.wf && decide (tag < 256)
  | .hubWake p tag => p.wf && decide (tag < 256)
  | .cmdNop p tag => p.wf && decide (tag < 256)
  | .cmdCancel p tag => p.wf && decide (tag < 256)
  | .cfgOpen p tag => p.wf && decide (tag < 256)
  | .cfgCheck p tag => p.wf && decide (tag < 256)
  | .cfgApplyAt p tag => p.wf && decide (tag < 256)
  | .cfgAbandon p tag => p.wf && decide (tag < 256)
  | .cfgImageLoad p tag ecc => p.wf && decide (tag < 256) && corrWf ecc.corr
  | .cfgImageSave p tag ecc => p.wf && decide (tag < 256) && corrWf ecc.corr
  | .chSetSensor p tag => p.wf && decide (tag < 256)
  | .chSetRate p tag => p.wf && decide (tag < 256)
  | .chEnable p tag => p.wf && decide (tag < 256)
  | .chAutorange p tag => p.wf && decide (tag < 256)
  | .chSpotRead p tag => p.wf && decide (tag < 256)
  | .chLeadTest p tag => p.wf && decide (tag < 256)
  | .shfRefEnable p tag => p.wf && decide (tag < 256)
  | .shfExcSet p tag => p.wf && decide (tag < 256)
  | .fltLoadBank p tag => p.wf && decide (tag < 256)
  | .timeStatus p tag => p.wf && decide (tag < 256)
  | .timeStep p tag => p.wf && decide (tag < 256)
  | .timeSetAsym p tag => p.wf && decide (tag < 256)
  | .timeSchedule p tag => p.wf && decide (tag < 256)
  | .acqArm p tag => p.wf && decide (tag < 256)
  | .acqDisarm p tag => p.wf && decide (tag < 256)
  | .acqForce p tag => p.wf && decide (tag < 256)
  | .acqOffload p tag => p.wf && decide (tag < 256)
  | .gleanSet p tag => p.wf && decide (tag < 256)
  | .memAssign p tag => p.wf && decide (tag < 256)
  | .memRead p tag hits => p.wf && decide (tag < 256) && hits.all (fun h => h.2.wf)
  | .memWrite p tag hits => p.wf && decide (tag < 256) && hits.all (fun h => h.2.wf)
  | .memTest p tag => p.wf && decide (tag < 256)
  | .linkStatus p tag => p.wf && decide (tag < 256)
  | .linkRoute p tag => p.wf && decide (tag < 256)
  | .linkPrbs p tag => p.wf && decide (tag < 256)
  | .linkPrbsEnd n => decide (n < 8)
  | .streamSet p tag => p.wf && decide (tag < 256)
  | .twinStatus p tag => p.wf && decide (tag < 256)
  | .twinSwapNow p tag => p.wf && decide (tag < 256)
  | .twinSetLease p tag => p.wf && decide (tag < 256)
  | .bcnSet p tag => p.wf && decide (tag < 256)
  | .bcnSchedule p tag => p.wf && decide (tag < 256)
  | .bcnDiag p tag => p.wf && decide (tag < 256)
  | .diagCounters p tag => p.wf && decide (tag < 256)
  | .diagBist p tag => p.wf && decide (tag < 256)
  | .diagPerturb p tag => p.wf && decide (tag < 256)
  | .bistDone _ _ => true
  | .bcnFlashOn m _ => decide (m < 16)
  | .bcnFlashOff m _ => decide (m < 16)
  | .bcnMeasure m _ _ _ _ => decide (m < 16)
  | .bcnDiagPulse m _ => decide (m < 16)
  | .bcnOvpTrip => true
  | .bcnOvpRelease => true
  | .bcnUntestedTimeout m => decide (m < 16)
  | .bcnDiagCmdGo p _ => p.wf
  | .bcnAdjTestDone reads => reads.all (fun r => decide (r.m < 16) && decide (r.pin < 3))
  | .bcnSchArm p m => p.wf && decide (m < 16)
  | .bcnSchDisarm p m => p.wf && decide (m < 16)
  | .bchShiftStart _ => true
  | .bchShiftDone _ => true
  | .tstLockWrite _ _ => true
  | .tstUnlockExpire => true
  | .pgPerturbWrite p a _ => p.wf && decide (a < 0x40000 ∧ a % 4 = 0)
  | .perturbCountExpire a => decide (a < 0x40000 ∧ a % 4 = 0)
  | .jtagInstruction _ => true
  | .coreRailPresent => true
  | .xosRestored => true
  | .laneSignalPresent n => decide (n < 8)
  | .outgoingShareEntry ss k _ => decide (ss < 16) && decide (k < 4)
  | .timingPulseEnd pin _ => decide (pin < 4)

end Sys2Proof
end

