-- ==== Sys2Proof/Tests/Slice0.lean ====
section
/-! SUPPORT. Tests: a witness of the hypotheses of every statement, well-formedness, and worked examples of the manual. -/

open Sys2Proof Sys2Proof.Machine

namespace Sys2Proof.Tests

/-- The hub after boot, with the reset configuration. -/
def base : State := { State.reset with pwr := { phase := .run }, hub := { st := .unconfigured } }
/-- Short names for a register, a channel, an output, a buffer, a converter, a die, a bank, a lane, a plan, a queue, a string,
  the
timebase, the twin, and a command in flight set to a value. -/
def sr (a : Nat) (w : Word) (s : State) : State := setRg a w s
def cx (g : Nat) (x : Chan) (s : State) : State := modChan g (fun _ => x) s
def ex (o : Nat) (x : Exc) (s : State) : State := modExc o (fun _ => x) s
def rf (b : Nat) (x : RefBuf) (s : State) : State := modRef b (fun _ => x) s
def ax (n : Nat) (x : Aux) (s : State) : State := modAux n (fun _ => x) s
def dy (n : Nat) (s : State) : State := sr 0x1048 0xF#32 (modDie n (fun _ => { up := true, trained := true }) s)
/-- Bank b has an owner code. -/
def bk (b : Nat) (o : Word) (s : State) : State := sr (bankCfgA b) o s
def ln (n : Nat) (x : Lane) (s : State) : State := { s with lanes := tset {} s.lanes n x }
def pl (j : Nat) (x : Plan) (s : State) : State := { s with plans := tset {} s.plans j x }
def qx (q : Nat) (x : Queue) (s : State) : State := { s with queues := tset {} s.queues q x }
def bs (m : Nat) (x : BStr) (s : State) : State := { s with bcn := { s.bcn with strs := tset {} s.bcn.strs m x } }
def tm (f : Tmb → Tmb) (s : State) : State := { s with tmb := f s.tmb }
def tw (f : Twn → Twn) (s : State) : State := { s with twn := f s.twn }
def mf (op : Nat) (buf : List Nat) : Flight := { path := .host, tag := 1, gen := 0, op := op, buf := buf.map (BitVec.ofNat 8) }
def fly (op : Nat) (buf : List Nat) (s : State) : State := { s with flight := mf op buf :: s.flight.filter (fun f => decide (f.wait ≠ .start)) }
def own (s : State) : State := { s with cmt := { s.cmt with st := .open_, owner := .hostCmd } }
/-- The page in EXPERT mode. -/
def exp (k : PageK) (i : Nat) (s : State) : State := setRg (pgCtrl k i) 0x101#32 s

/-- Packets and inputs whose fields are all in range. -/
def tp : TimePkt := ⟨0, 0, 0, 0, true, 0, 0, 0, 0, 0, true⟩
def gp : TrigPkt := ⟨0, 0, 0, 0, 0, 0, 0, 0⟩
def ls : LinkSt := ⟨0, 0, 0, true, false, 0⟩
def lm : Lease := ⟨0, 0, true, true, true, false, 0, 0, 0, 0, 0, 0, 0, []⟩
def ti : TickIn := ⟨[], 7, [], [], [], [], [], [], [], [], []⟩

/-- Well-formedness: each check of an operand's fields refuses a term that breaks it alone. -/

theorem test_wf_operands :
    [{ ti with cic := [⟨512, 0, []⟩] }, { ti with cic := [⟨0, 0, [16]⟩] }, { ti with votes := 8 },
    { ti with deps := [(8, 0)] }, { ti with exc := [(64, 0, 0, 0)] }, { ti with off := [(8, 0, [])] },
    { ti with off := [(0, 0, [(0, ⟨14, 0, true⟩)])] }, { ti with lanes := [(8, 0, 0, 0)] }, { ti with prbs := [(8, 0, 0)] },
    { ti with coefUe := [(32768, 0#32)] }, { ti with corr := [(17, 0)] }].all (fun x => !TickIn.wf x) = true ∧ ti.wf = true ∧
    [{ tp with id := 65536 }, { tp with arrId := 65536 }, { tp with dep := 2 ^ 80 }, { tp with arr := 2 ^ 80 },
    { tp with stepser := 16 }, { tp with state := 8 }, { tp with hops := 16 }, { tp with bound := 2 ^ 32 },
    { tp with frate := 8 }].all (fun x => !TimePkt.wf x) = true ∧ tp.wf = true ∧
    [{ gp with line := 8 }, { gp with ttl := 16 }, { gp with id := 65536 }, { gp with origin := 2 ^ 32 },
    { gp with inst := 2 ^ 96 }, { gp with creator := 2 ^ 32 }, { gp with lane := 8 },
      { gp with hops := 16 }].all (fun x => !TrigPkt.wf x) = true ∧ gp.wf = true ∧
    [{ ty := 16 }, { ty := 2, lseq := 65536 }, { ty := 2, queue := 16 }, { ty := 2, lane := 8 },
      { ty := 2, origin := 2 ^ 32 }].all (fun x => !Pkt.wf x) = true ∧ Pkt.wf { ty := 2 } = true ∧
    [{ ls with ackseq := 65536 }, { ls with climS := 65536 }, { ls with climP := 65536 },
      { ls with reason := 256 }].all (fun x => !LinkSt.wf x) = true ∧ ls.wf = true ∧
    [{ lm with role := 8 }, { lm with msgno := 65536 }, { lm with serial := 2 ^ 32 }, { lm with len := 256 },
    { lm with guard := 256 }, { lm with outs := [(64, 0, 0, 0)] }].all (fun x => !Lease.wf x) = true ∧ lm.wf = true := by decide

/-- Each check of a command's operands refuses a term that breaks it alone (1 of 7). -/

theorem test_wf_commands_1 :
    [.milestoneTick { ti with votes := 8 }, .dspPassEnd { ue := [32] } [], .dspPassEnd {} [32], .d2dTrained 4 0 [],
    .d2dTrained 0 8 [], .d2dWordError 4 ⟨0, 0, true⟩, .d2dWordError 0 ⟨3, 0, true⟩, .d2dLaneFail 4 0, .d2dLaneFail 0 3,
    .d2dUnrecoverableWord 4 [], .d2dUnrecoverableWord 0 [32], .d2dTrimRemeasure 4 [], .porRelease ⟨true, true, 4, false⟩,
    .fieldDieRailLoss 4, .fieldDieRailRestore 4, .dieChannelRestore 4, .resetNRelease ⟨true, true, 4, false⟩,
    .registerWrite (.mgmt 8) 0 0#32, .registerWrite .host 0x40000 0#32, .registerWrite .host 2 0#32, .pgErrRead (.mgmt 8) 0,
    .pgErrRead .host 0x40000, .pgErrRead .host 2, .counterReadClear (.mgmt 8) 0 0, .counterReadClear .host 0x40000 0,
    .counterReadClear .host 2 0, .loHalfRead (.mgmt 8) 0, .loHalfRead .host 0x40000, .loHalfRead .host 2,
    .pgIrqClear (.mgmt 8) 0 0#32 0#32, .pgIrqClear .host 0x40000 0#32 0#32, .pgIrqClear .host 2 0#32 0#32,
    .pgModeWrite (.mgmt 8) 0 true, .pgModeWrite .host 0x40000 true, .pgModeWrite .host 2 true,
    .pgEnableWrite (.mgmt 8) 0 true, .pgEnableWrite .host 0x40000 true, .pgEnableWrite .host 2 true,
    .blockSoftReset (.mgmt 8) 0, .blockSoftReset .host 0x40000, .blockSoftReset .host 2, .cmtOpen (.mgmt 8),
    .cmtCheck (.mgmt 8), .cmtArm (.mgmt 8), .cmtDisarm (.mgmt 8), .cmtAbandon (.mgmt 8), .peakTripUprange 512 true 0,
    .downrangeCount 512 0, .clipDetect 512 true 0, .windowComparatorTrip 512 true true 0, .windowReturn 512 0,
    .leadDetectorConfirm 512 .compliance 0, .leadDetectorConfirm 0 (.forceSense 4) 0,
    .leadDetectorConfirm 0 (.collapse 4) 0,
      .leadDetectorInactive 512 .compliance 0].all (fun i => !Instr.wf i) = true := by decide

/-- Each check of a command's operands refuses a term that breaks it alone (2 of 7). -/

theorem test_wf_commands_2 :
    [.leadDetectorInactive 0 (.forceSense 4) 0, .leadDetectorInactive 0 (.collapse 4) 0, .leadRetestTimer 512,
    .shfLtOpens (.mgmt 8) 0 true 0, .shfLtOpens .host 16 true 0, .shfLtOpens .host 0 true 32,
    .shfLtShorts (.mgmt 8) ⟨0, true, 0⟩, .shfLtShorts .host ⟨16, true, 0⟩, .shfLtShorts .host ⟨0, true, 32⟩,
    .ltPeriodicDue 16, .leadTestComplete 16 ⟨[], [], false⟩, .leadTestComplete 0 ⟨[32], [], false⟩,
    .leadTestComplete 0 ⟨[], [(512, 0)], false⟩, .leadTestComplete 0 ⟨[], [(0, 8)], false⟩, .modulatorStart 16 0,
    .modulatorFault 512 0, .modulatorFaultClear 512, .senseExcursion 16 0 true 0, .senseExcursion 0 4 true 0,
    .holdReturnShare 16 0 0, .holdReturnShare 0 4 0, .excIlimChange 16 0 true 0, .excIlimChange 0 4 true 0,
    .excHeadroomChange 16 0 true 0, .excHeadroomChange 0 4 true 0, .excLoadCollapse 16 0 0 0, .excLoadCollapse 0 4 0 0,
    .excRampComplete 16 0 0, .excRampComplete 0 4 0, .currentSourceExchange 512 0, .refReadySet 16 0, .refReadySet 0 6,
    .refMonitorTrip 16 0, .refMonitorTrip 0 6, .refFaultClear 16 0, .refFaultClear 0 6, .auxConversionDone 4 0 0 [],
    .auxSysPassDue 4, .auxCjcDue 4, .auxSlotGo (.mgmt 8) 0, .auxSlotGo .host 16, .auxSlotRepeat 16,
    .auxResultRead (.mgmt 8) 0, .auxResultRead .host 16, .fltCdataWrite (.mgmt 8) 0 0#32, .fltCdataWrite .host 16 0#32,
    .fltCdataRead (.mgmt 8) 0, .fltCdataRead .host 16, .fltCsealWrite (.mgmt 8) 0 0#32, .fltCsealWrite .host 16 0#32,
    .bankSealResult 16, .timeOsReceive 8 0 0, .timeOsReceive 0 256 0, .timePacketReceive 8 tp 0,
    .timePacketReceive 0 { tp with id := 65536 } 0].all (fun i => !Instr.wf i) = true := by decide

/-- Each check of a command's operands refuses a term that breaks it alone (3 of 7). -/

theorem test_wf_commands_3 :
    [.timeStampDiscard 8, .timebaseStep { ti with votes := 8 }, .dlyJump 8, .tmbSnapGo (.mgmt 8),
    .rootTodValid (.mgmt 8) 0#32, .tmbEvtArm (.mgmt 8) 0#32, .tmbEvtDisarm (.mgmt 8) 0#32, .scheduledEventFire 16 0,
    .trigInEdge 2 ⟨0, 0, 0⟩, .linIdataAccess (.mgmt 8) none, .linCopyGo (.mgmt 8), .linTsealWrite (.mgmt 8) 0 0#32,
    .linTsealWrite .host 4 0#32, .tableSealResult 4, .acqForceGo (.mgmt 8) 0, .trigPacketReceive 8 0 gp 0,
    .trigPacketReceive 0 0 { gp with line := 8 } 0, .cpArm (.mgmt 8) 0, .cpArm .host 8, .cpDisarm (.mgmt 8) 0,
    .cpDisarm .host 8, .cpRelease (.mgmt 8) 0, .cpRelease .host 8, .cpOffload (.mgmt 8) 0, .cpOffload .host 8,
    .offloadDone 8 [], .offloadDone 0 [(0, ⟨14, 0, true⟩)], .queFlushStook (.mgmt 8) 0, .queFlushStook .host 16,
    .stookFlushEffect 16, .queFlushWord (.mgmt 8) 0, .queFlushWord .host 16, .queRwdGo (.mgmt 8), .arcGo (.mgmt 8) 0#32,
    .arcCancel (.mgmt 8), .arcJobEnd 0 { corr := [(13, 0)] }, .arcJobEnd 0 { corr := [(0, 2 ^ 22)] },
    .dcmpGo (.mgmt 8) 0#32, .dcmpCancel (.mgmt 8), .dcmpJobEnd 0 { corr := [(13, 0)] },
    .dcmpJobEnd 0 { corr := [(0, 2 ^ 22)] }, .losPinAssert 8 0, .losIntAssert 8 0, .cdrLol 8 0, .alignmentLoss 8 ⟨[], 0⟩,
    .laneAlign 8 [], .orderedSetReceive 8 0 true [0, 0, 0, 0] 0, .laneUp 8 0, .rateStepSwitch ⟨8, 0⟩, .rateStepTimeout 8 0,
    .failmaskExpire 8 0, .lnClrfail (.mgmt 8) 0, .lnClrfail .host 8, .eqAcquisitionDone 8 0 [] [],
    .eqAcquisitionDone 0 256 [] []].all (fun i => !Instr.wf i) = true := by decide

/-- Each check of a command's operands refuses a term that breaks it alone (4 of 7). -/

theorem test_wf_commands_4 :
    [.laneDegrade 8, .laneRecover 8, .laneDwellExpire 8 0, .prbsCheckerLock ⟨8, []⟩, .prbsCheckerUnlock ⟨8, 0, 0, 0⟩,
    .prbsInject (.mgmt 8) 0, .prbsInject .host 8, .prbsChkEnable (.mgmt 8) 0, .prbsChkEnable .host 8,
    .stookPacketReceive 8 { ty := 2 }, .stookPacketReceive 0 { ty := 16 }, .mgmtCommandReceive 8 { ty := 2 },
    .mgmtCommandReceive 0 { ty := 16 }, .mgmtRegRead 8 { ty := 2 } [], .mgmtRegRead 0 { ty := 16 } [],
    .mgmtRegRead 0 { ty := 2 } [(0, { kind := 5 })], .mgmtRegWrite 8 { ty := 2 } [], .mgmtRegWrite 0 { ty := 16 } [],
    .mgmtRegWrite 0 { ty := 2 } [(0, { kind := 5 })], .mgmtReservedDiscard 8 { ty := 2 },
    .mgmtReservedDiscard 0 { ty := 16 }, .leasePacketReceive 8 lm 0, .leasePacketReceive 0 { lm with role := 8 } 0,
    .ackReceive 8 ls, .ackReceive 0 { ls with ackseq := 65536 }, .nakReceive 8 ls,
    .nakReceive 0 { ls with ackseq := 65536 }, .idlePacketReceive 8 ls, .idlePacketReceive 0 { ls with ackseq := 65536 },
    .packetCrcDiscard 8 true, .sequencedPacketAccept 8 { ty := 2 } [], .sequencedPacketAccept 0 { ty := 16 } [],
    .sequencedPacketAccept 0 { ty := 2 } [(0, { kind := 5 })], .ackTimer 8, .nakRepeat 8, .retxTimeout 8 0,
    .keepaliveLoss 8 0, .packetTransmit 8 0 [], .packetTransmit 0 0 [⟨0, 2 ^ 22, true⟩], .twnSwapReq (.mgmt 8),
    .twnResyncReq (.mgmt 8), .twnAbort (.mgmt 8), .memBankCfgWrite (.mgmt 8) 0 0#32, .memBankCfgWrite .host 12 0#32,
    .memWindowRead (.mgmt 8) {}, .memWindowRead .host { kind := 5 }, .memWindowRead .host { err := 3 },
    .memWindowWrite (.mgmt 8) 0#32 0#32 {}, .memWindowWrite .host 0#32 0#32 { kind := 5 },
    .memWindowWrite .host 0#32 0#32 { err := 3 }, .memRepairGo (.mgmt 8) 0#32, .memTestGo (.mgmt 8) 0#32,
    .hostRd 0#32 [(0, { kind := 5 })], .hostWr 0#32 [] [(0, { kind := 5 })],
      .hostMbpop 65536].all (fun i => !Instr.wf i) = true := by decide

/-- Each check of a command's operands refuses a term that breaks it alone (5 of 7). -/

theorem test_wf_commands_5 :
    [.hostCsAbort none [(0, { kind := 5 })], .commandAccept (.mgmt 8), .completionDeliver (.mgmt 8),
    .hubIdentify (.mgmt 8) 0, .hubIdentify .host 256, .hubStatusCmd (.mgmt 8) 0, .hubStatusCmd .host 256,
    .hubSleep (.mgmt 8) 0, .hubSleep .host 256, .hubWake (.mgmt 8) 0, .hubWake .host 256, .cmdNop (.mgmt 8) 0,
    .cmdNop .host 256, .cmdCancel (.mgmt 8) 0, .cmdCancel .host 256, .cfgOpen (.mgmt 8) 0, .cfgOpen .host 256,
    .cfgCheck (.mgmt 8) 0, .cfgCheck .host 256, .cfgApplyAt (.mgmt 8) 0, .cfgApplyAt .host 256, .cfgAbandon (.mgmt 8) 0,
    .cfgAbandon .host 256, .cfgImageLoad (.mgmt 8) 0 {}, .cfgImageLoad .host 256 {},
    .cfgImageLoad .host 0 { corr := [(13, 0)] }, .cfgImageLoad .host 0 { corr := [(0, 2 ^ 22)] },
    .cfgImageSave (.mgmt 8) 0 {}, .cfgImageSave .host 256 {}, .cfgImageSave .host 0 { corr := [(13, 0)] },
    .cfgImageSave .host 0 { corr := [(0, 2 ^ 22)] }, .chSetSensor (.mgmt 8) 0, .chSetSensor .host 256,
    .chSetRate (.mgmt 8) 0, .chSetRate .host 256, .chEnable (.mgmt 8) 0, .chEnable .host 256, .chAutorange (.mgmt 8) 0,
    .chAutorange .host 256, .chSpotRead (.mgmt 8) 0, .chSpotRead .host 256, .chLeadTest (.mgmt 8) 0, .chLeadTest .host 256,
    .shfRefEnable (.mgmt 8) 0, .shfRefEnable .host 256, .shfExcSet (.mgmt 8) 0, .shfExcSet .host 256,
    .fltLoadBank (.mgmt 8) 0, .fltLoadBank .host 256, .timeStatus (.mgmt 8) 0, .timeStatus .host 256, .timeStep (.mgmt 8) 0,
    .timeStep .host 256, .timeSetAsym (.mgmt 8) 0, .timeSetAsym .host 256].all (fun i => !Instr.wf i) = true := by decide

/-- Each check of a command's operands refuses a term that breaks it alone (6 of 7). -/

theorem test_wf_commands_6 :
    [.timeSchedule (.mgmt 8) 0, .timeSchedule .host 256, .acqArm (.mgmt 8) 0, .acqArm .host 256, .acqDisarm (.mgmt 8) 0,
    .acqDisarm .host 256, .acqForce (.mgmt 8) 0, .acqForce .host 256, .acqOffload (.mgmt 8) 0, .acqOffload .host 256,
    .gleanSet (.mgmt 8) 0, .gleanSet .host 256, .memAssign (.mgmt 8) 0, .memAssign .host 256, .memRead (.mgmt 8) 0 [],
    .memRead .host 256 [], .memRead .host 0 [(0, { kind := 5 })], .memWrite (.mgmt 8) 0 [], .memWrite .host 256 [],
    .memWrite .host 0 [(0, { kind := 5 })], .memTest (.mgmt 8) 0, .memTest .host 256, .linkStatus (.mgmt 8) 0,
    .linkStatus .host 256, .linkRoute (.mgmt 8) 0, .linkRoute .host 256, .linkPrbs (.mgmt 8) 0, .linkPrbs .host 256,
    .linkPrbsEnd 8, .streamSet (.mgmt 8) 0, .streamSet .host 256, .twinStatus (.mgmt 8) 0, .twinStatus .host 256,
    .twinSwapNow (.mgmt 8) 0, .twinSwapNow .host 256, .twinSetLease (.mgmt 8) 0, .twinSetLease .host 256,
    .bcnSet (.mgmt 8) 0, .bcnSet .host 256, .bcnSchedule (.mgmt 8) 0, .bcnSchedule .host 256, .bcnDiag (.mgmt 8) 0,
    .bcnDiag .host 256, .diagCounters (.mgmt 8) 0, .diagCounters .host 256, .diagBist (.mgmt 8) 0, .diagBist .host 256,
    .diagPerturb (.mgmt 8) 0, .diagPerturb .host 256, .bcnFlashOn 16 0, .bcnFlashOff 16 0, .bcnMeasure 16 0 0 true 0,
    .bcnDiagPulse 16 0, .bcnUntestedTimeout 16, .bcnDiagCmdGo (.mgmt 8) 0#32].all (fun i => !Instr.wf i) = true := by decide

/-- Each check of a command's operands refuses a term that breaks it alone (7 of 7). -/

theorem test_wf_commands_7 :
    [.bcnSchArm (.mgmt 8) 0, .bcnSchArm .host 16, .bcnSchDisarm (.mgmt 8) 0, .bcnSchDisarm .host 16,
    .pgPerturbWrite (.mgmt 8) 0 0#32, .pgPerturbWrite .host 0x40000 0#32, .pgPerturbWrite .host 2 0#32,
    .perturbCountExpire 0x40000, .perturbCountExpire 2, .laneSignalPresent 8, .outgoingShareEntry 16 0 0,
    .outgoingShareEntry 0 4 0, .timingPulseEnd 4 0, .orderedSetReceive 0 0 true [] 0,
    .orderedSetReceive 0 0 true [1024, 0, 0, 0] 0, .eqAcquisitionDone 0 0 [256] [], .prbsCheckerUnlock ⟨0, 4097, 0, 0⟩,
    .bcnAdjTestDone [⟨16, 0, 0, 0, 0⟩], .bcnAdjTestDone [⟨0, 3, 0, 0, 0⟩]].all (fun i => !Instr.wf i) = true := by decide

/-- With every operand in range a command is well-formed (1 of 4). -/

theorem test_wf_accepts_1 :
    [.milestoneTick ti, .dspPassLateStart, .dspPassEnd {} [], .safeEntry, .safeCauseCleared, .processorRestart,
    .completionHeldSend, .d2dTrained 0 0 [], .d2dWordError 0 ⟨0, 0, true⟩, .d2dLaneFail 0 0, .d2dUnrecoverableWord 0 [],
    .d2dTrimRemeasure 0 [], .powerOnReset .first, .porRelease ⟨true, true, 0, false⟩, .bootComplete true true {},
    .xosLoss none, .laneRailLoss true, .laneRailRestore, .fieldDieRailLoss 0, .fieldDieRailRestore 0, .dieChannelRestore 0,
    .lrefLoss, .plllRelock, .resetNAssert 0, .resetNRelease ⟨true, true, 0, false⟩, .trstNAssert, .sleepDrainDone,
    .sleepTimeout, .wakeChannelRestore, .registerWrite .host 0 0#32, .pgErrRead .host 0, .counterReadClear .host 0 0,
    .loHalfRead .host 0, .pgIrqClear .host 0 0#32 0#32, .pgModeWrite .host 0 true, .pgEnableWrite .host 0 true,
    .blockSoftReset .host 0, .cmtOpen .host, .cmtCheck .host, .checkComplete, .cmtArm .host, .armCheckComplete,
    .cmtDisarm .host, .cmtAbandon .host, .finalCheck, .commitApply, .sessionTimeout, .eventPacketSend, .eventRepeat,
    .peakTripUprange 0 true 0, .downrangeCount 0 0, .clipDetect 0 true 0, .windowComparatorTrip 0 true true 0,
    .windowReturn 0 0, .leadDetectorConfirm 0 .compliance 0, .leadDetectorInactive 0 .compliance 0, .leadRetestTimer 0,
    .shfLtOpens .host 0 true 0, .shfLtShorts .host ⟨0, true, 0⟩, .ltPeriodicDue 0, .leadTestComplete 0 ⟨[], [], false⟩,
    .modulatorStart 0 0, .modulatorFault 0 0, .modulatorFaultClear 0,
      .senseExcursion 0 0 true 0].all Instr.wf = true := by decide

/-- With every operand in range a command is well-formed (2 of 4). -/

theorem test_wf_accepts_2 :
    [.holdReturnShare 0 0 0, .excIlimChange 0 0 true 0, .excHeadroomChange 0 0 true 0, .excLoadCollapse 0 0 0 0,
    .excRampComplete 0 0 0, .currentSourceExchange 0 0, .refReadySet 0 0, .refMonitorTrip 0 0, .refFaultClear 0 0,
    .auxConversionDone 0 0 0 [], .auxSysPassDue 0, .auxCjcDue 0, .auxSlotGo .host 0, .auxSlotRepeat 0,
    .auxResultRead .host 0, .fltCdataWrite .host 0 0#32, .fltCdataRead .host 0, .fltCsealWrite .host 0 0#32,
    .bankSealResult 0, .timeOsReceive 0 0 0, .timePacketReceive 0 tp 0, .timeStampDiscard 0, .timebaseStep ti,
    .timebaseLock, .timebaseUnlock, .holdoverEntry 0, .holdoverBoundCross 0, .sourceChange, .dlyJump 0, .tmbSnapGo .host,
    .rootTodValid .host 0#32, .ppsInEdge 0, .ppsMissing 0, .tmbEvtArm .host 0#32, .tmbEvtDisarm .host 0#32,
    .scheduledEventFire 0 0, .trigInEdge 0 ⟨0, 0, 0⟩, .linIdataAccess .host none, .linCopyGo .host, .linCopyDone,
    .linTsealWrite .host 0 0#32, .tableSealResult 0, .acqForceGo .host 0, .trigPacketReceive 0 0 gp 0, .cpArm .host 0,
    .cpDisarm .host 0, .cpRelease .host 0, .cpOffload .host 0, .offloadDone 0 [], .queFlushStook .host 0,
    .stookFlushEffect 0, .queFlushWord .host 0, .queRwdGo .host, .arcGo .host 0#32, .arcCancel .host, .arcJobEnd 0 {},
    .dcmpGo .host 0#32, .dcmpCancel .host, .dcmpJobEnd 0 {}, .losPinAssert 0 0, .losIntAssert 0 0, .cdrLol 0 0,
    .alignmentLoss 0 ⟨[], 0⟩, .laneAlign 0 [], .orderedSetReceive 0 0 true [0, 0, 0, 0] 0].all Instr.wf = true := by decide

/-- With every operand in range a command is well-formed (3 of 4). -/

theorem test_wf_accepts_3 :
    [.laneUp 0 0, .rateStepSwitch ⟨0, 0⟩, .rateStepTimeout 0 0, .failmaskExpire 0 0, .lnClrfail .host 0,
    .eqAcquisitionDone 0 0 [] [], .laneDegrade 0, .laneRecover 0, .laneDwellExpire 0 0, .prbsCheckerLock ⟨0, []⟩,
    .prbsCheckerUnlock ⟨0, 0, 0, 0⟩, .prbsInject .host 0, .prbsChkEnable .host 0, .stookPacketReceive 0 { ty := 2 },
    .mgmtCommandReceive 0 { ty := 2 }, .mgmtRegRead 0 { ty := 2 } [], .mgmtRegWrite 0 { ty := 2 } [],
    .mgmtReservedDiscard 0 { ty := 2 }, .leasePacketReceive 0 lm 0, .ackReceive 0 ls, .nakReceive 0 ls,
    .idlePacketReceive 0 ls, .packetCrcDiscard 0 true, .sequencedPacketAccept 0 { ty := 2 } [], .ackTimer 0, .nakRepeat 0,
    .retxTimeout 0 0, .keepaliveLoss 0 0, .packetTransmit 0 0 [], .tokenClaim 0, .tokenRelease 0, .swapAnnounce,
    .roleSwap 0, .twnSwapReq .host, .twnResyncReq .host, .twnAbort .host, .resyncPhaseAdvance, .resyncFail, .resyncRetry,
    .confSoloClear, .memBankCfgWrite .host 0 0#32, .memWindowRead .host {}, .memWindowWrite .host 0#32 0#32 {},
    .scrubStep [], .memRepairGo .host 0#32, .memTestGo .host 0#32, .memTestDone 0 0 0, .hostRd 0#32 [], .hostWr 0#32 [] [],
    .hostRdsr, .hostMbpush [], .hostMbpop 0, .hostSetgen 0#8, .hostRstgen, .hostUnknownInstr ⟨0#8, 0#8⟩, .hostCsAbort none [],
    .commandAccept .host, .completionDeliver .host, .hubIdentify .host 0, .hubStatusCmd .host 0, .hubSleep .host 0,
    .hubWake .host 0, .cmdNop .host 0, .cmdCancel .host 0, .cfgOpen .host 0].all Instr.wf = true := by decide

/-- With every operand in range a command is well-formed (4 of 4). -/

theorem test_wf_accepts_4 :
    [.cfgCheck .host 0, .cfgApplyAt .host 0, .cfgAbandon .host 0, .cfgImageLoad .host 0 {}, .cfgImageSave .host 0 {},
    .chSetSensor .host 0, .chSetRate .host 0, .chEnable .host 0, .chAutorange .host 0, .chSpotRead .host 0,
    .chLeadTest .host 0, .shfRefEnable .host 0, .shfExcSet .host 0, .fltLoadBank .host 0, .timeStatus .host 0,
    .timeStep .host 0, .timeSetAsym .host 0, .timeSchedule .host 0, .acqArm .host 0, .acqDisarm .host 0, .acqForce .host 0,
    .acqOffload .host 0, .gleanSet .host 0, .memAssign .host 0, .memRead .host 0 [], .memWrite .host 0 [], .memTest .host 0,
    .linkStatus .host 0, .linkRoute .host 0, .linkPrbs .host 0, .linkPrbsEnd 0, .streamSet .host 0, .twinStatus .host 0,
    .twinSwapNow .host 0, .twinSetLease .host 0, .bcnSet .host 0, .bcnSchedule .host 0, .bcnDiag .host 0,
    .diagCounters .host 0, .diagBist .host 0, .diagPerturb .host 0, .bistDone true 0, .bcnFlashOn 0 0, .bcnFlashOff 0 0,
    .bcnMeasure 0 0 0 true 0, .bcnDiagPulse 0 0, .bcnOvpTrip, .bcnOvpRelease, .bcnUntestedTimeout 0,
    .bcnDiagCmdGo .host 0#32, .bcnAdjTestDone [], .bcnSchArm .host 0, .bcnSchDisarm .host 0, .bchShiftStart 0,
    .bchShiftDone 0, .tstLockWrite 0 none, .tstUnlockExpire, .pgPerturbWrite .host 0 0#32, .perturbCountExpire 0,
    .jtagInstruction .bypass, .coreRailPresent, .xosRestored, .laneSignalPresent 0, .outgoingShareEntry 0 0 0,
    .timingPulseEnd 0 0].all Instr.wf = true := by decide

/-! ### Worked examples and tables of the manual -/

/-- The state a step answers, and the given one where it answers none. -/
def after (o : Host.Outcome State Fault Refusal) : State := match o with
  | .next t => t
  | _ => base

/-- Chapter 13, one thermocouple block: four words of 0x1F_4000, 0x1F_4003,
  0x1F_4005 and 0x1F_4004 code as 0D 00 00 40 1F 67 04. -/
theorem test_winnow_block :
    (winnowBlock [0x1F400000#32, 0x1F400300#32, 0x1F400500#32, 0x1F400400#32]).1 =
      [0x0D#8, 0x00#8, 0x00#8, 0x40#8, 0x1F#8, 0x67#8, 0x04#8] := by decide +kernel

/-- R270, chapter 12: the third QRESYNC word of a queue, made by a word flush, reads 0x0003_0001_0001_000F. -/
theorem test_qresync_word : resyncBytes 1 3 = leBytes 8 0x000300010001000F := by decide

/-- Chapter 5, an open thermocouple: CH_STATUS of the confirmed channel reads 0x0000_0643. -/
theorem test_ch_status_open :
    chStatus (cx 37 { st := .run, lead := .confirmed, leadSrc := 4, cmwP := true } base) 37 = 0x643 := by decide

/-- Chapter 4, a refused budget: CMT_RESULT reads 0x0001_0705 (CURRENT, CHECK 7, BUDGET). -/
theorem test_cmt_result_budget :
    (readReg .host 0x2058 {} { base with cmt := { res := { status := 5, check := 7, current := true } } }).1 = 0x00010705#32 := by decide

/-- Chapter 9, a hub joining a locked chain: TMB_STATE reads 0x0031_0002. -/
theorem test_tmb_state_locked :
    (readReg .host 0x3044 {} (tm (fun x => { x with
      st := .locked, ser := 1, src := some 0, hopsLive := true, lanes := [(0,
        { peerHops := 2 })] }) base)).1 = 0x00310002#32 := by decide

/-- R221: TMB_STATE reads its reset value 0x0000_F000 and TMB_HOBOUND 0 before the first tick. -/
theorem test_tmb_state_reset :
    ((readReg .host 0x3044 {} base).1, (readReg .host 0x308C {} base).1) = (0x0000F000#32, 0#32) := by decide

/-- R60: a trim is measured again 2^20 frames after the last measurement, not before. -/
theorem test_trim_period :
    let d : State := modDie 3 (fun x => { x with trained := true, trim := [5] }) base
    ((die (after (exec (.d2dTrimRemeasure 3 [9]) { d with ord := 1048576 })) 3).trimTo,
      (die (after (exec (.d2dTrimRemeasure 3 [9]) { d with ord := 1048575 })) 3).trimTo) = ([9], []) := by decide

/-- R216: a high time of 19 ns is no trigger edge, one of 21 ns is. -/
theorem test_trig_in_width :
    let s : State := sr 0x30B0 1#32 base
    (tget none (after (exec (.trigInEdge 0 ⟨512, 9999, 1912⟩) s)).tmb.trigLast 0,
      tget none (after (exec (.trigInEdge 0 ⟨512, 9999, 2114⟩) s)).tmb.trigLast 0) = (none, some 512) := by decide +kernel

/-- Chapter 10: a held cold junction on channel 37 reads 0x0000_8025 in LIN_CJC_STAT. -/
theorem test_cjc_stat_held :
    cjcStat { cx 37 { st := .run } base with taps := [(37, { cjcHeld := true })], lin := { mem := [(148, 0x2884#32)] } } = 0x8025 := by
  decide +kernel

/-- Chapter 17, watching a live capture: a host read that runs later than an owner's write sets MEM_HSTAT BUSY and MEM_COLL
0x2003_E828. -/
theorem test_mem_collision :
    let t := after (exec (.memWindowRead .host { kind := 2 }) (sr 0xA0D0 0x0003E828#32 (sr (bankCfgA 0) 0x101#32 (exp .mem 0 base))))
    ((readReg .host 0xA0DC {} t).1, (readReg .host 0xA0E0 {} t).1) = (0x00000001#32, 0x2003E828#32) := by decide +kernel

/-- Chapter 19, an open string: BCN_S2_MON reads 0x0400_0578 and BCN_BST_STATUS 0x0000_0E60. -/
theorem test_bcn_open_string :
    (bstrMon (bs 2 { diag := 1, hd := some 1400 } base) 2, bstStatus { base with bcn := { vset := 36800, needy := 0 } }) =
      (0x04000578, 0x0E60) := by decide

/-- Chapter 18, a sheaf of thermocouples: HST_STATUS reads 0x00FF_0005 (INFREE saturated, GEN quad, READY). -/
theorem test_hst_status : hstStatus { base with hst := { base.hst with gen := 1 } } = 0x00FF0005 := by decide +kernel

/-- Chapter 18: the buffer of tag 0x20 stages CH_CFG 0x0000_0850, CH_LEAD 0x0000_000F and CH_CURR 0x0000_0100 of CH064. -/
theorem test_ch_set_sensor_example :
    let b : List Nat := [0x40, 0x00, 0x04, 0x01, 0x00, 0x00, 0x00, 0x00, 0, 0, 0, 0, 0, 0, 0, 0, 0x00, 0x00, 0x00, 0x00,
      0x50, 0x08, 0x00, 0x00, 0x0F, 0x00, 0x00, 0x00, 0x00, 0x01, 0x00, 0x00]
    let t := after (exec (.chSetSensor .host 1) (fly 0x0200 b (own base)))
    (stg t (chCfgA 64), stg t (chLeadA 64), stg t (chCurrA 64)) = (0x00000850#32, 0x0000000F#32,
      0x00000100#32) := by decide +kernel

/-- R57, R63: loss of VDD_IO and a RESET_N pulse name themselves in CLK_RST_CAUSE. -/
theorem test_reset_causes :
    ((readReg .host 0x1044 {} (after (exec (.powerOnReset .vddIo) base))).1,
      (readReg .host 0x1044 {} (after (exec (.resetNAssert 500) base))).1) = (0x11#32, 0xF4#32) := by decide +kernel

/-- R63: RESET_N low below 0.3 us is no reset. -/
theorem test_reset_glitch : exec (.resetNAssert 299) base = .next base := rfl

/-- R86: OPEN by the host port makes owner 3, and a second OPEN is BUSY. -/
theorem test_session_owner :
    let t := after (exec (.cmtOpen .host) base)
    ((t.cmt.st, ownerCode t.cmt.owner, t.cmt.serial), rg (after (exec (.cmtOpen (.mgmt 0)) t)) 0x2018) =
      ((.open_, 3, 1), 0x01000000#32) := by decide +kernel

/-- R423: 0x0000_7E57 and then 0x0000_81A8 unlock; the other order does not. -/
theorem test_lock_order :
    let s : State := { base with jtag := { instr := .tstacc } }
    ((after (exec (.tstLockWrite 0x40 (some 0x81A8#32)) (after (exec (.tstLockWrite 0x40 (some 0x7E57#32)) s)))).tst.unlocked.isSome,
      (after (exec (.tstLockWrite 0x40 (some 0x7E57#32)) (after (exec (.tstLockWrite 0x40 (some 0x81A8#32)) s)))).tst.unlocked.isSome) =
      (true, false) := by decide +kernel

/-- R395: CH_ENABLE with overlapping SET and CLEAR ends with BAD_PARAM (0x02). -/
theorem test_ch_enable_overlap :
    (after (exec (.chEnable .host 1) (fly 0x0202 [0, 0, 0, 0, 3, 0, 0, 0, 2, 0, 0,
      0] (own base)))).compl.map (·.status) = [2] := by
  decide +kernel

/-- R17: a tick raises the frame index by one. -/
theorem test_tick_frame :
    (after (exec (.milestoneTick ti) base)).frame = 1 := by decide +kernel

/-- A step of an empty queue passes one CORE cycle (log entry 3); with a command in front it runs it. -/
theorem test_step_front :
    ((after (step base)).c, (after (step { base with pending := [.resetNAssert 299] })).c) = (1, 0) := by decide +kernel

/-- RFC 1951, fixed codes: the letter a (0x61) is the code 10010001, the end of block 0000000,
  after the header bits 1 and 01. -/
theorem test_inflate_fixed : inflate [0x4B#8, 0x04#8, 0x00#8] = some [0x61#8] := by decide +kernel

/-- RFC 1951: a stored block of one byte; a wrong complement of its length is malformed. -/
theorem test_inflate_stored :
    (inflate [0x01#8, 0x01#8, 0x00#8, 0xFE#8, 0xFF#8, 0x55#8], inflate [0x01#8, 0x01#8, 0x00#8, 0xFF#8, 0xFF#8, 0x55#8]) =
      (some [0x55#8], none) := by decide +kernel

/-- IEEE 802.3 clause 36: K28.5 is 001111 1010 or 110000 0101, D0.0 at negative disparity 100111 0100,
  D21.5 101010 1010 at both. -/
theorem test_code_8b10b :
    (encComma false, encComma true, encD false 0x00, encD false 0xB5, encD true 0xB5) =
      ((0b0101111100, true), (0b1010000011, false), (0b0010111001, false), (0b0101010101, false), (0b0101010101,
        true)) := by decide

/-- R305: four symbols of a coded set decode to their characters; at the other disparity they are no set. -/
theorem test_ordered_set_code :
    (decSet false (encSet false [1, 0, 2]), decSet true (encSet false [1, 0, 2])) = (some [1, 0, 2], none) := by decide +kernel

/-! ### Witnesses: a state and operands that meet the hypotheses of each clause of each statement -/
theorem test_StepRunsTheFrontCommand_hyps :
  (∃ (s : State), s.pending = [] ∧ s.pwr.phase ≠ .por) ∧
  (∃ (s : State), s.pending = [] ∧ s.pwr.phase = .por) :=
  ⟨⟨base, by decide, by decide⟩,
   ⟨{ base with pwr := { phase := .por } }, by decide, by decide⟩⟩

theorem test_UnmappedAccess_hyps :
  (∃ (a : Nat), (pageAt a = none ∨ 0x800 ≤ a % 0x1000 ∧ a % 0x1000 < 0x840)) ∧
  (∃ (aw : Word) (a : Nat) (s : State), hostUp s = true ∧ hostPath s = true ∧ burstOf aw = some (1, a) ∧ (pageAt a = none ∨
    0x800 ≤ a % 0x1000 ∧ a % 0x1000 < 0x840)) ∧
  (∃ (a : Nat), (pageAt a = none ∨ 0x800 ≤ a % 0x1000)) ∧
  (∃ (aw : Word) (a : Nat) (s : State), hostUp s = true ∧ hostPath s = true ∧ burstOf aw = some (1, a) ∧ (pageAt a = none ∨
    0x800 ≤ a % 0x1000)) ∧
  (∃ (a : Nat), a % 4 ≠ 0) :=
  ⟨⟨0x17800, by decide⟩,
   ⟨0x83C#32, 0x83C, base, by decide, by decide, by decide, by decide⟩,
   ⟨0x40000, by decide⟩,
   ⟨0x17FFC#32, 0x17FFC, base, by decide, by decide, by decide, by decide⟩,
   ⟨0x3061, by decide⟩⟩

theorem test_FirstErrorKept_hyps :
  (∃ (k : PageK) (i : Nat) (s : State), rg s (pgErr k i) = 0) ∧
  (∃ (k : PageK) (i : Nat) (s : State), rg s (pgErr k i) ≠ 0) ∧
  (∃ (a : Nat) (i : Nat) (k : PageK) (s : State), running s = true ∧ pageAt a = some (k, i)) ∧
  (∃ (a : Nat) (i : Nat) (k : PageK) (s : State), running s = true ∧ pageAt a = some (k, i)) :=
  ⟨⟨.flt, 15, base, by decide⟩,
   ⟨.flt, 15, (sr (pgErr .flt 15) 5#32 base), by decide⟩,
   ⟨0x3FFFF, 15, .flt, (sr (pgErr .flt 15) 5#32 base), by decide, by decide⟩,
   ⟨0x3FFFF, 15, .flt, (sr (pgErr .flt 15) 5#32 base), by decide, by decide⟩⟩

theorem test_PerturbLock_hyps :
  (∃ (p : Path) (a : Nat) (i : Nat) (k : PageK) (s : State), pathOn s p = true ∧ pageAt a = some (k, i) ∧ a % 0x1000 = 0x1C ∧
    s.tst.unlocked = none) ∧
  (∃ (a : Nat) (i : Nat) (k : PageK) (s : State), running s = true ∧ pageAt a = some (k, i) ∧ s.tst.unlocked = none) ∧
  (∃ (p : Path) (tag : Nat) (i : Nat) (k : PageK) (f : Flight) (s : State), IsNext p tag 0x0902 f s ∧ f.buf.length = 8 ∧
    pageOfBase (par f 0 4) = some (k, i) ∧ s.tst.unlocked = none) ∧
  (∃ (p : Path) (a : Nat) (i : Nat) (k : PageK) (w : Word) (s : State), pathOn s p = true ∧ pageAt a = some (k, i) ∧
    a % 0x1000 = 0x1C ∧ s.tst.unlocked.isSome = true ∧ pertKnown k (fld w 0 4) (fld w 4 12) = true) ∧
  (∃ (p : Path) (tag : Nat) (i : Nat) (k : PageK) (f : Flight) (s : State), IsNext p tag 0x0902 f s ∧ f.buf.length = 8 ∧
    pageOfBase (par f 0 4) = some (k, i) ∧ s.tst.unlocked.isSome = true ∧
    pertKnown k (fld (word (par f 4 4)) 0 4) (fld (word (par f 4 4)) 4 12) = true) :=
  ⟨⟨.host, 0x3F01C, 15, .flt, base, by decide, by decide, by decide, by decide⟩,
   ⟨0x3F01C, 15, .flt, base, by decide, by decide, by decide⟩,
   ⟨.host, 1, 15, .flt, (mf 0x902 [0, 0xF0, 3, 0, 0, 0, 0xFF, 0xFF]), (fly 0x902 [0, 0xF0, 3, 0, 0, 0, 0xFF, 0xFF] base),
     ⟨by decide, by decide⟩, by decide, by decide, by decide⟩,
   ⟨(.mgmt 2), 0x1C, 0, .hub, 0x51#32, { base with tst := { unlocked := some 0 } }, by decide, by decide, by decide, by decide,
     by decide⟩,
   ⟨.host, 1, 15, .flt, (mf 0x902 [0, 0xF0, 3, 0, 0, 0, 0xFF, 0xFF]), (fly 0x902 [0, 0xF0, 3, 0, 0, 0, 0xFF,
     0xFF] { base with tst := { unlocked := some 0 } }), ⟨by decide, by decide⟩, by decide, by decide, by decide, by decide⟩⟩

theorem test_RegisterWrites_hyps :
  (∃ (p : Path) (a : Nat) (i : Nat) (k : PageK) (s : State), pathOn s p = true ∧ pageAt a = some (k, i) ∧ a ∈ [0x2048, 0x2050,
    0x2054, 0x2078, 0x3048, 0x304C, 0x3090, 0x30A0, 0x30A8, 0x30B0, 0x3104, 0x31E4] ∧ directOk s k i = true) ∧
  (∃ (p : Path) (a : Nat) (s : State), pathOn s p = true ∧ a % 4 = 0 ∧ 0x40 ≤ a ∧ a < 0x800) ∧
  (∃ (p : Path) (a : Nat) (i : Nat) (k : PageK) (s : State), pathOn s p = true ∧ pageAt a = some (k, i) ∧ a % 4 = 0 ∧
    0x40 ≤ a % 0x1000 ∧ a % 0x1000 < 0x800 ∧ k ∈ [.clk, .rte, .gln] ∧ expert s k i = true ∧ rwMask a = 0 ∧ w1cMask a = 0 ∧
    stMask a ≠ 0 ∧ s.cmt.st = .open_ ∧ s.cmt.owner = ownerDirect p) ∧
  (∃ (p : Path) (a : Nat) (i : Nat) (k : PageK) (s : State), pathOn s p = true ∧ pageAt a = some (k, i) ∧ a % 4 = 0 ∧
    0x40 ≤ a % 0x1000 ∧ a % 0x1000 < 0x800 ∧ modeFixed k = false ∧ expert s k i = false) ∧
  (∃ (a : Nat), (pageAt a = none ∨ 0x800 ≤ a % 0x1000)) :=
  ⟨⟨.host, 0x31E4, 0, .tmb, (exp .tmb 0 base), by decide, by decide, by decide, by decide⟩,
   ⟨(.mgmt 3), 0x108, base, by decide, by decide, by decide, by decide⟩,
   ⟨.host, 0x104C, 0, .clk, (exp .clk 0 { base with cmt := { st := .open_, owner := .hostDirect, idle := 5 } }), by decide,
     by decide, by decide, by decide, by decide, by decide, by decide, by decide, by decide, by decide, by decide, by decide⟩,
   ⟨.host, 0x3040, 0, .tmb, base, by decide, by decide, by decide, by decide, by decide, by decide, by decide⟩,
   ⟨0x3840, by decide⟩⟩

theorem test_ReadEffects_hyps :
  (∃ (a : Nat) (i : Nat) (k : PageK) (s : State), running s = true ∧ pageAt a = some (k, i)) ∧
  (∃ (a : Nat) (s : State), running s = true ∧ (pageAt a).isSome = true ∧ a % 4 = 0 ∧ 0x20 ≤ a % 0x1000 ∧ a % 0x1000 < 0x40) ∧
  (∃ (a : Nat) (i : Nat) (k : PageK) (s : State), running s = true ∧ pageAt a = some (k, i) ∧ k ∈ [.lnk, .que] ∧
    isRc a = true ∧ a % 4 = 0 ∧ 0x40 ≤ a % 0x1000) ∧
  (∃ (a : Nat) (g : Nat) (s : State), running s = true ∧ chMonAt a = some g ∧ a % 4 = 0) ∧
  (∃ (a : Nat) (s : State), running s = true ∧ isLo a = true ∧ a % 4 = 0 ∧ a ≠ 0xA0D4) ∧
  (∃ (s : State), running s = true) :=
  ⟨⟨0x3FFFF, 15, .flt, (sr (pgErr .flt 15) 5#32 base), by decide, by decide⟩,
   ⟨0x3F03C, (sr 0x3F03C 9#32 base), by decide, by decide, by decide, by decide, by decide⟩,
   ⟨0xB7F8, 0, .que, (sr 0xB7F8 9#32 base), by decide, by decide, by decide, by decide, by decide, by decide⟩,
   ⟨0x2F7F4, 511, (cx 511 { upCnt := 5, dnCnt := 255, clipCnt := 9, gain := 3 } base), by decide, by decide, by decide⟩,
   ⟨0x3064, base, by decide, by decide, by decide, by decide⟩,
   ⟨(exp .mem 0 base), by decide⟩⟩

theorem test_PageHeader_hyps :
  (∃ (p : Path) (a : Nat) (i : Nat) (k : PageK) (s : State), pathOn s p = true ∧ pageAt a = some (k, i)) ∧
  (∃ (p : Path) (a : Nat) (i : Nat) (k : PageK) (s : State), pathOn s p = true ∧ pageAt a = some (k, i) ∧ modeFixed k = false ∧
    s.cmt.st = .closed) ∧
  (∃ (p : Path) (a : Nat) (i : Nat) (k : PageK) (m : Bool) (s : State), pathOn s p = true ∧ pageAt a = some (k, i) ∧
    modeFixed k = false ∧ s.cmt.st ≠ .closed ∧ expert s k i ≠ m) ∧
  (∃ (p : Path) (a : Nat) (i : Nat) (k : PageK) (en : Bool) (s : State), pathOn s p = true ∧ pageAt a = some (k, i) ∧
    enFixed k = false ∧ expert s k i = true ∧ (en = true ∨ pageIdle s k i = true)) ∧
  (∃ (p : Path) (a : Nat) (i : Nat) (k : PageK) (en : Bool) (s : State), pathOn s p = true ∧ pageAt a = some (k, i) ∧
    enFixed k = false ∧ expert s k i = false ∧ pageEn s k i ≠ en) ∧
  (∃ (p : Path) (a : Nat) (i : Nat) (k : PageK) (s : State), pathOn s p = true ∧ pageAt a = some (k, i) ∧ s.cmt.st = .closed ∧
    expert s k i = true ∧ pageIdle s k i = true ∧ k ∈ [.tmb, .twn, .bcn, .aux, .acq, .gln, .que, .cmp, .lin, .flt]) ∧
  (∃ (p : Path) (a : Nat) (i : Nat) (k : PageK) (s : State), pathOn s p = true ∧ pageAt a = some (k, i) ∧ s.cmt.st ≠ .closed) ∧
  (∃ (p : Path) (a : Nat) (i : Nat) (s : State), pathOn s p = true ∧ pageAt a = some (.shf, i) ∧ s.cmt.st = .closed ∧
    expert s .shf i = true ∧ pageIdle s .shf i = true) :=
  ⟨⟨.host, 0x3010, 0, .tmb, (sr 0x3010 7#32 base), by decide, by decide⟩,
   ⟨.host, 0x3000, 0, .tmb, base, by decide, by decide, by decide, by decide⟩,
   ⟨.host, 0x3000, 0, .tmb, true, { base with cmt := { st := .open_ } }, by decide, by decide, by decide, by decide, by decide⟩,
   ⟨.host, 0x8000, 0, .bcn, false, (exp .bcn 0 base), by decide, by decide, by decide, by decide, by decide⟩,
   ⟨.host, 0x8000, 0, .bcn, false, (sr 0x8008 1#32 base), by decide, by decide, by decide, by decide, by decide⟩,
   ⟨.host, 0xD000, 0, .acq, (exp .acq 0 (sr 0xD150 8#32 { base with staged := [(0xD200, 3)] })), by decide, by decide,
     by decide, by decide, by decide, by decide⟩,
   ⟨.host, 0x3000, 0, .tmb, { base with cmt := { st := .open_ } }, by decide, by decide, by decide⟩,
   ⟨.host, 0x2F000, 15, (exp .shf 15 (cx 511 { upCnt := 5, dnCnt := 4 } base)), by decide, by decide, by decide, by decide,
     by decide⟩⟩

theorem test_SessionActions_hyps :
  (∃ (s : State), running s = true ∧ s.cmt.st = .closed ∧ s.hub.st ≠ .resync) ∧
  (∃ (s : State), running s = true ∧ s.cmt.st ≠ .closed ∧ s.hub.st ≠ .resync) ∧
  (∃ (p : Path) (s : State), running s = true ∧ s.cmt.st = .open_ ∧ s.cmt.owner = ownerDirect p) ∧
  (∃ (n : Nat) (s : State), n < 4 ∧ excUsed s n = true ∧ auxAvail s n = true) ∧
  (∃ (n : Nat) (s : State), n < 4 ∧ auxAvail s n = false) ∧
  (∃ (p : Path) (s : State), running s = true ∧ s.cmt.owner ≠ ownerDirect p) ∧
  (∃ (p : Path) (s : State), running s = true ∧ s.cmt.st = .open_ ∧ s.cmt.owner = ownerDirect p) ∧
  (∃ (p : Path) (s : State), running s = true ∧ s.cmt.st = .armed ∧ s.cmt.owner = ownerDirect p ∧
    s.frame + 1 < s.cmt.applyFrame) ∧
  (∃ (p : Path) (s : State), running s = true ∧ s.cmt.st = .armed ∧ s.cmt.owner = ownerDirect p ∧
    s.cmt.applyFrame ≤ s.frame + 1) ∧
  (∃ (p : Path) (s : State), running s = true ∧ s.cmt.owner = ownerDirect p ∧ (s.cmt.st = .open_ ∨ s.cmt.st = .armed ∧
    s.frame + 1 < s.cmt.applyFrame)) :=
  ⟨⟨{ base with staged := [(0x7040, 5)], cmt := { serial := 65535 } }, by decide, by decide, by decide⟩,
   ⟨(own base), by decide, by decide, by decide⟩,
   ⟨.host, { base with cmt := { st := .open_, owner := .hostDirect, idle := 9 } }, by decide, by decide, by decide⟩,
   ⟨3, (ex 63 { mode := .regulate } (dy 3 base)), by decide, by decide, by decide⟩,
   ⟨3, (ex 63 { mode := .regulate } base), by decide, by decide⟩,
   ⟨.host, (own base), by decide, by decide⟩,
   ⟨.host, (sr 0x2050 9#32 { base with cmt := { st := .open_, owner := .hostDirect, idle := 9 } }), by decide, by decide,
     by decide⟩,
   ⟨.host, { base with cmt := { st := .armed, owner := .hostDirect, applyFrame := base.frame + 2, idle := 9 } }, by decide,
     by decide, by decide, by decide⟩,
   ⟨.host, { base with cmt := { st := .armed, owner := .hostDirect, applyFrame := base.frame + 1, idle := 9 } }, by decide,
     by decide, by decide, by decide⟩,
   ⟨.host, { base with cmt := { st := .armed, owner := .hostDirect, applyFrame := base.frame + 2, epoch := 4 }, staged := [(0x7040, 5)] }, by decide, by decide, by decide⟩⟩

theorem test_ChecksAndApplies_hyps :
  (∃ (s : State), running s = true ∧ s.cmt.st = .checking ∧ s.cmt.arming = false ∧ vexcIn s = true) ∧
  (∃ (s : State), vexcIn s = false) ∧
  (∃ (s : State), running s = true ∧ s.cmt.st = .checking ∧ s.cmt.arming = true ∧ vexcIn s = true ∧
    (checkRun (armPre s) s).cmt.res.status = stOk) ∧
  (∃ (s : State), running s = true ∧ s.cmt.st = .checking ∧ s.cmt.arming = true ∧ vexcIn s = true ∧ s.flight = [] ∧
    s.hub.st ≠ .resync ∧ (checkRun (armPre s) s).cmt.res.status ≠ stOk) ∧
  (∃ (s : State), running s = true ∧ s.cmt.st = .armed ∧ s.cmt.finalOk = false ∧ s.frame + 1 = s.cmt.applyFrame ∧
    finalRun s = none) ∧
  (∃ (n : Nat) (v : Viol) (s : State), running s = true ∧ s.cmt.st = .armed ∧ s.cmt.finalOk = false ∧
    s.frame + 1 = s.cmt.applyFrame ∧ finalRun s = some (n, v) ∧ s.flight = [] ∧ s.hub.st ≠ .resync) ∧
  (∃ (s : State), running s = true ∧ (s.cmt.st = .open_ ∨ s.cmt.st = .checking) ∧ af s 0x2078 0 8 ≠ 0 ∧
    af s 0x2078 0 8 * 1024 ≤ s.cmt.idle) ∧
  (∃ (s : State), running s = true ∧ s.cmt.st = .armed ∧ s.cmt.finalOk = true ∧ s.frame = s.cmt.applyFrame ∧
    s.cmt.imageEpoch = none ∧ s.flight = [] ∧ s.staged = []) ∧
  (∃ (a : Nat) (w : Word) (s : State), running s = true ∧ s.cmt.st = .armed ∧ s.cmt.finalOk = true ∧
    s.frame = s.cmt.applyFrame ∧ s.flight = [] ∧ s.staged = [(a, w)] ∧ pageAt a = some (.twn, 0) ∧ stMask a ≠ 0) ∧
  (∃ (a : Nat) (w : Word) (s : State), running s = true ∧ s.cmt.st = .armed ∧ s.cmt.finalOk = true ∧
    s.frame = s.cmt.applyFrame ∧ s.flight = [] ∧ s.staged = [(a, w)] ∧ dspGoverned a = true) :=
  ⟨⟨{ base with cmt := { st := .checking, owner := .hostDirect } }, by decide, by decide, by decide, by decide⟩,
   ⟨(ax 3 { run := some ⟨.vexc, 0⟩ } { base with cmt := { st := .checking, owner := .hostDirect } }), by decide⟩,
   ⟨{ base with cmt := { st := .checking, arming := true, owner := .hostDirect, applyFrame := base.frame + 2 } }, by decide,
     by decide, by decide, by decide, by decide +kernel⟩,
   ⟨{ base with flight := [], cmt := { st := .checking, arming := true, owner := .hostDirect, applyFrame := base.frame + 1 } },
     by decide, by decide, by decide, by decide, by decide, by decide, by decide⟩,
   ⟨{ base with cmt := { st := .armed, owner := .hostDirect, applyFrame := base.frame + 1 } }, by decide, by decide, by decide,
     by decide, by decide +kernel⟩,
   ⟨0, { a := 0x2048, b := 0, st := 0x0D },
     (sr 0x2048 1#32 { base with flight := [], cmt := { st := .armed, owner := .hostDirect, applyFrame := base.frame + 1 } }),
     by decide, by decide, by decide, by decide, by decide, by decide, by decide⟩,
   ⟨(sr 0x2078 1#32 { base with cmt := { st := .checking, owner := .hostDirect, idle := 1024 } }), by decide, by decide,
     by decide, by decide⟩,
   ⟨{ base with flight := [], cmt := { st := .armed, finalOk := true, owner := .hostDirect, applyFrame := base.frame } },
     by decide, by decide, by decide, by decide, by decide, by decide, by decide⟩,
   ⟨0x7040, 0x305#32,
     { base with flight := [], cmt := { st := .armed, finalOk := true, owner := .hostDirect, applyFrame := base.frame }, staged := [(0x7040, 0x305)] }, by decide, by decide, by decide, by decide, by decide, by decide, by decide, by decide⟩,
   ⟨(chCfgA 5), 1#32,
     { base with flight := [], cmt := { st := .armed, finalOk := true, owner := .hostDirect, applyFrame := base.frame }, staged := [(chCfgA 5, 1)] }, by decide, by decide, by decide, by decide, by decide, by decide, by decide⟩⟩

theorem test_TicksAndPasses_hyps :
  (∃ (s : State), running s = true ∧ stepDue s = false ∧ s.cmt.st ≠ .armed) ∧
  (∃ (i : TickIn) (s : State), running s = true ∧ stepDue s = false ∧ s.cmt.st ≠ .armed ∧ s.tst.pert = [] ∧ s.tst.due = [] ∧
    2 ≤ popc 3 (i.votes % 8)) ∧
  (∃ (s : State), running s = true ∧ stepDue s = false ∧ s.cmt.st ≠ .armed ∧ s.pwr.sleep = .awake ∧ s.dsp.run = none ∧
    s.dsp.held = []) ∧
  (∃ (s : State), running s = true ∧ stepDue s = false ∧ s.cmt.st ≠ .armed ∧ s.pwr.sleep = .awake ∧ passLate s = true) ∧
  (∃ (o : Nat) (l : List Nat) (s : State), running s = true ∧ s.dsp.run = none ∧ s.dsp.held = o :: l) ∧
  (∃ (o : Nat) (s : State), running s = true ∧ s.dsp.run = some o ∧ (∀ e ∈ s.dsp.endAt, e ≤ s.c) ∧ ((s.dsp.endAt = none →
    pertOn s .hub 0 1 = false))) ∧
  (∃ (o : Nat) (s : State), running s = true ∧ s.dsp.run = some o ∧ s.dsp.endAt = none ∧ pertOn s .hub 0 1 = true) :=
  ⟨⟨base, by decide, by decide, by decide⟩,
   ⟨(⟨[], 3, [], [], [], [], [], [], [], [], []⟩), base, by decide, by decide, by decide, by decide, by decide, by decide⟩,
   ⟨{ base with hub := { st := .solo, consec := 4 } }, by decide, by decide, by decide, by decide, by decide, by decide⟩,
   ⟨{ base with dsp := { run := some 0 }, ord := 1 }, by decide, by decide, by decide, by decide, by decide⟩,
   ⟨3, [4], { base with dsp := { held := [3, 4] } }, by decide, by decide, by decide⟩,
   ⟨3, { base with dsp := { run := some 3, store := [(3, []), (4, [])] } }, by decide, by decide, by decide, by decide⟩,
   ⟨3, { base with dsp := { run := some 3 }, tst := { pert := [(0, (0x51#32, 3))] } }, by decide, by decide, by decide,
     by decide⟩⟩

theorem test_WholeHubReset_hyps :
  (∃ (o : Option Nat) (s : State), (∀ d ∈ o, 155 < d) ∧ s.pwr.phase ≠ .por) ∧
  (∃ (ns : Nat) (s : State), 500 ≤ ns ∧ s.pwr.phase ≠ .por ∧ s.pwr.phase ≠ .pin) ∧
  (∃ (ns : Nat), ns < 300) ∧
  (∃ (d : Nat), d ≤ 45) ∧
  (∃ (s : State), s.pwr.core = false) ∧
  (∃ (ns : Nat) (s : State), 500 ≤ ns ∧ s.pwr.core = true ∧ s.pwr.phase ≠ .por ∧ s.pwr.phase ≠ .pin) ∧
  (∃ (s : State), s.pwr.core = true ∧ running s = true ∧ s.jtag.held = false ∧ s.pwr.ft = false) :=
  ⟨⟨(some 156), base, by decide, by decide⟩,
   ⟨500, base, by decide, by decide, by decide⟩,
   ⟨299, by decide⟩,
   ⟨45, by decide⟩,
   ⟨{ base with pwr := { base.pwr with core := false } }, by decide⟩,
   ⟨500, base, by decide, by decide, by decide, by decide⟩,
   ⟨base, by decide, by decide, by decide, by decide⟩⟩

theorem test_BootSequence_hyps :
  (∃ (s : State), s.pwr.phase = .por ∧ s.pwr.core = true ∧ s.pwr.xos = true ∧ s.pwr.resetNLow = false) ∧
  (∃ (s : State), s.pwr.phase = .por ∧ s.pwr.core = true ∧ s.pwr.xos = true ∧ s.pwr.resetNLow = true) ∧
  (∃ (s : State), s.pwr.phase = .pin) ∧
  (∃ (s : State), s.pwr.phase = .boot ∧ s.twn.seen = false) ∧
  (∃ (s : State), s.pwr.phase = .boot) ∧
  (∃ (i : JtagOp), jtagTakes i = false) ∧
  (∃ (i : JtagOp), jtagTakes i = true) :=
  ⟨⟨{ base with pwr := { phase := .por } }, by decide, by decide, by decide, by decide⟩,
   ⟨{ base with pwr := { phase := .por, resetNLow := true } }, by decide, by decide, by decide, by decide⟩,
   ⟨{ base with pwr := { phase := .pin } }, by decide⟩,
   ⟨{ base with pwr := { phase := .boot }, hub := { straps := { twinEn := true, twinSide := false, bootMode := 0 } } },
     by decide, by decide⟩,
   ⟨{ base with pwr := { phase := .boot } }, by decide⟩,
   ⟨.sample, by decide⟩,
   ⟨.extest, by decide⟩⟩

theorem test_RailLosses_hyps :
  (∃ (lh : Bool) (s : State), live s = true ∧ (if lh then s.pwr.vddlh else s.pwr.vddl) = true) ∧
  (∃ (s : State), live s = true ∧ s.pwr.pllL = true) ∧
  (∃ (s : State), s.pwr.vddl = true ∧ s.pwr.vddlh = true) ∧
  (∃ (n : Nat) (s : State), n < 4 ∧ live s = true ∧ (die s n).rails = true) ∧
  (∃ (n : Nat), n < 4) ∧
  (∃ (n : Nat) (s : State), n < 4 ∧ running s = true ∧ (die s n).restoring = true ∧
    buffersReady s ((dieChans n).filter (fun g => decide ((chan s g).cause = 2))) = true) :=
  ⟨⟨true, (ln 0 { st := .up, lk := { un := [] } } base), by decide, by decide⟩,
   ⟨(ln 0 { st := .up } base), by decide, by decide⟩,
   ⟨base, by decide, by decide⟩,
   ⟨3, (cx 511 { st := .run, inUse := true } (ex 63 { mode := .hold } (dy 3 base))), by decide, by decide, by decide⟩,
   ⟨3, by decide⟩,
   ⟨3, (rf (chBuf base 511) { on := true, ready := true } (cx 510 { st := .fault, cause := 2, stuck := true, inUse := true } (cx 511 { st := .fault, cause := 2, inUse := true } (modDie 3 (fun _ => { rails := true, lost := true, up := true, trained := true, restoring := true }) base)))), by decide, by decide, by decide, by decide⟩⟩

theorem test_DieLinks_hyps :
  (∃ (n : Nat) (ok : Nat) (s : State), n < 4 ∧ live s = true ∧ (die s n).rails = true ∧ bit (rg s 0x1048) n = true ∧
    (die s n).trained = false ∧ s.pwr.sleep ≠ .asleep ∧ ok % 8 ≠ 0) ∧
  (∃ (n : Nat) (ok : Nat) (s : State), n < 4 ∧ live s = true ∧ (die s n).rails = true ∧ bit (rg s 0x1048) n = true ∧
    (die s n).trained = false ∧ s.pwr.sleep ≠ .asleep ∧ ok % 8 = 0) ∧
  (∃ (n : Nat) (x : LaneWord) (s : State), n < 4 ∧ live s = true ∧ (die s n).trained = true ∧ x.lane < 2 ∧ (die s n).map = 0 ∧
    laneOk (die s n) (1 - x.lane) = true ∧ (die s n).ok2 = true ∧ (failedWords (die s n) x.lane x.w).length < 8) ∧
  (∃ (n : Nat) (x : LaneWord) (s : State), n < 4 ∧ live s = true ∧ (die s n).trained = true ∧ x.lane < 2 ∧ (die s n).map = 0 ∧
    (die s n).ok0 = true ∧ (die s n).ok1 = true ∧ (die s n).ok2 = true ∧ (die s n).sub = none ∧
    (failedWords (die s n) x.lane x.w).length = 8) ∧
  (∃ (n : Nat) (x : LaneWord) (s : State), n < 4 ∧ live s = true ∧ (die s n).trained = true ∧ x.lane < 2 ∧ (die s n).map = 3 ∧
    pairLost (die s n) (decide (x.lane = 1)) = false ∧ (failedWords (die s n) x.lane x.w).length < 8) ∧
  (∃ (n : Nat) (l : List Nat) (s : State), n < 4 ∧ live s = true ∧ (die s n).trained = true ∧ (∃ x ∈ l,
    pairLost (die s n) (decide (2 ≤ x % 4)) = false)) ∧
  (∃ (n : Nat) (l : Nat) (s : State), n < 4 ∧ live s = true ∧ (die s n).trained = true ∧ l < 2 ∧ (die s n).sub = none ∧
    (die s n).map = 0 ∧ (die s n).ok2 = true ∧ (if l = 0 then (die s n).ok0 else (die s n).ok1) = true) ∧
  (∃ (n : Nat) (s : State), n < 4 ∧ live s = true ∧ (die s n).trained = true ∧ (die s n).sub = none ∧ (die s n).map = 0 ∧
    (die s n).ok2 = true) ∧
  (∃ (n : Nat) (l : Nat) (s : State), n < 4 ∧ live s = true ∧ (die s n).trained = true ∧ l < 2 ∧ (die s n).sub = none ∧
    (die s n).map = 3 ∧ (if l = 0 then (die s n).ok0 else (die s n).ok1) = true ∧ pairLost (die s n) (decide (l = 1)) = false) ∧
  (∃ (n : Nat) (s : State), n < 4 ∧ live s = true ∧ (die s n).trained = true ∧ (die s n).trimAt + 2 ^ 20 ≤ s.ord) ∧
  (∃ (n : Nat) (s : State), s.ord < (die s n).trimAt + 2 ^ 20) :=
  ⟨⟨3, 7, (sr 0x1048 8#32 base), by decide, by decide, by decide, by decide, by decide, by decide, by decide⟩,
   ⟨3, 8, (cx 400 { st := .run } (sr 0x1048 8#32 base)), by decide, by decide, by decide, by decide, by decide, by decide,
     by decide⟩,
   ⟨3, { lane := 1, w := 7, odd := true },
     (modDie 3 (fun _ => { trained := true, ok0 := true, ok1 := false, ok2 := true, sub := some 1 }) base), by decide,
     by decide, by decide, by decide, by decide, by decide, by decide, by decide⟩,
   ⟨3, { lane := 1, w := 70000, odd := true },
     (modDie 3 (fun _ => { trained := true, ok0 := true, ok1 := true, ok2 := true, bad := [(1, [69999, 69998, 69997, 69996, 69995, 69994, 4465])] }) base), by decide, by decide, by decide, by decide, by decide, by decide, by decide, by decide, by decide, by decide⟩,
   ⟨3, { lane := 1, w := 7, odd := true },
     (modDie 3 (fun _ => { trained := true, ok0 := true, ok1 := true, map := 3 }) (cx 511 { st := .run } base)), by decide,
     by decide, by decide, by decide, by decide, by decide, by decide⟩,
   ⟨3, ([2, 15]),
     (modDie 3 (fun _ => { trained := true, ok0 := true, ok1 := true, ok2 := true }) (cx 511 { st := .run } base)), by decide,
     by decide, by decide, by decide⟩,
   ⟨3, 1, (modDie 3 (fun _ => { trained := true, ok0 := true, ok1 := true, ok2 := true }) base), by decide, by decide,
     by decide, by decide, by decide, by decide, by decide, by decide⟩,
   ⟨3, (modDie 3 (fun _ => { trained := true, ok0 := true, ok1 := true, ok2 := true }) base), by decide, by decide, by decide,
     by decide, by decide, by decide⟩,
   ⟨3, 1, (modDie 3 (fun _ => { trained := true, ok0 := true, ok1 := true, ok2 := false, map := 3 }) (cx 511 { st := .run } base)), by decide, by decide, by decide, by decide, by decide, by decide, by decide, by decide⟩,
   ⟨3, { modDie 3 (fun _ => { trained := true }) base with ord := 1048576 }, by decide, by decide, by decide, by decide⟩,
   ⟨3, { modDie 3 (fun _ => { trained := true }) base with ord := 1048575 }, by decide⟩⟩

theorem test_SleepSafeAndRestart_hyps :
  (∃ (k : Nat) (p : Nat) (q : Nat) (s : State), s.pwr.sleep = .draining k p q ∧ running s = true ∧ k ≠ 0 ∧ s.dsp.run = none ∧
    drained s = true) ∧
  (∃ (k : Nat) (p : Nat) (q : Nat) (s : State), s.pwr.sleep = .draining k p q ∧ running s = true ∧ k ≠ 0 ∧ k + 1000 ≤ s.ord ∧
    drained s = false) ∧
  (∃ (s : State), s.pwr.sleep = .waking false ∧ running s = true ∧ linksBack s = true ∧ s.dsp.run = none ∧ s.dsp.held = [] ∧
    buffersReady s (wakeChans s) = true) ∧
  (∃ (s : State), s.pwr.sleep = .waking true ∧ running s = true ∧ linksBack s = true ∧ s.dsp.run = none ∧ s.dsp.held = [] ∧
    buffersReady s (wakeChans s) = true) ∧
  (∃ (s : State), safeDue s ≠ 0) ∧
  (∃ (s : State), safeDue s = 0) ∧
  (∃ (s : State), running s = true ∧ s.hub.st ≠ .safe ∧ s.hub.st ≠ .sleep ∧ 16 ≤ s.hub.consec) ∧
  (∃ (o : Nat) (s : State), running s = true ∧ s.hub.st ≠ .safe ∧ s.hub.st ≠ .sleep ∧ s.hub.consec < 16 ∧ s.dsp.run = some o ∧
    o + 2 ≤ s.ord) ∧
  (∃ (s : State), running s = true ∧ s.hub.st = .safe ∧ 64 ≤ s.hub.clean) ∧
  (∃ (s : State), running s = true ∧ s.hub.st ≠ .resync ∧ (s.cmt.st = .closed ∨ s.cmt.st = .armed)) ∧
  (∃ (s : State), running s = true ∧ s.hub.st ≠ .resync ∧ (s.cmt.st = .open_ ∨ s.cmt.st = .checking)) ∧
  (∃ (s : State), running s = true ∧ s.hub.st = .resync ∧ s.twn.ph = 0 ∧ (s.cmt.st = .open_ ∨ s.cmt.st = .checking)) ∧
  (∃ (s : State), running s = true ∧ s.hub.st = .resync ∧ s.twn.ph ≠ 0 ∧ (s.cmt.st = .open_ ∨ s.cmt.st = .checking)) ∧
  (∃ (s : State), running s = true ∧ s.hub.st = .resync ∧ s.cmt.st = .armed) :=
  ⟨⟨1, 0, 1, (rf 95 { on := true } (ex 63 { mode := .hold } (ln 0 { st := .up } { base with tmb := { st := .locked, rho := 7 }, pwr := { base.pwr with sleep := .draining 1 0 1 }, flight := [{ mf 2 [] with wait := .sleep }] }))), by decide, by decide, by decide, by decide, by decide⟩,
   ⟨1, 0, 1, { base with pwr := { base.pwr with sleep := .draining 1 0 1 }, ord := 1001, streams := [(0, { wait := [⟨{}, 0, 0, none, 0, false, 0, 0⟩] })], flight := [{ mf 2 [] with wait := .sleep }] }, by decide, by decide, by decide, by decide, by decide⟩,
   ⟨{ sr 0x1048 0#32 base with pwr := { base.pwr with sleep := .waking false, before := .solo }, hub := { st := .sleep }, flight := [{ mf 3 [0, 0, 0, 0] with wait := .wake }] }, by decide, by decide, by decide, by decide, by decide, by decide +kernel⟩,
   ⟨(rf (chBuf base 511) { on := true, ready := true } (cx 511 { inUse := true } (cx 100 { inUse := true } (sr 0x1048 8#32 (modDie 3 (fun _ => { up := true, trained := true }) { base with pwr := { base.pwr with sleep := .waking true, before := .solo }, hub := { st := .sleep } }))))), by decide, by decide, by decide, by decide, by decide, by decide +kernel⟩,
   ⟨(pl 7 { st := .post } (pl 0 { st := .ready } { base with hub := { st := .solo, consec := 16 } })), by decide⟩,
   ⟨{ base with hub := { st := .solo, consec := 15 } }, by decide⟩,
   ⟨{ base with hub := { st := .solo, consec := 16 } }, by decide, by decide, by decide, by decide⟩,
   ⟨1, { base with hub := { st := .solo, consec := 15 }, dsp := { run := some 1 }, ord := 3 }, by decide, by decide, by decide,
     by decide, by decide, by decide⟩,
   ⟨{ base with hub := { st := .safe, clean := 64, safeHeld := true } }, by decide, by decide, by decide⟩,
   ⟨{ base with cmt := { st := .armed, owner := .hostCmd }, flight := [{ mf 3 [] with wait := .wake }] }, by decide, by decide,
     by decide⟩,
   ⟨{ base with cmt := { st := .checking, owner := .hostCmd }, flight := [{ mf 3 [] with wait := .check }], staged := [(0x7040, 5)] }, by decide, by decide, by decide⟩,
   ⟨{ base with hub := { st := .resync }, cmt := { st := .checking, owner := .hostCmd }, flight := [{ mf 3 [] with wait := .check }], staged := [(0x7040, 5)] }, by decide, by decide, by decide, by decide⟩,
   ⟨{ base with hub := { st := .resync }, twn := { base.twn with ph := 2 }, cmt := { st := .open_, owner := .mgmtCmd }, flight := [{ mf 3 [] with wait := .check }], staged := [(0x7040, 5)] }, by decide, by decide, by decide, by decide⟩,
   ⟨{ base with hub := { st := .resync }, twn := { base.twn with ph := 4 }, cmt := { st := .armed, owner := .firmware }, flight := [{ mf 3 [] with wait := .check }], staged := [(0x7040, 5)] }, by decide, by decide, by decide⟩⟩

theorem test_FrontEndEvents_hyps :
  (∃ (g : Nat) (s : State), chActive s g = true ∧ af s (chCfgA g) 8 2 ≠ 0 ∧ (chan s g).gain ≠ 0) ∧
  (∃ (g : Nat) (s : State), (chActive s g = false ∨ af s (chCfgA g) 8 2 = 0)) ∧
  (∃ (g : Nat) (s : State), chActive s g = true ∧ af s (chCfgA g) 8 2 ≠ 0 ∧ (chan s g).gain = 0) ∧
  (∃ (g : Nat) (code : Nat) (s : State), chActive s g = true ∧ af s (chCfgA g) 8 2 ≠ 0 ∧ 256 ≤ (chan s g).arCount ∧
    narrowerGain (af s (chCfgA g) 8 2) (chan s g).gain = some code) ∧
  (∃ (g : Nat) (s : State), chActive s g = true) ∧
  (∃ (g : Nat) (s : State), chActive s g = true) ∧
  (∃ (g : Nat) (s : State), g < 512 ∧ (chan s g).st = .fault ∧ (chan s g).cause = 3 ∧ (chan s g).stuck = false) ∧
  (∃ (ss : Nat) (t : Nat) (g : Nat) (f : Nat) (s : State), live s = true ∧ ss < 16 ∧ g / 32 = ss ∧ startOf s g = some f ∧
    f ≤ s.ord ∧ startEdge s f ≤ t ∧ ((chan s g).st = .armed ∨ ((chan s g).st = .fault ∧ (chan s g).stuck = false ∧
    chCarried s g = true ∧ (die s (g / 128)).lost = false))) :=
  ⟨⟨511, (sr (chCfgA 511) 0x201#32 (cx 511 { st := .run, gain := 6 } base)), by decide, by decide, by decide⟩,
   ⟨511, (cx 511 { st := .run, gain := 6 } base), by decide⟩,
   ⟨511, (sr (chCfgA 511) 0x201#32 (cx 511 { st := .run, gain := 0, arCount := 7 } base)), by decide, by decide, by decide⟩,
   ⟨0, 3, (sr (chCfgA 0) 0x201#32 (cx 0 { st := .settling, gain := 0, arCount := 256 } base)), by decide, by decide, by decide,
     by decide⟩,
   ⟨33, (cx 33 { st := .run } base), by decide⟩,
   ⟨5, { cx 5 { st := .run } base with restart := [(5, some 7)], ord := 1030 }, by decide⟩,
   ⟨511, (cx 511 { st := .fault, cause := 3 } base), by decide, by decide, by decide, by decide⟩,
   ⟨15, 512, 511, 9, { cx 511 { st := .armed } base with startAt := [(511, some 9)], ord := 9 }, by decide, by decide,
     by decide, by decide, by decide, by decide, by decide⟩⟩

theorem test_LeadStatesAndTests_hyps :
  (∃ (g : Nat) (p : Bool) (n : Bool) (s : State), chOn s g = true ∧ bit (rg s (chLeadA g)) 2 = true ∧ (p || n) = true ∧
    (chan s g).lead = .none) ∧
  (∃ (g : Nat) (p : Bool) (n : Bool) (s : State), (chOn s g = false ∨ bit (rg s (chLeadA g)) 2 = false ∨ (p || n) = false)) ∧
  (∃ (g : Nat) (p : Bool) (n : Bool) (s : State), chOn s g = true ∧ bit (rg s (chLeadA g)) 2 = true ∧ (p || n) = true ∧
    (chan s g).lead ≠ .none) ∧
  (∃ (g : Nat) (s : State), chOn s g = true ∧ ((chan s g).lead ≠ .suspect ∨ bit (rg s (chLeadA g)) 3 = true)) ∧
  (∃ (g : Nat) (s : State), chOn s g = true ∧ (chan s g).lead = .suspect ∧ bit (rg s (chLeadA g)) 3 = false) ∧
  (∃ (g : Nat) (d : LeadDet) (s : State), chOn s g = true ∧ detApplies s g d = true) ∧
  (∃ (g : Nat) (s : State), chOn s g = true) ∧
  (∃ (g : Nat) (f : Nat) (s : State), chOn s g = true ∧ (chan s g).retestAt = some f ∧ f ≤ s.ord ∧
    (chan s g).lead = .confirmed ∧ (chan s g).detAct = []) ∧
  (∃ (ss : Nat) (cc : Nat) (all : Bool) (s : State), ss < 16 ∧ running s = true ∧ directOk s .shf ss = true ∧
    ltOf s ss = none ∧ ltCover s ss all cc ≠ []) ∧
  (∃ (ss : Nat) (cc : Nat) (all : Bool) (s : State), ss < 16 ∧ running s = true ∧ directOk s .shf ss = true ∧
    ltOf s ss = none ∧ ltCover s ss all cc = []) ∧
  (∃ (x : LtTarget) (s : State), x.ss < 16 ∧ running s = true ∧ directOk s .shf x.ss = true ∧ ltOf s x.ss = none ∧
    sheafDriven s x.ss = false ∧ sheafDual s x.ss = false ∧ auxAvail s (x.ss / 4) = true) ∧
  (∃ (x : LtTarget) (s : State), x.ss < 16 ∧ running s = true ∧ directOk s .shf x.ss = true ∧ ltOf s x.ss = none ∧
    sheafDriven s x.ss = false ∧ sheafDual s x.ss = false ∧ auxAvail s (x.ss / 4) = false) ∧
  (∃ (x : LtTarget) (s : State), x.ss < 16 ∧ running s = true ∧ directOk s .shf x.ss = true ∧ ltOf s x.ss = none ∧
    sheafDriven s x.ss = true) ∧
  (∃ (x : LtTarget) (s : State), x.ss < 16 ∧ running s = true ∧ directOk s .shf x.ss = true ∧ ltOf s x.ss = none ∧
    sheafDriven s x.ss = false ∧ sheafDual s x.ss = true) ∧
  (∃ (ss : Nat) (s : State), ss < 16 ∧ running s = true ∧ directOk s .shf ss = true ∧ (ltOf s ss).isSome = true) ∧
  (∃ (ss : Nat) (s : State), ss < 16 ∧ running s = true ∧ af s (shfReg ss 0x44) 0 8 ≠ 0 ∧
    af s (shfReg ss 0x44) 0 8 * 1024 ≤ tget 0 s.ltTicks ss ∧ (ltOf s ss).isSome = true) ∧
  (∃ (ss : Nat) (s : State), ss < 16 ∧ running s = true ∧ af s (shfReg ss 0x44) 0 8 ≠ 0 ∧
    af s (shfReg ss 0x44) 0 8 * 1024 ≤ tget 0 s.ltTicks ss ∧ ltOf s ss = none ∧ ltCover s ss true 0 ≠ []) ∧
  (∃ (ss : Nat) (x : LeadTest) (s : State), ltOf s ss = some x ∧ x.shorts = true ∧ tget false s.ltWait ss = false) ∧
  (∃ (ss : Nat) (x : LeadTest) (s : State), ltOf s ss = some x ∧ x.shorts = false ∧ tget false s.ltWait ss = false ∧
    x.origin = .reg ∧ (∀ r ∈ (aux s (ss / 4)).lt ++ (aux s (ss / 4)).run.toList, ltReq ss r.kind = false)) :=
  ⟨⟨511, true, false, (sr (chLeadA 511) 0x4#32 (cx 511 { st := .run } base)), by decide, by decide, by decide, by decide⟩,
   ⟨511, true, false, (sr (chLeadA 511) 0#32 (cx 511 { st := .run } base)), by decide⟩,
   ⟨511, true, false,
     (sr (chLeadA 511) 0x4#32 (cx 511 { st := .run, lead := .confirmed, detAct := [detWindow, 1], retestAt := some 5 } base)),
     by decide, by decide, by decide, by decide⟩,
   ⟨511, (sr (chLeadA 511) 0xC#32 (dy 3 (cx 511 { st := .run, lead := .confirmed, detAct := [detWindow], cmwP := true } base))), by decide, by decide⟩,
   ⟨0, (sr (chLeadA 0) 4#32 (cx 0 { st := .run, lead := .suspect, leadSrc := 4, cmwP := true } base)), by decide, by decide,
     by decide⟩,
   ⟨5, (.collapse 0), (sr (chLeadA 5) 0xFFFFFFFF#32 (sr (chCurrA 5) 0x10#32 (cx 5 { st := .run } base))), by decide, by decide⟩,
   ⟨5, (cx 5 { st := .run, lead := .confirmed, detAct := [1, 2] } base), by decide⟩,
   ⟨5, 7, { cx 5 { st := .run, lead := .confirmed, retestAt := some 7 } base with ord := 7 }, by decide, by decide, by decide,
     by decide, by decide⟩,
   ⟨15, 3, true, (exp .shf 15 (cx 483 { st := .run, inUse := true } base)), by decide, by decide, by decide, by decide,
     by decide⟩,
   ⟨15, 3, true, (exp .shf 15 base), by decide, by decide, by decide, by decide, by decide⟩,
   ⟨{ ss := 15, all := true, cc := 33 }, (exp .shf 15 (dy 3 base)), by decide, by decide, by decide, by decide, by decide,
     by decide, by decide⟩,
   ⟨{ ss := 15, all := true, cc := 0 }, (exp .shf 15 base), by decide, by decide, by decide, by decide, by decide, by decide,
     by decide⟩,
   ⟨{ ss := 0, all := true, cc := 0 }, (exp .shf 0 (ex 0 { mode := .hold } base)), by decide, by decide, by decide, by decide,
     by decide⟩,
   ⟨{ ss := 15, all := true, cc := 0 }, (exp .shf 15 (sr (chCfgA 511) 0x400#32 base)), by decide, by decide, by decide,
     by decide, by decide, by decide⟩,
   ⟨0, (exp .shf 0 { base with lts := [(0, some { shorts := true, all := true, ch := 0, origin := .cmd, cover := [] })] }),
     by decide, by decide, by decide, by decide⟩,
   ⟨0, { sr (shfReg 0 0x44) 1#32 base with ltTicks := [(0, 1024)], lts := [(0, some { shorts := true, all := true, ch := 0, origin := .cmd, cover := [] })] }, by decide, by decide, by decide, by decide, by decide⟩,
   ⟨0, { sr (shfReg 0 0x44) 1#32 (cx 3 { st := .run, inUse := true } base) with ltTicks := [(0, 1024)] }, by decide, by decide,
     by decide, by decide, by decide, by decide⟩,
   ⟨0, { shorts := true, all := true, ch := 0, origin := .reg, cover := List.range 32 },
     { base with lts := [(0, some { shorts := true, all := true, ch := 0, origin := .reg, cover := List.range 32 })] },
     by decide, by decide, by decide⟩,
   ⟨0, { shorts := false, all := true, ch := 0, origin := .reg, cover := [1] },
     { base with lts := [(0, some { shorts := false, all := true, ch := 0, origin := .reg, cover := [1] })] }, by decide,
     by decide, by decide, by decide, by decide⟩⟩

theorem test_ExcitationEvents_hyps :
  (∃ (ss : Nat) (k : Nat) (t : Nat) (s : State), ss < 16 ∧ k < 4 ∧ (exc s (4 * ss + k)).mode = .share ∧
    (exc s (4 * ss + k)).heard = true ∧ swapIn (advance t s) ≠ some (mcAt t)) ∧
  (∃ (ss : Nat) (k : Nat) (t : Nat) (s : State), ss < 16 ∧ k < 4 ∧ (exc s (4 * ss + k)).mode = .share ∧
    (exc s (4 * ss + k)).heard = false ∧ swapIn (advance t s) ≠ some (mcAt t)) ∧
  (∃ (ss : Nat) (k : Nat) (t : Nat) (s : State), ss < 16 ∧ k < 4 ∧ (exc s (4 * ss + k)).mode = .share ∧
    swapIn (advance t s) = some (mcAt t)) ∧
  (∃ (ss : Nat) (k : Nat) (s : State), (exc s (4 * ss + k)).mode = .off ∧ ss < 16 ∧ k < 4) ∧
  (∃ (ss : Nat) (k : Nat) (s : State), ss < 16 ∧ k < 4 ∧ (exc s (4 * ss + k)).mode = .hold) ∧
  (∃ (ss : Nat) (k : Nat) (s : State), ss < 16 ∧ k < 4 ∧ (exc s (4 * ss + k)).mode = .regulate) ∧
  (∃ (ss : Nat) (k : Nat) (s : State), ss < 16 ∧ k < 4 ∧ ((exc s (4 * ss + k)).mode = .share ∨
    (exc s (4 * ss + k)).mode = .hold)) ∧
  (∃ (ss : Nat) (k : Nat) (s : State), ss < 16 ∧ k < 4 ∧ (exc s (4 * ss + k)).mode = .hold ∧ 16 ≤ (exc s (4 * ss + k)).good ∧
    s.ord ≤ (exc s (4 * ss + k)).goodAt + 1) ∧
  (∃ (ss : Nat) (k : Nat) (s : State), ss < 16 ∧ k < 4 ∧ (exc s (4 * ss + k)).mode ≠ .off ∧ (exc s (4 * ss + k)).ilim = false) ∧
  (∃ (ss : Nat) (k : Nat) (s : State), ss < 16 ∧ k < 4 ∧ (exc s (4 * ss + k)).mode ≠ .off ∧ (exc s (4 * ss + k)).ilim = true) ∧
  (∃ (ss : Nat) (k : Nat) (s : State), ss < 16 ∧ k < 4 ∧ (exc s (4 * ss + k)).mode ≠ .off ∧
    (exc s (4 * ss + k)).headroom = false) ∧
  (∃ (ss : Nat) (k : Nat) (s : State), ss < 16 ∧ k < 4 ∧ (exc s (4 * ss + k)).mode ≠ .off ∧
    (exc s (4 * ss + k)).headroom = true) ∧
  (∃ (ss : Nat) (k : Nat) (i : Nat) (s : State), ss < 16 ∧ k < 4 ∧ (exc s (4 * ss + k)).mode ≠ .off ∧
    af s (excLoadA (4 * ss + k)) 12 4 ≠ 0 ∧ excBlank s (4 * ss + k) = false ∧ 500 ≤ excRef (exc s (4 * ss + k)) ∧
    i * 16 < af s (excLoadA (4 * ss + k)) 12 4 * excRef (exc s (4 * ss + k)) ∧ (exc s (4 * ss + k)).collapse = false) ∧
  (∃ (ss : Nat) (k : Nat) (i : Nat) (s : State), ss < 16 ∧ k < 4 ∧ (exc s (4 * ss + k)).mode ≠ .off ∧
    af s (excLoadA (4 * ss + k)) 12 4 ≠ 0 ∧ excBlank s (4 * ss + k) = false ∧
    af s (excLoadA (4 * ss + k)) 12 4 * excRef (exc s (4 * ss + k)) ≤ i * 16 ∧ (exc s (4 * ss + k)).collapse = true) ∧
  (∃ (ss : Nat) (k : Nat) (s : State), ss < 16 ∧ k < 4 ∧ (exc s (4 * ss + k)).ramp.isSome = true) ∧
  (∃ (ss : Nat) (k : Nat) (s : State), ss < 16 ∧ k < 4 ∧ (exc s (4 * ss + k)).outgoing = true ∧ twinDown s = false) ∧
  (∃ (g : Nat) (s : State), chOn s g = true ∧ af s (chCurrA g) 0 3 = 2 ∧ bit (rg s (chCurrA g)) 8 = true) :=
  ⟨⟨15, 3, 512, (ex 63 { mode := .share, holdSet := 9, heard := true } base), by decide, by decide, by decide, by decide,
    by decide⟩,
   ⟨15, 3, 512, (ex 63 { mode := .share } base), by decide, by decide, by decide, by decide, by decide⟩,
   ⟨15, 3, ((localAt base (tickTime base 9))),
     (ex 63 { mode := .share } { base with twn := { base.twn with next := some 9, goRx := some 9, token := false } }),
     by decide, by decide, by decide, by decide⟩,
   ⟨15, 3, base, by decide, by decide, by decide⟩,
   ⟨15, 3, (ex 63 { mode := .hold, good := 16 } base), by decide, by decide, by decide⟩,
   ⟨15, 3, (ex 63 { mode := .regulate } base), by decide, by decide, by decide⟩,
   ⟨15, 3, (ex 63 { mode := .share } base), by decide, by decide, by decide⟩,
   ⟨15, 3, (ex 63 { mode := .hold, good := 16 } base), by decide, by decide, by decide, by decide, by decide⟩,
   ⟨0, 0, (ex 0 { mode := .regulate } base), by decide, by decide, by decide, by decide⟩,
   ⟨0, 0, (ex 0 { mode := .regulate, ilim := true, exIlim := some 3 } base), by decide, by decide, by decide, by decide⟩,
   ⟨0, 0, (ex 0 { mode := .regulate } base), by decide, by decide, by decide, by decide⟩,
   ⟨0, 0, (ex 0 { mode := .regulate, headroom := true } base), by decide, by decide, by decide, by decide⟩,
   ⟨0, 0, 10, (sr (excLoadA 0) 0xF000#32 (ex 0 { mode := .regulate, hist := List.replicate 16 1000 } base)), by decide,
     by decide, by decide, by decide, by decide, by decide, by decide, by decide⟩,
   ⟨0, 0, 1000,
     (sr (excLoadA 0) 0xF000#32 (ex 0 { mode := .regulate, collapse := true, hist := List.replicate 16 1000 } base)),
     by decide, by decide, by decide, by decide, by decide, by decide, by decide⟩,
   ⟨0, 0, (ex 0 { mode := .share, ramp := some 5 } base), by decide, by decide, by decide⟩,
   ⟨0, 0, (ex 0 { mode := .hold, outgoing := true, setNow := 5 } base), by decide, by decide, by decide, by decide⟩,
   ⟨511, (sr (chCurrA 511) 0x102#32 (cx 511 { st := .run } base)), by decide, by decide, by decide⟩⟩

theorem test_ReferencesAndConverters_hyps :
  (∃ (ss : Nat) (b : Nat) (s : State), live s = true ∧ ss < 16 ∧ b < 6 ∧ (ref s (6 * ss + b)).on = true ∧
    (ref s (6 * ss + b)).ready = false) ∧
  (∃ (ss : Nat) (b : Nat) (s : State), live s = true ∧ ss < 16 ∧ b < 6 ∧ refWatched s ss b = true ∧
    (ref s (6 * ss + b)).on = true) ∧
  (∃ (ss : Nat) (b : Nat) (s : State), live s = true ∧ ss < 16 ∧ b < 6 ∧ (b ≠ 0 ∨ (aux s (ss / 4)).intBad < 2)) ∧
  (∃ (ss : Nat) (s : State), 2 ≤ (aux s (ss / 4)).intBad) ∧
  (∃ (i : Nat) (s : State), i < 16 ∧ running s = true ∧ directOk s .aux 0 = true ∧ (slot s i).go = false ∧
    af s (slotCfgA i) 8 6 ≤ 0x26 ∧ 4 ≤ af s (slotCfgA i) 8 6 ∧ auxAvail s (af s (slotCfgA i) 14 2) = true) ∧
  (∃ (i : Nat) (s : State), i < 16 ∧ running s = true ∧ directOk s .aux 0 = true ∧ (slot s i).go = true ∧
    (slot s i).repAt ≠ some s.c) ∧
  (∃ (i : Nat) (s : State), i < 16 ∧ running s = true ∧ directOk s .aux 0 = true ∧ (slot s i).go = true ∧
    (slot s i).repAt = some s.c) ∧
  (∃ (i : Nat) (s : State), i < 16 ∧ running s = true ∧ directOk s .aux 0 = false) ∧
  (∃ (i : Nat) (s : State), i < 16 ∧ running s = true ∧ af s (slotCfgA i) 16 8 ≠ 0 ∧
    af s (slotCfgA i) 16 8 ≤ (slot s i).ticks ∧ (slot s i).go = true ∧ (∀ j, j < i → af s (slotCfgA j) 16 8 = 0 ∨
    (slot s j).ticks < af s (slotCfgA j) 16 8)) ∧
  (∃ (i : Nat) (s : State), i < 16 ∧ running s = true ∧ af s (slotCfgA i) 16 8 ≠ 0 ∧
    af s (slotCfgA i) 16 8 ≤ (slot s i).ticks ∧ (slot s i).go = false ∧ 4 ≤ af s (slotCfgA i) 8 6 ∧
    af s (slotCfgA i) 8 6 ≤ 0x26 ∧ auxAvail s (af s (slotCfgA i) 14 2) = true ∧ (∀ j, j < i → af s (slotCfgA j) 16 8 = 0 ∨
    (slot s j).ticks < af s (slotCfgA j) 16 8)) ∧
  (∃ (i : Nat) (s : State), i + 1 < 16 ∧ running s = true) ∧
  (∃ (i : Nat) (s : State), i < 16 ∧ running s = true) ∧
  (∃ (n : Nat) (i : Nat) (r : AuxReq) (s : State), (aux s n).run = some r ∧ r.kind = .slot i ∧ auxAvail s n = true) ∧
  (∃ (n : Nat) (i : Nat) (r : AuxReq) (s : State), (aux s n).run = some r ∧ r.kind = .sys i ∧ auxAvail s n = true ∧ i ≠ 0x24) ∧
  (∃ (n : Nat) (path : Nat) (tag : Nat) (i : Nat) (r : AuxReq) (f : Flight) (s : State), (aux s n).run = some r ∧
    r.kind = .spot path tag i ∧ auxAvail s n = true ∧ f ∈ s.flight ∧ f.wait = .spot ∧ f.tag = tag ∧ pathCode f.path = path ∧
    (∀ x ∈ s.flight, x.wait = .spot → x.tag = tag → pathCode x.path = path → x = f)) ∧
  (∃ (n : Nat) (r : AuxReq) (s : State), (aux s n).run = some r ∧ r.kind = .vexc ∧ auxAvail s n = true) ∧
  (∃ (n : Nat) (s : State), ((aux s n).run = none ∨ auxAvail s n = false)) ∧
  (∃ (n : Nat) (s : State), running s = true ∧ auxAvail s n = true ∧
    auxDue s (aux s n).sysAt (af s (0x9040 + 0x10 * n) 0 8) = true ∧ sysBusy (aux s n) = true) ∧
  (∃ (n : Nat) (s : State), running s = true ∧ auxAvail s n = true ∧
    auxDue s (aux s n).sysAt (af s (0x9040 + 0x10 * n) 0 8) = true ∧ sysBusy (aux s n) = false) :=
  ⟨⟨15, 5, (rf 95 { on := true } base), by decide, by decide, by decide, by decide, by decide⟩,
   ⟨15, 1, (rf 91 { on := true, ready := true, inUse := true } base), by decide, by decide, by decide, by decide, by decide⟩,
   ⟨15, 5, (rf 95 { on := true, fault := true } base), by decide, by decide, by decide, by decide⟩,
   ⟨15, (ax 3 { intBad := 2 } base), by decide⟩,
   ⟨15, (exp .aux 0 (sr (slotCfgA 15) 0x2600#32 (dy 0 base))), by decide, by decide, by decide, by decide, by decide,
     by decide, by decide⟩,
   ⟨15, (exp .aux 0 { base with slots := [(15, { go := true })] }), by decide, by decide, by decide, by decide, by decide⟩,
   ⟨15, (exp .aux 0 { base with slots := [(15, { go := true, repAt := some base.c })] }), by decide, by decide, by decide,
     by decide, by decide⟩,
   ⟨15, base, by decide, by decide, by decide⟩,
   ⟨3, (sr (slotCfgA 3) 0x10400#32 { base with slots := [(3, { go := true, ticks := 1 })] }), by decide, by decide, by decide,
     by decide, by decide, by decide⟩,
   ⟨3, (sr (slotCfgA 3) 0x10400#32 { dy 0 base with slots := [(3, { ticks := 1 })] }), by decide, by decide, by decide,
     by decide, by decide, by decide, by decide, by decide, by decide⟩,
   ⟨3, (sr (slotCfgA 3) 0x10400#32 (sr (slotCfgA 4) 0x10400#32 { dy 0 base with slots := [(3, { ticks := 1 }), (4, { ticks := 1 })] })), by decide, by decide⟩,
   ⟨15, { base with slots := [(15, { fresh := true })] }, by decide, by decide⟩,
   ⟨0, 15, (⟨.slot 15, 0⟩),
     (sr (slotCfgA 15) 0x1000400#32 { ax 0 { run := some ⟨.slot 15, 0⟩ } (dy 0 base) with slots := [(15, { go := true, seq := 255 })] }), by decide, by decide, by decide⟩,
   ⟨3, 0x23, (⟨.sys 0x23, 0⟩), (ax 3 { run := some ⟨.sys 0x23, 0⟩ } (dy 3 base)), by decide, by decide, by decide, by decide⟩,
   ⟨3, 0, 1, 0x23, (⟨.spot 0 1 0x23, 0⟩), { mf 0x204 [0, 0, 0, 5] with wait := .spot, tag := 1 },
     { ax 3 { run := some ⟨.spot 0 1 0x23, 0⟩ } (dy 3 base) with flight := [{ mf 0x204 [0, 0, 0, 5] with wait := .spot, tag := 1 }] }, by decide, by decide, by decide, by decide, by decide, by decide, by decide, by decide⟩,
   ⟨3, (⟨.vexc, 0⟩), (ax 3 { run := some ⟨.vexc, 0⟩ } (dy 3 base)), by decide, by decide, by decide⟩,
   ⟨3, base, by decide⟩,
   ⟨3, (ax 3 { run := some ⟨.sys 4, 0⟩ } (dy 3 base)), by decide, by decide, by decide, by decide⟩,
   ⟨3, (dy 3 base), by decide, by decide, by decide, by decide⟩⟩

theorem crc_next {l m : List Byte} (h : l = m) : crc32 l ≠ crc32 m + 1 := by subst h; omega

theorem test_FilterBanks_hyps :
  (∃ (ss : Nat) (s : State), ss < 16 ∧ running s = true ∧ directOk s .flt ss = true ∧
    bankRefusal s ss (af s (fltReg ss 0x100) 9 2) (bit (rg s (fltReg ss 0x100)) 8) = none) ∧
  (∃ (ss : Nat) (st : Nat) (s : State), ss < 16 ∧ running s = true ∧ directOk s .flt ss = true ∧
    bankRefusal s ss (af s (fltReg ss 0x100) 9 2) (bit (rg s (fltReg ss 0x100)) 8) = some st) ∧
  (∃ (ss : Nat) (s : State), ss < 16 ∧ running s = true) ∧
  (∃ (ss : Nat) (s : State), ss < 16 ∧ running s = true ∧ directOk s .flt ss = true ∧
    bankRefusal s ss (af s (fltReg ss 0x100) 9 2) (bit (rg s (fltReg ss 0x100)) 8) = none) ∧
  (∃ (ss : Nat) (ix : Nat) (crc : Nat) (d : Nat) (k : Word) (l : List (Nat × (Nat × Word))) (s : State),
    tget [] s.sealing ss = (ix, crc, k) :: l ∧ 1 ≤ fld k 4 5 ∧ fld k 4 5 ≤ 16 ∧ crc32 (bankBytes s ix k) = crc ∧
    bankDelay s ix (16 * fld k 4 5) (bit k 0) = some d) ∧
  (∃ (ss : Nat) (ix : Nat) (crc : Nat) (k : Word) (l : List (Nat × (Nat × Word))) (s : State), tget [] s.sealing ss = (ix, crc,
    k) :: l ∧ 1 ≤ fld k 4 5 ∧ fld k 4 5 ≤ 16 ∧ crc32 (bankBytes s ix k) ≠ crc) :=
  ⟨⟨15, (exp .flt 15 (sr (fltReg 15 0x100) 0x100FF#32 base)), by decide, by decide, by decide, by decide⟩,
   ⟨15, 1, (exp .flt 15 { base with cmt := { st := .checking } }), by decide, by decide, by decide, by decide⟩,
   ⟨15, (exp .flt 15 (sr (fltReg 15 0x100) 0x10005#32 base)), by decide, by decide⟩,
   ⟨15, (exp .flt 15 base), by decide, by decide, by decide, by decide⟩,
   ⟨0, 0, (crc32 (bankBytes base 0 0x10#32)), (15 * 65536), 0x10#32, ([(1, 5, 7#32)]),
     { base with sealing := [(0, [(0, crc32 (bankBytes base 0 0x10#32), 0x10#32), (1, 5, 7#32)])] }, rfl, by decide, by decide,
     congrArg crc32 (by decide +kernel), by decide⟩,
   ⟨0, 0, (crc32 (bankBytes base 0 0x10#32) + 1), 0x10#32, [],
     { base with sealing := [(0, [(0, crc32 (bankBytes base 0 0x10#32) + 1, 0x10#32)])] }, rfl, by decide, by decide,
     crc_next (by decide +kernel)⟩⟩

theorem test_LinearisationMemory_hyps :
  (∃ (ix : Nat) (s : State), running s = true ∧ directOk s .lin 0 = true ∧ s.lin.copying = false ∧
    iaddrIx (rg s 0xF048) = some ix ∧ linRefusal s ix = none) ∧
  (∃ (ix : Nat) (st : Nat) (s : State), running s = true ∧ directOk s .lin 0 = true ∧ s.lin.copying = false ∧
    iaddrIx (rg s 0xF048) = some ix ∧ linRefusal s ix = some st) ∧
  (∃ (ix : Nat) (s : State), running s = true ∧ s.lin.copying = false ∧ iaddrIx (rg s 0xF048) = some ix) ∧
  (∃ (s : State), running s = true ∧ directOk s .lin 0 = true ∧ s.lin.copying = false ∧ pageHeld s = false) ∧
  (∃ (s : State), s.lin.copying = true) ∧
  (∃ (t : Nat) (s : State), t < 4 ∧ running s = true ∧ directOk s .lin 0 = true ∧ tblUsed s t = false) ∧
  (∃ (t : Nat) (crc : Nat) (s : State), tget none s.lin.sealing t = some crc ∧ tblSeal s t crc = 0) ∧
  (∃ (t : Nat) (crc : Nat) (s : State), tget none s.lin.sealing t = some crc ∧ tblSeal s t crc ≠ 0) ∧
  (∃ (n : Nat) (s : State), running s = true ∧ auxAvail s n = true ∧
    auxDue s (aux s n).cjcAt (af s (0x9040 + 0x10 * n) 8 8) = true) :=
  ⟨⟨4095, (exp .lin 0 (sr 0xF048 0x117FF#32 base)), by decide, by decide, by decide, by decide, by decide⟩,
   ⟨5, 3, (exp .lin 0 (sr 0xF048 5#32 base)), by decide, by decide, by decide, by decide, by decide⟩,
   ⟨0, (exp .lin 0 base), by decide, by decide, by decide⟩,
   ⟨(exp .lin 0 base), by decide, by decide, by decide, by decide⟩,
   ⟨{ base with lin := { copying := true, mem := [(0, 5), (2049, 6)] } }, by decide⟩,
   ⟨3, (exp .lin 0 base), by decide, by decide, by decide, by decide⟩,
   ⟨3, (crc32 (tblBytes (sr 0xF06C 2#32 { base with lin := { mem := [(5634, 5)] } }) 3)),
     (sr 0xF06C 2#32 { base with lin := { mem := [(5634, 5)], sealing := [(3, some (crc32 (tblBytes (sr 0xF06C 2#32 { base with lin := { mem := [(5634, 5)] } }) 3)))] } }), by decide +kernel, by decide +kernel⟩,
   ⟨3, 1, { base with lin := { sealing := [(3, some 1)] } }, by decide, by decide⟩,
   ⟨3, { sr (chCfgA 511) 1#32 (dy 3 base) with lin := { mem := [(2044, 0x41#32)] } }, by decide, by decide, by decide⟩⟩

theorem test_TimeTransfer_hyps :
  (∃ (n : Nat) (s : State), linkLive s = true ∧ n < 8 ∧ laneUp s n = true ∧ s.pwr.sleep ≠ .asleep) ∧
  (∃ (n : Nat) (s : State), live s = true ∧ n < 8) ∧
  (∃ (n : Nat) (pk : TimePkt) (s : State), linkLive s = true ∧ n < 8 ∧ laneUp s n = true ∧ s.pwr.sleep ≠ .asleep ∧
    pk.crcOk = false) ∧
  (∃ (n : Nat) (ser : Nat) (t2 : Int) (pk : TimePkt) (s : State), linkLive s = true ∧ n < 8 ∧ laneUp s n = true ∧
    s.pwr.sleep ≠ .asleep ∧ pk.crcOk = true ∧ exchangeOf (tlane s n) pk = none ∧ s.tmb.src ≠ some n ∧
    (tlane s n).held = some (pk.id % 256, t2, ser)) ∧
  (∃ (n : Nat) (pk : TimePkt) (s : State), linkLive s = true ∧ n < 8 ∧ laneUp s n = true ∧ s.pwr.sleep ≠ .asleep ∧
    pk.crcOk = true ∧ exchangeOf (tlane s n) pk = none ∧ s.tmb.src = some n) ∧
  (∃ (n : Nat) (pk : TimePkt) (x : Exch) (a : TArr) (d : TDep) (s : State), linkLive s = true ∧ n < 8 ∧ laneUp s n = true ∧
    s.pwr.sleep ≠ .asleep ∧ pk.crcOk = true ∧ exchangeOf (tlane s n) pk = some (x, a, d) ∧ exchSound x a d pk = false) ∧
  (∃ (n : Nat) (pk : TimePkt) (x : Exch) (a : TArr) (d : TDep) (s : State), linkLive s = true ∧ n < 8 ∧ laneUp s n = true ∧
    s.pwr.sleep ≠ .asleep ∧ pk.crcOk = true ∧ exchangeOf (tlane s n) pk = some (x, a, d) ∧ exchSound x a d pk = true ∧
    dlyOk (tlane s n) (exDly x) = false) ∧
  (∃ (n : Nat) (pk : TimePkt) (x : Exch) (a : TArr) (d : TDep) (s : State), linkLive s = true ∧ n < 8 ∧ laneUp s n = true ∧
    s.pwr.sleep ≠ .asleep ∧ pk.crcOk = true ∧ exchangeOf (tlane s n) pk = some (x, a, d) ∧ exchSound x a d pk = true ∧
    dlyOk (tlane s n) (exDly x) = true ∧ s.tmb.src ≠ none) ∧
  (∃ (s : State), s.pwr.sleep = .asleep) ∧
  (∃ (n : Nat) (s : State), live s = true ∧ n < 8 ∧ 16 ≤ (tlane s n).rejDly) ∧
  (∃ (m : Nat) (s : State), live s = true ∧ srcWant s = some (some m)) ∧
  (∃ (s : State), live s = true ∧ srcWant s = some none) ∧
  (∃ (s : State), srcWant s = none) :=
  ⟨⟨7, (ln 7 { st := .degraded } base), by decide, by decide, by decide, by decide⟩,
   ⟨7, base, by decide, by decide⟩,
   ⟨7, (⟨1, 0, 0, 0, false, 0, 0, 0, 0, 0, false⟩), (ln 7 { st := .up } base), by decide, by decide, by decide, by decide,
     by decide⟩,
   ⟨7, 3, 77, (⟨257, 5, 0, 0, false, 3, 2, 1, 9, 0, true⟩),
     (tm (fun x => { x with lanes := [(7, { held := some (1, 77, 3) })] }) (ln 7 { st := .up } base)), by decide, by decide,
     by decide, by decide, by decide, by decide, by decide, by decide⟩,
   ⟨7, (⟨257, 5, 0, 0, false, 3, 2, 1, 9, 0, true⟩),
     (tm (fun x => { x with src := some 7, st := .locked, lanes := [(7, { held := some (1, 77, 3) })] }) (ln 7 { st := .up } base)), by decide, by decide, by decide, by decide, by decide, by decide, by decide⟩,
   ⟨7, (⟨257, 5, 9, 100, true, 4, 2, 1, 9, 0, true⟩), (⟨1310720, 2621440, 3276800, 6553600⟩), (⟨1, 20, 3, 2621440, 3⟩), (⟨9,
     3276800, 3, some ⟨1, 20, 3, 2621440, 3⟩⟩),
     (tm (fun x => { x with src := some 7, lanes := [(7, { deps := [⟨9, 3276800, 3, some ⟨1, 20, 3, 2621440, 3⟩⟩], rejDly := 3 })] }) (ln 7 { st := .up } base)), by decide, by decide, by decide, by decide, by decide, by decide, by decide⟩,
   ⟨7, (⟨257, 5, 9, 100, true, 3, 2, 1, 9, 0, true⟩), (⟨1310720, 2621440, 3276800, 6553600⟩), (⟨1, 20, 3, 2621440, 3⟩), (⟨9,
     3276800, 3, some ⟨1, 20, 3, 2621440, 3⟩⟩),
     (tm (fun x => { x with src := some 7, lanes := [(7, { deps := [⟨9, 3276800, 3, some ⟨1, 20, 3, 2621440, 3⟩⟩], nValid := 16, dlys := [9223372036854775807] })] }) (ln 7 { st := .up } base)), by decide, by decide, by decide, by decide, by decide, by decide, by decide, by decide⟩,
   ⟨7, (⟨257, 5, 9, 100, true, 3, 2, 1, 9, 0, true⟩), (⟨1310720, 2621440, 3276800, 6553600⟩), (⟨1, 20, 3, 2621440, 3⟩), (⟨9,
     3276800, 3, some ⟨1, 20, 3, 2621440, 3⟩⟩),
     (tm (fun x => { x with src := some 7, lanes := [(7, { deps := [⟨9, 3276800, 3, some ⟨1, 20, 3, 2621440, 3⟩⟩] })] }) (ln 7 { st := .up } base)), by decide, by decide, by decide, by decide, by decide, by decide, by decide, by decide, by decide⟩,
   ⟨(ln 7 { st := .up } { base with pwr := { base.pwr with sleep := .asleep } }), by decide⟩,
   ⟨7, (tm (fun x => { x with lanes := [(7, { rejDly := 16, rejLast := 77 })] }) base), by decide, by decide, by decide⟩,
   ⟨2, (sr 0x3140 1#32 (tm (fun x => { x with lanes := [(2, { peerState := 2, peerHops := 0, age := 0, nValid := 16, peerBound := 5 })] }) (ln 2 { st := .up } base))), by decide, by decide⟩,
   ⟨(tm (fun x => { x with src := some 2, lanes := [(2, { peerState := 0 })] }) base), by decide, by decide⟩,
   ⟨base, by decide⟩⟩

theorem test_TimebaseAndRoot_hyps :
  (∃ (s : State), live s = true ∧ s.tmb.st = .stepped ∧ 64 ≤ (useExchange s).tmb.lockCnt ∧ isRoot s = false) ∧
  (∃ (s : State), live s = true ∧ s.tmb.st = .locked ∧ af s 0x304C 16 8 ≤ (useExchange s).tmb.unlockCnt ∧
    (useExchange s).tmb.unlockCnt ≠ 0) ∧
  (∃ (s : State), live s = true ∧ (s.tmb.st = .stepped ∨ s.tmb.st = .locked) ∧ isRoot s = false ∧ srcLost s = true) ∧
  (∃ (t : Nat) (s : State), live s = true ∧ s.tmb.st = .holdover ∧ 1000 < effBound s t ∧ s.tmb.hoTunl = false) ∧
  (∃ (s : State), running s = true ∧ stepDue s = true ∧ s.tmb.ser < 16) ∧
  (∃ (s : State), stepDue s = false) ∧
  (∃ (s : State), running s = true ∧ directOk s .tmb 0 = true) ∧
  (∃ (s : State), live s = true ∧ s.jtag.held = false ∧ isRoot s = true ∧ s.tmb.pps.todValid = true ∧ s.tmb.pps.first = none) ∧
  (∃ (t : Nat) (a : Nat) (s : State), live s = true ∧ s.jtag.held = false ∧ isRoot s = true ∧ s.tmb.pps.todValid = true ∧
    s.tmb.pps.first = some a ∧ |((t : Int) - a) - (tauHz : Int)| * 10000 ≤ (tauHz : Int)) ∧
  (∃ (t : Nat) (a : Nat) (s : State), live s = true ∧ s.jtag.held = false ∧ isRoot s = true ∧ s.tmb.pps.todValid = true ∧
    s.tmb.pps.first = some a ∧ (tauHz : Int) < |((t : Int) - a) - (tauHz : Int)| * 10000 ∧ s.tmb.pps.next = none) ∧
  (∃ (t : Nat) (n : Nat) (s : State), live s = true ∧ s.jtag.held = false ∧ isRoot s = true ∧ s.tmb.pps.todValid = false ∧
    s.tmb.pps.next = some n ∧ |netTime s t - ppsDly s - (n : Int) * 2 ^ 64| ≤ ns64 1000) ∧
  (∃ (t : Nat) (n : Nat) (s : State), live s = true ∧ s.jtag.held = false ∧ isRoot s = true ∧ s.tmb.pps.todValid = false ∧
    s.tmb.pps.next = some n ∧ ns64 1000 < |netTime s t - ppsDly s - (n : Int) * 2 ^ 64|) ∧
  (∃ (s : State), (live s = false ∨ s.jtag.held = true ∨ isRoot s = false)) ∧
  (∃ (t : Nat) (n : Nat) (s : State), live s = true ∧ isRoot s = true ∧ s.tmb.pps.next = some n ∧
    (n : Int) * 2 ^ 64 + ns64 1000000 ≤ netTime s t - ppsDly s ∧ 1 ≤ s.tmb.pps.miss ∧ (s.tmb.st = .stepped ∨
    s.tmb.st = .locked)) ∧
  (∃ (t : Nat) (n : Nat) (s : State), live s = true ∧ isRoot s = true ∧ s.tmb.pps.next = some n ∧
    (n : Int) * 2 ^ 64 + ns64 1000000 ≤ netTime s t - ppsDly s ∧ s.tmb.pps.miss = 0) :=
  ⟨⟨(tm (fun x => { x with st := .stepped, lockCnt := 64 }) base), by decide, by decide, by decide, by decide⟩,
   ⟨(tm (fun x => { x with st := .locked, unlockCnt := 255 }) base), by decide, by decide, by decide, by decide⟩,
   ⟨(tm (fun x => { x with st := .locked, miss := 3 }) base), by decide, by decide, by decide, by decide⟩,
   ⟨1024, (tm (fun x => { x with st := .holdover, hoE0 := 1001 }) base), by decide, by decide, by decide, by decide⟩,
   ⟨(tm (fun x => { x with step := some (.delta (2^60)), ser := 15 }) base), by decide, by decide, by decide⟩,
   ⟨base, by decide⟩,
   ⟨(exp .tmb 0 base), by decide, by decide⟩,
   ⟨(sr 0x3040 1#32 (tm (fun x => { x with pps := { todValid := true } }) base)), by decide, by decide, by decide, by decide,
     by decide⟩,
   ⟨(512 + tauHz + tauHz / 20000), 512,
     (sr 0x3040 1#32 (tm (fun x => { x with pps := { todValid := true, first := some 512 } }) base)), by decide, by decide,
     by decide, by decide, by decide, by decide⟩,
   ⟨(512 + 2 * tauHz), 512, (sr 0x3040 1#32 (tm (fun x => { x with pps := { todValid := true, first := some 512 } }) base)),
     by decide, by decide, by decide, by decide, by decide, by decide, by decide⟩,
   ⟨512, 0, (sr 0x3040 1#32 (tm (fun x => { x with pps := { next := some 0, disc := 3 } }) base)), by decide, by decide,
     by decide, by decide, by decide, by decide⟩,
   ⟨(tauHz / 2), 0, (sr 0x3040 1#32 (tm (fun x => { x with pps := { next := some 0, disc := 7 } }) base)), by decide,
     by decide, by decide, by decide, by decide, by decide⟩,
   ⟨base, by decide⟩,
   ⟨tauHz, 0, (sr 0x3040 1#32 (tm (fun x => { x with st := .locked, pps := { next := some 0, miss := 1 } }) base)), by decide,
     by decide, by decide, by decide, by decide, by decide⟩,
   ⟨tauHz, 0, (sr 0x3040 1#32 (tm (fun x => { x with pps := { next := some 0 } }) base)), by decide, by decide, by decide,
     by decide, by decide⟩⟩

theorem test_TimedEvents_hyps :
  (∃ (s : State), running s = true ∧ directOk s .tmb 0 = true) ∧
  (∃ (e : Nat) (s : State), e < 16 ∧ running s = true ∧ directOk s .tmb 0 = true ∧ evtArmOk s e = true) ∧
  (∃ (e : Nat) (s : State), e < 16 ∧ running s = true ∧ directOk s .tmb 0 = true ∧ evtArmOk s e = false) ∧
  (∃ (s : State), running s = true ∧ directOk s .tmb 0 = true) ∧
  (∃ (s : State), running s = true ∧ directOk s .tmb 0 = true) ∧
  (∃ (pin : Nat) (t : Nat) (a : Nat) (b : Nat) (s : State), live s = true ∧ tget [] s.tmb.pulse pin = [(a, b)] ∧ b ≤ t) ∧
  (∃ (e : Nat) (t : Nat) (s : State), running s = true ∧ e < 16 ∧ evtArmed s e = true ∧ evtAt s e ≤ netTime s t ∧
    sleeping s = false ∧ af s (evtCfgA e) 0 4 = 4) ∧
  (∃ (e : Nat) (t : Nat) (s : State), running s = true ∧ e < 16 ∧ evtArmed s e = true ∧ evtAt s e ≤ netTime s t ∧
    sleeping s = false) ∧
  (∃ (e : Nat) (t : Nat) (s : State), running s = true ∧ e < 16 ∧ evtArmed s e = true ∧ evtAt s e ≤ netTime s t ∧
    sleeping s = true ∧ af s (evtCfgA e) 0 4 ≠ 5) :=
  ⟨⟨(exp .tmb 0 { base with c := 99 }), by decide, by decide⟩,
   ⟨15, (sr (evtCfgA 15) 5#32 (sr 0x32F4 1#32 (exp .tmb 0 base))), by decide, by decide, by decide, by decide⟩,
   ⟨15, (sr (evtCfgA 15) 9#32 (exp .tmb 0 base)), by decide, by decide, by decide, by decide⟩,
   ⟨(sr (evtCfgA 15) 5#32 (sr 0x32F4 1#32 (exp .tmb 0 base))), by decide, by decide⟩,
   ⟨(exp .tmb 0 (tm (fun x => { x with evtArm := 5 }) base)), by decide, by decide⟩,
   ⟨3, 512, 5, 512, (tm (fun x => { x with pulse := [(3, [(5, 512)])] }) base), by decide, by decide, by decide⟩,
   ⟨15, 512, (sr (evtCfgA 15) 0x4#32 (tm (fun x => { x with evtArm := 0x8000 }) base)), by decide, by decide, by decide,
     by decide, by decide, by decide⟩,
   ⟨15, 512, (sr (evtCfgA 15) 0x3#32 (tm (fun x => { x with evtArm := 0x8000 }) base)), by decide, by decide, by decide,
     by decide, by decide⟩,
   ⟨15, 512, (sr (evtCfgA 15) 0x104#32 (tm (fun x => { x with evtArm := 0x8000 }) { base with pwr := { base.pwr with sleep := .asleep } })), by decide, by decide, by decide, by decide, by decide, by decide⟩⟩

theorem test_TriggersAndPlans_hyps :
  (∃ (t : Nat) (j : Nat) (s : State), running s = true ∧ directOk s .acq 0 = true ∧ instRegs s 0xD150 = 0 ∧ j < 8 ∧
    bit (rg s (cpA j 0xC)) 19 = true ∧ (∀ q, q < 8 → q ≠ j → bit (rg s (cpA q 0xC)) 19 = false) ∧ (srcPub s 19).1 = false ∧
    ((plan s j).st = .filling ∨ (plan s j).st = .ready) ∧ (plan s j).kFirst + planPre s j ≤ planIdx s j (forceAt t s) ∧
    planNext (plan s j) + planPre s j ≤ planIdx s j (forceAt t s) + planS s j ∧
    planIdx s j (forceAt t s) < planNext (plan s j) + 64 * planOdr s j) ∧
  (∃ (t : Nat) (j : Nat) (s : State), running s = true ∧ directOk s .acq 0 = true ∧ instRegs s 0xD150 = 0 ∧ j < 8 ∧
    bit (rg s (cpA j 0xC)) 19 = true ∧ (∀ q, q < 8 → q ≠ j → bit (rg s (cpA q 0xC)) 19 = false) ∧ (srcPub s 19).1 = false ∧
    (plan s j).st = .ready ∧ planIdx s j (forceAt t s) < (plan s j).kFirst + planPre s j) ∧
  (∃ (n : Nat) (e : PinEdge) (s : State), live s = true ∧ s.jtag.held = false ∧ n < 2 ∧ bit (rg s 0x30B0) n = true ∧
    tget none s.tmb.trigLast n = none ∧ 2014 ≤ e.low ∧ 2014 ≤ e.high) ∧
  (∃ (n : Nat) (x : Nat) (e : PinEdge) (s : State), tget none s.tmb.trigLast n = some x ∧ e.t ≤ x + usTau 1) ∧
  (∃ (n : Nat) (e : PinEdge) (s : State), (e.low < 2014 ∨ e.high < 2014 ∨ 2 ≤ n ∨ bit (rg s 0x30B0) n = false ∨
    s.jtag.held = true ∨ live s = false)) ∧
  (∃ (n : Nat) (k : TrigPkt) (s : State), rxOk s n = true ∧ (lane s n).lk.e < 65536 ∧ (k.origin, k.line % 8, k.id) ∈ s.dups ∧
    (lane s n).lk.acc + 1 < af s (lnkReg n 0x100) 0 8) ∧
  (∃ (n : Nat) (k : TrigPkt) (s : State), rxOk s n = true ∧ (lane s n).lk.e < 65536 ∧ (k.origin, k.line % 8, k.id) ∉ s.dups ∧
    (af s 0xD144 16 8).testBit (k.line % 8) = true) :=
  ⟨⟨0, 7, (exp .acq 0 (sr (cpA 7 0) 0x10#32 (sr (cpA 7 0xC) 0x80000#32 (sr (cpA 7 4) 1#32 (sr (cpA 7 8) 1#32 (pl 7 { st := .ready } { base with c := 0 })))))), by decide, by decide, by decide, by decide, by decide, by decide, by decide, by decide, by decide +kernel, by decide +kernel, by decide +kernel⟩,
   ⟨0, 7, (exp .acq 0 (sr (cpA 7 0xC) 0x80000#32 (pl 7 { st := .ready, kFirst := 2^40 } base))), by decide, by decide,
     by decide, by decide, by decide, by decide, by decide, by decide, by decide +kernel⟩,
   ⟨1, (⟨512, 2014, 2014⟩), (sr 0x30B0 2#32 base), by decide, by decide, by decide, by decide, by decide, by decide, by decide⟩,
   ⟨1, 105, (⟨5, 3000, 3000⟩), (sr 0x30B0 2#32 (tm (fun x => { x with trigLast := [(1, some 105)] }) base)), by decide,
     by decide⟩,
   ⟨1, (⟨512, 2013, 2014⟩), (sr 0x30B0 2#32 base), by decide⟩,
   ⟨7, (⟨3, 1, 5, 9, 77, 2, 1, 3⟩), { ln 7 { st := .up, lk := { e := 65535 } } base with dups := [(9, 3, 5)] }, by decide,
     by decide, by decide, by decide⟩,
   ⟨7, (⟨7, 1, 5, 9, 77, 2, 1, 3⟩), (sr 0xD144 0x800000#32 (ln 7 { st := .up, lk := { e := 65535 } } base)), by decide,
     by decide, by decide, by decide⟩⟩

theorem test_CapturePlans_hyps :
  (∃ (j : Nat) (s : State), j < 8 ∧ running s = true ∧ directOk s .acq 0 = true ∧ planNbk s j ≠ 0 ∧ ((plan s j).st = .idle ∨
    (plan s j).st = .held) ∧ (plan s j).offl = none ∧ s.hub.st ≠ .safe ∧ (∀ b, b < 12 → planHasBank s j b = true →
    bankOwner s b = ownAcq)) ∧
  (∃ (j : Nat) (s : State), j < 8 ∧ running s = true ∧ directOk s .acq 0 = true ∧ planNbk s j ≠ 0 ∧ ((plan s j).st = .filling ∨
    (plan s j).st = .ready ∨ (plan s j).st = .post)) ∧
  (∃ (j : Nat) (b : Nat) (s : State), j < 8 ∧ running s = true ∧ directOk s .acq 0 = true ∧ planNbk s j ≠ 0 ∧
    ((plan s j).st = .idle ∨ (plan s j).st = .held) ∧ (plan s j).offl = none ∧ s.hub.st ≠ .safe ∧ b < 12 ∧
    planHasBank s j b = true ∧ bankOwner s b ≠ ownAcq) ∧
  (∃ (j : Nat) (s : State), j < 8 ∧ running s = true ∧ directOk s .acq 0 = true ∧ planNbk s j = 0) ∧
  (∃ (j : Nat) (s : State), j < 8 ∧ running s = true ∧ directOk s .acq 0 = true ∧ ((plan s j).st = .idle ∨
    (plan s j).st = .held)) ∧
  (∃ (j : Nat) (s : State), j < 8 ∧ running s = true ∧ directOk s .acq 0 = true ∧ ((plan s j).st = .filling ∨
    (plan s j).st = .ready)) ∧
  (∃ (j : Nat) (s : State), j < 8 ∧ running s = true ∧ directOk s .acq 0 = true ∧ (plan s j).st = .post) ∧
  (∃ (j : Nat) (s : State), j < 8 ∧ running s = true ∧ directOk s .acq 0 = true ∧ (plan s j).st = .held ∧
    (plan s j).offl = none) ∧
  (∃ (j : Nat) (s : State), j < 8 ∧ running s = true ∧ directOk s .acq 0 = true ∧ (plan s j).st = .held ∧
    (plan s j).offl = none) ∧
  (∃ (j : Nat) (s : State), j < 8 ∧ running s = true ∧ directOk s .acq 0 = true ∧ (plan s j).st ≠ .held) ∧
  (∃ (j : Nat) (o : Offl) (s : State), live s = true ∧ (plan s j).st = .held ∧ (plan s j).offl = some o ∧
    waiter s (.offload j) = none) :=
  ⟨⟨7, (exp .acq 0 (sr (cpA 7 0) 0x1B#32 (bk 11 1 base))), by decide, by decide, by decide, by decide, by decide, by decide,
    by decide, by decide⟩,
   ⟨7, (exp .acq 0 (sr (cpA 7 0) 0x1B#32 (pl 7 { st := .post } base))), by decide, by decide, by decide, by decide, by decide⟩,
   ⟨7, 11, (exp .acq 0 (sr (cpA 7 0) 0x1B#32 base)), by decide, by decide, by decide, by decide, by decide, by decide,
     by decide, by decide, by decide, by decide⟩,
   ⟨7, (exp .acq 0 base), by decide, by decide, by decide, by decide⟩,
   ⟨7, (exp .acq 0 (pl 7 { st := .held } base)), by decide, by decide, by decide, by decide⟩,
   ⟨7, (exp .acq 0 (pl 7 { st := .ready, kFirst := 5 } base)), by decide, by decide, by decide, by decide⟩,
   ⟨7, (exp .acq 0 (pl 7 { st := .post, trig := 9 } base)), by decide, by decide, by decide, by decide⟩,
   ⟨7, (exp .acq 0 (pl 7 { st := .held, trig := 9 } base)), by decide, by decide, by decide, by decide, by decide⟩,
   ⟨7, (exp .acq 0 (sr (cpA 7 0x18) 0x15#32 (pl 7 { st := .held, trig := 9, offdone := true } base))), by decide, by decide,
     by decide, by decide, by decide⟩,
   ⟨7, (exp .acq 0 base), by decide, by decide, by decide, by decide⟩,
   ⟨7, (⟨5, false, true, 0, 0, none⟩), (pl 7 { st := .held, offl := some ⟨5, false, true, 0, 0, none⟩ } base), by decide,
     by decide, by decide, by decide⟩⟩

theorem test_CaptureMemory_hyps :
  (∃ (b : Nat) (w : Word) (s : State), b < 12 ∧ running s = true ∧ directOk s .mem 0 = true ∧
    rg s (bankCfgA b) ≠ w &&& 0x107#32 ∧ released s b = true ∧ s.mem.test ≠ some b) ∧
  (∃ (b : Nat) (w : Word) (s : State), b < 12 ∧ running s = true ∧ directOk s .mem 0 = true ∧
    rg s (bankCfgA b) ≠ w &&& 0x107#32 ∧ released s b = false) ∧
  (∃ (k : Nat) (s : State), running s = true ∧ expert s .mem 0 = true ∧ windowOk s (hBank s) = true ∧
    collKind s (hBank s) k = 0 ∧ tget 0 s.mem.errs (262144 * hBank s + hOff s / 8) = 0) ∧
  (∃ (k : Nat) (e : Nat) (s : State), running s = true ∧ expert s .mem 0 = true ∧ windowOk s (hBank s) = true ∧ (e = 1 ∨
    e = 2) ∧ collKind s (hBank s) k = 0 ∧ hBank s < 12 ∧ tget 0 s.mem.errs (262144 * hBank s + hOff s / 8) ≤ e) ∧
  (∃ (h : MemHit) (s : State), running s = true ∧ expert s .mem 0 = true ∧ windowOk s (hBank s) = true ∧
    collKind s (hBank s) h.kind = 2) ∧
  (∃ (s : State), running s = true ∧ expert s .mem 0 = true ∧ windowOk s (hBank s) = false) ∧
  (∃ (s : State), running s = true ∧ expert s .mem 0 = false) ∧
  (∃ (h : MemHit) (s : State), running s = true ∧ directOk s .mem 0 = true ∧ windowOk s (hBank s) = true ∧
    (collKind s (hBank s) h.kind = 1 ∨ collKind s (hBank s) h.kind = 3)) ∧
  (∃ (k : Nat) (s : State), running s = true ∧ directOk s .mem 0 = true ∧ windowOk s (hBank s) = true ∧
    collKind s (hBank s) k = 0) ∧
  (∃ (s : State), running s = true ∧ directOk s .mem 0 = true ∧ windowOk s (hBank s) = false) ∧
  (∃ (s : State), live s = true ∧ af s 0xA0E8 0 8 ≠ 0 ∧ s.pwr.sleep ≠ .asleep ∧ (∀ m, m < 12 →
    tget 0 s.mem.errs (262144 * m + tget 0 s.mem.scrub m) = 0)) ∧
  (∃ (w : Word) (s : State), running s = true ∧ directOk s .mem 0 = true ∧ bit w 31 = true ∧ fld w 16 9 < 384 ∧
    bankOwner s (fld w 16 9 / 32) = ownNone ∧ (∀ r ∈ s.mem.repair, r.1 = fld w 16 9 → r.2.1 = fld w 9 2 → r.2.2.2 = false)) ∧
  (∃ (w : Word) (s : State), running s = true ∧ directOk s .mem 0 = true ∧ bit w 8 = true ∧ fld w 0 4 < 12 ∧
    s.mem.test = none ∧ bankOwner s (fld w 0 4) = ownNone) ∧
  (∃ (w : Word) (s : State), running s = true ∧ directOk s .mem 0 = true ∧ bit w 8 = true ∧ s.mem.test.isSome = true ∧
    fld w 0 4 < 12) ∧
  (∃ (b : Nat) (s : State), s.mem.test = some b) :=
  ⟨⟨11, 0x105#32, (exp .mem 0 base), by decide, by decide, by decide, by decide, by decide, by decide⟩,
   ⟨11, 0x105#32, (exp .mem 0 (sr (cpA 7 0) 0x1B#32 (pl 7 { st := .held } (bk 11 1#32 base)))), by decide, by decide,
     by decide, by decide, by decide⟩,
   ⟨2, (exp .mem 0 (sr 0xA0D0 0x81600008#32 (bk 11 4#32 { base with mem := { words := [(2883585, 2^63+5)] } }))), by decide,
     by decide, by decide, by decide, by decide⟩,
   ⟨0, 1, (exp .mem 0 (bk 11 4#32 (sr 0xA0D0 0x817FFFF8#32 { base with mem := { words := [(3145727, 7)], errs := [(3145727, 1)] } }))), by decide, by decide, by decide, by decide, by decide, by decide, by decide⟩,
   ⟨(⟨2, 2⟩), (exp .mem 0 (bk 11 0x101#32 (sr 0xA0D0 0x817FFFF8#32 { base with mem := { words := [(3145727, 7)] } }))),
     by decide, by decide, by decide, by decide⟩,
   ⟨(exp .mem 0 base), by decide, by decide, by decide⟩,
   ⟨base, by decide, by decide⟩,
   ⟨(⟨3, 0⟩), (exp .mem 0 (bk 11 0x101#32 (sr 0xA0D0 0x817FFFF8#32 { base with mem := { words := [(3145727, 7)] } }))),
     by decide, by decide, by decide, by decide⟩,
   ⟨2, (exp .mem 0 (sr 0xA0D0 0x81600008#32 (bk 11 4#32 { base with mem := { words := [(2883585, 2^63+5)] } }))), by decide,
     by decide, by decide, by decide⟩,
   ⟨(exp .mem 0 base), by decide, by decide, by decide⟩,
   ⟨(sr 0xA0E8 1#32 { base with mem := { scrub := [(0, 3145727), (12, 7)] } }), by decide, by decide, by decide, by decide⟩,
   ⟨0x817F0401#32, (exp .mem 0 { base with mem := { words := [(3137537, 5), (5, 6)] } }), by decide, by decide, by decide,
     by decide, by decide, by decide⟩,
   ⟨0x10B#32, (exp .mem 0 base), by decide, by decide, by decide, by decide, by decide, by decide⟩,
   ⟨0x10B#32, (exp .mem 0 { base with mem := { test := some 3 } }), by decide, by decide, by decide, by decide, by decide⟩,
   ⟨11, { base with mem := { test := some 11, words := [(5, 6), (2883585, 7)] } }, by decide⟩⟩

theorem test_QueueControl_hyps :
  (∃ (s : State), running s = true ∧ directOk s .que 0 = true ∧ af s 0xB04C 4 4 < 8 ∧
    reads s (af s 0xB04C 0 4) (af s 0xB04C 4 4) = true ∧
    fullPos (queue s (af s 0xB04C 0 4)) (rg s 0xB058).toNat ≤ ((queue s (af s 0xB04C 0 4)).wp : Int) ∧
    ((queue s (af s 0xB04C 0 4)).wm : Int) ≤ fullPos (queue s (af s 0xB04C 0 4)) (rg s 0xB058).toNat ∧
    (∃ r ∈ (queue s (af s 0xB04C 0 4)).recs, (r.pos : Int) = fullPos (queue s (af s 0xB04C 0 4)) (rg s 0xB058).toNat)) ∧
  (∃ (s : State), running s = true ∧ directOk s .que 0 = true ∧
    ((queue s (af s 0xB04C 0 4)).wp : Int) < fullPos (queue s (af s 0xB04C 0 4)) (rg s 0xB058).toNat) ∧
  (∃ (s : State), running s = true ∧ directOk s .que 0 = true ∧ af s 0xB04C 4 4 < 8 ∧
    reads s (af s 0xB04C 0 4) (af s 0xB04C 4 4) = true ∧ (queue s (af s 0xB04C 0 4)).wm ≤ (queue s (af s 0xB04C 0 4)).wp ∧
    fullPos (queue s (af s 0xB04C 0 4)) (rg s 0xB058).toNat < ((queue s (af s 0xB04C 0 4)).wm : Int)) ∧
  (∃ (q : Nat) (s : State), q < 16 ∧ running s = true ∧ directOk s .que 0 = true ∧ (queue s q).flush = false ∧
    queWriting s q = true) ∧
  (∃ (q : Nat) (s : State), q < 16 ∧ running s = true ∧ directOk s .que 0 = true ∧ (queue s q).flush = true) ∧
  (∃ (q : Nat) (s : State), q < 16 ∧ running s = true ∧ directOk s .que 0 = true ∧ (queue s q).flush = false ∧
    queWriting s q = false) ∧
  (∃ (q : Nat) (s : State), live s = true ∧ (queue s q).flush = true) ∧
  (∃ (q : Nat) (s : State), q < 16 ∧ running s = true ∧ directOk s .que 0 = true) :=
  ⟨⟨(sr 0xB04C 0x75#32 (sr 0xB058 3#32 (sr (rteCfgA 3) 0x80050700#32 (exp .que 0 (qx 5 { wp := 9, wm := 2, recs := [⟨.resync, 3, 1, false, [], 0, 0⟩] } base))))), by decide, by decide, by decide, by decide, by decide, by decide, by decide⟩,
   ⟨(sr 0xB04C 0x75#32 (sr 0xB058 10#32 (exp .que 0 (qx 5 { wp := 9, wm := 2 } base)))), by decide, by decide, by decide⟩,
   ⟨(sr 0xB04C 0x75#32 (sr 0xB058 1#32 (sr (rteCfgA 3) 0x80050700#32 (exp .que 0 (qx 5 { wp := 9, wm := 4, lde := 2 } base))))), by decide, by decide, by decide, by decide, by decide, by decide⟩,
   ⟨15, (exp .que 0 (pl 7 { st := .held, offl := some ⟨15, false, true, 0, 0, none⟩ } base)), by decide, by decide, by decide,
     by decide, by decide⟩,
   ⟨15, (exp .que 0 (qx 15 { flush := true } base)), by decide, by decide, by decide, by decide⟩,
   ⟨15, (exp .que 0 (qx 15 { wp := 5, wm := 2, recs := [⟨.resync, 2, 3, false, [], 0, 0⟩] } base)), by decide, by decide,
     by decide, by decide, by decide⟩,
   ⟨15, (qx 15 { wp := 5, wm := 2, flush := true } base), by decide, by decide⟩,
   ⟨15, (sr (rteCfgA 3) 0x800F0700#32 (ln 7 { st := .up, lk := { peerPath := true } } (exp .que 0 (qx 15 { wp := 5, wm := 2, rdrs := [(7, { rd := 3 })] } base)))), by decide, by decide, by decide⟩⟩

theorem test_CompressionJobs_hyps :
  (∃ (w : Word) (s : State), running s = true ∧ directOk s .cmp 0 = true ∧ s.arc.job = none ∧
    jobCheck (setRg 0xC070 (w &&& 0xF0#32) s) (arcJob (setRg 0xC070 (w &&& 0xF0#32) s)) true = 0 ∧ 1 ≤ fld w 4 4 ∧
    fld w 4 4 ≤ 9 ∧ 256 ≤ (rg s 0xC06C).toNat) ∧
  (∃ (w : Word) (s : State), running s = true ∧ directOk s .cmp 0 = true ∧ s.dcmp.job = none ∧ fld w 4 2 ≤ 1 ∧
    jobCheck (setRg 0xC090 (w &&& 0x30#32) s) (dcmpJob (setRg 0xC090 (w &&& 0x30#32) s)) true = 0) ∧
  (∃ (w : Word) (j : Job) (s : State), running s = true ∧ directOk s .cmp 0 = true ∧ s.arc.job = some j ∧ bit w 1 = false) ∧
  (∃ (w : Word) (j : Job) (s : State), running s = true ∧ directOk s .cmp 0 = true ∧ s.dcmp.job = some j ∧ bit w 1 = false) ∧
  (∃ (j : Job) (s : State), running s = true ∧ directOk s .cmp 0 = true ∧ s.arc.job = some j) ∧
  (∃ (j : Job) (s : State), running s = true ∧ directOk s .cmp 0 = true ∧ s.dcmp.job = some j) ∧
  (∃ (j : Job) (s : State), live s = true ∧ s.arc.job = some j ∧ 28 ≤ j.dlen) ∧
  (∃ (j : Job) (s : State), live s = true ∧ s.dcmp.job = some j) :=
  ⟨⟨0x63#32, (exp .cmp 0 (sr 0xC064 8#32 (sr 0xC068 0x200000#32 (sr 0xC06C 256#32 (bk 0 3#32 (bk 1 3#32 base)))))), by decide,
    by decide, by decide, by decide, by decide, by decide, by decide⟩,
   ⟨0x11#32, (exp .cmp 0 (sr 0xC084 8#32 (sr 0xC088 0x200000#32 (sr 0xC08C 256#32 (bk 0 3#32 (bk 1 3#32 base)))))), by decide,
     by decide, by decide, by decide, by decide⟩,
   ⟨1#32, (⟨0, 8, 0, 256, 1, 0, 0, false⟩), (exp .cmp 0 { base with arc := { job := some ⟨0, 8, 0, 256, 1, 0, 0, false⟩ } }),
     by decide, by decide, by decide, by decide⟩,
   ⟨1#32, (⟨0, 8, 0, 256, 1, 0, 0, false⟩), (exp .cmp 0 { base with dcmp := { job := some ⟨0, 8, 0, 256, 1, 0, 0, false⟩ } }),
     by decide, by decide, by decide, by decide⟩,
   ⟨(⟨0, 8, 0, 256, 1, 0, 0, false⟩), (exp .cmp 0 { base with arc := { job := some ⟨0, 8, 0, 256, 1, 0, 0, false⟩ } }),
     by decide, by decide, by decide⟩,
   ⟨(⟨0, 8, 0, 256, 1, 0, 0, false⟩), (exp .cmp 0 { base with dcmp := { job := some ⟨0, 8, 0, 256, 1, 0, 0, false⟩ } }),
     by decide, by decide, by decide⟩,
   ⟨(⟨0, 8, 4104, 28, 6, 0, 0, false⟩),
     { base with arc := { job := some ⟨0, 8, 4104, 28, 6, 0, 0, false⟩ }, mem := { words := [(0, 5), (512, 7), (513, 8), (516, 8), (517, 9)] } }, by decide, by decide, by decide⟩,
   ⟨(⟨0, 64, 4104, 28, 0, 0, 0, false⟩),
     { base with dcmp := { job := some ⟨0, 64, 4104, 28, 0, 0, 0, false⟩ }, mem := { words := [(0, 5), (512, 7), (513, 8), (516, 8), (517, 9)] } }, by decide, by decide⟩⟩

theorem test_LaneLosses_hyps :
  (∃ (n : Nat) (s : State), isSuarn s n = true ∧ live s = true ∧ bit (rg s (lnkReg n 0x40)) 4 = true) ∧
  (∃ (n : Nat) (s : State), n < 8 ∧ live s = true ∧ bit (rg s (lnkReg n 0x40)) 4 = false) ∧
  (∃ (n : Nat) (s : State), isSuarn s n = true ∧ live s = true ∧ (lane s n).rate ≤ 2) ∧
  (∃ (n : Nat) (s : State), isSuarn s n = true ∧ live s = true ∧ (lane s n).rate ≤ 2) ∧
  (∃ (n : Nat) (s : State), n < 8 ∧ isSuarn s n = false ∧ live s = true ∧ (lane s n).rate ≤ 2) ∧
  (∃ (n : Nat) (s : State), 2 < (lane s n).rate) ∧
  (∃ (n : Nat) (bad : List Nat) (s : State), isSuarn s n = true ∧ live s = true ∧ alignLost bad = true) ∧
  (∃ (bad : List Nat), alignLost bad = false) ∧
  (∃ (n : Nat) (t : Nat) (r : Nat) (s : State), isSuarn s n = true ∧ live s = true ∧ (lane s n).step = some r ∧
    (lane s n).switched = true ∧ (lane s n).st = .align ∧ (lane s n).swAt + usTau 2000 ≤ t) ∧
  (∃ (n : Nat) (s : State), isSuarn s n = true ∧ live s = true ∧ (lane s n).st = .degraded ∧
    bit (rg s (lnkReg n 0x40)) 5 = true ∧ af s (lnkReg n 0x4C) 0 16 ≤ (lane s n).deg) ∧
  (∃ (n : Nat) (s : State), linkLive s = true ∧ n < 8 ∧ laneUp s n = true ∧ 3 ≤ (lane s n).lk.ka) :=
  ⟨⟨7, (sr (lnkReg 7 0x40) 0x10#32 (ln 7 { st := .up, rate := 3, lk := { un := [⟨{ ty := 1 }, 1, 0, 0, none, 0, 0, none, false⟩] } } base)), by decide, by decide, by decide⟩,
   ⟨7, (sr (lnkReg 7 0x40) 0#32 (ln 7 { st := .up } base)), by decide, by decide, by decide⟩,
   ⟨7, (sr (lnkReg 7 0x40) 0#32 (ln 7 { st := .up, rate := 2 } base)), by decide, by decide, by decide⟩,
   ⟨7, (sr (lnkReg 7 0x40) 0#32 (ln 7 { st := .align, rate := 0 } base)), by decide, by decide, by decide⟩,
   ⟨7, (sr (lnkReg 7 0x40) 1#32 (ln 7 { rate := 2 } base)), by decide, by decide, by decide, by decide⟩,
   ⟨7, (sr (lnkReg 7 0x40) 0#32 (ln 7 { st := .up, rate := 3 } base)), by decide⟩,
   ⟨7, ([3, 9, 10, 20, 21, 30, 50, 66]), (sr (lnkReg 7 0x40) 0#32 (ln 7 { st := .degraded, rate := 6 } base)), by decide,
     by decide, by decide⟩,
   ⟨([3, 9, 10, 20, 21, 30, 50, 67]), by decide⟩,
   ⟨7, 3000000000, 6, (sr (lnkReg 7 0x40) 0#32 (ln 7 { st := .align, rate := 6, step := some 6, switched := true } base)),
     by decide, by decide, by decide, by decide, by decide, by decide⟩,
   ⟨7, (sr (lnkReg 7 0x40) 0x20#32 (sr (lnkReg 7 0x4C) 5#32 (ln 7 { st := .degraded, rate := 6, deg := 5 } base))), by decide,
     by decide, by decide, by decide, by decide⟩,
   ⟨7, (sr (lnkReg 7 0x40) 0x20#32 (ln 7 { st := .up, rate := 6, lk := { ka := 3 } } base)), by decide, by decide, by decide,
     by decide⟩⟩

theorem test_LaneBringUp_hyps :
  (∃ (n : Nat) (s : State), n < 8 ∧ live s = true) ∧
  (∃ (n : Nat) (at_ : Nat) (inv : Bool) (commas : List (Nat × Bool)) (s : State), isSuarn s n = true ∧ lanesPowered s = true ∧
    (lane s n).st = .down ∧ sleeping s = false ∧ laneHeld s n = false ∧ alignedAt commas = some (at_, inv)) ∧
  (∃ (n : Nat) (commas : List (Nat × Bool)) (s : State), (laneHeld s n = true ∨ alignedAt commas = none)) ∧
  (∃ (n : Nat) (off : Nat) (rd : Bool) (syms : List Nat) (s : State), isSuarn s n = true ∧ live s = true ∧
    (lane s n).st ≠ .down ∧ setRead s n off rd syms = none) ∧
  (∃ (n : Nat) (off : Nat) (mask : Nat) (run : Nat) (rd : Bool) (syms : List Nat) (step : Option Nat) (s : State),
    isSuarn s n = true ∧ live s = true ∧ (lane s n).st ≠ .down ∧ setRead s n off rd syms = some (mask, step) ∧
    (lane s n).sets + run < 1024) ∧
  (∃ (n : Nat) (s : State), isSuarn s n = true ∧ lanesPowered s = true ∧ (lane s n).st = .align ∧ (lane s n).sets = 1024 ∧
    (lane s n).maskRun = 64 ∧ commonRate s n = (lane s n).rate ∧ ((lane s n).step = none ∨ (lane s n).switched = true) ∧
    fomUp s n = true ∧ (lane s n).acq = false) ∧
  (∃ (n : Nat) (s : State), isSuarn s n = true ∧ lanesPowered s = true ∧ (lane s n).st = .align ∧ (lane s n).sets = 1024 ∧
    (lane s n).maskRun = 64 ∧ commonRate s n ≠ (lane s n).rate ∧ (lane s n).switched = true ∧ fomUp s n = true ∧
    (lane s n).acq = false) ∧
  (∃ (n : Nat) (r : Nat) (sent : Nat) (s : State), isSuarn s n = true ∧ linkLive s = true ∧ (lane s n).step = some r ∧
    (lane s n).switched = false ∧ (lane s n).stepRx = 64 ∧ 64 ≤ sent) :=
  ⟨⟨7, (ln 7 { losPin := true, lol := true } base), by decide, by decide⟩,
   ⟨7, 30, true, (List.replicate 9 (30, true)), (sr (lnkReg 7 0x40) 0#32 base), by decide, by decide, by decide, by decide,
     by decide, by decide⟩,
   ⟨7, (List.replicate 7 (30, true)), (sr (lnkReg 7 0x40) 0x10#32 (ln 7 { losPin := true } base)), by decide⟩,
   ⟨7, 10, true, ([1, 2, 3, 4]), (sr (lnkReg 7 0x40) 0#32 (ln 7 { st := .align, sets := 9 } base)), by decide, by decide,
     by decide, by decide⟩,
   ⟨7, 0, 0x41, 5, false, ([380, 849, 657, 185]), none, (sr (lnkReg 7 0x40) 0#32 (ln 7 { st := .align, sets := 1018 } base)),
     by decide, by decide, by decide, by decide, by decide⟩,
   ⟨7, (sr (lnkReg 7 0x40) 0#32 (ln 7 { st := .align, sets := 1024, maskRun := 64, pmask := 1, mask := 1 } base)), by decide,
     by decide, by decide, by decide, by decide, by decide, by decide, by decide, by decide⟩,
   ⟨7, (sr (lnkReg 7 0x40) 0#32 (ln 7 { st := .align, rate := 3, step := some 3, switched := true, sets := 1024, maskRun := 64, pmask := 1, mask := 1, fom := 255 } base)), by decide, by decide, by decide, by decide, by decide, by decide, by decide, by decide, by decide⟩,
   ⟨7, 3, 64, (sr (lnkReg 7 0x40) 0#32 (ln 7 { st := .align, step := some 3, stepRx := 64 } base)), by decide, by decide,
     by decide, by decide, by decide, by decide⟩⟩

theorem test_LaneQualityAndPatterns_hyps :
  (∃ (n : Nat) (c : Nat) (s : State), n < 8 ∧ live s = true ∧ tget 0 (lane s n).failAt c + 3600 * tauHz ≤ 256 * s.c) ∧
  (∃ (n : Nat) (s : State), n < 8 ∧ running s = true ∧ directOk s .lnk n = true) ∧
  (∃ (n : Nat) (s : State), live s = true ∧ isSuarn s n = true ∧ (lane s n).acq = true ∧ 3 ≤ (lane s n).rate) ∧
  (∃ (n : Nat) (s : State), isSuarn s n = true ∧ live s = true ∧ (lane s n).st = .up ∧
    af s (lnkReg n 0x48) 8 8 ≤ (lane s n).bad ∧ (lane s n).bad ≠ 0) ∧
  (∃ (n : Nat) (s : State), isSuarn s n = true ∧ live s = true ∧ (lane s n).st = .degraded ∧ 256 ≤ (lane s n).clean ∧
    fomUp s n = true) ∧
  (∃ (n : Nat) (s : State), n < 8 ∧ running s = true ∧ directOk s .lnk n = true) ∧
  (∃ (n : Nat) (s : State), n < 8 ∧ running s = true ∧ directOk s .lnk n = true ∧ bit (rg s (lnkReg n 0x60)) 5 = false) ∧
  (∃ (n : Nat) (rx : List Bool) (s : State), prbsOn s n = true ∧ live s = true ∧ bit (rg s (lnkReg n 0x60)) 5 = true ∧
    prbsPredicts s n 64 rx = true) ∧
  (∃ (n : Nat) (rx : List Bool) (s : State), (bit (rg s (lnkReg n 0x60)) 5 = false ∨ prbsPredicts s n 64 rx = false)) ∧
  (∃ (n : Nat) (win : Nat) (s : State), prbsOn s n = true ∧ live s = true ∧ (lane s n).prbsLock = true ∧ 256 < win) ∧
  (∃ (win : Nat), win ≤ 256) :=
  ⟨⟨7, 6, { ln 7 { st := .align, fail := 127 } base with c := 3600 * 393216000 }, by decide, by decide, by decide⟩,
   ⟨7, (exp .lnk 7 (ln 7 { st := .up, fail := 127 } base)), by decide, by decide, by decide⟩,
   ⟨7, (sr (lnkReg 7 0x40) 0#32 (ln 7 { st := .align, rate := 3, acq := true } base)), by decide, by decide, by decide,
     by decide⟩,
   ⟨7, (sr (lnkReg 7 0x40) 0#32 (ln 7 { st := .up, bad := 255 } base)), by decide, by decide, by decide, by decide, by decide⟩,
   ⟨7, (sr (lnkReg 7 0x40) 0#32 (ln 7 { st := .degraded, clean := 256, rate := 2 } base)), by decide, by decide, by decide,
     by decide, by decide⟩,
   ⟨7, (exp .lnk 7 base), by decide, by decide, by decide⟩,
   ⟨7, (exp .lnk 7 (sr (lnkReg 7 0x64) 5#32 (ln 7 { prbsLock := true, prbsBits := 7 } base))), by decide, by decide, by decide,
     by decide⟩,
   ⟨7, (List.replicate 71 false), (sr (lnkReg 7 0x40) 1#32 (sr (lnkReg 7 0x60) 0x20#32 base)), by decide, by decide, by decide,
     by decide⟩,
   ⟨7, [], (sr (lnkReg 7 0x40) 1#32 base), by decide⟩,
   ⟨7, 257, (sr (lnkReg 7 0x40) 1#32 (sr (lnkReg 7 0x60) 0x20#32 (ln 7 { prbsLock := true, prbsBits := 7 } base))), by decide,
     by decide, by decide, by decide⟩,
   ⟨256, by decide⟩⟩

theorem test_LinkAcknowledgement_hyps :
  (∃ (n : Nat) (s : State), linkLive s = true ∧ n < 8 ∧ laneUp s n = true ∧ 0 < (lane s n).lk.acc) ∧
  (∃ (n : Nat) (s : State), linkLive s = true ∧ n < 8 ∧ laneUp s n = true ∧ (lane s n).lk.nak = some (lane s n).lk.e) ∧
  (∃ (n : Nat) (s : State), linkLive s = true ∧ n < 8 ∧ laneUp s n = true) ∧
  (∃ (n : Nat) (s : State), linkLive s = true ∧ n < 8 ∧ laneUp s n = true ∧ (lane s n).lk.nak ≠ some (lane s n).lk.e) ∧
  (∃ (n : Nat) (pk : Pkt) (s : State), rxOk s n = true ∧ pk.ty = 1 ∧ (lane s n).lk.e < 65536 ∧ pk.lseq = (lane s n).lk.e ∧
    lenOk pk = true ∧ lanePort s n = none ∧ (lane s n).lk.acc + 1 < af s (lnkReg n 0x100) 0 8) ∧
  (∃ (n : Nat) (i : Nat) (pk : Pkt) (s : State), rxOk s n = true ∧ pk.ty = 1 ∧ (lane s n).lk.e < 65536 ∧
    pk.lseq = (lane s n).lk.e ∧ lenOk pk = true ∧ lanePort s n = some i) ∧
  (∃ (n : Nat) (pk : Pkt) (s : State), rxOk s n = true ∧ pk.ty = 1 ∧ lenOk pk = true ∧
    61440 ≤ (pk.lseq + 65536 - (lane s n).lk.e % 65536) % 65536) ∧
  (∃ (n : Nat) (pk : Pkt) (s : State), rxOk s n = true ∧ pk.ty = 1 ∧ lenOk pk = true ∧
    (pk.lseq + 65536 - (lane s n).lk.e % 65536) % 65536 ≠ 0 ∧ (pk.lseq + 65536 - (lane s n).lk.e % 65536) % 65536 < 4096) ∧
  (∃ (n : Nat) (pk : Pkt) (s : State), rxOk s n = true ∧ pk.ty = 1 ∧ lenOk pk = false) :=
  ⟨⟨7, (ln 7 { st := .up, lk := { acc := 1 } } base), by decide, by decide, by decide, by decide⟩,
   ⟨7, (ln 7 { st := .degraded, lk := { nak := some 9, e := 9 } } base), by decide, by decide, by decide, by decide⟩,
   ⟨7, (ln 7 { st := .up } base), by decide, by decide, by decide⟩,
   ⟨7, (ln 7 { st := .up, lk := { nak := some 3 } } base), by decide, by decide, by decide, by decide⟩,
   ⟨7, { ty := 1, lseq := 65535, body := [1, 2, 3, 4] }, (ln 7 { st := .up, lk := { e := 65535 } } base), by decide, by decide,
     by decide, by decide, by decide, by decide, by decide⟩,
   ⟨7, 3, { ty := 1, lseq := 65535, first := true, last := true, body := [1, 2, 3, 4] },
     (sr (rteCfgA 3) 0x80050700#32 (ln 7 { st := .up, lk := { e := 65535 } } base)), by decide, by decide, by decide,
     by decide, by decide, by decide⟩,
   ⟨7, { ty := 1, lseq := 61440 }, (ln 7 { st := .up, lk := { e := 0, acc := 3 } } base), by decide, by decide, by decide,
     by decide⟩,
   ⟨7, { ty := 1, lseq := 4095 }, (ln 7 { st := .up, lk := { e := 0, acc := 3 } } base), by decide, by decide, by decide,
     by decide, by decide⟩,
   ⟨7, { ty := 1, lseq := 4095, body := [1] }, (ln 7 { st := .up, lk := { e := 0, acc := 3 } } base), by decide, by decide,
     by decide⟩⟩

theorem test_LinkStatusAndTransmit_hyps :
  (∃ (n : Nat) (k : LinkSt) (s : State), rxOk s n = true ∧ (lane s n).lk.un = [] ∧ k.path = (lane s n).lk.peerPath) ∧
  (∃ (n : Nat) (k : LinkSt) (s : State), rxOk s n = true ∧ k.path = (lane s n).lk.peerPath) ∧
  (∃ (n : Nat) (k : LinkSt) (s : State), rxOk s n = true ∧ (lane s n).lk.un = [] ∧ k.path ≠ (lane s n).lk.peerPath) ∧
  (∃ (n : Nat) (k : LinkSt) (s : State), rxOk s n = true ∧ (lane s n).lk.un = [] ∧ k.path = (lane s n).lk.peerPath) ∧
  (∃ (n : Nat) (k : LinkSt) (r : TxRec) (l : List TxRec) (s : State), rxOk s n = true ∧
    (lane s n).lk.un.dropWhile (fun x => decide ((k.ackseq % 65536 + 65536 - x.pk.lseq % 65536) % 65536 < 32768)) = r :: l ∧
    k.path = (lane s n).lk.peerPath ∧ r.pk.lseq = (k.ackseq + 1) % 65536 ∧ ((lane s n).lk.goback = false ∨ ∀ x ∈ l,
    x.pk.lseq ≠ (lane s n).lk.backFrom)) ∧
  (∃ (n : Nat) (t : Nat) (r : TxRec) (l : List TxRec) (s : State), rxOk s n = true ∧ (lane s n).lk.un = r :: l ∧
    r.at_ + rtoTau s n ≤ t) ∧
  (∃ (n : Nat) (t : Nat) (r : TxRec) (l : List TxRec) (s : State), (lane s n).lk.un = r :: l ∧ t < r.at_ + rtoTau s n) ∧
  (∃ (n : Nat) (p : Pkt) (r : List Pkt) (s : State), rxOk s n = true ∧ (lane s n).lk.ctl = p :: r ∧ (p.ty = 6 ∨ p.ty = 7 ∨
    p.ty = 8) ∧ pertOn s .lnk n 2 = false ∧ pertOn s .lnk n 4 = false) ∧
  (∃ (n : Nat) (p : Pkt) (r : List Pkt) (s : State), rxOk s n = true ∧ (lane s n).lk.ctl = p :: r ∧ p.ty = 3 ∧
    pertOn s .lnk n 2 = false ∧ pertOn s .lnk n 4 = false) ∧
  (∃ (n : Nat) (p : Pkt) (r : List Pkt) (s : State), rxOk s n = true ∧ (lane s n).lk.ctl = p :: r ∧ p.ty = 4 ∧
    pertOn s .lnk n 2 = false ∧ pertOn s .lnk n 4 = false) ∧
  (∃ (n : Nat) (p : Pkt) (r : List Pkt) (s : State), rxOk s n = true ∧ (lane s n).lk.ctl = p :: r ∧ p.ty ≠ 3 ∧ p.ty ≠ 4 ∧
    p.ty ≠ 6 ∧ p.ty ≠ 7 ∧ p.ty ≠ 8 ∧ pertOn s .lnk n 2 = true) ∧
  (∃ (n : Nat) (p : Pkt) (r : List Pkt) (s : State), rxOk s n = true ∧ (lane s n).lk.ctl = p :: r ∧ p.ty ≠ 3 ∧ p.ty ≠ 4 ∧
    p.ty ≠ 6 ∧ p.ty ≠ 7 ∧ p.ty ≠ 8 ∧ pertOn s .lnk n 2 = false ∧ pertOn s .lnk n 4 = false) ∧
  (∃ (n : Nat) (s : State), rxOk s n = true ∧ (lane s n).lk.ctl = [] ∧ (lane s n).lk.again = [] ∧ (lane s n).lk.trigs = [] ∧
    (lane s n).lk.peerPath = false) :=
  ⟨⟨7, (⟨5, 65537, 3, false, true, 0⟩), (ln 7 { st := .up } base), by decide, by decide, by decide⟩,
   ⟨7, (⟨5, 65537, 3, true, true, 0⟩),
     (ln 7 { st := .up, lk := { peerPath := true, tx := 9, un := [⟨{ ty := 1, lseq := 4 }, 1, 0, 0, none, 0, 0, none, false⟩, ⟨{ ty := 1, lseq := 5 }, 1, 0, 0, none, 0, 0, none, false⟩] } } base), by decide, by decide⟩,
   ⟨7, (⟨5, 65537, 3, true, true, 0⟩), (ln 7 { st := .up } base), by decide, by decide, by decide⟩,
   ⟨7, (⟨5, 65537, 3, false, true, 0⟩), (ln 7 { st := .up, lk := { ka := 2 } } base), by decide, by decide, by decide⟩,
   ⟨7, (⟨65535, 65537, 3, false, true, 3⟩), (⟨{ ty := 1, lseq := 0 }, 1, 0, 0, none, 0, 0, none, false⟩),
     ([⟨{ ty := 2, lseq := 1 }, 1, 0, 0, none, 0, 0, none, false⟩]),
     (ln 7 { st := .up, lk := { tx := 9, backs := 1, un := [⟨{ ty := 1, lseq := 65535 }, 1, 0, 0, none, 0, 0, none, false⟩, ⟨{ ty := 1, lseq := 0 }, 1, 0, 0, none, 0, 0, none, false⟩, ⟨{ ty := 2, lseq := 1 }, 1, 0, 0, none, 0, 0, none, false⟩] } } base), by decide, by decide, by decide, by decide, by decide⟩,
   ⟨7, (rtoTau (ln 7 { st := .up } base) 7 + 5), (⟨{ ty := 1, lseq := 0 }, 1, 0, 0, none, 5, 0, none, false⟩), [],
     (ln 7 { st := .up, lk := { tx := 9, un := [⟨{ ty := 1, lseq := 0 }, 1, 0, 0, none, 5, 0, none, false⟩] } } base),
     by decide, by decide, by decide⟩,
   ⟨7, 0, (⟨{ ty := 1, lseq := 0 }, 1, 0, 0, none, 5, 0, none, false⟩), [],
     (ln 7 { st := .up, lk := { tx := 9, un := [⟨{ ty := 1, lseq := 0 }, 1, 0, 0, none, 5, 0, none, false⟩] } } base),
     by decide, by decide⟩,
   ⟨7, { ty := 7, body := [3] }, ([{ ty := 6 }]),
     (ln 7 { st := .up, lk := { acc := 5, ctl := [{ ty := 7, body := [3] }, { ty := 6 }] } } base), by decide, by decide,
     by decide, by decide, by decide⟩,
   ⟨7, { ty := 3, body := [3] }, [], (ln 7 { st := .up, lk := { acc := 5, ctl := [{ ty := 3, body := [3] }] } } base),
     by decide, by decide, by decide, by decide, by decide⟩,
   ⟨7, { ty := 4, body := [3] }, [], (ln 7 { st := .up, lk := { acc := 5, ctl := [{ ty := 4, body := [3] }] } } base),
     by decide, by decide, by decide, by decide, by decide⟩,
   ⟨7, { ty := 5, body := [3] }, ([{ ty := 6 }]),
     (ln 7 { st := .up, lk := { acc := 5, ctl := [{ ty := 5, body := [3] }, { ty := 6 }] } } { base with tst := { pert := [(pageBase .lnk 7, (0x12#32, 3))] } }), by decide, by decide, by decide, by decide, by decide, by decide, by decide, by decide⟩,
   ⟨7, { ty := 5, body := [3] }, [], (ln 7 { st := .up, lk := { acc := 5, ctl := [{ ty := 5, body := [3] }] } } base),
     by decide, by decide, by decide, by decide, by decide, by decide, by decide, by decide, by decide⟩,
   ⟨7, (ln 7 { st := .up, lk := { cur := some { ty := 6 } } } base), by decide, by decide, by decide, by decide, by decide⟩⟩

theorem test_ManagementTraffic_hyps :
  (∃ (n : Nat) (pk : Pkt) (s : State), rxOk s n = true ∧ pk.ty = 2 ∧ lenOk pk = true ∧ mType pk = 1 ∧ (lane s n).lk.e < 65536 ∧
    pk.lseq = (lane s n).lk.e ∧ lanePort s n = none ∧ (pk.dest = 0 ∨ pk.dest = origin) ∧ mgmtPath s = true ∧
    bit (rg s (lnkReg n 0x100)) 24 = true) ∧
  (∃ (n : Nat) (pk : Pkt) (s : State), rxOk s n = true ∧ pk.ty = 2 ∧ lenOk pk = true ∧ mType pk = 3 ∧ (lane s n).lk.e < 65536 ∧
    pk.lseq = (lane s n).lk.e ∧ lanePort s n = none ∧ pk.dest = 0 ∧ mgmtPath s = true ∧ bit (rg s (lnkReg n 0x100)) 24 = true ∧
    mAddr pk = 0x3040 ∧ mCount pk = 1) ∧
  (∃ (n : Nat) (pk : Pkt) (s : State), rxOk s n = true ∧ pk.ty = 2 ∧ lenOk pk = true ∧ mType pk = 3 ∧ (lane s n).lk.e < 65536 ∧
    pk.lseq = (lane s n).lk.e ∧ lanePort s n = none ∧ pk.dest = 0 ∧ mgmtPath s = true ∧ bit (rg s (lnkReg n 0x100)) 24 = true ∧
    regBad pk false = false) ∧
  (∃ (n : Nat) (pk : Pkt) (s : State), rxOk s n = true ∧ pk.ty = 2 ∧ lenOk pk = true ∧ mType pk = 4 ∧ (lane s n).lk.e < 65536 ∧
    pk.lseq = (lane s n).lk.e ∧ lanePort s n = none ∧ pk.dest = 0 ∧ mgmtPath s = true ∧ bit (rg s (lnkReg n 0x100)) 24 = true ∧
    regBad pk true = false) ∧
  (∃ (n : Nat) (pk : Pkt) (s : State), rxOk s n = true ∧ pk.ty = 2 ∧ lenOk pk = true ∧ mType pk = 4 ∧ (lane s n).lk.e < 65536 ∧
    pk.lseq = (lane s n).lk.e ∧ lanePort s n = none ∧ pk.dest = 0 ∧ mgmtPath s = true ∧ bit (rg s (lnkReg n 0x100)) 24 = true ∧
    mAddr pk = 0x108 ∧ mCount pk = 1 ∧ 16 ≤ pk.body.length) ∧
  (∃ (n : Nat) (pk : Pkt) (s : State), rxOk s n = true ∧ pk.ty = 2 ∧ lenOk pk = true ∧ (mType pk = 0 ∨ 7 < mType pk) ∧
    (lane s n).lk.e < 65536 ∧ pk.lseq = (lane s n).lk.e ∧ lanePort s n = none ∧ pk.dest = 0 ∧ mgmtPath s = true ∧
    bit (rg s (lnkReg n 0x100)) 24 = true ∧ (lane s n).lk.acc + 1 < af s (lnkReg n 0x100) 0 8) ∧
  (∃ (n : Nat) (pk : Pkt) (s : State), rxOk s n = true ∧ lenOk pk = true) ∧
  (∃ (n : Nat) (pk : Pkt) (s : State), rxOk s n = true ∧ pk.ty = 2 ∧ lenOk pk = true ∧ (lane s n).lk.e < 65536 ∧
    pk.lseq = (lane s n).lk.e ∧ lanePort s n = none ∧ pk.dest = 0 ∧ mType pk = 6 ∧ mgmtPath s = true ∧
    bit (rg s (lnkReg n 0x100)) 24 = true ∧ (lane s n).lk.acc + 1 < af s (lnkReg n 0x100) 0 8) ∧
  (∃ (k : Nat) (s : State), running s = true ∧ k ∈ s.evt.due ∧ k < s.ord ∧ s.evt.last ≠ s.ord) ∧
  (∃ (s : State), (∀ k ∈ s.evt.due, s.ord ≤ k)) ∧
  (∃ (s : State), running s = true ∧ (∀ k ∈ s.evt.due, s.ord ≤ k) ∧ (evtSum s 0 ≠ 0 ∨ evtSum s 1 ≠ 0) ∧
    s.evt.last + max 1 (af s 0x118 0 16) ≤ s.ord) ∧
  (∃ (s : State), evtSum s 0 = 0 ∧ evtSum s 1 = 0) :=
  ⟨⟨7, { ty := 2, lseq := 65535, body := [1, 0, 0, 0, 9, 0, 0, 0, 4, 0, 7, 0] },
    (ln 7 { st := .up, lk := { e := 65535 } } base), by decide, by decide, by decide, by decide, by decide, by decide,
    by decide, by decide, by decide, by decide⟩,
   ⟨7, { ty := 2, lseq := 65535, body := [3, 0, 1, 0, 9, 0, 0, 0, 0x40, 0x30, 0, 0] },
     (ln 7 { st := .up, lk := { e := 65535 } } base), by decide, by decide, by decide, by decide, by decide, by decide,
     by decide, by decide, by decide, by decide, by decide, by decide⟩,
   ⟨7, { ty := 2, lseq := 65535, body := [3, 0, 2, 0, 9, 0, 0, 0, 0x18, 0x30, 0, 0] },
     (sr 0x3018 0xF0000000#32 (ln 7 { st := .up, lk := { e := 65535 } } base)), by decide, by decide, by decide, by decide,
     by decide, by decide, by decide, by decide, by decide, by decide, by decide⟩,
   ⟨7, { ty := 2, lseq := 65535, body := [4, 0, 1, 0, 9, 0, 0, 0, 0x40, 0x30, 0, 0, 1, 2, 3, 4] },
     (exp .tmb 0 (ln 7 { st := .up, lk := { e := 65535 } } base)), by decide, by decide, by decide, by decide, by decide,
     by decide, by decide, by decide, by decide, by decide, by decide⟩,
   ⟨7, { ty := 2, lseq := 65535, body := [4, 0, 1, 0, 9, 0, 0, 0, 0x08, 1, 0, 0, 1, 2, 3, 4] },
     (ln 7 { st := .up, lk := { e := 65535 } } base), by decide, by decide, by decide, by decide, by decide, by decide,
     by decide, by decide, by decide, by decide, by decide, by decide, by decide⟩,
   ⟨7, { ty := 2, lseq := 65535, body := [8, 0, 1, 0, 9, 0, 0, 0] }, (ln 7 { st := .up, lk := { e := 65535 } } base),
     by decide, by decide, by decide, by decide, by decide, by decide, by decide, by decide, by decide, by decide, by decide⟩,
   ⟨7, { ty := 2, lseq := 65535, body := [3, 0, 1, 0, 9, 0, 0, 0, 0x40, 0x30, 0, 0] },
     (ln 7 { st := .up, lk := { e := 65535 } } base), by decide, by decide⟩,
   ⟨7, { ty := 2, lseq := 65535, body := [6, 0, 1, 0, 9, 0, 0, 0] }, (ln 7 { st := .up, lk := { e := 65535 } } base),
     by decide, by decide, by decide, by decide, by decide, by decide, by decide, by decide, by decide, by decide, by decide⟩,
   ⟨3, { sr 0x110 3#32 (ln 0 { st := .up } (ln 1 {} base)) with ord := 5, evt := { due := [3, 5], last := 1 } }, by decide,
     by decide, by decide, by decide⟩,
   ⟨{ base with ord := 5, evt := { due := [5] } }, by decide⟩,
   ⟨{ sr 0x110 0xFFFFFFFF#32 (sr 0x2010 1#32 (sr 0x2014 1#32 (ln 1 { st := .up } base))) with ord := 4000 }, by decide,
     by decide, by decide, by decide⟩,
   ⟨base, by decide, by decide⟩⟩

theorem test_RegulationToken_hyps :
  (∃ (e : Bool) (s : State), claimOk s = some e) ∧
  (∃ (s : State), claimOk s = none) ∧
  (∃ (s : State), releaseDue s = true) ∧
  (∃ (f : Nat) (s : State), s.twn.next = some f ∧ f ≤ s.frame ∧ isTwin s = true ∧ s.twn.token = true ∧ s.twn.goOut = true) ∧
  (∃ (f : Nat) (s : State), s.twn.next = some f ∧ f ≤ s.frame ∧ isTwin s = true ∧ s.twn.token = false ∧ s.twn.goRx = some f ∧
    s.hub.st = .standby) ∧
  (∃ (f : Nat) (s : State), s.twn.next = some f ∧ f ≤ s.frame ∧ isTwin s = true ∧ s.twn.token = true ∧ s.twn.goOut = false) :=
  ⟨⟨false, (sr 0x704C 0x100#32 (tw (fun x => { x with boot := 10000 }) { base with hub := { st := .standby, straps := { twinEn := true, twinSide := true, bootMode := 0 } } })), by decide⟩,
   ⟨base, by decide⟩,
   ⟨(tw (fun x => { x with token := true, relDue := true, serial := 9, maxSer := 3 }) { base with hub := { st := .active, straps := { twinEn := true, twinSide := true, bootMode := 0 } } }), by decide⟩,
   ⟨3, (tw (fun x => { x with token := true, goOut := true, serial := 9, next := some 3 }) { base with frame := 3, hub := { st := .active, straps := { twinEn := true, twinSide := true, bootMode := 0 } } }), by decide, by decide, by decide, by decide, by decide⟩,
   ⟨3, (tw (fun x => { x with goRx := some 3, maxSer := 9, next := some 3 }) { base with frame := 3, hub := { st := .standby, straps := { twinEn := true, twinSide := true, bootMode := 0 } } }), by decide, by decide, by decide, by decide, by decide, by decide⟩,
   ⟨3, (tw (fun x => { x with token := true, next := some 3 }) { base with frame := 3, hub := { st := .active, straps := { twinEn := true, twinSide := true, bootMode := 0 } } }), by decide, by decide, by decide, by decide, by decide⟩⟩

theorem test_LeaseMessages_hyps :
  (∃ (f : Nat) (s : State), s.twn.token = true ∧ s.hub.st = .active ∧ announceNow s = some f ∧ swapSooner s f = true) ∧
  (∃ (s : State), running s = true ∧ directOk s .twn 0 = true ∧ s.twn.token = true ∧ s.twn.added = none ∧
    s.frame + 256 < swapAt s) ∧
  (∃ (s : State), running s = true ∧ directOk s .twn 0 = true ∧ s.twn.token = true ∧ s.twn.added.isSome = true) ∧
  (∃ (s : State), running s = true ∧ directOk s .twn 0 = true ∧ s.twn.token = false) ∧
  (∃ (n : Nat) (s : State), rxOk s n = true ∧ n ≠ 4 ∧ n ≠ 5) ∧
  (∃ (n : Nat) (m : Lease) (s : State), rxOk s n = true ∧ (n = 4 ∨ n = 5) ∧ isTwin s = true ∧ m.role = 1 ∧
    m.side ≠ s.hub.straps.twinSide ∧ m.serial < s.twn.maxSer ∧ (s.hub.st ≠ .standby ∨ s.cmt.epoch ≠ 0)) ∧
  (∃ (n : Nat) (m : Lease) (s : State), rxOk s n = true ∧ (n = 4 ∨ n = 5) ∧ isTwin s = true ∧ m.role = 4 ∧
    (s.hub.st ≠ .standby ∨ s.cmt.epoch ≠ 0)) ∧
  (∃ (n : Nat) (m : Lease) (s : State), rxOk s n = true ∧ (n = 4 ∨ n = 5) ∧ isTwin s = true ∧ m.role = 1 ∧
    m.side ≠ s.hub.straps.twinSide ∧ s.twn.maxSer < m.serial ∧ s.twn.token = false ∧ m.outs = [] ∧ (s.hub.st ≠ .standby ∨
    s.cmt.epoch ≠ 0)) ∧
  (∃ (s : State), s.twn.confSolo = true ∧ leaseLen s ≤ s.twn.soloAge) :=
  ⟨⟨300, (tw (fun x => { x with token := true, added := some 300 }) { base with frame := 44, hub := { st := .active, straps := { twinEn := true, twinSide := true, bootMode := 0 } } }), by decide, by decide, by decide, by decide⟩,
   ⟨(exp .twn 0 (sr 0x7054 1#32 (tw (fun x => { x with token := true }) base))), by decide, by decide, by decide, by decide,
     by decide⟩,
   ⟨(exp .twn 0 (tw (fun x => { x with token := true, added := some 300 }) base)), by decide, by decide, by decide, by decide⟩,
   ⟨(exp .twn 0 base), by decide, by decide, by decide⟩,
   ⟨3, (ln 3 { st := .up } base), by decide, by decide, by decide⟩,
   ⟨4, (⟨1, 1, false, true, true, false, 1, 5, 3, 2, 0, 20, 2, []⟩),
     (ln 4 { st := .up } (tw (fun x => { x with maxSer := 6 }) { base with hub := { st := .active, straps := { twinEn := true, twinSide := true, bootMode := 0 } } })), by decide, by decide, by decide, by decide, by decide, by decide, by decide⟩,
   ⟨5, (⟨1, 4, false, true, true, false, 1, 5, 3, 2, 0, 20, 2, []⟩),
     (ln 5 { st := .up } (tw (fun x => { x with maxSer := 6, token := true }) { base with hub := { st := .active, straps := { twinEn := true, twinSide := true, bootMode := 0 } } })), by decide, by decide, by decide, by decide, by decide⟩,
   ⟨4, (⟨1, 1, false, true, true, false, 65537, 7, 3, 2, 9, 20, 2, []⟩),
     (ln 4 { st := .up } (tw (fun x => { x with maxSer := 6, page := 3 }) { base with hub := { st := .resync, straps := { twinEn := true, twinSide := true, bootMode := 0 } } })), by decide, by decide, by decide, by decide, by decide, by decide, by decide, by decide, by decide⟩,
   ⟨(tw (fun x => { x with confSolo := true, soloAge := 255 }) base), by decide, by decide⟩⟩

theorem test_Resynchronisation_hyps :
  (∃ (s : State), running s = true ∧ directOk s .twn 0 = true ∧ isTwin s = true ∧ s.hub.st = .standby ∧ s.cmt.st = .closed) ∧
  (∃ (s : State), running s = true ∧ directOk s .twn 0 = true ∧ s.hub.st = .resync ∧ s.cmt.owner ≠ .firmware) ∧
  (∃ (s : State), running s = true ∧ directOk s .twn 0 = true ∧ s.hub.st = .resync ∧ s.cmt.owner = .firmware) ∧
  (∃ (s : State), running s = true ∧ directOk s .twn 0 = true ∧ s.hub.st ≠ .resync) ∧
  (∃ (s : State), running s = true ∧ s.hub.st = .resync ∧ s.twn.bad = none ∧ s.twn.ph = 3 ∧ s.cmt.st = .closed) ∧
  (∃ (s : State), running s = true ∧ s.hub.st = .resync ∧ s.twn.bad = none ∧ s.twn.ph = 6 ∧ s.tmb.st = .locked) ∧
  (∃ (s : State), running s = true ∧ s.hub.st = .resync ∧ s.twn.bad = none ∧ (((s.twn.ph = 3 ∧ s.cmt.st ≠ .closed) ∨
    (s.twn.ph = 6 ∧ s.tmb.st ≠ .locked) ∨ (s.twn.ph = 7 ∧ ¬ ∀ g, g < 512 → bit (rg s (chCfgA g)) 0 = true →
    (chan s g).st ≠ .settling)))) ∧
  (∃ (s : State), running s = true ∧ s.hub.st = .resync ∧ s.twn.bad = none ∧ s.twn.ph = 7 ∧ (∀ g, g < 512 →
    bit (rg s (chCfgA g)) 0 = true → (chan s g).st ≠ .settling)) ∧
  (∃ (st : Nat) (s : State), s.hub.st = .resync ∧ s.twn.ph ≠ 0 ∧ s.twn.bad = some st ∧ s.cmt.owner ≠ .firmware) ∧
  (∃ (st : Nat) (s : State), s.hub.st = .resync ∧ s.twn.ph ≠ 0 ∧ s.twn.bad = some st ∧ s.cmt.owner = .firmware) ∧
  (∃ (s : State), running s = true ∧ s.hub.st = .resync ∧ s.twn.retry = some 0 ∧ s.cmt.st = .closed) ∧
  (∃ (s : State), s.twn.retry ≠ some 0) :=
  ⟨⟨(exp .twn 0 { base with hub := { st := .standby, straps := { twinEn := true, twinSide := true, bootMode := 0 } } }),
    by decide, by decide, by decide, by decide, by decide⟩,
   ⟨(exp .twn 0 (tw (fun x => { x with ph := 3, bad := some 1 }) { base with hub := { st := .resync, straps := { twinEn := true, twinSide := true, bootMode := 0 } } })), by decide, by decide, by decide, by decide⟩,
   ⟨(exp .twn 0 (tw (fun x => { x with ph := 3 }) { base with staged := [(0x7040, 5)], cmt := { st := .open_, owner := .firmware }, hub := { st := .resync, straps := { twinEn := true, twinSide := true, bootMode := 0 } } })), by decide, by decide, by decide, by decide⟩,
   ⟨(exp .twn 0 base), by decide, by decide, by decide⟩,
   ⟨(tw (fun x => { x with ph := 3 }) { base with hub := { st := .resync, straps := { twinEn := true, twinSide := true, bootMode := 0 } } }), by decide, by decide, by decide, by decide, by decide⟩,
   ⟨(tm (fun x => { x with st := .locked }) (tw (fun x => { x with ph := 6 }) { base with hub := { st := .resync, straps := { twinEn := true, twinSide := true, bootMode := 0 } } })), by decide, by decide, by decide, by decide, by decide⟩,
   ⟨(tw (fun x => { x with ph := 6 }) { base with hub := { st := .resync, straps := { twinEn := true, twinSide := true, bootMode := 0 } } }), by decide, by decide, by decide, by decide⟩,
   ⟨(cx 511 { st := .run } (sr (chCfgA 511) 1#32 (tw (fun x => { x with ph := 7 }) { base with hub := { st := .resync, straps := { twinEn := true, twinSide := true, bootMode := 0 } } }))), by decide, by decide, by decide, by decide, by decide +kernel⟩,
   ⟨17, (tw (fun x => { x with ph := 7, bad := some 17 }) { base with hub := { st := .resync, straps := { twinEn := true, twinSide := true, bootMode := 0 } } }), by decide, by decide, by decide, by decide⟩,
   ⟨17, (tw (fun x => { x with ph := 5, bad := some 17 }) { base with staged := [(0x7040, 5)], cmt := { st := .open_, owner := .firmware }, hub := { st := .resync, straps := { twinEn := true, twinSide := true, bootMode := 0 } } }), by decide, by decide, by decide, by decide⟩,
   ⟨(tw (fun x => { x with retry := some 0 }) { base with hub := { st := .resync, straps := { twinEn := true, twinSide := true, bootMode := 0 } } }), by decide, by decide, by decide, by decide⟩,
   ⟨(tw (fun x => { x with retry := some 7 }) { base with hub := { st := .resync, straps := { twinEn := true, twinSide := true, bootMode := 0 } } }), by decide⟩⟩

theorem test_BeaconFlashes_hyps :
  (∃ (m : Nat) (s : State), m < 16 ∧ running s = true ∧ directOk s .bcn 0 = true ∧
    schOk s (instRegs s (bschA m 0)) (rg s (bschA m 0x0C)).toNat (af s (bschA m 0x10) 0 24) (rg s (bschA m 0x14)).toNat = true) ∧
  (∃ (m : Nat) (s : State), m < 16 ∧ running s = true ∧ directOk s .bcn 0 = true ∧
    schOk s (instRegs s (bschA m 0)) (rg s (bschA m 0x0C)).toNat (af s (bschA m 0x10) 0 24) (rg s (bschA m 0x14)).toNat = false) ∧
  (∃ (m : Nat) (s : State), m < 16 ∧ running s = true ∧ directOk s .bcn 0 = true) ∧
  (∃ (m : Nat) (t : Nat) (s : State), live s = true ∧ m < 16 ∧ (bstr s m).armed = true ∧ flashAt s m ≤ netTime s t ∧
    strDriven s m = true ∧ (bstr s m).off = false ∧ 2 ≤ (rg s (bschA m 0x14)).toNat ∧ (rg s (bschA m 0x0C)).toNat ≠ 0) ∧
  (∃ (m : Nat) (t : Nat) (s : State), live s = true ∧ m < 16 ∧ (bstr s m).armed = true ∧ flashAt s m ≤ netTime s t ∧
    strDriven s m = false ∧ s.hub.st ≠ .sleep) ∧
  (∃ (m : Nat) (t : Nat) (l : BLit) (s : State), live s = true ∧ (bstr s m).lit = some l ∧ l.t1 ≤ t ∧ s.bcn.test = none) :=
  ⟨⟨15, (exp .bcn 0 (sr (bschA 15 4) 0#32 (sr (bschA 15 0) 9#32 (sr (bschA 15 0x10) 1#32 (sr (bschA 15 0x14) 1#32 base))))),
    by decide, by decide, by decide, by decide⟩,
   ⟨15, (exp .bcn 0 (bs 15 { armed := true } base)), by decide, by decide, by decide, by decide⟩,
   ⟨15, (exp .bcn 0 (bs 15 { armed := true, idx := 4 } base)), by decide, by decide, by decide⟩,
   ⟨15, 512, (sr (bstrCfgA 15) 0x20064#32 (sr (bschA 15 0x0C) 1000#32 (sr (bschA 15 0x10) 2#32 (sr (bschA 15 0x14) 2#32 (bs 15 { armed := true } base))))), by decide, by decide, by decide, by decide, by decide, by decide, by decide, by decide⟩,
   ⟨15, 512, (bs 15 { armed := true, lit := some { flash := false, t0 := 0, t1 := 900, target := 5 } } base), by decide,
     by decide, by decide, by decide, by decide, by decide⟩,
   ⟨15, 900, { flash := false, t0 := 0, t1 := 900, target := 5 },
     (bs 15 { armed := true, lit := some { flash := false, t0 := 0, t1 := 900, target := 5 } } base), by decide, by decide,
     by decide, by decide⟩⟩

theorem test_BeaconDiagnosisAndChain_hyps :
  (∃ (w : Word) (s : State), running s = true ∧ directOk s .bcn 0 = true ∧ bit w 24 = true ∧ bit w 16 = false ∧
    fld w 0 16 ≠ 0 ∧ s.bcn.test = none) ∧
  (∃ (w : Word) (s : State), running s = true ∧ directOk s .bcn 0 = true ∧ bit w 24 = true ∧ s.bcn.test.isSome = true) ∧
  (∃ (mask : Nat) (s : State), running s = true ∧ s.bcn.test = some (mask, true)) ∧
  (∃ (m : Nat) (t : Nat) (due : Nat) (moves : Nat) (cmd : Bool) (s : State), bcnAwake s = true ∧ m < 16 ∧
    slotAt s m ≤ netTime s t ∧ (bstr s m).pulse = some (due, moves, cmd) ∧ due ≤ s.ord ∧ strDriven s m = true ∧
    (bstr s m).off = false ∧ flashMeets s m t = none) ∧
  (∃ (m : Nat) (t : Nat) (due : Nat) (moves : Nat) (cmd : Bool) (s : State), bcnAwake s = true ∧ m < 16 ∧
    slotAt s m ≤ netTime s t ∧ (bstr s m).pulse = some (due, moves, cmd) ∧ due ≤ s.ord ∧ strDriven s m = false ∧ moves < 15 ∧
    s.bcn.test = none) ∧
  (∃ (m : Nat) (sense : Nat) (drain : Nat) (t : Nat) (l : BLit) (s : State), bcnAwake s = true ∧ m < 16 ∧
    (bstr s m).lit = some l ∧ l.meas = false ∧ l.t0 + tOpenDet ≤ l.t1 ∧ l.t0 + tOpenDet ≤ t + 256 ∧ t ≤ l.t1 ∧
    9 * l.target ≤ 10 * sense ∧ 10 * sense ≤ 11 * l.target ∧ l.target ≠ 0 ∧
    drain * af s 0x8050 16 10 / 16 / 1000 ≤ af s 0x805C 0 16 ∧ s.bcn.test = none) ∧
  (∃ (m : Nat) (sense : Nat) (t : Nat) (l : BLit) (s : State), bcnAwake s = true ∧ m < 16 ∧ (bstr s m).lit = some l ∧
    l.meas = false ∧ l.t0 + tOpenDet ≤ l.t1 ∧ l.t0 + tOpenDet ≤ t + 256 ∧ t ≤ l.t1 ∧ 4 * sense < l.target ∧
    (bstr s m).suspect ≠ 1 ∧ s.bcn.test = none) ∧
  (∃ (m : Nat) (sense : Nat) (t : Nat) (l : BLit) (s : State), bcnAwake s = true ∧ m < 16 ∧ (bstr s m).lit = some l ∧
    l.meas = false ∧ l.t0 + tOpenDet ≤ l.t1 ∧ l.t0 + tOpenDet ≤ t + 256 ∧ t ≤ l.t1 ∧ 4 * sense < l.target ∧
    (bstr s m).suspect = 1 ∧ (bstr s m).diag ≠ 1 ∧ s.bcn.test = none) ∧
  (∃ (m : Nat) (s : State), bcnAwake s = true ∧ m < 16 ∧ (bstr s m).diagAt + diagLimit s < s.ord ∧ (bstr s m).diag ≠ 3) ∧
  (∃ (s : State), boostOn s = true ∧ s.bcn.ovp = false) ∧
  (∃ (s : State), s.bcn.ovp = true) ∧
  (∃ (s : State), live s = true) ∧
  (∃ (t : Nat) (d : Int) (s : State), chainDriven s = true ∧ s.bcn.cur = none ∧ s.bcn.due = some d ∧ d ≤ netTime s t) ∧
  (∃ (n : Nat) (bits : Nat) (s : State), live s = true ∧ s.bcn.cur = some (n, bits) ∧ s.bcn.prev = none) ∧
  (∃ (n : Nat) (bits : Nat) (pn : Nat) (pb : Nat) (ret : Nat) (s : State), live s = true ∧ s.bcn.cur = some (n, bits) ∧
    s.bcn.prev = some (pn, pb) ∧ firstDiff ret pb (min n pn) = none) ∧
  (∃ (n : Nat) (bits : Nat) (pn : Nat) (pb : Nat) (ret : Nat) (i : Nat) (s : State), live s = true ∧ s.bcn.cur = some (n,
    bits) ∧ s.bcn.prev = some (pn, pb) ∧ firstDiff ret pb (min n pn) = some i) :=
  ⟨⟨0x1008001#32, (exp .bcn 0 base), by decide, by decide, by decide, by decide, by decide, by decide⟩,
   ⟨0x1008001#32, (exp .bcn 0 { base with bcn := { base.bcn with test := some (1, false) } }), by decide, by decide, by decide,
     by decide⟩,
   ⟨3, { base with bcn := { base.bcn with test := some (3, true) } }, by decide, by decide⟩,
   ⟨15, tauHz, 0, 0, true, (sr (bstrCfgA 15) 0x20064#32 (bs 15 { pulse := some (0, 0, true) } base)), by decide, by decide,
     by decide, by decide, by decide, by decide, by decide, by decide⟩,
   ⟨15, tauHz, 0, 14, true, (bs 15 { pulse := some (0, 14, true) } base), by decide, by decide, by decide, by decide,
     by decide, by decide, by decide, by decide⟩,
   ⟨15, 9, 0, 150994, { flash := true, t0 := 0, t1 := 150994, target := 10 },
     (bs 15 { suspect := 1, lit := some { flash := true, t0 := 0, t1 := 150994, target := 10 } } base), by decide, by decide,
     by decide, by decide, by decide, by decide, by decide, by decide, by decide, by decide, by decide, by decide⟩,
   ⟨15, 2, 150739, { flash := true, t0 := 0, t1 := 150995, target := 10 },
     (bs 15 { diag := 0, suspect := 2, lit := some { flash := true, t0 := 0, t1 := 150995, target := 10 } } base), by decide,
     by decide, by decide, by decide, by decide, by decide, by decide, by decide, by decide, by decide⟩,
   ⟨15, 2, 150739, { flash := true, t0 := 0, t1 := 150995, target := 10 },
     (bs 15 { diag := 0, suspect := 1, lit := some { flash := true, t0 := 0, t1 := 150995, target := 10 } } base), by decide,
     by decide, by decide, by decide, by decide, by decide, by decide, by decide, by decide, by decide, by decide⟩,
   ⟨15, (bs 15 { diag := 0 } { base with ord := 1025 }), by decide, by decide, by decide, by decide⟩,
   ⟨(sr 0x8040 0x80000000#32 { base with hub := { st := .solo } }), by decide, by decide⟩,
   ⟨{ base with bcn := { base.bcn with ovp := true } }, by decide⟩,
   ⟨{ base with bcn := { base.bcn with ovp := true } }, by decide⟩,
   ⟨tauHz, 5, (sr 0x8070 2#32 { base with ord := 1, bcn := { base.bcn with due := some 5 } }), by decide, by decide, by decide,
     by decide⟩,
   ⟨8, 255, { base with bcn := { base.bcn with cur := some (8, 255) } }, by decide, by decide, by decide⟩,
   ⟨8, 255, 9, 7, 7, { base with bcn := { base.bcn with cur := some (8, 255), prev := some (9, 7), mism := 3 } }, by decide,
     by decide, by decide, by decide⟩,
   ⟨8, 255, 9, 7, 135, 7, { base with bcn := { base.bcn with cur := some (8, 255), prev := some (9, 7), mism := 3 } },
     by decide, by decide, by decide, by decide⟩⟩

theorem test_TestPort_hyps :
  (∃ (s : State), running s = true ∧ s.jtag.instr = .tstacc) ∧
  (∃ (s : State), running s = true ∧ s.jtag.instr = .tstacc ∧ s.tst.first = true) ∧
  (∃ (s : State), running s = true ∧ s.jtag.instr = .tstacc ∧ s.tst.first = false) ∧
  (∃ (w : Word) (s : State), running s = true ∧ s.jtag.instr = .tstacc ∧ w ≠ 0x7E57#32 ∧ w ≠ 0x81A8#32 ∧ w ≠ 0) ∧
  (∃ (s : State), running s = true ∧ s.jtag.instr = .tstacc ∧ s.tst.unlocked.isSome = true) ∧
  (∃ (s : State), running s = true ∧ s.jtag.instr = .tstacc) ∧
  (∃ (off : Nat) (s : State), running s = true ∧ s.jtag.instr = .tstacc ∧ off < 0x1000 ∧ off % 4 = 0) ∧
  (∃ (s : State), s.jtag.instr ≠ .tstacc) ∧
  (∃ (s : State), running s = true ∧ s.tst.unlocked.isSome = true ∧ unlockLeft s = 0) ∧
  (∃ (a : Nat) (i : Nat) (k : PageK) (s : State), running s = true ∧ pageAt a = some (k, i) ∧ s.tst.unlocked = none) ∧
  (∃ (a : Nat) (i : Nat) (k : PageK) (w : Word) (s : State), running s = true ∧ pageAt a = some (k, i) ∧
    s.tst.unlocked.isSome = true ∧ pertKnown k (fld w 0 4) (fld w 4 12) = true) ∧
  (∃ (a : Nat) (s : State), running s = true ∧ pertOver s a = true ∧ tget false s.tst.due a = false) ∧
  (∃ (t : Nat) (detail : Nat) (d : Nat) (ok : Bool) (pass : Bool) (s : State), s.tst.bist = some t ∧
    bistResult s t ok detail = (d, pass)) :=
  ⟨⟨{ base with jtag := { instr := .tstacc } }, by decide, by decide⟩,
   ⟨{ base with jtag := { instr := .tstacc }, tst := { first := true } }, by decide, by decide, by decide⟩,
   ⟨{ base with jtag := { instr := .tstacc } }, by decide, by decide, by decide⟩,
   ⟨5#32, { base with jtag := { instr := .tstacc }, tst := { first := true } }, by decide, by decide, by decide, by decide,
     by decide⟩,
   ⟨(sr 0x1901C 5#32 { base with jtag := { instr := .tstacc }, tst := { unlocked := some 0, pert := [(0, (5, 1))] } }),
     by decide, by decide, by decide⟩,
   ⟨{ base with jtag := { instr := .tstacc } }, by decide, by decide⟩,
   ⟨0x20, (sr 0x19020 5#32 { base with jtag := { instr := .tstacc } }), by decide, by decide, by decide, by decide⟩,
   ⟨{ base with jtag := { instr := .bypass } }, by decide⟩,
   ⟨(sr 0x19048 0#32 { base with tst := { unlocked := some 0, pert := [(0, (5, 1))] } }), by decide, by decide, by decide⟩,
   ⟨0x3FFFF, 15, .flt, base, by decide, by decide, by decide⟩,
   ⟨0x2FC, 0, .hub, 0x51#32, { base with tst := { unlocked := some 0 } }, by decide, by decide, by decide, by decide⟩,
   ⟨0xB000, { sr 0xB01C 7#32 base with tst := { unlocked := some 0, pert := [(0xB000, (0x50001#32, 1))] }, ord := 6 },
     by decide, by decide, by decide⟩,
   ⟨1, 7, 7, false, false, { base with tst := { bist := some 1 } }, by decide, by decide⟩⟩

theorem test_HostPortTransactions_hyps :
  (∃ (aw : Word) (a : Nat) (s : State), hostUp s = true ∧ hostPath s = true ∧ burstOf aw = some (1, a) ∧ a < 0x10000 ∧
    isLo a = false ∧ isLo (a - 4) = false ∧ isRc a = false ∧ (a / 0x1000) ∉ [8, 9, 0xA, 0xF]) ∧
  (∃ (aw : Word) (a : Nat) (s : State), hostUp s = true ∧ hostPath s = true ∧ burstOf aw = some (1, a) ∧ 0x40 ≤ a ∧ a < 0x800) ∧
  (∃ (aw : Word) (s : State), hostUp s = true ∧ (hostPath s = false ∨ burstOf aw = none)) ∧
  (∃ (aw : Word) (s : State), hostUp s = true ∧ (hostPath s = false ∨ burstOf aw = none)) ∧
  (∃ (s : State), hostUp s = true) ∧
  (∃ (s : State), hostUp s = true) ∧
  (∃ (aw : Word) (n : Nat) (a : Nat) (s : State), hostUp s = true ∧ hostPath s = true ∧ burstOf aw = some (n, a) ∧ 2 ≤ n ∧
    0x40 ≤ a ∧ a < 0x800) ∧
  (∃ (aw : Word) (ws : List Word) (s : State), hostUp s = true ∧ fld aw 24 6 + 1 ≤ ws.length) ∧
  (∃ (b : Byte) (s : State), hostUp s = true ∧ b.toNat < 3 ∧ s.hst.gen ≠ b.toNat) ∧
  (∃ (b : Byte) (s : State), hostUp s = true ∧ 3 ≤ b.toNat) ∧
  (∃ (s : State), hostUp s = true) ∧
  (∃ (b : Byte) (inv : Byte) (s : State), hostUp s = true ∧ b ≠ 0xFF#8 ∧ instrKnown s b inv = false) ∧
  (∃ (b : Byte) (inv : Byte) (s : State), b ≠ 0xFF#8 ∧ instrKnown s b inv = true) ∧
  (∃ (b : List Byte) (s : State), hostUp s = true ∧ hostPath s = true ∧ 8 ≤ b.length ∧ b.length = 8 + leAt b 4 2 ∧
    mboxUsed s.hst.inbox + b.length ≤ mboxSize) ∧
  (∃ (b : List Byte) (s : State), hostUp s = true ∧ hostPath s = true ∧ mboxSize < mboxUsed s.hst.inbox + b.length) ∧
  (∃ (n : Nat) (c : List Byte) (r : List (List Byte)) (s : State), hostUp s = true ∧ hostPath s = true ∧
    s.hst.outbox = c :: r ∧ c.length ≤ n) ∧
  (∃ (n : Nat) (c : List Byte) (r : List (List Byte)) (s : State), hostUp s = true ∧ hostPath s = true ∧
    s.hst.outbox = c :: r ∧ n < c.length) ∧
  (∃ (s : State), hostUp s = true ∧ hostPath s = true ∧ s.hst.outbox = []) :=
  ⟨⟨0x108#32, 0x108, base, by decide, by decide, by decide, by decide, by decide, by decide, by decide, by decide⟩,
   ⟨0x108#32, 0x108, base, by decide, by decide, by decide, by decide, by decide⟩,
   ⟨2#32, base, by decide, by decide⟩,
   ⟨0x40#32, { base with hub := { st := .unconfigured, straps := { twinEn := false, twinSide := false, bootMode := 2 } } },
     by decide, by decide⟩,
   ⟨base, by decide⟩,
   ⟨base, by decide⟩,
   ⟨0x1000108#32, 2, 0x108, base, by decide, by decide, by decide, by decide, by decide, by decide⟩,
   ⟨0x1000108#32, ([7#32, 8#32]), base, by decide, by decide⟩,
   ⟨2#8, base, by decide, by decide, by decide⟩,
   ⟨3#8, base, by decide, by decide⟩,
   ⟨{ base with hst := { base.hst with gen := 2 } }, by decide⟩,
   ⟨0xFE#8, 1#8, base, by decide, by decide, by decide⟩,
   ⟨0x0B#8, 0xF4#8, { base with hst := { base.hst with gen := 2 } }, by decide, by decide⟩,
   ⟨([4, 0, 7, 0, 4, 0, 0, 0, 1, 2, 3, 4]), base, by decide, by decide, by decide, by decide, by decide⟩,
   ⟨([4, 0, 7, 0, 4, 0, 0, 0, 1, 2, 3, 4]), { base with hst := { base.hst with inbox := [List.replicate 16380 0] } },
     by decide, by decide, by decide +kernel⟩,
   ⟨6, ([1, 2, 3, 4]), [[5]], { base with hst := { base.hst with outbox := [[1, 2, 3, 4], [5]] } }, by decide, by decide,
     by decide, by decide⟩,
   ⟨3, ([1, 2, 3, 4]), [[5]], { base with hst := { base.hst with outbox := [[1, 2, 3, 4], [5]] } }, by decide, by decide,
     by decide, by decide⟩,
   ⟨base, by decide, by decide, by decide⟩⟩

theorem test_CommandFlow_hyps :
  (∃ (b : List Byte) (r : List (List Byte)) (s : State), running s = true ∧ flightRoom s = true ∧ s.hst.inbox = b :: r ∧
    tagInFlight s 0 (byteAt b 2) = none ∧ b.length ≤ 2040 ∧ leAt b 4 2 % 4 = 0 ∧ 8 + leAt b 4 2 ≤ b.length ∧
    opcodes.contains (leAt b 0 2) = true) ∧
  (∃ (b : List Byte) (r : List (List Byte)) (g : Nat) (s : State), running s = true ∧ flightRoom s = true ∧
    s.hst.inbox = b :: r ∧ tagInFlight s 0 (byteAt b 2) = some g) ∧
  (∃ (b : List Byte) (r : List (List Byte)) (s : State), running s = true ∧ flightRoom s = true ∧ s.hst.inbox = b :: r ∧
    tagInFlight s 0 (byteAt b 2) = none ∧ (∀ f ∈ s.flight, f.wait ≠ .start) ∧ (2040 < b.length ∨ leAt b 4 2 % 4 ≠ 0 ∨
    b.length < 8 + leAt b 4 2 ∨ opcodes.contains (leAt b 0 2) = false)) ∧
  (∃ (b : List Byte) (r : List (List Byte)) (f : Flight) (l : List Flight) (s : State), running s = true ∧
    flightRoom s = true ∧ s.hst.inbox = b :: r ∧ tagInFlight s 0 (byteAt b 2) = none ∧ s.flight = f :: l ∧ f.wait = .start ∧
    opcodes.contains (leAt b 0 2) = false) ∧
  (∃ (n : Nat) (tok : Nat) (org : Nat) (b : List Byte) (r : List (Nat × Nat × Nat × List Byte)) (s : State), running s = true ∧
    flightRoom s = true ∧ s.hst.mbox = (n, tok, org, b) :: r ∧ n < 8 ∧ tagInFlight s 1 (byteAt b 2) = none ∧ b.length ≤ 2040 ∧
    leAt b 4 2 % 4 = 0 ∧ 8 + leAt b 4 2 ≤ b.length ∧ opcodes.contains (leAt b 0 2) = true) ∧
  (∃ (c : Compl) (s : State), running s = true ∧ (badDone s).compl.find? (fun x => decide (pathCode x.path = 0)) = some c ∧
    mboxUsed s.hst.outbox + (complBytes c).length ≤ mboxSize) ∧
  (∃ (c : Compl) (s : State), running s = true ∧ (badDone s).compl.find? (fun x => decide (pathCode x.path = 0)) = some c ∧
    mboxSize < mboxUsed s.hst.outbox + (complBytes c).length) ∧
  (∃ (c : Compl) (s : State), running s = true ∧ (badDone s).compl.find? (complOpen (badDone s)) = some c) ∧
  (∃ (s : State), running s = true ∧ (∀ c ∈ (badDone s).compl, complOpen (badDone s) c = false)) ∧
  (∃ (s : State), (∀ f ∈ s.flight, f.wait ≠ .bad)) ∧
  (∃ (s : State), running s = true) :=
  ⟨⟨([4, 0, 7, 0, 4, 0, 0, 0, 1, 2, 3, 4]), [[5]],
    { base with hst := { base.hst with inbox := [[4, 0, 7, 0, 4, 0, 0, 0, 1, 2, 3, 4], [5]], gens := [(7, 15)] } }, by decide,
    by decide, by decide, by decide, by decide, by decide, by decide, by decide⟩,
   ⟨([4, 0, 1, 0, 4, 0, 0, 0, 1, 2, 3, 4]), [], 5,
     { base with hst := { base.hst with inbox := [[4, 0, 1, 0, 4, 0, 0, 0, 1, 2, 3, 4]] }, flight := [{ mf 4 [] with gen := 5, wait := .wake }] }, by decide, by decide, by decide, by decide⟩,
   ⟨([4, 0x90, 7, 0, 0, 0, 0, 0]), [], { base with hst := { base.hst with inbox := [[4, 0x90, 7, 0, 0, 0, 0, 0]] } },
     by decide, by decide, by decide, by decide, by decide, by decide⟩,
   ⟨([4, 0x90, 7, 0, 0, 0, 0, 0]), [], (mf 4 []), [],
     { base with flight := [mf 4 []], hst := { base.hst with inbox := [[4, 0x90, 7, 0, 0, 0, 0, 0]] } }, by decide, by decide,
     by decide, by decide, by decide, by decide, by decide⟩,
   ⟨7, 99, 3, ([4, 0, 7, 0, 0, 0, 0, 0]), [],
     { ln 7 { st := .up } base with hst := { base.hst with mbox := [(7, 99, 3, [4, 0, 7, 0, 0, 0, 0, 0])] } }, by decide,
     by decide, by decide, by decide, by decide, by decide, by decide, by decide, by decide⟩,
   ⟨{ path := .host, tag := 3, gen := 5, op := 4, status := 0 },
     { base with compl := [{ path := .mgmt 1, tag := 3, gen := 5, op := 4, status := 0 }, { path := .host, tag := 3, gen := 5, op := 4, status := 0 }] }, by decide, by decide, by decide⟩,
   ⟨{ path := .host, tag := 3, gen := 5, op := 4, status := 0 },
     { base with compl := [{ path := .host, tag := 3, gen := 5, op := 4, status := 0 }], hst := { base.hst with outbox := [List.replicate 16380 0] } }, by decide, by decide, by decide +kernel⟩,
   ⟨{ path := .mgmt 3, tag := 3, gen := 5, op := 4, status := 0, tok := 8 },
     { ln 2 { st := .up, lk := { peerPath := true } } base with compl := [{ path := .mgmt 3, tag := 3, gen := 5, op := 4, status := 0, tok := 8 }] }, by decide, by decide⟩,
   ⟨{ base with compl := [{ path := .mgmt 3, tag := 3, gen := 5, op := 4, status := 0, tok := 8 }] }, by decide, by decide⟩,
   ⟨{ base with flight := [mf 4 []] }, by decide⟩,
   ⟨{ ln 2 { st := .up, lk := { peerPath := true } } base with compl := [{ path := .mgmt 3, tag := 3, gen := 5, op := 4, status := 0, tok := 8 }] }, by decide⟩⟩

theorem test_HubCommands_hyps :
  (∃ (p : Path) (tag : Nat) (f : Flight) (s : State), IsNext p tag 0x0000 f s ∧ f.buf = []) ∧
  (∃ (p : Path) (tag : Nat) (f : Flight) (s : State), IsNext p tag 0x0001 f s ∧ f.buf = []) ∧
  (∃ (p : Path) (tag : Nat) (f : Flight) (s : State), IsNext p tag 0x0004 f s ∧ f.buf = []) ∧
  (∃ (p : Path) (tag : Nat) (f : Flight) (s : State), IsNext p tag 0x0004 f s ∧ f.buf ≠ []) ∧
  (∃ (p : Path) (tag : Nat) (f : Flight) (s : State), IsNext p tag 0x0000 f s ∧ f.buf ≠ []) ∧
  (∃ (p : Path) (tag : Nat) (f : Flight) (s : State), IsNext p tag 0x0001 f s ∧ f.buf ≠ []) :=
  ⟨⟨.host, 1, (mf 0 []), (fly 0 [] base), ⟨by decide, by decide⟩, by decide⟩,
   ⟨.host, 1, (mf 1 []), (fly 1 [] base), ⟨by decide, by decide⟩, by decide⟩,
   ⟨.host, 1, (mf 4 []), (fly 4 [] base), ⟨by decide, by decide⟩, by decide⟩,
   ⟨.host, 1, (mf 4 [0, 0, 0, 0]), (fly 4 [0, 0, 0, 0] base), ⟨by decide, by decide⟩, by decide⟩,
   ⟨.host, 1, (mf 0 [1]), (fly 0 [1] base), ⟨by decide, by decide⟩, by decide⟩,
   ⟨.host, 1, (mf 1 [1]), (fly 1 [1] base), ⟨by decide, by decide⟩, by decide⟩⟩

theorem test_SleepWakeCancel_hyps :
  (∃ (p : Path) (tag : Nat) (f : Flight) (s : State), IsNext p tag 0x0002 f s ∧ f.buf = [] ∧ relaying s = false ∧
    s.twn.token = false ∧ s.cmt.st = .closed ∧ s.pwr.sleep = .awake) ∧
  (∃ (p : Path) (tag : Nat) (f : Flight) (s : State), IsNext p tag 0x0002 f s ∧ f.buf = [] ∧ (relaying s = true ∨
    s.twn.token = true ∨ s.cmt.st ≠ .closed ∨ s.pwr.sleep ≠ .awake)) ∧
  (∃ (p : Path) (tag : Nat) (f : Flight) (s : State), IsNext p tag 0x0003 f s ∧ f.buf.length = 4 ∧ par f 0 1 ≤ 1 ∧
    s.pwr.sleep = .awake) ∧
  (∃ (p : Path) (tag : Nat) (f : Flight) (s : State), IsNext p tag 0x0003 f s ∧ f.buf.length = 4 ∧ par f 0 1 = 1 ∧
    s.pwr.sleep = .asleep) ∧
  (∃ (p : Path) (tag : Nat) (f : Flight) (s : State), IsNext p tag 0x0003 f s ∧ f.buf.length = 4 ∧ par f 0 1 = 0 ∧
    s.pwr.sleep = .asleep) ∧
  (∃ (p : Path) (tag : Nat) (f : Flight) (s : State), IsNext p tag 0x0005 f s ∧ f.buf.length = 4 ∧ par f 1 1 ≤ 15 ∧
    (∀ x ∈ s.flight, pathCode x.path = pathCode f.path → x.tag = par f 0 1 → x.gen ≠ par f 1 1) ∧ (∀ c ∈ s.compl,
    pathCode c.path = pathCode f.path → c.tag = par f 0 1 → c.gen ≠ par f 1 1)) ∧
  (∃ (p : Path) (tag : Nat) (n : Nat) (f : Flight) (x : Flight) (s : State), IsNext p tag 0x0005 f s ∧ f.buf.length = 4 ∧
    par f 1 1 ≤ 15 ∧
    s.flight.find? (fun x => decide (pathCode x.path = pathCode f.path) && decide (x.tag = par f 0 1) && decide (x.gen = par f 1 1)) = some x ∧ x.wait = .swap ∧ s.twn.added = some n ∧ s.frame + 256 < n) :=
  ⟨⟨.host, 1, (mf 2 []), (fly 2 [] base), ⟨by decide, by decide⟩, by decide, by decide, by decide, by decide, by decide⟩,
   ⟨.host, 1, (mf 2 []), (fly 2 [] (own base)), ⟨by decide, by decide⟩, by decide, by decide⟩,
   ⟨.host, 1, (mf 3 [1, 0, 0, 0]), (fly 3 [1, 0, 0, 0] base), ⟨by decide, by decide⟩, by decide, by decide, by decide⟩,
   ⟨.host, 1, (mf 3 [1, 0, 0, 0]), (fly 3 [1, 0, 0, 0] { base with pwr := { base.pwr with sleep := .asleep } }), ⟨by decide,
     by decide⟩, by decide, by decide, by decide⟩,
   ⟨.host, 1, (mf 3 [0, 0, 0, 0]), (fly 3 [0, 0, 0,
     0] (cx 511 { inUse := true } (rf 95 { inUse := true } { base with pwr := { base.pwr with sleep := .asleep } }))),
     ⟨by decide, by decide⟩, by decide, by decide, by decide⟩,
   ⟨.host, 1, (mf 5 [5, 15, 0, 0]), (fly 5 [5, 15, 0, 0] base), ⟨by decide, by decide⟩, by decide, by decide, by decide,
     by decide⟩,
   ⟨.host, 1, (base.frame + 257), (mf 5 [5, 7, 0, 0]),
     { path := .host, tag := 5, gen := 7, op := 0x0701, buf := [], wait := .swap },
     { base with flight := [{ path := .host, tag := 5, gen := 7, op := 0x0701, buf := [], wait := .swap }, mf 5 [5, 7, 0, 0]], twn := { added := some (base.frame + 257), next := some (base.frame + 257) } }, ⟨by decide, by decide⟩, by decide, by decide, by decide, by decide, by decide, by decide⟩⟩

theorem test_SessionCommands_hyps :
  (∃ (p : Path) (tag : Nat) (f : Flight) (s : State), IsNext p tag 0x0100 f s ∧ f.buf = [] ∧ s.cmt.st = .closed ∧
    s.hub.st ≠ .resync) ∧
  (∃ (p : Path) (tag : Nat) (f : Flight) (s : State), IsNext p tag 0x0100 f s ∧ f.buf = [] ∧ s.cmt.st ≠ .closed ∧
    s.hub.st ≠ .resync) ∧
  (∃ (p : Path) (tag : Nat) (f : Flight) (s : State), IsNext p tag 0x0101 f s ∧ f.buf = [] ∧ OwnOpen f s) ∧
  (∃ (p : Path) (tag : Nat) (f : Flight) (s : State), IsNext p tag 0x0101 f s ∧ f.buf = [] ∧ (s.cmt.st = .closed ∨
    s.cmt.owner ≠ ownerCmd f.path)) ∧
  (∃ (p : Path) (tag : Nat) (f : Flight) (s : State), IsNext p tag 0x0102 f s ∧ f.buf.length = 12 ∧ par f 8 1 ≤ 1 ∧
    (s.cmt.st = .closed ∨ s.cmt.owner ≠ ownerCmd f.path)) ∧
  (∃ (p : Path) (tag : Nat) (f : Flight) (s : State), IsNext p tag 0x0103 f s ∧ f.buf = [] ∧ s.cmt.owner ≠ ownerCmd f.path) ∧
  (∃ (p : Path) (tag : Nat) (f : Flight) (s : State), IsNext p tag 0x0102 f s ∧ f.buf.length = 12 ∧ par f 8 1 ≤ 1 ∧
    OwnOpen f s) ∧
  (∃ (p : Path) (tag : Nat) (f : Flight) (s : State), IsNext p tag 0x0102 f s ∧ f.buf.length = 12 ∧ 1 < par f 8 1) ∧
  (∃ (p : Path) (tag : Nat) (f : Flight) (s : State), IsNext p tag 0x0103 f s ∧ f.buf = [] ∧ OwnOpen f s ∧ (∀ x ∈ s.flight,
    x.wait = .start)) :=
  ⟨⟨.host, 1, (mf 0x100 []), (fly 0x100 [] { base with cmt := { serial := 65535 } }), ⟨by decide, by decide⟩, by decide,
    by decide, by decide⟩,
   ⟨.host, 1, (mf 0x100 []), (fly 0x100 [] (own base)), ⟨by decide, by decide⟩, by decide, by decide, by decide⟩,
   ⟨.host, 1, (mf 0x101 []), (fly 0x101 [] (own base)), ⟨by decide, by decide⟩, by decide, ⟨by decide, by decide⟩⟩,
   ⟨.host, 1, (mf 0x101 []), (fly 0x101 [] base), ⟨by decide, by decide⟩, by decide, by decide⟩,
   ⟨.host, 1, (mf 0x102 [9, 1, 0, 0, 0, 0, 0, 0, 1, 0, 0, 0]), (fly 0x102 [9, 1, 0, 0, 0, 0, 0, 0, 1, 0, 0, 0] base),
     ⟨by decide, by decide⟩, by decide, by decide, by decide⟩,
   ⟨.host, 1, (mf 0x103 []), (fly 0x103 [] base), ⟨by decide, by decide⟩, by decide, by decide⟩,
   ⟨.host, 1, (mf 0x102 [9, 1, 0, 0, 0, 0, 0, 0, 1, 0, 0, 0]), (fly 0x102 [9, 1, 0, 0, 0, 0, 0, 0, 1, 0, 0, 0] (own base)),
     ⟨by decide, by decide⟩, by decide, by decide, ⟨by decide, by decide⟩⟩,
   ⟨.host, 1, (mf 0x102 [9, 1, 0, 0, 0, 0, 0, 0, 2, 0, 0, 0]), (fly 0x102 [9, 1, 0, 0, 0, 0, 0, 0, 2, 0, 0, 0] (own base)),
     ⟨by decide, by decide⟩, by decide, by decide⟩,
   ⟨.host, 1, (mf 0x103 []), { fly 0x103 [] (own base) with flight := [mf 0x103 []], staged := [(0x7040, 5)] }, ⟨by decide,
     by decide⟩, by decide, ⟨by decide, by decide⟩, by decide⟩⟩

theorem test_ImageCommands_hyps :
  (∃ (p : Path) (tag : Nat) (f : Flight) (s : State), IsNext p tag 0x0104 f s ∧ 12 ≤ f.buf.length ∧ f.buf.length ≤ 2012 ∧
    (par f 8 1 = 0 ∨ par f 8 1 = 2) ∧ par f 9 1 < 12 ∧ par f 0 4 + (f.buf.length - 12) ≤ par f 4 4 ∧ 0 < par f 4 4 ∧
    par f 4 4 ≤ 2 ^ 20 ∧ imgBankOk s (par f 9 1) = true ∧ s.hub.st ≠ .resync ∧ (s.hst.loading = false ∧ par f 0 4 = 0 ∨
    s.hst.loading = true ∧ s.hst.img = some (par f 0 4, par f 9 1)) ∧ OwnOpen f s) ∧
  (∃ (p : Path) (tag : Nat) (ecc : ReadEcc) (f : Flight) (s : State), IsNext p tag 0x0104 f s ∧ 12 ≤ f.buf.length ∧
    f.buf.length ≤ 2012 ∧ (par f 8 1 = 1 ∨ par f 8 1 = 3) ∧ par f 9 1 < 12 ∧ par f 0 4 + (f.buf.length - 12) = par f 4 4 ∧
    0 < par f 4 4 ∧ par f 4 4 ≤ 2 ^ 20 ∧ imgBankOk s (par f 9 1) = true ∧ s.hub.st ≠ .resync ∧ (s.hst.loading = false ∧
    par f 0 4 = 0 ∨ s.hst.loading = true ∧ s.hst.img = some (par f 0 4, par f 9 1)) ∧ OwnOpen f s ∧ ecc.ue = true) ∧
  (∃ (p : Path) (tag : Nat) (f : Flight) (s : State), IsNext p tag 0x0104 f s ∧ 12 ≤ f.buf.length ∧ f.buf.length ≤ 2012 ∧
    3 < par f 8 1 ∧ s.hub.st ≠ .resync) ∧
  (∃ (p : Path) (tag : Nat) (f : Flight) (s : State), IsNext p tag 0x0105 f s ∧ f.buf.length = 4 ∧ par f 0 1 ≤ 1 ∧
    par f 2 1 < 12 ∧ bankOwner s (par f 2 1) = ownCpu) ∧
  (∃ (p : Path) (tag : Nat) (f : Flight) (s : State), IsNext p tag 0x0105 f s ∧ f.buf.length = 4 ∧ (par f 0 1 = 2 ∨
    par f 0 1 = 3) ∧ 1 ≤ par f 1 1 ∧ par f 1 1 ≤ 9 ∧ par f 2 1 < 12 ∧ bankOwner s (par f 2 1) = ownCpu) ∧
  (∃ (p : Path) (tag : Nat) (f : Flight) (s : State), IsNext p tag 0x0105 f s ∧ f.buf.length = 4 ∧ 4 ≤ par f 0 1 ∧
    par f 0 1 ≤ 7 ∧ ((par f 0 1 / 2 % 2 = 1 → 1 ≤ par f 1 1 ∧ par f 1 1 ≤ 9)) ∧ f.path = .host) ∧
  (∃ (p : Path) (tag : Nat) (n : Nat) (f : Flight) (s : State), IsNext p tag 0x0105 f s ∧ f.buf.length = 4 ∧ (par f 0 1 = 4 ∨
    par f 0 1 = 5) ∧ f.path = .mgmt n) ∧
  (∃ (p : Path) (tag : Nat) (f : Flight) (s : State), IsNext p tag 0x0105 f s ∧ f.buf.length = 4 ∧ 7 < par f 0 1) :=
  ⟨⟨.host, 1, (mf 0x104 [3, 0, 0, 0, 7, 0, 0, 0, 2, 3, 0, 0, 9, 8, 7, 6]), (fly 0x104 [3, 0, 0, 0, 7, 0, 0, 0, 2, 3, 0, 0, 9,
    8, 7, 6] (bk 3 5#32 { own base with hst := { base.hst with loading := true, img := some (3, 3) } })), ⟨by decide,
    by decide⟩, by decide, by decide, by decide, by decide, by decide, by decide, by decide, by decide, by decide, by decide,
    ⟨by decide, by decide⟩⟩,
   ⟨.host, 1, { ue := true }, (mf 0x104 ([3, 0, 0, 0, 7, 0, 0, 0, 3, 3, 0, 0, 9, 8, 7, 6])), (fly 0x104 ([3, 0, 0, 0, 7, 0, 0,
     0, 3, 3, 0, 0, 9, 8, 7, 6]) (bk 3 5#32 { own base with hst := { base.hst with loading := true, img := some (3, 3) } })),
     ⟨by decide, by decide⟩, by decide, by decide, by decide, by decide, by decide, by decide, by decide, by decide, by decide,
     by decide, ⟨by decide, by decide⟩, by decide⟩,
   ⟨.host, 1, (mf 0x104 [0, 0, 0, 0, 5, 0, 0, 0, 4, 3, 0, 0, 9, 8, 7, 6]), (fly 0x104 [0, 0, 0, 0, 5, 0, 0, 0, 4, 3, 0, 0, 9,
     8, 7, 6] base), ⟨by decide, by decide⟩, by decide, by decide, by decide, by decide⟩,
   ⟨.host, 1, (mf 0x105 ([0, 0, 3, 0])), (fly 0x105 ([0, 0, 3, 0]) (bk 3 5#32 base)), ⟨by decide, by decide⟩, by decide,
     by decide, by decide, by decide⟩,
   ⟨.host, 1, (mf 0x105 ([3, 9, 3, 0])), (fly 0x105 ([3, 9, 3, 0]) (bk 3 5#32 base)), ⟨by decide, by decide⟩, by decide,
     by decide, by decide, by decide, by decide, by decide⟩,
   ⟨.host, 1, (mf 0x105 ([7, 9, 3, 0])), (fly 0x105 ([7, 9, 3, 0]) (base)), ⟨by decide, by decide⟩, by decide, by decide,
     by decide, by decide, by decide⟩,
   ⟨(.mgmt 1), 1, 3, { mf 0x105 [4, 0, 3, 0] with path := .mgmt 3 },
     { base with flight := [{ mf 0x105 [4, 0, 3, 0] with path := .mgmt 3 }] }, ⟨by decide, by decide⟩, by decide, by decide,
     by decide⟩,
   ⟨.host, 1, (mf 0x105 [8, 0, 3, 0]), (fly 0x105 [8, 0, 3, 0] base), ⟨by decide, by decide⟩, by decide, by decide⟩⟩

theorem test_ChannelStaging_hyps :
  (∃ (p : Path) (tag : Nat) (f : Flight) (s : State), IsNext p tag 0x0201 f s ∧ f.buf.length = 12 ∧ OwnOpen f s ∧
    par f 0 2 < 512 ∧ par f 2 1 ≤ 3 ∧ par f 3 1 ≤ 3 ∧ par f 4 1 ≤ 10 ∧ par f 5 1 ≤ 3 ∧ (par f 4 1 < 10 ∨ par f 5 1 < 3) ∧
    par f 6 1 ≤ 7 ∧ par f 8 2 ≤ 10000 ∧ ((2 ≤ par f 3 1 → par f 8 2 ≠ 0)) ∧ expert s .shf (par f 0 2 / 32) = false ∧
    ((2 ≤ par f 3 1 → expert s .flt (par f 0 2 / 32) = false))) ∧
  (∃ (p : Path) (tag : Nat) (f : Flight) (s : State), IsNext p tag 0x0202 f s ∧ f.buf.length = 12 ∧ OwnOpen f s ∧
    par f 0 1 ≤ 15 ∧ par f 4 4 &&& par f 8 4 = 0 ∧ expert s .shf (par f 0 1) = false) ∧
  (∃ (p : Path) (tag : Nat) (f : Flight) (s : State), IsNext p tag 0x0203 f s ∧ f.buf.length = 4 ∧ OwnOpen f s ∧
    par f 0 2 < 512 ∧ par f 2 1 ≤ 2 ∧ expert s .shf (par f 0 2 / 32) = false) ∧
  (∃ (p : Path) (tag : Nat) (f : Flight) (s : State), IsNext p tag 0x0207 f s ∧ f.buf.length = 16 ∧ OwnOpen f s ∧
    par f 0 1 ≤ 15 ∧ par f 1 1 ≤ 3 ∧ par f 2 1 ≤ 3 ∧ par f 3 1 ≤ 3 ∧ par f 6 1 ≤ 63 ∧ par f 7 1 ≤ 3 ∧ par f 8 2 ≤ 0xFFF ∧
    par f 10 1 ≤ 15 ∧ par f 12 1 ≤ 1 ∧ par f 13 1 ≤ 1 ∧ par f 14 1 ≤ 15 ∧ expert s .shf (par f 0 1) = false) ∧
  (∃ (p : Path) (tag : Nat) (f : Flight) (s : State), IsNext p tag 0x0201 f s ∧ f.buf.length = 12 ∧ 511 < par f 0 2) ∧
  (∃ (p : Path) (tag : Nat) (f : Flight) (s : State), IsNext p tag 0x0201 f s ∧ f.buf.length = 12 ∧ par f 0 2 < 512 ∧
    par f 2 1 ≤ 3 ∧ par f 3 1 ≤ 3 ∧ par f 4 1 ≤ 10 ∧ par f 5 1 ≤ 3 ∧ (par f 4 1 < 10 ∨ par f 5 1 < 3) ∧ par f 6 1 ≤ 7 ∧
    par f 8 2 ≤ 10000 ∧ ((2 ≤ par f 3 1 → par f 8 2 ≠ 0)) ∧ (expert s .shf (par f 0 2 / 32) = true ∨ 2 ≤ par f 3 1 ∧
    expert s .flt (par f 0 2 / 32) = true)) ∧
  (∃ (p : Path) (tag : Nat) (f : Flight) (s : State), IsNext p tag 0x0201 f s ∧ f.buf.length = 12 ∧ par f 0 2 < 512 ∧
    par f 2 1 ≤ 3 ∧ par f 3 1 ≤ 3 ∧ par f 4 1 ≤ 10 ∧ par f 5 1 ≤ 3 ∧ (par f 4 1 < 10 ∨ par f 5 1 < 3) ∧ par f 6 1 ≤ 7 ∧
    par f 8 2 ≤ 10000 ∧ ((2 ≤ par f 3 1 → par f 8 2 ≠ 0)) ∧ s.cmt.st = .closed) ∧
  (∃ (p : Path) (tag : Nat) (f : Flight) (s : State), IsNext p tag 0x0202 f s ∧ f.buf.length = 12 ∧ 15 < par f 0 1) ∧
  (∃ (p : Path) (tag : Nat) (f : Flight) (s : State), IsNext p tag 0x0202 f s ∧ f.buf.length = 12 ∧ par f 0 1 ≤ 15 ∧
    par f 4 4 &&& par f 8 4 = 0 ∧ expert s .shf (par f 0 1) = true) ∧
  (∃ (p : Path) (tag : Nat) (f : Flight) (s : State), IsNext p tag 0x0202 f s ∧ f.buf.length = 12 ∧ par f 0 1 ≤ 15 ∧
    par f 4 4 &&& par f 8 4 = 0 ∧ s.cmt.st = .closed) ∧
  (∃ (p : Path) (tag : Nat) (f : Flight) (s : State), IsNext p tag 0x0203 f s ∧ f.buf.length = 4 ∧ 511 < par f 0 2) ∧
  (∃ (p : Path) (tag : Nat) (f : Flight) (s : State), IsNext p tag 0x0203 f s ∧ f.buf.length = 4 ∧ par f 0 2 < 512 ∧
    par f 2 1 ≤ 2 ∧ expert s .shf (par f 0 2 / 32) = true) ∧
  (∃ (p : Path) (tag : Nat) (f : Flight) (s : State), IsNext p tag 0x0203 f s ∧ f.buf.length = 4 ∧ par f 0 2 < 512 ∧
    par f 2 1 ≤ 2 ∧ s.cmt.st = .closed) ∧
  (∃ (p : Path) (tag : Nat) (f : Flight) (s : State), IsNext p tag 0x0207 f s ∧ f.buf.length = 16 ∧ 15 < par f 0 1) ∧
  (∃ (p : Path) (tag : Nat) (f : Flight) (s : State), IsNext p tag 0x0207 f s ∧ f.buf.length = 16 ∧ par f 0 1 ≤ 15 ∧
    par f 1 1 ≤ 3 ∧ par f 2 1 ≤ 3 ∧ par f 3 1 ≤ 3 ∧ par f 6 1 ≤ 63 ∧ par f 7 1 ≤ 3 ∧ par f 8 2 ≤ 0xFFF ∧ par f 10 1 ≤ 15 ∧
    par f 12 1 ≤ 1 ∧ par f 13 1 ≤ 1 ∧ par f 14 1 ≤ 15 ∧ expert s .shf (par f 0 1) = true) ∧
  (∃ (p : Path) (tag : Nat) (f : Flight) (s : State), IsNext p tag 0x0207 f s ∧ f.buf.length = 16 ∧ par f 0 1 ≤ 15 ∧
    par f 1 1 ≤ 3 ∧ par f 2 1 ≤ 3 ∧ par f 3 1 ≤ 3 ∧ par f 6 1 ≤ 63 ∧ par f 7 1 ≤ 3 ∧ par f 8 2 ≤ 0xFFF ∧ par f 10 1 ≤ 15 ∧
    par f 12 1 ≤ 1 ∧ par f 13 1 ≤ 1 ∧ par f 14 1 ≤ 15 ∧ s.cmt.st = .closed) :=
  ⟨⟨.host, 1, (mf 0x201 [255, 1, 3, 3, 9, 3, 7, 0, 0x10, 0x27, 0, 0]), (fly 0x201 [255, 1, 3, 3, 9, 3, 7, 0, 0x10, 0x27, 0,
    0] (own base)), ⟨by decide, by decide⟩, by decide, ⟨by decide, by decide⟩, by decide, by decide, by decide, by decide,
    by decide, by decide, by decide, by decide, by decide, by decide, by decide⟩,
   ⟨.host, 1, (mf 0x202 [15, 0, 0, 0, 1, 0, 0, 0x80, 2, 0, 0, 0]), (fly 0x202 [15, 0, 0, 0, 1, 0, 0, 0x80, 2, 0, 0,
     0] (own base)), ⟨by decide, by decide⟩, by decide, ⟨by decide, by decide⟩, by decide, by decide, by decide⟩,
   ⟨.host, 1, (mf 0x203 [0xFF, 1, 2, 0]), (fly 0x203 [0xFF, 1, 2, 0] (own base)), ⟨by decide, by decide⟩, by decide,
     ⟨by decide, by decide⟩, by decide, by decide, by decide⟩,
   ⟨.host, 1, (mf 0x207 [15, 3, 3, 3, 0, 0, 63, 3, 0xFF, 0xF, 15, 0, 1, 1, 15, 0]), (fly 0x207 [15, 3, 3, 3, 0, 0, 63, 3, 0xFF,
     0xF, 15, 0, 1, 1, 15, 0] (own base)), ⟨by decide, by decide⟩, by decide, ⟨by decide, by decide⟩, by decide, by decide,
     by decide, by decide, by decide, by decide, by decide, by decide, by decide, by decide, by decide, by decide⟩,
   ⟨.host, 1, (mf 0x201 [0, 2, 3, 1, 0, 0, 0, 0, 0, 0, 0, 0]), (fly 0x201 [0, 2, 3, 1, 0, 0, 0, 0, 0, 0, 0, 0] (own base)),
     ⟨by decide, by decide⟩, by decide, by decide⟩,
   ⟨.host, 1, (mf 0x201 [255, 1, 3, 3, 9, 3, 7, 0, 0x10, 0x27, 0, 0]), (fly 0x201 [255, 1, 3, 3, 9, 3, 7, 0, 0x10, 0x27, 0,
     0] (own (exp .shf 15 base))), ⟨by decide, by decide⟩, by decide, by decide, by decide, by decide, by decide, by decide,
     by decide, by decide, by decide, by decide, by decide⟩,
   ⟨.host, 1, (mf 0x201 [255, 1, 3, 3, 9, 3, 7, 0, 0x10, 0x27, 0, 0]), (fly 0x201 [255, 1, 3, 3, 9, 3, 7, 0, 0x10, 0x27, 0,
     0] (base)), ⟨by decide, by decide⟩, by decide, by decide, by decide, by decide, by decide, by decide, by decide,
     by decide, by decide, by decide, by decide⟩,
   ⟨.host, 1, (mf 0x202 [16, 0, 0, 0, 1, 0, 0, 128, 2, 0, 0, 0]), (fly 0x202 [16, 0, 0, 0, 1, 0, 0, 128, 2, 0, 0,
     0] (own base)), ⟨by decide, by decide⟩, by decide, by decide⟩,
   ⟨.host, 1, (mf 0x202 [15, 0, 0, 0, 1, 0, 0, 128, 2, 0, 0, 0]), (fly 0x202 [15, 0, 0, 0, 1, 0, 0, 128, 2, 0, 0,
     0] (own (exp .shf 15 base))), ⟨by decide, by decide⟩, by decide, by decide, by decide, by decide⟩,
   ⟨.host, 1, (mf 0x202 [15, 0, 0, 0, 1, 0, 0, 128, 2, 0, 0, 0]), (fly 0x202 [15, 0, 0, 0, 1, 0, 0, 128, 2, 0, 0, 0] (base)),
     ⟨by decide, by decide⟩, by decide, by decide, by decide, by decide⟩,
   ⟨.host, 1, (mf 0x203 [0, 2, 2, 0]), (fly 0x203 [0, 2, 2, 0] (own base)), ⟨by decide, by decide⟩, by decide, by decide⟩,
   ⟨.host, 1, (mf 0x203 [255, 1, 2, 0]), (fly 0x203 [255, 1, 2, 0] (own (exp .shf 15 base))), ⟨by decide, by decide⟩,
     by decide, by decide, by decide, by decide⟩,
   ⟨.host, 1, (mf 0x203 [255, 1, 2, 0]), (fly 0x203 [255, 1, 2, 0] (base)), ⟨by decide, by decide⟩, by decide, by decide,
     by decide, by decide⟩,
   ⟨.host, 1, (mf 0x207 [16, 3, 2, 3, 0, 0, 63, 3, 255, 15, 15, 0, 1, 1, 15, 0]), (fly 0x207 [16, 3, 2, 3, 0, 0, 63, 3, 255,
     15, 15, 0, 1, 1, 15, 0] (own base)), ⟨by decide, by decide⟩, by decide, by decide⟩,
   ⟨.host, 1, (mf 0x207 [15, 3, 3, 3, 0, 0, 63, 3, 255, 15, 15, 0, 1, 1, 15, 0]), (fly 0x207 [15, 3, 3, 3, 0, 0, 63, 3, 255,
     15, 15, 0, 1, 1, 15, 0] (own (exp .shf 15 base))), ⟨by decide, by decide⟩, by decide, by decide, by decide, by decide,
     by decide, by decide, by decide, by decide, by decide, by decide, by decide, by decide, by decide⟩,
   ⟨.host, 1, (mf 0x207 [15, 3, 3, 3, 0, 0, 63, 3, 255, 15, 15, 0, 1, 1, 15, 0]), (fly 0x207 [15, 3, 3, 3, 0, 0, 63, 3, 255,
     15, 15, 0, 1, 1, 15, 0] (base)), ⟨by decide, by decide⟩, by decide, by decide, by decide, by decide, by decide, by decide,
     by decide, by decide, by decide, by decide, by decide, by decide, by decide⟩⟩

theorem test_SensorAndFilterCommands_hyps :
  (∃ (p : Path) (tag : Nat) (f : Flight) (s : State), IsNext p tag 0x0200 f s ∧ f.buf.length = 32 ∧ OwnOpen f s ∧
    sensorBad f = false ∧ expert s .shf (par f 0 2 / 32) = false ∧ expert s .lin 0 = false ∧ s.lin.copying = false ∧
    sf s 0xF040 0 1 ≠ linPage s) ∧
  (∃ (p : Path) (tag : Nat) (f : Flight) (s : State), IsNext p tag 0x0204 f s ∧ f.buf.length = 4 ∧ par f 0 2 < 512 ∧
    par f 2 1 ≤ 2 ∧ (par f 3 1 ≤ 0x26 ∨ par f 3 1 = 0xFF) ∧ expert s .shf (par f 0 2 / 32) = false ∧
    auxAvail s (par f 0 2 / 128) = true) ∧
  (∃ (p : Path) (tag : Nat) (f : Flight) (s : State), IsNext p tag 0x0204 f s ∧ f.buf.length = 4 ∧ par f 0 2 < 512 ∧
    par f 2 1 ≤ 2 ∧ (par f 3 1 ≤ 0x26 ∨ par f 3 1 = 0xFF) ∧ expert s .shf (par f 0 2 / 32) = false ∧
    auxAvail s (par f 0 2 / 128) = false) ∧
  (∃ (p : Path) (tag : Nat) (f : Flight) (s : State), IsNext p tag 0x0205 f s ∧ f.buf.length = 4 ∧ par f 0 1 ≤ 15 ∧
    par f 1 1 = 1 ∧ par f 2 1 ≤ 1 ∧ par f 3 1 ≤ 31 ∧ expert s .shf (par f 0 1) = false ∧ ltOf s (par f 0 1) = none ∧
    sheafDriven s (par f 0 1) = false ∧ sheafDual s (par f 0 1) = false ∧ auxAvail s (par f 0 1 / 4) = true) ∧
  (∃ (p : Path) (tag : Nat) (f : Flight) (s : State), IsNext p tag 0x0205 f s ∧ f.buf.length = 4 ∧ par f 0 1 ≤ 15 ∧
    par f 1 1 = 0 ∧ par f 2 1 ≤ 1 ∧ par f 3 1 ≤ 31 ∧ expert s .shf (par f 0 1) = false ∧ ltOf s (par f 0 1) = none ∧
    auxAvail s (par f 0 1 / 4) = true ∧ ltCover s (par f 0 1) (decide (par f 2 1 = 1)) (par f 3 1) ≠ []) ∧
  (∃ (p : Path) (tag : Nat) (f : Flight) (s : State), IsNext p tag 0x0205 f s ∧ f.buf.length = 4 ∧ par f 0 1 ≤ 15 ∧
    par f 1 1 = 1 ∧ par f 2 1 ≤ 1 ∧ par f 3 1 ≤ 31 ∧ expert s .shf (par f 0 1) = false ∧ ltOf s (par f 0 1) = none ∧
    sheafDriven s (par f 0 1) = true) ∧
  (∃ (p : Path) (tag : Nat) (f : Flight) (s : State), IsNext p tag 0x0205 f s ∧ f.buf.length = 4 ∧ par f 0 1 ≤ 15 ∧
    par f 1 1 ≤ 1 ∧ par f 2 1 ≤ 1 ∧ par f 3 1 ≤ 31 ∧ expert s .shf (par f 0 1) = false ∧ ltOf s (par f 0 1) = none ∧
    sheafDriven s (par f 0 1) = false ∧ sheafDual s (par f 0 1) = false ∧ auxAvail s (par f 0 1 / 4) = false) ∧
  (∃ (p : Path) (tag : Nat) (f : Flight) (s : State), IsNext p tag 0x0206 f s ∧ f.buf.length = 4 ∧ par f 0 1 ≤ 15 ∧
    par f 1 1 ≤ 0x3F ∧ par f 2 1 ≤ 1 ∧ expert s .shf (par f 0 1) = false ∧ s.cmt.st = .closed ∧ s.hub.st ≠ .resync) ∧
  (∃ (p : Path) (tag : Nat) (f : Flight) (s : State), IsNext p tag 0x0206 f s ∧ f.buf.length = 4 ∧ par f 0 1 ≤ 15 ∧
    par f 1 1 ≤ 0x3F ∧ par f 2 1 ≤ 1 ∧ expert s .shf (par f 0 1) = false ∧ s.cmt.st ≠ .closed ∧ s.hub.st ≠ .resync) ∧
  (∃ (p : Path) (tag : Nat) (f : Flight) (s : State), IsNext p tag 0x0208 f s ∧ f.buf.length = 12 ∧ par f 0 1 ≤ 15 ∧
    par f 1 1 ≤ 3 ∧ par f 2 1 ≤ 1 ∧ 1 ≤ par f 3 1 ∧ par f 3 1 ≤ 4 ∧ expert s .flt (par f 0 1) = false ∧
    bankRefusal s (par f 0 1) (par f 1 1) (decide (par f 2 1 = 1)) = none ∧ tget [] s.sealing (par f 0 1) = []) ∧
  (∃ (p : Path) (tag : Nat) (f : Flight) (s : State), IsNext p tag 0x0208 f s ∧ f.buf.length = 1036 ∧ par f 0 1 ≤ 15 ∧
    par f 1 1 ≤ 3 ∧ par f 2 1 ≤ 1 ∧ par f 3 1 = 0 ∧ 1 ≤ par f 4 1 ∧ par f 4 1 ≤ 16 ∧ par f 5 1 ≤ 1 ∧
    expert s .flt (par f 0 1) = false ∧ bankRefusal s (par f 0 1) (par f 1 1) (decide (par f 2 1 = 1)) = none ∧
    tget [] s.sealing (par f 0 1) = []) ∧
  (∃ (p : Path) (tag : Nat) (f : Flight) (s : State), IsNext p tag 0x0208 f s ∧ f.buf.length = 12 ∧ par f 0 1 ≤ 15 ∧
    par f 1 1 ≤ 3 ∧ par f 2 1 ≤ 1 ∧ 1 ≤ par f 3 1 ∧ par f 3 1 ≤ 4 ∧ expert s .flt (par f 0 1) = false ∧
    bankRefusal s (par f 0 1) (par f 1 1) (decide (par f 2 1 = 1)) = none ∧ tget [] s.sealing (par f 0 1) ≠ []) :=
  ⟨⟨.host, 1, (mf 0x200 ([0xFF, 1, 1, 1, 5, 0, 0, 0, 1, 0, 0, 0, 2, 0, 0, 0, 3, 0, 0, 0] ++ List.replicate 12 0)),
    (sr 0xF040 0#32 (fly 0x200 ([0xFF, 1, 1, 1, 5, 0, 0, 0, 1, 0, 0, 0, 2, 0, 0, 0, 3, 0, 0,
    0] ++ List.replicate 12 0) { own base with staged := [(0xF040, 1)] })), ⟨by decide, by decide⟩, by decide, ⟨by decide,
    by decide⟩, by decide, by decide, by decide, by decide, by decide⟩,
   ⟨.host, 1, (mf 0x204 [0xFF, 1, 2, 0xFF]), (fly 0x204 [0xFF, 1, 2, 0xFF] (ax 3 { run := some ⟨.vexc, 0⟩ } (dy 3 base))),
     ⟨by decide, by decide⟩, by decide, by decide, by decide, by decide, by decide, by decide⟩,
   ⟨.host, 1, (mf 0x204 [0xFF, 1, 2, 0xFF]), (fly 0x204 [0xFF, 1, 2, 0xFF] base), ⟨by decide, by decide⟩, by decide, by decide,
     by decide, by decide, by decide, by decide⟩,
   ⟨.host, 1, (mf 0x205 [15, 1, 1, 31]), (fly 0x205 [15, 1, 1, 31] (dy 3 base)), ⟨by decide, by decide⟩, by decide, by decide,
     by decide, by decide, by decide, by decide, by decide, by decide, by decide, by decide⟩,
   ⟨.host, 1, (mf 0x205 [15, 0, 1, 31]), (fly 0x205 [15, 0, 1, 31] (cx 511 { st := .run } (dy 3 base))), ⟨by decide,
     by decide⟩, by decide, by decide, by decide, by decide, by decide, by decide, by decide, by decide, by decide⟩,
   ⟨.host, 1, (mf 0x205 [15, 1, 1, 31]), (fly 0x205 [15, 1, 1, 31] (ex 63 { mode := .hold } (dy 3 base))), ⟨by decide,
     by decide⟩, by decide, by decide, by decide, by decide, by decide, by decide, by decide, by decide⟩,
   ⟨.host, 1, (mf 0x205 [15, 1, 1, 3]), (fly 0x205 [15, 1, 1, 3] base), ⟨by decide, by decide⟩, by decide, by decide,
     by decide, by decide, by decide, by decide, by decide, by decide, by decide, by decide⟩,
   ⟨.host, 1, (mf 0x206 [15, 0x3F, 1, 0]), (fly 0x206 [15, 0x3F, 1, 0] base), ⟨by decide, by decide⟩, by decide, by decide,
     by decide, by decide, by decide, by decide, by decide⟩,
   ⟨.host, 1, (mf 0x206 [15, 0x3F, 1, 0]), (fly 0x206 [15, 0x3F, 1, 0] (own base)), ⟨by decide, by decide⟩, by decide,
     by decide, by decide, by decide, by decide, by decide, by decide⟩,
   ⟨.host, 1, (mf 0x208 [15, 3, 1, 3, 0, 0, 0, 0, 0, 0, 0, 0]), (fly 0x208 [15, 3, 1, 3, 0, 0, 0, 0, 0, 0, 0, 0] base),
     ⟨by decide, by decide⟩, by decide, by decide, by decide, by decide, by decide, by decide, by decide, by decide, by decide⟩,
   ⟨.host, 1, (mf 0x208 ([15, 3, 1, 0, 16, 0, 0, 0, 111, 210, 72, 27] ++ List.replicate 1024 0)), (fly 0x208 ([15, 3, 1, 0, 16,
     0, 0, 0, 111, 210, 72, 27] ++ List.replicate 1024 0) base), ⟨by decide, by decide +kernel⟩, by decide +kernel, by decide,
     by decide, by decide, by decide, by decide, by decide, by decide, by decide, by decide, by decide⟩,
   ⟨.host, 1, (mf 0x208 [15, 3, 1, 1, 0, 0, 0, 0, 0, 0, 0, 0]),
     { fly 0x208 [15, 3, 1, 1, 0, 0, 0, 0, 0, 0, 0, 0] base with sealing := [(15, [(4, 4, 7#32)])] }, ⟨by decide, by decide⟩,
     by decide, by decide, by decide, by decide, by decide, by decide, by decide, by decide, by decide⟩⟩

theorem test_BankCommands_hyps :
  (∃ (p : Path) (tag : Nat) (f : Flight) (s : State), IsNext p tag 0x0500 f s ∧ f.buf.length = 4 ∧ par f 0 1 ≤ 11 ∧
    par f 1 1 ≤ 7 ∧ par f 2 1 ≤ 1 ∧ expert s .mem 0 = false ∧ released s (par f 0 1) = true ∧ s.mem.test ≠ some (par f 0 1) ∧
    (bankOwner s (par f 0 1) ≠ par f 1 1 ∨ bankShare s (par f 0 1) ≠ decide (par f 2 1 = 1))) ∧
  (∃ (p : Path) (tag : Nat) (f : Flight) (s : State), IsNext p tag 0x0500 f s ∧ f.buf.length = 4 ∧ par f 0 1 ≤ 11 ∧
    par f 1 1 ≤ 7 ∧ par f 2 1 ≤ 1 ∧ expert s .mem 0 = false ∧ released s (par f 0 1) = false ∧
    (bankOwner s (par f 0 1) ≠ par f 1 1 ∨ bankShare s (par f 0 1) ≠ decide (par f 2 1 = 1))) ∧
  (∃ (p : Path) (tag : Nat) (f : Flight) (s : State), IsNext p tag 0x0501 f s ∧ f.buf.length = 12 ∧ xferBad f 2016 = false ∧
    bankOpen f.path (par f 0 1) s = true ∧ (∀ i, i < par f 8 4 / 8 →
    tget 0 s.mem.errs (262144 * par f 0 1 + xferOff f i / 8) = 0)) ∧
  (∃ (p : Path) (tag : Nat) (n : Nat) (h : List (Nat × MemHit)) (f : Flight) (s : State), IsNext p tag 0x0501 f s ∧
    f.buf.length = 12 ∧ f.path = .host ∧ xferBad f 2016 = false ∧ windowOk s (par f 0 1) = true ∧ n < par f 8 4 / 8 ∧
    collKind s (par f 0 1) (hitAt h n).kind = 2 ∧ (∀ i, i < n → collKind s (par f 0 1) (hitAt h i).kind ≠ 2)) ∧
  (∃ (p : Path) (tag : Nat) (n : Nat) (h : List (Nat × MemHit)) (f : Flight) (s : State), IsNext p tag 0x0501 f s ∧
    f.buf.length = 12 ∧ xferBad f 2016 = false ∧ bankOpen f.path (par f 0 1) s = true ∧ (∀ i, i < par f 8 4 / 8 →
    (hitAt h i).kind = 0 ∧ (hitAt h i).err ≤ 2) ∧ n < par f 8 4 / 8 ∧ (hitAt h n).err = 2) ∧
  (∃ (p : Path) (tag : Nat) (f : Flight) (s : State), IsNext p tag 0x0501 f s ∧ f.buf.length = 12 ∧ xferBad f 2016 = false ∧
    bankOpen f.path (par f 0 1) s = false) ∧
  (∃ (p : Path) (tag : Nat) (f : Flight) (s : State), IsNext p tag 0x0502 f s ∧ 12 ≤ f.buf.length ∧
    f.buf.length = 12 + par f 8 4 ∧ xferBad f 2008 = false ∧ bankOpen f.path (par f 0 1) s = true) ∧
  (∃ (p : Path) (tag : Nat) (n : Nat) (h : List (Nat × MemHit)) (f : Flight) (s : State), IsNext p tag 0x0502 f s ∧
    12 ≤ f.buf.length ∧ f.buf.length = 12 + par f 8 4 ∧ f.path = .host ∧ xferBad f 2008 = false ∧
    windowOk s (par f 0 1) = true ∧ n < par f 8 4 / 8 ∧ (collKind s (par f 0 1) (hitAt h n).kind = 1 ∨
    collKind s (par f 0 1) (hitAt h n).kind = 3) ∧ (∀ i, i < n → collKind s (par f 0 1) (hitAt h i).kind = 0)) ∧
  (∃ (p : Path) (tag : Nat) (f : Flight) (s : State), IsNext p tag 0x0502 f s ∧ 12 ≤ f.buf.length ∧
    f.buf.length = 12 + par f 8 4 ∧ xferBad f 2008 = false ∧ bankOpen f.path (par f 0 1) s = false) ∧
  (∃ (p : Path) (tag : Nat) (f : Flight) (s : State), IsNext p tag 0x0503 f s ∧ f.buf.length = 4 ∧ par f 0 1 ≤ 11 ∧
    expert s .mem 0 = false ∧ s.mem.test = none ∧ bankOwner s (par f 0 1) = ownNone) ∧
  (∃ (p : Path) (tag : Nat) (f : Flight) (s : State), IsNext p tag 0x0503 f s ∧ f.buf.length = 4 ∧ par f 0 1 ≤ 11 ∧
    expert s .mem 0 = false ∧ bankOwner s (par f 0 1) ≠ ownNone) :=
  ⟨⟨.host, 1, (mf 0x500 [11, 7, 1, 0]), (fly 0x500 [11, 7, 1, 0] base), ⟨by decide, by decide⟩, by decide, by decide,
    by decide, by decide, by decide, by decide, by decide, by decide⟩,
   ⟨.host, 1, (mf 0x500 ([11, 1, 1, 0])), (fly 0x500 ([11, 1, 1,
     0]) (sr (cpA 7 0) 0x1B#32 (pl 7 { st := .held } (bk 11 1#32 base)))), ⟨by decide, by decide⟩, by decide, by decide,
     by decide, by decide, by decide, by decide, by decide⟩,
   ⟨(.mgmt 1), 1, { mf 0x501 [11, 0, 0, 0, 0xF8, 0xFF, 0x1F, 0, 16, 0, 0, 0] with path := .mgmt 3 },
     (bk 11 7#32 { base with flight := [{ mf 0x501 [11, 0, 0, 0, 0xF8, 0xFF, 0x1F, 0, 16, 0, 0, 0] with path := .mgmt 3 }], mem := { words := [(2883584, 5), (3145727, 7)] } }), ⟨by decide, by decide⟩, by decide, by decide, by decide, by decide⟩,
   ⟨.host, 1, 1, ([(1, { kind := 2, err := 1 })]), (mf 0x501 [11, 0, 0, 0, 0xF8, 0xFF, 0x1F, 0, 16, 0, 0, 0]), (fly 0x501 [11,
     0, 0, 0, 0xF8, 0xFF, 0x1F, 0, 16, 0, 0,
     0] (bk 11 0x101#32 { base with mem := { words := [(2883584, 5), (3145727, 7)], hstat := 4 } })), ⟨by decide, by decide⟩,
     by decide, by decide, by decide, by decide, by decide, by decide, by decide⟩,
   ⟨(.mgmt 1), 1, 1, ([(1, { err := 2 })]), { mf 0x501 [11, 0, 0, 0, 0xF8, 0xFF, 0x1F, 0, 16, 0, 0, 0] with path := .mgmt 3 },
     (bk 11 7#32 { base with flight := [{ mf 0x501 [11, 0, 0, 0, 0xF8, 0xFF, 0x1F, 0, 16, 0, 0, 0] with path := .mgmt 3 }], mem := { words := [(2883584, 5), (3145727, 7)] } }), ⟨by decide, by decide⟩, by decide, by decide, by decide, by decide, by decide, by decide⟩,
   ⟨.host, 1, (mf 0x501 [11, 0, 0, 0, 8, 0, 0, 0, 16, 0, 0, 0]), (fly 0x501 [11, 0, 0, 0, 8, 0, 0, 0, 16, 0, 0, 0] base),
     ⟨by decide, by decide⟩, by decide, by decide, by decide⟩,
   ⟨(.mgmt 1), 1,
     { mf 0x502 [11, 0, 0, 0, 0xF8, 0xFF, 0x1F, 0, 16, 0, 0, 0, 1, 2, 3, 4, 5, 6, 7, 8, 9, 10, 11, 12, 13, 14, 15, 16] with path := .mgmt 3 }, (bk 11 7#32 { base with flight := [{ mf 0x502 [11, 0, 0, 0, 0xF8, 0xFF, 0x1F, 0, 16, 0, 0, 0, 1, 2, 3, 4, 5, 6, 7, 8, 9, 10, 11, 12, 13, 14, 15, 16] with path := .mgmt 3 }], mem := { words := [(2883584, 5), (3145727, 7)] } }), ⟨by decide, by decide⟩, by decide, by decide, by decide, by decide⟩,
   ⟨.host, 1, 1, ([(1, { kind := 3 })]), (mf 0x502 [11, 0, 0, 0, 0xF8, 0xFF, 0x1F, 0, 16, 0, 0, 0, 1, 2, 3, 4, 5, 6, 7, 8, 9,
     10, 11, 12, 13, 14, 15, 16]), (fly 0x502 [11, 0, 0, 0, 0xF8, 0xFF, 0x1F, 0, 16, 0, 0, 0, 1, 2, 3, 4, 5, 6, 7, 8, 9, 10,
     11, 12, 13, 14, 15, 16] (bk 11 0x101#32 { base with mem := { words := [(2883584, 5), (3145727, 7)], hstat := 4 } })),
     ⟨by decide, by decide⟩, by decide, by decide, by decide, by decide, by decide, by decide, by decide, by decide⟩,
   ⟨.host, 1, (mf 0x502 [11, 0, 0, 0, 8, 0, 0, 0, 8, 0, 0, 0, 1, 2, 3, 4, 5, 6, 7, 8]), (fly 0x502 [11, 0, 0, 0, 8, 0, 0, 0, 8,
     0, 0, 0, 1, 2, 3, 4, 5, 6, 7, 8] base), ⟨by decide, by decide⟩, by decide, by decide, by decide, by decide⟩,
   ⟨.host, 1, (mf 0x503 [11, 0, 0, 0]), (fly 0x503 [11, 0, 0, 0] base), ⟨by decide, by decide⟩, by decide, by decide,
     by decide, by decide, by decide⟩,
   ⟨.host, 1, (mf 0x503 [11, 0, 0, 0]), (fly 0x503 [11, 0, 0, 0] (bk 11 4#32 base)), ⟨by decide, by decide⟩, by decide,
     by decide, by decide, by decide⟩⟩

theorem test_TimeCommands_hyps :
  (∃ (p : Path) (tag : Nat) (f : Flight) (s : State), IsNext p tag 0x0300 f s ∧ f.buf = []) ∧
  (∃ (p : Path) (tag : Nat) (f : Flight) (s : State), IsNext p tag 0x0301 f s ∧ f.buf.length = 16 ∧ par f 0 1 = 0 ∧
    expert s .tmb 0 = false ∧ s.tmb.stepNeeded = true) ∧
  (∃ (p : Path) (tag : Nat) (f : Flight) (s : State), IsNext p tag 0x0301 f s ∧ f.buf.length = 16 ∧ par f 0 1 = 1 ∧
    expert s .tmb 0 = false ∧ isRoot s = false ∧ bestSrc s = none) ∧
  (∃ (p : Path) (tag : Nat) (f : Flight) (s : State), IsNext p tag 0x0301 f s ∧ f.buf.length = 16 ∧ par f 0 1 = 0 ∧
    expert s .tmb 0 = false ∧ s.tmb.stepNeeded = false) ∧
  (∃ (p : Path) (tag : Nat) (f : Flight) (s : State), IsNext p tag 0x0301 f s ∧ f.buf.length = 16 ∧ par f 0 1 = 1 ∧
    expert s .tmb 0 = false ∧ isRoot s = false ∧ (bestSrc s).isSome = true) ∧
  (∃ (p : Path) (tag : Nat) (f : Flight) (s : State), IsNext p tag 0x0301 f s ∧ f.buf.length = 16 ∧ par f 0 1 = 1 ∧
    expert s .tmb 0 = false ∧ isRoot s = true) ∧
  (∃ (p : Path) (tag : Nat) (f : Flight) (s : State), IsNext p tag 0x0302 f s ∧ f.buf.length = 8 ∧ par f 0 1 ≤ 7 ∧
    expert s .tmb 0 = false) ∧
  (∃ (p : Path) (tag : Nat) (f : Flight) (s : State), IsNext p tag 0x0303 f s ∧ f.buf.length = 20 ∧ par f 0 1 ≤ 15 ∧
    par f 1 1 ≤ 5 ∧ par f 4 4 < 2 ^ 24 ∧ expert s .tmb 0 = false ∧ evtArmed s (par f 0 1) = false ∧
    netNow s + ns64 2000 ≤ ((par f 8 12 * 2 ^ 16 : Nat) : Int)) ∧
  (∃ (p : Path) (tag : Nat) (f : Flight) (s : State), IsNext p tag 0x0303 f s ∧ f.buf.length = 20 ∧ par f 0 1 ≤ 15 ∧
    par f 1 1 = 0xFF ∧ par f 4 4 < 2 ^ 24 ∧ expert s .tmb 0 = false) ∧
  (∃ (p : Path) (tag : Nat) (f : Flight) (s : State), IsNext p tag 0x0303 f s ∧ f.buf.length = 20 ∧ par f 0 1 ≤ 15 ∧
    par f 1 1 ≤ 5 ∧ par f 4 4 < 2 ^ 24 ∧ expert s .tmb 0 = false ∧ evtArmed s (par f 0 1) = true) ∧
  (∃ (p : Path) (tag : Nat) (f : Flight) (s : State), IsNext p tag 0x0303 f s ∧ f.buf.length = 20 ∧ par f 0 1 ≤ 15 ∧
    par f 1 1 ≤ 5 ∧ par f 4 4 < 2 ^ 24 ∧ expert s .tmb 0 = false ∧ evtArmed s (par f 0 1) = false ∧
    ((par f 8 12 * 2 ^ 16 : Nat) : Int) < netNow s + ns64 2000) :=
  ⟨⟨.host, 1, (mf 0x300 []), (fly 0x300 [] base), ⟨by decide, by decide⟩, by decide⟩,
   ⟨.host, 1, (mf 0x301 (List.replicate 16 0)),
     (fly 0x301 (List.replicate 16 0) (tm (fun x => { x with stepNeeded := true, e := 77 }) base)), ⟨by decide, by decide⟩,
     by decide, by decide, by decide, by decide⟩,
   ⟨.host, 1, (mf 0x301 ([1, 0, 0, 0] ++ List.replicate 12 1)), (fly 0x301 ([1, 0, 0, 0] ++ List.replicate 12 1) base),
     ⟨by decide, by decide⟩, by decide, by decide, by decide, by decide, by decide⟩,
   ⟨.host, 1, (mf 0x301 (List.replicate 16 0)), (fly 0x301 (List.replicate 16 0) base), ⟨by decide, by decide⟩, by decide,
     by decide, by decide, by decide⟩,
   ⟨.host, 1, (mf 0x301 ([1, 0, 0, 0] ++ List.replicate 12 1)), (fly 0x301 ([1, 0, 0,
     0] ++ List.replicate 12 1) (tm (fun x => { x with lanes := [(3, { peerState := 2, peerHops := 1, age := 0, nValid := 16 })] }) (sr 0x3160 1#32 (ln 3 { st := .up } base)))), ⟨by decide, by decide⟩, by decide, by decide, by decide, by decide, by decide⟩,
   ⟨.host, 1, (mf 0x301 ([1, 0, 0, 0] ++ List.replicate 12 1)), (fly 0x301 ([1, 0, 0,
     0] ++ List.replicate 12 1) (sr 0x3040 1#32 base)), ⟨by decide, by decide⟩, by decide, by decide, by decide, by decide⟩,
   ⟨.host, 1, (mf 0x302 [7, 0, 0, 0, 1, 2, 3, 4]), (fly 0x302 [7, 0, 0, 0, 1, 2, 3, 4] base), ⟨by decide, by decide⟩,
     by decide, by decide, by decide⟩,
   ⟨.host, 1, (mf 0x303 ([15, 5, 0, 0, 0xFF, 0xFF, 0xFF, 0] ++ List.replicate 12 1)), (fly 0x303 ([15, 5, 0, 0, 0xFF, 0xFF,
     0xFF, 0] ++ List.replicate 12 1) base), ⟨by decide, by decide⟩, by decide, by decide, by decide, by decide, by decide,
     by decide, by decide⟩,
   ⟨.host, 1, (mf 0x303 ([15, 0xFF, 0, 0, 0xFF, 0xFF, 0xFF, 0] ++ List.replicate 12 1)), (fly 0x303 ([15, 0xFF, 0, 0, 0xFF,
     0xFF, 0xFF, 0] ++ List.replicate 12 1) (tm (fun x => { x with evtArm := 0xFFFF }) base)), ⟨by decide, by decide⟩,
     by decide, by decide, by decide, by decide, by decide⟩,
   ⟨.host, 1, (mf 0x303 ([15, 5, 0, 0, 0xFF, 0xFF, 0xFF, 0] ++ List.replicate 12 1)), (fly 0x303 ([15, 5, 0, 0, 0xFF, 0xFF,
     0xFF, 0] ++ List.replicate 12 1) (tm (fun x => { x with evtArm := 0x8000 }) base)), ⟨by decide, by decide⟩, by decide,
     by decide, by decide, by decide, by decide, by decide⟩,
   ⟨.host, 1, (mf 0x303 ([15, 5, 0, 0, 0xFF, 0xFF, 0xFF, 0] ++ List.replicate 12 0)), (fly 0x303 ([15, 5, 0, 0, 0xFF, 0xFF,
     0xFF, 0] ++ List.replicate 12 0) (base)), ⟨by decide, by decide⟩, by decide, by decide, by decide, by decide, by decide,
     by decide, by decide⟩⟩

theorem test_CaptureCommands_hyps :
  (∃ (p : Path) (tag : Nat) (f : Flight) (s : State), IsNext p tag 0x0400 f s ∧ f.buf.length = 4 ∧ par f 0 1 ≤ 7 ∧
    par f 1 1 = 0 ∧ expert s .acq 0 = false ∧ planNbk s (par f 0 1) ≠ 0 ∧ (plan s (par f 0 1)).st = .idle ∧
    (plan s (par f 0 1)).offl = none ∧ s.hub.st ≠ .safe ∧ (∀ b, b < 12 → planHasBank s (par f 0 1) b = true →
    bankOwner s b = ownAcq)) ∧
  (∃ (p : Path) (tag : Nat) (f : Flight) (s : State), IsNext p tag 0x0400 f s ∧ f.buf.length = 4 ∧ par f 0 1 ≤ 7 ∧
    par f 1 1 = 0 ∧ expert s .acq 0 = false ∧ planNbk s (par f 0 1) ≠ 0 ∧ (plan s (par f 0 1)).st = .filling) ∧
  (∃ (p : Path) (tag : Nat) (f : Flight) (s : State), IsNext p tag 0x0400 f s ∧ f.buf.length = 32 ∧ par f 0 1 ≤ 7 ∧
    par f 1 1 = 1 ∧ OwnOpen f s ∧ (∀ e ∈ cpStage f (par f 0 1), e.2 &&& ~~~(stMask e.1) = 0) ∧ par f 28 4 ≤ 0x3F ∧
    expert s .acq 0 = false ∧ (plan s (par f 0 1)).offl = none) ∧
  (∃ (p : Path) (tag : Nat) (f : Flight) (s : State), IsNext p tag 0x0401 f s ∧ f.buf.length = 4 ∧ par f 0 1 ≤ 7 ∧
    expert s .acq 0 = false ∧ ((plan s (par f 0 1)).st = .filling ∨ (plan s (par f 0 1)).st = .ready)) ∧
  (∃ (p : Path) (tag : Nat) (f : Flight) (s : State), IsNext p tag 0x0401 f s ∧ f.buf.length = 4 ∧ par f 0 1 ≤ 7 ∧
    expert s .acq 0 = false ∧ (plan s (par f 0 1)).st = .post) ∧
  (∃ (p : Path) (tag : Nat) (f : Flight) (s : State), IsNext p tag 0x0401 f s ∧ f.buf.length = 4 ∧ par f 0 1 ≤ 7 ∧
    expert s .acq 0 = false ∧ ((plan s (par f 0 1)).st = .idle ∨ (plan s (par f 0 1)).st = .held)) ∧
  (∃ (p : Path) (tag : Nat) (f : Flight) (s : State), IsNext p tag 0x0402 f s ∧ f.buf.length = 12 ∧ expert s .acq 0 = false) ∧
  (∃ (p : Path) (tag : Nat) (j : Nat) (f : Flight) (s : State), IsNext p tag 0x0402 f s ∧ f.buf.length = 12 ∧
    expert s .acq 0 = false ∧ parInst f 0 ≠ 0 ∧ j < 8 ∧ bit (rg s (cpA j 0xC)) 19 = true ∧ (srcPub s 19).1 = false ∧
    ((plan s j).st = .filling ∨ (plan s j).st = .ready) ∧ (plan s j).kFirst + planPre s j ≤ planIdx s j (parInst f 0) ∧
    planNext (plan s j) + planPre s j ≤ planIdx s j (parInst f 0) + planS s j ∧
    planIdx s j (parInst f 0) < planNext (plan s j) + 64 * planOdr s j) ∧
  (∃ (p : Path) (tag : Nat) (f : Flight) (s : State), IsNext p tag 0x0403 f s ∧ f.buf.length = 4 ∧ par f 0 1 ≤ 7 ∧
    par f 1 1 ≤ 1 ∧ expert s .acq 0 = false ∧ (plan s (par f 0 1)).st = .held ∧ (plan s (par f 0 1)).offl = none) ∧
  (∃ (p : Path) (tag : Nat) (f : Flight) (s : State), IsNext p tag 0x0403 f s ∧ f.buf.length = 4 ∧ par f 0 1 ≤ 7 ∧
    par f 1 1 ≤ 1 ∧ expert s .acq 0 = false ∧ (plan s (par f 0 1)).st ≠ .held) ∧
  (∃ (p : Path) (tag : Nat) (f : Flight) (s : State), IsNext p tag 0x0404 f s ∧ f.buf.length = 12 ∧ OwnOpen f s ∧
    par f 0 1 ≤ 15 ∧ par f 1 1 ≤ 31 ∧ par f 2 1 ≤ 15 ∧ expert s .gln 0 = false) :=
  ⟨⟨.host, 1, (mf 0x400 [7, 0, 0, 0]), (fly 0x400 [7, 0, 0, 0] (sr (cpA 7 0) 0x1B#32 (bk 11 1 base))), ⟨by decide, by decide⟩,
    by decide, by decide, by decide, by decide, by decide, by decide, by decide, by decide, by decide⟩,
   ⟨.host, 1, (mf 0x400 [7, 0, 0, 0]), (fly 0x400 [7, 0, 0, 0] (sr (cpA 7 0) 0x1B#32 (pl 7 { st := .filling } base))),
     ⟨by decide, by decide⟩, by decide, by decide, by decide, by decide, by decide, by decide⟩,
   ⟨.host, 1, (mf 0x400 ([7, 1, 0, 0] ++ List.replicate 24 0 ++ [0x35, 0, 0, 0])), (fly 0x400 ([7, 1, 0,
     0] ++ List.replicate 24 0 ++ [0x35, 0, 0, 0]) (own base)), ⟨by decide, by decide⟩, by decide, by decide, by decide,
     ⟨by decide, by decide⟩, by decide, by decide, by decide, by decide⟩,
   ⟨.host, 1, (mf 0x401 [7, 0, 0, 0]), (fly 0x401 [7, 0, 0, 0] (sr (cpA 7 0) 0x1B#32 (pl 7 { st := .ready } base))),
     ⟨by decide, by decide⟩, by decide, by decide, by decide, by decide⟩,
   ⟨.host, 1, (mf 0x401 ([7, 0, 0, 0])), (fly 0x401 ([7, 0, 0,
     0]) (sr (cpA 7 0) 0x1B#32 (pl 7 { st := .post, trig := 4 } base))), ⟨by decide, by decide⟩, by decide, by decide,
     by decide, by decide⟩,
   ⟨.host, 1, (mf 0x401 ([7, 0, 0, 0])), (fly 0x401 ([7, 0, 0, 0]) (pl 7 { st := .held } base)), ⟨by decide, by decide⟩,
     by decide, by decide, by decide, by decide⟩,
   ⟨.host, 1, (mf 0x402 [1, 0, 0, 0, 0, 0, 0, 0, 0, 0, 0, 0]), (fly 0x402 [1, 0, 0, 0, 0, 0, 0, 0, 0, 0, 0,
     0] (sr (cpA 7 0xC) 0x80000#32 (pl 7 { st := .ready } base))), ⟨by decide, by decide⟩, by decide, by decide⟩,
   ⟨.host, 1, 7, (mf 0x402 [0, 0, 0, 0, 0, 0, 5, 0, 0, 0, 0, 0]), (fly 0x402 [0, 0, 0, 0, 0, 0, 5, 0, 0, 0, 0,
     0] (sr (cpA 7 0) 0x10#32 (sr (cpA 7 0xC) 0x80000#32 (sr (cpA 7 4) 1#32 (sr (cpA 7 8) 1#32 (pl 7 { st := .ready } base)))))), ⟨by decide, by decide⟩, by decide, by decide, by decide, by decide, by decide, by decide, by decide, by decide +kernel, by decide +kernel, by decide +kernel⟩,
   ⟨.host, 1, (mf 0x403 [7, 1, 0, 0]), (fly 0x403 [7, 1, 0,
     0] (sr (cpA 7 0x18) 0x15#32 (pl 7 { st := .held, trig := 4 } base))), ⟨by decide, by decide⟩, by decide, by decide,
     by decide, by decide, by decide, by decide⟩,
   ⟨.host, 1, (mf 0x403 ([7, 1, 0, 0])), (fly 0x403 ([7, 1, 0, 0]) (pl 7 { st := .post } base)), ⟨by decide, by decide⟩,
     by decide, by decide, by decide, by decide, by decide⟩,
   ⟨.host, 1, (mf 0x404 [15, 31, 15, 1, 2, 3, 4, 5, 6, 7, 8, 9]), (fly 0x404 [15, 31, 15, 1, 2, 3, 4, 5, 6, 7, 8,
     9] (own base)), ⟨by decide, by decide⟩, by decide, ⟨by decide, by decide⟩, by decide, by decide, by decide, by decide⟩⟩

theorem test_LinkCommands_hyps :
  (∃ (p : Path) (tag : Nat) (f : Flight) (s : State), IsNext p tag 0x0600 f s ∧ f.buf.length = 4 ∧ par f 0 1 ≤ 7) ∧
  (∃ (p : Path) (tag : Nat) (f : Flight) (s : State), IsNext p tag 0x0600 f s ∧ f.buf.length = 4 ∧ 7 < par f 0 1) ∧
  (∃ (p : Path) (tag : Nat) (f : Flight) (s : State), IsNext p tag 0x0601 f s ∧ f.buf.length = 12 ∧ OwnOpen f s ∧
    par f 0 1 ≤ 3 ∧ par f 1 1 ≤ 7 ∧ par f 2 1 ≤ 15 ∧ par f 3 1 ≤ 7 ∧ par f 5 1 ≤ 11 ∧ par f 8 2 ≤ 511 ∧ par f 10 2 ≤ 511 ∧
    expert s .rte 0 = false ∧ expert s .que 0 = false) ∧
  (∃ (p : Path) (tag : Nat) (f : Flight) (s : State), IsNext p tag 0x0602 f s ∧ f.buf.length = 8 ∧ par f 0 1 ≤ 7 ∧
    par f 1 1 ≤ 4 ∧ par f 2 1 ≤ 6 ∧ par f 3 1 ≤ 15 ∧ par f 4 4 ≠ 0 ∧ expert s .lnk (par f 0 1) = false ∧ s.cmt.st = .closed ∧
    s.hub.st ≠ .resync) ∧
  (∃ (p : Path) (tag : Nat) (f : Flight) (s : State), IsNext p tag 0x0602 f s ∧ f.buf.length = 8 ∧ par f 0 1 ≤ 7 ∧
    par f 1 1 ≤ 4 ∧ par f 2 1 ≤ 6 ∧ par f 3 1 ≤ 15 ∧ par f 4 4 ≠ 0 ∧ expert s .lnk (par f 0 1) = false ∧ s.cmt.st ≠ .closed ∧
    s.hub.st ≠ .resync) ∧
  (∃ (n : Nat) (u : Nat) (e : Nat) (f : Flight) (s : State), running s = true ∧ prbsDue s n = some (f, u, e) ∧
    f.wait = .prbs n 1 u e ∧ s.cmt.st = .closed ∧ s.hub.st ≠ .resync) ∧
  (∃ (p : Path) (tag : Nat) (f : Flight) (s : State), IsNext p tag 0x0603 f s ∧ f.buf.length = 20 ∧ OwnOpen f s ∧
    par f 0 1 ≤ 31 ∧ 1 ≤ par f 1 1 ∧ par f 1 1 ≤ 3 ∧ par f 2 1 ≤ 15 ∧ 1 ≤ par f 3 1 ∧ par f 3 1 ≤ 64 ∧ par f 4 1 ≤ 63 ∧
    par f 6 1 ≤ 11 ∧ par f 7 1 ≤ 4 ∧ par f 10 2 ≤ 511 ∧ par f 12 2 ≤ 511 ∧ expert s .que 0 = false) :=
  ⟨⟨.host, 1, (mf 0x600 [7, 0, 0, 0]), (fly 0x600 [7, 0, 0, 0] (sr 0x1703C 5#32 base)), ⟨by decide, by decide⟩, by decide,
    by decide⟩,
   ⟨.host, 1, (mf 0x600 [8, 0, 0, 0]), (fly 0x600 [8, 0, 0, 0] base), ⟨by decide, by decide⟩, by decide, by decide⟩,
   ⟨.host, 1, (mf 0x601 [3, 7, 15, 7, 5, 11, 7, 0, 0xFF, 1, 0xFF, 1]), (fly 0x601 [3, 7, 15, 7, 5, 11, 7, 0, 0xFF, 1, 0xFF,
     1] (own base)), ⟨by decide, by decide⟩, by decide, ⟨by decide, by decide⟩, by decide, by decide, by decide, by decide,
     by decide, by decide, by decide, by decide, by decide⟩,
   ⟨.host, 1, (mf 0x602 [7, 4, 6, 15, 0xFF, 0xFF, 0xFF, 0xFF]), (fly 0x602 [7, 4, 6, 15, 0xFF, 0xFF, 0xFF, 0xFF] base),
     ⟨by decide, by decide⟩, by decide, by decide, by decide, by decide, by decide, by decide, by decide, by decide, by decide⟩,
   ⟨.host, 1, (mf 0x602 [7, 4, 6, 15, 0xFF, 0xFF, 0xFF, 0xFF]), (fly 0x602 [7, 4, 6, 15, 0xFF, 0xFF, 0xFF, 0xFF] (own base)),
     ⟨by decide, by decide⟩, by decide, by decide, by decide, by decide, by decide, by decide, by decide, by decide, by decide⟩,
   ⟨7, 3, 0, { mf 0x602 [7] with wait := .prbs 7 1 3 0 },
     { base with ord := 3, flight := [{ mf 0x602 [7] with wait := .prbs 7 1 3 0 }] }, by decide, by decide, by decide,
     by decide, by decide⟩,
   ⟨.host, 1, (mf 0x603 [31, 3, 15, 64, 63, 0, 11, 4, 5, 5, 0xFF, 1, 0xFF, 1, 0, 0, 1, 2, 3, 4]), (fly 0x603 [31, 3, 15, 64,
     63, 0, 11, 4, 5, 5, 0xFF, 1, 0xFF, 1, 0, 0, 1, 2, 3, 4] (own base)), ⟨by decide, by decide⟩, by decide, ⟨by decide,
     by decide⟩, by decide, by decide, by decide, by decide, by decide, by decide, by decide, by decide, by decide, by decide,
     by decide, by decide⟩⟩

theorem test_TwinAndBeaconCommands_hyps :
  (∃ (p : Path) (tag : Nat) (f : Flight) (s : State), IsNext p tag 0x0700 f s ∧ f.buf = []) ∧
  (∃ (p : Path) (tag : Nat) (f : Flight) (s : State), IsNext p tag 0x0701 f s ∧ f.buf.length = 8 ∧ expert s .twn 0 = false ∧
    s.twn.token = true ∧ s.twn.added = none ∧ s.frame + 256 < par f 0 8) ∧
  (∃ (p : Path) (tag : Nat) (f : Flight) (s : State), IsNext p tag 0x0701 f s ∧ f.buf.length = 8 ∧ expert s .twn 0 = false ∧
    s.twn.token = true ∧ s.twn.added = none ∧ (par f 0 8 = 0 ∨ s.frame + 64 ≤ par f 0 8)) ∧
  (∃ (p : Path) (tag : Nat) (f : Flight) (s : State), IsNext p tag 0x0701 f s ∧ f.buf.length = 8 ∧ expert s .twn 0 = false ∧
    s.twn.token = false) ∧
  (∃ (p : Path) (tag : Nat) (f : Flight) (s : State), IsNext p tag 0x0701 f s ∧ f.buf.length = 8 ∧ expert s .twn 0 = false ∧
    s.twn.token = true ∧ s.twn.added ≠ none) ∧
  (∃ (p : Path) (tag : Nat) (f : Flight) (s : State), IsNext p tag 0x0701 f s ∧ f.buf.length = 8 ∧ expert s .twn 0 = false ∧
    s.twn.token = true ∧ s.twn.added = none ∧ par f 0 8 ≠ 0 ∧ par f 0 8 < s.frame + 64) ∧
  (∃ (p : Path) (tag : Nat) (f : Flight) (s : State), IsNext p tag 0x0702 f s ∧ f.buf.length = 12 ∧ OwnOpen f s ∧
    par f 1 1 ≤ 15 ∧ par f 4 4 < 2 ^ 24 ∧ par f 8 4 < 2 ^ 24 ∧ expert s .twn 0 = false) ∧
  (∃ (p : Path) (tag : Nat) (f : Flight) (s : State), IsNext p tag 0x0800 f s ∧ f.buf.length = 8 ∧ OwnOpen f s ∧
    par f 0 1 ≤ 15 ∧ (par f 1 1 ≤ 1 ∨ par f 1 1 = 2 ∧ isTwin s = false) ∧ (par f 2 2 ≤ 511 ∨ par f 2 2 = 0xFFFF) ∧
    par f 4 2 ≤ 4095 ∧ expert s .bcn 0 = false) ∧
  (∃ (p : Path) (tag : Nat) (f : Flight) (s : State), IsNext p tag 0x0800 f s ∧ f.buf.length = 8 ∧ OwnOpen f s ∧
    par f 0 1 ≤ 15 ∧ par f 1 1 = 2 ∧ (par f 2 2 ≤ 511 ∨ par f 2 2 = 0xFFFF) ∧ par f 4 2 ≤ 4095 ∧ expert s .bcn 0 = false ∧
    isTwin s = true) ∧
  (∃ (p : Path) (tag : Nat) (f : Flight) (s : State), IsNext p tag 0x0801 f s ∧ f.buf.length = 28 ∧ par f 20 4 < 2 ^ 24 ∧
    expert s .bcn 0 = false ∧ schOk s (parInst f 4) (par f 16 4) (par f 20 4) (par f 24 4) = true ∧ (∀ m, m < 16 →
    (par f 0 2).testBit m = true → (bstr s m).armed = false)) ∧
  (∃ (p : Path) (tag : Nat) (m : Nat) (f : Flight) (s : State), IsNext p tag 0x0801 f s ∧ f.buf.length = 28 ∧
    par f 20 4 < 2 ^ 24 ∧ expert s .bcn 0 = false ∧ schOk s (parInst f 4) (par f 16 4) (par f 20 4) (par f 24 4) = true ∧
    m < 16 ∧ (par f 0 2).testBit m = true ∧ (bstr s m).armed = true) ∧
  (∃ (p : Path) (tag : Nat) (f : Flight) (s : State), IsNext p tag 0x0801 f s ∧ f.buf.length = 28 ∧ par f 20 4 < 2 ^ 24 ∧
    expert s .bcn 0 = false ∧ schOk s (parInst f 4) (par f 16 4) (par f 20 4) (par f 24 4) = false) ∧
  (∃ (p : Path) (tag : Nat) (f : Flight) (s : State), IsNext p tag 0x0802 f s ∧ f.buf.length = 4 ∧ par f 2 1 = 0 ∧
    par f 0 2 ≠ 0 ∧ expert s .bcn 0 = false ∧ s.bcn.test = none) ∧
  (∃ (p : Path) (tag : Nat) (f : Flight) (s : State), IsNext p tag 0x0802 f s ∧ f.buf.length = 4 ∧ par f 2 1 ≤ 1 ∧
    expert s .bcn 0 = false ∧ s.bcn.test ≠ none) ∧
  (∃ (p : Path) (tag : Nat) (f : Flight) (s : State), IsNext p tag 0x0802 f s ∧ f.buf.length = 4 ∧ par f 2 1 = 1 ∧
    expert s .bcn 0 = false ∧ s.bcn.test = none ∧ bcnDriving s = false) ∧
  (∃ (p : Path) (tag : Nat) (f : Flight) (s : State), IsNext p tag 0x0802 f s ∧ f.buf.length = 4 ∧ par f 2 1 = 1 ∧
    expert s .bcn 0 = false ∧ s.bcn.test = none ∧ bcnDriving s = true) ∧
  (∃ (p : Path) (tag : Nat) (f : Flight) (s : State), IsNext p tag 0x0802 f s ∧ f.buf.length = 4 ∧ par f 2 1 = 0 ∧
    par f 0 2 = 0 ∧ expert s .bcn 0 = false ∧ s.bcn.test = none ∧ (∀ x ∈ s.flight, x.path = f.path → x.tag = f.tag → x = f)) :=
  ⟨⟨.host, 1, (mf 0x700 []), (fly 0x700 [] base), ⟨by decide, by decide⟩, by decide⟩,
   ⟨.host, 1, (mf 0x701 [1, 1, 1, 0, 0, 0, 0, 0]), (fly 0x701 [1, 1, 1, 0, 0, 0, 0,
     0] (tw (fun x => { x with token := true }) base)), ⟨by decide, by decide⟩, by decide, by decide, by decide, by decide,
     by decide⟩,
   ⟨.host, 1, (mf 0x701 [80, 0, 0, 0, 0, 0, 0, 0]), (fly 0x701 [80, 0, 0, 0, 0, 0, 0,
     0] (tw (fun x => { x with token := true }) base)), ⟨by decide, by decide⟩, by decide, by decide, by decide, by decide,
     by decide⟩,
   ⟨.host, 1, (mf 0x701 [1, 1, 1, 0, 0, 0, 0, 0]), (fly 0x701 [1, 1, 1, 0, 0, 0, 0, 0] base), ⟨by decide, by decide⟩,
     by decide, by decide, by decide⟩,
   ⟨.host, 1, (mf 0x701 ([80, 0, 0, 0, 0, 0, 0, 0])), (fly 0x701 ([80, 0, 0, 0, 0, 0, 0,
     0]) (tw (fun x => { x with token := true, added := some 500 }) base)), ⟨by decide, by decide⟩, by decide, by decide,
     by decide, by decide⟩,
   ⟨.host, 1, (mf 0x701 [63, 0, 0, 0, 0, 0, 0, 0]), (fly 0x701 [63, 0, 0, 0, 0, 0, 0,
     0] (tw (fun x => { x with token := true }) base)), ⟨by decide, by decide⟩, by decide, by decide, by decide, by decide,
     by decide, by decide⟩,
   ⟨.host, 1, (mf 0x702 [0xFF, 15, 0, 0, 1, 2, 3, 0, 4, 5, 6, 0]), (fly 0x702 [0xFF, 15, 0, 0, 1, 2, 3, 0, 4, 5, 6,
     0] (own base)), ⟨by decide, by decide⟩, by decide, ⟨by decide, by decide⟩, by decide, by decide, by decide, by decide⟩,
   ⟨.host, 1, (mf 0x800 ([15, 2, 0xFF, 0xFF, 0xFF, 15, 3, 4])), (fly 0x800 ([15, 2, 0xFF, 0xFF, 0xFF, 15, 3, 4]) (own base)),
     ⟨by decide, by decide⟩, by decide, ⟨by decide, by decide⟩, by decide, by decide, by decide, by decide, by decide⟩,
   ⟨.host, 1, (mf 0x800 [15, 2, 0xFF, 1, 1, 2, 3, 4]), (fly 0x800 [15, 2, 0xFF, 1, 1, 2, 3,
     4] (own { base with hub := { st := .standby, straps := { twinEn := true, twinSide := true, bootMode := 0 } } })),
     ⟨by decide, by decide⟩, by decide, ⟨by decide, by decide⟩, by decide, by decide, by decide, by decide, by decide,
     by decide⟩,
   ⟨.host, 1, (mf 0x801 ([3, 0x80, 0, 0] ++ List.replicate 12 1 ++ [0, 0, 0, 0, 1, 0, 0, 0, 1, 0, 0, 0])), (fly 0x801 ([3,
     0x80, 0, 0] ++ List.replicate 12 1 ++ [0, 0, 0, 0, 1, 0, 0, 0, 1, 0, 0, 0]) base), ⟨by decide, by decide⟩, by decide,
     by decide, by decide, by decide, by decide⟩,
   ⟨.host, 1, 15, (mf 0x801 ([3, 0x80, 0, 0] ++ List.replicate 12 1 ++ [0, 0, 0, 0, 1, 0, 0, 0, 1, 0, 0, 0])), (fly 0x801 ([3,
     0x80, 0, 0] ++ List.replicate 12 1 ++ [0, 0, 0, 0, 1, 0, 0, 0, 1, 0, 0, 0]) (bs 15 { armed := true } base)), ⟨by decide,
     by decide⟩, by decide, by decide, by decide, by decide, by decide, by decide, by decide⟩,
   ⟨.host, 1, (mf 0x801 ([0, 0x80, 0, 0] ++ List.replicate 12 1 ++ [0, 0, 0, 0, 1, 0, 0, 0, 2, 0, 0, 0])), (fly 0x801 ([0,
     0x80, 0, 0] ++ List.replicate 12 1 ++ [0, 0, 0, 0, 1, 0, 0, 0, 2, 0, 0, 0]) base), ⟨by decide, by decide⟩, by decide,
     by decide, by decide, by decide⟩,
   ⟨.host, 1, (mf 0x802 [1, 0x80, 0, 0]), (fly 0x802 [1, 0x80, 0, 0] base), ⟨by decide, by decide⟩, by decide, by decide,
     by decide, by decide, by decide⟩,
   ⟨.host, 1, (mf 0x802 [1, 0x80, 1, 0]), (fly 0x802 [1, 0x80, 1,
     0] { base with bcn := { base.bcn with test := some (1, false) } }), ⟨by decide, by decide⟩, by decide, by decide,
     by decide, by decide⟩,
   ⟨.host, 1, (mf 0x802 ([1, 0x80, 1, 0])), (fly 0x802 ([1, 0x80, 1, 0]) (base)), ⟨by decide, by decide⟩, by decide, by decide,
     by decide, by decide, by decide⟩,
   ⟨.host, 1, (mf 0x802 ([1, 0x80, 1, 0])), (fly 0x802 ([1, 0x80, 1, 0]) (sr 0x8040 0x80000000#32 base)), ⟨by decide,
     by decide⟩, by decide, by decide, by decide, by decide, by decide⟩,
   ⟨.host, 1, (mf 0x802 ([0, 0, 0, 0])), (fly 0x802 ([0, 0, 0, 0]) (base)), ⟨by decide, by decide⟩, by decide, by decide,
     by decide, by decide, by decide, by decide⟩⟩

theorem test_DiagnosticCommands_hyps :
  (∃ (p : Path) (tag : Nat) (i : Nat) (k : PageK) (f : Flight) (s : State), IsNext p tag 0x0900 f s ∧ f.buf.length = 4 ∧
    pageOfBase (par f 0 4) = some (k, i)) ∧
  (∃ (p : Path) (tag : Nat) (f : Flight) (s : State), IsNext p tag 0x0900 f s ∧ f.buf.length = 4 ∧
    pageOfBase (par f 0 4) = none) ∧
  (∃ (p : Path) (tag : Nat) (f : Flight) (s : State), IsNext p tag 0x0901 f s ∧ f.buf.length = 4 ∧ par f 0 1 ≤ 3 ∧
    s.tst.bist = none) ∧
  (∃ (p : Path) (tag : Nat) (f : Flight) (s : State), IsNext p tag 0x0901 f s ∧ f.buf.length = 4 ∧ par f 0 1 ≤ 3 ∧
    s.tst.bist ≠ none) ∧
  (∃ (p : Path) (tag : Nat) (i : Nat) (k : PageK) (f : Flight) (s : State), IsNext p tag 0x0902 f s ∧ f.buf.length = 8 ∧
    pageOfBase (par f 0 4) = some (k, i) ∧ unlocked s = true ∧
    pertKnown k (fld (word (par f 4 4)) 0 4) (fld (word (par f 4 4)) 4 12) = true) ∧
  (∃ (p : Path) (tag : Nat) (i : Nat) (k : PageK) (f : Flight) (s : State), IsNext p tag 0x0902 f s ∧ f.buf.length = 8 ∧
    pageOfBase (par f 0 4) = some (k, i) ∧ unlocked s = false) :=
  ⟨⟨.host, 1, 0, .cmd, (mf 0x900 [0, 0x50, 0, 0]), (fly 0x900 [0, 0x50, 0, 0] (sr 0x5030 7#32 base)), ⟨by decide, by decide⟩,
    by decide, by decide⟩,
   ⟨.host, 1, (mf 0x900 [4, 0x50, 0, 0]), (fly 0x900 [4, 0x50, 0, 0] base), ⟨by decide, by decide⟩, by decide, by decide⟩,
   ⟨.host, 1, (mf 0x901 [3, 0, 0, 0]), (fly 0x901 [3, 0, 0, 0] base), ⟨by decide, by decide⟩, by decide, by decide, by decide⟩,
   ⟨.host, 1, (mf 0x901 [3, 0, 0, 0]), (fly 0x901 [3, 0, 0, 0] { base with tst := { bist := some 0 } }), ⟨by decide,
     by decide⟩, by decide, by decide, by decide⟩,
   ⟨.host, 1, 15, .flt, (mf 0x902 [0, 0xF0, 3, 0, 0, 0, 0xFF, 0xFF]), (fly 0x902 [0, 0xF0, 3, 0, 0, 0, 0xFF,
     0xFF] { base with tst := { unlocked := some 0 } }), ⟨by decide, by decide⟩, by decide, by decide, by decide, by decide⟩,
   ⟨.host, 1, 15, .flt, (mf 0x902 [0, 0xF0, 3, 0, 0, 0, 0xFF, 0xFF]), (fly 0x902 [0, 0xF0, 3, 0, 0, 0, 0xFF, 0xFF] base),
     ⟨by decide, by decide⟩, by decide, by decide, by decide⟩⟩

end Sys2Proof.Tests
end

/-! SUPPORT. What one register read answers and leaves, by the kind of the register (R3, R78, R79), and what a step does. -/

namespace Sys2Proof.Machine

open Sys2Proof

/-! ### Pages of addresses (R75, R76) -/

/-- The page of an address is a matter of its page number alone. -/
theorem pageAt_congr {a b : Nat} (h : b / 0x1000 = a / 0x1000) : pageAt b = pageAt a := by
  unfold pageAt
  rw [h]

/-- A page starts at the page number by which it is found (R75). -/
theorem pageBase_of_pageAt {a i : Nat} {k : PageK} (h : pageAt a = some (k, i)) : pageBase k i = 0x1000 * (a / 0x1000) := by
  unfold pageAt at h
  dsimp only at h
  generalize a / 0x1000 = n at h ⊢
  by_cases hub : n < 0x10
  · rw [if_pos hub] at h
    interval_cases n <;> cases h <;> rfl
  · rw [if_neg hub] at h
    split_ifs at h <;> cases h <;> simp only [pageBase, blockCode] <;> omega

/-- PG_ERR of a page lies in that page (R77). -/
theorem pageAt_pgErr {a i : Nat} {k : PageK} (h : pageAt a = some (k, i)) : pageAt (pgErr k i) = some (k, i) := by
  have hb := pageBase_of_pageAt h
  rw [← h]
  exact pageAt_congr (by unfold pgErr; omega)

theorem pgErr_offset {a i : Nat} {k : PageK} (h : pageAt a = some (k, i)) : pgErr k i % 0x1000 = 0x18 := by
  have hb := pageBase_of_pageAt h
  unfold pgErr
  omega

/-! ### Latching and clearing registers are kept apart (R78, R79) -/

theorem rowIx_isSome (o base stride n : Nat) :
    (rowIx o base stride n).isSome = decide (base ≤ o ∧ (o - base) % stride = 0 ∧ (o - base) / stride < n) := by
  unfold rowIx
  split <;> simp_all

/-- The _LO registers lie in the blocks' own parts of their pages. -/
theorem isLo_offset {a : Nat} (h : isLo a = true) : 0x48 ≤ a % 0x1000 ∧ a % 0x1000 < 0x800 := by
  unfold isLo at h
  split at h <;> simp [rowIx_isSome] at h <;> omega

/-- No read-clear register is half of a 64-bit quantity. -/
theorem isLo_false_of_isRc {a b i : Nat} {k : PageK} (ha : pageAt a = some (k, i)) (hb : pageAt b = some (k, i)) (hrc : isRc a = true)
    (ho : b % 0x1000 = a % 0x1000 ∨ b % 0x1000 + 4 = a % 0x1000) : isLo b = false := by
  cases k <;> simp [isRc, ha, rowIx_isSome] at hrc <;> simp [isLo, hb, rowIx_isSome] <;> omega

/-- The _HI half of a quantity is no _LO half. -/
theorem isLo_false_of_hi {a b i : Nat} {k : PageK} (ha : pageAt a = some (k, i)) (hb : pageAt b = some (k, i)) (hlo : isLo a = true)
    (ho : b % 0x1000 = a % 0x1000 + 4) : isLo b = false := by
  cases k <;> simp [isLo, ha, rowIx_isSome] at hlo <;> simp [isLo, hb, rowIx_isSome] <;> omega

theorem pageAt_of_isLo {a : Nat} (h : isLo a = true) : ∃ k i, pageAt a = some (k, i) := by
  cases hp : pageAt a with
  | none => simp [isLo, hp] at h
  | some e => exact ⟨e.1, e.2, rfl⟩

/-- CH_MON of a channel stands in a sheaf page, at the channel's block (R123). -/
theorem chMonAt_eq_some {a g : Nat} (h : chMonAt a = some g) :
    ∃ i c, pageAt a = some (.shf, i) ∧ rowIx (a % 0x1000) 0x414 0x20 32 = some c ∧ g = 32 * i + c := by
  unfold chMonAt at h
  split at h
  · next i hp =>
    obtain ⟨c, hc, rfl⟩ := Option.map_eq_some_iff.1 h
    exact ⟨i, c, hp, hc, rfl⟩
  · cases h

theorem offset_of_chMonAt {a g : Nat} (h : chMonAt a = some g) : 0x414 ≤ a % 0x1000 := by
  obtain ⟨i, c, -, hc, -⟩ := chMonAt_eq_some h
  have hs : (rowIx (a % 0x1000) 0x414 0x20 32).isSome = true := by rw [hc]; rfl
  rw [rowIx_isSome, decide_eq_true_eq] at hs
  exact hs.1

/-- CH_MON is cleared in part only. -/
theorem isRc_of_chMonAt {a g : Nat} (h : chMonAt a = some g) : isRc a = false := by
  obtain ⟨i, c, hp, -, -⟩ := chMonAt_eq_some h
  have ho := offset_of_chMonAt h
  simp [isRc, hp, show a % 0x1000 ≠ 0x18 by omega, show ¬ a % 0x1000 < 0x40 by omega]

/-! ### What a register shows and what a read of it does -/

/-- From PG_IRQ on the header has no view: a register there shows what it stores (R77). -/
theorem readVal_of_header {a i : Nat} {k : PageK} (s : State) (hp : pageAt a = some (k, i)) (lo : 0x10 ≤ a % 0x1000)
    (hi : a % 0x1000 < 0x40) : readVal s a = rg s a := by
  have hv : viewHead s k i (a % 0x1000) = none := by
    simp [viewHead, firstOf, vAt, show a % 0x1000 ≠ 0 by omega, show a % 0x1000 ≠ 4 by omega, show a % 0x1000 ≠ 8 by omega,
      show a % 0x1000 ≠ 0xC by omega]
  simp [readVal, hp, hi, hv]

/-- A command that reads, in a running hub. -/
theorem readCmd_of_running (p : Path) (a : Nat) {s : State} (hr : running s = true) :
    readCmd p a s = { (readReg p a {} s).2.2 with rd := [(readReg p a {} s).1] } := by
  simp [readCmd, regsOn, hr]

/-- A read of a read-clear register answers what it shows and clears it (R3, R78). -/
theorem readReg_of_isRc {a i : Nat} {k : PageK} (p : Path) (h : MemHit) (s : State) (hp : pageAt a = some (k, i)) (ha : a % 4 = 0)
    (hrc : isRc a = true) : readReg p a h s = (readVal s a, false, setRg a 0 s) := by
  have hlo : isLo a = false := isLo_false_of_isRc hp hp hrc (.inl rfl)
  have hwin : ¬ (k = .mem ∧ a % 0x1000 = 0xD4) := by
    rintro ⟨rfl, ho⟩
    simp [isLo, hp, ho] at hlo
  have hhi : ¬ (4 ≤ a % 0x1000 ∧ isLo (a - 4) = true) := by
    rintro ⟨ho, ht⟩
    have hp' : pageAt (a - 4) = some (k, i) := hp ▸ pageAt_congr (by omega)
    rw [isLo_false_of_isRc hp hp' hrc (.inr (by omega))] at ht
    cases ht
  simp [readReg, hp, ha, hwin, hlo, hhi, hrc]

/-- A read of a _LO half other than the memory window's latches the _HI half for the path (R79). -/
theorem readReg_of_isLo {a : Nat} (p : Path) (h : MemHit) (s : State) (ha : a % 4 = 0) (hlo : isLo a = true) (hwin : a ≠ 0xA0D4) :
    readReg p a h s = (readVal s a, false, setLatch p a (some (readVal s (a + 4))) s) := by
  obtain ⟨k, i, hp⟩ := pageAt_of_isLo hlo
  have hwin' : ¬ (k = .mem ∧ a % 0x1000 = 0xD4) := by
    rintro ⟨rfl, ho⟩
    have hb := pageBase_of_pageAt hp
    simp only [pageBase, blockCode] at hb
    omega
  simp [readReg, hp, ha, hwin', hlo]

/-- A read of a _HI half answers what the path has latched, once (R79). -/
theorem readReg_of_hi {a : Nat} (p : Path) (h : MemHit) (s : State) (ha : a % 4 = 0) (hlo : isLo a = true) :
    readReg p (a + 4) h s =
      ((tget none s.hiLatch (latchKey p a)).getD (readVal s (a + 4)), false, setLatch p a none s) := by
  obtain ⟨k, i, hp⟩ := pageAt_of_isLo hlo
  have ho := isLo_offset hlo
  have hp' : pageAt (a + 4) = some (k, i) := hp ▸ pageAt_congr (by omega)
  have hlo' : isLo (a + 4) = false := isLo_false_of_hi hp hp' hlo (by omega)
  have hwin : ¬ (k = .mem ∧ (a + 4) % 0x1000 = 0xD4) := by
    rintro ⟨rfl, hw⟩
    simp [isLo, hp', hw] at hlo'
  simp [readReg, hp', ha, hwin, hlo', hlo, show 4 ≤ (a + 4) % 0x1000 by omega]

/-- A channel whose three CH_MON counters hold the given numbers. -/
def withMon (up dn clip : Nat) (x : Chan) : Chan := { x with upCnt := up, dnCnt := dn, clipCnt := clip }

theorem withMon_withMon (u d c u' d' c' : Nat) (x : Chan) : withMon u d c (withMon u' d' c' x) = withMon u d c x := rfl

/-- A read of CH_MON clears the channel's three counters (R3). -/
theorem readReg_of_chMonAt {a g : Nat} (p : Path) (h : MemHit) (s : State) (ha : a % 4 = 0) (hg : chMonAt a = some g) :
    readReg p a h s = (readVal s a, false, modChan g (withMon 0 0 0) s) := by
  obtain ⟨i, c, hp, hc, rfl⟩ := chMonAt_eq_some hg
  have hlo : isLo a = false := by simp [isLo, hp]
  have hhi : ¬ (4 ≤ a % 0x1000 ∧ isLo (a - 4) = true) := by
    rintro ⟨ho, ht⟩
    have hp' : pageAt (a - 4) = some (.shf, i) := hp ▸ pageAt_congr (by omega)
    simp [isLo, hp'] at ht
  simp only [readReg, hp, ha, hlo, hhi, isRc_of_chMonAt hg, hc, if_false, ne_eq, not_true_eq_false, reduceCtorEq,
    false_and, Bool.false_eq_true]
  rfl

/-! ### The reading commands -/

theorem exec_pgErrRead (p : Path) (a : Nat) (s : State) : exec (.pgErrRead p a) s = execPgErrRead p a s := rfl

theorem exec_counterReadClear (p : Path) (a inc : Nat) (s : State) :
    exec (.counterReadClear p a inc) s = execCounterReadClear p a inc s := rfl

theorem exec_loHalfRead (p : Path) (a : Nat) (s : State) : exec (.loHalfRead p a) s = execLoHalfRead p a s := rfl

theorem exec_memWindowRead (p : Path) (h : MemHit) (s : State) : exec (.memWindowRead p h) s = execMemWindowRead p h s := rfl

/-- What a command that reads a read-clear register leaves (R3). -/
theorem readCmd_of_isRc {a i : Nat} {k : PageK} (p : Path) {s : State} (hr : running s = true) (hp : pageAt a = some (k, i))
    (ha : a % 4 = 0) (hrc : isRc a = true) : readCmd p a s = { setRg a 0 s with rd := [readVal s a] } := by
  rw [readCmd_of_running p a hr, readReg_of_isRc p {} s hp ha hrc]

/-- PG_ERR is read and cleared (R78). -/
theorem exec_pgErrRead_of_running {a i : Nat} {k : PageK} (p : Path) {s : State} (hr : running s = true)
    (hp : pageAt a = some (k, i)) :
    exec (.pgErrRead p a) s = .next { setRg (pgErr k i) 0 s with rd := [rg s (pgErr k i)] } := by
  have he := pageAt_pgErr hp
  have ho := pgErr_offset hp
  have hrc : isRc (pgErr k i) = true := by simp [isRc, ho]
  simp only [exec_pgErrRead, execPgErrRead, hp]
  rw [readCmd_of_isRc p hr he (by omega) hrc, readVal_of_header s he (by omega) (by omega)]

/-- The counters of the common header count the events of the reading cycle (R3, R77). -/
theorem rcRefill_of_header (a inc : Nat) (s : State) (ho : a % 0x1000 < 0x40) : rcRefill a inc s = bump a inc s := by
  unfold rcRefill
  split
  · simp [rowIx_isSome, show ¬ 0x40 ≤ a % 0x1000 by omega, show ¬ 0xA0 ≤ a % 0x1000 by omega]
  · rw [if_neg (by omega)]
  · rfl

/-- So do the read-clear counters of lanes and streams. -/
theorem rcRefill_of_lnk_que {a i : Nat} {k : PageK} (inc : Nat) (s : State) (hp : pageAt a = some (k, i))
    (hk : k ∈ [PageK.lnk, PageK.que]) : rcRefill a inc s = bump a inc s := by
  rcases List.mem_pair.1 hk with rfl | rfl <;> simp [rcRefill, hp]

/-- A read-clear counter after its read holds the events of that cycle, up to its greatest count (R3). -/
theorem counterReadClear_bumps {a i : Nat} {k : PageK} (p : Path) (inc : Nat) {s : State} (hr : running s = true)
    (hp : pageAt a = some (k, i)) (ha : a % 4 = 0) (ho : 0x20 ≤ a % 0x1000) (hrc : isRc a = true)
    (hb : ∀ u, rcRefill a inc u = bump a inc u) :
    ∃ t, exec (.counterReadClear p a inc) s = .next t ∧ t = { s with regs := t.regs, rd := [readVal s a] } ∧
      rg t a = word (min inc (2 ^ 32 - 1)) ∧ SameRegs [a] s t := by
  refine ⟨bump a inc { setRg a 0 s with rd := [readVal s a] }, ?_, rfl, ?_, fun b hne => ?_⟩
  · simp [exec_counterReadClear, execCounterReadClear, regsOn, hr, hp, ho, hrc, hb, readCmd_of_isRc p hr hp ha hrc]
  · have hz : rg { setRg a 0 s with rd := [readVal s a] } a = 0 := rg_setRg_self a 0 s
    rw [rg_bump_self, hz]
    simp [satAdd]
  · have hne : b ≠ a := by simpa using hne
    rw [rg_bump_ne inc _ hne]
    exact rg_setRg_ne 0 s hne

/-- The three counters of CH_MON after their read hold the events of that cycle (R3). -/
theorem counterReadClear_chMon {a g : Nat} (p : Path) (inc : Nat) {s : State} (hr : running s = true) (hg : chMonAt a = some g)
    (ha : a % 4 = 0) :
    ∃ t, exec (.counterReadClear p a inc) s = .next t ∧ t = { s with chans := t.chans, rd := [readVal s a] } ∧
      chan t g = { chan s g with upCnt := inc / 2 ^ 8 % 256, dnCnt := inc / 2 ^ 16 % 256, clipCnt := inc / 2 ^ 24 % 256 } ∧
      ∀ h, h ≠ g → chan t h = chan s h := by
  obtain ⟨i, c, hp, -, -⟩ := chMonAt_eq_some hg
  have ho : 0x20 ≤ a % 0x1000 := le_trans (by decide) (offset_of_chMonAt hg)
  have hu : readCmd p a s = { modChan g (withMon 0 0 0) s with rd := [readVal s a] } := by
    rw [readCmd_of_running p a hr, readReg_of_chMonAt p {} s ha hg]
  have hself : chan (readCmd p a s) g = withMon 0 0 0 (chan s g) := hu ▸ chan_modChan_self g (withMon 0 0 0) s
  have hother : ∀ h, h ≠ g → chan (readCmd p a s) h = chan s h := fun h hne => hu ▸ chan_modChan_ne g (withMon 0 0 0) s h hne
  refine ⟨modChan g (withMon (inc / 2 ^ 8 % 256) (inc / 2 ^ 16 % 256) (inc / 2 ^ 24 % 256)) (readCmd p a s), ?_, ?_, ?_,
    fun h hne => ?_⟩
  · simp only [exec_counterReadClear, execCounterReadClear, regsOn, hr, hp, isRc_of_chMonAt hg, hg, ho]
    rfl
  · rw [hu]; rfl
  · rw [chan_modChan_self, hself, withMon_withMon]; rfl
  · rw [chan_modChan_ne _ _ _ _ hne, hother h hne]

/-- A read of a _LO half, and the path's read of the _HI half after it (R79). -/
theorem loHalfRead_latches {a : Nat} (p : Path) {s : State} (hr : running s = true) (hlo : isLo a = true) (ha : a % 4 = 0)
    (hwin : a ≠ 0xA0D4) :
    ∃ t, exec (.loHalfRead p a) s = .next t ∧ t = { s with hiLatch := t.hiLatch, rd := [readVal s a] } ∧
      (readReg p (a + 4) {} t).1 = readVal s (a + 4) := by
  refine ⟨{ setLatch p a (some (readVal s (a + 4))) s with rd := [readVal s a] }, ?_, rfl, ?_⟩
  · simp [exec_loHalfRead, execLoHalfRead, hlo, readCmd_of_running p a hr, readReg_of_isLo p {} s ha hlo hwin]
  · rw [readReg_of_hi p {} _ ha hlo]
    simp [setLatch]

/-- A read of MEM_HDATA_LO makes the access of the memory window (R375). -/
theorem loHalfRead_window (p : Path) {s : State} (hr : running s = true) :
    exec (.loHalfRead p 0xA0D4) s = exec (.memWindowRead p {}) s := by
  have hlo : isLo 0xA0D4 = true := by decide
  have hw : readReg p 0xA0D4 {} s = hdataRead p {} s := rfl
  simp [exec_loHalfRead, execLoHalfRead, hlo, readCmd_of_running p _ hr, hw, exec_memWindowRead, execMemWindowRead, hr]

/-- Settles O11: a read clears or latches by its register's kind, and no read-clear register is half of a 64-bit quantity. -/
theorem readEffects : Obligations.ReadEffects := by
  refine ⟨fun p a i k s hr hp => ?_, fun p a inc s hr hp ha lo hi => ?_, fun p a inc i k s hr hp hk hrc ha ho => ?_,
    fun p a inc g s hr hg ha => counterReadClear_chMon p inc hr hg ha,
    fun p a s hr hlo ha hwin => loHalfRead_latches p hr hlo ha hwin, fun p s hr => loHalfRead_window p hr⟩
  · exact ⟨_, exec_pgErrRead_of_running p hr hp, rfl, rg_setRg_self _ 0 s, fun b hne => rg_setRg_ne 0 s (by simpa using hne)⟩
  · obtain ⟨⟨k, i⟩, hp⟩ := Option.isSome_iff_exists.1 hp
    have hrc : isRc a = true := by simp [isRc, lo, hi]
    have hbump := counterReadClear_bumps p inc hr hp ha lo hrc (fun u => rcRefill_of_header a inc u hi)
    rwa [readVal_of_header s hp (by omega) hi] at hbump
  · exact counterReadClear_bumps p inc hr hp ha (by omega) hrc (fun u => rcRefill_of_lnk_que inc u hp hk)

/-! ### The step -/

/-- A step with commands waiting takes the front one off the queue and runs it. -/
theorem step_cons (i : Instr) (rest : List Instr) (s : State) :
    step { s with pending := i :: rest } = exec i { s with pending := rest } := rfl

/-- A step with no command waiting idles. -/
theorem step_nil {s : State} (h : s.pending = []) : step s = .next (idle s) := by simp [step, h]

/-- An idle hub counts one CORE cycle (R5). -/
theorem idle_of_not_por {s : State} (h : s.pwr.phase ≠ .por) : idle s = { s with c := s.c + 1 } := if_neg h

/-- Power-on reset holds counter C (R57). -/
theorem idle_of_por {s : State} (h : s.pwr.phase = .por) : idle s = s := if_pos h

/-- Settles O1: the queue is empty or has a front, and an idle hub counts unless power-on reset holds it. -/
theorem stepRunsTheFrontCommand : Obligations.StepRunsTheFrontCommand :=
  ⟨step_cons, fun _ hq hp => by rw [step_nil hq, idle_of_not_por hp], fun _ hq hp => by rw [step_nil hq, idle_of_por hp]⟩

end Sys2Proof.Machine

/-! SUPPORT. The terms in which the proofs below speak: two footprints in a row, which registers an operation can reach, what
it can do to the state of a channel, and the fault of a channel. -/

namespace Sys2Proof.Machine

open Sys2Proof

/-- Two footprints one after the other. -/
theorem Same.comp {j k : Nat} {s x t : State} (h : Same k x t) (g : Same j s x) : Same (k ||| j) s t :=
  h.step (by rw [← Nat.or_assoc, Nat.or_self]) (g.mono (by rw [Nat.or_comm k j, ← Nat.or_assoc, Nat.or_self]))

/-! ### Registers that an operation can reach -/

theorem rg_congr {s t : State} (h : t.regs = s.regs) (a : Nat) : rg t a = rg s a := by unfold rg; rw [h]

theorem bit_or_pow (w : Word) {b : Nat} (hb : b < 32) : bit (w ||| word (2 ^ b)) b = true := by
  have h : 2 ^ b < 2 ^ 32 := Nat.pow_lt_pow_right (by decide) hb
  rw [bit, word, BitVec.toNat_or, Nat.testBit_or, BitVec.toNat_ofNat, Nat.mod_eq_of_lt h, Nat.testBit_two_pow_self, Bool.or_true]

/-- A cause that is raised stands in PG_IRQ (R98). -/
theorem bit_raise (k : PageK) (i : Nat) {b : Nat} (s : State) (hb : b < 32) : bit (rg (raise k i b s) (pgIrq k i)) b = true := by
  rw [rg_raise_self]
  exact bit_or_pow _ hb

/-- Every register outside a set reads as before. -/
structure RegsBut (P : Nat → Prop) (s t : State) : Prop where
  get : ∀ a, ¬ P a → rg t a = rg s a

namespace RegsBut

variable {P Q : Nat → Prop} {s t u : State}

theorem refl (P : Nat → Prop) (s : State) : RegsBut P s s := ⟨fun _ _ => rfl⟩

theorem trans (h : RegsBut P t u) (g : RegsBut P s t) : RegsBut P s u := ⟨fun a ha => (h.get a ha).trans (g.get a ha)⟩

theorem mono (h : RegsBut Q s t) (hq : ∀ a, Q a → P a) : RegsBut P s t := ⟨fun a ha => h.get a (fun hqa => ha (hq a hqa))⟩

theorem ofRegs (h : t.regs = s.regs) : RegsBut P s t := ⟨fun a _ => rg_congr h a⟩

theorem setRg {a : Nat} (w : Word) (s : State) (ha : P a) : RegsBut P s (setRg a w s) :=
  ⟨fun _ hb => rg_setRg_ne _ _ (fun e => hb (e ▸ ha))⟩

theorem bump {a : Nat} (n : Nat) (s : State) (ha : P a) : RegsBut P s (bump a n s) :=
  ⟨fun _ hb => rg_bump_ne _ _ (fun e => hb (e ▸ ha))⟩

theorem raise {k : PageK} {i : Nat} (b : Nat) (s : State) (ha : P (pgIrq k i)) : RegsBut P s (raise k i b s) :=
  ⟨fun _ hb => rg_raise_ne _ _ (fun e => hb (e ▸ ha))⟩

theorem pgError {k : PageK} {i : Nat} (st : Nat) (s : State) (ha : P (pgErr k i)) : RegsBut P s (pgError k i st s) :=
  ⟨fun _ hb => rg_pgError_ne _ _ (fun e => hb (e ▸ ha))⟩

theorem ite {c : Prop} [Decidable c] (ht : RegsBut P s t) (hu : RegsBut P s u) : RegsBut P s (if c then t else u) := by
  split <;> assumption

theorem foldl {α : Type} {f : State → α → State} (h : ∀ x a, RegsBut P x (f x a)) (l : List α) (s : State) :
    RegsBut P s (l.foldl f s) := by
  induction l generalizing s with
  | nil => exact refl P s
  | cons a l ih => exact (ih _).trans (h s a)

theorem forL {α : Type} {f : α → State → State} (h : ∀ a x, RegsBut P x (f a x)) (l : List α) (s : State) :
    RegsBut P s (forL l f s) := foldl (fun x a => h a x) l s

theorem forN {f : Nat → State → State} (h : ∀ i x, RegsBut P x (f i x)) (n : Nat) (s : State) : RegsBut P s (forN n f s) :=
  foldl (fun x i => h i x) _ s

theorem finish (f : Flight) (st : Nat) (res : List Byte) (s : State) (h1 : P 0x5024) (h2 : P 0x502C) :
    RegsBut P s (finish f st res s) := by
  have h : RegsBut P s (Machine.bump 0x5024 1 (if st = stOk then s else Machine.bump 0x502C 1 s)) :=
    (bump 1 _ h1).trans (ite (refl P s) (bump 1 s h2))
  exact ⟨h.get⟩

theorem wakeup (w : Wait) (st : Nat) (res : List Byte) (s : State) (h1 : P 0x5024) (h2 : P 0x502C) :
    RegsBut P s (wakeup w st res s) := foldl (fun x f => finish f st res x h1 h2) _ s

end RegsBut

/-! ### The state and the cause of a channel -/

theorem chan_congr {s t : State} (h : t.chans = s.chans) (g : Nat) : chan t g = chan s g := by unfold chan; rw [h]

/-- A channel's state and cause stand as before. -/
structure StKept (g : Nat) (s t : State) : Prop where
  st : (chan t g).st = (chan s g).st
  cause : (chan t g).cause = (chan s g).cause

namespace StKept

variable {g : Nat} {s t u : State}

theorem refl (g : Nat) (s : State) : StKept g s s := ⟨rfl, rfl⟩

theorem trans (h : StKept g t u) (k : StKept g s t) : StKept g s u := ⟨h.st.trans k.st, h.cause.trans k.cause⟩

theorem ofChan (h : chan t g = chan s g) : StKept g s t := ⟨by rw [h], by rw [h]⟩

theorem ofChans (h : t.chans = s.chans) : StKept g s t := ofChan (chan_congr h g)

theorem modChan (k : Nat) (f : Chan → Chan) (s : State) (h : ∀ x, (f x).st = x.st ∧ (f x).cause = x.cause) :
    StKept g s (modChan k f s) := by
  obtain rfl | hne := eq_or_ne g k
  · exact ⟨by rw [chan_modChan_self]; exact (h _).1, by rw [chan_modChan_self]; exact (h _).2⟩
  · exact ofChan (chan_modChan_ne k f s g hne)

theorem ite {c : Prop} [Decidable c] (ht : StKept g s t) (hu : StKept g s u) : StKept g s (if c then t else u) := by
  split <;> assumption

theorem foldl {α : Type} {f : State → α → State} (h : ∀ x a, StKept g x (f x a)) (l : List α) (s : State) :
    StKept g s (l.foldl f s) := by
  induction l generalizing s with
  | nil => exact refl g s
  | cons a l ih => exact (ih _).trans (h s a)

theorem forL {α : Type} {f : α → State → State} (h : ∀ a x, StKept g x (f a x)) (l : List α) (s : State) :
    StKept g s (forL l f s) := foldl (fun x a => h a x) l s

theorem forN {f : Nat → State → State} (h : ∀ i x, StKept g x (f i x)) (n : Nat) (s : State) : StKept g s (forN n f s) :=
  foldl (fun x i => h i x) _ s

theorem chOn (h : StKept g s t) : Machine.chOn t g = Machine.chOn s g := by unfold Machine.chOn; rw [h.st]

end StKept

/-! ### What ends a lead test (R117) -/

theorem stKept_endMarks (g h : Nat) (k : MarkK) (t : Nat) (s : State) : StKept g s (endMarks h k t s) :=
  StKept.modChan _ _ _ (fun _ => ⟨rfl, rfl⟩)

theorem stKept_ltReport (g ss : Nat) (x : LeadTest) (a b c : Bool) (s : State) : StKept g s (ltReport ss x a b c s) :=
  .ofChans ((same_ltReport ..).chans.resolve_left (by decide))

theorem stKept_startOpens (g ss : Nat) (all : Bool) (cc : Nat) (o : LtOrigin) (s : State) : StKept g s (startOpens ss all cc o s) :=
  .ofChans ((same_startOpens ..).chans.resolve_left (by decide))

theorem stKept_ltStop (g ss : Nat) (s : State) : StKept g s (ltStop ss s) := by
  unfold ltStop
  extract_lets s1 s2 s3
  have h1 : StKept g s s1 := by
    unfold s1
    split
    · exact .ite (.forN (fun _ _ => stKept_endMarks ..) _ _) (.refl ..)
    · exact .refl ..
  have h3 : StKept g s s3 := StKept.trans (t := s1) (.ofChans rfl) h1
  exact .ite ((stKept_startOpens ..).trans (StKept.trans (t := s3) (.ofChans rfl) h3)) h3

theorem stKept_ltAbort (g ss : Nat) (s : State) : StKept g s (ltAbort ss s) := by
  unfold ltAbort
  split
  · exact (stKept_ltStop ..).trans (stKept_ltReport ..)
  · exact .refl ..

theorem stKept_ltLeave (g h : Nat) (s : State) : StKept g s (ltLeave h s) := by
  unfold ltLeave
  split
  · exact .ite (stKept_ltAbort ..) (.refl ..)
  · exact .refl ..

theorem stKept_leadDrop (g h : Nat) (s : State) : StKept g s (leadDrop h s) :=
  (stKept_endMarks ..).trans (StKept.modChan _ _ _ (fun _ => ⟨rfl, rfl⟩))

theorem stKept_loadsSync (g h t : Nat) (s : State) : StKept g s (loadsSync h t s) := by
  unfold loadsSync
  exact .ite (.refl ..) (StKept.modChan _ _ _ (fun _ => ⟨rfl, rfl⟩))

theorem stKept_chEvent (g h b : Nat) (s : State) : StKept g s (chEvent h b s) :=
  .ofChans ((same_chEvent ..).chans.resolve_left (by decide))

/-- The registers that a fault of a channel can reach: the counters of the ended commands, and the pages of the sheafs. -/
def FaultReg (a : Nat) : Prop := a = 0x5024 ∨ a = 0x502C ∨ 0x20000 ≤ a

theorem faultReg_pgIrq (ss : Nat) : FaultReg (pgIrq .shf ss) := .inr (.inr (by simp [pgIrq, pageBase]; omega))
theorem faultReg_chEvent (g : Nat) : FaultReg (chEventA g) := .inr (.inr (by simp [chEventA, chReg]; omega))

theorem regs_ltReport (ss : Nat) (x : LeadTest) (a b c : Bool) (s : State) : RegsBut FaultReg s (ltReport ss x a b c s) := by
  unfold ltReport
  refine .ite (.refl ..) ?_
  extract_lets w
  exact (RegsBut.wakeup _ _ _ _ (.inl rfl) (.inr (.inl rfl))).trans ((RegsBut.raise _ _ (faultReg_pgIrq ss)).trans (.ofRegs rfl))

theorem regs_startOpens_periodic (ss : Nat) (all : Bool) (cc : Nat) (s : State) :
    RegsBut FaultReg s (startOpens ss all cc .periodic s) := by
  unfold startOpens
  extract_lets cover x s1
  refine .ite (regs_ltReport ..) ?_
  refine (RegsBut.foldl (fun y a => .ofRegs ?_) _ _).trans (.ofRegs ((same_ltBegin ..).regs.resolve_left (by decide)))
  exact (Same.comp (same_auxPush ..) (same_auxPush ..)).regs.resolve_left (by decide)

theorem regs_ltStop (ss : Nat) (s : State) : RegsBut FaultReg s (ltStop ss s) := by
  unfold ltStop
  extract_lets s1 s2 s3
  have h1 : RegsBut FaultReg s s1 := by
    unfold s1
    split
    · exact .ite (.ofRegs ((same_shortsEnd ..).regs.resolve_left (by decide))) (.refl ..)
    · exact .refl ..
  have h3 : RegsBut FaultReg s s3 := RegsBut.trans (t := s1) (.ofRegs rfl) h1
  exact .ite ((regs_startOpens_periodic ..).trans (RegsBut.trans (t := s3) (.ofRegs rfl) h3)) h3

theorem regs_ltAbort (ss : Nat) (s : State) : RegsBut FaultReg s (ltAbort ss s) := by
  unfold ltAbort
  split
  · exact (regs_ltStop ..).trans (regs_ltReport ..)
  · exact .refl ..

theorem regs_ltLeave (g : Nat) (s : State) : RegsBut FaultReg s (ltLeave g s) := by
  unfold ltLeave
  split
  · exact .ite (regs_ltAbort ..) (.refl ..)
  · exact .refl ..

theorem regs_chEvent (g b : Nat) (s : State) : RegsBut FaultReg s (chEvent g b s) :=
  (RegsBut.raise _ _ (faultReg_pgIrq _)).trans (RegsBut.setRg _ _ (faultReg_chEvent g))

/-! ### The fault of a channel (R54, R62, R120, R146) -/

/-- A channel is in FAULT with a cause. -/
structure Faulted (g cause : Nat) (s : State) : Prop where
  st : (chan s g).st = .fault
  cause : (chan s g).cause = cause

theorem StKept.faulted {g c : Nat} {s t : State} (h : StKept g s t) (f : Faulted g c s) : Faulted g c t :=
  ⟨h.st.trans f.st, h.cause.trans f.cause⟩

theorem Faulted.not_chOn {g c : Nat} {s : State} (h : Faulted g c s) : chOn s g = false := by simp [chOn, h.st]

theorem stKept_chFault_ne {g h : Nat} (c : Nat) (s : State) (hne : g ≠ h) : StKept g s (chFault h c s) := by
  unfold chFault
  refine .ite ?_ (.ite ?_ (.refl ..))
  · refine (stKept_loadsSync ..).trans ((stKept_chEvent ..).trans ((stKept_ltLeave ..).trans ((stKept_leadDrop ..).trans ?_)))
    exact .ofChan (chan_modChan_ne _ _ _ _ hne)
  · exact (stKept_loadsSync ..).trans (.ofChan (chan_modChan_ne _ _ _ _ hne))

/-- A channel that is on goes to FAULT with the cause. -/
theorem faulted_chFault {g : Nat} (c : Nat) {s : State} (h : chOn s g = true) : Faulted g c (chFault g c s) := by
  unfold chFault
  rw [if_pos h]
  refine StKept.faulted
    ((stKept_loadsSync ..).trans ((stKept_chEvent ..).trans ((stKept_ltLeave ..).trans (stKept_leadDrop ..)))) ⟨?_, ?_⟩ <;>
  rw [chan_modChan_self]

/-- A channel that is in FAULT with a cause stays so when any channel is put there with that cause. -/
theorem Faulted.chFault {g c : Nat} {s : State} (f : Faulted g c s) (h : Nat) : Faulted g c (chFault h c s) := by
  obtain rfl | hne := eq_or_ne g h
  · unfold Machine.chFault
    rw [if_neg (by simp [f.not_chOn])]
    split
    · refine StKept.faulted (stKept_loadsSync ..) ⟨?_, ?_⟩ <;> rw [chan_modChan_self]
      · exact f.st
      · simp only [show (chan (setStart g none s) g).cause = c from f.cause]
        split <;> simp_all
    · exact f
  · exact (stKept_chFault_ne c s hne).faulted f

theorem regs_chFault (g c : Nat) (s : State) : RegsBut FaultReg s (chFault g c s) := by
  unfold chFault
  refine .ite ?_ (.ite ?_ (.refl ..))
  · refine .trans (.ofRegs ((same_loadsSync ..).regs.resolve_left (by decide))) ((regs_chEvent ..).trans ((regs_ltLeave ..).trans ?_))
    exact .trans (.ofRegs ((same_leadDrop ..).regs.resolve_left (by decide))) (.ofRegs rfl)
  · exact .trans (.ofRegs ((same_loadsSync ..).regs.resolve_left (by decide))) (.ofRegs rfl)

/-- The channels of a list are put in FAULT: those that are on go there, every channel outside the list stands. -/
theorem forL_chFault (c : Nat) (l : List Nat) (s : State) (g : Nat) :
    (Faulted g c s ∨ (g ∈ l ∧ chOn s g = true) → Faulted g c (forL l (fun h a => chFault h c a) s)) ∧
      (g ∉ l → StKept g s (forL l (fun h a => chFault h c a) s)) := by
  induction l generalizing s with
  | nil => exact ⟨fun h => h.elim id (fun h => absurd h.1 (by simp)), fun _ => .refl ..⟩
  | cons h l ih =>
    obtain ⟨hf, hk⟩ := ih (chFault h c s)
    refine ⟨fun hg => hf ?_, fun hg => (hk (fun hm => hg (List.mem_cons_of_mem _ hm))).trans
      (stKept_chFault_ne c s (fun e => hg (e ▸ List.mem_cons_self)))⟩
    rcases hg with hg | ⟨hg, hon⟩
    · exact .inl (hg.chFault h)
    · obtain rfl | hne := eq_or_ne g h
      · exact .inl (faulted_chFault c hon)
      · exact .inr ⟨(List.mem_cons.1 hg).resolve_left hne, ((stKept_chFault_ne c s hne).chOn).trans hon⟩

end Sys2Proof.Machine

/-! SUPPORT. How a command is taken and how its completion leaves (R14, R388 to R392). -/

namespace Sys2Proof.Machine

open Sys2Proof

/-! ### Acceptance (R389, R391) -/

theorem exec_commandAccept (p : Path) (s : State) : exec (.commandAccept p) s = execCommandAccept p s := rfl

/-- What makes a command buffer malformed, or its opcode reserved (R391). -/
def malformed (b : List Byte) : Bool :=
  decide (2040 < b.length) || decide (leAt b 4 2 % 4 ≠ 0) || decide (b.length < 8 + leAt b 4 2) || !opcodes.contains (leAt b 0 2)

theorem malformed_eq_true (b : List Byte) : malformed b = true ↔
    2040 < b.length ∨ leAt b 4 2 % 4 ≠ 0 ∨ b.length < 8 + leAt b 4 2 ∨ opcodes.contains (leAt b 0 2) = false := by
  simp only [malformed, Bool.or_eq_true, decide_eq_true_eq, Bool.not_eq_true', or_assoc]

theorem malformed_eq_false {b : List Byte} (hl : b.length ≤ 2040) (h4 : leAt b 4 2 % 4 = 0) (hb : 8 + leAt b 4 2 ≤ b.length)
    (ho : opcodes.contains (leAt b 0 2) = true) : malformed b = false := by
  rw [← Bool.not_eq_true, malformed_eq_true, ho]
  rintro (h | h | h | h)
  · omega
  · exact h h4
  · omega
  · cases h

/-- The flight that acceptance makes of a command: the next generation of its tag, its parameters. -/
def taken (p : Path) (b : List Byte) (tok org : Nat) (w : Wait) (s : State) : Flight :=
  { path := p, tag := byteAt b 2, gen := (tagGen s (pathCode p) (byteAt b 2) + 1) % 16, op := leAt b 0 2,
    buf := (b.drop 8).take (leAt b 4 2), tok := tok, org := org, wait := w }

/-- The state in which a command has been counted as accepted, its tag's generation noted, and its flight stands last. -/
def flying (p : Path) (b : List Byte) (f : Flight) (s : State) : State :=
  { modHst (fun h => { h with gens := tset 15 h.gens (256 * pathCode p + byteAt b 2) f.gen }) (bump 0x5020 1 s) with
      flight := s.flight ++ [f] }

theorem accept_of_free {p : Path} {b : List Byte} {s : State} (tok org : Nat) (h : tagInFlight s (pathCode p) (byteAt b 2) = none)
    (hb : malformed b = false) : accept p b tok org s = flying p b (taken p b tok org .start s) s := by
  unfold malformed at hb
  simp only [accept, h, hb]
  rfl

theorem accept_of_malformed {p : Path} {b : List Byte} {s : State} (tok org : Nat)
    (h : tagInFlight s (pathCode p) (byteAt b 2) = none) (hb : malformed b = true) :
    accept p b tok org s = badDone (flying p b (taken p b tok org .bad s) s) := by
  unfold malformed at hb
  simp only [accept, h, hb]
  rfl

theorem accept_of_inFlight {p : Path} {b : List Byte} {g : Nat} {s : State} (tok org : Nat)
    (h : tagInFlight s (pathCode p) (byteAt b 2) = some g) : accept p b tok org s = dupCompl p b g tok org s := by
  simp only [accept, h]

/-- A tag is in flight by the flights and the completions alone. -/
theorem tagInFlight_congr {s t : State} (hf : t.flight = s.flight) (hc : t.compl = s.compl) (pc tag : Nat) :
    tagInFlight t pc tag = tagInFlight s pc tag := by
  unfold tagInFlight
  rw [hf, hc]

theorem same_flying (p : Path) (b : List Byte) (f : Flight) (s : State) : Same 90071992547409936 s (flying p b f s) :=
  Same.step (k := 72057594037927936) (upd_flight ..) rfl (Same.step (same_modHst ..) rfl (Same.step (same_bump ..) rfl (Same.refl _ _)))

theorem flying_inbox (p : Path) (b : List Byte) (f : Flight) (s : State) : (flying p b f s).hst.inbox = s.hst.inbox := by
  simp [flying, modHst]

theorem flying_outbox (p : Path) (b : List Byte) (f : Flight) (s : State) : (flying p b f s).hst.outbox = s.hst.outbox := by
  simp [flying, modHst]

theorem rg_flying (p : Path) (b : List Byte) (f : Flight) (s : State) (a : Nat) :
    rg (flying p b f s) a = rg (bump 0x5020 1 s) a := rfl

theorem tagGen_flying (p : Path) (b : List Byte) (f : Flight) (s : State) :
    tagGen (flying p b f s) (pathCode p) (byteAt b 2) = f.gen := tget_tset_self ..

/-- The state in which the host's oldest command has left the inbound mailbox; INFREE where its space has come (R388). -/
def inboxTaken (r : List (List Byte)) (s : State) : State :=
  if decide (mboxSize < mboxUsed s.hst.inbox + 2048) && decide (mboxUsed r + 2048 ≤ mboxSize) then
    raise .hst 0 2 (modHst (fun h => { h with inbox := r }) s)
  else modHst (fun h => { h with inbox := r }) s

theorem commandAccept_host {b : List Byte} {r : List (List Byte)} {s : State} (hr : running s = true) (hm : flightRoom s = true)
    (hi : s.hst.inbox = b :: r) : exec (.commandAccept .host) s = .next (accept .host b 0 0 (inboxTaken r s)) := by
  simp only [exec_commandAccept, execCommandAccept, hr, hm, Bool.and_self, if_true, acceptHost, hi, inboxTaken]

theorem same_inboxTaken (r : List (List Byte)) (s : State) : Same 18014398509514768 s (inboxTaken r s) := by
  unfold inboxTaken
  exact Same.ite (Same.step (same_raise ..) rfl (Same.step (same_modHst ..) rfl (Same.refl _ _)))
    (Same.step (same_modHst ..) rfl (Same.refl _ _))

theorem inboxTaken_hst (r : List (List Byte)) (s : State) : (inboxTaken r s).hst = { s.hst with inbox := r } := by
  unfold inboxTaken
  split
  · rw [raise_hst]; rfl
  · rfl

theorem rg_inboxTaken {a : Nat} (r : List (List Byte)) (s : State) (h : a ≠ 0x6010) : rg (inboxTaken r s) a = rg s a := by
  unfold inboxTaken
  split
  · rw [rg_raise_ne 2 _ h]; rfl
  · rfl

theorem inboxTaken_flight (r : List (List Byte)) (s : State) : (inboxTaken r s).flight = s.flight :=
  (same_inboxTaken r s).flight.resolve_left (by decide)

theorem inboxTaken_compl (r : List (List Byte)) (s : State) : (inboxTaken r s).compl = s.compl :=
  (same_inboxTaken r s).compl.resolve_left (by decide)

theorem tagInFlight_inboxTaken (r : List (List Byte)) (s : State) (pc tag : Nat) :
    tagInFlight (inboxTaken r s) pc tag = tagInFlight s pc tag :=
  tagInFlight_congr (inboxTaken_flight r s) (inboxTaken_compl r s) pc tag

theorem tagGen_inboxTaken (r : List (List Byte)) (s : State) (pc tag : Nat) : tagGen (inboxTaken r s) pc tag = tagGen s pc tag := by
  simp only [tagGen, inboxTaken_hst]

theorem taken_inboxTaken (p : Path) (b : List Byte) (tok org : Nat) (w : Wait) (r : List (List Byte)) (s : State) :
    taken p b tok org w (inboxTaken r s) = taken p b tok org w s := by
  simp only [taken, tagGen_inboxTaken]

theorem flying_flight (p : Path) (b : List Byte) (f : Flight) (s : State) : (flying p b f s).flight = s.flight ++ [f] := rfl


/-- A well-formed command of the host is taken. -/
theorem commandAccept_host_free {b : List Byte} {r : List (List Byte)} {s : State} (hr : running s = true)
    (hm : flightRoom s = true) (hi : s.hst.inbox = b :: r) (hf : tagInFlight s 0 (byteAt b 2) = none) (hb : malformed b = false) :
    exec (.commandAccept .host) s = .next (flying .host b (taken .host b 0 0 .start s) (inboxTaken r s)) := by
  rw [commandAccept_host hr hm hi, accept_of_free (p := .host) 0 0 ((tagInFlight_inboxTaken r s 0 _).trans hf) hb, taken_inboxTaken]

theorem commandAccept_host_malformed {b : List Byte} {r : List (List Byte)} {s : State} (hr : running s = true)
    (hm : flightRoom s = true) (hi : s.hst.inbox = b :: r) (hf : tagInFlight s 0 (byteAt b 2) = none) (hb : malformed b = true) :
    exec (.commandAccept .host) s = .next (badDone (flying .host b (taken .host b 0 0 .bad s) (inboxTaken r s))) := by
  rw [commandAccept_host hr hm hi, accept_of_malformed (p := .host) 0 0 ((tagInFlight_inboxTaken r s 0 _).trans hf) hb, taken_inboxTaken]

/-! ### The completion of a command whose tag is in flight (R391) -/

theorem dupCompl_compl (p : Path) (b : List Byte) (g tok org : Nat) (s : State) : (dupCompl p b g tok org s).compl =
    s.compl ++ [{ path := p, tag := byteAt b 2, gen := g, op := leAt b 0 2, status := stBusy, frame := s.frame, dup := true, tok := tok, org := org }] := by
  simp [dupCompl]

theorem rg_dupCompl (p : Path) (b : List Byte) (g tok org : Nat) (s : State) :
    rg (dupCompl p b g tok org s) 0x5020 = word (satAdd 32 (rg s 0x5020).toNat 1) ∧
      rg (dupCompl p b g tok org s) 0x5030 = word (satAdd 32 (rg s 0x5030).toNat 1) ∧
      bit (rg (dupCompl p b g tok org s) 0x5010) 1 = true := by
  refine ⟨?_, ?_, bit_raise .cmd 0 _ (by decide)⟩
  · rw [dupCompl, rg_raise_ne 1 _ (by decide), rg_bump_ne 1 _ (by decide), rg_bump_ne 1 _ (by decide), rg_bump_ne 1 _ (by decide)]
    exact rg_bump_self ..
  · rw [dupCompl, rg_raise_ne 1 _ (by decide), rg_bump_self, rg_bump_ne 1 _ (by decide), rg_bump_ne 1 _ (by decide)]
    exact congrArg (fun w => word (satAdd 32 (BitVec.toNat w) 1)) (rg_bump_ne 1 s (by decide))

/-! ### Malformed commands whose turn has come (R391, R392) -/

/-- Flights that end one after another, each with its own result: none of them stays, and nothing new is in flight. -/
theorem forL_finish_flight (st : Nat) (res : Flight → State → List Byte) (l : List Flight) (s : State) (x : Flight)
    (h : x ∈ (forL l (fun f a => finish f st (res f a) a) s).flight) : x ∈ s.flight ∧ x ∉ l := by
  induction l generalizing s with
  | nil => exact ⟨h, by simp⟩
  | cons f l ih =>
    obtain ⟨hx, hl⟩ := ih (finish f st (res f s) s) h
    rw [finish_flight, List.mem_filter] at hx
    refine ⟨hx.1, fun hm => ?_⟩
    rcases List.mem_cons.1 hm with rfl | hm
    · simp at hx
    · exact hl hm

/-- Flights that end one after another: what had completed stands, and each of them has its completion. -/
theorem forL_finish_compl (st : Nat) (res : Flight → State → List Byte) (l : List Flight) (s : State) :
    (∀ c ∈ s.compl, c ∈ (forL l (fun f a => finish f st (res f a) a) s).compl) ∧
      ∀ f ∈ l, ∃ c ∈ (forL l (fun f a => finish f st (res f a) a) s).compl,
        c.path = f.path ∧ c.tag = f.tag ∧ c.gen = f.gen ∧ c.op = f.op ∧ c.status = st := by
  induction l generalizing s with
  | nil => exact ⟨fun _ h => h, by simp⟩
  | cons f l ih =>
    obtain ⟨hk, he⟩ := ih (finish f st (res f s) s)
    rw [finish_compl] at hk
    refine ⟨fun c hc => hk c (List.mem_append_left _ hc), fun g hg => ?_⟩
    rcases List.mem_cons.1 hg with rfl | hg
    · exact ⟨_, hk _ (List.mem_append_right _ (List.mem_singleton_self _)), rfl, rfl, rfl, rfl, rfl⟩
    · exact he g hg

/-- Where no malformed command is in flight there is none to end. -/
theorem badDone_of_no_bad {s : State} (h : ∀ f ∈ s.flight, f.wait ≠ .bad) : badDone s = s := by
  have hn : (s.flight.takeWhile (fun f => decide (f.wait ≠ .start))).filter (fun f => decide (f.wait = .bad)) = [] :=
    List.filter_eq_nil_iff.2 (fun f hf => by simpa using h f (List.takeWhile_subset _ hf))
  rw [badDone, hn]
  rfl

/-- Where the oldest command waits to start no malformed one has its turn. -/
theorem badDone_of_start {f : Flight} {l : List Flight} {s : State} (hs : s.flight = f :: l) (hf : f.wait = .start) : badDone s = s := by
  simp [badDone, hs, hf, forL]

/-- Where no command waits to start every malformed one ends with BAD_PARAM. -/
theorem badDone_ends {s : State} (h : ∀ f ∈ s.flight, f.wait ≠ .start) :
    (∀ x ∈ (badDone s).flight, x ∈ s.flight ∧ x.wait ≠ .bad) ∧ ∀ f ∈ s.flight, f.wait = .bad → ∃ c ∈ (badDone s).compl,
      c.path = f.path ∧ c.tag = f.tag ∧ c.gen = f.gen ∧ c.op = f.op ∧ c.status = stBadParam := by
  have ht : s.flight.takeWhile (fun f => decide (f.wait ≠ .start)) = s.flight :=
    List.takeWhile_eq_self_iff.2 (fun f hf => by simpa using h f hf)
  rw [badDone, ht]
  refine ⟨fun x hx => ?_, fun f hf hw => (forL_finish_compl _ _ _ s).2 f (List.mem_filter.2 ⟨hf, by simpa using hw⟩)⟩
  obtain ⟨hx, hn⟩ := forL_finish_flight _ _ _ s x hx
  exact ⟨hx, fun hw => hn (List.mem_filter.2 ⟨hx, by simpa using hw⟩)⟩

theorem badDone_hst (s : State) : (badDone s).hst = s.hst := (same_badDone s).hst.resolve_left (by decide)
theorem badDone_lanes (s : State) : (badDone s).lanes = s.lanes := (same_badDone s).lanes.resolve_left (by decide)

/-! ### MGMT commands (R329) -/

/-- The state in which the oldest MGMT command has left its store, its space freed on its lane (R329). -/
def mboxTaken (n : Nat) (b : List Byte) (r : List (Nat × Nat × Nat × List Byte)) (s : State) : State :=
  modLk n (fun x => { x with freeP := x.freeP + (32 + b.length + 63) / 64 }) (modHst (fun h => { h with mbox := r }) s)

theorem commandAccept_mgmt {n tok org : Nat} {b : List Byte} {r : List (Nat × Nat × Nat × List Byte)} {s : State} (m : Nat)
    (hr : running s = true) (hm : flightRoom s = true) (hi : s.hst.mbox = (n, tok, org, b) :: r) (hn : n < 8) :
    exec (.commandAccept (.mgmt m)) s = .next (accept (.mgmt n) b tok org (mboxTaken n b r s)) := by
  simp only [exec_commandAccept, execCommandAccept, hr, hm, Bool.and_self, if_true, acceptMgmt, hi, hn, Nat.mod_eq_of_lt hn, mboxTaken]

theorem same_mboxTaken (n : Nat) (b : List Byte) (r : List (Nat × Nat × Nat × List Byte)) (s : State) :
    Same 18014467228958720 s (mboxTaken n b r s) := by
  unfold mboxTaken
  exact Same.step (same_modLk ..) rfl (Same.step (same_modHst ..) rfl (Same.refl _ _))

theorem lane_mboxTaken_self (n : Nat) (b : List Byte) (r : List (Nat × Nat × Nat × List Byte)) (s : State) :
    (lane (mboxTaken n b r s) n).lk.freeP = (lane s n).lk.freeP + (32 + b.length + 63) / 64 := by
  simp [mboxTaken, modLk]

theorem lane_mboxTaken_ne {n q : Nat} (b : List Byte) (r : List (Nat × Nat × Nat × List Byte)) (s : State) (h : q ≠ n) :
    lane (mboxTaken n b r s) q = lane s q := by
  simp [mboxTaken, modLk, h]

/-! ### Delivery (R14, R388, R390) -/

theorem exec_completionDeliver (p : Path) (s : State) : exec (.completionDeliver p) s = execCompletionDeliver p s := rfl
theorem exec_completionHeldSend (s : State) : exec .completionHeldSend s = execCompletionHeldSend s := rfl

theorem completionDeliver_host {s : State} (hr : running s = true) :
    exec (.completionDeliver .host) s = .next (deliverHost (badDone s)) := by
  simp only [exec_completionDeliver, execCompletionDeliver, hr, if_true]

theorem completionDeliver_mgmt {s : State} (m : Nat) (hr : running s = true) :
    exec (.completionDeliver (.mgmt m)) s = .next (deliverMgmt (badDone s)) := by
  simp only [exec_completionDeliver, execCompletionDeliver, hr, if_true]

/-- The state in which a completion stands last in the outbound mailbox. -/
def mailed (c : Compl) (s : State) : State :=
  modHst (fun h => { h with outbox := h.outbox ++ [complBytes c] }) { s with compl := s.compl.erase c }

/-- A completion that fits is mailed, and the first of an empty mailbox raises its cause. -/
theorem deliverHost_of_fits {c : Compl} {s : State} (hc : s.compl.find? (fun x => decide (pathCode x.path = 0)) = some c)
    (hfit : mboxUsed s.hst.outbox + (complBytes c).length ≤ mboxSize) :
    deliverHost s = if s.hst.outbox = [] then raise .hst 0 0 (mailed c s) else mailed c s := by
  simp only [deliverHost, hc, Nat.not_lt.2 hfit, if_false, List.isEmpty_iff]
  rfl

theorem deliverHost_of_full {c : Compl} {s : State} (hc : s.compl.find? (fun x => decide (pathCode x.path = 0)) = some c)
    (hfull : mboxSize < mboxUsed s.hst.outbox + (complBytes c).length) : deliverHost s = s := by
  simp only [deliverHost, hc, hfull, if_true]

/-! ### Lanes that take a packet (R14, R339) -/

theorem laneOpen_congr {s t : State} (n : Nat) (hst : (lane t n).st = (lane s n).st)
    (hp : (lane t n).lk.peerPath = (lane s n).lk.peerPath) : laneOpen t n = laneOpen s n := by
  simp only [laneOpen, laneUp, hst, hp]

/-- The lanes carry packets as before. -/
def OpenSame (s t : State) : Prop := ∀ n, laneOpen t n = laneOpen s n

theorem OpenSame.ofLanes {s t : State} (h : t.lanes = s.lanes) : OpenSame s t := fun n => by
  apply laneOpen_congr <;> simp only [lane, h]

theorem OpenSame.replyLane {s t : State} (h : OpenSame s t) (n : Nat) : replyLane t n = replyLane s n := by
  simp only [Machine.replyLane, h _]

theorem OpenSame.complOpen {s t : State} (h : OpenSame s t) (c : Compl) : complOpen t c = complOpen s c := by
  simp only [Machine.complOpen, h _]

/-- The reply to a completion that a lane of its pair takes leaves on an open lane of the pair (R14). -/
theorem laneOpen_replyLane {c : Compl} {s : State} (h : complOpen s c = true) : laneOpen s (replyLane s (complLane c)) = true := by
  unfold replyLane
  simp only [complOpen, Bool.and_eq_true, Bool.or_eq_true] at h
  split
  · assumption
  · split
    · assumption
    · simp_all

theorem replyLane_eq (s : State) (n : Nat) : replyLane s n = n ∨ replyLane s n = pairLane n := by
  unfold replyLane
  split
  · exact .inl rfl
  · split
    · exact .inr rfl
    · exact .inl rfl

/-! ### Sending completions as packets -/

/-- The packet of a completion. -/
def complPkt (c : Compl) : Pkt := mgmtPkt 2 c.status 0 c.tok 0 (complBytes c)

theorem complSend_eq (c : Compl) (s : State) : complSend c s =
    modLk (replyLane s (complLane c)) (fun x => { x with mgmt := x.mgmt ++ [complPkt c] }) { s with compl := s.compl.erase c } := rfl

theorem complSend_compl (c : Compl) (s : State) : (complSend c s).compl = s.compl.erase c := rfl

theorem lane_complSend_self (c : Compl) (s : State) : lane (complSend c s) (replyLane s (complLane c)) =
    { lane s (replyLane s (complLane c)) with lk := { (lane s (replyLane s (complLane c))).lk with
        mgmt := (lane s (replyLane s (complLane c))).lk.mgmt ++ [complPkt c] } } := by
  rw [complSend_eq, modLk, lane_modLane_self]
  rfl

theorem lane_complSend_ne {q : Nat} (c : Compl) (s : State) (h : q ≠ replyLane s (complLane c)) :
    lane (complSend c s) q = lane s q := by
  rw [complSend_eq, modLk, lane_modLane_ne _ _ _ _ h]
  rfl

/-- `t` differs from `s` in the packets that its lanes hold for MGMT alone, and those of `s` are still held. -/
structure MgmtMore (s t : State) : Prop where
  lanes : ∀ n, lane t n = { lane s n with lk := { (lane s n).lk with mgmt := (lane t n).lk.mgmt } }
  held : ∀ n, ∀ p ∈ (lane s n).lk.mgmt, p ∈ (lane t n).lk.mgmt

theorem MgmtMore.refl (s : State) : MgmtMore s s := ⟨fun _ => rfl, fun _ _ h => h⟩

theorem MgmtMore.trans {s t u : State} (h : MgmtMore t u) (g : MgmtMore s t) : MgmtMore s u :=
  ⟨fun n => by rw [h.lanes n, g.lanes n], fun n p hp => h.held n p (g.held n p hp)⟩

theorem MgmtMore.openSame {s t : State} (h : MgmtMore s t) : OpenSame s t :=
  fun n => laneOpen_congr n (by rw [h.lanes n]) (by rw [h.lanes n])

theorem MgmtMore.complSend (c : Compl) (s : State) : MgmtMore s (complSend c s) := by
  refine ⟨fun n => ?_, fun n p hp => ?_⟩ <;> by_cases h : n = replyLane s (complLane c)
  · rw [h, lane_complSend_self]
  · rw [lane_complSend_ne c s h]
  · rw [h, lane_complSend_self]
    exact List.mem_append_left _ (h ▸ hp)
  · rwa [lane_complSend_ne c s h]

/-- Completions that are sent one after another: each stands as a packet on its reply lane. -/
theorem foldl_complSend (l : List Compl) (s : State) :
    MgmtMore s (l.foldl (fun a c => complSend c a) s) ∧ (l.foldl (fun a c => complSend c a) s).compl = s.compl.diff l ∧
      ∀ c ∈ l, complPkt c ∈ (lane (l.foldl (fun a c => complSend c a) s) (replyLane s (complLane c))).lk.mgmt := by
  induction l generalizing s with
  | nil => exact ⟨.refl s, rfl, by simp⟩
  | cons c l ih =>
    obtain ⟨hm, hc, hs⟩ := ih (complSend c s)
    have hone := MgmtMore.complSend c s
    refine ⟨hm.trans hone, hc.trans (by rw [complSend_compl, List.diff_cons]), fun d hd => ?_⟩
    rcases List.mem_cons.1 hd with rfl | hd
    · exact hm.held _ _ (by rw [lane_complSend_self]; simp)
    · rw [← hone.openSame.replyLane]
      exact hs d hd

/-- Taking every element with a property out of a list leaves the others. -/
theorem diff_filter {α : Type} [DecidableEq α] (p : α → Bool) (l : List α) : l.diff (l.filter p) = l.filter (fun a => !p a) := by
  induction l with
  | nil => rfl
  | cons a l ih =>
    cases h : p a
    · rw [List.filter_cons_of_neg (by simp [h]), List.filter_cons_of_pos (by simp [h]), List.cons_diff, if_neg (by simp [h]), ih]
    · rw [List.filter_cons_of_pos h, List.filter_cons_of_neg (by simp [h]), List.diff_cons, List.erase_cons_head, ih]

/-- A command of the host whose tag is in flight ends with BUSY (R391). -/
theorem commandAccept_host_busy {b : List Byte} {r : List (List Byte)} {g : Nat} {s : State} (hr : running s = true)
    (hm : flightRoom s = true) (hi : s.hst.inbox = b :: r) (hf : tagInFlight s 0 (byteAt b 2) = some g) :
    exec (.commandAccept .host) s = .next (dupCompl .host b g 0 0 (inboxTaken r s)) := by
  rw [commandAccept_host hr hm hi, accept_of_inFlight (p := .host) 0 0 ((tagInFlight_inboxTaken r s 0 _).trans hf)]

theorem dupCompl_hst (p : Path) (b : List Byte) (g tok org : Nat) (s : State) : (dupCompl p b g tok org s).hst = s.hst :=
  (same_dupCompl p b g tok org s).hst.resolve_left (by decide)

/-- Settles O48: each path takes its oldest command and delivers its oldest completion; a malformed command ends where no earlier
one waits to start. -/
theorem commandFlow : Obligations.CommandFlow := by
  refine ⟨fun b r s hr hm hi hf hl h4 hb ho => ?_, fun b r g s hr hm hi hf => ?_, fun b r s hr hm hi hf hw hbad => ?_,
    fun b r f l s hr hm hi hf hs hw ho => ?_, fun m n tok org b r s hr hm hi hn hf hl h4 hb ho => ?_, fun c s hr hc hfit => ?_,
    fun c s hr hc hfull => ?_, fun m c s hr hc => ?_, fun m s hr hc => ?_, fun s h => badDone_of_no_bad h, fun s hr => ?_⟩
  · refine ⟨_, commandAccept_host_free hr hm hi hf (malformed_eq_false hl h4 hb ho), ((same_flying ..).comp (same_inboxTaken ..)).eq,
      by rw [flying_flight, inboxTaken_flight]; rfl, tagGen_flying .host .., ?_, ?_, ?_, fun a ha => ?_⟩
    · rw [flying_inbox, inboxTaken_hst]
    · rw [flying_outbox, inboxTaken_hst]
    · rw [rg_flying, rg_bump_self, rg_inboxTaken r s (by decide)]
    · simp only [List.mem_cons, List.not_mem_nil, or_false, not_or] at ha
      rw [rg_flying, rg_bump_ne 1 _ ha.1, rg_inboxTaken r s ha.2]
  · have hh : (dupCompl .host b g 0 0 (inboxTaken r s)).hst = { s.hst with inbox := r } := by rw [dupCompl_hst, inboxTaken_hst]
    obtain ⟨hacc, hdup, hirq⟩ := rg_dupCompl .host b g 0 0 (inboxTaken r s)
    refine ⟨_, commandAccept_host_busy hr hm hi hf, ?_, ?_, ?_, ?_, hirq⟩
    · have he := ((same_dupCompl .host b g 0 0 _).comp (same_inboxTaken r s)).eq
      rw [hh] at he
      exact he
    · rw [dupCompl_compl, inboxTaken_compl, (same_inboxTaken r s).frame.resolve_left (by decide)]
    · rw [hacc, rg_inboxTaken r s (by decide)]
    · rw [hdup, rg_inboxTaken r s (by decide)]
  · have hmal := (malformed_eq_true b).2 hbad
    have hfl : (flying .host b (taken .host b 0 0 .bad s) (inboxTaken r s)).flight = s.flight ++ [taken .host b 0 0 .bad s] := by
      rw [flying_flight, inboxTaken_flight]
    obtain ⟨hstay, hend⟩ := badDone_ends (s := flying .host b (taken .host b 0 0 .bad s) (inboxTaken r s)) (fun f hf => by
      rw [hfl, List.mem_append, List.mem_singleton] at hf
      rcases hf with hf | rfl
      · exact hw f hf
      · simp [taken])
    rw [hfl] at hstay hend
    refine ⟨_, commandAccept_host_malformed hr hm hi hf hmal,
      ((same_badDone _).comp ((same_flying ..).comp (same_inboxTaken r s))).eq, ?_, fun f hf => ?_, ?_⟩
    · rw [badDone_hst, flying_inbox, inboxTaken_hst]
    · obtain ⟨hmem, hnb⟩ := hstay f hf
      rcases List.mem_append.1 hmem with hmem | hmem
      · exact hmem
      · exact absurd (by rw [List.mem_singleton.1 hmem]; rfl) hnb
    · obtain ⟨c, hc, hp, ht, -, hop, hst⟩ := hend (taken .host b 0 0 .bad s) (by simp) rfl
      exact ⟨c, hc, hp, ht, hop, hst⟩
  · have hmal := (malformed_eq_true b).2 (.inr (.inr (.inr ho)))
    have hfl : (flying .host b (taken .host b 0 0 .bad s) (inboxTaken r s)).flight = f :: (l ++ [taken .host b 0 0 .bad s]) := by
      rw [flying_flight, inboxTaken_flight, hs]; rfl
    refine ⟨_, commandAccept_host_malformed hr hm hi hf hmal, ?_, ?_, ?_⟩ <;> rw [badDone_of_start hfl hw]
    · exact ((same_flying ..).comp (same_inboxTaken ..)).eq
    · rw [hfl, hs]; rfl
    · rw [flying_inbox, inboxTaken_hst]
  · have hft : tagInFlight (mboxTaken n b r s) 1 (byteAt b 2) = none := (tagInFlight_congr rfl rfl ..).trans hf
    have hacc := accept_of_free (p := .mgmt n) tok org hft (malformed_eq_false hl h4 hb ho)
    refine ⟨_, (commandAccept_mgmt m hr hm hi hn).trans (congrArg _ hacc),
      ((same_flying ..).comp (same_mboxTaken n b r s)).eq, rfl, tagGen_flying (.mgmt n) ..,
      ?_, rfl, lane_mboxTaken_self n b r s, fun q hq => lane_mboxTaken_ne b r s hq⟩
    rw [rg_flying, rg_bump_self]
    rfl
  · have hout : (badDone s).hst.outbox = s.hst.outbox := by rw [badDone_hst]
    have hh : (mailed c (badDone s)).hst = { s.hst with outbox := s.hst.outbox ++ [complBytes c] } := by
      rw [mailed, modHst, badDone_hst]
    refine ⟨_, (completionDeliver_host hr).trans (congrArg _ (deliverHost_of_fits hc (hout.symm ▸ hfit))), ?_⟩
    rw [hout]
    obtain he | he := eq_or_ne s.hst.outbox []
    · rw [if_pos he]
      refine ⟨?_, fun a ha => ?_, fun _ => bit_raise .hst 0 _ (by decide), fun hne => absurd he hne⟩
      · have heq := (same_raise .hst 0 0 (mailed c (badDone s))).eq
        rw [hh] at heq
        exact heq
      · exact rg_raise_ne (k := .hst) (i := 0) 0 _ (List.ne_of_not_mem_cons ha)
    · rw [if_neg he]
      refine ⟨?_, fun a ha => rfl, fun he' => absurd he' he, fun _ => rfl⟩
      rw [mailed, modHst, badDone_hst]
  · rw [completionDeliver_host hr, deliverHost_of_full hc (by rwa [badDone_hst])]
  · have hopen := OpenSame.ofLanes (badDone_lanes s)
    have hlane : ∀ n, lane (badDone s) n = lane s n := fun n => by simp only [lane, badDone_lanes]
    have hself := lane_complSend_self c (badDone s)
    rw [hopen.replyLane, hlane] at hself
    refine ⟨_, (completionDeliver_mgmt m hr).trans (by rw [deliverMgmt, hc]), ?_, hself,
      laneOpen_replyLane ((hopen.complOpen c).symm.trans (List.find?_some hc)), replyLane_eq s _, fun q hq => ?_⟩
    · rw [complSend_eq]
      rfl
    · rw [lane_complSend_ne c _ (by rwa [hopen.replyLane]), hlane]
  · rw [completionDeliver_mgmt m hr, deliverMgmt, List.find?_eq_none.2 (by simpa using hc)]
  · obtain ⟨hm, hc, hp⟩ := foldl_complSend (s.compl.filter (complOpen s)) s
    rw [diff_filter] at hc
    refine ⟨(s.compl.filter (complOpen s)).foldl (fun a c => complSend c a) s, ?_, ?_,
      fun c hcm ho => hp c (List.mem_filter.2 ⟨hcm, ho⟩), hm.lanes⟩
    · simp only [exec_completionHeldSend, execCompletionHeldSend, hr, if_true]
    · rw [← hc]
      exact (Same.foldl (Same.refl 144115256795332608 s) (fun y c => same_complSend c y)).eq

end Sys2Proof.Machine

/-! SUPPORT. The links of the field dies: training, word errors, failed lanes and trims (R12, R59 to R62). -/

namespace Sys2Proof.Machine

open Sys2Proof

theorem exec_d2dTrained (n ok : Nat) (tr : List Nat) (s : State) : exec (.d2dTrained n ok tr) s = execD2dTrained n ok tr s := rfl
theorem exec_d2dWordError (n : Nat) (x : LaneWord) (s : State) : exec (.d2dWordError n x) s = execD2dWordError n x s := rfl
theorem exec_d2dLaneFail (n l : Nat) (s : State) : exec (.d2dLaneFail n l) s = execD2dLaneFail n l s := rfl
theorem exec_d2dUnrecoverableWord (n : Nat) (l : List Nat) (s : State) :
    exec (.d2dUnrecoverableWord n l) s = execD2dUnrecoverableWord n l s := rfl
theorem exec_d2dTrimRemeasure (n : Nat) (tr : List Nat) (s : State) :
    exec (.d2dTrimRemeasure n tr) s = execD2dTrimRemeasure n tr s := rfl

theorem die_congr {s t : State} (h : t.dies = s.dies) (m : Nat) : die t m = die s m := by unfold die; rw [h]

/-! ### Training (R59, R62) -/

/-- The record of die n once its training has ended with these lanes. -/
def trainDie (n ok : Nat) (tr : List Nat) (s : State) : State :=
  let m := mapOf ok
  let tr := tr.map (fun t => min t 250)
  let on := decide (ok % 8 ≠ 0)
  let s := modDie n (fun d => { d with up := on, trained := on, ok0 := ok.testBit 0, ok1 := ok.testBit 1, ok2 := ok.testBit 2 }) s
  let s := modDie n (fun d => { d with map := m.1, lostLo := m.2.1, lostHi := m.2.2, trim := tr, trimTo := tr, trimAt := s.ord }) s
  modDie n (fun d => { d with sub := none, bad := [], restoring := on && d.lost }) s

theorem die_trainDie_self (n ok : Nat) (tr : List Nat) (s : State) : die (trainDie n ok tr s) n =
    { die s n with up := decide (ok % 8 ≠ 0), trained := decide (ok % 8 ≠ 0), ok0 := ok.testBit 0, ok1 := ok.testBit 1, ok2 := ok.testBit 2, map := (mapOf ok).1, lostLo := (mapOf ok).2.1, lostHi := (mapOf ok).2.2, trim := tr.map (fun x => min x 250), trimTo := tr.map (fun x => min x 250), trimAt := s.ord, sub := none, bad := [], restoring := decide (ok % 8 ≠ 0) && (die s n).lost } := by
  simp [trainDie]

theorem die_trainDie_ne {n m : Nat} (ok : Nat) (tr : List Nat) (s : State) (h : m ≠ n) : die (trainDie n ok tr s) m = die s m := by
  simp [trainDie, h]

theorem same_trainDie (n ok : Nat) (tr : List Nat) (s : State) : Same 2048 s (trainDie n ok tr s) :=
  (same_modDie ..).trans ((same_modDie ..).trans (same_modDie ..))

/-- The interrupts of a training, and the channels of the pairs it lost (R62). -/
def trainFaults (n ok : Nat) (s : State) : State :=
  let s := if (mapOf ok).2.1 || (mapOf ok).2.2 then raise .d2d 0 2 s else s
  let s := if ok % 8 = 3 then raise .d2d 0 1 s else s
  let s := forL (pairChans n false) (fun g a => if (mapOf ok).2.1 then chFault g 1 a else a) s
  forL (pairChans n true) (fun g a => if (mapOf ok).2.2 then chFault g 1 a else a) s

theorem same_trainFaults (n ok : Nat) (s : State) : Same 216172782258323472 s (trainFaults n ok s) := by
  unfold trainFaults
  have hf : ∀ (c : Bool) g y, Same 216172782258323472 y (if c then chFault g 1 y else y) :=
    fun _ _ _ => Same.ite (same_chFault ..) (Same.refl _ _)
  refine Same.forL (Same.forL (Same.ite ((same_raise ..).step rfl ?_) ?_) (fun g y => hf _ g y)) (fun g y => hf _ g y) <;>
  exact Same.ite ((same_raise ..).mono rfl) (Same.refl _ _)

/-- With every lane trained nothing is lost and no cause is raised. -/
theorem trainFaults_of_all {ok : Nat} (n : Nat) (s : State) (h : ok % 8 = 7) : trainFaults n ok s = s := by
  have hid : ∀ (l : List Nat) (x : State), forL l (fun _ a => a) x = x := fun l x => by
    induction l generalizing x with
    | nil => rfl
    | cons _ _ ih => exact ih x
  simp only [trainFaults, mapOf, h]
  simp [hid]

/-- The channels of die n whose fault was the lost lane are due to start again (R120, R145). -/
def retrained (n : Nat) (s : State) : State := forL (dieChans n) chRetrain s

theorem same_retrained (n : Nat) (s : State) : Same 8388608 s (retrained n s) :=
  Same.forL (Same.refl _ _) (fun _ _ => same_chRetrain ..)

/-- A training that ends: the converter of a link with no lane trained becomes unavailable, the buffers of any other come back. -/
def trainEnd (n ok : Nat) (tr : List Nat) (s : State) : State :=
  let on := decide (ok % 8 ≠ 0)
  let was := (die s n).up && !(die s n).lost
  let s := retrained n (trainFaults n ok (trainDie n ok tr (if on then s else auxLose n s)))
  if on then buffersBack n s else if !was && decide (s.pwr.phase = .boot) then raise .aux 0 1 s else s

theorem d2dTrained_eq {n : Nat} (ok : Nat) (tr : List Nat) {s : State} (hn : n < 4) (hl : live s = true)
    (hr : (die s n).rails = true) (he : bit (rg s 0x1048) n = true) (ht : (die s n).trained = false) (hs : s.pwr.sleep ≠ .asleep) :
    exec (.d2dTrained n ok tr) s = .next (trainEnd n ok tr s) := by
  rw [exec_d2dTrained, execD2dTrained, if_neg (by simp [hl, hr, he, ht, hs, hn])]
  simp only [trainEnd, retrained, trainFaults, trainDie]
  refine congrArg _ ?_
  split <;> rfl

theorem trainEnd_of_some {n ok : Nat} (tr : List Nat) (s : State) (ho : ok % 8 ≠ 0) :
    trainEnd n ok tr s = buffersBack n (retrained n (trainFaults n ok (trainDie n ok tr s))) := by
  simp [trainEnd, ho]

/-- The state of a training that found no lane, before the converter's cause. -/
def trainNone (n ok : Nat) (tr : List Nat) (s : State) : State := retrained n (trainFaults n ok (trainDie n ok tr (auxLose n s)))

theorem trainEnd_of_none {n ok : Nat} (tr : List Nat) (s : State) (ho : ok % 8 = 0) :
    trainEnd n ok tr s = raise .aux 0 1 (trainNone n ok tr s) ∨ trainEnd n ok tr s = trainNone n ok tr s := by
  simp only [trainEnd, ho, ne_eq, not_true_eq_false, decide_false, Bool.false_eq_true, if_false]
  split
  · exact .inl rfl
  · exact .inr rfl

theorem same_trainNone (n ok : Nat) (tr : List Nat) (s : State) : Same 216172782526760976 s (trainNone n ok tr s) :=
  ((same_retrained ..).comp ((same_trainFaults ..).comp ((same_trainDie ..).comp (same_auxLose n s)))).mono rfl

/-- With no lane trained both sheaf pairs are lost, and every channel of the die is put in FAULT (R62). -/
theorem trainFaults_of_none {n ok : Nat} (s : State) (ho : ok % 8 = 0) : trainFaults n ok s =
    forL (pairChans n false ++ pairChans n true) (fun g a => chFault g 1 a) (raise .d2d 0 2 s) := by
  simp [trainFaults, mapOf, ho, forL, List.foldl_append]

theorem mem_pairChans {n g : Nat} {hi : Bool} : g ∈ pairChans n hi ↔ g / 64 = 2 * n + (if hi then 1 else 0) := by
  simp only [pairChans, List.mem_map, List.mem_range]
  constructor
  · rintro ⟨c, hc, rfl⟩
    split <;> omega
  · intro h
    refine ⟨g % 64, Nat.mod_lt _ (by decide), ?_⟩
    split at h <;> simp_all <;> omega

theorem mem_pairs_of_mem_dieChans {n g : Nat} (h : g ∈ dieChans n) : g ∈ pairChans n false ++ pairChans n true := by
  obtain ⟨c, hc, rfl⟩ := List.mem_map.1 h
  rw [List.mem_append, mem_pairChans, mem_pairChans]
  have := List.mem_range.1 hc
  simp
  omega

theorem stKept_wakeup (g : Nat) (w : Wait) (st : Nat) (res : List Byte) (s : State) : StKept g s (wakeup w st res s) :=
  .ofChans ((same_wakeup ..).chans.resolve_left (by decide))

theorem stKept_auxDrop (g : Nat) (r : AuxReq) (s : State) : StKept g s (auxDrop r s) := by
  unfold auxDrop
  split
  · exact .ofChans ((same_slotFail ..).chans.resolve_left (by decide))
  · split
    · exact .ofChans ((same_finish ..).chans.resolve_left (by decide))
    · exact .refl ..
  · exact (stKept_ltAbort ..).trans (stKept_wakeup ..)
  · exact (stKept_ltAbort ..).trans (stKept_wakeup ..)
  · exact .refl ..

theorem stKept_auxLose (g n : Nat) (s : State) : StKept g s (auxLose n s) := by
  unfold auxLose
  extract_lets x all was s1 s2 s3
  have h2 : StKept g s s2 := StKept.trans (t := s1) (.forN (fun _ _ => by exact .ofChans rfl) _ _) (.ofChans rfl)
  have h3 : StKept g s s3 := (StKept.forL (fun r y => stKept_auxDrop g r y) _ _).trans h2
  exact .ite (StKept.trans (.ofChans (raise_chans ..)) h3) h3

theorem regs_retrained (P : Nat → Prop) (n : Nat) (s : State) : RegsBut P s (retrained n s) :=
  .ofRegs ((same_retrained ..).regs.resolve_left (by decide))

/-- What a training without a trained lane leaves: the pairs lost and reported, the channels in FAULT (R59, R62). -/
theorem trainNone_spec {n ok : Nat} (tr : List Nat) (s : State) (ho : ok % 8 = 0) :
    (∀ m, die (trainNone n ok tr s) m = die (trainDie n ok tr (auxLose n s)) m) ∧ bit (rg (trainNone n ok tr s) 0x1B010) 2 = true ∧
      ∀ g ∈ dieChans n, chOn s g = true → Faulted g 1 (trainNone n ok tr s) := by
  refine ⟨fun m => die_congr (((same_retrained ..).comp (same_trainFaults ..)).dies.resolve_left (by decide)) m, ?_, fun g hg hon => ?_⟩
  · have hregs : RegsBut FaultReg (raise .d2d 0 2 (trainDie n ok tr (auxLose n s))) (trainNone n ok tr s) := by
      rw [trainNone, trainFaults_of_none _ ho]
      exact (regs_retrained ..).trans (.forL (fun g y => regs_chFault g 1 y) _ _)
    rw [hregs.get 0x1B010 (by simp [FaultReg])]
    exact bit_raise .d2d 0 _ (by decide)
  · have hkept : StKept g s (raise .d2d 0 2 (trainDie n ok tr (auxLose n s))) :=
      .trans (.ofChans (raise_chans ..)) (.trans (.ofChans ((same_trainDie ..).chans.resolve_left (by decide))) (stKept_auxLose g n s))
    rw [trainNone, trainFaults_of_none _ ho]
    refine StKept.faulted (.ofChans ((same_retrained ..).chans.resolve_left (by decide))) ?_
    exact (forL_chFault 1 _ _ g).1 (.inr ⟨mem_pairs_of_mem_dieChans hg, hkept.chOn.trans hon⟩)

/-! ### Word slots (R61, R62) -/

/-- The CIC word that ends at the present cycle is marked as lost on every channel of a sheaf (R62). -/
def markSheaf (b : Nat) (s : State) : State :=
  forN 32 (fun c a => mark (32 * b + c) .lost (256 * a.c - cicTau) (some (256 * a.c)) a) s

/-- The marks of a word slot of these sheafs of a die. -/
def slotMarks (n : Nat) (l : List Nat) (s : State) : State := forL l (fun x b => markSheaf (4 * n + x % 4) b) s

theorem slotMarks_cons (n x : Nat) (l : List Nat) (s : State) :
    slotMarks n (x :: l) s = slotMarks n l (markSheaf (4 * n + x % 4) s) := by
  simp only [slotMarks, forL, List.foldl_cons]

theorem same_slotMarks (n : Nat) (l : List Nat) (s : State) : Same 65536 s (slotMarks n l s) :=
  Same.forL (Same.refl _ _) (fun _ _ => Same.forN (Same.refl _ _) (fun _ _ => same_mark ..))

theorem slotMarks_regs (n : Nat) (l : List Nat) (s : State) : (slotMarks n l s).regs = s.regs :=
  (same_slotMarks n l s).regs.resolve_left (by decide)

/-- A span that marks the channels of a sheaf leaves the channels of the others. -/
theorem chan_markSheaf {g b : Nat} (s : State) (h : g / 32 ≠ b) : chan (markSheaf b s) g = chan s g := by
  have key : ∀ (l : List Nat) (y : State), (∀ c ∈ l, c < 32) →
      chan (l.foldl (fun a c => mark (32 * b + c) .lost (256 * a.c - cicTau) (some (256 * a.c)) a) y) g = chan y g := by
    intro l
    induction l with
    | nil => exact fun _ _ => rfl
    | cons c l ih =>
      intro y hl
      have hc := hl c List.mem_cons_self
      rw [List.foldl_cons, ih _ (fun d hd => hl d (List.mem_cons_of_mem _ hd)), mark, chan_modChan_ne _ _ _ _ (by omega)]
  exact key _ s (fun c hc => List.mem_range.1 hc)

theorem chan_slotMarks {n g : Nat} {l : List Nat} (s : State) (h : ∀ x ∈ l, g / 32 ≠ 4 * n + x % 4) :
    chan (slotMarks n l s) g = chan s g := by
  induction l generalizing s with
  | nil => rfl
  | cons x l ih =>
    rw [slotMarks_cons, ih _ (fun z hz => h z (List.mem_cons_of_mem _ hz)), chan_markSheaf s (h x List.mem_cons_self)]

/-- What a lost word slot leaves (R62). -/
structure SlotLost (n : Nat) (l : List Nat) (s t : State) : Prop where
  regs : SameRegs [0x1B030 + 4 * n, 0x1B010] s t
  count : rg t (0x1B030 + 4 * n) = word (satAdd 32 (rg s (0x1B030 + 4 * n)).toNat 1)
  irq : bit (rg t 0x1B010) 3 = true
  chans : ∀ g, (∀ x ∈ l, g / 32 ≠ 4 * n + x % 4) → chan t g = chan s g

theorem slotLost_spec {n : Nat} {l : List Nat} {s : State} (ht : (die s n).trained = true)
    (hl : ∃ x ∈ l, pairLost (die s n) (decide (2 ≤ x % 4)) = false) : SlotLost n l s (slotLost n l s) := by
  obtain ⟨x, hx, hp⟩ := hl
  have hne : l.filter (fun x => !pairLost (die s n) (decide (2 ≤ x % 4))) ≠ [] :=
    List.ne_nil_of_mem (List.mem_filter.2 ⟨hx, by simp [hp]⟩)
  have heq : slotLost n l s = slotMarks n (l.filter (fun x => !pairLost (die s n) (decide (2 ≤ x % 4))))
      (raise .d2d 0 3 (bump (0x1B030 + 4 * n) 1 s)) := by
    unfold slotLost slotMarks markSheaf
    extract_lets k s1
    rw [if_neg (by simp [ht, k, hne])]
  rw [heq]
  refine ⟨fun a ha => ?_, ?_, ?_, fun g hg => ?_⟩
  · simp only [List.mem_cons, List.not_mem_nil, or_false, not_or] at ha
    rw [rg_congr (slotMarks_regs ..), rg_raise_ne (k := .d2d) (i := 0) 3 _ ha.2, rg_bump_ne 1 _ ha.1]
  · rw [rg_congr (slotMarks_regs ..), rg_raise_ne 3 _ (show 0x1B030 + 4 * n ≠ 0x1B010 by omega), rg_bump_self]
  · rw [rg_congr (slotMarks_regs ..)]
    exact bit_raise .d2d 0 _ (by decide)
  · rw [chan_slotMarks _ (fun x hx => hg x (List.mem_of_mem_filter hx)), chan_raise, chan_bump]

/-! ### Failed words and failed lanes (R12, R61, R62) -/

/-- A failed word of a lane noted among the failed words of its link. -/
def wordNoted (n : Nat) (x : LaneWord) (s : State) : State :=
  modDie n (fun d => { d with bad := tset [] d.bad x.lane (failedWords (die s n) x.lane x.w) }) s

theorem d2dWordError_eq {n : Nat} {x : LaneWord} {s : State} (hn : n < 4) (hl : live s = true) (ht : (die s n).trained = true)
    (hx : x.lane < 2) : exec (.d2dWordError n x) s = .next (
      if 8 ≤ (failedWords (die s n) x.lane x.w).length then d2dFail n x.lane (wordLost n x.lane x.odd (wordNoted n x s))
      else wordLost n x.lane x.odd (wordNoted n x s)) := by
  rw [exec_d2dWordError, execD2dWordError, if_neg (by simp [hl, ht]; omega)]
  rfl

theorem die_wordNoted_self (n : Nat) (x : LaneWord) (s : State) :
    die (wordNoted n x s) n = { die s n with bad := tset [] (die s n).bad x.lane (failedWords (die s n) x.lane x.w) } :=
  die_modDie_self ..

theorem die_wordNoted_ne {n m : Nat} (x : LaneWord) (s : State) (h : m ≠ n) : die (wordNoted n x s) m = die s m :=
  die_modDie_ne _ _ _ _ h

/-- A word that fails while the spare carries the parity of two good lanes is rebuilt and counted (R61). -/
theorem wordLost_of_parity {n l : Nat} {odd : Bool} {s : State} (hl : l < 2) (hm : (die s n).map = 0) (h2 : (die s n).ok2 = true)
    (ho : laneOk (die s n) (1 - l) = true) : wordLost n l odd s = bump (0x1B020 + 4 * n) 1 s := by
  simp [wordLost, hm, h2, ho, show l ≠ 2 by omega]

/-- A word that fails with no spare left loses its slot (R62). -/
theorem wordLost_of_alone {n l : Nat} {odd : Bool} {s : State} (hl : l < 2) (hm : (die s n).map = 3) :
    wordLost n l odd s = slotLost n [2 * l + (if odd then 1 else 0)] s := by
  simp only [wordLost, hm, show l ≠ 2 by omega, show ¬ 3 = l + 1 by omega, if_false, Nat.reduceEqDiff, false_and]

/-- A die whose lane has failed. -/
def laneOut (l : Nat) (d : Die) : Die :=
  if l = 0 then { d with ok0 := false } else if l = 1 then { d with ok1 := false } else { d with ok2 := false }

/-- A lane that fails while L2 stands by has its words moved at the next boundary (R61). -/
theorem d2dFail_of_spare {n l : Nat} {s : State} (hl : l < 2) (ho : laneOk (die s n) l = true) (hs : (die s n).sub = none)
    (hm : (die s n).map = 0) (h2 : (die s n).ok2 = true) :
    d2dFail n l s = modDie n (fun y => { y with sub := some l }) (modDie n (laneOut l) s) := by
  simp only [d2dFail, ho, hs, hm, h2, show l ≠ 2 by omega, if_false, if_true, and_self, reduceCtorEq]
  rfl

/-- The spare fails while it stands by: from then on each lane is alone (R62). -/
theorem d2dFail_of_standby {n : Nat} {s : State} (hs : (die s n).sub = none) (hm : (die s n).map = 0) (h2 : (die s n).ok2 = true) :
    d2dFail n 2 s = raise .d2d 0 1 (modDie n (fun y => { y with map := 3 }) (modDie n (laneOut 2) s)) := by
  have ho : laneOk (die s n) 2 = true := h2
  simp only [d2dFail, ho, hs, hm, if_true, if_false, reduceCtorEq]
  rfl

/-- A lane that fails with no spare left takes its sheaf pair with it (R62). -/
theorem d2dFail_of_alone {n l : Nat} {s : State} (hl : l < 2) (ho : laneOk (die s n) l = true) (hs : (die s n).sub = none)
    (hm : (die s n).map = 3) : d2dFail n l s = pairLose n (decide (l = 1)) (modDie n (laneOut l) s) := by
  simp only [d2dFail, ho, hs, hm, show l ≠ 2 by omega, show ¬ 3 = l + 1 by omega, if_false, reduceCtorEq, Nat.reduceEqDiff, false_and]
  rfl

theorem d2dLaneFail_eq {n l : Nat} {s : State} (hn : n < 4) (hl : live s = true) (ht : (die s n).trained = true) (h2 : l ≤ 2) :
    exec (.d2dLaneFail n l) s = .next (d2dFail n l s) := by
  rw [exec_d2dLaneFail, execD2dLaneFail, if_neg (by simp [hl, ht]; omega)]

/-- A die that has lost a sheaf pair. -/
def pairOut (hi : Bool) (d : Die) : Die := if hi then { d with lostHi := true } else { d with lostLo := true }

/-- What the loss of a sheaf pair leaves (R12, R62). -/
structure PairLoss (n : Nat) (hi : Bool) (s t : State) : Prop where
  die : ∀ m, die t m = die (modDie n (pairOut hi) s) m
  irq : bit (rg t 0x1B010) 2 = true
  faulted : ∀ g ∈ pairChans n hi, chOn s g = true → Faulted g 1 t
  others : ∀ g, g ∉ pairChans n hi → StKept g s t

theorem pairLose_spec {n : Nat} {hi : Bool} {s : State} (h : pairLost (die s n) hi = false) : PairLoss n hi s (pairLose n hi s) := by
  have heq : pairLose n hi s = raise .d2d 0 2 (forL (pairChans n hi) (fun g a => chFault g 1 a) (modDie n (pairOut hi) s)) :=
    if_neg (by simp [h])
  have hmod : ∀ g, StKept g s (modDie n (pairOut hi) s) := fun g => .ofChans rfl
  rw [heq]
  refine ⟨fun m => die_congr ?_ m, bit_raise .d2d 0 _ (by decide), fun g hg hon => ?_, fun g hg => ?_⟩
  · exact ((same_raise ..).comp (Same.forL (Same.refl 216172782258323472 _) (fun _ _ => same_chFault ..))).dies.resolve_left (by decide)
  · refine StKept.faulted (.ofChans (raise_chans ..)) ((forL_chFault 1 _ _ g).1 (.inr ⟨hg, (hmod g).chOn.trans hon⟩))
  · exact .trans (.ofChans (raise_chans ..)) (((forL_chFault 1 _ _ g).2 hg).trans (hmod g))

theorem pairLost_pairOut (hi : Bool) (d : Die) : pairLost (pairOut hi d) hi = true := by cases hi <;> rfl

/-! ### The events of a link -/

/-- A training that finds a lane: the map of the lanes it found (R59, R62). -/
theorem d2dTrained_found {n ok : Nat} (tr : List Nat) {s : State} (ho : ok % 8 ≠ 0)
    (hex : exec (.d2dTrained n ok tr) s = .next (trainEnd n ok tr s)) :
    ∃ t, exec (.d2dTrained n ok tr) s = .next t ∧ Same 216172782593869840 s t ∧ (∀ m, die t m = die (trainDie n ok tr s) m) ∧
      (ok % 8 = 7 → t.regs = s.regs ∧ t.chans = s.chans) := by
  refine ⟨_, hex, (same_execD2dTrained n ok tr s).get _ hex, fun m => ?_, fun h7 => ?_⟩ <;> rw [trainEnd_of_some tr s ho]
  · exact die_congr (((same_buffersBack ..).comp ((same_retrained ..).comp (same_trainFaults ..))).dies.resolve_left (by decide)) m
  · rw [trainFaults_of_all n _ h7]
    have hsame := (same_buffersBack n _).comp ((same_retrained n _).comp (same_trainDie n ok tr s))
    exact ⟨hsame.regs.resolve_left (by decide), hsame.chans.resolve_left (by decide)⟩

/-- A training that finds no lane: both pairs lost, the die's channels in FAULT (R59, R62). -/
theorem d2dTrained_lost {n ok : Nat} (tr : List Nat) {s : State} (ho : ok % 8 = 0)
    (hex : exec (.d2dTrained n ok tr) s = .next (trainEnd n ok tr s)) :
    ∃ t, exec (.d2dTrained n ok tr) s = .next t ∧ Same 216172782526760976 s t ∧
      (∀ m, die t m = die (trainDie n ok tr (auxLose n s)) m) ∧ bit (rg t 0x1B010) 2 = true ∧
      ∀ g ∈ dieChans n, chOn s g = true → Faulted g 1 t := by
  have hspec := trainNone_spec (n := n) tr s ho
  refine ⟨_, hex, ?_⟩
  rcases trainEnd_of_none (n := n) tr s ho with h | h <;> rw [h]
  · refine ⟨(same_raise ..).step rfl (same_trainNone ..), fun m => (die_raise ..).trans (hspec.1 m), ?_, fun g hg hon =>
      StKept.faulted (.ofChans (raise_chans ..)) (hspec.2.2 g hg hon)⟩
    rw [rg_raise_ne 1 _ (by decide)]
    exact hspec.2.1
  · exact ⟨same_trainNone .., hspec⟩

/-- A failed word that is rebuilt: noted and counted (R61). -/
theorem d2dWordError_rebuilt {n : Nat} {x : LaneWord} {s : State} (hn : n < 4) (hl : live s = true) (ht : (die s n).trained = true)
    (hx : x.lane < 2) (hm : (die s n).map = 0) (h2 : (die s n).ok2 = true) (ho : laneOk (die s n) (1 - x.lane) = true)
    (hlen : (failedWords (die s n) x.lane x.w).length < 8) :
    exec (.d2dWordError n x) s = .next (bump (0x1B020 + 4 * n) 1 (wordNoted n x s)) := by
  have hw := die_wordNoted_self n x s
  rw [d2dWordError_eq hn hl ht hx, if_neg (Nat.not_le.2 hlen), wordLost_of_parity hx (by rw [hw]; exact hm) (by rw [hw]; exact h2)
    (by rw [hw]; exact ho)]

/-- The eighth failed word of a lane of a whole link: rebuilt too, and the lane's words are to move to L2 (R61). -/
theorem d2dWordError_eighth {n : Nat} {x : LaneWord} {s : State} (hn : n < 4) (hl : live s = true) (ht : (die s n).trained = true)
    (hx : x.lane < 2) (hm : (die s n).map = 0) (h2 : (die s n).ok2 = true) (hok : ∀ l, l < 2 → laneOk (die s n) l = true)
    (hsub : (die s n).sub = none) (hlen : (failedWords (die s n) x.lane x.w).length = 8) :
    exec (.d2dWordError n x) s = .next (modDie n (fun y => { y with sub := some x.lane })
      (modDie n (laneOut x.lane) (bump (0x1B020 + 4 * n) 1 (wordNoted n x s)))) := by
  have hw := die_wordNoted_self n x s
  have hb : die (bump (0x1B020 + 4 * n) 1 (wordNoted n x s)) n = die (wordNoted n x s) n := die_bump ..
  rw [d2dWordError_eq hn hl ht hx, if_pos hlen.ge, wordLost_of_parity hx (by rw [hw]; exact hm) (by rw [hw]; exact h2)
    (by rw [hw]; exact hok _ (by omega)), d2dFail_of_spare hx (by rw [hb, hw]; exact hok _ hx) (by rw [hb, hw]; exact hsub)
    (by rw [hb, hw]; exact hm) (by rw [hb, hw]; exact h2)]

/-- A failed word of a link with no spare left: its slot is lost (R62). -/
theorem d2dWordError_alone {n : Nat} {x : LaneWord} {s : State} (hn : n < 4) (hl : live s = true) (ht : (die s n).trained = true)
    (hx : x.lane < 2) (hm : (die s n).map = 3) (hp : pairLost (die s n) (decide (x.lane = 1)) = false)
    (hlen : (failedWords (die s n) x.lane x.w).length < 8) :
    ∃ t, exec (.d2dWordError n x) s = .next t ∧ Same (98320 ||| 2048) s t ∧
      SlotLost n [2 * x.lane + (if x.odd then 1 else 0)] (wordNoted n x s) t := by
  have hw := die_wordNoted_self n x s
  have hpair : decide (2 ≤ (2 * x.lane + (if x.odd = true then 1 else 0)) % 4) = decide (x.lane = 1) := by
    rw [decide_eq_decide]
    split <;> omega
  refine ⟨_, ?_, (same_slotLost ..).comp (same_modDie ..), slotLost_spec (by rw [hw]; exact ht)
    ⟨_, List.mem_singleton_self _, by rw [hpair, hw]; exact hp⟩⟩
  rw [d2dWordError_eq hn hl ht hx, if_neg (Nat.not_le.2 hlen), wordLost_of_alone hx (by rw [hw]; exact hm)]
  rfl

theorem laneOk_of_ite {d : Die} {l : Nat} (hl : l < 2) (h : (if l = 0 then d.ok0 else d.ok1) = true) : laneOk d l = true := by
  rw [laneOk]
  split_ifs at h ⊢
  · exact h
  · exact h
  · omega

theorem laneOk_laneOut (d : Die) (l : Nat) : laneOk (laneOut l d) l = false := by
  unfold laneOk laneOut
  split_ifs <;> rfl

theorem laneOut_of_lt {l : Nat} (hl : l < 2) (d : Die) :
    laneOut l d = if l = 0 then { d with ok0 := false } else { d with ok1 := false } := by
  unfold laneOut
  split_ifs
  · rfl
  · rfl
  · omega

theorem pairLost_laneOut (l : Nat) (d : Die) (hi : Bool) : pairLost (laneOut l d) hi = pairLost d hi := by
  unfold laneOut
  split_ifs <;> rfl

/-- Settles O19: each event of a link by the lanes it has left. -/
theorem dieLinks : Obligations.DieLinks := by
  refine ⟨fun n ok tr s hn hl hr he ht hs ho => ?_, fun n ok tr s hn hl hr he ht hs ho => ?_,
    fun n x s hn hl ht hx hm hok h2 hlen => ?_, fun n x s hn hl ht hx hm h0 h1 h2 hsub hlen => ?_,
    fun n x s hn hl ht hx hm hp hlen => ?_, fun n l s hn hl ht hx => ?_, fun n l s hn hl ht h2 hsub hm hok2 hok => ?_,
    fun n s hn hl ht hsub hm hok2 => ?_, fun n l s hn hl ht h2 hsub hm hok hp => ?_, fun n tr s hn hl ht hat => ?_,
    fun n tr s hat => ?_⟩
  · obtain ⟨t, hex, hsame, hdie, hall⟩ := d2dTrained_found tr ho (d2dTrained_eq ok tr hn hl hr he ht hs)
    have hself := (hdie n).trans (die_trainDie_self n ok tr s)
    refine ⟨t, hex, hsame.eq, ?_, ?_, ?_, ?_, ?_, ?_, ?_, fun m hm => (hdie m).trans (die_trainDie_ne ok tr s hm), hall⟩ <;> rw [hself]
    · simp [ho]
    · simp [ho]
  · obtain ⟨t, hex, hsame, hdie, hirq, hfault⟩ := d2dTrained_lost tr ho (d2dTrained_eq ok tr hn hl hr he ht hs)
    have hself := (hdie n).trans (die_trainDie_self n ok tr (auxLose n s))
    refine ⟨t, hex, hsame.eq, ?_, ?_, ?_, hirq, fun g hg hon => ⟨(hfault g hg hon).st, (hfault g hg hon).cause⟩, fun m hm => ?_⟩
    · simp [hself, ho]
    · simp [hself, mapOf, ho]
    · simp [hself, mapOf, ho]
    · rw [hdie m, die_trainDie_ne ok tr _ hm, die_congr ((same_auxLose n s).dies.resolve_left (by decide))]
  · refine ⟨_, d2dWordError_rebuilt hn hl ht hx hm h2 hok hlen, ((same_bump ..).comp (same_modDie ..)).eq, fun a ha => ?_,
      rg_bump_self .., fun m hm => (die_bump ..).trans (die_wordNoted_ne x s hm), (die_bump ..).trans (die_wordNoted_self n x s)⟩
    exact rg_bump_ne 1 _ (List.ne_of_not_mem_cons ha)
  · have hok : ∀ l, l < 2 → laneOk (die s n) l = true := fun l hl => laneOk_of_ite hl (by split_ifs <;> assumption)
    refine ⟨_, d2dWordError_eighth hn hl ht hx hm h2 hok hsub hlen, ?_, fun a ha => ?_, ?_, ?_, fun m hm => ?_⟩
    · exact ((same_modDie ..).comp ((same_modDie ..).comp ((same_bump ..).comp (same_modDie ..)))).eq
    · rw [rg_modDie, rg_modDie, rg_bump_ne 1 _ (List.ne_of_not_mem_cons ha)]
      rfl
    · rw [die_modDie_self, die_modDie_self]
      exact laneOk_laneOut ..
    · rw [die_modDie_self]
    · rw [die_modDie_ne _ _ _ _ hm, die_modDie_ne _ _ _ _ hm, die_bump, die_wordNoted_ne x s hm]
  · obtain ⟨t, hex, hsame, hregs, hcount, hirq, hchans⟩ := d2dWordError_alone hn hl ht hx hm hp hlen
    refine ⟨t, hex, hsame.eq, hregs, hcount, fun g hg => hchans g (fun y hy => ?_), hirq⟩
    rw [List.mem_singleton.1 hy]
    split at hg <;> simp_all <;> omega
  · obtain ⟨hregs, hcount, hirq, hchans⟩ := slotLost_spec ht hx
    refine ⟨slotLost n l s, ?_, (same_slotLost ..).eq, hregs, hcount, hirq, hchans⟩
    rw [exec_d2dUnrecoverableWord, execD2dUnrecoverableWord, if_pos ⟨hn, hl⟩]
  · refine ⟨_, (d2dLaneFail_eq hn hl ht (by omega)).trans (congrArg _ (d2dFail_of_spare h2 (laneOk_of_ite h2 hok) hsub hm hok2)),
      ((same_modDie ..).comp (same_modDie ..)).eq, fun m hm => ?_, ?_⟩
    · rw [die_modDie_ne _ _ _ _ hm, die_modDie_ne _ _ _ _ hm]
    · rw [die_modDie_self, die_modDie_self, laneOut_of_lt h2]
      split_ifs with h
      · rw [h]
      · rw [show l = 1 by omega]
  · refine ⟨_, (d2dLaneFail_eq hn hl ht le_rfl).trans (congrArg _ (d2dFail_of_standby hsub hm hok2)),
      ((same_raise ..).comp ((same_modDie ..).comp (same_modDie ..))).eq, ?_, fun m hm => ?_, fun a ha => ?_,
      bit_raise .d2d 0 _ (by decide)⟩
    · rw [die_raise, die_modDie_self, die_modDie_self]
      rfl
    · rw [die_raise, die_modDie_ne _ _ _ _ hm, die_modDie_ne _ _ _ _ hm]
    · rw [rg_raise_ne (k := .d2d) (i := 0) 1 _ (List.ne_of_not_mem_cons ha), rg_modDie, rg_modDie]
  · have hout : pairLost (die (modDie n (laneOut l) s) n) (decide (l = 1)) = false := by rw [die_modDie_self, pairLost_laneOut, hp]
    obtain ⟨hdie, hirq, hfault, hothers⟩ := pairLose_spec hout
    refine ⟨_, (d2dLaneFail_eq hn hl ht (by omega)).trans (congrArg _ (d2dFail_of_alone h2 (laneOk_of_ite h2 hok) hsub hm)), ?_,
      ((same_pairLose ..).comp (same_modDie ..)).eq, fun m hm => ?_, hirq, fun g hg hon => ?_, fun g hg => (hothers g hg).st⟩
    · rw [hdie, die_modDie_self, pairLost_pairOut]
    · rw [hdie, die_modDie_ne _ _ _ _ hm, die_modDie_ne _ _ _ _ hm]
    · exact ⟨(hfault g hg hon).st, (hfault g hg hon).cause⟩
  · refine ⟨modDie n (fun d => { d with trimTo := tr.map (fun x => min x 250), trimAt := s.ord }) s, ?_, (same_modDie ..).eq,
      fun m hm => die_modDie_ne _ _ _ _ hm, by rw [die_modDie_self]⟩
    rw [exec_d2dTrimRemeasure, execD2dTrimRemeasure, if_pos ⟨hn, hl, ht, hat⟩]
  · rw [exec_d2dTrimRemeasure, execD2dTrimRemeasure, if_neg (by rintro ⟨-, -, -, h⟩; omega)]

end Sys2Proof.Machine

/-! SUPPORT. The ends of a configuration check, the end of a session, and the apply at tick F (R20, R82, R87 to R92, R97). -/

namespace Sys2Proof.Machine

open Sys2Proof

theorem exec_checkComplete (s : State) : exec .checkComplete s = execCheckComplete s := rfl
theorem exec_armCheckComplete (s : State) : exec .armCheckComplete s = execArmCheckComplete s := rfl
theorem exec_finalCheck (s : State) : exec .finalCheck s = execFinalCheck s := rfl
theorem exec_sessionTimeout (s : State) : exec .sessionTimeout s = execSessionTimeout s := rfl
theorem exec_commitApply (s : State) : exec .commitApply s = execCommitApply s := rfl

/-! ### The result of a check (R87, R93) -/

/-- The table of a function below a bound. -/
def tabled (n : Nat) (f : Nat → Nat) : Tbl Nat := forN n (fun i t => tset 0 t i (f i)) []

theorem tget_tabled (n : Nat) (f : Nat → Nat) {i : Nat} (h : i < n) : tget 0 (tabled n f) i = f i := by
  have key : ∀ m, i < m → tget 0 (tabled m f) i = f i := by
    intro m
    induction m with
    | zero => omega
    | succ m ih =>
      intro hm
      have hs : tabled (m + 1) f = tset 0 (tabled m f) m (f m) := by
        simp only [tabled, forN, List.range_succ, List.foldl_append, List.foldl_cons, List.foldl_nil]
      rw [hs, tget_tset]
      split
      · rename_i h; rw [h]
      · exact ih (by omega)
  exact key n h

/-- What a check leaves in the session: its result alone, with every load register new. -/
structure CheckLeaves (s t : State) : Prop where
  st : t.cmt.st = s.cmt.st
  owner : t.cmt.owner = s.cmt.owner
  arming : t.cmt.arming = s.cmt.arming
  applyFrame : t.cmt.applyFrame = s.cmt.applyFrame
  budget : t.cmt.res.budget = b85 (sHz s)
  bkdem : t.cmt.res.bkdem = tabled 12 (bankDem s)
  lkdem : t.cmt.res.lkdem = tabled 8 (laneNeed s)
  lkcap : t.cmt.res.lkcap = tabled 8 (laneCap s)

theorem checkRun_leaves (pre : List Viol) (s : State) : CheckLeaves s (checkRun pre s) := by
  unfold checkRun
  extract_lets loads asm r tab src x s1 c
  have hc : s1.cmt = s.cmt := (Same.forN (Same.refl 134217728 s) (fun _ _ => same_modAux ..)).cmt.resolve_left (by decide)
  exact ⟨congrArg (·.st) hc, congrArg (·.owner) hc, congrArg (·.arming) hc, congrArg (·.applyFrame) hc, rfl, rfl, rfl, rfl⟩

/-- CHECK ends: its result stands, the session is OPEN, and the commands that waited have ended. -/
theorem checkComplete_eq {s : State} (hr : running s = true) (hst : s.cmt.st = .checking) (ha : s.cmt.arming = false)
    (hv : vexcIn s = true) : ∃ st res, exec .checkComplete s = .next (wakeup .check st res
      (raise .cmt 0 0 (modCmt (fun c => { c with st := .open_ }) (checkRun [] s)))) := by
  rw [exec_checkComplete, execCheckComplete, if_pos ⟨hr, hst, ha, hv⟩]
  exact ⟨_, _, rfl⟩

/-- ARM ends where every check passed: the session is ARMED. -/
theorem armCheckComplete_passed {s : State} (hr : running s = true) (hst : s.cmt.st = .checking) (ha : s.cmt.arming = true)
    (hv : vexcIn s = true) (hok : (checkRun (armPre s) s).cmt.res.status = stOk) : exec .armCheckComplete s = .next
      (modCmt (fun c => { c with st := .armed, arming := false, finalOk := false, pre := none }) (checkRun (armPre s) s)) := by
  rw [exec_armCheckComplete, execArmCheckComplete, if_pos ⟨hr, hst, ha, hv⟩]
  exact congrArg _ (if_pos hok)

/-- With no command in flight and no resync a failed ARM touches nothing more. -/
theorem applyFailed_of_idle {s : State} (st : Nat) (hf : s.flight = []) (hh : s.hub.st ≠ .resync) : applyFailed st s = s := by
  simp only [applyFailed, hf, hh, false_and, if_false, List.foldl_nil]

/-- A session of whose check nothing else waits is touched no further when the check fails. -/
theorem applyFailed_modCmt {x : State} (st : Nat) (f : Cmt → Cmt) (hf : x.flight = []) (hh : x.hub.st ≠ .resync) :
    applyFailed st (modCmt f x) = modCmt f x := applyFailed_of_idle st hf hh

theorem checkRun_flight (pre : List Viol) (s : State) : (checkRun pre s).flight = s.flight :=
  (same_checkRun pre s).flight.resolve_left (by decide)

theorem checkRun_hub (pre : List Viol) (s : State) : (checkRun pre s).hub = s.hub := (same_checkRun pre s).hub.resolve_left (by decide)

/-- ARM ends where a check failed: the session is OPEN. -/
theorem armCheckComplete_failed {s : State} (hr : running s = true) (hst : s.cmt.st = .checking) (ha : s.cmt.arming = true)
    (hv : vexcIn s = true) (hf : s.flight = []) (hh : s.hub.st ≠ .resync) (hbad : (checkRun (armPre s) s).cmt.res.status ≠ stOk) :
    exec .armCheckComplete s = .next
      (modCmt (fun c => { c with st := .open_, arming := false, pre := none }) (checkRun (armPre s) s)) := by
  have hf' := (checkRun_flight (armPre s) s).trans hf
  have hh' : (checkRun (armPre s) s).hub.st ≠ .resync := by rwa [checkRun_hub]
  rw [exec_armCheckComplete, execArmCheckComplete, if_pos ⟨hr, hst, ha, hv⟩]
  generalize checkRun (armPre s) s = x at hbad hf' hh' ⊢
  dsimp only
  rw [if_neg hbad, applyFailed_modCmt _ _ hf' hh']

/-- While the measured VEXC is not in, a check goes on (R159). -/
theorem check_waits {s : State} (h : vexcIn s = false) :
    exec .checkComplete s = .next s ∧ exec .armCheckComplete s = .next s := by
  simp [exec_checkComplete, execCheckComplete, exec_armCheckComplete, execArmCheckComplete, h]

/-! ### The final check (R89) -/

theorem finalCheck_passed {s : State} (hr : running s = true) (hst : s.cmt.st = .armed) (hok : s.cmt.finalOk = false)
    (hf : s.frame + 1 = s.cmt.applyFrame) (hrun : finalRun s = none) :
    exec .finalCheck s = .next { s with cmt := { s.cmt with finalOk := true } } := by
  rw [exec_finalCheck, execFinalCheck, if_pos hr, finalCheck, if_pos ⟨hst, hok, hf⟩]
  simp only [hrun, modCmt]

theorem finalCheck_failed {s : State} {r : Nat × Viol} (hr : running s = true) (hst : s.cmt.st = .armed)
    (hok : s.cmt.finalOk = false) (hf : s.frame + 1 = s.cmt.applyFrame) (hrun : finalRun s = some r) :
    exec .finalCheck s = .next (armCancel r.2.st (modCmt (fun c => { c with res := resultSet (some r) true c.res }) s)) := by
  rw [exec_finalCheck, execFinalCheck, if_pos hr, finalCheck, if_pos ⟨hst, hok, hf⟩]
  simp only [hrun]

/-- With no command in flight and no resync a cancelled session is OPEN and its cause raised. -/
theorem armCancel_of_idle {s : State} (st : Nat) (hf : s.flight = []) (hh : s.hub.st ≠ .resync) :
    armCancel st s = raise .cmt 0 2 (modCmt (fun c => { c with st := .open_, finalOk := false }) s) :=
  applyFailed_of_idle _ (by rw [raise_flight]; exact hf) (by rw [raise_hub]; exact hh)

/-! ### The idle limit (R92) -/

theorem applyLost_cmt (s : State) : (applyLost s).cmt = s.cmt := (same_applyLost s).cmt.resolve_left (by decide)

theorem regs_applyLost (s : State) : RegsBut (fun a => a = 0x5024 ∨ a = 0x502C) s (applyLost s) := by
  unfold applyLost
  refine RegsBut.foldl (fun x f => ?_) _ _
  split
  · exact .finish _ _ _ _ (.inl rfl) (.inr rfl)
  · exact .finish _ _ _ _ (.inl rfl) (.inr rfl)
  · exact .finish _ _ _ _ (.inl rfl) (.inr rfl)
  · exact .finish _ _ _ _ (.inl rfl) (.inr rfl)
  · exact .finish _ _ _ _ (.inl rfl) (.inr rfl)
  · exact .ofRegs rfl
  · exact .refl ..

/-- A session that is abandoned is closed, without owner, and its cause is raised. -/
theorem sessionAbandon_spec (s : State) :
    (sessionAbandon s).cmt.st = .closed ∧ (sessionAbandon s).cmt.owner = .none ∧ (sessionAbandon s).staged = [] ∧
      bit (rg (sessionAbandon s) 0x2010) 3 = true ∧
      RegsBut (fun a => a = 0x2010 ∨ a = 0x5024 ∨ a = 0x502C) s (sessionAbandon s) := by
  have hc : (sessionAbandon s).cmt = (sessionDrop s).cmt := by rw [sessionAbandon, raise_cmt, applyLost_cmt]
  refine ⟨by rw [hc]; rfl, by rw [hc]; rfl, ?_, bit_raise .cmt 0 _ (by decide), ?_⟩
  · rw [sessionAbandon, raise_staged, (same_applyLost _).staged.resolve_left (by decide)]
    rfl
  · exact (RegsBut.raise (k := .cmt) (i := 0) 3 _ (.inl rfl)).trans (((regs_applyLost _).mono (fun _ h => .inr h)).trans (.ofRegs rfl))

theorem sessionTimeout_eq {s : State} (hr : running s = true) (hst : s.cmt.st = .open_ ∨ s.cmt.st = .checking)
    (hl : af s 0x2078 0 8 ≠ 0) (hi : af s 0x2078 0 8 * 1024 ≤ s.cmt.idle) :
    exec .sessionTimeout s = .next (pgError .cmt 0 stTimeout (sessionAbandon s)) := by
  have ho : sessionOverdue s = true := by rcases hst with h | h <;> simp [sessionOverdue, h, hl, hi]
  rw [exec_sessionTimeout, execSessionTimeout, if_pos ⟨hr, ho⟩]

/-! ### The apply at tick F (R20, R82, R90, R97) -/

/-- The session of an apply has closed: the next epoch, and the hub state that an apply leads to (R24, R100). -/
def applyClosed (s : State) : State :=
  let s := if s.hub.st = .unconfigured then setHub .solo s else safeExit s
  let f := s.cmt.applyFrame
  let ep := max (s.cmt.epoch + 1) (s.cmt.imageEpoch.getD 0)
  sessionDrop (modCmt (fun c => { c with epoch := ep, lastApply := f }) s)

/-- The end of an apply: streams, readers and relay paths follow, and the commands that waited for it end. -/
def applyEnd (old : State) (ch : Tbl Word) (s : State) : State :=
  applyWakes (raise .cmt 0 1 (memSync (rteSync (readersApply old (streamsApply ch s)))))

theorem commitApply_eq {s : State} (hr : running s = true) (hst : s.cmt.st = .armed) (hok : s.cmt.finalOk = true)
    (hf : s.frame = s.cmt.applyFrame) {ch dsp : Tbl Word} (hch : s.staged.filter (fun p => !dspGoverned p.1) = ch)
    (hdsp : s.staged.filter (fun p => dspGoverned p.1) = dsp) :
    exec .commitApply s = .next (
      let x := forL ch (fun p a => setRg p.1 (merge (rg a p.1) p.2 (stMask p.1)) a) (applyClosed s)
      let x := forL dsp (fun p a => { a with dspPend := tset (rg a p.1) a.dspPend p.1 p.2 }) x
      let x := if dsp = [] then x else { x with dspQ := x.dspQ ++ [(x.ord, dsp)] }
      applyEnd s ch (forL ch (fun p a => hookReg p.1 (rg s p.1) (rg a p.1) a) x)) := by
  rw [exec_commitApply, execCommitApply, if_pos hr, commitApply, if_pos ⟨hst, hok, hf⟩, hch, hdsp]
  rfl


theorem applyHub_cmt (s : State) : (if s.hub.st = .unconfigured then setHub .solo s else safeExit s).cmt = s.cmt := by
  split
  · rfl
  · exact (same_safeExit s).cmt.resolve_left (by decide)

/-- The session of an apply is closed with the next epoch and no staged copy (R90, R97). -/
theorem applyClosed_cmt (s : State) : (applyClosed s).cmt.st = .closed ∧ (applyClosed s).cmt.owner = .none ∧
    (applyClosed s).cmt.epoch = max (s.cmt.epoch + 1) (s.cmt.imageEpoch.getD 0) ∧ (applyClosed s).cmt.lastApply = s.cmt.applyFrame := by
  have h := applyHub_cmt s
  refine ⟨rfl, rfl, ?_, ?_⟩
  · rw [← h]; rfl
  · rw [← h]; rfl

theorem applyClosed_staged (s : State) : (applyClosed s).staged = [] := rfl

theorem same_applyClosed (s : State) : Same 2251799813738544 s (applyClosed s) := by
  unfold applyClosed
  exact (same_sessionDrop _).step rfl ((same_modCmt ..).step rfl
    (Same.ite ((same_setHub ..).mono rfl) ((same_safeExit s).mono rfl)))

/-- A hub without a configuration becomes SOLO (R100). -/
theorem applyClosed_hub {s : State} (h : s.hub.st = .unconfigured) : (applyClosed s).hub = { s.hub with st := .solo } := by
  simp only [applyClosed, h, if_true]
  rfl

theorem regs_safeExit (s : State) : RegsBut (fun a => a = 0x10) s (safeExit s) := by
  unfold safeExit
  refine .ite ?_ (.refl ..)
  exact RegsBut.trans (t := raise .hub 0 1 _) (.ofRegs rfl) ((RegsBut.raise (P := fun a => a = 0x10) (k := .hub) (i := 0) 1 _ rfl).trans (.ofRegs rfl))

theorem regs_applyClosed (s : State) : RegsBut (fun a => a = 0x10) s (applyClosed s) :=
  RegsBut.trans (t := if s.hub.st = .unconfigured then setHub .solo s else safeExit s) (.ofRegs rfl)
    (.ite (.ofRegs rfl) (regs_safeExit s))

/-! ### What follows an apply: streams, readers, relay paths and commands -/

/-- What a release of the queues leaves: every register but the cause of the MEM page, and the words of the memory. -/
structure Synced (s t : State) : Prop where
  regs : RegsBut (fun a => a = 0xA010) s t
  words : t.mem.words = s.mem.words

namespace Synced

variable {s t u : State}

theorem refl (s : State) : Synced s s := ⟨.refl .., rfl⟩

theorem trans (h : Synced t u) (g : Synced s t) : Synced s u := ⟨h.regs.trans g.regs, h.words.trans g.words⟩

theorem ofSame {m : Nat} (h : Same m s t) (hr : m.testBit 4 = false) (hm : m.testBit 49 = false) : Synced s t :=
  ⟨.ofRegs (h.regs.resolve_left (by simp [hr])), by rw [h.mem.resolve_left (by simp [hm])]⟩

theorem ite {c : Prop} [Decidable c] (ht : Synced s t) (hu : Synced s u) : Synced s (if c then t else u) := by
  split <;> assumption

theorem forN {f : Nat → State → State} (h : ∀ i x, Synced x (f i x)) (n : Nat) (s : State) : Synced s (forN n f s) := by
  unfold Machine.forN
  induction List.range n generalizing s with
  | nil => exact refl s
  | cons a l ih => exact (ih _).trans (h a s)

end Synced

theorem synced_memSync (s : State) : Synced s (memSync s) := by
  refine ⟨?_, ?_⟩ <;> unfold memSync
  · exact .ite (.ofRegs rfl) ((RegsBut.raise (P := fun a => a = 0xA010) (k := .mem) (i := 0) 0 _ rfl).trans (.ofRegs rfl))
  · extract_lets m rise x
    split
    · rfl
    · rw [raise_mem]; rfl

theorem synced_spillEnd (q : Nat) (s : State) : Synced s (spillEnd q s) := by
  unfold spillEnd
  exact .ite ((synced_memSync _).trans (.ofSame (same_modQueue ..) rfl rfl)) (.refl ..)

theorem synced_release (q : Nat) (s : State) : Synced s (release q s) := by
  unfold release
  refine .ite (.refl ..) ?_
  extract_lets up ack
  clear_value up
  cases up with
  | nil => exact .refl ..
  | cons n l => exact (synced_spillEnd ..).trans ((Synced.ofSame (same_chaffSettle ..) rfl rfl).trans (.ofSame (same_modQueue ..) rfl rfl))

theorem synced_readersApply (old s : State) : Synced s (readersApply old s) := by
  unfold readersApply
  refine .forN (fun q a => ?_) _ _
  have h : Synced a (forN 8 (fun n b => if reads b q n && !reads old q n then rdrStart q n b else b) a) :=
    .forN (fun n b => .ite (.ofSame (same_rdrStart ..) rfl rfl) (.refl ..)) _ _
  exact .ite ((synced_release ..).trans h) h

theorem regs_rteSync (s : State) : RegsBut (fun a => a = 0x18010) s (rteSync s) := by
  unfold rteSync
  exact .ite (.refl ..) ((RegsBut.raise (P := fun a => a = 0x18010) (k := .rte) (i := 0) 0 _ rfl).trans (.ofRegs rfl))

theorem applyWakes_of_empty {s : State} (h : s.flight = []) : applyWakes s = s := by rw [applyWakes, h]; rfl

/-- With no command in flight the end of an apply reaches streams, queues, paths and interrupts alone. -/
structure ApplyEnds (s t : State) : Prop where
  same : Same 1690499127738384 s t
  regs : RegsBut (fun a => a = 0x2010 ∨ a = 0xA010 ∨ a = 0x18010) s t
  irq : bit (rg t 0x2010) 1 = true
  words : t.mem.words = s.mem.words

theorem applyEnd_ends (old : State) (ch : Tbl Word) {s : State} (hf : s.flight = []) : ApplyEnds s (applyEnd old ch s) := by
  have hsame := ((same_raise .cmt 0 1 _).comp ((same_memSync _).comp ((same_rteSync _).comp
    ((same_readersApply old _).comp (same_streamsApply ch s)))))
  have hw : applyEnd old ch s = raise .cmt 0 1 (memSync (rteSync (readersApply old (streamsApply ch s)))) :=
    applyWakes_of_empty ((hsame.flight.resolve_left (by decide)).trans hf)
  rw [hw]
  refine ⟨hsame.mono rfl, ?_, bit_raise .cmt 0 _ (by decide), ?_⟩
  · refine (RegsBut.raise (k := .cmt) (i := 0) 1 _ (.inl rfl)).trans
      (((synced_memSync _).regs.mono (fun _ h => .inr (.inl h))).trans (((regs_rteSync _).mono (fun _ h => .inr (.inr h))).trans
      (((synced_readersApply ..).regs.mono (fun _ h => .inr (.inl h))).trans ?_)))
    exact .ofRegs ((same_streamsApply ..).regs.resolve_left (by decide))
  · rw [raise_mem, (synced_memSync _).words, (same_rteSync _).mem.resolve_left (by decide), (synced_readersApply ..).words,
      (same_streamsApply ..).mem.resolve_left (by decide)]

/-- An apply that touches no stream leaves the streams alone. -/
theorem streamsApply_nil (s : State) : streamsApply [] s = s := by
  simp only [streamsApply, List.any_nil, Bool.false_eq_true, if_false]
  unfold forN
  induction List.range 32 with
  | nil => rfl
  | cons _ _ ih => exact ih

/-! ### The three kinds of staged value -/

/-- No hook and no pass governs a register of the TWN page, and no cause stands there. -/
structure TwnReg (a : Nat) : Prop where
  governed : dspGoverned a = false
  hook : ∀ (old new : Word) (s : State), hookReg a old new s = s
  off : a ≠ 0x10 ∧ a ≠ 0x2010 ∧ a ≠ 0xA010 ∧ a ≠ 0x18010

theorem twnReg_of_page {a : Nat} (h : pageAt a = some (.twn, 0)) : TwnReg a := by
  refine ⟨by simp only [dspGoverned, h], fun old new s => by simp only [hookReg, h], ?_, ?_, ?_, ?_⟩ <;>
  · rintro rfl
    exact absurd h (by decide)

/-- Tick F with nothing staged: the session closes with the next epoch (R90, R97). -/
theorem commitApply_unstaged {s : State} (hr : running s = true) (hst : s.cmt.st = .armed) (hok : s.cmt.finalOk = true)
    (hf : s.frame = s.cmt.applyFrame) (hs : s.staged = []) :
    exec .commitApply s = .next (applyEnd s [] (applyClosed s)) := by
  rw [commitApply_eq (ch := []) (dsp := []) hr hst hok hf (by rw [hs]; rfl) (by rw [hs]; rfl)]
  rfl

theorem commitApply_twn {a : Nat} {w : Word} {s : State} (hr : running s = true) (hst : s.cmt.st = .armed)
    (hok : s.cmt.finalOk = true) (hf : s.frame = s.cmt.applyFrame) (hs : s.staged = [(a, w)]) (ha : TwnReg a) :
    exec .commitApply s = .next (applyEnd s [(a, w)]
      (setRg a (merge (rg (applyClosed s) a) w (stMask a)) (applyClosed s))) := by
  rw [commitApply_eq (ch := [(a, w)]) (dsp := []) hr hst hok hf (by rw [hs]; simp [ha.governed]) (by rw [hs]; simp [ha.governed])]
  simp only [forL, List.foldl_cons, List.foldl_nil, ha.hook, if_true]

theorem commitApply_dsp {a : Nat} {w : Word} {s : State} (hr : running s = true) (hst : s.cmt.st = .armed)
    (hok : s.cmt.finalOk = true) (hf : s.frame = s.cmt.applyFrame) (hs : s.staged = [(a, w)]) (ha : dspGoverned a = true) :
    ∃ x, exec .commitApply s = .next (applyEnd s [] x) ∧ x = { applyClosed s with dspPend := x.dspPend, dspQ := x.dspQ } ∧
      x.dspQ = (applyClosed s).dspQ ++ [((applyClosed s).ord, [(a, w)])] := by
  rw [commitApply_eq (ch := []) (dsp := [(a, w)]) hr hst hok hf (by rw [hs]; simp [ha]) (by rw [hs]; simp [ha])]
  exact ⟨_, rfl, rfl, rfl⟩

theorem applyClosed_flight (s : State) : (applyClosed s).flight = s.flight :=
  (same_applyClosed s).flight.resolve_left (by decide)

/-- The end of an apply leaves the session as its close did. -/
theorem ApplyEnds.cmt {s t : State} (h : ApplyEnds s t) : t.cmt = s.cmt := h.same.cmt.resolve_left (by decide)
theorem ApplyEnds.staged {s t : State} (h : ApplyEnds s t) : t.staged = s.staged := h.same.staged.resolve_left (by decide)
theorem ApplyEnds.dspQ {s t : State} (h : ApplyEnds s t) : t.dspQ = s.dspQ := h.same.dspQ.resolve_left (by decide)
theorem ApplyEnds.dspPend {s t : State} (h : ApplyEnds s t) : t.dspPend = s.dspPend := h.same.dspPend.resolve_left (by decide)

theorem applyEnd_streams (old s : State) : (applyEnd old [] s).streams = s.streams := by
  rw [applyEnd, streamsApply_nil]
  exact ((same_applyWakes _).comp ((same_raise ..).comp ((same_memSync _).comp ((same_rteSync _).comp
    (same_readersApply old s))))).streams.resolve_left (by decide)

/-! ### The clauses -/

theorem checkComplete_leaves {s : State} (hr : running s = true) (hst : s.cmt.st = .checking) (ha : s.cmt.arming = false)
    (hv : vexcIn s = true) : ∃ t, exec .checkComplete s = .next t ∧
      t = { s with regs := t.regs, cmt := t.cmt, evt := t.evt, auxs := t.auxs, flight := t.flight, compl := t.compl } ∧
      t.cmt = { (checkRun [] s).cmt with st := .open_ } ∧ bit (rg t 0x2010) 0 = true ∧ (∀ f ∈ t.flight, f.wait ≠ .check) := by
  obtain ⟨st, res, h⟩ := checkComplete_eq hr hst ha hv
  set x := raise .cmt 0 0 (modCmt (fun c => { c with st := .open_ }) (checkRun [] s)) with hx
  have hs : Same 134266896 s x := (same_raise ..).comp ((same_modCmt ..).comp (same_checkRun [] s))
  refine ⟨_, h, ((same_wakeup ..).comp hs).eq, ?_, ?_, fun f hf => ((wakeup_woken _ _ _ x).left f hf).2⟩
  · rw [(same_wakeup .check st res x).cmt.resolve_left (by decide), hx, raise_cmt]; rfl
  · have hw : RegsBut (fun a => a = 0x5024 ∨ a = 0x502C) x (wakeup .check st res x) := .wakeup _ _ _ _ (.inl rfl) (.inr rfl)
    rw [hw.get 0x2010 (by decide)]
    exact bit_raise .cmt 0 _ (by decide)

/-- What the end of ARM changes is the session, and the operands of the check. -/
theorem armCheckComplete_leaves {s : State} {f : Cmt → Cmt} {st : SessSt}
    (h : exec .armCheckComplete s = .next (modCmt f (checkRun (armPre s) s)))
    (hst : ∀ c, (f c).st = st) (ha : ∀ c, (f c).arming = false)
    (hfr : ∀ c, (f c).applyFrame = c.applyFrame) :
    ∃ t, exec .armCheckComplete s = .next t ∧ t = { s with cmt := t.cmt, auxs := t.auxs } ∧ t.cmt.st = st ∧
      t.cmt.arming = false ∧ t.cmt.finalOk = (f (checkRun (armPre s) s).cmt).finalOk ∧ t.cmt.applyFrame = s.cmt.applyFrame :=
  ⟨_, h, ((same_modCmt ..).comp (same_checkRun ..)).eq, hst _, ha _, rfl,
    (hfr _).trans (checkRun_leaves (armPre s) s).applyFrame⟩

theorem finalCheck_cancels {s : State} {n : Nat} {v : Viol} (hr : running s = true) (hst : s.cmt.st = .armed)
    (hok : s.cmt.finalOk = false) (hf : s.frame + 1 = s.cmt.applyFrame) (hrun : finalRun s = some (n, v)) (hfl : s.flight = [])
    (hh : s.hub.st ≠ .resync) :
    exec .finalCheck s = .next (raise .cmt 0 2 (modCmt (fun c => { c with
      st := .open_, finalOk := false, res := resultSet (some (n, v)) true c.res }) s)) := by
  rw [finalCheck_failed hr hst hok hf hrun]
  exact congrArg Host.Outcome.next (armCancel_of_idle (s := modCmt (fun c => { c with res := resultSet (some (n, v)) true c.res }) s)
    v.st hfl hh)

theorem sessionTimeout_leaves {s : State} (hr : running s = true) (hst : s.cmt.st = .open_ ∨ s.cmt.st = .checking)
    (hl : af s 0x2078 0 8 ≠ 0) (hi : af s 0x2078 0 8 * 1024 ≤ s.cmt.idle) :
    ∃ t, exec .sessionTimeout s = .next t ∧
      t = { s with regs := t.regs, staged := [], cmt := t.cmt, evt := t.evt, flight := t.flight, compl := t.compl } ∧
      t.cmt.st = .closed ∧ t.cmt.owner = .none ∧ bit (rg t 0x2010) 3 = true ∧
      (rg s 0x2018 = 0 → rg t 0x2018 = word (stTimeout <<< 24 ||| s.frame % 2 ^ 24)) := by
  obtain ⟨hclosed, howner, hstaged, hirq, hregs⟩ := sessionAbandon_spec s
  refine ⟨_, sessionTimeout_eq hr hst hl hi, ?_, by rwa [pgError_cmt], by rwa [pgError_cmt], ?_, fun h => ?_⟩
  · have e := ((same_pgError .cmt 0 stTimeout _).comp (same_sessionAbandon s)).eq
    have hst' : (pgError .cmt 0 stTimeout (sessionAbandon s)).staged = [] := by rw [pgError_staged, hstaged]
    rw [← hst']
    exact e
  · rwa [rg_pgError_ne _ _ (by decide)]
  · have h0 : rg (sessionAbandon s) 0x2018 = 0 := (hregs.get _ (by decide)).trans h
    rw [rg_pgError, if_pos (by decide), if_pos h0, (same_sessionAbandon s).frame.resolve_left (by decide)]

theorem commitApply_unstaged_leaves {s : State} (hr : running s = true) (hst : s.cmt.st = .armed) (hok : s.cmt.finalOk = true)
    (hf : s.frame = s.cmt.applyFrame) (hi : s.cmt.imageEpoch = none) (hfl : s.flight = []) (hs : s.staged = []) :
    ∃ t, exec .commitApply s = .next t ∧
      t = { s with regs := t.regs, hub := t.hub, cmt := t.cmt, evt := t.evt, lanes := t.lanes, queues := t.queues, mem := t.mem, rtePath := t.rtePath, twn := t.twn, hst := t.hst } ∧
      t.cmt.st = .closed ∧ t.cmt.owner = .none ∧ t.cmt.epoch = s.cmt.epoch + 1 ∧ t.cmt.lastApply = s.cmt.applyFrame ∧
      t.mem.words = s.mem.words ∧ bit (rg t 0x2010) 1 = true ∧ (s.hub.st = .unconfigured → t.hub = { s.hub with st := .solo }) := by
  obtain ⟨hclosed, howner, hepoch, hlast⟩ := applyClosed_cmt s
  have hsame := same_applyClosed s
  have he := applyEnd_ends s [] ((applyClosed_flight s).trans hfl)
  refine ⟨_, commitApply_unstaged hr hst hok hf hs, ?_⟩
  generalize ht : applyEnd s [] (applyClosed s) = t at he
  refine ⟨?_, by rw [he.cmt, hclosed], by rw [he.cmt, howner], by rw [he.cmt, hepoch, hi]; simp, by rw [he.cmt, hlast], ?_, he.irq, ?_⟩
  · have hstreams : t.streams = s.streams := by rw [← ht, applyEnd_streams, hsame.streams.resolve_left (by decide)]
    have hstaged : t.staged = s.staged := by rw [he.staged, applyClosed_staged, hs]
    have e : t = { s with regs := t.regs, hub := t.hub, cmt := t.cmt, evt := t.evt, twn := t.twn, queues := t.queues, mem := t.mem, rtePath := t.rtePath, streams := t.streams, staged := t.staged } :=
      (he.same.comp hsame).eq
    rw [hstreams, hstaged] at e
    exact e.trans (by rw [e])
  · rw [he.words, hsame.mem.resolve_left (by decide)]
  · intro h
    rw [he.same.hub.resolve_left (by decide), applyClosed_hub h]

theorem commitApply_twn_leaves {a : Nat} {w : Word} {s : State} (hr : running s = true) (hst : s.cmt.st = .armed)
    (hok : s.cmt.finalOk = true) (hf : s.frame = s.cmt.applyFrame) (hfl : s.flight = []) (hs : s.staged = [(a, w)])
    (hp : pageAt a = some (.twn, 0)) : ∃ t, exec .commitApply s = .next t ∧ rg t a = merge (rg s a) w (stMask a) ∧ t.staged = [] ∧
      t.dspQ = s.dspQ ∧ t.dspPend = s.dspPend ∧ t.cmt.st = .closed := by
  have ha := twnReg_of_page hp
  obtain ⟨hne10, hne2010, hneA010, hne18010⟩ := ha.off
  have hsame := (same_setRg a (merge (rg (applyClosed s) a) w (stMask a)) (applyClosed s)).comp (same_applyClosed s)
  have he := applyEnd_ends s [(a, w)] (hsame.flight.resolve_left (by decide) ▸ hfl)
  refine ⟨_, commitApply_twn hr hst hok hf hs ha, ?_, he.staged, ?_, ?_, by rw [he.cmt]; rfl⟩
  · rw [he.regs.get a (by simp [hne2010, hneA010, hne18010]), rg_setRg_self, (regs_applyClosed s).get a hne10]
  · rw [he.dspQ, hsame.dspQ.resolve_left (by decide)]
  · rw [he.dspPend, hsame.dspPend.resolve_left (by decide)]

theorem commitApply_dsp_leaves {a : Nat} {w : Word} {s : State} (hr : running s = true) (hst : s.cmt.st = .armed)
    (hok : s.cmt.finalOk = true) (hf : s.frame = s.cmt.applyFrame) (hfl : s.flight = []) (hs : s.staged = [(a, w)])
    (ha : dspGoverned a = true) :
    ∃ t, exec .commitApply s = .next t ∧ t.dspQ = s.dspQ ++ [(s.ord, [(a, w)])] ∧ t.staged = [] ∧ t.cmt.st = .closed := by
  obtain ⟨x, hx, heq, hq⟩ := commitApply_dsp hr hst hok hf hs ha
  have hflight : x.flight = [] := by rw [heq]; exact (applyClosed_flight s).trans hfl
  have he := applyEnd_ends s [] hflight
  refine ⟨_, hx, ?_, by rw [he.staged, heq]; rfl, by rw [he.cmt, heq]; rfl⟩
  rw [he.dspQ, hq, (same_applyClosed s).dspQ.resolve_left (by decide), (same_applyClosed s).ord.resolve_left (by decide)]

/-- Settles O14: the ends of a check are the result of the check in the session and its wake-ups; the apply is the close of the
session, the staged values by kind, and the followers of an apply. -/
theorem checksAndApplies : Obligations.ChecksAndApplies := by
  refine ⟨fun s hr hst ha hv => ?_, fun s hv => check_waits hv, fun s hr hst ha hv hok => ?_,
    fun s hr hst ha hv hf hh hbad => ?_, fun s hr hst hok hf hrun => finalCheck_passed hr hst hok hf hrun, fun n v s hr hst hok hf hrun hfl hh => ?_,
    fun s hr hst hl hi => sessionTimeout_leaves hr hst hl hi,
    fun s hr hst hok hf hi hfl hs => commitApply_unstaged_leaves hr hst hok hf hi hfl hs,
    fun a w s hr hst hok hf hfl hs hp _ => commitApply_twn_leaves hr hst hok hf hfl hs hp,
    fun a w s hr hst hok hf hfl hs ha => commitApply_dsp_leaves hr hst hok hf hfl hs ha⟩
  · obtain ⟨t, h, heq, hc, hirq, hleft⟩ := checkComplete_leaves hr hst ha hv
    have hl := checkRun_leaves [] s
    generalize checkRun [] s = r at hc hl ⊢
    have hres : t.cmt.res = r.cmt.res := congrArg (·.res) hc
    refine ⟨t, h, heq, congrArg (·.st) hc, (congrArg (·.owner) hc).trans hl.owner, congrArg (·.status) hres, hirq, hleft,
      congrArg (·.asm) hres, (congrArg (·.budget) hres).trans hl.budget, fun b hb => ?_, fun n hn => ⟨?_, ?_⟩⟩
    · exact (congrArg (fun r => tget 0 r.bkdem b) hres).trans ((congrArg (tget 0 · b) hl.bkdem).trans (tget_tabled 12 _ hb))
    · exact (congrArg (fun r => tget 0 r.lkdem n) hres).trans ((congrArg (tget 0 · n) hl.lkdem).trans (tget_tabled 8 _ hn))
    · exact (congrArg (fun r => tget 0 r.lkcap n) hres).trans ((congrArg (tget 0 · n) hl.lkcap).trans (tget_tabled 8 _ hn))
  · exact armCheckComplete_leaves (armCheckComplete_passed hr hst ha hv hok) (fun _ => rfl) (fun _ => rfl) (fun _ => rfl)
  · obtain ⟨t, h, heq, hopen, harm, _⟩ := armCheckComplete_leaves (armCheckComplete_failed hr hst ha hv hf hh hbad)
      (fun _ => rfl) (fun _ => rfl) (fun _ => rfl)
    exact ⟨t, h, heq, hopen, harm⟩
  · refine ⟨_, finalCheck_cancels hr hst hok hf hrun hfl hh, ((same_raise ..).comp (same_modCmt ..)).eq, ?_, ?_, ?_,
      bit_raise .cmt 0 _ (by decide), fun a ha => ?_⟩
    · rw [raise_cmt]; rfl
    · rw [raise_cmt]; rfl
    · rw [raise_cmt]; rfl
    · exact rg_raise_ne (k := .cmt) (i := 0) 2 _ (List.ne_of_not_mem_cons ha)

end Sys2Proof.Machine

/-! SUPPORT. The tick with an offload whose queue spills (R16, R252, R280): its segment is written to the spill bank. -/

namespace Sys2Proof.Machine

open Sys2Proof

/-- The state in which a tick serves the offloads: the work of the tick before them. -/
def beforeOffloads (i : TickIn) (sets : Bool) (at_ from_ : Nat) (ws : List StoreIn) (open_ : Nat → State → State) (s : State) : State :=
  let s := safeTurn (storeFill s.ord from_ ws (overrunTick (pertOnce s)))
  let s := sleepTick (eccTick i (forL i.exc excReading s))
  let s := forN 32 (fun n a => if inService a then open_ n a else strClose n a) s
  let s := linksTick i sets (tmbTick sets (servo s))
  let s := resyncTick (twnTick at_ (pertD2d (d2dTick s)))
  let s := bcnTick (bcnRole s)
  tickPulses sets at_ (countTick (lanesTick i s))

/-- The state in which a plain tick serves the offloads. -/
def plainBeforeOffloads (i : TickIn) (s : State) : State :=
  let from_ := min (256 * s.c) (localAt s (tickTime s s.frame))
  let at_ := localAt s (tickTime s (s.frame + 1))
  let r := cicWords i s
  let ws := r.1
  let s := tickCycle r.2
  let s := voteTick i (pertTick { s with frame := s.frame + 1, ord := s.ord + 1 })
  let s := commitApply (finalCheck s)
  beforeOffloads i true at_ from_ ws strTick s

theorem tickPlain_eq (i : TickIn) (s : State) : tickPlain i s = passTurn (forL i.off offlStep (plainBeforeOffloads i s)) := rfl


/-! ### A record that is committed to a spill bank is written there (R280) -/

theorem memGet_memPut_self (a v : Nat) (s : State) : memGet (memPut a v s) a = v % 2 ^ 64 := by
  show tget 0 (tset 0 s.mem.words a (v % 2 ^ 64)) a = v % 2 ^ 64
  rw [tget_tset, if_pos rfl]

/-- The last word of a spilled record stands at its place. -/
theorem memGet_spillWrite_last (b pos : Nat) {n : Nat} {l : List Byte} (s : State) (h : l.length / 8 = n + 1) :
    memGet (spillWrite b pos l s) (262144 * b + Config.spillPlace (pos + n) % 262144) = leNat ((l.drop (8 * n)).take 8) % 2 ^ 64 := by
  rw [spillWrite, h, forN, List.range_succ, List.foldl_append, List.foldl_cons, List.foldl_nil]
  exact memGet_memPut_self ..

theorem words_commitRec_spill (q : Nat) (tag : RecTag) (l : List Byte) (s : State) :
    (commitRec q tag true l s).mem.words = (spillWrite (qSpill s q) (queue s q).wp l s).mem.words := by
  unfold commitRec
  extract_lets was n b s1 s2 s3
  have h1 : s1 = spillWrite b (queue s q).wp l s := if_pos rfl
  have h3 : s3.mem.words = s1.mem.words := rfl
  rw [← h1, ← h3]
  split
  · rw [raise_mem]
  · rfl

theorem words_qAdmit_spill {q : Nat} {raw : Nat} {s : State} (tag : RecTag) (l : List Byte) (hp : place s q raw = some true)
    (hs : (queue s q).spilling = true) :
    (qAdmit q tag raw l s).mem.words = (spillWrite (qSpill s q) (queue s q).wp l s).mem.words := by
  have hroom : makeRoom q raw ((queue s q).recs.length + 1) s = s := if_pos (by rw [hp]; rfl)
  have hadmit : qAdmit q tag raw l s =
      (if (queue (commitRec q tag true l s) q).flush then flushStook q (commitRec q tag true l s) else commitRec q tag true l s) := by
    simp only [qAdmit, hroom, hp, hs, Option.isNone_some, Bool.false_eq_true, if_false, Bool.not_true, Bool.and_false]
  rw [hadmit, ← words_commitRec_spill q tag]
  split
  · exact (same_flushStook ..).words.resolve_left (by decide)
  · rfl

/-! ### An offload whose one segment is complete and read -/

/-- The plan's offload has its first segment behind it. -/
def segTaken (p : Nat) (s : State) : State := modPlan p (fun y => { y with offl := y.offl.map (fun z => { z with segs := 1 }) }) s

/-- The record of a plan's first segment. -/
def segTag (p : Nat) (g : Seg) : RecTag :=
  .seg p 0 (inst96 (gridTime (rcOdr g.rc) g.k)) (inst96 (gridTime (rcOdr g.rc) (g.k + (g.c - 1) * 2 ^ g.d)))

/-- The bytes of a plan's first segment, the only one of its window. -/
def segOnly (p : Nat) (g : Seg) (s : State) : List Byte := segBytes s p 0 (decide ((plan s p).st = .held)) false g

theorem offlAdmit_one {p : Nat} {o : Offl} {g : Seg} {s : State} (ho : (plan s p).offl = some o) (hg : segList s p = [g])
    (hz : o.segs = 0) (hsink : o.sink = none) (hcomp : o.compress = false) (hclosed : g.closed = true)
    (hread : g.n + g.c ≤ winFirst s p + o.rdn) :
    offlAdmit p false [] s = qAdmit o.q (segTag p g) ((segOnly p g (segTaken p s)).length / 8) (segOnly p g (segTaken p s)) (segTaken p s) := by
  have hready : ((([g].zipIdx).drop o.segs).takeWhile (fun q => false || (q.1.closed && decide (q.1.n + q.1.c ≤ winFirst s p + o.rdn))))
      = [(g, 0)] := by
    simp [hz, hclosed, hread]
  have hnosink : (plan (segTaken p s) p).offl.bind (fun z => z.sink) = none := by
    rw [segTaken, plan_modPlan_self, ho]
    exact hsink
  simp only [offlAdmit, ho, hg, hready, hcomp]
  simp only [List.foldl_cons, List.foldl_nil, List.filter_nil, List.map_nil, eccList, forL]
  rw [← segTaken, hnosink]
  simp [segOnly, segTag]

/-- A record of one segment that goes to the spill bank is written there. -/
theorem words_offlAdmit_one {p : Nat} {o : Offl} {g : Seg} {s : State} (ho : (plan s p).offl = some o) (hg : segList s p = [g])
    (hz : o.segs = 0) (hsink : o.sink = none) (hcomp : o.compress = false) (hclosed : g.closed = true)
    (hread : g.n + g.c ≤ winFirst s p + o.rdn)
    (hplace : place (segTaken p s) o.q ((segOnly p g (segTaken p s)).length / 8) = some true)
    (hspills : (queue (segTaken p s) o.q).spilling = true) :
    (offlAdmit p false [] s).mem.words = (spillWrite (qSpill (segTaken p s) o.q) (queue (segTaken p s) o.q).wp
      (segOnly p g (segTaken p s)) (segTaken p s)).mem.words := by
  rw [offlAdmit_one ho hg hz hsink hcomp hclosed hread]
  exact words_qAdmit_spill _ _ hplace hspills

/-! ### A tick with one offload -/

/-- The offload of a plan has read n samples. -/
def offlRead (p n : Nat) (s : State) : State := modPlan p (fun y => { y with offl := y.offl.map (fun z => { z with rdn := max z.rdn n }) }) s

/-- Of a tick without a step, only the offloads reach the words of the memory. -/
theorem words_tick {i : TickIn} {s : State} {p n : Nat} (hstep : (lockTurn (frameExchange s)).tmb.step = none)
    (hoff : i.off = [(p, (n, []))]) : (tick i s).mem.words =
      (offlAdmit p false [] (offlRead p n (plainBeforeOffloads i (lockTurn (frameExchange s))))).mem.words := by
  rw [tick, hstep]
  dsimp only
  rw [tickPlain_eq, hoff]
  generalize plainBeforeOffloads i (lockTurn (frameExchange s)) = x
  exact (same_passTurn (offlStep (p, (n, [])) x)).words.resolve_left (by decide)

/-! ### The tick that spills a segment -/

/-- Plan 0 holds a window of two samples of channel 0 in bank 0, which an offload sends to queue 0; queue 0 has a spill bank,
bank 1, and spills. -/
def spillingOffload : State :=
  { setRg (cpA 0 0) 0x10#32 (setRg (cpA 0 4) 1#32 (setRg (cpA 0 8) 1#32
      (setRg (bankCfgA 0) 1#32 (setRg (bankCfgA 1) 2#32 (setRg (queCfgA 0) 0x80440200#32 State.reset))))) with
    pwr := { phase := .run }
    hub := { st := .solo }
    plans := [(0, { st := .held, lv := [⟨0, 0, 0, 0, 0⟩], nx := [(0, 2)], wEnd := 2, offl := some { q := 0, compress := false, live := false } })]
    queues := [(0, { spilling := true })]
    mem := { words := [(0, 5)] } }

/-- A tick at which the offload has read both samples. -/
def offloadTick : TickIn := ⟨[], 7, [], [], [(0, (2, []))], [], [], [], [], [], []⟩

/-- The state in which that tick admits the segment. -/
def segAdmitting : State := segTaken 0 (offlRead 0 2 (plainBeforeOffloads offloadTick (lockTurn (frameExchange spillingOffload))))

/-- The one segment of the window. -/
def segHeld : Seg := ⟨0, 0, 0, 0, 0, 2, 2, true⟩

theorem words_tick_spillingOffload : (tick offloadTick spillingOffload).mem.words =
    (spillWrite 1 0 (segOnly 0 segHeld segAdmitting) segAdmitting).mem.words := by
  have hbank : qSpill segAdmitting 0 = 1 := by decide +kernel
  have hwp : (queue segAdmitting 0).wp = 0 := by decide +kernel
  rw [words_tick (by decide +kernel) rfl, words_offlAdmit_one (g := segHeld) (o := { q := 0, compress := false, live := false, rdn := 2 })
    (by decide +kernel) (by decide +kernel) rfl rfl rfl rfl (by decide +kernel) (by decide +kernel) (by decide +kernel), ← segAdmitting,
    hbank, hwp]

/-- The last word of the segment, of value 5, stands in bank 1, where no word stood. -/
theorem tick_changes_words : (tick offloadTick spillingOffload).mem.words ≠ spillingOffload.mem.words := by
  intro h
  have hlen : (segOnly 0 segHeld segAdmitting).length / 8 = 6 + 1 := by decide +kernel
  have hlast : leNat (((segOnly 0 segHeld segAdmitting).drop (8 * 6)).take 8) % 2 ^ 64 = 5 := by decide +kernel
  have hw := (memGet_spillWrite_last 1 0 segAdmitting hlen).trans hlast
  rw [memGet, ← words_tick_spillingOffload, h] at hw
  have hfree : ∀ n, tget 0 spillingOffload.mem.words (262144 * 1 + n) = 0 := fun n => if_neg (by omega)
  rw [hfree] at hw
  exact absurd hw (by decide)

/-- Refutes O15: a segment of an offload that a tick completes is committed to the spill bank of its queue, so the tick writes a
word of the memory. -/
theorem not_ticksAndPasses : ¬ Obligations.TicksAndPasses := by
  unfold Obligations.TicksAndPasses
  rintro ⟨hticks, _⟩
  obtain ⟨t, ht, _, _, _, hw, _⟩ := hticks offloadTick spillingOffload (by decide) (by decide +kernel) (by decide)
  have hexec : exec (.milestoneTick offloadTick) spillingOffload = .next (tick offloadTick spillingOffload) :=
    congrArg Host.Outcome.next (if_pos (by decide))
  obtain rfl : tick offloadTick spillingOffload = t := Host.Outcome.next.inj (hexec.symm.trans ht)
  exact tick_changes_words hw

end Sys2Proof.Machine

/-! SUPPORT. SAFE and its causes (R23, R24), and the restart of the control processor (R13, R14, R391, R397). -/

namespace Sys2Proof.Machine

open Sys2Proof

theorem exec_safeEntry (s : State) : exec .safeEntry s = .next (if safeDue s = 0 then s else safeEnter (safeDue s) s) := rfl
theorem exec_safeCauseCleared (s : State) : exec .safeCauseCleared s = execSafeCauseCleared s := rfl
theorem exec_processorRestart (s : State) : exec .processorRestart s = .next (if running s then restart s else s) := rfl

/-! ### Which cause of SAFE holds (R23) -/

theorem safeDue_overruns {s : State} (hr : running s = true) (h1 : s.hub.st ≠ .safe) (h2 : s.hub.st ≠ .sleep)
    (h : 16 ≤ s.hub.consec) : safeDue s = 1 := by
  rw [safeDue, if_neg (by simp [hr, h1, h2]), if_pos h]

theorem safeDue_lastingPass {s : State} {o : Nat} (hr : running s = true) (h1 : s.hub.st ≠ .safe) (h2 : s.hub.st ≠ .sleep)
    (hc : s.hub.consec < 16) (hrun : s.dsp.run = some o) (ho : o + 2 ≤ s.ord) : safeDue s = 2 := by
  rw [safeDue, if_neg (by simp [hr, h1, h2]), if_neg (by omega), hrun]
  exact if_pos ho

theorem safeCauseCleared_eq {s : State} (hr : running s = true) (hst : s.hub.st = .safe) (hc : 64 ≤ s.hub.clean) :
    exec .safeCauseCleared s = .next { s with hub := { s.hub with safeHeld := false } } := by
  rw [exec_safeCauseCleared, execSafeCauseCleared, if_pos ⟨hr, hst, hc⟩]

/-! ### The plans that SAFE stops (R24, R254) -/

theorem plan_congr {s t : State} (h : t.plans = s.plans) (p : Nat) : plan t p = plan s p := by unfold plan; rw [h]

theorem plan_planIdle (p c q : Nat) (s : State) : plan (planIdle p c s) q = if q = p then { cause := c } else plan s q := by
  rw [planIdle, plan_congr ((same_memSync _).plans.resolve_left (by decide)), plan_modPlan,
    plan_congr ((same_unfreeze p s).plans.resolve_left (by decide))]

/-- A plan that is HELD for a cause. -/
theorem plan_planHeld (p c : Nat) (tr : Bool) (s : State) : ((plan (planHeld p c tr s) p).st = .held ∧ (plan (planHeld p c tr s) p).cause = c) ∧
    ∀ q, q ≠ p → plan (planHeld p c tr s) q = plan s q := by
  unfold planHeld
  extract_lets s1 s2 s3
  have h3 : s3.plans = s2.plans := by
    unfold s3
    split
    · exact (raise_plans ..).trans (bump_plans ..)
    · rfl
  have hp : (memSync (raise .acq 0 1 s3)).plans = s2.plans :=
    ((same_memSync _).plans.resolve_left (by decide)).trans ((raise_plans ..).trans h3)
  refine ⟨?_, fun q hq => ?_⟩
  · rw [plan_congr hp]
    unfold s2
    rw [plan_modPlan_self]
    exact ⟨rfl, rfl⟩
  · rw [plan_congr hp]
    unfold s2
    rw [plan_modPlan_ne _ _ _ _ hq]
    exact plan_congr ((same_unfreeze p s).plans.resolve_left (by decide)) q

theorem plan_planStop_ne {p q : Nat} (c : Nat) (s : State) (h : q ≠ p) : plan (planStop p c s) q = plan s q := by
  unfold planStop
  split
  · rw [plan_planIdle, if_neg h]
  · rw [plan_planIdle, if_neg h]
  · exact (plan_planHeld p c true s).2 q h
  · rfl

/-- What a stop makes of a plan: one that fills or is ready goes IDLE, one in its window is HELD. -/
structure PlanStopped (c : Nat) (x y : Plan) : Prop where
  idle : x.st = .filling ∨ x.st = .ready → y.st = .idle ∧ y.cause = c
  held : x.st = .post → y.st = .held ∧ y.cause = c

theorem planStopped_planStop (p c : Nat) (s : State) : PlanStopped c (plan s p) (plan (planStop p c s) p) := by
  unfold planStop
  split
  case h_3 h =>
    refine ⟨fun e => ?_, fun _ => (plan_planHeld p c true s).1⟩
    rw [h] at e
    simp at e
  case h_4 h1 h2 h3 =>
    exact ⟨fun e => e.elim (fun e => absurd e h1) (fun e => absurd e h2), fun e => absurd e h3⟩
  all_goals
    rename_i h
    rw [plan_planIdle, if_pos rfl]
    exact ⟨fun _ => ⟨rfl, rfl⟩, fun e => nomatch h.symm.trans e⟩

/-- A plan that stands IDLE or HELD is not touched by a stop. -/
theorem plan_planStop_rest {p q : Nat} (c : Nat) (s : State) (h : (plan s q).st = .idle ∨ (plan s q).st = .held) :
    plan (planStop p c s) q = plan s q := by
  obtain rfl | hne := eq_or_ne q p
  · unfold planStop
    rcases h with h | h <;> rw [h]
  · exact plan_planStop_ne c s hne

theorem plan_forL_planStop_rest {q : Nat} (c : Nat) (l : List Nat) (s : State) (h : (plan s q).st = .idle ∨ (plan s q).st = .held) :
    plan (forL l (fun p a => planStop p c a) s) q = plan s q := by
  induction l generalizing s with
  | nil => rfl
  | cons p l ih =>
    have hp := plan_planStop_rest (p := p) c s h
    exact (ih (planStop p c s) (by rwa [hp])).trans hp

theorem planStopped_forL {q : Nat} (c : Nat) (l : List Nat) (s : State) (hq : q ∈ l) :
    PlanStopped c (plan s q) (plan (forL l (fun p a => planStop p c a) s) q) := by
  induction l generalizing s with
  | nil => exact absurd hq (by simp)
  | cons p l ih =>
    show PlanStopped c (plan s q) (plan (forL l (fun p a => planStop p c a) (planStop p c s)) q)
    obtain rfl | hne := eq_or_ne q p
    · have hs := planStopped_planStop q c s
      refine ⟨fun h => ?_, fun h => ?_⟩
      · rw [plan_forL_planStop_rest c l _ (.inl (hs.idle h).1)]
        exact hs.idle h
      · rw [plan_forL_planStop_rest c l _ (.inr (hs.held h).1)]
        exact hs.held h
    · rw [← plan_planStop_ne c s hne]
      exact ih _ ((List.mem_cons.1 hq).resolve_left hne)

theorem regs_planStop (p c : Nat) (s : State) : RegsBut (fun a => a = 0xA010 ∨ a = 0xD010 ∨ a = 0xD034) s (planStop p c s) := by
  have hm : ∀ x, RegsBut (fun a => a = 0xA010 ∨ a = 0xD010 ∨ a = 0xD034) x (memSync x) :=
    fun x => (synced_memSync x).regs.mono (fun _ h => .inl h)
  have hr : ∀ b x, RegsBut (fun a => a = 0xA010 ∨ a = 0xD010 ∨ a = 0xD034) x (raise .acq 0 b x) :=
    fun b x => .raise _ _ (.inr (.inl rfl))
  have hu : ∀ x, RegsBut (fun a => a = 0xA010 ∨ a = 0xD010 ∨ a = 0xD034) x (unfreeze p x) :=
    fun x => .ofRegs ((same_unfreeze p x).regs.resolve_left (by decide))
  have hi : RegsBut (fun a => a = 0xA010 ∨ a = 0xD010 ∨ a = 0xD034) s (planIdle p c s) := by
    unfold planIdle
    exact (hm _).trans (RegsBut.trans (.ofRegs (modPlan_regs ..)) (hu s))
  unfold planStop
  split
  · exact hi
  · exact hi
  · unfold planHeld
    extract_lets s1 s2 s3
    have h2 : RegsBut (fun a => a = 0xA010 ∨ a = 0xD010 ∨ a = 0xD034) s s2 := .trans (.ofRegs (modPlan_regs ..)) (hu s)
    exact (hm _).trans ((hr 1 s3).trans (.ite (((hr 3 _).trans (.bump 1 s2 (.inr (.inr rfl)))).trans h2) h2))
  · exact .refl ..

theorem regs_gSkip (u : Nat) (s : State) : RegsBut (fun a => a = 0xE010 ∨ a = 0xE024) s (gSkip u s) := by
  unfold gSkip
  exact .ite ((RegsBut.raise (k := .gln) (i := 0) 0 _ (.inl rfl)).trans ((RegsBut.bump 1 _ (.inr rfl)).trans (.ofRegs rfl))) (.refl ..)

/-! ### The entry (R24) -/

/-- The hub is in SAFE with its cause, counted and raised; the plans and the lease queue follow. -/
def safeEntered (cause : Nat) (s : State) : State :=
  raise .hub 0 0 (bump 0x0024 1 { s with hub := { s.hub with st := .safe, safeCause := cause, safeHeld := true, clean := 0 } })

/-- The lease queue at the entry: a holder's message that waits to leave is dropped. -/
def safeLease (s : State) : State := if s.twn.token then leaseQueue s else s

theorem safeEnter_eq (cause : Nat) (s : State) :
    safeEnter cause s = forN 16 gSkip (forN 8 (fun p a => planStop p 3 a) (safeLease (safeEntered cause s))) := rfl

theorem same_safeLease (s : State) : Same 2251868533161984 s (safeLease s) := Same.ite (same_leaseQueue s) (.refl ..)

theorem same_safeStops (s : State) : Same 589338232651792 s (forN 16 gSkip (forN 8 (fun p a => planStop p 3 a) s)) :=
  Same.forN (Same.forN (Same.refl _ _) (fun _ _ => (same_planStop ..).mono rfl)) (fun _ _ => (same_gSkip ..).mono rfl)

theorem regs_safeStops (s : State) : RegsBut (fun a => a ∉ [0x10, 0x24]) s (forN 16 gSkip (forN 8 (fun p a => planStop p 3 a) s)) := by
  refine (RegsBut.forN (fun u x => (regs_gSkip u x).mono ?_) _ _).trans (RegsBut.forN (fun p x => (regs_planStop p 3 x).mono ?_) _ _)
  · rintro a (rfl | rfl) <;> decide
  · rintro a (rfl | rfl | rfl) <;> decide

theorem plan_safeEntered (cause : Nat) (s : State) (j : Nat) : plan (safeLease (safeEntered cause s)) j = plan s j :=
  plan_congr (((same_safeLease _).plans.resolve_left (by decide)).trans ((raise_plans ..).trans (bump_plans ..))) j

theorem plan_safeEnter (cause : Nat) (s : State) {j : Nat} (hj : j < 8) : PlanStopped 3 (plan s j) (plan (safeEnter cause s) j) := by
  have hg : ∀ x, plan (forN 16 gSkip x) j = plan x j := fun x =>
    plan_congr ((Same.forN (m := 17592186077200) (Same.refl _ _) (fun _ _ => (same_gSkip ..).mono rfl)).plans.resolve_left (by decide)) j
  rw [safeEnter_eq, hg, ← plan_safeEntered cause s j]
  exact planStopped_forL 3 (List.range 8) _ (List.mem_range.2 hj)

/-- The entry into SAFE, field by field. -/
theorem safeEntry_enters {s : State} (h : safeDue s ≠ 0) : ∃ t, exec .safeEntry s = .next t ∧
      t = { s with regs := t.regs, hub := t.hub, evt := t.evt, taps := t.taps, lanes := t.lanes, plans := t.plans, gunits := t.gunits, mem := t.mem, twn := t.twn } ∧
      t.hub = { s.hub with st := .safe, safeCause := safeDue s, safeHeld := true, clean := 0 } ∧ t.mem.words = s.mem.words ∧
      (∀ j, j < 8 → ((plan s j).st = .filling ∨ (plan s j).st = .ready → (plan t j).st = .idle ∧ (plan t j).cause = 3) ∧
        ((plan s j).st = .post → (plan t j).st = .held ∧ (plan t j).cause = 3)) ∧
      (s.twn.token = false → t.lanes = s.lanes ∧ t.twn = s.twn) ∧
      rg t 0x24 = word (satAdd 32 (rg s 0x24).toNat 1) ∧ bit (rg t 0x10) 0 = true := by
  refine ⟨safeEnter (safeDue s) s, by rw [exec_safeEntry, if_neg h], ?_⟩
  generalize safeDue s = c
  have hsame := same_safeEnter c s
  have hstops := same_safeStops (safeLease (safeEntered c s))
  have hregs := regs_safeStops (safeLease (safeEntered c s))
  have hlease : ∀ a, rg (safeLease (safeEntered c s)) a = rg (safeEntered c s) a :=
    rg_congr ((same_safeLease _).regs.resolve_left (by decide))
  refine ⟨hsame.eq, ?_, hsame.words.resolve_left (by decide), fun j hj => ?_, fun htok => ?_, ?_, ?_⟩
  · rw [safeEnter_eq, hstops.hub.resolve_left (by decide), (same_safeLease _).hub.resolve_left (by decide), safeEntered, raise_hub, bump_hub]
  · exact ⟨(plan_safeEnter c s hj).idle, (plan_safeEnter c s hj).held⟩
  · have htok' : (safeEntered c s).twn.token = false := by rw [safeEntered, raise_twn, bump_twn]; exact htok
    have hid : safeLease (safeEntered c s) = safeEntered c s := if_neg (by simp [htok'])
    rw [safeEnter_eq, (same_safeStops _).lanes.resolve_left (by decide), (same_safeStops _).twn.resolve_left (by decide), hid, safeEntered,
      raise_lanes, bump_lanes, raise_twn, bump_twn]
    exact ⟨rfl, rfl⟩
  · rw [safeEnter_eq, hregs.get 0x24 (by decide), hlease, safeEntered, rg_raise_ne _ _ (by decide), rg_bump_self]
    rfl
  · rw [safeEnter_eq, hregs.get 0x10 (by decide), hlease]
    exact bit_raise .hub 0 _ (by decide)

/-! ### Every command in flight fails at a restart (R14, R391, R397) -/

/-- The state in which the commands of a restart have ended, the completions not yet freed with HW_FAULT. -/
def commandsFailed (s : State) : State :=
  let s := bump 0x502C (complFalls s) s
  let s := forL s.flight (fun f a => finish f stHwFault (endBytes f.op a) a) s
  { s with compl := s.compl.map (complFault s.frame (applyBytes s)) }

theorem forL_finish_from (st : Nat) (res : Flight → State → List Byte) (l : List Flight) (s : State) :
    ∀ c ∈ (forL l (fun f a => finish f st (res f a) a) s).compl, c ∈ s.compl ∨ c.status = st ∧ c.freed = false := by
  induction l generalizing s with
  | nil => exact fun c h => .inl h
  | cons f l ih =>
    intro c hc
    rcases ih (finish f st (res f s) s) c hc with h | h
    · rw [finish_compl, List.mem_append, List.mem_singleton] at h
      exact h.elim .inl (fun e => .inr ⟨by rw [e]; rfl, by rw [e]; rfl⟩)
    · exact .inr h

theorem complFault_kept (n : Nat) (r : List Byte) (c : Compl) : (complFault n r c).path = c.path ∧ (complFault n r c).tag = c.tag ∧
    (complFault n r c).gen = c.gen ∧ (complFault n r c).op = c.op := by
  unfold complFault
  split <;> exact ⟨rfl, rfl, rfl, rfl⟩

theorem complFault_status {n : Nat} {r : List Byte} {c : Compl} (h : c.status = stHwFault) : (complFault n r c).status = stHwFault := by
  unfold complFault
  split
  · exact h
  · rfl

/-- A completion is freed and stands, or is freed with HW_FAULT; a double of one is as it was. -/
theorem complFault_freed {n : Nat} {r : List Byte} {c : Compl} (h : (complFault n r c).dup = false) :
    (complFault n r c).freed = true ∧ (complFault n r c = c ∨ (complFault n r c).status = stHwFault) := by
  by_cases hc : (c.freed || c.dup) = true
  · have he : complFault n r c = c := if_pos hc
    rw [he] at h ⊢
    exact ⟨by simpa [h] using hc, .inl rfl⟩
  · have he : complFault n r c = { c with status := stHwFault, result := if c.op = 0x0102 then r else [], frame := n, freed := true } := if_neg hc
    rw [he]
    exact ⟨rfl, .inr rfl⟩

theorem commandsFailed_allFailed (s : State) : AllFailed s (commandsFailed s) := by
  unfold commandsFailed
  extract_lets s1 s2
  refine ⟨List.eq_nil_iff_forall_not_mem.2 fun x hx => ?_, fun f hf => ?_, fun c hc hd => ?_⟩
  · obtain ⟨h, hn⟩ := forL_finish_flight _ _ _ s1 x hx
    exact hn h
  · obtain ⟨c, hc, hpath, htag, hgen, hop, hst⟩ := (forL_finish_compl stHwFault (fun f a => endBytes f.op a) s1.flight s1).2 f hf
    obtain ⟨kpath, ktag, kgen, kop⟩ := complFault_kept s2.frame (applyBytes s2) c
    exact ⟨_, List.mem_map_of_mem hc, kpath.trans hpath, ktag.trans htag, kgen.trans hgen, kop.trans hop, complFault_status hst⟩
  · obtain ⟨c0, hc0, rfl⟩ := List.mem_map.1 hc
    obtain ⟨hfreed, he⟩ := complFault_freed hd
    refine ⟨hfreed, he.elim (fun e => ?_) .inr⟩
    rcases forL_finish_from _ _ _ s1 c0 hc0 with h | ⟨h, _⟩
    · rw [e]
      exact .inl h
    · exact .inr (complFault_status h)

theorem same_commandsFailed (s : State) : Same 216172782113783824 s (commandsFailed s) := by
  unfold commandsFailed
  extract_lets s1 s2
  have h : Same 216172782113783824 s s2 := Same.forL ((same_bump ..).mono rfl) (fun _ _ => (same_finish ..).mono rfl)
  exact Same.comp (upd_compl ..) h

theorem regs_commandsFailed (s : State) : RegsBut (fun a => a = 0x5024 ∨ a = 0x502C) s (commandsFailed s) := by
  unfold commandsFailed
  extract_lets s1 s2
  refine RegsBut.trans (t := s2) (.ofRegs rfl) ((RegsBut.forL (fun f x => ?_) _ _).trans (.bump _ _ (.inr rfl)))
  exact .finish _ _ _ _ (.inl rfl) (.inr rfl)

theorem AllFailed.congr {s x t : State} (h : AllFailed s x) (hf : t.flight = x.flight) (hc : t.compl = x.compl) : AllFailed s t :=
  ⟨hf.trans h.none, by rw [hc]; exact h.each, by rw [hc]; exact h.freed⟩

/-! ### The session and the attempt at a restart (R13, R92, R366) -/

theorem applyLost_of_empty {s : State} (h : s.flight = []) : applyLost s = s := by rw [applyLost, h]; rfl

/-- With no command in flight an abandoned session wakes none. -/
theorem sessionAbandon_of_empty {s : State} (h : s.flight = []) : sessionAbandon s = raise .cmt 0 3 (sessionDrop s) := by
  rw [sessionAbandon, applyLost_of_empty (s := sessionDrop s) h]

theorem restartSession_kept {s : State} (hh : s.hub.st ≠ .resync) (hc : s.cmt.st = .closed ∨ s.cmt.st = .armed) : restartSession s = s := by
  have ho : ¬(s.cmt.st = .open_ ∨ s.cmt.st = .checking) := by rcases hc with h | h <;> simp [h]
  simp only [restartSession, if_neg ho, if_neg hh]

theorem restartSession_abandoned {s : State} (hh : s.hub.st ≠ .resync) (hc : s.cmt.st = .open_ ∨ s.cmt.st = .checking) :
    restartSession s = sessionAbandon s := by
  have hh' : (sessionAbandon s).hub.st ≠ .resync := by rwa [(same_sessionAbandon s).hub.resolve_left (by decide)]
  simp only [restartSession, if_pos hc, if_neg hh']

/-- Between attempts of a resync a restart abandons the session alone. -/
theorem restartSession_idleAttempt {s : State} (hp : s.twn.ph = 0) (hc : s.cmt.st = .open_ ∨ s.cmt.st = .checking) :
    restartSession s = sessionAbandon s := by
  have hp' : (sessionAbandon s).twn.ph = 0 := by rw [(same_sessionAbandon s).twn.resolve_left (by decide), hp]
  have hr : resyncRestart (sessionAbandon s) = sessionAbandon s := if_neg (fun h => h.2 hp')
  simp only [restartSession, if_pos hc, hr, ite_self]

/-- An attempt of a resync begins again once its session is abandoned. -/
theorem restartSession_attempt {s : State} (hh : s.hub.st = .resync) (hp : s.twn.ph ≠ 0) (hc : s.cmt.st = .open_ ∨ s.cmt.st = .checking) :
    restartSession s = resyncStart (sessionAbandon s) := by
  have hsame := same_sessionAbandon s
  have hh' : (sessionAbandon s).hub.st = .resync := by rw [hsame.hub.resolve_left (by decide), hh]
  have hp' : (sessionAbandon s).twn.ph ≠ 0 := by rwa [hsame.twn.resolve_left (by decide)]
  obtain ⟨hclosed, howner, _⟩ := sessionAbandon_spec s
  have hd : resyncDrop (sessionAbandon s) = sessionAbandon s := if_neg (by rw [howner]; decide)
  simp only [restartSession, if_pos hc, hh', if_true]
  rw [resyncRestart, if_pos ⟨hh', hp'⟩, if_neg (by rw [hclosed]; decide), hd]

/-- An armed session stands; an attempt begins again. -/
theorem restartSession_armed {s : State} (hh : s.hub.st = .resync) (hc : s.cmt.st = .armed) :
    restartSession s = if s.twn.ph ≠ 0 then resyncStart s else s := by
  have ho : ¬(s.cmt.st = .open_ ∨ s.cmt.st = .checking) := by simp [hc]
  simp only [restartSession, if_neg ho]
  simp only [resyncRestart, hh, hc, if_true, true_and]

/-- An attempt to resync is in phase 1, one more than before; its session, where none stood, is open for the firmware. -/
structure AttemptStarted (s t : State) : Prop where
  ph : t.twn.ph = 1
  att : t.twn.att = s.twn.att + 1
  flight : t.flight = s.flight
  compl : t.compl = s.compl
  opened : s.cmt.st = .closed → t.cmt.st = .open_ ∧ t.cmt.owner = .firmware ∧ t.staged = []
  armed : s.cmt.st = .armed → t.cmt = s.cmt ∧ t.staged = s.staged

theorem sessionOpen_firmware_closed {s : State} (h : s.cmt.st = .closed) : (sessionOpen .firmware s).1 = stOk ∧
    (sessionOpen .firmware s).2.cmt.st = .open_ ∧ (sessionOpen .firmware s).2.cmt.owner = .firmware ∧ (sessionOpen .firmware s).2.staged = [] ∧
    (sessionOpen .firmware s).2.twn = s.twn := by
  rw [sessionOpen, if_neg (by simp), if_neg (by simp [h])]
  exact ⟨rfl, rfl, rfl, rfl, rfl⟩

theorem sessionOpen_firmware_busy {s : State} (h : s.cmt.st ≠ .closed) : sessionOpen .firmware s = (stBusy, s) := by
  rw [sessionOpen, if_neg (by simp), if_pos h]

theorem resyncOpen_closed {s : State} (h : s.cmt.st = .closed) : (resyncOpen s).cmt.st = .open_ ∧ (resyncOpen s).cmt.owner = .firmware ∧
    (resyncOpen s).staged = [] ∧ (resyncOpen s).twn = { s.twn with idle := 0 } := by
  obtain ⟨hok, hst, howner, hstaged, htwn⟩ := sessionOpen_firmware_closed h
  rw [resyncOpen]
  simp only [hok, if_true]
  exact ⟨hst, howner, hstaged, congrArg (fun x : Twn => { x with idle := 0 }) htwn⟩

theorem resyncOpen_busy {s : State} (h : s.cmt.st ≠ .closed) : resyncOpen s = s := by
  rw [resyncOpen]
  simp only [sessionOpen_firmware_busy h]
  exact if_neg (by decide)

/-- The hub as an attempt begins, before the firmware opens its session. -/
def phaseOne (s : State) : State :=
  modTwn (fun x => { x with ph := 1, att := x.att + 1, idle := 0, retry := none, bad := none, imgOk := false })
    { s with hst := { s.hst with img := none, loading := false } }

theorem resyncStart_eq (s : State) : resyncStart s = memSync (resyncOpen (phaseOne s)) := rfl

theorem resyncStart_started (s : State) (hc : s.cmt.st = .closed ∨ s.cmt.st = .armed) : AttemptStarted s (resyncStart s) := by
  have hsame := same_resyncStart s
  have hm := same_memSync (resyncOpen (phaseOne s))
  have hcmt : (resyncStart s).cmt = (resyncOpen (phaseOne s)).cmt := hm.cmt.resolve_left (by decide)
  have hstaged : (resyncStart s).staged = (resyncOpen (phaseOne s)).staged := hm.staged.resolve_left (by decide)
  have hbusy : s.cmt.st = .armed → resyncOpen (phaseOne s) = phaseOne s := fun h =>
    resyncOpen_busy (by rw [show (phaseOne s).cmt.st = .armed from h]; decide)
  have htwn : (resyncStart s).twn = (phaseOne s).twn := by
    rw [resyncStart_eq, hm.twn.resolve_left (by decide)]
    rcases hc with h | h
    · exact (resyncOpen_closed (s := phaseOne s) h).2.2.2
    · rw [hbusy h]
  refine ⟨by rw [htwn]; rfl, by rw [htwn]; rfl, hsame.flight.resolve_left (by decide), hsame.compl.resolve_left (by decide),
    fun h => ?_, fun h => ?_⟩
  · obtain ⟨hst, howner, hempty, _⟩ := resyncOpen_closed (s := phaseOne s) h
    rw [hcmt, hstaged]
    exact ⟨hst, howner, hempty⟩
  · rw [hcmt, hstaged, hbusy h]
    exact ⟨rfl, rfl⟩

/-! ### The restart (R13) -/

/-- The end of a restart: the processor forgets an image outside of a resync, and the restart is counted and raised. -/
def restartEnd (s : State) : State :=
  memSync (raise .cmd 0 0 (bump 0x5034 1 (modHst (fun h => { h with img := if s.hub.st = .resync then h.img else none }) s)))

theorem restart_eq (s : State) : restart s = restartEnd (restartSession (commandsFailed s)) := rfl

theorem same_restartEnd (s : State) : Same 18577348462936080 s (restartEnd s) :=
  ((same_memSync _).comp ((same_raise ..).comp ((same_bump ..).comp (same_modHst ..)))).mono rfl

theorem rg_restartEnd (s : State) : rg (restartEnd s) 0x5034 = word (satAdd 32 (rg s 0x5034).toNat 1) ∧ bit (rg (restartEnd s) 0x5010) 0 = true := by
  refine ⟨?_, ?_⟩
  · rw [restartEnd, (synced_memSync _).regs.get _ (by decide), rg_raise_ne _ _ (by decide), rg_bump_self]
    rfl
  · rw [restartEnd, (synced_memSync _).regs.get _ (by decide)]
    exact bit_raise .cmd 0 _ (by decide)

/-- A restart in which the session's part leaves flights, completions and the restart count alone. -/
theorem restart_allFailed {s x : State} (hx : restartSession (commandsFailed s) = x) (hf : x.flight = (commandsFailed s).flight)
    (hc : x.compl = (commandsFailed s).compl) : AllFailed s (restart s) := by
  have hend := same_restartEnd x
  rw [restart_eq, hx]
  exact (commandsFailed_allFailed s).congr ((hend.flight.resolve_left (by decide)).trans hf) ((hend.compl.resolve_left (by decide)).trans hc)

theorem commandsFailed_cmt (s : State) : (commandsFailed s).cmt = s.cmt := (same_commandsFailed s).cmt.resolve_left (by decide)
theorem commandsFailed_hub (s : State) : (commandsFailed s).hub = s.hub := (same_commandsFailed s).hub.resolve_left (by decide)
theorem commandsFailed_twn (s : State) : (commandsFailed s).twn = s.twn := (same_commandsFailed s).twn.resolve_left (by decide)

/-- Once the commands have ended, the abandoned session ends no command and raises its cause. -/
theorem abandon_commandsFailed (s : State) : (sessionAbandon (commandsFailed s)).flight = (commandsFailed s).flight ∧
    (sessionAbandon (commandsFailed s)).compl = (commandsFailed s).compl := by
  rw [sessionAbandon_of_empty (commandsFailed_allFailed s).none, raise_flight, raise_compl]
  exact ⟨rfl, rfl⟩

/-- The restart's count and cause, whatever the session's part, which does not reach them. -/
theorem rg_restart {s x : State} (hx : restartSession (commandsFailed s) = x) (hr : rg x 0x5034 = rg (commandsFailed s) 0x5034) :
    rg (restart s) 0x5034 = word (satAdd 32 (rg s 0x5034).toNat 1) ∧ bit (rg (restart s) 0x5010) 0 = true := by
  obtain ⟨hcount, hirq⟩ := rg_restartEnd x
  rw [restart_eq, hx]
  exact ⟨by rw [hcount, hr, (regs_commandsFailed s).get _ (by decide)], hirq⟩

theorem processorRestart_eq {s : State} (hr : running s = true) : exec .processorRestart s = .next (restart s) := by
  rw [exec_processorRestart, if_pos hr]

theorem restart_kept {s : State} (hh : s.hub.st ≠ .resync) (hc : s.cmt.st = .closed ∨ s.cmt.st = .armed) :
    restart s = { s with regs := (restart s).regs, evt := (restart s).evt, mem := (restart s).mem, hst := (restart s).hst, flight := (restart s).flight, compl := (restart s).compl } ∧
      (restart s).mem.words = s.mem.words ∧ AllFailed s (restart s) ∧
      rg (restart s) 0x5034 = word (satAdd 32 (rg s 0x5034).toNat 1) ∧ bit (rg (restart s) 0x5010) 0 = true := by
  have hx : restartSession (commandsFailed s) = commandsFailed s :=
    restartSession_kept (by rwa [commandsFailed_hub]) (by rwa [commandsFailed_cmt])
  have hsame : Same 234750130576719888 s (restart s) := by
    rw [restart_eq, hx]
    exact (same_restartEnd _).comp (same_commandsFailed s)
  exact ⟨hsame.eq, hsame.words.resolve_left (by decide), restart_allFailed hx rfl rfl, rg_restart hx rfl⟩

theorem restart_abandons {s : State} (hh : s.hub.st ≠ .resync) (hc : s.cmt.st = .open_ ∨ s.cmt.st = .checking) :
    (restart s).cmt.st = .closed ∧ (restart s).cmt.owner = .none ∧ (restart s).staged = [] ∧
      restart s = { s with regs := (restart s).regs, staged := (restart s).staged, cmt := (restart s).cmt, evt := (restart s).evt, mem := (restart s).mem, hst := (restart s).hst, flight := (restart s).flight, compl := (restart s).compl } ∧
      (restart s).mem.words = s.mem.words ∧ AllFailed s (restart s) ∧
      rg (restart s) 0x5034 = word (satAdd 32 (rg s 0x5034).toNat 1) ∧ bit (rg (restart s) 0x5010) 0 = true := by
  have hx : restartSession (commandsFailed s) = sessionAbandon (commandsFailed s) :=
    restartSession_abandoned (by rwa [commandsFailed_hub]) (by rwa [commandsFailed_cmt])
  have hsame : Same 234750130576736304 s (restart s) := by
    rw [restart_eq, hx]
    exact (same_restartEnd _).comp ((same_sessionAbandon _).comp (same_commandsFailed s))
  obtain ⟨hclosed, howner, hstaged, _, hregs⟩ := sessionAbandon_spec (commandsFailed s)
  obtain ⟨hflight, hcompl⟩ := abandon_commandsFailed s
  have hend := same_restartEnd (sessionAbandon (commandsFailed s))
  have hcmt : (restart s).cmt = (sessionAbandon (commandsFailed s)).cmt := by rw [restart_eq, hx, hend.cmt.resolve_left (by decide)]
  refine ⟨by rw [hcmt, hclosed], by rw [hcmt, howner], ?_, hsame.eq, hsame.words.resolve_left (by decide),
    restart_allFailed hx hflight hcompl, rg_restart hx (hregs.get _ (by decide))⟩
  rw [restart_eq, hx, hend.staged.resolve_left (by decide), hstaged]

theorem restart_idleAttempt {s : State} (hp : s.twn.ph = 0) (hc : s.cmt.st = .open_ ∨ s.cmt.st = .checking) :
    (restart s).cmt.st = .closed ∧ (restart s).staged = [] ∧ (restart s).twn = s.twn ∧ AllFailed s (restart s) := by
  have hx : restartSession (commandsFailed s) = sessionAbandon (commandsFailed s) :=
    restartSession_idleAttempt (by rwa [commandsFailed_twn]) (by rwa [commandsFailed_cmt])
  obtain ⟨hclosed, _, hstaged, _⟩ := sessionAbandon_spec (commandsFailed s)
  obtain ⟨hflight, hcompl⟩ := abandon_commandsFailed s
  have hend := same_restartEnd (sessionAbandon (commandsFailed s))
  refine ⟨?_, ?_, ?_, restart_allFailed hx hflight hcompl⟩ <;> rw [restart_eq, hx]
  · rw [hend.cmt.resolve_left (by decide), hclosed]
  · rw [hend.staged.resolve_left (by decide), hstaged]
  · rw [hend.twn.resolve_left (by decide), (same_sessionAbandon _).twn.resolve_left (by decide), commandsFailed_twn]

theorem restart_attempt {s : State} (hh : s.hub.st = .resync) (hp : s.twn.ph ≠ 0) (hc : s.cmt.st = .open_ ∨ s.cmt.st = .checking) :
    (restart s).cmt.st = .open_ ∧ (restart s).cmt.owner = .firmware ∧ (restart s).staged = [] ∧ (restart s).twn.ph = 1 ∧
      (restart s).twn.att = s.twn.att + 1 ∧ AllFailed s (restart s) := by
  have hx : restartSession (commandsFailed s) = resyncStart (sessionAbandon (commandsFailed s)) :=
    restartSession_attempt (by rwa [commandsFailed_hub]) (by rwa [commandsFailed_twn]) (by rwa [commandsFailed_cmt])
  obtain ⟨hclosed, _⟩ := sessionAbandon_spec (commandsFailed s)
  obtain ⟨hflight, hcompl⟩ := abandon_commandsFailed s
  have ha := resyncStart_started _ (.inl hclosed)
  obtain ⟨hst, howner, hstaged⟩ := ha.opened hclosed
  have hend := same_restartEnd (resyncStart (sessionAbandon (commandsFailed s)))
  have htwn : (restart s).twn = (resyncStart (sessionAbandon (commandsFailed s))).twn := by rw [restart_eq, hx, hend.twn.resolve_left (by decide)]
  refine ⟨?_, ?_, ?_, by rw [htwn, ha.ph], ?_, restart_allFailed hx (ha.flight.trans hflight) (ha.compl.trans hcompl)⟩
  · rw [restart_eq, hx, hend.cmt.resolve_left (by decide), hst]
  · rw [restart_eq, hx, hend.cmt.resolve_left (by decide), howner]
  · rw [restart_eq, hx, hend.staged.resolve_left (by decide), hstaged]
  · rw [htwn, ha.att, (same_sessionAbandon _).twn.resolve_left (by decide), commandsFailed_twn]

theorem restart_armed {s : State} (hh : s.hub.st = .resync) (hc : s.cmt.st = .armed) :
    (restart s).cmt = s.cmt ∧ (restart s).staged = s.staged ∧ AllFailed s (restart s) ∧
      (s.twn.ph ≠ 0 → (restart s).twn.ph = 1 ∧ (restart s).twn.att = s.twn.att + 1) := by
  have hc' : (commandsFailed s).cmt.st = .armed := by rwa [commandsFailed_cmt]
  have hx := restartSession_armed (s := commandsFailed s) (by rwa [commandsFailed_hub]) hc'
  have hstaged : (commandsFailed s).staged = s.staged := (same_commandsFailed s).staged.resolve_left (by decide)
  by_cases hp : s.twn.ph ≠ 0
  · rw [if_pos (by rwa [commandsFailed_twn])] at hx
    have ha := resyncStart_started _ (.inr hc')
    obtain ⟨hcmt, hst⟩ := ha.armed hc'
    have hend := same_restartEnd (resyncStart (commandsFailed s))
    refine ⟨?_, ?_, restart_allFailed hx ha.flight ha.compl, fun _ => ?_⟩
    · rw [restart_eq, hx, hend.cmt.resolve_left (by decide), hcmt, commandsFailed_cmt]
    · rw [restart_eq, hx, hend.staged.resolve_left (by decide), hst, hstaged]
    · rw [restart_eq, hx, hend.twn.resolve_left (by decide), ha.ph, ha.att, commandsFailed_twn]
      exact ⟨rfl, rfl⟩
  · rw [if_neg (by rwa [commandsFailed_twn])] at hx
    have hend := same_restartEnd (commandsFailed s)
    refine ⟨?_, ?_, restart_allFailed hx rfl rfl, fun h => absurd h hp⟩
    · rw [restart_eq, hx, hend.cmt.resolve_left (by decide), commandsFailed_cmt]
    · rw [restart_eq, hx, hend.staged.resolve_left (by decide), hstaged]

end Sys2Proof.Machine

/-! SUPPORT. The wake from SLEEP (R68, R71, R145): what the return of one channel does, and the return of all. -/

namespace Sys2Proof.Machine

open Sys2Proof

theorem exec_sleepTimeout (s : State) : exec .sleepTimeout s = execSleepTimeout s := rfl
theorem exec_wakeChannelRestore (s : State) : exec .wakeChannelRestore s = execWakeChannelRestore s := rfl

/-! ### Loops whose turns keep to themselves -/

/-- What every turn of a loop does, the loop does, where it is a preorder. -/
theorem forN_rel {R : State → State → Prop} (hrefl : ∀ s, R s s) (htrans : ∀ {s t u}, R t u → R s t → R s u)
    {f : Nat → State → State} {n : Nat} (h : ∀ i, i < n → ∀ x, R x (f i x)) (s : State) : R s (forN n f s) := by
  unfold forN
  have key : ∀ (l : List Nat), (∀ i ∈ l, i < n) → ∀ s, R s (l.foldl (fun a i => f i a) s) := by
    intro l
    induction l with
    | nil => exact fun _ s => hrefl s
    | cons i l ih =>
      intro hl s
      exact htrans (ih (fun j hj => hl j (List.mem_cons_of_mem _ hj)) _) (h i (hl i List.mem_cons_self) s)
  exact key _ (fun i hi => List.mem_range.1 hi) s

/-- A loop's own turn for g: what stands before it and after it comes from the other turns. -/
theorem forN_turn {R : State → State → Prop} (hrefl : ∀ s, R s s) (htrans : ∀ {s t u}, R t u → R s t → R s u)
    {f : Nat → State → State} {n g : Nat} (hg : g < n) (h : ∀ i, i ≠ g → ∀ x, R x (f i x)) (s : State) :
    ∃ x, R s x ∧ R (f g x) (forN n f s) := by
  have key : ∀ (l : List Nat), (∀ i ∈ l, i ≠ g) → ∀ s, R s (l.foldl (fun a i => f i a) s) := by
    intro l
    induction l with
    | nil => exact fun _ s => hrefl s
    | cons i l ih =>
      intro hl s
      exact htrans (ih (fun j hj => hl j (List.mem_cons_of_mem _ hj)) _) (h i (hl i List.mem_cons_self) s)
  obtain ⟨a, b, hab⟩ := List.append_of_mem (List.mem_range.2 hg)
  have hnd : (a ++ g :: b).Nodup := hab ▸ List.nodup_range
  obtain ⟨_, hgb, hdisj⟩ := List.nodup_append.1 hnd
  refine ⟨a.foldl (fun x i => f i x) s, key a (fun i hi e => hdisj i hi g List.mem_cons_self e) s, ?_⟩
  rw [forN, hab, List.foldl_append, List.foldl_cons]
  exact key b (fun i hi e => (List.nodup_cons.1 hgb).1 (e ▸ hi)) _

/-! ### The marks of a channel -/

/-- Channels change in their marks alone. -/
structure MarksOnly (s t : State) : Prop where
  get : ∀ g, ∃ m, chan t g = { chan s g with marks := m }

namespace MarksOnly

variable {s t u : State}

theorem refl (s : State) : MarksOnly s s := ⟨fun _ => ⟨_, rfl⟩⟩

theorem trans (h : MarksOnly t u) (k : MarksOnly s t) : MarksOnly s u := by
  refine ⟨fun g => ?_⟩
  obtain ⟨m, hm⟩ := h.get g
  obtain ⟨n, hn⟩ := k.get g
  exact ⟨m, by rw [hm, hn]⟩

theorem modChan (g : Nat) (f : Chan → Chan) (s : State) (h : ∀ x, ∃ m, f x = { x with marks := m }) : MarksOnly s (modChan g f s) := by
  refine ⟨fun k => ?_⟩
  obtain rfl | hne := eq_or_ne k g
  · rw [chan_modChan_self]; exact h _
  · rw [chan_modChan_ne _ _ _ _ hne]; exact ⟨_, rfl⟩

theorem ite {c : Prop} [Decidable c] (ht : MarksOnly s t) (hu : MarksOnly s u) : MarksOnly s (if c then t else u) := by
  split <;> assumption

end MarksOnly

theorem marksOnly_mark (g : Nat) (k : MarkK) (t0 : Nat) (t1 : Option Nat) (s : State) : MarksOnly s (mark g k t0 t1 s) :=
  .modChan _ _ _ (fun _ => ⟨_, rfl⟩)

theorem marksOnly_endMarks (g : Nat) (k : MarkK) (t : Nat) (s : State) : MarksOnly s (endMarks g k t s) :=
  .modChan _ _ _ (fun _ => ⟨_, rfl⟩)

theorem marksOnly_excJoin (g : Nat) (wl wn : Word) (t : Nat) (s : State) : MarksOnly s (excJoin g wl wn t s) := by
  unfold excJoin
  refine forN_rel MarksOnly.refl MarksOnly.trans (fun k _ a => .ite (.refl a) ?_) s
  refine forN_rel MarksOnly.refl MarksOnly.trans (fun c _ b => ?_) a
  exact .ite (marksOnly_endMarks ..) (.ite (marksOnly_mark ..) (.refl b))

theorem marksOnly_marksOpen (g t : Nat) (s : State) : MarksOnly s (marksOpen g t s) := by
  unfold marksOpen
  extract_lets s1 s2
  have h1 : MarksOnly s s1 := .ite (marksOnly_mark ..) (.refl s)
  have h2 : MarksOnly s s2 := by
    unfold s2
    split
    · exact .ite ((marksOnly_mark ..).trans h1) h1
    · exact h1
  exact (marksOnly_excJoin ..).trans h2

theorem marksOnly_exceEnd (o c t : Nat) (s : State) : MarksOnly s (exceEnd o c t s) := by
  unfold exceEnd
  generalize excDeps s o = l
  induction l generalizing s with
  | nil => exact .refl s
  | cons g l ih => exact (ih _).trans (marksOnly_endMarks ..)

theorem marksOnly_exceMark (o c t0 : Nat) (t1 : Option Nat) (s : State) : MarksOnly s (exceMark o c t0 t1 s) := by
  unfold exceMark
  generalize excDeps s o = l
  induction l generalizing s with
  | nil => exact .refl s
  | cons g l ih => exact (ih _).trans (marksOnly_mark ..)

/-! ### The return of a channel (R71, R145) -/

/-- Every channel but one stands. -/
structure ChanOnly (g : Nat) (s t : State) : Prop where
  get : ∀ h, h ≠ g → chan t h = chan s h

namespace ChanOnly

variable {g : Nat} {s t u : State}

theorem refl (g : Nat) (s : State) : ChanOnly g s s := ⟨fun _ _ => rfl⟩

theorem trans (h : ChanOnly g t u) (k : ChanOnly g s t) : ChanOnly g s u := ⟨fun x hx => (h.get x hx).trans (k.get x hx)⟩

theorem ofChans (h : t.chans = s.chans) : ChanOnly g s t := ⟨fun x _ => chan_congr h x⟩

theorem modChan (f : Chan → Chan) (s : State) : ChanOnly g s (modChan g f s) := ⟨fun x hx => chan_modChan_ne _ _ _ _ hx⟩

theorem ite {c : Prop} [Decidable c] (ht : ChanOnly g s t) (hu : ChanOnly g s u) : ChanOnly g s (if c then t else u) := by
  split <;> assumption

end ChanOnly

theorem chanOnly_excJoin (g : Nat) (wl wn : Word) (t : Nat) (s : State) : ChanOnly g s (excJoin g wl wn t s) := by
  unfold excJoin
  refine forN_rel (ChanOnly.refl g) ChanOnly.trans (fun k _ a => .ite (.refl g a) ?_) s
  refine forN_rel (ChanOnly.refl g) ChanOnly.trans (fun c _ b => ?_) a
  exact .ite (.modChan ..) (.ite (.modChan ..) (.refl g b))

theorem chanOnly_marksOpen (g t : Nat) (s : State) : ChanOnly g s (marksOpen g t s) := by
  unfold marksOpen
  extract_lets s1 s2
  have h1 : ChanOnly g s s1 := .ite (.modChan ..) (.refl g s)
  have h2 : ChanOnly g s s2 := by
    unfold s2
    split
    · exact .ite ((ChanOnly.modChan _ s1).trans h1) h1
    · exact h1
  exact (chanOnly_excJoin ..).trans h2

theorem chanOnly_loadsSync (g t : Nat) (s : State) : ChanOnly g s (loadsSync g t s) := by
  unfold loadsSync
  exact .ite (.refl g s) (.modChan ..)

theorem chanOnly_shiftFrom (g c t : Nat) (s : State) : ChanOnly g s (shiftFrom g c t s) := by
  unfold shiftFrom
  exact .ite (.refl g s) (.modChan ..)

theorem chanOnly_settle (g t : Nat) (keep : Bool) (s : State) : ChanOnly g s (settle g t keep s) := by
  have hg : ChanOnly g s (settleGain g t s) := by
    unfold settleGain switchRange
    refine .ite (.ite ?_ ((ChanOnly.modChan ..).trans ((ChanOnly.modChan ..).trans ?_))) ?_
    all_goals exact (chanOnly_shiftFrom ..).trans (.modChan ..)
  unfold settle
  exact .trans (.ofChans (modTap_chans ..)) ((ChanOnly.modChan ..).trans hg)

theorem chanOnly_modGo (g f : Nat) (s : State) : ChanOnly g s (modGo g f s) := by
  unfold modGo
  extract_lets t s1 s2 s3
  have h2 : ChanOnly g s s2 := (chanOnly_settle ..).trans ((ChanOnly.modChan ..).trans (.ofChans (setStart_chans ..)))
  exact .trans (.ofChans (raise_chans ..)) (ChanOnly.trans (t := s2) (.ofChans rfl) h2)

theorem chanOnly_chHeld (g c : Nat) (s : State) : ChanOnly g s (chHeld g c s) := by
  unfold chHeld
  refine (chanOnly_loadsSync ..).trans ((ChanOnly.modChan ..).trans (.ite (.refl g s) ?_))
  exact .ofChans ((same_chEvent ..).chans.resolve_left (by decide))

/-- The channel as its return begins: one that was OFF has the marks that are open now. -/
def chMarked (g : Nat) (s : State) : State := if (chan s g).st = .off then marksOpen g (256 * s.c) s else s

theorem same_chMarked (g : Nat) (s : State) : Same 65536 s (chMarked g s) := Same.ite (same_marksOpen ..) (.refl ..)

theorem marksOnly_chMarked (g : Nat) (s : State) : MarksOnly s (chMarked g s) := .ite (marksOnly_marksOpen ..) (.refl s)

theorem chReturn_eq (g : Nat) (s : State) : chReturn g s = if (chan s g).inUse then
    if (chan (chMarked g s) g).stuck then chHeld g 3 (chMarked g s)
    else if (die (chMarked g s) (g / 128)).lost then chHeld g 2 (chMarked g s)
    else if chCarried (chMarked g s) g then
      loadsSync g (256 * (chMarked g s).c) (modGo g (chMarked g s).ord (modChan g (fun x => { x with inUse := false }) (chMarked g s)))
    else chHeld g 1 (chMarked g s)
  else s := rfl

theorem chCarried_congr {s t : State} (h : t.dies = s.dies) (g : Nat) : chCarried t g = chCarried s g := by
  simp only [chCarried, die_congr h]

/-- The conditions of a return are those of the state in which it begins. -/
theorem chReturn_of_inUse {g : Nat} {s : State} (hu : (chan s g).inUse = true) : chReturn g s =
    if (chan s g).stuck then chHeld g 3 (chMarked g s)
    else if (die s (g / 128)).lost then chHeld g 2 (chMarked g s)
    else if chCarried s g then
      loadsSync g (256 * s.c) (modGo g s.ord (modChan g (fun x => { x with inUse := false }) (chMarked g s)))
    else chHeld g 1 (chMarked g s) := by
  have hsame := same_chMarked g s
  have hdies := hsame.dies.resolve_left (by decide)
  obtain ⟨m, hm⟩ := (marksOnly_chMarked g s).get g
  rw [chReturn_eq, if_pos hu, hm, die_congr hdies, chCarried_congr hdies, hsame.c.resolve_left (by decide), hsame.ord.resolve_left (by decide)]

theorem chReturn_of_unused {g : Nat} {s : State} (hu : (chan s g).inUse = false) : chReturn g s = s := by
  rw [chReturn_eq, if_neg (by simp [hu])]

theorem chanOnly_chReturn (g : Nat) (s : State) : ChanOnly g s (chReturn g s) := by
  have hm : ChanOnly g s (chMarked g s) := .ite (chanOnly_marksOpen ..) (.refl g s)
  have hh : ∀ c, ChanOnly g s (chHeld g c (chMarked g s)) := fun c => (chanOnly_chHeld ..).trans hm
  rw [chReturn_eq]
  refine .ite (.ite (hh 3) (.ite (hh 2) (.ite ?_ (hh 1)))) (.refl g s)
  exact (chanOnly_loadsSync ..).trans ((chanOnly_modGo ..).trans ((ChanOnly.modChan ..).trans hm))

theorem regs_modGo (g f : Nat) (s : State) : RegsBut FaultReg s (modGo g f s) := by
  unfold modGo
  extract_lets t s1 s2 s3
  have h2 : s2.regs = s.regs := (same_settle g t false s1).regs.resolve_left (by decide)
  exact (RegsBut.raise _ _ (faultReg_pgIrq _)).trans (.ofRegs h2)

theorem regs_chHeld (g c : Nat) (s : State) : RegsBut FaultReg s (chHeld g c s) := by
  unfold chHeld
  exact .trans (.ofRegs ((same_loadsSync ..).regs.resolve_left (by decide))) (.trans (.ofRegs (modChan_regs ..)) (.ite (.refl ..) (regs_chEvent ..)))

theorem regs_chReturn (g : Nat) (s : State) : RegsBut FaultReg s (chReturn g s) := by
  have hm : RegsBut FaultReg s (chMarked g s) := .ofRegs ((same_chMarked g s).regs.resolve_left (by decide))
  have hh : ∀ c, RegsBut FaultReg s (chHeld g c (chMarked g s)) := fun c => (regs_chHeld ..).trans hm
  rw [chReturn_eq]
  refine .ite (.ite (hh 3) (.ite (hh 2) (.ite ?_ (hh 1)))) (.refl ..)
  exact .trans (.ofRegs ((same_loadsSync ..).regs.resolve_left (by decide))) ((regs_modGo ..).trans (.trans (.ofRegs (modChan_regs ..)) hm))

/-! ### The start of a modulator (R144) -/

/-- The start edge of a frame is a matter of the timebase alone. -/
theorem startEdge_congr {s t : State} (htmb : t.tmb = s.tmb) (hframe : t.frame = s.frame) (hord : t.ord = s.ord)
    (hreg : rg t 0x3050 = rg s 0x3050) (f : Nat) : startEdge t f = startEdge s f := by
  have haf : af t 0x3050 0 3 = af s 0x3050 0 3 := by simp only [af, hreg]
  simp only [startEdge, localAt, tickTime, frameHz, htmb, hframe, hord, haf]

/-- State and start of a channel's modulator stand. -/
structure GoKept (s t : State) : Prop where
  st : ∀ g, (chan t g).st = (chan s g).st
  mod0 : ∀ g, (chan t g).mod0 = (chan s g).mod0

namespace GoKept

variable {s t u : State}

theorem refl (s : State) : GoKept s s := ⟨fun _ => rfl, fun _ => rfl⟩

theorem trans (h : GoKept t u) (k : GoKept s t) : GoKept s u := ⟨fun g => (h.st g).trans (k.st g), fun g => (h.mod0 g).trans (k.mod0 g)⟩

theorem ofChans (h : t.chans = s.chans) : GoKept s t := ⟨fun g => by rw [chan_congr h], fun g => by rw [chan_congr h]⟩

theorem ofMarks (h : MarksOnly s t) : GoKept s t := by
  refine ⟨fun g => ?_, fun g => ?_⟩ <;>
  · obtain ⟨m, hm⟩ := h.get g
    rw [hm]

theorem modChan (g : Nat) (f : Chan → Chan) (s : State) (h : ∀ x, (f x).st = x.st ∧ (f x).mod0 = x.mod0) : GoKept s (modChan g f s) := by
  refine ⟨fun k => ?_, fun k => ?_⟩ <;> rw [chan_modChan] <;> split
  · rename_i e; rw [e]; exact (h _).1
  · rfl
  · rename_i e; rw [e]; exact (h _).2
  · rfl

theorem ite {c : Prop} [Decidable c] (ht : GoKept s t) (hu : GoKept s u) : GoKept s (if c then t else u) := by
  split <;> assumption

end GoKept

theorem goKept_loadsSync (g t : Nat) (s : State) : GoKept s (loadsSync g t s) := by
  unfold loadsSync
  exact .ite (.refl s) (.modChan _ _ _ (fun _ => ⟨rfl, rfl⟩))

theorem goKept_shiftFrom (g c t : Nat) (s : State) : GoKept s (shiftFrom g c t s) := by
  unfold shiftFrom
  exact .ite (.refl s) (.modChan _ _ _ (fun _ => ⟨rfl, rfl⟩))

theorem goKept_switchRange (g c t : Nat) (s : State) : GoKept s (switchRange g c t s) := by
  unfold switchRange
  extract_lets s1
  have h1 : GoKept s s1 := (goKept_shiftFrom ..).trans (.modChan _ _ _ (by exact fun _ => ⟨rfl, rfl⟩))
  exact .ite h1 (.trans (.ofMarks (marksOnly_mark ..)) (.trans (.modChan _ _ _ (by exact fun _ => ⟨rfl, rfl⟩)) h1))

theorem goKept_settleGain (g t : Nat) (s : State) : GoKept s (settleGain g t s) := by
  unfold settleGain
  exact .ite (goKept_switchRange ..) ((goKept_shiftFrom ..).trans (.modChan _ _ _ (by exact fun _ => ⟨rfl, rfl⟩)))

/-- A channel whose modulator starts is in SETTLING, from the start edge of the frame (R144). -/
theorem modGo_starts (g f : Nat) (s : State) : (chan (modGo g f s) g).st = .settling ∧ (chan (modGo g f s) g).mod0 = startEdge s f := by
  unfold modGo
  extract_lets t s1 s2 s3
  have h3 : ∀ x, chan (raise .shf (g / 32) 19 s3) x = chan s2 x := fun x => chan_raise ..
  have h1 : (chan s1 g).mod0 = t := by unfold s1; rw [chan_modChan_self]
  rw [h3]
  unfold s2 settle
  rw [chan_modTap, chan_modChan_self]
  exact ⟨rfl, ((goKept_settleGain ..).mod0 g).trans h1⟩

/-! ### What the return of a channel leaves of it -/

theorem chHeld_fault (g c : Nat) (s : State) : (chan (chHeld g c s) g).st = .fault := by
  unfold chHeld
  rw [(goKept_loadsSync ..).st, chan_modChan_self]

/-- A channel in use whose die and lane are there starts (R71). -/
theorem chReturn_starts {g : Nat} {s : State} (hu : (chan s g).inUse = true) (hs : (chan s g).stuck = false)
    (hl : (die s (g / 128)).lost = false) (hc : chCarried s g = true) :
    (chan (chReturn g s) g).st = .settling ∧ (chan (chReturn g s) g).mod0 = startEdge s s.ord := by
  rw [chReturn_of_inUse hu, if_neg (by simp [hs]), if_neg (by simp [hl]), if_pos hc, (goKept_loadsSync ..).st, (goKept_loadsSync ..).mod0]
  obtain ⟨hst, hmod⟩ := modGo_starts g s.ord (modChan g (fun x => { x with inUse := false }) (chMarked g s))
  have hm := (same_modChan g (fun x => { x with inUse := false }) (chMarked g s)).comp (same_chMarked g s)
  exact ⟨hst, hmod.trans (startEdge_congr (hm.tmb.resolve_left (by decide)) (hm.frame.resolve_left (by decide))
    (hm.ord.resolve_left (by decide)) (rg_congr (hm.regs.resolve_left (by decide)) _) _)⟩

/-- A channel in use whose link lane is lost is in FAULT (R145). -/
theorem chReturn_faults {g : Nat} {s : State} (hu : (chan s g).inUse = true) (hc : chCarried s g = false) :
    (chan (chReturn g s) g).st = .fault := by
  rw [chReturn_of_inUse hu, if_neg (c := chCarried s g = true) (by simp [hc])]
  split
  · exact chHeld_fault ..
  · split <;> exact chHeld_fault ..

/-! ### The return of every channel -/

/-- What the return of other channels leaves of what one channel's return depends on. -/
structure ReturnEnv (g : Nat) (s t : State) : Prop where
  chan : Machine.chan t g = Machine.chan s g
  dies : t.dies = s.dies
  tmb : t.tmb = s.tmb
  frame : t.frame = s.frame
  ord : t.ord = s.ord
  reg : rg t 0x3050 = rg s 0x3050

theorem ReturnEnv.refl (g : Nat) (s : State) : ReturnEnv g s s := ⟨rfl, rfl, rfl, rfl, rfl, rfl⟩

theorem ReturnEnv.trans {g : Nat} {s t u : State} (h : ReturnEnv g t u) (k : ReturnEnv g s t) : ReturnEnv g s u :=
  ⟨h.chan.trans k.chan, h.dies.trans k.dies, h.tmb.trans k.tmb, h.frame.trans k.frame, h.ord.trans k.ord, h.reg.trans k.reg⟩

theorem returnEnv_chReturn {g h : Nat} (hne : h ≠ g) (s : State) : ReturnEnv g s (chReturn h s) := by
  have hsame := same_chReturn h s
  exact ⟨(chanOnly_chReturn h s).get g hne.symm, hsame.dies.resolve_left (by decide), hsame.tmb.resolve_left (by decide),
    hsame.frame.resolve_left (by decide), hsame.ord.resolve_left (by decide), (regs_chReturn h s).get _ (by simp [FaultReg])⟩

/-- Of all the returns, a channel sees its own. -/
theorem chan_chReturns {g : Nat} (hg : g < 512) (s : State) :
    ∃ x, ReturnEnv g s x ∧ chan (forN 512 chReturn s) g = chan (chReturn g x) g := by
  obtain ⟨x, hx, hl⟩ := forN_turn (ReturnEnv.refl g) ReturnEnv.trans hg (fun h hne y => returnEnv_chReturn hne y) s
  exact ⟨x, hx, hl.chan⟩

theorem chReturns_start {g : Nat} {s : State} (hg : g < 512) (hu : (chan s g).inUse = true) (hs : (chan s g).stuck = false)
    (hl : (die s (g / 128)).lost = false) (hc : chCarried s g = true) :
    (chan (forN 512 chReturn s) g).st = .settling ∧ (chan (forN 512 chReturn s) g).mod0 = startEdge s s.ord := by
  obtain ⟨x, hx, he⟩ := chan_chReturns hg s
  have h := chReturn_starts (g := g) (s := x) ((congrArg (·.inUse) hx.chan).trans hu) ((congrArg (·.stuck) hx.chan).trans hs)
    ((congrArg (·.lost) (die_congr hx.dies _)).trans hl) ((chCarried_congr hx.dies g).trans hc)
  rw [he, ← startEdge_congr hx.tmb hx.frame hx.ord hx.reg, ← hx.ord]
  exact h

theorem chReturns_fault {g : Nat} {s : State} (hg : g < 512) (hu : (chan s g).inUse = true) (hc : chCarried s g = false) :
    (chan (forN 512 chReturn s) g).st = .fault := by
  obtain ⟨x, hx, he⟩ := chan_chReturns hg s
  rw [he]
  exact chReturn_faults ((congrArg (·.inUse) hx.chan).trans hu) ((chCarried_congr hx.dies g).trans hc)

/-- A channel that is not in use stands, through every return. -/
theorem chReturns_unused {g : Nat} {s : State} (hu : (chan s g).inUse = false) : chan (forN 512 chReturn s) g = chan s g := by
  refine forN_rel (R := fun x y => (chan x g).inUse = false → chan y g = chan x g) (fun _ _ => rfl)
    (fun hk h e => (hk (by rwa [h e])).trans (h e)) (fun i _ x hx => ?_) s hu
  obtain rfl | hne := eq_or_ne g i
  · rw [chReturn_of_unused hx]
  · exact (chanOnly_chReturn i x).get g hne

/-! ### The drivers that start with a wake leave state and start of every channel -/

theorem goKept_rampEnd (o t : Nat) (s : State) : GoKept s (rampEnd o t s) := by
  unfold rampEnd
  exact .ite (.trans (.ofMarks (marksOnly_exceEnd ..)) (.ofChans (modExc_chans ..))) (.refl s)

theorem goKept_detectorOff (g : Nat) (d : LeadDet) (s : State) : GoKept s (detectorOff g d s) := by
  unfold detectorOff clearingTest
  refine .ite (.trans (.ite (.trans (.ofChans ((same_urgentTest ..).chans.resolve_left (by decide))) ?_) (.refl _)) ?_) (.refl s) <;>
  exact .modChan _ _ _ (by exact fun _ => ⟨rfl, rfl⟩)

theorem goKept_collapseOff (o : Nat) (s : State) : GoKept s (collapseOff o s) := by
  unfold collapseOff forL
  refine .ite ?_ (.refl s)
  generalize excDeps s o = l
  have key : ∀ x, GoKept x (l.foldl (fun a g => detectorOff g (.collapse (o % 4)) a) x) := by
    induction l with
    | nil => exact .refl
    | cons g l ih => exact fun x => (ih _).trans (goKept_detectorOff ..)
  exact (key _).trans (.ofChans (modExc_chans ..))

theorem goKept_excQuiet (o : Nat) (m : ExcMode) (t : Nat) (s : State) : GoKept s (excQuiet o m t s) := by
  unfold excQuiet
  extract_lets s1 s2 s3
  have h1 : GoKept s s1 := .ite (.trans (.ofMarks (marksOnly_exceEnd ..)) (.ofChans (modExc_chans ..))) (.refl s)
  have h2 : GoKept s s2 := .ite (.trans (.ofMarks (marksOnly_exceEnd ..)) h1) h1
  have h3 : GoKept s s3 := .ite (.trans (.ofMarks (marksOnly_exceEnd ..)) h2) h2
  exact .ite (.trans (.ofChans (modExc_chans ..)) h3) h1

theorem goKept_setMisSync (o : Nat) (s : State) : GoKept s (setMisSync o s) := .ofChans ((same_setMisSync ..).chans.resolve_left (by decide))

theorem goKept_excMode (o : Nat) (m : ExcMode) (t : Nat) (s : State) : GoKept s (excMode o m t s) := by
  unfold excMode
  extract_lets s1 s2 s3
  have h1 : GoKept s s1 := (goKept_collapseOff ..).trans ((goKept_excQuiet ..).trans (goKept_rampEnd ..))
  have he : ∀ x b a, GoKept x (excEvent o b (bump a 1 x)) := fun x b a =>
    .trans (.ofChans ((same_excEvent ..).chans.resolve_left (by decide))) (.ofChans (bump_chans ..))
  have h3 : GoKept s s3 := (goKept_setMisSync ..).trans ((he _ _ _).trans (GoKept.trans (.ofChans (modExc_chans ..)) h1))
  exact .ite (.trans (.ofMarks (marksOnly_exceMark ..)) ((he _ _ _).trans h3)) h3

theorem goKept_excRamp (o t : Nat) (slow : Bool) (s : State) : GoKept s (excRamp o t slow s) := by
  unfold excRamp
  refine .ite (.trans (.ofMarks (marksOnly_exceMark ..)) (.trans (.ofChans (modExc_chans ..)) ((goKept_collapseOff ..).trans (goKept_rampEnd ..)))) ?_
  exact .trans (.ofMarks (marksOnly_exceMark ..)) (goKept_rampEnd ..)

theorem goKept_excHold (o t : Nat) (s : State) : GoKept s (excHold o t s) := by
  unfold excHold
  exact .ite ((goKept_excMode ..).trans (.ofChans (modExc_chans ..))) ((goKept_excMode ..).trans (.ofChans (modExc_chans ..)))

theorem goKept_excSet (o : Nat) (old new : Word) (s : State) : GoKept s (excSet o old new s) := by
  unfold excSet
  extract_lets t e want set
  have hm : ∀ (f : Exc → Exc) slow m, GoKept s (excRamp o t slow (excMode o m t (modExc o f s))) := fun f slow m =>
    (goKept_excRamp ..).trans ((goKept_excMode ..).trans (.ofChans (modExc_chans ..)))
  have hr : ∀ (f : Exc → Exc) slow, GoKept s (excRamp o t slow (modExc o f s)) := fun f slow => (goKept_excRamp ..).trans (.ofChans (modExc_chans ..))
  refine .ite (.ite (.refl s) (hm _ _ _)) (.ite (.ite (hm _ _ _) (.refl s)) (.ite (hm _ _ _) (.ite (hr _ _) (.refl s))))

theorem goKept_excStartAll (s : State) : GoKept s (excStartAll s) := by
  refine forN_rel GoKept.refl GoKept.trans (fun o _ x => ?_) s
  unfold excStart excApply shareHold
  exact .ite ((goKept_setMisSync ..).trans (.trans (.ite (goKept_excHold ..) (.refl _)) (goKept_excSet ..))) (.refl x)

/-! ### Commands that wait for an event, seen from an earlier state -/

theorem Woken.ofEq {w : Wait} {st : Nat} {res : List Byte} {s x t : State} (h : Woken w st res x t) (hf : x.flight = s.flight)
    (hc : x.compl = s.compl) (hfr : x.frame = s.frame) : Woken w st res s t :=
  ⟨by rw [← hf, ← hfr]; exact h.ended, by rw [← hf]; exact h.left, by rw [← hc]; exact h.kept⟩

/-- Commands that end with OK are counted as ended alone. -/
theorem regs_wakeup_ok (w : Wait) (res : List Byte) (s : State) : RegsBut (fun a => a = 0x5024) s (wakeup w stOk res s) := by
  refine RegsBut.foldl (fun x f => ?_) _ s
  have h : RegsBut (fun a => a = 0x5024) x (bump 0x5024 1 (if stOk = stOk then x else bump 0x502C 1 x)) := by
    rw [if_pos rfl]
    exact .bump _ _ rfl
  exact ⟨h.get⟩

/-! ### An entry that takes too long (R69) -/

theorem sleepTimeout_eq {k p q : Nat} {s : State} (hsl : s.pwr.sleep = .draining k p q) (hr : running s = true) (hk : k ≠ 0)
    (ho : k + 1000 ≤ s.ord) (hd : drained s = false) :
    exec .sleepTimeout s = .next (wakeup .sleep stTimeout [] (modPwr (fun x => { x with sleep := .waking true, before := s.hub.st }) s)) := by
  have hw : wakeStart true s = modPwr (fun x => { x with sleep := .waking true, before := s.hub.st }) s := by
    simp only [wakeStart, if_true, hsl]
  rw [exec_sleepTimeout, execSleepTimeout, hsl]
  simp only [hr, hk, ho, hd, ne_eq, not_false_eq_true, and_self, if_true, hw]

theorem sleepTimeout_leaves {k p q : Nat} {s : State} (hsl : s.pwr.sleep = .draining k p q) (hr : running s = true) (hk : k ≠ 0)
    (ho : k + 1000 ≤ s.ord) (hd : drained s = false) :
    ∃ t, exec .sleepTimeout s = .next t ∧ t = { s with regs := t.regs, pwr := t.pwr, flight := t.flight, compl := t.compl } ∧
      t.pwr = { s.pwr with sleep := .waking true, before := s.hub.st } ∧ Woken .sleep stTimeout [] s t ∧
      SameRegs [0x5024, 0x502C] s t := by
  refine ⟨_, sleepTimeout_eq hsl hr hk ho hd, ((same_wakeup ..).comp (same_modPwr ..)).eq, ?_, (wakeup_woken ..).ofEq rfl rfl rfl, ?_⟩
  · rw [(same_wakeup ..).pwr.resolve_left (by decide)]
    rfl
  · have h : RegsBut (fun a => a ∈ [0x5024, 0x502C]) s (wakeup .sleep stTimeout [] (modPwr (fun x => { x with sleep := .waking true, before := s.hub.st }) s)) :=
      (RegsBut.wakeup _ _ _ _ (by decide) (by decide)).trans (.ofRegs rfl)
    exact h.get

/-! ### The end of a wake (R71) -/

/-- The hub is awake, in its state of before SLEEP, or STANDBY as one of a twin pair. -/
def wokenUp (s : State) : State :=
  { s with pwr := { s.pwr with sleep := .awake }, hub := { s.hub with
      st := if s.hub.st = .sleep then (if s.hub.straps.twinEn then .standby else s.pwr.before) else s.hub.st } }

/-- The channels and drivers that return with RESTORE. -/
def wakeReturns (r : Bool) (s : State) : State := if r then excStartAll (forN 512 chReturn s) else s

theorem wakeChannelRestore_eq {r : Bool} {s : State} (hsl : s.pwr.sleep = .waking r) (hr : running s = true) (hl : linksBack s = true)
    (hrun : s.dsp.run = none) (hheld : s.dsp.held = []) (hb : buffersReady s (wakeChans s) = true) :
    exec .wakeChannelRestore s = .next (wakeup .wake stOk [] (wakeReturns r (wokenUp s))) := by
  rw [exec_wakeChannelRestore, execWakeChannelRestore, hsl]
  dsimp only
  rw [if_pos ⟨hr, hl, by rw [hrun]; rfl, hheld, hb⟩]
  rfl

theorem wakeNoRestore_leaves {s : State} (hsl : s.pwr.sleep = .waking false) (hr : running s = true) (hl : linksBack s = true)
    (hrun : s.dsp.run = none) (hheld : s.dsp.held = []) (hb : buffersReady s (wakeChans s) = true) :
    ∃ t, exec .wakeChannelRestore s = .next t ∧
      t = { s with regs := t.regs, pwr := { s.pwr with sleep := .awake }, hub := t.hub, flight := t.flight, compl := t.compl } ∧
      t.hub = { s.hub with st := if s.hub.st = .sleep then (if s.hub.straps.twinEn then .standby else s.pwr.before) else s.hub.st } ∧
      Woken .wake stOk [] s t ∧ SameRegs [0x5024] s t := by
  have hw := same_wakeup .wake stOk [] (wokenUp s)
  refine ⟨wakeup .wake stOk [] (wokenUp s), wakeChannelRestore_eq hsl hr hl hrun hheld hb, ?_, ?_, (wakeup_woken ..).ofEq rfl rfl rfl, ?_⟩
  · have hhub := hw.hub.resolve_left (by decide)
    have e := hw.eq
    generalize wakeup .wake stOk [] (wokenUp s) = t at hhub e
    rw [hhub]
    exact e
  · rw [hw.hub.resolve_left (by decide)]
    rfl
  · intro a ha
    exact ((regs_wakeup_ok .wake [] (wokenUp s)).get a (fun e => ha (by simp [e]))).trans (rg_congr rfl a)

theorem wakeReturns_restore (s : State) : wakeReturns true s = excStartAll (forN 512 chReturn s) := if_pos rfl

theorem same_wakeReturns (s : State) : Same 197361688 s (wakeReturns true s) := by
  have h : Same 29589520 s (forN 512 chReturn s) := Same.forN (Same.refl _ s) (fun g x => same_chReturn g x)
  rw [wakeReturns_restore]
  exact (same_excStartAll _).comp h

theorem wakeRestore_leaves {s : State} (hsl : s.pwr.sleep = .waking true) (hr : running s = true) (hl : linksBack s = true)
    (hrun : s.dsp.run = none) (hheld : s.dsp.held = []) (hb : buffersReady s (wakeChans s) = true) :
    ∃ t, exec .wakeChannelRestore s = .next t ∧
      t = { s with freeIdx := t.freeIdx, regs := t.regs, pwr := { s.pwr with sleep := .awake }, hub := t.hub, evt := t.evt, chans := t.chans, taps := t.taps, modStart := t.modStart, startAt := t.startAt, restart := t.restart, excs := t.excs, auxs := t.auxs, flight := t.flight, compl := t.compl } ∧
      t.hub = { s.hub with st := if s.hub.st = .sleep then (if s.hub.straps.twinEn then .standby else s.pwr.before) else s.hub.st } ∧
      (∀ g, g < 512 → (chan s g).inUse = true → (chan s g).stuck = false → (die s (g / 128)).lost = false → chCarried s g = true →
        (chan t g).st = .settling ∧ (chan t g).mod0 = startEdge s s.ord) ∧
      (∀ g, g < 512 → (chan s g).inUse = true → chCarried s g = false → (chan t g).st = .fault) ∧
      (∀ g, (chan s g).inUse = false → (chan t g).st = (chan s g).st) ∧ Woken .wake stOk [] s t := by
  have hret := same_wakeReturns (wokenUp s)
  have hsame := (same_wakeup .wake stOk [] (wakeReturns true (wokenUp s))).comp hret
  have hkept : GoKept (forN 512 chReturn (wokenUp s)) (wakeup .wake stOk [] (wakeReturns true (wokenUp s))) :=
    .trans (.ofChans ((same_wakeup ..).chans.resolve_left (by decide))) (goKept_excStartAll _)
  refine ⟨wakeup .wake stOk [] (wakeReturns true (wokenUp s)), wakeChannelRestore_eq hsl hr hl hrun hheld hb, ?_,
    by rw [hsame.hub.resolve_left (by decide)]; rfl, fun g hg hu hst hlost hc => ?_, fun g hg hu hc => ?_, fun g hu => ?_,
    (wakeup_woken ..).ofEq (hret.flight.resolve_left (by decide)) (hret.compl.resolve_left (by decide)) (hret.frame.resolve_left (by decide))⟩
  · have hhub := hsame.hub.resolve_left (by decide)
    have e := hsame.eq
    generalize wakeup .wake stOk [] (wakeReturns true (wokenUp s)) = t at hhub e
    rw [hhub]
    exact e
  · rw [hkept.st, hkept.mod0]
    exact chReturns_start (s := wokenUp s) hg hu hst hlost hc
  · rw [hkept.st]
    exact chReturns_fault (s := wokenUp s) hg hu hc
  · rw [hkept.st, chReturns_unused (s := wokenUp s) hu]
    rfl

end Sys2Proof.Machine

/-! SUPPORT. The entry into SLEEP (R68): dies, buffers, drivers, lanes, timebase and the commands that wait. -/

namespace Sys2Proof.Machine

open Sys2Proof

theorem exec_sleepDrainDone (s : State) : exec .sleepDrainDone s = execSleepDrainDone s := rfl

/-! ### Loops that establish a fact -/

theorem forN_keeps {Q : State → Prop} {f : Nat → State → State} (h : ∀ i x, Q x → Q (f i x)) (n : Nat) {s : State} (hs : Q s) :
    Q (forN n f s) :=
  forN_rel (R := fun x y => Q x → Q y) (fun _ h => h) (fun h k e => h (k e)) (fun i _ x => h i x) s hs

/-- A fact that one turn establishes and every turn keeps stands after the loop. -/
theorem forN_sets {Q : State → Prop} {f : Nat → State → State} {n i : Nat} (hi : i < n) (hset : ∀ x, Q (f i x))
    (hkeep : ∀ j x, Q x → Q (f j x)) (s : State) : Q (forN n f s) := by
  obtain ⟨x, _, h⟩ := forN_turn (R := fun x y => Q x → Q y) (fun _ h => h) (fun h k e => h (k e)) hi (fun j _ x => hkeep j x) s
  exact h (hset x)

/-! ### The mode of a driver -/

/-- The modes of the drivers that a set leaves out stand. -/
structure ModesBut (P : Nat → Prop) (s t : State) : Prop where
  get : ∀ o, ¬ P o → (exc t o).mode = (exc s o).mode

/-- No driver's mode changes. -/
abbrev ModesKept (s t : State) : Prop := ModesBut (fun _ => False) s t

namespace ModesBut

variable {P : Nat → Prop} {s t u : State}

theorem refl (P : Nat → Prop) (s : State) : ModesBut P s s := ⟨fun _ _ => rfl⟩

theorem trans (h : ModesBut P t u) (k : ModesBut P s t) : ModesBut P s u := ⟨fun o ho => (h.get o ho).trans (k.get o ho)⟩

theorem of (h : ModesKept s t) : ModesBut P s t := ⟨fun o _ => h.get o (fun e => e)⟩

theorem ofExcs (h : t.excs = s.excs) : ModesBut P s t := ⟨fun o _ => by unfold exc; rw [h]⟩

theorem modExc (o : Nat) (f : Exc → Exc) (s : State) (h : ∀ e, (f e).mode = e.mode) : ModesBut P s (modExc o f s) := by
  refine ⟨fun k _ => ?_⟩
  rw [exc_modExc]
  split
  · rename_i e; rw [h, e]
  · rfl

theorem ite {c : Prop} [Decidable c] (ht : ModesBut P s t) (hu : ModesBut P s u) : ModesBut P s (if c then t else u) := by
  split <;> assumption

end ModesBut

theorem modesKept_exceEnd (o c t : Nat) (s : State) : ModesKept s (exceEnd o c t s) :=
  .ofExcs ((same_exceEnd ..).excs.resolve_left (by decide))

theorem modesKept_exceMark (o c t0 : Nat) (t1 : Option Nat) (s : State) : ModesKept s (exceMark o c t0 t1 s) :=
  .ofExcs ((same_exceMark ..).excs.resolve_left (by decide))

theorem modesKept_excEvent (o g a : Nat) (s : State) : ModesKept s (excEvent o g (bump a 1 s)) :=
  .trans (.ofExcs ((same_excEvent ..).excs.resolve_left (by decide))) (.ofExcs (bump_excs ..))

theorem modesKept_rampEnd (o t : Nat) (s : State) : ModesKept s (rampEnd o t s) := by
  unfold rampEnd
  exact .ite ((modesKept_exceEnd ..).trans (.modExc _ _ _ (by exact fun _ => rfl))) (.refl _ s)

theorem modesKept_collapseOff (o : Nat) (s : State) : ModesKept s (collapseOff o s) := by
  unfold collapseOff
  have hm : ModesKept s (modExc o (fun e => { e with collapse := false }) s) := .modExc _ _ _ (by exact fun _ => rfl)
  refine .ite (.trans (.ofExcs ?_) hm) (.refl _ s)
  exact (Same.forL (Same.refl 134283264 _) (fun _ _ => same_detectorOff ..)).excs.resolve_left (by decide)

theorem modesKept_excQuiet (o : Nat) (m : ExcMode) (t : Nat) (s : State) : ModesKept s (excQuiet o m t s) := by
  unfold excQuiet
  extract_lets s1 s2 s3
  have h1 : ModesKept s s1 := .ite ((modesKept_exceEnd ..).trans (.modExc _ _ _ (by exact fun _ => rfl))) (.refl _ s)
  have h2 : ModesKept s s2 := .ite ((modesKept_exceEnd ..).trans h1) h1
  have h3 : ModesKept s s3 := .ite ((modesKept_exceEnd ..).trans h2) h2
  exact .ite (.trans (.modExc _ _ _ (by exact fun _ => rfl)) h3) h1

theorem modesKept_setMisSync (o : Nat) (s : State) : ModesKept s (setMisSync o s) := by
  unfold setMisSync
  extract_lets m s1
  have h1 : ModesKept s s1 := .modExc _ _ _ (by exact fun _ => rfl)
  exact .ite (.refl _ s) (.ite (.trans (.ofExcs ((same_excEvent ..).excs.resolve_left (by decide))) h1) h1)

/-- A driver takes a mode; no other driver's changes. -/
theorem excMode_mode (o : Nat) (m : ExcMode) (t : Nat) (s : State) :
    (exc (excMode o m t s) o).mode = m ∧ ModesBut (fun k => k = o) s (excMode o m t s) := by
  unfold excMode
  extract_lets s1 s2 s3
  have h1 : ModesKept s s1 := (modesKept_collapseOff ..).trans ((modesKept_excQuiet ..).trans (modesKept_rampEnd ..))
  have h3 : ModesKept s2 s3 := (modesKept_setMisSync ..).trans (modesKept_excEvent ..)
  have h4 : ModesKept s2 (if m = .hold then exceMark o 4 t (some (t + twentyUs)) (excEvent o 4 (bump (shfReg (o / 4) 0x34) 1 s3)) else s3) :=
    .ite ((modesKept_exceMark ..).trans ((modesKept_excEvent ..).trans h3)) h3
  refine ⟨?_, ⟨fun k hk => ?_⟩⟩
  · rw [h4.get o (fun e => e)]
    unfold s2
    rw [exc_modExc_self]
  · rw [h4.get k (fun e => e), ← h1.get k (fun e => e)]
    unfold s2
    rw [exc_modExc_ne _ _ _ _ hk]

/-- A released driver is OFF; no other driver's mode changes. -/
theorem excRelease_mode (o : Nat) (s : State) : (exc (excRelease o s) o).mode = .off ∧ ModesBut (fun k => k = o) s (excRelease o s) := by
  unfold excRelease
  split
  · rename_i h
    have hk := modesKept_rampEnd o (256 * s.c) s
    exact ⟨(hk.get o (fun e => e)).trans h, .of hk⟩
  · extract_lets t
    have hm := modesKept_exceMark o 0 t (some t) (excMode o .off t (modExc o (fun x => { x with outgoing := false }) s))
    obtain ⟨hself, hrest⟩ := excMode_mode o .off t (modExc o (fun x => { x with outgoing := false }) s)
    exact ⟨(hm.get o (fun e => e)).trans hself, (ModesBut.of hm).trans (hrest.trans (.modExc _ _ _ (by exact fun _ => rfl)))⟩

/-- A driver that is OFF stays OFF. -/
def ExcOff (o : Nat) (s : State) : Prop := (exc s o).mode = .off

theorem excOff_of_kept {o : Nat} {s t : State} (h : ModesKept s t) (hs : ExcOff o s) : ExcOff o t := (h.get o (fun e => e)).trans hs

theorem excOff_of_excs {o : Nat} {s t : State} (h : t.excs = s.excs) (hs : ExcOff o s) : ExcOff o t := excOff_of_kept (.ofExcs h) hs

theorem excOff_excRelease {o : Nat} (k : Nat) {s : State} (h : ExcOff o s) : ExcOff o (excRelease k s) := by
  obtain ⟨hself, hrest⟩ := excRelease_mode k s
  obtain rfl | hne := eq_or_ne o k
  · exact hself
  · exact (hrest.get o hne).trans h

theorem excOff_excHold {o k : Nat} (t : Nat) {s : State} (hne : o ≠ k) (h : ExcOff o s) : ExcOff o (excHold k t s) := by
  have hm : ∀ f x, (∀ e, (f e).mode = e.mode) → ExcOff o x → ExcOff o (excMode k .hold t (modExc k f x)) := fun f x hf hx =>
    ((excMode_mode k .hold t _).2.get o hne).trans (excOff_of_kept (.modExc k f x hf) hx)
  unfold excHold
  split
  · exact hm _ _ (by exact fun _ => rfl) h
  · exact hm _ _ (by exact fun _ => rfl) (excOff_of_excs rfl h)

/-- A trip to HOLD takes a driver in SHARE alone. -/
theorem excOff_holdAll {o : Nat} {s : State} (h : ExcOff o s) : ExcOff o (holdAll s) := by
  refine forN_keeps (Q := ExcOff o) (fun k x hx => ?_) 64 h
  unfold holdTrip
  split
  · rename_i hk
    refine excOff_excHold _ (fun e => ?_) hx
    rw [ExcOff, e, hk.1] at hx
    exact absurd hx (by decide)
  · exact hx

theorem excOff_laneDown {o : Nat} (n : Nat) {s : State} (h : ExcOff o s) : ExcOff o (laneDown n s) := by
  unfold laneDown laneDownTo
  extract_lets x was early s1 s2 s3 s4 s5 s6
  have h1 : Same 68719509520 s s1 := same_setLaneSt n .down s
  have h2 : Same 68719509520 s s2 := .ite (((same_raise ..).comp ((same_bump ..).comp h1)).mono rfl) h1
  have h3 : Same 68719509520 s s3 := .ite (((same_rateFail ..).comp h2).mono rfl) h2
  have h5 : Same 68719509520 s s5 := ((same_setRate n 0 _).comp ((same_modLane ..).comp ((same_modLane ..).comp h3))).mono rfl
  have h6 : s6.excs = s.excs := by
    unfold s6
    split
    · exact ((same_linkDown n s5).comp h5).excs.resolve_left (by decide)
    · exact h5.excs.resolve_left (by decide)
  have hi : ExcOff o (isolSync s6) := excOff_of_excs (((same_isolSync s6).excs.resolve_left (by decide)).trans h6) h
  split
  · exact h
  · split
    · exact excOff_holdAll hi
    · exact hi

/-! ### The commands that wait, while other commands end -/

/-- Other commands may have ended, none that waits for an event, and no completion has gone. -/
structure WaitKept (w : Wait) (s t : State) : Prop where
  stay : ∀ f ∈ s.flight, f.wait = w → (∀ x ∈ s.flight, x.path = f.path → x.tag = f.tag → x = f) → f ∈ t.flight
  sub : ∀ f ∈ t.flight, f ∈ s.flight
  compl : ∀ c ∈ s.compl, c ∈ t.compl
  frame : t.frame = s.frame

namespace WaitKept

variable {w : Wait} {s t u : State}

theorem refl (w : Wait) (s : State) : WaitKept w s s := ⟨fun _ h _ _ => h, fun _ h => h, fun _ h => h, rfl⟩

theorem trans (h : WaitKept w t u) (k : WaitKept w s t) : WaitKept w s u :=
  ⟨fun f hf hw hu => h.stay f (k.stay f hf hw hu) hw (fun x hx => hu x (k.sub x hx)), fun f hf => k.sub f (h.sub f hf),
    fun c hc => h.compl c (k.compl c hc), h.frame.trans k.frame⟩

theorem ofSame {m : Nat} (h : Same m s t) (hf : m.testBit 56 = false) (hc : m.testBit 57 = false) (hr : m.testBit 1 = false) :
    WaitKept w s t := by
  have ef : t.flight = s.flight := h.flight.resolve_left (by simp [hf])
  have ec : t.compl = s.compl := h.compl.resolve_left (by simp [hc])
  exact ⟨fun f hm _ _ => ef ▸ hm, fun f hm => ef ▸ hm, fun c hm => ec ▸ hm, h.frame.resolve_left (by simp [hr])⟩

theorem ite {c : Prop} [Decidable c] (ht : WaitKept w s t) (hu : WaitKept w s u) : WaitKept w s (if c then t else u) := by
  split <;> assumption

theorem forN {f : Nat → State → State} (h : ∀ i x, WaitKept w x (f i x)) (n : Nat) (s : State) : WaitKept w s (forN n f s) :=
  forN_rel (refl w) trans (fun i _ x => h i x) s

theorem forL {α : Type} {f : α → State → State} (h : ∀ a x, WaitKept w x (f a x)) (l : List α) (s : State) :
    WaitKept w s (forL l f s) := by
  induction l generalizing s with
  | nil => exact refl w s
  | cons a l ih => exact (ih (f a s)).trans (h a s)

end WaitKept

theorem mem_finish_flight {x f : Flight} {s : State} (st : Nat) (res : List Byte) (hx : x ∈ s.flight)
    (hne : ¬(x.path = f.path ∧ x.tag = f.tag)) : x ∈ (finish f st res s).flight := by
  rw [finish_flight, List.mem_filter]
  refine ⟨hx, ?_⟩
  rw [Bool.not_eq_true', ← Bool.not_eq_true, Bool.and_eq_true, decide_eq_true_eq, decide_eq_true_eq]
  exact hne

/-- Commands that stood in flight and wait for something else end. -/
theorem waitKept_finishes {w : Wait} (st : Nat) (res : List Byte) {s : State} (l : List Flight) {x : State} (h : WaitKept w s x)
    (hl : ∀ f ∈ l, f ∈ s.flight ∧ f.wait ≠ w) : WaitKept w s (l.foldl (fun a f => finish f st res a) x) := by
  induction l generalizing x with
  | nil => exact h
  | cons f l ih =>
    obtain ⟨hf, hw⟩ := hl f List.mem_cons_self
    refine ih ⟨fun y hy hyw hu => ?_, fun y hy => ?_, fun c hc => ?_, (finish_frame ..).trans h.frame⟩
      (fun g hg => hl g (List.mem_cons_of_mem _ hg))
    · exact mem_finish_flight st res (h.stay y hy hyw hu) (fun e => hw (by rw [hu f hf e.1.symm e.2.symm]; exact hyw))
    · rw [finish_flight] at hy
      exact h.sub y (List.mem_of_mem_filter hy)
    · rw [finish_compl]
      exact List.mem_append_left _ (h.compl c hc)

theorem waitKept_finish {w : Wait} {f : Flight} {s : State} (st : Nat) (res : List Byte) (hf : f ∈ s.flight) (hw : f.wait ≠ w) :
    WaitKept w s (finish f st res s) :=
  waitKept_finishes st res [f] (.refl w s) (fun _ hg => List.mem_singleton.1 hg ▸ ⟨hf, hw⟩)

theorem waitKept_wakeup {w v : Wait} (st : Nat) (res : List Byte) (s : State) (hv : v ≠ w) : WaitKept w s (wakeup v st res s) := by
  refine waitKept_finishes st res _ (.refl w s) (fun f hf => ?_)
  obtain ⟨h, hw⟩ := List.mem_filter.1 hf
  exact ⟨h, fun e => hv ((of_decide_eq_true hw).symm.trans e)⟩

theorem waitKept_ltReport (ss : Nat) (x : LeadTest) (a b c : Bool) (s : State) : WaitKept .sleep s (ltReport ss x a b c s) := by
  unfold ltReport
  refine .ite (.refl _ s) ?_
  extract_lets v
  refine (waitKept_wakeup _ _ _ (by simp)).trans (.trans (.ofSame (same_raise ..) rfl rfl rfl) ?_)
  exact .ofSame (upd_ltRes ..) rfl rfl rfl

theorem waitKept_startOpens (ss : Nat) (all : Bool) (cc : Nat) (s : State) : WaitKept .sleep s (startOpens ss all cc .periodic s) := by
  unfold startOpens
  extract_lets cover x s1
  refine .ite (waitKept_ltReport ..) ?_
  have h1 : WaitKept .sleep s s1 := .ofSame (same_ltBegin ..) rfl rfl rfl
  refine .trans (WaitKept.forL (f := fun c a => auxPush (ss / 4) (.lead ss c 1) (auxPush (ss / 4) (.lead ss c 0) a)) (fun c a => ?_) cover s1) h1
  exact .ofSame (Same.comp (same_auxPush ..) (same_auxPush ..)) rfl rfl rfl

theorem waitKept_ltStop (ss : Nat) (s : State) : WaitKept .sleep s (ltStop ss s) := by
  unfold ltStop
  extract_lets s1 s2 s3
  have h1 : WaitKept .sleep s s1 := by
    unfold s1
    split
    · exact .ite (.ofSame (same_shortsEnd ..) rfl rfl rfl) (.refl _ s)
    · exact .refl _ s
  have h2 : WaitKept .sleep s s2 := .trans (.ofSame (upd_lts ..) rfl rfl rfl) h1
  have h3 : WaitKept .sleep s s3 := .trans (.ofSame (same_modAux ..) rfl rfl rfl) h2
  exact .ite ((waitKept_startOpens ..).trans (.trans (.ofSame (upd_ltWait ..) rfl rfl rfl) h3)) h3

theorem waitKept_ltAbort (ss : Nat) (s : State) : WaitKept .sleep s (ltAbort ss s) := by
  unfold ltAbort
  split
  · exact (waitKept_ltStop ..).trans (waitKept_ltReport ..)
  · exact .refl _ s

theorem waitKept_auxDrop (r : AuxReq) (s : State) : WaitKept .sleep s (auxDrop r s) := by
  unfold auxDrop
  split
  · exact .ofSame (same_slotFail ..) rfl rfl rfl
  · split
    · rename_i f hf
      have hw := List.find?_some hf
      simp only [Bool.and_eq_true, decide_eq_true_eq] at hw
      exact waitKept_finish _ _ (List.mem_of_find?_eq_some hf) (by rw [hw.1.1]; decide)
    · exact .refl _ s
  · exact (waitKept_ltAbort ..).trans (waitKept_wakeup _ _ _ (by simp))
  · exact (waitKept_ltAbort ..).trans (waitKept_wakeup _ _ _ (by simp))
  · exact .refl _ s

theorem waitKept_auxLose (n : Nat) (s : State) : WaitKept .sleep s (auxLose n s) := by
  unfold auxLose
  extract_lets x all was s1 s2 s3
  have h1 : WaitKept .sleep s s1 := .ofSame (same_modAux ..) rfl rfl rfl
  have h2 : WaitKept .sleep s s2 := (WaitKept.forN (fun _ _ => .ofSame (upd_ltWait ..) rfl rfl rfl) _ _).trans h1
  have h3 : WaitKept .sleep s s3 := (WaitKept.forL (fun r y => waitKept_auxDrop r y) _ _).trans h2
  exact .ite (.trans (.ofSame (same_raise ..) rfl rfl rfl) h3) h3

theorem Woken.after {w : Wait} {st : Nat} {res : List Byte} {s x t : State} (h : Woken w st res x t) (k : WaitKept w s x) :
    Woken w st res s t := by
  refine ⟨fun f hf hw hu => ?_, fun f hf => ⟨k.sub f (h.left f hf).1, (h.left f hf).2⟩, fun c hc => h.kept c (k.compl c hc)⟩
  rw [← k.frame]
  exact h.ended f (k.stay f hf hw hu) hw (fun x hx => hu x (k.sub x hx))

/-! ### A die goes dark -/

/-- The die's converter has stopped, and its link is down. -/
def dieDark (n : Nat) (s : State) : State :=
  modDie n (fun d => { d with lostLo := false, lostHi := false, trim := [], trimTo := [], sub := none, bad := [], restoring := false })
    (modDie n (fun d => { d with up := false, trained := false, ok0 := false, ok1 := false, ok2 := false, map := 0 }) (auxLose n s))

/-- The die's buffers are off; those that were on count as in use. -/
def dieBuffersOff (n : Nat) (s : State) : State :=
  forN 24 (fun b a => modRef (24 * n + b) (fun r => { r with inUse := r.inUse || r.on, on := false, ready := false }) a) s

/-- The die's drivers are released. -/
def dieDriversOff (n : Nat) (s : State) : State := forN 16 (fun k a => excRelease (16 * n + k) a) s

/-- The die's lead tests are aborted. -/
def dieTestsOff (n : Nat) (s : State) : State := forN 4 (fun q a => ltAbort (4 * n + q) a) s

theorem dieOff_eq (n : Nat) (s : State) : dieOff n s = dieTestsOff n (dieDriversOff n (dieBuffersOff n (dieDark n s))) := rfl

theorem same_dieDark (n : Nat) (s : State) : Same 216172782518372368 s (dieDark n s) :=
  (same_modDie ..).comp ((same_modDie ..).comp (same_auxLose n s))

theorem same_dieBuffersOff (n : Nat) (s : State) : Same 67108864 s (dieBuffersOff n s) :=
  Same.forN (Same.refl _ s) (fun b x => same_modRef (24 * n + b) _ x)

theorem same_dieDriversOff (n : Nat) (s : State) : Same 167870480 s (dieDriversOff n s) :=
  Same.forN (Same.refl _ s) (fun k x => same_excRelease (16 * n + k) x)

theorem same_dieTestsOff (n : Nat) (s : State) : Same 216172782249934864 s (dieTestsOff n s) :=
  Same.forN (Same.refl _ s) (fun q x => same_ltAbort (4 * n + q) x)

theorem die_dieOff (n : Nat) (s : State) : (die (dieOff n s) n).trained = false ∧ (die (dieOff n s) n).up = false ∧
    ∀ m, m ≠ n → die (dieOff n s) m = die s m := by
  have hlate := (same_dieTestsOff n _).comp ((same_dieDriversOff n _).comp (same_dieBuffersOff n (dieDark n s)))
  have hd : ∀ m, die (dieOff n s) m = die (dieDark n s) m := by
    rw [dieOff_eq]
    exact die_congr (hlate.dies.resolve_left (by decide))
  refine ⟨?_, ?_, fun m hm => ?_⟩
  · rw [hd, dieDark, die_modDie_self, die_modDie_self]
  · rw [hd, dieDark, die_modDie_self, die_modDie_self]
  · rw [hd, dieDark, die_modDie_ne _ _ _ _ hm, die_modDie_ne _ _ _ _ hm, die_congr ((same_auxLose n s).dies.resolve_left (by decide))]

/-- A die without its link. -/
def DieDown (n : Nat) (s : State) : Prop := (die s n).trained = false ∧ (die s n).up = false

theorem dieDown_dieOff {n : Nat} (m : Nat) {s : State} (h : DieDown n s) : DieDown n (dieOff m s) := by
  obtain ⟨ht, hu, hrest⟩ := die_dieOff m s
  obtain rfl | hne := eq_or_ne n m
  · exact ⟨ht, hu⟩
  · rw [DieDown, hrest n hne]
    exact h

/-- A buffer that is off. -/
def RefOff (b : Nat) (s : State) : Prop := (ref s b).on = false

theorem ref_congr {s t : State} (h : t.refs = s.refs) (b : Nat) : ref t b = ref s b := by unfold ref; rw [h]

theorem RefOff.congr {b : Nat} {s t : State} (h : t.refs = s.refs) (hs : RefOff b s) : RefOff b t := by
  rw [RefOff, ref_congr h]
  exact hs

theorem refOff_turn {b : Nat} (k : Nat) {s : State} (h : RefOff b s) :
    RefOff b (modRef k (fun r => { r with inUse := r.inUse || r.on, on := false, ready := false }) s) := by
  rw [RefOff, ref_modRef]
  split
  · rfl
  · exact h

theorem refOff_dieOff_of {b n : Nat} {s : State} (h : RefOff b (dieBuffersOff n (dieDark n s))) : RefOff b (dieOff n s) :=
  .congr (((same_dieTestsOff n _).comp (same_dieDriversOff n _)).refs.resolve_left (by decide)) h

theorem refOff_dieOff {b : Nat} (n : Nat) {s : State} (h : RefOff b s) : RefOff b (dieOff n s) :=
  refOff_dieOff_of (forN_keeps (fun _ _ hx => refOff_turn _ hx) 24 (.congr ((same_dieDark n s).refs.resolve_left (by decide)) h))

theorem refOff_dieOff_self {b : Nat} {n : Nat} (hb : b / 24 = n) (s : State) : RefOff b (dieOff n s) := by
  refine refOff_dieOff_of (forN_sets (i := b % 24) (Nat.mod_lt _ (by decide)) (fun x => ?_) (fun _ _ hx => refOff_turn _ hx) _)
  have he : b = 24 * n + b % 24 := by omega
  rw [RefOff, ref_modRef, if_pos he]

theorem excOff_dieOff_of {o n : Nat} {s : State} (h : ExcOff o (dieDriversOff n (dieBuffersOff n (dieDark n s)))) : ExcOff o (dieOff n s) :=
  excOff_of_excs ((same_dieTestsOff n _).excs.resolve_left (by decide)) h

theorem excOff_dieOff {o : Nat} (n : Nat) {s : State} (h : ExcOff o s) : ExcOff o (dieOff n s) := by
  refine excOff_dieOff_of (forN_keeps (fun _ _ hx => excOff_excRelease _ hx) 16 ?_)
  exact excOff_of_excs (((same_dieBuffersOff n _).comp (same_dieDark n s)).excs.resolve_left (by decide)) h

theorem excOff_dieOff_self {o n : Nat} (ho : o / 16 = n) (s : State) : ExcOff o (dieOff n s) := by
  refine excOff_dieOff_of (forN_sets (i := o % 16) (Nat.mod_lt _ (by decide)) (fun x => ?_) (fun _ _ hx => excOff_excRelease _ hx) _)
  have he : 16 * n + o % 16 = o := by omega
  rw [he]
  exact (excRelease_mode o x).1

theorem waitKept_dieOff (n : Nat) (s : State) : WaitKept .sleep s (dieOff n s) := by
  have hd : WaitKept .sleep s (dieDark n s) :=
    .trans (.ofSame (same_modDie ..) rfl rfl rfl) (.trans (.ofSame (same_modDie ..) rfl rfl rfl) (waitKept_auxLose n s))
  have he : WaitKept .sleep s (dieDriversOff n (dieBuffersOff n (dieDark n s))) :=
    .trans (.ofSame (same_dieDriversOff ..) rfl rfl rfl) (.trans (.ofSame (same_dieBuffersOff ..) rfl rfl rfl) hd)
  exact (WaitKept.forN (fun q x => waitKept_ltAbort (4 * n + q) x) 4 _).trans he

/-! ### The stages of the entry (R68, R316) -/

/-- A timebase that followed its source is in HOLDOVER. -/
def sleepFree (s : State) : State := if s.tmb.st = .stepped ∨ s.tmb.st = .locked then enterHoldover (256 * s.c) s else s

/-- Every lane but one goes DOWN, and the strings go dark. -/
def sleepLanes (k : Nat) (s : State) : State := bcnSleep (forN 8 (fun n a => if n = k then a else laneDown n a) s)

/-- The hub is in SLEEP, with its keepalive lane. -/
def sleepHub (k : Nat) (s : State) : State :=
  { s with pwr := { s.pwr with sleep := .asleep, keep := k, pllD := false, before := s.hub.st }, hub := { s.hub with st := .sleep } }

/-- What follows once the dies are dark. -/
def sleepTail (k : Nat) (s : State) : State := wakeup .sleep stOk [] (rateCheck k (sleepHub k (sleepLanes k s)))

theorem sleepEnter_eq (s : State) : sleepEnter s = sleepTail (keepPick s) (forN 4 dieOff (sleepFree s)) := by
  unfold sleepEnter
  extract_lets k s1 s2 s3 p h s4
  have h1 : s1 = sleepFree s := rfl
  have h3 : s3 = sleepLanes k s2 := rfl
  have h4 : s4 = sleepHub k s3 := rfl
  rw [h4, h3, ← h1]
  rfl

theorem same_sleepFree (s : State) : Same 8589967376 s (sleepFree s) := .ite (same_enterHoldover ..) (.refl ..)

theorem same_sleepDies (s : State) : Same 216172782619035664 s (forN 4 dieOff s) := Same.forN (Same.refl _ s) (fun n x => same_dieOff n x)

theorem same_sleepLanes (k : Nat) (s : State) : Same 26459816209776664 s (sleepLanes k s) := by
  have h : Same 21956216582406168 s (forN 8 (fun n a => if n = k then a else laneDown n a) s) :=
    Same.forN (Same.refl _ s) (fun n x => .ite (.refl ..) (same_laneDown n x))
  exact (same_bcnSleep _).comp h

theorem same_sleepTail (k : Nat) (s : State) : Same 242632598323565592 s (sleepTail k s) :=
  (same_wakeup ..).comp ((same_rateCheck k _).comp (Same.comp (upd_pwr_hub ..) (same_sleepLanes k s)))

theorem sleepFree_tmb (s : State) (h : s.tmb.st = .stepped ∨ s.tmb.st = .locked) :
    (sleepFree s).tmb.st = .holdover ∧ (sleepFree s).tmb.rho = s.tmb.rho := by
  have hne : ∀ f : Tmb → Tmb, (∀ x, (f x).st = x.st) → (modTmb f (dropNow s)).tmb.st ≠ .holdover := by
    intro f hf
    have he : (modTmb f (dropNow s)).tmb.st = s.tmb.st := hf _
    rw [he]
    rcases h with h | h <;> rw [h] <;> decide
  rw [sleepFree, if_pos h, enterHoldover, tbState, if_neg (hne _ (by exact fun _ => rfl))]
  dsimp only
  rw [raise_tmb]
  exact ⟨rfl, rfl⟩

theorem lane_sleepLanes {n k : Nat} (hn : n < 8) (hk : n ≠ k) (s : State) : (lane (sleepLanes k s) n).st = .down := by
  have hb : ∀ x, lane (bcnSleep x) n = lane x n := fun x => by
    unfold lane
    rw [(same_bcnSleep x).lanes.resolve_left (by decide)]
  rw [sleepLanes, hb]
  refine forN_sets (Q := fun x => (lane x n).st = .down) hn (fun x => ?_) (fun j x hx => ?_) s
  · rw [if_neg hk]
    exact (laneDown_lane n x).down
  · split
    · exact hx
    · obtain rfl | hne := eq_or_ne n j
      · exact (laneDown_lane n x).down
      · exact ((laneDown_lane j x).rest n hne).1.trans hx

/-- The other lanes' state machines stand through a check of a lane's rate. -/
theorem lane_rateCheck {n k : Nat} (hne : n ≠ k) (s : State) : (lane (rateCheck k s) n).st = (lane s n).st := by
  unfold rateCheck
  split
  · extract_lets t s1
    have h1 : (lane s1 n).st = (lane s n).st := by
      have hset : (lane (setLaneSt k .align s) n).st = (lane s n).st := by
        unfold setLaneSt
        split
        · rfl
        · rw [lane_raise, lane_modLane_ne _ _ _ _ hne]
      have hi : LaneStSame (linkDown k (setLaneSt k .align s)) s1 := .ofLanes ((same_isolSync _).lanes.resolve_left (by decide))
      exact (hi.get n).1.trans (((laneSt_linkDown ..).get n).1.trans hset)
    rw [lane_modLane_ne _ _ _ _ hne]
    exact h1
  · rfl

/-! ### The entry -/

theorem sleepDrainDone_eq {k p q : Nat} {s : State} (hsl : s.pwr.sleep = .draining k p q) (hr : running s = true) (hk : k ≠ 0)
    (hrun : s.dsp.run = none) (hd : drained s = true) : exec .sleepDrainDone s = .next (sleepEnter s) := by
  rw [exec_sleepDrainDone, execSleepDrainDone, hsl]
  dsimp only
  rw [if_pos ⟨hr, hk, by rw [hrun]; rfl, hd⟩]

theorem sleepEnter_dies (s : State) {n : Nat} (hn : n < 4) : (die (sleepEnter s) n).trained = false ∧ (die (sleepEnter s) n).up = false := by
  have h : DieDown n (forN 4 dieOff (sleepFree s)) := by
    refine forN_sets hn (fun x => ?_) (fun m x hx => dieDown_dieOff m hx) _
    obtain ⟨ht, hu, _⟩ := die_dieOff n x
    exact ⟨ht, hu⟩
  rw [sleepEnter_eq, die_congr ((same_sleepTail _ _).dies.resolve_left (by decide))]
  exact h

theorem sleepEnter_refs (s : State) {b : Nat} (hb : b < 96) : (ref (sleepEnter s) b).on = false := by
  have h : RefOff b (forN 4 dieOff (sleepFree s)) :=
    forN_sets (i := b / 24) (by omega) (fun x => refOff_dieOff_self rfl x) (fun n x hx => refOff_dieOff n hx) _
  rw [sleepEnter_eq]
  exact h.congr ((same_sleepTail _ _).refs.resolve_left (by decide))

theorem excOff_sleepLanes {o : Nat} (k : Nat) {s : State} (h : ExcOff o s) : ExcOff o (sleepLanes k s) := by
  have hl : ExcOff o (forN 8 (fun n a => if n = k then a else laneDown n a) s) := by
    refine forN_keeps (Q := ExcOff o) (fun n x hx => ?_) 8 h
    split
    · exact hx
    · exact excOff_laneDown n hx
  unfold sleepLanes
  exact excOff_of_excs ((same_bcnSleep _).excs.resolve_left (by decide)) hl

theorem sleepHub_excs (k : Nat) (s : State) : (sleepHub k s).excs = s.excs := rfl
theorem sleepHub_lanes (k : Nat) (s : State) : (sleepHub k s).lanes = s.lanes := rfl

/-- The hub in SLEEP: the keepalive lane's rate and the commands that end touch no driver. -/
theorem same_sleepEnd (k : Nat) (s : State) : Same 238128998528352272 s (wakeup .sleep stOk [] (rateCheck k s)) :=
  (same_wakeup ..).comp (same_rateCheck k s)

theorem excOff_sleepTail {o : Nat} (k : Nat) {s : State} (h : ExcOff o s) : ExcOff o (sleepTail k s) := by
  unfold sleepTail
  exact excOff_of_excs ((same_sleepEnd k _).excs.resolve_left (by decide)) (excOff_of_excs (sleepHub_excs ..) (excOff_sleepLanes k h))

theorem sleepEnter_excs (s : State) {o : Nat} (ho : o < 64) : (exc (sleepEnter s) o).mode = .off := by
  rw [sleepEnter_eq]
  exact excOff_sleepTail _ (forN_sets (i := o / 16) (by omega) (fun x => excOff_dieOff_self rfl x) (fun n x hx => excOff_dieOff n hx) _)

theorem lane_sleepTail {n k : Nat} (hn : n < 8) (hk : n ≠ k) (s : State) : (lane (sleepTail k s) n).st = .down := by
  unfold sleepTail
  generalize hx : sleepHub k (sleepLanes k s) = x
  have hw : LaneStSame (rateCheck k x) (wakeup .sleep stOk [] (rateCheck k x)) :=
    .ofLanes ((same_wakeup .sleep stOk [] (rateCheck k x)).lanes.resolve_left (by decide))
  have hh : LaneStSame (sleepLanes k s) x := .ofLanes (by rw [← hx, sleepHub_lanes])
  rw [(hw.get n).1, lane_rateCheck hk, (hh.get n).1]
  exact lane_sleepLanes hn hk s

theorem sleepEnter_tmb (s : State) : (sleepEnter s).tmb = (sleepFree s).tmb := by
  rw [sleepEnter_eq]
  exact ((same_sleepTail _ _).comp (same_sleepDies (sleepFree s))).tmb.resolve_left (by decide)

theorem sleepEnter_woken (s : State) : Woken .sleep stOk [] s (sleepEnter s) := by
  have hfree : WaitKept .sleep s (forN 4 dieOff (sleepFree s)) :=
    (WaitKept.forN waitKept_dieOff 4 _).trans (.ofSame (same_sleepFree s) rfl rfl rfl)
  have hhub : ∀ k x, WaitKept .sleep x (rateCheck k (sleepHub k (sleepLanes k x))) := fun k x =>
    .ofSame ((same_rateCheck k _).comp (Same.comp (upd_pwr_hub ..) (same_sleepLanes k x))) rfl rfl rfl
  rw [sleepEnter_eq]
  exact (wakeup_woken ..).after ((hhub ..).trans hfree)

theorem sleepTail_hub_pwr (k : Nat) (s : State) : (sleepTail k s).hub = { s.hub with st := .sleep } ∧
    (sleepTail k s).pwr = { s.pwr with sleep := .asleep, keep := k, pllD := false, before := s.hub.st } := by
  have hl := same_sleepLanes k s
  have hsame := same_sleepEnd k (sleepHub k (sleepLanes k s))
  have hhub : (sleepTail k s).hub = (sleepHub k (sleepLanes k s)).hub := hsame.hub.resolve_left (by decide)
  have hpwr : (sleepTail k s).pwr = (sleepHub k (sleepLanes k s)).pwr := hsame.pwr.resolve_left (by decide)
  rw [hhub, hpwr, ← hl.hub.resolve_left (by decide), ← hl.pwr.resolve_left (by decide)]
  exact ⟨rfl, rfl⟩

theorem sleepEnter_hub_pwr (s : State) : (sleepEnter s).hub = { s.hub with st := .sleep } ∧
    (sleepEnter s).pwr = { s.pwr with sleep := .asleep, keep := keepPick s, pllD := false, before := s.hub.st } := by
  have hsame := (same_sleepDies _).comp (same_sleepFree s)
  have h := sleepTail_hub_pwr (keepPick s) (forN 4 dieOff (sleepFree s))
  rw [hsame.hub.resolve_left (by decide), hsame.pwr.resolve_left (by decide)] at h
  rw [sleepEnter_eq]
  exact h

theorem sleepDrainDone_leaves {k p q : Nat} {s : State} (hsl : s.pwr.sleep = .draining k p q) (hr : running s = true) (hk : k ≠ 0)
    (hrun : s.dsp.run = none) (hd : drained s = true) :
    ∃ t, exec .sleepDrainDone s = .next t ∧
      t = { s with freeIdx := t.freeIdx, regs := t.regs, pwr := t.pwr, dies := t.dies, hub := t.hub, evt := t.evt, chans := t.chans, lts := t.lts, ltWait := t.ltWait, ltRes := t.ltRes, excs := t.excs, refs := t.refs, auxs := t.auxs, slots := t.slots, tmb := t.tmb, lanes := t.lanes, queues := t.queues, mem := t.mem, rtePath := t.rtePath, twn := t.twn, bcn := t.bcn, hst := t.hst, flight := t.flight, compl := t.compl } ∧
      t.pwr = { s.pwr with sleep := .asleep, keep := keepPick s, pllD := false, before := s.hub.st } ∧
      t.hub = { s.hub with st := .sleep } ∧ t.mem.words = s.mem.words ∧
      (∀ n, n < 4 → (die t n).trained = false ∧ (die t n).up = false) ∧ (∀ n, n < 8 → n ≠ keepPick s → (lane t n).st = .down) ∧
      (∀ b, b < 96 → (ref t b).on = false) ∧ (∀ o, o < 64 → (exc t o).mode = .off) ∧
      ((s.tmb.st = .stepped ∨ s.tmb.st = .locked) → t.tmb.st = .holdover ∧ t.tmb.rho = s.tmb.rho) ∧ Woken .sleep stOk [] s t := by
  obtain ⟨hhub, hpwr⟩ := sleepEnter_hub_pwr s
  refine ⟨sleepEnter s, sleepDrainDone_eq hsl hr hk hrun hd, (same_sleepEnter s).eq, hpwr, hhub,
    (same_sleepEnter s).words.resolve_left (by decide), fun n hn => sleepEnter_dies s hn, fun n hn hne => sleepEnter_eq s ▸ lane_sleepTail hn hne _,
    fun b hb => sleepEnter_refs s hb, fun o ho => sleepEnter_excs s ho, fun h => ?_, sleepEnter_woken s⟩
  rw [sleepEnter_tmb]
  exact sleepFree_tmb s h

/-- Settles O20: the entry into SLEEP stage by stage, the wake channel by channel, SAFE with the plans it stops, and the restart
with its commands, its session and its attempt. -/
theorem sleepSafeAndRestart : Obligations.SleepSafeAndRestart := by
  refine ⟨fun k p q s hsl hr hk hrun hd => sleepDrainDone_leaves hsl hr hk hrun hd,
    fun k p q s hsl hr hk ho hd => sleepTimeout_leaves hsl hr hk ho hd,
    fun s hsl hr hl hrun hheld hb => wakeNoRestore_leaves hsl hr hl hrun hheld hb,
    fun s hsl hr hl hrun hheld hb => wakeRestore_leaves hsl hr hl hrun hheld hb,
    fun s h => safeEntry_enters h, fun s h => by rw [exec_safeEntry, if_pos h],
    fun s hr h1 h2 h => safeDue_overruns hr h1 h2 h, fun o s hr h1 h2 hc hrun ho => safeDue_lastingPass hr h1 h2 hc hrun ho,
    fun s hr hst hc => safeCauseCleared_eq hr hst hc, fun s hr hh hc => ⟨_, processorRestart_eq hr, restart_kept hh hc⟩,
    fun s hr hh hc => ⟨_, processorRestart_eq hr, restart_abandons hh hc⟩,
    fun s hr _ hp hc => ⟨_, processorRestart_eq hr, restart_idleAttempt hp hc⟩,
    fun s hr hh hp hc => ⟨_, processorRestart_eq hr, restart_attempt hh hp hc⟩,
    fun s hr hh hc => ⟨_, processorRestart_eq hr, restart_armed hh hc⟩⟩

end Sys2Proof.Machine

/-! SUPPORT. What a whole-hub reset leaves, whatever its source, and what the output pins show without power, at their Reset state and
in service (R40, R45, R57, R63). -/

namespace Sys2Proof.Machine

open Sys2Proof

theorem exec_powerOnReset (r : CoreRail) (s : State) : exec (.powerOnReset r) s = execPowerOnReset r s := rfl
theorem exec_xosLoss (o : Option Nat) (s : State) : exec (.xosLoss o) s = execXosLoss o s := rfl
theorem exec_resetNAssert (ns : Nat) (s : State) : exec (.resetNAssert ns) s = execResetNAssert ns s := rfl

/-! ### The whole-hub reset (R57, R63) -/

/-- A table filled with values of a property, over an unlisted value that has it, reads as a value of the property everywhere. -/
theorem tget_foldl_tset {α β : Type} [DecidableEq α] {P : α → Prop} {d : α} {f : β → α} (hf : ∀ b, P (f b)) (l : Tbl β) {t : Tbl α}
    (ht : ∀ n, P (tget d t n)) (n : Nat) : P (tget d (l.foldl (fun u e => tset d u e.1 (f e.2)) t) n) := by
  induction l generalizing t with
  | nil => exact ht n
  | cons e l ih =>
    refine ih (fun m => ?_)
    rw [tget_tset]
    split
    · exact hf e.2
    · exact ht m

theorem die_wholeReset_trained (cause : Nat) (keepC : Bool) (p : Pwr) (s : State) (n : Nat) :
    (die (wholeReset cause keepC p s) n).trained = false :=
  tget_foldl_tset (P := fun d : Die => d.trained = false) (f := fun d : Die => ({ rails := d.rails } : Die)) (fun _ => rfl) s.dies (fun _ => rfl) n

theorem lane_wholeReset_st (cause : Nat) (keepC : Bool) (p : Pwr) (s : State) (n : Nat) :
    (lane (wholeReset cause keepC p s) n).st = .down :=
  tget_foldl_tset (P := fun x : Lane => x.st = .down) (f := fun x : Lane => ({ losPin := x.losPin } : Lane)) (fun _ => rfl) s.lanes (fun _ => rfl) n

/-- CLK_RST_CAUSE names the source of a whole-hub reset (R63). -/
theorem rg_wholeReset_cause (cause : Nat) (keepC : Bool) (p : Pwr) (s : State) :
    rg (wholeReset cause keepC p s) 0x1044 = word cause := tget_tset_self ..

theorem rg_wholeReset_ne (cause : Nat) (keepC : Bool) (p : Pwr) (s : State) {a : Nat} (ha : a ≠ 0x1044) :
    rg (wholeReset cause keepC p s) a = regReset a := tget_tset_ne' (regReset 0x1044) (regReset a) [] (word cause) ha

/-- Whatever the source and the supplies, a whole-hub reset leaves the hub at reset. -/
theorem atReset_wholeReset (cause : Nat) (keepC : Bool) (p : Pwr) (s : State) : AtReset s (wholeReset cause keepC p s) where
  regs _ ha := rg_wholeReset_ne cause keepC p s ha
  staged := rfl
  hub := rfl
  cmt := rfl
  chans := ⟨rfl, rfl, rfl, rfl⟩
  drives := ⟨rfl, rfl, rfl, rfl⟩
  dsp := ⟨rfl, rfl, rfl⟩
  coef := ⟨rfl, rfl, rfl, rfl⟩
  tmb := ⟨rfl, rfl, rfl⟩
  links n := ⟨die_wholeReset_trained cause keepC p s n, lane_wholeReset_st cause keepC p s n⟩
  data := ⟨rfl, rfl, rfl, rfl, rfl, rfl, rfl⟩
  engines := ⟨rfl, rfl, rfl⟩
  twin := ⟨rfl, rfl, rfl⟩
  cmds := ⟨rfl, rfl, rfl⟩
  queue := rfl

/-! ### Its sources -/

theorem xosLostIs_of_far {o : Option Nat} (s : State) (h : ∀ d ∈ o, 155 < d) : xosLostIs o s = (true, s) := by
  cases o with
  | none => rfl
  | some d =>
    have hd : 155 < d := h d rfl
    rw [xosLostIs, if_neg (by omega), if_pos hd]

theorem xosLostIs_of_near {d : Nat} (s : State) (h : d ≤ 45) : xosLostIs (some d) s = (false, s) := by
  rw [xosLostIs, if_pos h]

theorem resetNIs_of_long {ns : Nat} (s : State) (h : 500 ≤ ns) : resetNIs ns s = (true, s) := by
  rw [resetNIs, if_neg (by omega), if_pos h]

theorem resetNIs_of_glitch {ns : Nat} (s : State) (h : ns < 300) : resetNIs ns s = (false, s) := by
  rw [resetNIs, if_pos h]

/-- The hub after the loss of XOS: counter C starts again (R57). -/
def xosReset (s : State) : State := wholeReset 0xF2 false { pwrOutside .por s.pwr with xos := false, slowInt := true } s

/-- The hub that RESET_N holds: counter C stands (R63). -/
def pinReset (s : State) : State := wholeReset 0xF4 true { pwrOutside .pin s.pwr with resetNLow := true } s

theorem xosLoss_resets {o : Option Nat} {s : State} (ho : ∀ d ∈ o, 155 < d) (hp : s.pwr.phase ≠ .por) :
    exec (.xosLoss o) s = .next (xosReset s) := by
  simp only [exec_xosLoss, execXosLoss, xosLostIs_of_far s ho, if_pos, if_neg hp, xosReset]

theorem xosLoss_ignored {d : Nat} (s : State) (h : d ≤ 45) : exec (.xosLoss (some d)) s = .next s := by
  simp only [exec_xosLoss, execXosLoss, xosLostIs_of_near s h, Bool.false_eq_true, if_false]

theorem resetNAssert_resets {ns : Nat} {s : State} (hn : 500 ≤ ns) (hp : s.pwr.phase ≠ .por) (hq : s.pwr.phase ≠ .pin) :
    exec (.resetNAssert ns) s = .next (pinReset s) := by
  simp only [exec_resetNAssert, execResetNAssert, resetNIs_of_long s hn, if_pos, if_neg hp, if_neg hq, pinReset]

theorem resetNAssert_ignored {ns : Nat} (s : State) (h : ns < 300) : exec (.resetNAssert ns) s = .next s := by
  simp only [exec_resetNAssert, execResetNAssert, resetNIs_of_glitch s h, Bool.false_eq_true, if_false]

theorem powerOnReset_resets (r : CoreRail) (s : State) : ∃ t, exec (.powerOnReset r) s = .next t ∧ AtReset s t ∧ t.c = 0 ∧
    t.pwr.phase = .por ∧ t.pwr.core = false ∧
    rg t 0x1044 = (match r with | .vddC => 0x01#32 | .vddIo => 0x11#32 | .first => 0x21#32) := by
  refine ⟨_, exec_powerOnReset r s, atReset_wholeReset .., rfl, rfl, rfl, ?_⟩
  rw [rg_wholeReset_cause]
  cases r <;> rfl

/-! ### Pins that the core does not reach (R44, R45)

A pin that an operation of the core drives is gated by `powered s && !pinsReset s`; without either it stands at its idle level. -/

/-- Without power, or at the Reset state of the pins, no operation of the core reaches a pin. -/
theorem pinsServed_eq_false {s : State} (h : powered s = false ∨ pinsReset s = true) : (powered s && !pinsReset s) = false := by
  rcases h with h | h <;> simp [h]

section

variable {s : State} (h : powered s = false ∨ pinsReset s = true)
include h

theorem chPins_of_idle (g : Nat) : chPins s g = .highZ := by simp [chPins, pinsServed_eq_false h]
theorem excPins_of_idle (o : Nat) : excPins s o = .highZ := by simp [excPins, pinsServed_eq_false h]
theorem hsReading_of_idle (ph : HsPhase) : hsReading s ph = false := by simp [hsReading, pinsServed_eq_false h]
theorem hsDq_of_idle (ph : HsPhase) (i : Nat) : hsDq s ph i = .highZ := by simp [hsDq, hsReading_of_idle h]
theorem hsDqs_of_idle (ph : HsPhase) : hsDqs s ph = .highZ := by simp [hsDqs, hsReading_of_idle h]
theorem bstGd_of_idle : bstGd s = lowPin s false := by simp [bstGd, pinsServed_eq_false h]
theorem bcnG_of_idle (m : Nat) : bcnG s m = lowPin s false := by simp [bcnG, pinsServed_eq_false h]
theorem bchOut_of_idle : bchOut s = lowPin s false := by simp [bchOut, pinsServed_eq_false h]

end

theorem lowPin_of_unpowered {s : State} (h : powered s = false) (b : Bool) : lowPin s b = .highZ := by simp [lowPin, h]

theorem lowPin_of_pinsReset {s : State} (hp : powered s = true) (h : pinsReset s = true) (b : Bool) : lowPin s b = .low := by
  simp [lowPin, hp, h, level]

/-- Without power every output pin is high-Z (R44). -/
theorem pins_of_unpowered {s : State} (h : powered s = false) (ph : HsPhase) (sh : Bool) (i t : Nat) :
    chPins s i = .highZ ∧ excPins s i = .highZ ∧ lnTx s i = .highZ ∧ lnRx s = .highZ ∧ timingPin s i t = .highZ ∧ hsDq s ph i = .highZ ∧
      hsDqs s ph = .highZ ∧ hsBusyN s ph = .highZ ∧ hsIrqN s = .highZ ∧ tdo s sh = .highZ ∧ bstGd s = .highZ ∧ bcnG s i = .highZ ∧
      bchEn s = .highZ ∧ bchOut s = .highZ := by
  have hlow := lowPin_of_unpowered h
  have hi : powered s = false ∨ pinsReset s = true := .inl h
  exact ⟨chPins_of_idle hi i, excPins_of_idle hi i, by simp [lnTx, h], by simp [lnRx, h], hlow _, hsDq_of_idle hi ph i,
    hsDqs_of_idle hi ph, by simp [hsBusyN, h], by simp [hsIrqN, h], by simp [tdo, h], (bstGd_of_idle hi).trans (hlow _),
    (bcnG_of_idle hi i).trans (hlow _), hlow _, (bchOut_of_idle hi).trans (hlow _)⟩

/-- A hub that RESET_N holds shows the Reset state on every pin (R45). -/
theorem pins_of_pinReset {s : State} (hp : powered s = true) (hq : s.pwr.phase = .pin) (ph : HsPhase) (i x : Nat) :
    chPins s i = .highZ ∧ excPins s i = .highZ ∧ lnTx s i = .eIdle ∧ lnRx s = .termination ∧ timingPin s i x = .low ∧
      hsDq s ph i = .highZ ∧ hsDqs s ph = .highZ ∧ hsBusyN s ph = .low ∧ hsIrqN s = .released ∧ bstGd s = .low ∧ bcnG s i = .low ∧
      bchEn s = .low ∧ bchOut s = .low := by
  have hrun : running s = false := by simp [running, hq]
  have hr : pinsReset s = true := by simp [pinsReset, hrun]
  have htx : txOn s i = false := by simp [txOn, hq]
  have hlow := lowPin_of_pinsReset hp hr
  have hi : powered s = false ∨ pinsReset s = true := .inr hr
  exact ⟨chPins_of_idle hi i, excPins_of_idle hi i, by simp [lnTx, hp, htx], by simp [lnRx, hp, hr], hlow _, hsDq_of_idle hi ph i,
    hsDqs_of_idle hi ph, by simp [hsBusyN, hp, hostUp, hrun, level], by simp [hsIrqN, hp, hr], (bstGd_of_idle hi).trans (hlow _),
    (bcnG_of_idle hi i).trans (hlow _), hlow _, (bchOut_of_idle hi).trans (hlow _)⟩

/-! ### The host port and TDO in service (R40, R45, R385) -/

theorem hsDq_eq_driven_iff (s : State) (ph : HsPhase) (i : Nat) :
    hsDq s ph i = .driven ↔ hsReading s ph = true ∧ dqOut s.hst.gen i = true := by
  simp [hsDq]

theorem hsDqs_of_reading {s : State} {ph : HsPhase} (h : hsReading s ph = true) :
    hsDqs s ph = if 2 ≤ s.hst.gen then .driven else .highZ := by
  simp [hsDqs, h]

theorem pinsReset_of_service {s : State} (hr : running s = true) (hj : s.jtag.held = false) : pinsReset s = false := by
  simp [pinsReset, hr, hj]

section

variable {s : State} (hp : powered s = true) (hr : running s = true) (hj : s.jtag.held = false)
include hp hr hj

/-- The port of a hub in service sends read data in that phase alone. -/
theorem hsReading_of_service (ph : HsPhase) : hsReading s ph = decide (ph = .dataOut) := by
  simp [hsReading, hp, pinsReset_of_service hr hj]

theorem hsBusyN_of_service (ph : HsPhase) : hsBusyN s ph = level (decide (ph ≠ .access)) := by
  simp [hsBusyN, hp, hostUp, hr, hj]

theorem hsIrqN_eq_low_iff : hsIrqN s = .low ↔ hsIrqLow s = true := by
  simp [hsIrqN, hp, pinsReset_of_service hr hj]

theorem hostPins_of_service (i : Nat) :
    (s.hst.gen = 0 → (hsDq s .dataOut i = .driven ↔ i = 1) ∧ hsDqs s .dataOut = .highZ) ∧
      (s.hst.gen = 1 → (hsDq s .dataOut i = .driven ↔ i < 4) ∧ hsDqs s .dataOut = .highZ) ∧
      (s.hst.gen = 2 → (hsDq s .dataOut i = .driven ↔ i < 8) ∧ hsDqs s .dataOut = .driven) ∧
      hsBusyN s .access = .low ∧ hsBusyN s .none = .high ∧ hsDq s .clockIn i = .highZ ∧ tdo s true = .driven ∧ tdo s false = .highZ ∧
      (hsIrqN s = .low ↔ hsIrqLow s = true) := by
  have hread := hsReading_of_service hp hr hj
  have hout : hsReading s .dataOut = true := hread .dataOut
  have hgen : ∀ g, s.hst.gen = g →
      (hsDq s .dataOut i = .driven ↔ dqOut g i = true) ∧ hsDqs s .dataOut = if 2 ≤ g then .driven else .highZ := by
    rintro g rfl
    exact ⟨by simp [hsDq_eq_driven_iff, hout], hsDqs_of_reading hout⟩
  have hbusy := hsBusyN_of_service hp hr hj
  refine ⟨fun hg => (hgen 0 hg).imp_left (·.trans decide_eq_true_iff), fun hg => (hgen 1 hg).imp_left (·.trans decide_eq_true_iff),
    fun hg => (hgen 2 hg).imp_left (·.trans decide_eq_true_iff), hbusy .access, hbusy .none, ?_, ?_, ?_, hsIrqN_eq_low_iff hp hr hj⟩
  · simp [hsDq, hread]
  · simp [tdo, hp, hr]
  · simp [tdo]

end

/-- Settles O16: every source leads to the one whole-hub reset with its own cause, and the pins follow from whether they are powered, at
their Reset state or served. -/
theorem wholeHubReset : Obligations.WholeHubReset := by
  refine ⟨powerOnReset_resets,
    fun o s ho hp => ⟨xosReset s, xosLoss_resets ho hp, atReset_wholeReset .., rfl, rfl, rfl, rfl, rg_wholeReset_cause ..⟩,
    fun ns s hn hp hq => ⟨pinReset s, resetNAssert_resets hn hp hq, atReset_wholeReset .., rfl, rfl, rfl, rg_wholeReset_cause ..⟩,
    fun ns s h => resetNAssert_ignored s h, fun d s h => xosLoss_ignored s h, fun ph sh i t s h => pins_of_unpowered h ph sh i t,
    fun ns i x ph s hn hcore hp hq => ⟨pinReset s, resetNAssert_resets hn hp hq, pins_of_pinReset (s := pinReset s) hcore rfl ph i x⟩,
    fun i s hcore hr hj _ => hostPins_of_service hcore hr hj i⟩

end Sys2Proof.Machine

/-! SUPPORT. From the release of reset through boot to service (R42, R55, R65), and the boundary-scan port (R63, R428, R429). -/

namespace Sys2Proof.Machine

open Sys2Proof

theorem exec_coreRailPresent (s : State) : exec .coreRailPresent s = execCoreRailPresent s := rfl
theorem exec_xosRestored (s : State) : exec .xosRestored s = execXosRestored s := rfl
theorem exec_porRelease (st : Straps) (s : State) : exec (.porRelease st) s = execPorRelease st s := rfl
theorem exec_resetNRelease (st : Straps) (s : State) : exec (.resetNRelease st) s = execResetNRelease st s := rfl
theorem exec_bootComplete (fuse rom : Bool) (f : FuseData) (s : State) :
    exec (.bootComplete fuse rom f) s = execBootComplete fuse rom f s := rfl
theorem exec_trstNAssert (s : State) : exec .trstNAssert s = execTrstNAssert s := rfl

/-! ### The release of the reset (R42, R55, R57) -/

/-- With rails and XOS good the hold ends: FT is sampled, and RESET_N decides whether boot starts. -/
theorem porRelease_eq {st : Straps} {s : State} (hph : s.pwr.phase = .por) (hc : s.pwr.core = true) (hx : s.pwr.xos = true) :
    exec (.porRelease st) s = .next (if s.pwr.resetNLow then { s with pwr := { s.pwr with ft := st.ft, phase := .pin } }
      else bootStart st { s with pwr := { s.pwr with ft := st.ft } }) := by
  rw [exec_porRelease, execPorRelease, if_pos ⟨hph, hc, hx⟩]
  rfl

theorem resetNRelease_eq {st : Straps} {s : State} (hph : s.pwr.phase = .pin) :
    exec (.resetNRelease st) s = .next (bootStart st { s with pwr := { s.pwr with resetNLow := false } }) :=
  congrArg Host.Outcome.next (if_pos hph)

/-! ### The end of boot (R65, R66) -/

/-- The processor starts service: the straps give the hub state, local time the frame index. -/
def serviceStart (fuse : Bool) (f : FuseData) (s : State) : State :=
  { s with
    pwr := { s.pwr with phase := .run },
    hub := { s.hub with st := if s.hub.straps.twinEn then .standby else .unconfigured, fuseFail := !fuse, lats := if fuse then f.lats else [] },
    frame := (netNow s * (frameHz s : Nat) / 2 ^ 64).toNat }

/-- Good fuses give the column repairs; failed ones are reported (R65). -/
def fusesRead (fuse : Bool) (f : FuseData) (s : State) : State :=
  if fuse then modMem (fun m => { m with repair := f.repairs.map fuseRepair }) s else raise .hub 0 4 s

/-- Boot mode 3, which is reserved, is reported (R42). -/
def bootModeNote (s : State) : State := if s.hub.straps.bootMode = 3 then raise .hub 0 3 s else s

/-- A hub that has heard no holder message wants no RESYNC (R363). -/
theorem resyncWanted_of_unseen {s : State} (h : s.twn.seen = false) : resyncWanted s = false := by simp [resyncWanted, h]

theorem same_serviceStart (fuse : Bool) (f : FuseData) (s : State) : Same 5122 s (serviceStart fuse f s) := upd_frame_pwr_hub ..

theorem same_fusesRead (fuse : Bool) (f : FuseData) (s : State) : Same 562949953454096 s (fusesRead fuse f s) := by
  unfold fusesRead
  exact Same.ite (same_modMem rfl (fun _ => rfl) (Same.refl _ _)) (Same.step (same_raise ..) rfl (Same.refl _ _))

theorem same_bootModeNote (s : State) : Same 32784 s (bootModeNote s) := by
  unfold bootModeNote
  exact Same.ite (same_raise ..) (Same.refl _ _)

/-- What the end of boot with a good ROM leaves in a hub that has heard no holder message. -/
def booted (fuse : Bool) (f : FuseData) (s : State) : State := bootModeNote (fusesRead fuse f (serviceStart fuse f s))

theorem same_booted (fuse : Bool) (f : FuseData) (s : State) : Same 562949953459218 s (booted fuse f s) :=
  (same_bootModeNote _).comp ((same_fusesRead ..).comp (same_serviceStart ..))

theorem bootComplete_eq {s : State} (fuse : Bool) (f : FuseData) (hph : s.pwr.phase = .boot) (hs : s.twn.seen = false) :
    exec (.bootComplete fuse true f) s = .next (booted fuse f s) := by
  have hseen : (booted fuse f s).twn.seen = false := by rw [(same_booted fuse f s).twn.resolve_left (by decide), hs]
  have hex : exec (.bootComplete fuse true f) s =
      .next (if resyncWanted (booted fuse f s) then resyncEnter (booted fuse f s) else booted fuse f s) := by
    rw [exec_bootComplete, execBootComplete, if_pos hph, if_neg (by decide)]
    rfl
  rw [hex, resyncWanted_of_unseen hseen, if_neg (by decide)]

theorem bootComplete_dead {s : State} (fuse : Bool) (f : FuseData) (hph : s.pwr.phase = .boot) :
    exec (.bootComplete fuse false f) s = .next { s with pwr := { s.pwr with phase := .dead } } := by
  rw [exec_bootComplete, execBootComplete, if_pos hph, if_pos rfl]
  rfl

/-- Reports raised at the end of boot leave supplies and hub as service started them. -/
theorem booted_pwr_hub (fuse : Bool) (f : FuseData) (s : State) :
    (booted fuse f s).pwr = (serviceStart fuse f s).pwr ∧ (booted fuse f s).hub = (serviceStart fuse f s).hub := by
  have h := (same_bootModeNote (fusesRead fuse f (serviceStart fuse f s))).comp (same_fusesRead fuse f (serviceStart fuse f s))
  exact ⟨h.pwr.resolve_left (by decide), h.hub.resolve_left (by decide)⟩

theorem booted_mem (fuse : Bool) (f : FuseData) (s : State) : (booted fuse f s).mem = (fusesRead fuse f (serviceStart fuse f s)).mem :=
  (same_bootModeNote _).mem.resolve_left (by decide)

theorem booted_mem_of_failed (f : FuseData) (s : State) : (booted false f s).mem = s.mem := by
  rw [booted_mem]
  exact raise_mem ..

/-- Good fuses and a boot mode that is not reserved leave nothing to report. -/
theorem booted_regs_of_good (f : FuseData) {s : State} (h : s.hub.straps.bootMode ≠ 3) : (booted true f s).regs = s.regs := by
  rw [booted, bootModeNote, if_neg (show (fusesRead true f (serviceStart true f s)).hub.straps.bootMode ≠ 3 from h)]
  rfl

theorem bootComplete_starts {s : State} (fuse : Bool) (f : FuseData) (hph : s.pwr.phase = .boot) (hs : s.twn.seen = false) :
    ∃ t, exec (.bootComplete fuse true f) s = .next t ∧ t.pwr.phase = .run ∧
      t.hub = { s.hub with st := if s.hub.straps.twinEn then .standby else .unconfigured, fuseFail := !fuse, lats := if fuse then f.lats else [] } ∧
      (fuse = true → t.mem = { s.mem with repair := f.repairs.map fuseRepair }) ∧ (fuse = false → t.mem = s.mem) ∧
      t = { s with pwr := t.pwr, hub := t.hub, frame := t.frame, mem := t.mem, regs := t.regs, evt := t.evt } ∧
      (fuse = true → s.hub.straps.bootMode ≠ 3 → t.regs = s.regs) := by
  obtain ⟨hpwr, hhub⟩ := booted_pwr_hub fuse f s
  refine ⟨booted fuse f s, bootComplete_eq fuse f hph hs, by rw [hpwr]; rfl, hhub, ?_, ?_, (same_booted fuse f s).eq, ?_⟩
  · rintro rfl
    exact booted_mem true f s
  · rintro rfl
    exact booted_mem_of_failed f s
  · rintro rfl hm
    exact booted_regs_of_good f hm

/-! ### The boundary-scan port (R63, R428, R429) -/

/-- What the pins drop when JTAG takes them touches neither the port nor the words of the capture memory. -/
theorem pinsTaken_kept (s : State) : (pinsTaken s).jtag = { s.jtag with held := true } ∧ (pinsTaken s).mem.words = s.mem.words := by
  have hpins (x : State) : Same 26459816209776664 x (bcnSleep (forN 64 excRelease (forN 8 laneDown x))) :=
    (same_bcnSleep _).step rfl (.forN (.forN (.refl _ _) fun n y => (same_laneDown n y).mono rfl) fun o y => (same_excRelease o y).mono rfl)
  exact ⟨(hpins _).jtag.resolve_left (by decide), (hpins _).words.resolve_left (by decide)⟩

theorem jtagInstruction_passes {i : JtagOp} (s : State) (hi : jtagTakes i = false) :
    exec (.jtagInstruction i) s = .next { s with jtag := { s.jtag with instr := i } } :=
  congrArg Host.Outcome.next (if_neg (by simp [hi]))

theorem jtagInstruction_takes {i : JtagOp} (s : State) (hi : jtagTakes i = true) :
    ∃ t, exec (.jtagInstruction i) s = .next t ∧ t.jtag = ⟨i, true⟩ ∧ t.mem.words = s.mem.words :=
  ⟨_, congrArg Host.Outcome.next (if_pos hi), pinsTaken_kept _⟩

/-- Settles O17: the release of the reset by RESET_N, the end of boot by ROM and fuses, and the instructions of the boundary-scan port by
whether they take the pins. -/
theorem bootSequence : Obligations.BootSequence := by
  refine ⟨exec_coreRailPresent, exec_xosRestored, fun st s hph hc hx hl => ?_, fun st s hph hc hx hl => ?_,
    fun st s hph => ⟨_, resetNRelease_eq hph, rfl, rfl, rfl, rfl⟩, fun fuse f s hph hs => bootComplete_starts fuse f hph hs,
    fun fuse f s hph => bootComplete_dead fuse f hph, fun i s hi => jtagInstruction_passes s hi,
    fun i s hi => jtagInstruction_takes s hi, exec_trstNAssert⟩
  · rw [porRelease_eq hph hc hx, hl, if_neg (by decide)]
    exact ⟨_, rfl, rfl, rfl, rfl, rfl⟩
  · rw [porRelease_eq hph hc hx, hl, if_pos rfl]
    exact ⟨_, rfl, rfl, rfl⟩

end Sys2Proof.Machine

/-! SUPPORT. The hub as its first boot begins (R57, R63, R65). -/

namespace Sys2Proof.Machine

open Sys2Proof

/-- As boot begins after the first power-on, CLK_RST_CAUSE alone differs from its reset value. -/
theorem rg_reset_ne {a : Nat} (ha : a ≠ 0x1044) : rg State.reset a = regReset a := if_neg (Ne.symm ha)

theorem atReset_reset : AtReset State.reset State.reset where
  regs _ ha := rg_reset_ne ha
  staged := rfl
  hub := rfl
  cmt := rfl
  chans := ⟨rfl, rfl, rfl, rfl⟩
  drives := ⟨rfl, rfl, rfl, rfl⟩
  dsp := ⟨rfl, rfl, rfl⟩
  coef := ⟨rfl, rfl, rfl, rfl⟩
  tmb := ⟨rfl, rfl, rfl⟩
  links _ := ⟨rfl, rfl⟩
  data := ⟨rfl, rfl, rfl, rfl, rfl, rfl, rfl⟩
  engines := ⟨rfl, rfl, rfl⟩
  twin := ⟨rfl, rfl, rfl⟩
  cmds := ⟨rfl, rfl, rfl⟩
  queue := rfl

/-- Settles O2: the reset state is the hub at reset, its cause the first ramp. -/
theorem resetState : Obligations.ResetState :=
  ⟨atReset_reset, rfl, rfl, rfl, rfl, rfl, rfl, rfl⟩

end Sys2Proof.Machine

/-! SUPPORT. The drivers that return with a field die are counted in their sheaf's registers (R54, R71, R127, R139). -/

namespace Sys2Proof.Machine

open Sys2Proof

theorem exec_dieChannelRestore (n : Nat) (s : State) : exec (.dieChannelRestore n) s = execDieChannelRestore n s := rfl

/-- Die 0 is back with its rails and its link, no channel of it in use; output 0 of sheaf 0 is OFF and asks for AUTO. -/
def driverWaits : State :=
  { setRg (excCfgA 0) 0x400000#32 State.reset with
    pwr := { phase := .run }
    hub := { st := .solo }
    dies := [(0, { lost := true, up := true, trained := true, ok0 := true, ok1 := true, ok2 := true, restoring := true })] }

/-- The hub once the die's channels and drivers have returned. -/
def driversBack : State := match exec (.dieChannelRestore 0) driverWaits with
  | .next t => t
  | _ => driverWaits

theorem dieChannelRestore_driverWaits : exec (.dieChannelRestore 0) driverWaits = .next driversBack := rfl

/-- The driver has left OFF, and its change of mode is counted in the sheaf's register (R139). -/
theorem driversBack_counts : rg driversBack (shfReg 0 0x30) = 1#32 := by decide +kernel

/-- Refutes O18: a driver that returns with its die changes its mode, which counts in its sheaf's register of mode changes, so the
interrupt registers are not the only ones to change. -/
theorem not_railLosses : ¬ Obligations.RailLosses := by
  unfold Obligations.RailLosses
  rintro ⟨_, _, _, _, _, _, hback⟩
  obtain ⟨t, ht, _, _, _, _, _, _, hregs, _⟩ := hback 0 driverWaits (by decide) (by decide) (by decide) (by decide +kernel)
  obtain rfl : driversBack = t := Host.Outcome.next.inj (dieChannelRestore_driverWaits.symm.trans ht)
  have hcount : rg driversBack (shfReg 0 0x30) = rg driverWaits (shfReg 0 0x30) := hregs _ (by decide)
  rw [driversBack_counts] at hcount
  exact absurd hcount (by decide)

end Sys2Proof.Machine

/-! SUPPORT. Time transfer over a lane (R73, R204 to R207, R453), and the choice of the source (R209). -/

namespace Sys2Proof.Machine

open Sys2Proof

theorem exec_timeOsReceive (n ch3 t : Nat) (s : State) : exec (.timeOsReceive n ch3 t) s = execTimeOsReceive n ch3 t s := rfl
theorem exec_timeStampDiscard (n : Nat) (s : State) : exec (.timeStampDiscard n) s = execTimeStampDiscard n s := rfl
theorem exec_timePacketReceive (n : Nat) (pk : TimePkt) (t : Nat) (s : State) :
    exec (.timePacketReceive n pk t) s = execTimePacketReceive n pk t s := rfl
theorem exec_dlyJump (n : Nat) (s : State) : exec (.dlyJump n) s = execDlyJump n s := rfl
theorem exec_sourceChange (s : State) : exec .sourceChange s = execSourceChange s := rfl

theorem advance_upd (t : Nat) (s : State) : ∃ c, advance t s = { s with c := c } := by
  unfold advance
  split
  · exact ⟨_, rfl⟩
  · exact ⟨_, rfl⟩

/-! ### The lanes that take time (R73, R204, R453) -/

section

variable {n : Nat} {s : State} (hl : linkLive s = true) (hn : n < 8) (hu : laneUp s n = true) (ha : s.pwr.sleep ≠ .asleep)
include hl hn hu ha

theorem timeOsReceive_eq (ch3 t : Nat) : exec (.timeOsReceive n ch3 t) s = .next (osArrive n ch3 t (advance t s)) := by
  rw [exec_timeOsReceive, execTimeOsReceive, if_pos (by simp [hl, hn, hu, ha])]

theorem timePacketReceive_eq (pk : TimePkt) (t : Nat) : exec (.timePacketReceive n pk t) s = .next (timePacket n pk t (advance t s)) := by
  rw [exec_timePacketReceive, execTimePacketReceive, if_pos (by simp [hl, hn, hu, ha])]

end

theorem timePacketReceive_asleep (n : Nat) (pk : TimePkt) (t : Nat) {s : State} (ha : s.pwr.sleep = .asleep) :
    exec (.timePacketReceive n pk t) s = .next s := by
  rw [exec_timePacketReceive, execTimePacketReceive, if_neg (by simp [ha])]

/-- The stamp of an ordered set is corrected by the latency of its lane, whatever the counter reads by then (R204). -/
theorem osArrive_advance (n ch3 t : Nat) (s : State) : ∃ c, osArrive n ch3 t (advance t s) = { modTlane n (fun x =>
    { x with held := some (ch3 % 256, netTime s (t - (fuseLat s n).2), s.tmb.ser), heldAt := t }) s with c := c } := by
  obtain ⟨c, hc⟩ := advance_upd t s
  exact ⟨c, by rw [hc]; rfl⟩

/-! ### What a packet records (R205, R453) -/

/-- A lane's record once a sound packet has met the held arrival. -/
def arrivalNoted (pk : TimePkt) (t : Nat) (x : TLane) : TLane :=
  let y := { x with peerState := pk.state, peerHops := pk.hops % 16, peerSer := pk.stepser % 16, peerBound := pk.bound, held := none }
  match x.held with
  | some (c, t2, ser) => if c = pk.id % 256 ∧ t ≤ x.heldAt + usTau 25 then { y with arr := some ⟨pk.id, pk.dep, pk.stepser, t2, ser⟩ } else y
  | none => y

theorem recordArrival_eq (n : Nat) (pk : TimePkt) (t : Nat) (s : State) : recordArrival n pk t s = modTlane n (arrivalNoted pk t) s := rfl

/-- A packet touches of its lane's record the arrivals and what the partner says of itself. -/
theorem arrivalNoted_upd (pk : TimePkt) (t : Nat) (x : TLane) : ∃ a, arrivalNoted pk t x =
    { x with peerState := pk.state, peerHops := pk.hops % 16, peerSer := pk.stepser % 16, peerBound := pk.bound, held := none, arr := a } := by
  unfold arrivalNoted
  split
  · split
    · exact ⟨_, rfl⟩
    · exact ⟨_, rfl⟩
  · exact ⟨_, rfl⟩

/-- The arrival is recorded within 25 us of its ordered set (R453). -/
theorem arrivalNoted_of_held {pk : TimePkt} {x : TLane} {t2 : Int} {ser : Nat} (t : Nat) (h : x.held = some (pk.id % 256, t2, ser)) :
    arrivalNoted pk t x = { x with peerState := pk.state, peerHops := pk.hops % 16, peerSer := pk.stepser % 16, peerBound := pk.bound, held := none, arr := if t ≤ x.heldAt + usTau 25 then some ⟨pk.id, pk.dep, pk.stepser, t2, ser⟩ else x.arr } := by
  simp only [arrivalNoted, h, true_and]
  split
  · rfl
  · rfl

/-- The source's bound changes with the verdict that the change brings; in FREE it brings none (R194). -/
theorem setBound_upd (b : Nat) (s : State) : ∃ v, setBound b s = { s with tmb := { s.tmb with srcBound := b, tunlAt := v } } ∧
    (s.tmb.st = .free → v = s.tmb.tunlAt) := by
  unfold setBound tunlVerdict
  split
  · rename_i h
    refine ⟨_, rfl, fun hfree => ?_⟩
    simp [tunlNow, hfree] at h
  · exact ⟨_, rfl, fun _ => rfl⟩

/-- What every sound packet does, with an exchange or without: it is recorded, and the source's brings its bound. -/
def packetNoted (n : Nat) (pk : TimePkt) (t : Nat) (s : State) : State :=
  if s.tmb.src = some n then setBound pk.bound (modTlane n (arrivalNoted pk t) s) else modTlane n (arrivalNoted pk t) s

theorem packetNoted_upd (n : Nat) (pk : TimePkt) (t : Nat) (s : State) : ∃ b v, packetNoted n pk t s =
    { s with tmb := { s.tmb with lanes := (modTlane n (arrivalNoted pk t) s).tmb.lanes, srcBound := b, tunlAt := v } } := by
  unfold packetNoted
  split
  · obtain ⟨v, hv, _⟩ := setBound_upd pk.bound (modTlane n (arrivalNoted pk t) s)
    exact ⟨_, _, hv⟩
  · exact ⟨_, _, rfl⟩

theorem tlane_packetNoted (n : Nat) (pk : TimePkt) (t : Nat) (s : State) (m : Nat) :
    tlane (packetNoted n pk t s) m = tlane (modTlane n (arrivalNoted pk t) s) m := by
  obtain ⟨b, v, h⟩ := packetNoted_upd n pk t s
  rw [h]
  rfl

/-- Whether a packet completes an exchange, and whether its delay fits, its own record does not change. -/
theorem exchangeOf_arrivalNoted (pk : TimePkt) (t : Nat) (x : TLane) : exchangeOf (arrivalNoted pk t x) pk = exchangeOf x pk := by
  obtain ⟨a, h⟩ := arrivalNoted_upd pk t x
  rw [h]
  rfl

theorem dlyOk_arrivalNoted (pk : TimePkt) (t : Nat) (x : TLane) (d : Int) : dlyOk (arrivalNoted pk t x) d = dlyOk x d := by
  obtain ⟨a, h⟩ := arrivalNoted_upd pk t x
  rw [h]
  rfl

/-! ### The packet and its exchange (R206, R207) -/

theorem timePacket_badCrc {pk : TimePkt} (n t : Nat) (s : State) (h : pk.crcOk = false) :
    timePacket n pk t s = modTlane n (fun x => { x with held := none }) s := if_pos h

theorem timePacket_sound {pk : TimePkt} (n t : Nat) (s : State) (h : pk.crcOk = true) :
    timePacket n pk t s = match exchangeOf (tlane s n) pk with
      | none => packetNoted n pk t s
      | some (x, a, d) =>
        if exchSound x a d pk = false then bump 0x3024 1 (modTlane n (fun y => { y with rejDly := 0 }) (packetNoted n pk t s))
        else if dlyOk (tlane s n) (exDly x) then takeExchange n x (packetNoted n pk t s)
        else bump 0x3024 1 (modTlane n (fun y => { y with rejDly := y.rejDly + 1, rejLast := exDly x }) (packetNoted n pk t s)) := by
  have hl : tlane (packetNoted n pk t s) n = arrivalNoted pk t (tlane s n) := by rw [tlane_packetNoted, tlane_modTlane_self]
  rw [← exchangeOf_arrivalNoted pk t, ← hl]
  simp only [← dlyOk_arrivalNoted pk t (tlane s n), ← hl]
  rw [timePacket, if_neg (by simp [h])]
  rfl

/-- A lane's record once an exchange on it has been found valid (R207). -/
def exchangeTaken (x : Exch) (asy : Int) (y : TLane) : TLane :=
  { y with
    nValid := y.nValid + 1, dlys := (exDly x :: y.dlys).take 16, ofss := (exOfs x :: y.ofss).take 1024, rejDly := 0,
    ofs := exOfs x, dly := exDly x, age := 0, now := some (x, exOfs x - asy) }

/-- With a source selected, a valid exchange changes its lane's record and is counted. -/
theorem takeExchange_of_src {n : Nat} (x : Exch) {s : State} (h : s.tmb.src ≠ none) :
    takeExchange n x s = bump 0x3020 1 (modTlane n (exchangeTaken x (asym s n)) s) := by
  unfold takeExchange
  extract_lets d o th s1 s2
  exact if_neg fun hnone => h (Option.isNone_iff_eq_none.1 hnone.1)

/-! ### The packet's row by its checksum and its exchange -/

section

variable {n : Nat} {s : State} (hl : linkLive s = true) (hn : n < 8) (hu : laneUp s n = true) (ha : s.pwr.sleep ≠ .asleep)
variable {pk : TimePkt} (hcrc : pk.crcOk = true)
include hl hn hu ha hcrc

theorem timePacketReceive_alone (t : Nat) (hex : exchangeOf (tlane s n) pk = none) :
    exec (.timePacketReceive n pk t) s = .next (packetNoted n pk t (advance t s)) := by
  rw [timePacketReceive_eq hl hn hu ha, timePacket_sound _ _ _ hcrc, tlane_advance, hex]

variable {x : Exch} {a : TArr} {d : TDep} (hex : exchangeOf (tlane s n) pk = some (x, a, d))
include hex

/-- An exchange that is not sound ends the row of rejected delays (R207). -/
theorem timePacketReceive_unsound (t : Nat) (hsound : exchSound x a d pk = false) : exec (.timePacketReceive n pk t) s =
    .next (bump 0x3024 1 (modTlane n (fun y => { y with rejDly := 0 }) (packetNoted n pk t (advance t s)))) := by
  rw [timePacketReceive_eq hl hn hu ha, timePacket_sound _ _ _ hcrc, tlane_advance, hex]
  exact congrArg _ (if_pos hsound)

variable (hsound : exchSound x a d pk = true)
include hsound

/-- A sound exchange whose delay is off the mean joins the row of rejected delays (R207). -/
theorem timePacketReceive_off (t : Nat) (hdly : dlyOk (tlane s n) (exDly x) = false) : exec (.timePacketReceive n pk t) s =
    .next (bump 0x3024 1 (modTlane n (fun y => { y with rejDly := y.rejDly + 1, rejLast := exDly x })
      (packetNoted n pk t (advance t s)))) := by
  rw [timePacketReceive_eq hl hn hu ha, timePacket_sound _ _ _ hcrc, tlane_advance, hex]
  dsimp only
  rw [hsound, hdly]
  rfl

/-- A valid exchange is taken (R207). -/
theorem timePacketReceive_valid (t : Nat) (hdly : dlyOk (tlane s n) (exDly x) = true) (hsrc : s.tmb.src ≠ none) :
    exec (.timePacketReceive n pk t) s =
      .next (bump 0x3020 1 (modTlane n (exchangeTaken x (asym s n)) (packetNoted n pk t (advance t s)))) := by
  obtain ⟨c, hc⟩ := advance_upd t s
  obtain ⟨b, v, hp⟩ := packetNoted_upd n pk t { s with c := c }
  have hnsrc : (packetNoted n pk t { s with c := c }).tmb.src ≠ none := by
    rw [hp]
    exact hsrc
  have hasym : asym (packetNoted n pk t { s with c := c }) n = asym s n := by
    rw [hp]
    rfl
  rw [timePacketReceive_eq hl hn hu ha, timePacket_sound _ _ _ hcrc, tlane_advance, hex]
  dsimp only
  rw [hsound, hdly, hc, takeExchange_of_src x hnsrc, hasym]
  rfl

end

/-- What a packet with an exchange leaves: its lane's record as noted and judged, one count. -/
structure ExchangeJudged (n a : Nat) (pk : TimePkt) (t : Nat) (f : TLane → TLane) (s u : State) : Prop where
  frame : u = { s with c := u.c, regs := u.regs, tmb := { s.tmb with lanes := u.tmb.lanes, srcBound := u.tmb.srcBound, tunlAt := u.tmb.tunlAt } }
  own : ∃ r, tlane u n = f { tlane s n with peerState := pk.state, peerHops := pk.hops % 16, peerSer := pk.stepser % 16, peerBound := pk.bound, held := none, arr := r }
  others : ∀ m, m ≠ n → tlane u m = tlane s m
  count : rg u a = word (satAdd 32 (rg s a).toNat 1)
  regs : SameRegs [a] s u

theorem exchangeJudged (n a : Nat) (pk : TimePkt) (t : Nat) (f : TLane → TLane) (s : State) :
    ExchangeJudged n a pk t f s (bump a 1 (modTlane n f (packetNoted n pk t (advance t s)))) := by
  obtain ⟨c, hc⟩ := advance_upd t s
  obtain ⟨b, v, hp⟩ := packetNoted_upd n pk t { s with c := c }
  obtain ⟨r, hr⟩ := arrivalNoted_upd pk t (tlane s n)
  have hl : ∀ m, tlane (packetNoted n pk t { s with c := c }) m = tlane (modTlane n (arrivalNoted pk t) s) m :=
    tlane_packetNoted n pk t { s with c := c }
  rw [hc]
  refine ⟨?_, ⟨r, ?_⟩, fun m hm => ?_, ?_, fun x hx => ?_⟩
  · rw [hp]
    rfl
  · rw [tlane_bump, tlane_modTlane_self, hl, tlane_modTlane_self, hr]
  · rw [tlane_bump, tlane_modTlane_ne _ _ _ _ hm, hl, tlane_modTlane_ne _ _ _ _ hm]
  · rw [rg_bump_self, hp]
    rfl
  · rw [rg_bump_ne 1 _ (List.ne_of_not_mem_cons hx), hp]
    rfl

/-! ### The delay mean and the source (R207, R209) -/

/-- The lane's delay mean starts again at the latest delay. -/
def meanRestarted (x : TLane) : TLane := { x with dlys := [x.rejLast], rejDly := 0 }

theorem dlyJump_eq {n : Nat} {s : State} (hl : live s = true) (hn : n < 8) (hr : 16 ≤ (tlane s n).rejDly) :
    exec (.dlyJump n) s = .next (raise .tmb 0 6 (modTlane n meanRestarted s)) := by
  rw [exec_dlyJump, execDlyJump, if_pos (by simp [hl, hn, hr])]
  rfl

/-- The restart of a lane's delay mean changes its record and interrupts (R207). -/
structure MeanRestarted (n : Nat) (s u : State) : Prop where
  frame : u = { s with regs := u.regs, evt := u.evt, tmb := { s.tmb with lanes := u.tmb.lanes } }
  own : tlane u n = meanRestarted (tlane s n)
  others : ∀ m, m ≠ n → tlane u m = tlane s m
  irq : rg u (pgIrq .tmb 0) = rg s (pgIrq .tmb 0) ||| 0x40#32
  regs : SameRegs [pgIrq .tmb 0] s u

theorem meanRestarts (n : Nat) (s : State) : MeanRestarted n s (raise .tmb 0 6 (modTlane n meanRestarted s)) where
  frame := by
    rw [raise_tmb]
    exact (same_raise .tmb 0 6 (modTlane n meanRestarted s)).eq
  own := (tlane_raise ..).trans (tlane_modTlane_self ..)
  others _ hm := (tlane_raise ..).trans (tlane_modTlane_ne _ _ _ _ hm)
  irq := rg_raise_self ..
  regs _ ha := rg_raise_ne 6 _ (List.ne_of_not_mem_cons ha)

theorem setSrc_some (m : Nat) (s : State) : setSrc (some m) s = bump 0x302C 1 (raise .tmb 0 3
    (setBound (tlane s m).peerBound (modTmb (fun x => { x with src := some m, srcGone := false }) s))) := by
  unfold setSrc
  cases s.tmb.src <;> rfl

theorem setSrc_none (s : State) :
    ∃ gone, setSrc none s = bump 0x302C 1 (raise .tmb 0 3 (modTmb (fun x => { x with src := none, srcGone := gone }) s)) := ⟨_, rfl⟩

theorem sourceChange_eq {n : Option Nat} {s : State} (hl : live s = true) (hw : srcWant s = some n) :
    exec .sourceChange s = .next (setSrc n s) := by
  rw [exec_sourceChange, execSourceChange, hw]
  exact if_pos hl

/-- A change of the source is counted and interrupts (R209). -/
structure SourceCounted (x : Tmb) (s u : State) : Prop where
  frame : ∃ r e, u = { s with regs := r, evt := e, tmb := x }
  count : rg u 0x302C = word (satAdd 32 (rg s 0x302C).toNat 1)
  regs : SameRegs [0x302C, pgIrq .tmb 0] s u

theorem sourceCounted (x : Tmb) (s : State) : SourceCounted x s (bump 0x302C 1 (raise .tmb 0 3 { s with tmb := x })) where
  frame := ⟨_, _, ((same_bump 0x302C 1 _).comp (same_raise .tmb 0 3 { s with tmb := x })).eq⟩
  count := by
    rw [rg_bump_self, rg_raise_ne 3 _ (by decide)]
    rfl
  regs := by
    intro a ha
    obtain ⟨hc, hi⟩ : a ≠ 0x302C ∧ a ≠ pgIrq .tmb 0 := by simpa using ha
    rw [rg_bump_ne 1 _ hc, rg_raise_ne 3 _ hi]
    rfl

theorem sourceChange_to {m : Nat} {s : State} (hl : live s = true) (hw : srcWant s = some (some m)) :
    ∃ v u, exec .sourceChange s = .next u ∧
      SourceCounted { s.tmb with src := some m, srcGone := false, srcBound := (tlane s m).peerBound, tunlAt := v } s u := by
  obtain ⟨v, hv, _⟩ := setBound_upd (tlane s m).peerBound (modTmb (fun x => { x with src := some m, srcGone := false }) s)
  refine ⟨v, _, ?_, sourceCounted ..⟩
  rw [sourceChange_eq hl hw, setSrc_some, hv]
  rfl

theorem sourceChange_away {s : State} (hl : live s = true) (hw : srcWant s = some none) :
    ∃ gone u, exec .sourceChange s = .next u ∧ SourceCounted { s.tmb with src := none, srcGone := gone } s u := by
  obtain ⟨gone, hg⟩ := setSrc_none s
  refine ⟨gone, _, ?_, sourceCounted ..⟩
  rw [sourceChange_eq hl hw, hg]
  rfl

/-- Settles O27: a packet by its checksum, its exchange and the tests of R207, each with what it leaves of its lane's record; the other
rows by their equations. -/
theorem timeTransfer : Obligations.TimeTransfer := by
  refine ⟨fun n ch3 t s hl hn hu ha => ?_, fun n s hl hn => ?_, fun n t pk s hl hn hu ha hcrc => ?_,
    fun n t ser t2 pk s hl hn hu ha hcrc hex hsrc hheld => ?_, fun n t pk s hl hn hu ha hcrc hex hsrc => ?_,
    fun n t pk x a d s hl hn hu ha hcrc hex hsound => ?_, fun n t pk x a d s hl hn hu ha hcrc hex hsound hdly => ?_,
    fun n t pk x a d s hl hn hu ha hcrc hex hsound hdly hsrc => ?_, fun n t pk s ha => timePacketReceive_asleep n pk t ha,
    fun n s hl hn hr => ?_, fun m s hl hw => ?_, fun s hl hw => ?_, fun s hw => ?_⟩
  · obtain ⟨c, hc⟩ := osArrive_advance n ch3 t s
    rw [timeOsReceive_eq hl hn hu ha, hc]
    exact ⟨_, rfl, rfl, tlane_modTlane_self .., fun m hm => tlane_modTlane_ne _ _ _ _ hm⟩
  · rw [exec_timeStampDiscard, execTimeStampDiscard, if_pos (by simp [hl, hn])]
    exact ⟨_, rfl, rfl, tlane_modTlane_self .., fun m hm => tlane_modTlane_ne _ _ _ _ hm⟩
  · obtain ⟨c, hc⟩ := advance_upd t s
    rw [timePacketReceive_eq hl hn hu ha, timePacket_badCrc _ _ _ hcrc, hc]
    exact ⟨_, rfl, rfl, tlane_modTlane_self .., fun m hm => tlane_modTlane_ne _ _ _ _ hm⟩
  · obtain ⟨c, hc⟩ := advance_upd t s
    have hnoted : packetNoted n pk t { s with c := c } = modTlane n (arrivalNoted pk t) { s with c := c } := if_neg hsrc
    rw [timePacketReceive_alone hl hn hu ha hcrc t hex, hc, hnoted]
    exact ⟨_, rfl, rfl, (tlane_modTlane_self ..).trans (arrivalNoted_of_held t hheld), fun m hm => tlane_modTlane_ne _ _ _ _ hm⟩
  · obtain ⟨c, hc⟩ := advance_upd t s
    obtain ⟨v, hv, hfree⟩ := setBound_upd pk.bound (modTlane n (arrivalNoted pk t) { s with c := c })
    have hnoted : packetNoted n pk t { s with c := c } = setBound pk.bound (modTlane n (arrivalNoted pk t) { s with c := c }) := if_pos hsrc
    obtain ⟨r, hr⟩ := arrivalNoted_upd pk t (tlane s n)
    rw [timePacketReceive_alone hl hn hu ha hcrc t hex, hc, hnoted, hv]
    exact ⟨_, rfl, rfl, congrArg (·.held) ((tlane_modTlane_self n (arrivalNoted pk t) s).trans hr),
      fun m hm => tlane_modTlane_ne _ (arrivalNoted pk t) s _ hm, hfree⟩
  · obtain ⟨hframe, ⟨r, hown⟩, hothers, hcount, hregs⟩ := exchangeJudged n 0x3024 pk t (fun y => { y with rejDly := 0 }) s
    refine ⟨_, timePacketReceive_unsound hl hn hu ha hcrc hex t hsound, hframe, ?_, ?_, ?_, hothers, hcount, hregs⟩ <;> rw [hown]
  · obtain ⟨hframe, ⟨r, hown⟩, hothers, hcount, hregs⟩ :=
      exchangeJudged n 0x3024 pk t (fun y => { y with rejDly := y.rejDly + 1, rejLast := exDly x }) s
    refine ⟨_, timePacketReceive_off hl hn hu ha hcrc hex hsound t hdly, hframe, ?_, ?_, ?_, ?_, hothers, hcount, hregs⟩ <;> rw [hown]
  · obtain ⟨hframe, ⟨r, hown⟩, hothers, hcount, hregs⟩ := exchangeJudged n 0x3020 pk t (exchangeTaken x (asym s n)) s
    refine ⟨_, timePacketReceive_valid hl hn hu ha hcrc hex hsound t hdly hsrc, hframe, ?_, ?_, ?_, ?_, ?_, ?_, hothers, hcount, hregs⟩ <;>
      rw [hown] <;> rfl
  · obtain ⟨hframe, hown, hothers, hirq, hregs⟩ := meanRestarts n s
    exact ⟨_, dlyJump_eq hl hn hr, hframe, hown, hothers, hirq, hregs⟩
  · obtain ⟨v, u, hu, ⟨r, e, rfl⟩, hcount, hregs⟩ := sourceChange_to hl hw
    exact ⟨_, hu, rfl, hcount, hregs⟩
  · obtain ⟨gone, u, hu, ⟨r, e, rfl⟩, hcount, hregs⟩ := sourceChange_away hl hw
    exact ⟨_, hu, rfl, hcount, hregs⟩
  · rw [exec_sourceChange, execSourceChange, hw]

end Sys2Proof.Machine

/-! SUPPORT. HUB_WAKE and the keepalive lane (R68, R69, R71, R316): a lane that came down to the base rate for SLEEP steps up again. -/

namespace Sys2Proof.Machine

open Sys2Proof

theorem exec_hubWake (p : Path) (tag : Nat) (s : State) : exec (.hubWake p tag) s = execHubWake p tag s := rfl

/-- A command of the right length whose turn it is runs its meaning (R392, R395). -/
theorem command_of_isNext {p : Path} {tag op : Nat} {f : Flight} {s : State} {len : Nat → Bool} (g : Flight → State → State)
    (h : IsNext p tag op f s) (hlen : len f.buf.length = true) : command op len g p tag s = .next (g f s) := by
  unfold command
  rw [if_pos h.run, h.next]
  exact congrArg _ (if_pos hlen)

theorem st_setLaneSt (n : Nat) (st : LaneSt) (s : State) : (lane (setLaneSt n st s) n).st = st := by
  unfold setLaneSt
  split
  · assumption
  · rw [lane_raise, lane_modLane_self]

/-- A lane that carries packets at another rate than the highest common one goes to ALIGN (R307). -/
theorem rateCheck_aligns {n : Nat} {s : State} (hu : laneUp s n = true) (hr : commonRate s n ≠ (lane s n).rate) :
    (lane (rateCheck n s) n).st = .align := by
  have hiso : LaneStSame (linkDown n (setLaneSt n .align s)) (isolSync (linkDown n (setLaneSt n .align s))) :=
    .ofLanes ((same_isolSync _).lanes.resolve_left (by decide))
  rw [rateCheck, if_pos ⟨hu, hr⟩, lane_modLane_self]
  exact (hiso.get n).1.trans (((laneSt_linkDown ..).get n).1.trans (st_setLaneSt ..))

/-- The hub that begins to wake with RESTORE, before its keepalive lane looks at its rate. -/
def wakingUp (s : State) : State := modPwr (fun p => { p with sleep := .waking true, pllD := true }) s

/-- HUB_WAKE with RESTORE 1 in SLEEP. -/
theorem hubWake_restore {p : Path} {tag : Nat} {f : Flight} {s : State} (h : IsNext p tag 0x0003 f s) (hlen : f.buf.length = 4)
    (hp : par f 0 1 = 1) (hsl : s.pwr.sleep = .asleep) :
    exec (.hubWake p tag) s = .next (await f .wake (rateCheck s.pwr.keep (wakingUp s))) := by
  have hreq : wakeReq true s = rateCheck s.pwr.keep (wakingUp s) := by
    simp only [wakeReq, wakeStart, hsl, if_true]
    rfl
  have hwaking : (rateCheck s.pwr.keep (wakingUp s)).pwr.sleep ≠ .awake := by
    rw [(same_rateCheck ..).pwr.resolve_left (by decide)]
    exact Sleep.noConfusion
  have hcmd : wakeCmd f s = await f .wake (rateCheck s.pwr.keep (wakingUp s)) := by
    simp [wakeCmd, hp, hsl, hreq, hwaking]
  rw [exec_hubWake, execHubWake, command_of_isNext wakeCmd h (by simp [isLen, hlen]), hcmd]

/-- The keepalive lane, which SLEEP has held at the base rate, steps up with the wake (R316). -/
theorem hubWake_aligns {p : Path} {tag : Nat} {f : Flight} {s : State} (h : IsNext p tag 0x0003 f s) (hlen : f.buf.length = 4)
    (hp : par f 0 1 = 1) (hsl : s.pwr.sleep = .asleep) (hu : laneUp s s.pwr.keep = true)
    (hr : commonRate (wakingUp s) s.pwr.keep ≠ (lane s s.pwr.keep).rate) :
    ∃ t, exec (.hubWake p tag) s = .next t ∧ (lane t s.pwr.keep).st = .align :=
  ⟨_, hubWake_restore h hlen hp hsl, rateCheck_aligns (s := wakingUp s) hu hr⟩

/-- HUB_WAKE of the host with RESTORE 1. -/
def wakeAsked : Flight := { path := .host, tag := 1, gen := 0, op := 0x0003, buf := [1, 0, 0, 0] }

/-- In SLEEP, lane 0 is UP at the base rate as keepalive lane, its partner able to every rate. -/
def sleepingUplink : State :=
  { State.reset with
    pwr := { phase := .run, sleep := .asleep, pllD := false }
    hub := { st := .sleep }
    lanes := [(0, { st := .up, pmask := 127 })]
    flight := [wakeAsked] }

/-- Refutes O50: a wake from SLEEP has the keepalive lane advertise its full mask again, which brings it to ALIGN for its rate step,
so the lanes do not stand. -/
theorem not_sleepWakeCancel : ¬ Obligations.SleepWakeCancel := by
  unfold Obligations.SleepWakeCancel
  rintro ⟨_, _, _, hwake, _⟩
  have hnext : IsNext .host 1 0x0003 wakeAsked sleepingUplink := ⟨by decide, by decide⟩
  obtain ⟨t, ht, hframe, _⟩ := hwake .host 1 wakeAsked sleepingUplink hnext rfl (by decide) rfl
  obtain ⟨u, hu, halign⟩ := hubWake_aligns hnext rfl (by decide) rfl (by decide) (by decide +kernel)
  obtain rfl : t = u := Host.Outcome.next.inj (ht.symm.trans hu)
  have hlane : (lane t 0).st = .up := by rw [hframe]; rfl
  exact absurd (hlane.symm.trans halign) (by decide)

end Sys2Proof.Machine

/-! SUPPORT. Unmapped words and the error register of a page (R76, R78). -/

namespace Sys2Proof.Machine

open Sys2Proof

/-! ### PG_ERR (R78) -/

/-- While PG_ERR is zero an error is recorded whole (R78). -/
theorem pgError_of_clear {k : PageK} {i : Nat} (st : Nat) {s : State} (h : rg s (pgErr k i) = 0) :
    pgError k i st s = setRg (pgErr k i) (word (st * 2 ^ 24 ||| s.frame % 2 ^ 24)) s := by
  simp only [pgError, h, if_true, Nat.shiftLeft_eq]

/-- While PG_ERR is not zero an error sets MORE (R78). -/
theorem pgError_of_recorded {k : PageK} {i : Nat} (st : Nat) {s : State} (h : rg s (pgErr k i) ≠ 0) :
    pgError k i st s = setRg (pgErr k i) (rg s (pgErr k i) ||| 0x80000000#32) s := by
  simp only [pgError, h, if_false]

theorem rg_pgError_of_clear {k : PageK} {i : Nat} (st : Nat) {s : State} (h : rg s (pgErr k i) = 0) :
    rg (pgError k i st s) (pgErr k i) = word (st * 2 ^ 24 ||| s.frame % 2 ^ 24) := by
  rw [pgError_of_clear st h, rg_setRg_self]

/-- Settles O8: PG_ERR takes an error by whether it is zero, and a read leaves it zero. -/
theorem firstErrorKept : Obligations.FirstErrorKept := by
  refine ⟨fun k i st s h => pgError_of_clear st h, fun k i st s h => pgError_of_recorded st h, fun p a i k s hr hp => ?_,
    fun p a i st k s hr hp => ?_⟩
  · exact ⟨_, exec_pgErrRead_of_running p hr hp, rfl, rg_setRg_self _ 0 s, fun b hne => rg_setRg_ne 0 s (by simpa using hne)⟩
  · have hzero : rg (setRg (pgErr k i) 0 s) (pgErr k i) = 0 := rg_setRg_self ..
    exact ⟨_, exec_pgErrRead_of_running p hr hp, rfl, rg_pgError_of_clear st hzero⟩

/-! ### Words that no register backs (R76) -/

/-- No page maps the address, or it lies between the blocks' registers and the active copies. -/
def Unmapped (a : Nat) : Prop := pageAt a = none ∨ 0x800 ≤ a % 0x1000 ∧ a % 0x1000 < 0x840

/-- The last _LO register of a page leaves room for its _HI half below the active copies. -/
theorem isLo_offset_le {a : Nat} (h : isLo a = true) : a % 0x1000 ≤ 0x7F0 := by
  unfold isLo at h
  split at h <;> simp [rowIx_isSome] at h <;> omega

theorem isLo_false_of_le {a : Nat} (h : 0x7F4 ≤ a % 0x1000) : isLo a = false := by
  by_contra hlo
  have := isLo_offset_le (Bool.not_eq_false _ ▸ hlo)
  omega

/-- No row of a table lies beyond its last one. -/
theorem rowIx_of_beyond {o base stride n : Nat} (h : base + stride * n < o + stride) : rowIx o base stride n = none := by
  refine if_neg ?_
  rintro ⟨_, hmod, hlt⟩
  have hle : stride * ((o - base) / stride + 1) ≤ stride * n := Nat.mul_le_mul_left _ hlt
  rw [Nat.mul_succ, Nat.mul_div_cancel' (Nat.dvd_of_mod_eq_zero hmod)] at hle
  omega

/-- From the active copies on no register is cleared by a read. -/
theorem isRc_false_of_le {a : Nat} (h : 0x800 ≤ a % 0x1000) : isRc a = false := by
  unfold isRc
  split <;> simp [rowIx_isSome] <;> omega

theorem readReg_of_unaligned {a : Nat} (p : Path) (h : MemHit) (s : State) (ha : a % 4 ≠ 0) : readReg p a h s = (0, false, s) := by
  unfold readReg
  split
  · rfl
  · exact if_pos ha

/-- A word that no register backs reads as zero, and its read does nothing (R76). -/
theorem readReg_of_unmapped {a : Nat} (p : Path) (h : MemHit) (s : State) (hu : Unmapped a) : readReg p a h s = (0, false, s) := by
  obtain hn | ⟨lo, hi⟩ := hu
  · simp only [readReg, hn]
  by_cases ha : a % 4 = 0
  · cases hp : pageAt a with
    | none => simp only [readReg, hp]
    | some e =>
      obtain ⟨k, i⟩ := e
      have hv : readVal s a = 0 := by
        simp [readVal, hp, lo, show ¬ a % 0x1000 < 0x40 by omega, show ¬ 0x840 ≤ a % 0x1000 by omega]
      have hlo : isLo a = false := isLo_false_of_le (by omega)
      have hhi : isLo (a - 4) = false := isLo_false_of_le (by omega)
      have hwin : a % 0x1000 ≠ 0xD4 := by omega
      have hrow : ∀ b t n, b + t * n < 0x800 + t → rowIx (a % 0x1000) b t n = none := fun b t n hb => rowIx_of_beyond (by omega)
      simp only [readReg, hp, ha, hv, hlo, hhi, hwin, isRc_false_of_le lo, and_false, if_false, ne_eq, not_true_eq_false,
        Bool.false_eq_true]
      cases k <;> simp [hrow, show a % 0x1000 ≠ 0x7C by omega, show a % 0x1000 ≠ 0x4C by omega, show a % 0x1000 ≠ 0x104 by omega]
  · exact readReg_of_unaligned p h s ha

/-- A write of an unmapped word, of an active copy or of no aligned word is ignored (R76). -/
theorem writeReg_ignored {a : Nat} (p : Path) (w : Word) (h : MemHit) (s : State)
    (hu : pageAt a = none ∨ 0x800 ≤ a % 0x1000 ∨ a % 4 ≠ 0) : writeReg p a w h s = (false, s) := by
  unfold writeReg
  split
  · rfl
  · next hp => exact if_pos ((hu.resolve_left (by simp [hp])).symm)

theorem exec_registerWrite (p : Path) (a : Nat) (w : Word) (s : State) :
    exec (.registerWrite p a w) s = execRegisterWrite p a w s := rfl
theorem exec_hostRd (aw : Word) (hits : List (Nat × MemHit)) (s : State) : exec (.hostRd aw hits) s = execHostRd aw hits s := rfl
theorem exec_hostWr (aw : Word) (ws : List Word) (hits : List (Nat × MemHit)) (s : State) :
    exec (.hostWr aw ws hits) s = execHostWr aw ws hits s := rfl

theorem registerWrite_of_pathOn {p : Path} (a : Nat) (w : Word) {s : State} (hp : pathOn s p = true) :
    exec (.registerWrite p a w) s = .next (writeReg p a w {} s).2 := congrArg _ (if_pos hp)

theorem registerWrite_ignored {a : Nat} (p : Path) (w : Word) (s : State)
    (hu : pageAt a = none ∨ 0x800 ≤ a % 0x1000 ∨ a % 4 ≠ 0) : exec (.registerWrite p a w) s = .next s := by
  rw [exec_registerWrite, execRegisterWrite, writeReg_ignored p w {} s hu, ite_self]

/-- A transaction that the host port performs (R387). -/
theorem hostTx_of_up {s : State} (f : State → State) (hu : hostUp s = true) (hp : hostPath s = true) : hostTx f s = f s := by
  simp only [hostTx, hu, hp, if_true, if_false, Bool.true_eq_false]

/-- An RD of one word that no register backs. -/
theorem hostRd_unmapped {aw : Word} {a : Nat} {s : State} (hu : hostUp s = true) (hp : hostPath s = true)
    (hb : burstOf aw = some (1, a)) (ha : Unmapped a) : exec (.hostRd aw []) s =
      .next { s with rd := [0], hst := { s.hst with np := false, npIdx := 0, out := wordBytes [0] } } := by
  have hr : readBurst .host a [] 1 0 s = ([0], s) := by
    simp only [readBurst, Nat.mul_zero, Nat.add_zero, readReg_of_unmapped .host _ s ha, Bool.false_eq_true, if_false]
  rw [exec_hostRd, execHostRd, hostTx_of_up _ hu hp]
  simp only [hostRead, hb, hr]
  rfl

/-- A WR of one word that nothing stores. -/
theorem hostWr_ignored {aw : Word} {a : Nat} (w : Word) {s : State} (hu : hostUp s = true) (hp : hostPath s = true)
    (hb : burstOf aw = some (1, a)) (ha : pageAt a = none ∨ 0x800 ≤ a % 0x1000) : exec (.hostWr aw [w] []) s =
      .next { s with hst := { s.hst with np := false, npIdx := 0, out := [] } } := by
  have hw : writeBurst .host a [] [w] 0 s = (1, s) := by
    simp only [writeBurst, Nat.mul_zero, Nat.add_zero, writeReg_ignored .host w _ s (ha.imp_right .inl), Bool.false_eq_true, if_false]
  rw [exec_hostWr, execHostWr, hostTx_of_up _ hu hp]
  simp only [hostWrite, hb, List.take_succ_cons, List.take_zero, hw]
  rfl

/-- Settles O7: reads and writes of words that no register backs are ignored, alone and in a burst. -/
theorem unmappedAccess : Obligations.UnmappedAccess :=
  ⟨fun p _ h s hu => readReg_of_unmapped p h s hu, fun _ _ _ hu hp hb ha => hostRd_unmapped hu hp hb ha,
    fun p _ w s hu => registerWrite_ignored p w s (hu.imp_right .inl), fun _ w _ _ hu hp hb ha => hostWr_ignored w hu hp hb ha,
    fun p _ h w s ha => ⟨readReg_of_unaligned p h s ha, registerWrite_ignored p w s (.inr (.inr ha))⟩⟩

end Sys2Proof.Machine

/-! SUPPORT. What a direct register write stores (R76, R80 to R83). -/

namespace Sys2Proof.Machine

open Sys2Proof

/-! ### Words and masks -/

theorem merge_zero (x w : Word) : merge x w 0 = x := by
  change (x &&& BitVec.allOnes 32) ||| (w &&& 0#32) = x
  rw [BitVec.and_allOnes, BitVec.and_zero, BitVec.or_zero]

/-- The row of a block register is one of its page's. -/
theorem regRow_mem {a i : Nat} {k : PageK} {r : RegRow} (hp : pageAt a = some (k, i)) (ho : 0x40 ≤ a % 0x1000)
    (hr : regRow a = some r) : r ∈ pageRows k := by
  simp only [regRow, hp, rowAt, if_neg (Nat.not_lt.2 ho)] at hr
  exact List.mem_of_find?_eq_some hr

/-- The HUB page has no staged and no W1C field. -/
theorem masks_of_hub {a i : Nat} (hp : pageAt a = some (.hub, i)) (ho : 0x40 ≤ a % 0x1000) : stMask a = 0 ∧ w1cMask a = 0 := by
  have hrows : ∀ r ∈ pageRows .hub, r.st = 0 ∧ r.w1c = 0 := by decide
  unfold stMask w1cMask
  cases hr : regRow a with
  | none => exact ⟨rfl, rfl⟩
  | some r =>
    obtain ⟨hst, hw⟩ := hrows r (regRow_mem hp ho hr)
    simp [hst, hw]

/-! ### Staged copies (R80) -/

theorem pendRg_congr {s t : State} {a : Nat} (hr : rg t a = rg s a) (hd : t.dspPend = s.dspPend) : pendRg t a = pendRg s a := by
  unfold pendRg
  rw [hr, hd]

theorem stg_congr {s t : State} {a : Nat} (hr : rg t a = rg s a) (hd : t.dspPend = s.dspPend) (hs : t.staged = s.staged) :
    stg t a = stg s a := by
  unfold stg
  rw [pendRg_congr hr hd, hs]

theorem stg_setStg_self (a : Nat) (w : Word) (s : State) : stg (setStg a w s) a = merge (pendRg s a) w (stMask a) := tget_tset_self ..

theorem stg_setStg_ne {a b : Nat} (w : Word) (s : State) (h : b ≠ a) : stg (setStg a w s) b = stg s b := tget_tset_ne' _ _ _ _ h

/-- A staged write that the open session takes for its owner (R81). -/
def stageTaken (a : Nat) (w : Word) (s : State) : State :=
  modCmt (fun c => { c with idle := 0, res := { c.res with current := false } }) (setStg a w s)

theorem stageWrite_of_open {o : Owner} (a : Nat) (w : Word) {s : State} (hst : s.cmt.st = .open_) (ho : s.cmt.owner = o) :
    stageWrite o true a w s = (stOk, stageTaken a w s) := by
  simp [stageWrite, hst, ho, stageTaken]

/-! ### Storing registers -/

/-- A register with RW fields only takes them at once. -/
theorem writePlain_of_rw {a : Nat} (p : Path) (k : PageK) (i : Nat) (w : Word) (s : State) (hst : stMask a = 0) (hw : w1cMask a = 0) :
    writePlain p k i a w s = if rwMask a = 0 then s else setRg a (merge (rg s a) w (rwMask a)) s := by
  simp only [writePlain, hst, hw, if_true]

theorem writePlain_rw_upd {a : Nat} (p : Path) (k : PageK) (i : Nat) (w : Word) (s : State) (hst : stMask a = 0) (hw : w1cMask a = 0) :
    ∃ r, writePlain p k i a w s = { s with regs := r } ∧ SameRegs [a] s (writePlain p k i a w s) ∧
      rg (writePlain p k i a w s) a = merge (rg s a) w (rwMask a) := by
  rw [writePlain_of_rw p k i w s hst hw]
  split
  · next h => exact ⟨s.regs, rfl, fun _ _ => rfl, by rw [h, merge_zero]⟩
  · exact ⟨_, rfl, fun b hb => rg_setRg_ne _ s (by simpa using hb), rg_setRg_self ..⟩

/-- A register with ST fields only has them taken into the staged copy, in the open session of the writer. -/
theorem writePlain_staged {a i : Nat} {p : Path} {k : PageK} (w : Word) {s : State} (hrw : rwMask a = 0) (hw : w1cMask a = 0)
    (hst : stMask a ≠ 0) (he : expert s k i = true) (hopen : s.cmt.st = .open_) (ho : s.cmt.owner = ownerDirect p) :
    writePlain p k i a w s = stageTaken a w s := by
  simp only [writePlain, hrw, hw, hst, he, stageWrite_of_open a w hopen ho, if_true, if_false]

/-- A change of routes is the write itself, and the EVENT packet it may owe. -/
theorem routeSync_upd (f : State → State) (s : State) : ∃ e, routeSync f s = { f s with evt := e } := by
  unfold routeSync
  dsimp only
  split
  · exact ⟨(f s).evt, rfl⟩
  · exact ⟨_, (same_evtOwe (f s)).eq⟩

/-! ### The way to a block's register (R76, R83) -/

theorem writeReg_of_directOk {a i : Nat} {k : PageK} (p : Path) (w : Word) (h : MemHit) {s : State} (hp : pageAt a = some (k, i))
    (ha : a % 4 = 0) (lo : 0x40 ≤ a % 0x1000) (hi : a % 0x1000 < 0x800) (hd : directOk s k i = true) :
    writeReg p a w h s = writeBlock p k i a w h s := by
  simp [writeReg, hp, ha, hd, Nat.not_le.2 hi, Nat.not_lt.2 lo]

/-- A page in BASIC mode refuses a direct write with NOT_PERMITTED (R83). -/
theorem writeReg_of_basic {a i : Nat} {k : PageK} (p : Path) (w : Word) (h : MemHit) {s : State} (hp : pageAt a = some (k, i))
    (ha : a % 4 = 0) (lo : 0x40 ≤ a % 0x1000) (hi : a % 0x1000 < 0x800) (hd : directOk s k i = false) :
    writeReg p a w h s = (false, pgError k i stNotPermitted s) := by
  simp [writeReg, hp, ha, hd, Nat.not_le.2 hi, Nat.not_lt.2 lo]

/-- A register of the CMT or TMB page that only stores: no action, and no row of a scheduled event. -/
abbrev StoresOnly (k : PageK) (o : Nat) : Prop :=
  k = .cmt ∧ o ≠ 0x40 ∨ k = .tmb ∧ (o < 0x200 ∧ o ≠ 0x60 ∧ o ≠ 0xA4)

theorem writeBlock_of_storesOnly {a : Nat} {k : PageK} (p : Path) (i : Nat) (w : Word) (h : MemHit) (s : State)
    (hk : StoresOnly k (a % 0x1000)) : writeBlock p k i a w h s = (false, writePlain p k i a w s) := by
  obtain ⟨rfl, ho⟩ | ⟨rfl, hlt, h60, hA4⟩ := hk
  · simp only [writeBlock, ho, if_false]
  · simp only [writeBlock, h60, hA4, show a % 0x1000 ≠ 0x300 by omega, show a % 0x1000 ≠ 0x304 by omega,
      show ¬ 0x200 ≤ a % 0x1000 by omega, false_and, if_false]

/-- The RW registers of the CMT and TMB pages that only store. -/
def plainRegs : List Nat := [0x2048, 0x2050, 0x2054, 0x2078, 0x3048, 0x304C, 0x3090, 0x30A0, 0x30A8, 0x30B0, 0x3104, 0x31E4]

theorem plainRegs_store : ∀ a ∈ plainRegs, (a % 4 = 0 ∧ 0x40 ≤ a % 0x1000 ∧ a % 0x1000 < 0x800) ∧ (stMask a = 0 ∧ w1cMask a = 0) ∧
    ∃ k ∈ [PageK.cmt, .tmb], pageAt a = some (k, 0) ∧ StoresOnly k (a % 0x1000) := by decide

/-! ### The statement -/

theorem registerWrite_plain {a i : Nat} {p : Path} {k : PageK} (w : Word) {s : State} (hon : pathOn s p = true)
    (hp : pageAt a = some (k, i)) (ha : a ∈ plainRegs) (hd : directOk s k i = true) :
    ∃ t, exec (.registerWrite p a w) s = .next t ∧ t = { s with regs := t.regs } ∧ SameRegs [a] s t ∧
      rg t a = merge (rg s a) w (rwMask a) := by
  obtain ⟨⟨h4, lo, hi⟩, ⟨hst, hw⟩, k', -, hp', hk⟩ := plainRegs_store a ha
  obtain ⟨rfl, rfl⟩ : k = k' ∧ i = 0 := by simpa [hp] using hp'
  obtain ⟨r, hupd, hregs, hself⟩ := writePlain_rw_upd p k 0 w s hst hw
  refine ⟨_, registerWrite_of_pathOn a w hon, ?_⟩
  rw [writeReg_of_directOk p w {} hp h4 lo hi hd, writeBlock_of_storesOnly p 0 w {} s hk]
  exact ⟨by rw [hupd], hregs, hself⟩

theorem registerWrite_hub {a : Nat} {p : Path} (w : Word) {s : State} (hon : pathOn s p = true) (ha : a % 4 = 0) (lo : 0x40 ≤ a)
    (hi : a < 0x800) :
    ∃ t, exec (.registerWrite p a w) s = .next t ∧ t = { s with regs := t.regs, evt := t.evt } ∧ SameRegs [a] s t ∧
      rg t a = merge (rg s a) w (rwMask a) := by
  have ho : a % 0x1000 = a := by omega
  have hp : pageAt a = some (.hub, 0) := (pageAt_congr (a := 0) (by omega)).trans rfl
  obtain ⟨hst, hw⟩ := masks_of_hub hp (by omega)
  obtain ⟨r, hupd, hregs, hself⟩ := writePlain_rw_upd p .hub 0 w s hst hw
  obtain ⟨e, hroute⟩ := routeSync_upd (writePlain p .hub 0 a w) s
  refine ⟨_, registerWrite_of_pathOn a w hon, ?_⟩
  rw [writeReg_of_directOk p w {} hp ha (by omega) (by omega) rfl]
  simp only [writeBlock, hroute]
  exact ⟨by rw [hupd], hregs, hself⟩

theorem registerWrite_staged {a i : Nat} {p : Path} {k : PageK} (w : Word) {s : State} (hon : pathOn s p = true)
    (hp : pageAt a = some (k, i)) (ha : a % 4 = 0) (lo : 0x40 ≤ a % 0x1000) (hi : a % 0x1000 < 0x800)
    (hk : k ∈ [PageK.clk, .rte, .gln]) (he : expert s k i = true) (hrw : rwMask a = 0) (hw : w1cMask a = 0) (hst : stMask a ≠ 0)
    (hopen : s.cmt.st = .open_) (ho : s.cmt.owner = ownerDirect p) :
    exec (.registerWrite p a w) s = .next (stageTaken a w s) := by
  have hblock : writeBlock p k i a w {} s = (false, writePlain p k i a w s) := by
    simp only [List.mem_cons, List.not_mem_nil, or_false] at hk
    obtain rfl | rfl | rfl := hk <;> rfl
  rw [registerWrite_of_pathOn a w hon, writeReg_of_directOk p w {} hp ha lo hi (by simp [directOk, he]), hblock,
    writePlain_staged w hrw hw hst he hopen ho]

theorem registerWrite_basic {a i : Nat} {p : Path} {k : PageK} (w : Word) {s : State} (hon : pathOn s p = true)
    (hp : pageAt a = some (k, i)) (ha : a % 4 = 0) (lo : 0x40 ≤ a % 0x1000) (hi : a % 0x1000 < 0x800) (hm : modeFixed k = false)
    (he : expert s k i = false) : exec (.registerWrite p a w) s = .next (pgError k i stNotPermitted s) := by
  rw [registerWrite_of_pathOn a w hon, writeReg_of_basic p w {} hp ha lo hi (by simp [directOk, hm, he])]

/-- Settles O10: a write goes by its page's mode and by the kind of the register's fields. -/
theorem registerWrites : Obligations.RegisterWrites := by
  refine ⟨fun p a i k w s hon hp ha hd => registerWrite_plain w hon hp ha hd,
    fun p a w s hon ha lo hi => registerWrite_hub w hon ha lo hi,
    fun p a i k w s hon hp ha lo hi hk he hrw hw hst hopen ho => ?_, fun p a i k w s hon hp ha lo hi hm he => ?_,
    fun p a w s hu => registerWrite_ignored p w s (hu.imp_right .inl)⟩
  · exact ⟨_, registerWrite_staged w hon hp ha lo hi hk he hrw hw hst hopen ho, rfl, stg_setStg_self a w s,
      fun b hb => stg_setStg_ne w s hb, rfl⟩
  · refine ⟨_, registerWrite_basic w hon hp ha lo hi hm he, (same_pgError ..).eq,
      fun b hb => rg_pgError_ne _ s (by simpa using hb), fun hz => ?_, fun hn => ?_⟩
    · rw [rg_pgError_of_clear _ hz, Nat.shiftLeft_eq]
    · rw [pgError_of_recorded _ hn, rg_setRg_self]

end Sys2Proof.Machine

/-! SUPPORT. The common header of a page: PG_IRQ, PG_CTRL and the soft reset (R84, R85, R98). -/

namespace Sys2Proof.Machine

open Sys2Proof

/-! ### Page actions on a path that serves registers (R42, R387) -/

theorem pageCmd_of_pathOn {p : Path} {a i : Nat} {k : PageK} {s : State} (f : PageK → Nat → State → State)
    (hon : pathOn s p = true) (hp : pageAt a = some (k, i)) : pageCmd p a f s = f k i s := by
  simp only [pageCmd, hp, hon, if_true]

section

variable {p : Path} {a i : Nat} {k : PageK} {s : State} (hon : pathOn s p = true) (hp : pageAt a = some (k, i))

include hon hp

theorem exec_pgIrqClear (w x : Word) : exec (.pgIrqClear p a w x) s = .next (irqClear k i w x s) :=
  congrArg Host.Outcome.next (pageCmd_of_pathOn (fun k i => irqClear k i w x) hon hp)

theorem exec_pgModeWrite (m : Bool) : exec (.pgModeWrite p a m) s = .next (writeMode k i m s) :=
  congrArg Host.Outcome.next (pageCmd_of_pathOn (fun k i => writeMode k i m) hon hp)

theorem exec_pgEnableWrite (en : Bool) : exec (.pgEnableWrite p a en) s = .next (writeEn k i (expert s k i) en s) :=
  congrArg Host.Outcome.next (pageCmd_of_pathOn (fun k i s => writeEn k i (expert s k i) en s) hon hp)

theorem exec_blockSoftReset : exec (.blockSoftReset p a) s = .next (writeSrst k i (expert s k i) s) :=
  congrArg Host.Outcome.next (pageCmd_of_pathOn (fun k i s => writeSrst k i (expert s k i) s) hon hp)

end

/-! ### One bit of a word replaced -/

theorem getLsbD_ofNat_shiftLeft (v b : Nat) {j : Nat} (hj : j < 32) :
    (BitVec.ofNat 32 (v <<< b)).getLsbD j = (decide (b ≤ j) && v.testBit (j - b)) := by
  rw [BitVec.getLsbD_ofNat, Nat.testBit_shiftLeft, decide_eq_true hj, Bool.true_and]

/-- A field of one bit takes its new value; every other bit stands. -/
theorem bit_setFld_one (w : Word) (b : Nat) (m : Bool) {j : Nat} (hj : j < 32) :
    bit (setFld w b 1 (if m then 1 else 0)) j = if j = b then m else bit w j := by
  have hone : Nat.testBit 1 (j - b) = decide (0 = j - b) := Nat.testBit_two_pow (n := 0)
  have hplace : (decide (b ≤ j) && decide (0 = j - b)) = decide (j = b) := by
    rw [Bool.eq_iff_iff]
    simp
    omega
  have hval : Nat.testBit ((if m then 1 else 0) % 2 ^ 1) (j - b) = (m && decide (0 = j - b)) := by
    cases m
    · exact Nat.zero_testBit _
    · exact hone
  change BitVec.getLsbD _ _ = ite _ _ (BitVec.getLsbD _ _)
  simp only [setFld, BitVec.getLsbD_or, BitVec.getLsbD_and, BitVec.getLsbD_not, getLsbD_ofNat_shiftLeft _ _ hj, hval,
    show 2 ^ 1 - 1 = 1 from rfl, hone, hplace, Bool.and_left_comm _ m, decide_eq_true hj]
  by_cases h : j = b <;> simp [h]

/-! ### PG_IRQ (R98) -/

theorem rg_irqClear (k : PageK) (i : Nat) (w x : Word) (s : State) (a : Nat) :
    rg (irqClear k i w x s) a = rg (setRg (pgIrq k i) ((rg s (pgIrq k i) &&& ~~~w) ||| x) s) a := rg_evtNote ..

/-- Without a cause of the same cycle a page does not become pending by a clear. -/
theorem pagePending_of_cleared {k : PageK} {i : Nat} {w : Word} {s : State}
    (h : pagePending (setRg (pgIrq k i) (rg s (pgIrq k i) &&& ~~~w) s) k i = true) : pagePending s k i = true := by
  have hen : pgIrqEn k i ≠ pgIrq k i := by simp [pgIrqEn, pgIrq]
  simp only [pagePending, rg_setRg_self, rg_setRg_ne _ _ hen, decide_eq_true_eq] at h ⊢
  intro hz
  rw [BitVec.and_assoc, BitVec.and_comm (~~~w), ← BitVec.and_assoc, hz] at h
  simp at h

theorem evtNote_of_pending {k : PageK} {i : Nat} {was : Bool} {s : State} (h : pagePending s k i = true → was = true) :
    evtNote k i was s = s := by
  refine if_neg ?_
  cases was
  · simp [show pagePending s k i = false by simpa using h]
  · simp

theorem irqClear_evt (k : PageK) (i : Nat) (w : Word) (s : State) : (irqClear k i w 0 s).evt = s.evt := by
  rw [irqClear, show (rg s (pgIrq k i) &&& ~~~w) ||| 0 = rg s (pgIrq k i) &&& ~~~w from BitVec.or_zero,
    evtNote_of_pending pagePending_of_cleared]
  rfl

/-! ### MODE and EN (R84) -/

/-- A write of one bit of PG_CTRL. -/
def ctrlBit (k : PageK) (i b : Nat) (m : Bool) (s : State) : State :=
  setRg (pgCtrl k i) (setFld (rg s (pgCtrl k i)) b 1 (if m then 1 else 0)) s

theorem bit_ctrlBit (k : PageK) (i b : Nat) (m : Bool) (s : State) {j : Nat} (hj : j < 32) :
    bit (rg (ctrlBit k i b m s) (pgCtrl k i)) j = if j = b then m else bit (rg s (pgCtrl k i)) j := by
  rw [ctrlBit, rg_setRg_self, bit_setFld_one _ _ _ hj]

theorem sameRegs_ctrlBit (k : PageK) (i b : Nat) (m : Bool) (s : State) : SameRegs [pgCtrl k i] s (ctrlBit k i b m s) :=
  fun _ hc => rg_setRg_ne _ s (by simpa using hc)

theorem expert_eq {k : PageK} (i : Nat) (s : State) (hm : modeFixed k = false) : expert s k i = bit (rg s (pgCtrl k i)) 8 := by
  simp [expert, hm]

theorem pageEn_eq {k : PageK} (i : Nat) (s : State) (he : enFixed k = false) : pageEn s k i = bit (rg s (pgCtrl k i)) 0 := by
  simp [pageEn, he]

theorem modeFixed_of_expert {k : PageK} {i : Nat} {s : State} (h : expert s k i = true) : modeFixed k = false := by
  cases hm : modeFixed k
  · rfl
  · simp [expert, hm] at h

/-- With no session open MODE follows the write (R84). -/
theorem writeMode_of_closed {k : PageK} {i : Nat} {m : Bool} {s : State} (hm : modeFixed k = false) (hc : s.cmt.st = .closed) :
    writeMode k i m s = if expert s k i = m then s else ctrlBit k i 8 m s := by
  simp only [writeMode, hm, hc, Bool.false_eq_true, false_or, ne_eq, not_true_eq_false, if_false]
  rfl

/-- On a page in EXPERT mode EN follows the write, where its functions may end (R84). -/
theorem writeEn_of_expert {k : PageK} {i : Nat} {en : Bool} {s : State} (he : enFixed k = false)
    (hi : en = true ∨ pageIdle s k i = true) : writeEn k i true en s = if pageEn s k i = en then s else ctrlBit k i 0 en s := by
  have hgo : ¬ (true = false ∨ en = false ∧ pageIdle s k i = false) := by
    rintro (h | ⟨rfl, h⟩)
    · cases h
    · simp [h] at hi
  simp only [writeEn, he, Bool.false_eq_true, false_or, hgo, if_false]
  rfl

theorem modeWrite_follows {p : Path} {a i : Nat} {k : PageK} (m : Bool) {s : State} (hon : pathOn s p = true)
    (hp : pageAt a = some (k, i)) (hm : modeFixed k = false) (hc : s.cmt.st = .closed) :
    ∃ t, exec (.pgModeWrite p a m) s = .next t ∧ t = { s with regs := t.regs } ∧ SameRegs [pgCtrl k i] s t ∧ expert t k i = m ∧
      bit (rg t (pgCtrl k i)) 0 = bit (rg s (pgCtrl k i)) 0 := by
  refine ⟨_, exec_pgModeWrite hon hp m, ?_⟩
  rw [writeMode_of_closed hm hc]
  split
  · next h => exact ⟨rfl, fun _ _ => rfl, h, rfl⟩
  · exact ⟨rfl, sameRegs_ctrlBit k i 8 m s, by rw [expert_eq i _ hm, bit_ctrlBit _ _ _ _ _ (by decide)]; rfl,
      by rw [bit_ctrlBit _ _ _ _ _ (by decide)]; rfl⟩

theorem enableWrite_follows {p : Path} {a i : Nat} {k : PageK} {en : Bool} {s : State} (hon : pathOn s p = true)
    (hp : pageAt a = some (k, i)) (hf : enFixed k = false) (he : expert s k i = true) (hi : en = true ∨ pageIdle s k i = true) :
    ∃ t, exec (.pgEnableWrite p a en) s = .next t ∧ t = { s with regs := t.regs } ∧ SameRegs [pgCtrl k i] s t ∧
      pageEn t k i = en ∧ expert t k i = true := by
  have hm := modeFixed_of_expert he
  refine ⟨_, exec_pgEnableWrite hon hp en, ?_⟩
  rw [he, writeEn_of_expert hf hi]
  split
  · next h => exact ⟨rfl, fun _ _ => rfl, h, he⟩
  · exact ⟨rfl, sameRegs_ctrlBit k i 0 en s, by rw [pageEn_eq i _ hf, bit_ctrlBit _ _ _ _ _ (by decide)]; rfl,
      by rw [expert_eq i _ hm, bit_ctrlBit _ _ _ _ _ (by decide), ← expert_eq i _ hm]; exact he⟩

/-! ### The soft reset (R85) -/

/-- A table of which the keys of a test are kept. -/
theorem tget_filter {α : Type} (d : α) (p : Nat → Bool) (t : Tbl α) (b : Nat) :
    tget d (t.filter (fun e => p e.1)) b = if p b then tget d t b else d := by
  induction t with
  | nil => simp
  | cons e r ih =>
    obtain ⟨j, v⟩ := e
    rw [List.filter_cons]
    by_cases hj : p j = true
    · rw [if_pos hj]
      by_cases hb : j = b
      · subst hb
        simp [tget, hj]
      · simpa [tget, hb] using ih
    · rw [if_neg hj, ih]
      by_cases hb : j = b
      · subst hb
        simp [hj]
      · simp [tget, hb]

/-- A table without the keys of a page, read in that page and outside. -/
theorem tget_pageErase {α : Type} (d : α) (t : Tbl α) {a i : Nat} {k : PageK} (hp : pageAt a = some (k, i)) (b : Nat) :
    tget d (pageErase (pageBase k i) t) b = if b / 0x1000 = pageBase k i / 0x1000 then d else tget d t b := by
  have hb := pageBase_of_pageAt hp
  refine (tget_filter d (fun j => decide (j < pageBase k i) || decide (pageBase k i + 0x1000 ≤ j)) t b).trans ?_
  by_cases h : b / 0x1000 = pageBase k i / 0x1000
  · rw [if_pos h, if_neg]
    simp only [Bool.or_eq_true, decide_eq_true_eq]
    omega
  · rw [if_neg h, if_pos]
    simp only [Bool.or_eq_true, decide_eq_true_eq]
    omega

/-- The page's registers are back at reset, but for MODE; the block has not acted yet. -/
def pageAtReset (k : PageK) (i : Nat) (s : State) : State :=
  setRg (pgCtrl k i) ((rg s (pgCtrl k i) &&& 0x100#32) ||| 1#32)
    { s with regs := pageErase (pageBase k i) s.regs, staged := pageErase (pageBase k i) s.staged,
             dspPend := pageErase (pageBase k i) s.dspPend, dspQ := s.dspQ.map (fun e => (e.1, pageErase (pageBase k i) e.2)),
             tst := { s.tst with pert := pageErase (pageBase k i) s.tst.pert, due := pageErase (pageBase k i) s.tst.due } }

theorem softReset_eq (k : PageK) (i : Nat) (s : State) : softReset k i s = resetBlock k i s (pageAtReset k i s) := rfl

theorem rg_pageAtReset_ctrl (k : PageK) (i : Nat) (s : State) :
    rg (pageAtReset k i s) (pgCtrl k i) = (rg s (pgCtrl k i) &&& 0x100#32) ||| 1#32 := rg_setRg_self ..

theorem rg_pageAtReset {a i : Nat} {k : PageK} (s : State) (hp : pageAt a = some (k, i)) {b : Nat} (hb : b ≠ pgCtrl k i) :
    rg (pageAtReset k i s) b = if b / 0x1000 = pageBase k i / 0x1000 then regReset b else rg s b :=
  (rg_setRg_ne _ _ hb).trans (tget_pageErase (regReset b) s.regs hp b)

/-- In the page every staged copy follows its register (R80, R85). -/
theorem stg_pageAtReset {a i : Nat} {k : PageK} (s : State) (hp : pageAt a = some (k, i)) {b : Nat}
    (hb : b / 0x1000 = pageBase k i / 0x1000) : stg (pageAtReset k i s) b = rg (pageAtReset k i s) b := by
  have hst : stg (pageAtReset k i s) b = pendRg (pageAtReset k i s) b := (tget_pageErase _ s.staged hp b).trans (if_pos hb)
  exact hst.trans ((tget_pageErase _ s.dspPend hp b).trans (if_pos hb))

/-- What the blocks of the pages below do besides as their registers return to reset: none touches a register. -/
theorem same_resetBlock_plain {k : PageK} (hk : k ∈ [PageK.tmb, .twn, .bcn, .aux, .acq, .gln, .que, .cmp, .lin, .flt]) (i : Nat)
    (old s : State) : Same 6786196772626434 s (resetBlock k i old s) := by
  simp only [List.mem_cons, List.not_mem_nil, or_false] at hk
  obtain rfl | rfl | rfl | rfl | rfl | rfl | rfl | rfl | rfl | rfl := hk
  · exact Same.step (same_stepScale ..) rfl (Same.step (upd_frame ..) rfl (Same.step (upd_tmb ..) rfl (Same.refl ..)))
  · exact Same.step (upd_twn ..) rfl (Same.refl ..)
  · exact Same.step (upd_bcn ..) rfl (Same.refl ..)
  · exact Same.step (upd_slots ..) rfl (Same.refl ..)
  · exact Same.step (upd_tunits_plans ..) rfl (Same.refl ..)
  · exact Same.step (upd_gunits ..) rfl (Same.refl ..)
  · exact Same.refl ..
  · exact Same.refl ..
  · exact Same.refl ..
  · exact Same.refl ..

theorem same_softReset_plain {k : PageK} (hk : k ∈ [PageK.tmb, .twn, .bcn, .aux, .acq, .gln, .que, .cmp, .lin, .flt]) (i : Nat)
    (s : State) : Same 42814993791590642 s (softReset k i s) :=
  Same.step (same_resetBlock_plain hk i s _) rfl (Same.step (same_setRg ..) rfl
    (Same.step (upd_regs_staged_dspPend_dspQ_tst _ (fun h => twf_filter regReset _ _ h)) rfl (Same.refl ..)))

/-- A soft reset that is taken: no session is open, the page is in EXPERT mode and its block is idle (R84). -/
theorem blockSoftReset_taken {p : Path} {a i : Nat} {k : PageK} {s : State} (hon : pathOn s p = true) (hp : pageAt a = some (k, i))
    (hc : s.cmt.st = .closed) (he : expert s k i = true) (hi : srstIdle s k i = true) (hf : enFixed k = false ∨ k = .tmb) :
    exec (.blockSoftReset p a) s = .next (softReset k i s) := by
  have hfix : ¬ (enFixed k = true ∧ k ≠ .tmb) := by
    rintro ⟨hen, hk⟩
    simp [hen, hk] at hf
  rw [exec_blockSoftReset hon hp]
  simp [writeSrst, hc, hfix, he, hi]

theorem blockSoftReset_plain {p : Path} {a i : Nat} {k : PageK} {s : State} (hon : pathOn s p = true) (hp : pageAt a = some (k, i))
    (hc : s.cmt.st = .closed) (he : expert s k i = true) (hi : pageIdle s k i = true)
    (hk : k ∈ [PageK.tmb, .twn, .bcn, .aux, .acq, .gln, .que, .cmp, .lin, .flt]) :
    ∃ t, exec (.blockSoftReset p a) s = .next t ∧
      t = { s with frame := t.frame, regs := t.regs, staged := t.staged, dspPend := t.dspPend, dspQ := t.dspQ, dsp := t.dsp, taps := t.taps, profs := t.profs, slots := t.slots, tmb := t.tmb, tunits := t.tunits, plans := t.plans, gunits := t.gunits, twn := t.twn, bcn := t.bcn, tst := t.tst } ∧
      (∀ b, b / 0x1000 ≠ pageBase k i / 0x1000 → rg t b = rg s b) ∧
      (∀ b, b / 0x1000 = pageBase k i / 0x1000 → b ≠ pgCtrl k i → rg t b = regReset b ∧ stg t b = regReset b) ∧
      rg t (pgCtrl k i) = (rg s (pgCtrl k i) &&& 0x100#32) ||| 1#32 := by
  have hside : srstIdle s k i = pageIdle s k i ∧ (enFixed k = false ∨ k = .tmb) := by
    simp only [List.mem_cons, List.not_mem_nil, or_false] at hk
    obtain rfl | rfl | rfl | rfl | rfl | rfl | rfl | rfl | rfl | rfl := hk <;> exact ⟨rfl, by decide⟩
  have hsame := same_resetBlock_plain hk i s (pageAtReset k i s)
  have hrg := rg_congr (hsame.regs.resolve_left (by decide))
  have hstg : ∀ b, stg (softReset k i s) b = stg (pageAtReset k i s) b := fun b =>
    stg_congr (hrg b) (hsame.dspPend.resolve_left (by decide)) (hsame.staged.resolve_left (by decide))
  have hctrl : pgCtrl k i / 0x1000 = pageBase k i / 0x1000 := by
    have hb := pageBase_of_pageAt hp
    unfold pgCtrl
    omega
  refine ⟨_, blockSoftReset_taken hon hp hc he (hside.1.trans hi) hside.2, ?_, fun b hb => ?_, fun b hb hne => ?_, ?_⟩
  · exact (same_softReset_plain hk i s).eq
  · exact (hrg b).trans ((rg_pageAtReset s hp (fun e => hb (by rw [e, hctrl]))).trans (if_neg hb))
  · have hreset := (rg_pageAtReset s hp hne).trans (if_pos hb)
    exact ⟨(hrg b).trans hreset, (hstg b).trans ((stg_pageAtReset s hp hb).trans hreset)⟩
  · exact (hrg _).trans (rg_pageAtReset_ctrl k i s)

/-- The three counters of CH_MON are zero. -/
def MonClear (g : Nat) (s : State) : Prop := (chan s g).upCnt = 0 ∧ (chan s g).dnCnt = 0 ∧ (chan s g).clipCnt = 0

theorem MonClear.congr {g : Nat} {s t : State} (h : chan t g = chan s g) (hs : MonClear g s) : MonClear g t := by
  unfold MonClear
  rwa [h]

/-- A soft reset of a sheaf page clears the counters of its channels (R85). -/
theorem monClear_resetBlock_shf {c : Nat} (hc : c < 32) (i : Nat) (old s : State) :
    MonClear (32 * i + c) (resetBlock .shf i old s) := by
  have hloop : MonClear (32 * i + c) (forN 32 (fun c => modChan (32 * i + c) (withMon 0 0 0)) s) := by
    refine forN_sets hc (fun x => ?_) (fun j x h => ?_) s
    · simp only [MonClear, chan_modChan_self]
      exact ⟨rfl, rfl, rfl⟩
    · unfold MonClear
      rw [chan_modChan]
      split
      · exact ⟨rfl, rfl, rfl⟩
      · exact h
  exact hloop.congr (chan_congr ((same_refEnables i 0 _).chans.resolve_left (by decide)) _)

/-- Settles O12: each field of the header goes by its own rule, and a soft reset empties the page's stores. -/
theorem pageHeader : Obligations.PageHeader := by
  refine ⟨fun p a i k w x s hon hp => ?_, fun p a i k m s hon hp hm hc => modeWrite_follows m hon hp hm hc,
    fun p a i k m s hon hp hm hc he => ?_, fun p a i k en s hon hp hf he hi => enableWrite_follows hon hp hf he hi,
    fun p a i k en s hon hp hf he hne => ?_, fun p a i k s hon hp hc he hi hk => blockSoftReset_plain hon hp hc he hi hk,
    fun p a i k s hon hp hc => ?_, fun p a i s hon hp hc he hi => ?_⟩
  · refine ⟨_, exec_pgIrqClear hon hp w x, (same_irqClear ..).eq, ?_, fun b hb => ?_, ?_⟩
    · rintro rfl
      exact irqClear_evt k i w s
    · rw [rg_irqClear, rg_setRg_ne _ s (by simpa using hb)]
    · rw [rg_irqClear, rg_setRg_self]
  · rw [exec_pgModeWrite hon hp]
    simp [writeMode, hm, hc, he, ctrlRefuse]
  · rw [exec_pgEnableWrite hon hp]
    simp [writeEn, hf, he, hne, ctrlRefuse]
  · rw [exec_blockSoftReset hon hp]
    simp [writeSrst, hc, ctrlRefuse]
  · exact ⟨_, blockSoftReset_taken hon hp hc he hi (.inl rfl), fun c hc => monClear_resetBlock_shf hc i s _⟩

end Sys2Proof.Machine

/-! SUPPORT. The actions of CMT_CTRL and the VEXC conversions a check issues (R86, R87, R159). -/

namespace Sys2Proof.Machine

open Sys2Proof

/-! ### A write of CMT_CTRL on a running hub: page CMT takes direct writes in either mode (R83) -/

theorem direct_cmt {f : State → State} {s : State} (hr : running s = true) : direct .cmt 0 f s = f s := by
  simp only [direct, hr, Bool.not_true, Bool.false_eq_true, if_false]
  exact if_pos rfl

section

variable {p : Path} {s : State} (hr : running s = true)

include hr

theorem exec_cmtOpen : exec (.cmtOpen p) s = .next (cmtAct (sessionOpen (ownerDirect p)) s) := congrArg Host.Outcome.next (direct_cmt hr)

theorem exec_cmtCheck : exec (.cmtCheck p) s = .next (cmtAct (sessionCheck (ownerDirect p) false) s) :=
  congrArg Host.Outcome.next (direct_cmt hr)

theorem exec_cmtArm : exec (.cmtArm p) s = .next (cmtAct (sessionCheck (ownerDirect p) true) s) :=
  congrArg Host.Outcome.next (direct_cmt hr)

theorem exec_cmtDisarm : exec (.cmtDisarm p) s = .next (cmtAct (sessionDisarm (ownerDirect p)) s) :=
  congrArg Host.Outcome.next (direct_cmt hr)

theorem exec_cmtAbandon : exec (.cmtAbandon p) s = .next (cmtAct (sessionAbandonBy (ownerDirect p)) s) :=
  congrArg Host.Outcome.next (direct_cmt hr)

end

/-! ### The outcome of an action: done, or its status in the page's PG_ERR -/

theorem cmtAct_done {f : State → Nat × State} {s t : State} (h : f s = (stOk, t)) : cmtAct f s = t := by
  rw [cmtAct, h]
  rfl

theorem cmtAct_refused {f : State → Nat × State} {s t : State} {st : Nat} (h : f s = (st, t)) (hst : st ≠ stOk) :
    cmtAct f s = pgError .cmt 0 st t := by
  simp only [cmtAct, h, if_neg hst]

/-- A session that is open, with the next serial and no staged copy (R86). -/
def opened (o : Owner) (s : State) : State :=
  { s with
    staged := []
    cmt := { s.cmt with
      st := .open_, owner := o, serial := (s.cmt.serial + 1) % 65536, arming := false, finalOk := false, pre := none, idle := 0
      imageEpoch := none } }

theorem sessionOpen_of_closed (o : Owner) {s : State} (hc : s.cmt.st = .closed) (hh : s.hub.st ≠ .resync) :
    sessionOpen o s = (stOk, opened o s) := by
  rw [sessionOpen, if_neg (fun h => hh h.1), if_neg (fun h => h hc)]
  rfl

theorem sessionOpen_of_session (o : Owner) {s : State} (hc : s.cmt.st ≠ .closed) (hh : s.hub.st ≠ .resync) :
    sessionOpen o s = (stBusy, s) := by
  rw [sessionOpen, if_neg (fun h => hh h.1), if_pos hc]

theorem sessionCheck_of_open {o : Owner} (arm : Bool) {s : State} (ho : s.cmt.owner = o) (hst : s.cmt.st = .open_) :
    sessionCheck o arm s = (stOk, checkStart arm (sessionTouch s)) := by
  rw [sessionCheck, if_neg (fun h => h ho), if_neg (fun h => h hst)]

theorem cmtLate_eq_false {s : State} (h : s.cmt.st = .armed → s.frame + 1 < s.cmt.applyFrame) : cmtLate s = false := by
  by_cases ha : s.cmt.st = .armed
  · simp [cmtLate, h ha]
  · simp [cmtLate, ha]

theorem sessionDisarm_in_time {o : Owner} {s : State} (ho : s.cmt.owner = o) (hst : s.cmt.st = .armed)
    (hf : s.frame + 1 < s.cmt.applyFrame) :
    sessionDisarm o s = (stOk, modCmt (fun c => { c with st := .open_, finalOk := false }) (sessionTouch s)) := by
  rw [sessionDisarm, if_neg (fun h => h ho), if_neg]
  simp [hst, cmtLate_eq_false (fun _ => hf)]

theorem sessionDisarm_late {o : Owner} {s : State} (ho : s.cmt.owner = o) (hst : s.cmt.st = .armed)
    (hf : s.cmt.applyFrame ≤ s.frame + 1) : sessionDisarm o s = (stBusy, sessionTouch s) := by
  rw [sessionDisarm, if_neg (fun h => h ho), if_pos (.inr (by simp [cmtLate, hst, hf]))]

theorem sessionAbandonBy_owner {o : Owner} {s : State} (ho : s.cmt.owner = o)
    (hst : s.cmt.st = .open_ ∨ s.cmt.st = .armed ∧ s.frame + 1 < s.cmt.applyFrame) :
    sessionAbandonBy o s = (stOk, sessionAbandon s) := by
  rw [sessionAbandonBy, if_neg (fun h => h ho), if_neg]
  rcases hst with h | ⟨h, hf⟩
  · simp [h, cmtLate]
  · simp [h, cmtLate_eq_false (fun _ => hf)]

/-- Every action of a path that is not the owner's is refused (R86). -/
theorem actions_of_other {p : Path} {s : State} (hr : running s = true) (ho : s.cmt.owner ≠ ownerDirect p) :
    exec (.cmtCheck p) s = .next (pgError .cmt 0 stNotPermitted s) ∧ exec (.cmtArm p) s = .next (pgError .cmt 0 stNotPermitted s) ∧
      exec (.cmtDisarm p) s = .next (pgError .cmt 0 stNotPermitted s) ∧
      exec (.cmtAbandon p) s = .next (pgError .cmt 0 stNotPermitted s) := by
  have refused {f : State → Nat × State} (h : f s = (stNotPermitted, s)) :
      Host.Outcome.next (cmtAct f s) = (.next (pgError .cmt 0 stNotPermitted s) : Host.Outcome State Fault Refusal) :=
    congrArg _ (cmtAct_refused h (by decide))
  exact ⟨(exec_cmtCheck hr).trans (refused (if_pos ho)), (exec_cmtArm hr).trans (refused (if_pos ho)),
    (exec_cmtDisarm hr).trans (refused (if_pos ho)), (exec_cmtAbandon hr).trans (refused (if_pos ho))⟩

/-! ### The VEXC conversions of a check (R159) -/

/-- One converter's turn of the issue. -/
def vexcTurn (n : Nat) (s : State) : State :=
  if excUsed s n && auxAvail s n && !vexcBusy s n then auxPush n .vexc s else s

/-- The issue neither looks at the session's record nor changes it. -/
theorem vexcIssue_modCmt (f : Cmt → Cmt) (s : State) : vexcIssue (modCmt f s) = modCmt f (vexcIssue s) := by
  have hturn (x : State) (n : Nat) : vexcTurn n (modCmt f x) = modCmt f (vexcTurn n x) := by
    rw [vexcTurn, vexcTurn, apply_ite (modCmt f)]
    rfl
  exact List.foldl_hom (modCmt f) (g₁ := fun x n => vexcTurn n x) hturn

/-- The issue changes the converters' queues alone. -/
theorem vexcIssue_frame (s : State) : vexcIssue s = { s with auxs := (vexcIssue s).auxs } := (same_vexcIssue s).eq

/-- Another converter's turn: only queues change, and not those of converter n. -/
structure OtherTurn (n : Nat) (s t : State) : Prop where
  frame : Same 134217728 s t
  kept : aux t n = aux s n

namespace OtherTurn

variable {n : Nat} {s t u : State}

theorem refl (n : Nat) (s : State) : OtherTurn n s s := ⟨.refl _ _, rfl⟩

theorem trans (h : OtherTurn n t u) (g : OtherTurn n s t) : OtherTurn n s u := ⟨h.frame.trans g.frame, h.kept.trans g.kept⟩

theorem excUsed_eq (h : OtherTurn n s t) : excUsed t n = excUsed s n := by
  rw [h.frame.eq]
  rfl

theorem auxAvail_eq (h : OtherTurn n s t) : auxAvail t n = auxAvail s n := by
  rw [h.frame.eq]
  rfl

end OtherTurn

theorem otherTurn_vexcTurn {n i : Nat} (hi : i ≠ n) (s : State) : OtherTurn n s (vexcTurn i s) := by
  unfold vexcTurn
  split
  · exact ⟨same_auxPush .., aux_modAux_ne _ _ _ _ hi.symm⟩
  · exact .refl n s

/-- The issue as converter n sees it: the other turns, its own, the other turns. -/
theorem vexcIssue_turn {n : Nat} (hn : n < 4) (s : State) : ∃ x, OtherTurn n s x ∧ OtherTurn n (vexcTurn n x) (vexcIssue s) :=
  forN_turn (.refl n) .trans hn (fun _ hi => otherTurn_vexcTurn hi) s

/-- A VEXC conversion waits for a converter or runs on it. -/
def vexcHeld (x : Aux) : Bool := (x.urgent ++ x.run.toList).any isVexc

theorem vexcBusy_eq (s : State) (n : Nat) : vexcBusy s n = vexcHeld (aux s n) := rfl

/-- The start of the next conversion, urgent ones first, loses no VEXC conversion (R158). -/
theorem vexcHeld_auxStart {x : Aux} (h : vexcHeld x = true) : vexcHeld (auxStart x) = true := by
  unfold auxStart
  split
  · exact h
  · next hrun =>
    obtain hrun : x.run = none := by simpa using hrun
    cases hu : x.urgent with
    | nil => simp [vexcHeld, hu, hrun] at h
    | cons r q =>
      have hany : (isVexc r || q.any isVexc) = true := by simpa [vexcHeld, hu, hrun] using h
      simpa [auxPick, auxQueue, auxSetQueue, vexcHeld, hu, Bool.or_comm] using hany

theorem vexcBusy_auxPush (n : Nat) (s : State) : vexcBusy (auxPush n .vexc s) n = true := by
  rw [vexcBusy_eq, auxPush, aux_modAux_self]
  exact vexcHeld_auxStart (by simp [vexcHeld, auxClass, auxSetQueue, auxQueue, isVexc])

theorem vexcBusy_vexcTurn {n : Nat} {s : State} (hu : excUsed s n = true) (ha : auxAvail s n = true) :
    vexcBusy (vexcTurn n s) n = true := by
  unfold vexcTurn
  split
  · exact vexcBusy_auxPush n s
  · next h => simpa [hu, ha] using h

theorem vexcBusy_vexcIssue {n : Nat} {s : State} (hn : n < 4) (hu : excUsed s n = true) (ha : auxAvail s n = true) :
    vexcBusy (vexcIssue s) n = true := by
  obtain ⟨x, hx, hrest⟩ := vexcIssue_turn hn s
  rw [vexcBusy_eq, hrest.kept]
  exact vexcBusy_vexcTurn (hx.excUsed_eq.trans hu) (hx.auxAvail_eq.trans ha)

theorem aux_vexcIssue_of_unavailable {n : Nat} {s : State} (hn : n < 4) (ha : auxAvail s n = false) :
    aux (vexcIssue s) n = aux s n := by
  obtain ⟨x, hx, hrest⟩ := vexcIssue_turn hn s
  have hown : vexcTurn n x = x := if_neg (by simp [hx.auxAvail_eq, ha])
  rw [hrest.kept, hown, hx.kept]

/-! ### CHECK and ARM (R87) -/

theorem cmt_vexcIssue (s : State) : (vexcIssue s).cmt = s.cmt := (same_vexcIssue s).cmt.resolve_left (by decide)

theorem applyFrame_vexcIssue (s : State) : applyFrame (vexcIssue s) = applyFrame s := by
  rw [vexcIssue_frame]
  generalize (vexcIssue s).auxs = q
  rfl

theorem checkStart_check (s : State) :
    checkStart false (sessionTouch s) =
      { vexcIssue s with cmt := { s.cmt with st := .checking, arming := false, pre := none, idle := 0 } } := by
  rw [checkStart, sessionTouch, vexcIssue_modCmt, ← cmt_vexcIssue s]
  generalize vexcIssue s = x
  rfl

theorem checkStart_arm (s : State) : ∃ pre, checkStart true (sessionTouch s) =
    { vexcIssue s with
      cmt := { s.cmt with st := .checking, arming := true, applyFrame := applyFrame s, pre := pre, idle := 0 } } := by
  rw [checkStart, sessionTouch, vexcIssue_modCmt, ← cmt_vexcIssue s, ← applyFrame_vexcIssue s]
  generalize vexcIssue s = x
  exact ⟨_, rfl⟩

/-! ### ABANDON (R87) -/

theorem cmt_sessionAbandon (s : State) : (sessionAbandon s).cmt = (sessionDrop s).cmt := by
  rw [sessionAbandon, raise_cmt, applyLost_cmt]

/-- With no command in flight an abandoned session ends none, and only its cause is raised. -/
theorem sessionAbandon_without_flight {s : State} (h : s.flight = []) :
    (sessionAbandon s).flight = [] ∧ (sessionAbandon s).compl = s.compl ∧ SameRegs [0x2010] s (sessionAbandon s) := by
  rw [sessionAbandon_of_empty h]
  exact ⟨(raise_flight ..).trans h, raise_compl .., fun a ha => rg_raise_ne _ _ (fun h => ha (List.mem_singleton.2 h))⟩

theorem abandon_closes (s : State) :
    sessionAbandon s = { s with
      regs := (sessionAbandon s).regs
      staged := []
      cmt := (sessionAbandon s).cmt
      evt := (sessionAbandon s).evt
      flight := (sessionAbandon s).flight
      compl := (sessionAbandon s).compl } ∧
      SameRegs [0x2010, 0x5024, 0x502C] s (sessionAbandon s) := by
  obtain ⟨_, _, hstaged, _, hregs⟩ := sessionAbandon_spec s
  refine ⟨?_, fun a ha => hregs.get a (by simpa using ha)⟩
  conv_rhs => rw [← hstaged]
  exact (same_sessionAbandon s).eq

/-- Settles O13: each action by its outcome (done, or a status in PG_ERR), the VEXC conversions converter by converter. -/
theorem sessionActions : Obligations.SessionActions := by
  unfold Obligations.SessionActions
  refine ⟨fun p s hr hc hh => ?_, fun p s hr hc hh => ?_, fun p s hr hst ho => ?_, fun n s hn hu ha => vexcBusy_vexcIssue hn hu ha,
    fun n s hn ha => aux_vexcIssue_of_unavailable hn ha, fun p s hr ho => actions_of_other hr ho, fun p s hr hst ho => ?_,
    fun p s hr hst ho hf => ?_, fun p s hr hst ho hf => ?_, fun p s hr ho hst => ?_⟩
  case refine_1 => rw [exec_cmtOpen hr, cmtAct_done (sessionOpen_of_closed _ hc hh)]; rfl
  case refine_2 => rw [exec_cmtOpen hr, cmtAct_refused (sessionOpen_of_session _ hc hh) (by decide)]
  case refine_3 => rw [exec_cmtCheck hr, cmtAct_done (sessionCheck_of_open _ ho hst), checkStart_check]
  case refine_4 =>
    obtain ⟨pre, harm⟩ := checkStart_arm s
    rw [exec_cmtArm hr, cmtAct_done (sessionCheck_of_open _ ho hst), harm]
    exact ⟨_, rfl, rfl, rfl, rfl, rfl, rfl, rfl⟩
  case refine_5 => rw [exec_cmtDisarm hr, cmtAct_done (sessionDisarm_in_time ho hst hf)]; rfl
  case refine_6 => rw [exec_cmtDisarm hr, cmtAct_refused (sessionDisarm_late ho hst hf) (by decide)]; rfl
  case refine_7 =>
    obtain ⟨hclosed, howner, _, hcause, _⟩ := sessionAbandon_spec s
    obtain ⟨hframe, hregs⟩ := abandon_closes s
    exact ⟨_, (exec_cmtAbandon hr).trans (congrArg _ (cmtAct_done (sessionAbandonBy_owner ho hst))), hframe, hclosed, howner,
      by rw [cmt_sessionAbandon]; rfl, hcause, hregs, sessionAbandon_without_flight⟩

end Sys2Proof.Machine

/-! SUPPORT. CFG_CHECK that a closed session refuses, and what the refusal leaves of the session's record (R86, R87, R393). -/

namespace Sys2Proof.Machine

open Sys2Proof

theorem exec_cfgCheck (p : Path) (tag : Nat) (s : State) : exec (.cfgCheck p tag) s = execCfgCheck p tag s := rfl

theorem finish_cmt (f : Flight) (st : Nat) (res : List Byte) (s : State) : (finish f st res s).cmt = s.cmt :=
  (same_finish f st res s).cmt.resolve_left (by decide)

theorem sessRefusal_of_closed {o : Owner} {s : State} (hc : s.cmt.st = .closed) : sessRefusal s o = some stNotPermitted :=
  if_pos (.inl hc)

theorem ownerTouch_cmt_of_owner {o : Owner} {s : State} (ho : s.cmt.owner = o) : (ownerTouch o s).cmt = { s.cmt with idle := 0 } := by
  rw [ownerTouch, if_pos ho]
  rfl

/-- CFG_CHECK with the session closed: refused, and a request of the owner still recorded renews the idle time. -/
theorem cfgCheck_of_closed {p : Path} {tag : Nat} {f : Flight} {s : State} (h : IsNext p tag 0x0101 f s) (hb : f.buf = [])
    (hc : s.cmt.st = .closed) :
    exec (.cfgCheck p tag) s = .next (finish f stNotPermitted [] (ownerTouch (ownerCmd f.path) s)) := by
  have hcmd : checkCmd f s = finish f stNotPermitted [] (ownerTouch (ownerCmd f.path) s) := by
    simp only [checkCmd, sessRefusal_of_closed hc]
  rw [exec_cfgCheck, execCfgCheck, command_of_isNext checkCmd h (by simp [isLen, hb]), hcmd]

/-- CFG_CHECK of the host. -/
def checkAsked : Flight := { path := .host, tag := 1, gen := 0, op := 0x0101, buf := [] }

/-- A closed session of which the record still names the host's commands as owner, idle for one frame. -/
def closedOwned : State :=
  { State.reset with
    pwr := { phase := .run }
    cmt := { st := .closed, owner := .hostCmd, idle := 1 }
    flight := [checkAsked] }

/-- Refutes O51: CFG_CHECK on a closed session whose record still names the path as owner sets the idle time to 0, so the session's
record does not stand under the refusal. -/
theorem not_sessionCommands : ¬ Obligations.SessionCommands := by
  unfold Obligations.SessionCommands
  rintro ⟨_, _, _, hrefused, _⟩
  have hnext : IsNext .host 1 0x0101 checkAsked closedOwned := ⟨by decide, by decide⟩
  obtain ⟨t, ht, hframe, _⟩ := hrefused .host 1 checkAsked closedOwned hnext rfl (.inl rfl)
  obtain rfl := Host.Outcome.next.inj (ht.symm.trans (cfgCheck_of_closed hnext rfl rfl))
  have hidle : (finish checkAsked stNotPermitted [] (ownerTouch (ownerCmd checkAsked.path) closedOwned)).cmt.idle = 0 :=
    congrArg (·.idle) ((finish_cmt ..).trans (ownerTouch_cmt_of_owner rfl))
  have hkept := congrArg (fun u : State => u.cmt.idle) hframe
  exact absurd (hidle.symm.trans hkept) (by decide)

end Sys2Proof.Machine

/-! SUPPORT. A MGMT register read of a register that a session holds a staged copy of (R80, R327, R330). -/

namespace Sys2Proof.Machine

open Sys2Proof

theorem exec_mgmtRegRead (n : Nat) (pk : Pkt) (hits : List (Nat × MemHit)) (s : State) :
    exec (.mgmtRegRead n pk hits) s = .next (mgmtRx n pk (fun m => decide (m = 3)) hits s) := rfl

/-- The MGMT read of the one word at 0x3040. -/
def sourceRead : Pkt := { ty := 2, lseq := 65535, body := [3, 0, 1, 0, 9, 0, 0, 0, 0x40, 0x30, 0, 0] }

/-- A running hub with lane 7 UP; a session has staged 1 for the register at 0x3040, of which the active copy is 0. -/
def stagedSource : State :=
  { State.reset with
    pwr := { phase := .run }
    hub := { st := .unconfigured }
    staged := [(0x3040, 1#32)]
    lanes := [(7, { st := .up, lk := { e := 65535 } })] }

/-- The read shows the ST field's staged copy (R80). -/
theorem readVal_stagedSource : readVal stagedSource 0x3040 = 1#32 := by decide

/-- The MGMT read answers with what the register shows. -/
theorem rd_sourceRead : (mgmtRx 7 sourceRead (fun m => decide (m = 3)) [] stagedSource).rd = [readVal stagedSource 0x3040] := by
  decide +kernel

/-- Refutes O40: while a session holds a staged copy of the register at 0x3040, a MGMT read answers with that copy (R80), not with the
word that is stored. -/
theorem not_managementTraffic : ¬ Obligations.ManagementTraffic := by
  unfold Obligations.ManagementTraffic
  rintro ⟨_, hread, _⟩
  obtain ⟨u, hu, hframe, _⟩ := hread 7 sourceRead stagedSource (by decide) rfl (by decide) (by decide) (by decide) (by decide)
    (by decide) rfl (by decide) (by decide) (by decide) (by decide)
  obtain rfl := Host.Outcome.next.inj (hu.symm.trans (exec_mgmtRegRead ..))
  have hshown : [readVal stagedSource 0x3040] = [rg stagedSource 0x3040] := rd_sourceRead.symm.trans (congrArg State.rd hframe)
  rw [readVal_stagedSource] at hshown
  exact absurd hshown (by decide)

end Sys2Proof.Machine

/-! SUPPORT. Commands that stage copies: what they stage, and their refusals (R80, R393, R395). -/

namespace Sys2Proof.Machine

open Sys2Proof

/-! ### Copies staged one after another -/

/-- Addresses each staged once, and all of field-die pages. -/
structure Stageable (l : List (Nat × Word)) : Prop where
  once : (l.map Prod.fst).Nodup
  field : ∀ e ∈ l, 0x20000 ≤ e.1

/-- The open session of an owner that has taken a list of copies. -/
structure HoldsCopies (l : List (Nat × Word)) (o : Owner) (s t : State) : Prop where
  taken : ∀ e ∈ l, stg t e.1 = merge (pendRg s e.1) e.2 (stMask e.1)
  others : ∀ a, (∀ e ∈ l, e.1 ≠ a) → stg t a = stg s a
  st : t.cmt.st = .open_
  owner : t.cmt.owner = o

theorem stageAll_cons {o : Owner} {s : State} (e : Nat × Word) (l : List (Nat × Word)) (hst : s.cmt.st = .open_) (ho : s.cmt.owner = o) :
    stageAll o (e :: l) s = stageAll o l (stageTaken e.1 e.2 s) := by
  rw [stageAll, stageAll, forL, List.foldl_cons, stageWrite_of_open e.1 e.2 hst ho]
  rfl

theorem holdsCopies_stageAll {o : Owner} {l : List (Nat × Word)} {s : State} (hst : s.cmt.st = .open_) (ho : s.cmt.owner = o)
    (hl : (l.map Prod.fst).Nodup) : HoldsCopies l o s (stageAll o l s) := by
  induction l generalizing s with
  | nil => exact ⟨fun e he => absurd he List.not_mem_nil, fun _ _ => rfl, hst, ho⟩
  | cons e l ih =>
    obtain ⟨hnew, hrest⟩ := List.nodup_cons.1 hl
    have hfresh (x : Nat × Word) (hx : x ∈ l) : x.1 ≠ e.1 := fun h => hnew (h ▸ List.mem_map_of_mem hx)
    have hi : HoldsCopies l o (stageTaken e.1 e.2 s) (stageAll o l (stageTaken e.1 e.2 s)) := ih hst ho hrest
    rw [stageAll_cons e l hst ho]
    refine ⟨fun x hx => ?_, fun a ha => ?_, hi.st, hi.owner⟩
    · rcases List.mem_cons.1 hx with rfl | hx
      · exact (hi.others _ hfresh).trans (stg_setStg_self x.1 x.2 s)
      · exact hi.taken x hx
    · exact (hi.others a (fun x hx => ha x (List.mem_cons_of_mem _ hx))).trans
        (stg_setStg_ne e.2 s (ha e List.mem_cons_self).symm)

/-! ### The end of a command, with and without a refusal -/

theorem ended_finish {f : Flight} {s t : State} (st : Nat) (res : List Byte) (hf : t.flight = s.flight) (hc : t.compl = s.compl)
    (hn : t.frame = s.frame) : Ended f st res s (finish f st res t) :=
  ⟨by rw [finish_flight, hf], by rw [finish_compl, complOf, hc, hn]⟩

theorem rg_finish_ok {f : Flight} {a : Nat} (res : List Byte) (s : State) (h : a ≠ 0x5024) : rg (finish f stOk res s) a = rg s a :=
  rg_bump_ne 1 s h

/-- The session's copies outlast the end of the command that staged them. -/
theorem stagedBy_finish {f : Flight} {l : List (Nat × Word)} {s : State} (hown : OwnOpen f s) (hl : Stageable l) :
    StagedBy l f s (finish f stOk [] (stageAll (ownerCmd f.path) l s)) := by
  have hsame := same_stageAll (ownerCmd f.path) l s
  have hheld := holdsCopies_stageAll hown.st hown.owner hl.once
  have hfin := same_finish f stOk [] (stageAll (ownerCmd f.path) l s)
  have hstg {a : Nat} (ha : a ≠ 0x5024) :
      stg (finish f stOk [] (stageAll (ownerCmd f.path) l s)) a = stg (stageAll (ownerCmd f.path) l s) a :=
    stg_congr (rg_finish_ok _ _ ha) (hfin.dspPend.resolve_left (by decide)) (hfin.staged.resolve_left (by decide))
  refine ⟨ended_finish _ _ (hsame.flight.resolve_left (by decide)) (hsame.compl.resolve_left (by decide))
    (hsame.frame.resolve_left (by decide)), (hfin.comp hsame).eq, fun a ha => ?_, fun e he => ?_, fun a ha hne => ?_, ?_, ?_⟩
  · exact (rg_finish_ok _ _ (by simpa using ha)).trans (rg_congr (hsame.regs.resolve_left (by decide)) a)
  · have hfield := hl.field e he
    exact (hstg (by omega)).trans (hheld.taken e he)
  · exact (hstg ha).trans (hheld.others a hne)
  · rw [finish_cmt, hheld.st]
  · rw [finish_cmt, hheld.owner]

theorem ownerTouch_idle (o : Owner) (s : State) : ownerTouch o s = { s with cmt := { s.cmt with idle := (ownerTouch o s).cmt.idle } } := by
  unfold ownerTouch
  split <;> rfl

/-- A refused command ends, and of the session's record only the idle time can change. -/
theorem refused_finish (f : Flight) (st : Nat) (o : Owner) (s : State) :
    finish f st [] (ownerTouch o s) = { s with
      regs := (finish f st [] (ownerTouch o s)).regs
      cmt := { s.cmt with idle := (finish f st [] (ownerTouch o s)).cmt.idle }
      flight := (finish f st [] (ownerTouch o s)).flight
      compl := (finish f st [] (ownerTouch o s)).compl } ∧
      Ended f st [] s (finish f st [] (ownerTouch o s)) := by
  have htouch := same_ownerTouch o s
  refine ⟨?_, ended_finish _ _ (htouch.flight.resolve_left (by decide)) (htouch.compl.resolve_left (by decide))
    (htouch.frame.resolve_left (by decide))⟩
  have hcmt : (finish f st [] (ownerTouch o s)).cmt = { s.cmt with idle := (finish f st [] (ownerTouch o s)).cmt.idle } := by
    rw [finish_cmt]
    exact congrArg State.cmt (ownerTouch_idle o s)
  conv_rhs => rw [← hcmt]
  exact ((same_finish f st [] (ownerTouch o s)).comp htouch).eq

/-! ### A row that stages copies, by its gate (R393) -/

theorem stages_of_gate {f : Flight} {bad : Bool} {pages : List (PageK × Nat)} (l : State → List (Nat × Word)) {s : State} {st : Nat}
    (h : sessGate f bad pages s = some st) : stages f bad pages l s = finish f st [] (ownerTouch (ownerCmd f.path) s) := by
  simp only [stages, h]

section

variable {i : Instr} {f : Flight} {bad : Bool} {pages : List (PageK × Nat)} {l : List (Nat × Word)} {s : State}
  (hrow : exec i s = .next (stages f bad pages (fun _ => l) s))

include hrow

theorem staged_of_row (hown : OwnOpen f s) (hb : bad = false) (he : anyExpert s pages = false) (hl : Stageable l) :
    ∃ t, exec i s = .next t ∧ StagedBy l f s t := by
  have hgate : sessGate f bad pages s = none := by simp [sessGate, sessRefusal, hb, he, hown.st, hown.owner]
  refine ⟨_, hrow, ?_⟩
  simp only [stages, hgate]
  exact stagedBy_finish hown hl

theorem refused_of_row {st : Nat} (hgate : sessGate f bad pages s = some st) : ∃ t, exec i s = .next t ∧
    t = { s with regs := t.regs, cmt := { s.cmt with idle := t.cmt.idle }, flight := t.flight, compl := t.compl } ∧
    Ended f st [] s t :=
  ⟨_, hrow.trans (congrArg _ (stages_of_gate _ hgate)), refused_finish ..⟩

theorem badParam_of_row (hb : bad = true) : ∃ t, exec i s = .next t ∧
    t = { s with regs := t.regs, cmt := { s.cmt with idle := t.cmt.idle }, flight := t.flight, compl := t.compl } ∧
    Ended f stBadParam [] s t :=
  refused_of_row hrow (if_pos hb)

theorem notPermitted_of_row (hb : bad = false) (h : anyExpert s pages = true ∨ s.cmt.st = .closed) : ∃ t, exec i s = .next t ∧
    t = { s with regs := t.regs, cmt := { s.cmt with idle := t.cmt.idle }, flight := t.flight, compl := t.compl } ∧
    Ended f stNotPermitted [] s t := by
  refine refused_of_row hrow ?_
  rw [sessGate, hb, if_neg Bool.false_ne_true]
  split
  · rfl
  · next he => exact sessRefusal_of_closed (h.resolve_left he)

end

/-! ### CH_SET_RATE -/

/-- CH_SET_RATE sets the profile too (bit 1 of its flags). -/
def rateSets (f : Flight) : Bool := decide (par f 3 1 / 2 % 2 = 1)

def rateBad (f : Flight) : Bool :=
  decide (511 < par f 0 2) || decide (3 < par f 2 1) || decide (3 < par f 3 1) || decide (10 < par f 4 1) || decide (3 < par f 5 1) ||
    decide (par f 4 1 = 10 ∧ par f 5 1 = 3) || decide (7 < par f 6 1) || decide (10000 < par f 8 2) ||
    (rateSets f && decide (par f 8 2 = 0))

def ratePages (f : Flight) : List (PageK × Nat) := (.shf, par f 0 2 / 32) :: (if rateSets f then [(.flt, par f 0 2 / 32)] else [])

/-- The copies CH_SET_RATE stages. -/
def rateCopies (f : Flight) (s : State) : List (Nat × Word) :=
  (chFiltA (par f 0 2), setFld (setFld (stg s (chFiltA (par f 0 2))) 0 2 (par f 2 1)) 2 1 (par f 3 1)) ::
    (if par f 3 1 / 2 % 2 = 1 then
      [(profCfgA (par f 0 2 / 32) (par f 2 1), setFld (setFld (stg s (profCfgA (par f 0 2 / 32) (par f 2 1))) 0 4 (par f 4 1)) 4 2 (par f 5 1)),
       (profDcbA (par f 0 2 / 32) (par f 2 1), setFld (setFld (stg s (profDcbA (par f 0 2 / 32) (par f 2 1))) 16 3 (par f 6 1)) 0 14 (par f 8 2))]
    else [])

section

variable {p : Path} {tag : Nat} {f : Flight} {s : State}

theorem chSetRate_row (h : IsNext p tag 0x0201 f s) (hlen : f.buf.length = 12) :
    exec (.chSetRate p tag) s = .next (stages f (rateBad f) (ratePages f) (fun _ => rateCopies f s) s) := by
  have hcopies : stages f (rateBad f) (ratePages f) (fun _ => rateCopies f s) s = rateCmd f s := by
    simp only [rateCmd, rateBad, ratePages, rateSets, rateCopies, stages, stgSet, List.foldl_cons, List.foldl_nil, decide_eq_true_eq]
  rw [hcopies]
  exact command_of_isNext rateCmd h (by simp [isLen, hlen])

theorem rateBad_of_index (h : 511 < par f 0 2) : rateBad f = true := by simp [rateBad, h]

/-- The parameters of CH_SET_RATE are sound, as its row has them (R393). -/
structure RateSound (f : Flight) : Prop where
  channel : par f 0 2 < 512
  profile : par f 2 1 ≤ 3
  flags : par f 3 1 ≤ 3
  e2 : par f 4 1 ≤ 10
  e5 : par f 5 1 ≤ 3
  rate : par f 4 1 < 10 ∨ par f 5 1 < 3
  dcb : par f 6 1 ≤ 7
  delay : par f 8 2 ≤ 10000
  delayed : 2 ≤ par f 3 1 → par f 8 2 ≠ 0

theorem rateSets_iff (h : par f 3 1 ≤ 3) : rateSets f = true ↔ 2 ≤ par f 3 1 := by
  rw [rateSets, decide_eq_true_eq]
  omega

theorem RateSound.not_bad (h : RateSound f) : rateBad f = false := by
  have hset : ¬(rateSets f = true ∧ par f 8 2 = 0) := fun ⟨hs, hz⟩ => h.delayed ((rateSets_iff h.flags).1 hs) hz
  have hrate := h.rate
  simp [rateBad, h.profile, h.flags, h.e2, h.e5, h.dcb, h.delay, Nat.le_of_lt_succ h.channel]
  simp at hset
  exact ⟨by omega, hset⟩

theorem anyExpert_ratePages (h : RateSound f) : anyExpert s (ratePages f) = true ↔
    expert s .shf (par f 0 2 / 32) = true ∨ 2 ≤ par f 3 1 ∧ expert s .flt (par f 0 2 / 32) = true := by
  rw [← rateSets_iff h.flags, ratePages]
  cases rateSets f <;> simp [anyExpert]

theorem stageable_rateCopies (h : RateSound f) : Stageable (rateCopies f s) := by
  have hg := h.channel
  have hp := h.profile
  unfold rateCopies
  constructor <;> split <;> simp [chFiltA, chReg, profCfgA, profDcbA, fltReg] <;> omega

end

/-! ### CH_ENABLE -/

/-- The copies CH_ENABLE stages. -/
def enableCopies (f : Flight) (s : State) : List (Nat × Word) :=
  ((List.range 32).filter (fun c => (par f 4 4 ||| par f 8 4).testBit c)).map (fun c =>
    (chCfgA (32 * par f 0 1 + c), setFld (stg s (chCfgA (32 * par f 0 1 + c))) 0 1 (bbit ((par f 4 4).testBit c) 0)))

theorem chCfgA_injective : Function.Injective chCfgA := by
  intro g h e
  simp only [chCfgA, chReg] at e
  omega

theorem le_chCfgA (g : Nat) : 0x20000 ≤ chCfgA g := by
  simp only [chCfgA, chReg]
  omega

theorem stageable_enableCopies (f : Flight) (s : State) : Stageable (enableCopies f s) := by
  refine ⟨?_, fun e he => ?_⟩
  · rw [enableCopies, List.map_map]
    refine List.Nodup.map (fun c d e => ?_) (List.nodup_range.filter _)
    have hcd := chCfgA_injective e
    omega
  · obtain ⟨c, -, rfl⟩ := List.mem_map.1 he
    exact le_chCfgA _

theorem chEnable_row {p : Path} {tag : Nat} {f : Flight} {s : State} (h : IsNext p tag 0x0202 f s) (hlen : f.buf.length = 12) :
    exec (.chEnable p tag) s =
      .next (stages f (decide (15 < par f 0 1) || decide (par f 4 4 &&& par f 8 4 ≠ 0)) [(.shf, par f 0 1)] (fun _ => enableCopies f s) s) :=
  command_of_isNext enableCmd h (by simp [isLen, hlen])

/-! ### CH_AUTORANGE -/

/-- The copy CH_AUTORANGE stages. -/
def autorangeCopies (f : Flight) (s : State) : List (Nat × Word) :=
  [(chCfgA (par f 0 2), if par f 2 1 = 0 then setFld (stg s (chCfgA (par f 0 2))) 8 2 0
    else setFld (setFld (stg s (chCfgA (par f 0 2))) 8 2 (par f 2 1)) 4 3 0)]

theorem stageable_autorangeCopies (f : Flight) (s : State) : Stageable (autorangeCopies f s) :=
  ⟨List.nodup_singleton _, fun _ he => List.mem_singleton.1 he ▸ le_chCfgA _⟩

theorem chAutorange_row {p : Path} {tag : Nat} {f : Flight} {s : State} (h : IsNext p tag 0x0203 f s) (hlen : f.buf.length = 4) :
    exec (.chAutorange p tag) s =
      .next (stages f (decide (511 < par f 0 2) || decide (2 < par f 2 1)) [(.shf, par f 0 2 / 32)] (fun _ => autorangeCopies f s) s) := by
  have hcopies : autorangeCopies f s =
      [stgSet s (chCfgA (par f 0 2)) ((8, 2, par f 2 1) :: (if par f 2 1 = 0 then [] else [(4, 3, 0)]))] := by
    unfold autorangeCopies
    split <;> simp [stgSet, *]
  rw [hcopies]
  exact command_of_isNext autorangeCmd h (by simp [isLen, hlen])

/-! ### SHF_EXC_SET -/

def excBad (f : Flight) : Bool :=
  decide (15 < par f 0 1) || decide (3 < par f 1 1) || decide (3 < par f 2 1) || decide (3 < par f 3 1) || decide (63 < par f 6 1) ||
    decide (3 < par f 7 1) || decide (0xFFF < par f 8 2) || decide (15 < par f 10 1) || decide (1 < par f 12 1) ||
    decide (1 < par f 13 1) || decide (15 < par f 14 1)

/-- The copies SHF_EXC_SET stages. -/
def excCopies (f : Flight) (s : State) : List (Nat × Word) :=
  (if par f 2 1 % 2 = 1 then
    [(excCfgA (4 * par f 0 1 + par f 1 1), setFld (setFld (setFld (setFld (stg s (excCfgA (4 * par f 0 1 + par f 1 1))) 24 2 (par f 7 1))
        22 2 (par f 3 1)) 16 6 (par f 6 1)) 0 16 (par f 4 2)),
     (excLoadA (4 * par f 0 1 + par f 1 1), setFld (setFld (setFld (stg s (excLoadA (4 * par f 0 1 + par f 1 1))) 16 8 (par f 11 1))
        12 4 (par f 10 1)) 0 12 (par f 8 2))] else []) ++
  (if par f 2 1 / 2 % 2 = 1 then
    [(shfReg (par f 0 1) 0x140, setFld (setFld (setFld (stg s (shfReg (par f 0 1) 0x140)) 8 4 (par f 14 1)) 1 1 (par f 13 1)) 0 1 (par f 12 1))]
  else [])

theorem stageable_excCopies {f : Flight} (s : State) (hk : par f 1 1 ≤ 3) : Stageable (excCopies f s) := by
  unfold excCopies
  constructor <;> split <;> split <;> simp [excCfgA, excLoadA, shfReg] <;> omega

theorem shfExcSet_row {p : Path} {tag : Nat} {f : Flight} {s : State} (h : IsNext p tag 0x0207 f s) (hlen : f.buf.length = 16) :
    exec (.shfExcSet p tag) s = .next (stages f (excBad f) [(.shf, par f 0 1)] (fun _ => excCopies f s) s) :=
  command_of_isNext excCmd h (by simp [isLen, hlen])

/-! ### The statement -/

theorem anyExpert_single (s : State) (k : PageK) (i : Nat) : anyExpert s [(k, i)] = expert s k i := Bool.or_false _

/-- Settles O53: each command's row is a gate and a list of copies; the gate decides the status, and the list is staged one by one. -/
theorem channelStaging : Obligations.ChannelStaging := by
  unfold Obligations.ChannelStaging
  refine ⟨?_, ?_, ?_, ?_, ?_, ?_, ?_, ?_, ?_, ?_, ?_, ?_, ?_, ?_, ?_, ?_⟩
  · intro p tag f s h hlen hown h0 h1 h2 h3 h4 h5 h6 h7 h8 hshf hflt
    have hsound : RateSound f := ⟨h0, h1, h2, h3, h4, h5, h6, h7, h8⟩
    refine staged_of_row (chSetRate_row h hlen) hown hsound.not_bad ?_ (stageable_rateCopies hsound)
    rw [Bool.eq_false_iff, Ne, anyExpert_ratePages hsound]
    rintro (he | ⟨hset, he⟩)
    · exact Bool.false_ne_true (hshf.symm.trans he)
    · exact Bool.false_ne_true ((hflt hset).symm.trans he)
  · intro p tag f s h hlen hown h0 h1 he
    exact staged_of_row (chEnable_row h hlen) hown (by simp [h0, h1]) ((anyExpert_single ..).trans he) (stageable_enableCopies f s)
  · intro p tag f s h hlen hown h0 h1 he
    exact staged_of_row (chAutorange_row h hlen) hown (by simp; omega) ((anyExpert_single ..).trans he) (stageable_autorangeCopies f s)
  · intro p tag f s h hlen hown h0 h1 h2 h3 h4 h5 h6 h7 h8 h9 h10 he
    exact staged_of_row (shfExcSet_row h hlen) hown (by simp [excBad, *]) ((anyExpert_single ..).trans he) (stageable_excCopies s h1)
  · intro p tag f s h hlen h0
    exact badParam_of_row (chSetRate_row h hlen) (rateBad_of_index h0)
  · intro p tag f s h hlen h0 h1 h2 h3 h4 h5 h6 h7 h8 he
    have hsound : RateSound f := ⟨h0, h1, h2, h3, h4, h5, h6, h7, h8⟩
    exact notPermitted_of_row (chSetRate_row h hlen) hsound.not_bad (.inl ((anyExpert_ratePages hsound).2 he))
  · intro p tag f s h hlen h0 h1 h2 h3 h4 h5 h6 h7 h8 hc
    exact notPermitted_of_row (chSetRate_row h hlen) (RateSound.mk h0 h1 h2 h3 h4 h5 h6 h7 h8).not_bad (.inr hc)
  · intro p tag f s h hlen h0
    exact badParam_of_row (chEnable_row h hlen) (by simp [h0])
  · intro p tag f s h hlen h0 h1 he
    exact notPermitted_of_row (chEnable_row h hlen) (by simp [h0, h1]) (.inl ((anyExpert_single ..).trans he))
  · intro p tag f s h hlen h0 h1 hc
    exact notPermitted_of_row (chEnable_row h hlen) (by simp [h0, h1]) (.inr hc)
  · intro p tag f s h hlen h0
    exact badParam_of_row (chAutorange_row h hlen) (by simp [h0])
  · intro p tag f s h hlen h0 h1 he
    exact notPermitted_of_row (chAutorange_row h hlen) (by simp; omega) (.inl ((anyExpert_single ..).trans he))
  · intro p tag f s h hlen h0 h1 hc
    exact notPermitted_of_row (chAutorange_row h hlen) (by simp; omega) (.inr hc)
  · intro p tag f s h hlen h0
    exact badParam_of_row (shfExcSet_row h hlen) (by simp [excBad, h0])
  · intro p tag f s h hlen h0 h1 h2 h3 h4 h5 h6 h7 h8 h9 h10 he
    exact notPermitted_of_row (shfExcSet_row h hlen) (by simp [excBad, *]) (.inl ((anyExpert_single ..).trans he))
  · intro p tag f s h hlen h0 h1 h2 h3 h4 h5 h6 h7 h8 h9 h10 hc
    exact notPermitted_of_row (shfExcSet_row h hlen) (by simp [excBad, *]) (.inr hc)

end Sys2Proof.Machine
/-! SUPPORT. SHF_REF_ENABLE on a hub with a driven output: the arming of the command's own session issues a conversion of VEXC
(R154, R158, R159, R393). -/

namespace Sys2Proof.Machine

open Sys2Proof

theorem exec_shfRefEnable (p : Path) (tag : Nat) (s : State) : exec (.shfRefEnable p tag) s = execShfRefEnable p tag s := rfl

theorem vexcBusy_congr {s t : State} (h : t.auxs = s.auxs) (n : Nat) : vexcBusy t n = vexcBusy s n := by
  unfold vexcBusy aux
  rw [h]

theorem excUsed_of_mode {n k : Nat} {s : State} (hk : k < 16) (h : (exc s (16 * n + k)).mode ≠ .off) : excUsed s n = true :=
  List.any_eq_true.2 ⟨k, List.mem_range.2 hk, by simp [h]⟩

theorem checkStart_auxs (arm : Bool) (s : State) : (checkStart arm s).auxs = (vexcIssue s).auxs := by
  unfold checkStart
  extract_lets x f p
  exact modCmt_auxs _ x

/-- The registers that ARM of a command's own session clears first: it asks for no particular frame, and no lock (R393). -/
def armCleared (s : State) : State := setRg 0x2048 0 (setRg 0x2050 0 (setRg 0x2054 0 (sessionTouch s)))

theorem ownArm_auxs (s : State) : (ownArm s).auxs = (vexcIssue (armCleared s)).auxs := checkStart_auxs true (armCleared s)

theorem rg_armCleared (s : State) : rg (armCleared s) 0x1048 = rg s 0x1048 := by
  rw [armCleared, rg_setRg_ne _ _ (by decide), rg_setRg_ne _ _ (by decide), rg_setRg_ne _ _ (by decide)]
  rfl

/-- ARM of a command's own session leaves a VEXC conversion at each available converter whose die has an output that is not OFF (R158,
R159). -/
theorem vexcBusy_ownArm {n k : Nat} {s : State} (hn : n < 4) (hk : k < 16) (hm : (exc s (16 * n + k)).mode ≠ .off)
    (ha : auxAvail s n = true) : vexcBusy (ownArm s) n = true := by
  have hused : excUsed (armCleared s) n = true := excUsed_of_mode hk hm
  have hav : auxAvail (armCleared s) n = true := by
    rw [← ha, auxAvail, auxAvail, rg_armCleared]
    rfl
  rw [vexcBusy_congr (ownArm_auxs s)]
  exact vexcBusy_vexcIssue hn hused hav

/-- A command with a session of its own, where none is open: opened, staged, armed, and waiting (R393). -/
theorem ownSession_of_closed (f : Flight) (w : Wait) (l : State → List (Nat × Word)) {s : State} (hc : s.cmt.st = .closed)
    (hh : s.hub.st ≠ .resync) :
    ownSession f w l s =
      await f w (ownArm (stageAll (ownerCmd f.path) (l (opened (ownerCmd f.path) s)) (opened (ownerCmd f.path) s))) := by
  simp only [ownSession, sessionOpen_of_closed _ hc hh, if_true]

/-- So does its session: a VEXC conversion is there while the command waits for its apply. -/
theorem vexcBusy_ownSession {n k : Nat} (f : Flight) (w : Wait) (l : State → List (Nat × Word)) {s : State} (hc : s.cmt.st = .closed)
    (hh : s.hub.st ≠ .resync) (hn : n < 4) (hk : k < 16) (hm : (exc s (16 * n + k)).mode ≠ .off) (ha : auxAvail s n = true) :
    vexcBusy (ownSession f w l s) n = true := by
  have hsame := same_stageAll (ownerCmd f.path) (l (opened (ownerCmd f.path) s)) (opened (ownerCmd f.path) s)
  have hexcs := hsame.excs.resolve_left (by decide)
  have hregs := hsame.regs.resolve_left (by decide)
  have hdies := hsame.dies.resolve_left (by decide)
  have hbusy := vexcBusy_ownArm (s := stageAll (ownerCmd f.path) (l (opened (ownerCmd f.path) s)) (opened (ownerCmd f.path) s)) hn hk
    (by rw [exc, hexcs]; exact hm) (by rw [← ha, auxAvail, auxAvail, die_congr hdies, rg_congr hregs]; rfl)
  rw [ownSession_of_closed f w l hc hh, ← hbusy]
  exact vexcBusy_congr (await_auxs ..) n

theorem shfRefEnable_eq {p : Path} {tag : Nat} {f : Flight} {s : State} (h : IsNext p tag 0x0206 f s) (hlen : f.buf.length = 4)
    (hss : par f 0 1 ≤ 15) (hen : par f 1 1 ≤ 0x3F) (hw : par f 2 1 ≤ 1) (hx : expert s .shf (par f 0 1) = false) :
    exec (.shfRefEnable p tag) s = .next (ownSession f (.refApply (par f 0 1) (par f 1 1) (decide (par f 2 1 = 1)))
      (fun s => [stgSet s (shfReg (par f 0 1) 0x200) [(0, 6, par f 1 1)]]) s) := by
  rw [exec_shfRefEnable, execShfRefEnable, command_of_isNext refCmd h (by simp [isLen, hlen])]
  simp only [refCmd, hx, if_neg (show ¬ (15 < par f 0 1 ∨ 0x3F < par f 1 1 ∨ 1 < par f 2 1) by omega), Bool.false_eq_true, if_false]

/-- SHF_REF_ENABLE of sheaf 0's buffers, asked by the host. -/
def refsAsked : Flight := { path := .host, tag := 1, gen := 0, op := 0x0206, buf := [0, 0x3F, 0, 0] }

/-- No session is open, the converter of field die 0 is available, and an output of the die shares its load. -/
def drivenDie : State :=
  { State.reset with
    pwr := { phase := .run }
    regs := [(0x1048, 1#32)]
    dies := [(0, { up := true, trained := true })]
    excs := [(0, { mode := .share })]
    flight := [refsAsked] }

/-- Refutes O54: the ARM of SHF_REF_ENABLE's own session issues an urgent conversion of VEXC at the converter of each field die that
drives an output (R158), so the converters' queues do not stand. -/
theorem not_sensorAndFilterCommands : ¬ Obligations.SensorAndFilterCommands := by
  unfold Obligations.SensorAndFilterCommands
  rintro ⟨_, _, _, _, _, _, _, henable, _⟩
  have hnext : IsNext .host 1 0x0206 refsAsked drivenDie := ⟨by decide, by decide⟩
  obtain ⟨t, ht, hframe, _⟩ := henable .host 1 refsAsked drivenDie hnext rfl (by decide) (by decide) (by decide) (by decide) rfl
    (by decide)
  obtain rfl := Host.Outcome.next.inj
    (ht.symm.trans (shfRefEnable_eq hnext rfl (by decide) (by decide) (by decide) (by decide)))
  have hbusy := vexcBusy_ownSession (n := 0) (k := 0) refsAsked
    (.refApply (par refsAsked 0 1) (par refsAsked 1 1) (decide (par refsAsked 2 1 = 1)))
    (fun s => [stgSet s (shfReg (par refsAsked 0 1) 0x200) [(0, 6, par refsAsked 1 1)]]) (s := drivenDie) rfl (by decide) (by decide)
    (by decide) (by decide) (by decide)
  have hkept : vexcBusy drivenDie 0 = true := (vexcBusy_congr (congrArg (·.auxs) hframe) 0).symm.trans hbusy
  exact absurd hkept (by decide)

end Sys2Proof.Machine
/-! SUPPORT. What the front end reports of a channel, its range, its fault and its start (R107 to R111, R120, R144 to R149). -/

namespace Sys2Proof.Machine

open Sys2Proof

theorem exec_peakTripUprange (g : Nat) (b : Bool) (t : Nat) (s : State) :
    exec (.peakTripUprange g b t) s = execPeakTripUprange g b t s := rfl

theorem exec_downrangeCount (g t : Nat) (s : State) : exec (.downrangeCount g t) s = execDownrangeCount g t s := rfl

theorem exec_clipDetect (g : Nat) (pos : Bool) (t : Nat) (s : State) : exec (.clipDetect g pos t) s = execClipDetect g pos t s := rfl

theorem exec_modulatorFault (g t : Nat) (s : State) : exec (.modulatorFault g t) s = execModulatorFault g t s := rfl

theorem exec_modulatorFaultClear (g : Nat) (s : State) : exec (.modulatorFaultClear g) s = execModulatorFaultClear g s := rfl

theorem exec_modulatorStart (ss t : Nat) (s : State) : exec (.modulatorStart ss t) s = execModulatorStart ss t s := rfl

/-! ### Events of a channel (R122, R123) -/

/-- An event bit of a channel is set, and its cause raised; no other register changes. -/
structure Reported (g b : Nat) (s t : State) : Prop where
  event : rg t (chEventA g) = rg s (chEventA g) ||| word (2 ^ b)
  others : SameRegs [chEventA g, pgIrq .shf (g / 32)] s t

/-- So is one that a counter of the sheaf counts. -/
structure Counted (o g b : Nat) (s t : State) : Prop where
  count : rg t (shfReg (g / 32) o) = word (satAdd 32 (rg s (shfReg (g / 32) o)).toNat 1)
  event : rg t (chEventA g) = rg s (chEventA g) ||| word (2 ^ b)
  others : SameRegs [shfReg (g / 32) o, chEventA g, pgIrq .shf (g / 32)] s t

theorem chEventA_ne_pgIrq (g : Nat) : chEventA g ≠ pgIrq .shf (g / 32) := by
  simp only [chEventA, chReg, pgIrq, pageBase]
  omega

/-- The sheaf's own registers above its header are neither its causes nor of a channel. -/
theorem shfReg_ne {o : Nat} (g : Nat) (lo : 0x20 ≤ o) (hi : o < 0x400) :
    shfReg (g / 32) o ≠ chEventA g ∧ shfReg (g / 32) o ≠ pgIrq .shf (g / 32) := by
  simp only [shfReg, chEventA, chReg, pgIrq, pageBase]
  omega

theorem reported_chEvent {g b : Nat} {s x : State} (hx : x.regs = s.regs) : Reported g b s (chEvent g b x) where
  event := by rw [chEvent, rg_raise_ne _ _ (chEventA_ne_pgIrq g), rg_setRg_self, rg_congr hx]
  others a ha := by
    simp only [List.mem_cons, List.not_mem_nil, or_false, not_or] at ha
    rw [chEvent, rg_raise_ne _ _ ha.2, rg_setRg_ne _ _ ha.1, rg_congr hx]

theorem Reported.counted {o g b : Nat} {s x : State} (h : Reported g b s x) (lo : 0x20 ≤ o) (hi : o < 0x400) :
    Counted o g b s (bump (shfReg (g / 32) o) 1 x) := by
  obtain ⟨hevent, hcause⟩ := shfReg_ne g lo hi
  refine ⟨?_, ?_, fun a ha => ?_⟩
  · rw [rg_bump_self, h.others _ (by simp [hevent, hcause])]
  · rw [rg_bump_ne _ _ hevent.symm, h.event]
  · simp only [List.mem_cons, List.not_mem_nil, or_false, not_or] at ha
    rw [rg_bump_ne _ _ ha.1, h.others a (by simp [ha.2])]

/-- A report speaks of registers alone. -/
theorem Reported.congr {g b : Nat} {s x t u : State} (h : Reported g b x t) (hx : x.regs = s.regs) (hu : u.regs = t.regs) :
    Reported g b s u where
  event := by rw [rg_congr hu, h.event, rg_congr hx]
  others a ha := by rw [rg_congr hu, h.others a ha, rg_congr hx]

theorem Counted.congr {o g b : Nat} {s x t u : State} (h : Counted o g b x t) (hx : x.regs = s.regs) (hu : u.regs = t.regs) :
    Counted o g b s u where
  count := by rw [rg_congr hu, h.count, rg_congr hx]
  event := by rw [rg_congr hu, h.event, rg_congr hx]
  others a ha := by rw [rg_congr hu, h.others a ha, rg_congr hx]

theorem chan_chEvent (g b : Nat) (s : State) (h : Nat) : chan (chEvent g b s) h = chan s h :=
  chan_congr ((same_chEvent g b s).chans.resolve_left (by decide)) h

theorem lt_of_chActive {s : State} {g : Nat} (h : chActive s g = true) : g < 512 := by
  simp only [chActive, Bool.and_eq_true, decide_eq_true_eq] at h
  exact h.1

theorem chOn_of_chActive {s : State} {g : Nat} (h : chActive s g = true) : chOn s g = true := by
  have hg := lt_of_chActive h
  simp only [chActive, Bool.and_eq_true, Bool.or_eq_true, decide_eq_true_eq] at h
  rcases h.2 with hst | hst <;> simp [chOn, hg, hst]

/-! ### The range of a channel (R107 to R111) -/

theorem chan_shiftFrom (g code t : Nat) (s : State) : ∃ sh, chan (shiftFrom g code t s) g = { chan s g with shifts := sh } := by
  unfold shiftFrom
  extract_lets k
  split
  · exact ⟨_, rfl⟩
  · exact ⟨_, chan_modChan_self ..⟩

/-- A channel in its new range: the count of samples starts anew. -/
theorem chan_switchRange (g code t : Nat) (s : State) :
    ∃ m sh, chan (switchRange g code t s) g = { chan s g with arCount := 0, gain := code, marks := m, shifts := sh } := by
  obtain ⟨sh, hsh⟩ := chan_shiftFrom g code t (modChan g (fun x => { x with arCount := 0 }) s)
  rw [chan_modChan_self] at hsh
  unfold switchRange
  extract_lets x
  change chan x g = _ at hsh
  split
  · next hgain =>
    refine ⟨(chan s g).marks, sh, ?_⟩
    rw [← hgain, hsh]
  · exact ⟨_, sh, by rw [mark, chan_modChan_self, chan_modChan_self, hsh]⟩

theorem chanOnly_switchRange (g code t : Nat) (s : State) : ChanOnly g s (switchRange g code t s) := by
  unfold switchRange
  extract_lets x
  have hx : ChanOnly g s x := (chanOnly_shiftFrom ..).trans (.modChan ..)
  exact .ite hx ((ChanOnly.modChan ..).trans ((ChanOnly.modChan ..).trans hx))

/-- What autorange leaves of a channel at a switch of its range. -/
structure Switched (code : Nat) (up : Bool) (x y : Chan) : Prop where
  gain : y.gain = code
  arCount : y.arCount = 0
  st : y.st = x.st
  upCnt : y.upCnt = if up then min 255 (x.upCnt + 1) else x.upCnt
  dnCnt : y.dnCnt = if up then x.dnCnt else min 255 (x.dnCnt + 1)

theorem switched_arSwitch (g code t : Nat) (up : Bool) (s : State) : Switched code up (chan s g) (chan (arSwitch g code t up s) g) := by
  obtain ⟨m, sh, hsw⟩ := chan_switchRange g code (nextMc t) s
  unfold arSwitch
  extract_lets b x w y
  have hy : chan y g = _ := chan_modChan_self ..
  rw [hsw] at hy
  cases up
  · rw [if_neg Bool.false_ne_true, chan_chEvent, chan_modChan_self, hy]
    exact ⟨rfl, rfl, rfl, rfl, rfl⟩
  · rw [if_pos rfl, chan_bump, chan_chEvent, chan_modChan_self, hy]
    exact ⟨rfl, rfl, rfl, rfl, rfl⟩

theorem chanOnly_arSwitch (g code t : Nat) (up : Bool) (s : State) : ChanOnly g s (arSwitch g code t up s) := by
  unfold arSwitch
  extract_lets b x w y
  have hy : ChanOnly g s y := (ChanOnly.modChan ..).trans (chanOnly_switchRange ..)
  refine .ite (.trans (.ofChans (bump_chans ..)) ?_) ?_ <;>
    exact .trans (.ofChans ((same_chEvent ..).chans.resolve_left (by decide))) ((ChanOnly.modChan ..).trans hy)

/-- A switch upward is counted in the sheaf (R122). -/
theorem counted_arSwitch_up (g code t : Nat) (s : State) : Counted 0x28 g 4 s (arSwitch g code t true s) := by
  unfold arSwitch
  extract_lets b x w y
  have hy := (same_switchRange g code b s).regs.resolve_left (by decide)
  rw [if_pos rfl]
  refine Reported.counted (reported_chEvent ?_) (by decide) (by decide)
  rw [modChan_regs, modChan_regs, hy]

theorem reported_arSwitch_down (g code t : Nat) (s : State) : Reported g 5 s (arSwitch g code t false s) := by
  unfold arSwitch
  extract_lets b x w y
  have hy := (same_switchRange g code b s).regs.resolve_left (by decide)
  rw [if_neg Bool.false_ne_true]
  refine reported_chEvent ?_
  rw [modChan_regs, modChan_regs, hy]

/-- The channel of a peak trip, its count started anew. -/
def peaked (g t : Nat) (s : State) : State := modChan g (fun x => { x with arCount := 0 }) (advance t s)

theorem chan_peaked_self (g t : Nat) (s : State) : chan (peaked g t s) g = { chan s g with arCount := 0 } := by
  rw [peaked, chan_modChan_self, chan_advance]

theorem chan_peaked_ne {g h : Nat} (t : Nat) (s : State) (hne : h ≠ g) : chan (peaked g t s) h = chan s h := by
  rw [peaked, chan_modChan_ne _ _ _ _ hne, chan_advance]

theorem same_peaked (g t : Nat) (s : State) : Same 65537 s (peaked g t s) := (same_modChan ..).comp (same_advance ..)

theorem peaked_regs (g t : Nat) (s : State) : (peaked g t s).regs = s.regs := (same_peaked g t s).regs.resolve_left (by decide)

section

variable {g t : Nat} {b : Bool} {s : State} (hact : chActive s g = true) (har : af s (chCfgA g) 8 2 ≠ 0)
include hact har

theorem peakTrip_switches (hgain : (chan s g).gain ≠ 0) :
    exec (.peakTripUprange g b t) s = .next (arSwitch g (if b then 0 else widerGain (chan s g).gain) t true (peaked g t s)) := by
  have hg : (chan (peaked g t s) g).gain = (chan s g).gain := by rw [chan_peaked_self]
  rw [exec_peakTripUprange, execPeakTripUprange, if_pos (by simp [hact, har])]
  change (if (chan (peaked g t s) g).gain = 0 then _ else _) = _
  rw [hg, if_neg hgain]
  exact congrArg (fun n => Host.Outcome.next (arSwitch g (if b then 0 else widerGain n) t true (peaked g t s))) hg

theorem peakTrip_atGainOne (hgain : (chan s g).gain = 0) : exec (.peakTripUprange g b t) s = .next (peaked g t s) := by
  rw [exec_peakTripUprange, execPeakTripUprange, if_pos (by simp [hact, har])]
  exact if_pos ((congrArg (·.gain) (chan_peaked_self g t s)).trans hgain)

theorem downrange_switches {code : Nat} (hcount : 256 ≤ (chan s g).arCount)
    (hcode : narrowerGain (af s (chCfgA g) 8 2) (chan s g).gain = some code) :
    exec (.downrangeCount g t) s = .next (arSwitch g code t false (advance t s)) := by
  simp only [exec_downrangeCount, execDownrangeCount, hcode]
  exact if_pos (by simp [hact, har, hcount])

end

theorem peakTrip_passes {g t : Nat} {b : Bool} {s : State} (h : chActive s g = false ∨ af s (chCfgA g) 8 2 = 0) :
    exec (.peakTripUprange g b t) s = .next s := by
  rw [exec_peakTripUprange, execPeakTripUprange, if_neg]
  rcases h with h | h <;> simp [h]

/-- A peak trip in a range above gain 1 widens the range (R108, R111). -/
theorem peakTrip_widens {g t : Nat} {b : Bool} {s : State} (hact : chActive s g = true) (har : af s (chCfgA g) 8 2 ≠ 0)
    (hgain : (chan s g).gain ≠ 0) :
    ∃ u, exec (.peakTripUprange g b t) s = .next u ∧ u = { s with c := u.c, chans := u.chans, regs := u.regs, evt := u.evt } ∧
      Switched (if b then 0 else widerGain (chan s g).gain) true (chan s g) (chan u g) ∧ ChanOnly g s u ∧ Counted 0x28 g 4 s u := by
  have hu := peakTrip_switches (b := b) (t := t) hact har hgain
  refine ⟨_, hu, ((same_execPeakTripUprange ..).get _ hu).eq, ?_, ?_, ?_⟩
  · have hsw := switched_arSwitch g (if b then 0 else widerGain (chan s g).gain) t true (peaked g t s)
    rw [chan_peaked_self] at hsw
    exact ⟨hsw.gain, hsw.arCount, hsw.st, hsw.upCnt, hsw.dnCnt⟩
  · exact (chanOnly_arSwitch ..).trans ⟨fun _ hne => chan_peaked_ne t s hne⟩
  · exact (counted_arSwitch_up ..).congr (peaked_regs g t s) rfl

/-! ### Overload (R143, R148, R149) -/

/-- A channel with one clipped cycle more. -/
def clipped1 (pos : Bool) (t : Nat) (x : Chan) : Chan := { x with clips := x.clips ++ [(t, pos)], clipCnt := min 255 (x.clipCnt + 1) }

theorem clipDetect_eq {g t : Nat} {pos : Bool} {s : State} (hact : chActive s g = true) :
    exec (.clipDetect g pos t) s = .next (bump (shfReg (g / 32) 0x2C) 1 (chEvent g 6 (modChan g (clipped1 pos t) (advance t s)))) :=
  (exec_clipDetect ..).trans (if_pos hact)

/-! ### Stuck modulators (R54, R120, R145, R146) -/

theorem chan_loadsSync (g t : Nat) (s : State) : ∃ l a, chan (loadsSync g t s) g = { chan s g with loads := l, loadAt := a } := by
  unfold loadsSync
  split
  · exact ⟨_, _, rfl⟩
  · exact ⟨_, _, chan_modChan_self ..⟩

theorem marksOnly_ofChans {s t : State} (h : t.chans = s.chans) : MarksOnly s t := ⟨fun g => ⟨_, chan_congr h g⟩⟩

theorem marksOnly_ltStop (ss : Nat) (s : State) : MarksOnly s (ltStop ss s) := by
  unfold ltStop
  extract_lets s1 s2 s3
  have h1 : MarksOnly s s1 := by
    unfold s1
    split
    · exact .ite (forN_rel MarksOnly.refl MarksOnly.trans (fun _ _ _ => marksOnly_endMarks ..) _) (.refl s)
    · exact .refl s
  have h3 : MarksOnly s s3 := MarksOnly.trans (t := s1) (marksOnly_ofChans rfl) h1
  exact .ite (MarksOnly.trans (t := s3) (marksOnly_ofChans ((same_startOpens ..).chans.resolve_left (by decide))) h3) h3

theorem marksOnly_ltLeave (g : Nat) (s : State) : MarksOnly s (ltLeave g s) := by
  unfold ltLeave
  split
  · refine .ite ?_ (.refl s)
    unfold ltAbort
    split
    · exact (marksOnly_ltStop ..).trans (marksOnly_ofChans ((same_ltReport ..).chans.resolve_left (by decide)))
    · exact .refl s
  · exact .refl s

theorem chan_leadDrop_lead (g : Nat) (s : State) : (chan (leadDrop g s) g).lead = .none := by
  rw [leadDrop, endMarks, chan_modChan_self, chan_modChan_self]

/-- A channel that enters FAULT loses its lead state and the start that it was due (R115, R120). -/
theorem chFault_drops {g : Nat} (c : Nat) {s : State} (h : chOn s g = true) :
    (chan (chFault g c s) g).lead = .none ∧ startOf (chFault g c s) g = none := by
  unfold chFault
  rw [if_pos h]
  extract_lets x
  obtain ⟨l, a, hl⟩ := chan_loadsSync g (256 * x.c) (chEvent g 7 (ltLeave g (leadDrop g x)))
  obtain ⟨m, hm⟩ := (marksOnly_ltLeave g (leadDrop g x)).get g
  have hsame := (same_loadsSync g (256 * x.c) (chEvent g 7 (ltLeave g (leadDrop g x)))).comp
    ((same_chEvent g 7 (ltLeave g (leadDrop g x))).comp ((same_ltLeave g (leadDrop g x)).comp (same_leadDrop g x)))
  refine ⟨?_, ?_⟩
  · rw [hl, chan_chEvent, hm]
    exact chan_leadDrop_lead g x
  · rw [startOf, hsame.startAt.resolve_left (by decide)]
    exact tget_tset_self none s.startAt g none

/-- A modulator fault is the second within 1024 frames of the modulator's last start. -/
def faultAgain (s : State) (g : Nat) : Bool := match tget none s.restart g with
  | some f => decide (s.ord < f + 1024)
  | none => false

theorem modulatorFault_eq {g t : Nat} {s : State} (hact : chActive s g = true) : exec (.modulatorFault g t) s =
    .next (modChan g (fun x => { x with stuck := faultAgain s g }) (raise .shf (g / 32) 18 (chFault g 3 (advance t s)))) :=
  (exec_modulatorFault ..).trans (if_pos hact)

/-- A stuck modulator puts its channel into FAULT (R146). -/
theorem modulatorFault_faults {g t : Nat} {s : State} (hact : chActive s g = true) :
    ∃ u, exec (.modulatorFault g t) s = .next u ∧ (chan u g).st = .fault ∧ (chan u g).cause = 3 ∧ (chan u g).stuck = faultAgain s g ∧
      startOf u g = none ∧ (chan u g).lead = .none ∧ u.mem = s.mem ∧ u.restart = s.restart := by
  have hon : chOn (advance t s) g = true := by
    rw [← chOn_of_chActive hact, chOn, chOn, chan_advance]
  obtain ⟨hst, hcause⟩ := faulted_chFault 3 hon
  obtain ⟨hlead, hstart⟩ := chFault_drops 3 hon
  have hu := modulatorFault_eq (t := t) hact
  have hsame := (same_execModulatorFault ..).get _ hu
  refine ⟨_, hu, ?_, ?_, ?_, ?_, ?_, hsame.mem.resolve_left (by decide), hsame.restart.resolve_left (by decide)⟩
  · rw [chan_modChan_self, chan_raise]
    exact hst
  · rw [chan_modChan_self, chan_raise]
    exact hcause
  · rw [chan_modChan_self]
  · rw [← hstart, startOf, startOf, modChan_startAt, raise_startAt]
  · rw [chan_modChan_self, chan_raise]
    exact hlead

theorem modulatorFaultClear_eq {g : Nat} {s : State} (hg : g < 512) (hst : (chan s g).st = .fault) (hcause : (chan s g).cause = 3)
    (hstuck : (chan s g).stuck = false) :
    exec (.modulatorFaultClear g) s = .next (setStart g (some (s.ord + sdly s (g / 32))) s) :=
  (exec_modulatorFaultClear ..).trans (if_pos (by simp [hg, hst, hcause, hstuck]))

/-! ### The start of a modulator (R144, R145) -/

/-- A modulator's start and the frame of its last start are tables of the channels. -/
theorem modGo_tables (g f : Nat) (s : State) : (modGo g f s).startAt = tset none s.startAt g none ∧
    (modGo g f s).restart = tset none s.restart g (some f) := by
  unfold modGo
  extract_lets t s1 s2 s3
  have h2 := same_settle g t false s1
  refine ⟨?_, ?_⟩
  · rw [raise_startAt]
    exact h2.startAt.resolve_left (by decide)
  · rw [raise_restart]
    exact congrArg (tset none · g (some f)) (h2.restart.resolve_left (by decide))

theorem modGo_settles (g f : Nat) (s : State) : (chan (modGo g f s) g).cause = 0 ∧
    (chan (modGo g f s) g).settle = some (startEdge s f) := by
  unfold modGo
  extract_lets t s1 s2 s3
  have h3 : chan (raise .shf (g / 32) 19 s3) g = chan s2 g := chan_raise ..
  rw [h3]
  unfold s2 settle
  rw [chan_modTap, chan_modChan_self]
  exact ⟨rfl, rfl⟩

/-- What a channel's start depends on and leaves in the tables stands. -/
structure StartEnv (g : Nat) (s t : State) : Prop where
  env : ReturnEnv g s t
  start : startOf t g = startOf s g
  restart : tget none t.restart g = tget none s.restart g

theorem StartEnv.refl (g : Nat) (s : State) : StartEnv g s s := ⟨.refl g s, rfl, rfl⟩

theorem StartEnv.trans {g : Nat} {s t u : State} (h : StartEnv g t u) (k : StartEnv g s t) : StartEnv g s u :=
  ⟨h.env.trans k.env, h.start.trans k.start, h.restart.trans k.restart⟩

theorem startEnv_modGo {g h : Nat} (f : Nat) (hne : g ≠ h) (s : State) : StartEnv g s (modGo h f s) := by
  have hsame := same_modGo h f s
  obtain ⟨hstart, hrestart⟩ := modGo_tables h f s
  refine ⟨⟨(chanOnly_modGo h f s).get g hne, hsame.dies.resolve_left (by decide), hsame.tmb.resolve_left (by decide),
    hsame.frame.resolve_left (by decide), hsame.ord.resolve_left (by decide), (regs_modGo h f s).get _ (by simp [FaultReg])⟩, ?_, ?_⟩
  · rw [startOf, startOf, hstart, tget_tset_ne _ _ _ hne]
  · rw [hrestart, tget_tset_ne _ _ _ hne]

theorem startEnv_modStartCh {g h : Nat} (t : Nat) (hne : g ≠ h) (s : State) : StartEnv g s (modStartCh h t s) := by
  unfold modStartCh
  split
  · extract_lets x free
    split
    · exact startEnv_modGo _ hne s
    · exact .refl g s
  · exact .refl g s

theorem startEnv_advance (g t : Nat) (s : State) : StartEnv g s (advance t s) := by
  obtain ⟨c, hc⟩ := advance_upd t s
  rw [hc]
  exact ⟨⟨rfl, rfl, rfl, rfl, rfl, rfl⟩, rfl, rfl⟩

/-- A channel may start: it is armed, or the cause of its fault is removed (R120, R144, R145). -/
def StartFree (s : State) (g : Nat) : Prop := (chan s g).st = .armed ∨
  ((chan s g).st = .fault ∧ (chan s g).stuck = false ∧ chCarried s g = true ∧ (die s (g / 128)).lost = false)

theorem StartFree.congr {g : Nat} {s t : State} (h : ReturnEnv g s t) (hf : StartFree s g) : StartFree t g := by
  unfold StartFree
  rw [h.chan, chCarried_congr h.dies, die_congr h.dies]
  exact hf

theorem modStartCh_of_free {g t f : Nat} {s : State} (hs : startOf s g = some f) (hf : f ≤ s.ord) (ht : startEdge s f ≤ t)
    (hfree : StartFree s g) : modStartCh g t s = modGo g f s := by
  simp only [modStartCh, hs]
  refine if_pos ⟨hf, ht, hfree.imp id fun h => ?_⟩
  simpa [and_assoc] using h

/-- A channel whose start edge has come enters SETTLING from that edge, whatever else starts with it (R120, R144). -/
theorem modulatorStart_starts {ss t g f : Nat} {s : State} (hl : live s = true) (hss : ss < 16) (hg : g / 32 = ss)
    (hs : startOf s g = some f) (hf : f ≤ s.ord) (ht : startEdge s f ≤ t) (hfree : StartFree s g) :
    ∃ u, exec (.modulatorStart ss t) s = .next u ∧ (chan u g).st = .settling ∧ (chan u g).cause = 0 ∧
      (chan u g).settle = some (startEdge s f) ∧ (chan u g).mod0 = startEdge s f ∧ startOf u g = none ∧
      tget none u.restart g = some f ∧ u.mem = s.mem := by
  have hu : exec (.modulatorStart ss t) s = .next (forN 32 (fun c a => modStartCh (32 * ss + c) t a) (advance t s)) :=
    (exec_modulatorStart ..).trans (if_pos (by simp [hl, hss]))
  have hturn : 32 * ss + g % 32 = g := by omega
  obtain ⟨x, hx, hlast⟩ := forN_turn (StartEnv.refl g) StartEnv.trans (Nat.mod_lt g (by decide : 0 < 32))
    (f := fun c a => modStartCh (32 * ss + c) t a) (fun c hc y => startEnv_modStartCh t (by omega) y) (advance t s)
  have hpre := hx.trans (startEnv_advance g t s)
  have hedge : startEdge x f = startEdge s f := startEdge_congr hpre.env.tmb hpre.env.frame hpre.env.ord hpre.env.reg f
  have hgo : modStartCh (32 * ss + g % 32) t x = modGo g f x := by
    rw [hturn]
    exact modStartCh_of_free (hpre.start.trans hs) (by rwa [hpre.env.ord]) (by rwa [hedge]) (hfree.congr hpre.env)
  rw [hgo] at hlast
  obtain ⟨hst, hmod⟩ := modGo_starts g f x
  obtain ⟨hcause, hsettle⟩ := modGo_settles g f x
  obtain ⟨hstart, hrestart⟩ := modGo_tables g f x
  refine ⟨_, hu, ?_, ?_, ?_, ?_, ?_, ?_, ((same_execModulatorStart ..).get _ hu).mem.resolve_left (by decide)⟩
  · rw [hlast.env.chan, hst]
  · rw [hlast.env.chan, hcause]
  · rw [hlast.env.chan, hsettle, hedge]
  · rw [hlast.env.chan, hmod, hedge]
  · rw [hlast.start, startOf, hstart, tget_tset_self]
  · rw [hlast.restart, hrestart, tget_tset_self]

/-- Settles O21: autorange and overload by the channel's record and the event they report; a fault and a start by what they leave of the
channel among the others of its sheaf. -/
theorem frontEndEvents : Obligations.FrontEndEvents := by
  unfold Obligations.FrontEndEvents
  refine ⟨fun g t b s hact har hgain => ?_, fun g t b s h => peakTrip_passes h, fun g t b s hact har hgain => ?_,
    fun g t code s hact har hcount hcode => ?_, fun g t pos s hact => ?_, fun g t s hact => modulatorFault_faults hact,
    fun g s hg hst hcause hstuck => modulatorFaultClear_eq hg hst hcause hstuck,
    fun ss t g f s hl hss hg hs hf ht hfree => modulatorStart_starts hl hss hg hs hf ht hfree⟩
  · obtain ⟨u, hu, hframe, hsw, honly, hc⟩ := peakTrip_widens (b := b) (t := t) hact har hgain
    exact ⟨u, hu, hframe, hsw.gain, hsw.arCount, hsw.upCnt, hsw.st, honly.get, hc.count, hc.event, hc.others⟩
  · exact ⟨_, peakTrip_atGainOne hact har hgain, (same_peaked g t s).eq, chan_peaked_self g t s, fun h hne => chan_peaked_ne t s hne⟩
  · have hu := downrange_switches (t := t) hact har hcount hcode
    have hsw := switched_arSwitch g code t false (advance t s)
    have hrep := (reported_arSwitch_down g code t (advance t s)).congr (advance_regs t s) rfl
    rw [chan_advance] at hsw
    refine ⟨_, hu, ((same_execDownrangeCount ..).get _ hu).eq, hsw.gain, hsw.arCount, hsw.dnCnt, fun h hne => ?_, hrep.event,
      hrep.others⟩
    rw [(chanOnly_arSwitch ..).get h hne, chan_advance]
  · have hu := clipDetect_eq (pos := pos) (t := t) hact
    have hc := (reported_chEvent (g := g) (b := 6) (s := s) (x := modChan g (clipped1 pos t) (advance t s))
      (advance_regs t s)).counted (o := 0x2C) (by decide) (by decide)
    have hchan : chan (bump (shfReg (g / 32) 0x2C) 1 (chEvent g 6 (modChan g (clipped1 pos t) (advance t s)))) g =
        clipped1 pos t (chan s g) := by
      rw [chan_bump, chan_chEvent, chan_modChan_self, chan_advance]
    refine ⟨_, hu, ((same_execClipDetect ..).get _ hu).eq, ?_, ?_, ?_, fun h hne => ?_, hc.count, hc.event, hc.others⟩
    · rw [hchan]
      rfl
    · rw [hchan]
      rfl
    · rw [hchan]
      rfl
    · rw [chan_bump, chan_chEvent, chan_modChan_ne _ _ _ _ hne, chan_advance]

end Sys2Proof.Machine
/-! SUPPORT. The lead states of a channel: what its detectors and the timer of its clearing test leave (R112 to R116). -/

namespace Sys2Proof.Machine

open Sys2Proof

theorem exec_windowComparatorTrip (g : Nat) (p n : Bool) (t : Nat) (s : State) :
    exec (.windowComparatorTrip g p n t) s = execWindowComparatorTrip g p n t s := rfl

theorem exec_windowReturn (g t : Nat) (s : State) : exec (.windowReturn g t) s = execWindowReturn g t s := rfl

theorem exec_leadDetectorConfirm (g : Nat) (d : LeadDet) (t : Nat) (s : State) :
    exec (.leadDetectorConfirm g d t) s = execLeadDetectorConfirm g d t s := rfl

theorem exec_leadDetectorInactive (g : Nat) (d : LeadDet) (t : Nat) (s : State) :
    exec (.leadDetectorInactive g d t) s = execLeadDetectorInactive g d t s := rfl

theorem exec_leadRetestTimer (g : Nat) (s : State) : exec (.leadRetestTimer g) s = execLeadRetestTimer g s := rfl

theorem lt_of_chOn {s : State} {g : Nat} (h : chOn s g = true) : g < 512 := by
  simp only [chOn, Bool.and_eq_true, decide_eq_true_eq] at h
  exact h.1

/-- One update of a channel's record at an instant, which touches counter C and that channel alone. -/
theorem same_modChan_advance (g t : Nat) (f : Chan → Chan) (s : State) : Same 65537 s (modChan g f (advance t s)) :=
  (same_modChan ..).comp (same_advance ..)

theorem chan_modChan_advance_self (g t : Nat) (f : Chan → Chan) (s : State) : chan (modChan g f (advance t s)) g = f (chan s g) := by
  rw [chan_modChan_self, chan_advance]

theorem chan_modChan_advance_ne {g h : Nat} (t : Nat) (f : Chan → Chan) (s : State) (hne : h ≠ g) :
    chan (modChan g f (advance t s)) h = chan s h := by
  rw [chan_modChan_ne _ _ _ _ hne, chan_advance]

theorem regs_modChan_advance (g t : Nat) (f : Chan → Chan) (s : State) : (modChan g f (advance t s)).regs = s.regs :=
  (same_modChan_advance g t f s).regs.resolve_left (by decide)

/-! ### The window comparators (R112, R114, R115) -/

/-- The comparators of a channel trip. -/
def compared (g : Nat) (p n : Bool) (t : Nat) (s : State) : State := modChan g (fun x => { x with cmwP := p, cmwN := n }) (advance t s)

/-- A channel without a lead state becomes SUSPECT: reported and counted. -/
def suspected (g : Nat) (s : State) : State :=
  bump (shfReg (g / 32) 0x20) 1 (chEvent g 0
    (modChan g (fun x => { x with lead := .suspect, leadSrc := x.leadSrc ||| 4, detAct := detWindow :: x.detAct }) (mark g .lead 0 none s)))

/-- The window joins the detectors of the lead state that stands. -/
def windowJoined (x : Chan) : Chan :=
  { x with leadSrc := x.leadSrc ||| 4, retestAt := none, detAct := detWindow :: x.detAct.filter (· ≠ detWindow) }

theorem same_suspected (g : Nat) (s : State) : Same 98320 s (suspected g s) :=
  (same_bump ..).comp ((same_chEvent ..).comp ((same_modChan ..).comp (same_mark ..)))

theorem counted_suspected (g : Nat) (s : State) : Counted 0x20 g 0 s (suspected g s) :=
  (reported_chEvent (((same_modChan ..).comp (same_mark ..)).regs.resolve_left (by decide))).counted (by decide) (by decide)

theorem chan_suspected_self (g : Nat) (s : State) : ∃ m, chan (suspected g s) g =
    { chan s g with lead := .suspect, leadSrc := (chan s g).leadSrc ||| 4, detAct := detWindow :: (chan s g).detAct, marks := m } := by
  rw [suspected, chan_bump, chan_chEvent, chan_modChan_self, mark, chan_modChan_self]
  exact ⟨_, rfl⟩

theorem chanOnly_suspected (g : Nat) (s : State) : ChanOnly g s (suspected g s) :=
  .trans (.ofChans (bump_chans ..)) (.trans (.ofChans ((same_chEvent ..).chans.resolve_left (by decide)))
    ((ChanOnly.modChan ..).trans (.modChan ..)))

/-- Where CONFIRM is set, a lead state's change asks for a test of the channel (R114). -/
def testAsked (g pin : Nat) (s : State) : State := if bit (rg s (chLeadA g)) 3 then urgentTest g pin false s else s

theorem same_testAsked (g pin : Nat) (s : State) : Same 134217728 s (testAsked g pin s) := .ite (same_urgentTest ..) (.refl ..)

section

variable {g t : Nat} {p n : Bool} {s : State}

theorem windowTrip_taken (hon : chOn s g = true) (hen : bit (rg s (chLeadA g)) 2 = true) (hpn : (p || n) = true) :
    exec (.windowComparatorTrip g p n t) s =
      .next (if (chan s g).lead = .none then testAsked g (if p then 0 else 1) (suspected g (compared g p n t s))
        else modChan g windowJoined (compared g p n t s)) := by
  have hlead : (chan (compared g p n t s) g).lead = (chan s g).lead := by rw [compared, chan_modChan_advance_self]
  rw [exec_windowComparatorTrip, execWindowComparatorTrip, if_pos (by simp [hon, hen, hpn])]
  change (if (chan (compared g p n t s) g).lead = .none then _ else _) = _
  rw [hlead]
  split <;> rfl

theorem windowTrip_passes (h : chOn s g = false ∨ bit (rg s (chLeadA g)) 2 = false ∨ (p || n) = false) :
    exec (.windowComparatorTrip g p n t) s = .next s := by
  rw [exec_windowComparatorTrip, execWindowComparatorTrip, if_neg]
  rcases h with h | h | h <;> simp [h]

/-- A window trip on a channel without a lead state makes it SUSPECT (R112, R115). -/
theorem windowTrip_suspects (hon : chOn s g = true) (hen : bit (rg s (chLeadA g)) 2 = true) (hpn : (p || n) = true)
    (hlead : (chan s g).lead = .none) :
    ∃ u m, exec (.windowComparatorTrip g p n t) s = .next u ∧
      u = { s with c := u.c, chans := u.chans, regs := u.regs, evt := u.evt, auxs := u.auxs } ∧
      (bit (rg s (chLeadA g)) 3 = false → u.auxs = s.auxs) ∧
      chan u g = { chan s g with
        cmwP := p, cmwN := n, lead := .suspect, leadSrc := (chan s g).leadSrc ||| 4, detAct := detWindow :: (chan s g).detAct,
        marks := m } ∧
      ChanOnly g s u ∧ Counted 0x20 g 0 s u := by
  have hu := windowTrip_taken (t := t) hon hen hpn
  rw [if_pos hlead] at hu
  have hask := same_testAsked g (if p then 0 else 1) (suspected g (compared g p n t s))
  have hchan := chan_congr (hask.chans.resolve_left (by decide))
  have hc := (counted_suspected g (compared g p n t s)).congr (regs_modChan_advance ..) rfl
  obtain ⟨m, hm⟩ := chan_suspected_self g (compared g p n t s)
  refine ⟨_, m, hu, ((same_execWindowComparatorTrip ..).get _ hu).eq, fun hb => ?_, ?_, ⟨fun h hne => ?_⟩,
    hc.congr rfl (hask.regs.resolve_left (by decide))⟩
  · have hlow : rg (suspected g (compared g p n t s)) (chLeadA g) = rg s (chLeadA g) := by
      apply hc.others
      simp only [List.mem_cons, List.not_mem_nil, or_false, not_or, shfReg, chLeadA, chEventA, chReg, pgIrq, pageBase]
      omega
    rw [testAsked, hlow, hb, if_neg Bool.false_ne_true]
    exact ((same_suspected ..).comp (same_modChan_advance ..)).auxs.resolve_left (by decide)
  · rw [hchan, hm, compared, chan_modChan_advance_self]
  · rw [hchan, (chanOnly_suspected ..).get h hne, compared, chan_modChan_advance_ne _ _ _ hne]

/-- While a lead state stands, a trip makes the window one of its detectors. -/
theorem windowTrip_joins (hon : chOn s g = true) (hen : bit (rg s (chLeadA g)) 2 = true) (hpn : (p || n) = true)
    (hlead : (chan s g).lead ≠ .none) :
    ∃ u, exec (.windowComparatorTrip g p n t) s = .next u ∧ u = { s with c := u.c, chans := u.chans } ∧
      chan u g = windowJoined { chan s g with cmwP := p, cmwN := n } ∧ ChanOnly g s u := by
  have hu := windowTrip_taken (t := t) hon hen hpn
  rw [if_neg hlead] at hu
  refine ⟨_, hu, ((same_modChan ..).comp (same_modChan_advance ..)).eq, ?_, ⟨fun h hne => ?_⟩⟩
  · rw [chan_modChan_self, compared, chan_modChan_advance_self]
  · rw [chan_modChan_ne _ _ _ _ hne, compared, chan_modChan_advance_ne _ _ _ hne]

end

/-! ### The clearing test (R115) -/

theorem clearingTest_cases (g : Nat) (s : State) : clearingTest g s = s ∨
    clearingTest g s = urgentTest g 0 true (modChan g (fun x => { x with retestAt := none }) s) := by
  unfold clearingTest
  split
  · exact .inr rfl
  · exact .inl rfl

/-- The clearing test is issued or not: of the channels the timer of this one alone may change. -/
theorem clearingTest_chan (g : Nat) (s : State) :
    (∃ r, chan (clearingTest g s) g = { chan s g with retestAt := r }) ∧ ChanOnly g s (clearingTest g s) := by
  rcases clearingTest_cases g s with h | h <;> rw [h]
  · exact ⟨⟨_, rfl⟩, .refl g s⟩
  · have hchans := (same_urgentTest g 0 true (modChan g (fun x => { x with retestAt := none }) s)).chans.resolve_left (by decide)
    exact ⟨⟨none, by rw [chan_congr hchans, chan_modChan_self]⟩, .trans (.ofChans hchans) (.modChan ..)⟩

theorem clearingTest_of_quiet {g : Nat} {s : State} (hlead : (chan s g).lead = .confirmed) (hdet : (chan s g).detAct = []) :
    clearingTest g s = urgentTest g 0 true (modChan g (fun x => { x with retestAt := none }) s) := if_pos ⟨hlead, hdet⟩

/-- The retest timer is spent on the test that it issues. -/
theorem leadRetest_issues {g f : Nat} {s : State} (hon : chOn s g = true) (hf : (chan s g).retestAt = some f) (hdue : f ≤ s.ord)
    (hlead : (chan s g).lead = .confirmed) (hdet : (chan s g).detAct = []) :
    ∃ u, exec (.leadRetestTimer g) s = .next u ∧ u = { s with chans := u.chans, auxs := u.auxs } ∧
      chan u g = { chan s g with retestAt := none } ∧ ChanOnly g s u := by
  have hu : exec (.leadRetestTimer g) s = .next (clearingTest g s) := by
    simp only [exec_leadRetestTimer, execLeadRetestTimer, hf]
    exact if_pos (by simp [hon, hdue])
  have hchans := (same_urgentTest g 0 true (modChan g (fun x => { x with retestAt := none }) s)).chans.resolve_left (by decide)
  refine ⟨_, hu, (same_clearingTest g s).eq, ?_, (clearingTest_chan g s).2⟩
  rw [clearingTest_of_quiet hlead hdet, chan_congr hchans, chan_modChan_self]

/-! ### The return of the window (R114, R115) -/

/-- Both comparators of a channel are back, and the window is no detector of it. -/
def windowBack (x : Chan) : Chan := { x with cmwP := false, cmwN := false, detAct := x.detAct.filter (· ≠ detWindow) }

theorem windowReturn_taken {g t : Nat} {s : State} (hon : chOn s g = true) : exec (.windowReturn g t) s =
    .next (if (chan s g).lead = .suspect ∧ bit (rg s (chLeadA g)) 3 = false then leadClear g 2 t (modChan g windowBack (advance t s))
      else clearingTest g (modChan g windowBack (advance t s))) := by
  have hlead : (chan (modChan g windowBack (advance t s)) g).lead = (chan s g).lead := by rw [chan_modChan_advance_self, windowBack]
  have hreg : rg (modChan g windowBack (advance t s)) (chLeadA g) = rg s (chLeadA g) := rg_congr (regs_modChan_advance ..) _
  rw [exec_windowReturn, execWindowReturn, if_pos hon]
  change (if (chan (modChan g windowBack (advance t s)) g).lead = .suspect ∧
    bit (rg (modChan g windowBack (advance t s)) (chLeadA g)) 3 = false then _ else _) = _
  rw [hlead, hreg]
  split <;> rfl

theorem windowReturn_leaves {g t : Nat} {s : State} (hon : chOn s g = true)
    (h : (chan s g).lead ≠ .suspect ∨ bit (rg s (chLeadA g)) 3 = true) :
    ∃ u r, exec (.windowReturn g t) s = .next u ∧ u = { s with c := u.c, chans := u.chans, auxs := u.auxs } ∧
      chan u g = { windowBack (chan s g) with retestAt := r } ∧ ChanOnly g s u := by
  have hu := windowReturn_taken (t := t) hon
  rw [if_neg (fun hc => h.elim (absurd hc.1) (fun hb => by simp [hb] at hc))] at hu
  obtain ⟨⟨r, hr⟩, honly⟩ := clearingTest_chan g (modChan g windowBack (advance t s))
  refine ⟨_, r, hu, ((same_clearingTest ..).comp (same_modChan_advance ..)).eq, ?_, honly.trans ⟨fun h hne => ?_⟩⟩
  · rw [hr, chan_modChan_advance_self]
  · exact chan_modChan_advance_ne _ _ _ hne

/-- A lead state that is cleared is gone with its detectors. -/
theorem chan_leadClear_self (g b t : Nat) (s : State) : ∃ m, chan (leadClear g b t s) g =
    { chan s g with lead := .none, leadSrc := 0, detAct := [], retestAt := none, marks := m } := by
  rw [leadClear, chan_chEvent, endMarks, chan_modChan_self, chan_modChan_self]
  exact ⟨_, rfl⟩

theorem chanOnly_leadClear (g b t : Nat) (s : State) : ChanOnly g s (leadClear g b t s) :=
  .trans (.ofChans ((same_chEvent ..).chans.resolve_left (by decide))) ((ChanOnly.modChan ..).trans (.modChan ..))

theorem reported_leadClear (g b t : Nat) (s : State) : Reported g b s (leadClear g b t s) := reported_chEvent rfl

theorem windowReturn_clears {g t : Nat} {s : State} (hon : chOn s g = true) (hlead : (chan s g).lead = .suspect)
    (hconf : bit (rg s (chLeadA g)) 3 = false) :
    ∃ u m, exec (.windowReturn g t) s = .next u ∧ u = { s with c := u.c, chans := u.chans, regs := u.regs, evt := u.evt } ∧
      chan u g = { windowBack (chan s g) with lead := .none, leadSrc := 0, detAct := [], retestAt := none, marks := m } ∧
      ChanOnly g s u ∧ Reported g 2 s u := by
  have hu := windowReturn_taken (t := t) hon
  rw [if_pos ⟨hlead, hconf⟩] at hu
  obtain ⟨m, hm⟩ := chan_leadClear_self g 2 t (modChan g windowBack (advance t s))
  refine ⟨_, m, hu, ((same_leadClear ..).comp (same_modChan_advance ..)).eq, ?_, (chanOnly_leadClear ..).trans ⟨fun h hne => ?_⟩,
    (reported_leadClear ..).congr (regs_modChan_advance ..) rfl⟩
  · rw [hm, chan_modChan_advance_self]
  · exact chan_modChan_advance_ne _ _ _ hne

/-! ### The confirming detectors (R113, R115, R116) -/

/-- What a detector's record of its output leaves of what the detectors look at. -/
structure DetEnv (s t : State) : Prop where
  chans : t.chans = s.chans
  regs : t.regs = s.regs

theorem DetEnv.chOn {s t : State} (h : DetEnv s t) (g : Nat) : Machine.chOn t g = Machine.chOn s g := by
  unfold Machine.chOn
  rw [chan_congr h.chans]

theorem DetEnv.detApplies {s t : State} (h : DetEnv s t) (g : Nat) (d : LeadDet) :
    Machine.detApplies t g d = Machine.detApplies s g d := by
  have hr := rg_congr h.regs
  cases d with
  | compliance => exact decide_eq_decide.2 (by rw [af, af, hr])
  | forceSense k => exact congrArg (fun w => decide (k < 4) && bit w (8 + k)) (hr (chLeadA g))
  | collapse k => exact congrArg (fun w => decide (k < 4) && bit w (8 + k)) (hr (chLeadA g))

theorem same_fsDiff_advance (g : Nat) (d : LeadDet) (on : Bool) (t : Nat) (s : State) :
    Same 33554433 s (fsDiffSet g d on (advance t s)) := (same_fsDiffSet ..).comp (same_advance ..)

theorem detEnv_fsDiff (g : Nat) (d : LeadDet) (on : Bool) (t : Nat) (s : State) : DetEnv s (fsDiffSet g d on (advance t s)) :=
  ⟨(same_fsDiff_advance g d on t s).chans.resolve_left (by decide), (same_fsDiff_advance g d on t s).regs.resolve_left (by decide)⟩

/-- A channel that is CONFIRMED, now or already: the clearing test has no timer. -/
def leadHeld (g : Nat) (s : State) : State :=
  if (chan s g).lead = .confirmed then modChan g (fun x => { x with retestAt := none }) s else leadConfirm g s

theorem chan_leadHeld_self (g : Nat) (s : State) : chan (leadHeld g s) g = { chan s g with lead := .confirmed, retestAt := none } := by
  unfold leadHeld
  split
  · next h => rw [chan_modChan_self, ← h]
  · rw [leadConfirm, chan_bump, chan_chEvent, chan_modChan_self]

theorem chanOnly_leadHeld (g : Nat) (s : State) : ChanOnly g s (leadHeld g s) := by
  unfold leadHeld
  exact .ite (.modChan ..) (.trans (.ofChans (bump_chans ..))
    (.trans (.ofChans ((same_chEvent ..).chans.resolve_left (by decide))) (.modChan ..)))

theorem regs_leadHeld_of_confirmed {g : Nat} {s : State} (h : (chan s g).lead = .confirmed) : (leadHeld g s).regs = s.regs := by
  rw [leadHeld, if_pos h]
  rfl

theorem counted_leadHeld {g : Nat} {s : State} (h : (chan s g).lead ≠ .confirmed) : Counted 0x24 g 1 s (leadHeld g s) := by
  rw [leadHeld, if_neg h]
  exact Reported.counted (reported_chEvent (modChan_regs ..)) (by decide) (by decide)

/-- A detector that confirms is one of the channel's active ones. -/
def detectorJoined (d : LeadDet) (x : Chan) : Chan :=
  { x with leadSrc := x.leadSrc ||| detSrc d, detAct := detCode d :: x.detAct.filter (· ≠ detCode d) }

/-- The channel of a detector that confirms, its samples marked from 10 µs before. -/
def detectorMarked (g : Nat) (d : LeadDet) (t : Nat) (s : State) : State :=
  mark g .lead (t - tenUs) none (fsDiffSet g d true (advance t s))

theorem chan_detectorMarked_self (g : Nat) (d : LeadDet) (t : Nat) (s : State) :
    ∃ m, chan (detectorMarked g d t s) g = { chan s g with marks := m } := by
  obtain ⟨m, hm⟩ := (marksOnly_mark g .lead (t - tenUs) none (fsDiffSet g d true (advance t s))).get g
  rw [chan_congr (detEnv_fsDiff g d true t s).chans] at hm
  exact ⟨m, hm⟩

theorem chanOnly_detectorMarked (g : Nat) (d : LeadDet) (t : Nat) (s : State) : ChanOnly g s (detectorMarked g d t s) :=
  (ChanOnly.modChan ..).trans (.ofChans (detEnv_fsDiff g d true t s).chans)

theorem detectorMarked_regs (g : Nat) (d : LeadDet) (t : Nat) (s : State) : (detectorMarked g d t s).regs = s.regs := by
  rw [detectorMarked, mark, modChan_regs, (detEnv_fsDiff g d true t s).regs]

theorem leadConfirms_eq {g t : Nat} {d : LeadDet} {s : State} (hon : chOn s g = true) (hd : detApplies s g d = true) :
    exec (.leadDetectorConfirm g d t) s = .next (modChan g (detectorJoined d) (leadHeld g (detectorMarked g d t s))) := by
  have henv := detEnv_fsDiff g d true t s
  rw [exec_leadDetectorConfirm, execLeadDetectorConfirm, if_pos (lt_of_chOn hon), detectorOn,
    if_pos (by rw [henv.chOn, henv.detApplies, hon, hd]; rfl)]
  rfl

/-- A confirming detector makes the channel CONFIRMED, and holds it so. -/
theorem leadDetector_confirms {g t : Nat} {d : LeadDet} {s : State} (hon : chOn s g = true) (hd : detApplies s g d = true) :
    ∃ u m, exec (.leadDetectorConfirm g d t) s = .next u ∧
      u = { s with c := u.c, chans := u.chans, regs := u.regs, evt := u.evt, excs := u.excs } ∧
      chan u g = detectorJoined d { chan s g with lead := .confirmed, retestAt := none, marks := m } ∧ ChanOnly g s u ∧
      ((chan s g).lead ≠ .confirmed → Counted 0x24 g 1 s u) ∧ ((chan s g).lead = .confirmed → u.regs = s.regs) := by
  have hu := leadConfirms_eq (t := t) hon hd
  have hframe := ((same_execLeadDetectorConfirm ..).get _ hu).eq
  obtain ⟨m, hm⟩ := chan_detectorMarked_self g d t s
  have honly := chanOnly_detectorMarked g d t s
  have hregs := detectorMarked_regs g d t s
  generalize detectorMarked g d t s = y at hu hframe hm honly hregs
  have hlead : (chan y g).lead = (chan s g).lead := by rw [hm]
  refine ⟨_, m, hu, hframe, ?_, (ChanOnly.modChan ..).trans ((chanOnly_leadHeld ..).trans honly), fun h => ?_, fun h => ?_⟩
  · rw [chan_modChan_self, chan_leadHeld_self, hm]
  · exact (counted_leadHeld (hlead.symm ▸ h)).congr hregs (modChan_regs ..)
  · rw [modChan_regs, regs_leadHeld_of_confirmed (hlead.trans h), hregs]

/-- A detector that goes inactive leaves the list, and the lead state stands. -/
theorem leadDetector_leaves {g t : Nat} {d : LeadDet} {s : State} (hon : chOn s g = true) :
    ∃ u, exec (.leadDetectorInactive g d t) s = .next u ∧
      u = { s with c := u.c, chans := u.chans, auxs := u.auxs, excs := u.excs } ∧
      detCode d ∉ (chan u g).detAct ∧ (chan u g).lead = (chan s g).lead ∧ ChanOnly g s u := by
  have hu : exec (.leadDetectorInactive g d t) s = .next (detectorOff g d (fsDiffSet g d false (advance t s))) :=
    (exec_leadDetectorInactive ..).trans (if_pos (lt_of_chOn hon))
  have henv := detEnv_fsDiff g d false t s
  have hchan := chan_congr henv.chans
  refine ⟨_, hu, ((same_execLeadDetectorInactive ..).get _ hu).eq, ?_⟩
  unfold detectorOff
  rw [henv.chOn, hchan]
  split
  · obtain ⟨⟨r, hr⟩, honly⟩ := clearingTest_chan g
      (modChan g (fun x => { x with detAct := x.detAct.filter (· ≠ detCode d) }) (fsDiffSet g d false (advance t s)))
    rw [chan_modChan_self, hchan] at hr
    rw [hr]
    exact ⟨by simp, rfl, honly.trans ((ChanOnly.modChan ..).trans (.ofChans henv.chans))⟩
  · next h =>
    rw [hchan]
    exact ⟨fun hmem => h ⟨hon, hmem⟩, rfl, .ofChans henv.chans⟩

end Sys2Proof.Machine
/-! SUPPORT. The lead tests of a sheaf: what starts one, what it leaves while it runs, and how it ends (R117 to R119, R122). -/

namespace Sys2Proof.Machine

open Sys2Proof

theorem exec_shfLtOpens (p : Path) (ss : Nat) (all : Bool) (cc : Nat) (s : State) :
    exec (.shfLtOpens p ss all cc) s = execShfLtOpens p ss all cc s := rfl

theorem exec_shfLtShorts (p : Path) (x : LtTarget) (s : State) : exec (.shfLtShorts p x) s = execShfLtShorts p x s := rfl

theorem exec_ltPeriodicDue (ss : Nat) (s : State) : exec (.ltPeriodicDue ss) s = execLtPeriodicDue ss s := rfl

theorem exec_leadTestComplete (ss : Nat) (f : LtFind) (s : State) : exec (.leadTestComplete ss f) s = execLeadTestComplete ss f s := rfl

theorem direct_of_ok {k : PageK} {i : Nat} (f : State → State) {s : State} (hr : running s = true) (hd : directOk s k i = true) :
    direct k i f s = f s := by
  simp only [direct, hr, hd, Bool.not_true, Bool.false_eq_true, if_false, if_true]

theorem ltOf_congr {s t : State} (h : t.lts = s.lts) (ss : Nat) : ltOf t ss = ltOf s ss := by unfold ltOf; rw [h]

/-! ### Which tests start (R117, R119) -/

theorem ltRefusal_free {ss : Nat} {s : State} (hn : ltOf s ss = none) : ltRefusal s ss false = none := by simp [ltRefusal, hn]

theorem ltRefusal_busy {ss : Nat} (shorts : Bool) {s : State} (hb : (ltOf s ss).isSome = true) :
    ltRefusal s ss shorts = some stBusy := if_pos hb

theorem ltRefusal_shorts {ss : Nat} {s : State} (hn : ltOf s ss = none) : ltRefusal s ss true =
    if sheafDriven s ss = true then some stNotPermitted else if sheafDual s ss = true then some stRole else none := by
  simp [ltRefusal, hn]

section

variable {p : Path} {s : State} (hr : running s = true)
include hr

theorem shfLtOpens_eq {ss cc : Nat} {all : Bool} (hss : ss < 16) (hd : directOk s .shf ss = true) :
    exec (.shfLtOpens p ss all cc) s = .next (goOpens ss all cc s) := by
  rw [exec_shfLtOpens, execShfLtOpens, if_pos hss, direct_of_ok _ hr hd]

theorem shfLtOpens_starts {ss cc : Nat} {all : Bool} (hss : ss < 16) (hd : directOk s .shf ss = true) (hn : ltOf s ss = none) :
    exec (.shfLtOpens p ss all cc) s = .next (startOpens ss all cc .reg s) := by
  rw [shfLtOpens_eq hr hss hd, goOpens, ltRefusal_free hn]

theorem shfLtOpens_busy {ss cc : Nat} {all : Bool} (hss : ss < 16) (hd : directOk s .shf ss = true)
    (hb : (ltOf s ss).isSome = true) : exec (.shfLtOpens p ss all cc) s = .next (pgError .shf ss stBusy s) := by
  rw [shfLtOpens_eq hr hss hd, goOpens, ltRefusal_busy false hb]

variable {x : LtTarget} (hss : x.ss < 16) (hd : directOk s .shf x.ss = true) (hn : ltOf s x.ss = none)
include hss hd hn

theorem shfLtShorts_eq : exec (.shfLtShorts p x) s =
    .next (if sheafDriven s x.ss = true then pgError .shf x.ss stNotPermitted s
      else if sheafDual s x.ss = true then pgError .shf x.ss stRole s
      else if auxAvail s (x.ss / 4) then startShorts x.ss x.all x.cc .reg s else pgError .shf x.ss stNoResource s) := by
  rw [exec_shfLtShorts, execShfLtShorts, if_pos hss, direct_of_ok _ hr hd, goShorts, ltRefusal_shorts hn]
  cases sheafDriven s x.ss <;> cases sheafDual s x.ss <;> rfl

end

/-! ### A test that begins (R117, R118, R122) -/

theorem bbit_false (i : Nat) : bbit false i = 0 := rfl

theorem bbit_true (i : Nat) : bbit true i = 2 ^ i := rfl

/-- The test that the operands of SHF_LT_CMD ask for, over the channels it covers. -/
def askedTest (s : State) (shorts all : Bool) (cc : Nat) (o : LtOrigin) (cover : List Nat) : LeadTest :=
  { shorts := shorts, all := all, ch := cc % 32, origin := o, cover := cover, t0 := 256 * s.c }

theorem ltBegin_lts (ss : Nat) (x : LeadTest) (s : State) : (ltBegin ss x s).lts = tset none s.lts ss (some x) := by
  unfold ltBegin
  split <;> rfl

theorem ltOf_ltBegin_self (ss : Nat) (x : LeadTest) (s : State) : ltOf (ltBegin ss x s) ss = some x := by
  rw [ltOf, ltBegin_lts, tget_tset_self]

theorem ltOf_ltBegin_ne {ss q : Nat} (x : LeadTest) (s : State) (h : q ≠ ss) : ltOf (ltBegin ss x s) q = ltOf s q := by
  rw [ltOf, ltBegin_lts, tget_tset_ne _ _ _ h, ltOf]

theorem ltBegin_periodic {ss : Nat} {x : LeadTest} (s : State) (h : x.origin = .periodic) :
    ltBegin ss x s = { s with lts := tset none s.lts ss (some x) } := if_pos h

theorem ltBegin_shown {ss : Nat} {x : LeadTest} (s : State) (h : x.origin ≠ .periodic) :
    (ltBegin ss x s).ltRes = tset 0 s.ltRes ss (ltStartWord x) := by
  rw [ltBegin, if_neg h]

/-- The test of an OPENS request. -/
def opensTest (s : State) (ss : Nat) (all : Bool) (cc : Nat) (o : LtOrigin) : LeadTest := askedTest s false all cc o (ltCover s ss all cc)

theorem startOpens_of_cover {ss cc : Nat} {all : Bool} (o : LtOrigin) {s : State} (h : ltCover s ss all cc ≠ []) :
    Same 134217728 (ltBegin ss (opensTest s ss all cc o) s) (startOpens ss all cc o s) := by
  unfold startOpens
  extract_lets cover x y
  rw [if_neg h]
  exact Same.foldl (.refl _ _) (fun _ _ => (same_auxPush ..).comp (same_auxPush ..))

theorem startOpens_of_no_cover {ss cc : Nat} {all : Bool} (o : LtOrigin) {s : State} (h : ltCover s ss all cc = []) :
    startOpens ss all cc o s = ltReport ss (opensTest s ss all cc o) (!all) all false s := if_pos h

/-- An OPENS test that covers a channel runs; SHF_LT_RES shows what was written (R117, R122). -/
theorem startOpens_runs {ss cc : Nat} {all : Bool} {s : State} (h : ltCover s ss all cc ≠ []) :
    startOpens ss all cc .reg s = { s with
      lts := (startOpens ss all cc .reg s).lts, ltRes := (startOpens ss all cc .reg s).ltRes, auxs := (startOpens ss all cc .reg s).auxs } ∧
      ltOf (startOpens ss all cc .reg s) ss = some (opensTest s ss all cc .reg) ∧
      tget 0 (startOpens ss all cc .reg s).ltRes ss = word (bbit all 5 ||| cc % 32) ∧
      (∀ q, q ≠ ss → tget 0 (startOpens ss all cc .reg s).ltRes q = tget 0 s.ltRes q) ∧
      (∀ q, q ≠ ss → ltOf (startOpens ss all cc .reg s) q = ltOf s q) := by
  have hsame := startOpens_of_cover (.reg) h
  have hlts := ltOf_congr (hsame.lts.resolve_left (by decide))
  have hres := hsame.ltRes.resolve_left (by decide)
  rw [ltBegin_shown s (by simp [opensTest, askedTest])] at hres
  refine ⟨(hsame.comp (same_ltBegin ..)).eq, by rw [hlts, ltOf_ltBegin_self], ?_, fun q hq => ?_, fun q hq => ?_⟩
  · rw [hres, tget_tset_self]
    simp [ltStartWord, opensTest, askedTest, bbit_false]
  · rw [hres, tget_tset_ne _ _ _ hq]
  · rw [hlts, ltOf_ltBegin_ne _ _ hq]

/-- A SHORTS test runs, with a span of CAL from now on every channel of its sheaf (R118). -/
theorem startShorts_spans (ss : Nat) (all : Bool) (cc : Nat) (o : LtOrigin) (s : State) :
    startShorts ss all cc o s = auxPush (ss / 4) (.shorts ss) (forN 32 (fun c a => mark (32 * ss + c) .shorts (256 * s.c) none a)
      (ltBegin ss (askedTest s true all cc o (List.range 32)) s)) := rfl

/-- The marks of one kind on a sheaf: what another channel's mark leaves. -/
structure MarkEnv (g : Nat) (s t : State) : Prop where
  chan : Machine.chan t g = Machine.chan s g
  cut : tmbCut t = tmbCut s

theorem MarkEnv.refl (g : Nat) (s : State) : MarkEnv g s s := ⟨rfl, rfl⟩

theorem MarkEnv.trans {g : Nat} {s t u : State} (h : MarkEnv g t u) (k : MarkEnv g s t) : MarkEnv g s u :=
  ⟨h.chan.trans k.chan, h.cut.trans k.cut⟩

theorem markEnv_mark {g h : Nat} (k : MarkK) (t0 : Nat) (t1 : Option Nat) (hne : g ≠ h) (s : State) :
    MarkEnv g s (mark h k t0 t1 s) := ⟨chan_modChan_ne _ _ _ _ hne, rfl⟩

/-- Each channel of a marked sheaf has the one mark of its turn; the channels of other sheafs stand. -/
theorem chan_markedSheaf {g ss : Nat} (k : MarkK) (t0 : Nat) (t1 : Option Nat) (s : State) :
    (g / 32 = ss → chan (forN 32 (fun c a => mark (32 * ss + c) k t0 t1 a) s) g =
      { chan s g with marks := (chan s g).marks ++ [⟨k, t0, t1, tmbCut s⟩] }) ∧
    (g / 32 ≠ ss → chan (forN 32 (fun c a => mark (32 * ss + c) k t0 t1 a) s) g = chan s g) := by
  refine ⟨fun hg => ?_, fun hg => ?_⟩
  · obtain ⟨x, hx, hl⟩ := forN_turn (MarkEnv.refl g) MarkEnv.trans (Nat.mod_lt g (by decide : 0 < 32))
      (f := fun c a => mark (32 * ss + c) k t0 t1 a) (fun c hc y => markEnv_mark k t0 t1 (by omega) y) s
    have hturn : 32 * ss + g % 32 = g := by omega
    rw [hl.chan, hturn, mark, chan_modChan_self, hx.chan, hx.cut]
  · exact (forN_rel (MarkEnv.refl g) MarkEnv.trans (fun c hc y => markEnv_mark k t0 t1 (by omega) y) s).chan

theorem startShorts_runs (ss : Nat) (all : Bool) (cc : Nat) (s : State) :
    ltOf (startShorts ss all cc .reg s) ss = some (askedTest s true all cc .reg (List.range 32)) ∧
      (∀ q, q ≠ ss → ltOf (startShorts ss all cc .reg s) q = ltOf s q) ∧
      tget 0 (startShorts ss all cc .reg s).ltRes ss = word (2 ^ 6 ||| bbit all 5 ||| cc % 32) ∧
      (∀ g, g / 32 = ss → chan (startShorts ss all cc .reg s) g =
        { chan s g with marks := (chan s g).marks ++ [⟨.shorts, 256 * s.c, none, tmbCut s⟩] }) ∧
      (∀ g, g / 32 ≠ ss → chan (startShorts ss all cc .reg s) g = chan s g) := by
  rw [startShorts_spans]
  have hbegin := same_ltBegin ss (askedTest s true all cc .reg (List.range 32)) s
  have hmarks : Same 65536 (ltBegin ss (askedTest s true all cc .reg (List.range 32)) s) (forN 32
      (fun c a => mark (32 * ss + c) .shorts (256 * s.c) none a) (ltBegin ss (askedTest s true all cc .reg (List.range 32)) s)) :=
    Same.forN (.refl _ _) (fun _ _ => same_mark ..)
  have hpush := same_auxPush (ss / 4) (.shorts ss) (forN 32 (fun c a => mark (32 * ss + c) .shorts (256 * s.c) none a)
    (ltBegin ss (askedTest s true all cc .reg (List.range 32)) s))
  have hlts := ltOf_congr ((hpush.comp hmarks).lts.resolve_left (by decide))
  have hres := (hpush.comp hmarks).ltRes.resolve_left (by decide)
  rw [ltBegin_shown s (by simp [askedTest])] at hres
  have hchan := chan_congr (hpush.chans.resolve_left (by decide))
  have hstart := chan_congr (hbegin.chans.resolve_left (by decide))
  have hcut : tmbCut (ltBegin ss (askedTest s true all cc .reg (List.range 32)) s) = tmbCut s := by
    simp only [tmbCut, hbegin.dsp.resolve_left (by decide)]
  refine ⟨by rw [hlts, ltOf_ltBegin_self], fun q hq => by rw [hlts, ltOf_ltBegin_ne _ _ hq], ?_, fun g hg => ?_, fun g hg => ?_⟩
  · rw [hres, tget_tset_self]
    simp [ltStartWord, askedTest, bbit_true]
  · rw [hchan, (chan_markedSheaf ..).1 hg, hstart, hcut]
  · rw [hchan, (chan_markedSheaf ..).2 hg, hstart]

/-! ### A test that ends (R117, R122) -/

/-- The report of a test that a register or command started: its result, LT_DONE, and the end of the command that waited. -/
theorem ltReport_shown {ss : Nat} {x : LeadTest} (ab pass sh : Bool) (s : State) (h : x.origin ≠ .periodic) :
    ∃ res, ltReport ss x ab pass sh s =
      wakeup (.leadTest ss) stOk res (raise .shf ss 3 { s with ltRes := tset 0 s.ltRes ss (ltResWord s x ab pass sh) }) :=
  ⟨_, if_neg h⟩

theorem ltReport_ltRes {ss : Nat} {x : LeadTest} (ab pass sh : Bool) (s : State) (h : x.origin ≠ .periodic) :
    (ltReport ss x ab pass sh s).ltRes = tset 0 s.ltRes ss (ltResWord s x ab pass sh) := by
  obtain ⟨res, hres⟩ := ltReport_shown (ss := ss) ab pass sh s h
  rw [hres, (same_wakeup ..).ltRes.resolve_left (by decide), raise_ltRes]

theorem ltReport_regs {ss : Nat} {x : LeadTest} (ab pass sh : Bool) (s : State) (h : x.origin ≠ .periodic) :
    bit (rg (ltReport ss x ab pass sh s) (pgIrq .shf ss)) 3 = true ∧ SameRegs [0x5024, pgIrq .shf ss] s (ltReport ss x ab pass sh s) := by
  obtain ⟨res, hres⟩ := ltReport_shown (ss := ss) ab pass sh s h
  have hirq : pgIrq .shf ss ≠ 0x5024 := by
    simp only [pgIrq, pageBase]
    omega
  rw [hres]
  refine ⟨?_, fun a ha => ?_⟩
  · rw [(regs_wakeup_ok ..).get _ hirq]
    exact bit_raise _ _ _ (by decide)
  · simp only [List.mem_cons, List.not_mem_nil, or_false, not_or] at ha
    rw [(regs_wakeup_ok ..).get _ ha.1, rg_raise_ne _ _ ha.2]
    rfl

theorem ltReport_periodic {ss : Nat} {x : LeadTest} (ab pass sh : Bool) (s : State) (h : x.origin = .periodic) :
    ltReport ss x ab pass sh s = s := if_pos h

/-- A sheaf for which no periodic test waits is without one after its test's end. -/
theorem ltStop_ends {ss : Nat} {s : State} (hw : tget false s.ltWait ss = false) :
    (ltStop ss s).lts = tset none s.lts ss none ∧ (ltStop ss s).regs = s.regs ∧ (ltStop ss s).ltRes = s.ltRes := by
  unfold ltStop
  extract_lets s1 s2 s3
  have h1 : Same 65536 s s1 := by
    unfold s1
    split
    · exact .ite (same_shortsEnd ..) (.refl ..)
    · exact .refl ..
  have hlts : s3.lts = tset none s1.lts ss none := rfl
  have hwait : s3.ltWait = s1.ltWait := rfl
  have hregs : s3.regs = s1.regs := rfl
  have hres : s3.ltRes = s1.ltRes := rfl
  rw [if_neg (by rw [hwait, h1.ltWait.resolve_left (by decide), hw]; simp), hlts, hregs, hres, h1.lts.resolve_left (by decide),
    h1.regs.resolve_left (by decide), h1.ltRes.resolve_left (by decide)]
  exact ⟨rfl, rfl, rfl⟩

/-- A test that is reported and removed, with no periodic one waiting: its sheaf is without a test, and SHF_LT_RES describes it. -/
structure TestEnded (ss : Nat) (x : LeadTest) (ab pass sh : Bool) (s u : State) : Prop where
  none : ltOf u ss = none
  others : ∀ q, q ≠ ss → ltOf u q = ltOf s q
  shown : x.origin = .reg → tget 0 u.ltRes ss = ltResWord s x ab pass sh
  periodic : x.origin = .periodic → u.regs = s.regs ∧ u.ltRes = s.ltRes

theorem testEnded_ltStop {ss : Nat} (x : LeadTest) (ab pass sh : Bool) {s : State} (hw : tget false s.ltWait ss = false) :
    TestEnded ss x ab pass sh s (ltStop ss (ltReport ss x ab pass sh s)) := by
  have hrep := same_ltReport ss x ab pass sh s
  obtain ⟨hlts, hregs, hres⟩ := ltStop_ends (ss := ss) (s := ltReport ss x ab pass sh s)
    (by rw [hrep.ltWait.resolve_left (by decide), hw])
  rw [hrep.lts.resolve_left (by decide)] at hlts
  refine ⟨?_, fun q hq => ?_, fun ho => ?_, fun ho => ?_⟩
  · rw [ltOf, hlts, tget_tset_self]
  · rw [ltOf, hlts, tget_tset_ne _ _ _ hq, ltOf]
  · rw [hres, ltReport_ltRes _ _ _ _ (by simp [ho]), tget_tset_self]
  · rw [hregs, hres, ltReport_periodic _ _ _ _ ho]
    exact ⟨rfl, rfl⟩

section

variable {ss : Nat} {f : LtFind} {x : LeadTest} {s : State} (hx : ltOf s ss = some x) (hw : tget false s.ltWait ss = false)
include hx hw

/-- A SHORTS test ends with its findings, which go to the channels before (R118). -/
theorem shortsTest_ends (hs : x.shorts = true) : ∃ u, exec (.leadTestComplete ss f) s = .next u ∧
    TestEnded ss x x.aborted (decide (f.shorts = []) && !f.shPin) f.shPin s u ∧ u.mem = s.mem := by
  have hu : exec (.leadTestComplete ss f) s =
      .next (ltStop ss (ltReport ss x x.aborted (decide (f.shorts = []) && !f.shPin) f.shPin (ltShortsTake ss f s))) := by
    simp only [exec_leadTestComplete, execLeadTestComplete, hx, hs, if_true]
  have htake := same_ltShortsTake ss f s
  have hend := testEnded_ltStop x x.aborted (decide (f.shorts = []) && !f.shPin) f.shPin (s := ltShortsTake ss f s) (ss := ss)
    (by rw [htake.ltWait.resolve_left (by decide), hw])
  have hlts := ltOf_congr (htake.lts.resolve_left (by decide))
  refine ⟨_, hu, ⟨hend.none, fun q hq => (hend.others q hq).trans (hlts q), fun ho => ?_, fun ho => ?_⟩,
    ((same_execLeadTestComplete ..).get _ hu).mem.resolve_left (by decide)⟩
  · rw [hend.shown ho, ltResWord, ltResWord, htake.frame.resolve_left (by decide)]
  · rw [(hend.periodic ho).1, (hend.periodic ho).2]
    exact ⟨htake.regs.resolve_left (by decide), htake.ltRes.resolve_left (by decide)⟩

/-- An OPENS test ends once its conversions are done (R117). -/
theorem opensTest_ends (hs : x.shorts = false)
    (hdone : ∀ r ∈ (aux s (ss / 4)).lt ++ (aux s (ss / 4)).run.toList, ltReq ss r.kind = false) :
    ∃ u, exec (.leadTestComplete ss f) s = .next u ∧
      TestEnded ss x x.aborted (decide (f.opens = []) && decide (x.opens = []) && !x.aborted) false s u ∧ u.mem = s.mem := by
  have hany : ((aux s (ss / 4)).lt ++ (aux s (ss / 4)).run.toList).any (fun r => ltReq ss r.kind) = false :=
    List.any_eq_false.2 (fun r hr => by simp [hdone r hr])
  have hu : exec (.leadTestComplete ss f) s =
      .next (ltStop ss (ltReport ss x x.aborted (decide (f.opens = []) && decide (x.opens = []) && !x.aborted) false s)) := by
    simp only [exec_leadTestComplete, execLeadTestComplete, hx, hs, hany, Bool.false_eq_true, if_false]
  exact ⟨_, hu, testEnded_ltStop x _ _ _ hw, ((same_execLeadTestComplete ..).get _ hu).mem.resolve_left (by decide)⟩

end

/-! ### The periodic test (R117) -/

section

variable {ss : Nat} {s : State} (hss : ss < 16) (hr : running s = true) (hper : af s (shfReg ss 0x44) 0 8 ≠ 0)
  (hdue : af s (shfReg ss 0x44) 0 8 * 1024 ≤ tget 0 s.ltTicks ss)
include hss hr hper hdue

theorem ltPeriodicDue_eq : exec (.ltPeriodicDue ss) s =
    .next (if (ltOf s ss).isSome then { s with ltTicks := tset 0 s.ltTicks ss 0, ltWait := tset false s.ltWait ss true }
      else startOpens ss true 0 .periodic { s with ltTicks := tset 0 s.ltTicks ss 0 }) :=
  (exec_ltPeriodicDue ..).trans (if_pos (by simp [hss, hr, hper, hdue]))

theorem ltPeriodic_starts (hn : ltOf s ss = none) (hc : ltCover s ss true 0 ≠ []) :
    ∃ u, exec (.ltPeriodicDue ss) s = .next u ∧
      u = { s with lts := u.lts, auxs := u.auxs, ltTicks := tset 0 s.ltTicks ss 0 } ∧
      ltOf u ss = some (opensTest { s with ltTicks := tset 0 s.ltTicks ss 0 } ss true 0 .periodic) := by
  have hu := ltPeriodicDue_eq hss hr hper hdue
  rw [if_neg (by simp [hn])] at hu
  have hsame := startOpens_of_cover (s := { s with ltTicks := tset 0 s.ltTicks ss 0 }) (ss := ss) (all := true) (cc := 0) .periodic hc
  have hlts := ltOf_congr (hsame.lts.resolve_left (by decide)) ss
  rw [ltOf_ltBegin_self] at hlts
  rw [ltBegin_periodic _ rfl] at hsame
  exact ⟨_, hu, (hsame.comp (upd_lts ..)).eq, hlts⟩

end

/-- Settles O22: the lead states by the channel's record and what they report; the lead tests by how one starts, is refused, and ends. -/
theorem leadStatesAndTests : Obligations.LeadStatesAndTests := by
  unfold Obligations.LeadStatesAndTests
  refine ⟨fun g t p n s hon hen hpn hlead => ?_, fun g t p n s h => windowTrip_passes h, fun g t p n s hon hen hpn hlead => ?_,
    fun g t s hon h => ?_, fun g t s hon hlead hconf => ?_, fun g t d s hon hd => ?_, fun g t d s hon => ?_,
    fun g f s hon hf hdue hlead hdet => ?_, fun p ss cc all s hss hr hd hn hc => ?_, fun p ss cc all s hss hr hd hn hc => ?_,
    fun p x s hss hr hd hn hdrv hdual hav => ?_, fun p x s hss hr hd hn hdrv hdual hav => ?_, fun p x s hss hr hd hn hdrv => ?_,
    fun p x s hss hr hd hn hdrv hdual => ?_, fun p ss cc all s hss hr hd hb => shfLtOpens_busy hr hss hd hb,
    fun ss s hss hr hper hdue hb => ?_, fun ss s hss hr hper hdue hn hc => ?_, fun ss f x s hx hs hw => ?_,
    fun ss f x s hx hs hw ho hdone => ?_⟩
  · obtain ⟨u, m, hu, hframe, hauxs, hchan, honly, hc⟩ := windowTrip_suspects (t := t) hon hen hpn hlead
    exact ⟨u, hu, hframe, hauxs, by rw [hchan], by rw [hchan], by rw [hchan], by rw [hchan], by rw [hchan], honly.get, hc.count,
      hc.event, hc.others⟩
  · obtain ⟨u, hu, hframe, hchan, honly⟩ := windowTrip_joins (t := t) hon hen hpn hlead
    exact ⟨u, hu, hframe, by rw [hchan]; rfl, by rw [hchan]; exact List.mem_cons_self, by rw [hchan]; rfl, by rw [hchan]; rfl,
      by rw [hchan]; rfl, by rw [hchan]; rfl, honly.get⟩
  · obtain ⟨u, r, hu, hframe, hchan, honly⟩ := windowReturn_leaves (t := t) hon h
    exact ⟨u, hu, hframe, by rw [hchan]; rfl, by rw [hchan]; rfl, by rw [hchan]; rfl, by rw [hchan]; simp [windowBack], honly.get⟩
  · obtain ⟨u, m, hu, hframe, hchan, honly, hrep⟩ := windowReturn_clears (t := t) hon hlead hconf
    exact ⟨u, hu, hframe, by rw [hchan], by rw [hchan], by rw [hchan]; rfl, by rw [hchan]; rfl, honly.get, hrep.event, hrep.others⟩
  · obtain ⟨u, m, hu, hframe, hchan, honly, hcount, hkept⟩ := leadDetector_confirms (t := t) hon hd
    refine ⟨u, hu, hframe, by rw [hchan]; rfl, by rw [hchan]; exact List.mem_cons_self, by rw [hchan]; rfl, by rw [hchan]; rfl, honly.get,
      fun h => (hcount h).event, hkept, ?_⟩
    by_cases h : (chan s g).lead = .confirmed
    · exact fun a _ => rg_congr (hkept h) a
    · exact (hcount h).others
  · obtain ⟨u, hu, hframe, hdet, hlead, honly⟩ := leadDetector_leaves (t := t) (d := d) hon
    exact ⟨u, hu, hframe, hdet, hlead, honly.get⟩
  · obtain ⟨u, hu, hframe, hchan, honly⟩ := leadRetest_issues hon hf hdue hlead hdet
    exact ⟨u, hu, hframe, by rw [hchan], by rw [hchan]; exact hlead, honly.get⟩
  · exact ⟨_, shfLtOpens_starts hr hss hd hn, startOpens_runs hc⟩
  · have hne : (opensTest s ss all cc .reg).origin ≠ .periodic := by simp [opensTest, askedTest]
    have hres := ltReport_ltRes (ss := ss) (!all) all false s hne
    refine ⟨_, (shfLtOpens_starts hr hss hd hn).trans (by rw [startOpens_of_no_cover _ hc]), (same_ltReport ..).eq, ?_, fun q hq => ?_,
      ltReport_regs _ _ _ s hne⟩
    · rw [hres, tget_tset_self]
      simp [ltResWord, opensTest, askedTest, bbit_false]
    · rw [hres, tget_tset_ne _ _ _ hq]
  · have hu := shfLtShorts_eq (p := p) hr hss hd hn
    rw [if_neg (by simp [hdrv]), if_neg (by simp [hdual]), if_pos hav] at hu
    exact ⟨_, hu, (same_startShorts ..).eq, startShorts_runs ..⟩
  · rw [shfLtShorts_eq hr hss hd hn, if_neg (by simp [hdrv]), if_neg (by simp [hdual]), if_neg (by simp [hav])]
  · rw [shfLtShorts_eq hr hss hd hn, if_pos hdrv]
  · rw [shfLtShorts_eq hr hss hd hn, if_neg (by simp [hdrv]), if_pos hdual]
  · rw [ltPeriodicDue_eq hss hr hper hdue, if_pos hb]
  · obtain ⟨u, hu, hframe, hlt⟩ := ltPeriodic_starts hss hr hper hdue hn hc
    exact ⟨u, hu, hframe, _, hlt, rfl, rfl⟩
  · obtain ⟨u, hu, hend, hmem⟩ := shortsTest_ends (f := f) hx hw hs
    exact ⟨u, hu, hend.none, hend.shown, hend.periodic, hend.others, hmem⟩
  · obtain ⟨u, hu, hend, hmem⟩ := opensTest_ends (f := f) hx hw hs hdone
    exact ⟨u, hu, hend.none, hend.shown ho, hend.others, hmem⟩

end Sys2Proof.Machine
/-! SUPPORT. What an event leaves of an excitation output, and what it changes beside it (R126, R127, R129 to R132, R135). -/

namespace Sys2Proof.Machine

open Sys2Proof

theorem exec_senseExcursion (ss k : Nat) (back : Bool) (t : Nat) (s : State) :
    exec (.senseExcursion ss k back t) s = execSenseExcursion ss k back t s := rfl

theorem exec_holdReturnShare (ss k t : Nat) (s : State) : exec (.holdReturnShare ss k t) s = execHoldReturnShare ss k t s := rfl

theorem exec_excIlimChange (ss k : Nat) (on : Bool) (t : Nat) (s : State) :
    exec (.excIlimChange ss k on t) s = execExcIlimChange ss k on t s := rfl

theorem exec_excHeadroomChange (ss k : Nat) (on : Bool) (t : Nat) (s : State) :
    exec (.excHeadroomChange ss k on t) s = execExcHeadroomChange ss k on t s := rfl

theorem exec_excLoadCollapse (ss k i t : Nat) (s : State) : exec (.excLoadCollapse ss k i t) s = execExcLoadCollapse ss k i t s := rfl

theorem exec_excRampComplete (ss k t : Nat) (s : State) : exec (.excRampComplete ss k t) s = execExcRampComplete ss k t s := rfl

theorem exec_outgoingShareEntry (ss k t : Nat) (s : State) :
    exec (.outgoingShareEntry ss k t) s = execOutgoingShareEntry ss k t s := rfl

theorem exec_currentSourceExchange (g t : Nat) (s : State) :
    exec (.currentSourceExchange g t) s = execCurrentSourceExchange g t s := rfl

/-! ### The record of an output -/

theorem exc_congr {s t : State} (h : t.excs = s.excs) (o : Nat) : exc t o = exc s o := by unfold exc; rw [h]

/-- Every output but one stands. -/
structure ExcOnly (o : Nat) (s t : State) : Prop where
  get : ∀ q, q ≠ o → exc t q = exc s q

namespace ExcOnly

variable {o : Nat} {s t u : State}

theorem trans (h : ExcOnly o t u) (k : ExcOnly o s t) : ExcOnly o s u := ⟨fun q hq => (h.get q hq).trans (k.get q hq)⟩

theorem ofExcs (h : t.excs = s.excs) : ExcOnly o s t := ⟨fun q _ => exc_congr h q⟩

theorem modExc (f : Exc → Exc) (s : State) : ExcOnly o s (modExc o f s) := ⟨fun q hq => exc_modExc_ne _ _ _ q hq⟩

end ExcOnly

/-- What stands of an output while its monitors and its ramp come and go. -/
structure SameSettings (x y : Exc) : Prop where
  mode : y.mode = x.mode
  setNow : y.setNow = x.setNow
  holdSet : y.holdSet = x.holdSet
  outgoing : y.outgoing = x.outgoing
  heldAt : y.heldAt = x.heldAt

/-- Of the outputs the monitors and the ramp of one alone change. -/
structure SettingsKept (o : Nat) (s t : State) : Prop extends ExcOnly o s t where
  settings : SameSettings (exc s o) (exc t o)

namespace SettingsKept

variable {o : Nat} {s t u : State}

theorem ofExcs (h : t.excs = s.excs) : SettingsKept o s t where
  toExcOnly := .ofExcs h
  settings := by rw [exc_congr h]; exact ⟨rfl, rfl, rfl, rfl, rfl⟩

theorem refl (o : Nat) (s : State) : SettingsKept o s s := .ofExcs rfl

theorem trans (h : SettingsKept o t u) (k : SettingsKept o s t) : SettingsKept o s u where
  toExcOnly := h.toExcOnly.trans k.toExcOnly
  settings := ⟨h.settings.mode.trans k.settings.mode, h.settings.setNow.trans k.settings.setNow,
    h.settings.holdSet.trans k.settings.holdSet, h.settings.outgoing.trans k.settings.outgoing, h.settings.heldAt.trans k.settings.heldAt⟩

theorem modExc (f : Exc → Exc) (s : State) (h : ∀ x, SameSettings x (f x)) : SettingsKept o s (modExc o f s) where
  toExcOnly := .modExc ..
  settings := by rw [exc_modExc_self]; exact h _

theorem ite {c : Prop} [Decidable c] (ht : SettingsKept o s t) (hu : SettingsKept o s u) : SettingsKept o s (if c then t else u) := by
  split <;> assumption

end SettingsKept

theorem settingsKept_exceEnd (o c t : Nat) (s : State) : SettingsKept o s (exceEnd o c t s) :=
  .ofExcs ((same_exceEnd ..).excs.resolve_left (by decide))

theorem settingsKept_exceMark (o c t0 : Nat) (t1 : Option Nat) (s : State) : SettingsKept o s (exceMark o c t0 t1 s) :=
  .ofExcs ((same_exceMark ..).excs.resolve_left (by decide))

theorem settingsKept_excEvent (o b a : Nat) (s : State) : SettingsKept o s (excEvent o b (bump a 1 s)) :=
  .trans (.ofExcs ((same_excEvent ..).excs.resolve_left (by decide))) (.ofExcs (bump_excs ..))

theorem settingsKept_rampEnd (o t : Nat) (s : State) : SettingsKept o s (rampEnd o t s) := by
  unfold rampEnd
  exact .ite ((settingsKept_exceEnd ..).trans (.modExc _ _ fun _ => ⟨rfl, rfl, rfl, rfl, rfl⟩)) (.refl o s)

theorem settingsKept_excQuiet (o : Nat) (m : ExcMode) (t : Nat) (s : State) : SettingsKept o s (excQuiet o m t s) := by
  unfold excQuiet
  extract_lets s1 s2 s3
  have h1 : SettingsKept o s s1 := .ite ((settingsKept_exceEnd ..).trans (.modExc _ _ fun _ => ⟨rfl, rfl, rfl, rfl, rfl⟩)) (.refl o s)
  have h2 : SettingsKept o s s2 := .ite ((settingsKept_exceEnd ..).trans h1) h1
  have h3 : SettingsKept o s s3 := .ite ((settingsKept_exceEnd ..).trans h2) h2
  exact .ite (.trans (.modExc _ _ fun _ => ⟨rfl, rfl, rfl, rfl, rfl⟩) h3) h1

theorem settingsKept_setMisSync (o : Nat) (s : State) : SettingsKept o s (setMisSync o s) := by
  unfold setMisSync
  extract_lets m s1
  have h1 : SettingsKept o s s1 := .modExc _ _ fun _ => ⟨rfl, rfl, rfl, rfl, rfl⟩
  exact .ite (.refl o s) (.ite (.trans (.ofExcs ((same_excEvent ..).excs.resolve_left (by decide))) h1) h1)

/-! ### The collapse monitor (R113, R131) -/

/-- Beyond the record of the output, a collapse that ends touches channels and converters alone. -/
theorem same_modExc_collapseOff {o : Nat} {s : State} (h : (exc s o).collapse = true) :
    Same 134283264 (modExc o (fun e => { e with collapse := false }) s) (collapseOff o s) := by
  rw [collapseOff, if_pos h]
  exact .forL (.refl ..) fun _ _ => same_detectorOff ..

theorem settingsKept_collapseOff (o : Nat) (s : State) : SettingsKept o s (collapseOff o s) := by
  by_cases h : (exc s o).collapse = true
  · exact .trans (.ofExcs ((same_modExc_collapseOff h).excs.resolve_left (by decide))) (.modExc _ _ fun _ => ⟨rfl, rfl, rfl, rfl, rfl⟩)
  · rw [collapseOff, if_neg h]
    exact .refl o s

/-- The registers that the lead detectors of channels write. -/
def LeadReg (a : Nat) : Prop := ∃ g, a ∈ [shfReg (g / 32) 0x24, chEventA g, pgIrq .shf (g / 32)]

theorem leadReg_leadHeld (g : Nat) (s : State) : RegsBut LeadReg s (leadHeld g s) := by
  by_cases h : (chan s g).lead = .confirmed
  · exact .ofRegs (regs_leadHeld_of_confirmed h)
  · exact ⟨fun a ha => (counted_leadHeld h).others a fun hmem => ha ⟨g, hmem⟩⟩

theorem leadReg_detectorOn (g : Nat) (d : LeadDet) (t : Nat) (s : State) : RegsBut LeadReg s (detectorOn g d t s) := by
  have h : RegsBut LeadReg s (modChan g (detectorJoined d) (leadHeld g (mark g .lead (t - tenUs) none s))) :=
    .trans (.ofRegs (modChan_regs ..)) ((leadReg_leadHeld g _).trans (.ofRegs (modChan_regs ..)))
  exact .ite h (.refl _ s)

/-! ### Registers of an output (R139) -/

/-- The registers of its sheaf that an output's change of mode writes, and those that an entry to HOLD writes. -/
def modeRegs (ss : Nat) : List Nat := [shfReg ss 0x30, shfReg ss 0x144, pgIrq .shf ss]
def holdRegs (ss : Nat) : List Nat := [shfReg ss 0x30, shfReg ss 0x34, shfReg ss 0x144, pgIrq .shf ss]

theorem regsBut_excEvent {P : Nat → Prop} {o : Nat} (b : Nat) (s : State) (he : P (shfReg (o / 4) 0x144)) (hi : P (pgIrq .shf (o / 4))) :
    RegsBut P s (excEvent o b s) := (RegsBut.raise _ _ hi).trans (.setRg _ _ he)

/-- An event of an output that a counter of the sheaf counts. -/
theorem excEvent_bump_regs {o c : Nat} (b : Nat) (s : State) (lo : 0x20 ≤ c) (hi : c < 0x144) :
    rg (excEvent o b (bump (shfReg (o / 4) c) 1 s)) (shfReg (o / 4) c) = word (satAdd 32 (rg s (shfReg (o / 4) c)).toNat 1) ∧
      SameRegs [shfReg (o / 4) c, shfReg (o / 4) 0x144, pgIrq .shf (o / 4)] s (excEvent o b (bump (shfReg (o / 4) c) 1 s)) := by
  refine ⟨?_, ((regsBut_excEvent (P := (· ∈ _)) b _ (by simp) (by simp)).trans (.bump 1 s (by simp))).get⟩
  rw [← rg_bump_self]
  refine (regsBut_excEvent (P := (· ∈ [shfReg (o / 4) 0x144, pgIrq .shf (o / 4)])) b _ (by simp) (by simp)).get _ ?_
  simp only [List.mem_cons, List.not_mem_nil, or_false, not_or, shfReg, pgIrq, pageBase]
  omega

theorem regsBut_setMisSync {P : Nat → Prop} {o : Nat} (s : State) (he : P (shfReg (o / 4) 0x144)) (hi : P (pgIrq .shf (o / 4))) :
    RegsBut P s (setMisSync o s) := by
  unfold setMisSync
  extract_lets m s1
  have h1 : RegsBut P s s1 := .ofRegs rfl
  exact .ite (.refl P s) (.ite ((regsBut_excEvent 5 s1 he hi).trans h1) h1)

/-! ### A change of mode (R127, R129, R131) -/

/-- The conditions that a new mode ends are ended. -/
def quieted (o : Nat) (m : ExcMode) (t : Nat) (s : State) : State := collapseOff o (excQuiet o m t (rampEnd o t s))

/-- An output takes a mode in a frame: the collapse monitor is blanked from there. -/
def modeTaken (m : ExcMode) (ord : Nat) (x : Exc) : Exc :=
  { x with mode := m, blankTo := ord + 16, good := 0, heldAt := if m = .hold then some ord else x.heldAt }

/-- The change of mode with its event, before what an entry to HOLD adds. -/
def modeReported (o : Nat) (m : ExcMode) (t : Nat) (s : State) : State :=
  setMisSync o (excEvent o 0 (bump (shfReg (o / 4) 0x30) 1 (modExc o (modeTaken m (quieted o m t s).ord) (quieted o m t s))))

theorem excMode_eq (o : Nat) (m : ExcMode) (t : Nat) (s : State) : excMode o m t s =
    if m = .hold then exceMark o 4 t (some (t + twentyUs)) (excEvent o 4 (bump (shfReg (o / 4) 0x34) 1 (modeReported o m t s)))
    else modeReported o m t s := rfl

theorem same_quieted (o : Nat) (m : ExcMode) (t : Nat) (s : State) : Same 167837696 s (quieted o m t s) :=
  (same_collapseOff ..).comp ((same_excQuiet ..).comp (same_rampEnd ..))

theorem settingsKept_quieted (o : Nat) (m : ExcMode) (t : Nat) (s : State) : SettingsKept o s (quieted o m t s) :=
  (settingsKept_collapseOff ..).trans ((settingsKept_excQuiet ..).trans (settingsKept_rampEnd ..))

/-- An output has taken a mode: its setpoints stand, and so does every other output. -/
structure ModeEntered (o : Nat) (m : ExcMode) (s t : State) : Prop extends ExcOnly o s t where
  mode : (exc t o).mode = m
  setNow : (exc t o).setNow = (exc s o).setNow
  holdSet : (exc t o).holdSet = (exc s o).holdSet
  outgoing : (exc t o).outgoing = (exc s o).outgoing
  heldAt : (exc t o).heldAt = if m = .hold then some s.ord else (exc s o).heldAt

/-- Monitors and ramp may change after the mode. -/
theorem ModeEntered.followedBy {o : Nat} {m : ExcMode} {s t u : State} (h : ModeEntered o m s t) (k : SettingsKept o t u) : ModeEntered o m s u where
  toExcOnly := k.toExcOnly.trans h.toExcOnly
  mode := k.settings.mode.trans h.mode
  setNow := k.settings.setNow.trans h.setNow
  holdSet := k.settings.holdSet.trans h.holdSet
  outgoing := k.settings.outgoing.trans h.outgoing
  heldAt := k.settings.heldAt.trans h.heldAt

theorem modeEntered_modeTaken (o : Nat) (m : ExcMode) (t : Nat) (s : State) :
    ModeEntered o m s (modExc o (modeTaken m (quieted o m t s).ord) (quieted o m t s)) := by
  have hq := settingsKept_quieted o m t s
  have hord : (quieted o m t s).ord = s.ord := (same_quieted o m t s).ord.resolve_left (by decide)
  refine ⟨(ExcOnly.modExc ..).trans hq.toExcOnly, ?_, ?_, ?_, ?_, ?_⟩ <;> rw [exc_modExc_self]
  · rfl
  · exact hq.settings.setNow
  · exact hq.settings.holdSet
  · exact hq.settings.outgoing
  · rw [modeTaken, hq.settings.heldAt, hord]

theorem modeEntered_excMode (o : Nat) (m : ExcMode) (t : Nat) (s : State) : ModeEntered o m s (excMode o m t s) := by
  have h := (modeEntered_modeTaken o m t s).followedBy ((settingsKept_setMisSync ..).trans (settingsKept_excEvent o 0 (shfReg (o / 4) 0x30) _))
  rw [excMode_eq]
  split
  · exact h.followedBy ((settingsKept_exceMark ..).trans (settingsKept_excEvent ..))
  · exact h

theorem regsBut_modeReported {P : Nat → Prop} {o : Nat} (m : ExcMode) (t : Nat) (s : State) (hc : P (shfReg (o / 4) 0x30))
    (he : P (shfReg (o / 4) 0x144)) (hi : P (pgIrq .shf (o / 4))) : RegsBut P s (modeReported o m t s) :=
  (regsBut_setMisSync _ he hi).trans ((regsBut_excEvent 0 _ he hi).trans ((RegsBut.bump 1 _ hc).trans
    (RegsBut.trans (.ofRegs rfl) (.ofRegs ((same_quieted ..).regs.resolve_left (by decide))))))

theorem excMode_regs {m : ExcMode} (hm : m ≠ .hold) (o t : Nat) (s : State) : SameRegs (modeRegs (o / 4)) s (excMode o m t s) := by
  rw [excMode_eq, if_neg hm]
  exact (regsBut_modeReported (P := (· ∈ modeRegs (o / 4))) m t s (by simp [modeRegs]) (by simp [modeRegs]) (by simp [modeRegs])).get

/-- An entry to HOLD is counted (R139). -/
theorem excMode_hold_regs (o t : Nat) (s : State) :
    rg (excMode o .hold t s) (shfReg (o / 4) 0x34) = word (satAdd 32 (rg s (shfReg (o / 4) 0x34)).toNat 1) ∧
      SameRegs (holdRegs (o / 4)) s (excMode o .hold t s) := by
  have hrep : SameRegs (modeRegs (o / 4)) s (modeReported o .hold t s) :=
    (regsBut_modeReported (P := (· ∈ modeRegs (o / 4))) .hold t s (by simp [modeRegs]) (by simp [modeRegs]) (by simp [modeRegs])).get
  obtain ⟨hcount, hothers⟩ := excEvent_bump_regs (o := o) (c := 0x34) 4 (modeReported o .hold t s) (by decide) (by decide)
  have hmark := rg_congr ((same_exceMark o 4 t (some (t + twentyUs))
    (excEvent o 4 (bump (shfReg (o / 4) 0x34) 1 (modeReported o .hold t s)))).regs.resolve_left (by decide))
  rw [excMode_eq, if_pos rfl]
  refine ⟨?_, fun a ha => ?_⟩
  · rw [hmark, hcount, hrep _ (by simp [modeRegs, shfReg, pgIrq, pageBase])]
  · simp only [holdRegs, List.mem_cons, List.not_mem_nil, or_false, not_or] at ha
    rw [hmark, hothers a (by simp [ha]), hrep a (by simp [modeRegs, ha])]

/-! ### Ramps (R127, R132) -/

theorem excRamp_slow (o t : Nat) (s : State) : excRamp o t true s =
    exceMark o 0 t none (modExc o (fun e => { e with ramp := some t }) (collapseOff o (rampEnd o t s))) := rfl

theorem ramp_excRamp (o t : Nat) (s : State) : (exc (excRamp o t true s) o).ramp = some t := by
  rw [excRamp_slow, exc_congr ((same_exceMark ..).excs.resolve_left (by decide)), exc_modExc_self]

theorem settingsKept_excRamp (o t : Nat) (s : State) : SettingsKept o s (excRamp o t true s) :=
  (settingsKept_exceMark ..).trans (.trans (.modExc _ _ fun _ => ⟨rfl, rfl, rfl, rfl, rfl⟩)
    ((settingsKept_collapseOff ..).trans (settingsKept_rampEnd ..)))

/-- An output enters SHARE over a ramp. -/
def shareRamped (o t : Nat) (s : State) : State := excRamp o t true (excMode o .share t s)

theorem same_shareRamped (o t : Nat) (s : State) : Same 167870480 s (shareRamped o t s) := (same_excRamp ..).comp (same_excMode ..)

theorem modeEntered_shareRamped (o t : Nat) (s : State) : ModeEntered o .share s (shareRamped o t s) :=
  (modeEntered_excMode ..).followedBy (settingsKept_excRamp ..)

theorem shareRamped_regs (o t : Nat) (s : State) : SameRegs (modeRegs (o / 4)) s (shareRamped o t s) := fun a ha =>
  (rg_congr ((same_excRamp ..).regs.resolve_left (by decide)) a).trans (excMode_regs (by decide) o t s a ha)

/-! ### One update of an output's record at an instant -/

theorem same_modExc_advance (o t : Nat) (f : Exc → Exc) (s : State) : Same 33554433 s (modExc o f (advance t s)) :=
  (same_modExc ..).comp (same_advance ..)

theorem exc_modExc_advance_self (o t : Nat) (f : Exc → Exc) (s : State) : exc (modExc o f (advance t s)) o = f (exc s o) := by
  rw [exc_modExc_self, exc_advance]

theorem excOnly_modExc_advance (o t : Nat) (f : Exc → Exc) (s : State) : ExcOnly o s (modExc o f (advance t s)) :=
  (ExcOnly.modExc ..).trans (.ofExcs (advance_excs ..))

/-- What is recorded of an output at an instant, with marks on the channels that depend on it. -/
structure Recorded (o : Nat) (f : Exc → Exc) (s u : State) : Prop extends ExcOnly o s u where
  self : exc u o = f (exc s o)

/-- Nothing but the table of the outputs decides it. -/
theorem recorded_ofExcs {o t : Nat} {f : Exc → Exc} {s u : State} (h : u.excs = (modExc o f (advance t s)).excs) : Recorded o f s u where
  toExcOnly := .trans (.ofExcs h) (excOnly_modExc_advance ..)
  self := by rw [exc_congr h, exc_modExc_advance_self]

theorem recorded_exceEnd (o c t t' : Nat) (f : Exc → Exc) (s : State) : Recorded o f s (exceEnd o c t (modExc o f (advance t' s))) :=
  recorded_ofExcs ((same_exceEnd ..).excs.resolve_left (by decide))

theorem recorded_exceMark (o c t0 t' : Nat) (t1 : Option Nat) (f : Exc → Exc) (s : State) :
    Recorded o f s (exceMark o c t0 t1 (modExc o f (advance t' s))) :=
  recorded_ofExcs ((same_exceMark ..).excs.resolve_left (by decide))

theorem same_exceEnd_modExc (o c t t' : Nat) (f : Exc → Exc) (s : State) : Same 33619969 s (exceEnd o c t (modExc o f (advance t' s))) :=
  (same_exceEnd ..).comp (same_modExc_advance ..)

theorem same_exceMark_modExc (o c t0 t' : Nat) (t1 : Option Nat) (f : Exc → Exc) (s : State) :
    Same 33619969 s (exceMark o c t0 t1 (modExc o f (advance t' s))) :=
  (same_exceMark ..).comp (same_modExc_advance ..)

/-! ### Sense excursions (R129, R132) -/

section

variable {ss k t : Nat} {s : State} (hss : ss < 16) (hk : k < 4)
include hss hk

theorem sense_share (hm : (exc s (4 * ss + k)).mode = .share) (b : Bool) : exec (.senseExcursion ss k b t) s =
    .next (if b then advance t s else holdTrip (4 * ss + k) t (advance t s)) := by
  simp only [exec_senseExcursion, execSenseExcursion, hss, hk, exc_advance, hm, and_self, if_true]

theorem sense_hold (hm : (exc s (4 * ss + k)).mode = .hold) (b : Bool) : exec (.senseExcursion ss k b t) s =
    .next (if b then advance t s else modExc (4 * ss + k) (fun x => { x with good := 0 }) (advance t s)) := by
  simp only [exec_senseExcursion, execSenseExcursion, hss, hk, exc_advance, hm, and_self, if_true]

theorem sense_off (hm : (exc s (4 * ss + k)).mode = .off) (b : Bool) : exec (.senseExcursion ss k b t) s = .next (advance t s) := by
  simp only [exec_senseExcursion, execSenseExcursion, hss, hk, exc_advance, hm, and_self, if_true]

theorem sense_regulate (hm : (exc s (4 * ss + k)).mode = .regulate) (b : Bool) : exec (.senseExcursion ss k b t) s =
    .next (if b then exceEnd (4 * ss + k) 3 t (modExc (4 * ss + k) (fun x => { x with exSense := none }) (advance t s))
      else if (exc s (4 * ss + k)).exSense.isSome then advance t s
      else exceMark (4 * ss + k) 3 t none (modExc (4 * ss + k) (fun x => { x with exSense := some t }) (advance t s))) := by
  simp only [exec_senseExcursion, execSenseExcursion, hss, hk, exc_advance, hm, and_self, if_true]

/-- A sharing output trips to HOLD off the boundary of a swap. -/
theorem sense_share_trips (hm : (exc s (4 * ss + k)).mode = .share) (hswap : swapIn (advance t s) ≠ some (mcAt t)) :
    exec (.senseExcursion ss k false t) s = .next (excHold (4 * ss + k) (mcAt t) (advance t s)) := by
  rw [sense_share hss hk hm, if_neg Bool.false_ne_true, holdTrip, if_pos ⟨by rw [exc_advance, hm], hswap⟩]

/-- In REGULATE the start of a sense excursion is recorded, a later report of the same one keeps it (R132). -/
theorem sense_regulate_records (hm : (exc s (4 * ss + k)).mode = .regulate) :
    ∃ u, exec (.senseExcursion ss k false t) s = .next u ∧ u = { s with c := u.c, excs := u.excs, chans := u.chans } ∧
      Recorded (4 * ss + k) (fun x => { x with exSense := some (x.exSense.getD t) }) s u := by
  have hu := sense_regulate (t := t) hss hk hm false
  rw [if_neg Bool.false_ne_true] at hu
  split at hu
  · next h =>
    obtain ⟨a, ha⟩ := Option.isSome_iff_exists.1 h
    refine ⟨_, hu, ((same_advance t s).mono (m := 33619969) rfl).eq, .ofExcs (advance_excs ..), ?_⟩
    rw [exc_advance, ha, Option.getD_some, ← ha]
  · next h =>
    obtain ⟨honly, hself⟩ := recorded_exceMark (4 * ss + k) 3 t t none (fun x => { x with exSense := some t }) s
    rw [Option.not_isSome_iff_eq_none] at h
    exact ⟨_, hu, (same_exceMark_modExc ..).eq, honly, by rw [hself, h, Option.getD_none]⟩

end

/-- An output enters HOLD at an instant with a setpoint. -/
def heldAtSet (o t : Nat) (f : Exc → Exc) (s : State) : State := excMode o .hold t (modExc o f s)

/-- The setpoint that the holder last reported, and a free one in its place (log entry 198). -/
def reportedSet (x : Exc) : Exc := { x with setNow := x.holdSet }
def freeSet (i : Nat) (x : Exc) : Exc := { x with setNow := (Config.freeWord i).toNat % 65536 }

theorem excHold_of_heard {o : Nat} (t : Nat) {s : State} (h : (exc s o).heard = true) :
    excHold o t s = heldAtSet o t reportedSet s := if_pos h

theorem excHold_of_unheard {o : Nat} (t : Nat) {s : State} (h : (exc s o).heard = false) : excHold o t s =
    heldAtSet o t (freeSet s.freeIdx) { s with freeIdx := s.freeIdx + 1 } :=
  if_neg (by simp [h])

theorem advance_withFreeIdx (t n : Nat) (s : State) : { advance t s with freeIdx := n } = advance t { s with freeIdx := n } := by
  unfold advance
  split <;> rfl

theorem same_heldAtSet (o t : Nat) (f : Exc → Exc) (s : State) : Same 167870480 s (heldAtSet o t f s) :=
  (same_excMode ..).comp (same_modExc ..)

theorem excOnly_heldAtSet (o t : Nat) (f : Exc → Exc) (s : State) : ExcOnly o s (heldAtSet o t f s) :=
  (modeEntered_excMode ..).toExcOnly.trans (.modExc ..)

theorem exc_heldAtSet (o t : Nat) (f : Exc → Exc) (s : State) : (exc (heldAtSet o t f s) o).mode = .hold ∧
    (exc (heldAtSet o t f s) o).setNow = (f (exc s o)).setNow ∧ (exc (heldAtSet o t f s) o).heldAt = some s.ord := by
  have h := modeEntered_excMode o .hold t (modExc o f s)
  exact ⟨h.mode, h.setNow.trans (by rw [exc_modExc_self]), h.heldAt⟩

section

variable {ss k t : Nat} {s : State} (hss : ss < 16) (hk : k < 4) (hm : (exc s (4 * ss + k)).mode = .share)
  (hswap : swapIn (advance t s) ≠ some (mcAt t))
include hss hk hm hswap

/-- Where the holder has reported a SET, an output holds it, and its entry is counted. -/
theorem sense_holds_reported (hheard : (exc s (4 * ss + k)).heard = true) :
    ∃ u, exec (.senseExcursion ss k false t) s = .next u ∧
      u = { s with c := u.c, regs := u.regs, evt := u.evt, excs := u.excs, chans := u.chans, auxs := u.auxs } ∧
      u = heldAtSet (4 * ss + k) (mcAt t) reportedSet (advance t s) ∧
      rg u (shfReg ss 0x34) = word (satAdd 32 (rg s (shfReg ss 0x34)).toNat 1) ∧ SameRegs (holdRegs ss) s u := by
  have hu := sense_share_trips hss hk hm hswap
  rw [excHold_of_heard _ (by rw [exc_advance, hheard])] at hu
  obtain ⟨hcount, hothers⟩ := excMode_hold_regs (4 * ss + k) (mcAt t) (modExc (4 * ss + k) reportedSet (advance t s))
  have hregs := rg_congr ((same_modExc_advance (4 * ss + k) t reportedSet s).regs.resolve_left (by decide))
  rw [show (4 * ss + k) / 4 = ss by omega] at hcount hothers
  exact ⟨_, hu, ((same_heldAtSet ..).comp (same_advance ..)).eq, rfl, hcount.trans (by rw [hregs]),
    fun a ha => (hothers a ha).trans (hregs a)⟩

/-- Where the holder has reported none, an output holds a free value. -/
theorem sense_holds_free (hheard : (exc s (4 * ss + k)).heard = false) :
    exec (.senseExcursion ss k false t) s =
      .next (heldAtSet (4 * ss + k) (mcAt t) (freeSet s.freeIdx) (advance t { s with freeIdx := s.freeIdx + 1 })) := by
  have hfree : (advance t s).freeIdx = s.freeIdx := (same_advance t s).freeIdx.resolve_left (by decide)
  rw [sense_share_trips hss hk hm hswap, excHold_of_unheard _ (by rw [exc_advance, hheard]), hfree, advance_withFreeIdx]

end

/-! ### The monitors of an output (R126, R131, R132) -/

/-- Current limiting and missing headroom, with the instant at which they began. -/
def limited (on : Bool) (t : Nat) (x : Exc) : Exc := { x with ilim := on, exIlim := if on then some t else none }
def crowded (on : Bool) (t : Nat) (x : Exc) : Exc := { x with headroom := on, exHead := if on then some t else none }
def collapsed (x : Exc) : Exc := { x with collapse := true }

section

variable {ss k t : Nat} {s : State} (hss : ss < 16) (hk : k < 4)
include hss hk

theorem excIlim_eq (on : Bool) (hm : (exc s (4 * ss + k)).mode ≠ .off) (hon : (exc s (4 * ss + k)).ilim = !on) :
    exec (.excIlimChange ss k on t) s = .next (if on then
      exceMark (4 * ss + k) 1 t none (excEvent (4 * ss + k) 1 (bump (shfReg ss 0x38) 1 (modExc (4 * ss + k) (limited on t) (advance t s))))
      else exceEnd (4 * ss + k) 1 t (modExc (4 * ss + k) (limited on t) (advance t s))) := by
  rw [exec_excIlimChange, execExcIlimChange, if_pos ⟨hss, hk, hm, by simp [hon]⟩]
  rfl

theorem excHeadroom_eq (on : Bool) (hm : (exc s (4 * ss + k)).mode ≠ .off) (hon : (exc s (4 * ss + k)).headroom = !on) :
    exec (.excHeadroomChange ss k on t) s = .next (if on then
      exceMark (4 * ss + k) 2 t none (excEvent (4 * ss + k) 2 (modExc (4 * ss + k) (crowded on t) (advance t s)))
      else exceEnd (4 * ss + k) 2 t (modExc (4 * ss + k) (crowded on t) (advance t s))) := by
  rw [exec_excHeadroomChange, execExcHeadroomChange, if_pos ⟨hss, hk, hm, by simp [hon]⟩]
  rfl

theorem excIlim_enters (hm : (exc s (4 * ss + k)).mode ≠ .off) (hoff : (exc s (4 * ss + k)).ilim = false) :
    ∃ u, exec (.excIlimChange ss k true t) s = .next u ∧
      u = { s with c := u.c, regs := u.regs, evt := u.evt, excs := u.excs, chans := u.chans } ∧
      Recorded (4 * ss + k) (limited true t) s u ∧ rg u (shfReg ss 0x38) = word (satAdd 32 (rg s (shfReg ss 0x38)).toNat 1) ∧
      SameRegs [shfReg ss 0x38, shfReg ss 0x144, pgIrq .shf ss] s u := by
  have hu := excIlim_eq (t := t) hss hk true hm hoff
  rw [if_pos rfl] at hu
  have hsheaf : (4 * ss + k) / 4 = ss := by omega
  obtain ⟨hcount, hothers⟩ := excEvent_bump_regs (o := 4 * ss + k) (c := 0x38) 1 (modExc (4 * ss + k) (limited true t) (advance t s))
    (by decide) (by decide)
  rw [hsheaf] at hcount hothers
  have hmark := (same_exceMark (4 * ss + k) 1 t none
    (excEvent (4 * ss + k) 1 (bump (shfReg ss 0x38) 1 (modExc (4 * ss + k) (limited true t) (advance t s)))))
  have hbase : (modExc (4 * ss + k) (limited true t) (advance t s)).regs = s.regs :=
    (same_modExc_advance ..).regs.resolve_left (by decide)
  have hregs := rg_congr (hmark.regs.resolve_left (by decide))
  refine ⟨_, hu, ((same_execExcIlimChange ..).get _ hu).eq,
    recorded_ofExcs ((hmark.comp ((same_excEvent ..).comp (same_bump ..))).excs.resolve_left (by decide)), ?_, fun a ha => ?_⟩
  · rw [hregs, hcount, rg_congr hbase]
  · rw [hregs, hothers a ha, rg_congr hbase]

theorem excHeadroom_enters (hm : (exc s (4 * ss + k)).mode ≠ .off) (hoff : (exc s (4 * ss + k)).headroom = false) :
    ∃ u, exec (.excHeadroomChange ss k true t) s = .next u ∧
      u = { s with c := u.c, regs := u.regs, evt := u.evt, excs := u.excs, chans := u.chans } ∧
      Recorded (4 * ss + k) (crowded true t) s u ∧ SameRegs [shfReg ss 0x144, pgIrq .shf ss] s u := by
  have hu := excHeadroom_eq (t := t) hss hk true hm hoff
  rw [if_pos rfl] at hu
  have hsheaf : (4 * ss + k) / 4 = ss := by omega
  have hmark := same_exceMark (4 * ss + k) 2 t none (excEvent (4 * ss + k) 2 (modExc (4 * ss + k) (crowded true t) (advance t s)))
  have hevent : RegsBut (· ∈ [shfReg ss 0x144, pgIrq .shf ss]) s
      (excEvent (4 * ss + k) 2 (modExc (4 * ss + k) (crowded true t) (advance t s))) :=
    (regsBut_excEvent 2 _ (by simp [hsheaf]) (by simp [hsheaf])).trans (.ofRegs ((same_modExc_advance ..).regs.resolve_left (by decide)))
  exact ⟨_, hu, ((same_execExcHeadroomChange ..).get _ hu).eq,
    recorded_ofExcs ((hmark.comp (same_excEvent ..)).excs.resolve_left (by decide)),
    (RegsBut.trans (.ofRegs (hmark.regs.resolve_left (by decide))) hevent).get⟩

/-- The monitor judges a current while it is neither disabled nor blanked. -/
theorem excLoad_judged {i : Nat} (hm : (exc s (4 * ss + k)).mode ≠ .off) (hcoll : af s (excLoadA (4 * ss + k)) 12 4 ≠ 0)
    (hblank : excBlank s (4 * ss + k) = false) : exec (.excLoadCollapse ss k i t) s =
      .next (if 500 ≤ excRef (exc s (4 * ss + k)) ∧ i * 16 < af s (excLoadA (4 * ss + k)) 12 4 * excRef (exc s (4 * ss + k)) then
        if (exc s (4 * ss + k)).collapse then advance t s
        else (excDeps (excEvent (4 * ss + k) 3 (bump (shfReg ss 0x3C) 1 (modExc (4 * ss + k) collapsed (advance t s)))) (4 * ss + k)).foldl
          (fun a g => detectorOn g (.collapse k) t a)
          (excEvent (4 * ss + k) 3 (bump (shfReg ss 0x3C) 1 (modExc (4 * ss + k) collapsed (advance t s))))
        else collapseOff (4 * ss + k) (advance t s)) := by
  rw [exec_excLoadCollapse, execExcLoadCollapse, if_pos ⟨hss, hk, hm, hcoll, hblank⟩]
  simp only [apply_ite Host.Outcome.next]
  rfl

/-- A collapse is counted, and confirms on the channels that depend on the output. -/
theorem excLoad_collapses {i : Nat} (hm : (exc s (4 * ss + k)).mode ≠ .off) (hcoll : af s (excLoadA (4 * ss + k)) 12 4 ≠ 0)
    (hblank : excBlank s (4 * ss + k) = false) (href : 500 ≤ excRef (exc s (4 * ss + k)))
    (hlow : i * 16 < af s (excLoadA (4 * ss + k)) 12 4 * excRef (exc s (4 * ss + k))) (hnot : (exc s (4 * ss + k)).collapse = false) :
    ∃ u, exec (.excLoadCollapse ss k i t) s = .next u ∧
      u = { s with c := u.c, regs := u.regs, evt := u.evt, excs := u.excs, chans := u.chans } ∧
      Recorded (4 * ss + k) collapsed s u ∧ rg u (shfReg ss 0x3C) = word (satAdd 32 (rg s (shfReg ss 0x3C)).toNat 1) := by
  have hu := excLoad_judged (i := i) (t := t) hss hk hm hcoll hblank
  rw [if_pos ⟨href, hlow⟩, if_neg (by simp [hnot])] at hu
  have hsheaf : (4 * ss + k) / 4 = ss := by omega
  obtain ⟨hcount, -⟩ := excEvent_bump_regs (o := 4 * ss + k) (c := 0x3C) 3 (modExc (4 * ss + k) collapsed (advance t s))
    (by decide) (by decide)
  rw [hsheaf] at hcount
  have hsame : Same 33587217 s (excEvent (4 * ss + k) 3 (bump (shfReg ss 0x3C) 1 (modExc (4 * ss + k) collapsed (advance t s)))) :=
    (same_excEvent ..).comp ((same_bump ..).comp (same_modExc_advance ..))
  have hexcs : (excEvent (4 * ss + k) 3 (bump (shfReg ss 0x3C) 1 (modExc (4 * ss + k) collapsed (advance t s)))).excs =
      (modExc (4 * ss + k) collapsed (advance t s)).excs := ((same_excEvent ..).comp (same_bump ..)).excs.resolve_left (by decide)
  generalize excEvent (4 * ss + k) 3 (bump (shfReg ss 0x3C) 1 (modExc (4 * ss + k) collapsed (advance t s))) = y at hu hcount hsame hexcs
  have hdet : Same 98320 y ((excDeps y (4 * ss + k)).foldl (fun a g => detectorOn g (.collapse k) t a) y) :=
    .foldl (.refl ..) fun _ _ => same_detectorOn ..
  have hlead : RegsBut LeadReg y ((excDeps y (4 * ss + k)).foldl (fun a g => detectorOn g (.collapse k) t a) y) :=
    .foldl (fun x g => leadReg_detectorOn g _ t x) _ y
  have hfree : ¬ LeadReg (shfReg ss 0x3C) := by
    rintro ⟨g, hg⟩
    simp only [List.mem_cons, List.not_mem_nil, or_false, shfReg, chEventA, chReg, pgIrq, pageBase] at hg
    omega
  refine ⟨_, hu, (hdet.comp hsame).eq, recorded_ofExcs ((hdet.excs.resolve_left (by decide)).trans hexcs), ?_⟩
  rw [hlead.get _ hfree, hcount, rg_congr ((same_modExc_advance ..).regs.resolve_left (by decide))]

/-- A current that is back ends the collapse. -/
theorem excLoad_recovers {i : Nat} (hm : (exc s (4 * ss + k)).mode ≠ .off) (hcoll : af s (excLoadA (4 * ss + k)) 12 4 ≠ 0)
    (hblank : excBlank s (4 * ss + k) = false) (hhigh : af s (excLoadA (4 * ss + k)) 12 4 * excRef (exc s (4 * ss + k)) ≤ i * 16)
    (hc : (exc s (4 * ss + k)).collapse = true) :
    ∃ u, exec (.excLoadCollapse ss k i t) s = .next u ∧ u = { s with c := u.c, excs := u.excs, chans := u.chans, auxs := u.auxs } ∧
      Recorded (4 * ss + k) (fun x => { x with collapse := false }) s u := by
  have hu := excLoad_judged (i := i) (t := t) hss hk hm hcoll hblank
  rw [if_neg (fun h => absurd h.2 (Nat.not_lt.2 hhigh))] at hu
  have hoff : (exc (advance t s) (4 * ss + k)).collapse = true := by rw [exc_advance, hc]
  exact ⟨_, hu, ((same_collapseOff ..).comp (same_advance ..)).eq,
    recorded_ofExcs ((same_modExc_collapseOff hoff).excs.resolve_left (by decide))⟩

theorem excRampComplete_eq (hr : (exc s (4 * ss + k)).ramp.isSome = true) : exec (.excRampComplete ss k t) s =
    .next (exceEnd (4 * ss + k) 0 t
      (modExc (4 * ss + k) (fun x => { x with ramp := none, blankTo := (advance t s).ord + 16 }) (advance t s))) :=
  (exec_excRampComplete ..).trans (if_pos ⟨hss, hk, hr⟩)

/-! ### SHARE again (R127, R129, R130) -/

theorem holdReturn_eq (hm : (exc s (4 * ss + k)).mode = .hold) (hgood : 16 ≤ (exc s (4 * ss + k)).good)
    (hat : s.ord ≤ (exc s (4 * ss + k)).goodAt + 1) :
    exec (.holdReturnShare ss k t) s = .next (shareRamped (4 * ss + k) (mcAt t) (advance t s)) :=
  (exec_holdReturnShare ..).trans (if_pos ⟨hss, hk, hm, hgood, hat⟩)

end

/-- The outgoing holder's output hands over: its last setpoint counts as the holder's. -/
def handedOver (x : Exc) : Exc := { x with outgoing := false, holdSet := x.setNow, heard := true }

theorem twinDown_congr {s t : State} (hh : t.hub = s.hub) (hl : t.lanes = s.lanes) : twinDown t = twinDown s := by
  unfold twinDown lane
  rw [hh, hl]

/-- With a TWIN lane up an output that enters SHARE stays there. -/
theorem shareHold_of_up {o t : Nat} {s : State} (h : twinDown s = false) : shareHold o t s = s := if_neg (by simp [h])

theorem outgoingShare_eq {ss k t : Nat} {s : State} (hss : ss < 16) (hk : k < 4) (hout : (exc s (4 * ss + k)).outgoing = true)
    (hup : twinDown s = false) : exec (.outgoingShareEntry ss k t) s =
      .next (shareRamped (4 * ss + k) (mcAt t) (modExc (4 * ss + k) handedOver (advance t s))) := by
  have hsame := (same_shareRamped (4 * ss + k) (mcAt t) (modExc (4 * ss + k) handedOver (advance t s))).comp (same_modExc_advance ..)
  have hkept : twinDown (shareRamped (4 * ss + k) (mcAt t) (modExc (4 * ss + k) handedOver (advance t s))) = false :=
    (twinDown_congr (hsame.hub.resolve_left (by decide)) (hsame.lanes.resolve_left (by decide))).trans hup
  have hu : exec (.outgoingShareEntry ss k t) s = .next (shareHold (4 * ss + k) (mcAt t)
      (shareRamped (4 * ss + k) (mcAt t) (modExc (4 * ss + k) handedOver (advance t s)))) :=
    (exec_outgoingShareEntry ..).trans (if_pos ⟨hss, hk, hout⟩)
  rw [hu, shareHold_of_up hkept]

/-- The outgoing holder's output shares from the setpoint at which it regulated (R130). -/
theorem outgoingShare_enters {ss k t : Nat} {s : State} (hss : ss < 16) (hk : k < 4) (hout : (exc s (4 * ss + k)).outgoing = true)
    (hup : twinDown s = false) :
    ∃ u, exec (.outgoingShareEntry ss k t) s = .next u ∧
      u = { s with c := u.c, regs := u.regs, evt := u.evt, excs := u.excs, chans := u.chans, auxs := u.auxs } ∧
      ModeEntered (4 * ss + k) .share (modExc (4 * ss + k) handedOver (advance t s)) u ∧ (exc u (4 * ss + k)).ramp = some (mcAt t) ∧
      ExcOnly (4 * ss + k) s u ∧ SameRegs (modeRegs ss) s u := by
  have hent := modeEntered_shareRamped (4 * ss + k) (mcAt t) (modExc (4 * ss + k) handedOver (advance t s))
  have hregs := shareRamped_regs (4 * ss + k) (mcAt t) (modExc (4 * ss + k) handedOver (advance t s))
  rw [show (4 * ss + k) / 4 = ss by omega] at hregs
  refine ⟨_, outgoingShare_eq hss hk hout hup, ((same_shareRamped ..).comp (same_modExc_advance ..)).eq, hent, ramp_excRamp ..,
    hent.toExcOnly.trans (excOnly_modExc_advance ..), fun a ha => ?_⟩
  rw [hregs a ha, rg_congr ((same_modExc_advance ..).regs.resolve_left (by decide))]

theorem currentExchange_eq {g t : Nat} {s : State} (hon : chOn s g = true) (h3 : af s (chCurrA g) 0 3 = 2)
    (hx : bit (rg s (chCurrA g)) 8 = true) :
    exec (.currentSourceExchange g t) s = .next (modChan g (fun x => { x with swapped := !x.swapped }) (advance t s)) :=
  (exec_currentSourceExchange ..).trans (if_pos (by simp [hon, h3, hx]))

/-- Settles O23: each event by what it leaves of its output's record, of the other outputs and of the sheaf's registers. -/
theorem excitationEvents : Obligations.ExcitationEvents := by
  unfold Obligations.ExcitationEvents
  refine ⟨fun ss k t s hss hk hm hheard hswap => ?_, fun ss k t s hss hk hm hheard hswap => ?_,
    fun ss k t s hss hk hm hswap => ?_, fun ss k t b s hm hss hk => sense_off hss hk hm b, fun ss k t s hss hk hm => ?_,
    fun ss k t s hss hk hm => ?_, fun ss k t s hss hk hm => ?_, fun ss k t s hss hk hm hgood hat => ?_,
    fun ss k t s hss hk hm hoff => ?_, fun ss k t s hss hk hm hon => ?_, fun ss k t s hss hk hm hoff => ?_,
    fun ss k t s hss hk hm hon => ?_, fun ss k i t s hss hk hm hcoll hblank href hlow hnot => ?_,
    fun ss k i t s hss hk hm hcoll hblank hhigh hc => ?_, fun ss k t s hss hk hr => ?_, fun ss k t s hss hk hout hup => ?_,
    fun g t s hon h3 hx => ?_⟩
  · obtain ⟨u, hu, hframe, rfl, hcount, hothers⟩ := sense_holds_reported hss hk hm hswap hheard
    obtain ⟨hmode, hset, hat⟩ := exc_heldAtSet (4 * ss + k) (mcAt t) reportedSet (advance t s)
    exact ⟨_, hu, hframe, hmode, by rw [hset, exc_advance, reportedSet], by rw [hat, advance_ord],
      ((excOnly_heldAtSet ..).trans (.ofExcs (advance_excs ..))).get, hcount, hothers⟩
  · obtain ⟨hmode, hset, -⟩ := exc_heldAtSet (4 * ss + k) (mcAt t) (freeSet s.freeIdx) (advance t { s with freeIdx := s.freeIdx + 1 })
    exact ⟨_, sense_holds_free hss hk hm hswap hheard, ((same_heldAtSet ..).comp (same_advance ..)).eq, hmode, hset,
      ((excOnly_heldAtSet ..).trans (.ofExcs (advance_excs ..))).get⟩
  · rw [sense_share hss hk hm, if_neg Bool.false_ne_true, holdTrip, if_neg (fun h => h.2 hswap)]
  · have hu := sense_hold (t := t) hss hk hm false
    rw [if_neg Bool.false_ne_true] at hu
    exact ⟨_, hu, (same_modExc_advance ..).eq, exc_modExc_advance_self .., (excOnly_modExc_advance ..).get⟩
  · obtain ⟨u, hu, hframe, honly, hself⟩ := sense_regulate_records (t := t) hss hk hm
    obtain ⟨hvonly, hvself⟩ := recorded_exceEnd (4 * ss + k) 3 t t (fun x => { x with exSense := none }) s
    exact ⟨u, _, hu, sense_regulate hss hk hm true, hframe, (same_exceEnd_modExc ..).eq, by rw [hself], by rw [if_pos rfl, hvself],
      by rw [hself]; exact hm, by rw [if_pos rfl, hvself]; exact hm, fun q hq => ⟨honly.get q hq, hvonly.get q hq⟩⟩
  · rcases hm with hm | hm
    · rw [sense_share hss hk hm, if_pos rfl]
    · rw [sense_hold hss hk hm, if_pos rfl]
  · have hu := holdReturn_eq (t := t) hss hk hm hgood hat
    have hent := modeEntered_shareRamped (4 * ss + k) (mcAt t) (advance t s)
    have hregs := shareRamped_regs (4 * ss + k) (mcAt t) (advance t s)
    rw [show (4 * ss + k) / 4 = ss by omega] at hregs
    exact ⟨_, hu, ((same_execHoldReturnShare ..).get _ hu).eq, hent.mode, ramp_excRamp ..,
      (hent.toExcOnly.trans (.ofExcs (advance_excs ..))).get, fun a ha => (hregs a ha).trans (rg_congr (advance_regs t s) a)⟩
  · obtain ⟨u, hu, hframe, ⟨honly, hself⟩, hcount, hothers⟩ := excIlim_enters (t := t) hss hk hm hoff
    exact ⟨u, hu, hframe, hself, honly.get, hcount, hothers⟩
  · have hu := excIlim_eq (t := t) hss hk false hm hon
    obtain ⟨honly, hself⟩ := recorded_exceEnd (4 * ss + k) 1 t t (limited false t) s
    exact ⟨_, hu, (same_exceEnd_modExc ..).eq, hself, honly.get⟩
  · obtain ⟨u, hu, hframe, ⟨honly, hself⟩, hothers⟩ := excHeadroom_enters (t := t) hss hk hm hoff
    exact ⟨u, hu, hframe, hself, honly.get, hothers⟩
  · have hu := excHeadroom_eq (t := t) hss hk false hm hon
    obtain ⟨honly, hself⟩ := recorded_exceEnd (4 * ss + k) 2 t t (crowded false t) s
    exact ⟨_, hu, (same_exceEnd_modExc ..).eq, hself, honly.get⟩
  · obtain ⟨u, hu, hframe, ⟨honly, hself⟩, hcount⟩ := excLoad_collapses (t := t) hss hk hm hcoll hblank href hlow hnot
    exact ⟨u, hu, hframe, hself, honly.get, hcount⟩
  · obtain ⟨u, hu, hframe, honly, hself⟩ := excLoad_recovers (t := t) hss hk hm hcoll hblank hhigh hc
    exact ⟨u, hu, hframe, hself, honly.get⟩
  · have hu := excRampComplete_eq (t := t) hss hk hr
    rw [advance_ord] at hu
    obtain ⟨honly, hself⟩ := recorded_exceEnd (4 * ss + k) 0 t t (fun x => { x with ramp := none, blankTo := s.ord + 16 }) s
    exact ⟨_, hu, (same_exceEnd_modExc ..).eq, hself, honly.get⟩
  · obtain ⟨u, hu, hframe, hent, hramp, honly, hregs⟩ := outgoingShare_enters (t := t) hss hk hout hup
    exact ⟨u, hu, hframe, hent.mode, hent.outgoing.trans (by rw [exc_modExc_self, handedOver]), hramp,
      hent.holdSet.trans (by rw [exc_modExc_advance_self, handedOver]), honly.get, hregs⟩
  · exact ⟨_, currentExchange_eq hon h3 hx, (same_modChan_advance ..).eq, chan_modChan_advance_self ..,
      fun h hne => chan_modChan_advance_ne _ _ _ hne⟩

end Sys2Proof.Machine

/-! SUPPORT. GO on a slot whose request of the same cycle, issued by a repeat, has failed and is no longer pending (R161, R162). -/

namespace Sys2Proof.Machine

open Sys2Proof

theorem exec_auxSlotGo (p : Path) (i : Nat) (s : State) : exec (.auxSlotGo p i) s = execAuxSlotGo p i s := rfl

theorem exec_auxSlotRepeat (i : Nat) (s : State) : exec (.auxSlotRepeat i) s = execAuxSlotRepeat i s := rfl

/-- In the cycle of a repeat issue GO issues nothing, whether the request of that issue is still pending or not. -/
theorem auxSlotGo_of_repeated {p : Path} {i : Nat} {s : State} (hi : i < 16) (hr : running s = true) (hd : directOk s .aux 0 = true)
    (hrep : (slot s i).repAt = some s.c) : exec (.auxSlotGo p i) s = .next s := by
  rw [exec_auxSlotGo, execAuxSlotGo, if_pos hi, direct_of_ok _ hr hd, slotGo, if_pos hrep]

/-- A repeat issue of slot 0, the first of its tick. -/
theorem auxSlotRepeat_first {s : State} (hr : running s = true) : exec (.auxSlotRepeat 0) s = .next (slotRepeat 0 s) := by
  rw [exec_auxSlotRepeat, execAuxSlotRepeat, if_pos (by simp [hr])]
  rfl

/-- A write of AUX_SLOTs_CFG goes by the rules of the slot (R162, R163). -/
theorem registerWrite_slotCfg {p : Path} (w : Word) {s : State} (hon : pathOn s p = true) (hd : directOk s .aux 0 = true) :
    exec (.registerWrite p (slotCfgA 0) w) s = .next (slotCfgWrite 0 w s) := by
  rw [registerWrite_of_pathOn _ w hon, writeReg_of_directOk p w {} (by decide) (by decide) (by decide) (by decide) hd]
  rfl

/-- Converter 0 is available, and slot 0 repeats every frame and is due, on the reserved input 0x3F. -/
def repeatDue : State :=
  { State.reset with
    pwr := { phase := .run }
    dies := [(0, { up := true, trained := true })]
    regs := [(0x1048, 1#32), (pgCtrl .aux 0, 0x100#32), (slotCfgA 0, 0x13F00#32)]
    slots := [(0, { ticks := 1 })] }

/-- The repeat has failed with BAD_PARAM, and the slot has been given the input VEXC, all in one cycle. -/
def repeatRefused : State := slotCfgWrite 0 0x11C00#32 (slotRepeat 0 repeatDue)

/-- The two steps of that cycle: the repeat, and the host's write of AUX_SLOT0_CFG. -/
theorem repeatRefused_reached : ∃ u, exec (.auxSlotRepeat 0) repeatDue = .next u ∧
    exec (.registerWrite .host (slotCfgA 0) 0x11C00#32) u = .next repeatRefused :=
  ⟨_, auxSlotRepeat_first (by decide), registerWrite_slotCfg _ (by decide) (by decide)⟩

/-- Refutes O24: a GO in the cycle of a repeat issue counts as that issue, also where the request it issued has already failed; the
slot is idle then, and the GO queues nothing. -/
theorem not_referencesAndConverters : ¬ Obligations.ReferencesAndConverters := by
  unfold Obligations.ReferencesAndConverters
  rintro ⟨_, _, _, _, hgo, _⟩
  obtain ⟨u, hu, _, hslot, _⟩ := hgo .host 0 repeatRefused (by decide) (by decide) (by decide) (by decide) (by decide) (by decide)
    (by decide)
  have hpass := auxSlotGo_of_repeated (p := .host) (i := 0) (s := repeatRefused) (by decide) (by decide) (by decide) (by decide)
  obtain rfl := Host.Outcome.next.inj (hu.symm.trans hpass)
  have hpending := congrArg (·.go) hslot
  exact absurd hpending (by decide)

end Sys2Proof.Machine

/-! SUPPORT. The coefficient memory: its reads and writes, their refusals, and the sealing of a bank (R176 to R178). -/

namespace Sys2Proof.Machine

open Sys2Proof

theorem exec_fltCdataWrite (p : Path) (ss : Nat) (w : Word) (s : State) :
    exec (.fltCdataWrite p ss w) s = execFltCdataWrite p ss w s := rfl

theorem exec_fltCdataRead (p : Path) (ss : Nat) (s : State) : exec (.fltCdataRead p ss) s = execFltCdataRead p ss s := rfl

theorem exec_fltCsealWrite (p : Path) (ss : Nat) (w : Word) (s : State) :
    exec (.fltCsealWrite p ss w) s = execFltCsealWrite p ss w s := rfl

theorem exec_bankSealResult (ss : Nat) (s : State) : exec (.bankSealResult ss) s = execBankSealResult ss s := rfl

/-! ### FLT_CADDR after an access (R177) -/

theorem rg_caddrNext (ss : Nat) (s : State) : rg (caddrNext ss s) (fltReg ss 0x100) =
    if bit (rg s (fltReg ss 0x100)) 16 then setFld (rg s (fltReg ss 0x100)) 0 8 (af s (fltReg ss 0x100) 0 8 + 1)
    else rg s (fltReg ss 0x100) := by
  unfold caddrNext
  dsimp only
  split
  · exact rg_setRg_self ..
  · rfl

theorem regsBut_caddrNext (ss : Nat) (s : State) : RegsBut (· ∈ [fltReg ss 0x100]) s (caddrNext ss s) :=
  .ite (.setRg _ s (List.mem_singleton_self _)) (.refl _ s)

theorem caddrNext_coef (ss : Nat) (s : State) : (caddrNext ss s).coef = s.coef :=
  (same_caddrNext ss s).coef.resolve_left (by decide)

theorem caddrNext_cbanks (ss : Nat) (s : State) : (caddrNext ss s).cbanks = s.cbanks :=
  (same_caddrNext ss s).cbanks.resolve_left (by decide)

/-! ### Writes of FLT_CDATA and FLT_CSEAL (R177, R178) -/

/-- What R178 answers to a write at the bank that FLT_CADDR names. -/
def caddrRefusal (s : State) (ss : Nat) : Option Nat :=
  bankRefusal s ss (af s (fltReg ss 0x100) 9 2) (bit (rg s (fltReg ss 0x100)) 8)

/-- The state with a coefficient stored at FLT_CADDR, before INDEX advances. -/
def caddrStored (ss : Nat) (w : Word) (s : State) : State := putCoef (caddrIx s ss) (af s (fltReg ss 0x100) 0 8) w s

theorem tget_putCoef_coef (ix n : Nat) (w : Word) (s : State) (i : Nat) :
    tget (0 : Word) (putCoef ix n w s).coef i = if i = 256 * ix + n then w else tget 0 s.coef i := tget_tset ..

theorem putCoef_cbanks (ix n : Nat) (w : Word) (s : State) :
    (putCoef ix n w s).cbanks = tmod {} s.cbanks ix (fun b => { b with loaded := false }) := rfl

section Writes

variable {p : Path} {ss : Nat} {w : Word} {s : State}

theorem cdataWrite_of_free (h : caddrRefusal s ss = none) : cdataWrite ss w s = caddrNext ss (caddrStored ss w s) := by
  unfold caddrRefusal af at h
  simp only [cdataWrite, h]
  rfl

theorem cdataWrite_of_refused {st : Nat} (h : caddrRefusal s ss = some st) : cdataWrite ss w s = pgError .flt ss st s := by
  unfold caddrRefusal af at h
  simp only [cdataWrite, h]

theorem csealWrite_of_free (h : caddrRefusal s ss = none) : csealWrite ss w s =
    { s with sealing := tset [] s.sealing ss (tget [] s.sealing ss ++ [(caddrIx s ss, (w.toNat, rg s (fltReg ss 0x108)))]) } := by
  unfold caddrRefusal af at h
  simp only [csealWrite, h]

theorem csealWrite_of_refused {st : Nat} (h : caddrRefusal s ss = some st) : csealWrite ss w s = pgError .flt ss st s := by
  unfold caddrRefusal af at h
  simp only [csealWrite, h]

theorem fltCdataWrite_of_ok (hs : ss < 16) (hr : running s = true) (hd : directOk s .flt ss = true) :
    exec (.fltCdataWrite p ss w) s = .next (cdataWrite ss w s) := by
  rw [exec_fltCdataWrite, execFltCdataWrite, if_pos hs, direct_of_ok _ hr hd]

theorem fltCsealWrite_of_ok (hs : ss < 16) (hr : running s = true) (hd : directOk s .flt ss = true) :
    exec (.fltCsealWrite p ss w) s = .next (csealWrite ss w s) := by
  rw [exec_fltCsealWrite, execFltCsealWrite, if_pos hs, direct_of_ok _ hr hd]

theorem fltCdataRead_of_running (hs : ss < 16) (hr : running s = true) :
    exec (.fltCdataRead p ss) s = .next { (cdataRead ss s).2 with rd := [(cdataRead ss s).1] } := by
  rw [exec_fltCdataRead, execFltCdataRead, if_pos (by simp [hs, hr])]

end Writes

/-! ### The end of a seal (R177) -/

/-- The state with a seal taken off its queue. -/
def sealTaken (ss : Nat) (l : List (Nat × (Nat × Word))) (s : State) : State := { s with sealing := tset [] s.sealing ss l }

/-- The bank that a successful seal with a descriptor leaves. -/
def sealedBank (k : Word) (crc d : Nat) : CBank :=
  { loaded := true, std := 0, len16 := fld k 4 5, phase := bit k 0, crc := crc, delay := d }

/-- What a seal that succeeds leaves of the state it ends in. -/
def sealDone (ss ix : Nat) (b : CBank) (s : State) : State :=
  bump (fltReg ss 0x24) 1 (raise .flt ss 1 { s with cbanks := tset {} s.cbanks ix b })

/-- What a seal that fails with a status leaves of the state it ends in. -/
def sealFailed (ss st : Nat) (s : State) : State := raise .flt ss 2 (pgError .flt ss st s)

section Seal

variable {ss ix crc d : Nat} {k : Word} {l : List (Nat × (Nat × Word))} {s : State}

theorem sealBank_of_right (h1 : 1 ≤ fld k 4 5) (h16 : fld k 4 5 ≤ 16) (hc : crc32 (bankBytes s ix k) = crc)
    (hd : bankDelay s ix (16 * fld k 4 5) (bit k 0) = some d) : sealBank s ix crc k 0 = (stOk, sealedBank k crc d) := by
  have hlen : ¬ (fld k 4 5 = 0 ∨ 16 < fld k 4 5) := by omega
  simp only [sealBank, hlen, hc, hd, if_false, ne_eq, not_true_eq_false]
  rfl

theorem sealBank_of_crc_ne (h1 : 1 ≤ fld k 4 5) (h16 : fld k 4 5 ≤ 16) (hc : crc32 (bankBytes s ix k) ≠ crc) :
    sealBank s ix crc k 0 = (stChecksum, {}) := by
  have hlen : ¬ (fld k 4 5 = 0 ∨ 16 < fld k 4 5) := by omega
  simp only [sealBank, hlen, hc, if_false, ne_eq, not_false_eq_true, if_true]

/-- The tests of R177 read the coefficients, and nothing of the queue of seals. -/
theorem sealBank_sealTaken (ss : Nat) (l : List (Nat × (Nat × Word))) (s : State) (ix crc : Nat) (k : Word) (std : Nat) :
    sealBank (sealTaken ss l s) ix crc k std = sealBank s ix crc k std := rfl

theorem sealResult_of_ok {b : CBank} (h : sealBank s ix crc k 0 = (stOk, b)) : sealResult ss ix crc k s = sealDone ss ix b s := by
  simp only [sealResult, h, if_true]
  rfl

theorem sealResult_of_failed {st : Nat} {b : CBank} (h : sealBank s ix crc k 0 = (st, b)) (hst : st ≠ stOk) :
    sealResult ss ix crc k s = sealFailed ss st s := by
  simp only [sealResult, h, hst, if_false]
  rfl

theorem bankSealResult_of_waiting (hq : tget [] s.sealing ss = (ix, crc, k) :: l) :
    exec (.bankSealResult ss) s = .next (sealResult ss ix crc k (sealTaken ss l s)) := by
  simp only [exec_bankSealResult, execBankSealResult, hq]
  rfl

theorem bankSealResult_of_ok {b : CBank} (hq : tget [] s.sealing ss = (ix, crc, k) :: l) (h : sealBank s ix crc k 0 = (stOk, b)) :
    exec (.bankSealResult ss) s = .next (sealDone ss ix b (sealTaken ss l s)) := by
  rw [bankSealResult_of_waiting hq, sealResult_of_ok ((sealBank_sealTaken ..).trans h)]

theorem bankSealResult_of_failed {st : Nat} {b : CBank} (hq : tget [] s.sealing ss = (ix, crc, k) :: l)
    (h : sealBank s ix crc k 0 = (st, b)) (hst : st ≠ stOk) :
    exec (.bankSealResult ss) s = .next (sealFailed ss st (sealTaken ss l s)) := by
  rw [bankSealResult_of_waiting hq, sealResult_of_failed ((sealBank_sealTaken ..).trans h) hst]

theorem same_sealDone (ss ix : Nat) (b : CBank) (s : State) : Same 1073774608 s (sealDone ss ix b s) :=
  (same_bump ..).comp ((same_raise ..).comp (upd_cbanks ..))

theorem same_sealFailed (ss st : Nat) (s : State) : Same 32784 s (sealFailed ss st s) := (same_raise ..).comp (same_pgError ..)

theorem sealDone_cbanks (ss ix : Nat) (b : CBank) (s : State) : (sealDone ss ix b s).cbanks = tset {} s.cbanks ix b :=
  ((same_bump ..).comp (same_raise ..)).cbanks.resolve_left (by decide)

theorem regsBut_sealDone (ss ix : Nat) (b : CBank) (s : State) :
    RegsBut (· ∈ [fltReg ss 0x24, pgIrq .flt ss]) s (sealDone ss ix b s) :=
  (RegsBut.bump 1 _ (by simp)).trans ((RegsBut.raise 1 _ (by simp)).trans (.ofRegs rfl))

theorem regsBut_sealFailed (ss st : Nat) (s : State) : RegsBut (· ∈ [pgErr .flt ss, pgIrq .flt ss]) s (sealFailed ss st s) :=
  (RegsBut.raise 2 _ (by simp)).trans (.pgError st s (by simp))

/-- The first error of the page is the failed seal's, whole (R78). -/
theorem rg_sealFailed_of_clear (st : Nat) (h : rg s (pgErr .flt ss) = 0) :
    rg (sealFailed ss st s) (pgErr .flt ss) = word (st * 2 ^ 24 ||| s.frame % 2 ^ 24) := by
  have hne : pgErr .flt ss ≠ pgIrq .flt ss := by simp [pgErr, pgIrq]
  rw [sealFailed, rg_raise_ne _ _ hne, rg_pgError_of_clear st h]

end Seal

/-! ### The statement -/

/-- Settles O25: the writes by what R178 answers, and the end of a seal by the tests of R177. -/
theorem filterBanks : Obligations.FilterBanks := by
  unfold Obligations.FilterBanks
  refine ⟨fun p ss w s hs hr hd hfree => ?write, fun p ss st w s hs hr hd href => ?refused, fun p ss s hs hr => ?read,
    fun p ss w s hs hr hd hfree => ?sealing, fun ss ix crc d k l s hq h1 h16 hc hd => ?sealed,
    fun ss ix crc k l s hq h1 h16 hc => ?failed⟩
  case write =>
    refine ⟨_, fltCdataWrite_of_ok hs hr hd, (same_cdataWrite ss w s).eq, ?_⟩
    rw [cdataWrite_of_free hfree, caddrNext_coef, caddrNext_cbanks, caddrStored, putCoef_cbanks]
    exact ⟨tget_putCoef_coef _ _ w s, tget_tmod_self .., fun i => tget_tmod_ne _ _ _,
      rg_caddrNext ss (caddrStored ss w s), (regsBut_caddrNext ss (caddrStored ss w s)).get⟩
  case refused =>
    exact ⟨(fltCdataWrite_of_ok hs hr hd).trans (congrArg _ (cdataWrite_of_refused href)),
      (fltCsealWrite_of_ok hs hr hd).trans (congrArg _ (csealWrite_of_refused href))⟩
  case read =>
    exact ⟨_, fltCdataRead_of_running hs hr, ((upd_rd ..).comp (same_cdataRead ss s)).eq, rfl, (regsBut_caddrNext ss s).get⟩
  case sealing =>
    exact (fltCsealWrite_of_ok hs hr hd).trans (congrArg _ (csealWrite_of_free hfree))
  case sealed =>
    refine ⟨_, bankSealResult_of_ok hq (sealBank_of_right h1 h16 hc hd), (same_sealDone ss ix _ (sealTaken ss l s)).eq, ?_⟩
    rw [sealDone_cbanks]
    exact ⟨tget_tset_self .., fun i => tget_tset_ne _ _ _, (regsBut_sealDone ss ix _ (sealTaken ss l s)).get⟩
  case failed =>
    exact ⟨_, bankSealResult_of_failed hq (sealBank_of_crc_ne h1 h16 hc) (by decide), (same_sealFailed ss _ (sealTaken ss l s)).eq,
      rg_sealFailed_of_clear (s := sealTaken ss l s) stChecksum, (regsBut_sealFailed ss _ (sealTaken ss l s)).get⟩

end Sys2Proof.Machine

/-! SUPPORT. The tick that makes a step of the timebase, with an offload whose queue spills (R196, R252, R280). -/

namespace Sys2Proof.Machine

open Sys2Proof

theorem exec_timebaseStep (i : TickIn) (s : State) : exec (.timebaseStep i) s = execTimebaseStep i s := rfl

theorem timebaseStep_eq (i : TickIn) {s : State} (hr : running s = true) (hd : stepDue s = true) :
    exec (.timebaseStep i) s = .next (tick i s) := by
  rw [exec_timebaseStep, execTimebaseStep, if_pos (by simp [hr, hd])]

/-! ### The tick that carries a step, in the order of its work -/

/-- The state before the step: the cycle of the tick has come, and the stooks of the frame that ends are closed. -/
def stepReached (i : TickIn) (s : State) : State :=
  let s := tickCycle (cicWords i s).2
  forN 32 (strStep s.ord) s

/-- The step is made and an armed session cancelled; channels and plans are still on the old scale. -/
def stepMade (i : TickIn) (k : StepK) (s : State) : State :=
  let s := stepTime k (stepReached i s)
  stepCancel { s with ord := s.ord + 1 }

/-- By how much the step moves the time. -/
def stepShift (i : TickIn) (k : StepK) (s : State) : Int := netNow (stepTime k (stepReached i s)) - netNow (stepReached i s)

/-- Plans, glean units, events and beacon flashes on the new scale. -/
def stepCarried (s : State) : State :=
  flashStep (evtStep (modTwn (fun x => { x with goRx := none, stepped := x.token && x.next.isSome }) (forN 16 gSkip (forN 8 planStep s))))

/-- TIME_STEP is answered. -/
def stepAnswered (s : State) : State := wakeup .step stOk (leBytes 1 (s.tmb.ser % 16) ++ leBytes 3 0) s

/-- The work of the tick from there to the offloads. -/
def stepServed (i : TickIn) (at_ from_ : Nat) (ws : List StoreIn) (s : State) : State :=
  beforeOffloads i false at_ from_ ws (strStepOpen (netNow s)) (voteTick i (pertTick s))

theorem tickWork_eq (i : TickIn) (sets : Bool) (at_ from_ : Nat) (ws : List StoreIn) (open_ : Nat → State → State) (s : State) :
    tickWork i sets at_ from_ ws open_ s = passTurn (forL i.off offlStep (beforeOffloads i sets at_ from_ ws open_ s)) := rfl

theorem tickStep_eq (i : TickIn) (k : StepK) (s : State) : tickStep i k s = passTurn (forL i.off offlStep
    (stepServed i (localAt s (tickTime s (s.frame + 1))) (min (256 * s.c) (localAt s (tickTime s s.frame)))
      ((cicWords i s).1.map (fun w => { w with tn := w.tn + stepShift i k s }))
      (stepAnswered (stepCarried (stepScale (stepShift i k s) (stepMade i k s)))))) := by
  unfold tickStep
  extract_lets from_ inst r ws s1 s2 t0 s3 d s4 s5 ws' s6 s7 s8 at_
  have hmade : stepMade i k s = s4 := rfl
  have hshift : stepShift i k s = d := rfl
  have hcarried : stepCarried s5 = s7 := rfl
  have hanswered : stepAnswered (stepCarried s5) = s8 := congrArg stepAnswered hcarried
  rw [hmade, hshift]
  change _ = passTurn (forL i.off offlStep (stepServed i inst from_ ws' (stepAnswered (stepCarried s5))))
  rw [hanswered]
  exact tickWork_eq ..

theorem forN_fixed {f : Nat → State → State} {s : State} (h : ∀ i, f i s = s) (n : Nat) : forN n f s = s := by
  have hall (l : List Nat) : l.foldl (fun a i => f i a) s = s := by
    induction l with
    | nil => rfl
    | cons i l ih => rw [List.foldl_cons, h i, ih]
  exact hall (List.range n)

/-- Without a stored word, a draining bank and a channel that gives outputs, nothing moves with the scale (R220). -/
theorem stepScale_of_empty (d : Int) {s : State} (hw : s.dsp.store = []) (hp : s.profs = []) (ht : s.taps = []) :
    stepScale d s = s := by
  have hstore : { s with dsp := { s.dsp with store := s.dsp.store.map (fun e => (e.1, e.2.map (fun w => { w with tn := w.tn + d }))) } } = s := by
    rw [hw, List.map_nil, ← hw]
  have hprof (i : Nat) : prof s i = {} := by unfold prof; rw [hp]; rfl
  have htap (g : Nat) : tap s g = {} := by unfold tap; rw [ht]; rfl
  have hdrain (i : Nat) : (if (prof s i).drains.isEmpty then s
      else modProf i (fun p => { p with drains := p.drains.map (· + d) }) s) = s := by
    rw [hprof]
    rfl
  have htaps (g : Nat) : stepTap d g s = s := by
    rw [stepTap, htap]
    rfl
  rw [stepScale, hstore]
  exact (congrArg (forN 512 (stepTap d)) (forN_fixed hdrain 64)).trans (forN_fixed htaps 512)

/-- The state in which the tick that carries a step serves the offloads, where nothing moves with the scale. -/
def stepOffloading (i : TickIn) (k : StepK) (s : State) : State :=
  stepServed i (localAt s (tickTime s (s.frame + 1))) (min (256 * s.c) (localAt s (tickTime s s.frame)))
    ((cicWords i s).1.map (fun w => { w with tn := w.tn + stepShift i k s })) (stepAnswered (stepCarried (stepMade i k s)))

/-- What comes after the step's own work reaches the words of the memory in the offloads only. -/
theorem words_stepTick {i : TickIn} {k : StepK} {s x : State} {p n : Nat} (hturn : lockTurn (frameExchange s) = x)
    (hstep : x.tmb.step = some k) (hoff : i.off = [(p, (n, []))])
    (hscale : stepScale (stepShift i k x) (stepMade i k x) = stepMade i k x) :
    (tick i s).mem.words = (offlAdmit p false [] (offlRead p n (stepOffloading i k x))).mem.words := by
  have htick : tick i s = passTurn (forL i.off offlStep (stepOffloading i k x)) := by
    rw [tick, hturn, hstep]
    dsimp only
    rw [tickStep_eq, hscale, stepOffloading]
  rw [htick, hoff]
  generalize stepOffloading i k x = y
  exact (same_passTurn (offlStep (p, (n, [])) y)).words.resolve_left (by decide)

/-! ### A step with an offload whose queue spills -/

/-- The hub whose offload spills has a step of its timebase due, by 2^60 units of 2^-64 s. -/
def steppingOffload : State := { spillingOffload with tmb := { step := some (.delta (2 ^ 60)) } }

/-- The state in which the tick with that step admits the segment. -/
def stepSegAdmitting : State := segTaken 0 (offlRead 0 2 (stepOffloading offloadTick (.delta (2 ^ 60)) steppingOffload))

theorem words_tick_steppingOffload : (tick offloadTick steppingOffload).mem.words =
    (spillWrite 1 0 (segOnly 0 segHeld stepSegAdmitting) stepSegAdmitting).mem.words := by
  have hbank : qSpill stepSegAdmitting 0 = 1 := by decide +kernel
  have hwp : (queue stepSegAdmitting 0).wp = 0 := by decide +kernel
  have hturn : lockTurn (frameExchange steppingOffload) = steppingOffload := by decide +kernel
  have hscale := stepScale_of_empty (stepShift offloadTick (.delta (2 ^ 60)) steppingOffload)
    (s := stepMade offloadTick (.delta (2 ^ 60)) steppingOffload) (by decide +kernel) (by decide +kernel) (by decide +kernel)
  rw [words_stepTick (i := offloadTick) (p := 0) (n := 2) hturn rfl rfl hscale,
    words_offlAdmit_one (g := segHeld) (o := { q := 0, compress := false, live := false, rdn := 2 })
      (by decide +kernel) (by decide +kernel) rfl rfl rfl rfl (by decide +kernel) (by decide +kernel) (by decide +kernel),
    ← stepSegAdmitting, hbank, hwp]

/-- The last word of the segment, of value 5, stands in bank 1, where no word stood. -/
theorem stepTick_changes_words : (tick offloadTick steppingOffload).mem.words ≠ steppingOffload.mem.words := by
  intro h
  have hlen : (segOnly 0 segHeld stepSegAdmitting).length / 8 = 6 + 1 := by decide +kernel
  have hlast : leNat (((segOnly 0 segHeld stepSegAdmitting).drop (8 * 6)).take 8) % 2 ^ 64 = 5 := by decide +kernel
  have hw := (memGet_spillWrite_last 1 0 stepSegAdmitting hlen).trans hlast
  rw [memGet, ← words_tick_steppingOffload, h] at hw
  have hfree : ∀ n, tget 0 steppingOffload.mem.words (262144 * 1 + n) = 0 := fun n => if_neg (by omega)
  rw [hfree] at hw
  exact absurd hw (by decide)

/-- Refutes O28: the tick that makes a step serves the offloads too, and a segment that it completes is written to the spill bank of
its queue. -/
theorem not_timebaseAndRoot : ¬ Obligations.TimebaseAndRoot := by
  unfold Obligations.TimebaseAndRoot
  rintro ⟨_, _, _, _, hstep, _⟩
  have hr : running steppingOffload = true := by decide
  have hd : stepDue steppingOffload = true := by decide +kernel
  obtain ⟨t, ht, -, -, -, -, -, -, -, hw, -⟩ := hstep offloadTick steppingOffload hr hd (by decide)
  obtain rfl : tick offloadTick steppingOffload = t := Host.Outcome.next.inj ((timebaseStep_eq offloadTick hr hd).symm.trans ht)
  exact stepTick_changes_words hw

end Sys2Proof.Machine

/-! SUPPORT. A transmit turn with nothing to send (R333, R336). -/

namespace Sys2Proof.Machine

open Sys2Proof

theorem exec_packetTransmit (n t : Nat) (ecc : List MemErr) (s : State) :
    exec (.packetTransmit n t ecc) s = execPacketTransmit n t ecc s := rfl

theorem packetTransmit_eq {n t : Nat} {ecc : List MemErr} {s : State} (h : rxOk s n = true) :
    exec (.packetTransmit n t ecc) s = .next (backDone n (transmit n t ecc (advance t s))) := by
  rw [exec_packetTransmit, execPacketTransmit, if_pos h]

/-- A go-back of which nothing is left ends (R333). -/
theorem backDone_ends {n : Nat} {s : State} (hg : (lane s n).lk.goback = true) (ha : (lane s n).lk.again = [])
    (hq : backQueue s n = none) : (lane (backDone n s) n).lk.goback = false := by
  rw [backDone, if_pos (by simp [hg, ha, hq]), modLk, lane_modLane_self]

/-- Lane 0 is UP and still marked as in a go-back, of which nothing is left to be sent again. -/
def backOver : State :=
  { State.reset with
    pwr := { phase := .run }
    lanes := [(0, { st := .up, lk := { goback := true } })] }

/-- Refutes O39: a transmit turn with nothing to send ends a go-back of which nothing is left, so the lane's record changes in more
than the packet on the wire. -/
theorem not_linkStatusAndTransmit : ¬ Obligations.LinkStatusAndTransmit := by
  unfold Obligations.LinkStatusAndTransmit
  rintro ⟨_, _, _, _, _, _, _, _, _, _, _, _, hidle⟩
  have hup : rxOk backOver 0 = true := by decide
  obtain ⟨u, hu, -, hlane, -⟩ := hidle 0 0 [] backOver hup rfl rfl rfl rfl
  obtain rfl := Host.Outcome.next.inj (hu.symm.trans (packetTransmit_eq hup))
  have hover : (lane (backDone 0 (transmit 0 0 [] (advance 0 backOver))) 0).lk.goback = false :=
    backDone_ends (by decide) (by decide) (by decide)
  have hstill := congrArg (·.lk.goback) hlane
  exact Bool.false_ne_true (hover.symm.trans hstill)

end Sys2Proof.Machine

/-! SUPPORT. TIME_SCHEDULE and the mask of armed events (R214). -/

namespace Sys2Proof.Machine

open Sys2Proof

theorem exec_timeSchedule (p : Path) (tag : Nat) (s : State) : exec (.timeSchedule p tag) s = execTimeSchedule p tag s := rfl

/-- TIME_SCHEDULE of event 0 at network time zero, action 0, no period. -/
def eventAsked : Flight := { path := .host, tag := 1, gen := 0, op := 0x0303, buf := List.replicate 20 0 }

/-- In service, the mask of armed events holds bit 16, beyond the sixteen events. -/
def straySixteen : State :=
  { State.reset with
    pwr := { phase := .run }
    tmb := { evtArm := 2 ^ 16 }
    flight := [eventAsked] }

/-- What drops an event keeps no bit of the mask beyond the sixteen events. -/
theorem evtArmed_evtDrop_beyond (m : Nat) (s : State) {e : Nat} (he : 16 ≤ e) : evtArmed (evtDrop m s) e = false := by
  have hmask : (0xFFFF ^^^ m % 65536) < 2 ^ 16 := Nat.xor_lt_two_pow (by decide) (Nat.mod_lt _ (by decide))
  have hbit : (0xFFFF ^^^ m % 65536).testBit e = false :=
    Nat.testBit_lt_two_pow (hmask.trans_le (Nat.pow_le_pow_right (by decide) he))
  show (s.tmb.evtArm &&& (0xFFFF ^^^ m % 65536)).testBit e = false
  rw [Nat.testBit_and, hbit, Bool.and_false]

theorem timeSchedule_eq {p : Path} {tag : Nat} {f : Flight} {s : State} (h : IsNext p tag 0x0303 f s) (hlen : f.buf.length = 20) :
    exec (.timeSchedule p tag) s = .next (scheduleCmd f s) :=
  command_of_isNext scheduleCmd h (by simp [isLen, hlen])

theorem evtArmed_congr {s t : State} (h : t.tmb = s.tmb) (e : Nat) : evtArmed t e = evtArmed s e := by unfold evtArmed; rw [h]

/-- Event 0 as TIME_SCHEDULE configures it in that state. -/
def strayConfigured : State :=
  setRg 0x320C 0 (setRg 0x3208 0 (setRg 0x3204 0 (setRg 0x3200 0 straySixteen)))

/-- Refutes O56: an instant that is too near drops the event from the mask of armed events, with every bit beyond the sixteen events. -/
theorem not_timeCommands : ¬ Obligations.TimeCommands := by
  unfold Obligations.TimeCommands
  rintro ⟨_, _, _, _, _, _, _, _, _, _, hnear⟩
  have hnext : IsNext .host 1 0x0303 eventAsked straySixteen := ⟨by decide, by decide⟩
  obtain ⟨t, ht, -, harm, -⟩ := hnear .host 1 eventAsked straySixteen hnext rfl (by decide) (by decide) (by decide) (by decide)
    (by decide) (by decide)
  obtain rfl := Host.Outcome.next.inj (ht.symm.trans (timeSchedule_eq hnext rfl))
  have hdrop : scheduleCmd eventAsked straySixteen =
      finish eventAsked stBadParam [] (pgError .tmb 0 stBadParam (evtDrop 1 strayConfigured)) := by decide +kernel
  have hgone : evtArmed (scheduleCmd eventAsked straySixteen) 16 = false := by
    rw [hdrop, evtArmed_congr ((same_finish ..).tmb.resolve_left (by decide)), evtArmed_congr (pgError_tmb ..)]
    exact evtArmed_evtDrop_beyond 1 _ (by decide)
  have hbit : evtArmed straySixteen 16 = true := by decide
  exact Bool.false_ne_true (hgone.symm.trans ((harm 16).trans hbit))

end Sys2Proof.Machine

/-! SUPPORT. Trigger sources and the plans they reach (R240 to R251). -/

namespace Sys2Proof.Machine

open Sys2Proof

theorem exec_acqForceGo (p : Path) (t : Nat) (s : State) : exec (.acqForceGo p t) s = execAcqForceGo p t s := rfl
theorem exec_trigInEdge (n : Nat) (e : PinEdge) (s : State) : exec (.trigInEdge n e) s = execTrigInEdge n e s := rfl
theorem exec_trigPacketReceive (n q : Nat) (k : TrigPkt) (t : Nat) (s : State) :
    exec (.trigPacketReceive n q k t) s = execTrigPacketReceive n q k t s := rfl

/-! ### A loop in which one turn acts -/

theorem foldl_of_fixed {α β : Type} {f : α → β → α} {s : α} {l : List β} (h : ∀ i ∈ l, f s i = s) : l.foldl f s = s := by
  induction l with
  | nil => rfl
  | cons i l ih =>
    rw [List.foldl_cons, h i List.mem_cons_self]
    exact ih (fun k hk => h k (List.mem_cons_of_mem _ hk))

/-- A loop does what turn j does, where the other turns change nothing before it and nothing after it. -/
theorem forN_single {f : Nat → State → State} {n j : Nat} {s : State} (hj : j < n) (hb : ∀ i, i < n → i ≠ j → f i s = s)
    (ha : ∀ i, i < n → i ≠ j → f i (f j s) = f j s) : forN n f s = f j s := by
  obtain ⟨l, m, hlm⟩ := List.append_of_mem (List.mem_range.2 hj)
  have hnd : (l ++ j :: m).Nodup := hlm ▸ List.nodup_range
  have hlt (i : Nat) (hi : i ∈ l ++ j :: m) : i < n := List.mem_range.1 (hlm ▸ hi)
  obtain ⟨-, hm, hdisj⟩ := List.nodup_append.1 hnd
  have hl : l.foldl (fun a i => f i a) s = s := foldl_of_fixed
    (fun i hi => hb i (hlt i (List.mem_append_left _ hi)) (fun e => hdisj i hi j List.mem_cons_self e))
  rw [forN, hlm, List.foldl_append, hl, List.foldl_cons]
  exact foldl_of_fixed (fun i hi => ha i (hlt i (List.mem_append_right _ (List.mem_cons_of_mem _ hi)))
    (fun e => (List.nodup_cons.1 hm).1 (e ▸ hi)))

/-! ### The registers that triggers reach -/

/-- The registers that the judging of triggers can change: counters and causes of page ACQ, and the filter pages. -/
def TrigReg (a : Nat) : Prop := a ∈ [0xD010, 0xD020, 0xD024, 0xD028, 0xD02C] ∨ 0x30000 ≤ a

theorem not_trigReg_of_lt {a : Nat} (h : a < 0x30000) (ha : a ∉ [0xD010, 0xD020, 0xD024, 0xD028, 0xD02C]) : ¬ TrigReg a :=
  fun hr => hr.elim ha (fun hge => absurd h (Nat.not_lt.2 hge))

/-- A plan's own registers are none of them. -/
theorem not_trigReg_cpA {p o : Nat} (hp : p < 8) (ho : o < 0x40) : ¬ TrigReg (cpA p o) := by
  refine not_trigReg_of_lt ?_ ?_
  · unfold cpA; omega
  · simp only [cpA, List.mem_cons, List.not_mem_nil, or_false]
    omega

theorem le_pgIrq_flt (i : Nat) : 0x30000 ≤ pgIrq .flt i := by
  show 0x30000 ≤ 0x30000 + 0x1000 * i + 0x10
  omega

theorem le_fltReg (i o : Nat) : 0x30000 ≤ fltReg i o := by
  unfold fltReg
  omega

theorem regsBut_freeze (p : Nat) (t : Int) (s : State) : RegsBut (0x30000 ≤ ·) s (freeze p t s) := by
  refine RegsBut.forL (fun g x => .ite ?_ (.refl _ _)) _ s
  exact (RegsBut.bump _ _ (le_fltReg ..)).trans ((RegsBut.raise _ _ (le_pgIrq_flt _)).trans (.ofRegs rfl))

theorem regsBut_reject {P : Nat → Prop} {a : Nat} (s : State) (ha : P a) (hirq : P 0xD010) : RegsBut P s (reject a s) :=
  (RegsBut.raise _ _ hirq).trans (.bump _ _ ha)

theorem regsBut_judge (p src : Nat) (t : Int) (s : State) : RegsBut TrigReg s (judge p src t s) := by
  have hrej {a : Nat} (ha : a ∈ [0xD010, 0xD020, 0xD024, 0xD028, 0xD02C]) : RegsBut TrigReg s (reject a s) :=
    regsBut_reject s (.inl ha) (.inl (by decide))
  have hmod (f : Plan → Plan) : RegsBut TrigReg s (raise .acq 0 0 (bump 0xD020 1 (modPlan p f s))) :=
    (RegsBut.raise 0 _ (.inl (by decide))).trans ((RegsBut.bump 1 _ (.inl (by decide))).trans (.ofRegs rfl))
  unfold judge
  dsimp only
  split
  · exact .refl _ _
  · exact hrej (by decide)
  · exact hrej (by decide)
  · refine .ite (hrej (by decide)) (.ite (hrej (by decide)) (.ite (hrej (by decide)) (.ite ?_ (hmod _))))
    exact ((regsBut_freeze p t _).mono (fun _ => .inr)).trans (hmod _)

theorem regsBut_deliver (l : List (Nat × Int)) (s : State) : RegsBut TrigReg s (deliver l s) := by
  refine RegsBut.forN (fun p x => ?_) 8 s
  dsimp only
  split
  · exact regsBut_judge ..
  · exact .refl _ _

theorem srcSend_regs (src : Nat) (t : Int) (s : State) : (srcSend src t s).regs = s.regs :=
  (same_srcSend src t s).regs.resolve_left (by decide)

theorem regsBut_srcsFireAt (l : List (Nat × Int)) (s : State) : RegsBut TrigReg s (srcsFireAt l s) :=
  (RegsBut.forL (fun _ _ => .ofRegs (srcSend_regs ..)) _ _).trans (regsBut_deliver _ s)

/-! ### What a trigger does to the timebase: its pulses -/

/-- Of the timebase only the pulses of the pins have changed, those begun and those to come. -/
structure PinsOnly (s t : State) : Prop where
  tmb : t.tmb = { s.tmb with pulse := t.tmb.pulse, outs := t.tmb.outs }

namespace PinsOnly

variable {s t u : State}

theorem ofTmb (h : t.tmb = s.tmb) : PinsOnly s t := ⟨by rw [h]⟩

theorem refl (s : State) : PinsOnly s s := ofTmb rfl

theorem trans (h : PinsOnly t u) (g : PinsOnly s t) : PinsOnly s u := ⟨by rw [h.tmb, g.tmb]⟩

theorem ite {c : Prop} [Decidable c] (ht : PinsOnly s t) (hu : PinsOnly s u) : PinsOnly s (if c then t else u) := by
  split <;> assumption

end PinsOnly

theorem pinsOnly_trigOut (pin t : Nat) (s : State) : PinsOnly s (trigOut pin t s) := ⟨rfl⟩

theorem pinsOnly_outAt (pin : Nat) (t : Int) (s : State) : PinsOnly s (outAt pin t s) := .ite (pinsOnly_trigOut ..) ⟨rfl⟩

theorem trigSend_tmb (m : Nat) (via : Option (Nat × Nat)) (k : TrigPkt) (s : State) : (trigSend m via k s).tmb = s.tmb :=
  (same_trigSend m via k s).tmb.resolve_left (by decide)

theorem deliver_tmb (l : List (Nat × Int)) (s : State) : (deliver l s).tmb = s.tmb :=
  (same_deliver l s).tmb.resolve_left (by decide)

theorem pinsOnly_srcSend (src : Nat) (t : Int) (s : State) : PinsOnly s (srcSend src t s) := by
  unfold srcSend
  extract_lets p id k x
  have hx : PinsOnly s x := .ite (.ofTmb (trigSend_tmb ..)) (.refl s)
  exact .ite ((PinsOnly.ite (pinsOnly_outAt ..) (pinsOnly_trigOut ..)).trans hx) hx

theorem pinsOnly_srcsFireAt (l : List (Nat × Int)) (s : State) : PinsOnly s (srcsFireAt l s) := by
  have hsend (m : List (Nat × Int)) (x : State) : PinsOnly x (forL m (fun q a => srcSend q.1 q.2 a) x) := by
    induction m generalizing x with
    | nil => exact .refl x
    | cons q m ih => exact (ih _).trans (pinsOnly_srcSend ..)
  exact (hsend _ _).trans (.ofTmb (deliver_tmb ..))

/-! ### One trigger and the one plan that selects it (R249, R250) -/

section

variable {p src : Nat} {t : Int} {s : State}

/-- A single trigger is judged by the plans that select its source. -/
theorem deliver_single (src : Nat) (t : Int) (s : State) :
    deliver [(src, t)] s = forN 8 (fun p a => if bit (rg a (cpA p 0xC)) src then judge p src t a else a) s := by
  unfold deliver
  congr 1
  funext p a
  cases h : bit (rg a (cpA p 0xC)) src <;> simp [h]

theorem deliver_selected (hp : p < 8) (hs : bit (rg s (cpA p 0xC)) src = true)
    (ho : ∀ q, q < 8 → q ≠ p → bit (rg s (cpA q 0xC)) src = false) : deliver [(src, t)] s = judge p src t s := by
  have hjudge : (if bit (rg s (cpA p 0xC)) src then judge p src t s else s) = judge p src t s := if_pos hs
  rw [deliver_single, forN_single hp, hjudge]
  · exact fun q hq hne => if_neg (Bool.not_eq_true _ ▸ ho q hq hne)
  · rw [hjudge]
    intro q hq hne
    refine if_neg ?_
    rw [(regsBut_judge p src t s).get _ (not_trigReg_cpA hq (by decide)), ho q hq hne]
    exact Bool.false_ne_true

/-- A trigger whose window begins before the first index in store is counted in the early misses. -/
theorem judge_early (hst : (plan s p).st = .ready) (h : planIdx s p t < (plan s p).kFirst + planPre s p) :
    judge p src t s = reject 0xD024 s := by
  unfold judge
  simp only [hst, if_pos h]

/-- The plan after it has taken a trigger: its window is fixed (R249). -/
structure Triggered (p src : Nat) (t : Int) (s u : State) : Prop where
  st : (plan u p).st = .post
  trig : (plan u p).trig = t
  tsrc : (plan u p).tsrc = src
  k0 : (plan u p).k0 = planIdx s p t
  k0Mod : (plan u p).k0Mod = gridFirst (planOdr s p) t % planOdr s p
  wEnd : (plan u p).wEnd = planIdx s p t + planPost s p
  others : ∀ q, q ≠ p → plan u q = plan s q
  count : rg u 0xD020 = word (satAdd 32 (rg s 0xD020).toNat 1)

theorem freeze_plans (p : Nat) (t : Int) (s : State) : (freeze p t s).plans = s.plans :=
  (same_freeze p t s).plans.resolve_left (by decide)

/-- A plan that freezes its channels is triggered all the same (R251). -/
theorem Triggered.freezes {u : State} (h : Triggered p src t s u) (c : Bool) : Triggered p src t s (if c then freeze p t u else u) := by
  cases c with
  | false => exact h
  | true =>
    have hplan := plan_congr (freeze_plans p t u)
    show Triggered p src t s (freeze p t u)
    constructor
    case others => exact fun q hq => (hplan q).trans (h.others q hq)
    case count => exact ((regsBut_freeze p t u).get 0xD020 (by decide)).trans h.count
    all_goals rw [hplan]
    exacts [h.st, h.trig, h.tsrc, h.k0, h.k0Mod, h.wEnd]

theorem judge_takes (hst : (plan s p).st = .filling ∨ (plan s p).st = .ready)
    (hlo : (plan s p).kFirst + planPre s p ≤ planIdx s p t) (hold : planNext (plan s p) + planPre s p ≤ planIdx s p t + planS s p)
    (hhi : planIdx s p t < planNext (plan s p) + 64 * planOdr s p) : Triggered p src t s (judge p src t s) := by
  unfold judge
  rcases hst with hst | hst
  all_goals
    simp only [hst, if_neg (Nat.not_lt.2 hlo), if_neg (Nat.not_lt.2 hold), if_neg (Nat.not_le.2 hhi)]
    refine Triggered.freezes ?_ _
    constructor
    case others => exact fun q hq => by rw [plan_raise, plan_bump, plan_modPlan_ne _ _ _ _ hq]
    case count => rw [rg_raise_ne _ _ (by decide), rg_bump_self, rg_modPlan]
    all_goals simp only [plan_raise, plan_bump, plan_modPlan_self]

end

/-! ### A force trigger (R240, R243) -/

/-- A source that does not publish sends nothing at an instant that has come but a pulse on TRIG_OUT. -/
theorem srcSend_unpublished {src : Nat} {t : Int} {s : State} (hp : (srcPub s src).1 = false) (ht : t ≤ netNow s) :
    ∃ w, srcSend src t s = { s with tmb := { s.tmb with pulse := w } } := by
  have hlead : 0 < ns64 2000 := by decide
  have hnow : ¬ netNow s + ns64 2000 ≤ t := by omega
  by_cases hout : (srcPub s src).2.2 = 1 ∨ (srcPub s src).2.2 = 2
  · simp only [srcSend, hp, Bool.false_eq_true, if_false, if_pos hout, if_neg hnow]
    exact ⟨_, rfl⟩
  · simp only [srcSend, hp, Bool.false_eq_true, if_false, if_neg hout]
    exact ⟨_, rfl⟩

theorem srcPub_force_deliver (l : List (Nat × Int)) (s : State) : srcPub (deliver l s) 19 = srcPub s 19 := by
  have hrg : rg (deliver l s) 0xD140 = rg s 0xD140 := (regsBut_deliver l s).get 0xD140 (not_trigReg_of_lt (by decide) (by decide))
  simp only [srcPub, af, hrg, Nat.reduceLT, if_false]

/-- A source that does not publish reaches the plans as itself alone. -/
theorem srcFire_unpublished {src : Nat} {t : Int} {s : State} (hp : (srcPub s src).1 = false) :
    srcFire src t s = srcSend src (t / 2 ^ 16 * 2 ^ 16) (deliver [(src, t / 2 ^ 16 * 2 ^ 16)] s) := by
  simp [srcFire, srcsFire, srcsFireAt, hp, forL]

/-- A force trigger with its instant registers at zero: the plans judge it, then its pulse begins. -/
theorem acqForceGo_delivers {p : Path} {t : Nat} {s : State} (hr : running s = true) (hd : directOk s .acq 0 = true)
    (hz : instRegs s 0xD150 = 0) (hpub : (srcPub s 19).1 = false) :
    ∃ v w, deliver [(19, forceAt t s)] (advance t s) = v ∧
      exec (.acqForceGo p t) s = .next { v with tmb := { s.tmb with pulse := w } } := by
  have hz' : instRegs (advance t s) 0xD150 = 0 := by simpa only [instRegs, rg_advance] using hz
  have hpub' : (srcPub (advance t s) 19).1 = false := by simpa only [srcPub, af, rg_advance] using hpub
  have hnow : netNow (deliver [(19, forceAt t s)] (advance t s)) = netNow (advance t s) := by
    rw [netNow, netTime, deliver_tmb, (same_deliver ..).c.resolve_left (by decide)]
    rfl
  have hpast : forceAt t s ≤ netNow (deliver [(19, forceAt t s)] (advance t s)) := by
    rw [hnow, forceAt]
    omega
  obtain ⟨w, hw⟩ := srcSend_unpublished ((congrArg Prod.fst (srcPub_force_deliver _ _)).trans hpub') hpast
  refine ⟨_, w, rfl, ?_⟩
  rw [exec_acqForceGo, execAcqForceGo, direct_of_ok _ hr hd, forceGo, if_pos hz', srcFire_unpublished hpub', ← forceAt, hw,
    deliver_tmb, advance_tmb]

section

variable {p : Path} {t j : Nat} {s : State} (hr : running s = true) (hd : directOk s .acq 0 = true) (hz : instRegs s 0xD150 = 0)
  (hj : j < 8) (hsel : bit (rg s (cpA j 0xC)) 19 = true) (hone : ∀ q, q < 8 → q ≠ j → bit (rg s (cpA q 0xC)) 19 = false)
  (hpub : (srcPub s 19).1 = false)
include hr hd hz hj hsel hone hpub

/-- A force trigger that one plan selects is judged by that plan. -/
theorem acqForceGo_judged : ∃ c w, exec (.acqForceGo p t) s =
    .next { judge j 19 (forceAt t s) { s with c := c } with tmb := { s.tmb with pulse := w } } := by
  obtain ⟨c, hc⟩ := advance_upd t s
  obtain ⟨v, w, rfl, hexec⟩ := acqForceGo_delivers (p := p) (t := t) hr hd hz hpub
  refine ⟨c, w, ?_⟩
  rw [hexec, hc, deliver_selected (s := { s with c := c }) hj hsel hone]

theorem forceTrigger_takes (hst : (plan s j).st = .filling ∨ (plan s j).st = .ready)
    (hlo : (plan s j).kFirst + planPre s j ≤ planIdx s j (forceAt t s))
    (hold : planNext (plan s j) + planPre s j ≤ planIdx s j (forceAt t s) + planS s j)
    (hhi : planIdx s j (forceAt t s) < planNext (plan s j) + 64 * planOdr s j) :
    ∃ u, exec (.acqForceGo p t) s = .next u ∧
      u = { s with c := u.c, regs := u.regs, evt := u.evt, taps := u.taps, plans := u.plans, tmb := { s.tmb with pulse := u.tmb.pulse } } ∧
      Triggered j 19 (forceAt t s) s u := by
  obtain ⟨c, w, hexec⟩ := acqForceGo_judged (p := p) (t := t) hr hd hz hj hsel hone hpub
  have ht : Triggered j 19 (forceAt t s) { s with c := c } (judge j 19 (forceAt t s) { s with c := c }) :=
    judge_takes hst hlo hold hhi
  have hsame := (same_judge j 19 (forceAt t s) { s with c := c }).eq
  refine ⟨_, hexec, ?_, ht.st, ht.trig, ht.tsrc, ht.k0, ht.k0Mod, ht.wEnd, ht.others, ht.count⟩
  rw [hsame]
  rfl

theorem forceTrigger_early (hst : (plan s j).st = .ready) (h : planIdx s j (forceAt t s) < (plan s j).kFirst + planPre s j) :
    ∃ u, exec (.acqForceGo p t) s = .next u ∧
      u = { s with c := u.c, regs := u.regs, evt := u.evt, tmb := { s.tmb with pulse := u.tmb.pulse } } ∧
      rg u 0xD024 = word (satAdd 32 (rg s 0xD024).toNat 1) ∧ SameRegs [0xD024, pgIrq .acq 0] s u := by
  obtain ⟨c, w, hexec⟩ := acqForceGo_judged (p := p) (t := t) hr hd hz hj hsel hone hpub
  rw [judge_early (s := { s with c := c }) hst h] at hexec
  have hsame := (same_reject 0xD024 { s with c := c }).eq
  have hregs : RegsBut (· ∈ [0xD024, pgIrq .acq 0]) s (reject 0xD024 { s with c := c }) :=
    (regsBut_reject _ (by decide) (by decide)).trans (.ofRegs rfl)
  refine ⟨_, hexec, ?_, ?_, fun a ha => hregs.get a ha⟩
  · rw [hsame]
    rfl
  · exact (rg_raise_ne 4 _ (by decide)).trans (rg_bump_self ..)

end

/-! ### An edge of TRIG_IN (R216) -/

section

variable {n : Nat} {e : PinEdge} {s : State}

theorem trigInEdge_near {x : Nat} (hx : tget none s.tmb.trigLast n = some x) (ht : e.t ≤ x + usTau 1) :
    exec (.trigInEdge n e) s = .next s := by
  rw [exec_trigInEdge, execTrigInEdge, hx]
  simp only [decide_eq_false (Nat.not_lt.2 ht), Bool.and_false, Bool.false_and, Bool.false_eq_true, if_false]

theorem trigInEdge_ignored (h : e.low < 2014 ∨ e.high < 2014 ∨ 2 ≤ n ∨ bit (rg s 0x30B0) n = false ∨ s.jtag.held = true ∨ live s = false) :
    exec (.trigInEdge n e) s = .next s := by
  rw [exec_trigInEdge, execTrigInEdge]
  refine if_neg (fun hall => ?_)
  simp only [Bool.and_eq_true, decide_eq_true_eq, Bool.not_eq_true'] at hall
  obtain ⟨⟨⟨⟨⟨⟨hlive, hheld⟩, hn⟩, hen⟩, -⟩, hlow⟩, hhigh⟩ := hall
  simp only [hlive, hheld, hen, Bool.true_eq_false, Bool.false_eq_true, or_false] at h
  have h20 : ns20 = 2014 := rfl
  omega

/-- The edge is noted and fires its source. -/
theorem trigInEdge_fires (hlive : live s = true) (hheld : s.jtag.held = false) (hn : n < 2) (hen : bit (rg s 0x30B0) n = true)
    (hfirst : tget none s.tmb.trigLast n = none) (hlow : 2014 ≤ e.low) (hhigh : 2014 ≤ e.high) :
    exec (.trigInEdge n e) s = .next (srcFire (16 + n) (netTime s e.t)
      (modTmb (fun x => { x with trigLast := tset none x.trigLast n (some e.t) }) (advance e.t s))) := by
  rw [exec_trigInEdge, execTrigInEdge, hfirst]
  refine if_pos ?_
  simp [hlive, hheld, hn, hen, hlow, hhigh, ns20]

theorem trigInEdge_noted (hlive : live s = true) (hheld : s.jtag.held = false) (hn : n < 2) (hen : bit (rg s 0x30B0) n = true)
    (hfirst : tget none s.tmb.trigLast n = none) (hlow : 2014 ≤ e.low) (hhigh : 2014 ≤ e.high) :
    ∃ u, exec (.trigInEdge n e) s = .next u ∧
      u = { s with c := u.c, regs := u.regs, evt := u.evt, taps := u.taps, plans := u.plans, lanes := u.lanes, dups := u.dups, pubId := u.pubId, tmb := { s.tmb with trigLast := u.tmb.trigLast, pulse := u.tmb.pulse, outs := u.tmb.outs } } ∧
      tget none u.tmb.trigLast n = some e.t ∧ (∀ m, m ≠ n → tget none u.tmb.trigLast m = tget none s.tmb.trigLast m) := by
  obtain ⟨c, hc⟩ := advance_upd e.t s
  refine ⟨_, trigInEdge_fires hlive hheld hn hen hfirst hlow hhigh, ?_⟩
  rw [hc]
  generalize hx : modTmb (fun x => { x with trigLast := tset none x.trigLast n (some e.t) }) { s with c := c } = x
  have hxt : x.tmb = { s.tmb with trigLast := tset none s.tmb.trigLast n (some e.t) } := hx ▸ rfl
  have hsame := (same_srcFire (16 + n) (netTime s e.t) x).eq
  have hpins : PinsOnly x (srcFire (16 + n) (netTime s e.t) x) := pinsOnly_srcsFireAt ..
  generalize srcFire (16 + n) (netTime s e.t) x = u at hsame hpins
  have hlast : u.tmb.trigLast = tset none s.tmb.trigLast n (some e.t) := by rw [hpins.tmb, hxt]
  refine ⟨?_, ?_, fun m hm => ?_⟩
  · rw [hsame, hpins.tmb, hxt, ← hx]
    rfl
  · rw [hlast, tget_tset_self]
  · rw [hlast, tget_tset_ne _ _ _ hm]

end

/-! ### TRIG packets (R245, R330) -/

/-- Of every lane the state, the LSEQ expected and the list of the unacknowledged stand. -/
structure LinkKept (s t : State) : Prop where
  get : ∀ m, (lane t m).st = (lane s m).st ∧ (lane t m).lk.e = (lane s m).lk.e ∧ (lane t m).lk.un = (lane s m).lk.un

namespace LinkKept

variable {s t u : State}

theorem ofLanes (h : t.lanes = s.lanes) : LinkKept s t := by
  have hl (m : Nat) : lane t m = lane s m := by unfold lane; rw [h]
  exact ⟨fun m => by rw [hl m]; exact ⟨rfl, rfl, rfl⟩⟩

theorem refl (s : State) : LinkKept s s := ofLanes rfl

theorem trans (h : LinkKept t u) (g : LinkKept s t) : LinkKept s u := by
  refine ⟨fun m => ?_⟩
  obtain ⟨hst, he, hun⟩ := h.get m
  obtain ⟨gst, ge, gun⟩ := g.get m
  exact ⟨hst.trans gst, he.trans ge, hun.trans gun⟩

theorem ite {c : Prop} [Decidable c] (ht : LinkKept s t) (hu : LinkKept s u) : LinkKept s (if c then t else u) := by
  split <;> assumption

theorem modLk (n : Nat) {f : Lk → Lk} (s : State) (hf : ∀ x, (f x).e = x.e ∧ (f x).un = x.un) : LinkKept s (modLk n f s) := by
  refine ⟨fun m => ?_⟩
  obtain ⟨he, hun⟩ := hf (lane s n).lk
  obtain rfl | hm := eq_or_ne m n
  · rw [Machine.modLk, lane_modLane_self]
    exact ⟨rfl, he, hun⟩
  · rw [Machine.modLk, lane_modLane_ne _ _ _ _ hm]
    exact ⟨rfl, rfl, rfl⟩

end LinkKept

theorem linkKept_sendAck (n : Nat) (s : State) : LinkKept s (sendAck n s) := by
  refine LinkKept.trans (t := ctlSend n { ty := 6 } s) (.modLk n _ (fun _ => ⟨rfl, rfl⟩)) ?_
  exact .ite (.modLk n s (fun _ => ⟨rfl, rfl⟩)) (.refl s)

theorem linkKept_trigSend (m : Nat) (via : Option (Nat × Nat)) (k : TrigPkt) (s : State) : LinkKept s (trigSend m via k s) :=
  forN_rel .refl .trans (fun _ _ _ => .ite (.modLk _ _ (fun _ => ⟨rfl, rfl⟩)) (.refl _)) s

theorem linkKept_deliver (l : List (Nat × Int)) (s : State) : LinkKept s (deliver l s) :=
  .ofLanes ((same_deliver l s).lanes.resolve_left (by decide))

theorem linkKept_trigTake (n : Nat) (k : TrigPkt) (s : State) : LinkKept s (trigTake n k s) := by
  have hgive (x : State) : LinkKept x (modLk n (fun y => { y with freeP := y.freeP + 1 }) x) := .modLk n x (fun _ => ⟨rfl, rfl⟩)
  have hbump (a : Nat) (x : State) : LinkKept x (bump a 1 x) := .ofLanes rfl
  unfold trigTake
  refine .ite ((hgive _).trans (hbump ..)) ?_
  extract_lets y m z
  have hy : LinkKept s y := (linkKept_deliver ..).trans (.ofLanes rfl)
  have hz : LinkKept s z := (hbump ..).trans hy
  exact .ite (.ite ((linkKept_trigSend ..).trans hz) ((hgive _).trans hz)) ((hgive _).trans hy)

theorem laneKept_lseqTaken (n m : Nat) (s : State) :
    (lane (lseqTaken n s) m).st = (lane s m).st ∧ (lane (lseqTaken n s) m).lk.un = (lane s m).lk.un := by
  rw [lseqTaken, modLk, lane_modLane]
  split
  · next h => exact h ▸ ⟨rfl, rfl⟩
  · exact ⟨rfl, rfl⟩

/-- The packet with the LSEQ expected acts on the lane that has accepted it; the ACK follows where it is due. -/
theorem seqRx_expected {n : Nat} (f : State → State) {s : State} (hlt : (lane s n).lk.e < 65536) :
    seqRx n (lane s n).lk.e f s = if af (f (lseqTaken n s)) (lnkReg n 0x100) 0 8 ≤ (lane (f (lseqTaken n s)) n).lk.acc
      then sendAck n (f (lseqTaken n s)) else f (lseqTaken n s) := by
  have hd : ((lane s n).lk.e + 65536 - (lane s n).lk.e % 65536) % 65536 = 0 := by
    rw [Nat.mod_eq_of_lt hlt, Nat.add_sub_cancel_left]
  rw [seqRx]
  dsimp only
  rw [if_pos hd]
  rfl

theorem trigTake_duplicate {n : Nat} {k : TrigPkt} {s : State} (h : (k.origin, k.line % 8, k.id) ∈ s.dups) :
    trigTake n k s = modLk n (fun y => { y with freeP := y.freeP + 1 }) (bump 0xD03C 1 s) := by
  refine if_pos ?_
  rw [List.contains_iff_mem.2 h, Bool.true_or]

theorem trigTake_new {n : Nat} {k : TrigPkt} {s : State} (h : (k.origin, k.line % 8, k.id) ∉ s.dups)
    (hl : (af s 0xD144 16 8).testBit (k.line % 8) = true) :
    (trigTake n k s).dups = ((k.origin, k.line % 8, k.id) :: s.dups).take 256 := by
  have hc : ¬ (s.dups.contains (k.origin, k.line % 8, k.id) || !(af s 0xD144 16 8).testBit (k.line % 8)) = true := by
    simpa [hl] using h
  unfold trigTake
  dsimp only
  rw [if_neg hc]
  have hdel (l : List (Nat × Int)) (x : State) : (deliver l x).dups = x.dups := (same_deliver l x).dups.resolve_left (by decide)
  have hsend (m : Nat) (via : Option (Nat × Nat)) (k : TrigPkt) (x : State) : (trigSend m via k x).dups = x.dups :=
    (same_trigSend m via k x).dups.resolve_left (by decide)
  split
  · split
    · rw [hsend]
      exact hdel ..
    · exact hdel ..
  · exact hdel ..

section

variable {n t : Nat} {k : TrigPkt} {s : State} (hrx : rxOk s n = true)
include hrx

theorem trigPacket_accepted : exec (.trigPacketReceive n (lane s n).lk.e k t) s = .next (seqRx n (lane s n).lk.e (trigTake n k) (advance t s)) := by
  rw [exec_trigPacketReceive, execTrigPacketReceive, if_pos hrx]

variable (he : (lane s n).lk.e < 65536)
include he

/-- A duplicate is counted and its credit returned (R245, R338). -/
theorem trigPacket_duplicate (hdup : (k.origin, k.line % 8, k.id) ∈ s.dups) (hacc : (lane s n).lk.acc + 1 < af s (lnkReg n 0x100) 0 8) :
    ∃ u, exec (.trigPacketReceive n (lane s n).lk.e k t) s = .next u ∧ u = { s with c := u.c, regs := u.regs, lanes := u.lanes } ∧
      lane u n = { lane s n with lk := { (lane s n).lk with e := ((lane s n).lk.e + 1) % 65536, acc := (lane s n).lk.acc + 1, nak := none, freeP := (lane s n).lk.freeP + 1 } } ∧
      (∀ m, m ≠ n → lane u m = lane s m) ∧ rg u 0xD03C = word (satAdd 32 (rg s 0xD03C).toNat 1) ∧ SameRegs [0xD03C] s u := by
  obtain ⟨c, hc⟩ := advance_upd t s
  have htake := trigTake_duplicate (n := n) (s := lseqTaken n { s with c := c }) hdup
  have hlane : lane (trigTake n k (lseqTaken n { s with c := c })) n = { lane s n with lk := { (lane s n).lk with
      e := ((lane s n).lk.e + 1) % 65536, acc := (lane s n).lk.acc + 1, nak := none, freeP := (lane s n).lk.freeP + 1 } } := by
    rw [htake, modLk, lane_modLane_self, lane_bump, lseqTaken, modLk, lane_modLane_self]
    rfl
  have hregs : SameRegs [0xD03C] s (trigTake n k (lseqTaken n { s with c := c })) := by
    intro a ha
    rw [htake, modLk, rg_modLane, rg_bump_ne 1 _ (by simpa using ha), lseqTaken, modLk, rg_modLane]
    rfl
  have hlim : af (trigTake n k (lseqTaken n { s with c := c })) (lnkReg n 0x100) 0 8 = af s (lnkReg n 0x100) 0 8 := by
    unfold af
    rw [hregs _ (by simp only [lnkReg, List.mem_singleton]; omega)]
  have hnoack : ¬ af (trigTake n k (lseqTaken n { s with c := c })) (lnkReg n 0x100) 0 8 ≤
      (lane (trigTake n k (lseqTaken n { s with c := c })) n).lk.acc := by
    rw [hlim, hlane]
    exact Nat.not_le.2 hacc
  have hseq := seqRx_expected (s := { s with c := c }) (trigTake n k) he
  rw [if_neg hnoack] at hseq
  refine ⟨trigTake n k (lseqTaken n { s with c := c }), ?_, ?_, hlane, fun m hm => ?_, ?_, hregs⟩
  · rw [trigPacket_accepted hrx, hc]
    exact congrArg Host.Outcome.next hseq
  · rw [htake]
    rfl
  · rw [htake, modLk, lane_modLane_ne _ _ _ _ hm, lane_bump, lseqTaken, modLk, lane_modLane_ne _ _ _ _ hm]
    rfl
  · rw [htake, modLk, rg_modLane, rg_bump_self, lseqTaken, modLk, rg_modLane]
    rfl

/-- A trigger not seen before is entered and judged; links go on as they stood. -/
theorem trigPacket_new (hnew : (k.origin, k.line % 8, k.id) ∉ s.dups) (hl : (af s 0xD144 16 8).testBit (k.line % 8) = true) :
    ∃ u, exec (.trigPacketReceive n (lane s n).lk.e k t) s = .next u ∧
      u = { s with c := u.c, regs := u.regs, evt := u.evt, taps := u.taps, lanes := u.lanes, plans := u.plans, dups := ((k.origin, k.line % 8, k.id) :: s.dups).take 256 } ∧
      (lane u n).lk.e = ((lane s n).lk.e + 1) % 65536 ∧ (∀ m, (lane u m).st = (lane s m).st ∧ (lane u m).lk.un = (lane s m).lk.un) := by
  obtain ⟨c, hc⟩ := advance_upd t s
  have hdups := trigTake_new (n := n) (s := lseqTaken n { s with c := c }) hnew hl
  have hsame : Same 44049184751632 { s with c := c } (seqRx n (lane s n).lk.e (trigTake n k) { s with c := c }) :=
    same_seqRx rfl (.refl _ _) (fun y => same_trigTake n k y)
  have hseq : seqRx n (lane s n).lk.e (trigTake n k) { s with c := c } = _ := seqRx_expected (s := { s with c := c }) (trigTake n k) he
  have hkept : LinkKept (lseqTaken n { s with c := c }) (seqRx n (lane s n).lk.e (trigTake n k) { s with c := c }) := by
    have htake := linkKept_trigTake n k (lseqTaken n { s with c := c })
    rw [hseq]
    exact .ite ((linkKept_sendAck n _).trans htake) htake
  have hd : (seqRx n (lane s n).lk.e (trigTake n k) { s with c := c }).dups = ((k.origin, k.line % 8, k.id) :: s.dups).take 256 := by
    have hack (x : State) : (sendAck n x).dups = x.dups := (same_sendAck n x).dups.resolve_left (by decide)
    rw [hseq, apply_ite State.dups, hack, ite_self, hdups]
    rfl
  refine ⟨_, (trigPacket_accepted hrx).trans (by rw [hc]), ?_⟩
  generalize seqRx n (lane s n).lk.e (trigTake n k) { s with c := c } = u at hsame hkept hd ⊢
  refine ⟨?_, ?_, fun m => ?_⟩
  · rw [hsame.eq, ← hd]
    rfl
  · rw [(hkept.get n).2.1, lseqTaken, modLk, lane_modLane_self]
    rfl
  · obtain ⟨hst, -, hun⟩ := hkept.get m
    obtain ⟨gst, gun⟩ := laneKept_lseqTaken n m { s with c := c }
    exact ⟨hst.trans gst, hun.trans gun⟩

end

/-- Settles O30: a force trigger and an edge of TRIG_IN go through their one source, a trigger through the one plan that selects
it, and a TRIG packet through the window of its lane. -/
theorem triggersAndPlans : Obligations.TriggersAndPlans := by
  refine ⟨fun p t j s hr hd hz hj hsel hone hpub hst hlo hold hhi => ?_,
    fun p t j s hr hd hz hj hsel hone hpub hst h => forceTrigger_early hr hd hz hj hsel hone hpub hst h,
    fun n e s hlive hheld hn hen hfirst hlow hhigh => trigInEdge_noted hlive hheld hn hen hfirst hlow hhigh,
    fun n x e s hx ht => trigInEdge_near hx ht, fun n e s h => trigInEdge_ignored h,
    fun n t k s hrx he hdup hacc => trigPacket_duplicate hrx he hdup hacc,
    fun n t k s hrx he hnew hl => trigPacket_new hrx he hnew hl⟩
  obtain ⟨u, hexec, hu, h⟩ := forceTrigger_takes (p := p) hr hd hz hj hsel hone hpub hst hlo hold hhi
  exact ⟨u, hexec, hu, h.st, h.trig, h.tsrc, h.k0, h.k0Mod, h.wEnd, h.others, h.count⟩

end Sys2Proof.Machine

/-! SUPPORT. Snapshot, scheduled events and pulse ends (R192, R214 to R216). -/

namespace Sys2Proof.Machine

open Sys2Proof

theorem exec_tmbSnapGo (p : Path) (s : State) : exec (.tmbSnapGo p) s = execTmbSnapGo p s := rfl
theorem exec_tmbEvtArm (p : Path) (w : Word) (s : State) : exec (.tmbEvtArm p w) s = execTmbEvtArm p w s := rfl
theorem exec_tmbEvtDisarm (p : Path) (w : Word) (s : State) : exec (.tmbEvtDisarm p w) s = execTmbEvtDisarm p w s := rfl
theorem exec_timingPulseEnd (pin t : Nat) (s : State) : exec (.timingPulseEnd pin t) s = execTimingPulseEnd pin t s := rfl
theorem exec_scheduledEventFire (e t : Nat) (s : State) : exec (.scheduledEventFire e t) s = execScheduledEventFire e t s := rfl

/-! ### The mask of armed events (R214) -/

theorem evtArmed_evtDrop (m : Nat) (s : State) {e : Nat} (he : e < 16) :
    evtArmed (evtDrop m s) e = (evtArmed s e && !m.testBit e) := by
  have hones : (0xFFFF).testBit e = true := by
    rw [show (0xFFFF : Nat) = 2 ^ 16 - 1 from rfl, Nat.testBit_two_pow_sub_one, decide_eq_true he]
  show (s.tmb.evtArm &&& (0xFFFF ^^^ m % 2 ^ 16)).testBit e = (s.tmb.evtArm.testBit e && !m.testBit e)
  rw [Nat.testBit_and, Nat.testBit_xor, hones, Nat.testBit_mod_two_pow, decide_eq_true he, Bool.true_and, Bool.true_xor]

theorem evtArm1_of_ok {e : Nat} {s : State} (h : evtArmOk s e = true) : evtArm1 e s =
    { s with tmb := { s.tmb with evtArm := s.tmb.evtArm ||| 2 ^ e, evtCnt := tset 0 s.tmb.evtCnt e 0 } } := by
  rw [evtArm1, h]
  rfl

theorem evtArm1_of_not_ok {e : Nat} {s : State} (h : evtArmOk s e = false) :
    evtArm1 e s = pgError .tmb 0 stBadParam (evtDrop (2 ^ e) s) := by
  rw [evtArm1, h]
  rfl

theorem evtDrop_one {e : Nat} (s : State) (he : e < 16) :
    evtDrop (2 ^ e) s = { s with tmb := { s.tmb with evtArm := s.tmb.evtArm &&& (0xFFFF ^^^ 2 ^ e) } } := by
  have hlt : 2 ^ e < 65536 := Nat.pow_lt_pow_right (by decide) he
  unfold evtDrop modTmb
  dsimp only
  rw [Nat.mod_eq_of_lt hlt]

/-! ### Arming several events (R214) -/

/-- The events of a list have been armed, or refused and disarmed. -/
structure Rearmed (l : List Nat) (s t : State) : Prop where
  frame : t = { s with regs := t.regs, tmb := { s.tmb with evtArm := t.tmb.evtArm, evtCnt := t.tmb.evtCnt } }
  regs : SameRegs [pgErr .tmb 0] s t
  armed : ∀ e, e < 16 → evtArmed t e = if e ∈ l then evtArmOk s e else evtArmed s e

namespace Rearmed

variable {l m : List Nat} {s t u : State}

theorem nil (s : State) : Rearmed [] s s := ⟨rfl, fun _ _ => rfl, fun _ _ => rfl⟩

/-- Whether an event can be armed, the arming of others does not change. -/
theorem evtArmOk (h : Rearmed l s t) (e : Nat) : Machine.evtArmOk t e = Machine.evtArmOk s e := by
  have hrg (o : Nat) : rg t (evtCfgA e + o) = rg s (evtCfgA e + o) := by
    refine h.regs _ ?_
    show evtCfgA e + o ∉ [0x3018]
    simp only [evtCfgA, List.mem_singleton]
    omega
  have hbase : evtBase t e = evtBase s e := by simp only [evtBase, hrg]
  have hnow : netNow t = netNow s := by rw [h.frame]; rfl
  unfold Machine.evtArmOk
  rw [hbase, hnow, show rg t (evtCfgA e) = rg s (evtCfgA e) from hrg 0]

theorem append (h : Rearmed m t u) (g : Rearmed l s t) : Rearmed (l ++ m) s u := by
  refine ⟨?_, fun a ha => (h.regs a ha).trans (g.regs a ha), fun e he => ?_⟩
  · rw [h.frame, g.frame]
  · rw [h.armed e he, g.armed e he, g.evtArmOk e]
    by_cases hm : e ∈ m <;> by_cases hl : e ∈ l <;> simp [hm, hl]

end Rearmed

theorem rearmed_evtArm1 (e : Nat) (s : State) : Rearmed [e] s (evtArm1 e s) := by
  cases hok : evtArmOk s e with
  | true =>
    rw [evtArm1_of_ok hok]
    refine ⟨rfl, fun _ _ => rfl, fun k _ => ?_⟩
    show (s.tmb.evtArm ||| 2 ^ e).testBit k = _
    rw [Nat.testBit_or, Nat.testBit_two_pow]
    by_cases hk : k = e
    · simp [hk, hok]
    · simp [hk, Ne.symm hk, evtArmed]
  | false =>
    rw [evtArm1_of_not_ok hok]
    have htmb : (pgError .tmb 0 stBadParam (evtDrop (2 ^ e) s)).tmb = (evtDrop (2 ^ e) s).tmb := pgError_tmb ..
    refine ⟨?_, fun a ha => rg_pgError_ne _ _ (by simpa using ha), fun k hk => ?_⟩
    · rw [htmb]
      exact (same_pgError .tmb 0 stBadParam (evtDrop (2 ^ e) s)).eq
    · rw [evtArmed_congr htmb, evtArmed_evtDrop _ _ hk, Nat.testBit_two_pow]
      by_cases hk : k = e
      · simp [hk, hok]
      · simp [hk, Ne.symm hk]

theorem rearmed_foldl (l : List Nat) (s : State) : Rearmed l s (l.foldl (fun a e => evtArm1 e a) s) := by
  induction l generalizing s with
  | nil => exact .nil s
  | cons e l ih =>
    exact (ih (evtArm1 e s)).append (rearmed_evtArm1 e s)

theorem evtArmW_eq (w : Word) (s : State) : evtArmW w s = ((List.range 16).filter (bit w)).foldl (fun a e => evtArm1 e a) s :=
  List.foldl_filter.symm

theorem bit_word_pow {e k : Nat} (he : e < 32) : bit (word (2 ^ e)) k = decide (k = e) := by
  have h : 2 ^ e < 2 ^ 32 := Nat.pow_lt_pow_right (by decide) he
  rw [bit, word, BitVec.toNat_ofNat, Nat.mod_eq_of_lt h, Nat.testBit_two_pow]
  exact decide_eq_decide.2 eq_comm

/-- A write with one bit set arms one event. -/
theorem evtArmW_one {e : Nat} (s : State) (he : e < 16) : evtArmW (word (2 ^ e)) s = evtArm1 e s := by
  have hone : (List.range 16).filter (bit (word (2 ^ e))) = [e] := by
    rw [List.filter_congr (fun k _ => bit_word_pow (k := k) (he.trans (by decide))), List.filter_eq,
      List.count_eq_one_of_mem List.nodup_range (List.mem_range.2 he), List.replicate_one]
  rw [evtArmW_eq, hone, List.foldl_cons, List.foldl_nil]

section

variable {p : Path} {s : State} (hr : running s = true) (hd : directOk s .tmb 0 = true)
include hr hd

theorem tmbSnapGo_eq : exec (.tmbSnapGo p) s = .next (takeSnap s) := by
  rw [exec_tmbSnapGo, execTmbSnapGo, direct_of_ok _ hr hd]

theorem tmbEvtArm_eq (w : Word) : exec (.tmbEvtArm p w) s = .next (evtArmW w s) := by
  rw [exec_tmbEvtArm, execTmbEvtArm, direct_of_ok _ hr hd]

theorem tmbEvtDisarm_eq (w : Word) : exec (.tmbEvtDisarm p w) s = .next (evtDrop (fld w 0 16) s) := by
  rw [exec_tmbEvtDisarm, execTmbEvtDisarm, direct_of_ok _ hr hd]

end

/-! ### What fires, by the event's action (R214, R215) -/

section

variable {e t : Nat} {late : Bool} {s : State}

/-- An event that has fired is marked, and goes on or is disarmed. -/
def evtNoted (e : Nat) (late : Bool) (s : State) : State := evtStat e late (evtNext e s)

theorem evtNext_regs (e : Nat) (s : State) : (evtNext e s).regs = s.regs := (same_evtNext e s).regs.resolve_left (by decide)

theorem regsBut_evtNoted (e : Nat) (late : Bool) (s : State) : RegsBut (· = 0x3308) s (evtNoted e late s) :=
  (RegsBut.setRg (P := (· = 0x3308)) _ _ rfl).trans (.ofRegs (evtNext_regs e s))

theorem rg_evtCfg_evtNoted (e k : Nat) (late : Bool) (s : State) : rg (evtNoted e late s) (evtCfgA k) = rg s (evtCfgA k) :=
  (regsBut_evtNoted e late s).get _ (by unfold evtCfgA; omega)

theorem srcsFireAt_nil (s : State) : srcsFireAt [] s = s := rfl

/-- In SLEEP an event that does not wake is skipped with LATE. -/
theorem evtFire_skipped (hs : sleeping s = true) (ha : af s (evtCfgA e) 0 4 ≠ 5) :
    evtFire e late t s = evtNext e (setRg 0x3308 (rg s 0x3308 ||| word (2 ^ (16 + e))) s) := by
  rw [evtFire, evtOne, if_pos (by simp [hs, ha])]
  exact srcsFireAt_nil _

/-- An event of ACTION 3 is trigger source 18. -/
theorem evtFire_source (hs : sleeping s = false) (ha : af s (evtCfgA e) 0 4 = 3) :
    evtFire e late t s = srcsFireAt [(18, evtAt s e)] (evtNoted e late s) := by
  have ha' : af (evtNoted e late s) (evtCfgA e) 0 4 = 3 := by rw [af, rg_evtCfg_evtNoted]; exact ha
  rw [evtFire, evtOne, if_neg (by simp [hs])]
  dsimp only
  rw [← evtNoted, if_pos ha']

theorem evtFire_action (hs : sleeping s = false) (ha : af s (evtCfgA e) 0 4 ≠ 3) :
    evtFire e late t s = evtAction e t (evtNoted e late s) := by
  have ha' : af (evtNoted e late s) (evtCfgA e) 0 4 ≠ 3 := by rw [af, rg_evtCfg_evtNoted]; exact ha
  rw [evtFire, evtOne, if_neg (by simp [hs])]
  dsimp only
  rw [← evtNoted, if_neg ha']
  exact srcsFireAt_nil _

end

/-- An armed event whose instant has come fires at that instant (R214). -/
theorem scheduledEventFire_due {e t : Nat} {s : State} (hr : running s = true) (he : e < 16) (ha : evtArmed s e = true)
    (hdue : evtAt s e ≤ netTime s t) :
    exec (.scheduledEventFire e t) s = .next (evtFire e false (localAt s (evtAt s e)) (advance t s)) := by
  rw [exec_scheduledEventFire, execScheduledEventFire, if_pos (by simp [hr, he, ha, hdue])]
  rfl

/-! ### The marks and the mask after a firing -/

/-- The event's FIRED bit is set; a one-shot event is disarmed, a periodic one goes on (R214). -/
structure Fired (e : Nat) (s t : State) : Prop where
  fired : bit (rg t 0x3308) e = true
  once : fld (rg s (evtCfgA e)) 8 24 = 0 → evtArmed t e = false ∧ t.tmb.evtCnt = s.tmb.evtCnt
  again : fld (rg s (evtCfgA e)) 8 24 ≠ 0 → t.tmb.evtArm = s.tmb.evtArm ∧ tget 0 t.tmb.evtCnt e = tget 0 s.tmb.evtCnt e + 1
  others : ∀ k, k < 16 → k ≠ e → evtArmed t k = evtArmed s k
  tmb : t.tmb = { s.tmb with evtArm := t.tmb.evtArm, evtCnt := t.tmb.evtCnt }

/-- What an event's action leaves of the events. -/
structure EvtsKept (s t : State) : Prop where
  stat : rg t 0x3308 = rg s 0x3308
  arm : t.tmb.evtArm = s.tmb.evtArm
  cnt : t.tmb.evtCnt = s.tmb.evtCnt

theorem evtNext_once {e : Nat} {s : State} (h : fld (rg s (evtCfgA e)) 8 24 = 0) : evtNext e s = evtDrop (2 ^ e) s := if_pos h

theorem evtNext_again {e : Nat} {s : State} (h : fld (rg s (evtCfgA e)) 8 24 ≠ 0) : evtNext e s =
    modTmb (fun x => { x with evtCnt := tset 0 x.evtCnt e (tget 0 x.evtCnt e + 1) }) s := if_neg h

theorem bit_evtStat (w : Word) {e : Nat} (he : e < 16) (late : Bool) :
    bit (w ||| word (2 ^ e ||| (if late then 2 ^ (16 + e) else 0))) e = true := by
  rw [bit, word, BitVec.toNat_or, Nat.testBit_or, BitVec.toNat_ofNat, Nat.testBit_mod_two_pow, Nat.testBit_or, Nat.testBit_two_pow_self,
    decide_eq_true (he.trans (by decide)), Bool.true_or, Bool.true_and, Bool.or_true]

theorem fired_evtNoted {e : Nat} (late : Bool) (s : State) (he : e < 16) : Fired e s (evtNoted e late s) := by
  have hbit : bit (rg (evtNoted e late s) 0x3308) e = true := by
    rw [evtNoted, evtStat, rg_setRg_self]
    exact bit_evtStat _ he late
  have htmb : (evtNoted e late s).tmb = (evtNext e s).tmb := rfl
  by_cases hper : fld (rg s (evtCfgA e)) 8 24 = 0
  · rw [evtNext_once hper] at htmb
    have harm (k : Nat) (hk : k < 16) : evtArmed (evtNoted e late s) k = (evtArmed s k && !decide (e = k)) := by
      rw [evtArmed_congr htmb, evtArmed_evtDrop _ _ hk, Nat.testBit_two_pow]
    refine ⟨hbit, fun _ => ⟨?_, by rw [htmb]; rfl⟩, fun h => absurd hper h, fun k hk hne => ?_, by rw [htmb]; rfl⟩
    · simp [harm e he]
    · rw [harm k hk, decide_eq_false (fun h => hne h.symm), Bool.not_false, Bool.and_true]
  · rw [evtNext_again hper] at htmb
    refine ⟨hbit, fun h => absurd h hper, fun _ => ⟨by rw [htmb]; rfl, ?_⟩, fun k _ _ => ?_, by rw [htmb]; rfl⟩
    · rw [htmb]
      exact tget_tset_self 0 s.tmb.evtCnt e (tget 0 s.tmb.evtCnt e + 1)
    · rw [evtArmed_congr htmb]
      rfl

theorem Fired.kept {e : Nat} {s t u : State} (h : Fired e s t) (hk : EvtsKept t u) :
    bit (rg u 0x3308) e = true ∧ (fld (rg s (evtCfgA e)) 8 24 = 0 → evtArmed u e = false) ∧
      (fld (rg s (evtCfgA e)) 8 24 ≠ 0 → u.tmb.evtArm = s.tmb.evtArm ∧ tget 0 u.tmb.evtCnt e = tget 0 s.tmb.evtCnt e + 1) ∧
      (∀ k, k < 16 → k ≠ e → evtArmed u k = evtArmed s k) := by
  have harm (k : Nat) : evtArmed u k = evtArmed t k := by unfold evtArmed; rw [hk.arm]
  refine ⟨hk.stat ▸ h.fired, fun h0 => (harm e).trans (h.once h0).1, fun hp => ?_, fun k hlt hne => (harm k).trans (h.others k hlt hne)⟩
  rw [hk.arm, hk.cnt]
  exact h.again hp

/-! ### What the action of an event leaves of the events -/

theorem evtsKept_trigOut (pin t : Nat) (s : State) : EvtsKept s (trigOut pin t s) := ⟨rfl, rfl, rfl⟩

theorem evtsKept_raise (b : Nat) (s : State) : EvtsKept s (raise .tmb 0 b s) :=
  ⟨rg_raise_ne b s (by decide), by rw [raise_tmb], by rw [raise_tmb]⟩

theorem evtsKept_srcsFireAt (l : List (Nat × Int)) (s : State) : EvtsKept s (srcsFireAt l s) := by
  have hp := (pinsOnly_srcsFireAt l s).tmb
  exact ⟨(regsBut_srcsFireAt l s).get _ (not_trigReg_of_lt (by decide) (by decide)), by rw [hp], by rw [hp]⟩

theorem wakeForget_regs (s : State) : (wakeForget s).regs = s.regs := (same_wakeForget s).regs.resolve_left (by decide)

/-- A hub that is not asleep takes up service without a check of its frame rate. -/
theorem wakeStart_regs (restore : Bool) {s : State} (h : s.pwr.sleep ≠ .asleep) : (wakeStart restore s).regs = s.regs := by
  unfold wakeStart
  extract_lets kept
  have hkept : kept.regs = s.regs := by
    unfold kept
    rw [apply_ite State.regs, wakeForget_regs, ite_self]
  split
  · contradiction
  · exact hkept
  · rfl

theorem regsBut_wakeReq (restore : Bool) {s : State} (h : s.pwr.sleep ≠ .asleep) :
    RegsBut (fun a => a = 0x5024 ∨ a = 0x502C) s (wakeReq restore s) := by
  have hend : RegsBut (fun a => a = 0x5024 ∨ a = 0x502C) s (wakeup .sleep stCancelled [] s) := .wakeup _ _ _ _ (.inl rfl) (.inr rfl)
  have hpwr : (wakeup .sleep stCancelled [] s).pwr = s.pwr := (same_wakeup ..).pwr.resolve_left (by decide)
  unfold wakeReq
  split
  · exact .ite ⟨hend.get⟩ ((RegsBut.ofRegs (wakeStart_regs _ (hpwr ▸ h))).trans hend)
  · contradiction
  · exact .refl _ _

theorem evtsKept_wakeReq (restore : Bool) {s : State} (h : s.pwr.sleep ≠ .asleep) : EvtsKept s (wakeReq restore s) := by
  have htmb : (wakeReq restore s).tmb = s.tmb := (same_wakeReq restore s).tmb.resolve_left (by decide)
  exact ⟨(regsBut_wakeReq restore h).get _ (by decide), by rw [htmb], by rw [htmb]⟩

theorem evtsKept_evtAction (e t : Nat) {s : State} (h : s.pwr.sleep ≠ .asleep) : EvtsKept s (evtAction e t s) := by
  unfold evtAction
  split
  · exact evtsKept_trigOut ..
  · exact evtsKept_trigOut ..
  · exact evtsKept_raise ..
  · exact evtsKept_wakeReq _ h
  · exact ⟨rfl, rfl, rfl⟩

/-- Whatever its action, an event that fires is noted, and its action leaves the note. -/
theorem evtFire_noted (e t : Nat) (late : Bool) {s : State} (hs : sleeping s = false) :
    EvtsKept (evtNoted e late s) (evtFire e late t s) := by
  have hpwr : (evtNoted e late s).pwr = s.pwr := ((same_evtStat ..).comp (same_evtNext ..)).pwr.resolve_left (by decide)
  by_cases ha : af s (evtCfgA e) 0 4 = 3
  · rw [evtFire_source hs ha]
    exact evtsKept_srcsFireAt ..
  · rw [evtFire_action hs ha]
    refine evtsKept_evtAction e t ?_
    rw [hpwr]
    exact of_decide_eq_false hs

/-- An event of ACTION 4 raises its interrupt. -/
theorem evtFire_interrupt {e t : Nat} {late : Bool} {s : State} (hs : sleeping s = false) (ha : af s (evtCfgA e) 0 4 = 4) :
    evtFire e late t s = raise .tmb 0 4 (evtNoted e late s) := by
  have ha' : af (evtNoted e late s) (evtCfgA e) 0 4 = 4 := by rw [af, rg_evtCfg_evtNoted]; exact ha
  have hne : af s (evtCfgA e) 0 4 ≠ 3 := fun h => absurd (ha.symm.trans h) (by decide)
  rw [evtFire_action hs hne, evtAction, ha']
  rfl

theorem evtNext_tmb (e : Nat) (s : State) :
    (evtNext e s).tmb = { s.tmb with evtArm := (evtNext e s).tmb.evtArm, evtCnt := (evtNext e s).tmb.evtCnt } := by
  by_cases hper : fld (rg s (evtCfgA e)) 8 24 = 0
  · rw [evtNext_once hper]
    rfl
  · rw [evtNext_again hper]
    rfl

/-! ### The obligation's clauses -/

section

variable {p : Path} {e : Nat} {s : State} (hr : running s = true) (hd : directOk s .tmb 0 = true)
include hr hd

theorem tmbEvtArm_refused (he : e < 16) (hok : evtArmOk s e = false) :
    ∃ u, exec (.tmbEvtArm p (word (2 ^ e))) s = .next u ∧
      u = { s with regs := u.regs, tmb := { s.tmb with evtArm := s.tmb.evtArm &&& (0xFFFF ^^^ 2 ^ e) } } ∧
      (rg s (pgErr .tmb 0) = 0 → rg u (pgErr .tmb 0) = word (2 * 2 ^ 24 ||| s.frame % 2 ^ 24)) ∧ SameRegs [pgErr .tmb 0] s u := by
  have hexec := tmbEvtArm_eq (p := p) hr hd (word (2 ^ e))
  rw [evtArmW_one s he, evtArm1_of_not_ok hok, evtDrop_one s he] at hexec
  generalize hx : { s with tmb := { s.tmb with evtArm := s.tmb.evtArm &&& (0xFFFF ^^^ 2 ^ e) } } = x at hexec
  have hsame := (same_pgError .tmb 0 stBadParam x).eq
  have hrg (a : Nat) : rg x a = rg s a := hx ▸ rfl
  have hframe : x.frame = s.frame := hx ▸ rfl
  refine ⟨_, hexec, ?_, fun h0 => ?_, fun a ha => ?_⟩
  · rw [hsame, ← hx]
    rfl
  · rw [rg_pgError_of_clear _ ((hrg _).trans h0), hframe]
    rfl
  · rw [rg_pgError_ne _ _ (by simpa using ha), hrg]

theorem tmbEvtArm_several (w : Word) :
    ∃ u, exec (.tmbEvtArm p w) s = .next u ∧
      u = { s with regs := u.regs, tmb := { s.tmb with evtArm := u.tmb.evtArm, evtCnt := u.tmb.evtCnt } } ∧ SameRegs [pgErr .tmb 0] s u ∧
      ∀ e, e < 16 → evtArmed u e = (if bit w e then evtArmOk s e else evtArmed s e) := by
  have h := rearmed_foldl ((List.range 16).filter (bit w)) s
  rw [← evtArmW_eq] at h
  refine ⟨_, tmbEvtArm_eq hr hd w, h.frame, h.regs, fun e he => ?_⟩
  rw [h.armed e he]
  simp only [List.mem_filter, List.mem_range, he, true_and]

end

/-- A pulse whose end has come leaves its pin (R203, R216). -/
theorem timingPulseEnd_leaves {pin t a b : Nat} {s : State} (hl : live s = true) (hp : tget [] s.tmb.pulse pin = [(a, b)]) (hb : b ≤ t) :
    ∃ u, exec (.timingPulseEnd pin t) s = .next u ∧ u = { s with c := u.c, tmb := { s.tmb with pulse := u.tmb.pulse } } ∧
      tget [] u.tmb.pulse pin = [] ∧ (∀ q, q ≠ pin → tget [] u.tmb.pulse q = tget [] s.tmb.pulse q) := by
  obtain ⟨c, hc⟩ := advance_upd t s
  have hend : (live s && (tget [] s.tmb.pulse pin).any (fun p => decide (p.2 ≤ t))) = true := by simp [hl, hp, hb]
  have hgone : (tget [] s.tmb.pulse pin).filter (fun p => !decide (p.2 ≤ t)) = [] := by simp [hp, hb]
  refine ⟨_, by rw [exec_timingPulseEnd, execTimingPulseEnd, if_pos hend, hc], rfl, ?_, fun q hq => tget_tset_ne [] s.tmb.pulse _ hq⟩
  exact (tget_tset_self [] s.tmb.pulse pin _).trans hgone

section

variable {e t : Nat} {s : State} (hr : running s = true) (he : e < 16) (ha : evtArmed s e = true) (hdue : evtAt s e ≤ netTime s t)
include hr he ha hdue

/-- An event fires whatever its action (R214, R215). -/
theorem scheduledEvent_fires (hs : sleeping s = false) :
    ∃ u, exec (.scheduledEventFire e t) s = .next u ∧ bit (rg u 0x3308) e = true ∧ u.mem.words = s.mem.words ∧ u.frame = s.frame ∧
      (fld (rg s (evtCfgA e)) 8 24 = 0 → evtArmed u e = false) ∧
      (fld (rg s (evtCfgA e)) 8 24 ≠ 0 → evtArmed u e = true ∧ tget 0 u.tmb.evtCnt e = tget 0 s.tmb.evtCnt e + 1) ∧
      (∀ k, k < 16 → k ≠ e → evtArmed u k = evtArmed s k) := by
  obtain ⟨c, hc⟩ := advance_upd t s
  have hexec := scheduledEventFire_due hr he ha hdue
  rw [hc] at hexec
  have hkept := evtFire_noted e (localAt s (evtAt s e)) false (s := { s with c := c }) hs
  have hsame := same_evtFire e false (localAt s (evtAt s e)) { s with c := c }
  generalize evtFire e false (localAt s (evtAt s e)) { s with c := c } = u at hexec hkept hsame
  obtain ⟨hfired, honce, hagain, hothers⟩ := (fired_evtNoted false { s with c := c } he).kept hkept
  refine ⟨u, hexec, hfired, hsame.words.resolve_left (by decide), hsame.frame.resolve_left (by decide), honce, fun hp => ?_, hothers⟩
  obtain ⟨harm, hcnt⟩ := hagain hp
  refine ⟨?_, hcnt⟩
  unfold evtArmed
  rw [harm]
  exact ha

/-- An event of ACTION 4 fires with its interrupt alone. -/
theorem scheduledEvent_interrupts (hs : sleeping s = false) (hact : af s (evtCfgA e) 0 4 = 4) :
    ∃ u, exec (.scheduledEventFire e t) s = .next u ∧ u = { s with c := u.c, regs := u.regs, evt := u.evt, tmb := u.tmb } ∧
      bit (rg u 0x3308) e = true ∧ bit (rg u 0x3010) 4 = true ∧ SameRegs [0x3308, 0x3010] s u ∧
      u.tmb = { s.tmb with evtArm := u.tmb.evtArm, evtCnt := u.tmb.evtCnt } ∧
      (fld (rg s (evtCfgA e)) 8 24 = 0 → evtArmed u e = false ∧ u.tmb.evtCnt = s.tmb.evtCnt) ∧
      (fld (rg s (evtCfgA e)) 8 24 ≠ 0 → u.tmb.evtArm = s.tmb.evtArm ∧ tget 0 u.tmb.evtCnt e = tget 0 s.tmb.evtCnt e + 1) := by
  obtain ⟨c, hc⟩ := advance_upd t s
  have hexec := scheduledEventFire_due hr he ha hdue
  rw [hc, evtFire_interrupt (s := { s with c := c }) hs hact] at hexec
  have hfired := fired_evtNoted false { s with c := c } he
  have hregs := (regsBut_evtNoted e false { s with c := c }).get
  have hsame := (same_evtStat e false (evtNext e { s with c := c })).comp (same_evtNext e { s with c := c })
  rw [← evtNoted] at hsame
  generalize evtNoted e false { s with c := c } = x at hexec hfired hregs hsame
  have htmb : (raise .tmb 0 4 x).tmb = x.tmb := raise_tmb ..
  have hframe := ((same_raise .tmb 0 4 x).comp hsame).eq
  refine ⟨_, hexec, ?_, ?_, bit_raise .tmb 0 x (by decide), fun a hout => ?_, ?_, ?_, ?_⟩
  · rw [hframe]
    rfl
  · rw [rg_raise_ne _ _ (by decide)]
    exact hfired.fired
  · simp only [List.mem_cons, List.not_mem_nil, or_false, not_or] at hout
    exact (rg_raise_ne _ _ hout.2).trans (hregs a hout.1)
  · rw [htmb]
    exact hfired.tmb
  · rw [evtArmed_congr htmb, htmb]
    exact hfired.once
  · rw [htmb]
    exact hfired.again

/-- In SLEEP an event that does not wake is skipped with LATE (R215). -/
theorem scheduledEvent_skipped (hs : sleeping s = true) (hact : af s (evtCfgA e) 0 4 ≠ 5) :
    ∃ u, exec (.scheduledEventFire e t) s = .next u ∧ u = { s with c := u.c, regs := u.regs, tmb := u.tmb } ∧
      rg u 0x3308 = rg s 0x3308 ||| word (2 ^ (16 + e)) ∧ SameRegs [0x3308] s u ∧
      u.tmb = { s.tmb with evtArm := u.tmb.evtArm, evtCnt := u.tmb.evtCnt } := by
  obtain ⟨c, hc⟩ := advance_upd t s
  have hexec := scheduledEventFire_due hr he ha hdue
  rw [hc, evtFire_skipped (s := { s with c := c }) hs hact] at hexec
  generalize hx : setRg 0x3308 (rg { s with c := c } 0x3308 ||| word (2 ^ (16 + e))) { s with c := c } = x at hexec
  have hsame := (same_evtNext e x).eq
  have hregs := evtNext_regs e x
  refine ⟨_, hexec, ?_, ?_, fun a hout => ?_, ?_⟩
  · rw [hsame, ← hx]
    rfl
  · rw [rg_congr hregs, ← hx, rg_setRg_self]
    rfl
  · rw [rg_congr hregs, ← hx, rg_setRg_ne _ _ (by simpa using hout)]
    rfl
  · have htmb : x.tmb = s.tmb := hx ▸ rfl
    rw [← htmb]
    exact evtNext_tmb e x

end

/-- Settles O29: events are armed one after another, each from its own registers, and what a firing event does leaves its note. -/
theorem timedEvents : Obligations.TimedEvents := by
  refine ⟨fun p s hr hd => ?_, fun p e s he hr hd hok => ?_, fun p e s he hr hd hok => tmbEvtArm_refused hr hd he hok,
    fun p w s hr hd => tmbEvtArm_several hr hd w, fun p w s hr hd => ?_, fun pin t a b s hl hp hb => timingPulseEnd_leaves hl hp hb,
    fun e t s hr he ha hdue hs hact => scheduledEvent_interrupts hr he ha hdue hs hact,
    fun e t s hr he ha hdue hs => scheduledEvent_fires hr he ha hdue hs,
    fun e t s hr he ha hdue hs hact => scheduledEvent_skipped hr he ha hdue hs hact⟩
  · rw [tmbSnapGo_eq hr hd]
    rfl
  · rw [tmbEvtArm_eq hr hd, evtArmW_one s he, evtArm1_of_ok hok]
  · have hmod : fld w 0 16 % 65536 = fld w 0 16 := Nat.mod_mod ..
    rw [tmbEvtDisarm_eq hr hd, evtDrop, hmod]
    rfl

end Sys2Proof.Machine
